-- ==== Sys2Proof/Word.lean ====
section
/-! DEFINITION. The word types of the device: bytes, 32-bit registers (R4) and 64-bit registers (R7). -/
namespace Sys2Proof

/-- A byte of a frame, a descriptor or host memory. -/
abbrev Byte := BitVec 8

/-- A 32-bit register. -/
abbrev Word := BitVec 32

/-- A 64-bit register. -/
abbrev DWord := BitVec 64

/-- The two PCIe host ports (R70). -/
inductive HostPort
  | ha
  | hb
  deriving DecidableEq, Repr

/-- The other host port. -/
def HostPort.peer : HostPort → HostPort
  | .ha => .hb
  | .hb => .ha

/-- Who writes a test register: a host port, or a tester through the high-speed test access port (R585), for whom the number
of a port means the lane of that number. -/
inductive Writer
  | host (p : HostPort)
  | tester
  deriving DecidableEq, Repr

/-- Ports are numbered 0 to 511 after their lowest device lane (R15). -/
abbrev Port := Fin 512

/-- Slices and harps are numbered 0 to 15 (R13). -/
abbrev Slice := Fin 16

/-- Device lanes are numbered 0 to 511 (R14). -/
abbrev Lane := Fin 512

/-- The two supervisory cores and the two time engines are each named A and B. -/
inductive Side
  | a
  | b
  deriving DecidableEq, Repr

/-- The other of a pair. -/
def Side.peer : Side → Side
  | .a => .b
  | .b => .a

/-- How a write reaches a 64-bit register (R7, R74): its low half, its high half, or both at once. -/
inductive Part
  | low
  | high
  | both
  deriving DecidableEq, Repr

/-- A SECDED error met at a location: a single-bit one, or an uncorrectable one. -/
inductive EccErr
  | one
  | two
  deriving DecidableEq, Repr

/-- What a tile read meets (R302, R304): a CRC failure, a corrected tag, an uncorrectable tag. -/
inductive TileErr
  | crc
  | tagOne
  | tagTwo
  deriving DecidableEq, Repr

/-- What the world settles for the buffer pool while a command is carried out: where each free list stands, and the pools
whose last extent another request of the same cycle wins (R311). -/
structure Draw where
  pos : Nat
  lost : List Nat
  deriving DecidableEq, Repr

/-- The lists at their start, no pool contended. -/
def Draw.zero : Draw := { pos := 0, lost := [] }

/-- Upsets in the buffer: damage to tiles and tags, by logical tile (R302, R304); ownership records with an uncorrectable
copy, by handle word, both copies when the flag says so (R317); and extents that an upset takes off their free list or puts
on it (R326). -/
structure Upset where
  tiles : List (Nat × TileErr)
  recs : List (Nat × Bool)
  lists : List Nat
  deriving DecidableEq, Repr

/-- No upset. -/
def Upset.none : Upset := { tiles := [], recs := [], lists := [] }

/-- A TCAM row that fails its parity in a search (R237): the lookup, 0 to 7 or 8 for LPM, the number of the search in
that lookup, the row as bank × 2048 + row, whether its rewrite fails to read back, and whether its shadow copy is
uncorrectable. -/
structure RowErr where
  lookup : Nat
  search : Nat
  row : Nat
  stuck : Bool
  shadow : Bool
  deriving DecidableEq, Repr

/-- A SECDED-guarded memory that the lookup stage reads: tree units by bank × 2^16 + unit, endpoint slots by location
word, direct entries by 2 × anchor + copy, L2 entries by index, ECMP groups and members from 4096 on. -/
inductive Mem
  | tree
  | ep
  | direct
  | l2
  | ecmp
  deriving DecidableEq, Repr

/-- A SECDED error that a read meets: memory, location, kind. -/
structure MemErr where
  mem : Mem
  loc : Nat
  err : EccErr
  deriving DecidableEq, Repr

/-- What arrives of a frame at a port: all of it, or a fragment of a preempted one (R419). -/
inductive Piece
  | whole
  | first
  | middle
  | last
  deriving DecidableEq, Repr

/-- A pipeline slot that a slice offers: an ordinary one, one reserved for pre-classed frames (R407), or one that is
withheld from every other frame by the power cap (R465) or for a full bank queue (R261). -/
inductive SlotKind
  | ordinary
  | reserved
  | withheldCap
  | withheldBank
  deriving DecidableEq, Repr

/-- A slot as the world offers it: its kind, and the waiting frames, by their places in the slice, that the slots could not
take (R28). -/
structure SlotOffer where
  kind : SlotKind
  lost : List Nat
  deriving DecidableEq, Repr

/-- How a frame comes in: whether an uncorrectable codeword touched it (R156), and how much of it this is. -/
structure Rx where
  errored : Bool
  piece : Piece
  deriving DecidableEq, Repr

/-- Signal on a port: the lanes of the port, by their places in it, on which it is there (R141). -/
structure Sensed where
  port : Port
  lanes : BitVec 8
  deriving DecidableEq, Repr

/-- The control field of a training frame received, and what the device asks of its partner on that lane, control bits 12 to
1 of its own frames (R147). -/
structure LxFrame where
  control : BitVec 16
  own : BitVec 12
  deriving DecidableEq, Repr

/-- The fresh random values of the class's and the channel's ECN test (R346). -/
structure EcnDraw where
  cls : BitVec 16
  chan : BitVec 16
  deriving DecidableEq, Repr

/-- What moves a standby time engine in 1 µs, in units of 2^-16 ns: the drift of the two PLLs against one another, and how
far its slew takes it at most (R391). -/
structure TeMove where
  drift : Int
  move : Nat
  deriving DecidableEq, Repr

end Sys2Proof
end

