-- ==== Sys2Proof/Syntax.lean ====
section
/-! DEFINITION. The commands of the block: one constructor for each row of the spec's table of operations and events, in
the table's order, with the row's own summary and rule. What the spec leaves to the world (a pin's low time, a verdict, a
measured value, bytes read from host memory) and what it leaves open (which free extent, a random draw) are operands; the
meaning of each constructor says what its operands stand for. -/
namespace Sys2Proof

/-- The rows of the table of operations and events. -/
inductive Instr
  /-- RESET_N held low for 1 µs or longer takes the device to RESET from any mode (R38). -/
  | resetNFall (ns : Nat) (acts : Bool)
  /-- The rise of RESET_N enters BOOT, samples the straps and loads the host preference (R38). -/
  | resetNRise (hostPref : Bool) (strap : BitVec 10)
  /-- PWRFAIL_N low for 1 µs or longer enters SAVE from CONFIGURE to PARK, saves the fault log in SAFE, or only
    finishes the kennel record in RESET or BOOT (R481). -/
  | pwrfailNFall (ns : Nat) (acts : Bool) (mv : BitVec 12)
  /-- The rise of PWRFAIL_N without loss of power leaves the device in SAVE until RESET_N is pulsed (R55). -/
  | pwrfailNRise
  /-- HOST_SEL_N low for at least 1 µs moves the active host role when the peer link is up, or holds the trigger
    (R117). -/
  | hostSelNFall (ns : Nat) (acts : Bool)
  /-- The rise of HOST_SEL_N lets the revert trigger act again (R119). -/
  | hostSelNRise
  /-- PERST_A_N or PERST_B_N falling holds the port link down and acts as a host-interface reset of that port
    (R579). -/
  | perstFall (p : HostPort) (ns : Nat) (acts : Bool)
  /-- PERST of a port rising lets that port's PCIe link train (R579). -/
  | perstRise (p : HostPort)
  /-- A host port's data link goes down, a role-change trigger when the port is active (R117). -/
  | pcieLinkDown (p : HostPort)
  /-- A host port's data link comes up, which can make it eligible and release a held trigger (R118). -/
  | pcieLinkUp (p : HostPort) (rate width : Nat)
  /-- Bus Master Enable of a port cleared, so the port issues no memory request and routed traffic is counted as
    lost (R72). -/
  | busMasterEnableFall (p : HostPort)
  /-- Bus Master Enable of a port set, resuming fetches and sending MSI-X messages held pending (R113). -/
  | busMasterEnableRise (p : HostPort)
  /-- A hardwired 115 °C comparator trips and takes the device to SAFE with cause 0x07 (R475). -/
  | junctionComparatorTrip (sensor : Fin 64)
  /-- A selected edge on TIME_IN is captured into the capture registers, or counted as lost within 1 µs of the last
    capture (R405). -/
  | timeInEdge (pin : Fin 4) (rising : Bool)
  /-- VHOLD falls below 2.4 V during a save, cutting it short and leaving its area invalid (R482). -/
  | vholdCollapse
  /-- A 10 µs judging window ends and the clock's run of passing or failing windows is updated (R492). -/
  | clockJudgeWindow (clock : Fin 32) (count : Nat) (pick : Draw)
  /-- A required clock not judged stable 20 ms into BOOT sets RESULT = CLOCK and enters SAFE (R493). -/
  | bootClock
  /-- Each 1 ms the internal oscillator measures itself against its trim source and moves its code by at most one
    step (R494). -/
  | oscillatorTrim (err : Int) (usable : Bool)
  /-- No usable trim measurement for 10 ms holds the code, clears LOCKED and is logged (R495). -/
  | trimSrcLost
  /-- The pipeline clock moves one 100 MHz step toward its target, at least 10 µs after the previous step (R496).
    -/
  | pipelineClockStep
  /-- After 1 ms in RESET a device reset enters BOOT as if RESET_N had risen, keeping GL_MODE.CAUSE (R66). -/
  | deviceResetHoldEnd
  /-- The Collies finish their boot-ROM self-test and PHASE moves to WAIT_FW or to a waiting fetch (R60). -/
  | bootSelftestDone (memA katA memB katB : Bool)
  /-- The firmware fetch begins once a non-zero length is written, self-test has ended and the active port has link
    and Bus Master Enable (R62). -/
  | fwFetchStart
  /-- The firmware image has been fetched and PHASE moves to FW_VERIFY, or a DMA error returns the device to RESET
    (R62). -/
  | fwFetchDone (ok : Bool)
  /-- The firmware signature check ends, passing to ROLE_PROOF or returning the device to RESET with RESULT =
    FW_SIG (R62). -/
  | fwVerifyDone (good : Bool) (image : List Byte) (version : Word)
  /-- The image is not fetched and verified within 10 ms, so the fetch fails with FW_FETCH and the device returns
    to RESET (R62). -/
  | fwFetchTimeout
  /-- The boot role swap A to B and back ends and PHASE moves to KENNEL, or a Collie is marked failed (R60). -/
  | roleProofDone (aOk bOk : Bool)
  /-- The kennel is read back, the newest valid wear copy is applied and PHASE reaches DONE (R546). -/
  | kennelReadbackDone (errs : List (BitVec 20 × Bool)) (element : Bool)
  /-- 100 ms after RESET_N rises the other port becomes active when the preferred port's link is still down and the
    other's is up (R115). -/
  | bootChoiceTimer
  /-- A write of GL_MODE_REQ.TARGET requests a mode transition while no command ring is enabled, setting RESULT
    (R58). -/
  | glModeReq (p : HostPort) (value : Word)
  /-- GL_MODE_REQ.TARGET = BOOT in RESET after a failed firmware check resumes BOOT at WAIT_FW (R591). -/
  | glModeReqBoot (p : HostPort) (value : Word)
  /-- A write with DEV_RST = 1 and GUARD = 0x5120 starts a device reset (R59). -/
  | glReset (p : HostPort) (value : Word)
  /-- A write of GL_FW_LEN stores the length and, in BOOT, requests the firmware fetch (R62). -/
  | glFwLen (p : HostPort) (value : Word)
  /-- Writing START = 1 starts a host-interface reset of the writer's own port (R63). -/
  | hiIfrstStart (p half : HostPort) (value : Word)
  /-- A host-interface reset completes within 100 µs and HI_IFRST.BUSY falls (R64). -/
  | hiIfrstDone (p : HostPort)
  /-- The active host writes GO = 1 with GUARD = 0x5120 to hand the active role to an eligible peer (R117). -/
  | hiHandover (p half : HostPort) (value : Word)
  /-- A 4-byte write to page 80 of BAR2 restarts the port's heartbeat age and begins supervision (R116). -/
  | heartbeat (p : HostPort)
  /-- The supervised active port's heartbeat age exceeds its timeout and the role moves to an eligible peer (R117).
    -/
  | heartbeatTimeout
  /-- The standby preferred port has stayed eligible for its revert hold and takes back the active role while
    HOST_SEL_N is high (R117). -/
  | revertHoldExpiry
  /-- Writing HI_RING_EN.EN = 1 checks the ring set-up and starts the ring or sets CFG_ERR (R89). -/
  | hiRingEnable (p half : HostPort) (n : Fin 256)
  /-- Writing HI_RING_EN.EN = 0 stops fetching at once while fetched work finishes (R90). -/
  | hiRingDisable (p half : HostPort) (n : Fin 256)
  /-- The last fetched work of a disabled ring finishes and HI_RING_EN.ACTIVE falls to 0 (R90). -/
  | ringWorkDrained (p : HostPort) (n : Fin 256)
  /-- Writing 1 to a W1C bit of HI_RING_STAT clears it (R87). -/
  | hiRingStatClear (p half : HostPort) (n : Fin 256) (value : Word)
  /-- A PROD write is accepted when within one ring length of the fetch position, or refused with DB_ERR (R83). -/
  | prodDoorbell (p : HostPort) (n : Fin 256) (value : Word)
  /-- A CONS write acknowledging consumed device-written entries is accepted or refused with DB_ERR (R83). -/
  | consDoorbell (p : HostPort) (n : Fin 256) (value : Word)
  /-- The device fetches the next command of a ring once a PROD covers it and its completion slot is free (R85). -/
  | commandFetch (p : HostPort) (n : Fin 64) (desc : List Byte)
  /-- A descriptor fetch or entry write ends in an error completion, disabling the ring and logging a UC fault
    (R91). -/
  | dmaErrorCompletion (p : HostPort) (n : Fin 256)
  /-- An entry pending for TIMER µs causes the vector's message to be sent (R112). -/
  | vectorTimerExpiry (p : HostPort) (v : Fin 64)
  /-- NOP completes with OK and zero results (R96). -/
  | nop (p : HostPort) (n : Fin 64)
  /-- FENCE completes after every earlier-fetched command of the port has completed and its events are written or
    dropped (R101). -/
  | fence (p : HostPort) (n : Fin 64)
  /-- A command with an opcode not in the table completes with NOT_SUPPORTED (R93). -/
  | notSupported (p : HostPort) (n : Fin 64)
  /-- EP_INSERT places a key in a bucket, through a relocation chain, or in the stash, or fails with NO_ROOM
    (R262). -/
  | epInsert (p : HostPort) (n : Fin 64)
  /-- EP_DELETE removes a key and may move one stash entry back into a bucket (R266). -/
  | epDelete (p : HostPort) (n : Fin 64)
  /-- EP_READ writes a 64-byte block for an entry found by key or by location (R268). -/
  | epRead (p : HostPort) (n : Fin 64)
  /-- EP_SEG_REHASH with no option starts migrating a segment into the spare under new seeds (R272). -/
  | epSegRehash (p : HostPort) (n : Fin 64)
  /-- EP_SEG_REHASH with ABORT stops a running migration at its next step boundary (R275). -/
  | epSegRehashAbort (p : HostPort) (n : Fin 64)
  /-- EP_SEG_REHASH with RESUME continues a stopped migration from its cursor (R274). -/
  | epSegRehashResume (p : HostPort) (n : Fin 64)
  /-- EP_SEG_REHASH with REVERT moves shadow entries back, returns the segment to NORMAL and clears the spare
    (R274). -/
  | epSegRehashRevert (p : HostPort) (n : Fin 64)
  /-- EP_SEG_SWAP maps a MIGRATED segment to its shadow and makes the old physical segment the spare (R277). -/
  | epSegSwap (p : HostPort) (n : Fin 64)
  /-- The table engine completes one step of a routine (a chain move, a bucket migration, an LPM shift or a flush
    bucket), leaving the table consistent (R278). -/
  | tableEngineStep (errs : List (Nat × EccErr))
  /-- DIRECT_WRITE writes or invalidates both copies of a direct entry (R279). -/
  | directWrite (p : HostPort) (n : Fin 64)
  /-- DIRECT_READ returns the result and valid bit of an anchor (R279). -/
  | directRead (p : HostPort) (n : Fin 64)
  /-- LPM_ADD places a prefix in its zone, shifting one boundary entry per intervening zone when needed (R283). -/
  | lpmAdd (p : HostPort) (n : Fin 64) (picks : List Nat)
  /-- LPM_DELETE frees the prefix's row in every named slice (R285). -/
  | lpmDelete (p : HostPort) (n : Fin 64)
  /-- LPM_READ returns a prefix's result by exact match or by probe of a full address (R285). -/
  | lpmRead (p : HostPort) (n : Fin 64)
  /-- ACL_WRITE writes an entry by invalidate, write and validate in each named slice (R229). -/
  | aclWrite (p : HostPort) (n : Fin 64) (data : List Byte)
  /-- ACL_WRITE with MOVE copies an entry to a new row, validating it before invalidating the source (R230). -/
  | aclWriteMove (p : HostPort) (n : Fin 64)
  /-- ACL_WRITE with MASK_ONLY changes only the GENMASK of a valid entry in one write (R231). -/
  | aclWriteMaskOnly (p : HostPort) (n : Fin 64)
  /-- ACL_INVALIDATE clears an entry's valid bit in each named slice (R234). -/
  | aclInvalidate (p : HostPort) (n : Fin 64)
  /-- ACL_READ writes an entry's 96-byte block from the shadow copy (R235). -/
  | aclRead (p : HostPort) (n : Fin 64)
  /-- ACL_READ in probe mode runs a lookup on a given key and returns the winning MATCH_ID and hit count (R236). -/
  | aclProbe (p : HostPort) (n : Fin 64) (key : List Byte)
  /-- TREE_LOAD marks a generation's tree bank invalid and writes and checks the image in every slice (R223). -/
  | treeLoad (p : HostPort) (n : Fin 64) (image : List Byte)
  /-- A tree image finishes loading, marking the bank valid or completing with BAD_ARG (R224). -/
  | treeLoadDone (g : Fin 2)
  /-- CS_LOAD marks a generation's control store invalid and writes a signed image into that bank of every slice
    (R197). -/
  | csLoad (p : HostPort) (n : Fin 64) (image : List Byte)
  /-- CS_LOAD with PROVISION writes the customer-key hash into the kennel once the image verifies (R200). -/
  | csLoadProvision (p : HostPort) (n : Fin 64) (image : List Byte)
  /-- A control-store image finishes loading and verifying, marking the store valid or completing with BAD_ARG or
    AUTH_FAIL (R201). -/
  | csLoadDone (g : Fin 2) (good : Bool)
  /-- GEN_SWAP checks the target generation and makes a swap pending until its instant (R246). -/
  | genSwap (p : HostPort) (n : Fin 64)
  /-- At T_s every slice switches new admissions to the target generation (R247). -/
  | genSwapInstant
  /-- The old generation's in-flight count reaches 0 and a WAIT_DRAIN swap completes (R248). -/
  | genDrained
  /-- L2_WRITE writes an L2 entry with age 0 in each named slice (R292). -/
  | l2Write (p : HostPort) (n : Fin 64)
  /-- L2_DELETE removes an L2 entry from each named slice (R292). -/
  | l2Delete (p : HostPort) (n : Fin 64)
  /-- L2_FLUSH removes matching entries one bucket per step (R292). -/
  | l2Flush (p : HostPort) (n : Fin 64)
  /-- L2_READ writes a 16-byte entry found by key or index (R293). -/
  | l2Read (p : HostPort) (n : Fin 64)
  /-- ECMP_GROUP_WRITE writes a group's base, size, hash profile and valid bit (R297). -/
  | ecmpGroupWrite (p : HostPort) (n : Fin 64)
  /-- ECMP_MEMBER_WRITE writes up to 256 member words (R297). -/
  | ecmpMemberWrite (p : HostPort) (n : Fin 64) (words : List Word)
  /-- CAL_LOAD writes a calendar into a port's inactive bank (R413). -/
  | calLoad (p : HostPort) (n : Fin 64) (data : List Byte)
  /-- CAL_SWAP makes swaps pending for each port in scope with a loaded inactive bank (R414). -/
  | calSwap (p : HostPort) (n : Fin 64)
  /-- At a port's swap instant its inactive bank becomes active, and the command completes when the last port has
    swapped (R414). -/
  | calSwapInstant (port : Port)
  /-- The phase of a port's active calendar passes into the next fret, changing its gates and HOLD (R410). -/
  | fretBoundary (port : Port)
  /-- POLICER_WRITE sets a policer's mode, rates and sizes in each named slice (R387). -/
  | policerWrite (p : HostPort) (n : Fin 64)
  /-- POLICER_WRITE with READ writes a policer's settings and tokens to host memory (R387). -/
  | policerRead (p : HostPort) (n : Fin 64)
  /-- SHAPER_WRITE sets a shaper's rate and burst, keeping or filling its tokens (R378). -/
  | shaperWrite (p : HostPort) (n : Fin 64)
  /-- SHAPER_WRITE with READ writes a shaper's settings and tokens to host memory (R379). -/
  | shaperRead (p : HostPort) (n : Fin 64)
  /-- QUEUE_CFG binds or unbinds a channel and sets a queue's profile and quantum (R335). -/
  | queueCfg (p : HostPort) (n : Fin 64)
  /-- CTR_SNAPSHOT arms a snapshot of every counter now, at a time or at a pin edge, optionally freezing (R452). -/
  | ctrSnapshot (p : HostPort) (n : Fin 64)
  /-- CTR_SNAPSHOT with TRIGGER 0x03 completes the pending snapshot with ABORTED (R454). -/
  | ctrSnapshotCancel (p : HostPort) (n : Fin 64)
  /-- CTR_SNAPSHOT with TRIGGER 0x04 lets frozen counters count again (R453). -/
  | ctrSnapshotUnfreeze (p : HostPort) (n : Fin 64)
  /-- At T every counter is latched into the snapshot bank, SNAP_ID rises and the command completes (R452). -/
  | snapshotInstant
  /-- CTR_READ writes COUNT counter values of a space from the live or snapshot bank (R455). -/
  | ctrRead (p : HostPort) (n : Fin 64)
  /-- PWR_STATE parks a slice's ingress pipeline, or refuses while a port of it is up or it has a recirculation
    port (R476). -/
  | pwrStateParkSlice (p : HostPort) (n : Fin 64)
  /-- PWR_STATE parks named lanes of a harp, turning off their transmitters and receivers (R477). -/
  | pwrStateParkLanes (p : HostPort) (n : Fin 64)
  /-- PWR_STATE unparks a slice or lanes under the ramp limit (R478). -/
  | pwrStateUnpark (p : HostPort) (n : Fin 64)
  /-- An unpark ramp ends, completing the unpark or the transition out of PARK (R478). -/
  | unparkRampEnd
  /-- PHASE_HINT accepts a hint into one of four slots, to start at AT for DURATION_US (R470). -/
  | phaseHint (p : HostPort) (n : Fin 64)
  /-- PHASE_HINT with CANCEL_ALL ends every hint at once (R470). -/
  | phaseHintCancelAll (p : HostPort) (n : Fin 64)
  /-- At AT a hint comes into force, imposing its order and minimum levels (R471). -/
  | hintStart
  /-- A hint's duration ends and it leaves force (R471). -/
  | hintEnd (slot : Fin 4)
  /-- CAP_SET commits cap, order, floor and withholding limit into PWR_CAP, raising the clock toward a higher floor
    (R469). -/
  | capSet (p : HostPort) (n : Fin 64)
  /-- BPM_ALLOC takes COUNT host-owned extents, all or nothing, optionally testing their tiles (R322). -/
  | bpmAlloc (p : HostPort) (n : Fin 64) (picks : List Draw) (failed : List Nat)
  /-- BPM_FREE checks and frees listed host-owned extents (R324). -/
  | bpmFree (p : HostPort) (n : Fin 64) (handles : List Word)
  /-- BPM_FREE with ALL_HOST frees every extent with tag 0x3FF (R324). -/
  | bpmFreeAllHost (p : HostPort) (n : Fin 64)
  /-- MODE_REQUEST asks for a transition of R38, completing when it is complete or refusing it (R97). -/
  | modeRequest (p : HostPort) (n : Fin 64)
  /-- MODE_REQUEST with target RESET starts a device reset and writes no completion (R66). -/
  | modeRequestReset (p : HostPort) (n : Fin 64)
  /-- Ingress has stopped within 2 µs and the device is in DRAIN (R38). -/
  | drainIngressStopped
  /-- GL_MODE.EMPTY becomes 1 and a waiting request from DRAIN enters CONFIGURE or PARK (R44). -/
  | drainBufferEmpty
  /-- The flush time ends with frames still buffered, which are dropped as DRAIN_FLUSH before the target mode is
    entered (R44). -/
  | drainFlushTimeout (pick : Draw)
  /-- The pipelines are gated and the device enters PARK (R38). -/
  | pipelinesGated
  /-- The save content and header are written to the kennel and the device idles in SAVE (R481). -/
  | saveWriteEnd
  /-- FAULT_INJECT arms an injection that inverts check bits in the next COUNT checks of a checker (R518). -/
  | faultInject (p : HostPort) (n : Fin 64)
  /-- FAULT_INJECT with CANCEL disarms every injection of a source and checker (R520). -/
  | faultInjectCancel (p : HostPort) (n : Fin 64)
  /-- An SPDM GET_VERSION request through DOE is answered (R128). -/
  | spdmGetVersion (p : HostPort)
  /-- An SPDM GET_CAPABILITIES request is answered (R128). -/
  | spdmGetCapabilities (p : HostPort)
  /-- An SPDM NEGOTIATE_ALGORITHMS request is answered with P-384 and SHA-384 (R128). -/
  | spdmNegotiateAlgorithms (p : HostPort) (offered : Bool)
  /-- An SPDM GET_DIGESTS request is answered for slot 0 (R128). -/
  | spdmGetDigests (p : HostPort) (answers : Bool)
  /-- An SPDM GET_CERTIFICATE request returns the slot 0 chain (R548). -/
  | spdmGetCertificate (p : HostPort) (slot : Fin 8) (offset length : BitVec 16) (answers : Bool)
  /-- An SPDM CHALLENGE is signed with the identity key (R548). -/
  | spdmChallenge (p : HostPort) (slot : Fin 8) (nonce : List Byte) (answers : Bool)
  /-- An SPDM GET_MEASUREMENTS returns the measurement blocks, signed (R549). -/
  | spdmGetMeasurements (p : HostPort) (op : Byte) (sign : Bool) (nonce : List Byte) (answers : Bool)
  /-- A DOE Abort resets the port's mailbox (R128). -/
  | doeAbort (p : HostPort)
  /-- A write of PT_MODE sets width and lane mode, stops the port and restarts bring-up, or is refused with CFG_ERR
    (R134). -/
  | ptModeWrite (p : HostPort) (port : Port) (value : Word) (pick : Draw)
  /-- Writing ADMIN_UP = 1 starts bring-up from DETECT, clears GEN_EN and CHK_EN and unparks parked lanes (R142).
    -/
  | adminUpSet (p : HostPort) (port : Port) (value : Word) (pick : Draw)
  /-- Writing ADMIN_UP = 0 finishes the frame in progress and turns the transmitter off (R146). -/
  | adminUpClear (p : HostPort) (port : Port) (value : Word) (pick : Draw)
  /-- Writing RETRAIN = 1 restarts the port's bring-up from DETECT (R145). -/
  | retrain (p : HostPort) (port : Port) (value : Word) (pick : Draw)
  /-- A write of PT_CTRL.LOOPBACK selects near-end, far-end or MAC loopback (R164), or a tester's of a lane (R585). -/
  | loopbackSelect (by' : Writer) (port : Port) (loopback : Fin 4) (pick : Draw)
  /-- A write of PT_TEST enables or disables the PRBS generator and checker, moving the port into or out of TEST
    (R165); a tester's acts on a lane (R585). -/
  | ptTestWrite (by' : Writer) (port : Port) (value : Word)
  /-- A write of HP_LANE_TXEQ sets fixed coefficients, or is refused when it breaks the tap ranges (R170). -/
  | hpLaneTxeqWrite (p : HostPort) (lane : Lane) (value : Word)
  /-- Signal detected on every lane of the port for 1 ms moves it out of DETECT (R142). -/
  | detectSignal (x : Sensed)
  /-- Clause 73 auto-negotiation completes (R142). -/
  | anComplete (port : Port)
  /-- An LX training frame is received and its request acted on after two consecutive good frames (R148). -/
  | lxTrainingFrame (lane : Lane) (inverted : Bool) (frame : LxFrame)
  /-- Training completes on every lane of the port and it enters ALIGN (R149). -/
  | trainingComplete (port : Port)
  /-- Alignment markers lock and lanes are deskewed, so the port enters UP after its latencies are measured (R154).
    -/
  | alignComplete (port : Port) (rxLat txLat : Word) (reversed : Bool) (inverted : BitVec 8) (margins : List Byte)
  /-- A bring-up state reaches its limit and the port returns to DETECT (R143). -/
  | portStateLimit (port : Port)
  /-- Loss of signal detect for 10 µs, CDR lock or alignment lock on any lane takes the whole port out of UP
    (R172). -/
  | laneLoss (lane : Lane) (what : Fin 3) (pick : Draw)
  /-- A 1 ms FEC window ends and FEC_DEGRADE is set when uncorrectable codewords occurred in the last three (R166).
    -/
  | fecWindow (port : Port) (total corr uncorr : Word) (hist : List Word) (margins : List Byte)
  /-- A die-to-die wire crosses the error threshold and the active Collie moves it to a spare (R18). -/
  | d2dWireError (harp : Slice) (toHarp : Bool) (wire : Fin 1600) (lane : Fin 32) (pick : Draw)
  /-- An IEEE 802.3br verification exchange or its timer settles whether preemption is active (R419). -/
  | preemptVerify (port : Port) (verify : Fin 5)
  /-- A frame arrives at a port's receive MAC, which drops runts, oversize and harp-dropped frames or passes it on
    (R157). -/
  | frameReceive (port : Port) (bytes : List Byte) (rx : Rx)
  /-- A received MAC control frame is consumed, honoured as pause or PFC when FC allows, or dropped (R159). -/
  | macControlFrame (port : Port) (bytes : List Byte) (errored : Bool)
  /-- A received pause or PFC time runs out and the class resumes (R160). -/
  | pauseExpiry (port : Port) (tc : Fin 8)
  /-- A frame, injection or recirculation pass takes a pipeline slot, or is dropped at admission (R25). -/
  | frameAdmission (slice : Slice) (slot : SlotOffer) (pick : Draw)
  /-- A head is given to a free in-service Terrier once 256 bytes or the frame's end have arrived and an engine is
    free (R175). -/
  | headDispatch (slice : Slice)
  /-- A Terrier parse stops and its key vector, header record and flags go to the lookup stage (R185). -/
  | parseStop (slice : Slice) (e : Fin 128) (parity : Bool) (errs : List (Nat × EccErr))
  /-- At the frame's end or its 1,729th byte the slice takes an extent or drops the frame (R309). -/
  | extentChoice (port : Port) (pos : Nat) (lost : List Nat)
  /-- The lookup and action stages finish, fixing the forwarding result, colour and descriptor (R214). -/
  | lookupComplete (slice : Slice) (errs : List MemErr) (rows : List RowErr) (pick : Draw)
  /-- A slice applies a learn, move, FLAP, UNPIN or remove record from the learn bus (R288). -/
  | learnRecord (slice origin : Slice)
  /-- The core enqueues a descriptor, making copies, marking ECN and updating flow-control state (R345). -/
  | enqueue (port : Port) (inject : Bool) (rand : EcnDraw) (ups : Upset) (pick : Draw)
  /-- A session leaves fallback after 100 µs with room and a low backlog (R362). -/
  | captureResume (session : Fin 16)
  /-- An entity still in XOFF resends its pause or PFC frame after half its time (R350). -/
  | pfcRefresh (port : Port)
  /-- No frame passes a recovering stream for RESET_MS and the stream resets (R427). -/
  | frerResetTimer (stream : Fin 1024)
  /-- A port's scheduler chooses the next eligible frame and charges its shapers and deficits (R369). -/
  | schedulerChoice (port : Port) (pick : Draw)
  /-- A chosen frame is read from its tiles, edited and sent, stomped on a late fault, and its extent reference
    released (R343). -/
  | frameEgress (port : Port) (ups : Upset) (pos : Nat) (lost : List Nat)
  /-- A frame waiting longer than TIMEOUT_US in a recirculation queue is dropped (R355). -/
  | recircTimeout (port : Port) (pick : Draw)
  /-- A TC7 frame queued longer than MAX_WAIT µs is dropped (R418). -/
  | tc7Stale (port : Port) (pick : Draw)
  /-- Each shaper gains RATE × Δt tokens up to BURST at least every 64 ns (R375). -/
  | shaperTokenUpdate
  /-- Each policer's buckets fill at least every 64 ns (R382). -/
  | policerBucketFill
  /-- At each multiple of 1.024 µs every queue's depth and delay are added to its histograms (R389). -/
  | histogramSample
  /-- A transmit descriptor is taken, its frame queued directly or injected into a pipeline, and its status written
    back (R110). -/
  | transmitDescriptor (desc frame : List Byte) (pick : Draw)
  /-- A CPU queue's head frame is delivered to a receive ring or dropped (R388). -/
  | cpuQueueService (desc : List Byte) (ups : Upset) (pick : Draw)
  /-- Every PERIOD_MS the Collie brings a spare into service and starts a canary test on the next engine (R203). -/
  | canaryTest (slice : Slice)
  /-- A canary test ends, making the engine a spare or retiring it (R205). -/
  | canaryTestEnd (slice : Slice) (pass : Bool)
  /-- The Collie scrubs the control store once per second, correcting single-bit errors (R207). -/
  | csScrub (errs : List (Slice × Nat × EccErr))
  /-- An uncorrectable control-store location is rewritten from another slice within 20 µs (R208). -/
  | csEccRepair (slice : Slice) (loc : Nat)
  /-- The Collie scrubs both tree banks once per second (R225). -/
  | treeScrub (errs : List (Slice × Nat × EccErr))
  /-- An uncorrectable tree unit is rewritten from another slice within 20 µs (R225). -/
  | treeEccRepair (slice : Slice) (loc : Nat)
  /-- A slice compares every TCAM row with its shadow at least every 10 ms (R238). -/
  | tcamShadowScrub (slice : Slice) (rows : List (Nat × Bool × Bool))
  /-- A hard-failed row is replaced by a spare row within 2 µs, or lost when none remains (R239). -/
  | tcamRowSpare (slice : Slice) (loc : Nat)
  /-- The table engine scrubs every endpoint slot and the stash every 100 ms (R269). -/
  | epScrub (errs : List (Nat × EccErr))
  /-- Every AGE_TICK × 100 ms a slice steps the age of its own dynamic entries and deletes those reaching 7 (R291).
    -/
  | l2AgeTick (slice : Slice)
  /-- After FLAP_HOLD seconds the originating slice sends an UNPIN record (R290). -/
  | flapHoldExpiry (slice : Slice)
  /-- A whole second of device time ends and the per-entry move counts restart (R290). -/
  | l2MoveSecond
  /-- BPM_COMMIT.GO = 1 starts laying the pools out anew, or is refused with COMMIT_ERR (R308). -/
  | bpmCommit (p : HostPort) (value : Word)
  /-- The pool layout commit completes and BUSY falls (R308). -/
  | bpmCommitDone
  /-- Every PERIOD_MS a sweep starts, or is skipped with SWEEP_OVERRUN (R328). -/
  | sheepdogSweep (ups : Upset)
  /-- A sweep ends its audit, mark and judge passes, reporting or reclaiming leaks (R326). -/
  | sheepdogSweepEnd
  /-- TIME_CTL.SET_GO sets device time to TIME_SET, acting as a step (R395). -/
  | timeSetGo (p : HostPort) (value : Word)
  /-- TIME_CTL.ADJ_GO steps or slews device time by TIME_ADJ (R394). -/
  | timeAdjGo (p : HostPort) (value : Word)
  /-- A slew has used up its offset and TIME_STAT.BUSY falls (R394). -/
  | slewEnd
  /-- A write of TIME_FREQ changes the frequency offset of both engines within 1 µs, or is refused (R393). -/
  | timeFreqWrite (p : HostPort) (value : Word)
  /-- Every 1 µs the standby time engine measures its difference and slews or steps to the active engine (R391). -/
  | teTrack (m : TeMove)
  /-- A time engine's counter fails its parity check and the engine is unhealthy (R539). -/
  | teCounterFault (e : Side)
  /-- After 10 s of TE-A eligibility while TE-B is active, a deliberate swap makes TE-A active (R540). -/
  | teRevert
  /-- Writing TIME_OUT_CTL.EN = 1 takes the pulse settings into effect, or refuses them (R404). -/
  | timeOutEnable (p : HostPort) (pin : Fin 8) (value : Word)
  /-- A pulse output goes active at START + k × PERIOD or inactive WIDTH ns later (R403). -/
  | pulseEdge (pin : Fin 8)
  /-- A write of CAL_BASE_SEC is staged without commit (R432). -/
  | calBaseSecWrite (p : HostPort) (part : Part) (value : DWord)
  /-- A write of CAL_BASE_NS commits both base registers into keel register 4 (R432). -/
  | calBaseNsWrite (p : HostPort) (value : Word)
  /-- A write of PT_CAL_CFG.EN enables gating, or is refused with CFG_ERR when no bank is active (R412). -/
  | ptCalCfgWrite (p : HostPort) (port : Port) (value : Word)
  /-- A write of CAL_FRER_CTL resets the stream's generator and recovery history (R429). -/
  | calFrerCtlWrite (p : HostPort) (stream : Fin 1024) (value : Word)
  /-- Every 1 µs the power loop forms P and takes or returns one step against the cap (R466). -/
  | powerLoopTick (e saving : BitVec 11) (stay : List Lane)
  /-- THROTTLE has stayed 0 for 1 ms and THROTTLE_OFF is posted (R472). -/
  | throttleOff
  /-- P has exceeded C for 1 ms with every domain at its limit (R467). -/
  | capUnmet
  /-- P has stayed at or below C for 1 ms and UNMET clears (R467). -/
  | capMet
  /-- Every 1 ms the device reads READ_POUT from each enabled entry and updates the gain (R462). -/
  | pmbusCalibration (answers : List (Fin 16 × Option (Fin 3) × BitVec 16)) (blame : Fin 16)
  /-- Writing PWR_CTL.CAL_RESUME = 1 ends a calibration freeze (R464). -/
  | calResume (p : HostPort) (value : Word)
  /-- Every 100 µs the active Collie reads the junction sensors and publishes the hottest (R473). -/
  | temperatureRead (hot : Byte) (sensor : Fin 64)
  /-- Every 1 ms the thermal limit falls or rises by 2 %, and is withdrawn above CAP_W (R474). -/
  | thermalLimitTick
  /-- Every 1 ms VHOLD is read and HOLD_OK is set or cleared after ten readings (R484). -/
  | vholdReading (mv : BitVec 12)
  /-- PWR_SAVE_CTL with DISCARD and GUARD invalidates both save areas within 1 ms (R483). -/
  | pwrSaveDiscard (p : HostPort) (value : Word)
  /-- A write of CLK_PIPE.TARGET sets the host pipeline clock toward which the clock steps (R496). -/
  | clkPipeWrite (p : HostPort) (value : Word)
  /-- A checker raises a report, counted against its source and class, pending or coalesced (R508). -/
  | faultReport (source : BitVec 12) (code : Byte) (detail : BitVec 63)
  /-- The collector records one pending report every 4 ns, giving it a log number, latching the first error and
    posting it (R506). -/
  | faultRecord
  /-- An error in the collector's own state makes the referee write COLLECTOR_FAULT and enter SAFE (R516). -/
  | collectorFault (part : Fin 5) (corrected : Bool)
  /-- Writing 1 to FLT_FIRST_STAT.VALID clears VALID, OVERFLOW and LATER (R509). -/
  | fltFirstClear (p : HostPort) (value : Word)
  /-- Writing 1 to FLT_LOST.VALID clears VALID and COUNT (R513). -/
  | fltLostClear (p : HostPort) (value : Word)
  /-- Writing FLT_CTL.CLR_COUNTS = 1 clears the fault counts (R510). -/
  | clrCounts (p : HostPort) (value : Word)
  /-- On each oscillator cycle the referee votes each keel register's copies (R523). -/
  | keelVote (id : Fin 5) (upsets : List (Fin 3 × Nat × Bool))
  /-- A Collie's 100 µs heartbeat with its health word reaches the referee (R528). -/
  | collieHeartbeat (e : Side) (memFail : Bool)
  /-- 200 µs without a heartbeat, a fallen health bit or a lost supervisor PLL judges the active Collie lost
    (R531). -/
  | collieHeartbeatTimeout (e : Side)
  /-- A restarted Collie finishes self-test and loading and enters STANDBY (R533). -/
  | collieRestored (e : Side) (loaded ok : Bool)
  /-- Every 1 ms the standby Collie runs its known-answer check (R529). -/
  | collieKatCheck (ok : Bool)
  /-- Every 10 s the standby Collie tests its whole memory (R529). -/
  | collieMemorySweep (ok : Bool)
  /-- Every 1 ms the active Collie sends the standby a mirror transfer, applied whole or discarded (R530). -/
  | mirrorTransfer (applied : Bool)
  /-- The standby's newest transfer becomes older than 2 ms and MIRROR_OK falls (R530). -/
  | mirrorOkLapse
  /-- After 10 s of Collie A eligibility while B is active, a deliberate swap makes A active (R534). -/
  | collieRevert
  /-- A REF_ROLE_CMD write with GO and GUARD swaps the named Collie and time engine, or commits roles while stuck
    (R551). -/
  | refRoleCmd (p : HostPort) (value : Word)
  /-- A REF_FWU_CTL write with GO and GUARD starts an in-service firmware update, or is refused (R537). -/
  | refFwuCtl (p : HostPort) (value : Word)
  /-- The standby finishes fetching and verifying the update image and a deliberate swap follows, or the update
    fails (R538). -/
  | fwuVerifyDone (fetched good : Bool) (image : List Byte) (version : Word)
  /-- The former active Collie verifies the new image and enters STANDBY, ending the update (R538). -/
  | fwuReloadDone (ok : Bool)
  /-- A write of REF_HOST_PREF by the active host commits keel register 2 (R542). -/
  | refHostPrefWrite (p : HostPort) (value : Word)
  /-- Every HEALTH_MS a HEALTH event with code PERIODIC is posted (R550). -/
  | healthPeriodic
  /-- Every 10 s, when a spare has been used, the Collie starts writing a wear copy (R545). -/
  | wearWritePeriod
  /-- A wear copy write ends with its header, or fails and is logged (R545). -/
  | wearWriteEnd (ok : Bool)
  /-- No packet is admitted within 1 µs of the overflow and the sample names no packet (R451). -/
  | pmcSampleTimeout (slice : Slice) (c : Fin 64) (pick : Draw)
  /-- A write of PERF_USER_EN shows or hides BAR4 counter pages within 1 µs (R457). -/
  | perfUserEnWrite (p : HostPort) (value : Word)
  /-- A write of an endpoint profile register takes effect or is refused when it breaks the key rules (R298). -/
  | tblEpProfWrite (p : HostPort) (high : Bool) (t : Fin 16) (value : Word)
  /-- A write to a register without its own row takes effect according to mode, access type and its field rules
    (R563). -/
  | registerWrite (p : HostPort) (offset : BitVec 26) (wide : Bool) (value : DWord)
  /-- Loss of power takes the device from SAVE, or from any mode, to RESET (R38). -/
  | lossOfPower
  /-- Device time passes the calendar base and every enabled calendar begins to gate by its fret in force (R411).
    -/
  | calendarBasePassed
  /-- A lane's PRBS checker gains or loses lock on the received pattern, setting or clearing PRBS_LOCK and counting
    bit errors (R165). -/
  | prbsLock (lane : Lane) (locked : Bool) (errors : DWord)
  /-- The RS detects local fault or receives remote fault from the partner, or either clears, changing
    PT_STAT.LOCAL_FAULT or REMOTE_FAULT (R166). -/
  | rsFault (port : Port) (localFault remoteFault : Bool)
  /-- The host moves a port into D3hot, which stops its DMA as a cleared Bus Master Enable does, or back to D0
    (R70). -/
  | d3hot (p : HostPort) (enter : Bool)
  /-- The IEEE 1149.1 TAP loads an instruction or is reset, selecting BYPASS, EXTEST, SAMPLE/PRELOAD, CLAMP, HIGHZ
    or HSTAP (R584). -/
  | tapInstruction (reset : Bool) (code : Byte)
  deriving DecidableEq, Repr

end Sys2Proof
end

