-- ==== Sys2Proof/Decode.lean ====
section
/-! DEFINITION. The decoder of the block's commands. The spec's table of operations and events gives no row any bits: the
commands reach the block as events and as accesses, not as words. -/
namespace Sys2Proof

/-- The command that a word of `nbits` bits spells: none, since no row of the table has bits. -/
def decodeTableWord (_nbits _w : Nat) : Option Instr := none

end Sys2Proof
end

