-- ==== Sys2Proof/Machine/Bits.lean ====
section
/-! DEFINITION. Byte order, bit fields, sign extension, saturation, and the two checksums (R3, R259, R504). -/
namespace Sys2Proof.Machine

/-- The byte at an index; bytes past the end read as 0. -/
def byteAt (b : List Byte) (i : Nat) : Nat := (b.getD i 0).toNat

/-- `n` bytes from offset `o`; bytes past the end are 0. -/
def cut (b : List Byte) (o n : Nat) : List Byte := (List.range n).map fun i => b.getD (o + i) 0

/-- At most `n` pieces of `k` bytes each, from the front. -/
def chunks (k : Nat) : Nat → List Byte → List (List Byte)
  | 0, _ => []
  | n + 1, b => if b.isEmpty then [] else b.take k :: chunks k n (b.drop k)

/-- A byte list as a little-endian number (R3, numeric fields). -/
def leNat : List Byte → Nat
  | [] => 0
  | x :: r => x.toNat + 256 * leNat r

/-- A byte list in network order as a number (R3, packet fields). -/
def beNat (b : List Byte) : Nat := b.foldl (fun a x => a * 256 + x.toNat) 0

/-- Little-endian field of a descriptor. -/
def le (b : List Byte) (o n : Nat) : Nat := leNat (cut b o n)

/-- Network-order field. -/
def be (b : List Byte) (o n : Nat) : Nat := beNat (cut b o n)

/-- `n` little-endian bytes of a number. -/
def toLE : Nat → Nat → List Byte
  | 0, _ => []
  | n + 1, v => BitVec.ofNat 8 v :: toLE n (v / 256)

/-- `n` bytes of a number in network order. -/
def toBE (n v : Nat) : List Byte := (toLE n v).reverse

/-- Bits `hi` down to `lo` of a number. -/
def bits (v hi lo : Nat) : Nat := (v >>> lo) % 2 ^ (hi + 1 - lo)

/-- One bit of a number. -/
def bit (v i : Nat) : Bool := v.testBit i

/-- A flag as a number. -/
def b2n (b : Bool) : Nat := if b then 1 else 0

/-- The number with bits `hi` down to `lo` replaced by `x`. -/
def setBits (v hi lo x : Nat) : Nat :=
  v - (bits v hi lo) * 2 ^ lo + (x % 2 ^ (hi + 1 - lo)) * 2 ^ lo

/-- A two's-complement number of `w` bits as an integer. -/
def signed (w v : Nat) : Int :=
  if v % 2 ^ w < 2 ^ (w - 1) then (v % 2 ^ w : Nat) else ((v % 2 ^ w : Nat) : Int) - (2 ^ w : Nat)

/-- An integer as a two's-complement number of `w` bits. -/
def unsigned (w : Nat) (v : Int) : Nat := (v % ((2 ^ w : Nat) : Int)).toNat

/-- The number cut to at most `m` (a saturating count). -/
def satTo (m v : Nat) : Nat := if m < v then m else v

/-- A saturating 32-bit count, one more. -/
def satInc (w : Nat) (v : Nat) : Nat := satTo (2 ^ w - 1) (v + 1)

/-- Items of a fault record's DETAIL, packed in the order listed with the first at bit 0; each item is
its width and its value (R504). -/
def packItems : List (Nat × Nat) → Nat
  | [] => 0
  | (w, v) :: r => v % 2 ^ w + 2 ^ w * packItems r

/-- One step of a reflected CRC-32 register over one bit. -/
def crcBit (poly : Nat) (c : Nat) : Nat := if c % 2 = 1 then (c / 2) ^^^ poly else c / 2

/-- One byte into a reflected CRC-32 register. -/
def crcByte (poly c : Nat) (x : Byte) : Nat :=
  crcBit poly (crcBit poly (crcBit poly (crcBit poly (crcBit poly (crcBit poly (crcBit poly
    (crcBit poly ((c ^^^ x.toNat) % 2 ^ 32))))))))

/-- A reflected CRC-32 register after a byte list, without the final inversion. -/
def crcRun (poly init : Nat) (b : List Byte) : Nat := b.foldl (crcByte poly) init

/-- The Castagnoli polynomial, reflected. -/
def polyC : Nat := 0x82F63B78

/-- The IEEE 802.3 polynomial, reflected. -/
def polyE : Nat := 0xEDB88320

/-- The final inversion of a CRC-32. -/
def crcFin (c : Nat) : Nat := (2 ^ 32 - 1) ^^^ (c % 2 ^ 32)

/-- The frame check sequence of IEEE 802.3 over a frame's bytes, as the four bytes sent after them. -/
def fcsOf (b : List Byte) : List Byte := toLE 4 (crcFin (crcRun polyE (2 ^ 32 - 1) b))

end Sys2Proof.Machine
end

