-- ==== Sys2Proof/Machine/Frame.lean ====
section
/-! DEFINITION. Frames as bytes: VLAN tags, the Internet checksum, and the changes an editor makes in place. -/
namespace Sys2Proof.Machine

/-- The bytes with `x` laid over them from offset `o` on; nothing is added past the end. -/
def patch (b : List Byte) (o : Nat) (x : List Byte) : List Byte :=
  (b.take o ++ x ++ b.drop (o + x.length)).take b.length

/-- The bytes with `x` put in before offset `o`. -/
def insertAt (b : List Byte) (o : Nat) (x : List Byte) : List Byte := b.take o ++ x ++ b.drop o

/-- The bytes with `n` of them taken out from offset `o` on. -/
def removeAt (b : List Byte) (o n : Nat) : List Byte := b.take o ++ b.drop (o + n)

/-- A VLAN tag's EtherType (R192). -/
def isTpid (t : Nat) : Bool := decide (t = 0x8100) || decide (t = 0x88A8)

/-- The frame carries an outer VLAN tag. -/
def tagged (b : List Byte) : Bool := isTpid (be b 12 2)

/-- The outer VLAN tag's control word: PCP, DEI, VID. -/
def tci (b : List Byte) : Nat := be b 14 2

/-- The outer PCP, none for an untagged frame. -/
def pcpOf (b : List Byte) : Option Nat := if tagged b then some (bits (tci b) 15 13) else none

/-- The offset of the EtherType after the last VLAN tag, from offset `o`, over at most `n` tags. -/
def afterTags (b : List Byte) : Nat → Nat → Nat
  | 0, o => o
  | n + 1, o => if isTpid (be b o 2) then afterTags b n (o + 4) else o

/-- The offset of the EtherType that follows the VLAN tags. -/
def typeOff (b : List Byte) : Nat := afterTags b 8 12

/-- The frame carries an R-TAG after its VLAN tags (R426). -/
def hasRtag (b : List Byte) : Bool := decide (be b (typeOff b) 2 = 0xF1C1)

/-- Its sequence number. -/
def rtagSeq (b : List Byte) : Nat := be b (typeOff b + 4) 2

/-- Insert an R-TAG with a sequence number, or replace the number of the one there (R426). -/
def setRtag (b : List Byte) (seq : Nat) : List Byte :=
  if hasRtag b then patch b (typeOff b + 4) (toBE 2 seq)
  else insertAt b (typeOff b) (toBE 2 0xF1C1 ++ toBE 2 0 ++ toBE 2 seq)

/-- Remove the R-TAG (R427). -/
def popRtag (b : List Byte) : List Byte := if hasRtag b then removeAt b (typeOff b) 6 else b

/-- Set DEI of the outer VLAN tag (R386). -/
def setDei (b : List Byte) : List Byte := if tagged b then patch b 14 (toBE 2 (setBits (tci b) 12 12 1)) else b

/-- The sum of 16-bit words in one's complement. -/
def onesSum : List Byte → Nat → Nat
  | x :: y :: r, a => let v := a + x.toNat * 256 + y.toNat; onesSum r (v % 65536 + v / 65536)
  | [x], a => let v := a + x.toNat * 256; v % 65536 + v / 65536
  | [], a => a

/-- A checksum field after one 16-bit word under it has changed (RFC 1624). -/
def csumUpdate (sum old new : Nat) : Nat :=
  let v := (65535 - sum) + (65535 - old % 65536) + new % 65536
  let v1 := v % 65536 + v / 65536
  65535 - (v1 % 65536 + v1 / 65536)

/-- Fill the total length and header checksum of the IPv4 header at `off` (R358). -/
def fillIp4 (b : List Byte) (off : Nat) : List Byte :=
  let b1 := patch (patch b (off + 2) (toBE 2 (b.length - off))) (off + 10) [0, 0]
  let hl := byteAt b1 off % 16 * 4
  patch b1 (off + 10) (toBE 2 (65535 - onesSum (cut b1 off hl) 0))

/-- The frame without its FCS. -/
def body (b : List Byte) : List Byte := b.take (b.length - 4)

/-- The frame's last four bytes are its FCS. -/
def fcsGood (b : List Byte) : Bool := decide (4 ≤ b.length) && decide (b.drop (b.length - 4) = fcsOf (body b))

/-- The bytes with their FCS. -/
def withFcs (b : List Byte) : List Byte := b ++ fcsOf b

/-- The bytes with the inverted FCS that stomps a frame (R343). -/
def stomped (b : List Byte) : List Byte := b ++ (fcsOf b).map fun x => ~~~ x

/-- The bytes padded with zeros to a length. -/
def padTo (n : Nat) (b : List Byte) : List Byte := b ++ List.replicate (n - b.length) 0

end Sys2Proof.Machine
end

