-- ==== Sys2Proof/Config.lean ====
section
/-! DEFINITION. What one part of the device fixes and the spec leaves to the part: values no proof can see. -/
namespace Sys2Proof

/-- The device serial number held by the secure element (R548). -/
opaque Config.serial : DWord

/-- The internal header that the first 64 bytes of an extent hold, by instant and frame: R305 does not give its layout. -/
opaque Config.extHeader : Nat → List Byte → BitVec 512

/-- Whether spare tile `i` of this part fails the pattern check of R323 when it is taken (R329). -/
opaque Config.spareFails : Nat → Bool

/-- A result word that the spec does not state, by the serial number of the command that returns it. -/
opaque Config.freeResult : Nat → Word

/-- The certificate chain in slot 0 of the secure element (R548). -/
opaque Config.certChain : List Byte

/-- The signature that the secure element makes of data with its identity key (R548). -/
opaque Config.sign : List Byte → List Byte

/-- Coryel's PCI vendor ID, which the spec names without its value (R71). -/
opaque Config.vendorId : BitVec 16

/-- The nonce of a signed SPDM response, by the model's serial number of the response. -/
opaque Config.nonce : Nat → List Byte

/-- How trace-type bit 4 shows a transit delay below 0, by its magnitude in ns: R440 states nothing for it. -/
opaque Config.negativeDelay : Nat → Word

/-- The number that names the internal oscillator in a clock record: R497 gives it none. -/
opaque Config.oscillator : Nat

end Sys2Proof
end

