-- ==== Sys2Proof/Machine/RegMap.lean ====
section
/-! DEFINITION. The register map of BAR0 (R554 to R560): where each stored register lies, its access type, the bits a
write reaches and its value after reset. Registers whose value the device forms as it runs are read in Flags.lean. -/
namespace Sys2Proof.Machine

/-- The offset lies in an array of `n` registers of a stride. -/
def inArr (o base stride n : Nat) : Bool :=
  decide (base ≤ o) && decide ((o - base) % stride = 0) && decide ((o - base) / stride < n)

/-- The value lies in a range. -/
def within (lo hi x : Nat) : Bool := decide (lo ≤ x) && decide (x ≤ hi)

/-- A slice register (R558). -/
def slReg (n : Nat) (o : Nat) : Nat := 0x100000 + n * 0x10000 + o
/-- A port register (R559). -/
def ptReg (p : Nat) (o : Nat) : Nat := 0x200000 + p * 0x1000 + o
/-- A harp register (R560). -/
def hpReg (h : Nat) (o : Nat) : Nat := 0x400000 + h * 0x10000 + o
/-- A lane register of device lane `l` (R14, R560). -/
def laneReg (l : Nat) (o : Nat) : Nat := hpReg (l / 32) (0x1000 + (l % 32) * 0x100 + o)
/-- A host-port register (R557). -/
def hiReg (p : HostPort) (o : Nat) : Nat :=
  match p with
  | .ha => 0x10000 + o
  | .hb => 0x18000 + o

/-- Reset values of the device-wide blocks (R556), of the registers that are stored. -/
def resetDev (o : Nat) : Nat :=
  if o = 0x20018 then 0x3E8
  else if o = 0x40004 then 0x0032001E
  else if inArr o 0x40040 4 16 then 0xFF00
  else if o = 0x50008 then 0x1010
  else if o = 0x50010 then 0x3B9ACA00
  else if o = 0x60010 then 0x00640000
  else if o = 0x80000 then 0x40000
  else if o = 0x80004 then 0x20000
  else if o = 0x80008 then 0x12492
  else if o = 0x8000C then 0x6666
  else if o = 0x80060 then 0x3E82
  else if inArr o 0x80100 4 16 then 0x7000
  else if inArr o 0x80140 4 16 then 0x70000
  else if o = 0x90000 then 0x00140002
  else if o = 0x90004 then 0x0001FFFF
  else if inArr o 0x90200 4 16 then 0x00400000
  else if inArr o 0x90408 16 16 then 0x04000001
  else if inArr o 0x9040C 16 16 then 0x00400040
  else if o = 0xA0000 then 0x00100010
  else if o = 0xA0004 then 3
  else if o = 0xB0000 then 0x0003005A
  else if inArr o 0xB0080 4 32 then 0xFFFFFFFF
  else 0

/-- Reset values of a host-port half (R557). -/
def resetHi (o : Nat) : Nat :=
  if o = 8 then 0x64
  else if o = 0xC then 0x2710
  else if inArr o 0x800 4 64 then 1
  else 0

/-- Reset values of a slice block (R558). -/
def resetSl (o : Nat) : Nat :=
  if o = 0x100 then 0x60
  else if o = 0x104 then 0x40
  else if o = 0x120 then 0xA01
  else if inArr o 0x200 4 32 then 0x00400000
  else if o = 0x420 then 0x01AD03C0
  else if o = 0x424 then 0xFFFFFFFF
  else if o = 0x700 then 4
  else 0

/-- Reset values of a port block (R559). -/
def resetPt (o : Nat) : Nat :=
  if o = 0 then 0x40
  else if o = 0xC then 0x27C0
  else if o = 0x1C then 0x1001
  else if o = 0x20 then 0x00FAC688
  else if o = 0x180 then 0x80
  else if o = 0x1C0 then 0xAC00
  else 0

/-- What the stored register at a BAR0 offset holds after reset (R555 to R560). -/
def regReset (o : Nat) : Word :=
  BitVec.ofNat 32
    (if o < 0x10000 then 0
     else if o < 0x20000 then resetHi ((o - 0x10000) % 0x8000)
     else if o < 0x100000 then resetDev o
     else if o < 0x200000 then resetSl ((o - 0x100000) % 0x10000)
     else if o < 0x400000 then resetPt ((o - 0x200000) % 0x1000)
     else if o < 0x500000 then 0
     else if inArr o 0x504000 16 1024 then 0x20
     else if inArr o 0x504004 16 1024 then 0x64
     else 0)

/-- The low half of a 64-bit register that software writes (R7, R74). -/
def isWide (o : Nat) : Bool :=
  decide (o = 0x20) || decide (o = 0x20020) || decide (o = 0x60018) || decide (o = 0x60020) || inArr o 0x60100 0x20 8
    || (decide (0x10000 ≤ o) && decide (o < 0x20000) &&
        (let x := (o - 0x10000) % 0x8000
         decide (0x1000 ≤ x) && decide (x < 0x5000) && (decide (x % 0x40 = 0) || decide (x % 0x40 = 8))))

/-- The low half of a 64-bit counter (R167, R250, R298, R332, R365, R390, R450, R458). -/
def isCounter (o : Nat) : Bool :=
  decide (o % 8 = 0) &&
    (if o < 0x100000 then
      within 0x70200 0x70237 o || within 0x80200 0x8025F o || within 0x90800 0x9086F o || within 0x90A00 0x90AFF o
        || within 0xA0100 0xA0117 o || within 0xB0200 0xB022F o
    else if o < 0x200000 then
      (let x := o % 0x10000
       within 0x140 0x18F x || within 0x340 0x35F x || within 0x440 0x47F x || decide (x = 0x580) || within 0x900 0x93F x
         || within 0xA00 0xBFF x)
    else if o < 0x400000 then (let x := o % 0x1000; within 0x400 0x53F x || within 0x600 0x6FF x)
    else decide (o < 0x500000) && within 0x1000 0x2FFF (o % 0x10000) && decide (o % 0x100 = 0x10))

/-- The low half of a 64-bit register that software only reads (R7, R74): T_s of the last swap, FLT_LOST's seconds, device
time, a capture's seconds, the snapshot's time, ID_SERIAL, the counters; and CAL_BASE_SEC. -/
def isWideRo (o : Nat) : Bool :=
  [0x140, 0x30088, 0x60000, 0x70010, 0xC0000, 0x500000].contains o || inArr o 0x60200 0x20 4 || isCounter o

end Sys2Proof.Machine
end

