-- ==== Sys2Proof/Machine/Map.lean ====
section
/-! DEFINITION. Sparse maps as plain data: a list of key and value pairs in one canonical form (keys strictly
rising, no pair equal to what an unlisted key reads as), so that equal maps are equal lists. -/
namespace Sys2Proof.Machine

/-- A sparse map from numbers: what an unlisted key reads as is the reader's default. -/
abbrev SMap (α : Type) := List (Nat × α)

/-- The value at a key, `d` where the key is not listed. -/
def SMap.get {α : Type} (d : α) : SMap α → Nat → α
  | [], _ => d
  | (k, v) :: r, i => if i = k then v else SMap.get d r i

/-- The map without a key. -/
def SMap.erase {α : Type} : SMap α → Nat → SMap α
  | [], _ => []
  | (k, v) :: r, i => if i = k then r else (k, v) :: SMap.erase r i

/-- The map with a key listed at a value, in its place in the order. -/
def SMap.put {α : Type} : SMap α → Nat → α → SMap α
  | [], i, x => [(i, x)]
  | (k, v) :: r, i, x =>
    if i < k then (i, x) :: (k, v) :: r
    else if i = k then (i, x) :: r
    else (k, v) :: SMap.put r i x

/-- The map with a key's value written: writing the default removes the entry. -/
def SMap.set {α : Type} [DecidableEq α] (d : α) (m : SMap α) (i : Nat) (x : α) : SMap α :=
  if x = d then m.erase i else m.put i x

/-- Every key of the list is above a bound. -/
def SMap.above {α : Type} : SMap α → Nat → Bool
  | [], _ => true
  | (k, _) :: r, b => decide (b < k) && SMap.above r k

/-- The canonical form: keys strictly rising and no entry equal to what its key reads as unlisted. -/
def SMap.wf {α : Type} [DecidableEq α] (d : Nat → α) : SMap α → Bool
  | [] => true
  | (k, v) :: r => SMap.above r k && decide (v ≠ d k) && SMap.wf d r

/-- The map of a list of values at consecutive keys from `k` on. -/
def SMap.ofList {α : Type} [DecidableEq α] (d : α) : Nat → List α → SMap α
  | _, [] => []
  | k, x :: r => if x = d then SMap.ofList d (k + 1) r else (k, x) :: SMap.ofList d (k + 1) r

/-- The values listed. -/
def SMap.vals {α : Type} (m : SMap α) : List α := m.map Prod.snd

/-- The map with the entries kept that satisfy a test of key and value. -/
def SMap.keep {α : Type} (p : Nat → α → Bool) (m : SMap α) : SMap α := m.filter fun e => p e.1 e.2

end Sys2Proof.Machine
end

