-- ==== Sys2Proof/Machine/State.lean ====
section
/-! DEFINITION. The state of the device as plain data: every register, buffer, counter, mode and pin the spec gives
it, the commands waiting at the block, the reasons a step can stop, and the state after reset. -/
namespace Sys2Proof.Machine

/-- Reasons a step stops with a fault. No meaning raises one: the spec describes every fault of this device as a
record, a status or a mode change, all of them next states. Safe: it is never raised. -/
inductive Fault
  /-- Kept so that the type is not empty; raised by no meaning (safe). -/
  | none
  deriving DecidableEq, Repr

/-- Reasons a step is refused. -/
inductive Refusal
  /-- An arm of the dispatch that has no meaning yet (safe: it stops). Raised by the dispatch alone. -/
  | notModelled (mnemonic : String)
  deriving DecidableEq, Repr

/-- The eight major modes (R36). -/
inductive Mode
  | reset
  | boot
  | configure
  | forward
  | drain
  | park
  | save
  | safe
  deriving DecidableEq, Repr

/-- The mode's encoding in GL_MODE.CUR (R57). -/
def Mode.code : Mode → Nat
  | .reset => 0
  | .boot => 1
  | .configure => 2
  | .forward => 3
  | .drain => 4
  | .park => 5
  | .save => 6
  | .safe => 7

/-- The mode an encoding names, RESET for the codes that are not used (R57). -/
def Mode.ofCode : Nat → Mode
  | 1 => .boot
  | 2 => .configure
  | 3 => .forward
  | 4 => .drain
  | 5 => .park
  | 6 => .save
  | 7 => .safe
  | _ => .reset

/-- Fault classes (R499). -/
inductive Cls
  | ce
  | uc
  | ft
  deriving DecidableEq, Repr

/-- The class's code in a record (R499). -/
def Cls.code : Cls → Nat
  | .ce => 1
  | .uc => 2
  | .ft => 3

/-- What an observer outside the device sees, newest first in the state: the model's own observation. -/
inductive Out
  /-- A memory write on a host port (R79): address and bytes. -/
  | dma (p : HostPort) (addr : Nat) (data : List Byte)
  /-- An MSI-X message of a vector (R112). -/
  | msix (p : HostPort) (vec : Nat)
  /-- A frame sent at a port with its FCS; `bad` when it leaves with an inverted FCS (R343). -/
  | frame (port : Nat) (data : List Byte) (bad : Bool)
  /-- A fragment of a preempted frame sent at a port; `last` when the frame ends with it (R419). -/
  | fragment (port : Nat) (data : List Byte) (last bad : Bool)
  /-- An LX training frame sent on a lane: its control and its status field (R147). -/
  | training (lane control status : Nat)
  /-- A level driven on TIME_OUT pin `i` (R403). -/
  | pulse (pin : Nat) (level : Bool)
  /-- A PMBus transaction: the address, the command, and the byte that it writes, none for a read (R461). -/
  | pmbus (addr cmd : Nat) (data : Option Nat)
  deriving DecidableEq, Repr

/-! ## Modes and boot (chapter 02) -/

/-- GL_BOOT_STAT.PHASE (R60). -/
inductive Phase
  | clocks
  | selftest
  | waitFw
  | fwFetch
  | fwVerify
  | roleProof
  | kennel
  | done
  deriving DecidableEq, Repr

/-- The phase's code (R60). -/
def Phase.code : Phase → Nat
  | .clocks => 0
  | .selftest => 1
  | .waitFw => 2
  | .fwFetch => 3
  | .fwVerify => 4
  | .roleProof => 5
  | .kennel => 6
  | .done => 7

/-- A transition that is asked for and not yet complete (R38, R44, R46). -/
structure ModeReq where
  /-- The serial number of the MODE_REQUEST command, or none for a GL_MODE_REQ transition. -/
  cmd : Option Nat
  target : Mode
  /-- The end of the flush time, none when the device waits without limit (R44). -/
  flushAt : Option Nat
  linkDown : Bool
  deriving DecidableEq, Repr

/-- Modes and boot: GL_MODE, GL_MODE_REQ, GL_BOOT_STAT and what a fetch of the firmware needs. The current mode is
keel register 0 (R522). -/
structure ModeSt where
  prev : Mode
  cause : Nat
  reqTarget : Nat
  reqResult : Nat
  req : Option ModeReq
  /-- The PARK link option in force is LINK_DOWN (R47). -/
  parkDown : Bool
  phase : Phase
  bootResult : Nat
  saveValid : Bool
  collieAOk : Bool
  collieBOk : Bool
  /-- GL_FW_LEN was written in BOOT and the fetch has not started (R62). -/
  fwAsked : Bool
  /-- A fetch has started since RESET was last left (R61). -/
  fwStarted : Bool
  /-- The instant of the GL_FW_LEN write that asked for the fetch. -/
  fwWriteAt : Nat
  /-- The instant the self-test ended. -/
  selftestAt : Nat
  /-- In RESET after a failed firmware check the host ports are live (R38). -/
  hostLive : Bool
  /-- The instant BOOT was entered from the rise of RESET_N or the end of a device reset. -/
  bootAt : Nat
  /-- The device reset in progress began at this instant (R66). -/
  resetAt : Option Nat
  deriving DecidableEq, Repr

/-! ## Host ports and rings (chapter 03) -/

/-- The ring block of one ring (R87) and its doorbells (R81). Positions are 17 bits, LAP in bit 16 (R77). -/
structure Ring where
  base : Nat
  cbase : Nat
  log2n : Nat
  vector : Nat
  irqEn : Bool
  typ : Nat
  en : Bool
  active : Bool
  ptr : Nat
  cptr : Nat
  prod : Nat
  cons : Nat
  /-- The last value accepted at each doorbell offset, which a read returns (R81). -/
  dbProd : Nat
  dbCons : Nat
  dbErr : Bool
  dmaErr : Bool
  descErr : Bool
  cfgErr : Bool
  drop : Nat
  wcount : Nat
  seq : Nat
  deriving DecidableEq, Repr

/-- A ring block after reset (R87): LOG2N reads 6, all else 0. -/
def Ring.zero : Ring :=
  { base := 0, cbase := 0, log2n := 6, vector := 0, irqEn := false, typ := 0, en := false, active := false,
    ptr := 0, cptr := 0, prod := 0, cons := 0, dbProd := 0, dbCons := 0, dbErr := false, dmaErr := false, descErr := false,
    cfgErr := false, drop := 0, wcount := 0, seq := 0 }

/-- An MSI-X vector's moderation (R112, R113). -/
structure Vec where
  count : Nat
  since : Nat
  pend : Bool
  deriving DecidableEq, Repr

/-- A vector with nothing pending. -/
def Vec.zero : Vec := { count := 0, since := 0, pend := false }

/-- SPDM state of a port (R128, R129): how far the connection has come, and whether a request is under way. -/
inductive Spdm
  | idle
  | version
  | capabilities
  | negotiated
  deriving DecidableEq, Repr

/-- A memory write that fell due while its port could issue none (R72), with the ring it belongs to. -/
structure Held where
  ring : Nat
  addr : Nat
  data : List Byte
  deriving DecidableEq, Repr

/-- One half of the HI block with its port (R86). -/
structure Half where
  linkUp : Bool
  rate : Nat
  width : Nat
  bme : Bool
  d3hot : Bool
  /-- PERST of the port is low (R579). -/
  perst : Bool
  supervised : Bool
  noStandby : Bool
  lastCause : Nat
  changes : Nat
  /-- The instant of the last heartbeat (R116). -/
  beat : Option Nat
  /-- The instant since which the heartbeat age has stayed below its timeout (R117). -/
  below : Option Nat
  evtLost : SMap Nat
  vec : SMap Vec
  msix : SMap Nat
  rings : SMap Ring
  busy : Bool
  /-- When the host-interface reset in progress began (R63). -/
  busyAt : Nat
  /-- Memory writes that fell due while the port could issue none (R72). -/
  held : List Held
  /-- Mirrored completions of the other port's commands that came after this port became active and wait for an idle
  ring (R125): ring and entry. -/
  late : List (Nat × List Byte)
  spdm : Spdm
  /-- The response that the DOE mailbox holds (R128): the SPDM response code and its payload. -/
  doe : Option (Nat × List Byte)
  deriving DecidableEq, Repr

/-- A host port's half after reset. -/
def Half.zero : Half :=
  { linkUp := false, rate := 0, width := 0, bme := false, d3hot := false, perst := true, supervised := false,
    noStandby := false, lastCause := 0, changes := 0, beat := none, below := none, evtLost := [], vec := [],
    msix := [], rings := [], busy := false, busyAt := 0, held := [], late := [], spdm := .idle, doe := none }

/-- A fetched command that has not completed (R92, R98), in the order of fetching over all rings. -/
structure Cmd where
  port : HostPort
  ring : Nat
  /-- Its slot's position: index and lap (R77). -/
  pos : Nat
  bytes : List Byte
  /-- The model's own number of the command, in the order of fetching. -/
  serial : Nat
  /-- The command has started and waits for a later event. -/
  waiting : Bool
  /-- Its port took a host-interface reset: it finishes and writes no completion (R64, R65). -/
  mute : Bool
  /-- Device time at its fetch, in units of 2^-16 ns (R414). -/
  fetched : Nat
  deriving DecidableEq, Repr

/-- Host-port state outside the halves: role triggers held (R118) and pins. -/
structure HostSt where
  ha : Half
  hb : Half
  /-- A heartbeat, link or HOST_SEL_N trigger stands and waits for its further condition (R118). -/
  heldBeat : Bool
  heldLink : Bool
  heldSel : Bool
  /-- A handover trigger came while keel register 1 was stuck (R120). -/
  heldHand : Bool
  /-- The 100 ms boot choice has been made (R115). -/
  bootChosen : Bool
  deriving DecidableEq, Repr

/-- What a tester has set in a lane through the high-speed test access port (R585): the pattern word in the layout of
PT_TEST, near-end loopback, and what the lane's checker shows. -/
structure LaneTest where
  word : Nat
  nearEnd : Bool
  lock : Bool
  errs : Nat
  deriving DecidableEq, Repr

/-- A lane that no tester has touched. -/
def LaneTest.zero : LaneTest := { word := 0, nearEnd := false, lock := false, errs := 0 }

/-- Levels of the sideband pins, the sampled straps and the test port (chapter 18). -/
structure Pins where
  resetN : Bool
  pwrfailN : Bool
  hostSelN : Bool
  strap : Nat
  /-- The instruction in the IEEE 1149.1 instruction register (R584). -/
  tap : Nat
  /-- What a tester has set in the lanes (R585). -/
  bench : SMap LaneTest
  deriving DecidableEq, Repr

/-! ## Faults and keel registers (chapter 15) -/

/-- A report raised and not yet recorded (R506), or a record made of it (R503). -/
structure Rec where
  src : Nat
  code : Nat
  cls : Cls
  injected : Bool
  /-- Log number; 0 while the report is pending. -/
  number : Nat
  /-- Device time of detection in units of 2^-16 ns. -/
  time : Nat
  /-- True instant of detection, which orders reports (R506). -/
  seen : Nat
  detail : Nat
  deriving DecidableEq, Repr

/-- An armed injection (R518). -/
structure Inject where
  slot : Nat
  source : Nat
  checker : Nat
  double : Bool
  index : Nat
  left : Nat
  deriving DecidableEq, Repr

/-- One copy of a keel register with whether its check code is good. -/
structure KeelCopy where
  val : Nat
  ok : Bool
  deriving DecidableEq, Repr

/-- A keel register (R521 to R525). -/
structure Keel where
  c0 : KeelCopy
  c1 : KeelCopy
  c2 : KeelCopy
  voted : Nat
  stuck : Bool
  /-- The copy marked bad (R525). -/
  bad : Option Nat
  /-- Repairs of the last second: copy and instant (R525). -/
  fixes : List (Nat × Nat)
  fixLogged : Option Nat
  refusedLogged : Option Nat
  deriving DecidableEq, Repr

/-- A keel register holding a value in all three copies. -/
def Keel.of (v : Nat) : Keel :=
  { c0 := { val := v, ok := true }, c1 := { val := v, ok := true }, c2 := { val := v, ok := true }, voted := v,
    stuck := false, bad := none, fixes := [], fixLogged := none, refusedLogged := none }

/-- The value of keel register `i` after reset (R522): mode RESET, roles A, A and HA, preference HA, PWR_CAP's reset
value (R556), calendar base 0. -/
def Keel.reset : Nat → Keel
  | 3 => Keel.of 0x0810044C
  | _ => Keel.of 0

/-- The fault collector (R526). -/
structure FaultSt where
  pend : List Rec
  /-- Reports that one step raises behind another of the same source: each becomes pending as the one before it is
  recorded. -/
  follow : List Rec
  srcCnt : SMap Nat
  classCe : Nat
  classUc : Nat
  classFt : Nat
  frozen : Bool
  selfFault : Bool
  selfCe : Nat
  coalesced : Nat
  fatal : Nat
  firstValid : Bool
  later : Nat
  /-- Reports raised since VALID was last cleared and before a latch (R509). -/
  raised : Nat
  first : Option Rec
  /-- The history, newest first, at most 2,047 records (R507). -/
  hist : List Rec
  last : Nat
  lostValid : Bool
  lostCount : Nat
  lostTime : Nat
  keelFix : Nat
  inj : List Inject
  consumed : Nat
  keel0 : Keel
  keel1 : Keel
  keel2 : Keel
  keel3 : Keel
  keel4 : Keel
  deriving DecidableEq, Repr

/-! ## Clocks (chapter 14) -/

/-- A clock's judge (R492): its judgement, and its runs of passing and failing windows. -/
structure Judge where
  stable : Bool
  pass : Nat
  fail : Nat
  deriving DecidableEq, Repr

/-- A judge that has seen no window. -/
def Judge.zero : Judge := { stable := false, pass := 0, fail := 0 }

/-- Clocks and the oscillator's trim (R498). -/
structure ClockSt where
  judge : SMap Judge
  ref0Present : Bool
  ref1Present : Bool
  sysRef1 : Bool
  switches : Nat
  pipeCur : Nat
  /-- The instant of the last step of the pipeline clock (R496). -/
  lastStep : Option Nat
  trimCode : Nat
  trimErr : Int
  trimLocked : Bool
  /-- The instant of the last usable measurement (R495). -/
  trimGood : Nat
  /-- The trim source is lost and logged (R495). -/
  trimLost : Bool
  /-- Device time of the last rising edge of the trim pin, in units of 2^-16 ns (R495). -/
  trimEdge : Option Nat
  deriving DecidableEq, Repr

/-! ## Referee, kennel and identity (chapter 16) -/

/-- Collie states (R527). -/
inductive CollieState
  | off
  | selftest
  | loading
  | standby
  | active
  | failed
  deriving DecidableEq, Repr

/-- The state's code (R527). -/
def CollieState.code : CollieState → Nat
  | .off => 0
  | .selftest => 1
  | .loading => 2
  | .standby => 3
  | .active => 4
  | .failed => 5

/-- One Collie (R528, R551). -/
structure Collie where
  state : CollieState
  alive : Bool
  memOk : Bool
  katOk : Bool
  mirrorOk : Bool
  fwOk : Bool
  fails : Nat
  beat : Option Nat
  /-- The instant its restart brought it back, for the 1 h rule (R533). -/
  restored : Option Nat
  /-- In STANDBY and eligible without a break since (R534). -/
  since : Option Nat
  /-- The instant of the newest whole mirror transfer (R530). -/
  mirrorAt : Option Nat
  version : Nat
  deriving DecidableEq, Repr

/-- A Collie in OFF. -/
def Collie.zero : Collie :=
  { state := .off, alive := false, memOk := false, katOk := false, mirrorOk := false, fwOk := false, fails := 0,
    beat := none, restored := none, since := none, mirrorAt := none, version := 0 }

/-- What the standby Collie holds of the newest mirror transfer and a takeover uses (R530, R531): the coefficients of the
lanes, and the integrators of the power loop. -/
structure Mirror where
  lanes : SMap Nat
  gain : Nat
  eSum : Nat
  eNum : Nat
  disagree : Nat
  deriving DecidableEq, Repr

/-- The steps of a firmware update in service (R538): the standby that fetches the image, then the Collie that reloads. -/
inductive Fwu
  | none
  | fetching (e : Side)
  | reloading (e : Side)
  deriving DecidableEq, Repr

/-- The wear content: the uses of spares that a wear copy holds (R544), keyed as the copy lays them out. -/
structure Wear where
  /-- Key 128 × slice + engine. -/
  terriers : SMap Nat
  retired : Nat
  /-- Key (2h + d) × 64 + j; value the entry's 16 bits. -/
  d2d : SMap Nat
  /-- Key (32n + b) × 64 + s; value the entry's 16 bits. -/
  tcam : SMap Nat
  lost : List Nat
  withdrawn : List Nat
  /-- Key spare i; value the entry's 32 bits. -/
  tiles : SMap Nat
  deriving DecidableEq, Repr

/-- No use of any spare. -/
def Wear.zero : Wear :=
  { terriers := [], retired := 0, d2d := [], tcam := [], lost := [], withdrawn := [], tiles := [] }

/-- One wear copy of the kennel. -/
structure WearCopy where
  valid : Bool
  seq : Nat
  wear : Wear
  deriving DecidableEq, Repr

/-- One save area of the kennel (R481): valid or not, its SEQ, and the bytes of its content from offset 0. -/
structure SaveArea where
  valid : Bool
  seq : Nat
  bytes : List Byte
  deriving DecidableEq, Repr

/-- What survives every reset: the kennel (R544). -/
structure Kennel where
  copy0 : WearCopy
  copy1 : WearCopy
  save0 : SaveArea
  save1 : SaveArea
  /-- The customer-key hash of R200, 48 bytes once provisioned. -/
  keyHash : Option (List Byte)
  deriving DecidableEq, Repr

/-- The referee and the identity block (R551, R552). -/
structure RefSt where
  a : Collie
  b : Collie
  cmdErr : Bool
  fwu : Fwu
  fwuErr : Bool
  swaps : Nat
  failovers : Nat
  /-- The mirror that the standby holds. -/
  mirror : Option Mirror
  wear : Wear
  /-- A spare has been used since the last write of a wear copy (R545). -/
  wearDirty : Bool
  /-- The copy that a wear write under way writes. -/
  wearWriting : Option Nat
  wearErr : Bool
  wearAt : Option Nat
  /-- The copy that holds the newest valid record (R552). -/
  wearCopy : Nat
  /-- ID_WEAR_SUM as of the last successful write (R552). -/
  wearSum : List Nat
  seFault : Bool
  seReady : Bool
  /-- SHA-384 digests of the firmware, vendor A, B and customer A, B images (R549), none where no valid image. -/
  meas : SMap (List Byte)
  /-- When the last PERIODIC event was posted (R550). -/
  healthAt : Option Nat
  deriving DecidableEq, Repr

/-! ## Harps, lanes and ports (chapter 04) -/

/-- Port states (R142). -/
inductive PState
  | disabled
  | adminDown
  | detect
  | an
  | train
  | align
  | up
  | test
  deriving DecidableEq, Repr

/-- The state's code in PT_STAT.STATE (R142). -/
def PState.code : PState → Nat
  | .disabled => 0
  | .adminDown => 1
  | .detect => 2
  | .an => 3
  | .train => 4
  | .align => 5
  | .up => 6
  | .test => 7

/-- A port's status (R166) and what it received of flow control (R160). -/
structure PortSt where
  state : PState
  cfgErr : Bool
  localFault : Bool
  remoteFault : Bool
  fecDegrade : Bool
  d2dDown : Bool
  reversed : Bool
  downCount : Nat
  /-- The instant the state was entered (R142, R143). -/
  since : Nat
  /-- 1 ms windows in a row with uncorrectable codewords, at most 3 (R166). -/
  fecRun : Nat
  /-- FEC_CW_UNCORR at the start of the window. -/
  fecBase : Nat
  /-- Classes paused, with the end of each pause in picoseconds of true time (R160, R161). -/
  pause : SMap Nat
  /-- What has been received of a preempted frame (R419). -/
  asm : List Byte
  deriving DecidableEq, Repr

/-- A port after reset: DISABLED. -/
def PortSt.zero : PortSt :=
  { state := .disabled, cfgErr := false, localFault := false, remoteFault := false, fecDegrade := false,
    d2dDown := false, reversed := false, downCount := 0, since := 0, fecRun := 0, fecBase := 0, pause := [], asm := [] }

/-- A lane (R169, R148, R149). -/
structure LaneSt where
  sigDet : Bool
  cdrLock : Bool
  trained : Bool
  polInv : Bool
  prbsLock : Bool
  peerLane : Nat
  margin : Nat
  /-- Coefficients, precoder and polarity in use (HP_LANE_TXEQ_CUR). -/
  cur : Nat
  prbsErr : Nat
  /-- The control word of the last training frame with good parity (R148). -/
  lastReq : Option Nat
  /-- RESULT and PRECODE_ON of the next training frame's status (R147, R148). -/
  result : Nat
  precodeOn : Bool
  /-- TARGET of the last request that this lane's transmitter has acted on, echoed in its status (R147). -/
  echo : Nat
  /-- Bits 12 to 1 of the control field that this lane sent last: the device's own request and RX_READY (R147, R149). -/
  own : Nat
  /-- Training frames in a row with the partner's RX_READY (R149). -/
  ready : Nat
  /-- The lane is parked (R477). -/
  parked : Bool
  deriving DecidableEq, Repr

/-- A lane after reset. -/
def LaneSt.zero : LaneSt :=
  { sigDet := false, cdrLock := false, trained := false, polInv := false, prbsLock := false, peerLane := 0,
    margin := 0, cur := 0, prbsErr := 0, lastReq := none, result := 0, precodeOn := false, echo := 0,
    own := 0, ready := 0, parked := false }

/-- Ports, lanes and die-to-die links. -/
structure PortsSt where
  ports : SMap PortSt
  lanes : SMap LaneSt
  /-- HP_PLL_STAT.LOCK of each harp (R169). -/
  pllLock : SMap Bool
  /-- Spare wires in use by link and direction, key 2h + d with d = 0 harp to core (R18). -/
  d2d : SMap Nat
  deriving DecidableEq, Repr

/-- Ports after reset. -/
def PortsSt.reset : PortsSt := { ports := [], lanes := [], pllLock := [], d2d := [] }

/-! ## Slices: parse engines, control store, trees, TCAM and tables (chapters 05 to 07) -/

/-- An image on its way into a bank (R197, R223): the command it answers and its bytes. -/
structure Load where
  cmd : Nat
  image : List Byte
  /-- REGION 1 of a control-store image, and its PROVISION option. -/
  cust : Bool
  provision : Bool
  deriving DecidableEq, Repr

/-- A control-store bank (R195): words by address, dispatch entries by table × 256 + entry, start entries. -/
structure CsBank where
  valid : Bool
  load : Option Load
  cust : Bool
  verV : Nat
  verC : Nat
  words : SMap Nat
  dtab : SMap Nat
  start : SMap Nat
  deriving DecidableEq, Repr

/-- A bank after reset (R210). -/
def CsBank.zero : CsBank :=
  { valid := false, load := none, cust := false, verV := 0, verC := 0, words := [], dtab := [], start := [] }

/-- A tree bank (R217): root table, selection table and units of 64 bytes. -/
structure TreeBank where
  valid : Bool
  load : Option Load
  ver : Nat
  roots : SMap Nat
  sel : SMap Nat
  units : SMap (List Byte)
  deriving DecidableEq, Repr

/-- A tree bank after reset. -/
def TreeBank.zero : TreeBank := { valid := false, load := none, ver := 0, roots := [], sel := [], units := [] }

/-- An ACL entry, at its first row (R227). Value and care mask are the numbers of `10 × width` bytes in key order. -/
structure AclEnt where
  width : Nat
  prio : Nat
  genmask : Nat
  action : Nat
  value : Nat
  care : Nat
  deriving DecidableEq, Repr

/-- A prefix in an LPM bank, at its first row (R281, R282). -/
structure LpmEnt where
  v6 : Bool
  plen : Nat
  vrf : Nat
  /-- The address, 32 bits for IPv4 and 128 for IPv6, bits beyond the length 0. -/
  pfx : Nat
  result : Nat
  deriving DecidableEq, Repr

/-- An L2 entry (R287). -/
structure L2Ent where
  vid : Nat
  mac : Nat
  port : Nat
  age : Nat
  static : Bool
  pinned : Bool
  /-- Moves in the current second (R290). -/
  moves : Nat
  /-- When this slice, as the originator, pinned it (R290). -/
  pinAt : Option Nat
  deriving DecidableEq, Repr

/-- An ECMP group (R297). -/
structure Group where
  base : Nat
  size : Nat
  hprof : Nat
  valid : Bool
  deriving DecidableEq, Repr

/-- A group that is not valid. -/
def Group.zero : Group := { base := 0, size := 0, hprof := 0, valid := false }

/-- One slice. -/
structure SliceSt where
  /-- Engines retired and spare (R173); all others are in service. -/
  retired : List Nat
  spares : List Nat
  /-- The engine under canary test, with the instant its test began (R203). -/
  test : Option (Nat × Nat)
  /-- The engine chosen last (R175). -/
  lastPick : Nat
  canPass : Nat
  canFail : Nat
  canLast : Nat
  /-- The engine at which the rotation of canary tests goes on, and the instant of the last test's start (R203). -/
  canTurn : Nat
  canAt : Option Nat
  /-- When the slice last aged its L2 entries (R291). -/
  ageAt : Option Nat
  parked : Bool
  /-- Locations of the control store with an uncorrectable error (R208): 2 × (bank × 2^16 + address), plus 1 where an
  injection caused it; dispatch entries from 0x4000 and start entries from 0x8000 on. -/
  csBad : List Nat
  /-- Tree units with an uncorrectable error (R225): 2 × (bank × 2^16 + unit), plus 1 where an injection caused it. -/
  treeBad : List Nat
  /-- ACL entries and prefixes by bank × 2048 + first row. -/
  acl : SMap AclEnt
  lpm : SMap LpmEnt
  /-- Rows that spares serve, key 64 × bank + spare; the value is row × 2, plus 1 for an injected failure (R239). -/
  rowSpare : SMap Nat
  /-- Lost rows, bank × 2048 + row (R240), with 2^16 added to those an injection caused. -/
  lost : List Nat
  /-- Rows whose spare is due: hard-failed and not yet replaced (R239); 2^16 added for an injected failure. -/
  hard : List Nat
  /-- Instants of the last repair of a row (R239). -/
  fixAt : SMap Nat
  fixes : Nat
  l2 : SMap L2Ent
  /-- When this slice last originated a learn or move record (R288). -/
  learnAt : Option Nat
  groups : SMap Group
  members : SMap Nat
  /-- ECMP groups and members that read invalid until rewritten, members from 4096 on (ECMP_ECC). -/
  ecmpBad : List Nat
  deriving DecidableEq, Repr

/-- A slice after reset (R209): engines 0 to 119 in service, 120 to 127 spare. -/
def SliceSt.zero : SliceSt :=
  { retired := [], spares := [120, 121, 122, 123, 124, 125, 126, 127], test := none, lastPick := 127, canPass := 0,
    canFail := 0, canLast := 0, canTurn := 0, canAt := none, ageAt := none, parked := false, csBad := [], treeBad := [], acl := [], lpm := [], rowSpare := [],
    lost := [], hard := [], fixAt := [], fixes := 0, l2 := [], learnAt := none, groups := [], members := [],
    ecmpBad := [] }

/-- The kinds of a record on the learn bus (R288, R290, R291). -/
inductive LearnKind
  | learn
  | move
  | flap
  | unpin
  | remove
  deriving DecidableEq, Repr

/-- A record on the learn bus with the slices that have not applied it. -/
structure LearnRec where
  kind : LearnKind
  origin : Nat
  vid : Nat
  mac : Nat
  port : Nat
  left : List Nat
  deriving DecidableEq, Repr

/-- An endpoint entry: a single or a whole double entry at its head slot (R258), its key padded. -/
structure EpEnt where
  ktype : Nat
  double : Bool
  key : List Byte
  result : Nat
  deriving DecidableEq, Repr

/-- A migration (R272). -/
structure Mig where
  seg : Nat
  shadow : Nat
  seed0 : Nat
  seed1 : Nat
  cursor : Nat
  /-- State MIGRATED. -/
  finished : Bool
  /-- The command that runs it, none while it is stopped. -/
  cmd : Option Nat
  /-- A REVERT runs: shadow entries move back. -/
  back : Bool
  stashed : Nat
  lostEnts : Nat
  /-- A queued endpoint command has been served since the last bucket step (R273). -/
  served : Bool
  deriving DecidableEq, Repr

/-- What the table engine has in hand besides a migration (R278). -/
inductive Job
  | idle
  /-- A relocation chain: moves still to make, far end first, moves made, the new entry with its place, and the old slot
  that a replaced entry leaves (R273). -/
  | chain (cmd : Nat) (moves : List (Nat × Nat)) (made : Nat) (loc : Nat) (ent : EpEnt) (old : Option Nat)
  /-- The stash move after a delete in a logical segment (R265). -/
  | restash (seg : Nat)
  /-- LPM zone shifts still to make as (slice, from row, to row): the lowest named slice with its row, the shifts made in
  it, and the rows that take the entry as (slice, row). -/
  | shift (cmd : Nat) (low : Nat × Nat) (moves : List (Nat × Nat × Nat)) (made : Nat) (places : List (Nat × Nat)) (ent : LpmEnt)
  /-- L2_FLUSH: slices, filter, port, VID, next bucket, entries removed. -/
  | flush (cmd mask filter port vid next removed : Nat)
  deriving DecidableEq, Repr

/-- The shared tables (R252 to R280). -/
structure TablesSt where
  /-- Entries by physical segment × 2^20 + bucket × 4 + slot, and by stash index. -/
  ep : SMap EpEnt
  stash : SMap EpEnt
  /-- TBL_EP_SEGMAP where it differs from the segment's number: 1 + physical segment. -/
  segmap : SMap Nat
  spare : Option Nat
  mig : Option Mig
  job : Job
  /-- Instants of the uncorrectable errors of the last second by bank, and failed banks, plus 512 where an injection caused
  it (R271). -/
  bankErr : SMap (List Nat)
  failed : List Nat
  /-- TBL_EP_RETIRED. -/
  retired : Nat
  /-- Direct entries: result + 1, 0 for an invalid one (R279). -/
  direct : SMap Nat
  bus : List LearnRec
  deriving DecidableEq, Repr

/-- The tables after reset (R298). -/
def TablesSt.reset : TablesSt :=
  { ep := [], stash := [], segmap := [], spare := some 16, mig := none, job := .idle, bankErr := [], failed := [],
    retired := 0, direct := [], bus := [] }

/-- A swap that is pending (R247). -/
structure Swap where
  cmd : Nat
  target : Nat
  /-- AT in units of 2^-16 ns, none for the next cycle. -/
  at' : Option Nat
  waitDrain : Bool
  deriving DecidableEq, Repr

/-- A swap with WAIT_DRAIN that has happened (R248). -/
structure Drained where
  cmd : Nat
  old : Nat
  count : Nat
  /-- The true instant of T_s. -/
  since : Nat
  deriving DecidableEq, Repr

/-- Generations (R251). -/
structure GenSt where
  cur : Nat
  infl0 : Nat
  infl1 : Nat
  swap : Option Swap
  drains : List Drained
  swaps : Nat
  /-- T_s of the last swap, in units of 2^-16 ns. -/
  ts : Nat
  cs0 : CsBank
  cs1 : CsBank
  tree0 : TreeBank
  tree1 : TreeBank
  deriving DecidableEq, Repr

/-- Generations after reset: A is current, both invalid (R242). -/
def GenSt.reset : GenSt :=
  { cur := 0, infl0 := 0, infl1 := 0, swap := none, drains := [], swaps := 0, ts := 0, cs0 := CsBank.zero,
    cs1 := CsBank.zero, tree0 := TreeBank.zero, tree1 := TreeBank.zero }

/-! ## Tiles, extents and the pool manager (chapter 08) -/

/-- Where an extent's tiles are charged (R313, R320). Queues are numbered port × 8 + class, CPU queues 4096 + q;
ingress entities port × 8 + priority group. -/
inductive Charge
  | qmin (q : Nat)
  | imin (i q : Nat)
  | shared (i : Option Nat) (q : Nat)
  | hdrm (i q : Nat)
  /-- A host-owned extent: the shared space alone (R322). -/
  | host
  deriving DecidableEq, Repr

/-- An allocated extent: its ownership record (R313) and the frame its tiles hold from byte 64 on (R305). -/
structure Ext where
  owner : Nat
  refs : Nat
  charge : Charge
  allocMs : Nat
  /-- True instant of allocation, which the Sheepdog's judgement uses (R326). -/
  allocAt : Nat
  mark : Nat
  /-- Record copies with an uncorrectable error (R317). -/
  bad0 : Bool
  bad1 : Bool
  data : List Byte
  deriving DecidableEq, Repr

/-- A record that names nothing, read for a handle that is free. -/
def Ext.none : Ext :=
  { owner := 0xFFF, refs := 0, charge := .host, allocMs := 0, allocAt := 0, mark := 0, bad0 := false, bad1 := false,
    data := [] }

/-- A spare tile's use (R329): serving a logical tile, or found bad. -/
inductive SpareUse
  | unused
  | serving (logical : Nat) (injected : Bool)
  | bad (injected : Bool)
  deriving DecidableEq, Repr

/-- The buffer pool manager (R332). -/
structure BufSt where
  /-- Extent counts of the layout in force, P0 to P3 (R306). -/
  cnt0 : Nat
  cnt1 : Nat
  cnt2 : Nat
  cnt3 : Nat
  /-- Allocated extents by handle word (R307). -/
  ext : SMap Ext
  /-- Withdrawn extents of the layout in force by handle word: 1 under R317 alone, 2 under R330. -/
  withdrawn : SMap Nat
  /-- Tiles charged: queue minima and shared use, ingress minima, shared use and headroom, and all shared use U. -/
  qMin : SMap Nat
  qSh : SMap Nat
  iMin : SMap Nat
  iSh : SMap Nat
  iHd : SMap Nat
  used : Nat
  /-- Logical tiles marked for retirement; the value tells an injected failure (R302, R329). -/
  retire : SMap Bool
  /-- Tile-tag memory: the CRC-32C last written for a logical tile (R301). -/
  tags : SMap Nat
  /-- Tiles whose bytes, or whose tag, an upset has damaged since their last write (R302, R304). -/
  flaws : SMap TileErr
  /-- Extents on their free list though their record is allocated, and off it though it is free (R326). -/
  onList : List Nat
  offList : List Nat
  spares : SMap SpareUse
  /-- Extents withdrawn under R330, by the handle words they had: their tiles stay withdrawn in every layout. -/
  gone : List Nat
  commitErr : Bool
  busy : Bool
  /-- The counts a running commit lays out (R308). -/
  next : List Nat
  sweeps : Nat
  lastMs : Nat
  running : Bool
  /-- The last instant at which a sweep started or was skipped, none before the first (R328). -/
  startAt : Option Nat
  sweepAt : Nat
  prevAt : Nat
  deriving DecidableEq, Repr

/-- The buffer after reset: the reset layout, all free (R332). -/
def BufSt.reset : BufSt :=
  { cnt0 := 0x40000, cnt1 := 0x20000, cnt2 := 0x12492, cnt3 := 0x6666, ext := [], withdrawn := [],
    qMin := [], qSh := [], iMin := [], iSh := [], iHd := [], used := 0, retire := [], tags := [], flaws := [],
    onList := [], offList := [], spares := [],
    gone := [],
    commitErr := false, busy := false, next := [], sweeps := 0, lastMs := 0, running := false, startAt := none,
    sweepAt := 0, prevAt := 0 }

/-! ## Packets, queues and the switch core (chapters 05 to 10) -/

/-- A fault that the end of a received frame shows (R343, R156, R157). -/
inductive Late
  | none
  | fcs
  | oversize
  deriving DecidableEq, Repr

/-- A header that the parse recorded: its kind and its offset in the frame (R183). -/
structure Hdr where
  kind : Nat
  off : Nat
  deriving DecidableEq, Repr

/-- A descriptor in a queue of the switch core (R336 to R345). -/
structure Desc where
  /-- The extent and the owner tag it is released with (R313, R314). -/
  h : Nat
  owner : Nat
  /-- Egress port, 512 where there is none, class and channel. -/
  port : Nat
  tc : Nat
  chan : Option Nat
  /-- Original ingress port, none for a frame that has none (R319, R353). -/
  inPort : Option Nat
  /-- Ingress slice of this pass. -/
  sl : Nat
  /-- The port through which its packet was admitted to the slice (R450), none for a frame that no slice admitted. -/
  via : Option Nat
  tc7 : Bool
  gen : Nat
  /-- It still counts in its generation: bound for a recirculation port (R243). -/
  inGen : Bool
  /-- Ingress timestamp in units of 2^-16 ns (R22). -/
  ts : Nat
  pass : Nat
  colour : Nat
  yelDei : Bool
  /-- Marked by ECN at enqueue (R346), and in an earlier pass. -/
  ecn : Bool
  marked : Bool
  flags : Nat
  hdrs : List Hdr
  /-- Length as received, with FCS. -/
  len : Nat
  /-- The instant from which the length is known, and with it the frame's last fault (R341). -/
  endsAt : Nat
  /-- The instant from which its first tile is complete (R301, R303). -/
  tileAt : Nat
  late : Late
  cutThrough : Bool
  /-- The length the frame will have at the transmit balls (R381). -/
  outLen : Nat
  enqAt : Nat
  /-- ECN depth of its class queue at enqueue (R345, R440). -/
  qdepth : Nat
  /-- Bytes opened for IOAM node data (R443), and an overflow flag to set. -/
  grow : Nat
  ovf : Bool
  classId : Nat
  /-- MATCH_ID of the last action word applied (R446), or of the word that sent it to the host (R107). -/
  matchId : Nat
  /-- CPU queue and REASON of a frame bound for the host (R107). -/
  cpuQ : Nat
  reason : Nat
  /-- The mirror session of a shared copy (R359). -/
  shared : Option Nat
  /-- A mirror copy or a host copy, and a postcard's frame. -/
  copy : Bool
  /-- A stream's second copy (R426). -/
  second : Bool
  /-- A mirror, host transmit or telemetry frame, sent as written (R344, R358, R438). -/
  plain : Bool
  /-- It was injected by the host (R110). -/
  inject : Bool
  /-- The number of an R-TAG to insert (R426), and whether an R-TAG is removed (R427). -/
  rtag : Option Nat
  pop : Bool
  /-- A transmit descriptor's COOKIE when it asks for the egress timestamp (R106). -/
  cookie : Option Nat
  /-- Bytes of the frame kept: a sampled copy (R361). -/
  cut : Option Nat
  /-- Its gate is judged once its length is known (R417). -/
  unjudged : Bool
  deriving DecidableEq, Repr

/-- Where a packet stands in its slice. -/
inductive Stage
  /-- Waiting for a pipeline slot: received, injected or recirculated. -/
  | waiting
  /-- Admitted; its head waits for a Terrier (R175). -/
  | headQ
  /-- In the engine of this number. -/
  | engine (e : Nat)
  /-- In the second head buffer of the engine, behind the head that it parses (R175). -/
  | loaded (e : Nat)
  | parsed
  /-- The action stage is done; its extent and its end are waited for. -/
  | looked
  deriving DecidableEq, Repr

/-- What the lookup and action stages fixed for a packet (R214, R252). -/
structure Fate where
  /-- Egress port, none when the packet goes only to the host. -/
  dest : Option Nat
  tc : Nat
  chan : Option Nat
  /-- CPU queue, REASON and MATCH_ID when the packet goes to the host in place of a port. -/
  trap : Option (Nat × Nat × Nat)
  /-- CPU queue and MATCH_ID of a COPY word. -/
  copy : Option (Nat × Nat)
  /-- Only its copy for the host is left of it: the frame itself has been dropped (R214). -/
  gone : Bool
  mirror : Option Nat
  colour : Nat
  yelDei : Bool
  classId : Nat
  matchId : Nat
  deriving DecidableEq, Repr

/-- A fate that is not fixed. -/
def Fate.zero : Fate :=
  { dest := none, tc := 0, chan := none, trap := none, copy := none, gone := false, mirror := none, colour := 0, yelDei := false,
    classId := 0, matchId := 0xFFFFFFFF }

/-- A packet between its arrival and its enqueue. -/
structure Pkt where
  id : Nat
  slice : Nat
  /-- The port it arrived on in this pass: a receive port, the injection's port or the recirculation port. -/
  via : Nat
  /-- Original ingress port. -/
  inPort : Option Nat
  inject : Bool
  pass : Nat
  tc7 : Bool
  gen : Nat
  /-- It counts in its generation (R243). -/
  inGen : Bool
  ts : Nat
  bytes : List Byte
  /-- The instants its head (R174), the byte that fixes its extent (R309) and its last byte have arrived. -/
  headAt : Nat
  extAt : Nat
  endsAt : Nat
  /-- The instant its first tile is complete: its 192nd byte or its last has arrived (R301). -/
  tileAt : Nat
  late : Late
  owner : Nat
  /-- The extent taken for it. -/
  h : Option Nat
  stage : Stage
  /-- PARSE_BUDGET as it stood when its parse began (R188). -/
  budget : Nat
  /-- Parses that a parity error has stopped (R204). -/
  reparses : Nat
  key : List Byte
  hdrs : List Hdr
  flags : Nat
  /-- Its head waited in the head queue (R450). -/
  waited : Bool
  fate : Fate
  /-- A transmit descriptor's COOKIE. -/
  cookie : Option Nat
  /-- This device has marked it by ECN in an earlier pass (R444). -/
  marked : Bool
  deriving DecidableEq, Repr

/-- A chosen frame on its way out of a port (R343). -/
structure Tx where
  d : Desc
  /-- The instant of the choice. -/
  at' : Nat
  /-- The length it was charged. -/
  charged : Nat
  /-- The queue key of the member it came from. -/
  member : Nat
  /-- The keys of the shapers that were charged (R381). -/
  shapers : List Nat
  /-- U of R320 and THROTTLE at the choice (R440, R444). -/
  used : Nat
  throttle : Bool
  deriving DecidableEq, Repr

/-- A preemptable frame on its way out of a port on which preemption is active (R419): its bytes as they leave, how many of
them earlier fragments carried, and since when the present one leaves, none while the frame waits to be resumed. -/
structure Sending where
  bytes : List Byte
  bad : Bool
  tc : Nat
  /-- Where its loss is counted: its original ingress port, its slice and the port of its admission (R363, R450). -/
  inPort : Option Nat
  sl : Nat
  via : Option Nat
  off : Nat
  since : Option Nat
  deriving DecidableEq, Repr

/-- A mirror session's running state (R357 to R362). -/
structure Mir where
  /-- Occasions counted for sampling. -/
  seen : Nat
  shared : Nat
  fallback : Bool
  fbSeen : Nat
  fbSent : Nat
  afterFb : Bool
  deriving DecidableEq, Repr

/-- A session after reset. -/
def Mir.zero : Mir :=
  { seen := 0, shared := 0, fallback := false, fbSeen := 0, fbSent := 0, afterFb := false }

/-- The switch core. Queue keys: class queue port × 8 + class, CPU queue 4096 + q, channel queue 8192 + c. -/
structure CoreSt where
  /-- Profiles of class queues, and of channel queues under their keys (R334). -/
  prof : SMap Nat
  quantum : SMap Nat
  /-- Channel bindings: 1 + class queue key, 0 unbound (R335). -/
  bind : SMap Nat
  queues : SMap (List Desc)
  tx : SMap Tx
  /-- Preemptable frames on their way out (R419). -/
  sending : SMap Sending
  /-- Packets between arrival and enqueue, oldest first. -/
  pkts : List Pkt
  nextPkt : Nat
  /-- Lossless entities in XOFF, with the instant in picoseconds of the last frame sent, plus 1 (R348, R350). -/
  xoff : SMap Nat
  mir : SMap Mir
  /-- Where a slice's admission rotation stands (R354). -/
  rot : SMap Nat
  /-- The number of a slice's next slot in its round of sixteen (R465, R479). -/
  slotNo : SMap Nat
  /-- Copies that wait for their frames to arrive, with the queues they go to (R340, R359). -/
  copies : List (Nat × Desc)
  /-- Since when every CAPTURE ring has been half free and the backlog low (R362). -/
  roomSince : Option Nat
  deriving DecidableEq, Repr

/-- The core after reset. -/
def CoreSt.reset : CoreSt :=
  { prof := [], quantum := [], bind := [], queues := [], tx := [], sending := [], pkts := [], nextPkt := 0, xoff := [], mir := [],
    rot := [], slotNo := [], copies := [], roomSince := none }

/-- A token bucket shaper (R375): tokens in units of 2^-16 byte. -/
structure Shaper where
  rate : Nat
  burst : Nat
  tok : Int
  at' : Nat
  deriving DecidableEq, Repr

/-- A shaper after reset (R377). -/
def Shaper.zero : Shaper := { rate := 0, burst := 10240, tok := 671088640, at' := 0 }

/-- Whose turn it is in a round, and whether that turn goes on (R372). -/
structure Turn where
  who : Option Nat
  runs : Bool
  deriving DecidableEq, Repr

/-- No turn has begun. -/
def Turn.none : Turn := { who := .none, runs := false }

/-- What comes back of a charge at the end of a frame whose length was not known when it was chosen (R381): when, how many
bytes, and to which shapers and deficits. -/
structure Refund where
  due : Nat
  bytes : Nat
  shapers : List Nat
  /-- The class queue whose deficit in the port's round was charged. -/
  class' : Option Nat
  member : Nat
  deriving DecidableEq, Repr

/-- A policer (R382): tokens in units of 2^-16 byte. -/
structure Policer where
  mode : Nat
  cir : Nat
  cbs : Nat
  pir : Nat
  pbs : Nat
  tc : Nat
  te : Nat
  at' : Nat
  deriving DecidableEq, Repr

/-- A policer after reset: OFF (R387). -/
def Policer.zero : Policer := { mode := 0, cir := 0, cbs := 0, pir := 0, pbs := 0, tc := 0, te := 0, at' := 0 }

/-- Scheduling and policing (chapter 10). -/
structure SchedSt where
  /-- Shapers: port p at p, class queue q at 512 + q, channel c at 8192 + c. -/
  shapers : SMap Shaper
  /-- Deficits: of a class in its port's round under its class queue key, of a member under its queue key. -/
  classDef : SMap Int
  memDef : SMap Int
  /-- Whose turn it is: the class of a port's round, and the member of a class's round. -/
  classTurn : SMap Turn
  memTurn : SMap Turn
  /-- Charges to be set right at a frame's end (R381). -/
  refunds : List Refund
  /-- Policers: slice × 16384 + number. -/
  pol : SMap Policer
  /-- Counts of a policer (R386, R387): key policer × 8 + j, with packets of a colour at j = 2 × colour, their bytes at
  j = 2 × colour + 1, and red packets dropped at j = 6. -/
  polCnt : SMap Nat
  /-- Tokens taken for frames whose length was not known, to be returned at the frame's end (R384): the instant, the
  policer's key, and what goes back to C and to the second bucket. -/
  owed : List (Nat × Nat × Nat × Nat)
  /-- Histograms: queue key × 16 + bin (R389). -/
  depth : SMap Nat
  delay : SMap Nat
  /-- The CPU queue served last (R388). -/
  cpuTurn : Nat
  /-- The transmit ring served last (R111). -/
  txTurn : Nat
  deriving DecidableEq, Repr

/-- The scheduler after reset. -/
def SchedSt.reset : SchedSt :=
  { shapers := [], classDef := [], memDef := [], classTurn := [], memTurn := [], refunds := [], pol := [], polCnt := [], owed := [], depth := [],
    delay := [], cpuTurn := 63, txTurn := 63 }

/-! ## Device time, calendars and stream replication (chapter 11) -/

/-- A time engine (R391, R539). Device time is held as a count of 2^-16 ns since the epoch (R8). -/
structure Te where
  t : Nat
  /-- The part of the count below one unit that TIME_FREQ and a slew have gathered, in 10^-9 units. -/
  acc : Int
  /-- The engine counts: its PLL has been judged stable since BOOT. -/
  run : Bool
  /-- The parity check of its counter passes. -/
  parity : Bool
  /-- Healthy and within 1 ns of the active engine without a break since (R539). -/
  okSince : Option Nat
  /-- The engine has been lost and has yet to step to the active engine's time (R541). -/
  behind : Bool
  deriving DecidableEq, Repr

/-- A time engine that has not started. -/
def Te.zero : Te := { t := 0, acc := 0, run := false, parity := true, okSince := none, behind := false }

/-- A pulse output: the settings in force (R404), and its pin. Times in ns since the epoch but for `fall`. -/
structure TimeOut where
  en : Bool
  err : Bool
  start : Nat
  period : Nat
  width : Nat
  invert : Bool
  /-- The next rise, none when no rise is left. -/
  next : Option Nat
  /-- The end of the pulse under way, in units of 2^-16 ns. -/
  fall : Option Nat
  deriving DecidableEq, Repr

/-- An output after reset. -/
def TimeOut.zero : TimeOut :=
  { en := false, err := false, start := 0, period := 0, width := 0, invert := false, next := none, fall := none }

/-- A capture input (R405). -/
structure TimeIn where
  /-- Device time of the last capture, in units of 2^-16 ns. -/
  cap : Nat
  captures : Nat
  lost : Nat
  /-- Captures since EDGE was last set, 32 bits (R402). -/
  count : Nat
  /-- True instant of the last capture. -/
  lastAt : Option Nat
  deriving DecidableEq, Repr

/-- An input after reset. -/
def TimeIn.zero : TimeIn := { cap := 0, captures := 0, lost := 0, count := 0, lastAt := none }

/-- A fret entry (R410). -/
structure Fret where
  dur : Nat
  gates : Nat
  hold : Bool
  deriving DecidableEq, Repr

/-- A calendar bank; no frets when it is not loaded (R410). -/
structure Bank where
  frets : List Fret
  cycle : Nat
  capo : Nat
  tag : Nat
  deriving DecidableEq, Repr

/-- A bank that is not loaded. -/
def Bank.zero : Bank := { frets := [], cycle := 0, capo := 0, tag := 0 }

/-- A port's calendar (R433). -/
structure Cal where
  b0 : Bank
  b1 : Bank
  /-- The active bank, 0 or 1. -/
  act : Option Nat
  en : Bool
  cfgErr : Bool
  /-- The entry in force (PT_CAL_STAT.FRET). -/
  fret : Nat
  swaps : Nat
  /-- A swap pending in this port's scope (PT_CAL_CFG.PENDING). -/
  pending : Bool
  /-- The instant T of its pending swap, ns since the epoch (R414). -/
  swapAt : Option Nat
  deriving DecidableEq, Repr

/-- A port's calendar after reset. -/
def Cal.zero : Cal :=
  { b0 := Bank.zero, b1 := Bank.zero, act := none, en := false, cfgErr := false, fret := 0, swaps := 0,
    pending := false, swapAt := none }

/-- A CAL_SWAP that has not completed (R415). -/
structure CalSwap where
  cmd : Nat
  /-- The reference instant, in units of 2^-16 ns. -/
  ref : Nat
  /-- Every port in scope. -/
  scope : List Nat
  /-- Ports that have not swapped. -/
  left : List Nat
  done : Nat
  /-- The device time of the last swap, in units of 2^-16 ns. -/
  lastAt : Nat
  deriving DecidableEq, Repr

/-- A replication stream (R425 to R429). -/
structure Frer where
  /-- GENERATE: the next number. RECOVER: the highest number passed, at which the window ends. -/
  seq : Nat
  /-- RECOVER: the last number passed (R432). -/
  passed : Nat
  takeAny : Bool
  /-- Numbers of the window that have been seen, as offsets below `seq`. -/
  seen : List Bool
  lastPass : Option Nat
  deriving DecidableEq, Repr

/-- A stream after reset. -/
def Frer.zero : Frer := { seq := 0, passed := 0, takeAny := true, seen := [], lastPass := none }

/-- Time engines, pins, calendars, preemption and streams. -/
structure TimeSt where
  a : Te
  b : Te
  err : Bool
  switches : Nat
  busy : Bool
  /-- The offset a slew has left, in 10^-9 of 2^-16 ns. -/
  slewLeft : Int
  outs : SMap TimeOut
  ins : SMap TimeIn
  cal : SMap Cal
  calSwaps : List CalSwap
  /-- CAL_BASE_SEC as last written and not committed (R432). -/
  stagedSec : Nat
  /-- PT_PREEMPT_STAT.VERIFY of a port (R433), and since when it verifies. -/
  verify : SMap Nat
  verifyAt : SMap Nat
  frer : SMap Frer
  /-- The standby has differed from the active engine by more than 1 ns since (R436). -/
  diffSince : Option Nat
  /-- That difference has been logged. -/
  diffLogged : Bool
  /-- Measured receive and transmit latencies of a port (R398). -/
  rxLat : SMap Nat
  txLat : SMap Nat
  deriving DecidableEq, Repr

/-- Time after reset: neither engine runs. -/
def TimeSt.reset : TimeSt :=
  { a := Te.zero, b := Te.zero, err := false, switches := 0, busy := false, slewLeft := 0, outs := [], ins := [],
    cal := [], calSwaps := [], stagedSec := 0, verify := [], verifyAt := [], frer := [], diffSince := none, diffLogged := false, rxLat := [],
    txLat := [] }

/-! ## Telemetry (chapter 12) -/

/-- A pending snapshot (R452): TRIGGER 1 at a time, 2 at an edge of a pin, 0 now. -/
structure SnapReq where
  cmd : Nat
  trigger : Nat
  /-- AT, or the instant T that an edge has set, in units of 2^-16 ns. -/
  at' : Option Nat
  pin : Nat
  freeze : Bool
  deriving DecidableEq, Repr

/-- A pending sample of a programmable counter (R451): when it overflowed, and the packets admitted since. -/
structure Sample where
  since : Nat
  admitted : List Nat
  deriving DecidableEq, Repr

/-- The snapshot bank (R452): a copy of every counter. -/
structure SnapBank where
  cnts : SMap DWord
  polCnt : SMap Nat
  depth : SMap Nat
  delay : SMap Nat
  deriving DecidableEq, Repr

/-- Telemetry (R458). -/
structure TelSt where
  pend : Option SnapReq
  frozen : Bool
  snapId : Nat
  /-- The last T in units of 2^-16 ns. -/
  snapAt : Nat
  trigger : Nat
  pin : Nat
  bank : SnapBank
  /-- Pending samples by slice × 64 + counter. -/
  samples : SMap Sample
  /-- Frames of a port counted for sampled postcards (R445). -/
  pcSeen : SMap Nat
  deriving DecidableEq, Repr

/-- Telemetry after reset. -/
def TelSt.reset : TelSt :=
  { pend := none, frozen := false, snapId := 0, snapAt := 0, trigger := 0, pin := 0,
    bank := { cnts := [], polCnt := [], depth := [], delay := [] }, samples := [], pcSeen := [] }


/-! ## Power (chapter 13) -/

/-- A step that the power loop has taken (R465). -/
inductive PStep
  | withhold
  | clock
  | mem
  | link
  deriving DecidableEq, Repr

/-- A phase hint that is held (R470). -/
structure Hint where
  /-- AT in units of 2^-16 ns. -/
  at' : Nat
  durUs : Nat
  order : Nat
  mem : Nat
  link : Nat
  /-- The true instant it came into force, none while it is pending. -/
  since : Option Nat
  deriving DecidableEq, Repr

/-- An unpark under way (R478): a slice, or the lanes of a harp, with the command that asked for it, if one did. -/
structure Ramp where
  cmd : Option Nat
  isSlice : Bool
  unit : Nat
  lanes : Nat
  since : Nat
  deriving DecidableEq, Repr

/-- A save under way (R481): its area, when it began, and the bytes it writes. -/
structure Saving where
  area : Nat
  since : Nat
  bytes : List Byte
  deriving DecidableEq, Repr

/-- The power loop, temperature, parking and the hold-up save (R485). P, g × E and the thermal limit are held in units of
2^-12 W. -/
structure PwrSt where
  /-- The last estimate E in watts, and the P formed from it. -/
  e : Nat
  p : Nat
  withhold : Nat
  /-- Clock steps that the loop has taken and not returned, and the level it has set with them, 16 when it sets none. -/
  clkSteps : Nat
  clkLevel : Nat
  mem : Nat
  link : Nat
  /-- Receiver effort steps taken from each lane (R465). -/
  effort : SMap Nat
  /-- Steps taken, the last one first. -/
  steps : List PStep
  /-- Since when a return has been allowed, and the last return (R466). -/
  okSince : Option Nat
  lastBack : Option Nat
  /-- Since when P has exceeded C, or has stayed at or below it (R467). -/
  overSince : Option Nat
  underSince : Option Nat
  unmet : Bool
  /-- THROTTLE_ON has been posted without THROTTLE_OFF, and since when THROTTLE has been 0 (R472). -/
  throttleOn : Bool
  lowSince : Option Nat
  /-- g in units of 2^-12 (R460). -/
  gain : Nat
  disagree : Nat
  frozen : Bool
  measLost : Bool
  /-- The last good M in units of 2^-16 W, its instant, and the sum and number of the estimates of its millisecond (R462,
  R464). -/
  m : Nat
  mAt : Option Nat
  eLast : Nat
  eLastNum : Nat
  /-- Calibrations in a row without and with a good M (R463). -/
  bad : Nat
  good : Nat
  /-- The sum and the number of the estimates since the last calibration. -/
  eSum : Nat
  eNum : Nat
  /-- When each entry last logged PMBUS_ERR, plus 1. -/
  pmbLog : SMap Nat
  /-- The last 512 calibrations, newest first, 16 bytes each (R481). -/
  calLog : List (List Byte)
  /-- The four hint slots (R470), and the one in force. -/
  hints : SMap (Option Hint)
  /-- CAP_SET commands that wait for the clock to rise (R469). -/
  capWait : List (Nat × Nat)
  hot : Nat
  sensor : Nat
  hotMax : Nat
  /-- The thermal limit, none when there is none (R474). -/
  thermal : Option Nat
  mv : Nat
  holdOk : Bool
  holdLow : Nat
  holdHigh : Nat
  /-- HOLD_LOW stands logged. -/
  holdLogged : Bool
  ramps : List Ramp
  save : Option Saving
  /-- PWR_SAVE_STAT.VALID and AREA as set in BOOT and by a discard (R482, R483). -/
  saveShown : Bool
  saveArea : Nat
  deriving DecidableEq, Repr

/-- Power after reset (R485). -/
def PwrSt.reset : PwrSt :=
  { e := 0, p := 0, withhold := 0, clkSteps := 0, clkLevel := 16, mem := 0, link := 0, effort := [], steps := [], okSince := none,
    lastBack := none, overSince := none, underSince := none, unmet := false, throttleOn := false, lowSince := none,
    gain := 0x1000, disagree := 0, frozen := false, measLost := false, m := 0, mAt := none, eLast := 0, eLastNum := 0, bad := 0,
    good := 0, eSum := 0, eNum := 0, pmbLog := [], calLog := [], hints := [], capWait := [], hot := 0, sensor := 0,
    hotMax := 0, thermal := none, mv := 0, holdOk := false, holdLow := 0, holdHigh := 0, holdLogged := false,
    ramps := [], save := none, saveShown := false, saveArea := 0 }

/-! ## The whole state -/

/-- The device. -/
structure State where
  /-- The commands waiting at the block, first in, first out. -/
  pending : List Instr
  /-- True time in nanoseconds since the model's start: the model's own clock. -/
  now : Nat
  /-- The next serial number of a fetched command: the model's own. -/
  serial : Nat
  /-- What has left the device, newest first: the model's own observation. -/
  out : List Out
  pins : Pins
  md : ModeSt
  host : HostSt
  cmds : List Cmd
  flt : FaultSt
  clk : ClockSt
  ref : RefSt
  kennel : Kennel
  time : TimeSt
  buf : BufSt
  port : PortsSt
  slices : SMap SliceSt
  tab : TablesSt
  gen : GenSt
  core : CoreSt
  sch : SchedSt
  tel : TelSt
  pwr : PwrSt
  /-- Registers the host sets and reads back, by BAR0 offset, where they differ from their reset values. -/
  regs : SMap Word
  /-- 64-bit counters by BAR0 offset, where they are not 0. -/
  cnts : SMap DWord
  deriving DecidableEq, Repr

/-! ## After reset -/

/-- Modes after reset (R57 to R60). -/
def ModeSt.reset : ModeSt :=
  { prev := .reset, cause := 0, reqTarget := 0, reqResult := 0, req := none, parkDown := false, phase := .clocks,
    bootResult := 0, saveValid := false, collieAOk := false, collieBOk := false, fwAsked := false,
    fwStarted := false, fwWriteAt := 0, selftestAt := 0, hostLive := false, bootAt := 0, resetAt := none }

/-- Host ports after reset. -/
def HostSt.reset : HostSt :=
  { ha := Half.zero, hb := Half.zero, heldBeat := false, heldLink := false, heldSel := false, heldHand := false, bootChosen := false }

/-- Pins at power-on: RESET_N and both PERST low, PWRFAIL_N and HOST_SEL_N high. -/
def Pins.reset : Pins := { resetN := false, pwrfailN := true, hostSelN := true, strap := 0, tap := 0xFF, bench := [] }

/-- The collector and the keel registers after reset (R526). -/
def FaultSt.reset : FaultSt :=
  { pend := [], follow := [], srcCnt := [], classCe := 0, classUc := 0, classFt := 0, frozen := false, selfFault := false,
    selfCe := 0, coalesced := 0, fatal := 0, firstValid := false, later := 0, raised := 0, first := none,
    hist := [], last := 0, lostValid := false, lostCount := 0, lostTime := 0, keelFix := 0, inj := [],
    consumed := 0, keel0 := Keel.reset 0, keel1 := Keel.reset 1, keel2 := Keel.reset 2, keel3 := Keel.reset 3,
    keel4 := Keel.reset 4 }

/-- Clocks after reset (R498). -/
def ClockSt.reset : ClockSt :=
  { judge := [], ref0Present := false, ref1Present := false, sysRef1 := false, switches := 0, pipeCur := 16,
    lastStep := none, trimCode := 0x800, trimErr := 0, trimLocked := false, trimGood := 0, trimLost := false,
    trimEdge := none }

/-- The referee after reset (R551). -/
def RefSt.reset : RefSt :=
  { a := Collie.zero, b := Collie.zero, cmdErr := false, fwu := .none, fwuErr := false, swaps := 0, failovers := 0,
    mirror := none, wear := Wear.zero, wearDirty := false, wearWriting := none, wearErr := false, wearAt := none,
    wearCopy := 0, wearSum := [0, 0, 0, 0, 0, 0, 0, 0], seFault := false, seReady := false, meas := [], healthAt := none }

/-- A kennel that holds nothing. -/
def Kennel.empty : Kennel :=
  { copy0 := { valid := false, seq := 0, wear := Wear.zero }, copy1 := { valid := false, seq := 0, wear := Wear.zero },
    save0 := { valid := false, seq := 0, bytes := [] }, save1 := { valid := false, seq := 0, bytes := [] },
    keyHash := none }

/-- The device at power-on with RESET_N low: every register at the value the spec gives for reset. -/
def State.reset : State :=
  { pending := [], now := 0, serial := 0, out := [], pins := Pins.reset, md := ModeSt.reset, host := HostSt.reset,
    cmds := [], flt := FaultSt.reset, clk := ClockSt.reset, ref := RefSt.reset, kennel := Kennel.empty, time := TimeSt.reset, buf := BufSt.reset, port := PortsSt.reset, slices := [], tab := TablesSt.reset,
    gen := GenSt.reset, core := CoreSt.reset, sch := SchedSt.reset, tel := TelSt.reset, pwr := PwrSt.reset,
    regs := [],
    cnts := [] }

end Sys2Proof.Machine
end

