-- ==== Sys2Proof/Machine/Ops.lean ====
section
/-! DEFINITION. The shared operations on the state: registers and counters, device time, what leaves the device,
fault reports (R508), keel registers (R521 to R525), events (R103 to R105), and completions (R92). -/
namespace Sys2Proof.Machine

/-! ## Registers and counters -/

/-- A stored register (R554). -/
def State.reg (s : State) (o : Nat) : Word := s.regs.get (regReset o) o

/-- A stored register as a number. -/
def State.rd (s : State) (o : Nat) : Nat := (s.reg o).toNat

/-- A stored 64-bit register as a number: its low half lies at the lower offset. -/
def State.rd64 (s : State) (o : Nat) : Nat := s.rd o + 2 ^ 32 * s.rd (o + 4)

/-- Write a stored register. -/
def State.setReg (o : Nat) (v : Word) (s : State) : State := { s with regs := s.regs.set (regReset o) o v }

/-- Write a stored register with a number. -/
def State.wr (o v : Nat) (s : State) : State := s.setReg o (BitVec.ofNat 32 v)

/-- A 64-bit counter (R7). -/
def State.cnt (s : State) (o : Nat) : DWord := s.cnts.get 0 o

/-- Add to a 64-bit counter. -/
def State.count (o n : Nat) (s : State) : State :=
  { s with cnts := s.cnts.set 0 o (s.cnt o + BitVec.ofNat 64 n) }

/-! ## Modes, halves and roles -/

/-- The current mode: the voted output of keel register 0 (R36). -/
def State.mode (s : State) : Mode := Mode.ofCode s.flt.keel0.voted

/-- One of CONFIGURE, FORWARD, DRAIN and PARK. -/
def State.served (s : State) : Bool :=
  s.mode = .configure || s.mode = .forward || s.mode = .drain || s.mode = .park

/-- A port's half. -/
def State.half (s : State) : HostPort → Half
  | .ha => s.host.ha
  | .hb => s.host.hb

/-- Replace a port's half. -/
def State.setHalf (p : HostPort) (h : Half) (s : State) : State :=
  match p with
  | .ha => { s with host.ha := h }
  | .hb => { s with host.hb := h }

/-- Change a port's half. -/
def State.onHalf (p : HostPort) (f : Half → Half) (s : State) : State := s.setHalf p (f (s.half p))

/-- The active host port: REF_ROLES.HOST, bit 2 of keel register 1 (R114, R551). -/
def State.active (s : State) : HostPort := if bit s.flt.keel1.voted 2 then .hb else .ha

/-- The active Collie: REF_ROLES.COLLIE (R551). -/
def State.activeCollie (s : State) : Side := if bit s.flt.keel1.voted 0 then .b else .a

/-- A Collie. -/
def State.collie (s : State) : Side → Collie
  | .a => s.ref.a
  | .b => s.ref.b

/-- The active Collie runs. -/
def State.collieActs (s : State) : Bool := decide ((s.collie s.activeCollie).state = .active)

/-- The active time engine: REF_ROLES.TE (R551). -/
def State.activeTe (s : State) : Side := if bit s.flt.keel1.voted 1 then .b else .a

/-- The preferred host port: keel register 2 (R542). -/
def State.preferred (s : State) : HostPort := if bit s.flt.keel2.voted 0 then .hb else .ha

/-- The port can issue memory requests: link up, Bus Master Enable, D0 (R70, R72), and not in SAVE, which stops host DMA
(R481). -/
def State.canWrite (s : State) (p : HostPort) : Bool :=
  (s.half p).linkUp && (s.half p).bme && !(s.half p).d3hot && decide (s.mode ≠ .save)

/-- A ring of a port (R87). -/
def State.ring (s : State) (p : HostPort) (n : Nat) : Ring := (s.half p).rings.get Ring.zero n

/-- Replace a ring. -/
def State.setRing (p : HostPort) (n : Nat) (r : Ring) (s : State) : State :=
  s.onHalf p fun h => { h with rings := h.rings.set Ring.zero n r }

/-- The ID names a ring: 0 to 79 and 128 to 255 (R89). -/
def ringId (n : Nat) : Bool := decide (n < 80) || (decide (128 ≤ n) && decide (n < 256))

/-! ## Device time -/

/-- A time engine. -/
def State.te (s : State) : Side → Te
  | .a => s.time.a
  | .b => s.time.b

/-- Replace a time engine. -/
def State.setTe (e : Side) (x : Te) (s : State) : State :=
  match e with
  | .a => { s with time.a := x }
  | .b => { s with time.b := x }

/-- Device time in units of 2^-16 ns: the active engine's count (R8, R391). -/
def State.devTime (s : State) : Nat := (s.te s.activeTe).t

/-- Device time in whole nanoseconds since the epoch. -/
def State.devNs (s : State) : Nat := s.devTime / 65536

/-- One second in nanoseconds. -/
def nsPerSec : Nat := 1000000000

/-- The 16 bytes of a device time (R9). -/
def timeBytes (t : Nat) : List Byte :=
  toLE 8 (t / 65536 / nsPerSec) ++ toLE 4 (t / 65536 % nsPerSec) ++ toLE 2 (t % 65536) ++ toLE 2 0

/-- The span of device time, 2^64 seconds, in units of 2^-16 ns (R8): the count is held modulo this. -/
def teSpan : Nat := 2 ^ 64 * nsPerSec * 65536

/-- A count moved by `delta` units. The spec has no user see the wrap (R391); DESIGN CHOICE: a step below 0 s wraps as one
past the last second does. -/
def teMove (t : Nat) (delta : Int) : Nat := (((t : Int) + delta) % (teSpan : Int)).toNat

/-- One step of a time engine's count by a nanosecond, under TIME_FREQ in 2^-12 ppb (R393) and `extra` 10^-9
units of a slew. -/
def Te.advance (freq : Int) (extra : Int) (e : Te) : Te :=
  if e.run then
    let acc := e.acc + 16 * freq + extra
    { e with t := teMove e.t (65536 + acc / 1000000000), acc := acc % 1000000000 }
  else e

/-- What a slew adds in this nanosecond, in 10^-9 of 2^-16 ns: SLEW_PPM of the nanosecond, no more than is left
(R394). -/
def State.slewStep (s : State) : Int :=
  let step : Int := ((bits (s.rd 0x60010) 25 16) * 65536000 : Nat)
  if s.time.slewLeft < 0 then (if s.time.slewLeft < -step then -step else s.time.slewLeft)
  else if s.time.slewLeft > step then step else s.time.slewLeft

/-- One nanosecond passes: the model's clock and the running time engines move (R36, R391). -/
def State.tick (s : State) : State :=
  let x := s.slewStep
  let f := signed 32 (s.rd 0x60014)
  { s with now := s.now + 1,
           time := { s.time with a := s.time.a.advance f x, b := s.time.b.advance f x,
                                 slewLeft := s.time.slewLeft - x } }

/-- An instant lies at least `d` ns back. -/
def State.elapsed (s : State) (t : Option Nat) (d : Nat) : Bool :=
  match t with
  | some x => decide (d ≤ s.now - x)
  | none => false

/-! ## What leaves the device -/

/-- Append an observation. -/
def State.emit (o : Out) (s : State) : State := { s with out := o :: s.out }

/-- A memory write of a port for a ring: issued when the port can issue it, kept while the active port cannot (R72), and
lost on a standby port that cannot be written (R125). -/
def State.hostWrite (p : HostPort) (n addr : Nat) (data : List Byte) (s : State) : State :=
  if s.canWrite p then s.emit (.dma p addr data)
  else if p = s.active then
    s.onHalf p fun h => { h with held := h.held ++ [{ ring := n, addr := addr, data := data }] }
  else s

/-- Write an entry: one request, or two where it crosses a 4 KiB boundary, the second with the last byte (R79). -/
def State.hostEntry (p : HostPort) (n addr : Nat) (data : List Byte) (s : State) : State :=
  let k := 4096 - addr % 4096
  if data.length ≤ k then s.hostWrite p n addr data
  else (s.hostWrite p n addr (data.take k)).hostWrite p n (addr + k) (data.drop k)

/-- The vector's control word masks it (R113). -/
def State.vecMasked (s : State) (p : HostPort) (v : Nat) : Bool := bit ((s.half p).msix.get 1 (4 * v + 3)) 0

/-- Send a vector's message (R112), or set its pending bit while the port cannot send it or the vector is masked (R113). -/
def State.sendVec (p : HostPort) (v : Nat) (s : State) : State :=
  let x := (s.half p).vec.get Vec.zero v
  if s.canWrite p && !s.vecMasked p v then
    (s.onHalf p fun h => { h with vec := h.vec.set Vec.zero v Vec.zero }).emit (.msix p v)
  else s.onHalf p fun h => { h with vec := h.vec.set Vec.zero v { x with pend := true } }

/-- The entries a vector waits for before its message (R112). -/
def State.vecCount (s : State) (p : HostPort) (v : Nat) : Nat :=
  let m := s.rd (hiReg p (0x800 + 4 * v))
  if bits m 27 16 = 0 then 1 else if bits m 11 0 = 0 then 1 else bits m 11 0

/-- The vector's message falls due where the entries pending have reached its COUNT (R112). -/
def State.vecDue (p : HostPort) (v : Nat) (s : State) : State :=
  let x := (s.half p).vec.get Vec.zero v
  if decide (0 < x.count) && !x.pend && decide (s.vecCount p v ≤ x.count) then s.sendVec p v else s

/-- Count a device-written entry toward its ring's vector (R112). -/
def State.notify (p : HostPort) (r : Ring) (irqNow : Bool) (s : State) : State :=
  if r.irqEn then
    let x := (s.half p).vec.get Vec.zero r.vector
    let x' := { x with count := x.count + 1, since := if x.count = 0 then s.now else x.since }
    let s' := s.onHalf p fun h => { h with vec := h.vec.set Vec.zero r.vector x' }
    if irqNow || decide (s.vecCount p r.vector ≤ x'.count) then s'.sendVec p r.vector else s'
  else s

/-! ## Ring positions (R77) -/

/-- Entries of a ring. -/
def Ring.size (r : Ring) : Nat := 2 ^ r.log2n

/-- A position as a number from 0 to 2 × size − 1: the index, plus the size in lap 1. -/
def Ring.lin (r : Ring) (pos : Nat) : Nat := pos % 2 ^ 16 + (if bit pos 16 then r.size else 0)

/-- The position of such a number. -/
def Ring.pos (r : Ring) (x : Nat) : Nat :=
  if x % (2 * r.size) < r.size then x % (2 * r.size) else x % (2 * r.size) - r.size + 2 ^ 16

/-- The position after a position (R77). -/
def Ring.succ (r : Ring) (pos : Nat) : Nat := r.pos (r.lin pos + 1)

/-- The distance from `a` to `b`, modulo 2 × size (R83). -/
def Ring.dist (r : Ring) (a b : Nat) : Nat := (r.lin b + 2 * r.size - r.lin a) % (2 * r.size)

/-- A position in the form of R77 with an index inside the ring. -/
def Ring.inRange (r : Ring) (pos : Nat) : Bool := decide (pos < 2 ^ 17) && decide (pos % 2 ^ 16 < r.size)

/-- The PHASE the device writes at a position, as bit 7 of a byte (R78). -/
def phaseBit (pos : Nat) : Nat := if bit pos 16 then 0 else 0x80

/-- An entry with PHASE laid into bit 7 of its last byte (R78). -/
def withPhase (pos : Nat) (e : List Byte) : List Byte :=
  e.take (e.length - 1) ++ [BitVec.ofNat 8 (byteAt e (e.length - 1) % 128 + phaseBit pos)]

/-- A whole ring's length lies unconsumed (R85): an event ring has no free entry. -/
def Ring.full (r : Ring) : Bool := decide (r.dist r.cons r.ptr = r.size)

/-- The completion slot of the next command to be fetched is not free (R85): the completions not consumed and the slots
that fetched commands have taken fill the completion ring. -/
def Ring.noSlot (r : Ring) : Bool := decide (r.size ≤ r.dist r.cons r.cptr + r.dist r.cptr r.ptr)

/-- Every command placed in the ring has been fetched and completed, and a completion slot is free. -/
def Ring.quiet (r : Ring) : Bool := decide (r.prod = r.ptr) && decide (r.ptr = r.cptr) && !r.noSlot

/-! ## Events (R103 to R105, R123) -/

/-- The entry size of an event type (R103). -/
def evtSize (t : Nat) : Nat := if t = 6 then 160 else if t = 7 then 64 else 32

/-- The event type is mirrored to the standby (R103). -/
def evtMirrored (t : Nat) : Bool := !(t = 6 || t = 7 || t = 10)

/-- The enabled event rings of a type at a port, in ring-ID order (R104). -/
def State.evtRings (s : State) (p : HostPort) (t : Nat) : List Nat :=
  ((List.range 16).map (· + 64)).filter fun n => (s.ring p n).en && decide ((s.ring p n).typ = t)

/-- Bytes of device-to-host writes that the active port has not issued (R361). -/
def State.backlog (s : State) : Nat :=
  ((s.half s.active).held.map fun x => x.data.length).sum

/-- Every CAPTURE ring that can take records has at least half its entries free, there is one, and the backlog is below
64 KiB (R362). -/
def State.captureRoomy (s : State) : Bool :=
  (match s.evtRings s.active 6 with
  | [] => false
  | ns => ns.all fun n => let r := s.ring s.active n; decide (r.dist r.cons r.ptr * 2 ≤ r.size))
    && decide (s.backlog < 65536)

/-- Keep the instant since which there has been room without a break (R362). -/
def State.noteRoom (s : State) : State :=
  { s with core.roomSince := if s.captureRoomy then some (s.core.roomSince.getD s.now) else none }

/-- An event's fields before it is routed. -/
structure Evt where
  typ : Nat
  code : Nat
  source : Nat
  /-- Device time in units of 2^-16 ns. -/
  time : Nat
  /-- The bytes from offset 24. -/
  detail : List Byte
  /-- The slice that raised it, 0 outside a slice (R104). -/
  sl : Nat
  deriving DecidableEq, Repr

/-- The entry of an event with its SEQ (common layout, R103). -/
def Evt.entry (e : Evt) (seq : Nat) : List Byte :=
  cut ([BitVec.ofNat 8 e.typ, BitVec.ofNat 8 e.code] ++ toLE 2 e.source ++ toLE 4 seq ++ timeBytes e.time
    ++ e.detail) 0 (evtSize e.typ)

/-- Route an event to one port (R104, R105, R123): whether it was written, and the state. On the active port a full
ring drops it (R85); on the standby it overwrites (R124). A port that can issue no request drops it (R72). -/
def State.routeEvt (p : HostPort) (e : Evt) (s : State) : Bool × State :=
  match s.evtRings p e.typ with
  | [] => (false, s.onHalf p fun h =>
      { h with evtLost := h.evtLost.set 0 e.typ (satInc 32 (h.evtLost.get 0 e.typ)) })
  | n :: ns =>
    let id := (n :: ns).getD (e.sl % (n :: ns).length) n
    let r := s.ring p id
    let seq := (r.seq + 1) % 2 ^ 32
    if (decide (p = s.active) && r.full) || !s.canWrite p then
      (false, s.setRing p id { r with seq := seq, drop := satInc 32 r.drop })
    else
      let r' := { r with seq := seq, ptr := r.succ r.ptr, wcount := (r.wcount + 1) % 2 ^ 32 }
      (true, ((s.setRing p id r').hostEntry p id (r.base + r.ptr % 2 ^ 16 * evtSize e.typ)
        (withPhase r.ptr (e.entry r.seq))).notify p r false)

/-- Post an event: to the active port, and a copy of a mirrored type to the standby (R104, R123). -/
def State.postEvt (e : Evt) (s : State) : Bool × State :=
  let (w, s1) := s.routeEvt s.active e
  if evtMirrored e.typ then (w, (s1.routeEvt s.active.peer e).2) else (w, s1)

/-- Post an event of the present device time. -/
def State.post (typ code source slice : Nat) (detail : List Byte) (s : State) : State :=
  (s.postEvt { typ := typ, code := code, source := source, time := s.devTime, detail := detail, sl := slice }).2

/-! ## Fault reports (R500, R506, R508, R509) -/

/-- The class a report carries: a UC of a family set in FLT_CFG.UC_FATAL is FT (R500). -/
def State.clsOf (s : State) (src : Nat) (c : Cls) : Cls :=
  if c = .uc ∧ bit (s.rd 0x30004) (src / 256) then .ft else c

/-- Raise a report: it is counted against its source and class, and becomes the source's pending report or adds to
COALESCED (R506, R508, R509). With RESET_N low there is no collector (R505); frozen, it only counts (R514). -/
def State.raiseX (src code : Nat) (c : Cls) (detail : Nat) (inj : Bool) (s : State) : State :=
  if !s.pins.resetN then s
  else
    let cls := s.clsOf src c
    let f := s.flt
    let f1 := { f with
      srcCnt := f.srcCnt.set 0 src (satInc 16 (f.srcCnt.get 0 src)),
      classCe := if cls = .ce then satInc 32 f.classCe else f.classCe,
      classUc := if cls = .uc then satInc 32 f.classUc else f.classUc,
      classFt := if cls = .ft then satInc 32 f.classFt else f.classFt }
    if f.frozen then { s with flt := f1 }
    else
      let f2 := if f.firstValid then { f1 with later := satInc 16 f.later } else { f1 with raised := f.raised + 1 }
      let f3 := if f.pend.any fun r => r.src = src then { f2 with coalesced := satInc 16 f.coalesced }
        else { f2 with pend := f.pend ++ [{ src := src, code := code, cls := cls, injected := inj, number := 0,
                                            time := s.devTime, seen := s.now, detail := detail }] }
      { s with flt := f3 }

/-- Raise a report of a real fault. -/
def State.raise (src code : Nat) (c : Cls) (detail : Nat) (s : State) : State := s.raiseX src code c detail false

/-- A report that one step raises behind another of the same source: it becomes pending when the one before it is
recorded (R506). -/
def State.follow (src code : Nat) (c : Cls) (detail : Nat) (inj : Bool) (s : State) : State :=
  if s.flt.pend.any fun r => r.src = src then
    { s with flt.follow := s.flt.follow ++ [{ src := src, code := code, cls := c, injected := inj, number := 0,
                                              time := 0, seen := 0, detail := detail }] }
  else s.raiseX src code c detail inj

/-- The source ID of a host port (R501). -/
def portSrc : HostPort → Nat
  | .ha => 0x100
  | .hb => 0x101

/-! ## Injected checks (R517, R518) -/

/-- The next check of a location is corrupted by an armed injection: its mode, and the state with the check spent. -/
def State.injected (src checker loc : Nat) (s : State) : Option Bool × State :=
  match s.flt.inj.find? fun i => i.source = src ∧ i.checker = checker ∧ (i.index = loc ∨ i.index = 0xFFFFFFFF) with
  | none => (none, s)
  | some i =>
    let rest := s.flt.inj.filterMap fun j =>
      if j.slot = i.slot then (if j.left ≤ 1 then none else some { j with left := j.left - 1 }) else some j
    (some i.double, { s with flt.inj := rest, flt.consumed := (s.flt.consumed + 1) % 2 ^ 16 })

/-! ## Keel registers (R521 to R524) -/

/-- A keel register. -/
def State.keel (s : State) : Nat → Keel
  | 0 => s.flt.keel0
  | 1 => s.flt.keel1
  | 2 => s.flt.keel2
  | 3 => s.flt.keel3
  | _ => s.flt.keel4

/-- Replace a keel register. -/
def State.setKeel (i : Nat) (k : Keel) (s : State) : State :=
  match i with
  | 0 => { s with flt.keel0 := k }
  | 1 => { s with flt.keel1 := k }
  | 2 => { s with flt.keel2 := k }
  | 3 => { s with flt.keel3 := k }
  | _ => { s with flt.keel4 := k }

/-- A commit writes all three copies with one value, and a stuck state ends (R521, R524). -/
def Keel.commit (v : Nat) (k : Keel) : Keel :=
  { k with c0 := { val := v, ok := true }, c1 := { val := v, ok := true }, c2 := { val := v, ok := true },
           voted := v, stuck := false }

/-- Commit a value whatever the register's state: the host rewrite, or entry into RESET, SAVE or SAFE (R524). -/
def State.commit (i v : Nat) (s : State) : State := s.setKeel i ((s.keel i).commit v)

/-- Log KEEL_REFUSED, at most once per second per register (R524). -/
def State.keelRefused (i : Nat) (s : State) : State :=
  let k := s.keel i
  let due := match k.refusedLogged with
    | none => true
    | some t => decide (nsPerSec ≤ s.now - t)
  if due then (s.setKeel i { k with refusedLogged := some s.now }).raise 0x200 4 .ce (packItems [(3, i)]) else s

/-- A change of a keel register: refused and logged while the register is stuck (R524). -/
def State.keelChange (i v : Nat) (s : State) : Bool × State :=
  if (s.keel i).stuck then (false, s.keelRefused i) else (true, s.commit i v)

/-! ## Completions (R92, R95) -/

/-- Completion status codes (R95). -/
inductive Status
  | ok
  | notSupported
  | badArg
  | noRoom
  | notFound
  | exists'
  | authFail
  | wrongMode
  | genBusy
  | notOwner
  | doubleFree
  | aborted
  | partial'
  deriving DecidableEq, Repr

/-- The status's code (R95). -/
def Status.code : Status → Nat
  | .ok => 0
  | .notSupported => 1
  | .badArg => 2
  | .noRoom => 3
  | .notFound => 4
  | .exists' => 5
  | .authFail => 6
  | .wrongMode => 7
  | .genBusy => 8
  | .notOwner => 9
  | .doubleFree => 10
  | .aborted => 11
  | .partial' => 12

/-- The command's OPCODE. -/
def Cmd.opcode (c : Cmd) : Nat := byteAt c.bytes 0

/-- A completion of this opcode is copied to the standby (R94). -/
def mirroredOp (op : Nat) : Bool :=
  [0x10, 0x11, 0x13, 0x14, 0x18, 0x20, 0x21, 0x28, 0x29, 0x30, 0x31, 0x32, 0x38, 0x39, 0x3A, 0x40, 0x41, 0x48, 0x49,
   0x50, 0x51, 0x52].contains op

/-- The 16 bytes of a completion, without PHASE (R92). -/
def cplBytes (c : Cmd) (r : Ring) (st : Status) (r0 r1 : Nat) (mirror : Bool) : List Byte :=
  cut c.bytes 4 4 ++ [BitVec.ofNat 8 c.opcode, BitVec.ofNat 8 st.code] ++ toLE 2 ((c.pos % 2 ^ 16 + 1) % r.size)
    ++ toLE 4 r0 ++ toLE 3 r1 ++ [BitVec.ofNat 8 (b2n mirror)]

/-- Write a completion entry at a position of a port's completion ring. -/
def State.writeCpl (p : HostPort) (n pos : Nat) (e : List Byte) (irqNow : Bool) (s : State) : State :=
  let r := s.ring p n
  let r' := { r with cptr := r.succ pos, wcount := (r.wcount + 1) % 2 ^ 32 }
  ((s.setRing p n r').hostWrite p n (r.cbase + pos % 2 ^ 16 * 16) (withPhase pos e)).notify p r irqNow

/-- Fetched work of a ring is outstanding (R87, R90): a command has not completed, or a write of the ring waits for its
port. -/
def State.outstanding (s : State) (p : HostPort) (n : Nat) : Bool :=
  (s.cmds.any fun c => c.port = p ∧ c.ring = n) || (s.half p).held.any fun x => x.ring = n

/-- An enabled ring with nothing outstanding reads ACTIVE = 0 (R87). -/
def State.restRing (p : HostPort) (n : Nat) (s : State) : State :=
  let r := s.ring p n
  if r.en && !s.outstanding p n then s.setRing p n { r with active := false } else s

/-- Take a command from those outstanding. -/
def State.dropCmd (c : Cmd) (s : State) : State :=
  { s with cmds := s.cmds.filter fun d => d.serial ≠ c.serial }

/-- A mirrored completion for an enabled ring of a port that did not issue the command (R123 to R125). A standby port's
ring takes it at the completion position whatever the host has read, where the port can be written at all; it counts and
signals like any entry, its IRQ_NOW aside. A port that has since become active takes it, DESIGN CHOICE, only while the
ring is quiet, as an entry with no command: the fetch position moves with the completion position, so that no completion
overwrites it (R85, R92); until then it waits. -/
def State.copyCpl (p : HostPort) (x : Nat × List Byte) (s : State) : State :=
  let r := s.ring p x.1
  if !r.en then s
  else if p = s.active then
    if r.quiet then
      let s1 := s.writeCpl p x.1 r.cptr x.2 false
      let r1 := s1.ring p x.1
      s1.setRing p x.1 { r1 with ptr := r1.cptr, prod := r1.cptr }
    else s.onHalf p fun h => { h with late := h.late ++ [x] }
  else if s.canWrite p then s.writeCpl p x.1 r.cptr x.2 false
  else s

/-- Mirrored completions that wait are taken where their rings allow it (R125). -/
def State.flushLate (p : HostPort) (s : State) : State :=
  (s.half p).late.foldl (fun t x => t.copyCpl p x) (s.onHalf p fun h => { h with late := [] })

/-- Complete a command (R92): its completion goes to its own slot, and a mirrored opcode's copy to the other port's
ring of the same ID (R123, R125). A muted command writes none (R64). -/
def State.complete (c : Cmd) (st : Status) (r0 r1 : Nat) (s : State) : State :=
  let s1 := s.dropCmd c
  if c.mute then s1.restRing c.port c.ring
  else
    let r := s.ring c.port c.ring
    let s2 := if c.port = s.active ∨ s.canWrite c.port then
        s1.writeCpl c.port c.ring c.pos (cplBytes c r st r0 r1 false) (bit (byteAt c.bytes 1) 0)
      else s1
    let s3 := if mirroredOp c.opcode then s2.copyCpl c.port.peer (c.ring, cplBytes c r st r0 r1 true) else s2
    (s3.restRing c.port c.ring).flushLate c.port

/-- The command of a serial number. -/
def State.cmdOf (s : State) (serial : Nat) : Option Cmd := s.cmds.find? fun c => c.serial = serial

/-- Complete the command of a serial number, where it is still outstanding. -/
def State.completeSer (serial : Nat) (st : Status) (r0 r1 : Nat) (s : State) : State :=
  match s.cmdOf serial with
  | some c => s.complete c st r0 r1
  | none => s

/-- Mark a command as waiting for a later event. -/
def State.wait (c : Cmd) (s : State) : State :=
  { s with cmds := s.cmds.map fun d => if d.serial = c.serial then { d with waiting := true } else d }

end Sys2Proof.Machine
end

