-- ==== Sys2Proof/Machine/Operands.lean ====
section
/-! DEFINITION. Commands as operands: the fields of a descriptor, the reserved bits of its layout (R93), the modes that
serve it (R48), and the frame in which every opcode is carried out (R92 to R98). -/
namespace Sys2Proof.Machine

/-- A little-endian argument of `n` bytes. -/
def Cmd.arg (c : Cmd) (o n : Nat) : Nat := le c.bytes o n

/-- An argument's bits. -/
def Cmd.argBits (c : Cmd) (o n hi lo : Nat) : Nat := bits (c.arg o n) hi lo

/-- An argument held as bytes (network-order fields, R3). -/
def Cmd.argBytes (c : Cmd) (o n : Nat) : List Byte := cut c.bytes o n

/-- A field of an argument layout: offset, size in bytes, and the bits that the layout names. -/
structure ArgField where
  off : Nat
  size : Nat
  mask : Nat
  deriving DecidableEq, Repr

/-- A field all of whose bits are named. -/
def whole (off size : Nat) : ArgField := { off := off, size := size, mask := 2 ^ (8 * size) - 1 }

/-- A field with named bits. -/
def named (off size mask : Nat) : ArgField := { off := off, size := size, mask := mask }

/-- The bits of descriptor byte `i` that a layout names, the header's included. -/
def namedBits (fs : List ArgField) (i : Nat) : Nat :=
  (named 0 1 0xFF :: named 1 1 1 :: whole 4 4 :: fs).foldl (fun a f =>
    if f.off ≤ i ∧ i < f.off + f.size then a ||| ((f.mask >>> (8 * (i - f.off))) % 256) else a) 0

/-- Every reserved bit of the descriptor is 0 under a layout (R93). -/
def Cmd.reservedOk (c : Cmd) (fs : List ArgField) : Bool :=
  (List.range 64).all fun i => byteAt c.bytes i &&& (0xFF - namedBits fs i) = 0

/-- A device time argument (R9): seconds and nanoseconds as nanoseconds since the epoch; the fraction is below it. -/
def Cmd.timeNs (c : Cmd) (o : Nat) : Nat := c.arg o 8 * nsPerSec + c.arg (o + 8) 4

/-- The nanoseconds field of a device time keeps R10. -/
def Cmd.timeOk (c : Cmd) (o : Nat) : Bool := decide (c.arg (o + 8) 4 < nsPerSec)

/-- A device time argument in units of 2^-16 ns (R9). -/
def Cmd.time (c : Cmd) (o : Nat) : Nat := c.timeNs o * 65536 + c.arg (o + 12) 2

/-- Ten seconds in units of 2^-16 ns. -/
def tenSec : Nat := 655360000000000

/-- The first whole nanosecond at or after an instant in units of 2^-16 ns. -/
def ceilNs (t : Nat) : Nat := (t + 65535) / 65536

/-- A layout that leaves the reserved bits to the command itself. -/
def anyBits (_ : Cmd) : List ArgField := [whole 0 64]

/-- A device time argument has no bit set. -/
def Cmd.timeZero (c : Cmd) (o : Nat) : Bool := decide (c.arg o 16 = 0)

/-- The opcodes of the opcode table (R94). -/
def opcodes : List Nat :=
  [0x01, 0x10, 0x11, 0x12, 0x13, 0x14, 0x18, 0x19, 0x20, 0x21, 0x22, 0x28, 0x29, 0x2A, 0x30, 0x31, 0x32, 0x38, 0x39,
   0x3A, 0x3B, 0x40, 0x41, 0x48, 0x49, 0x50, 0x51, 0x52, 0x58, 0x59, 0x60, 0x61, 0x62, 0x68, 0x69, 0x70, 0x78, 0x7F]

/-- The mode serves the command (R48): NOP, FENCE and the reads in SAFE too, the pool commands in FORWARD and DRAIN
only, every other command from CONFIGURE to PARK. -/
def servedIn (op : Nat) : Mode → Bool
  | .safe => [0x01, 0x7F, 0x12, 0x19, 0x22, 0x2A, 0x3B, 0x59].contains op
  | .forward => true
  | .drain => true
  | .configure => !(op = 0x68 || op = 0x69)
  | .park => !(op = 0x68 || op = 0x69)
  | _ => false

/-- How a command's own meaning ends: completed with a status and two results, or waiting for a later event. -/
inductive Ran
  | done (st : Status) (r0 r1 : Nat) (s : State)
  | wait (s : State)

/-- Refused: nothing changes. -/
def Ran.refuse (st : Status) (s : State) : Ran := .done st 0 0 s

/-- The oldest fetched command of a ring that has not completed (R98). -/
def State.headCmd (s : State) (p : HostPort) (n : Nat) : Option Cmd := s.cmds.find? fun c => c.port = p ∧ c.ring = n

/-- The command may start: it is the ring's oldest, has not started, and its port can issue requests while it is the
active one (R72, R98). -/
def State.startable (s : State) (c : Cmd) : Bool := !c.waiting && (s.canWrite c.port || decide (c.port ≠ s.active))

/-- Carry out the ring's oldest command when its opcode and option belong to this row; else nothing changes. Outside
its modes it completes with WRONG_MODE (R48), with a reserved bit set with BAD_ARG (R93). DESIGN CHOICE: the mode is
tested first, so a command that fails both answers WRONG_MODE. -/
def State.runCmd (p : HostPort) (n : Nat) (op : Nat) (row : Cmd → Bool) (layout : Cmd → List ArgField)
    (body : Cmd → State → Ran) (s : State) : State :=
  match s.headCmd p n with
  | none => s
  | some c =>
    if c.opcode = op ∧ row c = true ∧ s.startable c = true then
      if !servedIn op s.mode then s.complete c .wrongMode 0 0
      else if !c.reservedOk (layout c) then s.complete c .badArg 0 0
      else match body c s with
        | .done st r0 r1 s' => s'.complete c st r0 r1
        | .wait s' => s'.wait c
    else s

/-- Every command of the row's opcode belongs to the row. -/
def anyRow (_ : Cmd) : Bool := true

/-- A host's write of a data block, before the completion (R79). -/
def State.hostData (c : Cmd) (addr : Nat) (data : List Byte) (s : State) : State :=
  if c.mute then s else s.hostWrite c.port c.ring addr data

/-! ## Register writes (R563) -/

/-- A host's write to a register of type RW, WO or W1C takes: the active host's, from CONFIGURE to PARK (R122, R563). -/
def State.takesRw (s : State) (p : HostPort) : Bool := decide (p = s.active) && s.served

/-- A host's write to an RWC register takes: the active host's, in CONFIGURE (R4, R563). -/
def State.takesRwc (s : State) (p : HostPort) : Bool := decide (p = s.active) && decide (s.mode = .configure)

/-! ## Port numbers (R15 to R17, R133) -/

/-- PT_MODE of a port. -/
def State.ptMode (s : State) (p : Nat) : Nat := s.rd (ptReg p 0)

/-- The port's width in lanes (R133). -/
def State.width (s : State) (p : Nat) : Nat := 2 ^ bits (s.ptMode p) 1 0

/-- The port number's lane is taken by a wider port with a lower number (R17). -/
def State.inactive (s : State) (p : Nat) : Bool :=
  (List.range 7).any fun k => decide (k + 1 ≤ p % 8) && decide (k + 1 < s.width (p - (k + 1)))

/-- The port is in use: ENABLE = 1 on an active number (R133). -/
def State.enabled (s : State) (p : Nat) : Bool := bit (s.ptMode p) 4 && !s.inactive p

/-- The enabled ports, found among the stored registers. -/
def State.enabledPorts (s : State) : List Nat :=
  s.regs.filterMap fun e =>
    if inArr e.1 0x200000 0x1000 512 && bit e.2.toNat 4 && !s.inactive ((e.1 - 0x200000) / 0x1000)
    then some ((e.1 - 0x200000) / 0x1000) else none

/-- The slice and harp of a port (R16). -/
def portSlice (p : Nat) : Nat := p / 32

/-- A port's status. -/
def State.pt (s : State) (p : Nat) : PortSt := s.port.ports.get PortSt.zero p

/-- Replace a port's status. -/
def State.setPt (p : Nat) (x : PortSt) (s : State) : State := { s with port.ports := s.port.ports.set PortSt.zero p x }

/-- A lane's state. -/
def State.lane (s : State) (l : Nat) : LaneSt := s.port.lanes.get LaneSt.zero l

/-- Replace a lane's state. -/
def State.setLane (l : Nat) (x : LaneSt) (s : State) : State :=
  { s with port.lanes := s.port.lanes.set LaneSt.zero l x }

/-- The device lanes of a port (R15). -/
def State.lanesOf (s : State) (p : Nat) : List Nat := (List.range (s.width p)).map (p + ·)

/-- A recirculation port (R352): not enabled, with PT_CORE_CFG.RECIRC = 1. -/
def State.isRecirc (s : State) (p : Nat) : Bool := !bit (s.ptMode p) 4 && bit (s.rd (ptReg p 0x28)) 8

/-- The port's data rate in Gb/s by width and lane mode (R131); a recirculation port runs as if at 400 Gb/s (R371). -/
def State.rate (s : State) (p : Nat) : Nat :=
  if s.isRecirc p then 400
  else s.width p * (match bits (s.ptMode p) 3 2 with | 0 => 400 | 1 => 200 | _ => 100)

/-- The port is UP; a recirculation port counts as UP (R337). -/
def State.isUp (s : State) (p : Nat) : Bool := decide ((s.pt p).state = .up) || s.isRecirc p

/-- The port's RS passes frames out: the port is UP and signals no local and receives no remote fault (R155: unidirectional
operation is not supported). -/
def State.lineUp (s : State) (p : Nat) : Bool :=
  decide ((s.pt p).state = .up) && !(s.pt p).localFault && !(s.pt p).remoteFault

/-- The port whose lanes include a device lane (R15, R17). -/
def State.portOfLane (s : State) (l : Nat) : Option Nat :=
  ((List.range 8).find? fun i => decide (i ≤ l % 8) && !s.inactive (l - i) && decide (i < s.width (l - i))).map (l - ·)

/-- Extents may be freed: the buffer is live, which it is in FORWARD and DRAIN (R36); in SAFE it is frozen (R56). -/
def State.bufLive (s : State) : Bool := decide (s.mode = .forward) || decide (s.mode = .drain)

/-- A port counter (R167). -/
def State.ptCount (p i n : Nat) (s : State) : State := s.count (ptReg p (0x400 + 8 * i)) n

end Sys2Proof.Machine
end

