-- ==== Sys2Proof/Machine/Buffer.lean ====
section
/-! DEFINITION. Tiles, extents and the buffer pool manager (chapter 08). -/
namespace Sys2Proof.Machine
open Host (Outcome)

/-! ## Layout (R305 to R307) -/

/-- Tiles per extent of a pool. -/
def poolSize (k : Nat) : Nat := match k with | 0 => 1 | 1 => 2 | 2 => 7 | _ => 40

/-- The largest frame of a pool in bytes (R305). -/
def poolMax (k : Nat) : Nat := poolSize k * 256 - 64

/-- Extents of a pool in the layout in force. -/
def BufSt.cnt (b : BufSt) (k : Nat) : Nat := match k with | 0 => b.cnt0 | 1 => b.cnt1 | 2 => b.cnt2 | _ => b.cnt3

/-- The first logical tile of a pool (R306). -/
def BufSt.base (b : BufSt) (k : Nat) : Nat :=
  match k with
  | 0 => 0
  | 1 => b.cnt0
  | 2 => b.cnt0 + 2 * b.cnt1
  | _ => b.cnt0 + 2 * b.cnt1 + 7 * b.cnt2

/-- Tiles of all pools, P of R321. -/
def BufSt.pooled (b : BufSt) : Nat := b.cnt0 + 2 * b.cnt1 + 7 * b.cnt2 + 40 * b.cnt3

/-- The pool a handle word names (R307). -/
def hPool (h : Nat) : Nat := bits h 25 24

/-- The first tile a handle word names (R307). -/
def hTile (h : Nat) : Nat := bits h 23 0

/-- Tiles of the extent a handle names. -/
def hSize (h : Nat) : Nat := poolSize (hPool h)

/-- The handle word of extent `e` of pool `k` (R307). -/
def BufSt.handle (b : BufSt) (k e : Nat) : Nat := k * 2 ^ 24 + (b.base k + e * poolSize k)

/-- The handle is valid (R307). -/
def BufSt.validHandle (b : BufSt) (h : Nat) : Bool :=
  let k := hPool h
  decide (h < 2 ^ 26) && decide (b.base k ≤ hTile h)
    && decide (hTile h + 1 ≤ b.base k + b.cnt k * poolSize k) && decide ((hTile h - b.base k) % poolSize k = 0)

/-- The extents of pool `k` that hold any of `n` tiles from tile `t`. -/
def BufSt.overlapping (b : BufSt) (k t n : Nat) : List Nat :=
  (List.range (n + 1)).filterMap fun j =>
    let tile := t + j
    if j < n ∧ b.base k ≤ tile ∧ tile < b.base k + b.cnt k * poolSize k then
      some (b.handle k ((tile - b.base k) / poolSize k))
    else none

/-- Every extent of the layout that holds a tile of an extent withdrawn under R330 (R308, R330). -/
def BufSt.layWithdrawn (b : BufSt) : SMap Nat :=
  b.gone.foldl (fun m h =>
    ([0, 1, 2, 3].flatMap fun k => b.overlapping k (hTile h) (hSize h)).foldl (fun m' x => m'.set 0 x 2) m) []

/-- Tiles of the withdrawn extents (R332). -/
def BufSt.withdrawnTiles (b : BufSt) : Nat := (b.withdrawn.map fun e => hSize e.1).sum

/-- Live tiles L (R321): all but those withdrawn under R330. -/
def BufSt.live (b : BufSt) : Nat := 2097152 - (b.withdrawn.map fun e => if e.2 = 2 then hSize e.1 else 0).sum

/-- The extent's record is free. -/
def BufSt.isFree (b : BufSt) (h : Nat) : Bool :=
  !(b.ext.any fun e => e.1 = h) && decide (b.withdrawn.get 0 h = 0)

/-- The extent is on its pool's free list: that of a free record, unless an upset has taken it off or put it on (R326). -/
def BufSt.listed (b : BufSt) (h : Nat) : Bool := (b.isFree h && !b.offList.contains h) || b.onList.contains h

/-- Free extents of a pool (BPM_POOL_FREE). -/
def BufSt.free (b : BufSt) (k : Nat) : Nat :=
  b.cnt k - (b.ext.filter fun e => hPool e.1 = k ∧ b.withdrawn.get 0 e.1 = 0).length - (b.withdrawn.filter fun e => hPool e.1 = k).length

/-- The first listed extent at or after extent number `e`, going round the pool; `n` tries. -/
def BufSt.seek (b : BufSt) (k : Nat) : Nat → Nat → Option Nat
  | 0, _ => none
  | n + 1, e =>
    let h := b.handle k (e % b.cnt k)
    if b.listed h then some h else b.seek k n (e + 1)

/-- The extent that a pool hands out, its free list standing at `pos`. -/
def BufSt.hand (b : BufSt) (k pos : Nat) : Option Nat :=
  if b.free k = 0 then none
  else b.seek k (b.ext.length + b.withdrawn.length + b.offList.length + 1) (pos % b.cnt k)

/-- BPM_CNT[i] (R332). -/
def State.bpmCount (i n : Nat) (s : State) : State := s.count (0x80200 + 8 * i) n

/-! ## Reserved minima and the shared space (R318 to R321) -/

/-- The ingress profile of an ingress entity (port × 8 + group). -/
def State.iprof (s : State) (i : Nat) : Nat :=
  s.rd (0x80100 + 4 * bits (s.rd (ptReg (i / 8) 0x24)) (4 * (i % 8) + 3) (4 * (i % 8)))

/-- MIN, ALPHA and HDRM of an ingress profile. -/
def ipMin (v : Nat) : Nat := bits v 11 0
/-- ALPHA of an ingress profile. -/
def ipAlpha (v : Nat) : Nat := bits v 15 12
/-- HDRM of an ingress profile. -/
def ipHdrm (v : Nat) : Nat := bits v 31 16

/-- The priority group of a PCP on a port; `none` is an untagged frame (R318, R333). -/
def State.pgOf (s : State) (p : Nat) (pcp : Option Nat) : Nat :=
  let m := s.rd (ptReg p 0x20)
  let n := match pcp with
    | some x => x % 8
    | none => bits m 26 24
  bits m (3 * n + 2) (3 * n)

/-- The queue profile of a class queue or CPU queue (R334): `prof` holds the profiles that QUEUE_CFG set. -/
def State.qprofIdx (s : State) (q : Nat) : Nat := if 4096 ≤ q then 15 else s.core.prof.get 0 q

/-- BPM_QPROF of a class queue or CPU queue. -/
def State.qprof (s : State) (q : Nat) : Nat := s.rd (0x80140 + 4 * s.qprofIdx q)

/-- Tiles reserved for one enabled port (R321). -/
def State.portReserved (s : State) (p : Nat) : Nat :=
  ((List.range 8).map fun g => ipMin (s.iprof (p * 8 + g)) + ipHdrm (s.iprof (p * 8 + g))).sum
    + ((List.range 8).map fun t => bits (s.qprof (p * 8 + t)) 15 0).sum

/-- The shared space S; below 0 when the reserved tiles exceed the pooled ones (R321). -/
def State.sharedSpace (s : State) : Int :=
  (s.buf.pooled : Int) - ((s.enabledPorts.map s.portReserved).sum : Nat)

/-- BPM_STAT.FIT (R321). -/
def State.fit (s : State) : Bool := decide (s.buf.pooled ≤ s.buf.live) && decide (0 ≤ s.sharedSpace)

/-- Use `n` stays within alpha of the shared space left, for ALPHA code `a` (R320). -/
def State.alphaOk (s : State) (a n : Nat) : Bool :=
  decide (a ≤ 10) && decide ((n : Int) * 128 ≤ 2 ^ a * (s.sharedSpace - s.buf.used))

/-- The charge test for `c` tiles, ingress entity `i` and queue `q` (R319, R320). -/
def State.chargeTest (s : State) (c : Nat) (i : Option Nat) (q : Nat) : Option Charge :=
  let b := s.buf
  let qv := s.qprof q
  let iOk (f : Nat → Bool) : Bool := match i with
    | some x => f x
    | none => false
  if b.qMin.get 0 q + c ≤ bits qv 15 0 then some (.qmin q)
  else if iOk fun x => decide (b.iMin.get 0 x + c ≤ ipMin (s.iprof x)) then i.map fun x => .imin x q
  else if decide ((b.used + c : Nat) ≤ s.sharedSpace)
      && (i.isNone || iOk fun x => s.alphaOk (ipAlpha (s.iprof x)) (b.iSh.get 0 x + c))
      && s.alphaOk (bits qv 19 16) (b.qSh.get 0 q + c) then some (.shared i q)
  else if iOk fun x => decide (0 < ipHdrm (s.iprof x)) && decide (b.iHd.get 0 x + c ≤ ipHdrm (s.iprof x)) then
    i.map fun x => .hdrm x q
  else none

/-- A use counter, `c` tiles more. -/
def addUse (m : SMap Nat) (k c : Nat) : SMap Nat := m.set 0 k (m.get 0 k + c)

/-- A use counter, `c` tiles less. -/
def subUse (m : SMap Nat) (k c : Nat) : SMap Nat := m.set 0 k (m.get 0 k - c)

/-- Charge `c` tiles (R320). -/
def BufSt.charge (b : BufSt) (c : Nat) : Charge → BufSt
  | .qmin q => { b with qMin := addUse b.qMin q c }
  | .imin i _ => { b with iMin := addUse b.iMin i c }
  | .shared none q => { b with qSh := addUse b.qSh q c, used := b.used + c }
  | .shared (some i) q => { b with qSh := addUse b.qSh q c, iSh := addUse b.iSh i c, used := b.used + c }
  | .hdrm i _ => { b with iHd := addUse b.iHd i c }
  | .host => { b with used := b.used + c }

/-- Release a charge of `c` tiles (R316). -/
def BufSt.uncharge (b : BufSt) (c : Nat) : Charge → BufSt
  | .qmin q => { b with qMin := subUse b.qMin q c }
  | .imin i _ => { b with iMin := subUse b.iMin i c }
  | .shared none q => { b with qSh := subUse b.qSh q c, used := b.used - c }
  | .shared (some i) q => { b with qSh := subUse b.qSh q c, iSh := subUse b.iSh i c, used := b.used - c }
  | .hdrm i _ => { b with iHd := subUse b.iHd i c }
  | .host => { b with used := b.used - c }

/-! ## Taking an extent (R309 to R313) -/

/-- Device time in milliseconds modulo 2^16 (R313). -/
def State.ms16 (s : State) : Nat := s.devNs / 1000000 % 65536

/-- Enter an extent as allocated with one reference (R313). -/
def State.enterExt (h owner : Nat) (c : Charge) (data : List Byte) (s : State) : State :=
  let e : Ext := { owner := owner, refs := 1, charge := c, allocMs := s.ms16, allocAt := s.now, mark := 0,
                   bad0 := false, bad1 := false, data := data }
  ({ s with buf := { s.buf.charge (hSize h) c with ext := s.buf.ext.set Ext.none h e, onList := s.buf.onList.erase h,
                                                   offList := s.buf.offList.erase h } }).bpmCount 0 1

/-! ### Tiles and tags (R301) -/

/-- An extent as written at `now`: its internal header, then the frame (R305). -/
def extBytes (now : Nat) (data : List Byte) : List Byte := toLE 64 (Config.extHeader now data).toNat ++ data

/-- Tile `j` of an extent, zeros in what the frame does not fill (R301). -/
def tileBytes (b : List Byte) (j : Nat) : List Byte := padTo 256 ((b.drop (256 * j)).take 256)

/-- The CRC-32C of a tile (R301). -/
def tileTag (b : List Byte) : Nat := crcFin (crcRun polyC (2 ^ 32 - 1) b)

/-- A tile and its tag are written, which ends any damage to them (R301, R304). -/
def BufSt.writeTile (b : BufSt) (t : Nat) (x : List Byte) : BufSt :=
  { b with tags := b.tags.put t (tileTag x), flaws := b.flaws.erase t }

/-- Tiles that a frame of `n` bytes fills, its extent's header with it. -/
def tilesFor (h n : Nat) : Nat := satTo (hSize h) ((n + 64 + 255) / 256)

/-- The tiles of a frame with their tags. The model writes them as the extent is taken; no read of a tile comes before it
is complete (R303). -/
def BufSt.writeFrame (b : BufSt) (h now : Nat) (data : List Byte) : BufSt :=
  (List.range (tilesFor h data.length)).foldl
    (fun b j => b.writeTile (hTile h + j) (tileBytes (extBytes now data) j)) b

/-- The pool can serve a request: it has a free extent beyond those held back for TC7 (R310). -/
def State.poolServes (s : State) (k : Nat) (tc7 : Bool) : Bool :=
  decide (0 < s.buf.free k) && (tc7 || decide (bits (s.rd (0x80010 + 4 * k)) 15 0 < s.buf.free k))

/-- How taking an extent ends. -/
inductive Took
  | got (h : Nat)
  | noExtent
  | bufLimit
  deriving DecidableEq, Repr

/-- The pool holds the last extent that it can give such a request (R310, R311). -/
def State.lastOne (s : State) (k : Nat) (tc7 : Bool) : Bool :=
  decide (s.buf.free k = (if tc7 then 0 else bits (s.rd (0x80010 + 4 * k)) 15 0) + 1)

/-- Take an extent from pool `k`, or from a larger one when it cannot serve or another request of the cycle wins its last
extent (R310, R311), testing the charge at each pool tried (R312). -/
def State.takeFrom (tc7 : Bool) (i : Option Nat) (q owner : Nat) (pick : Draw) (data : List Byte) :
    Nat → Nat → State → Took × State
  | 0, _, s => (.noExtent, s)
  | n + 1, k, s =>
    if 3 < k then (.noExtent, s)
    else if !s.poolServes k tc7 then s.takeFrom tc7 i q owner pick data n (k + 1)
    else if pick.lost.contains k && s.lastOne k tc7 then
      (s.bpmCount 2 1).takeFrom tc7 i q owner pick data n (k + 1)
    else match s.chargeTest (poolSize k) i q with
      | none => (.bufLimit, s)
      | some c =>
        match s.buf.hand k pick.pos with
        | none => s.takeFrom tc7 i q owner pick data n (k + 1)
        | some h =>
          let s1 := s.enterExt h owner c data
          let s2 := { s1 with buf := s1.buf.writeFrame h s1.now data }
          let s3 := match c with
            | .hdrm _ _ => s2.bpmCount 5 1
            | _ => s2
          (.got h, s3)

/-- The smallest pool that fits a frame of a length, P3 for a length not yet known (R309). -/
def fitPool : Option Nat → Nat
  | none => 3
  | some n => if n ≤ poolMax 0 then 0 else if n ≤ poolMax 1 then 1 else if n ≤ poolMax 2 then 2 else 3

/-- Take an extent for a frame (R309 to R312). -/
def State.take (len : Option Nat) (tc7 : Bool) (i : Option Nat) (q owner : Nat) (pick : Draw)
    (data : List Byte) (s : State) : Took × State :=
  match s.takeFrom tc7 i q owner pick data 5 (fitPool len) with
  | (.got h, s1) => (.got h, if hPool h = fitPool len then s1 else s1.bpmCount 1 1)
  | r => r

/-! ## Retiring tiles (R329, R330) and the wear records they leave (R331) -/

/-- A use of a spare goes to the wear records unless an injection caused it (R517, R543). -/
def State.wearUse (inj : Bool) (f : Wear → Wear) (s : State) : State :=
  if inj then s else { s with ref.wear := f s.ref.wear, ref.wearDirty := true }

/-- Spare tiles left. -/
def BufSt.sparesLeft (b : BufSt) : Nat := 65536 - b.spares.length

/-- The physical tile that serves a logical tile (R300): spare `i` is physical tile 2,097,152 + i. -/
def BufSt.physical (b : BufSt) (t : Nat) : Nat :=
  match b.spares.find? fun e => (match e.2 with | .serving l _ => decide (l = t) | _ => false) with
  | some e => 2097152 + e.1
  | none => t

/-- A spare that served the tile turns bad. -/
def BufSt.dropServing (b : BufSt) (t : Nat) (inj : Bool) : BufSt :=
  { b with spares := b.spares.map fun e => (e.1, match e.2 with
      | .serving l j => if l = t then .bad inj else .serving l j
      | x => x) }

/-- The wear entry of a spare that turns bad. -/
def wearBad (i : Nat) (w : Wear) : Wear := { w with tiles := w.tiles.set 0 i 0x80000000 }

/-- Withdraw an extent for want of a spare (R330). -/
def State.withdraw (h : Nat) (inj : Bool) (s : State) : State :=
  let s1 := { s with buf.gone := s.buf.gone ++ [h], buf.withdrawn := s.buf.withdrawn.set 0 h 2 }
  let s2 := if inj then s1
    else if s1.ref.wear.withdrawn.length < 4096 then
      s1.wearUse false fun w => { w with withdrawn := w.withdrawn ++ [h + 2 ^ 31] }
    else s1.raise 0xC00 4 .ce (packItems [(1, 1)])
  s2.follow 0x701 6 .uc (packItems [(32, h)]) inj

/-- When 4,096 spares remain, TILE_SPARES_LOW is logged (R330). -/
def State.spareLow (inj : Bool) (s : State) : State :=
  if s.buf.sparesLeft = 4096 then s.follow 0x701 5 .ce (packItems [(17, 4096)]) inj else s

/-- Bring in a spare for logical tile `t` of extent `h`, from spare `i` on (R329): a spare that fails the pattern check
is retired in turn; with none left the extent is withdrawn. -/
def State.bringSpare (t h old : Nat) (inj : Bool) : Nat → Nat → State → State
  | 0, _, s => s.withdraw h inj
  | n + 1, i, s =>
    if s.buf.spares.get .unused i ≠ .unused then s.bringSpare t h old inj n (i + 1)
    else if Config.spareFails i then
      let s1 := ({ s with buf.spares := s.buf.spares.set .unused i (.bad inj) }).bpmCount 9 1
      let s2 := (s1.wearUse inj (wearBad i)).follow 0x701 3 .ce (packItems [(22, 2097152 + i)]) inj
      (s2.spareLow inj).bringSpare t h old inj n (i + 1)
    else
      let s1 := ({ s with buf := { s.buf.writeTile t (List.replicate 256 0xAA) with
                                     spares := s.buf.spares.set .unused i (.serving t inj) } }).bpmCount 8 1
      let s2 := s1.wearUse inj fun w => { w with tiles := w.tiles.set 0 i (t + 2 ^ 30) }
      (s2.follow 0x701 2 .ce (packItems [(21, t), (22, old), (17, s2.buf.sparesLeft)]) inj).spareLow inj

/-- Retire logical tile `t` of extent `h` (R329). -/
def State.retireTile (h t : Nat) (inj : Bool) (s : State) : State :=
  let old := s.buf.physical t
  let s1 := { s with buf := { s.buf.dropServing t inj with retire := s.buf.retire.erase t } }
  let s2 := if old < 2097152 then s1 else s1.wearUse inj (wearBad (old - 2097152))
  s2.bringSpare t h old inj 65536 0

/-- The logical tiles of an extent. -/
def tilesOf (h : Nat) : List Nat := (List.range (hSize h)).map (hTile h + ·)

/-- Apply the pending retirements of an extent's tiles (R316). -/
def State.applyRetire (h : Nat) (s : State) : State :=
  (s.buf.retire.filter fun e => (tilesOf h).contains e.1).foldl
    (fun t e => if t.buf.withdrawn.get 0 h = 0 then t.retireTile h e.1 e.2 else t) s

/-! ## Releases and frees (R315 to R317) -/

/-- Free an extent: its charge, then its pending retirements, then the free list (R316). A withdrawn one stays as it is
(R317). -/
def State.freeExt (h : Nat) (s : State) : State :=
  let e := s.buf.ext.get Ext.none h
  if s.buf.withdrawn.get 0 h ≠ 0 then s
  else
    let b := s.buf.uncharge (hSize h) e.charge
    ({ s with buf := { b with ext := b.ext.erase h, onList := b.onList.erase h } }).applyRetire h

/-- Why a release or a free is refused (R315). -/
inductive Refused
  | badHandle
  | doubleFree
  | notOwner
  deriving DecidableEq, Repr

/-- The checks of a release or a free, in order (R315); a withdrawn extent takes every one (R317). -/
def BufSt.check (b : BufSt) (h tag : Nat) : Option Refused :=
  if b.withdrawn.get 0 h ≠ 0 then none
  else if !b.validHandle h then some .badHandle
  else if !(b.ext.any fun e => e.1 = h) then some .doubleFree
  else if (b.ext.get Ext.none h).owner ≠ tag then some .notOwner
  else none

/-- Log a refused release (R315). -/
def State.logRefused (h tag : Nat) (r : Refused) (s : State) : State :=
  match r with
  | .doubleFree => s.raise 0x700 1 .uc (packItems [(32, h), (12, tag)])
  | .notOwner => s.raise 0x700 2 .uc (packItems [(32, h), (12, tag), (12, (s.buf.ext.get Ext.none h).owner)])
  | .badHandle => s.raise 0x700 3 .uc (packItems [(32, h), (12, tag)])

/-- An ownership record is read: an uncorrectable copy is rewritten from the other; with both uncorrectable the extent
is withdrawn and keeps its charge (R317). -/
def State.readRecord (h : Nat) (s : State) : State :=
  let (hit, s0) := s.injected 0x700 0 h
  let e := s0.buf.ext.get Ext.none h
  if !(s0.buf.ext.any fun x => x.1 = h) || decide (s0.buf.withdrawn.get 0 h ≠ 0) then s0
  else if e.bad0 && e.bad1 then
    ({ s0 with buf.ext := s0.buf.ext.set Ext.none h { e with bad0 := false, bad1 := false },
               buf.withdrawn := s0.buf.withdrawn.set 0 h 1 }).raise 0x700 5 .uc (packItems [(32, h)])
  else
    let s1 := if hit.isSome then s0.raiseX 0x700 4 .ce (packItems [(32, h)]) true else s0
    if e.bad0 || e.bad1 then
      ({ s1 with buf.ext := s1.buf.ext.set Ext.none h { e with bad0 := false, bad1 := false } }).raise
        0x700 4 .ce (packItems [(32, h)])
    else s1

/-- Release one reference of an extent; at none left it is freed (R313, R315, R316). A withdrawn extent takes every
release (R317). Whether the release was taken. -/
def State.release (h tag : Nat) (s : State) : Bool × State :=
  let s0 := s.readRecord h
  if s0.buf.withdrawn.get 0 h ≠ 0 then (true, s0)
  else match s0.buf.check h tag with
    | some r => (false, (s0.logRefused h tag r).bpmCount 10 1)
    | none =>
      let e := s0.buf.ext.get Ext.none h
      if e.refs ≤ 1 then (true, s0.freeExt h)
      else (true, { s0 with buf.ext := s0.buf.ext.set Ext.none h { e with refs := e.refs - 1 } })

/-- Add a reference for a further copy (R313). -/
def State.addRef (h : Nat) (s : State) : State :=
  let s0 := s.readRecord h
  let e := s0.buf.ext.get Ext.none h
  if s0.buf.ext.any fun x => x.1 = h then { s0 with buf.ext := s0.buf.ext.set Ext.none h { e with refs := e.refs + 1 } }
  else s0

/-! ## Upsets -/

/-- An upset of one free list takes the extent off it, or puts it on (R326). -/
def BufSt.upsetList (b : BufSt) (h : Nat) : BufSt :=
  if !b.validHandle h || decide (b.withdrawn.get 0 h ≠ 0) then b
  else if b.isFree h then { b with offList := if b.offList.contains h then b.offList.erase h else h :: b.offList }
  else { b with onList := if b.onList.contains h then b.onList.erase h else h :: b.onList }

/-- An upset of one record: one copy uncorrectable, or both (R317). -/
def BufSt.upsetRec (b : BufSt) (h : Nat) (both : Bool) : BufSt :=
  let e := b.ext.get Ext.none h
  if b.ext.any fun x => x.1 = h then
    { b with ext := b.ext.set Ext.none h { e with bad0 := true, bad1 := both || e.bad1 } }
  else b

/-- The upsets that the world brings, which stay until the device meets them. -/
def State.upset (u : Upset) (s : State) : State :=
  let b1 := u.tiles.foldl (fun (b : BufSt) e => { b with flaws := b.flaws.put e.1 e.2 }) s.buf
  let b2 := u.recs.foldl (fun b e => b.upsetRec e.1 e.2) b1
  { s with buf := u.lists.foldl BufSt.upsetList b2 }

/-! ## Reading tiles -/

/-- One tile of a read: whether the frame is faulty for it, and the state. A failed tile is marked for retirement (R302);
a tag's single-bit error is corrected, rewritten and counted, an uncorrectable tag stays until the tile's next write
(R304). -/
def State.readTile (tag t : Nat) (e : Option TileErr) (inj : Bool) (s : State) : Bool × State :=
  match e with
  | none => (false, s)
  | some .crc =>
    (true, (({ s with buf.retire := s.buf.retire.put t inj }).bpmCount 6 1).raiseX 0x701 1 .uc
      (packItems [(21, t), (12, tag)]) inj)
  | some .tagOne => (false, ({ s with buf.flaws := if inj then s.buf.flaws else s.buf.flaws.erase t }).bpmCount 7 1)
  | some .tagTwo => (true, s.raiseX 0x701 4 .uc (packItems [(21, t)]) inj)

/-- The damage that stands at a tile. -/
def BufSt.flaw (b : BufSt) (t : Nat) : Option TileErr := (b.flaws.find? fun e => e.1 = t).map Prod.snd

/-- Injections that the checks of a tile meet. -/
def State.tileInject (t : Nat) (s : State) : Option TileErr × State :=
  let (a, s1) := s.injected 0x701 0 t
  let (b, s2) := s1.injected 0x701 1 t
  match a, b with
  | some _, _ => (some .crc, s2)
  | none, some true => (some .tagTwo, s2)
  | none, some false => (some .tagOne, s2)
  | none, none => (none, s2)

/-- Tile `j` of an extent is read unless its first has failed: the first tile that failed, and the state. -/
def readTileAt (h tag : Nat) (acc : Option Nat × State) (j : Nat) : Option Nat × State :=
  if acc.1 = some 0 then acc
  else
    let t := hTile h + j
    let x := acc.2.tileInject t
    let y := x.2.readTile tag t (x.2.buf.flaw t) false
    let z := y.2.readTile tag t x.1 true
    (if acc.1.isNone && (y.1 || z.1) then some j else acc.1, z.2)

/-- Read the tiles of an extent that hold the first `n` bytes of its frame: the first faulty tile (R302, R304), and the
state; a frame whose first tile is faulty is read no further. -/
def State.readTiles (h tag n : Nat) (s : State) : Option Nat × State :=
  (List.range (tilesFor h n)).foldl (readTileAt h tag) (none, s)

/-! ## What the registers show -/

/-- The host's extents, those withdrawn apart. -/
def BufSt.hostExts (b : BufSt) : List Nat :=
  (b.ext.filter fun e => e.2.owner = 0x3FF ∧ b.withdrawn.get 0 e.1 = 0).map Prod.fst

/-- Extents with tag 0x3FF (BPM_HOST_CNT). -/
def BufSt.hostCnt (b : BufSt) : Nat := b.hostExts.length

/-- BPM_POOL_CNT as written. -/
def State.wantCnt (s : State) (k : Nat) : Nat := bits (s.rd (0x80000 + 4 * k)) 21 0

/-- The buffer holds no frame (GL_MODE.EMPTY): no extent but the host's is allocated, and none waits in a slice. -/
def State.bufEmpty (s : State) : Bool := (s.buf.ext.all fun e => e.2.owner = 0x3FF || s.buf.withdrawn.get 0 e.1 ≠ 0)
  && s.core.pkts.isEmpty

end Sys2Proof.Machine
end

