-- ==== Sys2Proof/Machine/Calendar.lean ====
section
/-! DEFINITION. Fret calendars: frets in force, gates, loads and swaps (R410 to R417, R432, R433). -/
namespace Sys2Proof.Machine
open Host (Outcome)

/-- A port's calendar. -/
def State.cal (s : State) (p : Nat) : Cal := s.time.cal.get Cal.zero p

/-- Replace a port's calendar. -/
def State.setCal (p : Nat) (c : Cal) (s : State) : State := { s with time.cal := s.time.cal.set Cal.zero p c }

/-- A bank by number. -/
def Cal.bank (c : Cal) (b : Nat) : Bank := if b = 0 then c.b0 else c.b1

/-- Replace a bank. -/
def Cal.setBank (b : Nat) (x : Bank) (c : Cal) : Cal := if b = 0 then { c with b0 := x } else { c with b1 := x }

/-- The bank that can be loaded: bank 0 when none has been active (R413). -/
def Cal.idle (c : Cal) : Nat := match c.act with | some 0 => 1 | _ => 0

/-- The calendar base in nanoseconds since the epoch: keel register 4 (R411, R432). -/
def State.calBase (s : State) : Nat := s.flt.keel4.voted

/-- The phase of a bank at `t` ns since the epoch (R410). -/
def Bank.phase (b : Bank) (t : Nat) : Nat :=
  if b.cycle = 0 then 0 else (((t : Int) - b.capo) % b.cycle).toNat

/-- The entry that holds phase `ph`, with its number and the phase where it ends, from entry `i` starting at `st`. -/
def fretAt : List Fret → Nat → Nat → Nat → Nat × Fret × Nat
  | [], _, i, st => (i, { dur := 0, gates := 0xFF, hold := false }, st)
  | [f], _, i, st => (i, f, st + f.dur)
  | f :: g :: r, ph, i, st => if ph < st + f.dur then (i, f, st + f.dur) else fretAt (g :: r) ph (i + 1) (st + f.dur)

/-- The bank in force at `t`, a pending swap of known instant included (R414, R416). -/
def Cal.inForce (c : Cal) (t : Nat) : Option Nat :=
  match c.swapAt with
  | some x => if x ≤ t then some c.idle else c.act
  | none => c.act

/-- The fret in force on a port at `t`: its number, itself, and the instant it ends (R410). -/
def Cal.fretNow (c : Cal) (t : Nat) : Option (Nat × Fret × Nat) :=
  (c.inForce t).map fun b =>
    let k := c.bank b
    let ph := k.phase t
    let (i, f, e) := fretAt k.frets ph 0 0
    (i, f, t + (e - ph))

/-- The calendar gates at `t`: EN is 1 and the base has passed (R411). -/
def State.gating (s : State) (p t : Nat) : Bool := (s.cal p).en && decide (s.calBase ≤ t)

/-- The gate of class `tc` of a port is open at `t` (R411). -/
def State.gateOpen (s : State) (p tc t : Nat) : Bool :=
  if s.gating p t then
    match (s.cal p).fretNow t with
    | some (_, f, _) => bit f.gates tc
    | none => true
  else true

/-- HOLD of the fret in force (R420). -/
def State.holdNow (s : State) (p t : Nat) : Bool :=
  if s.gating p t then
    match (s.cal p).fretNow t with
    | some (_, f, _) => f.hold
    | none => false
  else false

/-- The next instant after `t` at which the gates of a port can change. -/
def State.gateNext (s : State) (p t : Nat) : Nat :=
  let c := s.cal p
  let e := match c.fretNow t with
    | some (_, _, x) => x
    | none => t + nsPerSec
  let e1 := if t < s.calBase ∧ s.calBase < e then s.calBase else e
  match c.swapAt with
  | some x => if t < x ∧ x < e1 then x else e1
  | none => e1

/-- The gate stays open without a break from `t` to `stop`, judged fret by fret (R416). -/
def State.openThrough (s : State) (p tc stop : Nat) : Nat → Nat → Bool
  | 0, _ => true
  | n + 1, t => if stop ≤ t then true else s.gateOpen p tc t && s.openThrough p tc stop n (s.gateNext p t)

/-- Frets to look at before the whole of both banks has been seen. -/
def Cal.span (c : Cal) : Nat := 2 * (c.b0.frets.length + c.b1.frets.length) + 4

/-- The time at the balls of a frame of `len` bytes in ns, rounded up (R416). -/
def State.wireNs (s : State) (p len : Nat) : Nat := ((len + 8) * 8 + s.rate p - 1) / (if s.rate p = 0 then 1 else s.rate p)

/-- Where the time at the balls of a frame of `len` bytes ends that starts at `u`, in units of 2^-16 ns: in ns, rounded up
(R416). -/
def State.wireEnd (s : State) (p len u : Nat) : Nat :=
  let r := if s.rate p = 0 then 1 else s.rate p
  (u * r + (len + 8) * 8 * 65536 + (65536 * r - 1)) / (65536 * r)

/-- The calendar admits a frame of a charged length that starts at `u`, in units of 2^-16 ns (R416). -/
def State.gateAdmits (s : State) (p tc len u : Nat) : Bool :=
  if (s.cal p).en then s.openThrough p tc (s.wireEnd p len u) (s.cal p).span (u / 65536) else true

/-- The longest unbroken open run of a class in a list of frets that follows itself, in ns: `cur` is the run so far.
A run across the end of the cycle counts as one (R417). -/
def longestRun (tc : Nat) : List Fret → Nat → Nat → Nat
  | [], cur, best => if best < cur then cur else best
  | f :: r, cur, best =>
    if bit f.gates tc then longestRun tc r (cur + f.dur) best
    else longestRun tc r 0 (if best < cur then cur else best)

/-- The gate of the active bank could never pass a frame of `len` bytes (R417). -/
def State.fretNever (s : State) (p tc len : Nat) : Bool :=
  if s.gating p s.devNs then
    match (s.cal p).act with
    | none => false
    | some b =>
      let k := (s.cal p).bank b
      if k.frets.all fun f => bit f.gates tc then false
      else decide (longestRun tc (k.frets ++ k.frets) 0 0 < s.wireNs p len)
  else false

/-! ## CAL_LOAD (R412, R413) -/

/-- A fret entry from its 8 bytes (R410). -/
def readFret (b : List Byte) (i : Nat) : Fret :=
  { dur := bits (le b (8 * i) 4) 29 0, gates := byteAt b (8 * i + 4), hold := bit (byteAt b (8 * i + 5)) 0 }

/-- The reserved bits of a fret entry are 0. -/
def fretReservedOk (b : List Byte) (i : Nat) : Bool :=
  decide (bits (le b (8 * i) 4) 31 30 = 0) && decide (le b (8 * i + 5) 3 < 2)

/-- The layout of CAL_LOAD. -/
def calLoadLayout : List ArgField :=
  [named 8 2 0x1FF, whole 10 2, named 12 4 0x3FFFFFFF, named 16 4 0x3FFFFFFF, whole 20 4, whole 24 8]

/-- CAL_LOAD (R413): a reserved bit too is answered with RESULT0 = 1. -/
def execCalLoad (p : HostPort) (n : Fin 64) (data : List Byte) (s : State) : Outcome State Fault Refusal :=
  .next <| s.runCmd p n 0x48 anyRow anyBits fun c s =>
    let port := c.arg 8 2
    let count := c.arg 10 2
    let capo := c.arg 12 4
    let cycle := c.arg 16 4
    let es := (List.range count).map (readFret data)
    let k := s.cal port
    if c.reservedOk calLoadLayout = false ∨ s.inactive port ∨ count = 0 ∨ 1024 < count ∨ cycle < 1000 ∨ nsPerSec < cycle ∨ c.arg 24 8 % 64 ≠ 0 then
      .done .badArg 1 0 s
    else if !((List.range count).all (fretReservedOk data)) || es.any fun f => decide (nsPerSec < f.dur) then
      .done .badArg 1 0 s
    else if (es.any fun f => decide (f.dur < 20)) || decide ((es.map Fret.dur).sum ≠ cycle) then .done .badArg 2 0 s
    else if cycle ≤ capo then .done .badArg 3 0 s
    else if k.pending then .done .badArg 4 0 s
    else
      let b : Bank := { frets := es, cycle := cycle, capo := capo, tag := c.arg 20 4 }
      .done .ok k.idle count (s.setCal port (k.setBank k.idle b))

/-! ## CAL_SWAP (R414, R415) -/

/-- The first cycle start of a bank at or after `t` (R414). -/
def Bank.cycleStart (b : Bank) (t : Nat) : Nat := if b.phase t = 0 then t else t + (b.cycle - b.phase t)

/-- The swap instant of a port for a reference instant (R414). -/
def Cal.swapInstant (c : Cal) (ref : Nat) : Nat :=
  match c.act with
  | some b => (c.bank b).cycleStart ref
  | none => ref

/-- The port has a loaded inactive bank. -/
def Cal.ready (c : Cal) : Bool := !(c.bank c.idle).frets.isEmpty

/-- The ports a SCOPE names (R414): the port, its slice's, or every one, of those with a calendar that is ready. -/
def State.swapPorts (s : State) (scope port : Nat) : List Nat :=
  (s.time.cal.filter fun e => e.2.ready && !s.inactive e.1 &&
    (match scope with
      | 0 => decide (e.1 = port)
      | 1 => decide (portSlice e.1 = portSlice port)
      | _ => true)).map Prod.fst

/-- Every port in scope, ready or not, on which PENDING shows (R415). -/
def scopePorts (scope port : Nat) : List Nat :=
  if scope = 0 then [port]
  else if scope = 1 then (List.range 32).map (portSlice port * 32 + ·)
  else List.range 512

/-- A swap is pending on a port in scope (R415). -/
def State.swapPending (s : State) (scope port : Nat) : Bool :=
  s.time.cal.any fun e => e.2.pending && (scopePorts scope port).contains e.1

/-- AT_VALID of a CAL_SWAP. -/
def swapTimed (c : Cmd) : Bool := bit (c.arg 11 1) 0

/-- The reference instant of a CAL_SWAP in units of 2^-16 ns: AT, or the fetch (R414). -/
def swapRef (c : Cmd) : Nat := if swapTimed c then c.time 16 else c.fetched

/-- Why a CAL_SWAP is refused: RESULT0 of its BAD_ARG (R415). -/
def State.swapBad (s : State) (c : Cmd) : Option Nat :=
  let port := c.arg 8 2
  let scope := c.arg 10 1
  if 2 < scope then some 0
  else if scope = 0 ∧ (s.inactive port ∨ (s.cal port).ready = false) then some 1
  else if swapTimed c ∧ (c.timeOk 16 = false ∨ s.devTime + tenSec < c.time 16) then some 2
  else if s.swapPending scope port then some 3
  else none

/-- The layout of CAL_SWAP. -/
def swapLayout (c : Cmd) : List ArgField :=
  [named 8 2 0x1FF, whole 10 1, named 11 1 1] ++ (if swapTimed c then [whole 16 14] else [])

/-- CAL_SWAP (R414, R415): swaps become pending; with no port to swap it completes at once. A swap instant is held as the
first whole nanosecond at or after it. -/
def execCalSwap (p : HostPort) (n : Fin 64) (s : State) : Outcome State Fault Refusal :=
  .next <| s.runCmd p n 0x49 anyRow swapLayout fun c s =>
    let port := c.arg 8 2
    let scope := c.arg 10 1
    match s.swapBad c with
    | some r => .done .badArg r 0 s
    | none =>
      let ps := s.swapPorts scope port
      if ps.isEmpty then .done .ok 0 0 s
      else
        let s1 := (scopePorts scope port).foldl (fun t q => t.setCal q { t.cal q with pending := true }) s
        let s2 := ps.foldl (fun t q =>
          t.setCal q { t.cal q with swapAt := some ((t.cal q).swapInstant (ceilNs (swapRef c))) }) s1
        .wait { s2 with time.calSwaps := s2.time.calSwaps ++
          [{ cmd := c.serial, ref := swapRef c, scope := scopePorts scope port, left := ps, done := 0, lastAt := 0 }] }

/-- PT_CAL_CFG.PENDING of a port: a swap is pending on it, from the fetch of its CAL_SWAP on (R415). -/
def State.calPending (s : State) (p : Nat) : Bool :=
  (s.cal p).pending || s.cmds.any fun c => decide (c.opcode = 0x49) && !c.waiting && c.reservedOk (swapLayout c)
    && (s.swapBad c).isNone && !(s.swapPorts (c.arg 10 1) (c.arg 8 2)).isEmpty
    && (scopePorts (c.arg 10 1) (c.arg 8 2)).contains p

/-- RESULT1 of a CAL_SWAP: the microseconds from the reference to the last swap, rounded up (R415). -/
def swapMicros (ref last : Nat) : Nat := satTo 0xFFFFFF ((last - ref + 65535999) / 65536000)

/-- The entry in force is shown in PT_CAL_STAT.FRET (R433). -/
def State.refreshFret (p : Nat) (s : State) : State :=
  let c := s.cal p
  match c.fretNow s.devNs with
  | some (i, _, _) => s.setCal p { c with fret := i }
  | none => s

/-- At its instant a port's inactive bank becomes active; the command completes with the last port in scope (R414,
R415). -/
def State.takeCalSwap (p : Nat) (s : State) : State :=
  let c := s.cal p
  let now := s.devTime
  let s1 := (s.setCal p { c with act := some c.idle, swapAt := none, swaps := satInc 16 c.swaps }).refreshFret p
  match s1.time.calSwaps.find? fun w => w.left.contains p with
  | none => s1
  | some w =>
    let w' := { w with left := w.left.filter (· ≠ p), done := w.done + 1, lastAt := now }
    if w'.left.isEmpty then
      let s2 := { s1 with time.calSwaps := s1.time.calSwaps.filter fun x => x.cmd ≠ w.cmd }
      let s3 := w.scope.foldl (fun t q => t.setCal q { t.cal q with pending := false }) s2
      s3.completeSer w.cmd .ok w'.done (swapMicros w.ref now)
    else { s1 with time.calSwaps := s1.time.calSwaps.map fun x => if x.cmd = w.cmd then w' else x }

/-- A port's swap instant comes (R414). -/
def execCalSwapInstant (port : Port) (s : State) : Outcome State Fault Refusal :=
  .next <|
    match (s.cal port).swapAt with
    | some t => if t ≤ s.devNs then s.takeCalSwap port else s
    | none => s

/-- The phase passes into another fret (R410). -/
def execFretBoundary (port : Port) (s : State) : Outcome State Fault Refusal := .next (s.refreshFret port)

/-- Device time passes the calendar base: every enabled calendar shows its fret in force (R411). -/
def execCalendarBasePassed (s : State) : Outcome State Fault Refusal :=
  .next (if s.calBase ≤ s.devNs then
    (s.time.cal.filter fun e => e.2.en).foldl (fun t e => t.refreshFret e.1) s else s)

/-- A write of PT_CAL_CFG (R412): EN = 1 needs an active bank. -/
def execPtCalCfgWrite (p : HostPort) (port : Port) (value : Word) (s : State) : Outcome State Fault Refusal :=
  .next <|
    let c := s.cal port
    if s.takesRw p && !s.inactive port then
      if bit value.toNat 0 && c.act.isNone then s.setCal port { c with en := false, cfgErr := true }
      else s.setCal port { c with en := bit value.toNat 0, cfgErr := false }
    else s

/-! ## The calendar base (R432) -/

/-- A 64-bit value with a part written (R7). -/
def writePart (part : Part) (old : Nat) (v : DWord) : Nat :=
  match part with
  | .low => setBits old 31 0 v.toNat
  | .high => setBits old 63 32 v.toNat
  | .both => v.toNat

/-- CAL_BASE_SEC is staged (R432, R563). -/
def execCalBaseSecWrite (p : HostPort) (part : Part) (value : DWord) (s : State) : Outcome State Fault Refusal :=
  .next (if s.takesRw p then { s with time.stagedSec := writePart part s.time.stagedSec value } else s)

/-- CAL_BASE_NS commits both registers into keel register 4, whose host rewrite it is (R432, R522). -/
def execCalBaseNsWrite (p : HostPort) (value : Word) (s : State) : Outcome State Fault Refusal :=
  .next (if s.takesRw p && decide (value.toNat < nsPerSec) then
    s.commit 4 (s.time.stagedSec * nsPerSec + value.toNat) else s)

/-! ## Streams and preemption -/

/-- A stream (R425). -/
def State.frer (s : State) (i : Nat) : Frer := s.time.frer.get Frer.zero i

/-- Replace a stream. -/
def State.setFrer (i : Nat) (f : Frer) (s : State) : State := { s with time.frer := s.time.frer.set Frer.zero i f }

/-- A count of a stream: 0 passed, 1 duplicate, 2 rogue, 3 lost, 4 tagless, 5 resets, 6 generated (R427). Counters of
CTR_READ that lie at no BAR0 offset are held above the BAR. -/
def State.frerCount (i k : Nat) (s : State) : State := s.count (0x10000000 + (i * 8 + k) * 8) 1

/-- A write of CAL_FRER_CTL (R429, R432): HISTORY outside 2 to 32 refuses it; else generator and history start anew. -/
def execCalFrerCtlWrite (p : HostPort) (stream : Fin 1024) (value : Word) (s : State) : Outcome State Fault Refusal :=
  .next <|
    let v := value.toNat % 2 ^ 19
    let h := bits v 9 4
    if s.takesRw p && decide (2 ≤ h) && decide (h ≤ 32) then
      (s.wr (0x504000 + 16 * stream.val) v).setFrer stream Frer.zero
    else s

/-- No frame has passed a recovering stream for RESET_MS: it takes any next frame (R427). -/
def execFrerResetTimer (stream : Fin 1024) (s : State) : Outcome State Fault Refusal :=
  .next <|
    let f := s.frer stream
    let ms := bits (s.rd (0x504004 + 16 * stream.val)) 15 0
    match f.lastPass with
    | some t =>
      if bits (s.rd (0x504000 + 16 * stream.val)) 1 0 = 2 ∧ f.takeAny = false ∧ ms * 1000000 ≤ s.now - t then
        (s.setFrer stream { f with takeAny := true, seen := [] }).frerCount stream 5
      else s
    | none => s

/-- Preemption is active on a port (R419): enabled, and verified or verification disabled. -/
def State.preempting (s : State) (p : Nat) : Bool :=
  let v := s.rd (ptReg p 0x1C0)
  bit v 0 && (bit v 1 || decide (s.time.verify.get 0 p = 3))

/-- The class is express: TC7 always, a class with its EXPRESS bit, every class without preemption (R419). -/
def State.express (s : State) (p tc : Nat) : Bool :=
  decide (tc = 7) || !s.preempting p || bit (s.rd (ptReg p 0x1C0)) (4 + tc)

/-- The verify time of a port in ns (R433). -/
def State.verifyNs (s : State) (p : Nat) : Nat :=
  let m := bits (s.rd (ptReg p 0x1C0)) 18 12
  (if m = 0 then 128 else m) * 1000000

/-- The port verifies: EN = 1, VERIFY_DIS = 0, and it is UP (R419). -/
def State.verifies (s : State) (p : Nat) : Bool :=
  let v := s.rd (ptReg p 0x1C0)
  bit v 0 && !bit v 1 && decide ((s.pt p).state = .up)

/-- Where VERIFY of a port starts: initial where it verifies, else disabled (R433). -/
def State.verifyStart (p : Nat) (s : State) : State :=
  { s with time.verify := s.time.verify.set 0 p (if s.verifies p then 1 else 0), time.verifyAt := s.time.verifyAt.erase p }

/-- The verification exchange or its timer moves VERIFY on (R419, R433): disabled while the port does not verify. It fails
no sooner than its timer has run out, VERIFY_MS after it began. -/
def execPreemptVerify (port : Port) (verify : Fin 5) (s : State) : Outcome State Fault Refusal :=
  .next <|
    if !s.verifies port then s.verifyStart port
    else if verify.val = 2 then
      { s with time.verify := s.time.verify.set 0 port 2, time.verifyAt := s.time.verifyAt.set 0 port s.now }
    else if verify.val = 4 ∧ (s.time.verify.get 0 port ≠ 2 ∨ s.now - s.time.verifyAt.get 0 port < s.verifyNs port) then s
    else { s with time.verify := s.time.verify.set 0 port verify.val }

end Sys2Proof.Machine
end

