-- ==== Sys2Proof/Machine/Sched.lean ====
section
/-! DEFINITION. Queues, the scheduler of a port, shapers, policers and histograms (chapters 09 and 10). -/
namespace Sys2Proof.Machine
open Host (Outcome)

/-- The smaller of two whole numbers. -/
def imin (a b : Int) : Int := if a < b then a else b

/-! ## Queues -/

/-- The key of a class queue. -/
def classKey (p tc : Nat) : Nat := p * 8 + tc
/-- The key of a CPU queue. -/
def cpuKey (q : Nat) : Nat := 4096 + q
/-- The key of a channel queue. -/
def chanKey (c : Nat) : Nat := 8192 + c

/-- The frames of a queue, oldest first. -/
def State.queue (s : State) (k : Nat) : List Desc := s.core.queues.get [] k

/-- Replace a queue. -/
def State.setQueue (k : Nat) (q : List Desc) (s : State) : State :=
  { s with core.queues := s.core.queues.set [] k q }

/-- The channels bound to a class queue, in ascending number (R335, R367). -/
def State.boundChans (s : State) (q : Nat) : List Nat :=
  (s.core.bind.filter fun e => decide (e.2 = q + 1)).map Prod.fst

/-- The members of a class queue's round: its own frames, then its channels (R367). -/
def State.members (s : State) (q : Nat) : List Nat := q :: (s.boundChans q).map chanKey

/-- The class queue in whose round a queue is a member, none for a CPU queue or an unbound channel (R367). -/
def State.memberClass (s : State) (k : Nat) : Option Nat :=
  if k < 4096 then some k
  else if k < 8192 then none
  else match s.core.bind.get 0 (k - 8192) with
    | 0 => none
    | q + 1 => some q

/-- The ECN depth of a class queue with its channels, or of one member, in tiles (R345). -/
def State.ecnDepth (s : State) (ks : List Nat) : Nat :=
  (ks.flatMap fun k => (s.queue k).map fun d => hSize d.h).sum

/-- A queue key's quantum (R367). -/
def State.quantum (s : State) (k : Nat) : Nat := s.core.quantum.get 2048 k

/-! ## Shapers (R375 to R379) -/

/-- The key of a port shaper, a class shaper and a channel shaper. -/
def portShaper (p : Nat) : Nat := p
/-- The key of a class shaper. -/
def classShaper (q : Nat) : Nat := 512 + q
/-- The key of a channel shaper. -/
def chanShaper (c : Nat) : Nat := 8192 + c

/-- A shaper. -/
def State.shaper (s : State) (k : Nat) : Shaper := s.sch.shapers.get Shaper.zero k

/-- Replace a shaper. -/
def State.setShaper (k : Nat) (x : Shaper) (s : State) : State :=
  { s with sch.shapers := s.sch.shapers.set Shaper.zero k x }

/-- Tokens gained since the last update, up to BURST (R375, R377). -/
def Shaper.fill (now : Nat) (x : Shaper) : Shaper :=
  if x.rate = 0 then { x with tok := x.burst * 65536, at' := now }
  else { x with tok := imin (x.burst * 65536) (x.tok + (x.rate * (now - x.at') * 8192 / 1000000 : Nat)), at' := now }

/-- The smaller of a deficit and 0, where its member is empty (R373). -/
def capDef (empty : Bool) (m : SMap Int) (k : Nat) : SMap Int := if empty then m.set 0 k (imin 0 (m.get 0 k)) else m

/-- A queue that is empty keeps no positive deficit, nor does a class all of whose members are (R373). -/
def State.emptied (k : Nat) (s : State) : State :=
  let s1 := { s with sch.memDef := capDef (s.queue k).isEmpty s.sch.memDef k }
  match s.memberClass k with
  | some q =>
    let idle := decide (q % 8 < 6) && (s.members q).all fun j => (s.queue j).isEmpty
    { s1 with sch.classDef := capDef idle s1.sch.classDef q }
  | none => s1

/-- Frames leave a queue by another way than the scheduler's choice (R373). -/
def State.leaveQueue (k : Nat) (q : List Desc) (s : State) : State := (s.setQueue k q).emptied k

/-- Charge a frame's bytes to a shaper; `floor` when its tokens stop at −BURST (R375, R376, R377). -/
def Shaper.charge (len : Nat) (floor : Bool) (x : Shaper) : Shaper :=
  if x.rate = 0 then x
  else
    let t := x.tok - (len * 65536 : Nat)
    if floor ∧ t < -((x.burst * 65536 : Nat) : Int) then
      { x with tok := if x.tok < -((x.burst * 65536 : Nat) : Int) then x.tok else -((x.burst * 65536 : Nat) : Int) }
    else { x with tok := t }

/-- Return bytes to a shaper, never above BURST (R381). -/
def Shaper.refund (len : Nat) (x : Shaper) : Shaper :=
  if x.rate = 0 then x else { x with tok := imin (x.burst * 65536) (x.tok + (len * 65536 : Nat)) }

/-- The shaper holds no frame (R368). -/
def Shaper.passes (x : Shaper) : Bool := decide (x.rate = 0) || decide (0 ≤ x.tok)

/-- A charge is set right: bytes go back to every shaper and deficit that was charged (R381). -/
def State.refund (r : Refund) (s : State) : State :=
  let s1 := r.shapers.foldl (fun (x : State) k => x.setShaper k ((x.shaper k).refund r.bytes)) s
  let s2 := match r.class' with
    | some q => { s1 with sch.classDef := s1.sch.classDef.set 0 q (s1.sch.classDef.get 0 q + r.bytes) }
    | none => s1
  { s2 with sch.memDef := s2.sch.memDef.set 0 r.member (s2.sch.memDef.get 0 r.member + r.bytes) }

/-- The charges of frames that have ended are set right (R381). -/
def State.settleRefunds (s : State) : State :=
  (s.sch.refunds.filter fun r => r.due ≤ s.now).foldl (fun t r => t.refund r)
    { s with sch.refunds := s.sch.refunds.filter fun r => s.now < r.due }

/-- Every shaper gains its tokens (R375). -/
def execShaperTokenUpdate (s : State) : Outcome State Fault Refusal :=
  .next <|
    let s1 := s.settleRefunds
    { s1 with sch.shapers := s1.sch.shapers.foldl (fun m e => m.set Shaper.zero e.1 (e.2.fill s1.now)) s1.sch.shapers }

/-- The shaper a SHAPER_WRITE names. -/
def shaperKey (c : Cmd) : Nat :=
  match c.arg 8 1 with
  | 0 => portShaper (c.arg 10 2)
  | 1 => classShaper (classKey (c.arg 10 2) (c.arg 12 1))
  | _ => chanShaper (c.arg 14 2)

/-- The layout of SHAPER_WRITE. -/
def shaperLayout (_ : Cmd) : List ArgField :=
  [whole 8 1, named 9 1 3, named 10 2 0x1FF, named 12 1 7, named 14 2 0x7FFF, whole 16 4, whole 20 4, whole 24 8]

/-- What SHAPER_WRITE refuses in both forms (R379). -/
def shaperBad (s : State) (c : Cmd) : Bool :=
  !c.reservedOk (shaperLayout c) || decide (2 < c.arg 8 1) || (decide (c.arg 8 1 ≤ 1) && s.inactive (c.arg 10 2))
    || (decide (c.arg 8 1 = 1) && decide (c.arg 12 1 = 7)) || (bit (c.arg 9 1) 0 && bit (c.arg 9 1) 1)

/-- The tokens as a signed whole number of bytes in 32 bits, rounded down (R379). -/
def Shaper.whole (x : Shaper) : Nat := unsigned 32 (x.tok / 65536)

/-- RESULT0 of every SHAPER_WRITE: the tokens of the shaper that it names (R379). -/
def State.tokensOf (s : State) (c : Cmd) : Nat :=
  if 2 < c.arg 8 1 then 0 else ((s.shaper (shaperKey c)).fill s.now).whole

/-- Refused, with the tokens as they stand (R379). -/
def State.shaperRefused (s : State) (c : Cmd) : Ran := .done .badArg (s.tokensOf c) 0 s

/-- SHAPER_WRITE (R378, R379). -/
def execShaperWrite (p : HostPort) (n : Fin 64) (s : State) : Outcome State Fault Refusal :=
  .next <| s.settleRefunds.runCmd p n 0x51 (fun c => !bit (c.arg 9 1) 0) anyBits fun c s =>
    let rate := c.arg 16 4
    let burst := c.arg 20 4
    if shaperBad s c ∨ (rate ≠ 0 ∧ (rate < 1000 ∨ 2000000000 < rate)) ∨ burst < 64 ∨ 16777216 < burst
        ∨ c.arg 24 8 ≠ 0 then s.shaperRefused c
    else
      let x := (s.shaper (shaperKey c)).fill s.now
      let tok : Int := if rate = 0 ∨ bit (c.arg 9 1) 1 = true then (burst * 65536 : Nat)
        else imin (burst * 65536) x.tok
      let x' : Shaper := { rate := rate, burst := burst, tok := tok, at' := s.now }
      .done .ok x'.whole 0 (s.setShaper (shaperKey c) x')

/-- SHAPER_WRITE with READ (R379). -/
def execShaperRead (p : HostPort) (n : Fin 64) (s : State) : Outcome State Fault Refusal :=
  .next <| s.settleRefunds.runCmd p n 0x51 (fun c => bit (c.arg 9 1) 0) anyBits fun c s =>
    if shaperBad s c ∨ c.arg 16 4 ≠ 0 ∨ c.arg 20 4 ≠ 0 ∨ c.arg 24 8 % 16 ≠ 0 then s.shaperRefused c
    else
      let x := (s.shaper (shaperKey c)).fill s.now
      .done .ok x.whole 0
        (s.hostData c (c.arg 24 8) (toLE 4 x.rate ++ toLE 4 x.burst ++ toLE 4 x.whole ++ toLE 4 0))

/-! ## The scheduler (R368 to R374, R376, R381) -/

/-- The length is known at an instant: the frame has ended, or it was made in the device or by the host (R309, R341). -/
def Desc.lenKnown (d : Desc) (now : Nat) : Bool := decide (d.endsAt ≤ now) || decide (512 ≤ d.owner)

/-- The length the core knows at an instant: 10,176 for one not known (R341, R381). -/
def Desc.knownLen (d : Desc) (now : Nat) : Nat := if d.lenKnown now then d.outLen else 10176

/-- The preemptable frame that a port sends, or holds to be resumed (R419). -/
def State.sendingOf (s : State) (p : Nat) : Option Sending := (s.core.sending.find? fun e => e.1 = p).map Prod.snd

/-- A received pause holds a class of a port (R160); a recirculation port is never paused (R355). -/
def State.paused (s : State) (p tc : Nat) : Bool := !s.isRecirc p && decide (s.now * 1000 < (s.pt p).pause.get 0 tc)

/-- The head frame of a member of class queue `q` is eligible (R368); a preemptable frame needs its gate open only at
its start, no HOLD fret, and no preemptable frame still on its way (R419, R420). -/
def State.headEligible (s : State) (p tc k : Nat) : Bool :=
  match s.queue k with
  | [] => false
  | d :: _ =>
    let gate := if s.express p tc then s.gateAdmits p tc (d.knownLen s.now) s.devTime
      else s.gateOpen p tc s.devNs && !s.holdNow p s.devNs && (s.sendingOf p).isNone
    gate && !s.paused p tc
      && (decide (k < 8192) || decide (tc = 7) || (s.shaper (chanShaper (k - 8192))).passes)
      && (decide (tc = 7) || ((s.shaper (classShaper (classKey p tc))).passes && (s.shaper (portShaper p)).passes))

/-- The class has an eligible member (R368). -/
def State.classEligible (s : State) (p tc : Nat) : Bool :=
  (s.members (classKey p tc)).any fun k => s.headEligible p tc k

/-- The items of a cyclic order after item `x`, ending with `x` itself; all of them when `x` is not one. -/
def after (x : Option Nat) (l : List Nat) : List Nat :=
  match x with
  | none => l
  | some y => (l.dropWhile (· ≠ y)).drop 1 ++ l.takeWhile (· ≠ y) ++ (if l.contains y then [y] else [])

/-- Go round until a turn leaves a deficit above 0: each eligible item visited gains its quantum (R372). The item and
the deficits. -/
def dwrrTurn (quantum : Nat → Nat) : Nat → List Nat → List Nat → SMap Int → Option (Nat × SMap Int)
  | 0, _, _, _ => none
  | n + 1, all, [], m => match all with
    | [] => none
    | _ => dwrrTurn quantum n all all m
  | n + 1, all, x :: r, m =>
    let d := m.get 0 x + quantum x
    if 0 < d then some (x, m.set 0 x d) else dwrrTurn quantum n all r (m.set 0 x d)

/-- Choose an item of a round: the one whose turn goes on while it is eligible with a deficit above 0, else the next
eligible one whose turn begins (R372). -/
def dwrrPick (quantum : Nat → Nat) (items : List Nat) (elig : Nat → Bool) (turn : Turn) (m : SMap Int) :
    Option (Nat × SMap Int) :=
  match turn.who with
  | some x =>
    if turn.runs && items.contains x && elig x && decide (0 < m.get 0 x) then some (x, m)
    else dwrrTurn quantum 4096 ((after turn.who items).filter elig) ((after turn.who items).filter elig) m
  | none => dwrrTurn quantum 4096 (items.filter elig) (items.filter elig) m

/-- The class a port's scheduler takes: TC7, TC6, then the TC0 to TC5 round (R369), with the deficits of that round. -/
def State.pickClass (s : State) (p : Nat) : Option (Nat × SMap Int) :=
  if s.classEligible p 7 then some (7, s.sch.classDef)
  else if s.classEligible p 6 then some (6, s.sch.classDef)
  else
    let keys := (List.range 6).map (classKey p)
    (dwrrPick s.quantum keys (fun k => s.classEligible p (k % 8)) (s.sch.classTurn.get Turn.none p) s.sch.classDef).map
      fun r => (r.1 % 8, r.2)

/-- The shapers that a frame of a member passes and that are on (R375 to R377). -/
def State.shapersOf (s : State) (p tc k : Nat) : List Nat :=
  (portShaper p :: (if tc = 7 then []
    else classShaper (classKey p tc) :: (if k < 8192 then [] else [chanShaper (k - 8192)]))).filter fun x =>
      (s.shaper x).rate ≠ 0

/-- Charge a chosen frame to its shapers (R375, R376). -/
def State.chargeShapers (ks : List Nat) (tc len : Nat) (s : State) : State :=
  ks.foldl (fun (t : State) x => t.setShaper x ((t.shaper x).charge len (decide (tc = 7)))) s

/-- A turn goes on while it is eligible (R372). -/
def Turn.keep (x : Turn) (elig : Nat → Bool) : Turn :=
  { x with runs := x.runs && (match x.who with | some k => elig k | none => false) }

/-- The turns of a port's rounds end whose holders are not eligible now, whatever is chosen next (R372). -/
def State.endTurns (p : Nat) (s : State) : State :=
  let ct := (s.sch.classTurn.get Turn.none p).keep fun q => s.classEligible p (q % 8)
  let mts := (List.range 8).foldl (fun (m : SMap Turn) tc =>
    let q := classKey p tc
    m.set Turn.none q ((m.get Turn.none q).keep fun k => s.headEligible p tc k)) s.sch.memTurn
  { s with sch.classTurn := s.sch.classTurn.set Turn.none p ct, sch.memTurn := mts }

/-- SCH_CNT[i] (R390). -/
def State.schCount (i n : Nat) (s : State) : State := s.count (0xA0100 + 8 * i) n

/-- A domain of the power loop is above level 0 (R472). -/
def State.throttle (s : State) : Bool := decide (0 < s.pwr.withhold + s.pwr.clkSteps + s.pwr.mem + s.pwr.link)

/-- A frame taken from a member lowers its deficit and, in the TC0 to TC5 round, its class's (R372, R373). -/
def State.chargeDeficits (tc q k len : Nat) (s : State) : State :=
  let s1 := if tc < 6 then { s with sch.classDef := s.sch.classDef.set 0 q (s.sch.classDef.get 0 q - len) } else s
  ({ s1 with sch.memDef := s1.sch.memDef.set 0 k (s1.sch.memDef.get 0 k - len) }).emptied k

/-- The turns after a choice: each goes on while its deficit is above 0 (R372). -/
def State.noteTurns (p tc q k : Nat) (s : State) : State :=
  let s1 := if tc < 6 then
      { s with sch.classTurn :=
          s.sch.classTurn.set Turn.none p { who := some q, runs := decide (0 < s.sch.classDef.get 0 q) } }
    else s
  { s1 with sch.memTurn := s1.sch.memTurn.set Turn.none q { who := some k, runs := decide (0 < s1.sch.memDef.get 0 k) } }

/-- Take the head of member `k` of class `tc` as the port's next frame, with its charges. -/
def State.choose (p tc k : Nat) (d : Desc) (rest : List Desc) (s : State) : State :=
  let len := d.knownLen s.now
  let q := classKey p tc
  let ks := s.shapersOf p tc k
  let s1 := ((s.setQueue k rest).chargeDeficits tc q k len).noteTurns p tc q k
  let s2 := s1.chargeShapers ks tc len
  let s3 := { s2 with core.tx := s2.core.tx.put p { d := d, at' := s.now, charged := len, member := k, shapers := ks,
                                                    used := s.buf.used, throttle := s.throttle } }
  let s4 := (s3.schCount 0 1).schCount 1 len
  if d.lenKnown s.now then s4 else s4.schCount 2 1

/-- Frames can leave a port: FORWARD or DRAIN, the port UP without a fault of its RS (R155) or a recirculation port, and no
frame on its way out; a preempted one waits. -/
def State.canSend (s : State) (p : Nat) : Bool :=
  s.bufLive && (s.isRecirc p || s.lineUp p) && !(s.core.tx.any fun e => e.1 = p)
    && (match s.sendingOf p with | some x => x.since.isNone | none => true)

/-- A port's scheduler chooses its next frame (R369 to R373). -/
def State.chooseNext (p : Nat) (s₀ : State) : State :=
  let s := s₀.settleRefunds.endTurns p
  if s.canSend p then
    match s.pickClass p with
    | none => s
    | some (tc, cd) =>
      let q := classKey p tc
      match dwrrPick s.quantum (s.members q) (fun k => s.headEligible p tc k) (s.sch.memTurn.get Turn.none q)
        s.sch.memDef with
      | none => s
      | some (k, md) =>
        match s.queue k with
        | [] => s
        | d :: rest => ({ s with sch.classDef := cd, sch.memDef := md }).choose p tc k d rest
  else s

/-- What comes back of a chosen frame's charge (R381). -/
def Tx.refund (t : Tx) (p : Nat) : Refund :=
  { due := t.d.endsAt, bytes := t.charged - t.d.outLen, shapers := t.shapers,
    class' := if t.d.tc < 6 then some (classKey p t.d.tc) else none, member := t.member }

/-- The charged length of a frame whose length was not known comes right at its end (R381). -/
def State.owe (p : Nat) (t : Tx) (s : State) : State :=
  if t.charged ≤ t.d.outLen then s
  else if t.d.endsAt ≤ s.now then s.refund (t.refund p)
  else { s with sch.refunds := s.sch.refunds ++ [t.refund p] }

/-! ## Policers (R382 to R387) -/

/-- A policer of a slice. -/
def State.policer (s : State) (sl i : Nat) : Policer := s.sch.pol.get Policer.zero (sl * 16384 + i)

/-- Replace a policer. -/
def State.setPolicer (sl i : Nat) (x : Policer) (s : State) : State :=
  { s with sch.pol := s.sch.pol.set Policer.zero (sl * 16384 + i) x }

/-- The algorithm of a mode byte: 0 OFF, 1 srTCM, 2 trTCM, 3 RFC 4115. -/
def Policer.alg (x : Policer) : Nat := bits x.mode 1 0

/-- Tokens gained in `dt` ns at `rate` kb/s, in 2^-16 byte. -/
def gain (rate dt : Nat) : Nat := rate * dt * 8192 / 1000000

/-- The buckets fill (R382): in srTCM what C cannot hold goes to E. -/
def Policer.fill (now : Nat) (x : Policer) : Policer :=
  let dt := now - x.at'
  let c := x.tc + gain x.cir dt
  let cmax := x.cbs * 65536
  let emax := x.pbs * 65536
  match x.alg with
  | 0 => { x with at' := now }
  | 1 => { x with tc := satTo cmax c, te := satTo emax (x.te + (c - cmax)), at' := now }
  | _ => { x with tc := satTo cmax c, te := satTo emax (x.te + gain x.pir dt), at' := now }

/-- Colours: 0 green, 1 yellow, 2 red. One packet of `l` bytes at a policer (R382): its colour and the policer. -/
def Policer.police (inp l : Nat) (x : Policer) : Nat × Policer :=
  let t := l * 65536
  match x.alg with
  | 0 => (0, x)
  | 2 =>
    if inp = 2 ∨ x.te < t then (2, x)
    else if inp = 1 ∨ x.tc < t then (1, { x with te := x.te - t })
    else (0, { x with te := x.te - t, tc := x.tc - t })
  | _ =>
    if inp = 0 ∧ t ≤ x.tc then (0, { x with tc := x.tc - t })
    else if inp ≠ 2 ∧ t ≤ x.te then (1, { x with te := x.te - t })
    else (2, x)

/-- Return to a policer what was taken for bytes that a frame did not have, each bucket up to its size (R384). -/
def Policer.refund (c e : Nat) (x : Policer) : Policer :=
  { x with tc := satTo (x.cbs * 65536) (x.tc + c), te := satTo (x.pbs * 65536) (x.te + e) }

/-- Returns that are due by now are made (R384). -/
def State.settlePolicers (s : State) : State :=
  let due := s.sch.owed.filter fun o => decide (o.1 ≤ s.now)
  { s with sch := { s.sch with
      pol := due.foldl (fun m o => m.set Policer.zero o.2.1 ((m.get Policer.zero o.2.1).refund o.2.2.1 o.2.2.2)) s.sch.pol,
      owed := s.sch.owed.filter fun o => decide (s.now < o.1) } }

/-- Every policer fills (R382). -/
def execPolicerBucketFill (s : State) : Outcome State Fault Refusal :=
  let s := s.settlePolicers
  .next { s with sch.pol := s.sch.pol.foldl (fun m e => m.set Policer.zero e.1 (e.2.fill s.now)) s.sch.pol }

/-- The layout of POLICER_WRITE. -/
def policerLayout (_ : Cmd) : List ArgField :=
  [whole 8 2, named 10 2 0x3FFF, named 12 1 0x3F, named 13 1 3, whole 16 4, whole 20 4, whole 24 4, whole 28 4,
   whole 32 8]

/-- The slices of a SLICE_MASK. -/
def maskSlices (m : Nat) : List Nat := (List.range 16).filter fun n => bit m n

/-- What a POLICER_WRITE without READ refuses (R387). -/
def policerBad (c : Cmd) : Bool :=
  let alg := c.argBits 12 1 1 0
  let cir := c.arg 16 4
  let cbs := c.arg 20 4
  let pir := c.arg 24 4
  let pbs := c.arg 28 4
  decide (c.arg 8 2 = 0) || decide (2000000000 < cir) || decide (16777216 < cbs) || decide (2000000000 < pir)
    || decide (16777216 < pbs) || decide (c.arg 32 8 ≠ 0)
    || (decide (alg = 1) && (decide (pir ≠ 0) || (decide (cbs = 0) && decide (pbs = 0))))
    || (decide (alg = 2) && decide (pir < cir))
    || (decide (alg = 0) && !(decide (cir = 0) && decide (cbs = 0) && decide (pir = 0) && decide (pbs = 0)))

/-- A policer as a POLICER_WRITE leaves it (R387). -/
def policerAfter (c : Cmd) (now : Nat) (old : Policer) : Policer :=
  let o := old.fill now
  let mode := c.arg 12 1
  let cbs := c.arg 20 4
  let pbs := c.arg 28 4
  let full := bit (c.arg 13 1) 1 || decide (bits mode 1 0 ≠ old.alg)
  { mode := mode, cir := c.arg 16 4, cbs := cbs, pir := c.arg 24 4, pbs := pbs,
    tc := if full then cbs * 65536 else satTo (cbs * 65536) o.tc,
    te := if full then pbs * 65536 else satTo (pbs * 65536) o.te, at' := now }

/-- POLICER_WRITE (R387). -/
def execPolicerWrite (p : HostPort) (n : Fin 64) (s : State) : Outcome State Fault Refusal :=
  .next <| s.runCmd p n 0x50 (fun c => !bit (c.arg 13 1) 0) policerLayout fun c s =>
    if policerBad c then .refuse .badArg s
    else
      let i := c.arg 10 2
      .done .ok 0 0 ((maskSlices (c.arg 8 2)).foldl
        (fun t sl => t.setPolicer sl i (policerAfter c s.now (t.policer sl i))) s)

/-- POLICER_WRITE with READ (R387). -/
def execPolicerRead (p : HostPort) (n : Fin 64) (s : State) : Outcome State Fault Refusal :=
  .next <| s.runCmd p n 0x50 (fun c => bit (c.arg 13 1) 0) policerLayout fun c s =>
    match maskSlices (c.arg 8 2) with
    | [sl] =>
      if bit (c.arg 13 1) 1 ∨ c.arg 12 1 ≠ 0 ∨ c.arg 16 4 ≠ 0 ∨ c.arg 20 4 ≠ 0 ∨ c.arg 24 4 ≠ 0 ∨ c.arg 28 4 ≠ 0
          ∨ c.arg 32 8 % 32 ≠ 0 then .refuse .badArg s
      else
        let x := s.policer sl (c.arg 10 2)
        .done .ok 0 0 (s.hostData c (c.arg 32 8)
          ([BitVec.ofNat 8 x.mode] ++ toLE 3 0 ++ toLE 4 x.cir ++ toLE 4 x.cbs ++ toLE 4 x.pir ++ toLE 4 x.pbs
            ++ toLE 4 (x.tc / 65536) ++ toLE 4 (x.te / 65536) ++ toLE 4 0))
    | _ => .refuse .badArg s

/-! ## Histograms (R389) -/

/-- The bin of a value with base `b` (R389). -/
def histBin (v b : Nat) : Nat :=
  if v = 0 then 0
  else ((List.range 14).filter fun i => decide (b * 2 ^ (i + 1) ≤ v)).length + 1

/-- Add one to a bin, wrapping at 2^32. -/
def bumpBin (m : SMap Nat) (k b : Nat) : SMap Nat := m.set 0 (k * 16 + b) ((m.get 0 (k * 16 + b) + 1) % 2 ^ 32)

/-- The frames of a queue that a sample looks at: a class queue with its channels, or one channel queue. -/
def State.sampleQueue (s : State) (k : Nat) (ks : List Nat) : State :=
  let cfg := s.rd 0xA0000
  let ds := ks.flatMap s.queue
  let delay := (ds.map fun d => s.now - d.enqAt).foldl (fun a x => if a < x then x else a) 0
  { s with sch.depth := bumpBin s.sch.depth k (histBin (s.ecnDepth ks) (bits cfg 15 0)),
           sch.delay := bumpBin s.sch.delay k (histBin delay (bits cfg 31 16 * 16)) }

/-- At each whole multiple of 1.024 µs of device time every class queue, and every bound channel queue, is sampled
(R389). -/
def execHistogramSample (s : State) : Outcome State Fault Refusal :=
  .next <|
    let en := s.rd 0xA0004
    if bit en 0 && (decide (s.mode = .forward) || decide (s.mode = .drain)) && decide (s.devNs % 1024 = 0) then
      let s1 := (List.range 4096).foldl (fun t q => t.sampleQueue q (t.members q)) s
      if bit en 1 then s1.core.bind.foldl (fun t e => t.sampleQueue (chanKey e.1) [chanKey e.1]) s1 else s1
    else s

end Sys2Proof.Machine
end

