-- ==== Sys2Proof/Machine/Copies.lean ====
section
/-! DEFINITION. What the switch core makes beside a frame: mirror copies and capture records (R357 to R362), drops and
their counts (R363, R364), programmable counters (R450, R451), and postcards (R445 to R447). -/
namespace Sys2Proof.Machine

/-- CORE_CNT[i] (R365). -/
def State.coreCount (i n : Nat) (s : State) : State := s.count (0x90800 + 8 * i) n

/-- Place a descriptor at the end of a queue (R365): it counts as cut-through or as store-and-forward (R340). -/
def State.push (k : Nat) (d : Desc) (s : State) : State :=
  ((s.setQueue k (s.queue k ++ [{ d with enqAt := s.now, unjudged := !d.lenKnown s.now }])).coreCount 0 1).coreCount (if d.cutThrough then 1 else 2) 1

/-- A copy goes to its queue at once when it is cut-through, or once its frame has arrived (R340, R359). -/
def State.offer (k : Nat) (d : Desc) (s : State) : State :=
  if d.cutThrough || decide (d.endsAt ≤ s.now) then s.push k d
  else { s with core.copies := s.core.copies ++ [(k, d)] }

/-- Count a drop of a reason (R363): device-wide, with the pool manager's own counts of NO_EXTENT and BUF_LIMIT (R332), and
on the frame's original ingress port when it has one. -/
def State.countDrop (r : Nat) (inPort : Option Nat) (s₀ : State) : State :=
  let s := if r = 4 ∨ r = 5 then s₀.bpmCount (r - 1) 1 else s₀
  let s1 := s.count (0x90A00 + 8 * r) 1
  match inPort with
  | some p => if s.inactive p then s1 else s1.count (ptReg p (0x600 + 8 * r)) 1
  | none => s1

/-- An owner tag (R314). -/
def tag (typ n : Nat) : Nat := typ * 512 + n

/-! ## Mirror sessions (R357 to R360) -/

/-- A session's registers. -/
def State.mirDest (s : State) (m : Nat) : Nat := s.rd (0x90400 + 16 * m)
/-- CORE_MIR_CTL. -/
def State.mirCtl (s : State) (m : Nat) : Nat := s.rd (0x90404 + 16 * m)
/-- CORE_MIR_SAMPLE. -/
def State.mirSample (s : State) (m : Nat) : Nat := s.rd (0x90408 + 16 * m)
/-- CORE_MIR_FB. -/
def State.mirFb (s : State) (m : Nat) : Nat := s.rd (0x9040C + 16 * m)

/-- A session's running state. -/
def State.mir (s : State) (m : Nat) : Mir := s.core.mir.get Mir.zero m

/-- Replace it. -/
def State.setMir (m : Nat) (x : Mir) (s : State) : State := { s with core.mir := s.core.mir.set Mir.zero m x }

/-- The first `n` bytes of a session's template: byte 4w of CORE_MIR_HDR[w] lies in its top byte (R365). -/
def State.mirHdr (s : State) (m n : Nat) : List Byte :=
  ((List.range 16).flatMap fun w => toBE 4 (s.rd (0x91000 + 64 * m + 4 * w))).take n

/-- A frame with a session's template in front and a new FCS, the IPv4 header of the template filled (R358, R447): a
header that does not lie whole in the template is none of the template's. -/
def State.encap (s : State) (m : Nat) (b : List Byte) : List Byte :=
  let c := s.mirCtl m
  let f := (s.mirHdr m (bits c 20 14) ++ b).take 10172
  withFcs (if bit c 28 && decide (bits c 27 21 + 20 ≤ bits c 20 14) then fillIp4 f (bits c 27 21) else f)

/-- The bytes kept of a copy written anew, TRUNC 0 keeping all (R358). -/
def State.mirKept (s : State) (m : Nat) (b : List Byte) : List Byte :=
  let t := bits (s.mirCtl m) 13 0
  if t = 0 then body b else (body b).take t

/-- A copy on the session shares the frame's extent (R358). -/
def State.mirShares (s : State) (m : Nat) (b : List Byte) : Bool :=
  let c := s.mirCtl m
  (decide (bits c 13 0 = 0) || decide ((body b).length ≤ bits c 13 0)) && decide (bits c 20 14 = 0)

/-- A copy of a frame: its descriptor, its bytes, and whether its extent `d.h` is there to be shared. -/
structure Orig where
  d : Desc
  bytes : List Byte
  held : Bool
  deriving DecidableEq, Repr

/-- The session takes this occasion: the first, the (N + 1)-th and so on (R357). -/
def State.mirTakes (m : Nat) (s : State) : Bool × State :=
  let n := bits (s.mirSample m) 15 0
  let x := s.mir m
  (decide (x.seen % (if n = 0 then 1 else n) = 0), s.setMir m { x with seen := x.seen + 1 })

/-- A frame may cut through (R340): received on a port in its first pass, its class enabled on that port, and an egress
port, no faster, that is no recirculation port. -/
def State.cuts (s : State) (d : Desc) : Bool :=
  match d.inPort with
  | none => false
  | some i => decide (d.owner < 512) && decide (d.pass = 0) && bit (s.rd (ptReg i 0x28)) d.tc
      && !s.isRecirc d.port && decide (s.rate d.port ≤ s.rate i)

/-- How the making of a copy ends. -/
inductive Made
  | copy (d : Desc)
  /-- It found no place (R359). -/
  | discarded
  /-- A tile that it was written from was faulty (R302). -/
  | faulty
  deriving DecidableEq, Repr

/-- A copy written into an extent of its own. -/
def copyTaken (d : Desc) (owner len : Nat) (shared : Option Nat) (r : Took × State) : Made × State :=
  match r with
  | (.got h, s1) => (.copy { d with h := h, owner := owner, outLen := len, shared := shared }, s1)
  | (_, s1) => (.discarded, s1)

/-- The length by which a frame's extent is chosen (R309). -/
def pickLen (b : List Byte) : Option Nat := if b.length < 1729 then some b.length else none

/-- Make a descriptor of a copy: shared with one more reference, or anew from the frame's tiles into an extent charged at
its queue (R302, R358, R359). DESIGN CHOICE: for a copy that shares the extent of a frame dropped before it has one, or whose
extent holds grown bytes, one is taken under the frame's own tag and counts as shared. -/
def State.makeCopy (m q : Nat) (pick : Draw) (d : Desc) (o : Orig) (s : State) : Made × State :=
  if s.mirShares m o.bytes then
    let lim := bits (s.mirSample m) 31 16
    let x := s.mir m
    if (if lim = 0 then 65536 else lim) ≤ x.shared then (.discarded, s)
    else if o.held then (.copy { d with shared := some m }, (s.addRef d.h).setMir m { x with shared := x.shared + 1 })
    else
      let r := copyTaken d d.owner d.outLen (some m) (s.take (pickLen o.bytes) false none q d.owner pick o.bytes)
      match r.1 with
      | .copy e => (.copy e, r.2.setMir m { r.2.mir m with shared := (r.2.mir m).shared + 1 })
      | x => (x, r.2)
  else
    let kept := s.mirKept m o.bytes
    let x := if o.held then s.readTiles o.d.h o.d.owner kept.length else (none, s)
    if x.1.isSome then (.faulty, x.2)
    else
      let f := x.2.encap m kept
      copyTaken d (tag 2 m) f.length none (x.2.take (some f.length) false none q (tag 2 m) pick f)

/-- The descriptor that a copy starts from: it is sent as written and is no longer part of its generation. -/
def Orig.copyDesc (o : Orig) (m : Nat) : Desc :=
  { o.d with copy := true, plain := true, second := false, inGen := false, ecn := false, yelDei := false, grow := 0, ovf := false,
             rtag := none, pop := false, cookie := none, cut := none, chan := none, shared := some m,
             outLen := o.bytes.length, matchId := 0xFFFFFFFF }

/-- A discarded copy (R359). -/
def State.mirDiscard (o : Orig) (s : State) : State := s.countDrop 0x15 o.d.inPort

/-- A copy that was not made: discarded for want of a place, or lost with a faulty tile (R31, R302, R359). -/
def State.mirLost (x : Made) (o : Orig) (s : State) : State :=
  match x with
  | .faulty => s.countDrop 6 o.d.inPort
  | _ => s.mirDiscard o

/-- The CAPTURE ring a slice's records go to has no room, or there is none (R104, R361). -/
def State.captureFull (s : State) (sl : Nat) : Bool :=
  match s.evtRings s.active 6 with
  | [] => true
  | n :: ns => (s.ring s.active ((n :: ns).getD (sl % (n :: ns).length) n)).full

/-- The CLASS byte of a capture record (R360). -/
def captureClass (d : Desc) (bad : Bool) : Nat :=
  b2n (d.ecn || d.marked) * 128 + b2n bad * 64 + d.colour % 4 * 16 + d.gen % 2 * 8 + d.tc % 8

/-- The CAPTURE event of a copy (R360): CODE 1 ingress, 2 egress, 3 drop. -/
def State.captureEvt (m code : Nat) (egress : Option Nat) (time reason : Nat) (bad : Bool) (o : Orig) (s : State) : Evt :=
  let eg := match egress with | some p => p % 512 | none => 0x8000
  { typ := 6, code := code, source := o.d.inPort.getD 0xFFFF, time := time, sl := o.d.sl,
    detail := padTo 128 ((body o.bytes).take 128) ++ toLE 2 (body o.bytes).length ++ toLE 2 eg
      ++ [BitVec.ofNat 8 (captureClass o.d bad), BitVec.ofNat 8 (b2n (s.mir m).afterFb * 128 + m),
          BitVec.ofNat 8 reason, 0] }

/-- A fallback frame goes to its CPU queue (R361). -/
def State.putFallback (m : Nat) (d : Desc) (s : State) : State :=
  (((s.setMir m { s.mir m with fbSent := (s.mir m).fbSent + 1 }).offer (cpuKey d.cpuQ) d).coreCount 12 1).coreCount 10 1

/-- A capture session in fallback sends the first of every FB_N copies, cut to 256 bytes (R361). -/
def State.fallbackCopy (m : Nat) (pick : Draw) (o : Orig) (s : State) : State :=
  let fb := s.mirFb m
  let n := if bits fb 15 0 = 0 then 1 else bits fb 15 0
  let x := s.mir m
  let s1 := (s.setMir m { x with fbSeen := x.fbSeen + 1 }).coreCount 13 1
  if x.fbSeen % n = 0 then
    let d := { o.copyDesc m with cpuQ := bits fb 21 16, reason := 3, cut := some 256, shared := none }
    if o.held then (s1.addRef d.h).putFallback m d
    else
      let r := copyTaken d (tag 2 m) o.bytes.length none
        (s1.take (some o.bytes.length) false none (cpuKey d.cpuQ) (tag 2 m) pick o.bytes)
      match r.1 with
      | .copy e => r.2.putFallback m e
      | y => r.2.mirLost y o
  else s1

/-- A record of a copy is posted (R360), unless a tile that its head is read from is faulty (R302). -/
def State.captureRecord (m code : Nat) (egress : Option Nat) (time reason : Nat) (bad : Bool) (o : Orig) (s : State) :
    State :=
  let x := if o.held then s.readTiles o.d.h o.d.owner (satTo 128 (body o.bytes).length) else (none, s)
  if x.1.isSome then x.2.countDrop 6 o.d.inPort
  else
    let (w, s1) := x.2.postEvt (x.2.captureEvt m code egress time reason bad o)
    if w then ((s1.setMir m { s1.mir m with afterFb := false }).coreCount 11 1).coreCount 10 1 else s1

/-- A copy for a capture session (R360, R361): it enters fallback whatever FB_EN, which says what is sent in fallback. -/
def State.captureCopy (m code : Nat) (egress : Option Nat) (time reason : Nat) (pick : Draw) (bad : Bool) (o : Orig)
    (s : State) : State :=
  let ring := s.captureFull o.d.sl
  let s1 := if !(s.mir m).fallback && (ring || decide (262144 < s.backlog)) then
      (s.setMir m { s.mir m with fallback := true, fbSeen := 0, fbSent := 0 }).raise 0x800 1 .ce
        (packItems [(4, m), (1, b2n (!ring))])
    else s
  (if (s1.mir m).fallback && bit (s1.mirFb m) 22 then s1.fallbackCopy m pick o
  else s1.captureRecord m code egress time reason bad o).noteRoom

/-- A copy of a frame on a session (R357 to R361). `time` is the stamp of a capture record. A copy to a port is
cut-through where the original's ingress port allows it (R340, R359). -/
def State.mirrorCopy (m code : Nat) (egress : Option Nat) (time reason : Nat) (pick : Draw) (bad : Bool) (o : Orig)
    (s : State) : State :=
  let dest := s.mirDest m
  if bits dest 1 0 = 0 then s
  else
    let (go, s1) := s.mirTakes m
    if !go then s1
    else match bits dest 1 0 with
      | 1 =>
        let p := bits dest 10 2
        let tc := bits dest 13 11
        let d := { o.copyDesc m with port := p, tc := tc }
        if s1.isRecirc p || !s1.isUp p then s1.mirDiscard o
        else match s1.makeCopy m (classKey p tc) pick d o with
          | (.copy e, s2) =>
            (s2.offer (classKey p tc) { e with cutThrough := s2.cuts { e with owner := o.d.owner } }).coreCount 10 1
          | (x, s2) => s2.mirLost x o
      | 2 =>
        let q := bits dest 19 14
        let d := { o.copyDesc m with port := 512, cpuQ := q, reason := 4 }
        match s1.makeCopy m (cpuKey q) pick d o with
        | (.copy e, s2) => (s2.offer (cpuKey q) { e with cutThrough := false }).coreCount 10 1
        | (x, s2) => s2.mirLost x o
      | _ => s1.captureCopy m code egress time reason pick bad o

/-! ## Programmable counters (R450, R451) -/

/-- SL_PMC_SEL of a counter. -/
def State.pmcSel (s : State) (n c : Nat) : Nat := s.rd (slReg n (0x800 + 4 * c))

/-- An event adds `k` to one counter; its low SAMPLE_LOG2 bits passing from all ones to 0 asks for a sample (R451). -/
def State.pmcAdd (n c k : Nat) (s : State) : State :=
  let o := slReg n (0xA00 + 8 * c)
  let old := (s.cnt o).toNat
  let s1 := s.count o k
  let lg := bits (s.pmcSel n c) 26 22
  if 4 ≤ lg ∧ old / 2 ^ lg ≠ (old + k) / 2 ^ lg ∧ (s.tel.samples.any fun e => e.1 = n * 64 + c) = false then
    { s1 with tel.samples := s1.tel.samples.put (n * 64 + c) { since := s.now, admitted := [] } }
  else s1

/-- An event of a slice: every counter set to it counts, a counter with PORT_EN only for its port (R450). `arg` judges
the event argument; a slot event carries no port and ignores PORT_EN. -/
def State.pmc (n ev : Nat) (arg : Nat → Bool) (port : Option Nat) (slot : Bool) (k : Nat) (s : State) : State :=
  if s.tel.frozen then s
  else (List.range 64).foldl (fun t c =>
    let v := t.pmcSel n c
    if bits v 7 0 = ev ∧ arg (bits v 15 8) = true
        ∧ (slot || !bit v 21 || decide (port = some (32 * n + bits v 20 16))) = true then t.pmcAdd n c k else t) s

/-- An event without argument. -/
def State.pmc0 (n ev : Nat) (port : Option Nat) (k : Nat) (s : State) : State := s.pmc n ev (fun _ => true) port false k

/-- The loss of a packet that slice `sl` admitted through port `via` is an event of that slice (R450). -/
def State.lossEvt (r sl : Nat) (via : Option Nat) (s : State) : State :=
  match via with
  | some p => s.pmc sl 0x13 (fun a => decide (a = 0) || decide (a = r)) (some p) false 1
  | none => s

/-! ## Drops (R363, R364) -/

/-- The reason is one at which the frame still lies whole in its extent (R363). -/
def heldReason (r : Nat) : Bool :=
  [0x03, 0x08, 0x09, 0x0A, 0x0B, 0x0C, 0x0D, 0x0E, 0x0F, 0x10, 0x11, 0x12, 0x13, 0x14].contains r
    || (decide (0x18 ≤ r) && decide (r ≤ 0x1B))

/-- The copy of a dropped frame: for the host it keeps the fault that it shows as BAD_FCS (R344), and a port sends it as
it was received. DESIGN CHOICE: R364 has a drop of RX_BAD copied, so its copy is not dropped for that fault again. -/
def Orig.dropped (o : Orig) (toPort : Bool) : Orig :=
  { o with d := { o.d with late := if toPort then .none else o.d.late } }

/-- Drop a frame (R363, R364): counted, and copied first where CORE_DROP_DISP asks for it. -/
def State.dropCopy (r : Nat) (pick : Draw) (o : Orig) (s : State) : State :=
  let v := s.rd (0x90080 + 4 * r)
  let m := bits v 4 1
  let egress := if o.d.port < 512 then some o.d.port else none
  let s1 := if bit v 0 && heldReason r then
      s.mirrorCopy m 3 egress o.d.ts r pick (decide (o.d.late ≠ .none)) (o.dropped (decide (bits (s.mirDest m) 1 0 = 1)))
    else s
  (s1.countDrop r o.d.inPort).lossEvt r o.d.sl o.d.via

/-- A descriptor leaves the core: its shared copy is no longer outstanding (R359), and its extent's reference is
released (R313, R315). Whether the release was taken. -/
def State.done (d : Desc) (s : State) : Bool × State :=
  let s1 := match d.shared with
    | some m => s.setMir m { s.mir m with shared := (s.mir m).shared - 1 }
    | none => s
  s1.release d.h d.owner

/-- A packet leaves its generation's in-flight count (R243). -/
def State.leaveGen (g : Nat) (s : State) : State :=
  if g = 0 then { s with gen.infl0 := s.gen.infl0 - 1 } else { s with gen.infl1 := s.gen.infl1 - 1 }

/-- The frame bytes of an extent. -/
def State.dataOf (s : State) (h : Nat) : List Byte := (s.buf.ext.get Ext.none h).data

/-- The core drops a queued frame for a reason: counted, copied where asked, released (R363, R364). Copies are not
counted as frames but for their own reasons. -/
def State.dropDesc (r : Nat) (pick : Draw) (d : Desc) (s : State) : State :=
  let s1 := if d.copy then s.countDrop r d.inPort
    else s.dropCopy r pick { d := d, bytes := s.dataOf d.h, held := true }
  let s2 := if d.inGen then s1.leaveGen d.gen else s1
  (s2.done d).2

/-- A copy whose frame has arrived goes to its queue. One to a port whose frame has ended with a fault, or whose port has
left UP, is dropped (R337, R344). -/
def State.bringCopy (pick : Draw) (e : Nat × Desc) (s : State) : State :=
  if e.2.port < 512 ∧ e.2.late ≠ .none then s.dropDesc 8 pick e.2
  else if e.2.port < 512 ∧ s.isUp e.2.port = false then s.dropDesc 0x11 pick e.2
  else s.push e.1 e.2

/-- The copies whose frames have arrived go to their queues, in the order of their making. -/
def State.bringCopies (pick : Draw) (s : State) : State :=
  (s.core.copies.filter fun e => e.2.endsAt ≤ s.now).foldl (fun t e => t.bringCopy pick e)
    { s with core.copies := s.core.copies.filter fun e => s.now < e.2.endsAt }

/-! ## Postcards (R445 to R447) -/

/-- PERF_CNT[i] (R458). -/
def State.perfCount (i n : Nat) (s : State) : State := s.count (0x70200 + 8 * i) n

/-- The frame of a postcard is queued for its mirror port where it got an extent (R446); whether it was. -/
def queueCard (p tc sl time : Nat) (len : Nat) (r : Took × State) : Bool × State :=
  match r with
  | (.got h, t) =>
    let d : Desc :=
      { h := h, owner := tag 4 sl, port := p, tc := tc, chan := none, inPort := none, sl := sl, via := none, tc7 := false,
        gen := 0, inGen := false, ts := time, pass := 0, colour := 0, yelDei := false, ecn := false, marked := false, flags := 0,
        hdrs := [], len := len, endsAt := t.now, tileAt := t.now, late := .none, cutThrough := false, outLen := len,
        enqAt := t.now, qdepth := 0, grow := 0, ovf := false, classId := 0, matchId := 0xFFFFFFFF, cpuQ := 0,
        reason := 0, shared := none, copy := true, second := false, plain := true, inject := false, rtag := none, pop := false,
        cookie := none, cut := none, unjudged := false }
    (true, t.push (classKey p tc) d)
  | (_, t) => (false, t)

/-- A postcard as a frame to the port of mirror session `m` (R446); whether it was sent. -/
def State.cardFrame (m time sl : Nat) (pick : Draw) (e : Evt) (s : State) : Bool × State :=
  let md := s.mirDest m
  let p := bits md 10 2
  let tc := bits md 13 11
  if bits md 1 0 ≠ 1 ∨ (s.pt p).state ≠ .up ∨ s.isRecirc p = true then (false, s)
  else
    let f := s.encap m (e.entry 0)
    queueCard p tc sl time f.length (s.take (some f.length) false none (classKey p tc) (tag 4 sl) pick f)

/-- Send a postcard: to a ring, as a frame, or both (R447). `detail` are the record's bytes from 24 to 63. -/
def State.sendPostcard (code source time sl : Nat) (pick : Draw) (detail : List Byte) (s : State) : State :=
  let cfg := s.rd 0x70120
  let e : Evt := { typ := 7, code := code, source := source, time := time, detail := detail, sl := sl }
  let r1 := if bits cfg 1 0 = 1 then (false, s) else s.postEvt e
  let r2 := if bits cfg 1 0 = 0 then (false, r1.2) else r1.2.cardFrame (bits cfg 5 2) time sl pick e
  if r1.1 || r2.1 then r2.2.perfCount 4 1 else r2.2.perfCount 5 1

end Sys2Proof.Machine
end

