-- ==== Sys2Proof/Machine/Slices.lean ====
section
/-! DEFINITION. What every stage of a slice shares: the slice's state, generations' in-flight counts (R243), slot
accounting (R448, R449) and drops of packets. -/
namespace Sys2Proof.Machine

/-- A slice. -/
def State.slice (s : State) (n : Nat) : SliceSt := s.slices.get SliceSt.zero n

/-- Replace a slice. -/
def State.setSlice (n : Nat) (x : SliceSt) (s : State) : State := { s with slices := s.slices.set SliceSt.zero n x }

/-- Change a slice. -/
def State.onSlice (n : Nat) (f : SliceSt → SliceSt) (s : State) : State := s.setSlice n (f (s.slice n))

/-- The source ID of a slice (R501). -/
def sliceSrc (n : Nat) : Nat := 0xA00 + n

/-- RAMP_US in nanoseconds (R485). -/
def State.rampNs (s : State) : Nat := bits (s.rd 0x40004) 27 16 * 1000

/-! ## Generations -/

/-- In-flight packets of a generation (R243). -/
def State.infl (s : State) (g : Nat) : Nat := if g = 0 then s.gen.infl0 else s.gen.infl1

/-- A packet of a generation is admitted (R243). -/
def State.enterGen (g : Nat) (s : State) : State :=
  if g = 0 then { s with gen.infl0 := s.gen.infl0 + 1 } else { s with gen.infl1 := s.gen.infl1 + 1 }

/-- The control-store bank of a generation. -/
def State.csBank (s : State) (g : Nat) : CsBank := if g = 0 then s.gen.cs0 else s.gen.cs1

/-- Replace it. -/
def State.setCsBank (g : Nat) (b : CsBank) (s : State) : State :=
  if g = 0 then { s with gen.cs0 := b } else { s with gen.cs1 := b }

/-- The tree bank of a generation. -/
def State.treeBank (s : State) (g : Nat) : TreeBank := if g = 0 then s.gen.tree0 else s.gen.tree1

/-- Replace it. -/
def State.setTreeBank (g : Nat) (b : TreeBank) (s : State) : State :=
  if g = 0 then { s with gen.tree0 := b } else { s with gen.tree1 := b }

/-- The generation is valid: both its banks are (R242). -/
def State.genValid (s : State) (g : Nat) : Bool := (s.csBank g).valid && (s.treeBank g).valid

/-- A change of a generation's parts is refused with GEN_BUSY, live ACL commands apart (R196, R222, R244). -/
def State.genBusy (s : State) (g : Nat) : Bool :=
  s.gen.swap.isSome || decide (s.infl g ≠ 0)
    || (decide (s.gen.cur = g) && (decide (s.mode = .forward) || decide (s.mode = .drain)))

/-! ## Slots (R448, R449) -/

/-- The slot classes of SL_TD_CNT (R448). -/
inductive SlotClass
  | total
  | retired
  | wastedDrop
  | wastedRecirc
  | front
  | back
  | backCap
  deriving DecidableEq, Repr

/-- The class's index in SL_TD_CNT. -/
def SlotClass.idx : SlotClass → Nat
  | .total => 0
  | .retired => 1
  | .wastedDrop => 2
  | .wastedRecirc => 3
  | .front => 4
  | .back => 5
  | .backCap => 6

/-- SL_TD_CNT[i] of a slice. -/
def tdReg (n i : Nat) : Nat := slReg n (0x900 + 8 * i)

/-- Count a slot in a class, with the programmable counters set to it (R448, R450); frozen, nothing counts (R453). -/
def State.slotCount (n : Nat) (c : SlotClass) (s : State) : State :=
  if s.tel.frozen then s
  else (s.count (tdReg n c.idx) 1).pmc n (c.idx + 1) (fun _ => true) none true 1

/-- A slot is filled: it counts in INFLIGHT (R448). -/
def State.slotFill (n : Nat) (s : State) : State :=
  if s.tel.frozen then s else (s.slotCount n .total).count (tdReg n 7) 1

/-- A filled slot is classified at the end of the action stage (R448). -/
def State.slotLeave (n : Nat) (c : SlotClass) (s : State) : State :=
  if s.tel.frozen then s else (s.slotCount n c).count (tdReg n 7) (2 ^ 64 - 1)

/-! ## Packets -/

/-- Replace a packet. -/
def State.setPkt (k : Pkt) (s : State) : State :=
  { s with core.pkts := s.core.pkts.map fun x => if x.id = k.id then k else x }

/-- Take a packet out. -/
def State.dropPktOut (k : Pkt) (s : State) : State := { s with core.pkts := s.core.pkts.filter fun x => x.id ≠ k.id }

/-- The descriptor of a packet before it has a destination. -/
def Pkt.desc (k : Pkt) : Desc :=
  { h := k.h.getD 0, owner := k.owner, port := k.fate.dest.getD 512, tc := k.fate.tc, chan := k.fate.chan, inPort := k.inPort,
    sl := k.slice, via := if k.stage = .waiting then none else some k.via, tc7 := k.tc7, gen := k.gen, inGen := false, ts := k.ts, pass := k.pass, colour := k.fate.colour,
    yelDei := k.fate.yelDei, ecn := false, marked := k.marked, flags := k.flags, hdrs := k.hdrs, len := k.bytes.length,
    endsAt := k.endsAt, tileAt := k.tileAt, late := k.late, cutThrough := false, outLen := k.bytes.length, enqAt := 0, qdepth := 0,
    grow := 0, ovf := false, classId := k.fate.classId, matchId := k.fate.matchId, cpuQ := 0, reason := 0,
    shared := none, copy := false, second := false, plain := false, inject := k.inject, rtag := none, pop := false, cookie := k.cookie, cut := none, unjudged := false }

/-- Drop a packet of a slice for a reason (R363): counted, copied where asked, its extent released, its place in its
generation given up. -/
def State.dropPkt (r : Nat) (pick : Draw) (k : Pkt) (s : State) : State :=
  let s1 := s.dropCopy r pick { d := k.desc, bytes := k.bytes, held := k.h.isSome }
  let s3 := if k.inGen then s1.leaveGen k.gen else s1
  let s4 := s3.dropPktOut k
  match k.h with
  | some h => (s4.release h k.owner).2
  | none => s4

/-- Packets admitted to a slice, in the order of admission. -/
def State.pktsOf (s : State) (n : Nat) : List Pkt := s.core.pkts.filter fun k => k.slice = n ∧ k.stage ≠ .waiting

end Sys2Proof.Machine
end

