-- ==== Sys2Proof/Machine/Flow.lean ====
section
/-! DEFINITION. The MACs of a port: receiving (R156 to R162), sending and loopback (R163), and the flow control that the
buffer's use gives rise to: XOFF, XON and the frames that carry them (R348, R349). -/
namespace Sys2Proof.Machine
open Host (Outcome)

/-! ## The receive MAC -/

/-- PT_MAC_CFG of a port. -/
def State.macCfg (s : State) (p : Nat) : Nat := s.rd (ptReg p 0xC)

/-- The source address of a port, PT_MAC_SA, as a number (R158). -/
def State.portSa (s : State) (p : Nat) : Nat := bits (s.rd (ptReg p 0x14)) 15 0 * 2 ^ 32 + s.rd (ptReg p 0x10)

/-- MAX_FRAME of a port. -/
def State.maxFrame (s : State) (p : Nat) : Nat := bits (s.macCfg p) 13 0

/-- LOOPBACK of a port: it acts while ADMIN_UP = 1 (R164). -/
def State.loopback (s : State) (p : Nat) : Nat :=
  let v := s.rd (ptReg p 4)
  if bit v 0 then bits v 2 1 else 0

/-- Nanoseconds that `n` bytes take at a rate in Gb/s, rounded up. -/
def nsFor (n rate : Nat) : Nat := if rate = 0 then 0 else (n * 8 + rate - 1) / rate

/-- A pause of a class of a port ends at an instant in picoseconds; 0 ends it at once (R160). -/
def State.setPause (p tc until' : Nat) (s : State) : State :=
  let x := s.pt p
  s.setPt p { x with pause := x.pause.set 0 tc until' }

/-- Where a pause of `q` quanta from the last bit of a frame of `len` bytes ends, 0 for a time of 0 (R161). -/
def State.pauseEnd (s : State) (p len q : Nat) : Nat :=
  if q = 0 ∨ s.rate p = 0 then 0 else (s.now + nsFor len (s.rate p)) * 1000 + q * 512000 / s.rate p

/-- A frame is a MAC control frame (R159). -/
def isMacControl (b : List Byte) : Bool := decide (be b 12 2 = 0x8808)

/-- The MAC consumes a MAC control frame with a good FCS (R159 to R161). -/
def State.macControl (p : Nat) (b : List Byte) (s : State) : State :=
  let cfg := s.macCfg p
  let fc := bits cfg 15 14
  match be b 14 2 with
  | 0x0001 =>
    if fc = 1 then
      (List.range 8).foldl (fun t c => if c < 7 ∨ bit cfg 24 = true then t.setPause p c (t.pauseEnd p b.length (be b 16 2)) else t)
        (s.ptCount p 5 1)
    else s.ptCount p 6 1
  | 0x0101 =>
    let named := fun n => bit (be b 16 2) n
    let time := fun n => be b (18 + 2 * n) 2
    let s1 := (List.range 8).foldl (fun t n => if named n ∧ time n ≠ 0 then t.ptCount p (32 + n) 1 else t) s
    if fc = 2 then
      (List.range 8).foldl (fun t n =>
        if named n ∧ bit cfg (16 + n) = true then t.setPause p n (t.pauseEnd p b.length (time n)) else t) (s1.ptCount p 5 1)
    else s1.ptCount p 6 1
  | _ => s.ptCount p 6 1

/-- The harp pre-classes a frame of a port as TC7 (R406). -/
def State.preClass (s : State) (p : Nat) (b : List Byte) : Bool :=
  let v := s.rd (ptReg p 0x180)
  match pcpOf b with
  | some x => bit v x
  | none => bit v 8

/-- A packet as it reaches a slice: `bytes` from the destination address through the FCS. -/
def State.newPkt (s : State) (p : Nat) (b : List Byte) (late : Late) : Pkt :=
  let r := s.rate p
  { id := s.core.nextPkt, slice := portSlice p, via := p, inPort := some p, inject := false, pass := 0,
    tc7 := s.preClass p b, gen := 0, inGen := false, ts := s.devTime, bytes := b,
    headAt := s.now + nsFor (if b.length < 256 then b.length else 256) r,
    extAt := s.now + nsFor (if b.length < 1729 then b.length else 1729) r,
    endsAt := s.now + nsFor b.length r, tileAt := s.now + nsFor (satTo 192 b.length) r, late := late, owner := p, h := none, stage := .waiting, budget := 0, reparses := 0,
    key := [], hdrs := [], flags := 0, waited := false, fate := Fate.zero, cookie := none,
    marked := false }

/-- A packet joins those that wait for a slot. -/
def State.addPkt (k : Pkt) (s : State) : State :=
  { s with core := { s.core with pkts := s.core.pkts ++ [k], nextPkt := s.core.nextPkt + 1 } }

/-- A frame that the MAC has accepted goes to its slice, or is dropped at the harp in CONFIGURE and in PARK with HOLD_IDLE
(R43, R47, R167). -/
def State.passOn (p : Nat) (b : List Byte) (late : Late) (s : State) : State :=
  match s.mode with
  | .forward | .drain => s.addPkt (s.newPkt p b late)
  | .configure => s.ptCount p 7 1
  | .park => if s.md.parkDown then s else s.ptCount p 7 1
  | _ => s

/-- A frame arrives at the receive MAC of a port: its bytes from the destination address through the FCS, `errored` when
an uncorrectable codeword touched it (R156, R157, R159, R167). A MAC control frame with a bad FCS is counted in RX_FCS_ERR
alone. DESIGN CHOICE: the length is tested before the FCS, so a frame that fails both counts as RX_RUNT or RX_OVERSIZE
alone; and RX_DROP_HARP counts, beside the good frames, those that the MAC would have handed on: a bad FCS, and an
oversize frame whose fault shows only after its 1,729th byte, but no runt. -/
def State.receive (p : Nat) (b : List Byte) (errored : Bool) (s : State) : State :=
  if (s.pt p).state ≠ .up ∨ s.mode = .safe ∨ s.mode = .save then s
  else if b.length < 64 then s.ptCount p 3 1
  else if s.maxFrame p < b.length then
    let s1 := s.ptCount p 4 1
    if s.maxFrame p < 1729 then s1 else s1.passOn p (b.take (s.maxFrame p)) .oversize
  else if errored || !fcsGood b then
    let s1 := s.ptCount p 2 1
    if isMacControl b then s1 else s1.passOn p b .fcs
  else
    let s1 := (s.ptCount p 0 1).ptCount p 1 b.length
    if isMacControl b then s1.macControl p b else s1.passOn p b .none

/-- What a port has received of a preempted frame. -/
def State.setAsm (p : Nat) (b : List Byte) (s : State) : State := s.setPt p { s.pt p with asm := b }

/-- A frame, or a fragment of one, arrives at a port from the line, which near-end and MAC loopback cut off (R163). While
PT_PREEMPT.EN = 1 the port reassembles fragments (R419). DESIGN CHOICE: while it is 0, a fragment is no frame to the MAC, and
nothing comes of it. -/
def execFrameReceive (port : Port) (bytes : List Byte) (rx : Rx) (s : State) : Outcome State Fault Refusal :=
  .next <|
    let b := (s.pt port).asm ++ bytes
    if s.loopback port % 2 = 1 then s
    else if rx.piece = .whole then s.receive port bytes rx.errored
    else if !bit (s.rd (ptReg port 0x1C0)) 0 then s
    else match rx.piece with
      | .first => s.setAsm port bytes
      | .middle => s.setAsm port b
      | _ => (s.setAsm port []).receive port b rx.errored

/-- A MAC control frame arrives at a port from the line (R159 to R162). -/
def execMacControlFrame (port : Port) (bytes : List Byte) (errored : Bool) (s : State) : Outcome State Fault Refusal :=
  .next (if s.loopback port % 2 = 1 ∨ isMacControl bytes = false then s else s.receive port bytes errored)

/-- A received pause of a class has run out (R160). -/
def execPauseExpiry (port : Port) (tc : Fin 8) (s : State) : Outcome State Fault Refusal :=
  .next (if (s.pt port).pause.get 0 tc ≤ s.now * 1000 then s.setPause port tc 0 else s)

/-! ## Frames a port puts on its line (R163, R349) -/

/-- A frame leaves a port's transmit MAC: to the line, to the line and its own receiver in near-end loopback, to its own
receiver alone in MAC loopback (R163). -/
def State.lineOut (p : Nat) (b : List Byte) (bad : Bool) (s : State) : State :=
  match s.loopback p with
  | 1 => (s.emit (.frame p b bad)).receive p b false
  | 3 => s.receive p b false
  | _ => s.emit (.frame p b bad)

/-- The port sends a MAC control frame (R158, R349, R351): in FORWARD and DRAIN alone, and only while it is UP. -/
def State.sendMac (p : Nat) (payload : List Byte) (s : State) : State :=
  if s.bufLive && s.lineUp p then
    let f := withFcs (padTo 60 (toBE 6 0x0180C2000001 ++ toBE 6 (s.portSa p) ++ toBE 2 0x8808 ++ payload))
    (((((s.ptCount p 11 1).coreCount 8 1).ptCount p 8 1).ptCount p 9 f.length).lineOut p f false)
  else s

/-- A whole frame leaves a port and is counted (R167, R343). -/
def State.putLine (p : Nat) (b : List Byte) (bad : Bool) (s : State) : State :=
  let s1 := (s.ptCount p 8 1).ptCount p 9 b.length
  (if bad then s1.ptCount p 10 1 else s1).lineOut p b bad

/-! ## Preemption (R419, R420) -/

/-- A preemptable frame begins to leave a port on which preemption is active. -/
def State.beginSending (p : Nat) (x : Sending) (s : State) : State :=
  { s with core.sending := s.core.sending.put p x }

/-- How many bytes of the frame have left by now. -/
def State.sentBytes (s : State) (p : Nat) (x : Sending) : Nat :=
  match x.since with
  | some t => satTo x.bytes.length (x.off + (s.now - t) * s.rate p / 8)
  | none => x.off

/-- A fragment leaves for the line, unless the MAC's own loopback takes it (R163). -/
def State.fragOut (p : Nat) (b : List Byte) (last bad : Bool) (s : State) : State :=
  if s.loopback p = 3 then s else s.emit (.fragment p b last bad)

/-- The frame's end leaves the port: the frame whole, or its last fragment. A loopback's receiver gets it reassembled. -/
def State.finishSending (p : Nat) (s : State) : State :=
  match s.sendingOf p with
  | none => s
  | some x =>
    let s1 := { s with core.sending := s.core.sending.erase p }
    if x.off = 0 then s1.putLine p x.bytes x.bad
    else
      let s2 := (s1.ptCount p 8 1).ptCount p 9 x.bytes.length
      let s3 := (if x.bad then s2.ptCount p 10 1 else s2).fragOut p (x.bytes.drop x.off) true x.bad
      if s3.loopback p % 2 = 1 then s3.receive p x.bytes false else s3

/-- The frame is preempted after its first `n` bytes. -/
def State.preempt (p n : Nat) (x : Sending) (s : State) : State :=
  (s.beginSending p { x with off := n, since := none }).fragOut p ((x.bytes.take n).drop x.off) false false

/-- Some class of express frames is eligible (R419). -/
def State.expressWaits (s : State) (p : Nat) : Bool :=
  (List.range 8).any fun tc => s.express p tc && s.classEligible p tc

/-- The gate of the class is open and no HOLD fret is in force. -/
def State.mayFragment (s : State) (p tc : Nat) : Bool := s.gateOpen p tc s.devNs && !s.holdNow p s.devNs

/-- The smallest fragment of a port: 64 × (1 + ADD_FRAG) bytes (R419). -/
def State.minFragment (s : State) (p : Nat) : Nat := 64 * (1 + bits (s.rd (ptReg p 0x1C0)) 3 2)

/-- What is due to the preemptable frame of a port now (R419, R420): its end; its preemption where its gate has closed, an
express frame is eligible or a HOLD fret is in force, at a point that leaves no fragment too small; or its resumption.
PRESUMED: IEEE 802.3br leaves at least 64 bytes for the last fragment. -/
def State.lineUpdate (p : Nat) (s : State) : State :=
  match s.sendingOf p with
  | none => s
  | some x =>
    let n := s.sentBytes p x
    let stop := !s.mayFragment p x.tc || s.expressWaits p
    if x.since.isNone then
      if stop || s.core.tx.any (fun e => e.1 = p) then s else s.beginSending p { x with since := some s.now }
    else if x.bytes.length ≤ n then s.finishSending p
    else if stop && decide (x.off + s.minFragment p ≤ n) && decide (n + 64 ≤ x.bytes.length) then s.preempt p n x
    else s

/-! ## XON and XOFF (R348 to R350) -/

/-- The entity is lossless (R318, R348). -/
def State.lossless (s : State) (i : Nat) : Bool := decide (0 < ipHdrm (s.iprof i))

/-- CORE_IPROF_PFC of an entity: its ingress profile's. -/
def State.iprofPfc (s : State) (i : Nat) : Nat :=
  s.rd (0x90200 + 4 * bits (s.rd (ptReg (i / 8) 0x24)) (4 * (i % 8) + 3) (4 * (i % 8)))

/-- `n` tiles reach the entity's limit, α × (S − U) (R320, R348). -/
def State.reaches (s : State) (i n : Nat) : Bool :=
  let a := ipAlpha (s.iprof i)
  decide (10 < a) || decide (2 ^ a * (s.sharedSpace - s.buf.used) ≤ (n : Int) * 128)

/-- The entity is in XOFF. -/
def State.inXoff (s : State) (i : Nat) : Bool := decide (s.core.xoff.get 0 i ≠ 0)

/-- The state that R348 gives an entity, from the one it is in. -/
def State.wantsXoff (s : State) (i : Nat) : Bool :=
  let sh := s.buf.iSh.get 0 i
  let hd := s.buf.iHd.get 0 i
  let g := if s.inXoff i then bits (s.iprofPfc i) 31 16 else bits (s.iprofPfc i) 15 0
  s.isUp (i / 8) && s.lossless i && (decide (sh ≠ 0) || decide (hd ≠ 0)) && (decide (hd ≠ 0) || s.reaches i (sh + g))

/-- The groups of a port in XOFF. -/
def State.xoffGroups (s : State) (p : Nat) : List Nat := (List.range 8).filter fun g => s.inXoff (p * 8 + g)

/-- The priorities that map to one of the groups (R349). -/
def State.pcpsOf (s : State) (p : Nat) (gs : List Nat) : List Nat :=
  (List.range 8).filter fun n => gs.contains (s.pgOf p (some n))

/-- CORE_PFC_CFG.TIME. -/
def State.pfcTime (s : State) : Nat := bits (s.rd 0x90004) 15 0

/-- CORE_PFC_CFG.XON_SEND. -/
def State.xonSend (s : State) : Bool := bit (s.rd 0x90004) 16

/-- A PFC frame's payload: the priorities named, and those of them that get TIME; the others get 0. -/
def pfcPayload (named offs : List Nat) (time : Nat) : List Byte :=
  toBE 2 0x0101 ++ toBE 2 ((named.map fun n => 2 ^ n).sum)
    ++ (List.range 8).flatMap fun n => toBE 2 (if offs.contains n then time else 0)

/-- The frame of a port after groups have changed state (R349); `before` says that a group of the port was in XOFF. -/
def State.sendFlow (p : Nat) (changed : List Nat) (before : Bool) (s : State) : State :=
  let offs := changed.filter fun g => s.inXoff (p * 8 + g)
  let ons := changed.filter fun g => !s.inXoff (p * 8 + g)
  let after := !(s.xoffGroups p).isEmpty
  match bits (s.macCfg p) 15 14 with
  | 2 =>
    let offP := s.pcpsOf p offs
    let onP := if s.xonSend then s.pcpsOf p ons else []
    if (offP ++ onP).isEmpty then s else s.sendMac p (pfcPayload (offP ++ onP) offP s.pfcTime)
  | 1 =>
    if after && !before then s.sendMac p (toBE 2 1 ++ toBE 2 s.pfcTime)
    else if before && !after && s.xonSend then s.sendMac p (toBE 2 1 ++ toBE 2 0)
    else s
  | _ => s

/-- When the port's last pause frame went out, in picoseconds plus 1: that of a group that is in XOFF already under
802.3x, else now. -/
def State.xoffStamp (s : State) (p : Nat) : Nat :=
  match bits (s.macCfg p) 15 14, s.xoffGroups p with
  | 1, g :: _ => s.core.xoff.get 0 (p * 8 + g)
  | _, _ => s.now * 1000 + 1

/-- An entity enters the state that R348 gives it. -/
def State.xoffMove (i : Nat) (s : State) : State :=
  if s.inXoff i then { s with core.xoff := s.core.xoff.erase i }
  else ({ s with core.xoff := s.core.xoff.put i (s.xoffStamp (i / 8)) }).coreCount 7 1

/-- Every entity moves to the state that R348 gives it, and its port sends what R349 says. -/
def State.pfcUpdate (s : State) : State :=
  let es := (s.core.xoff.map Prod.fst ++ s.buf.iSh.map Prod.fst ++ s.buf.iHd.map Prod.fst).eraseDups
  let changed := es.filter fun i => s.inXoff i != s.wantsXoff i
  let s1 := changed.foldl (fun t i => t.xoffMove i) s
  (changed.map (· / 8)).eraseDups.foldl (fun t p =>
    t.sendFlow p ((changed.filter fun i => i / 8 = p).map (· % 8)) (!(s.xoffGroups p).isEmpty)) s1

end Sys2Proof.Machine
end

