-- ==== Sys2Proof/Machine/Parse.lean ====
section
/-! DEFINITION. Terriers: the microword and the parse it drives (R176 to R188), heads and engines (R173, R175, R204 to
R206), and canary tests (R203). -/
namespace Sys2Proof.Machine
open Host (Outcome)

/-! ## The microword -/

/-- A word that holds nothing but HALT (R195). -/
def haltWord : Nat := 6 * 2 ^ 124

/-- NA_OP of a word. -/
def wNa (w : Nat) : Nat := bits w 127 124
/-- TARGET. -/
def wTarget (w : Nat) : Nat := bits w 123 110
/-- DTAB. -/
def wDtab (w : Nat) : Nat := bits w 109 104
/-- COND. -/
def wCond (w : Nat) : Nat := bits w 103 99
/-- Bytes extracted, 1 to 4. -/
def wExBytes (w : Nat) : Nat := bits w 89 88 + 1
/-- Bits kept after the shift. -/
def wExWidth (w : Nat) : Nat := if bits w 82 78 = 0 then 32 else bits w 82 78
/-- IMM. -/
def wImm (w : Nat) : Nat := bits w 72 57
/-- Bytes written to the key vector. -/
def wKeyLen (w : Nat) : Nat := if bits w 48 45 = 0 then 16 else bits w 48 45

/-- The word has no unused code, no reserved bit, and keeps the rules of the layout (R198). -/
def wordOk (w : Nat) : Bool :=
  let na := wNa w
  let cond := wCond w
  decide (na ≤ 6) && decide (bits w 11 0 = 0)
    && (na = 1 || na = 2 || na = 3 || na = 4 || decide (wTarget w = 0))
    && (na = 3 || decide (wDtab w = 0))
    && (na = 1 || na = 6 || (decide (cond = 0) && !bit w 98))
    && decide (cond ≠ 0xF) && decide (cond < 0x18)
    && (!bit w 56 || (decide (bits w 54 49 + wKeyLen w ≤ 64) && (bit w 55 || decide (wKeyLen w ≤ 4))))

/-! ## One parse -/

/-- A parse under way: cursor, scratch registers, compare result (0 none, 1 equal, 2 greater, 3 less), call stack, and
what it will leave behind (R176, R177). -/
structure Par where
  pc : Nat
  cursor : Nat
  s0 : Nat
  s1 : Nat
  s2 : Nat
  s3 : Nat
  cmp : Nat
  stack : List Nat
  key : List Byte
  hdrs : List Hdr
  flags : Nat
  cycles : Nat
  deriving DecidableEq, Repr

/-- A parse at its start (R176). -/
def Par.init (pc : Nat) : Par :=
  { pc := pc, cursor := 0, s0 := 0, s1 := 0, s2 := 0, s3 := 0, cmp := 0, stack := [], key := List.replicate 64 0,
    hdrs := [], flags := 0, cycles := 0 }

/-- A scratch register. -/
def Par.scratch (x : Par) : Nat → Nat
  | 0 => x.s0
  | 1 => x.s1
  | 2 => x.s2
  | _ => x.s3

/-- Write a scratch register. -/
def Par.setScratch (i v : Nat) (x : Par) : Par :=
  match i with
  | 0 => { x with s0 := v }
  | 1 => { x with s1 := v }
  | 2 => { x with s2 := v }
  | _ => { x with s3 := v }

/-- What the packet brings to its parse: its head, whether it is short (R174), and the conditions of its pass. -/
structure HeadIn where
  head : List Byte
  short : Bool
  recirc : Bool
  inject : Bool
  tc7 : Bool
  deriving DecidableEq, Repr

/-- Flag bits of R184. -/
def fTrunc : Nat := 1
/-- MALFORMED. -/
def fMal : Nat := 2
/-- BUDGET. -/
def fBudget : Nat := 4
/-- PROG_ERR. -/
def fProg : Nat := 8
/-- TRUNC_CAUSE. -/
def fCause : Nat := 16

/-- The extracted value F (R179): network order, shifted right, cut to its width; 0 without EX_EN. -/
def extract (h : HeadIn) (cursor w : Nat) : Nat :=
  if bit w 12 then
    (be h.head (cursor + bits w 97 90) (wExBytes w) >>> bits w 87 83) % 2 ^ wExWidth w
  else 0

/-- The ALU's step (R179): the parse with the scratch register or the compare result changed. -/
def Par.alu (f w : Nat) (x : Par) : Par :=
  let r := bits w 74 73
  let imm := wImm w
  let cmp (a b : Nat) : Nat := if a = b then 1 else if b < a then 2 else 3
  match bits w 77 75 with
  | 0 => x
  | 1 => { x with cmp := cmp f imm }
  | 2 => x.setScratch r (f % 65536)
  | 3 => x.setScratch r ((x.scratch r + f) % 65536)
  | 4 => x.setScratch r ((x.scratch r + 65536 - imm) % 65536)
  | 5 => x.setScratch r (f % 65536 &&& imm)
  | 6 => x.setScratch r imm
  | _ => { x with cmp := cmp (x.scratch r) imm }

/-- The key unit's step: the low bytes of F in network order, or a copy of head bytes (R179). -/
def Par.keyStep (h : HeadIn) (cursor f w : Nat) (x : Par) : Par :=
  if bit w 56 then
    let n := wKeyLen w
    let b := if bit w 55 then cut h.head (cursor + bits w 97 90) n else toBE n (f % 2 ^ (8 * n))
    { x with key := patch x.key (bits w 54 49) b }
  else x

/-- The header unit's step (R183). -/
def Par.hdrStep (cursor w : Nat) (x : Par) : Par :=
  if bit w 44 then { x with hdrs := x.hdrs ++ [{ kind := bits w 43 36, off := cursor }] } else x

/-- The flag unit's step (R184). -/
def Par.flagStep (w : Nat) (x : Par) : Par :=
  { x with flags := x.flags ||| b2n (bit w 21) * fMal ||| bits w 20 13 * 256 }

/-- The cursor advance (R179). -/
def Par.advance (f w : Nat) (x : Par) : Nat :=
  match bits w 35 34 with
  | 0 => 0
  | 1 => bits w 29 22
  | 2 => f * 2 ^ bits w 33 32
  | _ => x.scratch (bits w 31 30) * 2 ^ bits w 33 32

/-- The condition of a word, CINV applied; `cursor` is the cursor at the start of the word. -/
def Par.holds (h : HeadIn) (cursor f w : Nat) (x : Par) : Bool :=
  let c := wCond w
  let v : Bool :=
    match c with
    | 0x00 => true
    | 0x01 => decide (x.cmp = 1)
    | 0x02 => decide (x.cmp = 2)
    | 0x03 => decide (x.cmp = 3)
    | 0x08 => decide (f = 0)
    | 0x09 => h.short
    | 0x0A => h.short && decide (h.head.length ≤ cursor)
    | 0x0B => decide (x.hdrs.length = 16)
    | 0x0C => h.recirc
    | 0x0D => h.inject
    | 0x0E => h.tc7
    | n => if n < 0x08 then decide (x.scratch (n - 4) = 0) else bit x.flags (8 + n % 8)
  v != bit w 98

/-- Where a word leads (R179, R182). -/
inductive Next
  | go (pc : Nat) (stack : List Nat)
  | stop
  /-- The stack or address check fails. -/
  | bad
  deriving DecidableEq, Repr

/-- The next address; `disp` is the dispatch entry that DISPATCH reads. -/
def Par.next (h : HeadIn) (cursor f w disp : Nat) (x : Par) : Next :=
  let seq := if 0x4000 ≤ x.pc + 1 then Next.bad else .go (x.pc + 1) x.stack
  match wNa w with
  | 0 => seq
  | 1 => if x.holds h cursor f w then .go (wTarget w) x.stack else seq
  | 2 => .go (wTarget w) x.stack
  | 3 => .go (if bit disp 15 then bits disp 13 0 else wTarget w) x.stack
  | 4 => if x.stack.length = 4 then .bad else .go (wTarget w) ((x.pc + 1) :: x.stack)
  | 5 => match x.stack with
    | [] => .bad
    | a :: r => if 0x4000 ≤ a then .bad else .go a r
  | _ => if x.holds h cursor f w then .stop else seq

/-- The word reads head bytes up to this position (R185): one past the last byte it extracts or copies. -/
def readsTo (cursor w : Nat) : Nat :=
  let p := cursor + bits w 97 90
  let a := if bit w 12 then p + wExBytes w else 0
  let b := if bit w 56 && bit w 55 then p + wKeyLen w else 0
  if a < b then b else a

/-- The checks of R185 that come after the budget and before the stack: the flags of the first that fails, or 0. -/
def Par.limit (h : HeadIn) (w : Nat) (x : Par) : Nat :=
  let top := readsTo x.cursor w
  let rec' := bit w 44
  if !h.short && (decide (256 < top) || (rec' && decide (256 ≤ x.cursor))) then fTrunc + fCause
  else if h.short && (decide (h.head.length < top) || (rec' && decide (h.head.length ≤ x.cursor))) then fMal
  else if rec' && decide (x.hdrs.length = 16) then fTrunc
  else 0

/-- One word's effect when no check fails (R179), and where it leads. -/
def Par.word (h : HeadIn) (w disp : Nat) (x : Par) : Next × Par :=
  let c := x.cursor
  let f := extract h c w
  let x1 := (((x.alu f w).keyStep h c f w).hdrStep c w).flagStep w
  (x1.next h c f w disp, { x1 with cursor := satTo 511 (c + x1.advance f w), cycles := x1.cycles + 1 })

/-- A parse stops with flags set; a word refused by a check other than the budget takes a cycle (R188). -/
def Par.stopWith (flags : Nat) (x : Par) : Par := { x with flags := x.flags ||| flags, cycles := x.cycles + 1 }

/-! ## Reading the control store (R207, R208) -/

/-- Detail of a control-store record: bank, address. -/
def csDetail (loc : Nat) : List (Nat × Nat) := [(1, loc / 65536), (14, loc % 16384)]

/-- A Terrier reads a location of its slice's store: `errs` are the errors that memory shows at this read. Whether it
reads good. -/
def State.csRead (n loc : Nat) (errs : List (Nat × EccErr)) (s : State) : Bool × State :=
  let (hit, s1) := s.injected (sliceSrc n) 1 loc
  let sl := s1.slice n
  let bad (inj : Bool) (t : State) : Bool × State :=
    (false, t.onSlice n fun x => { x with csBad := x.csBad ++ [loc * 2 + b2n inj] })
  if sl.csBad.contains (loc * 2) || sl.csBad.contains (loc * 2 + 1) then (false, s1)
  else match (errs.find? fun e => e.1 = loc).map Prod.snd, hit with
    | some .two, _ => bad false s1
    | _, some true => bad true s1
    | some .one, _ => (true, s1.raise (sliceSrc n) 0x13 .ce (packItems (csDetail loc)))
    | none, some false => (true, s1.raiseX (sliceSrc n) 0x13 .ce (packItems (csDetail loc)) true)
    | none, none => (true, s1)

/-- Run a parse from a word on, at most `fuel` words (R185). DESIGN CHOICE: a DISPATCH word whose table entry cannot be
read has no effect but PROG_ERR: its other units do not act. -/
def parseRun (n g : Nat) (errs : List (Nat × EccErr)) (h : HeadIn) (budget : Nat) : Nat → Par → State → Par × State
  | 0, x, s => ({ x with flags := x.flags ||| fBudget }, s)
  | fuel + 1, x, s =>
    if budget ≤ x.cycles then ({ x with flags := x.flags ||| fBudget }, s)
    else
      let (ok, s1) := s.csRead n (g * 65536 + x.pc) errs
      if !ok then (x.stopWith fProg, s1)
      else
        let w := (s1.csBank g).words.get haltWord x.pc
        let lim := x.limit h w
        if lim ≠ 0 then (x.stopWith lim, s1)
        else
          let idx := wDtab w * 256 + extract h x.cursor w % 256
          let (ok2, s2) := if wNa w = 3 then s1.csRead n (g * 65536 + 0x4000 + idx) errs else (true, s1)
          if !ok2 then (x.stopWith fProg, s2)
          else match x.word h w ((s2.csBank g).dtab.get 0 idx) with
            | (.bad, _) => (x.stopWith fProg, s2)
            | (.stop, y) => (y, s2)
            | (.go pc st, y) => parseRun n g errs h budget fuel { y with pc := pc, stack := st } s2

/-- The head of a packet (R174). -/
def Pkt.head (k : Pkt) : HeadIn :=
  { head := (body k.bytes).take 256, short := decide ((body k.bytes).length < 256), recirc := decide (k.pass ≠ 0),
    inject := k.inject, tc7 := k.tc7 }

/-- The whole parse of a packet (R176). -/
def State.parse (k : Pkt) (errs : List (Nat × EccErr)) (s : State) : Par × State :=
  let entry := if k.pass = 0 then k.via else 512
  let (ok, s1) := s.csRead k.slice (k.gen * 65536 + 0x8000 + entry) errs
  if !ok then ({ Par.init 0 with flags := fProg }, s1)
  else parseRun k.slice k.gen errs k.head k.budget 97
    (Par.init (bits ((s1.csBank k.gen).start.get 0 entry) 13 0)) s1

/-! ## Engines (R173, R175, R205, R206) -/

/-- The engine is in service. -/
def SliceSt.serves (x : SliceSt) (e : Nat) : Bool := !x.retired.contains e && !x.spares.contains e

/-- Engines in service. -/
def SliceSt.inService (x : SliceSt) : Nat := ((List.range 128).filter x.serves).length

/-- The engine parses no head. -/
def State.engineFree (s : State) (n e : Nat) : Bool := !(s.core.pkts.any fun k => k.slice = n ∧ k.stage = .engine e)

/-- The engine's second head buffer is empty (R175). -/
def State.bufferFree (s : State) (n e : Nat) : Bool := !(s.core.pkts.any fun k => k.slice = n ∧ k.stage = .loaded e)

/-- The first engine in service that a test accepts, in rotation above the last chosen. -/
def State.nextEngine (s : State) (n : Nat) (f : Nat → Bool) : Option Nat :=
  let x := s.slice n
  (((List.range 128).drop (x.lastPick + 1)) ++ (List.range (x.lastPick + 1))).find? fun e => x.serves e && f e

/-- The engine the next head goes to: the lowest free one in service above the last chosen, wrapping (R175). -/
def State.pickEngine (s : State) (n : Nat) : Option Nat := s.nextEngine n (s.engineFree n)

/-- The engine that loads the next head while it parses another (R175). -/
def State.pickBuffer (s : State) (n : Nat) : Option Nat := s.nextEngine n (s.bufferFree n)

/-- Free head buffers of the engines in service: the heads that a slice takes without using its head queue (R175). -/
def State.freeBuffers (s : State) (n : Nat) : Nat :=
  (((List.range 128).filter (s.slice n).serves).map fun e => b2n (s.engineFree n e) + b2n (s.bufferFree n e)).sum

/-- The spare brought into service next: the lowest not under test, else the one under test (R205). -/
def SliceSt.nextSpare (x : SliceSt) : Option Nat :=
  let under := x.test.map Prod.fst
  match x.spares.filter fun e => some e ≠ under with
  | [] => x.spares.head?
  | e :: r => some (r.foldl (fun a b => if b < a then b else a) e)

/-- With no engine left in service the heads waiting are dropped (R206). -/
def State.emptyHeadQ (n : Nat) (s : State) : State :=
  if (s.slice n).inService ≠ 0 then s
  else (s.core.pkts.filter fun k => k.slice = n ∧ k.stage = .headQ).foldl
    (fun t k => (t.slotLeave n .wastedDrop).dropPkt 1 Draw.zero k) s

/-- A head that an engine holds in its second buffer goes back to the head queue. -/
def State.unload (n e : Nat) (s : State) : State :=
  { s with core.pkts := s.core.pkts.map fun (k : Pkt) => if k.slice = n ∧ k.stage = .loaded e then { k with stage := .headQ } else k }

/-- Retire an engine (R205, R206); an injected failure is not entered in the wear records (R517). -/
def State.retireEngine (n e : Nat) (inj : Bool) (s₀ : State) : State :=
  let s := s₀.unload n e
  let x := s.slice n
  let src := sliceSrc n
  let wasIn := x.serves e
  let x1 := { x with retired := x.retired ++ [e], spares := x.spares.filter (· ≠ e),
                     test := if x.test.map Prod.fst = some e then none else x.test }
  let s1 := s.wearUse inj fun w => { w with terriers := w.terriers.set 0 (128 * n + e) 1 }
  if !wasIn then
    let s2 := (s1.setSlice n x1).raiseX src 0x10 .ce (packItems [(7, e)]) inj
    if x1.spares.length = 2 then s2.follow src 0x11 .ce (packItems [(4, 2)]) inj else s2
  else match x1.nextSpare with
    | some sp =>
      let x2 := { x1 with spares := x1.spares.filter (· ≠ sp),
                          test := if x1.test.map Prod.fst = some sp then none else x1.test }
      let s2 := (s1.setSlice n x2).raiseX src 0x10 .ce (packItems [(7, e)]) inj
      if x2.spares.length = 2 then s2.follow src 0x11 .ce (packItems [(4, 2)]) inj else s2
    | none =>
      ((s1.setSlice n x1).raiseX src 0x12 .uc (packItems [(7, x1.inService)]) inj).emptyHeadQ n

/-! ## Heads (R174, R175, R408) -/

/-- Heads that wait for an engine, in the order they are given out: pre-classed ones first (R408). -/
def State.headOrder (s : State) (n : Nat) : List Pkt :=
  let q := s.core.pkts.filter fun k => k.slice = n ∧ k.stage = .headQ
  q.filter (·.tc7) ++ q.filter fun k => !k.tc7

/-- PARSE_BUDGET of a slice (R188). -/
def State.parseBudget (s : State) (n : Nat) : Nat := bits (s.rd (slReg n 0x100)) 6 0

/-- A head's parse begins in an engine, with the budget of that moment (R188). -/
def State.startParse (k : Pkt) (e : Nat) (s : State) : State :=
  s.setPkt { k with stage := .engine e, budget := s.parseBudget k.slice }

/-- A head that has arrived goes to a free engine (R174, R175). DESIGN CHOICE: while no engine is free, it is loaded into
the second head buffer of the next engine in rotation, where it waits for that engine's parse to end; the head queue holds
the heads beyond those. -/
def execHeadDispatch (slice : Slice) (s : State) : Outcome State Fault Refusal :=
  .next <|
    if !s.bufLive then s
    else match (s.headOrder slice).find? fun k => k.headAt ≤ s.now with
    | none => s
    | some k => match s.pickEngine slice with
      | some e => (s.startParse k e).onSlice slice fun x => { x with lastPick := e }
      | none => match s.pickBuffer slice with
        | some e => (s.setPkt { k with stage := .loaded e }).onSlice slice fun x => { x with lastPick := e }
        | none => s

/-- SL_PARSE_CNT[i] (R209). -/
def State.parseCount (n i : Nat) (s : State) : State := s.count (slReg n (0x140 + 8 * i)) 1

/-- The counts of a parse that has ended (R189, R209, R450). -/
def State.countParse (k : Pkt) (x : Par) (s : State) : State :=
  let n := k.slice
  let tick (c : Bool) (i : Nat) (t : State) : State := if c then t.parseCount n i else t
  let s1 := tick (bit x.flags 0 && !bit x.flags 4) 0 s
  let s2 := tick (bit x.flags 0 && bit x.flags 4) 1 s1
  let s3 := tick (bit x.flags 3) 4 (tick (bit x.flags 2) 3 (tick (bit x.flags 1) 2 s2))
  let s4 := (s3.count (slReg n 0x180) x.cycles).count (slReg n 0x188) 1
  let s5 := s4.pmc0 n 0x0A (some k.via) x.cycles
  if x.flags % 16 = 0 then s5
  else s5.pmc n 0x0B (fun a => decide (a % 16 = 0) || decide ((a % 16) &&& (x.flags % 16) ≠ 0)) (some k.via) false 1

/-- The head in an engine's second buffer is parsed next (R175). -/
def State.promote (n e : Nat) (s : State) : State :=
  match s.core.pkts.find? fun k => k.slice = n ∧ k.stage = .loaded e with
  | some k => s.startParse k e
  | none => s

/-- The parse in engine `e` of a slice ends (R177, R185): a parity error of the engine gives the head to another engine
once, and drops the frame the second time (R204). -/
def execParseStop (slice : Slice) (e : Fin 128) (parity : Bool) (errs : List (Nat × EccErr)) (s : State) :
    Outcome State Fault Refusal :=
  .next <|
    if !s.bufLive then s
    else match s.core.pkts.find? fun k => k.slice = slice.val ∧ k.stage = .engine e.val with
    | none => s
    | some k =>
      let (hit, s0) := s.injected (sliceSrc slice) 0 e
      if parity || hit.isSome then
        let inj := !parity && hit.isSome
        if k.reparses = 0 then
          (((s0.setPkt { k with stage := .headQ, reparses := 1 }).parseCount slice 5).retireEngine slice e inj).pfcUpdate
        else
          ((((s0.setPkt { k with stage := .headQ }).slotLeave slice .wastedDrop).dropPkt 1 Draw.zero k).retireEngine slice e inj).pfcUpdate
      else
        let (x, s1) := s0.parse k errs
        ((s1.setPkt { k with stage := .parsed, key := x.key, hdrs := x.hdrs, flags := x.flags }).countParse k x).promote
          slice e

/-! ## Canary tests (R203, R205) -/

/-- The engine next in rotation that is not retired (R203). -/
def SliceSt.nextTest (x : SliceSt) : Option Nat :=
  (((List.range 128).drop x.canTurn) ++ (List.range x.canTurn)).find? fun e => !x.retired.contains e

/-- A canary test of a slice is due: testing is enabled and not paused, none is under way, and PERIOD_MS has passed since
the last one began (R203). -/
def State.canaryDue (s : State) (n : Nat) : Bool :=
  let x := s.slice n
  let cfg := s.rd (slReg n 0x120)
  s.collieActs && s.served && decide (s.mode ≠ .park) && !x.parked && bit cfg 0 && x.test.isNone
    && (x.canAt.isNone || s.elapsed x.canAt (bits cfg 15 8 * 1000000))

/-- The test of an engine begins; the rotation goes on behind it. -/
def SliceSt.begin (now e : Nat) (x : SliceSt) : SliceSt :=
  { x with test := some (e, now), canAt := some now, canTurn := (e + 1) % 128 }

/-- The Collie brings a spare into service and takes the next engine out for its test (R203). -/
def execCanaryTest (slice : Slice) (s : State) : Outcome State Fault Refusal :=
  .next <|
    let x := s.slice slice
    if !s.canaryDue slice then s
    else match x.nextTest, x.nextSpare with
      | some e, some sp =>
        if !(s.engineFree slice e && s.bufferFree slice e) then s
        else if x.spares.contains e then s.setSlice slice (x.begin s.now e)
        else s.setSlice slice ({ x with spares := x.spares.filter (· ≠ sp) ++ [e] }.begin s.now e)
      | _, _ => s

/-- A canary test ends: the engine becomes a spare, or is retired (R205). -/
def execCanaryTestEnd (slice : Slice) (pass : Bool) (s : State) : Outcome State Fault Refusal :=
  .next <|
    let x := s.slice slice
    match x.test with
    | none => s
    | some (e, _) =>
      let (hit, s1) := s.injected (sliceSrc slice) 0 e
      if pass && hit.isNone then
        s1.setSlice slice { x with test := none, canPass := (x.canPass + 1) % 65536, canLast := e }
      else
        ((s1.setSlice slice { x with canFail := satInc 8 x.canFail, canLast := e }).retireEngine slice e
          (pass && hit.isSome)).pfcUpdate

/-! ## Control-store protection (R207, R208) -/

/-- Locations of one bank: words, dispatch entries and start entries. -/
def csBankSize : Nat := 0x8000 + 513

/-- The locations at which a scrub of two banks of `size` locations each can show anything (R207, R225). Every location of
a bank that is not being loaded is read, bank 0 first; of these reads only the following do more than pass: the first ones,
as many as the source's armed injections have checks left, which an injection without an index meets, and those of the
locations that an injection names or where the memory shows an error. -/
def State.scrubLocs (s : State) (src checker size : Nat) (loading : Nat → Bool) (errs : List Nat) : List Nat :=
  let inj := s.flt.inj.filter fun i => i.source = src ∧ i.checker = checker
  let all := size * (b2n (!loading 0) + b2n (!loading 1))
  let first := (List.range (satTo all (inj.map Inject.left).sum)).map fun i =>
    if loading 0 then 65536 + i else i / size * 65536 + i % size
  let named := (inj.map Inject.index ++ errs).eraseDups.filter fun l =>
    decide (l < 131072) && decide (l % 65536 < size) && !loading (l / 65536)
  first ++ named.filter fun l => !first.contains l

/-- A scrub of a slice's store (R207). -/
def State.csScrub (n : Nat) (errs : List (Nat × EccErr)) (s : State) : State :=
  (s.scrubLocs (sliceSrc n) 1 csBankSize (fun g => (s.csBank g).load.isSome) (errs.map Prod.fst)).foldl
    (fun t l => (t.csRead n l errs).2) s

/-- The active Collie scrubs the store of every slice once per second; `errs` are the errors that the memory shows, by slice
and location (R207). -/
def execCsScrub (errs : List (Slice × Nat × EccErr)) (s : State) : Outcome State Fault Refusal :=
  .next <|
    if s.collieActs then
      (List.range 16).foldl (fun t n => t.csScrub n ((errs.filter fun e => e.1.val = n).map Prod.snd)) s
    else s

/-- The slice a location is repaired from: the next one on whose copy is good (R208). -/
def State.csSource (s : State) (n loc : Nat) : Option Nat :=
  ((List.range 15).map fun i => (n + 1 + i) % 16).find? fun m =>
    !(s.slice m).csBad.contains (loc * 2) && !(s.slice m).csBad.contains (loc * 2 + 1)

/-- An uncorrectable location is rewritten from another slice (R208). -/
def execCsEccRepair (slice : Slice) (loc : Nat) (s : State) : Outcome State Fault Refusal :=
  .next <|
    let x := s.slice slice
    let inj := x.csBad.contains (loc * 2 + 1)
    if s.collieActs && (inj || x.csBad.contains (loc * 2)) then
      match s.csSource slice loc with
      | some m =>
        (s.setSlice slice { x with csBad := x.csBad.filter fun l => l / 2 ≠ loc }).raiseX (sliceSrc slice) 0x14 .uc
          (packItems (csDetail loc ++ [(4, m)])) inj
      | none => s
    else s

end Sys2Proof.Machine
end

