-- ==== Sys2Proof/Machine/Gens.lean ====
section
/-! DEFINITION. Generations: control-store and tree images and their checks (R195 to R201, R217 to R224), the protection
of tree memory (R225), and swaps (R242 to R249). -/
namespace Sys2Proof.Machine
open Host (Outcome)

/-! ## Checks of an image -/

/-- The offset of a check that fails. -/
def fails (ok : Bool) (off : Nat) : Option Nat := if ok then none else some off

/-- The first failure of two, in order. -/
def orElse (a : Option Nat) (b : Unit → Option Nat) : Option Nat :=
  match a with
  | some x => some x
  | none => b ()

/-- The offset of the first byte of a stretch at `o` that is not 0. -/
def nonZero : Nat → List Byte → Option Nat
  | _, [] => none
  | o, x :: r => if x = 0 then nonZero (o + 1) r else some o

/-- The first failure of a check over a list, whose items lie `step` apart from `o` on. -/
def firstFail {α : Type} (check : Nat → α → Option Nat) (step : Nat) : Nat → List α → Option Nat
  | _, [] => none
  | o, x :: r => orElse (check o x) fun _ => firstFail check step (o + step) r

/-- The image as the device reads it: `n` bytes. -/
def imageOf (n : Nat) (image : List Byte) : List Byte := padTo n (image.take n)

/-! ## Control-store images (R195, R198) -/

/-- Offset of the first word of an image (R195). -/
def csWordsAt (cust : Bool) : Nat := if cust then 0x7000 else 0x3000

/-- WORD_COUNT of an image. -/
def csWords (image : List Byte) : Nat := le image 16 4

/-- VERSION of an image. -/
def imgVersion (image : List Byte) : Nat := le image 8 4

/-- The header keeps R195 and R198. -/
def csHeaderOk (cust : Bool) (h : List Byte) : Bool :=
  decide (le h 0 4 = 0x5120C500) && decide (byteAt h 4 = 1) && decide (le h 6 2 = 0) && decide (imgVersion h ≠ 0)
    && decide (le h 13 3 = 0) && decide (1 ≤ csWords h) && decide (csWords h ≤ (if cust then 12288 else 4096))
    && decide (le h 20 4 = 0) && decide (le h 129 31 = 0)
    && (cust || (decide (le h 32 97 = 0) && decide (byteAt h 12 = byteAt h 11)))

/-- The dispatch entries of an image. -/
def csDispatch (cust : Bool) (image : List Byte) : List Nat :=
  (chunks 2 (if cust then 0x3000 else 0x1000) (image.drop 0x1000)).map leNat

/-- The words of an image. -/
def csWordList (cust : Bool) (image : List Byte) : List Nat :=
  (chunks 16 (csWords image) (image.drop (csWordsAt cust))).map leNat

/-- The start entries of a customer image. -/
def csStarts (image : List Byte) : List Nat := (chunks 2 513 (image.drop 0x100)).map leNat

/-- Every check of R198. -/
def csImageOk (cust : Bool) (image : List Byte) : Bool :=
  csHeaderOk cust (image.take 256)
    && (if cust then (csStarts image).all (fun e => decide (e < 2 ^ 14))
          && ((image.take 0x1000).drop 0x502).all (fun x => decide (x = 0))
        else ((image.take 0x1000).drop 0x100).all fun x => decide (x = 0))
    && (csDispatch cust image).all (fun e => !bit e 14)
    && (csWordList cust image).all wordOk
    && (image.drop (csWordsAt cust + 16 * csWords image)).all fun x => decide (x = 0)

/-- The public key of a customer image. -/
def csPubkey (image : List Byte) : List Byte := cut image 32 97

/-- Why a signature check fails (R199): 3 no customer key, 2 the hash differs, 1 the signature; `good` is the verdict on
the signature. DESIGN CHOICE: a hash that differs is answered before a signature that is bad too. A provisioning load that finds a hash provisioned since it started is held to that hash, which never
changes (R200). -/
def State.csAuth (s : State) (l : Load) (good : Bool) : Option Nat :=
  let hash := match s.kennel.keyHash with
    | some k => if !l.cust then none else fails (decide (sha384 (csPubkey l.image) = k)) 2
    | none => if !l.cust || l.provision then none else some 3
  orElse hash fun _ => fails good 1

/-- The bank with an image's region in place (R195, R197). -/
def CsBank.apply (b : CsBank) (cust : Bool) (image : List Byte) : CsBank :=
  let ws := csWordList cust image
  let ds := csDispatch cust image
  if cust then
    { b with words := (b.words.keep fun k _ => decide (k < 0x1000)) ++ SMap.ofList haltWord 0x1000 ws,
             dtab := (b.dtab.keep fun k _ => decide (k < 0x1000)) ++ SMap.ofList 0 0x1000 ds,
             start := SMap.ofList 0 0 (csStarts image), cust := true, verC := imgVersion image, valid := true }
  else
    { b with words := SMap.ofList haltWord 0 ws, dtab := SMap.ofList 0 0 ds, start := [(512, 2)], cust := false,
             verV := imgVersion image, verC := 0, valid := true }

/-- The measurement block of a region's image (R549). -/
def measOf (g : Nat) (cust : Bool) : Nat := (if cust then 4 else 2) + g

/-! ## CS_LOAD -/

/-- The layout of CS_LOAD. -/
def csLayout (_ : Cmd) : List ArgField := [whole 8 8, whole 16 4, named 20 1 1, whole 21 1, named 22 1 1]

/-- The locations of a bank that a load writes in every slice (R197): a vendor load all of them, a customer load its own
words and dispatch entries and every start entry. -/
def csWrites (g : Nat) (cust : Bool) (loc : Nat) : Bool :=
  decide (loc / 65536 = g) && (!cust || decide (loc % 65536 / 0x1000 % 4 ≠ 0) || decide (0x8000 ≤ loc % 65536))

/-- A location that a load rewrites reads good again in every slice (R197, R208). -/
def State.csRewrite (g : Nat) (cust : Bool) (s : State) : State :=
  (List.range 16).foldl (fun t n =>
    t.onSlice n fun x => { x with csBad := x.csBad.filter fun l => !csWrites g cust (l / 2) }) s

/-- CS_LOAD from its fetch to the moment the bank is marked invalid (R196, R197). -/
def State.csLoad (image : List Byte) (c : Cmd) (s : State) : Ran :=
  let g := c.arg 20 1 % 2
  let len := c.arg 16 4
  let img := imageOf len image
  let reg := c.arg 21 1
  let cust := decide (reg = 1)
  let b := s.csBank g
  if s.genBusy g || b.load.isSome then .refuse .genBusy s
  else if c.arg 8 8 % 4096 ≠ 0 ∨ len % 4096 ≠ 0 ∨ 0x37000 < len ∨ 1 < reg ∨ byteAt img 5 ≠ reg
      ∨ len < csWordsAt cust + 16 * csWords img then .refuse .badArg s
  else if cust && (!b.valid || decide (byteAt img 12 ≠ b.verV / 2 ^ 24)) then .refuse .badArg s
  else if bit (c.arg 22 1) 0 && (!cust || decide (s.mode ≠ .configure) || s.kennel.keyHash.isSome) then
    .refuse .badArg s
  else
    let l : Load := { cmd := c.serial, image := img, cust := cust, provision := bit (c.arg 22 1) 0 }
    let b1 := { b with valid := false, load := some l, cust := false, verC := 0, verV := if cust then b.verV else 0 }
    let m1 := s.ref.meas.erase (measOf g true)
    let s1 := (s.csRewrite g cust).setCsBank g b1
    .wait { s1 with ref.meas := if cust then m1 else m1.erase (measOf g false) }

/-- CS_LOAD without PROVISION. -/
def execCsLoad (p : HostPort) (n : Fin 64) (image : List Byte) (s : State) : Outcome State Fault Refusal :=
  .next (s.runCmd p n 0x31 (fun c => !bit (c.arg 22 1) 0) csLayout fun c s => s.csLoad image c)

/-- CS_LOAD with PROVISION (R200). -/
def execCsLoadProvision (p : HostPort) (n : Fin 64) (image : List Byte) (s : State) : Outcome State Fault Refusal :=
  .next (s.runCmd p n 0x31 (fun c => bit (c.arg 22 1) 0) csLayout fun c s => s.csLoad image c)

/-- The bank of generation `g` has been written and its signature judged (R198 to R201). -/
def execCsLoadDone (g : Fin 2) (good : Bool) (s : State) : Outcome State Fault Refusal :=
  .next <|
    let b := s.csBank g
    match b.load with
    | none => s
    | some l =>
      let s1 := s.setCsBank g { b with load := none }
      if !csImageOk l.cust l.image then s1.completeSer l.cmd .badArg 0 0
      else match s.csAuth l good with
        | some cause => s1.completeSer l.cmd .authFail cause 0
        | none =>
          let s2 := s1.setCsBank g ({ b with load := none }.apply l.cust l.image)
          let s3 := { s2 with
            ref.meas := s2.ref.meas.set [] (measOf g l.cust) (sha384 l.image),
            kennel.keyHash := match s2.kennel.keyHash with
              | some k => some k
              | none => if l.provision then some (sha384 (csPubkey l.image)) else none }
          s3.completeSer l.cmd .ok (imgVersion l.image) (csWords l.image)

/-! ## Action words (R213) -/

/-- OP of an action word. -/
def aOp (w : Nat) : Nat := bits w 31 28

/-- Width of the argument of an OP. -/
def aBits : Nat → Nat
  | 2 => 6
  | 3 => 6
  | 4 => 3
  | 5 => 9
  | 6 => 12
  | 7 => 4
  | 8 => 14
  | 9 => 16
  | 10 => 15
  | _ => 0

/-- The word has a used OP and no unnamed bit (R213). -/
def actionOk (w : Nat) : Bool := decide (aOp w ≤ 10) && decide (bits w 27 0 < 2 ^ aBits (aOp w))

/-- The argument of an action word. -/
def aArg (w : Nat) : Nat := w % 2 ^ aBits (aOp w)

/-! ## Tree images (R217, R218, R223) -/

/-- UNIT_COUNT. -/
def treeUnits (image : List Byte) : Nat := le image 12 4

/-- Type of a unit. -/
def uType (u : List Byte) : Nat := byteAt u 0

/-- The two-byte field of a unit at offset `o`. -/
def u16 (u : List Byte) (o : Nat) : Nat := le u o 2

/-- A type that is a node's: CUT, RANGE or LEAF. -/
def isNode (t : Nat) : Bool := decide (1 ≤ t) && decide (t ≤ 3)

/-- A child reference: reserved bit 0, and when VALID below UNIT_COUNT and a node. -/
def refOk (types : List Nat) (r : Nat) : Bool := !bit r 14 && (!bit r 15 || isNode (types.getD (bits r 13 0) 0))

/-- The child references of a unit at `o`: the first `used` name nodes, the others are 0. -/
def childrenFail (types : List Nat) (base o n used : Nat) (u : List Byte) : Option Nat :=
  firstFail (fun (at' : Nat) (i : Nat) =>
    let r := u16 u (o + 2 * i)
    fails (if i < used then refOk types r else decide (r = 0)) at') 2 (base + o) (List.range n)

/-- The thresholds of a RANGE: strictly ascending in the first `n`, 0 beyond. -/
def threshFail (base n : Nat) (u : List Byte) : Option Nat :=
  firstFail (fun (at' : Nat) (i : Nat) =>
    let t := u16 u (4 + 2 * i)
    fails (if i < n then decide (i = 0) || decide (u16 u (2 + 2 * i) < t) else decide (t = 0)) at') 2 (base + 4)
    (List.range 7)

/-- The checks of a RULE: the first `n` keep R218 and R223, the others are 0. -/
def checkFail (base n : Nat) (u : List Byte) : Option Nat :=
  firstFail (fun (at' : Nat) (i : Nat) =>
    let o := 16 + 12 * i
    let pos := u16 u o
    let len := byteAt u (o + 2)
    let val := le u (o + 4) 4
    let mask := le u (o + 8) 4
    if i < n then
      orElse (fails (decide (pos ≤ 591) && (decide (len = 0) || decide (32 < len) || decide (pos + len ≤ 592))) at')
        fun _ => orElse (fails (decide (1 ≤ len) && decide (len ≤ 32)) (at' + 2))
        fun _ => orElse (fails (decide (byteAt u (o + 3) = 0)) (at' + 3))
        fun _ => fails (decide (val &&& mask = val) && decide (val < 2 ^ len)) (at' + 4)
    else nonZero at' (cut u o 12)) 12 (base + 16) (List.range 4)

/-- The first failing field of a unit, which lies at image offset `base`. -/
def unitFail (types : List Nat) (base : Nat) (u : List Byte) : Option Nat :=
  let n := byteAt u 1
  let f := u16 u 2
  match uType u with
  | 1 =>
    orElse (fails (decide (1 ≤ n) && decide (n ≤ 4)) (base + 1)) fun _ =>
    orElse (fails (decide (f + n ≤ 592)) (base + 2)) fun _ =>
    orElse (nonZero (base + 4) (cut u 4 4)) fun _ =>
    orElse (childrenFail types base 8 16 (2 ^ n) u) fun _ => nonZero (base + 40) (u.drop 40)
  | 2 =>
    orElse (fails (decide (1 ≤ n) && decide (n ≤ 7)) (base + 1)) fun _ =>
    orElse (fails (decide (f ≤ 576)) (base + 2)) fun _ =>
    orElse (threshFail base n u) fun _ =>
    orElse (nonZero (base + 18) (cut u 18 2)) fun _ =>
    orElse (childrenFail types base 20 8 (n + 1) u) fun _ => nonZero (base + 36) (u.drop 36)
  | 3 =>
    let bucket := (List.range n).all fun i => decide (types.getD (bits f 13 0 + i) 0 = 4)
    orElse (fails (decide (n ≤ 8)) (base + 1)) fun _ =>
    orElse (fails (if n = 0 then decide (f = 0) else bit f 15 && !bit f 14 && bucket) (base + 2)) fun _ =>
    orElse (fails (actionOk (le u 4 4)) (base + 4)) fun _ =>
    orElse (fails (decide (byteAt u 8 < 2)) (base + 8)) fun _ => nonZero (base + 9) (u.drop 9)
  | 4 =>
    orElse (fails (decide (n ≤ 4)) (base + 1)) fun _ =>
    orElse (fails (actionOk (le u 4 4)) (base + 4)) fun _ =>
    orElse (nonZero (base + 10) (cut u 10 6)) fun _ => checkFail base n u
  | _ => some base

/-- The VALID child references of a node with their offsets in the unit (R218). -/
def uChildren (u : List Byte) : List (Nat × Nat) :=
  let list (o n : Nat) : List (Nat × Nat) :=
    ((List.range n).map fun i => (o + 2 * i, u16 u (o + 2 * i))).filterMap fun e =>
      if bit e.2 15 then some (e.1, bits e.2 13 0) else none
  match uType u with
  | 1 => list 8 16
  | 2 => list 20 8
  | _ => []

/-- Walk depth-first from unit `u`, with `n` more nodes allowed below it: the offset of the child reference that reaches
one node too many, or the units seen with the room they were walked clean with (R223). -/
def pathWalk (units : List (List Byte)) : Nat → Nat → SMap Nat → Option Nat × SMap Nat
  | n, u, seen =>
    if seen.get 0 u ≠ 0 ∧ seen.get 0 u ≤ n + 1 then (none, seen)
    else
      let kids := uChildren (units.getD u [])
      match n with
      | 0 =>
        match kids with
        | [] => (none, seen.put u 1)
        | k :: _ => (some (0x1000 + 64 * u + k.1), seen)
      | m + 1 =>
        let (e, seen1) := kids.foldl (fun acc k =>
          match acc.1 with
          | some x => (some x, acc.2)
          | none => pathWalk units m k.2 acc.2) (none, seen)
        match e with
        | some x => (some x, seen1)
        | none => (none, seen1.put u (n + 1))

/-- The first path of more than 24 nodes from a VALID root, roots taken in order (R223). -/
def pathFail (units : List (List Byte)) (roots : List Nat) : Option Nat :=
  (roots.foldl (fun acc r =>
    match acc.1 with
    | some x => (some x, acc.2)
    | none => if bit r 31 then pathWalk units 23 (bits r 13 0) acc.2 else acc) (none, [])).1

/-- The root table of an image. -/
def treeRoots (image : List Byte) : List Nat := (chunks 4 64 (image.drop 0x40)).map leNat

/-- The units of an image. -/
def treeUnitList (image : List Byte) : List (List Byte) := chunks 64 (treeUnits image) (image.drop 0x1000)

/-- The image offset of the first failing field (R223): fields in the order of the image, then the paths. -/
def treeFail (image : List Byte) : Option Nat :=
  let h := image.take 64
  let units := treeUnitList image
  let types := units.map uType
  let roots := treeRoots image
  orElse (fails (decide (le h 0 4 = 0x51207E00)) 0) fun _ =>
  orElse (fails (decide (byteAt h 4 = 1)) 4) fun _ =>
  orElse (nonZero 5 (cut h 5 3)) fun _ =>
  orElse (fails (decide (imgVersion h ≠ 0)) 8) fun _ =>
  orElse (fails (decide (treeUnits h ≤ 16384)) 12) fun _ =>
  orElse (nonZero 16 (cut h 16 48)) fun _ =>
  orElse (firstFail (fun o r => fails (decide (bits r 30 14 = 0) && (!bit r 31 || isNode (types.getD (bits r 13 0) 0))) o)
    4 0x40 roots) fun _ =>
  orElse (firstFail (fun o (x : Byte) =>
      let v := x.toNat
      fails (!bit v 6 && (!bit v 7 || bit (roots.getD (v % 64) 0) 31)) o) 1 0x140 ((image.drop 0x140).take 2052)) fun _ =>
  orElse (nonZero 0x944 ((image.take 0x1000).drop 0x944)) fun _ =>
  orElse (firstFail (unitFail types) 64 0x1000 units) fun _ =>
  orElse (nonZero (0x1000 + 64 * treeUnits h) (image.drop (0x1000 + 64 * treeUnits h))) fun _ => pathFail units roots

/-- The bank with an image in place (R217, R224). -/
def TreeBank.apply (image : List Byte) : TreeBank :=
  { valid := true, load := none, ver := imgVersion image, roots := SMap.ofList 0 0 (treeRoots image),
    sel := SMap.ofList 0 0 ((chunks 4 513 (image.drop 0x140)).map leNat),
    units := SMap.ofList [] 0 (treeUnitList image) }

/-- The units of a bank that a load rewrites read good again in every slice (R223, R225). -/
def State.treeRewrite (g : Nat) (s : State) : State :=
  (List.range 16).foldl (fun t n =>
    t.onSlice n fun x => { x with treeBad := x.treeBad.filter fun l => l / 131072 ≠ g }) s

/-- TREE_LOAD (R222, R223). -/
def execTreeLoad (p : HostPort) (n : Fin 64) (image : List Byte) (s : State) : Outcome State Fault Refusal :=
  .next <| s.runCmd p n 0x30 anyRow (fun _ => [whole 8 8, whole 16 4, named 20 1 1]) fun c s =>
    let g := c.arg 20 1 % 2
    let len := c.arg 16 4
    let img := imageOf len image
    let b := s.treeBank g
    if s.genBusy g || b.load.isSome then .refuse .genBusy s
    else if c.arg 8 8 % 4096 ≠ 0 ∨ len % 4096 ≠ 0 ∨ 0x101000 < len ∨ len < 0x1000 + 64 * treeUnits img then
      .refuse .badArg s
    else
      let l : Load := { cmd := c.serial, image := img, cust := false, provision := false }
      .wait ((s.treeRewrite g).setTreeBank g { b with valid := false, load := some l, ver := 0 })

/-- The tree bank of generation `g` has been written and checked (R223, R224). -/
def execTreeLoadDone (g : Fin 2) (s : State) : Outcome State Fault Refusal :=
  .next <|
    let b := s.treeBank g
    match b.load with
    | none => s
    | some l =>
      match treeFail l.image with
      | some off => (s.setTreeBank g { b with load := none }).completeSer l.cmd .badArg off 0
      | none =>
        (s.setTreeBank g (TreeBank.apply l.image)).completeSer l.cmd .ok (imgVersion l.image) (treeUnits l.image)

/-! ## Tree memory (R225) -/

/-- Detail of a tree record: generation, unit. -/
def treeDetail (loc : Nat) : List (Nat × Nat) := [(1, loc / 65536), (14, loc % 16384)]

/-- A walk or a scrub reads a tree unit: `loc` is bank × 2^16 + unit, `errs` the errors memory shows. Whether it reads
good (R225). -/
def State.treeRead (n loc : Nat) (errs : List (Nat × EccErr)) (s : State) : Bool × State :=
  let (hit, s1) := s.injected (sliceSrc n) 4 loc
  let sl := s1.slice n
  let bad (inj : Bool) : Bool × State :=
    (false, s1.onSlice n fun x => { x with treeBad := x.treeBad ++ [loc * 2 + b2n inj] })
  if sl.treeBad.contains (loc * 2) || sl.treeBad.contains (loc * 2 + 1) then (false, s1)
  else match (errs.find? fun e => e.1 = loc).map Prod.snd, hit with
    | some .two, _ => bad false
    | _, some true => bad true
    | some .one, _ => (true, s1.raise (sliceSrc n) 0x24 .ce (packItems (treeDetail loc)))
    | none, some false => (true, s1.raiseX (sliceSrc n) 0x24 .ce (packItems (treeDetail loc)) true)
    | none, none => (true, s1)

/-- A scrub of a slice's tree memory: every unit of both banks, a bank that is being loaded apart (R225). -/
def State.treeScrub (n : Nat) (errs : List (Nat × EccErr)) (s : State) : State :=
  (s.scrubLocs (sliceSrc n) 4 16384 (fun g => (s.treeBank g).load.isSome) (errs.map Prod.fst)).foldl
    (fun t l => (t.treeRead n l errs).2) s

/-- The active Collie scrubs the tree memory of every slice once per second; `errs` are the errors that the memory shows, by
slice and location (R225). -/
def execTreeScrub (errs : List (Slice × Nat × EccErr)) (s : State) : Outcome State Fault Refusal :=
  .next <|
    if s.collieActs then
      (List.range 16).foldl (fun t n => t.treeScrub n ((errs.filter fun e => e.1.val = n).map Prod.snd)) s
    else s

/-- An uncorrectable unit is rewritten from the next slice's copy (R225). -/
def execTreeEccRepair (slice : Slice) (loc : Nat) (s : State) : Outcome State Fault Refusal :=
  .next <|
    let x := s.slice slice
    let m := (slice.val + 1) % 16
    let inj := x.treeBad.contains (loc * 2 + 1)
    let srcBad := (s.slice m).treeBad.contains (loc * 2) || (s.slice m).treeBad.contains (loc * 2 + 1)
    if (inj || x.treeBad.contains (loc * 2)) && !srcBad then
      (s.setSlice slice { x with treeBad := x.treeBad.filter fun l => l / 2 ≠ loc }).raiseX (sliceSrc slice) 0x25 .uc
        (packItems (treeDetail loc ++ [(4, m)])) inj
    else s

/-! ## Swaps (R246 to R249) -/

/-- A load into either generation is under way. -/
def State.anyLoad (s : State) : Bool :=
  s.gen.cs0.load.isSome || s.gen.cs1.load.isSome || s.gen.tree0.load.isSome || s.gen.tree1.load.isSome

/-- GEN_SWAP from its fetch to the moment it is pending (R246, R247). -/
def execGenSwap (p : HostPort) (n : Fin 64) (s : State) : Outcome State Fault Refusal :=
  .next <| s.runCmd p n 0x32 anyRow
    (fun c => [named 8 1 1, named 9 1 3] ++ (if bit (c.arg 9 1) 1 then [whole 16 8, whole 24 4, whole 28 2] else [])) fun c s =>
    let g := c.arg 8 1 % 2
    let timed := bit (c.arg 9 1) 1
    let bad := b2n (!(s.csBank g).valid) + 2 * b2n (!(s.treeBank g).valid)
    if s.gen.cur = g ∧ (timed && !c.timeOk 16) = false then .done .ok 0 0 s
    else if s.gen.cur ≠ g ∧ bad ≠ 0 then .done .badArg bad 0 s
    else if timed && (decide (s.devTime + tenSec < c.time 16) || !c.timeOk 16) then .refuse .badArg s
    else if s.gen.swap.isSome || s.anyLoad then .refuse .genBusy s
    else
      let at' := if timed && decide (s.devTime < c.time 16) then some (c.time 16) else none
      .wait { s with gen.swap := some { cmd := c.serial, target := g, at' := at', waitDrain := bit (c.arg 9 1) 0 } }

/-- The swap takes place at device time `ts` (R247, R248). -/
def State.doSwap (w : Swap) (ts : Nat) (s : State) : State :=
  let old := s.gen.cur
  let count := s.infl old
  let s1 := { s with gen := { s.gen with cur := w.target, swap := none, swaps := satInc 16 s.gen.swaps, ts := ts } }
  if w.waitDrain && decide (count ≠ 0) then
    { s1 with gen.drains := s1.gen.drains ++ [{ cmd := w.cmd, old := old, count := count, since := s.now }] }
  else s1.completeSer w.cmd .ok count 0

/-- T_s of a pending swap has come (R247). -/
def execGenSwapInstant (s : State) : Outcome State Fault Refusal :=
  .next <|
    match s.gen.swap with
    | none => s
    | some w => match w.at' with
      | none => s.doSwap w s.devTime
      | some t => if t ≤ s.devTime then s.doSwap w t else s

/-- The old generation of a swap with WAIT_DRAIN has drained (R248). -/
def execGenDrained (s : State) : Outcome State Fault Refusal :=
  .next <|
    match s.gen.drains.find? fun d => s.infl d.old = 0 with
    | none => s
    | some d =>
      let us := (s.now - d.since + 999) / 1000
      ({ s with gen.drains := s.gen.drains.filter fun e => e.cmd ≠ d.cmd }).completeSer d.cmd .ok d.count
        (satTo 0xFFFFFF us)

end Sys2Proof.Machine
end

