-- ==== Sys2Proof/Machine/Tcam.lean ====
section
/-! DEFINITION. The masked TCAM: banks, rows and their repair (R226, R237 to R241), the classification key (R211), ACL
entries and the commands on them (R227 to R236). -/
namespace Sys2Proof.Machine
open Host (Outcome)

/-! ## Banks and rows -/

/-- SL_TCAM_BANK of a bank, its settings. -/
def State.bankCfg (s : State) (n b : Nat) : Nat := s.rd (slReg n (0x200 + 4 * b))

/-- MODE: 0 off, 1 ACL, 2 LPM. -/
def State.bankMode (s : State) (n b : Nat) : Nat := bits (s.bankCfg n b) 1 0

/-- Units of an entry of the bank. -/
def State.bankWidth (s : State) (n b : Nat) : Nat := 2 ^ bits (s.bankCfg n b) 3 2

/-- The ACL lookup of the bank. -/
def State.bankLookup (s : State) (n b : Nat) : Nat := bits (s.bankCfg n b) 6 4

/-- A row's number in its slice. -/
def rowLoc (bank row : Nat) : Nat := bank * 2048 + row

/-- A row as an injection names it (R517). -/
def rowIndex (loc : Nat) : Nat := loc / 2048 * 65536 + loc % 2048

/-- The row is lost (R240). -/
def SliceSt.rowLost (x : SliceSt) (loc : Nat) : Bool := x.lost.contains loc || x.lost.contains (loc + 65536)

/-- Rows lost in the slice (SL_TCAM_STAT). -/
def SliceSt.lostRows (x : SliceSt) : Nat := x.lost.length

/-- Spare rows left in a bank (SPARES_LEFT). -/
def SliceSt.sparesLeft (x : SliceSt) (b : Nat) : Nat := 64 - (x.rowSpare.filter fun e => e.1 / 64 = b).length

/-- The row is served by a spare. -/
def SliceSt.spareServes (x : SliceSt) (loc : Nat) : Bool :=
  x.rowSpare.any fun e => e.1 / 64 = loc / 2048 ∧ e.2 / 2 = loc % 2048

/-- SL_CLASS_CNT[i] (R250). -/
def State.classCount (n i : Nat) (s : State) : State := s.count (slReg n (0x340 + 8 * i)) 1

/-- The first row of the entry of `w` rows that holds a row. -/
def firstRow (w loc : Nat) : Nat := loc - loc % w

/-- A row is lost (R240, R241): the entry that holds it becomes invalid, and the wear records learn of it. -/
def State.loseRow (n loc : Nat) (inj : Bool) (s : State) : State :=
  let x := s.slice n
  let first := firstRow (s.bankWidth n (loc / 2048)) loc
  let s1 := s.setSlice n { x with lost := x.lost ++ [if inj then loc + 65536 else loc],
                                  hard := x.hard.filter fun l => l % 65536 ≠ loc,
                                  acl := x.acl.erase first, lpm := x.lpm.erase first }
  let s2 := if inj then s1
    else if s1.ref.wear.lost.length < 4096 then
      s1.wearUse false fun w => { w with lost := w.lost ++ [loc + n * 65536 + 2 ^ 31] }
    else s1.raise 0xC00 4 .ce (packItems [(1, 0)])
  s2.raiseX (sliceSrc n) 0x23 .uc (packItems [(5, loc / 2048), (11, loc % 2048), (11, first % 2048)]) inj

/-- A row is rewritten from its shadow copy (R237, R239): an uncorrectable shadow loses it, a rewrite that does not read
back or a second repair within 1 s makes it hard-failed. -/
def State.fixRow (n loc : Nat) (inj stuck shadow : Bool) (s : State) : State :=
  let (hit, s0) := s.injected (sliceSrc n) 3 (rowIndex loc)
  let x := s0.slice n
  if x.rowLost loc then s0
  else if shadow || decide (hit = some true) then s0.loseRow n loc (!shadow)
  else
    let again := match x.fixAt.get 0 loc with
      | 0 => false
      | t => decide (s0.now + 1 - t < nsPerSec)
    let mark := if inj then loc + 65536 else loc
    let x1 := { x with fixAt := x.fixAt.put loc (s0.now + 1), fixes := satInc 16 x.fixes,
                       hard := if stuck || again then x.hard ++ [mark] else x.hard }
    (s0.setSlice n x1).raiseX (sliceSrc n) 0x20 .ce (packItems [(5, loc / 2048), (11, loc % 2048)]) inj

/-- The lowest spare row of a bank that serves none. -/
def SliceSt.freeSpare (x : SliceSt) (b : Nat) : Option Nat :=
  (List.range 64).find? fun i => !(x.rowSpare.any fun e => e.1 = 64 * b + i)

/-- A hard-failed row gets a spare, or is lost when its bank has none (R239, R240). -/
def execTcamRowSpare (slice : Slice) (loc : Nat) (s : State) : Outcome State Fault Refusal :=
  .next <|
    let x := s.slice slice
    let b := loc / 2048
    let inj := x.hard.contains (loc + 65536)
    if (inj || x.hard.contains loc) && decide (loc < 65536) then
      match x.freeSpare b with
      | none => s.loseRow slice loc inj
      | some i =>
        let old := x.rowSpare.filter fun e => !(e.1 / 64 = b ∧ e.2 / 2 = loc % 2048)
        let keep := if old.length = x.rowSpare.length then x.rowSpare
          else x.rowSpare.map fun e => if e.1 / 64 = b ∧ e.2 / 2 = loc % 2048 then (e.1, 4096) else e
        let x1 := { x with rowSpare := keep.put (64 * b + i) (loc % 2048 * 2 + b2n inj),
                           hard := x.hard.filter fun l => l % 65536 ≠ loc, fixAt := x.fixAt.erase loc }
        let s1 := (s.setSlice slice x1).wearUse inj fun w =>
          { w with tcam := w.tcam.set 0 ((32 * slice.val + b) * 64 + i) (loc % 2048 + 2 ^ 15) }
        let left := x1.sparesLeft b
        let s2 := s1.raiseX (sliceSrc slice) 0x21 .ce
          (packItems [(5, b), (11, loc % 2048), (7, left)]) inj
        if left = 8 then s2.follow (sliceSrc slice) 0x22 .ce (packItems [(5, b)]) inj else s2
    else s

/-- Injections into the shadow copy that the scrub of a slice meets, each at the row it names or at the next one. -/
def State.scrubInjected (n : Nat) (s : State) : State :=
  let armed := s.flt.inj.filter fun i => i.source = sliceSrc n ∧ i.checker = 3
  let rows := armed.flatMap fun i =>
    if i.index = 0xFFFFFFFF then List.range i.left else [i.index / 65536 * 2048 + i.index % 2048]
  rows.foldl (fun t loc =>
    let (hit, t1) := t.injected (sliceSrc n) 3 (rowIndex loc)
    if hit = some true ∧ (t1.slice n).rowLost loc = false then t1.loseRow n loc true else t1) s

/-- A slice compares its rows with their shadow copies (R238): `rows` are those that differ, each with whether its
rewrite fails to read back and whether its shadow copy is uncorrectable. -/
def execTcamShadowScrub (slice : Slice) (rows : List (Nat × Bool × Bool)) (s : State) : Outcome State Fault Refusal :=
  .next ((rows.foldl (fun t r => t.fixRow slice (r.1 % 65536) false r.2.1 r.2.2) s).scrubInjected slice)

/-- One row that search `i` of a lookup reads is checked, by its own parity or an injected error (R237): the rows found
bad so far, and the state. -/
def rowCheck (n lookup i : Nat) (errs : List RowErr) (acc : List Nat × State) (r : Nat) : List Nat × State :=
  let x := acc.2.injected (sliceSrc n) 2 (rowIndex r)
  match errs.find? fun e => e.lookup = lookup ∧ e.search = i ∧ e.row = r with
  | some e => (acc.1 ++ [r], x.2.fixRow n r false e.stuck e.shadow)
  | none => if x.1.isSome then (acc.1 ++ [r], x.2.fixRow n r true false false) else (acc.1, x.2)

/-- Searches of one lookup (R237): a row of a hit that fails its parity is excluded and repaired and the search is
repeated, at most four searches in all. The excluded rows, or none when the packet is to be dropped. -/
def State.parityLoop (n lookup : Nat) (hits : List Nat → List (Nat × Nat)) (errs : List RowErr) :
    Nat → Nat → List Nat → State → Option (List Nat) × State
  | 0, _, _, s => (none, s)
  | fuel + 1, i, excl, s =>
    let rows := (hits excl).flatMap fun h => (List.range h.2).map (h.1 + ·)
    let x := rows.foldl (rowCheck n lookup i errs) ([], s)
    if x.1.isEmpty then (some excl, x.2)
    else if fuel = 0 then (none, x.2.classCount n 1)
    else (x.2.classCount n 0).parityLoop n lookup hits errs fuel (i + 1) (excl ++ x.1)

/-! ## The classification key (R211) -/

/-- The metadata unit as an 80-bit number. -/
def metaUnit (port flags cls : Nat) (tc7 recirc inject : Bool) (gen : Nat) : Nat :=
  port % 512 * 2 ^ 71 + flags % 65536 * 2 ^ 55 + cls % 65536 * 2 ^ 39 + b2n tc7 * 2 ^ 38 + b2n recirc * 2 ^ 37
    + b2n inject * 2 ^ 36 + gen % 2 * 2 ^ 35

/-- A key vector and a metadata unit as one number of 592 bits, position 0 the most significant. -/
def keyNat (key : List Byte) (unit : Nat) : Nat := beNat (cut key 0 64) * 2 ^ 80 + unit

/-- The field of `len` bits at position `pos` of a key (R211). -/
def keyField (k pos len : Nat) : Nat := (k >>> (592 - pos - len)) % 2 ^ len

/-- The key of a packet with a CLASS_ID. -/
def Pkt.keyNat (k : Pkt) (cls : Nat) : Nat :=
  Machine.keyNat k.key (metaUnit k.via k.flags cls k.tc7 (decide (k.pass ≠ 0)) k.inject k.gen)

/-! ## ACL lookups (R227, R228) -/

/-- The window that unit `u` of a bank compares with (R227). -/
def State.window (s : State) (n b key u : Nat) : Nat :=
  let v := bits (s.rd (slReg n (0x280 + 4 * b))) (8 * u + 6) (8 * u)
  if bit v 6 then key % 2 ^ 80 else keyField key (8 * (v % 64)) 80

/-- The windows of the bank's units, unit 0 the most significant. -/
def State.windows (s : State) (n b key : Nat) : Nat :=
  (List.range (s.bankWidth n b)).foldl (fun a u => a * 2 ^ 80 + s.window n b key u) 0

/-- An entry's rows include an excluded or a lost one. -/
def SliceSt.rowsOut (x : SliceSt) (excl : List Nat) (loc w : Nat) : Bool :=
  (List.range w).any fun i => excl.contains (loc + i) || x.rowLost (loc + i)

/-- The entries of a lookup that hit a key for a generation, in order of bank and row, excluded rows apart. -/
def State.aclHits (s : State) (n lookup gen key : Nat) (excl : List Nat) : List (Nat × AclEnt) :=
  (s.slice n).acl.filter fun e =>
    let b := e.1 / 2048
    decide (s.bankMode n b = 1) && decide (s.bankLookup n b = lookup) && bit e.2.genmask gen
      && decide (s.windows n b key &&& e.2.care = e.2.value) && !(s.slice n).rowsOut excl e.1 e.2.width

/-- The winning entry: the highest priority, then the lowest bank and row (R228). -/
def aclBest : List (Nat × AclEnt) → Option (Nat × AclEnt)
  | [] => none
  | e :: r => match aclBest r with
    | none => some e
    | some f => if e.2.prio < f.2.prio then some f else some e

/-- MATCH_ID of an ACL entry (R215). -/
def aclMatch (loc : Nat) : Nat := 2 ^ 28 + loc / 2048 * 2 ^ 16 + loc % 2048

/-! ## ACL commands (R229 to R236) -/

/-- An entry of a slice. -/
def State.aclAt (s : State) (n loc : Nat) : Option AclEnt :=
  ((s.slice n).acl.find? fun e => e.1 = loc).map Prod.snd

/-- Write or clear an entry of a slice. -/
def State.setAcl (n loc : Nat) (e : Option AclEnt) (s : State) : State :=
  s.onSlice n fun x => { x with acl := match e with | some a => x.acl.put loc a | none => x.acl.erase loc }

/-- The generations to which an entry is visible. -/
def visible : Option AclEnt → Nat
  | some e => e.genmask % 4
  | none => 0

/-- The generations whose view changes when an entry is replaced (R232): it appears, disappears or changes in content. -/
def viewChange (old new : Option AclEnt) : Nat :=
  let same := match old, new with
    | some a, some b => decide ({ a with genmask := 0 } = { b with genmask := 0 })
    | _, _ => true
  if same then (visible old) ^^^ (visible new) else (visible old) ||| (visible new)

/-- The generation checks of R232 and R244 for a command that changes the views of `g` generations: refused or not. -/
def State.viewBusy (s : State) (g : Nat) (live : Bool) : Bool :=
  let cur := s.gen.cur
  let quiet := (decide (s.mode = .configure) || decide (s.mode = .park)) && decide (s.infl cur = 0)
    && s.gen.swap.isNone
  (bit g cur && !(live && !bit g (1 - cur)) && !quiet) || (bit g (1 - cur) && (decide (s.infl (1 - cur) ≠ 0) || s.gen.swap.isSome))

/-- The layout of ACL_WRITE. -/
def aclLayout (c : Cmd) : List ArgField :=
  let opts := c.arg 11 1
  let move := bit opts 1
  let maskOnly := bit opts 2
  [whole 8 2, whole 10 1, named 11 1 7, whole 12 2] ++ (if move then [whole 14 1, whole 16 2] else [])
    ++ (if move || maskOnly then [] else [whole 18 2, whole 24 4, whole 32 8])
    ++ (if move && !maskOnly then [] else [named 20 1 3])

/-- The checks that all three forms of ACL_WRITE and ACL_INVALIDATE share (R233): the mask, the bank and the row. -/
def State.aclBad (s : State) (c : Cmd) : Bool :=
  let b := c.arg 10 1
  let row := c.arg 12 2
  let ns := maskSlices (c.arg 8 2)
  ns.isEmpty || decide (31 < b) || decide (2047 < row)
    || ns.any fun n => decide (s.bankMode n b ≠ 1) || decide (row % s.bankWidth n b ≠ 0)

/-- Apply the entries of a command in every named slice after the checks of R232: `new n` is what slice `n` holds at
`loc` afterwards. -/
def State.aclApply (ns : List Nat) (loc : Nat) (new : Nat → Option AclEnt) (live : Bool) (s : State) : Ran :=
  let g := ns.foldl (fun a n => a ||| viewChange (s.aclAt n loc) (new n)) 0
  if s.viewBusy g live then .refuse .genBusy s
  else .done .ok 0 0 (ns.foldl (fun t n => t.setAcl n loc (new n)) s)

/-- Some row of the target entry is lost in a named slice. -/
def State.aclLost (s : State) (ns : List Nat) (b loc : Nat) : Bool :=
  ns.any fun n => (s.slice n).rowsOut [] loc (s.bankWidth n b)

/-- ACL_WRITE of a whole entry (R229, R233); `data` is the block at DATA_ADDR. -/
def execAclWrite (p : HostPort) (n : Fin 64) (data : List Byte) (s : State) : Outcome State Fault Refusal :=
  .next <| s.runCmd p n 0x28 (fun c => !bit (c.arg 11 1) 1 && !bit (c.arg 11 1) 2) aclLayout fun c s =>
    let b := c.arg 10 1
    let loc := rowLoc b (c.arg 12 2)
    let ns := maskSlices (c.arg 8 2)
    let entry (m : Nat) : AclEnt :=
      let w := s.bankWidth m b
      { width := w, prio := c.arg 18 2, genmask := c.arg 20 1, action := c.arg 24 4, value := be data 0 (10 * w),
        care := be data (10 * w) (10 * w) }
    if s.aclBad c || decide (c.arg 20 1 = 0) || !actionOk (c.arg 24 4) || decide (c.arg 32 8 % 64 ≠ 0)
        || ns.any (fun m => decide ((entry m).value &&& (entry m).care ≠ (entry m).value)) then .refuse .badArg s
    else if s.aclLost ns b loc then .refuse .noRoom s
    else s.aclApply ns loc (fun m => some (entry m)) (bit (c.arg 11 1) 0)

/-- ACL_WRITE with MOVE (R230, R233). MOVE with MASK_ONLY is refused here. -/
def execAclWriteMove (p : HostPort) (n : Fin 64) (s : State) : Outcome State Fault Refusal :=
  .next <| s.runCmd p n 0x28 (fun c => bit (c.arg 11 1) 1) aclLayout fun c s =>
    let b := c.arg 10 1
    let f := c.arg 14 1
    let ns := maskSlices (c.arg 8 2)
    let loc := rowLoc b (c.arg 12 2)
    let src := rowLoc f (c.arg 16 2)
    let ws := ns.flatMap fun m => [s.bankWidth m b, s.bankWidth m f]
    if bit (c.arg 11 1) 2 || s.aclBad c || decide (31 < f) || decide (2047 < c.arg 16 2)
        || ws.any (fun w => decide (w ≠ ws.headD 1)) then
      .refuse .badArg s
    else if ns.any fun m => (s.aclAt m src).isNone then .refuse .notFound s
    else if ns.any fun m => (s.aclAt m loc).isSome then .refuse .exists' s
    else if s.aclLost ns b loc then .refuse .noRoom s
    else
      .done .ok 0 0 (ns.foldl (fun t m => ((t.setAcl m loc (s.aclAt m src)).setAcl m src none)) s)

/-- ACL_WRITE with MASK_ONLY (R231, R233). -/
def execAclWriteMaskOnly (p : HostPort) (n : Fin 64) (s : State) : Outcome State Fault Refusal :=
  .next <| s.runCmd p n 0x28 (fun c => bit (c.arg 11 1) 2 && !bit (c.arg 11 1) 1) aclLayout fun c s =>
    let loc := rowLoc (c.arg 10 1) (c.arg 12 2)
    let ns := maskSlices (c.arg 8 2)
    if s.aclBad c || decide (c.arg 20 1 = 0) then .refuse .badArg s
    else if ns.any fun m => (s.aclAt m loc).isNone then .refuse .notFound s
    else if s.aclLost ns (c.arg 10 1) loc then .refuse .noRoom s
    else s.aclApply ns loc (fun m => (s.aclAt m loc).map fun e => { e with genmask := c.arg 20 1 })
      (bit (c.arg 11 1) 0)

/-- ACL_INVALIDATE (R234). -/
def execAclInvalidate (p : HostPort) (n : Fin 64) (s : State) : Outcome State Fault Refusal :=
  .next <| s.runCmd p n 0x29 anyRow (fun _ => [whole 8 2, whole 10 1, named 11 1 1, whole 12 2]) fun c s =>
    let loc := rowLoc (c.arg 10 1) (c.arg 12 2)
    let ns := maskSlices (c.arg 8 2)
    if s.aclBad c then .refuse .badArg s
    else if ns.any fun m => (s.aclAt m loc).isNone then .refuse .notFound s
    else s.aclApply ns loc (fun _ => none) (bit (c.arg 11 1) 0)

/-- The layout of ACL_READ. -/
def aclReadLayout (c : Cmd) : List ArgField :=
  [whole 8 1, whole 12 1, whole 16 8] ++
    (if c.arg 12 1 = 1 then [whole 13 1, named 14 1 1] else [whole 9 1, whole 10 2])

/-- The flags of an entry read: VALID, SPARE, LOST (R235). -/
def State.aclFlags (s : State) (n loc w : Nat) (valid : Bool) : Nat :=
  let x := s.slice n
  b2n valid + 2 * b2n ((List.range w).any fun i => x.spareServes (loc + i))
    + 4 * b2n ((List.range w).any fun i => x.rowLost (loc + i))

/-- The 96-byte block of an entry read (R235). -/
def aclBlock (e : Option AclEnt) (flags : Nat) : List Byte :=
  match e with
  | some a =>
    padTo 96 (toLE 2 a.prio ++ [BitVec.ofNat 8 a.genmask, BitVec.ofNat 8 flags] ++ toLE 4 a.action
      ++ [BitVec.ofNat 8 a.width] ++ toLE 7 0 ++ toBE (10 * a.width) a.value ++ toBE (10 * a.width) a.care)
  | none => padTo 96 (toLE 3 0 ++ [BitVec.ofNat 8 flags])

/-- ACL_READ of an entry (R235). A MODE that is not used is refused here. -/
def execAclRead (p : HostPort) (n : Fin 64) (s : State) : Outcome State Fault Refusal :=
  .next <| s.runCmd p n 0x2A (fun c => decide (c.arg 12 1 ≠ 1)) aclReadLayout fun c s =>
    let sl := c.arg 8 1
    let b := c.arg 9 1
    let row := c.arg 10 2
    let w := s.bankWidth sl b
    if c.arg 12 1 ≠ 0 ∨ 15 < sl ∨ 31 < b ∨ 2047 < row ∨ row % w ≠ 0 ∨ c.arg 16 8 % 64 ≠ 0 then .refuse .badArg s
    else
      let loc := rowLoc b row
      let e := if s.bankMode sl b = 1 then s.aclAt sl loc else none
      let flags := s.aclFlags sl loc w e.isSome
      let r0 := match e with
        | some a => a.prio + a.genmask * 2 ^ 16 + flags * 2 ^ 18
        | none => flags * 2 ^ 18
      .done .ok r0 0 (s.hostData c (c.arg 16 8) (aclBlock e flags))

/-- ACL_READ as a probe (R236); `key` is the block at DATA_ADDR. -/
def execAclProbe (p : HostPort) (n : Fin 64) (key : List Byte) (s : State) : Outcome State Fault Refusal :=
  .next <| s.runCmd p n 0x2A (fun c => decide (c.arg 12 1 = 1)) aclReadLayout fun c s =>
    let sl := c.arg 8 1
    let lookup := c.arg 13 1
    if 15 < sl ∨ 7 < lookup ∨ c.arg 16 8 % 64 ≠ 0 then .refuse .badArg s
    else
      let hits := s.aclHits sl lookup (c.arg 14 1) (keyNat key (be key 64 10)) []
      let r0 := match aclBest hits with
        | some e => aclMatch e.1
        | none => 0xFFFFFFFF
      .done .ok r0 hits.length s

end Sys2Proof.Machine
end

