-- ==== Sys2Proof/Machine/Endpoint.lean ====
section
/-! DEFINITION. The endpoint table: profiles and keys, hashing, insertion with relocation, protection, and the rolling
rehash (R254 to R277). -/
namespace Sys2Proof.Machine
open Host (Outcome)

/-! ## Forwarding results (R254) -/

/-- KIND of a result. -/
def resKind (r : Nat) : Nat := bits r 35 33

/-- The argument keeps R254 for a KIND. -/
def argOk (kind arg : Nat) : Bool :=
  match kind with
  | 0 => true
  | 1 => decide (arg < 2 ^ 12)
  | 2 => decide (arg < 2 ^ 16)
  | 3 => decide (arg = 0)
  | 4 => decide (arg < 2 ^ 6)
  | _ => false

/-- The result keeps R254. -/
def resultOk (r : Nat) : Bool := decide (r < 2 ^ 36) && decide (bits r 28 25 = 0) && argOk (resKind r) (bits r 24 0)

/-! ## Profiles (R256, R257, R298) -/

/-- TBL_EP_PROF_LO of a profile. -/
def profLo (t : Nat) : Nat := 0xB0180 + 4 * t
/-- TBL_EP_PROF_HI of a profile. -/
def profHi (t : Nat) : Nat := 0xB01C0 + 4 * t

/-- The key length of a profile. -/
def profLen (lo hi : Nat) : Nat := 2 * b2n (bit hi 11) + bits lo 10 6 + bits lo 26 22 + bits hi 10 6

/-- The rules a valid profile keeps (R298). -/
def profOk (lo hi : Nat) : Bool :=
  let r (off len : Nat) : Bool := decide (len ≤ 16) && decide (off + len ≤ 64)
  r (bits lo 5 0) (bits lo 10 6) && r (bits lo 21 16) (bits lo 26 22) && r (bits hi 5 0) (bits hi 10 6)
    && decide (1 ≤ profLen lo hi) && decide (profLen lo hi ≤ 25) && (!bit hi 12 || decide (2 ≤ profLen lo hi))

/-- A profile that serves endpoint keys: VALID = 1 and DIRECT = 0. -/
def State.profServes (s : State) (t : Nat) : Bool := bit (s.rd (profHi t)) 13 && !bit (s.rd (profHi t)) 12

/-- A write of TBL_EP_PROF_LO or TBL_EP_PROF_HI (R298, R563). -/
def execTblEpProfWrite (p : HostPort) (high : Bool) (t : Fin 16) (value : Word) (s : State) :
    Outcome State Fault Refusal :=
  .next <|
    if s.takesRwc p then
      let v := value.toNat
      if high then
        let hi := v &&& 0x3FFF
        if bit hi 13 && !profOk (s.rd (profLo t)) hi then s else s.wr (profHi t) hi
      else
        let lo := v &&& 0x07FF07FF
        if bit (s.rd (profHi t)) 13 && !profOk lo (s.rd (profHi t)) then s else s.wr (profLo t) lo
    else s

/-- The key a profile builds of a key vector and a CLASS_ID, not padded (R256). -/
def State.profKey (s : State) (t cls : Nat) (key : List Byte) : List Byte :=
  let lo := s.rd (profLo t)
  let hi := s.rd (profHi t)
  (if bit hi 11 then toBE 2 cls else []) ++ cut key (bits lo 5 0) (bits lo 10 6)
    ++ cut key (bits lo 21 16) (bits lo 26 22) ++ cut key (bits hi 5 0) (bits hi 10 6)

/-- An entry for a key of a profile, padded (R256). -/
def epEntry (t : Nat) (key : List Byte) (result : Nat) : EpEnt :=
  { ktype := t, double := decide (10 < key.length), key := padTo (if 10 < key.length then 25 else 10) key,
    result := result }

/-! ## Hashing (R259) -/

/-- H0 of an entry's key. -/
def EpEnt.h0 (e : EpEnt) : Nat := crcFin (crcRun polyC (2 ^ 32 - 1) (BitVec.ofNat 8 e.ktype :: e.key))

/-- H1 of an entry's key. -/
def EpEnt.h1 (e : EpEnt) : Nat := crcFin (crcRun polyE (2 ^ 32 - 1) (BitVec.ofNat 8 e.ktype :: e.key))

/-- The logical segment of a key. -/
def EpEnt.seg (e : EpEnt) : Nat := e.h0 / 2 ^ 28

/-- The multiply stage. -/
def mixBucket (h seed mul : Nat) : Nat := ((h ^^^ seed) * mul % 2 ^ 32) / 2 ^ 14

/-- A physical segment with the seeds its buckets are found by. -/
structure Space where
  phys : Nat
  seed0 : Nat
  seed1 : Nat
  deriving DecidableEq, Repr

/-- The physical segment that serves a logical one. -/
def State.segPhys (s : State) (seg : Nat) : Nat :=
  match s.tab.segmap.get 0 seg with
  | 0 => seg
  | p => p - 1

/-- A logical segment's buckets outside a migration. -/
def State.space (s : State) (seg : Nat) : Space :=
  { phys := s.segPhys seg, seed0 := s.rd (0xB0080 + 8 * seg), seed1 := s.rd (0xB0084 + 8 * seg) }

/-- The shadow of a migration. -/
def Mig.space (m : Mig) : Space := { phys := m.shadow, seed0 := m.seed0, seed1 := m.seed1 }

/-- The shadow of a logical segment, when it migrates. -/
def State.shadow (s : State) (seg : Nat) : Option Space :=
  match s.tab.mig with
  | some m => if m.seg = seg then some m.space else none
  | none => none

/-- Where a new key of a segment goes: the shadow while it migrates (R273). -/
def State.target (s : State) (seg : Nat) : Space := (s.shadow seg).getD (s.space seg)

/-- The first slots of an entry's buckets in a space: one when both hashes give one bucket. -/
def EpEnt.homes (e : EpEnt) (sp : Space) : List Nat :=
  let b0 := sp.phys * 2 ^ 20 + mixBucket e.h0 sp.seed0 0x9E3779B1 * 4
  let b1 := sp.phys * 2 ^ 20 + mixBucket e.h1 sp.seed1 0x85EBCA77 * 4
  if b0 = b1 then [b0] else [b0, b1]

/-! ## Slots. A location is a slot's number, or 2^31 and a stash index. -/

/-- The bit that tells a stash location. -/
def inStash : Nat := 2 ^ 31

/-- The location word (R267). -/
def locWord (l : Nat) : Nat :=
  if inStash ≤ l then l else l / 2 ^ 20 * 2 ^ 24 + l / 4 % 2 ^ 18 * 16 + l % 4

/-- The location a word names. -/
def wordLoc (w : Nat) : Nat :=
  if bit w 31 then inStash + w % 1024 else bits w 28 24 * 2 ^ 20 + bits w 21 4 * 4 + w % 4

/-- A location word that names a location (R267). -/
def locOk (w : Nat) : Bool :=
  if bit w 31 then decide (bits w 30 10 = 0)
  else decide (bits w 30 29 = 0) && decide (bits w 28 24 ≤ 16) && decide (bits w 23 22 = 0) && decide (bits w 3 2 = 0)

/-- The entry at a slot or stash index itself. -/
def State.epAt (s : State) (l : Nat) : Option EpEnt :=
  if inStash ≤ l then (s.tab.stash.find? fun e => e.1 = l - inStash).map Prod.snd
  else (s.tab.ep.find? fun e => e.1 = l).map Prod.snd

/-- The entry that covers a slot, with its head: a tail belongs to the double entry before it (R258). -/
def State.epCover (s : State) (l : Nat) : Option (Nat × EpEnt) :=
  match s.epAt l with
  | some e => some (l, e)
  | none =>
    if l % 2 = 1 ∧ l < inStash then
      match s.epAt (l - 1) with
      | some e => if e.double then some (l - 1, e) else none
      | none => none
    else none

/-- The slot is free. -/
def State.epFree (s : State) (l : Nat) : Bool := (s.epCover l).isNone

/-- Put an entry at a location. -/
def State.epPut (l : Nat) (e : EpEnt) (s : State) : State :=
  if inStash ≤ l then { s with tab.stash := s.tab.stash.put (l - inStash) e } else { s with tab.ep := s.tab.ep.put l e }

/-- Clear a location. -/
def State.epClear (l : Nat) (s : State) : State :=
  if inStash ≤ l then { s with tab.stash := s.tab.stash.erase (l - inStash) } else { s with tab.ep := s.tab.ep.erase l }

/-- Two entries have one key. -/
def EpEnt.same (a b : EpEnt) : Bool := decide (a.ktype = b.ktype) && decide (a.key = b.key)

/-- The slots a key's lookup reads in the buckets: of its segment and of the shadow (R260). -/
def State.epReads (s : State) (e : EpEnt) : List Nat :=
  let hs := e.homes (s.space e.seg) ++ (match s.shadow e.seg with | some sp => e.homes sp | none => [])
  hs.flatMap fun b => [b, b + 1, b + 2, b + 3]

/-- Where a key is held. -/
def State.epFind (s : State) (e : EpEnt) : Option Nat :=
  ((s.epReads e).find? fun l => (s.epAt l).any fun x => x.same e).or
    ((s.tab.stash.find? fun x => x.2.same e).map fun x => inStash + x.1)

/-- Slots in use of a logical segment, its shadow included (TBL_EP_SEGLOAD). -/
def State.segUsed (s : State) (seg : Nat) : Nat :=
  let own := fun p => decide (p = s.segPhys seg) || (match s.shadow seg with | some sp => decide (p = sp.phys) | none => false)
  (s.tab.ep.map fun e => if own (e.1 / 2 ^ 20) then (if e.2.double then 2 else 1) else 0).sum

/-- TBL_EP_CNT[i] (R298). -/
def State.epCount (i : Nat) (s : State) : State := s.count (0xB0200 + 8 * i) 1

/-- Post a REHASH event of a logical segment (R271). -/
def State.rehashEvt (code seg : Nat) (s : State) : State :=
  s.post 9 code seg 0 (toLE 4 (s.segUsed seg) ++ toLE 2 s.tab.stash.length ++ toLE 2 0)

/-- Place an entry of a segment, with the events that its load and the stash raise (R262, R271). -/
def State.epStore (l : Nat) (e : EpEnt) (s : State) : State :=
  let seg := e.seg
  let warn := bits (s.rd 0xB0000) 6 0 * 2 ^ 20
  let s1 := s.epPut l e
  if inStash ≤ l then
    let s2 := s1.rehashEvt 1 seg
    if s2.tab.stash.length = bits (s.rd 0xB0000) 17 8 then s2.rehashEvt 4 seg else s2
  else if s.segUsed seg * 100 < warn ∧ warn ≤ s1.segUsed seg * 100 then s1.rehashEvt 3 seg
  else s1

/-! ## Protection (R269 to R271) -/

/-- The bank of a slot. -/
def epBank (l : Nat) : Nat := 16 * (l / 2 ^ 20) + l / 4 % 16

/-- The logical segment a physical one serves or shadows. -/
def State.segOf (s : State) (p : Nat) : Option Nat :=
  match (List.range 16).find? fun g => s.segPhys g = p with
  | some g => some g
  | none => match s.tab.mig with
    | some m => if m.shadow = p then some m.seg else none
    | none => none

/-- The bank is marked failed. -/
def TablesSt.bankFailed (t : TablesSt) (b : Nat) : Bool := t.failed.contains b || t.failed.contains (b + 512)

/-- A bank of the physical segment is marked failed. -/
def TablesSt.isFailed (t : TablesSt) (p : Nat) : Bool := t.failed.any fun b => decide (b % 512 / 16 = p)

/-- One more uncorrectable error in the bank of a slot: the fourth within 1 s fails it (R271). -/
def State.bankError (l : Nat) (inj : Bool) (s : State) : State :=
  let b := epBank l
  let p := l / 2 ^ 20
  let ts := ((s.tab.bankErr.get [] b).filter fun t => s.now - t < nsPerSec) ++ [s.now]
  let s1 := { s with tab.bankErr := s.tab.bankErr.set [] b ts }
  if ts.length < 4 ∨ s1.tab.bankFailed b = true then s1
  else
    let s2 := ({ s1 with tab.failed := s1.tab.failed ++ [b + 512 * b2n inj],
                         tab.bankErr := s1.tab.bankErr.erase b }).follow 0x900 3 .uc (packItems [(9, b)]) inj
    match s2.segOf p with
    | some g => s2.rehashEvt 5 g
    | none => s2

/-- An error at a slot or a stash entry: corrected, or the entry that covers it is cleared (R269, R270). -/
def State.epError (l : Nat) (e : EccErr) (inj : Bool) (s : State) : State :=
  match e with
  | .one => (s.epCount 3).raiseX 0x900 1 .ce (packItems [(32, locWord l)]) inj
  | .two =>
    let s1 := (s.epCount 4).raiseX 0x900 2 .uc (packItems [(32, locWord l)]) inj
    let s2 := match s1.epCover l with
      | some (h, _) => s1.epClear h
      | none => s1
    if inStash ≤ l then s2 else s2.bankError l inj

/-- The error that an injection shows. -/
def hitErr (double : Bool) : EccErr := if double then .two else .one

/-- An endpoint slot shows an error, or none. -/
def State.epErr (l : Nat) (e : Option EccErr) (inj : Bool) (s : State) : State :=
  match e with
  | some x => s.epError l x inj
  | none => s

/-- Read slots: `errs` are the errors that memory shows, by location word. -/
def State.epCheck (ls : List Nat) (errs : List (Nat × EccErr)) (s : State) : State :=
  ls.foldl (fun t l =>
    let x := t.injected 0x900 0 (locWord l)
    (x.2.epErr l ((errs.find? fun e => e.1 = locWord l).map Prod.snd) false).epErr l (x.1.map hitErr) true) s

/-- The slots and stash entries that a search for a key reads. -/
def State.epSearched (s : State) (e : EpEnt) : List Nat :=
  s.epReads e ++ s.tab.stash.map fun x => inStash + x.1

/-- The table engine scrubs the table and the stash (R269): the errors found, by location word. -/
def execEpScrub (errs : List (Nat × EccErr)) (s : State) : Outcome State Fault Refusal :=
  .next <|
    let armed := (s.flt.inj.filter fun i => i.source = 0x900 ∧ i.checker = 0).flatMap fun i =>
      if i.index = 0xFFFFFFFF then List.range i.left else [wordLoc i.index]
    let s1 := errs.foldl (fun t e => if locOk e.1 then t.epError (wordLoc e.1) e.2 false else t) s
    s1.epCheck armed []

/-- What a lookup that ends at a location, or at none, gives and counts (R260). -/
def State.epHit (hit : Option Nat) (s1 : State) : Option (Nat × EpEnt) × State :=
  match hit with
  | none => (none, s1)
  | some l =>
    let s2 := s1.epCount 1
    ((s2.epAt l).map fun x => (l, x), if inStash ≤ l then s2.epCount 2 else s2)

/-- A packet's lookup of a key (R260): the location and the entry it hits. -/
def State.epLookup (e : EpEnt) (errs : List (Nat × EccErr)) (s : State) : Option (Nat × EpEnt) × State :=
  let s1 := (s.epCheck (s.epSearched e) errs).epCount 0
  s1.epHit (s1.epFind e)

/-! ## Placing a key (R262, R263) -/

/-- The first free slot, or free aligned pair, of a bucket. -/
def State.roomIn (s : State) (double : Bool) (b : Nat) : Option Nat :=
  if double then
    if s.epFree b && s.epFree (b + 1) then some b
    else if s.epFree (b + 2) && s.epFree (b + 3) then some (b + 2) else none
  else [b, b + 1, b + 2, b + 3].find? fun l => s.epFree l

/-- Step 1 of R262. -/
def State.roomFor (s : State) (e : EpEnt) (sp : Space) : Option Nat := (e.homes sp).findSome? fun b => s.roomIn e.double b

/-- A slot that holds a single entry. -/
def State.single (s : State) (l : Nat) : Bool :=
  match s.epAt l with
  | some e => !e.double
  | none => false

/-- The other bucket of the entry at a slot. -/
def State.otherBucket (s : State) (sp : Space) (l : Nat) : Option Nat :=
  match s.epAt l with
  | some e => (e.homes sp).find? fun b => b ≠ l - l % 4
  | none => none

/-- The entries that a new key can displace first: every single entry of its buckets, or for a double key those that
share a pair with a free slot (R262). Lowest bucket first, then lowest slot. -/
def State.firstLinks (s : State) (e : EpEnt) (sp : Space) : List Nat :=
  let hs := e.homes sp
  let bs := match hs with
    | [a, b] => if a < b then [a, b] else [b, a]
    | l => l
  (bs.flatMap fun b => [b, b + 1, b + 2, b + 3]).filter fun l =>
    s.single l && (!e.double || s.epFree (if l % 2 = 0 then l + 1 else l - 1))

/-- Breadth-first search for the shortest chain (R262): paths with their newest link first, in order of length and of
their links; `seen` are the buckets visited, at most 64. The links of the chain and the free slot it ends in. -/
def State.chainSearch (s : State) (sp : Space) (double : Bool) :
    Nat → List (List Nat) → List Nat → Option (List Nat × Nat)
  | 0, _, _ => none
  | _, [], _ => none
  | fuel + 1, path :: rest, seen =>
    match s.otherBucket sp (path.headD 0) with
    | none => s.chainSearch sp double fuel rest seen
    | some b =>
      if seen.contains b ∨ 64 ≤ seen.length then s.chainSearch sp double fuel rest seen
      else
        let first := path.getLastD 0
        let kept := fun l => double && decide (l / 2 = first / 2)
        match [b, b + 1, b + 2, b + 3].find? fun l => s.epFree l && !kept l with
        | some t => some (path, t)
        | none =>
          let next := if path.length < 16 then
              ([b, b + 1, b + 2, b + 3].filter fun l => s.single l && !path.contains l).map (· :: path)
            else []
          s.chainSearch sp double fuel (rest ++ next) (b :: seen)

/-- How a new key is placed. -/
inductive Place
  | now (l : Nat)
  | chain (moves : List (Nat × Nat)) (l : Nat)
  | stash (l : Nat)
  | full
  deriving DecidableEq, Repr

/-- The lowest free stash index. -/
def State.freeStash (s : State) : Option Nat :=
  (List.range 1024).find? fun i => !(s.tab.stash.any fun e => e.1 = i)

/-- The placement that a free slot, a chain or the stash offers, in that order (R262). -/
def placeOf (room : Option Nat) (chain : Option (List Nat × Nat)) (free : Option Nat) (double : Bool) : Place :=
  match room, chain, free with
  | some l, _, _ => .now l
  | none, some (path, t), _ =>
    let first := path.getLastD 0
    .chain (path.zip (t :: path)) (if double then first - first % 2 else first)
  | none, none, some i => .stash (inStash + i)
  | none, none, none => .full

/-- The shorter of two chains, the first where they are equally long. -/
def shorter (a b : Option (List Nat × Nat)) : Option (List Nat × Nat) :=
  match a, b with
  | some x, some y => if y.1.length < x.1.length then some y else some x
  | some x, none => some x
  | none, y => y

/-- The chain for a new key (R262). A double key has one search for each pair, for each keeps another slot free; the
shortest of their chains is taken, the first link deciding among equals. -/
def State.chainFor (s : State) (e : EpEnt) (sp : Space) : Option (List Nat × Nat) :=
  let firsts := s.firstLinks e sp
  if e.double then firsts.foldl (fun a l => shorter a (s.chainSearch sp true 320 [[l]] [])) none
  else s.chainSearch sp false 320 (firsts.map fun l => [l]) (e.homes sp)

/-- The placement of a new key in a space (R262). -/
def State.plan (s : State) (e : EpEnt) (sp : Space) : Place :=
  placeOf (s.roomFor e sp) (s.chainFor e sp) s.freeStash e.double

/-- One move of a chain: copy, then clear (R263). -/
def State.epMove (from' to' : Nat) (s : State) : State :=
  match s.epAt from' with
  | some e => (s.epPut to' e).epClear from'
  | none => s

/-! ## Commands on keys (R264 to R268) -/

/-- The table engine can take an endpoint command: no routine is under way, and between two bucket steps of a running
migration it has served none yet (R273). -/
def State.epGate (s : State) : Bool :=
  decide (s.tab.job = .idle) && (match s.tab.mig with | some m => m.cmd.isNone || !m.served | none => true)

/-- The command served between two bucket steps. -/
def State.epServed (s : State) : State :=
  match s.tab.mig with
  | some m => { s with tab.mig := some { m with served := true } }
  | none => s

/-- What a key argument breaks (R266). -/
def State.keyBad (s : State) (c : Cmd) : Bool :=
  let t := c.arg 8 1 % 16
  let n := profLen (s.rd (profLo t)) (s.rd (profHi t))
  !s.profServes t || (c.argBytes 24 25).drop n != List.replicate (25 - n) 0

/-- The entry a command's key names. -/
def State.keyEntry (s : State) (c : Cmd) (result : Nat) : EpEnt :=
  let t := c.arg 8 1 % 16
  epEntry t ((c.argBytes 24 25).take (profLen (s.rd (profLo t)) (s.rd (profHi t)))) result

/-- The slot that a new place leaves behind is freed (R273). -/
def State.epLeave (old : Option Nat) (s : State) : State :=
  match old with
  | some l => s.epClear l
  | none => s

/-- Put a new key of a command where its placement says; `old` is a slot it leaves (R262, R273). -/
def State.insertPlace (c : Cmd) (e : EpEnt) (old : Option Nat) (pl : Place) (s : State) : Ran :=
  match pl with
  | .now l => .done .ok (locWord l) 0 ((s.epStore l e).epLeave old)
  | .chain moves l => .wait { s with tab.job := .chain c.serial moves 0 l e old }
  | .stash l => .done .ok (locWord l) 0 ((s.epStore l e).epLeave old)
  | .full => .done .noRoom 0xFFFFFFFF 0 (s.rehashEvt 2 e.seg)

/-- Place a new key for a command (R262, R273). -/
def State.insertNew (c : Cmd) (e : EpEnt) (old : Option Nat) (s : State) : Ran :=
  s.insertPlace c e old (s.plan e (s.target e.seg))

/-- What an insert does where its key is already held, or is not (R264, R273). -/
def State.insertHit (c : Cmd) (e : EpEnt) (hit : Option Nat) (s : State) : Ran :=
  match hit with
  | some l =>
    if !bit (c.arg 9 1) 0 then .done .exists' (locWord l) 0 s
    else if decide (l < inStash) && (s.shadow e.seg).isSome && decide (l / 2 ^ 20 = s.segPhys e.seg) then
      s.insertNew c e (some l)
    else .done .ok (locWord l) 0 (s.epPut l e)
  | none => s.insertNew c e none

/-- EP_INSERT (R262, R264, R266, R267, R273). -/
def execEpInsert (p : HostPort) (n : Fin 64) (s : State) : Outcome State Fault Refusal :=
  .next <| s.runCmd p n 0x10 (fun _ => s.epGate)
    (fun _ => [named 8 1 0xF, named 9 1 1, named 12 5 0xFFFFFFFFF, whole 24 25]) fun c s0 =>
    let res := c.arg 12 5
    if s0.keyBad c || !resultOk res then .refuse .badArg s0
    else
      let e := s0.keyEntry c res
      let s := (s0.epCheck (s0.epSearched e) []).epServed
      s.insertHit c e (s.epFind e)

/-- A stash entry of the segment exists. -/
def State.stashHas (s : State) (seg : Nat) : Bool := s.tab.stash.any fun e => e.2.seg = seg

/-- A key at a location, or at none, is deleted, and a stash entry of its segment may take its slot (R265, R267). -/
def State.deleteHit (seg : Nat) (hit : Option Nat) (s : State) : Ran :=
  match hit with
  | none => .refuse .notFound s
  | some l =>
    let s1 := s.epClear l
    .done .ok (locWord l) 0 (if s1.stashHas seg then { s1 with tab.job := .restash seg } else s1)

/-- EP_DELETE (R265, R266, R267). -/
def execEpDelete (p : HostPort) (n : Fin 64) (s : State) : Outcome State Fault Refusal :=
  .next <| s.runCmd p n 0x11 (fun _ => s.epGate) (fun _ => [named 8 1 0xF, whole 24 25]) fun c s0 =>
    if s0.keyBad c then .refuse .badArg s0
    else
      let e := s0.keyEntry c 0
      let s := (s0.epCheck (s0.epSearched e) []).epServed
      s.deleteHit e.seg (s.epFind e)

/-- The 64-byte block of an entry (R268). -/
def State.epBlock (s : State) (l : Nat) (e : Option EpEnt) : List Byte :=
  match e with
  | some x =>
    let sh := match s.tab.mig with | some m => decide (l < inStash) && decide (l / 2 ^ 20 = m.shadow) | none => false
    padTo 64 (toLE 4 (locWord l) ++ [BitVec.ofNat 8 x.ktype, BitVec.ofNat 8 (1 + 2 * b2n x.double + 4 * b2n sh)]
      ++ toLE 2 0 ++ toLE 5 x.result ++ toLE 3 0 ++ padTo 25 x.key)
  | none => padTo 64 (toLE 4 (locWord l))

/-- A read of the key at a location, or at none (R268). -/
def State.readHit (c : Cmd) (addr : Nat) (hit : Option Nat) (s : State) : Ran :=
  match hit with
  | none => .refuse .notFound s
  | some l => .done .ok (locWord l) 0 (s.hostData c addr (s.epBlock l (s.epAt l)))

/-- EP_READ (R266 to R268). -/
def execEpRead (p : HostPort) (n : Fin 64) (s : State) : Outcome State Fault Refusal :=
  .next <| s.runCmd p n 0x12 (fun _ => s.epGate)
    (fun c => [whole 9 1, whole 16 8] ++ (if c.arg 9 1 = 1 then [named 8 1 0xF, whole 12 4] else [named 8 1 0xF, whole 24 25]))
    fun c s0 =>
    let addr := c.arg 16 8
    if 1 < c.arg 9 1 ∨ addr % 64 ≠ 0 then .refuse .badArg s0
    else if c.arg 9 1 = 0 then
      if s0.keyBad c then .refuse .badArg s0
      else
        let e := s0.keyEntry c 0
        let s := (s0.epCheck (s0.epSearched e) []).epServed
        s.readHit c addr (s.epFind e)
    else if !locOk (c.arg 12 4) then .refuse .badArg s0
    else
      let l0 := wordLoc (c.arg 12 4)
      let s := (s0.epCheck [l0] []).epServed
      match s.epCover l0 with
      | some (l, e) => .done .ok (locWord l) 0 (s.hostData c addr (s.epBlock l (some e)))
      | none => .done .ok (locWord l0) 0 (s.hostData c addr (s.epBlock l0 none))

/-! ## The rolling rehash (R272 to R277) -/

/-- RESULT1 of a migration (R276). -/
def Mig.result1 (m : Mig) : Nat := satTo 0xFFF m.stashed + 2 ^ 12 * satTo 0xFFF m.lostEnts

/-- Buckets of a segment. -/
def segBuckets : Nat := 262144

/-- The layout of EP_SEG_REHASH. -/
def rehashLayout (c : Cmd) : List ArgField :=
  [whole 8 1, named 9 1 7] ++ (if c.arg 9 1 = 0 then [whole 12 4, whole 16 4] else [])

/-- What every EP_SEG_REHASH refuses first (R276). -/
def State.rehashBad (s : State) (c : Cmd) : Option (Status × Nat) :=
  let g := c.arg 8 1
  if 15 < g then some (.badArg, 0)
  else match s.tab.mig with
    | some m => if m.seg ≠ g then some (.badArg, 1) else none
    | none => none

/-- More than one bit of OPTS is set. -/
def optsMany (o : Nat) : Bool := decide (2 ≤ b2n (bit o 0) + b2n (bit o 1) + b2n (bit o 2))

/-- EP_SEG_REHASH with no option, or with more than one (R272, R276). -/
def execEpSegRehash (p : HostPort) (n : Fin 64) (s : State) : Outcome State Fault Refusal :=
  .next <| s.runCmd p n 0x13 (fun c => decide (c.arg 9 1 % 8 = 0) || optsMany (c.arg 9 1)) rehashLayout fun c s =>
    match s.rehashBad c with
    | some (st, r) => .done st r 0 s
    | none =>
      if c.arg 9 1 ≠ 0 then .done .badArg 3 0 s
      else match s.tab.mig, s.tab.spare with
        | some _, _ => .done .badArg (Config.freeResult c.serial).toNat 0 s
        | none, none => .done .noRoom 2 0 s
        | none, some sp =>
          .wait { s with tab := { s.tab with
            ep := s.tab.ep.keep fun k _ => decide (k / 2 ^ 20 ≠ sp), spare := none,
            mig := some { seg := c.arg 8 1, shadow := sp, seed0 := c.arg 12 4, seed1 := c.arg 16 4, cursor := 0,
                          finished := false, cmd := some c.serial, back := false, stashed := 0, lostEnts := 0,
                          served := false } } }

/-- EP_SEG_REHASH with ABORT (R275). -/
def execEpSegRehashAbort (p : HostPort) (n : Fin 64) (s : State) : Outcome State Fault Refusal :=
  .next <| s.runCmd p n 0x13 (fun c => bit (c.arg 9 1) 0 && !optsMany (c.arg 9 1)) rehashLayout fun c s =>
    match s.rehashBad c with
    | some (st, r) => .done st r 0 s
    | none => match s.tab.mig with
      | some m => match m.cmd with
        | some x => .done .ok m.cursor m.result1
            (({ s with tab.mig := some { m with cmd := none } }).completeSer x .partial' m.cursor m.result1)
        | none => .refuse .notFound s
      | none => .refuse .notFound s

/-- The migration of the segment can be resumed or reverted: MIGRATING, and no command runs it. -/
def State.migStopped (s : State) : Option Mig :=
  match s.tab.mig with
  | some m => if m.finished || m.cmd.isSome then none else some m
  | none => none

/-- EP_SEG_REHASH with RESUME (R274, R276). -/
def execEpSegRehashResume (p : HostPort) (n : Fin 64) (s : State) : Outcome State Fault Refusal :=
  .next <| s.runCmd p n 0x13 (fun c => bit (c.arg 9 1) 1 && !optsMany (c.arg 9 1)) rehashLayout fun c s =>
    match s.rehashBad c with
    | some (st, r) => .done st r 0 s
    | none => match s.migStopped with
      | some m => .wait { s with tab.mig := some { m with cmd := some c.serial, back := false, served := false } }
      | none => .done .badArg 3 0 s

/-- EP_SEG_REHASH with REVERT (R274, R276): no old bucket counts as migrated any more. -/
def execEpSegRehashRevert (p : HostPort) (n : Fin 64) (s : State) : Outcome State Fault Refusal :=
  .next <| s.runCmd p n 0x13 (fun c => bit (c.arg 9 1) 2 && !optsMany (c.arg 9 1)) rehashLayout fun c s =>
    match s.rehashBad c with
    | some (st, r) => .done st r 0 s
    | none => match s.migStopped with
      | some m => .wait { s with tab.mig := some { m with cmd := some c.serial, back := true, cursor := 0, stashed := 0,
                                                            served := false } }
      | none => .done .badArg 3 0 s

/-- EP_SEG_SWAP (R277, R271). -/
def execEpSegSwap (p : HostPort) (n : Fin 64) (s : State) : Outcome State Fault Refusal :=
  .next <| s.runCmd p n 0x14 anyRow (fun _ => [whole 8 1]) fun c s =>
    let g := c.arg 8 1
    match s.tab.mig with
    | none => .refuse .badArg s
    | some m =>
      if m.seg ≠ g ∨ m.finished = false then .refuse .badArg s
      else
        let old := s.segPhys g
        let failed := s.tab.isFailed old
        let inj := s.tab.failed.all fun b => decide (b % 512 / 16 ≠ old) || decide (512 ≤ b)
        let t := { s.tab with segmap := s.tab.segmap.set 0 g (if m.shadow = g then 0 else m.shadow + 1), mig := none,
                              spare := if failed then none else some old,
                              ep := s.tab.ep.keep fun k _ => decide (k / 2 ^ 20 ≠ old),
                              retired := if failed then s.tab.retired ||| 2 ^ old else s.tab.retired }
        let s1 := (({ s with tab := t }).wr (0xB0080 + 8 * g) m.seed0).wr (0xB0084 + 8 * g) m.seed1
        let s2 := if failed then
            (s1.wearUse inj fun w => { w with retired := w.retired ||| 2 ^ old }).raiseX 0x900 4 .ce
              (packItems [(5, old)]) inj
          else s1
        .done .ok m.shadow (if failed then 0x1F else old) s2

/-- Move one stash entry of a segment into a bucket of a space: the lowest index that fits (R265). -/
def State.restash (seg : Nat) (sp : Space) (s : State) : State :=
  match s.tab.stash.findSome? fun x =>
      if x.2.seg = seg then (s.roomFor x.2 sp).map fun l => (x.1, l, x.2) else none with
  | some (i, l, e) => (s.epStore l e).epClear (inStash + i)
  | none => s

/-- Carry the entry at a slot to its placement in a space: whether it went to the stash; none where no place is left. -/
def State.carryTo (l : Nat) (e : EpEnt) (pl : Place) (s : State) : Option (Bool × State) :=
  match pl with
  | .now t => some (false, (s.epPut t e).epClear l)
  | .chain moves t => some (false, ((moves.foldl (fun (x : State) m => x.epMove m.1 m.2) s).epPut t e).epClear l)
  | .stash t => some (true, (s.epStore t e).epClear l)
  | .full => none

/-- Carry one slot's entry, where all before it found a place: whether all have, how many went to the stash. -/
def State.carryOne (sp : Space) (acc : Bool × Nat × State) (l : Nat) : Bool × Nat × State :=
  if acc.1 then
    match acc.2.2.epAt l with
    | none => acc
    | some e => ((acc.2.2.carryTo l e (acc.2.2.plan e sp)).map fun r => (true, acc.2.1 + b2n r.1, r.2)).getD
        (false, acc.2.1, acc.2.2)
  else acc

/-- Carry the entries of slots into a space, in order. -/
def State.carryAll (sp : Space) (ls : List Nat) (k : Nat) (s : State) : Bool × Nat × State :=
  ls.foldl (State.carryOne sp) (true, k, s)

/-- The migration stops for want of room (R274). -/
def State.migFull (m : Mig) (s : State) : State :=
  let s1 := ({ s with tab.mig := some { m with cmd := none } }).rehashEvt 2 m.seg
  match m.cmd with
  | some x => s1.completeSer x .noRoom m.cursor m.result1
  | none => s1

/-- How many of some slots hold the head of an entry. -/
def State.heads (s : State) (ls : List Nat) : Nat := (ls.filter fun l => (s.epAt l).isSome).length

/-- After a bucket has been carried: `lost` entries met an uncorrectable error, and the next bucket is `cursor` where all
others found a place (R272, R274). -/
def migCarried (m : Mig) (lost : Nat) (sp : Space) (cursor : Nat) (r : Bool × Nat × State) : State :=
  let m1 := { m with stashed := m.stashed + r.2.1, lostEnts := m.lostEnts + lost, served := false }
  if r.1 then ({ r.2.2 with tab.mig := some { m1 with cursor := cursor } }).restash m.seg sp else r.2.2.migFull m1

/-- The bucket that starts at slot `b` is checked and carried into a space (R272, R274). -/
def State.migBucket (m : Mig) (b : Nat) (sp : Space) (cursor : Nat) (errs : List (Nat × EccErr)) (s : State) : State :=
  let ls := [b, b + 1, b + 2, b + 3]
  let s1 := s.epCheck ls errs
  migCarried m (s.heads ls - s1.heads ls) sp cursor (s1.carryAll sp ls 0)

/-- One step of a forward migration (R272): a bucket, or after the last one the stash. -/
def State.migForward (m : Mig) (errs : List (Nat × EccErr)) (s : State) : State :=
  if m.cursor < segBuckets then
    s.migBucket m (s.segPhys m.seg * 2 ^ 20 + m.cursor * 4) m.space (m.cursor + 1) errs
  else
    let s1 := (List.range s.tab.stash.length).foldl (fun (t : State) _ => t.restash m.seg m.space) s
    let s2 := { s1 with tab.mig := some { m with finished := true, cmd := none } }
    match m.cmd with
    | some x => s2.completeSer x .ok m.cursor m.result1
    | none => s2

/-- One step of a REVERT (R274): the lowest bucket of the shadow that holds an entry goes back. -/
def State.migBack (m : Mig) (errs : List (Nat × EccErr)) (s : State) : State :=
  match s.tab.ep.find? fun e => e.1 / 2 ^ 20 = m.shadow with
  | some (l, _) =>
    let b := l - l % 4
    s.migBucket m b (s.space m.seg) m.cursor errs
  | none =>
    let s1 := { s with tab.mig := none, tab.spare := some m.shadow }
    match m.cmd with
    | some x => s1.completeSer x .ok m.cursor m.result1
    | none => s1

/-- One step of the running migration. -/
def State.migStep (errs : List (Nat × EccErr)) (s : State) : State :=
  match s.tab.mig with
  | some m => if m.cmd.isNone then s else if m.back then s.migBack m errs else s.migForward m errs
  | none => s

end Sys2Proof.Machine
end

