-- ==== Sys2Proof/Machine/Direct.lean ====
section
/-! DEFINITION. The direct table (R279, R280) and ECMP groups (R295 to R297). -/
namespace Sys2Proof.Machine
open Host (Outcome)

/-! ## The direct table -/

/-- The result of a direct entry, none when it is invalid. -/
def State.direct (s : State) (a : Nat) : Option Nat :=
  match s.tab.direct.get 0 a with
  | 0 => none
  | r => some (r - 1)

/-- Write or invalidate a direct entry: both copies (R279). -/
def State.setDirect (a : Nat) (r : Option Nat) (s : State) : State :=
  { s with tab.direct := s.tab.direct.set 0 a (match r with | some x => x + 1 | none => 0) }

/-- Valid direct entries (TBL_DIR_STAT). -/
def State.directValid (s : State) : Nat := s.tab.direct.length

/-- Read a direct entry (R280): `e0` and `e1` are the errors of its two copies. -/
def State.directRead (a : Nat) (e0 e1 : Option EccErr) (s : State) : Option Nat × State :=
  let (hit, s1) := s.injected 0x901 0 a
  let d := packItems [(16, a)]
  let bad0 := decide (e0 = some .two) || decide (hit = some true)
  let bad1 := decide (e1 = some .two)
  let real := e0.isSome || e1.isSome
  if bad0 && bad1 then
    let s2 := (s1.setDirect a none).raiseX 0x901 2 .uc d (decide (e0 ≠ some .two))
    (none, s2)
  else
    let s2 := if real then s1.raise 0x901 1 .ce d else s1
    let s3 := if hit.isSome then s2.raiseX 0x901 1 .ce d true else s2
    (s3.direct a, s3)

/-- DIRECT_WRITE (R279). -/
def execDirectWrite (p : HostPort) (n : Fin 64) (s : State) : Outcome State Fault Refusal :=
  .next <| s.runCmd p n 0x18 anyRow
    (fun c => [whole 8 2, named 10 1 1] ++ (if bit (c.arg 10 1) 0 then [] else [named 12 5 0xFFFFFFFFF])) fun c s =>
    let r := c.arg 12 5
    if bit (c.arg 10 1) 0 then .done .ok 0 0 (s.setDirect (c.arg 8 2) none)
    else if !resultOk r || decide (resKind r = 2) then .refuse .badArg s
    else .done .ok 0 0 (s.setDirect (c.arg 8 2) (some r))

/-- DIRECT_READ (R279). -/
def execDirectRead (p : HostPort) (n : Fin 64) (s : State) : Outcome State Fault Refusal :=
  .next <| s.runCmd p n 0x19 anyRow (fun _ => [whole 8 2]) fun c s =>
    match s.directRead (c.arg 8 2) none none with
    | (some r, s1) => .done .ok (r % 2 ^ 32) (r / 2 ^ 32 + 16) s1
    | (none, s1) => .done .ok 0 0 s1

/-! ## ECMP -/

/-- A member word keeps R254. -/
def memberOk (w : Nat) : Bool :=
  let k := bits w 30 28
  decide (bits w 27 25 = 0) && (decide (k = 0) || (decide (k = 4) && argOk 4 (bits w 24 0)))

/-- ECMP_GROUP_WRITE (R297). -/
def execEcmpGroupWrite (p : HostPort) (n : Fin 64) (s : State) : Outcome State Fault Refusal :=
  .next <| s.runCmd p n 0x40 anyRow
    (fun _ => [whole 8 2, named 10 2 0xFFF, named 12 4 0x3FFFF, whole 16 2, named 18 1 3, named 19 1 1]) fun c s =>
    let g := c.arg 10 2
    let base := c.arg 12 4
    let size := c.arg 16 2
    if size = 0 ∨ 4096 < size ∨ 262144 < base + size then .refuse .badArg s
    else
      let x : Group := { base := base, size := size, hprof := c.arg 18 1, valid := bit (c.arg 19 1) 0 }
      .done .ok 0 0 ((maskSlices (c.arg 8 2)).foldl (fun t m => t.onSlice m fun y =>
        { y with groups := y.groups.set Group.zero g x, ecmpBad := y.ecmpBad.filter (· ≠ g) }) s)

/-- ECMP_MEMBER_WRITE (R297); `words` are the member words at DATA_ADDR. -/
def execEcmpMemberWrite (p : HostPort) (n : Fin 64) (words : List Word) (s : State) : Outcome State Fault Refusal :=
  .next <| s.runCmd p n 0x41 anyRow (fun _ => [whole 8 2, whole 12 4, whole 16 2, whole 24 8]) fun c s =>
    let i := c.arg 12 4
    let k := c.arg 16 2
    let ws := (List.range k).map fun j => (words.getD j 0).toNat
    if k = 0 ∨ 256 < k ∨ 262144 < i + k ∨ c.arg 24 8 % 4 ≠ 0 ∨ ws.all memberOk = false then .refuse .badArg s
    else
      .done .ok 0 0 ((maskSlices (c.arg 8 2)).foldl (fun t m => t.onSlice m fun y =>
        { y with members := (ws.foldl (fun (acc : Nat × SMap Nat) w => (acc.1 + 1, acc.2.set 0 acc.1 w)) (i, y.members)).2,
                 ecmpBad := y.ecmpBad.filter fun b => !(decide (4096 + i ≤ b) && decide (b < 4096 + i + k)) }) s)

/-- A group or a member (from 4096 on) is read: `errs` are the errors memory shows. Whether it reads good (R298). -/
def State.ecmpRead (n loc : Nat) (errs : List (Nat × EccErr)) (s : State) : Bool × State :=
  let (hit, s1) := if loc < 4096 then (none, s) else s.injected (sliceSrc n) 6 (loc - 4096)
  let bad (inj : Bool) : Bool × State :=
    (false, (s1.onSlice n fun x => { x with ecmpBad := x.ecmpBad ++ [loc] }).raiseX (sliceSrc n) 0x32 .uc
      (packItems [(18, if loc < 4096 then loc else loc - 4096)]) inj)
  if (s1.slice n).ecmpBad.contains loc then (false, s1)
  else if errs.any fun e => decide (e.1 = loc) && decide (e.2 = .two) then bad false
  else if hit = some true then bad true
  else (true, s1)

/-- The fields of the spread hash of profile `k` (R295). -/
def State.spreadBytes (s : State) (n k : Nat) (key : List Byte) (port : Nat) : List Byte :=
  let cfg := s.rd (slReg n (0x500 + 4 * k))
  let fields := (List.range 16).flatMap fun f =>
    if bit cfg f then
      let v := bits (s.rd (slReg n (0x520 + 16 * k + 4 * (f / 4)))) (8 * (f % 4) + 7) (8 * (f % 4))
      cut key (v % 64) (v / 64 + 1)
    else []
  fields ++ (if bit cfg 16 then toBE 2 (port % 512) else [])

/-- The spread hash of profile `k` (R295). -/
def State.spread (s : State) (n k : Nat) (key : List Byte) (port : Nat) : Nat :=
  crcFin (crcRun polyC (s.rd (slReg n (0x510 + 4 * k))) (s.spreadBytes n k key port))

/-- A usable member's word: valid, and a PORT member's port UP (R296). -/
def State.usable (s : State) (w : Nat) : Bool := bit w 31 && (decide (bits w 30 28 ≠ 0) || s.isUp (bits w 8 0))

/-- Try up to `fuel` members of a group from offset `i` on (R296): the member's index and word. -/
def State.tryMembers (n : Nat) (g : Group) (errs : List (Nat × EccErr)) :
    Nat → Nat → State → Option (Nat × Nat) × State
  | 0, _, s => (none, s)
  | fuel + 1, i, s =>
    let m := g.base + i % g.size
    let (ok, s1) := s.ecmpRead n (4096 + m) errs
    let w := (s1.slice n).members.get 0 m
    if ok && s1.usable w then (some (m, w), s1) else s1.tryMembers n g errs fuel (i + 1)

/-- The member a packet's group gives (R295, R296, R297): none when the packet is to be dropped, which is counted. -/
def State.ecmpPick (n grp : Nat) (key : List Byte) (port : Nat) (errs : List (Nat × EccErr)) (s : State) :
    Option (Nat × Nat) × State :=
  let (ok, s1) := s.ecmpRead n grp errs
  let g := (s1.slice n).groups.get Group.zero grp
  let lost (t : State) : Option (Nat × Nat) × State := (none, t.count (slReg n 0x580) 1)
  if !ok || !g.valid then lost s1
  else
    let h := s1.spread n g.hprof key port
    match s1.tryMembers n g errs (if g.size < 8 then g.size else 8) (h / 2 ^ 16 * g.size / 2 ^ 16) with
    | (some m, s2) => (some m, s2)
    | (none, s2) => lost s2

end Sys2Proof.Machine
end

