-- ==== Sys2Proof/Machine/Lpm.lean ====
section
/-! DEFINITION. Longest-prefix match: formats, zones and placement, commands and lookups (R281 to R286). -/
namespace Sys2Proof.Machine
open Host (Outcome)

/-- Units per entry of a table's format, and whether it matches a VRF; none when the table has no format (R281). -/
def State.lpmFmt (s : State) (n : Nat) (v6 : Bool) : Option (Nat × Bool) :=
  let c := s.rd (slReg n 0x408)
  if v6 then
    match bits c 3 2 with
    | 1 => some (2, false)
    | 2 => some (4, true)
    | _ => none
  else
    match bits c 1 0 with
    | 1 => some (1, false)
    | 2 => some (2, true)
    | _ => none

/-- SL_LPM_V4_BANKS or SL_LPM_V6_BANKS. -/
def State.lpmMask (s : State) (n : Nat) (v6 : Bool) : Nat := s.rd (slReg n (if v6 then 0x410 else 0x40C))

/-- The banks of a table: those named that are in LPM mode. -/
def State.lpmBanks (s : State) (n : Nat) (v6 : Bool) : List Nat :=
  (List.range 32).filter fun b => bit (s.lpmMask n v6) b && decide (s.bankMode n b = 2)

/-- Bits of an address. -/
def lpmBits (v6 : Bool) : Nat := if v6 then 128 else 32

/-- The first `plen` bits of an address. -/
def topBits (v6 : Bool) (a plen : Nat) : Nat := a / 2 ^ (lpmBits v6 - plen)

/-- The entries of a table in the order of their rows (R282). -/
def State.lpmTable (s : State) (n : Nat) (v6 : Bool) : List (Nat × LpmEnt) :=
  let bs := s.lpmBanks n v6
  (s.slice n).lpm.filter fun e => decide (e.2.v6 = v6) && bs.contains (e.1 / 2048)

/-- The free rows of a table, in order: places for an entry with no entry on them and no lost row. -/
def State.lpmFree (s : State) (n : Nat) (v6 : Bool) : List Nat :=
  let x := s.slice n
  (s.lpmBanks n v6).flatMap fun b =>
    let w := s.bankWidth n b
    ((List.range (2048 / w)).map fun i => rowLoc b (i * w)).filter fun l =>
      !(x.lpm.any fun e => e.1 = l) && !x.rowsOut [] l w

/-- The prefix is in a table of a slice: its row. -/
def State.lpmFind (s : State) (n : Nat) (v6 : Bool) (plen vrf pfx : Nat) : Option (Nat × LpmEnt) :=
  (s.lpmTable n v6).find? fun e => e.2.plen = plen ∧ e.2.vrf = vrf ∧ e.2.pfx = pfx

/-- The lengths, without repeats, of the entries of a list. -/
def lengths (l : List (Nat × LpmEnt)) : List Nat := (l.map fun e => e.2.plen).eraseDups

/-- A number in its place in an ascending list. -/
def insNat (x : Nat) : List Nat → List Nat
  | [] => [x]
  | y :: r => if x ≤ y then x :: y :: r else y :: insNat x r

/-- Numbers in ascending order. -/
def sortNat (l : List Nat) : List Nat := l.foldr insNat []

/-- Zones to be crossed from zone `plen` to a free row: the lengths of shorter prefixes above the row, or of longer ones
below it (R283). -/
def crossed (t : List (Nat × LpmEnt)) (plen row : Nat) : List Nat :=
  lengths (t.filter fun e => (decide (e.1 < row) && decide (e.2.plen < plen))
    || (decide (row < e.1) && decide (plen < e.2.plen)))

/-- The free row that an add takes (R283): one that crosses the fewest zones; among those the first at or after number
`pick` of them. -/
def State.lpmChoose (s : State) (n : Nat) (v6 : Bool) (plen pick : Nat) : Option Nat :=
  let t := s.lpmTable n v6
  let free := s.lpmFree n v6
  let cost := fun r => (crossed t plen r).length
  let best := free.foldl (fun a r => if cost r < a then cost r else a) 1000
  let ok := free.filter fun r => cost r = best
  match ok with
  | [] => none
  | r :: _ => some (ok.getD (pick % ok.length) r)

/-- The shifts of an add, in the order they are made, and the row they free (R283): the boundary entry of each zone
crossed moves toward the free row. -/
def State.lpmShifts (s : State) (n : Nat) (v6 : Bool) (plen row : Nat) : List (Nat × Nat) × Nat :=
  let t := s.lpmTable n v6
  let zs := crossed t plen row
  let down := t.any fun e => e.1 < row ∧ e.2.plen < plen
  let zone := fun z => (t.filter fun e => e.2.plen = z).map Prod.fst
  let order := if down then sortNat zs else (sortNat zs).reverse
  order.foldl (fun (acc : List (Nat × Nat) × Nat) z =>
    let rows := zone z
    let edge := if down then rows.headD 0 else rows.getLastD 0
    (acc.1 ++ [(edge, acc.2)], edge)) ([], row)

/-- The layout that LPM_ADD and LPM_DELETE share. -/
def lpmLayout (s : State) (c : Cmd) : List ArgField :=
  let v6 := decide (c.arg 10 1 = 1)
  let vrf := (maskSlices (c.arg 8 2)).all fun n => match s.lpmFmt n v6 with | some (_, v) => v | none => true
  [whole 8 2, whole 10 1, whole 11 1] ++ (if vrf then [whole 16 2] else [])
    ++ (if v6 then [whole 32 16] else [whole 32 4])

/-- The address of an LPM command. -/
def lpmAddr (c : Cmd) : Nat := if c.arg 10 1 = 1 then beNat (c.argBytes 32 16) else beNat (c.argBytes 32 4)

/-- What an LPM command breaks in a slice (R284): its table has no format, a named bank is not in LPM mode with the
format's width, or the prefix is not one of the format's. -/
def State.lpmBad (s : State) (n : Nat) (v6 : Bool) (plen addr : Nat) : Bool :=
  match s.lpmFmt n v6 with
  | none => true
  | some (w, _) =>
    ((List.range 32).any fun b =>
        bit (s.lpmMask n v6) b && (decide (s.bankMode n b ≠ 2) || decide (s.bankWidth n b ≠ w)))
      || decide (lpmBits v6 < plen) || decide (addr % 2 ^ (lpmBits v6 - plen) ≠ 0)

/-- Put or clear a prefix. -/
def State.setLpm (n row : Nat) (e : Option LpmEnt) (s : State) : State :=
  s.onSlice n fun x => { x with lpm := match e with | some a => x.lpm.put row a | none => x.lpm.erase row }

/-- RESULT0 of an add or a delete (R285). -/
def lpmResult0 (row : Nat) : Nat := row / 2048 * 2 ^ 16 + row % 2048

/-- The row where a prefix is held takes an entry, or is cleared. -/
def State.lpmAt (m : Nat) (x : Option (Nat × LpmEnt)) (e : Option LpmEnt) (s : State) : State :=
  match x with
  | some r => s.setLpm m r.1 e
  | none => s

/-- LPM_ADD (R283 to R285); `picks` says which of the suitable free rows each named slice takes. -/
def execLpmAdd (p : HostPort) (n : Fin 64) (picks : List Nat) (s : State) : Outcome State Fault Refusal :=
  .next <| s.runCmd p n 0x20 (fun _ => decide (s.tab.job = .idle))
    (fun c => [named 12 1 1, named 20 5 0xFFFFFFFFF] ++ lpmLayout s c) fun c s =>
    let v6 := decide (c.arg 10 1 = 1)
    let ns := maskSlices (c.arg 8 2)
    let plen := c.arg 11 1
    let addr := lpmAddr c
    let e : LpmEnt := { v6 := v6, plen := plen, vrf := c.arg 16 2, pfx := addr, result := c.arg 20 5 }
    let at' := fun m => s.lpmFind m v6 plen e.vrf addr
    if decide (1 < c.arg 10 1) || ns.any (fun m => s.lpmBad m v6 plen addr) || !resultOk e.result then .refuse .badArg s
    else if !bit (c.arg 12 1) 0 && ns.any (fun m => (at' m).isSome) then .refuse .exists' s
    else
      let new := ns.filter fun m => (at' m).isNone
      let rows := new.map fun m => (m, s.lpmChoose m v6 plen (picks.getD m 0))
      if rows.any fun r => r.2.isNone then .refuse .noRoom s
      else
        let s1 := ns.foldl (fun t m => t.lpmAt m (at' m) (some e)) s
        let plans := rows.filterMap fun r => r.2.map fun row => (r.1, s.lpmShifts r.1 v6 plen row)
        let moves := plans.flatMap fun q => q.2.1.map fun (a, b) => (q.1, a, b)
        let places := plans.map fun q => (q.1, q.2.2)
        match ns with
        | [] => .done .ok (Config.freeResult c.serial).toNat 0 s1
        | m :: _ =>
          let row := match at' m with | some x => x.1 | none => ((places.find? fun q => q.1 = m).map Prod.snd).getD 0
          match moves with
          | [] => .done .ok (lpmResult0 row) 0 (places.foldl (fun t q => t.setLpm q.1 q.2 (some e)) s1)
          | _ => .wait { s1 with tab.job := .shift c.serial (m, row) moves 0 places e }

/-- LPM_DELETE (R284, R285). -/
def execLpmDelete (p : HostPort) (n : Fin 64) (s : State) : Outcome State Fault Refusal :=
  .next <| s.runCmd p n 0x21 (fun _ => decide (s.tab.job = .idle)) (lpmLayout s) fun c s =>
    let v6 := decide (c.arg 10 1 = 1)
    let ns := maskSlices (c.arg 8 2)
    let at' := fun m => s.lpmFind m v6 (c.arg 11 1) (c.arg 16 2) (lpmAddr c)
    if decide (1 < c.arg 10 1) || ns.any (fun m => s.lpmBad m v6 (c.arg 11 1) (lpmAddr c)) then .refuse .badArg s
    else if ns.any fun m => (at' m).isNone then .refuse .notFound s
    else
      let s1 := ns.foldl (fun t m => t.lpmAt m (at' m) none) s
      match ns with
      | [] => .done .ok (Config.freeResult c.serial).toNat 0 s1
      | m :: _ => .done .ok (lpmResult0 (((at' m).map Prod.fst).getD 0)) 0 s1

/-- A prefix covers an address in a VRF; without a VRF in the format any CLASS_ID matches. -/
def lpmCovers (vrf : Bool) (cls addr : Nat) (e : LpmEnt) : Bool :=
  decide (topBits e.v6 addr e.plen = topBits e.v6 e.pfx e.plen) && (!vrf || decide (e.vrf = cls))

/-- The entries of a table that an address hits, in the order of their rows, excluded rows apart. -/
def State.lpmHits (s : State) (n : Nat) (v6 : Bool) (cls addr : Nat) (excl : List Nat) : List (Nat × LpmEnt) :=
  match s.lpmFmt n v6 with
  | none => []
  | some (w, vrf) => (s.lpmTable n v6).filter fun e => lpmCovers vrf cls addr e.2 && !(s.slice n).rowsOut excl e.1 w

/-- LPM_READ (R285): exact, or as a probe. -/
def execLpmRead (p : HostPort) (n : Fin 64) (s : State) : Outcome State Fault Refusal :=
  .next <| s.runCmd p n 0x22 anyRow
    (fun c =>
      let v6 := decide (c.arg 10 1 = 1)
      let vrf := match s.lpmFmt (c.arg 8 1) v6 with | some (_, v) => v | none => true
      [whole 8 1, whole 10 1, whole 11 1, whole 12 1] ++ (if vrf then [whole 16 2] else [])
        ++ (if v6 then [whole 32 16] else [whole 32 4])) fun c s =>
    let v6 := decide (c.arg 10 1 = 1)
    let sl := c.arg 8 1
    let probe := decide (c.arg 12 1 = 1)
    let plen := if probe then lpmBits v6 else c.arg 11 1
    if decide (15 < sl) || decide (1 < c.arg 10 1) || decide (1 < c.arg 12 1) || s.lpmBad sl v6 plen (lpmAddr c) then
      .refuse .badArg s
    else
      let hit := if probe then (s.lpmHits sl v6 (c.arg 16 2) (lpmAddr c) []).head?
        else s.lpmFind sl v6 plen (c.arg 16 2) (lpmAddr c)
      match hit with
      | some (_, e) => .done .ok (e.result % 2 ^ 32) (e.result / 2 ^ 32 + e.plen * 16) s
      | none => .refuse .notFound s

/-- One zone shift: copy, then clear (R283). -/
def State.lpmMove (n from' to' : Nat) (s : State) : State :=
  match (s.slice n).lpm.find? fun e => e.1 = from' with
  | some (_, e) => (s.setLpm n to' (some e)).setLpm n from' none
  | none => s

/-- A routed packet's search (R281, R282): `none` when four searches have failed their parity, else the row and the
entry that hits. -/
def State.lpmSearch (n : Nat) (cls : Nat) (key : List Byte) (errs : List RowErr) (s : State) :
    Option (Option (Nat × LpmEnt)) × State :=
  let v6 := cut key 42 12 != List.replicate 10 0 ++ [0xFF, 0xFF]
  let addr := if v6 then be key 42 16 else be key 54 4
  let hits := fun excl => s.lpmHits n v6 cls addr excl
  let w := match s.lpmFmt n v6 with | some (w, _) => w | none => 1
  match s.parityLoop n 8 (fun excl => (hits excl).map fun e => (e.1, w)) errs 4 0 [] with
  | (none, s1) => (none, s1)
  | (some excl, s1) => (some (hits excl).head?, s1)

end Sys2Proof.Machine
end

