-- ==== Sys2Proof/Machine/L2.lean ====
section
/-! DEFINITION. The L2 tables: lookups, learning over the learn bus, moves, flaps, ageing and the host's commands (R287 to
R294), and the steps of the table engine (R263, R278, R283). -/
namespace Sys2Proof.Machine
open Host (Outcome)

/-! ## Entries -/

/-- The bucket of a key in a slice: its first index. -/
def State.l2Bucket (s : State) (n vid mac : Nat) : Nat :=
  crcFin (crcRun polyC (s.rd (slReg n 0x424)) (toBE 2 (vid % 4096) ++ toBE 6 mac)) % 2 ^ 17 * 4

/-- An entry by index. -/
def State.l2At (s : State) (n i : Nat) : Option L2Ent := ((s.slice n).l2.find? fun e => e.1 = i).map Prod.snd

/-- Put or clear an entry. -/
def State.setL2 (n i : Nat) (e : Option L2Ent) (s : State) : State :=
  s.onSlice n fun x => { x with l2 := match e with | some a => x.l2.put i a | none => x.l2.erase i }

/-- The index and entry of a key. -/
def State.l2Find (s : State) (n vid mac : Nat) : Option (Nat × L2Ent) :=
  let b := s.l2Bucket n vid mac
  (s.slice n).l2.find? fun e => decide (b ≤ e.1) && decide (e.1 < b + 4) && decide (e.2.vid = vid) && decide (e.2.mac = mac)

/-- The lowest free slot of a key's bucket. -/
def State.l2Free (s : State) (n vid mac : Nat) : Option Nat :=
  let b := s.l2Bucket n vid mac
  [b, b + 1, b + 2, b + 3].find? fun i => (s.l2At n i).isNone

/-- SL_L2_CNT[i] (R299). -/
def State.l2Count (n i : Nat) (s : State) : State := s.count (slReg n (0x440 + 8 * i)) 1

/-- An error at an index (R294). -/
def State.l2Error (n i : Nat) (e : EccErr) (inj : Bool) (s : State) : State :=
  match e with
  | .one => s.raiseX (sliceSrc n) 0x30 .ce (packItems [(19, i)]) inj
  | .two => (s.setL2 n i none).raiseX (sliceSrc n) 0x31 .uc (packItems [(19, i)]) inj

/-- An L2 entry shows an error, or none. -/
def State.l2Err (n i : Nat) (e : Option EccErr) (inj : Bool) (s : State) : State :=
  match e with
  | some x => s.l2Error n i x inj
  | none => s

/-- A lookup reads the bucket of a key: `errs` are the errors memory shows, by index (R294). -/
def State.l2Check (n vid mac : Nat) (errs : List (Nat × EccErr)) (s : State) : State :=
  let b := s.l2Bucket n vid mac
  [b, b + 1, b + 2, b + 3].foldl (fun t i =>
    let x := t.injected (sliceSrc n) 5 i
    (x.2.l2Err n i ((errs.find? fun e => e.1 = i).map Prod.snd) false).l2Err n i (x.1.map hitErr) true) s

/-! ## The learn bus (R287, R288) -/

/-- SL_L2_CFG. -/
def State.l2Cfg (s : State) (n : Nat) : Nat := s.rd (slReg n 0x420)

/-- Post an L2 event (R291): its type and code, SOURCE, MAC and VID, from a slice. -/
def State.l2Evt (typ code source n vid mac : Nat) (s : State) : State :=
  s.post typ code source n (toBE 6 mac ++ [BitVec.ofNat 8 (vid % 256), BitVec.ofNat 8 (vid / 256 % 16)])

/-- A slice originates a record: a learn or move record at most every 160 ns, an excess one dropped and counted (R288). -/
def State.originate (r : LearnRec) (s : State) : State :=
  let x := s.slice r.origin
  let limited := decide (r.kind ≠ .unpin) && decide (r.kind ≠ .remove)
  let soon := match x.learnAt with
    | some t => decide (s.now - t < 160)
    | none => false
  if limited && soon then s.l2Count r.origin 1
  else
    let s1 := if limited then s.setSlice r.origin { x with learnAt := some s.now } else s
    { s1 with tab.bus := s1.tab.bus ++ [r] }

/-- The source lookup of a frame that arrives on a port of its slice (R287). -/
def State.l2Source (n port vid mac : Nat) (errs : List (Nat × EccErr)) (s0 : State) : State :=
  let mode := bits (s0.l2Cfg n) 1 0
  if mode = 2 then s0
  else
    let s := s0.l2Check n vid mac errs
    let rec' (k : LearnKind) : LearnRec :=
      { kind := k, origin := n, vid := vid, mac := mac, port := port, left := List.range 16 }
    match s.l2Find n vid mac with
    | none => if mode = 1 then s.l2Evt 1 2 port n vid mac else s.originate (rec' .learn)
    | some (i, e) =>
      if e.port = port then s.setL2 n i (some { e with age := 0 })
      else if e.static then s.l2Count n 6
      else if e.pinned then s.l2Count n 3
      else if mode = 1 then s.l2Evt 1 2 port n vid mac
      else s.originate (rec' (if 4 ≤ e.moves then .flap else .move))

/-- A new entry of a learn. -/
def learned (vid mac port : Nat) : L2Ent :=
  { vid := vid, mac := mac, port := port, age := 0, static := false, pinned := false, moves := 0, pinAt := none }

/-- A slice applies a learn, or a move of a key it does not hold (R288, R289). -/
def State.applyLearn (n : Nat) (r : LearnRec) (s : State) : State :=
  let own := decide (r.origin = n)
  match s.l2Find n r.vid r.mac with
  | some (i, e) =>
    if e.static then s.l2Count n 6
    else if e.pinned && decide (e.port ≠ r.port) then s.l2Count n 3
    else
      let s1 := (s.setL2 n i (some { e with port := r.port, age := 0 })).l2Count n 0
      if own && bit (s1.l2Cfg n) 2 then s1.l2Evt 1 1 r.port n r.vid r.mac else s1
  | none => match s.l2Free n r.vid r.mac with
    | some i =>
      let s1 := (s.setL2 n i (some (learned r.vid r.mac r.port))).l2Count n 0
      if own && bit (s1.l2Cfg n) 2 then s1.l2Evt 1 1 r.port n r.vid r.mac else s1
    | none =>
      let s1 := s.l2Count n 2
      if own then s1.l2Evt 1 3 r.port n r.vid r.mac else s1

/-- A FLAP record pins the entry that a slice has just entered for it; the originating slice posts FLAP (R290). -/
def State.pinNew (n : Nat) (r : LearnRec) (s : State) : State :=
  let own := decide (r.origin = n)
  match s.l2Find n r.vid r.mac with
  | none => s
  | some (i, e) =>
    let s1 := (s.setL2 n i (some { e with pinned := true, pinAt := if own then some s.now else none })).l2Count n 4
    if own then s1.l2Evt 3 2 r.port n r.vid r.mac else s1

/-- A slice applies a move, which a FLAP record pins (R288, R290). -/
def State.applyMove (n : Nat) (flap : Bool) (r : LearnRec) (s : State) : State :=
  let own := decide (r.origin = n)
  match s.l2Find n r.vid r.mac with
  | none => if flap then (s.applyLearn n r).pinNew n r else s.applyLearn n r
  | some (i, e) =>
    if e.static then s.l2Count n 6
    else if e.pinned then s.l2Count n 3
    else
      let e1 := { e with port := r.port, age := 0, moves := satInc 8 e.moves, pinned := flap,
                         pinAt := if flap && own then some s.now else none }
      let s1 := ((s.setL2 n i (some e1)).l2Count n 0).l2Count n 3
      let s2 := if flap then s1.l2Count n 4 else s1
      if own then s2.l2Evt 3 (if flap then 2 else 1) r.port n r.vid r.mac else s2

/-- A slice applies a record of the learn bus. -/
def State.applyRec (n : Nat) (r : LearnRec) (s : State) : State :=
  match r.kind with
  | .learn => s.applyLearn n r
  | .move => s.applyMove n false r
  | .flap => s.applyMove n true r
  | .unpin => match s.l2Find n r.vid r.mac with
    | some (i, e) =>
      let s1 := (s.setL2 n i (some { e with pinned := false, moves := 0, pinAt := none })).l2Count n 0
      if r.origin = n then s1.l2Evt 3 3 e.port n r.vid r.mac else s1
    | none => s
  | .remove => match s.l2Find n r.vid r.mac with
    | some (i, e) => if e.port = r.port then (s.setL2 n i none).l2Count n 0 else s
    | none => s

/-- Mark the first record of an origin that a slice has not applied as applied by it; a record that every slice has
applied leaves the bus. -/
def takeRec (n origin : Nat) : List LearnRec → Option LearnRec × List LearnRec
  | [] => (none, [])
  | r :: rest =>
    if r.origin = origin ∧ r.left.contains n = true then
      let left := r.left.filter (· ≠ n)
      (some r, if left.isEmpty then rest else { r with left := left } :: rest)
    else
      let (x, rest1) := takeRec n origin rest
      (x, r :: rest1)

/-- A slice applies the next record of an origin (R288). -/
def execLearnRecord (slice origin : Slice) (s : State) : Outcome State Fault Refusal :=
  .next <|
    match takeRec slice origin s.tab.bus with
    | (some r, bus) => ({ s with tab.bus := bus }).applyRec slice r
    | (none, _) => s

/-- A whole second of device time begins: every entry's moves of the second start at 0 (R290). -/
def execL2MoveSecond (s : State) : Outcome State Fault Refusal :=
  .next { s with slices := s.slices.map fun x => (x.1, { x.2 with
    l2 := x.2.l2.map fun e => (e.1, { e.2 with moves := 0 }) }) }

/-- The flap hold of an entry that this slice pinned has passed: it sends UNPIN (R290). -/
def execFlapHoldExpiry (slice : Slice) (s : State) : Outcome State Fault Refusal :=
  .next <|
    let hold := bits (s.l2Cfg slice) 15 4 * nsPerSec
    match (s.slice slice).l2.find? fun e =>
        (match e.2.pinAt with | some t => decide (t + hold ≤ s.now) | none => false) with
    | some (i, e) =>
      (s.setL2 slice i (some { e with pinAt := none })).originate
        { kind := .unpin, origin := slice, vid := e.vid, mac := e.mac, port := e.port, left := List.range 16 }
    | none => s

/-- An age tick of a slice, every AGE_TICK × 100 ms (R291): its own ports' dynamic entries age by one, and one that reaches 7 is removed. -/
def execL2AgeTick (slice : Slice) (s : State) : Outcome State Fault Refusal :=
  .next <|
    let tick := bits (s.l2Cfg slice) 31 16 * 100000000
    let x := s.slice slice
    if tick = 0 ∨ (x.ageAt.isNone || s.elapsed x.ageAt tick) = false then s
    else x.l2.foldl (fun t x =>
      let e := x.2
      if portSlice e.port ≠ slice.val ∨ e.static = true then t
      else if e.age < 6 then t.setL2 slice x.1 (some { e with age := e.age + 1 })
      else
        (((t.setL2 slice x.1 none).l2Count slice 5).l2Evt 2 1 e.port slice e.vid e.mac).originate
          { kind := .remove, origin := slice, vid := e.vid, mac := e.mac, port := e.port,
            left := (List.range 16).filter (· ≠ slice.val) })
      (s.onSlice slice fun y => { y with ageAt := some s.now })

/-! ## Commands (R292, R293) -/

/-- The key of an L2 command: VID and MAC. -/
def l2Vid (c : Cmd) : Nat := c.arg 16 2 % 4096
/-- The MAC of an L2 command. -/
def l2Mac (c : Cmd) : Nat := beNat (c.argBytes 10 6)

/-- An entry takes its key's place in a slice, else a free one of its bucket (R292). -/
def State.l2Store (m vid mac : Nat) (e : L2Ent) (s : State) : State :=
  match s.l2Find m vid mac, s.l2Free m vid mac with
  | some (i, _), _ => s.setL2 m i (some e)
  | none, some i => s.setL2 m i (some e)
  | none, none => s

/-- L2_WRITE (R292). -/
def execL2Write (p : HostPort) (n : Fin 64) (s : State) : Outcome State Fault Refusal :=
  .next <| s.runCmd p n 0x38 anyRow
    (fun _ => [whole 8 2, whole 10 6, named 16 2 0xFFF, named 18 2 0x1FF, named 20 1 3]) fun c s =>
    let ns := maskSlices (c.arg 8 2)
    let vid := l2Vid c
    let mac := l2Mac c
    let port := c.arg 18 2
    let e := { learned vid mac port with static := bit (c.arg 20 1) 0 }
    if s.inactive port then .refuse .badArg s
    else if !bit (c.arg 20 1) 1 && ns.any (fun m => (s.l2Find m vid mac).isSome) then .refuse .exists' s
    else if ns.any fun m => (s.l2Find m vid mac).isNone && (s.l2Free m vid mac).isNone then .refuse .noRoom s
    else .done .ok 0 0 (ns.foldl (fun t m => t.l2Store m vid mac e) s)

/-- A key's entry leaves a slice (R292). -/
def State.l2Remove (m vid mac : Nat) (s : State) : State :=
  match s.l2Find m vid mac with
  | some (i, _) => s.setL2 m i none
  | none => s

/-- L2_DELETE (R292). -/
def execL2Delete (p : HostPort) (n : Fin 64) (s : State) : Outcome State Fault Refusal :=
  .next <| s.runCmd p n 0x39 anyRow (fun _ => [whole 8 2, whole 10 6, named 16 2 0xFFF]) fun c s =>
    let ns := maskSlices (c.arg 8 2)
    if ns.all fun m => (s.l2Find m (l2Vid c) (l2Mac c)).isNone then .refuse .notFound s
    else .done .ok 0 0 (ns.foldl (fun t m => t.l2Remove m (l2Vid c) (l2Mac c)) s)

/-- L2_FLUSH (R292, R278): the table engine carries it out bucket by bucket. -/
def execL2Flush (p : HostPort) (n : Fin 64) (s : State) : Outcome State Fault Refusal :=
  .next <| s.runCmd p n 0x3A (fun _ => decide (s.tab.job = .idle))
    (fun _ => [whole 8 2, named 10 1 7, named 16 2 0xFFF, named 18 2 0x1FF]) fun c s =>
    .wait { s with tab.job := .flush c.serial (c.arg 8 2) (c.arg 10 1) (c.arg 18 2) (c.arg 16 2) 0 0 }

/-- The 16 bytes of an L2 read (R293). -/
def l2Block (i : Nat) (e : Option L2Ent) : List Byte :=
  match e with
  | some x => toBE 6 x.mac ++ toLE 2 x.vid ++ toLE 2 x.port
      ++ [BitVec.ofNat 8 (1 + 2 * b2n x.static + 4 * b2n x.pinned + 8 * x.age), BitVec.ofNat 8 x.moves] ++ toLE 4 i
  | none => toLE 12 0 ++ toLE 4 i

/-- L2_READ (R293). -/
def execL2Read (p : HostPort) (n : Fin 64) (s : State) : Outcome State Fault Refusal :=
  .next <| s.runCmd p n 0x3B anyRow
    (fun _ => [whole 8 1, whole 9 1, whole 10 6, whole 12 4, named 16 2 0xFFF, whole 24 8]) fun c s =>
    let sl := c.arg 8 1
    let addr := c.arg 24 8
    if 15 < sl ∨ 1 < c.arg 9 1 ∨ addr % 16 ≠ 0 then .refuse .badArg s
    else if c.arg 9 1 = 1 then
      let i := c.arg 12 4
      if 524287 < i then .refuse .badArg s
      else .done .ok 0 0 (s.hostData c addr (l2Block i (s.l2At sl i)))
    else match s.l2Find sl (l2Vid c) (l2Mac c) with
      | some (i, e) => .done .ok 0 0 (s.hostData c addr (l2Block i (some e)))
      | none => .refuse .notFound s

/-! ## The table engine's steps (R263, R265, R272, R278, R283) -/

/-- The entry is one that a flush removes. -/
def flushes (filter port vid : Nat) (e : L2Ent) : Bool :=
  (!bit filter 0 || decide (e.port = port)) && (!bit filter 1 || decide (e.vid = vid)) && (!bit filter 2 || !e.static)

/-- The entries of a bucket of a slice that a flush names are removed: how many so far, and the state. -/
def flushIn (filter port vid b : Nat) (acc : Nat × State) (n : Nat) : Nat × State :=
  let gone := (acc.2.slice n).l2.filter fun e => decide (e.1 / 4 = b) && flushes filter port vid e.2
  (acc.1 + gone.length, gone.foldl (fun t e => t.setL2 n e.1 none) acc.2)

/-- One bucket of a flush in every named slice: how many entries went, and the state. -/
def State.flushBucket (ns : List Nat) (filter port vid b : Nat) (s : State) : Nat × State :=
  ns.foldl (flushIn filter port vid b) (0, s)

/-- One step of the table engine: of the routine in hand, else of a running migration; `errs` are the errors that the
slots it reads show, by location word. -/
def execTableEngineStep (errs : List (Nat × EccErr)) (s : State) : Outcome State Fault Refusal :=
  .next <|
    match s.tab.job with
    | .idle => s.migStep errs
    | .chain c ((a, b) :: r) made l e old => ({ s with tab.job := .chain c r (made + 1) l e old }).epMove a b
    | .chain c [] made l e old =>
      let s1 := ({ s with tab.job := .idle }).epStore l e
      let s2 := match old with | some o => s1.epClear o | none => s1
      s2.completeSer c .ok (locWord l) made
    | .restash seg => ({ s with tab.job := .idle }).restash seg
        (match s.tab.mig with
         | some m => if m.back then s.space seg else s.target seg
         | none => s.space seg)
    | .shift c low ((n, a, b) :: r) made places e =>
      ({ s with tab.job := .shift c low r (made + b2n (decide (n = low.1))) places e }).lpmMove n a b
    | .shift c low [] made places e =>
      let s1 := places.foldl (fun t q => t.setLpm q.1 q.2 (some e)) { s with tab.job := .idle }
      s1.completeSer c .ok (lpmResult0 low.2) made
    | .flush c mask filter port vid next removed =>
      let (k, s1) := s.flushBucket (maskSlices mask) filter port vid next
      if next + 1 < 131072 then
        { s1 with tab.job := .flush c mask filter port vid (next + 1) (removed + k) }
      else ({ s1 with tab.job := .idle }).completeSer c .ok (removed + k) 0

/-- The routine in hand and a running migration stop at a step boundary, their commands with PARTIAL (R278), where
their commands are among those named; a stash move has none and stops with `all`. -/
def State.stopTablesIf (own : Nat → Bool) (all : Bool) (s : State) : State :=
  let s1 := match s.tab.job with
    | .chain c _ made _ _ _ =>
      if own c then ({ s with tab.job := .idle }).completeSer c .partial' 0xFFFFFFFF made else s
    | .shift c _ _ made _ _ =>
      if own c then ({ s with tab.job := .idle }).completeSer c .partial' (Config.freeResult c).toNat made else s
    | .flush c _ _ _ _ next removed =>
      if own c then ({ s with tab.job := .idle }).completeSer c .partial' removed next else s
    | _ => if all then { s with tab.job := .idle } else s
  match s1.tab.mig with
  | some m => match m.cmd with
    | some x =>
      if own x then ({ s1 with tab.mig := some { m with cmd := none } }).completeSer x .partial' m.cursor m.result1
      else s1
    | none => s1
  | none => s1

/-- EP_INSERT, EP_DELETE and DIRECT_WRITE that have been fetched, are the oldest of their rings and have not made their step
are stopped before it (R278). -/
def State.stopFirst (s : State) : State :=
  (s.cmds.filter fun c => [0x10, 0x11, 0x18].contains c.opcode && s.startable c
      && decide (s.headCmd c.port c.ring = some c)).foldl
    (fun t c => t.complete c .partial' 0xFFFFFFFF 0) s

/-- Every routine of the table engine stops (R49, R278). -/
def State.stopTables (s : State) : State := s.stopFirst.stopTablesIf (fun _ => true) true

end Sys2Proof.Machine
end

