-- ==== Sys2Proof/Machine/Classify.lean ====
section
/-! DEFINITION. What the lookup and action stages decide for a packet: decision trees (R217 to R221, R225), ACL lookups,
action words (R213 to R215), the forwarding result (R252 to R257) and the policer (R382 to R386). -/
namespace Sys2Proof.Machine

/-! ## Decision trees -/

/-- How a walk ends: at an uncorrectable unit, without a result, or with an action word and its RULE_ID. -/
inductive Walked
  | ecc
  | nothing
  | word (w rule : Nat)
  deriving DecidableEq, Repr

/-- Check `i` of a rule passes (R220). -/
def ruleCheck (key : Nat) (u : List Byte) (i : Nat) : Bool :=
  let o := 16 + 12 * i
  decide (keyField key (u16 u o) (byteAt u (o + 2)) &&& le u (o + 8) 4 = le u (o + 4) 4)

/-- A rule matches a key (R220). -/
def ruleMatches (key : Nat) (u : List Byte) : Bool := (List.range (byteAt u 1)).all (ruleCheck key u)

/-- The matching rule of highest priority, the first of equals (R220). -/
def bestRule (key : Nat) : List (List Byte) → Option (List Byte)
  | [] => none
  | u :: r =>
    match ruleMatches key u, bestRule key r with
    | false, x => x
    | true, none => some u
    | true, some x => if u16 u 2 < u16 x 2 then some x else some u

/-- What a leaf gives (R220). -/
def leafResult (key : Nat) (leaf : List Byte) (rules : List (List Byte)) : Walked :=
  match bestRule key rules with
  | some u => .word (le u 4 4) (u16 u 8)
  | none => if bit (byteAt leaf 8) 0 then .word (le leaf 4 4) 0xFFFF else .nothing

/-- A unit of a tree bank. -/
def State.treeUnit (s : State) (g u : Nat) : List Byte := (s.treeBank g).units.get [] u

/-- Read a leaf's rule units: all good, and the state. -/
def State.readRules (n g first : Nat) (errs : List (Nat × EccErr)) : Nat → State → Bool × State
  | 0, s => (true, s)
  | k + 1, s =>
    let (ok, s1) := s.treeRead n (g * 65536 + first) errs
    let (rest, s2) := s1.readRules n g (first + 1) errs k
    (ok && rest, s2)

/-- The child reference that a CUT or RANGE node takes for a key (R219). -/
def childRef (key : Nat) (u : List Byte) : Nat :=
  if uType u = 1 then u16 u (8 + 2 * keyField key (u16 u 2) (byteAt u 1))
  else
    let v := keyField key (u16 u 2) 16
    u16 u (20 + 2 * ((List.range (byteAt u 1)).filter fun i => decide (u16 u (4 + 2 * i) ≤ v)).length)

/-- A walk from a unit on, over at most `fuel` nodes (R219, R220, R225). -/
def State.walk (n g key : Nat) (errs : List (Nat × EccErr)) : Nat → Nat → State → Walked × State
  | 0, _, s => (.nothing, s)
  | fuel + 1, unit, s =>
    let (ok, s1) := s.treeRead n (g * 65536 + unit) errs
    let u := s1.treeUnit g unit
    if !ok then (.ecc, s1)
    else if uType u = 3 then
      let first := bits (u16 u 2) 13 0
      let (good, s2) := s1.readRules n g first errs (byteAt u 1)
      if good then (leafResult key u ((List.range (byteAt u 1)).map fun i => s2.treeUnit g (first + i)), s2)
      else (.ecc, s2)
    else
      let r := childRef key u
      if bit r 15 then s1.walk n g key errs fuel (bits r 13 0) else (.nothing, s1)

/-- The trees of a selection entry, in byte order (R217, R221). -/
def treesOf (sel : Nat) : List Nat :=
  (List.range 4).filterMap fun j => if bit sel (8 * j + 7) then some (bits sel (8 * j + 5) (8 * j)) else none

/-- A packet's tree walks (R221): each word with its MATCH_ID (R215), or none after an uncorrectable unit (R225). Walks
without a result are counted. -/
def State.walks (k : Pkt) (errs : List (Nat × EccErr)) : List Nat → State → Option (List (Nat × Nat)) × State
  | [], s => (some [], s)
  | t :: r, s =>
    let n := k.slice
    match s.walk n k.gen (k.keyNat 0) errs 24 (bits ((s.treeBank k.gen).roots.get 0 t) 13 0) with
    | (.ecc, s1) => (none, s1.classCount n 2)
    | (.nothing, s1) => ((s1.classCount n 3).pmc0 n 0x0C (some k.via) 1).walks k errs r
    | (.word w rule, s1) =>
      match s1.walks k errs r with
      | (none, s2) => (none, s2)
      | (some ws, s2) => (some ((w, 2 * 2 ^ 28 + t * 2 ^ 22 + rule) :: ws), s2)

/-- The trees of a packet's selection entry: its port's, or 512 in a recirculation pass (R221, R245). -/
def State.packetTrees (s : State) (k : Pkt) : List Nat :=
  treesOf ((s.treeBank k.gen).sel.get 0 (if k.pass = 0 then k.via else 512))

/-! ## Action words (R213, R214) -/

/-- The last word of an OP: its argument and MATCH_ID. -/
def lastOp (op : Nat) (ws : List (Nat × Nat)) : Option (Nat × Nat) :=
  ws.foldl (fun a w => if aOp w.1 = op then some (aArg w.1, w.2) else a) none

/-- The last of the words that set a destination, REDIRECT and ECMP: OP and argument. -/
def lastDest (ws : List (Nat × Nat)) : Option (Nat × Nat) :=
  ws.foldl (fun a w => if aOp w.1 = 5 ∨ aOp w.1 = 6 then some (aOp w.1, aArg w.1) else a) none

/-- MATCH_ID of the last word applied (R446): a NONE word applies nothing. -/
def lastMatch (ws : List (Nat × Nat)) : Nat := ws.foldl (fun a w => if aOp w.1 = 0 then a else w.2) 0xFFFFFFFF

/-- The CLASS_ID that words leave, from `c` on (R212). -/
def classOf (c : Nat) (ws : List (Nat × Nat)) : Nat :=
  match lastOp 9 ws with
  | some (a, _) => a
  | none => c

/-- A packet's ACL lookups from `l` on, `m` of them (R227, R228, R237): the winning words, or none when one lookup has
met four parity failures. -/
def State.aclWords (k : Pkt) (cls : Nat) (errs : List RowErr) : Nat → Nat → State → Option (List (Nat × Nat)) × State
  | 0, _, s => (some [], s)
  | m + 1, l, s =>
    let n := k.slice
    let key := k.keyNat cls
    match s.parityLoop n l (fun ex => (s.aclHits n l k.gen key ex).map fun e => (e.1, e.2.width)) errs 4 0 [] with
    | (none, s1) => (none, s1)
    | (some ex, s1) =>
      match aclBest (s1.aclHits n l k.gen key ex) with
      | none => s1.aclWords k cls errs m (l + 1)
      | some (loc, e) =>
        match (s1.pmc n 0x0D (fun a => decide (a = l)) (some k.via) false 1).aclWords k cls errs m (l + 1) with
        | (none, s2) => (none, s2)
        | (some ws, s2) => (some ((e.action, aclMatch loc) :: ws), s2)

/-! ## The forwarding result (R252 to R257) -/

/-- What the tables gave: a result with its MATCH_ID, a miss, or four parity failures of the LPM search. -/
inductive Found
  | result (r mid : Nat)
  | l3miss
  | l2miss
  | err
  deriving DecidableEq, Repr

/-- Errors of one memory. -/
def errsOf (m : Mem) (errs : List MemErr) : List (Nat × EccErr) :=
  errs.filterMap fun e => if e.mem = m then some (e.loc, e.err) else none

/-- The error of a copy of a direct entry. -/
def dirErr (errs : List MemErr) (a copy : Nat) : Option EccErr :=
  ((errsOf .direct errs).find? fun e => e.1 = 2 * a + copy).map Prod.snd

/-- MATCH_ID of a direct entry (R255). -/
def directMatch (a : Nat) : Nat := 3 * 2 ^ 28 + 2 ^ 26 + a

/-- MATCH_ID of an endpoint entry by its location (R255). -/
def epMatch (l : Nat) : Nat := 3 * 2 ^ 28 + (if inStash ≤ l then 2 ^ 25 + l % 1024 else l)

/-- A direct entry's result. -/
def State.directFound (a : Nat) (errs : List MemErr) (s : State) : Found × State :=
  match s.directRead a (dirErr errs a 0) (dirErr errs a 1) with
  | (some r, s1) => (.result r (directMatch a), s1)
  | (none, s1) => (.l3miss, s1)

/-- A result that names an anchor is replaced by that of the direct entry (R253). -/
def State.viaAnchor (r mid : Nat) (errs : List MemErr) (s : State) : Found × State :=
  if resKind r = 2 then s.directFound (bits r 15 0) errs else (.result r mid, s)

/-- The result and the counts of a lookup's answer (R260, R450). -/
def epAnswer (k : Pkt) (r : Option (Nat × EpEnt) × State) : Option (Nat × Nat) × State :=
  match r with
  | (none, s1) => (none, s1)
  | (some (l, e), s1) =>
    let s2 := s1.pmc0 k.slice 0x0F (some k.via) 1
    (some (e.result, epMatch l), if inStash ≤ l then s2.pmc0 k.slice 0x10 (some k.via) 1 else s2)

/-- The endpoint or direct lookup of a routed packet (R252, R257): none is a miss. -/
def State.epResult (k : Pkt) (cls : Nat) (errs : List MemErr) (s : State) : Option (Nat × Nat) × State :=
  let cfg := s.rd (slReg k.slice 0x400)
  let t := if bit cfg 1 then cls % 16 else bits cfg 5 2
  let hi := s.rd (profHi t)
  if !bit cfg 0 || !bit hi 13 then (none, s)
  else
    let key := s.profKey t cls k.key
    if bit hi 12 then
      match s.directFound (be key 0 2) errs with
      | (.result r mid, s1) => (some (r, mid), s1)
      | (_, s1) => (none, s1)
    else
      let s0 := s.pmc0 k.slice 0x0E (some k.via) 1
      epAnswer k (s0.epLookup (epEntry t key 0) (errsOf .ep errs))

/-- The LPM lookup of a routed packet (R252, R281). -/
def State.lpmResult (k : Pkt) (cls : Nat) (rows : List RowErr) (s : State) : Found × State :=
  if !bit (s.rd (slReg k.slice 0x400)) 6 then (.l3miss, s)
  else match s.lpmSearch k.slice cls k.key rows with
    | (none, s1) => (.err, s1)
    | (some none, s1) => (.l3miss, s1)
    | (some (some (row, e)), s1) =>
      (.result e.result (3 * 2 ^ 28 + 2 * 2 ^ 26 + lpmResult0 row), s1.pmc0 k.slice 0x11 (some k.via) 1)

/-- The packet is routed (R252). -/
def State.routed (s : State) (k : Pkt) (asL2 : Bool) : Bool :=
  !asL2 && decide (be k.bytes 0 6 = s.portSa k.via)
    && (decide (be k.key 16 2 = 0x0800) || decide (be k.key 16 2 = 0x86DD))

/-- The VID of a packet: the outer VID of key bytes 12 and 13, or its port's PVID when it is untagged. -/
def State.vidOf (s : State) (k : Pkt) : Nat :=
  if tagged k.bytes then bits (be k.key 12 2) 11 0 else bits (s.rd (ptReg k.via 0x1C)) 11 0

/-- The forwarding lookups of a packet (R252, R253). -/
def State.forward (k : Pkt) (asL2 : Bool) (cls : Nat) (errs : List MemErr) (rows : List RowErr) (s : State) :
    Found × State :=
  if s.routed k asL2 then
    match s.epResult k cls errs with
    | (some (r, mid), s1) => s1.viaAnchor r mid errs
    | (none, s1) =>
      match s1.lpmResult k cls rows with
      | (.result r mid, s2) => s2.viaAnchor r mid errs
      | x => x
  else
    let s1 := s.l2Check k.slice (s.vidOf k) (be k.bytes 0 6) (errsOf .l2 errs)
    match s1.l2Find k.slice (s.vidOf k) (be k.bytes 0 6) with
    | some (_, e) => (.result (e.port % 512) 0xFFFFFFFF, s1)
    | none => (.l2miss, (s1.l2Count k.slice 7).pmc0 k.slice 0x12 (some k.via) 1)

/-- Where a packet goes. -/
inductive Dest
  | port (p : Nat) (chan : Option Nat)
  /-- To the host: CPU queue, REASON, MATCH_ID. -/
  | trap (q reason mid : Nat)
  /-- Dropped for a reason of R363. -/
  | drop (r : Nat)
  deriving DecidableEq, Repr

/-- The destination that an argument of KIND PORT names (R254). -/
def argPort (arg : Nat) : Dest := .port (bits arg 8 0) (if bit arg 24 then some (bits arg 23 9) else none)

/-- A member of an ECMP group (R295 to R297). -/
def State.groupDest (k : Pkt) (g : Nat) (errs : List MemErr) (s : State) : Dest × State :=
  match s.ecmpPick k.slice g k.key k.via (errsOf .ecmp errs) with
  | (none, s1) => (.drop 0x0E, s1)
  | (some (m, w), s1) =>
    (if bits w 30 28 = 4 then .trap (bits w 5 0) 1 (3 * 2 ^ 28 + 3 * 2 ^ 26 + m) else argPort (bits w 24 0), s1)

/-- The destination that the tables' answer gives (R252 to R254), misses going to the host with REASON ACTION and no
MATCH_ID, or dropped. -/
def State.foundDest (k : Pkt) (f : Found) (errs : List MemErr) (s : State) : Dest × State :=
  let miss := s.rd (slReg k.slice 0x404)
  match f with
  | .err => (.drop 0x0F, s)
  | .l3miss => (if bit miss 6 then .trap (bits miss 5 0) 1 0xFFFFFFFF else .drop 0x0C, s)
  | .l2miss => (if bit miss 14 then .trap (bits miss 13 8) 1 0xFFFFFFFF else .drop 0x0D, s)
  | .result r mid =>
    match resKind r with
    | 0 => (argPort (bits r 24 0), s)
    | 1 => s.groupDest k (bits r 11 0) errs
    | 3 => (.drop 0x0B, s)
    | _ => (.trap (bits r 5 0) 1 mid, s)

/-- The class that a forwarding result sets (R254). -/
def foundTc : Found → Option Nat
  | .result r _ => if bit r 29 then some (bits r 32 30) else none
  | _ => none

/-- The destination under the action words (R214): DROP, then TRAP, then REDIRECT or ECMP in place of the tables' answer;
SET_CHANNEL names the channel. -/
def State.destOf (k : Pkt) (ws : List (Nat × Nat)) (f : Found) (errs : List MemErr) (s : State) : Dest × State :=
  if (lastOp 1 ws).isSome then (.drop 0x0A, s)
  else match lastOp 2 ws with
    | some (q, mid) => (.trap q 1 mid, s)
    | none =>
      let (d, s1) := match lastDest ws with
        | some (5, p) => (Dest.port p none, s)
        | some (_, g) => s.groupDest k g errs
        | none => s.foundDest k f errs
      match d, lastOp 0xA ws with
      | .port p _, some (c, _) => (.port p (some c), s1)
      | _, _ => (d, s1)

/-- The class of a packet: SET_TC, else that of the forwarding result in use, else TC0 (R213, R254). -/
def tcOf (ws : List (Nat × Nat)) (f : Found) : Nat :=
  match lastOp 4 ws with
  | some (t, _) => t
  | none => if (lastDest ws).isSome then 0 else (foundTc f).getD 0

/-! ## Policing (R382 to R386) -/

/-- The outermost IP header recorded. -/
def outerIp (hs : List Hdr) : Option Hdr := hs.find? fun h => h.kind = 6 ∨ h.kind = 7

/-- The TOS or traffic class byte of an IP header in a frame. -/
def tosOf (b : List Byte) (h : Hdr) : Nat :=
  if h.kind = 6 then byteAt b (h.off + 1) else bits (be b h.off 2) 11 4

/-- The input colour of a packet at a policer (R383). -/
def State.inColour (s : State) (k : Pkt) (x : Policer) : Nat :=
  if !bit x.mode 2 then 0
  else if bit x.mode 3 then
    match outerIp k.hdrs with
    | none => 0
    | some h =>
      let d := tosOf k.bytes h / 4
      bits (s.rd (slReg k.slice (0x600 + 4 * (d / 16)))) (2 * (d % 16) + 1) (2 * (d % 16))
  else if tagged k.bytes && bit (tci k.bytes) 12 then 1 else 0

/-- The length a policer takes (R384): the frame's when it is known, else MAX_FRAME of the ingress port. -/
def State.polLen (s : State) (k : Pkt) : Nat :=
  if k.endsAt ≤ s.now then k.bytes.length else bits (s.rd (ptReg k.via 0xC)) 13 0

/-- Add to count `j` of a policer (R386, R387). -/
def State.polAdd (key j n : Nat) (s : State) : State :=
  let i := key * 8 + j
  { s with sch.polCnt := s.sch.polCnt.set 0 i ((s.sch.polCnt.get 0 i + n) % 2 ^ 64) }

/-- Count a packet of a policer by colour. -/
def State.polCount (key colour len : Nat) (s : State) : State :=
  (s.polAdd key (2 * colour) 1).polAdd key (2 * colour + 1) len

/-- A packet passes a policer (R382 to R385): its colour, and the state. -/
def State.police (k : Pkt) (i : Nat) (s : State) : Nat × State :=
  let s0 := s.settlePolicers
  let x := (s0.policer k.slice i).fill s0.now
  let l := s0.polLen k
  let (c, y) := x.police (s0.inColour k x) l
  let s1 := s0.setPolicer k.slice i y
  let excess := l - k.bytes.length
  let back (a b : Nat) : Nat := if b < a then excess * 65536 else 0
  let s2 := if k.endsAt ≤ s1.now ∨ (x.tc = y.tc ∧ x.te = y.te) then s1
    else { s1 with sch.owed := s1.sch.owed ++ [(k.endsAt, k.slice * 16384 + i, back x.tc y.tc, back x.te y.te)] }
  let s3 := s2.polCount (k.slice * 16384 + i) c k.bytes.length
  let s4 := if c = 1 then s3.pmc0 k.slice 0x14 (some k.via) 1 else s3
  (c, if c = 2 then s4.pmc0 k.slice 0x15 (some k.via) 1 else s4)

end Sys2Proof.Machine
end

