-- ==== Sys2Proof/Machine/Pipeline.lean ====
section
/-! DEFINITION. A frame's way through its slice: admission (R23, R25, R43, R175, R354,
R407, R408), and the end of the lookup and action stages (R186, R214, R243, R448). -/
namespace Sys2Proof.Machine
open Host (Outcome)

/-! ## Admission -/

/-- Packets of a slice that wait for a slot, oldest first. -/
def State.waitingFor (s : State) (n : Nat) : List Pkt := s.core.pkts.filter fun k => k.slice = n ∧ k.stage = .waiting

/-- Heads of a slice that wait in its head queue beyond those for which a head buffer is free (R175). -/
def State.headsWaiting (s : State) (n : Nat) : Nat :=
  (s.core.pkts.filter fun k => k.slice = n ∧ k.stage = .headQ).length - s.freeBuffers n

/-- The head queue of a slice holds 32 heads (R175). -/
def State.headQFull (s : State) (n : Nat) : Bool := decide (32 ≤ s.headsWaiting n)

/-- The source of a packet in the rotation of R354: a port of the slice 0 to 31, injection 32, recirculation 33. -/
def Pkt.source (k : Pkt) : Nat := if k.pass ≠ 0 then 33 else if k.inject then 32 else k.via % 32

/-- The packet whose source is next in the rotation after source `x`, the oldest of its source (R354). -/
def nextInTurn (x : Nat) (ks : List Pkt) : Option Pkt :=
  ((List.range 34).map fun i => (x + 1 + i) % 34).findSome? fun src => ks.find? fun k => k.source = src

/-- A drop at admission takes no slot (R43, R175, R206). -/
def State.dropAtAdmission (r : Nat) (pick : Draw) (k : Pkt) (s : State) : State := s.dropPkt r pick k

/-- Frames that a slice drops as they arrive: in DRAIN those from a port or the host (R43), and all of them while no
Terrier is in service (R206). -/
def State.dropArrivals (n : Nat) (pick : Draw) (s : State) : State :=
  (s.waitingFor n).foldl (fun t k =>
    if s.mode = .drain ∧ k.pass = 0 then t.dropAtAdmission 2 pick k
    else if (s.slice n).inService = 0 then t.dropAtAdmission 1 pick k
    else t) s

/-- Pending samples note a packet that is admitted, for the first sixteen (R451). -/
def State.sampleAdmit (n id : Nat) (s : State) : State :=
  { s with tel.samples := s.tel.samples.map fun e =>
      if e.1 / 64 = n ∧ e.2.admitted.length < 16 then (e.1, { e.2 with admitted := e.2.admitted ++ [id] }) else e }

/-- A packet takes a slot (R23, R243, R448, R450). -/
def State.admitPkt (k : Pkt) (s : State) : State :=
  let n := k.slice
  let wait := decide (s.freeBuffers n ≤ (s.core.pkts.filter fun x => x.slice = n ∧ x.stage = .headQ).length)
  let k1 := if k.pass = 0 then { k with gen := s.gen.cur, inGen := true } else k
  let k2 := { k1 with stage := .headQ, waited := wait }
  let s1 := { s with core.pkts := (s.core.pkts.filter fun x : Pkt => x.id ≠ k.id) ++ [k2],
                     core.rot := s.core.rot.set 33 n k.source }
  let s2 := if k.pass = 0 then s1.enterGen s.gen.cur else s1
  let s3 := (((s2.sampleAdmit n k.id).slotFill n).pmc0 n 0x08 (some k.via) 1).pmc0 n 0x09 (some k.via) k.bytes.length
  let s4 := if k.tc7 then s3.pmc0 n 0x17 (some k.via) 1 else s3
  if wait then s4.pmc0 n 0x18 (some k.via) 1 else s4

/-- An empty slot: FRONT when nothing waited, BACK when something did (R448), withheld ones in their own counts too. -/
def State.emptySlot (n : Nat) (kind : SlotKind) (waited : Bool) (s : State) : State :=
  let s1 := s.slotCount n .total
  if !waited then s1.slotCount n .front
  else
    let s2 := s1.slotCount n .back
    match kind with
    | .withheldCap => s2.slotCount n .backCap
    | .withheldBank => s2.epCount 5
    | _ => s2

/-- The newest head in a slice's head queue that is not pre-classed (R408). -/
def State.newestPlainHead (s : State) (n : Nat) : Option Pkt :=
  (s.core.pkts.filter fun k => k.slice = n ∧ k.stage = .headQ ∧ k.tc7 = false).getLast?

/-- A slot goes to a packet, or is lost to a full head queue (R175, R408). -/
def State.giveSlot (k : Pkt) (pick : Draw) (kind : SlotKind) (s : State) : State :=
  let n := k.slice
  if !s.headQFull n then s.admitPkt k
  else if k.tc7 then
    match s.newestPlainHead n with
    | some x => ((s.slotLeave n .wastedDrop).dropPkt 1 pick x).admitPkt k
    | none => (s.dropAtAdmission 1 pick k).emptySlot n kind true
  else (s.dropAtAdmission 1 pick k).emptySlot n kind true

/-- The slice offers this kind of slot: it runs, and a reserved slot needs EVERY ≠ 0 (R407). -/
def State.offersSlot (s : State) (n : Nat) (kind : SlotKind) : Bool :=
  (decide (s.mode = .forward) || decide (s.mode = .drain) || decide (s.mode = .configure)) && !(s.slice n).parked
    && (match kind with
      | .reserved => decide (bits (s.rd (slReg n 0x700)) 6 0 ≠ 0)
      | _ => true)

/-- A slot's kind in its round of sixteen: of the slots that are neither reserved nor held by a bank queue, the cap
withholds as many sixteenths as its level says (R465, R468). DESIGN CHOICE: the last ones of each round. -/
def State.slotKind (s : State) (n : Nat) (kind : SlotKind) : SlotKind :=
  match kind with
  | .reserved => .reserved
  | .withheldBank => .withheldBank
  | _ => if 16 - s.pwr.withhold ≤ s.core.slotNo.get 0 n then .withheldCap else .ordinary

/-- The sixteenths of its slots that a slice admits: while it unparks, one more every RAMP_US ÷ 16 (R479). -/
def State.slotShare (s : State) (n : Nat) : Nat :=
  match s.pwr.ramps.find? fun r => r.isSlice ∧ r.unit = n ∧ r.cmd.isSome = true with
  | some r => (s.now - r.since) * 16 / s.rampNs
  | none => 16

/-- The packet that a slot of a kind takes from those that wait: reserved slots serve pre-classed frames first, withheld
ones serve those alone, and the rest goes round (R27, R354, R407, R465). -/
def State.slotChoice (s : State) (n : Nat) (kind : SlotKind) (ws : List Pkt) : Option Pkt :=
  let pre := ws.filter (·.tc7)
  let rot := s.core.rot.get 33 n
  match kind with
  | .ordinary => nextInTurn rot ws
  | .reserved => match pre with
    | k :: _ => some k
    | [] => nextInTurn rot ws
  | _ => nextInTurn rot pre

/-- Frames from a port for which no slot came in time, named by their places among the slice's waiting packets, are
dropped as they are when the Terriers cannot take them (R28). -/
def State.dropLost (n : Nat) (lost : List Nat) (pick : Draw) (s : State) : State :=
  let ws := s.waitingFor n
  (lost.eraseDups.filterMap fun i => ws[i]?).foldl
    (fun t k => if k.pass = 0 ∧ k.inject = false then t.dropAtAdmission 1 pick k else t) s

/-- One pipeline slot of a slice; an unparking slice leaves those beyond its share empty (R479). The waiting frames that
the slots could not take are dropped first (R28). -/
def execFrameAdmission (slice : Slice) (slot : SlotOffer) (pick : Draw) (s : State) : Outcome State Fault Refusal :=
  .next <|
    let n := slice.val
    if !s.offersSlot n slot.kind then s
    else
      let k := s.slotKind n slot.kind
      let j := s.core.slotNo.get 0 n
      let open' := decide (j < s.slotShare n)
      let s1 := { (s.dropArrivals n pick).dropLost n slot.lost pick with core.slotNo := s.core.slotNo.set 0 n ((j + 1) % 16) }
      let ws := s1.waitingFor n
      match if open' then s1.slotChoice n k ws else none with
      | some x => (s1.giveSlot x pick k).pfcUpdate
      | none => (s1.emptySlot n k (!ws.isEmpty)).pfcUpdate

/-! ## The end of the action stage -/

/-- Bytes 24 to 63 of a POSTCARD record (R446). -/
structure Card where
  delay : Nat
  egress : Nat
  cls : Nat
  flags : Nat
  qdepth : Nat
  shared : Nat
  flow : Nat
  dexSeq : Nat
  matchId : Nat
  len : Nat
  chan : Nat
  pflags : Nat
  skid : Nat
  sl : Nat
  trace : Nat
  deriving DecidableEq, Repr

/-- The record's bytes (R446). -/
def Card.bytes (c : Card) : List Byte :=
  toLE 4 c.delay ++ toLE 2 c.egress ++ toLE 1 c.cls ++ toLE 1 c.flags ++ toLE 4 c.qdepth ++ toLE 4 c.shared
    ++ toLE 4 c.flow ++ toLE 4 c.dexSeq ++ toLE 4 c.matchId ++ toLE 2 c.len ++ toLE 2 c.chan ++ toLE 2 c.pflags
    ++ toLE 1 c.skid ++ toLE 1 c.sl ++ toLE 3 c.trace ++ [0]

/-- CHANNEL of a record. -/
def chanField : Option Nat → Nat
  | some c => c % 2 ^ 15 + 2 ^ 15
  | none => 0

/-- The record of a counter sample that names packet `k` at position `skid` (R451). -/
def sampleCard (k : Pkt) (skid now : Nat) : Card :=
  { delay := k.inPort.getD 0xFFFF, egress := 0x8000,
    cls := b2n k.tc7 * 64 + k.fate.colour % 4 * 16 + k.gen % 2 * 8 + k.fate.tc % 8, flags := 0, qdepth := 0, shared := 0,
    flow := 0, dexSeq := 0, matchId := k.fate.matchId, len := if k.endsAt ≤ now then k.bytes.length - 4 else 0,
    chan := chanField k.fate.chan, pflags := k.flags, skid := skid, sl := k.slice, trace := 0 }

/-- Post a sample of counter key `key` (slice × 64 + counter), which is then no longer pending (R451). -/
def State.postSample (key : Nat) (pick : Draw) (c : Card) (s : State) : State :=
  (({ s with tel.samples := s.tel.samples.erase key }).sendPostcard 4 key s.devTime (key / 64) pick c.bytes).perfCount 6 1

/-- A packet leaves its slice's action stage: pending samples that noted it take it (R451). -/
def State.sampleLeave (k : Pkt) (pick : Draw) (s : State) : State :=
  (s.tel.samples.filter fun e => e.1 / 64 = k.slice ∧ e.2.admitted.contains k.id = true).foldl (fun t e =>
    t.postSample e.1 pick (sampleCard k (e.2.admitted.takeWhile (· ≠ k.id)).length t.now)) s

/-- The disposition of a parse (R186): 0 forward, 1 drop, 2 trap, 3 forward as L2. -/
def State.disposition (s : State) (k : Pkt) : Nat :=
  let v := s.rd (slReg k.slice 0x104)
  let ds := ((List.range 4).filter fun i => bit k.flags i).map fun i => bits v (2 * i + 1) (2 * i)
  if ds.contains 1 then 1 else if ds.contains 2 then 2 else if ds.contains 3 then 3 else 0

/-- What the lookup stage finds: the action words, the CLASS_ID of the trees, and the tables' answer; none for a packet
that it drops with CLASS_ERR (R225, R237). -/
def State.lookups (k : Pkt) (asL2 : Bool) (errs : List MemErr) (rows : List RowErr) (s : State) :
    Option (List (Nat × Nat) × Nat × Found) × State :=
  match s.walks k (errsOf .tree errs) (if asL2 then [] else s.packetTrees k) with
  | (none, s1) => (none, s1)
  | (some tw, s1) =>
    let cls := classOf 0 tw
    match s1.aclWords k cls rows 8 0 with
    | (none, s2) => (none, s2)
    | (some aw, s2) =>
      match s2.forward k asL2 cls errs rows with
      | (.err, s3) => (none, s3)
      | (f, s3) => (some (tw ++ aw, cls, f), s3)

/-- The source lookup of a received frame (R287). -/
def State.learnFrom (k : Pkt) (errs : List MemErr) (s : State) : State :=
  if k.pass = 0 ∧ k.inject = false ∧ bit (s.rd (ptReg k.via 0x1C)) 12 = true then
    s.l2Source k.slice k.via (s.vidOf k) (be k.bytes 6 6) (errsOf .l2 errs)
  else s

/-- A packet is dropped at the end of the action stage (R363, R448). -/
def State.actionDrop (r : Nat) (pick : Draw) (k : Pkt) (s : State) : State :=
  ((s.sampleLeave k pick).slotLeave k.slice .wastedDrop).dropPkt r pick k

/-- A packet leaves the action stage for a queue, with its fate fixed (R448). -/
def State.actionDone (pick : Draw) (k : Pkt) (f : Fate) (s : State) : State :=
  let recirc := match f.dest with
    | some p => s.isRecirc p
    | none => false
  let k1 := { k with stage := .looked, fate := f }
  ((s.sampleLeave k1 pick).slotLeave k.slice (if recirc then .wastedRecirc else .retired)).setPkt k1

/-- The copy that a COPY word sends to the host when the packet itself is dropped (R214): the drop is counted, and the
packet goes on to the host alone. -/
def State.dropKeepCopy (r : Nat) (pick : Draw) (q mid : Nat) (k : Pkt) (f : Fate) (s : State) : State :=
  let k1 := { k with fate := f }
  let s1 := s.dropCopy r pick { d := k1.desc, bytes := k1.bytes, held := k1.h.isSome }
  let k2 := { k1 with stage := .looked,
                      fate := { f with dest := none, trap := some (q, 1, mid), copy := none, mirror := none, gone := true } }
  ((s1.sampleLeave k2 pick).slotLeave k.slice .wastedDrop).setPkt k2

/-- The policer that the action words name colours the packet (R382 to R386): the colour, the policer's mode, and the count
of a red drop. -/
def State.policed (k : Pkt) (pol : Option (Nat × Nat)) (s : State) : Nat × Nat × State :=
  match pol with
  | none => (0, 0, s)
  | some x =>
    let r := s.police k x.1
    let mode := (r.2.policer k.slice x.1).mode
    (r.1, mode, if r.1 = 2 ∧ bit mode 4 = true then r.2.polAdd (k.slice * 16384 + x.1) 6 1 else r.2)

/-- The packet goes on with its fate, or is dropped: `red` when its policer drops it (R214, R386). -/
def State.settleFate (d : Dest) (red : Bool) (f : Fate) (pick : Draw) (k : Pkt) (s : State) : State :=
  match d with
  | .drop r =>
    match f.copy with
    | some x => if red then s.actionDrop r pick { k with fate := f } else s.dropKeepCopy r pick x.1 x.2 k f
    | none => s.actionDrop r pick { k with fate := f }
  | .trap q reason mid =>
    if red then s.actionDrop 0x10 pick { k with fate := f }
    else s.actionDone pick k { f with trap := some (q, reason, mid) }
  | .port p c =>
    if red then s.actionDrop 0x10 pick { k with fate := f }
    else s.actionDone pick k { f with dest := some p, chan := c }

/-- Fix a packet's fate from its words and destination (R214, R386). -/
def State.applyActions (k : Pkt) (ws : List (Nat × Nat)) (cls : Nat) (found : Found) (errs : List MemErr) (pick : Draw)
    (s : State) : State :=
  let r := s.destOf k ws found errs
  let x := r.2.policed k (lastOp 8 ws)
  let dropWord := (lastOp 1 ws).isSome
  let f : Fate :=
    { dest := none, tc := tcOf ws found, chan := none, trap := none,
      copy := if dropWord then none else lastOp 3 ws, gone := false,
      mirror := if dropWord then none else (lastOp 7 ws).map Prod.fst, colour := x.1,
      yelDei := bit x.2.1 5 && decide (x.1 ≠ 0), classId := classOf cls ws, matchId := lastMatch ws }
  x.2.2.settleFate r.1 (decide (x.1 = 2) && bit x.2.1 4) f pick k

/-- The packet that is next to leave a slice's lookup stage: results leave in the order of admission (R178). -/
def State.nextLookup (s : State) (n : Nat) : Option Pkt :=
  match (s.pktsOf n).find? fun k => k.stage ≠ .looked with
  | some k => if k.stage = .parsed then some k else none
  | none => none

/-- The lookup and action stages end for the oldest parsed packet of a slice (R186, R212 to R216, R252, R385). -/
def execLookupComplete (slice : Slice) (errs : List MemErr) (rows : List RowErr) (pick : Draw) (s : State) :
    Outcome State Fault Refusal :=
  .next <|
    if !s.bufLive then s
    else match s.nextLookup slice with
    | none => s
    | some k =>
      State.pfcUpdate <| match s.disposition k with
      | 1 => ((s.parseCount k.slice 6).learnFrom k errs).actionDrop 9 pick k
      | 2 =>
        let v := s.rd (slReg k.slice 0x104)
        ((s.parseCount k.slice 7).learnFrom k errs).actionDone pick k
          { Fate.zero with trap := some (bits v 13 8, 2, k.flags % 2 ^ 16) }
      | d =>
        let s1 := s.learnFrom k errs
        match s1.lookups k (d == 3) errs rows with
        | (none, s2) => s2.actionDrop 0x0F pick k
        | (some (ws, cls, f), s2) => s2.applyActions k ws cls f errs pick

end Sys2Proof.Machine
end

