-- ==== Sys2Proof/Machine/Ioam.lean ====
section
/-! DEFINITION. In-situ telemetry: the IOAM option of a frame, what the device does with it, and the node data it writes
(R437 to R444). -/
namespace Sys2Proof.Machine

/-! ## The option -/

/-- Offset of the IOAM option that the parse recorded, when it lies in the hop-by-hop header of the outermost IPv6 header
(R438). -/
def ioamOff (b : List Byte) (hs : List Hdr) : Option Nat :=
  match outerIp hs, hs.find? fun h => h.kind = 0x08, hs.find? fun h => h.kind = 0x0C with
  | some ip, some hb, some o =>
    if ip.kind = 7 ∧ hb.off = ip.off + 40 ∧ byteAt b (ip.off + 6) = 0 ∧ hb.off + 2 ≤ o.off
        ∧ o.off < hb.off + 8 * (byteAt b (hb.off + 1) + 1) then some o.off
    else none
  | _, _, _ => none

/-- The Namespace-ID is one the device acts on (R438). -/
def State.ioamNs (s : State) (ns : Nat) : Bool :=
  let v := s.rd 0x70104
  decide (ns = 0) || (bit v 16 && decide (ns = bits v 15 0))

/-- Length of trace-type bit `i`'s data in units of 4 bytes (R440, R441). -/
def traceUnit (i : Nat) : Nat :=
  if i ≤ 7 then 1 else if i ≤ 10 then 2 else if i = 11 ∨ i = 22 then 1 else 0

/-- The trace-type bits that are set, in order; bit 0 is the most significant of 24. -/
def traceBits (tt : Nat) : List Nat := (List.range 24).filter fun i => bit tt (23 - i)

/-- NodeLen that a trace type selects. -/
def traceLen (tt : Nat) : Nat := ((traceBits tt).map traceUnit).sum

/-- The trace header's word with NodeLen in [15:11], flags in [10:7] and RemainingLen in [6:0]. -/
def ioamWord (b : List Byte) (o : Nat) : Nat := be b (o + 6) 2

/-- NodeLen. -/
def ioamNode (b : List Byte) (o : Nat) : Nat := bits (ioamWord b o) 15 11

/-- RemainingLen. -/
def ioamLeft (b : List Byte) (o : Nat) : Nat := bits (ioamWord b o) 6 0

/-- IOAM-Trace-Type. -/
def ioamType (b : List Byte) (o : Nat) : Nat := be b (o + 8) 3

/-- What the device does with a frame's option. -/
inductive IoamAct
  /-- The frame has no option that R438 accepts. -/
  | none
  /-- The option is left unchanged, and counted (R438). -/
  | leave
  /-- Fill a pre-allocated option (R442). -/
  | fill (o : Nat)
  /-- Insert node data into an incremental option (R443). -/
  | insert (o : Nat)
  /-- Set the overflow flag (R442, R443). -/
  | overflow (o : Nat)
  /-- A postcard is due (R445). -/
  | postcard (o : Nat)
  deriving DecidableEq, Repr

/-- What the device does with the option of a frame `b` (R438 to R443). -/
def State.ioamAct (s : State) (b : List Byte) (hs : List Hdr) : IoamAct :=
  let cfg := s.rd 0x70100
  match (hs.find? fun h => h.kind = 0x0C).map Hdr.off with
  | none => .none
  | some o =>
    let n := ioamNode b o
    let room := decide (n ≤ ioamLeft b o)
    let lenOk := decide (n = traceLen (ioamType b o))
    if !s.ioamNs (be b (o + 4) 2) then .none
    else if (ioamOff b hs).isNone then .leave
    else match byteAt b (o + 3) with
      | 0 => if !bit cfg 0 || !lenOk then .leave else if room then .fill o else .overflow o
      | 1 =>
        if !bit cfg 0 || !lenOk || decide (n % 2 = 1) then .leave
        else if room && decide (byteAt b (o + 1) + 4 * n ≤ 255) && decide (b.length + 4 * n ≤ 10176) then .insert o
        else .overflow o
      | 4 => if bit cfg 1 then .postcard o else .leave
      | _ => .leave

/-! ## Node data (R440, R444) -/

/-- What node data is made of for a frame leaving port `p`. -/
structure NodeIn where
  d : Desc
  p : Nat
  /-- The egress timestamp in units of 2^-16 ns. -/
  at' : Nat
  used : Nat
  throttle : Bool
  hop : Nat
  deriving DecidableEq, Repr

/-- Transit delay in whole nanoseconds, rounded down (R437): below 0 after a step of device time backward. -/
def NodeIn.delay (x : NodeIn) : Int := ((x.at' : Int) - x.d.ts) / 65536

/-- This device has marked the frame (R444). -/
def Desc.ecnMarked (d : Desc) : Bool := d.ecn || d.marked

/-- The namespace word (R444). -/
def State.nsWord (s : State) (x : NodeIn) : Nat :=
  b2n x.throttle * 2 ^ 31 + b2n (decide (x.d.tc = 7)) * 2 ^ 30 + b2n x.d.ecnMarked * 2 ^ 29
    + b2n (decide (s.activeTe = .b)) * 2 ^ 28 + x.p / 32 % 16 * 2 ^ 24 + bits (s.rd 0x70110) 15 0

/-- The original ingress port of a frame in telemetry, 0xFFFF for none. -/
def Desc.inNo (d : Desc) : Nat := d.inPort.getD 0xFFFF

/-- The delay as trace-type bit 4 writes it (R440): all ones from 2^31 on, and a free value below 0. -/
def delayWord (d : Int) : Nat :=
  if d < 0 then (Config.negativeDelay (-d).toNat).toNat else if 2 ^ 31 ≤ d then 2 ^ 32 - 1 else d.toNat

/-- The data of one trace-type bit (R440). -/
def State.nodeField (s : State) (x : NodeIn) (i : Nat) : List Byte :=
  let lo := s.rd 0x70108
  match i with
  | 0 => toBE 4 (x.hop % 256 * 2 ^ 24 + bits lo 23 0)
  | 1 => toBE 2 x.d.inNo ++ toBE 2 x.p
  | 2 => toBE 4 (x.at' / 65536 / nsPerSec)
  | 3 => toBE 4 (x.at' / 65536 % nsPerSec)
  | 4 => toBE 4 (delayWord x.delay)
  | 5 => toBE 4 (s.nsWord x)
  | 6 => toBE 4 x.d.qdepth
  | 7 => toBE 4 (2 ^ 32 - 1)
  | 8 => toBE 8 (x.hop % 256 * 2 ^ 56 + bits (s.rd 0x7010C) 23 0 * 2 ^ 32 + lo)
  | 9 => toBE 4 x.d.inNo ++ toBE 4 x.p
  | 10 => toBE 4 (s.nsWord x) ++ toBE 4 (s.rd 0x70114)
  | 11 => toBE 4 x.used
  | 22 => toBE 4 0xFFFFFF
  | _ => []

/-- The node data of a trace type. -/
def State.nodeData (s : State) (x : NodeIn) (tt : Nat) : List Byte := (traceBits tt).flatMap (s.nodeField x)

/-- The trace header's word with RemainingLen lowered by `n`, and the overflow flag (flag bit 0) set where asked. -/
def ioamPut (b : List Byte) (o n : Nat) (ovf : Bool) : List Byte :=
  let w := setBits (ioamWord b o) 6 0 (ioamLeft b o - n)
  patch b (o + 6) (toBE 2 (if ovf then setBits w 10 10 1 else w))

/-- A pre-allocated option filled (R442). -/
def State.ioamFill (s : State) (x : NodeIn) (b : List Byte) (o : Nat) : List Byte :=
  let n := ioamNode b o
  let tt := ioamType b o
  patch (ioamPut b o n false) (o + 12 + (ioamLeft b o - n) * 4) (s.nodeData x tt)

/-- The space opened in an incremental option filled, with the lengths around it (R443): of the option, of the hop-by-hop
header at `hb`, of the IPv6 header at `ip`. -/
def State.ioamInsert (s : State) (x : NodeIn) (b : List Byte) (o hb ip : Nat) : List Byte :=
  let n := ioamNode b o
  let tt := ioamType b o
  let b1 := patch (ioamPut b o n false) (o + 12) (s.nodeData x tt)
  let b2 := patch b1 (o + 1) (toBE 1 (byteAt b (o + 1) + 4 * n))
  let b3 := patch b2 (hb + 1) (toBE 1 (byteAt b (hb + 1) + n / 2))
  patch b3 (ip + 4) (toBE 2 (be b (ip + 4) 2 + 4 * n))

/-- A header record after `n` bytes were put in at offset `at'`. -/
def shiftHdrs (hs : List Hdr) (at' n : Nat) : List Hdr :=
  hs.map fun h => if at' ≤ h.off then { h with off := h.off + n } else h

end Sys2Proof.Machine
end

