-- ==== Sys2Proof/Machine/Switch.lean ====
section
/-! DEFINITION. The choice of a frame's extent (R309 to R312) and the switch core at enqueue: ECN (R345 to R347), stream
replication and recovery (R425 to R428), mirrors, and the enqueue itself (R336 to R342, R417); and what keeps it going: PFC refresh, capture resume, and the queue timeouts (R350, R355, R362, R418). -/
namespace Sys2Proof.Machine
open Host (Outcome)

/-! ## Queue configuration (R334, R335) -/

/-- QUEUE_CFG (R334, R335), which may move the shared space (R348). -/
def execQueueCfg (p : HostPort) (n : Fin 64) (s : State) : Outcome State Fault Refusal :=
  .next <| (s.runCmd p n 0x52 anyRow
    (fun _ => [whole 8 1, named 9 1 0xF, named 10 2 0x1FF, named 12 1 7, named 13 1 0xF,
      named 14 2 0x7FFF, named 16 4 0xFFFFFF]) fun c s =>
    let kind := c.arg 8 1
    let opts := c.arg 9 1
    let port := c.arg 10 2
    let ch := c.arg 14 2
    let key := if kind = 1 then chanKey ch else classKey port (c.arg 12 1)
    let qm := c.arg 16 4
    let holds := !(s.queue key).isEmpty
    let classHolds := (s.members key).any fun k => !(s.queue k).isEmpty
    if 1 < kind ∨ s.inactive port ∨ (kind = 0 ∧ (bit opts 0 || bit opts 1) = true)
        ∨ (bit opts 0 && bit opts 1) = true ∨ (bit opts 3 = true ∧ (qm < 64 ∨ 1048576 < qm)) then
      .done .badArg 1 0 s
    else if (bit opts 0 || bit opts 1) && holds then .done .badArg 2 0 s
    else if bit opts 2 && decide (kind = 0) && classHolds then .done .badArg 3 0 s
    else
      let s1 := if bit opts 2 then { s with core.prof := s.core.prof.set 0 key (c.arg 13 1) } else s
      if s1.sharedSpace < 0 ∧ s1.sharedSpace < s.sharedSpace then .refuse .noRoom s
      else
        let s2 := if bit opts 3 then { s1 with core.quantum := s1.core.quantum.set 2048 key qm } else s1
        let s3 := if bit opts 0 then
            { s2 with core.bind := s2.core.bind.set 0 ch (classKey port (c.arg 12 1) + 1) }
          else if bit opts 1 then { s2 with core.bind := s2.core.bind.set 0 ch 0 }
          else s2
        .done .ok (s3.core.prof.get 0 key)
          (s3.ecnDepth (if kind = 1 then [key] else s3.members key)) s3).pfcUpdate

/-! ## PFC refresh (R350) -/

/-- Half of TIME in picoseconds at a port's rate (R161, R350). -/
def State.refreshPs (s : State) (p : Nat) : Nat :=
  if s.rate p = 0 then 0 else s.pfcTime / 2 * 512000 / s.rate p

/-- A port's entities have stayed in XOFF for half of TIME since its last frame (R350). -/
def execPfcRefresh (port : Port) (s : State) : Outcome State Fault Refusal :=
  .next <|
    let p := port.val
    let due := (s.xoffGroups p).filter fun g =>
      decide (s.core.xoff.get 0 (p * 8 + g) + s.refreshPs p ≤ s.now * 1000 + 1)
    let fc := bits (s.macCfg p) 15 14
    if due.isEmpty || decide (fc = 0) then s
    else
      let s1 := due.foldl (fun t g => { t with core.xoff := t.core.xoff.put (p * 8 + g) (s.now * 1000 + 1) }) s
      if fc = 2 then
        let ps := s.pcpsOf p due
        if ps.isEmpty then s1 else s1.sendMac p (pfcPayload ps ps s.pfcTime)
      else s1.sendMac p (toBE 2 1 ++ toBE 2 s.pfcTime)

/-! ## The choice of the extent (R309 to R312) -/

/-- The ingress entity of a packet: that of a frame received on a port (R318, R319). -/
def State.entityOf (s : State) (k : Pkt) : Option Nat :=
  if k.pass = 0 ∧ k.inject = false then some (k.via * 8 + s.pgOf k.via (pcpOf k.bytes)) else none

/-- The queue a packet is charged at: its class queue, or its CPU queue. -/
def Fate.queue (f : Fate) : Nat :=
  match f.dest, f.trap with
  | some p, _ => classKey p f.tc
  | none, some (q, _, _) => cpuKey q
  | none, none => cpuKey 0

/-- The oldest packet of a receive port that waits for its extent. -/
def State.needsExtent (s : State) (p : Nat) : Option Pkt :=
  s.core.pkts.find? fun k => k.via = p ∧ k.h = none ∧ k.stage = .looked ∧ k.extAt ≤ s.now

/-- A port's oldest packet with a fate takes its extent once its length is known or its 1,729th byte has arrived (R309 to
R312). A frame that has ended with a fault is dropped (R342). -/
def execExtentChoice (port : Port) (pos : Nat) (lost : List Nat) (s : State) : Outcome State Fault Refusal :=
  .next <|
    let pick : Draw := { pos := pos, lost := lost }
    if !s.bufLive then s
    else match s.needsExtent port with
    | none => s
    | some k =>
      match s.take (pickLen k.bytes) k.tc7 (s.entityOf k) k.fate.queue k.owner pick k.bytes with
      | (.noExtent, s1) => (s1.dropPkt 4 pick k).pfcUpdate
      | (.bufLimit, s1) => (s1.dropPkt 5 pick k).pfcUpdate
      | (.got h, s1) =>
        let k1 := { k with h := some h }
        (if (pickLen k.bytes).isSome && decide (k.late ≠ .none) then (s1.setPkt k1).dropPkt 8 pick k1
          else s1.setPkt k1).pfcUpdate

/-! ## ECN (R345 to R347) -/

/-- The ECN field of an IP header in a frame. -/
def ecnField (b : List Byte) (h : Hdr) : Nat := tosOf b h % 4

/-- One test at depth `d` with random value `r` (R346). -/
def State.ecnTest (s : State) (prof d r : Nat) : Bool :=
  let v := s.rd (0x90100 + 8 * prof)
  let kmin := bits v 15 0
  let kmax := bits (s.rd (0x90104 + 8 * prof)) 15 0
  let pmax := if bits v 23 16 = 0 then 256 else bits v 23 16
  if !bit v 24 then false
  else if bit v 25 && decide (kmin < kmax) then
    decide (kmax ≤ d) || (decide (kmin ≤ d) && decide (r < pmax * 256 * (d - kmin) / (kmax - kmin)))
  else decide (kmin ≤ d)

/-- Mark a frame at enqueue where a test says so (R345, R347). -/
def State.ecnMark (via r1 r2 : Nat) (d : Desc) (b : List Byte) (s : State) : Desc × State :=
  let q := classKey d.port d.tc
  let byClass := s.ecnTest (s.qprofIdx q) (s.ecnDepth (s.members q)) r1
  let byChan := match d.chan with
    | some c => s.ecnTest (s.core.prof.get 0 (chanKey c)) (s.ecnDepth [chanKey c]) r2
    | none => false
  match outerIp d.hdrs with
  | none => (d, s)
  | some h =>
    if byClass || byChan then
      match ecnField b h with
      | 0 => (d, s)
      | 3 => (d, s.coreCount 4 1)
      | _ => ({ d with ecn := true }, (s.coreCount 3 1).pmc0 d.sl 0x16 (some via) 1)
    else (d, s)

/-! ## Streams (R425 to R428) -/

/-- The stream of a frame queued in TC7 (R425). -/
def State.streamOf (s : State) (d : Desc) : Option Nat :=
  let v := s.rd 0x500010
  let base := bits v 15 0
  if bit v 16 && decide (d.tc = 7) && decide (base ≤ d.classId) && decide (d.classId < base + 1024) then
    some (d.classId - base)
  else none

/-- CAL_FRER_CTL of a stream. -/
def State.frerCtl (s : State) (i : Nat) : Nat := s.rd (0x504000 + 16 * i)

/-- FUNC of a stream: 1 GENERATE, 2 RECOVER, 3 RELAY. -/
def State.frerFunc (s : State) (i : Nat) : Nat := bits (s.frerCtl i) 1 0

/-- What vector recovery decides. -/
inductive Recovered
  | pass
  | duplicate
  | rogue
  deriving DecidableEq, Repr

/-- The vector recovery algorithm of IEEE 802.1CB for a number within a window of `h` (R427): the verdict, the numbers
that left the window unseen, and the stream. -/
def Frer.recover (h seq now : Nat) (f : Frer) : Recovered × Nat × Frer :=
  if f.takeAny then
    (.pass, 0, { seq := seq, passed := seq, takeAny := false, seen := true :: List.replicate (h - 1) false, lastPass := some now })
  else
    let up := (seq + 65536 - f.seq) % 65536
    let down := (f.seq + 65536 - seq) % 65536
    if up ≠ 0 ∧ up < 32768 then
      if h ≤ up then (.rogue, 0, f)
      else
        let lost := ((f.seen.drop (h - up)).filter fun b => !b).length
        (.pass, lost, { f with seq := seq, passed := seq, lastPass := some now,
                               seen := (true :: List.replicate (up - 1) false ++ f.seen).take h })
    else if h ≤ down then (.rogue, 0, f)
    else if f.seen.getD down false then (.duplicate, 0, f)
    else (.pass, 0, { f with passed := seq, seen := f.seen.set down true, lastPass := some now })

/-- Add to a count of a stream (R427). -/
def State.frerAdd (i k n : Nat) (s : State) : State := s.count (0x10000000 + (i * 8 + k) * 8) n

/-- A frame of a recovering stream: the drop reason, if any, and the state (R427). -/
def State.frerRecover (i : Nat) (b : List Byte) (s : State) : Option Nat × State :=
  if !hasRtag b then (none, s.frerAdd i 4 1)
  else
    let (v, lost, f) := (s.frer i).recover (bits (s.frerCtl i) 9 4) (rtagSeq b) s.now
    let s1 := (s.setFrer i f).frerAdd i 3 lost
    match v with
    | .pass => (none, s1.frerAdd i 0 1)
    | .duplicate => (some 0x18, s1.frerAdd i 1 1)
    | .rogue => (some 0x19, s1.frerAdd i 2 1)

/-- A generated number: the descriptor with its R-TAG, and the state (R426). -/
def State.frerGenerate (i : Nat) (b : List Byte) (d : Desc) (s : State) : Desc × State :=
  let f := s.frer i
  ({ d with rtag := some f.seq, outLen := if hasRtag b then d.outLen else d.outLen + 6 },
   (s.setFrer i { f with seq := (f.seq + 1) % 65536 }).frerAdd i 6 1)

/-! ## Placing a descriptor -/

/-- The key of the queue a descriptor goes to. -/
def Desc.key (d : Desc) : Nat :=
  match d.chan with
  | some c => chanKey c
  | none => classKey d.port d.tc

/-- A frame of known length whose gate could never pass it (R417): one that preemption could still carry needs a gate that
opens at all (R419). -/
def State.neverSent (s : State) (d : Desc) : Bool :=
  d.lenKnown s.now && s.fretNever d.port d.tc (if s.express d.port d.tc then d.outLen else 0)

/-- The first reason for which the core drops a frame before it looks at its stream (R336, R337, R355). -/
def State.enqueueRefusal (s : State) (d : Desc) : Option Nat :=
  if !s.isUp d.port then some 0x11
  else if (match d.chan with | some c => decide (s.core.bind.get 0 c ≠ classKey d.port d.tc + 1) | none => false) then
    some 0x12
  else if s.isRecirc d.port && decide (d.pass = bits (s.rd 0x90000) 2 0) then some 0x13
  else none

/-- The second copy of a stream's frame, written from the frame's tiles into an extent of its own (R302, R426). It is a
frame of its own for the port it goes to, but gives rise to no postcard (R445). -/
def State.splitCopy (i : Nat) (pick : Draw) (d : Desc) (b : List Byte) (s : State) : State :=
  let ctl := s.frerCtl i
  if !bit ctl 2 then s
  else
    let p := bits ctl 18 10
    let q := classKey p 7
    let e : Desc := { d with port := p, tc := 7, chan := none, via := none, second := true,
                             inGen := false, shared := none,
                             cookie := none, ecn := false }
    let o : Orig := { d := e, bytes := b, held := true }
    if !s.isUp p || s.isRecirc p then s.dropCopy 0x11 pick o
    else if s.neverSent e then s.dropCopy 0x1A pick o
    else
      let x := s.readTiles d.h d.owner b.length
      if x.1.isSome then x.2.countDrop 6 d.inPort
      else match x.2.take (if d.endsAt ≤ s.now then some b.length else none) d.tc7 none q d.owner pick b with
      | (.got h, s1) =>
        let f := { e with h := h }
        s1.offer q { f with cutThrough := s1.cuts f, qdepth := s1.ecnDepth (s1.members q) }
      | (.noExtent, s1) => s1.countDrop 4 d.inPort
      | (.bufLimit, s1) => s1.countDrop 5 d.inPort

/-- The extent that holds a packet is given back. -/
def State.giveBack (k : Pkt) (s : State) : State :=
  match k.h with
  | some old => (s.release old k.owner).2
  | none => s

/-- A frame that has grown by `n` bytes to `b` moves to the extent taken for it, or stays as it was. -/
def growTo (k : Pkt) (p o n : Nat) (b : List Byte) (r : Took × State) : Pkt × Nat × Bool × State :=
  match r with
  | (.got h, s1) =>
    ({ k with h := some h, owner := tag 4 (p / 32), bytes := b, hdrs := shiftHdrs k.hdrs (o + 12) n }, n, false,
      (s1.giveBack k).perfCount 1 1)
  | (_, s1) => (k, 0, true, s1.perfCount 2 1)

/-- A packet's frame grows by the node data of its incremental option (R443): the packet, the descriptor's growth and
overflow flag, and the state. -/
def State.growFrame (k : Pkt) (p : Nat) (pick : Draw) (s : State) : Pkt × Nat × Bool × State :=
  match if s.isRecirc p then IoamAct.none else s.ioamAct k.bytes k.hdrs with
  | .insert o =>
    let n := 4 * ioamNode k.bytes o
    let b := insertAt k.bytes (o + 12) (List.replicate n 0)
    growTo k p o n b (s.take (some b.length) k.tc7 none (classKey p k.fate.tc) (tag 4 (p / 32)) pick b)
  | .overflow o => if byteAt k.bytes (o + 3) = 1 then (k, 0, true, s.perfCount 2 1) else (k, 0, false, s)
  | _ => (k, 0, false, s)

/-- The frame of a packet is store-and-forward for an incremental option (R443). -/
def State.growsFrame (s : State) (k : Pkt) (p : Nat) : Bool :=
  !s.isRecirc p && (match s.ioamAct k.bytes k.hdrs with | .insert _ => true | _ => false)

/-- Before a packet's frame is written anew: its extent is released and its tiles are read. The reason for which the frame is
dropped instead (R302, R315). -/
def State.rewriteFault (k : Pkt) (s : State) : Option Nat × State :=
  match k.h with
  | none => (none, s)
  | some h => match s.buf.check h k.owner with
    | some r => (some 7, (s.logRefused h k.owner r).bpmCount 10 1)
    | none =>
      let x := s.readTiles h k.owner k.bytes.length
      (if x.1.isSome then some 6 else none, x.2)

/-- A copy of a packet for the host (R214): the word's CPU queue and MATCH_ID. -/
def State.hostCopy (k : Pkt) (q mid : Nat) (s : State) : State :=
  match k.h with
  | some h => (s.addRef h).offer (cpuKey q)
      { k.desc with port := 512, cpuQ := q, reason := 1, matchId := mid, copy := true, chan := none }
  | none => s

/-- The mirror copies of a frame that is enqueued (R357): its MIRROR word's, and its port's in its first pass. `k` is the
packet as it came, whose extent is gone when `held` is false (R443): copies are never changed (R438). -/
def State.enqueueMirrors (k : Pkt) (d : Desc) (held : Bool) (egress : Option Nat) (pick : Draw) (s : State) : State :=
  let o : Orig :=
    { d := { d with h := if held then d.h else k.h.getD 0, owner := k.owner, len := k.bytes.length },
      bytes := k.bytes, held := held }
  let bad := decide (k.late ≠ .none)
  let s1 := match k.fate.mirror with
    | some m => s.mirrorCopy m 1 egress d.ts 0 pick bad o
    | none => s
  let v := s1.rd (ptReg k.via 0x28)
  if k.pass = 0 ∧ bit v 13 = true ∧ k.fate.gone = false then s1.mirrorCopy (bits v 12 9) 1 egress d.ts 0 pick bad o
  else s1

/-- The descriptor of a packet bound for a port. -/
def Pkt.portDesc (k : Pkt) (p : Nat) : Desc := { k.desc with port := p, chan := k.fate.chan }

/-- A packet leaves the slice for good. -/
def State.leaveSlice (k : Pkt) (recirc : Bool) (s : State) : State :=
  let s1 := s.dropPktOut k
  if k.inGen && !recirc then s1.leaveGen k.gen else s1

/-- Sequence recovery of a frame whose stream recovers: why it drops the frame, if it does (R427). -/
def State.frerFirst (func i : Nat) (b : List Byte) (s : State) : Option Nat × State :=
  if func = 2 then s.frerRecover i b else (none, s)

/-- Sequence generation for a frame whose stream generates (R426). -/
def State.frerTag (func i : Nat) (b : List Byte) (d : Desc) (s : State) : Desc × State :=
  if func = 1 then s.frerGenerate i b d else (d, s)

/-- The copy that a stream that splits makes (R425). -/
def State.frerSplit (func i : Nat) (pick : Draw) (d : Desc) (b : List Byte) (s : State) : State :=
  if func = 1 ∨ func = 3 then s.splitCopy i pick d b else s

/-- The frame is queued with its mirrors, marks and copies, and leaves its slice (R336, R345, R357, R425): `k0` is the
packet before its frame grew. -/
def State.putFrame (func i : Nat) (k0 k : Pkt) (d1 : Desc) (r1 r2 : Nat) (pick : Draw) (s1 : State) : State :=
  let x2 := s1.frerTag func i k.bytes d1
  let x3 := x2.2.ecnMark k.via r1 r2 x2.1 k.bytes
  let s3 := x3.2
  let recirc := s3.isRecirc x3.1.port
  let d4 := { x3.1 with qdepth := s3.ecnDepth (s3.members (classKey x3.1.port x3.1.tc)), inGen := k.inGen && recirc }
  let s4 := s3.enqueueMirrors k0 d4 (decide (k0.h = k.h)) (some x3.1.port) pick
  let s5 := (s4.push d4.key d4).frerSplit func i pick d4 k.bytes
  s5.leaveSlice k recirc

/-- The frame is queued unless its gate can never pass it (R417). -/
def State.placeRest (func i : Nat) (k0 k : Pkt) (d : Desc) (r1 r2 : Nat) (pick : Draw) (s1 : State) : State :=
  let pop := decide (func = 2) && bit (s1.frerCtl i) 3 && hasRtag k.bytes
  let adds := decide (func = 1) && !hasRtag k.bytes
  let d1 := { d with pop := pop, outLen := if pop then d.outLen - 6 else d.outLen }
  if s1.neverSent { d1 with outLen := if adds then d1.outLen + 6 else d1.outLen } then s1.dropPkt 0x1A pick k
  else s1.putFrame func i k0 k d1 r1 r2 pick

/-- Place a frame in its port's queue, after its stream and with its marks and copies (R338, R345, R417, R425, R426). -/
def State.placeFrame (k0 k : Pkt) (d : Desc) (r1 r2 : Nat) (pick : Draw) (s : State) : State :=
  let st := s.streamOf d
  let func := match st with
    | some i => s.frerFunc i
    | none => 0
  let i := st.getD 0
  let x := s.frerFirst func i k.bytes
  match x.1 with
  | some r => x.2.dropPkt r pick k
  | none => x.2.placeRest func i k0 k d r1 r2 pick

/-- Grow a packet's frame where its option asks for it (R443), and place it. -/
def State.growAndPlace (k : Pkt) (p : Nat) (cut : Bool) (r1 r2 : Nat) (pick : Draw) (s : State) : State :=
  let g := if s.growsFrame k p then s.rewriteFault k else (none, s)
  match g.1 with
  | some r => g.2.dropPkt r pick (if r = 7 then { k with h := none } else k)
  | none =>
    let (k1, n, ovf, s1) := g.2.growFrame k p pick
    s1.placeFrame k k1 { k1.portDesc p with len := k.bytes.length, grow := n, ovf := ovf, cutThrough := cut } r1 r2 pick

/-- Enqueue a packet bound for a port. -/
def State.enqueuePort (k : Pkt) (p r1 r2 : Nat) (pick : Draw) (s : State) : State :=
  let d := k.portDesc p
  let cut := s.cuts d && !s.growsFrame k p
  if !cut && decide (s.now < k.endsAt) then s
  else if k.endsAt ≤ s.now ∧ k.late ≠ .none then s.dropPkt 8 pick k
  else
    let s0 := match k.fate.copy with
      | some (q, mid) => s.hostCopy k q mid
      | none => s
    match s0.enqueueRefusal d with
    | some r => s0.dropPkt r pick k
    | none => s0.growAndPlace k p cut r1 r2 pick

/-- Enqueue a packet bound for the host alone, whole and with a good FCS (R107, R340). -/
def State.enqueueHost (k : Pkt) (q reason mid : Nat) (pick : Draw) (s : State) : State :=
  if s.now < k.endsAt then s
  else if k.late ≠ .none then s.dropPkt 8 pick k
  else
    let d := { k.desc with port := 512, cpuQ := q, reason := reason, matchId := mid, chan := none }
    let s0 := match k.fate.copy with
      | some (cq, cm) => s.hostCopy k cq cm
      | none => s
    let s1 := s0.enqueueMirrors k d true none pick
    (s1.push (cpuKey q) d).leaveSlice k false

/-- The packet of an ingress port that is next to be enqueued, in the order of admission (R338). -/
def State.nextEnqueue (s : State) (p : Nat) (inject : Bool) : Option Pkt :=
  match s.core.pkts.find? fun k => k.via = p ∧ k.inject = inject ∧ k.stage ≠ .waiting with
  | some k => if k.stage = .looked ∧ k.h.isSome then some k else none
  | none => none

/-- The core enqueues the next descriptor of an ingress port (R336 to R347, R357, R417, R425), and flow control follows
(R348). `ups` are the upsets that the world brings first. -/
def execEnqueue (port : Port) (inject : Bool) (rand : EcnDraw) (ups : Upset) (pick : Draw) (s : State) :
    Outcome State Fault Refusal :=
  .next <|
    let s0 := s.upset ups
    if !s.bufLive then s0
    else
      let s1 := s0.bringCopies pick
      State.pfcUpdate <| match s1.nextEnqueue port inject with
      | none => s1
      | some k =>
        match k.fate.dest, k.fate.trap with
        | some p, _ => s1.enqueuePort k p rand.cls.toNat rand.chan.toNat pick
        | none, some (q, reason, mid) => s1.enqueueHost k q reason mid pick
        | none, none => s1

/-! ## Capture resume (R362) -/

/-- For 100 µs without a break a session's rings have been half free and the backlog low: it leaves fallback (R362). -/
def execCaptureResume (session : Fin 16) (s : State) : Outcome State Fault Refusal :=
  .next <|
    let m := session.val
    let s1 := s.noteRoom
    let x := s1.mir m
    if x.fallback && s1.elapsed s1.core.roomSince 100000 then
      (s1.setMir m { x with fallback := false, afterFb := true }).raise 0x800 2 .ce
        (packItems [(4, m), (32, satTo (2 ^ 32 - 1) x.fbSent)])
    else s1

/-! ## Frames that wait too long (R355, R417, R418) -/

/-- Drop the head of a queue for a reason. -/
def State.dropHead (k r : Nat) (pick : Draw) (s : State) : State :=
  match s.queue k with
  | [] => s
  | d :: rest => (s.leaveQueue k rest).dropDesc r pick d

/-- The waits of a queue's head exceeds a limit in ns. -/
def State.headWaited (s : State) (k limit : Nat) : Bool :=
  match s.queue k with
  | [] => false
  | d :: _ => decide (limit < s.now - d.enqAt)

/-- Drop the heads of a queue while they have waited longer than a limit. -/
def State.dropStale (k limit r : Nat) (pick : Draw) : Nat → State → State
  | 0, s => s
  | n + 1, s => if s.headWaited k limit then (s.dropHead k r pick).dropStale k limit r pick n else s

/-- Frames of a recirculation port that have waited longer than TIMEOUT_US are dropped (R355). -/
def execRecircTimeout (port : Port) (pick : Draw) (s : State) : Outcome State Fault Refusal :=
  .next <|
    if s.bufLive && s.isRecirc port then
      let limit := bits (s.rd 0x90000) 25 16 * 1000
      (((List.range 8).flatMap fun tc => s.members (classKey port tc)).foldl
        (fun t k => t.dropStale k limit 0x14 pick (t.queue k).length) s).pfcUpdate
    else s

/-- TC7 frames of a port that have been queued for longer than MAX_WAIT are dropped (R418). -/
def execTc7Stale (port : Port) (pick : Draw) (s : State) : Outcome State Fault Refusal :=
  .next <|
    let limit := bits (s.rd (ptReg port 0x180)) 31 16 * 1000
    if limit = 0 ∨ s.bufLive = false then s
    else ((s.members (classKey port 7)).foldl (fun t k => t.dropStale k limit 0x1B pick (t.queue k).length) s).pfcUpdate

/-- Drop the heads of a member that its calendar can never pass, as they reach the head (R417). -/
def State.dropNever (k : Nat) (pick : Draw) : Nat → State → State
  | 0, s => s
  | n + 1, s =>
    match s.queue k with
    | d :: _ => if s.neverSent d then (s.dropHead k 0x1A pick).dropNever k pick n else s
    | [] => s

/-- The frames of a queue whose length has become known are judged once, wherever they stand in it (R417). -/
def State.judgeKnown (k : Nat) (pick : Draw) (s : State) : State :=
  let due := fun (d : Desc) => d.unjudged && d.lenKnown s.now
  if (s.queue k).any due then
    let bad := fun (d : Desc) => due d && s.neverSent d
    let kept := ((s.queue k).filter fun d => !bad d).map fun (d : Desc) => if due d then { d with unjudged := false } else d
    ((s.queue k).filter bad).foldl (fun t d => t.dropDesc 0x1A pick d) (s.leaveQueue k kept)
  else s

/-- A port's scheduler chooses its next frame (R369 to R373), once the copies whose frames have arrived are in their queues
(R359), the frames that could never be sent are gone (R417), and what is due to a preemptable frame is done (R419). -/
def execSchedulerChoice (port : Port) (pick : Draw) (s : State) : Outcome State Fault Refusal :=
  .next <|
    if !s.bufLive then s
    else
      let s0 := s.bringCopies pick
      let s1 := ((List.range 8).flatMap fun tc => s0.members (classKey port tc)).foldl
        (fun t k => (t.judgeKnown k pick).dropNever k pick (t.queue k).length) s0
      ((s1.lineUpdate port).chooseNext port).pfcUpdate

end Sys2Proof.Machine
end

