-- ==== Sys2Proof/Machine/Pool.lean ====
section
/-! DEFINITION. The pool manager's commands: host-owned extents (R322 to R325) and the commit of a layout (R308), each with
the flow control that follows a change of the charges (R348). -/
namespace Sys2Proof.Machine
open Host (Outcome)

/-! ## Host-owned extents (R322 to R325) -/

/-- One extent for the host from pool `k` or a larger one, beyond RSV7 and charged to the shared space (R322): the
extent, if it can be had, and the pools whose last extent another request won (R311). -/
def State.hostTake (exact : Bool) (pick : Draw) : Nat → Nat → State → Option (Nat × State) × Nat
  | 0, _, _ => (none, 0)
  | n + 1, k, s =>
    let lost := pick.lost.contains k && s.lastOne k false
    if 3 < k then (none, 0)
    else if s.poolServes k false && !lost then
      (if ((s.buf.used + poolSize k : Nat) : Int) ≤ s.sharedSpace then
        (s.buf.hand k pick.pos).map fun h => (h, s.enterExt h 0x3FF .host [])
      else none, 0)
    else
      let r := if exact then (none, 0) else s.hostTake exact pick n (k + 1)
      (r.1, r.2 + b2n (s.poolServes k false && lost))

/-- `c` extents for the host, all or nothing (R322), and the arbitrations lost (R311). -/
def State.hostTakes (exact : Bool) (k : Nat) (picks : List Draw) : Nat → State → Option (List Nat × State) × Nat
  | 0, s => (some ([], s), 0)
  | c + 1, s =>
    let x := s.hostTake exact (picks.getD c Draw.zero) 5 k
    match x.1 with
    | none => (none, x.2)
    | some (h, s1) =>
      let y := (if hPool h = k then s1 else s1.bpmCount 1 1).hostTakes exact k picks c
      (y.1.map fun r => (h :: r.1, r.2), x.2 + y.2)

/-- The patterns are written over a tile of an extent, 0xAA last, and read back with their CRC checked: a tile that fails
is retired and counted unless no spare is left for it (R323, R330). -/
def testTile (h : Nat) (failed : List Nat) (a : Nat × State) (t : Nat) : Nat × State :=
  if a.2.buf.withdrawn.get 0 h ≠ 0 then a
  else
    let x := ({ a.2 with buf := a.2.buf.writeTile t (List.replicate 256 0xAA) }).injected 0x701 0 t
    if failed.contains t || x.1.isSome then
      let s1 := x.2.retireTile h t (!failed.contains t)
      (a.1 + b2n (decide (s1.buf.withdrawn.get 0 h = 0)), s1)
    else (a.1, x.2)

/-- TEST: the tiles of `failed` that lie in the extents taken are retired, the extents staying allocated (R323). -/
def State.testExtents (hs failed : List Nat) (s : State) : Nat × State :=
  hs.foldl (fun acc h => (tilesOf h).foldl (testTile h failed) acc) (0, s)

/-- BPM_ALLOC (R322, R323): `failed` are the tiles whose pattern test fails. -/
def execBpmAlloc (p : HostPort) (n : Fin 64) (picks : List Draw) (failed : List Nat) (s : State) :
    Outcome State Fault Refusal :=
  .next <| (s.runCmd p n 0x68 anyRow
    (fun _ => [named 8 1 3, named 9 1 3, whole 10 2, whole 16 8]) fun c s =>
    let count := c.arg 10 2
    let addr := c.arg 16 8
    if count = 0 ∨ 64 < count ∨ addr % 8 ≠ 0 then .refuse .badArg s
    else if 4096 < s.buf.hostCnt + count then .refuse .noRoom s
    else
      let x := s.hostTakes (bit (c.arg 9 1) 0) (c.arg 8 1) picks count
      match x.1 with
      | none => .refuse .noRoom (s.bpmCount 2 x.2)
      | some (hs, s1) =>
        let (r, s2) := if bit (c.arg 9 1) 1 then s1.testExtents hs failed else (0, s1)
        .done .ok count r ((s2.bpmCount 2 x.2).hostData c addr (hs.flatMap fun h => toLE 4 h))).pfcUpdate

/-- The first handle of a list that fails R315 with the host's tag, or repeats an earlier one (R324). -/
def firstBad (b : BufSt) (seen : List Nat) : Nat → List Nat → Option (Nat × Nat × Refused)
  | _, [] => none
  | i, h :: r =>
    match b.check h 0x3FF with
    | some e => some (i, h, e)
    | none => if seen.contains h then some (i, h, .doubleFree) else firstBad b (h :: seen) (i + 1) r

/-- BPM_FREE of listed handles, whose records are read first (R317, R324). -/
def execBpmFree (p : HostPort) (n : Fin 64) (handles : List Word) (s : State) : Outcome State Fault Refusal :=
  .next <| (s.runCmd p n 0x69 (fun c => !bit (c.arg 8 1) 0)
    (fun _ => [named 8 1 1, whole 10 2, whole 16 8]) fun c s =>
    let count := c.arg 10 2
    if count = 0 ∨ 64 < count ∨ c.arg 16 8 % 8 ≠ 0 then .refuse .badArg s
    else
      let hs := (List.range count).map fun i => (handles.getD i 0).toNat
      let s1 := hs.foldl (fun t h => t.readRecord h) s
      match firstBad s1.buf [] 0 hs with
      | some (i, h, .badHandle) => .done .badArg i (h % 2 ^ 24) (s1.bpmCount 10 1)
      | some (i, h, .doubleFree) => .done .doubleFree i (h % 2 ^ 24) ((s1.bpmCount 10 1).logRefused h 0x3FF .doubleFree)
      | some (i, h, .notOwner) => .done .notOwner i (h % 2 ^ 24) ((s1.bpmCount 10 1).logRefused h 0x3FF .notOwner)
      | none => .done .ok count 0 (hs.foldl (fun t h => t.freeExt h) s1)).pfcUpdate

/-- BPM_FREE with ALL_HOST, the records of the host's extents read first (R317, R324, R325). -/
def execBpmFreeAllHost (p : HostPort) (n : Fin 64) (s : State) : Outcome State Fault Refusal :=
  .next <| (s.runCmd p n 0x69 (fun c => bit (c.arg 8 1) 0) (fun _ => [named 8 1 1]) fun _ s =>
    let s1 := s.buf.hostExts.foldl (fun t h => t.readRecord h) s
    .done .ok s1.buf.hostExts.length 0 (s1.buf.hostExts.foldl (fun t h => t.freeExt h) s1)).pfcUpdate

/-! ## Committing a layout (R308) -/

/-- The layout of four counts. -/
def BufSt.withCounts (b : BufSt) (c : List Nat) : BufSt :=
  { b with cnt0 := c.getD 0 0, cnt1 := c.getD 1 0, cnt2 := c.getD 2 0, cnt3 := c.getD 3 0 }

/-- BPM_COMMIT.GO (R308). -/
def execBpmCommit (p : HostPort) (value : Word) (s : State) : Outcome State Fault Refusal :=
  .next <|
    if s.takesRw p && bit value.toNat 0 && !s.buf.busy then
      let want := [s.wantCnt 0, s.wantCnt 1, s.wantCnt 2, s.wantCnt 3]
      let b := s.buf.withCounts want
      let live := ({ b with withdrawn := b.layWithdrawn }).live
      let modeOk := decide (s.mode = .configure) || (decide (s.mode = .drain) && s.bufEmpty)
      if modeOk && decide (s.buf.hostCnt = 0) && decide (b.pooled ≤ live) then
        { s with buf.busy := true, buf.next := want, buf.commitErr := false }
      else { s with buf.commitErr := true }
    else s

/-- The extent of the layout in force that holds a tile, none for a tile of no pool (R306). -/
def BufSt.extentOf (b : BufSt) (t : Nat) : Option Nat := ([0, 1, 2, 3].flatMap fun k => b.overlapping k t 1).head?

/-- The retirement of a tile that an extent withdrawn under R317 still held, unless the tile now belongs to no pool. -/
def State.retireHeld (s : State) (e : Nat × Bool) : State :=
  match s.buf.extentOf e.1 with
  | some h => if s.buf.withdrawn.get 0 h = 0 then s.retireTile h e.1 e.2 else s
  | none => s

/-- The retirements that extents withdrawn under R317 still held are applied in the new layout: no extent returns to a free
list with a failed tile unreplaced (R316, R330). -/
def State.retirePending (s : State) : State := s.buf.retire.foldl State.retireHeld s

/-- The pools lie anew and every extent is free but those withdrawn under R330 (R308). -/
def BufSt.relaid (b : BufSt) : BufSt :=
  let b1 := b.ext.foldl (fun x e =>
    if b.withdrawn.get 0 e.1 = 0 then x.uncharge (hSize e.1) e.2.charge else x) b
  let b2 := { b1.withCounts b.next with ext := [], onList := [], offList := [], busy := false, next := [] }
  { b2 with withdrawn := b2.layWithdrawn }

/-- The commit completes (R308). -/
def execBpmCommitDone (s : State) : Outcome State Fault Refusal :=
  .next <|
    if s.buf.busy then ({ s with buf := s.buf.relaid }).retirePending.pfcUpdate else s

end Sys2Proof.Machine
end

