-- ==== Sys2Proof/Machine/Host.lean ====
section
/-! DEFINITION. Host ports, doorbells, rings, interrupts and the two hosts (chapter 03). -/
namespace Sys2Proof.Machine
open Host (Outcome)

/-! ## Eligibility and the active role (R114 to R127) -/

/-- The truncated heartbeat age in units of 100 µs, none before the first heartbeat (R116). -/
def State.ageUnits (s : State) (p : HostPort) : Option Nat := (s.half p).beat.map fun t => (s.now - t) / 100000

/-- HI_HB_TIMEOUT.MS. -/
def State.hbTimeout (s : State) (p : HostPort) : Nat := bits (s.rd (hiReg p 8)) 9 0

/-- The heartbeat age is below the port's timeout (R116). -/
def State.ageBelow (s : State) (p : HostPort) : Bool :=
  match s.ageUnits p with
  | none => false
  | some a => decide (a < s.hbTimeout p * 10)

/-- The heartbeat age of a supervised port exceeds its timeout (R116). -/
def State.ageExceeds (s : State) (p : HostPort) : Bool :=
  match s.ageUnits p with
  | none => false
  | some a => decide (s.hbTimeout p * 10 < a)

/-- The port is eligible (R114). -/
def State.eligible (s : State) (p : HostPort) : Bool := (s.half p).linkUp && (s.half p).bme && s.ageBelow p

/-- The rings of a port that becomes active: its command rings count as empty, and every device-written ring as
consumed (R126). -/
def takeOverRings (m : SMap Ring) : SMap Ring :=
  SMap.keep (fun _ r => decide (r ≠ Ring.zero)) <|
    m.map fun e => (e.1, if e.1 < 64 then { e.2 with ptr := e.2.cptr, prod := e.2.cptr, cons := e.2.cptr }
      else if e.1 < 80 then { e.2 with cons := e.2.ptr } else e.2)

/-- The host bit of keel register 1 with the other port active. -/
def State.rolesWithHost (s : State) (p : HostPort) : Nat :=
  setBits s.flt.keel1.voted 2 2 (match p with | .ha => 0 | .hb => 1)

/-- Move the active role to the standby port for a cause (R121, R125, R126); while keel register 1 is stuck the change
is refused (R120). Whether it moved, and the state. -/
def State.roleChange (cause : Nat) (s : State) : Bool × State :=
  let old := s.active
  let new := old.peer
  let (ok, s1) := s.keelChange 1 (s.rolesWithHost new)
  if !ok then (false, s1)
  else
    let mark := fun (h : Half) =>
      { h with lastCause := cause, changes := satInc 16 h.changes, noStandby := false }
    let s2 := (s1.onHalf old mark).onHalf new fun h => { mark h with rings := takeOverRings h.rings }
    let s3 := if s2.canWrite old then s2 else s2.onHalf old fun h => { h with held := [] }
    let s4 := { s3 with host.heldBeat := false, host.heldLink := false, host.heldSel := false, host.heldHand := false }
    (true, ((s4.flushLate old).raise (portSrc new) 4 .ce (packItems [(3, cause)])).noteRoom)

/-- A trigger's further condition fails: NO_STANDBY is logged once against the active port, its bit set for a
heartbeat or link trigger (R118). -/
def State.noStandby (cause : Nat) (s : State) : State :=
  let s1 := s.raise (portSrc s.active) 3 .ce (packItems [(3, cause)])
  if cause = 1 ∨ cause = 2 then s1.onHalf s1.active fun h => { h with noStandby := true } else s1

/-- Hold a trigger (R118, R120). -/
def State.holdTrigger (cause : Nat) (s : State) : State :=
  match cause with
  | 1 => { s with host.heldBeat := true }
  | 2 => { s with host.heldLink := true }
  | 3 => { s with host.heldSel := true }
  | 4 => { s with host.heldHand := true }
  | _ => s

/-- A trigger of R117 with its further condition: where that fails, a handover is spent and every other trigger is held
(R118); while keel register 1 is stuck each is held (R120). -/
def State.trigger (cause : Nat) (cond : Bool) (s : State) : State :=
  if cond then
    match s.roleChange cause with
    | (true, s') => s'
    | (false, s') => s'.holdTrigger cause
  else if cause = 4 then s.noStandby cause
  else (s.noStandby cause).holdTrigger cause

/-- Held triggers act when their further condition has come to hold and they still stand, and are let go when they no
longer stand; NO_STANDBY clears (R118, R86). A handover that the stuck roles held acts or is spent as they act again
(R120). -/
def State.settle (s : State) : State :=
  let a := s.active
  let peerOk := s.eligible a.peer
  if s.host.heldBeat && s.ageExceeds a && peerOk then (s.roleChange 1).2
  else if s.host.heldLink && !(s.half a).linkUp && peerOk then (s.roleChange 2).2
  else if s.host.heldSel && !s.pins.hostSelN && (s.half a.peer).linkUp then (s.roleChange 3).2
  else if s.host.heldHand && !s.flt.keel1.stuck then
    (if peerOk then (s.roleChange 4).2 else ({ s with host.heldHand := false }).noStandby 4)
  else
    let s1 := { s with host.heldBeat := s.host.heldBeat && s.ageExceeds a,
                       host.heldLink := s.host.heldLink && !(s.half a).linkUp,
                       host.heldSel := s.host.heldSel && !s.pins.hostSelN }
    if peerOk || (s.ageBelow a && (s.half a).linkUp) then
      s1.onHalf a fun h => { h with noStandby := false }
    else s1

/-- The referee's host logic runs: the device is out of RESET. -/
def State.hostAlive (s : State) : Bool := s.mode ≠ .reset || s.md.hostLive

/-! ## Pins and links -/

/-- A low pulse acts: at or beyond the acting width always, below the ignored width never, between them as the part
turns out (R578). -/
def lowActs (ignored acting ns : Nat) (acts : Bool) : Bool :=
  decide (acting ≤ ns) || (decide (ignored ≤ ns) && acts)

/-- HOST_SEL_N falls (R117, R118): low for at least 1 µs it is a trigger whose further condition is the peer's link; in
RESET the pin is low (R86) and nothing arbitrates. -/
def execHostSelNFall (ns : Nat) (acts : Bool) (s : State) : Outcome State Fault Refusal :=
  .next <|
    if lowActs 500 1000 ns acts then
      let s1 := { s with pins.hostSelN := false }
      if s1.hostAlive then s1.trigger 3 (s1.half s1.active.peer).linkUp else s1
    else s

/-- HOST_SEL_N rises: a held HOST_SEL_N trigger no longer stands, and the revert trigger may act (R118, R119). -/
def execHostSelNRise (s : State) : Outcome State Fault Refusal :=
  .next { s with pins.hostSelN := true, host.heldSel := false }

/-- The data link of a port goes down; on the active port a trigger (R117). -/
def execPcieLinkDown (p : HostPort) (s : State) : Outcome State Fault Refusal :=
  .next <|
    if (s.half p).linkUp then
      let s1 := s.onHalf p fun h => { h with linkUp := false, rate := 0, width := 0 }
      if p = s1.active then s1.trigger 2 (s1.eligible p.peer) else s1
    else s

/-- A rate code and a width that HI_PORT_STAT can show (R86). -/
def linkFieldsOk (rate width : Nat) : Bool := [3, 4, 5, 6].contains rate && [1, 2, 4].contains width

/-- The highest rate code that the port's strap allows (R578): 0b00 64 GT/s down to 0b11 8 GT/s. -/
def State.rateCap (s : State) (p : HostPort) : Nat :=
  6 - (match p with | .ha => bits s.pins.strap 1 0 | .hb => bits s.pins.strap 3 2)

/-- Judge number of a host port's PLL (R497). -/
def hostPll : HostPort → Nat
  | .ha => 9
  | .hb => 10

/-- The vectors of a port whose messages are pending. -/
def State.pendingVecs (s : State) (p : HostPort) : List Nat :=
  ((s.half p).vec.filter fun e => e.2.pend).map Prod.fst

/-- A port can issue requests again: what it held is written in order (R98), rings with nothing left come to rest (R87),
then the pending messages are sent (R72, R113). -/
def State.resume (p : HostPort) (s : State) : State :=
  if s.canWrite p then
    let l := (s.half p).held
    let s1 := l.foldl (fun t x => t.emit (.dma p x.addr x.data)) (s.noteRoom.onHalf p fun h => { h with held := [] })
    let s2 := l.foldl (fun t x => t.restRing p x.ring) s1
    ((s2.pendingVecs p).foldl (fun t v => t.sendVec p v) s2).noteRoom
  else s

/-- The data link of a port comes up (R70), which PERST low (R579) and a port PLL that is not judged stable (R493) hold
down; held writes and messages go out (R72, R92), and a held trigger may act (R118). -/
def execPcieLinkUp (p : HostPort) (rate width : Nat) (s : State) : Outcome State Fault Refusal :=
  .next <|
    if linkFieldsOk rate width && decide (rate ≤ s.rateCap p) && !(s.half p).perst && s.hostAlive
        && (s.clk.judge.get Judge.zero (hostPll p)).stable then
      ((s.onHalf p fun h => { h with linkUp := true, rate := rate, width := width }).resume p).settle
    else s

/-- Bus Master Enable of a port is cleared (R72). -/
def execBusMasterEnableFall (p : HostPort) (s : State) : Outcome State Fault Refusal :=
  .next (s.onHalf p fun h => { h with bme := false })

/-- Bus Master Enable of a port is set: held writes and pending messages go out (R72, R113), and the port may become
eligible (R118). -/
def execBusMasterEnableRise (p : HostPort) (s : State) : Outcome State Fault Refusal :=
  .next (((s.onHalf p fun h => { h with bme := true }).resume p).settle)

/-- A port enters or leaves D3hot, which stops its DMA as a cleared Bus Master Enable does (R70). -/
def execD3hot (p : HostPort) (enter : Bool) (s : State) : Outcome State Fault Refusal :=
  .next ((s.onHalf p fun h => { h with d3hot := enter }).resume p)

/-- The boot choice, 100 ms after RESET_N rose (R115): no role change. -/
def execBootChoiceTimer (s : State) : Outcome State Fault Refusal :=
  .next <|
    if s.hostAlive && !s.host.bootChosen && decide (s.md.bootAt + 100000000 ≤ s.now) then
      let s1 := { s with host.bootChosen := true }
      let p := s1.preferred
      if decide (s1.active = p) && !(s1.half p).linkUp && (s1.half p.peer).linkUp then
        let (ok, s2) := s1.keelChange 1 (s1.rolesWithHost p.peer)
        if ok then
          let zero := fun (h : Half) => { h with lastCause := 0 }
          (s2.onHalf .ha zero).onHalf .hb zero
        else s2
      else s1
    else s

/-! ## Writes to the HI halves -/

/-- A host's write to a half takes: its own half only (R589), the interface out of reset (R63), not in SAVE and in
RESET only while the host ports are live (R563). -/
def State.hiWriteOk (s : State) (p half : HostPort) : Bool :=
  decide (p = half) && !(s.half half).busy && s.mode ≠ .save && s.hostAlive

/-- HI_HANDOVER: the active host hands the role over (R86, R117, R122). -/
def execHiHandover (p half : HostPort) (value : Word) (s : State) : Outcome State Fault Refusal :=
  .next <|
    if s.hiWriteOk p half && decide (p = s.active) && bit value.toNat 0 && decide (bits value.toNat 31 16 = 0x5120) then
      s.trigger 4 (s.eligible p.peer)
    else s

/-- A heartbeat restarts the port's age and begins its supervision (R116); a held trigger may act (R118). -/
def execHeartbeat (p : HostPort) (s : State) : Outcome State Fault Refusal :=
  .next <|
    if s.hostAlive && s.mode ≠ .save && (s.half p).linkUp then
      let since := if s.ageBelow p then (s.half p).below else some s.now
      (s.onHalf p fun h => { h with supervised := true, beat := some s.now, below := since }).settle
    else s

/-- The active port's heartbeat age exceeds its timeout (R117). -/
def execHeartbeatTimeout (s : State) : Outcome State Fault Refusal :=
  .next <|
    if s.hostAlive && (s.half s.active).supervised && s.ageExceeds s.active && !s.host.heldBeat then
      s.trigger 1 (s.eligible s.active.peer)
    else s

/-- The preferred standby port has kept its age below its timeout for its revert hold (R117); HOST_SEL_N low keeps the
trigger from acting (R119). -/
def execRevertHoldExpiry (s : State) : Outcome State Fault Refusal :=
  .next <|
    let p := s.preferred
    let held := match (s.half p).below with
      | none => false
      | some t => decide (bits (s.rd (hiReg p 0xC)) 19 0 * 1000000 ≤ s.now - t)
    if s.hostAlive && decide (p ≠ s.active) && s.ageBelow p && held && s.pins.hostSelN then (s.roleChange 5).2 else s

/-! ## Rings -/

/-- The checks of an enable (R89). -/
def ringOk (n : Nat) (r : Ring) : Bool :=
  ringId n && decide (r.base ≠ 0) && decide (r.base % 4096 = 0)
    && (decide (64 ≤ n) || (decide (r.cbase ≠ 0) && decide (r.cbase % 4096 = 0)))
    && decide (6 ≤ r.log2n) && decide (r.log2n ≤ 16)
    && (!(decide (64 ≤ n) && decide (n < 80)) || (decide (1 ≤ r.typ) && decide (r.typ ≤ 10)))

/-- A ring as an enable starts it: positions at index 0, lap 0, its counts cleared (R77, R89, R105). -/
def Ring.started (r : Ring) : Ring :=
  { r with en := true, ptr := 0, cptr := 0, prod := 0, cons := 0, drop := 0, wcount := 0, seq := 0 }

/-- HI_RING_EN.EN written 1 (R88, R89). A ring that runs already is left as it is. -/
def execHiRingEnable (p half : HostPort) (n : Fin 256) (s : State) : Outcome State Fault Refusal :=
  .next <|
    let r := s.ring half n
    if s.hiWriteOk p half && !r.en && !r.active && (s.served || decide (s.mode = .safe)) && ringId n then
      if ringOk n r then (s.setRing half n r.started).noteRoom else s.setRing half n { r with cfgErr := true }
    else s

/-- HI_RING_EN.EN written 0: fetching stops at once (R90). -/
def execHiRingDisable (p half : HostPort) (n : Fin 256) (s : State) : Outcome State Fault Refusal :=
  .next (if s.hiWriteOk p half then (s.setRing half n { s.ring half n with en := false }).noteRoom else s)

/-- The last fetched work of a disabled ring has finished (R90). -/
def execRingWorkDrained (p : HostPort) (n : Fin 256) (s : State) : Outcome State Fault Refusal :=
  .next <|
    let r := s.ring p n
    if !r.en && r.active && !s.outstanding p n then s.setRing p n { r with active := false } else s

/-- Writing 1 to a W1C bit of HI_RING_STAT clears it (R87). -/
def execHiRingStatClear (p half : HostPort) (n : Fin 256) (value : Word) (s : State) : Outcome State Fault Refusal :=
  .next <|
    let r := s.ring half n
    let v := value.toNat
    if s.hiWriteOk p half then
      s.setRing half n { r with dbErr := r.dbErr && !bit v 0, dmaErr := r.dmaErr && !bit v 1,
                                descErr := r.descErr && !bit v 2, cfgErr := r.cfgErr && !bit v 3 }
    else s

/-- A doorbell value is refused: DB_ERR, and a CE record against the port (R83, R502). -/
def State.doorbellRefused (p : HostPort) (n : Nat) (s : State) : State :=
  (s.setRing p n { s.ring p n with dbErr := true }).raise (portSrc p) 1 .ce (packItems [(8, n)])

/-- A doorbell page takes a write: an enabled ring of the active port (R84), not in SAVE (R563). -/
def State.doorbellOk (s : State) (p : HostPort) (n : Nat) : Bool :=
  decide (p = s.active) && (s.ring p n).en && s.mode ≠ .save

/-- A PROD write (R81, R83, R84), at the pages of host-written rings. -/
def execProdDoorbell (p : HostPort) (n : Fin 256) (value : Word) (s : State) : Outcome State Fault Refusal :=
  .next <|
    let r := s.ring p n
    let v := value.toNat
    if s.doorbellOk p n && (decide (n.val < 64) || decide (128 ≤ n.val)) then
      if r.inRange v && decide (r.dist r.ptr v ≤ r.size) then s.setRing p n { r with prod := v, dbProd := v }
      else s.doorbellRefused p n
    else s

/-- A CONS write (R81, R83, R84), at the pages of rings 0 to 79. -/
def execConsDoorbell (p : HostPort) (n : Fin 256) (value : Word) (s : State) : Outcome State Fault Refusal :=
  .next <|
    let r := s.ring p n
    let v := value.toNat
    if s.doorbellOk p n && decide (n.val < 80) then
      let w := if n.val < 64 then r.cptr else r.ptr
      if r.inRange v && decide (r.dist v w ≤ r.size) then
        ((s.setRing p n { r with cons := v, dbCons := v }).flushLate p).noteRoom
      else s.doorbellRefused p n
    else s

/-- A command is fetched (R82, R85, R98): the active port's ring runs, PROD covers the slot, its completion slot is
free, and the port can issue requests. -/
def execCommandFetch (p : HostPort) (n : Fin 64) (desc : List Byte) (s : State) : Outcome State Fault Refusal :=
  .next <|
    let r := s.ring p n
    if decide (p = s.active) && r.en && s.canWrite p && (s.served || decide (s.mode = .safe))
        && decide (r.prod ≠ r.ptr) && !r.noSlot && decide (desc.length = 64) then
      let c : Cmd := { port := p, ring := n, pos := r.ptr, bytes := desc, serial := s.serial, waiting := false,
                       mute := false, fetched := s.devTime }
      { (s.setRing p n { r with ptr := r.succ r.ptr, active := true }) with
        cmds := s.cmds ++ [c], serial := s.serial + 1 }
    else s

/-- A descriptor fetch or an entry write of a ring that runs, or of one that is disabled with work outstanding, ends in an
error completion (R91). -/
def execDmaErrorCompletion (p : HostPort) (n : Fin 256) (s : State) : Outcome State Fault Refusal :=
  .next <|
    let r := s.ring p n
    if r.en || r.active then
      (s.setRing p n { r with en := false, dmaErr := true }).raise (portSrc p) 2 .uc (packItems [(8, n.val)])
    else s

/-- An entry has been pending on a vector for TIMER µs (R112). -/
def execVectorTimerExpiry (p : HostPort) (v : Fin 64) (s : State) : Outcome State Fault Refusal :=
  .next <|
    let x := (s.half p).vec.get Vec.zero v
    let t := bits (s.rd (hiReg p (0x800 + 4 * v))) 27 16
    if decide (0 < x.count) && !x.pend && decide (t ≠ 0) && decide (t * 1000 ≤ s.now - x.since) then s.sendVec p v
    else s

/-! ## NOP, FENCE and unknown opcodes -/

/-- NOP (R96). -/
def execNop (p : HostPort) (n : Fin 64) (s : State) : Outcome State Fault Refusal :=
  .next (s.runCmd p n 0x01 anyRow (fun _ => []) fun _ s => .done .ok 0 0 s)

/-- Every command its port fetched before it has completed, and no report waits to be recorded and posted (R101). -/
def State.fenceDone (s : State) (c : Cmd) : Bool :=
  !(s.cmds.any fun d => d.port = c.port ∧ d.serial < c.serial) && s.flt.pend.isEmpty

/-- FENCE (R96, R101): while an earlier command or one of its events is outstanding it stays where it is. -/
def execFence (p : HostPort) (n : Fin 64) (s : State) : Outcome State Fault Refusal :=
  .next (s.runCmd p n 0x7F (fun c => s.fenceDone c) (fun _ => []) fun _ s => .done .ok 0 0 s)

/-- An opcode that is not in the table (R93). -/
def execNotSupported (p : HostPort) (n : Fin 64) (s : State) : Outcome State Fault Refusal :=
  .next <|
    match s.headCmd p n with
    | none => s
    | some c =>
      if s.startable c && !opcodes.contains c.opcode then s.complete c .notSupported 0 0 else s

end Sys2Proof.Machine
end

