-- ==== Sys2Proof/Machine/Egress.lean ====
section
/-! DEFINITION. A frame's way out: the egress editor (R347, R386, R400, R426, R427, R442, R443), stomping (R31, R343,
R344), recirculation (R352, R353), postcards of leaving frames (R445), delivery to the host (R107, R108, R388), and the
frames a host transmits (R106, R109 to R111). -/
namespace Sys2Proof.Machine
open Host (Outcome)

/-! ## The egress editor -/

/-- Set the ECN field of an IP header to 0b11, an IPv4 checksum with it (R347). -/
def setEcn (b : List Byte) (h : Hdr) : List Byte :=
  if h.kind = 6 then
    let old := be b h.off 2
    let new := setBits old 1 0 3
    patch (patch b h.off (toBE 2 new)) (h.off + 10) (toBE 2 (csumUpdate (be b (h.off + 10) 2) old new))
  else patch b h.off (toBE 2 (setBits (be b h.off 2) 5 4 3))

/-- A checksum after the bytes of an even-sized field have changed word by word. -/
def csumField (sum : Nat) (old new : List Byte) : Nat :=
  (List.range (old.length / 2)).foldl (fun c i => csumUpdate c (be old (2 * i) 2) (be new (2 * i) 2)) sum

/-- Add a residence time in 2^-16 ns, which a step of device time can bring below 0, to the correctionField of the PTP header at `o`, a non-zero UDP checksum with it
(R400). -/
def addResidence (b : List Byte) (hs : List Hdr) (o : Nat) (res : Int) : List Byte :=
  let old := cut b (o + 8) 8
  let new := toBE 8 (((beNat old : Int) + res) % 2 ^ 64).toNat
  let b1 := patch b (o + 8) new
  match hs.find? fun h => h.kind = 0x0F ∧ h.off + 8 = o with
  | some u =>
    let c := be b (u.off + 6) 2
    if c = 0 then b1 else patch b1 (u.off + 6) (toBE 2 (csumField c old new))
  | none => b1

/-- The PTP header that R400 updates as a frame leaves port `p`; copies are left unchanged, a stream's second copy too. -/
def State.ptpHdr (s : State) (d : Desc) (p : Nat) : Option Nat :=
  if bit d.flags 11 && bit (s.rd (ptReg p 0x10C)) 0 && !d.copy && !d.second then
    (d.hdrs.find? fun h => h.kind = 0x14).map Hdr.off
  else none

/-- A frame's bytes, without FCS, with the edits that every pass makes: ECN, DEI and the R-TAG. -/
def editPass (d : Desc) (b : List Byte) : List Byte :=
  let b1 := match outerIp d.hdrs with
    | some h => if d.ecn then setEcn b h else b
    | none => b
  let b2 := if d.yelDei then setDei b1 else b1
  match d.rtag with
  | some n => setRtag b2 n
  | none => if d.pop then popRtag b2 else b2

/-- What the editor makes of a leaving frame. -/
structure Edited where
  /-- The bytes without FCS. -/
  bytes : List Byte
  act : IoamAct
  /-- This device has set the overflow flag. -/
  ovf : Bool
  deriving DecidableEq, Repr

/-- Hop limit of the outermost IPv6 header. -/
def hopLimit (b : List Byte) (hs : List Hdr) : Nat :=
  match outerIp hs with
  | some h => byteAt b (h.off + 7)
  | none => 0

/-- The header at which an offset of a kind lies, 0 where there is none. -/
def hdrOff (hs : List Hdr) (kind : Nat) : Nat :=
  match hs.find? fun h => h.kind = kind with
  | some h => h.off
  | none => 0

/-- The IOAM edit of a leaving frame (R438 to R443). -/
def State.editIoam (s : State) (x : NodeIn) (b : List Byte) : Edited :=
  let d := x.d
  match ioamOff b d.hdrs with
  | none => { bytes := b, act := s.ioamAct (b ++ [0, 0, 0, 0]) d.hdrs, ovf := false }
  | some o =>
    if 0 < d.grow then
      { bytes := s.ioamInsert x b o (hdrOff d.hdrs 8) (hdrOff d.hdrs 7), act := .insert o, ovf := false }
    else if d.ovf then { bytes := ioamPut b o 0 true, act := .overflow o, ovf := true }
    else match s.ioamAct (b ++ [0, 0, 0, 0]) d.hdrs with
      | .fill _ => { bytes := s.ioamFill x b o, act := .fill o, ovf := false }
      | .overflow _ =>
        if byteAt b (o + 3) = 0 then { bytes := ioamPut b o 0 true, act := .overflow o, ovf := true }
        else { bytes := b, act := .leave, ovf := false }
      | .insert _ => { bytes := b, act := .leave, ovf := false }
      | a => { bytes := b, act := a, ovf := false }

/-- The whole edit of a frame that leaves port `p`; frames sent as written are not edited. -/
def State.editFrame (s : State) (x : NodeIn) (b : List Byte) : Edited :=
  let d := x.d
  if d.plain then { bytes := b, act := .none, ovf := false }
  else
    let b1 := match s.ptpHdr d x.p with
      | some o => addResidence b d.hdrs o ((x.at' : Int) - d.ts)
      | none => b
    let e := if d.copy then { bytes := b1, act := IoamAct.none, ovf := false } else s.editIoam x b1
    { e with bytes := editPass d e.bytes }

/-- PERF_CNT for the option of a leaving frame (R438, R442, R443, R458). An overflow found at enqueue is counted
there. -/
def State.countIoam (x : NodeIn) (e : Edited) (s : State) : State :=
  let s1 := match e.act with
    | .fill _ => s.perfCount 0 1
    | .leave => s.perfCount 3 1
    | _ => s
  if e.ovf && !x.d.ovf then s1.perfCount 2 1 else s1

/-! ## Postcards of leaving frames (R445, R446) -/

/-- PT_TEL_CFG of a port. -/
def State.telCfg (s : State) (p : Nat) : Nat := s.rd (ptReg p 0x2C)

/-- The code of the postcard that a leaving frame gives rise to, and the state with the port's count (R445). -/
def State.cardCode (x : NodeIn) (e : Edited) (s : State) : Option Nat × State :=
  let cfg := s.telCfg x.p
  match e.act with
  | .postcard _ => (some 1, s)
  | _ =>
    if bit cfg 16 && decide (s.rd (ptReg x.p 0x30) < x.delay) then (some 3, s)
    else
      let n := bits cfg 15 0
      if n = 0 then (none, s)
      else
        let seen := s.tel.pcSeen.get 0 x.p
        (if seen % n = 0 then some 2 else none, { s with tel.pcSeen := s.tel.pcSeen.set 0 x.p ((seen + 1) % n) })

/-- Bytes 24 to 63 of a leaving frame's postcard (R446); `b` is the frame as received, without FCS. -/
def cardOf (x : NodeIn) (e : Edited) (b : List Byte) : Card :=
  let d := x.d
  let o := match e.act with
    | .postcard o => some o
    | _ => none
  let ext := match o with
    | some o => byteAt b (o + 7)
    | none => 0
  let fo := (o.getD 0) + 12
  let applied := match e.act with
    | .none => false
    | .leave => false
    | _ => true
  { delay := satTo (2 ^ 32 - 1) x.delay.toNat, egress := x.p,
    cls := b2n d.ecnMarked * 128 + b2n d.tc7 * 64 + d.colour % 4 * 16 + d.gen % 2 * 8 + d.tc % 8,
    flags := b2n x.throttle + 2 * b2n d.cutThrough + 4 * b2n applied + 8 * b2n e.ovf,
    qdepth := d.qdepth, shared := x.used,
    flow := if bit ext 7 then be b fo 4 else 0,
    dexSeq := if bit ext 6 then be b (if bit ext 7 then fo + 4 else fo) 4 else 0,
    matchId := d.matchId, len := e.bytes.length, chan := chanField d.chan, pflags := d.flags, skid := 0, sl := d.sl,
    trace := match o with
      | some o => leNat (cut b (o + 8) 3).reverse
      | none => 0 }

/-! ## Recirculation (R352, R353) -/

/-- A chosen frame is dropped before its first byte: its charge comes right at its end (R344, R381). -/
def State.dropChosen (t : Tx) (p r : Nat) (pick : Draw) (s : State) : State := (s.dropDesc r pick t.d).owe p t

/-- A frame for a recirculation port is written anew and returns to the port's slice for a further pass. -/
def State.recirculate (t : Tx) (p : Nat) (pick : Draw) (b : List Byte) (s : State) : State :=
  let d := t.d
  let f := withFcs (editPass d b)
  let sl := p / 32
  match s.take (some f.length) d.tc7 none (classKey p d.tc) (tag 3 sl) pick f with
  | (.noExtent, s1) => s1.dropChosen t p 4 pick
  | (.bufLimit, s1) => s1.dropChosen t p 5 pick
  | (.got h, s1) =>
    let k : Pkt :=
      { id := s1.core.nextPkt, slice := sl, via := p, inPort := d.inPort, inject := d.inject, pass := d.pass + 1,
        tc7 := d.tc7, gen := d.gen, inGen := d.inGen, ts := d.ts, bytes := f, headAt := s1.now, extAt := s1.now,
        endsAt := s1.now, tileAt := s1.now, late := .none, owner := tag 3 sl, h := some h, stage := .waiting, budget := 0, reparses := 0, key := [],
        hdrs := [], flags := 0, waited := false, fate := Fate.zero, cookie := d.cookie,
        marked := d.ecnMarked }
    ((((s1.done d).2).addPkt k).coreCount 9 1).owe p t

/-! ## A frame leaves (R343, R344) -/

/-- The records of a frame's first bit: its timestamp for the host (R106, R399), its egress mirror copy (R357), and its
postcard (R445). DESIGN CHOICE: an egress timestamp is an event of the slice that owns the egress port, which chooses its ring
(R104). `b` are the frame's bytes with FCS as they lie in its extent. -/
def State.firstBit (x : NodeIn) (e : Edited) (bad : Bool) (pick : Draw) (b : List Byte) (s : State) : State :=
  let d := x.d
  let p := x.p
  let s1 := match d.cookie with
    | some c =>
      let asym := signed 32 (s.rd (ptReg p 0x108))
      (s.postEvt { typ := 5, code := 1, source := p, time := ((x.at' : Int) - asym).toNat,
                   detail := toLE 4 c ++ toLE 4 0, sl := p / 32 }).2
    | none => s
  let v := s1.rd (ptReg p 0x28)
  let s2 := if bit v 18 then
      s1.mirrorCopy (bits v 17 14) 2 (some p) x.at' 0 pick bad { d := d, bytes := b, held := true }
    else s1
  if d.copy then s2
  else
    let s3 := s2.countIoam x e
    if d.second then s3
    else match s3.cardCode x e with
    | (some c, s4) => s4.sendPostcard c d.inNo x.at' (p / 32) pick (cardOf x e (body b)).bytes
    | (none, s4) => s4

/-- A frame leaves its port, all at once in the model unless it can be preempted (R419): sent with its own FCS where no byte
of it was changed, with a new one where the editor has changed it, stomped on a fault (R343, R347). -/
def State.sendFrame (t : Tx) (p : Nat) (pick : Draw) (tile : Bool) (b : List Byte) (s : State) : State :=
  let d := t.d
  let x : NodeIn := { d := d, p := p, at' := s.devTime, used := t.used, throttle := t.throttle,
                      hop := hopLimit b d.hdrs }
  let e := s.editFrame x (body b)
  let bad := tile || decide (d.late ≠ .none)
  let w := if bad then stomped e.bytes else if e.bytes = body b then b else withFcs e.bytes
  let s1 := s.firstBit x e bad pick b
  let s2 := if bad then s1.coreCount (if d.late ≠ .none then 5 else 6) 1 else s1
  let s3 := if s.preempting p && !s.express p d.tc then
      s2.beginSending p { bytes := w, bad := bad, tc := d.tc, inPort := d.inPort, sl := d.sl, via := d.via,
                          off := 0, since := some s.now }
    else s2.putLine p w bad
  let s4 := if bad then s3 else s3.owe p t
  (s4.done d).2

/-- A frame that is read from its extent, which its release would be refused for: it is dropped unsent (R315). -/
def State.dropRefused (d : Desc) (r : Refused) (s : State) : State :=
  let s1 := (((s.logRefused d.h d.owner r).bpmCount 10 1).countDrop 7 d.inPort).lossEvt 7 d.sl (if d.copy then none else d.via)
  if d.inGen then s1.leaveGen d.gen else s1

/-- The frame of a port leaves it, or is dropped with a fault that shows before its first byte (R302, R304, R342, R352). -/
def State.leave (t : Tx) (p : Nat) (pick : Draw) (s : State) : State :=
  let d := t.d
  let b := s.dataOf d.h
  if d.endsAt ≤ s.now ∧ d.late ≠ .none then s.dropChosen t p 8 pick
  else
    let x := s.readTiles d.h d.owner b.length
    if x.1 = some 0 ∨ (x.1.isSome ∧ x.2.isRecirc p) then x.2.dropChosen t p 6 pick
    else if x.2.isRecirc p then x.2.recirculate t p pick (body b)
    else x.2.sendFrame t p pick x.1.isSome b

/-- The chosen frame of a port leaves it, from its first bit on; `ups` are the upsets that the world brings first (R302,
R304, R315, R317, R343, R352). The row stands for the whole transmission: it begins once the frame's first tile is complete,
and a later tile, which the frame's arrival completes no slower than the port reads, is complete when it is read (R303,
R340). -/
def execFrameEgress (port : Port) (ups : Upset) (pos : Nat) (lost : List Nat) (s : State) :
    Outcome State Fault Refusal :=
  .next <|
    let p := port.val
    let pick : Draw := { pos := pos, lost := lost }
    let s0 := s.upset ups
    match s0.core.tx.find? fun e => e.1 = p with
    | none => s0
    | some (_, t) =>
      if !s.bufLive || decide (s.now < t.d.tileAt) then s0
      else
        let s1 := ({ s0 with core.tx := s0.core.tx.erase p }).settleRefunds
        State.pfcUpdate <| match s1.buf.check t.d.h t.d.owner with
        | some r => s1.dropRefused t.d r
        | none => s1.leave t p pick

/-! ## Delivery to the host (R107, R108, R388, R399) -/

/-- The TIMESTAMP of a receive write-back (R107, R399). -/
def State.rxStamp (s : State) (d : Desc) : Nat :=
  match d.inPort with
  | some p => if bit d.flags 11 then ((d.ts : Int) - signed 32 (s.rd (ptReg p 0x108))).toNat else d.ts
  | none => d.ts

/-- The receive descriptor as written back (R107): `n` bytes written, FLAGS without PHASE. -/
def State.rxBack (s : State) (d : Desc) (n flags : Nat) (bad : Bool) : List Byte :=
  timeBytes (s.rxStamp d) ++ toLE 2 n ++ toLE 2 (d.inPort.getD 0xFFFF) ++ toLE 1 d.reason ++ toLE 1 d.cpuQ
    ++ toLE 1 (b2n bad * 64 + d.colour % 4 * 16 + d.gen % 2 * 8 + d.tc % 8) ++ [0] ++ toLE 4 d.matchId
    ++ toLE 2 (d.len - 4) ++ [0] ++ toLE 1 flags

/-- BUF_LEN is valid (R107). -/
def bufLenOk (n : Nat) : Bool := decide (n % 64 = 0) && decide (256 ≤ n) && decide (n ≤ 16384)

/-- A frame is written to the next posted buffer of a receive ring, whose descriptor is `desc` (R107, R108). -/
def State.receiveBack (n : Nat) (d : Desc) (b : List Byte) (bad : Bool) (desc : List Byte) (s : State) : State :=
  let p := s.active
  let r := s.ring p n
  let len := le desc 8 2
  let ok := bufLenOk len
  let w := if ok then satTo len b.length else 0
  let flags := if !ok then 2 else b2n (decide (len < b.length))
  let r' := { r with ptr := r.succ r.ptr, wcount := (r.wcount + 1) % 2 ^ 32, descErr := r.descErr || !ok }
  let s1 := s.setRing p n r'
  let s2 := if ok then s1.hostWrite p n (le desc 0 8) (b.take w) else s1
  (s2.hostWrite p n (r.base + r.ptr % 2 ^ 16 * 32) (withPhase r.ptr (s2.rxBack d w flags bad))).notify p r' false

/-- The next CPU queue in rotation whose head frame has fully arrived (R388). -/
def State.nextCpu (s : State) : Option Nat :=
  ((List.range 64).map fun i => (s.sch.cpuTurn + 1 + i) % 64).find? fun q =>
    match s.queue (cpuKey q) with
    | d :: _ => decide (d.endsAt ≤ s.now)
    | [] => false

/-- The bytes of a frame that the host gets, without FCS (R107, R361). -/
def Desc.hostBytes (d : Desc) (b : List Byte) : List Byte :=
  match d.cut with
  | some m => (body b).take m
  | none => body b

/-- A CPU queue's head frame is delivered, or dropped where its ring is disabled, has no posted buffer, or its port issues no
request (R72, R85, R107), or where its release would be refused (R315). -/
def State.deliver (q : Nat) (d : Desc) (desc : List Byte) (pick : Draw) (s : State) : State :=
  let n := 128 + q
  let r := s.ring s.active n
  match s.buf.check d.h d.owner with
  | some e => s.dropRefused d e
  | none =>
    if !r.en || decide (r.ptr = r.prod) || !s.canWrite s.active then
      ((s.setRing s.active n { r with drop := satInc 32 r.drop }).done d).2
    else
      let b := s.dataOf d.h
      let x := s.readTiles d.h d.owner (match d.cut with | some m => satTo m b.length | none => b.length)
      if x.1 = some 0 then x.2.dropDesc 6 pick d
      else ((x.2.receiveBack n d (d.hostBytes b) (x.1.isSome || decide (d.late ≠ .none)) desc).done d).2

/-- The next CPU queue's head frame is delivered (R388): `desc` is the posted descriptor, `ups` the upsets that the world
brings first. -/
def execCpuQueueService (desc : List Byte) (ups : Upset) (pick : Draw) (s : State) : Outcome State Fault Refusal :=
  .next <|
    let s0 := s.upset ups
    if !s.bufLive then s0
    else
      let s1 := s0.bringCopies pick
      match s1.nextCpu with
      | none => s1
      | some q =>
        match s1.queue (cpuKey q) with
        | [] => s1
        | d :: rest => (({ s1.setQueue (cpuKey q) rest with sch.cpuTurn := q }).deliver q d desc pick).pfcUpdate

/-! ## Frames the host transmits (R109 to R111) -/

/-- The next transmit ring in rotation that has a descriptor (R111). -/
def State.nextTx (s : State) : Option Nat :=
  ((List.range 64).map fun i => (s.sch.txTurn + 1 + i) % 64).find? fun i =>
    let r := s.ring s.active (192 + i)
    r.en && decide (r.ptr ≠ r.prod)

/-- Bytes 24 to 31 of a transmit descriptor are written back with a STATUS (R111). -/
def State.txBack (i : Nat) (st : Status) (s : State) : State :=
  let p := s.active
  let r := s.ring p (192 + i)
  let r' := { r with ptr := r.succ r.ptr, wcount := (r.wcount + 1) % 2 ^ 32 }
  ((s.setRing p (192 + i) r').hostWrite p (192 + i) (r.base + r.ptr % 2 ^ 16 * 32 + 24)
    (withPhase r.ptr ([BitVec.ofNat 8 st.code] ++ toLE 7 0))).notify p r' false

/-- LEN keeps R109. -/
def txLenOk (append : Bool) (n : Nat) : Bool :=
  if append then decide (60 ≤ n) && decide (n ≤ 10172) else decide (64 ≤ n) && decide (n ≤ 10176)

/-- The descriptor of a frame that goes straight to an egress queue (R110). -/
def State.txDesc (s : State) (p tc : Nat) (chan cookie : Option Nat) (owner h len : Nat) : Desc :=
  { h := h, owner := owner, port := p, tc := tc, chan := chan, inPort := none, sl := p / 32, via := none, tc7 := false,
    gen := s.gen.cur, inGen := s.isRecirc p, ts := s.devTime, pass := 0, colour := 0, yelDei := false, ecn := false, marked := false,
    flags := 0, hdrs := [], len := len, endsAt := s.now, tileAt := s.now, late := .none, cutThrough := false, outLen := len,
    enqAt := s.now, qdepth := 0, grow := 0, ovf := false, classId := 0, matchId := 0xFFFFFFFF, cpuQ := 0, reason := 0,
    shared := none, copy := false, second := false, plain := true, inject := false, rtag := none, pop := false, cookie := cookie,
    cut := none, unjudged := false }

/-- A transmitted frame with its extent taken goes to its queue, or is dropped there (R336, R337, R355, R417). -/
def State.txPlace (d : Desc) (pick : Draw) (s : State) : State :=
  let s1 := if d.inGen then s.enterGen d.gen else s
  match s1.enqueueRefusal d with
  | some r => s1.dropDesc r pick d
  | none =>
    if s1.neverSent d then s1.dropDesc 0x1A pick d
    else s1.push d.key { d with qdepth := s1.ecnDepth (s1.members (classKey d.port d.tc)) }

/-- A frame that the host transmits has its extent, or finds none (R110, R111): injected, or queued at its port. -/
def txTaken (inj : Bool) (p tc : Nat) (chan cookie : Option Nat) (owner : Nat) (pick : Draw) (b : List Byte) (r : Took × State) :
    Status × State :=
  match r with
  | (.got h, s1) =>
    if inj then
      let k := { s1.newPkt p b .none with inject := true, headAt := s1.now, extAt := s1.now, endsAt := s1.now,
                                           tileAt := s1.now, owner := owner, h := some h, cookie := cookie }
      (.ok, (s1.addPkt k).pfcUpdate)
    else (.ok, (s1.txPlace (s1.txDesc p tc chan cookie owner h b.length) pick).pfcUpdate)
  | (_, s1) => (.noRoom, s1)

/-- The frame of a transmit descriptor is taken into the buffer (R110): the status, and the state. -/
def State.txTake (i : Nat) (desc frame : List Byte) (pick : Draw) (s : State) : Status × State :=
  let len := le desc 8 2
  let p := le desc 10 2
  let inj := bit (byteAt desc 12) 3
  let tc := byteAt desc 12 % 8
  let fl := byteAt desc 13
  let append := bit fl 0
  let chan := if bit fl 2 && !inj then some (le desc 14 2 % 2 ^ 15) else none
  let cookie := if bit fl 1 then some (le desc 16 4) else none
  let owner := tag 1 i
  let b := if append then withFcs (cut frame 0 len) else cut frame 0 len
  if s.mode ≠ .forward ∨ (inj && (s.slice (p / 32)).parked) = true then
    (.wrongMode, if s.mode = .drain then s.countDrop 2 (if inj then some (p % 512) else none) else s)
  else if !txLenOk append len || decide (512 ≤ p) || s.inactive p then (.badArg, s)
  else
    let ent := if inj then some (p * 8 + s.pgOf p (pcpOf b)) else none
    let tc7 := inj && s.preClass p b
    let q := if inj then classKey p 0 else classKey p tc
    txTaken inj p tc chan cookie owner pick b (s.take (some b.length) tc7 ent q owner pick b)

/-- The next transmit ring's descriptor is taken: `desc` and `frame` are what host memory holds (R109 to R111). -/
def execTransmitDescriptor (desc frame : List Byte) (pick : Draw) (s : State) : Outcome State Fault Refusal :=
  .next <|
    match s.nextTx with
    | none => s
    | some i =>
      if s.canWrite s.active && (s.served || decide (s.mode = .safe)) then
        let (st, s1) := s.txTake i desc frame pick
        { s1.txBack i st with sch.txTurn := i }
      else s

end Sys2Proof.Machine
end

