-- ==== Sys2Proof/Machine/Ports.lean ====
section
/-! DEFINITION. Harps, lanes and ports: PT_MODE, bring-up, LX training, loopback and test, FEC windows, faults of lanes
and die-to-die wires (R130 to R172, R18, R19, R337). -/
namespace Sys2Proof.Machine
open Host (Outcome)

/-- The source ID of a harp (R168). -/
def harpSrc (h : Nat) : Nat := 0xB00 + h

/-- A record that names a port (R168, R504). -/
def State.portRec (p code : Nat) (s : State) : State := s.raise (harpSrc (portSlice p)) code .ce (packItems [(10, p)])

/-! ## Leaving UP and starting again (R142 to R146, R172, R337) -/

/-- Drop every frame queued for a port with reason PORT_DOWN (R337). -/
def State.flushPort (p : Nat) (pick : Draw) (s : State) : State :=
  ((List.range 8).flatMap fun tc => s.members (classKey p tc)).foldl
    (fun t k => (t.queue k).foldl (fun u d => u.dropDesc 0x11 pick d) (t.leaveQueue k [])) s

/-- The frame that a port is sending is cut off and counted as PORT_DOWN (R337), a preempted one as well. -/
def State.cutFrame (p : Nat) (pick : Draw) (s : State) : State :=
  let s1 := match s.sendingOf p with
    | some x => (({ s with core.sending := s.core.sending.erase p }).countDrop 0x11 x.inPort).lossEvt 0x11 x.sl x.via
    | none => s
  match s1.core.tx.find? fun e => e.1 = p with
  | some (_, t) => { s1 with core.tx := s1.core.tx.erase p }.dropDesc 0x11 pick t.d
  | none => s1

/-- A port that is UP moves to another state (R144, R337, R348): counted, logged, and its frames dropped; `cut` when the
frame in progress is cut off. In SAFE the buffer is frozen, and the port's frames stay where they are (R36, R56). -/
def State.leaveUp (p : Nat) (dest : PState) (cut : Bool) (pick : Draw) (s : State) : State :=
  let x := s.pt p
  if x.state = .up then
    let s1 := s.setPt p { x with state := dest, since := s.now, downCount := satInc 8 x.downCount, asm := [] }
    let s2 := { s1 with time.verify := s1.time.verify.set 0 p 0 }.portRec p 2
    if s2.mode = .safe then s2
    else ((if cut then s2.cutFrame p pick else s2.finishSending p).flushPort p pick).pfcUpdate
  else s.setPt p { x with state := dest, since := s.now }

/-- PT_CTRL of a port. -/
def State.ptCtrl (s : State) (p : Nat) : Nat := s.rd (ptReg p 4)

/-- PT_TEST of a port. -/
def State.ptTest (s : State) (p : Nat) : Nat := s.rd (ptReg p 0x18)

/-- LT of a port. -/
def State.trains (s : State) (p : Nat) : Bool := bit (s.ptMode p) 6

/-- LANE_MODE of a port is LX. -/
def State.isLx (s : State) (p : Nat) : Bool := decide (bits (s.ptMode p) 3 2 = 0)

/-- The state a port starts from (R136, R142, R164, R165). -/
def State.firstState (s : State) (p : Nat) : PState :=
  if !s.enabled p then .disabled
  else if !bit (s.ptCtrl p) 0 then
    if bit (s.ptTest p) 3 || bit (s.ptTest p) 4 then .test else .adminDown
  else if bits (s.ptCtrl p) 2 1 = 2 then .test
  else .detect

/-- A lane of a port that is not in service: nothing is recovered from its signal, which it may still detect (R141). -/
def LaneSt.idle (x : LaneSt) : LaneSt :=
  { x with cdrLock := false, trained := false, polInv := false, prbsLock := false, peerLane := 0,
           lastReq := none, result := 0, precodeOn := false, echo := 0, own := 0, ready := 0 }

/-- A lane at the start of a bring-up: it takes the coefficients of HP_LANE_TXEQ (R140, R149, R170). -/
def LaneSt.started (txeq : Nat) (lt : Bool) (x : LaneSt) : LaneSt :=
  { x.idle with cur := if lt then setBits (bits txeq 29 0) 28 28 0 else bits txeq 29 0 }

/-- A lane that no enabled port uses. -/
def LaneSt.off (x : LaneSt) : LaneSt := { x.idle with sigDet := false, margin := 0 }

/-- The lanes of a port as it moves to a state: off in DISABLED, idle in ADMIN_DOWN, and else started anew. DESIGN CHOICE:
TEST too starts from HP_LANE_TXEQ, as a bring-up does (R170). -/
def State.startLanes (p : Nat) (dest : PState) (s : State) : State :=
  (s.lanesOf p).foldl (fun t l => t.setLane l (match dest with
    | .disabled => (t.lane l).off
    | .adminDown => (t.lane l).idle
    | _ => (t.lane l).started (t.rd (laneReg l 4)) (t.trains p))) s

/-- A port restarts from its first state (R136, R143, R145). -/
def State.restartPort (p : Nat) (cut : Bool) (pick : Draw) (s : State) : State :=
  let s1 := (s.leaveUp p (s.firstState p) cut pick).startLanes p (s.firstState p)
  s1.setPt p { s1.pt p with reversed := false }

/-! ## PT_MODE (R131 to R136) -/

/-- A value of PT_MODE that the port refuses (R134). -/
def ptModeBad (p v : Nat) : Bool :=
  let w := 2 ^ bits v 1 0
  let m := bits v 3 2
  decide (m = 3) || (decide (m = 0) && decide (w = 8)) || decide (p % 32 % w ≠ 0) || (bit v 5 && decide (m = 0))

/-- The port takes part in no calendar swap any more, and its calendar is as after reset. -/
def State.clearCal (p : Nat) (s : State) : State :=
  let s1 := s.setCal p Cal.zero
  match s1.time.calSwaps.find? fun w => w.left.contains p with
  | none => s1
  | some w =>
    let w' := { w with left := w.left.filter (· ≠ p) }
    if w'.left.isEmpty then
      let s2 := { s1 with time.calSwaps := s1.time.calSwaps.filter fun x => x.cmd ≠ w.cmd }
      let s3 := w.scope.foldl (fun t q => t.setCal q { t.cal q with pending := false }) s2
      s3.completeSer w.cmd .ok w'.done (swapMicros w.ref w.lastAt)
    else { s1 with time.calSwaps := s1.time.calSwaps.map fun x => if x.cmd = w.cmd then w' else x }

/-- The PT registers of a port return to their reset values, all but its counters (R17, R135). D2D_DOWN stands until a
device reset (R171). -/
def State.clearPt (p : Nat) (s : State) : State :=
  let s1 := { s with regs := s.regs.keep fun o _ => !(decide (ptReg p 0 ≤ o) && decide (o < ptReg p 0x1000)) }
  let s2 := s1.setPt p { PortSt.zero with d2dDown := (s1.pt p).d2dDown, pause := (s1.pt p).pause }
  { s2.clearCal p with time.verify := s2.time.verify.set 0 p 0,
                       time.rxLat := s2.time.rxLat.set 0 p 0, time.txLat := s2.time.txLat.set 0 p 0 }

/-- A write of PT_MODE (R134 to R136): lanes that the port gives up go off, and what PT_STAT showed of its line falls. -/
def execPtModeWrite (p : HostPort) (port : Port) (value : Word) (pick : Draw) (s : State) : Outcome State Fault Refusal :=
  .next <|
    let v := value.toNat % 128
    if s.takesRwc p && !s.inactive port then
      if ptModeBad port v then s.setPt port { s.pt port with cfgErr := true }
      else
        let left := (s.lanesOf port).filter fun l => decide (port.val + 2 ^ bits v 1 0 ≤ l)
        let s0 := left.foldl (fun t l => t.setLane l (t.lane l).off) (s.leaveUp port .disabled true pick)
        let s1 := s0.wr (ptReg port 0) v
        let swallowed := (List.range (2 ^ bits v 1 0 - 1)).map (port.val + 1 + ·)
        let s2 := swallowed.foldl (fun t q => (t.leaveUp q .disabled true pick).clearPt q) s1
        let s3 := s2.setPt port { s2.pt port with cfgErr := false, localFault := false, remoteFault := false,
                                                  fecDegrade := false, fecRun := 0 }
        s3.restartPort port true pick
    else s

/-! ## PT_CTRL and PT_TEST (R142, R145, R146, R163 to R165) -/

/-- Unpark the lanes of a port that PWR_STATE parked (R477). -/
def State.unparkPort (p : Nat) (s : State) : State :=
  (s.lanesOf p).foldl (fun t l => t.setLane l { t.lane l with parked := false }) s

/-- A write of PT_CTRL: ADMIN_UP, LOOPBACK and RETRAIN together (R142, R145, R146, R163 to R165). A change of the
loopback in use starts the port anew, for another signal reaches its receivers. -/
def State.writeCtrl (p v : Nat) (pick : Draw) (s : State) : State :=
  let o := s.ptCtrl p
  let s1 := s.wr (ptReg p 4) (v % 8)
  let up := bit v 0
  let s2 := if up then (s1.wr (ptReg p 0x18) (s1.ptTest p % 8 + bits (s1.ptTest p) 5 5 * 32)).unparkPort p else s1
  if bit o 0 = up ∧ (up = false ∨ (bits o 2 1 = bits v 2 1 ∧ (bit v 3 = false ∨ (s2.pt p).state = .test))) then s2
  else if up then s2.restartPort p true pick
  else s2.restartPort p false pick

/-- A write of a PT register of an active port takes in the modes of R563. -/
def State.ptWrites (s : State) (p : HostPort) (port : Nat) : Bool := s.takesRw p && !s.inactive port

/-- A write of PT_CTRL with ADMIN_UP = 1 (R142, R165, R477). -/
def execAdminUpSet (p : HostPort) (port : Port) (value : Word) (pick : Draw) (s : State) : Outcome State Fault Refusal :=
  .next (if s.ptWrites p port && bit value.toNat 0 then s.writeCtrl port value.toNat pick else s)

/-- A write of PT_CTRL with ADMIN_UP = 0 (R142, R146): the transmitter finishes the frame in progress. -/
def execAdminUpClear (p : HostPort) (port : Port) (value : Word) (pick : Draw) (s : State) :
    Outcome State Fault Refusal :=
  .next (if s.ptWrites p port && !bit value.toNat 0 then s.writeCtrl port value.toNat pick else s)

/-- A write of PT_CTRL with RETRAIN = 1 (R145): bring-up starts again from DETECT. -/
def execRetrain (p : HostPort) (port : Port) (value : Word) (pick : Draw) (s : State) : Outcome State Fault Refusal :=
  .next (if s.ptWrites p port && bit value.toNat 3 then s.writeCtrl port value.toNat pick else s)

/-- The lane that is the high-speed test access port (R585): lane 0 while HSTAP acts, which it does only while RESET_N is
low (R584). -/
def State.testPort (s : State) : Option Nat := if s.pins.tap = 0x10 ∧ s.pins.resetN = false then some 0 else none

/-- A tester acts on a lane through the test access port (R585). -/
def State.onBench (l : Nat) (f : LaneTest → LaneTest) (s : State) : State :=
  if s.testPort.isSome then
    { s with pins.bench := s.pins.bench.set LaneTest.zero l (f (s.pins.bench.get LaneTest.zero l)) }
  else s

/-- A write of PT_CTRL that chooses a loopback, ADMIN_UP as it stands and RETRAIN 0 (R163, R164); a tester chooses near-end
loopback of a lane or none (R585). -/
def execLoopbackSelect (by' : Writer) (port : Port) (loopback : Fin 4) (pick : Draw) (s : State) :
    Outcome State Fault Refusal :=
  .next <|
    match by' with
    | .host p => if s.ptWrites p port then s.writeCtrl port (s.ptCtrl port % 2 + loopback.val * 2) pick else s
    | .tester => s.onBench port fun x => { x with nearEnd := decide (loopback.val = 1) }

/-- PT_TEST takes a value: with ADMIN_UP = 0 an enabled port enters or leaves TEST (R163, R165). -/
def State.writeTest (p v : Nat) (s : State) : State :=
  let s1 := s.wr (ptReg p 0x18) v
  let s2 := if bit v 4 then (s1.lanesOf p).foldl (fun t l => t.setLane l { t.lane l with prbsErr := 0 }) s1
    else (s1.lanesOf p).foldl (fun t l => t.setLane l { t.lane l with prbsLock := false }) s1
  if s2.firstState p = (s2.pt p).state ∨ bit (s2.ptCtrl p) 0 = true then s2 else s2.restartPort p false Draw.zero

/-- A write of PT_TEST (R163, R165), or of a lane's generator and checker by a tester (R585). -/
def execPtTestWrite (by' : Writer) (port : Port) (value : Word) (s : State) : Outcome State Fault Refusal :=
  .next <|
    let v := value.toNat % 64
    match by' with
    | .host p => if s.ptWrites p port then s.writeTest port v else s
    | .tester => s.onBench port fun x =>
        { x with word := v, errs := if bit v 4 then 0 else x.errs, lock := bit v 4 && x.lock }

/-! ## Transmit coefficients (R138, R139, R169, R170) -/

/-- The four taps of a coefficient word, in hundredths: c(−3), c(−2), c(−1), c(1). -/
def tapsOf (v : Nat) : List Int :=
  [signed 7 (bits v 6 0), signed 7 (bits v 13 7), signed 7 (bits v 20 14), signed 7 (bits v 27 21)]

/-- The taps keep R138: each in its range, and c(0) at least 0.45. -/
def tapsOk (v : Nat) : Bool :=
  match tapsOf v with
  | [a, b, c, d] =>
    decide (-10 ≤ a) && decide (a ≤ 10) && decide (-15 ≤ b) && decide (b ≤ 25) && decide (-45 ≤ c) && decide (c ≤ 0)
      && decide (-20 ≤ d) && decide (d ≤ 0) && decide (a.natAbs + b.natAbs + c.natAbs + d.natAbs ≤ 55)
  | _ => false

/-- A write of HP_LANE_TXEQ (R170): the coefficients in use change at the next bring-up. -/
def execHpLaneTxeqWrite (p : HostPort) (lane : Lane) (value : Word) (s : State) : Outcome State Fault Refusal :=
  .next (if s.takesRw p && tapsOk value.toNat then s.wr (laneReg lane 4) (value.toNat % 2 ^ 30) else s)

/-! ## Bring-up (R142, R143, R147 to R154) -/

/-- Ports can come up: the transmitters are on (R36, R47) and the harp's PLL is judged stable (R497). -/
def State.lanesOn (s : State) (p : Nat) : Bool :=
  (decide (s.mode = .configure) || decide (s.mode = .forward) || decide (s.mode = .drain) || decide (s.mode = .safe)
    || (decide (s.mode = .park) && !s.md.parkDown))
    && (s.clk.judge.get Judge.zero (16 + portSlice p)).stable

/-- A port moves to a bring-up state. -/
def State.toState (p : Nat) (x : PState) (s : State) : State := s.setPt p { s.pt p with state := x, since := s.now }

/-- The state after DETECT or AN (R142); a loopback skips training and with it auto-negotiation (R164). -/
def State.afterDetect (s : State) (p : Nat) (an : Bool) : PState :=
  if s.loopback p = 1 ∨ s.loopback p = 3 then .align
  else if an && bit (s.ptMode p) 5 then .an
  else if s.trains p then .train
  else .align

/-- Signal is detected on those lanes of an enabled port that `lanes` names, a parked one apart (R141, R477). -/
def State.detectLanes (p lanes : Nat) (s : State) : State :=
  ((s.lanesOf p).filter fun l => bit lanes (l - p) && !(s.lane l).parked).foldl
    (fun t l => t.setLane l { t.lane l with sigDet := true }) s

/-- Signal has come on some lanes of a port; once it is detected on every lane for 1 ms the port leaves DETECT (R141, R142).
A port held down under R19 and a port with a parked lane stay where they are (R171, R477). -/
def execDetectSignal (x : Sensed) (s : State) : Outcome State Fault Refusal :=
  .next <|
    let port := x.port
    if s.enabled port && s.lanesOn port then
      let s1 := s.detectLanes port x.lanes.toNat
      if (s.pt port).state = .detect ∧ (s.pt port).d2dDown = false
          ∧ ((s.lanesOf port).all fun l => (s1.lane l).sigDet && !(s1.lane l).parked) = true then
        s1.toState port (s.afterDetect port true)
      else s1
    else s

/-- Clause 73 auto-negotiation completes (R142). -/
def execAnComplete (port : Port) (s : State) : Outcome State Fault Refusal :=
  .next (if (s.pt port).state = .an ∧ s.lanesOn port = true then s.toState port (s.afterDetect port false) else s)

/-- The presets P1 to P3 as a coefficient word (R138). -/
def presetTaps (i : Nat) : Nat :=
  match i with
  | 1 => 0
  | 2 => packItems [(7, 0), (7, unsigned 7 5), (7, unsigned 7 (-20)), (7, unsigned 7 (-5))]
  | _ => packItems [(7, unsigned 7 (-2)), (7, unsigned 7 8), (7, unsigned 7 (-30)), (7, unsigned 7 (-5))]

/-- A coefficient word with tap `i` of R147 moved by `d` hundredths, none for c(0). -/
def moveTap (v i : Nat) (d : Int) : Option Nat :=
  match i with
  | 0 => some (setBits v 6 0 (unsigned 7 (signed 7 (bits v 6 0) + d)))
  | 1 => some (setBits v 13 7 (unsigned 7 (signed 7 (bits v 13 7) + d)))
  | 2 => some (setBits v 20 14 (unsigned 7 (signed 7 (bits v 20 14) + d)))
  | 4 => some (setBits v 27 21 (unsigned 7 (signed 7 (bits v 27 21) + d)))
  | _ => none

/-- A transmitter carries out a request: RESULT and the coefficients (R139, R147, R148). Codes that are not used change
nothing. -/
def trainRequest (ctl cur : Nat) : Nat × Nat :=
  let tap := bits ctl 9 7
  match bits ctl 6 5 with
  | 0 => (0, cur)
  | 3 => if bits ctl 4 3 = 0 then (0, cur) else (3, setBits cur 27 0 (presetTaps (bits ctl 4 3)))
  | r =>
    if tap = 3 then (2, cur)
    else match moveTap cur tap (if r = 1 then 1 else -1) with
      | none => (0, cur)
      | some v => if tapsOk v then (1, v) else (2, cur)

/-- Even parity over the 16 bits of a field (R147). -/
def evenParity (v : Nat) : Bool := decide (((List.range 16).filter fun i => bit v i).length % 2 = 0)

/-- A field of 15 bits in [15:1] with even parity over it in [0] (R147). -/
def withParity (v : Nat) : Nat := if evenParity v then v else v + 1

/-- The control field that a lane sends: its LANE_ID and the device's request (R147). -/
def LaneSt.control (x : LaneSt) (id : Nat) : Nat := withParity (id % 8 * 2 ^ 13 + x.own % 2 ^ 12 * 2)

/-- The status field that a lane sends (R147). -/
def LaneSt.status (x : LaneSt) (id : Nat) : Nat :=
  withParity (id % 8 * 2 ^ 13 + x.echo % 8 * 2 ^ 10 + x.result % 4 * 2 ^ 8 + b2n x.precodeOn * 2 ^ 7)

/-- RX_READY of the control field that the lane sends (R149). -/
def LaneSt.ownReady (x : LaneSt) : Bool := bit x.own 0

/-- A lane of port `p` sends its next training frame; RESULT answers once (R147, R148). -/
def State.sendTraining (p l : Nat) (s : State) : State :=
  let x := s.lane l
  (s.emit (.training l (x.control (l - p)) (x.status (l - p)))).setLane l { x with result := 0 }

/-- What a lane of port `p` makes of a received training frame (R148 to R151): `inverted` when its marker is inverted, else
its control field. -/
def State.heardTraining (p l : Nat) (inverted : Bool) (c : Nat) (s : State) : State :=
  let x := s.lane l
  if inverted then s.setLane l { x with polInv := true, lastReq := none, ready := 0 }
  else if !evenParity c then s.setLane l { x with lastReq := none, ready := 0 }
  else
    let req := bits c 12 2
    let twice := decide (x.lastReq = some req)
    let s1 := s.setLane l { x with peerLane := bits c 15 13, lastReq := if twice then none else some req,
                                   ready := if bit c 1 then satTo 3 (x.ready + 1) else 0 }
    let t := p + bits c 12 10
    if twice && decide (bits c 12 10 < s.width p) then
      let y := s1.lane t
      let (r, v) := trainRequest c y.cur
      s1.setLane t { y with result := r, cur := if bit c 2 then setBits v 28 28 1 else v, echo := bits c 12 10,
                            precodeOn := y.precodeOn || bit c 2 }
    else s1

/-- An LX training frame is received on a lane of a port in training, and the lane sends its next one (R147 to R151). RX_READY goes out only where nothing is asked for
(R149). -/
def execLxTrainingFrame (lane : Lane) (inverted : Bool) (frame : LxFrame) (s : State) : Outcome State Fault Refusal :=
  .next <|
    let l := lane.val
    match s.portOfLane l with
    | none => s
    | some p =>
      if (s.pt p).state = .train ∧ s.isLx p = true ∧ s.lanesOn p = true then
        let s1 := s.heardTraining p l inverted frame.control.toNat
        let o := frame.own.toNat
        (s1.setLane l { s1.lane l with own := if bits o 5 4 = 0 then o else o - b2n (bit o 0) }).sendTraining p l
      else s

/-- The eight training frames that follow once both sides are ready (R149). -/
def State.lastTraining (p : Nat) (s : State) : State :=
  (s.lanesOf p).foldl (fun t l => (List.range 8).foldl (fun u _ => u.sendTraining p l) t) s

/-- LX training has come to its end on every lane (R149): the partner's RX_READY seen in three consecutive frames, and the
device's own set. -/
def State.lxReady (s : State) (p : Nat) : Bool :=
  (s.lanesOf p).all fun l => decide ((s.lane l).ready = 3) && (s.lane l).ownReady

/-- Training is complete on every lane (R142, R149, R152); in LX eight further frames leave each lane. -/
def execTrainingComplete (port : Port) (s : State) : Outcome State Fault Refusal :=
  .next <|
    if (s.pt port).state = .train ∧ s.lanesOn port = true ∧ (s.isLx port = false ∨ s.lxReady port = true) then
      let s1 := if s.isLx port then s.lastTraining port else s
      ((s1.lanesOf port).foldl (fun t l => t.setLane l { t.lane l with cdrLock := true, trained := true }) s1).toState
        port .align
    else s

/-- The receive order is exactly reversed, as LX training has learned it (R151). -/
def State.learnedReversed (s : State) (p : Nat) : Bool :=
  decide (1 < s.width p)
    && (List.range (s.width p)).all fun i => decide ((s.lane (p + i)).peerLane = s.width p - 1 - i)

/-- Margins published for the lanes of a port, in units of 0.1 dB (R169). -/
def State.setMargins (p : Nat) (margins : List Byte) (s : State) : State :=
  (List.range (s.width p)).foldl
    (fun t i => t.setLane (p + i) { t.lane (p + i) with margin := byteAt margins i }) s

/-- Alignment is complete and the port enters UP (R142, R144, R153, R154, R398): with the latencies measured, in units of
2^-16 ns, the margins of its lanes, and, where LX training has not found them, the polarity and the order of the lanes. -/
def execAlignComplete (port : Port) (rxLat txLat : Word) (reversed : Bool) (inverted : BitVec 8) (margins : List Byte)
    (s : State) : Outcome State Fault Refusal :=
  .next <|
    if (s.pt port).state = .align ∧ s.lanesOn port = true then
      let p := port.val
      let lx := s.isLx p && s.trains p && (s.loopback p != 1 && s.loopback p != 3)
      let s1 := (List.range (s.width p)).foldl (fun t i =>
        let x := t.lane (p + i)
        t.setLane (p + i) { x with cdrLock := true, polInv := if lx then x.polInv else bit inverted.toNat i }) s
      let s2 := (s1.setMargins p margins).setPt p
        { s1.pt p with state := .up, since := s.now, reversed := if lx then s.learnedReversed p else reversed }
      let s3 := { s2 with time.rxLat := s2.time.rxLat.set 0 p rxLat.toNat,
                          time.txLat := s2.time.txLat.set 0 p txLat.toNat }
      ((s3.portRec p 1).verifyStart p).pfcUpdate
    else s

/-- A bring-up state reaches its limit (R142, R143): 500 ms of LX training, 2 ms of alignment, else the timers of the
standards. -/
def execPortStateLimit (port : Port) (s : State) : Outcome State Fault Refusal :=
  .next <|
    let p := port.val
    let age := s.now - (s.pt p).since
    match (s.pt p).state with
    | .an => s.restartPort p false Draw.zero
    | .train =>
      if s.isLx p = false ∨ 500000000 ≤ age then
        ((s.ptCount p 15 1).portRec p 3).restartPort p false Draw.zero
      else s
    | .align => if 2000000 ≤ age then s.restartPort p false Draw.zero else s
    | _ => s

/-- What a lane loses (R142, R172). -/
def LaneSt.lose (what : Fin 3) (x : LaneSt) : LaneSt :=
  match what.val with
  | 0 => { x with sigDet := false, cdrLock := false }
  | 1 => { x with cdrLock := false }
  | _ => x

/-- A lane loses signal detect for 10 µs, CDR lock or alignment-marker lock: the whole port leaves UP and starts again
(R142, R143, R172). -/
def execLaneLoss (lane : Lane) (what : Fin 3) (pick : Draw) (s : State) : Outcome State Fault Refusal :=
  .next <|
    let l := lane.val
    let s1 := s.setLane l ((s.lane l).lose what)
    match s.portOfLane l with
    | none => s1
    | some p => if (s1.pt p).state = .up then s1.restartPort p true pick else s1

/-! ## What a running port reports (R163, R165, R166, R167) -/

/-- A lane's checker gains or loses lock, with the bit errors it has counted since the last event (R165), or under a tester (R585). -/
def execPrbsLock (lane : Lane) (locked : Bool) (errors : DWord) (s : State) : Outcome State Fault Refusal :=
  .next <|
    let l := lane.val
    if bit (s.pins.bench.get LaneTest.zero l).word 4 then
      s.onBench l fun x => { x with lock := locked, errs := satTo (2 ^ 64 - 1) (x.errs + errors.toNat) }
    else match s.portOfLane l with
    | none => s
    | some p =>
      if (s.pt p).state = .test ∧ bit (s.ptTest p) 4 = true ∧ bit (s.ptCtrl p) 0 = false then
        let x := s.lane l
        s.setLane l { x with prbsLock := locked, sigDet := x.sigDet || locked, cdrLock := x.cdrLock || locked,
                             prbsErr := satTo (2 ^ 64 - 1) (x.prbsErr + errors.toNat) }
      else s

/-- The RS detects or receives a fault, or a fault clears (R166). -/
def execRsFault (port : Port) (localFault remoteFault : Bool) (s : State) : Outcome State Fault Refusal :=
  .next (if s.enabled port then
    s.setPt port { s.pt port with localFault := localFault, remoteFault := remoteFault } else s)

/-- A 1 ms window ends: codewords received, corrected and uncorrectable, the correctable ones by symbol errors, and the
margins of the lanes (R166 to R169). -/
def execFecWindow (port : Port) (total corr uncorr : Word) (hist : List Word) (margins : List Byte) (s : State) :
    Outcome State Fault Refusal :=
  .next <|
    if s.enabled port then
      let p := port.val
      let s1 := ((s.ptCount p 12 total.toNat).ptCount p 13 corr.toNat).ptCount p 14 uncorr.toNat
      let s2 := (List.range 16).foldl (fun t i => t.ptCount p (16 + i) (hist.getD i 0).toNat) s1
      let x := s2.pt p
      let run := if uncorr = 0 then 0 else satTo 3 (x.fecRun + 1)
      let s3 := (s2.setPt p { x with fecRun := run, fecDegrade := decide (run = 3) }).setMargins p margins
      if run = 3 ∧ x.fecDegrade = false then s3.portRec p 4 else s3
    else s

/-! ## Die-to-die wires (R18, R19, R171) -/

/-- A port that is UP or on its way there starts again from its first state. -/
def State.dropBack (p : Nat) (pick : Draw) (s : State) : State :=
  match (s.pt p).state with
  | .up | .an | .train | .align => s.restartPort p true pick
  | _ => s

/-- Every port of a harp leaves UP, or the way there, and is held down until a device reset (R19, R171). -/
def State.harpDown (h : Nat) (pick : Draw) (s : State) : State :=
  ((List.range 32).map (32 * h + ·)).foldl (fun t p =>
    let u := t.dropBack p pick
    u.setPt p { u.pt p with d2dDown := true }) s

/-- A die-to-die wire crosses the error threshold (R18, R19, R171): `toHarp` for the direction from the core, `lane` the
lane of the harp that the record names. The active Collie acts on it, so with none nothing is moved. DESIGN CHOICE: a wire
that fails after its harp has been taken down is reported no more. -/
def execD2dWireError (harp : Slice) (toHarp : Bool) (wire : Fin 1600) (lane : Fin 32) (pick : Draw) (s : State) :
    Outcome State Fault Refusal :=
  .next <|
    let h := harp.val
    if s.mode = .reset ∨ s.mode = .save ∨ s.collieActs = false then s
    else
      let (hit, s1) := s.injected (harpSrc h) 0 (wire.val + 2048 * b2n toHarp)
      let inj := hit.isSome
      let k := 2 * h + b2n toHarp
      let used := s1.port.d2d.get 0 k
      let det := packItems [(10, 512 + 32 * h + lane.val)]
      if used < 64 then
        let s2 := { s1 with port.d2d := s1.port.d2d.set 0 k (used + 1) }
        (s2.wearUse inj fun w => { w with d2d := w.d2d.set 0 (k * 64 + used) (wire.val + 2 ^ 15) }).raiseX
          (harpSrc h) 5 .ce det inj
      else if (s1.pt (32 * h)).d2dDown then s1
      else (s1.harpDown h pick).follow (harpSrc h) 6 .uc det inj

end Sys2Proof.Machine
end

