-- ==== Sys2Proof/Machine/Sheepdog.lean ====
section
/-! DEFINITION. The Sheepdog's sweeps: the free-list audit, the marks and the judgement of leaks (R326 to R328). -/
namespace Sys2Proof.Machine
open Host (Outcome)

/-- BPM_SHEEP_CFG. -/
def State.sheepCfg (s : State) : Nat := s.rd 0x80060

/-- Handles that some descriptor, packet or frame on its way out names (R326). -/
def State.namedExts (s : State) : List Nat :=
  (s.core.queues.flatMap fun e => e.2.map Desc.h) ++ (s.core.tx.map fun e => e.2.d.h)
    ++ s.core.copies.map (fun e => e.2.h) ++ s.core.pkts.filterMap Pkt.h

/-- The free-list audit (R326): an allocated extent is taken off its list and a free one put back on it, each repair
logged. -/
def State.audit (s : State) : State :=
  (s.buf.onList ++ s.buf.offList).foldl
    (fun t h => t.follow 0x702 3 .ce (packItems [(32, h), (2, hPool h)]) false)
    { s with buf.onList := [], buf.offList := [] }

/-- A sweep is due: PERIOD_MS have passed since the last one started or was skipped (R328). DESIGN CHOICE: the first is
due at once. -/
def State.sweepDue (s : State) : Bool :=
  s.buf.startAt.isNone || s.elapsed s.buf.startAt (bits s.sheepCfg 17 4 * 1000000)

/-- A sweep starts (R328): every PERIOD_MS in FORWARD, DRAIN and PARK, none in OFF (R327); one that finds another running is
skipped and logged. `ups` are the upsets that the world brings first. -/
def execSheepdogSweep (ups : Upset) (s : State) : Outcome State Fault Refusal :=
  .next <|
    let s0 := s.upset ups
    let b := s0.buf
    if (s.mode = .forward ∨ s.mode = .drain ∨ s.mode = .park) ∧ bits s.sheepCfg 1 0 ≠ 0 ∧ s.sweepDue = true then
      if b.running then
        ({ s0 with buf.startAt := some s.now }).raise 0x702 4 .ce (packItems [(8, satTo 255 ((s.now - b.sweepAt) / 1000000))])
      else { s0 with buf := { b with running := true, startAt := some s.now, prevAt := b.sweepAt, sweepAt := s.now } }.audit
    else s0

/-- An extent's marks after a mark pass: this sweep's in bit 0, the previous one's in bit 1 (R313, R326). -/
def markBits (old : Nat) (named : Bool) : Nat := old % 2 * 2 + b2n named

/-- A leak (R326). -/
def BufSt.isLeak (b : BufSt) (h : Nat) (e : Ext) : Bool :=
  decide (e.owner ≠ 0x3FF) && decide (e.mark = 0) && decide (e.allocAt < b.prevAt) && decide (b.withdrawn.get 0 h = 0)

/-- A leak is logged, and reclaimed in RECLAIM (R327). -/
def State.judgeLeak (s : State) (h : Nat) (e : Ext) : State :=
  let age := (s.ms16 + 65536 - e.allocMs) % 65536
  let detail := packItems [(32, h), (12, e.owner), (16, age)]
  if bits s.sheepCfg 1 0 = 2 then ((s.freeExt h).bpmCount 11 1).follow 0x702 1 .ce detail false
  else s.follow 0x702 2 .uc detail false

/-- A sweep ends its mark and judge passes, which read every record (R317, R326, R327, R328). Written to OFF while it ran,
it ends there and then. -/
def execSheepdogSweepEnd (s : State) : Outcome State Fault Refusal :=
  .next <|
    if s.buf.running ∧ bits s.sheepCfg 1 0 = 0 then { s with buf.running := false }
    else if s.buf.running ∧ (s.mode = .forward ∨ s.mode = .drain ∨ s.mode = .park) then
      let s0 := s.buf.ext.foldl (fun t e => t.readRecord e.1) s
      let named := s0.namedExts
      let ext := s0.buf.ext.map fun e => (e.1, { e.2 with mark := markBits e.2.mark (named.contains e.1) })
      let s1 := { s0 with buf := { s0.buf with ext := ext, running := false, sweeps := (s.buf.sweeps + 1) % 65536,
                                               lastMs := satTo 255 ((s.now - s.buf.sweepAt) / 1000000) } }
      ((ext.filter fun e => s1.buf.isLeak e.1 e.2).foldl (fun t e => t.judgeLeak e.1 e.2) s1).pfcUpdate
    else s

end Sys2Proof.Machine
end

