-- ==== Sys2Proof/Machine/Telemetry.lean ====
section
/-! DEFINITION. Counter snapshots, freezes and reads, and counter samples (R451 to R457). -/
namespace Sys2Proof.Machine
open Host (Outcome)

/-! ## Snapshots (R452 to R454) -/

/-- TIME_IN_CTL of a pin. -/
def State.timeInCtl (s : State) (j : Nat) : Nat := s.rd (0x60210 + 0x20 * j)

/-- The layout of CTR_SNAPSHOT. -/
def snapLayout (_ : Cmd) : List ArgField := [whole 8 1, named 9 1 1, named 10 1 3, whole 16 14]

/-- A field of CTR_SNAPSHOT is out of range, or it names a pin that captures nothing (R454). -/
def State.snapBad (s : State) (c : Cmd) : Bool :=
  let t := c.arg 8 1
  decide (4 < t) || (decide (t ≠ 2) && decide (c.arg 10 1 ≠ 0)) || (decide (t ≠ 1) && decide (c.arg 16 14 ≠ 0))
    || (decide (t = 2) && decide (bits (s.timeInCtl (c.arg 10 1)) 1 0 = 0))

/-- CTR_SNAPSHOT with TRIGGER 0, 1 or 2 becomes pending (R452, R454). -/
def execCtrSnapshot (p : HostPort) (n : Fin 64) (s : State) : Outcome State Fault Refusal :=
  .next <| s.runCmd p n 0x58 (fun c => !(c.arg 8 1 = 3 || c.arg 8 1 = 4)) snapLayout fun c s =>
    let t := c.arg 8 1
    if s.snapBad c then .done .badArg 1 0 s
    else if t = 1 ∧ (c.timeOk 16 = false ∨ s.devTime + tenSec < c.time 16) then .done .badArg 2 0 s
    else if s.tel.pend.isSome then .done .badArg 3 0 s
    else
      let at' := if t = 1 ∧ s.devTime < c.time 16 then some (c.time 16) else none
      .wait { s with tel.pend := some { cmd := c.serial, trigger := t, at' := at', pin := c.arg 10 1,
                                        freeze := bit (c.arg 9 1) 0 } }

/-- CTR_SNAPSHOT with TRIGGER 3 cancels the pending one (R454). -/
def execCtrSnapshotCancel (p : HostPort) (n : Fin 64) (s : State) : Outcome State Fault Refusal :=
  .next <| s.runCmd p n 0x58 (fun c => decide (c.arg 8 1 = 3)) snapLayout fun c s =>
    if s.snapBad c then .done .badArg 1 0 s
    else match s.tel.pend with
      | none => .refuse .notFound s
      | some w => .done .ok 0 0 (({ s with tel.pend := none }).completeSer w.cmd .aborted 0 0)

/-- CTR_SNAPSHOT with TRIGGER 4 unfreezes (R453). -/
def execCtrSnapshotUnfreeze (p : HostPort) (n : Fin 64) (s : State) : Outcome State Fault Refusal :=
  .next <| s.runCmd p n 0x58 (fun c => decide (c.arg 8 1 = 4)) snapLayout fun c s =>
    if s.snapBad c then .done .badArg 1 0 s else .done .ok 0 0 { s with tel.frozen := false }

/-- Every counter is latched at `t`, in units of 2^-16 ns (R452, R453). -/
def State.takeSnap (w : SnapReq) (t : Nat) (s : State) : State :=
  let id := (s.tel.snapId + 1) % 2 ^ 32
  let bank : SnapBank := { cnts := s.cnts, polCnt := s.sch.polCnt, depth := s.sch.depth, delay := s.sch.delay }
  ({ s with tel := { s.tel with
      pend := none, frozen := s.tel.frozen || w.freeze, snapId := id, snapAt := t, trigger := w.trigger,
      pin := if w.trigger = 2 then w.pin else s.tel.pin, bank := bank,
      samples := if w.freeze then [] else s.tel.samples } }).completeSer w.cmd .ok id 0

/-- T of the pending snapshot has come (R452). -/
def execSnapshotInstant (s : State) : Outcome State Fault Refusal :=
  .next <|
    match s.tel.pend with
    | none => s
    | some w => match w.at' with
      | some t => if t ≤ s.devTime then s.takeSnap w t else s
      | none => if w.trigger = 2 then s else s.takeSnap w s.devTime

/-! ## Reading counters (R455, R456) -/

/-- The counters of a bank. -/
def State.ctrBank (s : State) (snap : Bool) : SnapBank :=
  if snap then s.tel.bank
  else { cnts := s.cnts, polCnt := s.sch.polCnt, depth := s.sch.depth, delay := s.sch.delay }

/-- The size of a counter space, 0 for one that is not used (R456). -/
def ctrSize (sp : Nat) : Nat :=
  [32768, 16384, 64, 12, 3, 6, 512, 1024, 2097152, 131072, 1048576, 8192, 7].getD sp 0

/-- Where counter `i` of a space of 64-bit counters lies, none where no counter has that index (R456). -/
def ctrReg (sp i : Nat) : Option Nat :=
  let j := i % 32
  let n := i / 32
  match sp with
  | 0 => if i % 64 < 40 then some (ptReg (i / 64) (0x400 + 8 * (i % 64))) else none
  | 1 => some (ptReg n (0x600 + 8 * j))
  | 2 => if i < 14 then some (0x90800 + 8 * i) else if 32 ≤ i then some (0x90A00 + 8 * (i - 32)) else none
  | 3 => some (0x80200 + 8 * i)
  | 4 => some (0xA0100 + 8 * i)
  | 5 => some (0xB0200 + 8 * i)
  | 6 =>
    if j < 8 then some (slReg n (0x140 + 8 * j))
    else if j = 8 then some (slReg n 0x180)
    else if j = 9 then some (slReg n 0x188)
    else if j < 14 then some (slReg n (0x340 + 8 * (j - 10)))
    else if j < 22 then some (slReg n (0x440 + 8 * (j - 14)))
    else if j = 22 then some (slReg n 0x580)
    else if 24 ≤ j then some (slReg n (0x900 + 8 * (j - 24)))
    else none
  | 7 => some (slReg (i / 64) (0xA00 + 8 * (i % 64)))
  | 0x0B => if i % 8 = 7 then none else some (0x10000000 + 8 * i)
  | 0x0C => some (0x70200 + 8 * i)
  | _ => none

/-- A counter of a bank (R456). -/
def SnapBank.read (b : SnapBank) (sp i : Nat) : Nat :=
  let hist (q : Nat) : Nat := if i % 32 < 16 then b.depth.get 0 (q * 16 + i % 32) else b.delay.get 0 (q * 16 + i % 32 - 16)
  match sp with
  | 8 => b.polCnt.get 0 i
  | 9 => hist (i / 32)
  | 0x0A => hist (chanKey (i / 32))
  | _ => match ctrReg sp i with
    | some o => (b.cnts.get 0 o).toNat
    | none => 0

/-- CTR_READ (R455). -/
def execCtrRead (p : HostPort) (n : Fin 64) (s : State) : Outcome State Fault Refusal :=
  .next <| s.runCmd p n 0x59 anyRow
    (fun _ => [whole 8 1, named 9 1 1, whole 10 2, whole 12 4, whole 16 8]) fun c s =>
    let sp := c.arg 8 1
    let snap := bit (c.arg 9 1) 0
    let count := c.arg 10 2
    let i := c.arg 12 4
    if ctrSize sp = 0 ∨ count = 0 ∨ 512 < count ∨ ctrSize sp < i + count ∨ c.arg 16 8 % 8 ≠ 0 then .refuse .badArg s
    else if snap ∧ s.tel.snapId = 0 then .refuse .notFound s
    else
      let b := s.ctrBank snap
      let vs := (List.range count).flatMap fun k => toLE 8 (b.read sp (i + k))
      .done .ok (if snap then s.tel.snapId else 0) count (s.hostData c (c.arg 16 8) vs)

/-! ## Counter samples (R451) -/

/-- The record of a sample that names no packet (R446, R451). -/
def emptyCard (n : Nat) : Card :=
  { delay := 0xFFFF, egress := 0x8000, cls := 0, flags := 0, qdepth := 0, shared := 0, flow := 0, dexSeq := 0,
    matchId := 0xFFFFFFFF, len := 0, chan := 0, pflags := 0, skid := 16, sl := n, trace := 0 }

/-- No packet has been admitted within 1 µs of a counter's overflow (R451). -/
def execPmcSampleTimeout (slice : Slice) (c : Fin 64) (pick : Draw) (s : State) : Outcome State Fault Refusal :=
  .next <|
    let key := slice.val * 64 + c.val
    match s.tel.samples.find? fun e => e.1 = key with
    | some (_, x) =>
      if x.admitted.isEmpty && decide (x.since + 1000 ≤ s.now) then s.postSample key pick (emptyCard slice) else s
    | none => s

/-! ## User pages (R457) -/

/-- PERF_USER_EN: which pages of BAR4 are shown (R457). -/
def execPerfUserEnWrite (p : HostPort) (value : Word) (s : State) : Outcome State Fault Refusal :=
  .next (if s.takesRw p then s.wr 0x70000 (value.toNat % 2 ^ 16) else s)

end Sys2Proof.Machine
end

