-- ==== Sys2Proof/Machine/Flags.lean ====
section
/-! DEFINITION. What the host reads: the status words and flags that the device forms from its state, and the whole of
BAR0, BAR2 and BAR4 (R554 to R563, R457), and the states that those flags show: eligibility, health and the cap in
force. No read has a side effect (R6), so reading is a function of the state. -/
namespace Sys2Proof.Machine

/-- One bit of a register at a place. -/
def at' (b : Bool) (i : Nat) : Nat := if b then 2 ^ i else 0

/-! ## Clocks and pairs -/

/-- The judge of clock `i`, numbered as R497 numbers them. -/
def State.judge (s : State) (i : Nat) : Judge := s.clk.judge.get Judge.zero i

/-- The system reference is judged stable (R489). -/
def State.sysRefOk (s : State) : Bool := (s.judge (b2n s.clk.sysRef1)).stable

/-- Replace a Collie. -/
def State.setCollie (e : Side) (c : Collie) (s : State) : State :=
  match e with
  | .a => { s with ref.a := c }
  | .b => { s with ref.b := c }

/-- The number of a side: 0 for A, 1 for B. -/
def sideNum : Side → Nat
  | .a => 0
  | .b => 1

/-- A Collie's supervisor PLL is judged stable (R590). -/
def State.pllOk (s : State) (e : Side) : Bool := (s.judge (5 + sideNum e)).stable

/-- The Collie runs: it is in STANDBY or ACTIVE. -/
def Collie.runs (c : Collie) : Bool := decide (c.state = .standby) || decide (c.state = .active)

/-- A Collie is eligible (R528). -/
def State.collieOk (s : State) (e : Side) : Bool :=
  let c := s.collie e
  c.runs && (match c.beat with | some t => decide (s.now - t ≤ 200000) | none => false)
    && c.alive && c.memOk && c.katOk && c.fwOk && s.pllOk e && (c.mirrorOk || decide (c.state = .active))

/-- A Collie's health word (R551): the bits that fall in OFF and FAILED read 0 there (R590). -/
def State.healthWord (s : State) (e : Side) : Nat :=
  let c := s.collie e
  let on := decide (c.state ≠ .off) && decide (c.state ≠ .failed)
  let age := match c.beat with | some t => satTo 4095 ((s.now - t) / 1000) | none => 4095
  at' (on && c.alive) 0 + at' (on && c.memOk) 1 + at' (on && c.katOk) 2
    + at' (on && c.mirrorOk && decide (c.state ≠ .active)) 3
    + at' (on && c.fwOk) 4 + at' (s.pllOk e) 5 + c.fails * 2 ^ 8 + c.state.code * 2 ^ 16 + age * 2 ^ 20

/-- The clocks of a time engine are judged stable: its PLL (R539), and the reference that feeds it (R490). -/
def State.teClock (s : State) (e : Side) : Bool := (s.judge (7 + sideNum e)).stable && (s.judge (sideNum e)).stable

/-- A time engine is healthy (R490, R539). -/
def State.teOk (s : State) (e : Side) : Bool := (s.te e).run && s.teClock e && (s.te e).parity

/-- The standby engine's count less the active one's (TIME_TE_DIFF), in units of 2^-16 ns. -/
def State.teDiff (s : State) : Int := ((s.te s.activeTe.peer).t : Int) - s.devTime

/-- The standby engine is within 1 ns of the active one. -/
def State.teNear (s : State) : Bool := decide (-65536 ≤ s.teDiff) && decide (s.teDiff ≤ 65536)

/-- A standby engine is eligible: healthy and near for the last 1 ms (R539). -/
def State.teElig (s : State) (e : Side) : Bool :=
  s.teOk e && (match (s.te e).okSince with | some t => decide (1000000 ≤ s.now - t) | none => false)

/-! ## Power -/

/-- The voted PWR_CAP (R469). -/
def State.pwrCap (s : State) : Nat := s.flt.keel3.voted

/-- CAP_W in watts. -/
def State.capW (s : State) : Nat := bits s.pwrCap 10 0

/-- F_FLOOR. -/
def State.fFloor (s : State) : Nat := bits s.pwrCap 20 16

/-- WITHHOLD_MAX. -/
def State.withholdMax (s : State) : Nat := bits s.pwrCap 27 24

/-- The effective cap C in units of 2^-12 W: the lower of CAP_W and the thermal limit (R465). -/
def State.capNow (s : State) : Nat :=
  match s.pwr.thermal with
  | some t => if t < s.capW * 4096 then t else s.capW * 4096
  | none => s.capW * 4096

/-- The hint in force: that with the latest AT among those that run (R471), with its slot. -/
def State.hintNow (s : State) : Option (Nat × Hint) :=
  s.pwr.hints.foldl (fun b e => match e.2 with
    | some h =>
      if h.since.isSome then
        match b with
        | some (_, g) => if g.at' ≤ h.at' then some (e.1, h) else b
        | none => some (e.1, h)
      else b
    | none => b) none

/-- PWR_STAT. -/
def State.pwrStat (s : State) : Nat :=
  at' s.throttle 0 + at' s.pwr.unmet 1 + at' s.pwr.frozen 2 + at' s.pwr.measLost 3 + at' s.pwr.thermal.isSome 4
    + at' s.hintNow.isSome 5 + at' s.pwr.holdOk 6

/-- PWR_LEVEL. -/
def State.pwrLevel (s : State) : Nat :=
  s.pwr.withhold + s.clk.pipeCur * 2 ^ 4 + s.pwr.mem * 2 ^ 9 + s.pwr.link * 2 ^ 11

/-- P in watts. -/
def State.pWatts (s : State) : Nat := satTo 2047 (s.pwr.p / 4096)

/-- PWR_EST. -/
def State.pwrEst (s : State) : Nat := s.pWatts + satTo 2047 s.pwr.e * 2 ^ 16

/-- PWR_MEAS. -/
def State.pwrMeas (s : State) : Nat :=
  s.pwr.m / 65536 + 2 ^ 16 * (match s.pwr.mAt with | some t => satTo 0xFFFF ((s.now - t) / 1000000) | none => 0xFFFF)

/-- PWR_CAL. -/
def State.pwrCal (s : State) : Nat := s.pwr.gain + s.pwr.disagree * 2 ^ 16

/-- PWR_TEMP. -/
def State.pwrTemp (s : State) : Nat := s.pwr.hot + s.pwr.sensor * 2 ^ 8 + s.pwr.hotMax * 2 ^ 16

/-- PWR_SLICE_PARK: the slices that PWR_STATE parked. -/
def State.slicePark (s : State) : Nat := ((List.range 16).map fun n => at' (s.slice n).parked n).sum

/-- PWR_LANE_PARK of a harp. -/
def State.lanePark (s : State) (h : Nat) : Nat := ((List.range 32).map fun k => at' (s.lane (32 * h + k)).parked k).sum

/-- The save area shown: the one PWR_SAVE_STAT names, none while VALID is 0 (R482, R483). -/
def State.saveShownArea (s : State) : Option SaveArea :=
  if s.pwr.saveShown then some (if s.pwr.saveArea = 0 then s.kennel.save0 else s.kennel.save1) else none

/-- PWR_SAVE_STAT. -/
def State.saveStat (s : State) : Nat :=
  match s.saveShownArea with
  | some a => 1 + s.pwr.saveArea * 2 + byteAt a.bytes 6 % 2 * 4 + byteAt a.bytes 5 * 2 ^ 8 + a.seq % 2 ^ 16 * 2 ^ 16
  | none => 0

/-- PWR_SAVE_DATA word `w` of the page that PWR_SAVE_PAGE names. -/
def State.saveData (s : State) (w : Nat) : Nat :=
  match s.saveShownArea with
  | some a => le a.bytes (bits (s.rd 0x40084) 4 0 * 4096 + 4 * w) 4
  | none => 0

/-! ## Mode and generations -/

/-- A mode request is in progress (GL_MODE.BUSY). -/
def State.modeBusy (s : State) : Bool := s.md.req.isSome

/-- GL_MODE (R57). -/
def State.glMode (s : State) : Nat :=
  s.mode.code + s.md.prev.code * 2 ^ 4 + at' s.modeBusy 8 + at' s.bufEmpty 9 + s.md.cause * 2 ^ 16

/-- GL_BOOT_STAT (R60). -/
def State.bootStat (s : State) : Nat :=
  s.md.phase.code + s.md.bootResult * 2 ^ 4 + at' s.md.saveValid 8 + at' s.md.collieAOk 9 + at' s.md.collieBOk 10

/-- GL_GEN_STAT (R251). -/
def State.genStat (s : State) : Nat :=
  s.gen.cur + at' s.gen.swap.isSome 1 + at' (s.genValid 0) 2 + at' (s.genValid 1) 3 + s.gen.swaps * 2 ^ 16

/-- Words at an array of registers. -/
def arr (o base stride n : Nat) (f : Nat → Nat) (next : Unit → Nat) : Nat :=
  if inArr o base stride n then f ((o - base) / stride) else next ()

/-- The low or high word of a 64-bit register at `base`. -/
def half64 (o base v : Nat) : Nat := if o = base then v % 2 ^ 32 else v / 2 ^ 32 % 2 ^ 32

/-- A 64-bit counter's word at an offset. -/
def State.cntWord (s : State) (o : Nat) : Nat :=
  if o % 8 = 0 then (s.cnt o).toNat % 2 ^ 32 else (s.cnt (o - 4)).toNat / 2 ^ 32

/-- The GL block. -/
def State.readGl (s : State) (o : Nat) : Nat :=
  if o = 0 then 0x51202100
  else if o = 0x10 then s.glMode
  else if o = 0x14 then s.md.reqTarget + s.md.reqResult * 2 ^ 8
  else if o = 0x1C then s.bootStat
  else if o = 0x20 ∨ o = 0x24 ∨ o = 0x28 then s.rd o
  else if o = 0x118 then if s.md.phase ≠ .done then 0 else
    (match s.kennel.keyHash with | some h => 1 + byteAt h 2 * 2 ^ 8 + byteAt h 1 * 2 ^ 16 + byteAt h 0 * 2 ^ 24 | none => 0)
  else if o = 0x120 then s.genStat
  else if o = 0x140 ∨ o = 0x144 then half64 o 0x140 (s.gen.ts / 65536 / nsPerSec)
  else if o = 0x148 then s.gen.ts / 65536 % nsPerSec
  else
    arr o 0x100 4 2 (fun g => (s.csBank g).verV) fun _ =>
    arr o 0x108 4 2 (fun g => (s.csBank g).verC) fun _ =>
    arr o 0x110 4 2 (fun g => let b := s.csBank g; at' b.valid 0 + at' b.load.isSome 1 + at' b.cust 2) fun _ =>
    arr o 0x128 4 2 (fun g => (s.treeBank g).ver) fun _ =>
    arr o 0x130 4 2 (fun g => let b := s.treeBank g; at' b.valid 0 + at' b.load.isSome 1) fun _ =>
    arr o 0x138 4 2 (fun g => s.infl g) fun _ => 0

/-! ## Host ports -/

/-- HI_ROLE of a port (R86). -/
def State.hiRole (s : State) (p : HostPort) : Nat :=
  let h := s.half p
  at' (decide (p = s.active)) 0 + at' (decide (p = s.preferred)) 1 + at' (s.eligible p) 2 + at' (s.eligible p.peer) 3
    + at' h.supervised 4 + at' (!s.pins.hostSelN) 5 + at' h.noStandby 6 + h.lastCause * 2 ^ 8 + h.changes * 2 ^ 16

/-- FULL of HI_RING_STAT (R87): an enabled ring, or its completion ring, has no free entry. A command or transmit ring is
full when the host has placed a whole ring that is not fetched, a receive ring when no posted buffer is free (R85). -/
def State.ringFull (s : State) (p : HostPort) (n : Nat) : Bool :=
  let r := s.ring p n
  r.en && (if n < 64 then decide (r.dist r.ptr r.prod = r.size) || decide (r.dist r.cons r.cptr = r.size)
    else if n < 80 then r.full
    else if n < 192 then decide (r.ptr = r.prod)
    else decide (r.dist r.ptr r.prod = r.size))

/-- A ring block (R87). -/
def State.readRing (s : State) (p : HostPort) (n o : Nat) : Nat :=
  let r := s.ring p n
  match o with
  | 0 => r.base % 2 ^ 32
  | 4 => r.base / 2 ^ 32
  | 8 => if n < 64 then r.cbase % 2 ^ 32 else 0
  | 0xC => if n < 64 then r.cbase / 2 ^ 32 else 0
  | 0x10 => r.log2n + r.vector * 2 ^ 8 + at' r.irqEn 16 + r.typ * 2 ^ 20
  | 0x14 => at' r.en 0 + at' r.active 1
  | 0x18 => r.ptr
  | 0x1C => if n < 64 then r.cptr else 0
  | 0x20 => at' r.dbErr 0 + at' r.dmaErr 1 + at' r.descErr 2 + at' r.cfgErr 3 + at' (s.ringFull p n) 4
  | 0x24 => r.drop
  | 0x28 => r.wcount
  | _ => 0

/-- A half of the HI block, at an offset of HA's. -/
def State.readHi (s : State) (p : HostPort) (o : Nat) : Nat :=
  let h := s.half p
  if o = 0 then at' h.linkUp 0 + h.rate * 2 + h.width * 2 ^ 4 + at' h.bme 7
  else if o = 4 then s.hiRole p
  else if o = 8 ∨ o = 0xC then s.rd (hiReg p o)
  else if o = 0x14 then (match s.ageUnits p with | some a => satTo (2 ^ 32 - 1) (a * 100) | none => 2 ^ 32 - 1)
  else if o = 0x40 then at' h.busy 1
  else if 0x1000 ≤ o ∧ o < 0x5000 ∧ ringId ((o - 0x1000) / 0x40) then s.readRing p ((o - 0x1000) / 0x40) ((o - 0x1000) % 0x40)
  else if 0x7000 ≤ o ∧ o < 0x7400 then h.msix.get (if o % 16 = 12 then 1 else 0) ((o - 0x7000) / 4)
  else if o = 0x7800 ∨ o = 0x7804 then
    ((List.range 32).map fun i => at' (h.vec.get Vec.zero ((o - 0x7800) * 8 + i)).pend i).sum
  else
    arr o 0x104 4 10 (fun t => h.evtLost.get 0 (t + 1)) fun _ =>
    arr o 0x800 4 64 (fun _ => s.rd (hiReg p o)) fun _ => 0

/-! ## Referee, collector, power and clocks -/

/-- The REF block (R551). -/
def State.readRef (s : State) (o : Nat) : Nat :=
  let r := s.ref
  match o with
  | 0x00 => s.flt.keel1.voted
  | 0x04 => s.flt.keel2.voted
  | 0x0C => at' (s.collieOk .a) 0 + at' (s.collieOk .b) 1 + at' r.cmdErr 2 + at' (decide (r.fwu ≠ .none)) 3
      + at' r.fwuErr 4 + r.swaps * 2 ^ 8 + r.failovers * 2 ^ 16
  | 0x10 => s.healthWord .a
  | 0x14 => s.healthWord .b
  | 0x18 => s.rd 0x20018
  | 0x20 => s.rd 0x20020
  | 0x24 => s.rd 0x20024
  | 0x28 => s.rd 0x20028
  | 0x30 => r.a.version
  | 0x34 => r.b.version
  | _ => 0

/-- The 32 bytes of a fault record, PHASE 0 (R503). -/
def Rec.bytes (r : Rec) : List Byte :=
  [BitVec.ofNat 8 4, BitVec.ofNat 8 r.code]
    ++ toLE 2 (r.src % 2 ^ 12 + r.cls.code * 2 ^ 12 + at' r.injected 14)
    ++ toLE 4 r.number ++ timeBytes r.time ++ toLE 7 r.detail ++ toLE 1 (bits r.detail 62 56)

/-- The record at a position of the history, 0 the oldest held (R511). -/
def FaultSt.atIndex (f : FaultSt) (i : Nat) : List Byte :=
  if i < f.hist.length then (match f.hist.drop (f.hist.length - 1 - i) with | r :: _ => r.bytes | [] => []) else []

/-- The FLT block (R526). -/
def State.readFlt (s : State) (o : Nat) : Nat :=
  let f := s.flt
  if o = 0 then at' f.frozen 0 + at' f.selfFault 1 + f.selfCe * 2 ^ 8 + f.coalesced * 2 ^ 16
  else if o = 4 ∨ o = 0x40 then s.rd (0x30000 + o)
  else if o = 0xC then f.fatal
  else if o = 0x10 then at' f.firstValid 0 + at' (decide (f.later ≠ 0)) 1 + f.later * 2 ^ 16
  else if o = 0x44 then f.hist.length
  else if o = 0x48 then f.last
  else if o = 0x80 then at' f.lostValid 0 + f.lostCount * 2 ^ 16
  else if o = 0x88 ∨ o = 0x8C then half64 o 0x88 (f.lostTime / 65536 / nsPerSec)
  else if o = 0x90 then f.lostTime / 65536 % nsPerSec
  else if o = 0xA0 then f.classCe
  else if o = 0xA4 then f.classUc
  else if o = 0xA8 then f.classFt
  else if o = 0xB0 then ((List.range 5).map fun i => at' (s.keel i).stuck i + at' (s.keel i).bad.isSome (8 + i)).sum
  else if o = 0xB4 then f.keelFix
  else if o = 0xC0 then f.inj.length + f.consumed * 2 ^ 16
  else
    arr o 0x20 4 8 (fun w => match f.first with | some r => le r.bytes (4 * w) 4 | none => 0) fun _ =>
    arr o 0x60 4 8 (fun w => le (f.atIndex (bits (s.rd 0x30040) 10 0)) (4 * w) 4) fun _ =>
    arr o 0x4000 4 4096 (fun i => f.srcCnt.get 0 i) fun _ => 0

/-- The PWR block (R485). -/
def State.readPwr (s : State) (o : Nat) : Nat :=
  if o = 0 then s.pwrCap
  else if o = 4 ∨ o = 0x84 then s.rd (0x40000 + o)
  else if o = 8 then s.pwrStat
  else if o = 0xC then s.pwrLevel
  else if o = 0x10 then s.pwrEst
  else if o = 0x14 then s.pwrMeas
  else if o = 0x18 then s.pwrCal
  else if o = 0x20 then s.pwrTemp
  else if o = 0x24 then (match s.pwr.thermal with | some t => satTo 2047 (t / 4096) | none => 0)
  else if o = 0x28 then s.pwr.mv
  else if o = 0x80 then s.saveStat
  else if o = 0x100 then s.slicePark
  else
    arr o 0x40 4 16 (fun _ => s.rd (0x40000 + o)) fun _ =>
    arr o 0x140 4 16 s.lanePark fun _ =>
    arr o 0x1000 4 1024 s.saveData fun _ => 0

/-- CLK_STAT (R498). -/
def State.clkStat (s : State) : Nat :=
  at' s.clk.trimLocked 0 + at' s.sysRefOk 1 + ((List.range 9).map fun i => at' (s.judge (2 + i)).stable (2 + i)).sum
    + ((List.range 16).map fun h => at' (s.judge (16 + h)).stable (16 + h)).sum

/-- The CLK block (R498). -/
def State.readClk (s : State) (o : Nat) : Nat :=
  let c := s.clk
  match o with
  | 0x00 => s.clkStat
  | 0x04 => at' c.ref0Present 0 + at' (s.judge 0).stable 1 + at' c.ref1Present 2 + at' (s.judge 1).stable 3
      + at' c.sysRef1 4 + c.switches * 2 ^ 16
  | 0x08 => bits (s.rd 0x50008) 4 0 + c.pipeCur * 2 ^ 8
  | 0x0C => s.rd 0x5000C
  | 0x10 => s.rd 0x50010
  | 0x14 => c.trimCode + unsigned 12 c.trimErr * 2 ^ 16 + at' c.trimLocked 31
  | _ => 0

/-! ## Time -/

/-- TIME_STAT (R431). -/
def State.timeStat (s : State) : Nat :=
  at' (decide (s.activeTe = .b)) 0 + at' (s.teOk .a) 1 + at' (s.teOk .b) 2 + at' s.time.busy 3 + at' s.time.err 4
    + s.time.switches * 2 ^ 16

/-- An integer as a signed 32-bit field, saturating. -/
def signSat (v : Int) : Nat :=
  if v < -(2 ^ 31) then 2 ^ 31 else if 2 ^ 31 - 1 < v then 2 ^ 31 - 1 else unsigned 32 v

/-- A pulse output and a capture input. -/
def State.timeOut (s : State) (i : Nat) : TimeOut := s.time.outs.get TimeOut.zero i
/-- A capture input. -/
def State.timeIn (s : State) (j : Nat) : TimeIn := s.time.ins.get TimeIn.zero j

/-- The TIME block (R431). -/
def State.readTime (s : State) (o : Nat) : Nat :=
  let standby := s.te s.activeTe.peer
  if o = 0 ∨ o = 4 then half64 o 0 (s.devNs / nsPerSec)
  else if o = 8 then s.devNs % nsPerSec
  else if o = 0x30 then s.timeStat
  else if o = 0x34 then (if standby.run then signSat s.teDiff else 0)
  else if [0x10, 0x14, 0x18, 0x1C, 0x20, 0x24, 0x28].contains o then s.rd (0x60000 + o)
  else if 0x100 ≤ o ∧ o < 0x200 then
    let i := (o - 0x100) / 0x20
    let x := s.timeOut i
    match o % 0x20 with
    | 0x14 => at' x.en 0 + bits (s.rd (0x60000 + o)) 1 1 * 2 + at' x.err 2
    | k => if k < 0x14 then s.rd (0x60000 + o) else 0
  else if 0x200 ≤ o ∧ o < 0x280 then
    let x := s.timeIn ((o - 0x200) / 0x20)
    match o % 0x20 with
    | 0 => x.cap / 65536 / nsPerSec % 2 ^ 32
    | 4 => x.cap / 65536 / nsPerSec / 2 ^ 32
    | 8 => x.cap / 65536 % nsPerSec
    | 0xC => x.cap % 65536
    | 0x10 => s.rd (0x60000 + o)
    | 0x14 => x.captures % 2 ^ 16 + x.lost * 2 ^ 16
    | _ => 0
  else 0

/-- The CAL block (R432). -/
def State.readCal (s : State) (o : Nat) : Nat :=
  if o = 0 ∨ o = 4 then half64 o 0 (s.calBase / nsPerSec)
  else if o = 8 then s.calBase % nsPerSec
  else if o = 0x10 then s.rd 0x500010
  else if 0x4000 ≤ o ∧ o < 0x8000 then
    match o % 16 with
    | 8 => let f := s.frer ((o - 0x4000) / 16); (if s.frerFunc ((o - 0x4000) / 16) = 2 then f.passed else f.seq) + at' f.takeAny 16
    | 12 => 0
    | _ => s.rd (0x500000 + o)
  else 0

/-! ## Telemetry, buffer, core, scheduler, tables, identity -/

/-- The PERF block (R458). -/
def State.readPerf (s : State) (o : Nat) : Nat :=
  let t := s.tel
  if o = 4 then at' t.pend.isSome 0 + at' t.frozen 1 + t.trigger * 4 + t.pin * 16
  else if o = 8 then t.snapId
  else if o = 0x10 ∨ o = 0x14 then half64 o 0x10 (t.snapAt / 65536 / nsPerSec)
  else if o = 0x18 then t.snapAt / 65536 % nsPerSec
  else if 0x200 ≤ o ∧ o < 0x238 then s.cntWord (0x70000 + o)
  else if o = 0 ∨ o = 0x120 ∨ inArr o 0x100 4 6 then s.rd (0x70000 + o)
  else 0

/-- The BPM block (R332). -/
def State.readBpm (s : State) (o : Nat) : Nat :=
  let b := s.buf
  if o < 0x20 ∨ o = 0x60 ∨ inArr o 0x100 4 16 ∨ inArr o 0x140 4 16 then s.rd (0x80000 + o)
  else if o = 0x44 then
    at' s.fit 0 + at' b.commitErr 1 + at' b.busy 2
      + at' (decide ([s.wantCnt 0, s.wantCnt 1, s.wantCnt 2, s.wantCnt 3] ≠ [b.cnt0, b.cnt1, b.cnt2, b.cnt3])) 3
  else if o = 0x48 then s.sharedSpace.toNat
  else if o = 0x4C then b.used
  else if o = 0x50 then b.sparesLeft
  else if o = 0x54 then b.hostCnt
  else if o = 0x58 then b.withdrawnTiles
  else if o = 0x64 then b.sweeps + b.lastMs * 2 ^ 16 + at' b.running 24
  else if 0x200 ≤ o ∧ o < 0x260 then s.cntWord (0x80000 + o)
  else
    arr o 0x20 4 4 b.free fun _ =>
    arr o 0x30 4 4 b.base fun _ => 0

/-- The CORE block (R365, R366). -/
def State.readCore (s : State) (o : Nat) : Nat :=
  if o = 8 then ((List.range 16).map fun m => at' (s.mir m).fallback m).sum
  else if (0x800 ≤ o ∧ o < 0x870) ∨ (0xA00 ≤ o ∧ o < 0xB00) then s.cntWord (0x90000 + o)
  else if o = 0 ∨ o = 4 ∨ inArr o 0x80 4 32 ∨ inArr o 0x100 4 32 ∨ inArr o 0x200 4 16 ∨ inArr o 0x400 4 64
      ∨ inArr o 0x1000 4 256 then s.rd (0x90000 + o)
  else 0

/-- The SCH block (R390). -/
def State.readSch (s : State) (o : Nat) : Nat :=
  if o = 0 ∨ o = 4 then s.rd (0xA0000 + o)
  else if 0x100 ≤ o ∧ o < 0x118 then s.cntWord (0xA0000 + o)
  else 0

/-- The TBL block (R298). -/
def State.readTbl (s : State) (o : Nat) : Nat :=
  let t := s.tab
  if o = 0 then s.rd 0xB0000
  else if o = 8 then
    t.stash.length + t.spare.getD 0x1F * 2 ^ 16
      + (match t.mig with
        | some m => (if m.finished then 2 ^ 22 else 2 ^ 21) + m.seg * 2 ^ 24
        | none => 0)
  else if o = 0xC then (match t.mig with | some m => m.cursor % 2 ^ 18 | none => 0)
  else if o = 0x10 then t.direct.length
  else if o = 0x300 then t.retired
  else if 0x200 ≤ o ∧ o < 0x230 then s.cntWord (0xB0000 + o)
  else
    arr o 0x40 4 16 s.segPhys fun _ =>
    arr o 0x80 4 32 (fun _ => s.rd (0xB0000 + o)) fun _ =>
    arr o 0x100 4 16 s.segUsed fun _ =>
    arr o 0x180 4 32 (fun _ => s.rd (0xB0000 + o)) fun _ => 0

/-- The newest valid wear copy's SEQ. -/
def State.wearSeq (s : State) : Nat :=
  let c := if s.ref.wearCopy = 0 then s.kennel.copy0 else s.kennel.copy1
  if c.valid && decide (s.md.phase = .done) then c.seq else 0

/-- The ID block (R552). -/
def State.readId (s : State) (o : Nat) : Nat :=
  let r := s.ref
  if o = 0 ∨ o = 4 then (if r.seReady then half64 o 0 Config.serial.toNat else 0)
  else if o = 8 then r.wearCopy + at' r.wearWriting.isSome 1 + at' r.wearErr 2 + s.wearSeq % 2 ^ 16 * 2 ^ 16
  else if o = 0xC then (match r.wearAt with | some t => satTo (2 ^ 32 - 1) ((s.now - t) / nsPerSec) | none => 2 ^ 32 - 1)
  else if o = 0x10 then at' r.seReady 0 + at' r.seFault 1
  else arr o 0x20 4 8 (fun i => r.wearSum.getD i 0) fun _ => 0

/-! ## Replicated blocks -/

/-- A slice block (R558). -/
def State.readSl (s : State) (n o : Nat) : Nat :=
  let x := s.slice n
  if o = 0x108 then
    x.inService + x.spares.length * 2 ^ 8 + x.retired.length * 2 ^ 16
      + 2 ^ 24 * (match x.test with | some (e, _) => e | none => 0xFF)
  else if o = 0x124 then x.canPass + x.canFail * 2 ^ 16 + x.canLast * 2 ^ 24
  else if o = 0x300 then x.lostRows + x.fixes * 2 ^ 16
  else if o = 0x414 ∨ o = 0x418 then (x.lpm.filter fun e => e.2.v6 = decide (o = 0x418)).length
  else if o = 0x428 then x.l2.length
  else if (0x140 ≤ o ∧ o < 0x190) ∨ (0x340 ≤ o ∧ o < 0x360) ∨ (0x440 ≤ o ∧ o < 0x480) ∨ o = 0x580 ∨ o = 0x584
      ∨ (0x900 ≤ o ∧ o < 0x940) ∨ (0xA00 ≤ o ∧ o < 0xC00) then s.cntWord (slReg n o)
  else if inArr o 0x200 4 32 then bits (s.rd (slReg n o)) 6 0 + x.sparesLeft ((o - 0x200) / 4) * 2 ^ 16
  else if inArr o 0x110 4 4 then
    ((List.range 32).map fun b => at' (x.retired.contains ((o - 0x110) * 8 + b)) b).sum
  else if [0x100, 0x104, 0x120, 0x400, 0x404, 0x408, 0x40C, 0x410, 0x420, 0x424, 0x700].contains o
      ∨ inArr o 0x280 4 32 ∨ inArr o 0x500 4 24 ∨ inArr o 0x600 4 4 ∨ inArr o 0x800 4 64 then s.rd (slReg n o)
  else 0

/-- PT_STAT (R166). -/
def State.ptStat (s : State) (p : Nat) : Nat :=
  let x := s.pt p
  x.state.code + at' x.cfgErr 3 + at' x.localFault 4 + at' x.remoteFault 5 + at' x.fecDegrade 6 + at' x.d2dDown 7
    + at' x.reversed 8 + x.downCount * 2 ^ 24

/-- A port block of an active port, at an offset below the counters (R559). -/
def State.readPtBlock (s : State) (p o : Nat) : Nat :=
  let c := s.cal p
  if o = 8 then s.ptStat p
  else if o = 0x100 then s.time.rxLat.get 0 p
  else if o = 0x104 then s.time.txLat.get 0 p
  else if o = 0x140 then
    at' c.en 0 + 2 * (match c.act with | some b => b + 1 | none => 0) + at' (s.calPending p) 3 + at' c.cfgErr 4
  else if o = 0x144 then c.fret + c.swaps * 2 ^ 16
  else if 0x150 ≤ o ∧ o < 0x170 then
    let b := c.bank ((o - 0x150) / 16)
    match o % 16 with
    | 0 => b.cycle
    | 4 => b.capo
    | 8 => b.tag
    | _ => b.frets.length
  else if o = 0x1C4 then s.time.verify.get 0 p + at' (s.preempting p) 3
  else if [0, 4, 0xC, 0x10, 0x14, 0x18, 0x1C, 0x20, 0x24, 0x28, 0x2C, 0x30, 0x108, 0x10C, 0x180, 0x1C0].contains o then
    s.rd (ptReg p o)
  else 0

/-- A port block: an inactive port reads its reset values, but for its counters (R17). -/
def State.readPt (s : State) (p o : Nat) : Nat :=
  if (0x400 ≤ o ∧ o < 0x540) ∨ (0x600 ≤ o ∧ o < 0x700) then s.cntWord (ptReg p o)
  else if s.inactive p then (if o < 0x200 then resetPt o else 0)
  else s.readPtBlock p o

/-- HP_LANE_STAT (R169). -/
def LaneSt.stat (x : LaneSt) : Nat :=
  at' x.sigDet 0 + at' x.cdrLock 1 + at' x.trained 2 + at' x.polInv 3 + at' x.prbsLock 4 + x.peerLane * 2 ^ 5
    + x.margin * 2 ^ 8

/-- A harp block (R560). -/
def State.readHp (s : State) (h o : Nat) : Nat :=
  if o = 0 then at' (s.port.pllLock.get false h) 0 + at' (s.judge (16 + h)).stable 1
  else if o = 4 then s.port.d2d.get 0 (2 * h) + s.port.d2d.get 0 (2 * h + 1) * 2 ^ 8
  else if 0x1000 ≤ o ∧ o < 0x3000 then
    let l := 32 * h + (o - 0x1000) / 0x100
    let x := s.lane l
    match o % 0x100 with
    | 0 => x.stat
    | 4 => s.rd (laneReg l 4)
    | 8 => x.cur
    | 0x10 => x.prbsErr % 2 ^ 32
    | 0x14 => x.prbsErr / 2 ^ 32
    | _ => 0
  else 0

/-- The four bytes of BAR0 at an aligned offset (R554, R563). -/
def State.bar0 (s : State) (o : Nat) : Nat :=
  if s.mode = .save then 0
  else if o < 0x10000 then s.readGl o
  else if o < 0x18000 then s.readHi .ha (o - 0x10000)
  else if o < 0x20000 then s.readHi .hb (o - 0x18000)
  else if o < 0x30000 then s.readRef (o - 0x20000)
  else if o < 0x40000 then s.readFlt (o - 0x30000)
  else if o < 0x50000 then s.readPwr (o - 0x40000)
  else if o < 0x60000 then s.readClk (o - 0x50000)
  else if o < 0x70000 then s.readTime (o - 0x60000)
  else if o < 0x80000 then s.readPerf (o - 0x70000)
  else if o < 0x90000 then s.readBpm (o - 0x80000)
  else if o < 0xA0000 then s.readCore (o - 0x90000)
  else if o < 0xB0000 then s.readSch (o - 0xA0000)
  else if o < 0xC0000 then s.readTbl (o - 0xB0000)
  else if o < 0xD0000 then s.readId (o - 0xC0000)
  else if 0x100000 ≤ o ∧ o < 0x200000 then s.readSl ((o - 0x100000) / 0x10000) (o % 0x10000)
  else if 0x200000 ≤ o ∧ o < 0x400000 then s.readPt ((o - 0x200000) / 0x1000) (o % 0x1000)
  else if 0x400000 ≤ o ∧ o < 0x500000 then s.readHp ((o - 0x400000) / 0x10000) (o % 0x10000)
  else if 0x500000 ≤ o ∧ o < 0x510000 then s.readCal (o - 0x500000)
  else 0

/-- A read of `n` bytes of BAR0 (R7, R74): an aligned access of four bytes, or of eight to a 64-bit register, which
returns one coherent value; any other read returns 0. -/
def State.readBar0 (s : State) (o n : Nat) : Nat :=
  if n = 4 ∧ o % 4 = 0 then s.bar0 o
  else if n = 8 ∧ o % 8 = 0 ∧ (isWide o = true ∨ isWideRo o = true) then s.bar0 o + 2 ^ 32 * s.bar0 (o + 4)
  else 0

/-- A 4-byte read of a port's BAR2 (R81, R561). -/
def State.bar2 (s : State) (p : HostPort) (o : Nat) : Nat :=
  let n := o / 0x1000
  if s.mode = .save then 0
  else if o % 0x1000 = 0 ∧ ringId n ∧ (n < 64 ∨ 128 ≤ n) then (s.ring p n).dbProd
  else if o % 0x1000 = 8 ∧ n < 80 then (s.ring p n).dbCons
  else 0

/-- An 8-byte read of BAR4 at an aligned offset (R457, R562). -/
def State.bar4 (s : State) (o : Nat) : Nat :=
  let n := o / 0x1000 % 16
  let x := o % 0x1000
  if s.mode = .save || !bit (s.rd 0x70000) n then 0
  else if x = 0 then s.tel.snapId
  else if x = 8 then s.tel.snapAt / 65536 / nsPerSec
  else if x = 0x10 then s.tel.snapAt / 65536 % nsPerSec
  else if x = 0x18 then s.devNs / nsPerSec
  else if x = 0x20 then s.devNs % nsPerSec
  else if 0x40 ≤ x ∧ x < 0x80 then (s.cnt (slReg n (0x900 + (x - 0x40)))).toNat
  else if 0x80 ≤ x ∧ x < 0xC0 then (s.tel.bank.cnts.get 0 (slReg n (0x900 + (x - 0x80)))).toNat
  else if 0x100 ≤ x ∧ x < 0x300 then (s.cnt (slReg n (0xA00 + (x - 0x100)))).toNat
  else if 0x300 ≤ x ∧ x < 0x500 then (s.tel.bank.cnts.get 0 (slReg n (0xA00 + (x - 0x300)))).toNat
  else if 0x500 ≤ x ∧ x < 0x600 then
    s.rd (slReg n (0x800 + (x - 0x500))) + 2 ^ 32 * s.rd (slReg n (0x800 + (x - 0x500) + 4))
  else 0

/-! ## PCIe identity and options (R70, R71) -/

/-- What the configuration header of a host port identifies it with (R71). -/
structure PcieId where
  vendor : Nat
  device : Nat
  classCode : Nat
  revision : Nat
  deriving DecidableEq, Repr

/-- The identity that both ports present (R71): the revision is GL_ID[15:8]. -/
def State.pcieId (s : State) (_ : HostPort) : PcieId :=
  { vendor := Config.vendorId.toNat, device := 0x5120, classCode := 0x028000, revision := bits (s.readGl 0) 15 8 }

/-- The PCIe options of a host port (R70). -/
structure PcieOptions where
  /-- Rates as codes of HI_PORT_STAT.RATE, and widths in lanes. -/
  rates : List Nat
  widths : List Nat
  laneReversal : Bool
  maxPayload : List Nat
  maxRead : Nat
  tagBits : Nat
  functions : Nat
  sriov : Bool
  ari : Bool
  msixVectors : Nat
  msi : Bool
  intx : Bool
  aer : Bool
  ecrc : Bool
  d3hot : Bool
  aspm : Bool
  d1d2 : Bool
  doe : Bool
  /-- ATS, PRI, PASID, PTM, TPH and Resizable BAR. -/
  otherCaps : Bool
  relaxedOrdering : Bool
  idOrdering : Bool
  deriving DecidableEq, Repr

/-- What each host port supports (R70). -/
def pcieOptions : PcieOptions :=
  { rates := [3, 4, 5, 6], widths := [1, 2, 4], laneReversal := true, maxPayload := [128, 256, 512], maxRead := 4096,
    tagBits := 10, functions := 1, sriov := false, ari := false, msixVectors := 64, msi := false, intx := false,
    aer := true, ecrc := true, d3hot := true, aspm := false, d1d2 := false, doe := true, otherCaps := false,
    relaxedOrdering := false, idOrdering := false }

/-- The level of SAFE_N: low in RESET and in SAFE (R37). -/
def State.safeN (s : State) : Bool := decide (s.mode ≠ .reset) && decide (s.mode ≠ .safe)

end Sys2Proof.Machine
end

