-- ==== Sys2Proof/Machine/Entry.lean ====
section
/-! DEFINITION. Entry into RESET, BOOT, SAVE and SAFE, each one operation that its triggers share (R36 to R56, R64, R66,
R481, R482, R514, R591, R592). -/
namespace Sys2Proof.Machine

/-- Commit a mode whatever keel register 0 holds, with the mode before it in PREV (R57, R524). -/
def State.enterMode (m : Mode) (cause : Nat) (s : State) : State :=
  let old := s.mode
  let s1 := s.commit 0 m.code
  { s1 with md.prev := old, md.cause := cause }

/-! ## SAFE (R49, R50, R514, R592) -/

/-- A mode change in progress is stopped (R592). -/
def State.stopReq (s : State) : State :=
  match s.md.req with
  | none => s
  | some r =>
    let s1 := { s with md.req := none }
    match r.cmd with
    | some c => s1.completeSer c .aborted 0 0
    | none => { s1 with md.reqResult := 6 }

/-- A load into a control-store bank and one into a tree bank of a generation stop (R50). -/
def State.stopLoads (g : Nat) (s : State) : State :=
  let s1 := match (s.csBank g).load with
    | some l => (s.setCsBank g { s.csBank g with load := none }).completeSer l.cmd .aborted 0 0
    | none => s
  match (s1.treeBank g).load with
  | some l => (s1.setTreeBank g { s1.treeBank g with load := none }).completeSer l.cmd .aborted 0 0
  | none => s1

/-- Swaps of generations stop: a pending one does not happen, a draining one keeps its effect (R50, R249). -/
def State.stopSwaps (s : State) : State :=
  let s1 := match s.gen.swap with
    | some w => ({ s with gen.swap := none }).completeSer w.cmd .aborted 0 0
    | none => s
  s1.gen.drains.foldl (fun t d => t.completeSer d.cmd .aborted d.count 0) { s1 with gen.drains := [] }

/-- Pending calendar swaps take no effect on the ports that have not swapped (R50). -/
def State.stopCalSwaps (s : State) : State :=
  let clear (e : Nat × Cal) : Option (Nat × Cal) :=
    let c := { e.2 with pending := false, swapAt := none }
    if c = Cal.zero then none else some (e.1, c)
  let s1 := { s with time.cal := s.time.cal.filterMap clear }
  s1.time.calSwaps.foldl (fun t w => t.completeSer w.cmd .aborted 0 0) { s1 with time.calSwaps := [] }

/-- A pending snapshot does not take effect (R50, R454). -/
def State.stopSnap (s : State) : State :=
  match s.tel.pend with
  | some w => ({ s with tel.pend := none }).completeSer w.cmd .aborted 0 0
  | none => s

/-- Unparks under way and a CAP_SET that waits for the clock complete with ABORTED. -/
def State.stopPower (s : State) : State :=
  let s1 := (s.pwr.ramps.filterMap Ramp.cmd).foldl (fun t c => t.completeSer c .aborted 0 0)
    { s with pwr.ramps := [] }
  s1.pwr.capWait.foldl (fun t c => t.completeSer c.1 .aborted 0 0) { s1 with pwr.capWait := [] }

/-- A frame in transmission is ended with an inverted FCS and counted in TX_STOMPED; its extent stays (R514, R56). -/
def State.stompOut (p : Nat) (t : Tx) (s : State) : State :=
  let b := s.dataOf t.d.h
  let x : NodeIn := { d := t.d, p := p, at' := s.devTime, used := t.used, throttle := t.throttle,
                      hop := hopLimit b t.d.hdrs }
  let e := s.editFrame x (body b)
  (((s.lineOut p (stomped e.bytes) true).ptCount p 8 1).ptCount p 9 (e.bytes.length + 4)).ptCount p 10 1

/-- What is left of a preemptable frame on its way out ends with an inverted FCS (R514). -/
def State.stompSending (p : Nat) (x : Sending) (s : State) : State :=
  let b := if x.bad then x.bytes else stomped (body x.bytes)
  (s.beginSending p { x with bytes := b, bad := true }).finishSending p

/-- Every transmitter stops its frame (R514); a recirculation port has no transmitter. -/
def State.stompAll (s₀ : State) : State :=
  let s := s₀.core.sending.foldl (fun t e => t.stompSending e.1 e.2) s₀
  (s.core.tx.filter fun e => !s.isRecirc e.1).foldl
    (fun t e => ({ t with core.tx := t.core.tx.erase e.1 }).stompOut e.1 e.2) s

/-- The collector freezes: what is pending stays counted, what one step still had to raise is only counted, and armed
injections are discarded (R514, R518). -/
def State.freeze (s : State) : State :=
  let f := s.flt.follow
  let s1 := { s with flt := { s.flt with frozen := true, pend := [], follow := [], inj := [] } }
  f.foldl (fun t r => t.raiseX r.src r.code r.cls r.detail r.injected) s1

/-- A wear write in progress is abandoned: its copy has been marked invalid at its start (R545). -/
def State.stopWear (s : State) : State := { s with ref.wearWriting := none }

/-- Entry into SAFE from BOOT to PARK, with its cause (R38, R49, R50, R514, R592); a wear write goes on (R545). -/
def State.enterSafe (cause : Nat) (s : State) : State :=
  let s1 := s.freeze.enterMode .safe cause
  let s2 := (((s1.stopReq.stopTables.stopLoads 0).stopLoads 1).stopSwaps.stopCalSwaps).stopSnap
  s2.stopPower.stompAll

/-! ## SAVE (R481, R482) -/

/-- 32-bit words as bytes. -/
def wordBytes (ws : List Nat) : List Byte := ws.flatMap (toLE 4)

/-- The fault counts and the fault records of a save (R481). -/
def State.saveFaults (s : State) : List Byte × List Byte :=
  (wordBytes ((List.range 4096).map fun i => s.flt.srcCnt.get 0 i),
   cut ((match s.flt.first with | some r => if s.flt.firstValid then r.bytes else cut [] 0 32 | none => cut [] 0 32) ++ s.flt.hist.reverse.flatMap Rec.bytes) 0 65536)

/-- The save area's bytes with the CRC of R301 in place (R481). -/
def withCrc (b : List Byte) : List Byte :=
  let z := b.take 252 ++ cut [] 0 4 ++ b.drop 256
  b.take 252 ++ toLE 4 (crcFin (crcRun polyC (2 ^ 32 - 1) z)) ++ b.drop 256

/-- The content of a save, its CRC still 0 (R481): SEQ, the mode at the fall, VHOLD in mV and FLAGS. -/
def State.saveBytes (s : State) (seq mv flags : Nat) : List Byte :=
  let (counts, recs) := s.saveFaults
  let head := toLE 4 0x51205A7E ++ [1, BitVec.ofNat 8 s.mode.code, BitVec.ofNat 8 flags, 0] ++ toLE 4 seq
    ++ toLE 4 0x18000 ++ timeBytes s.devTime ++ toLE 4 0x51202100 ++ toLE 2 mv
  let words := wordBytes [s.glMode, s.hiRole .ha, s.hiRole .hb, s.timeStat, s.pwrCap,
    s.calBase / nsPerSec % 2 ^ 32, s.calBase / nsPerSec / 2 ^ 32, s.calBase % nsPerSec, s.genStat]
  let power := wordBytes [s.pwrStat, s.pwrLevel, s.pwrEst, s.pwrMeas, s.pwrCal, s.pwrTemp, s.pwr.mv]
  let ports := wordBytes ((List.range 512).flatMap fun p => [s.readPt p 8, s.readPt p 4])
  cut head 0 256 ++ cut words 0 256 ++ cut power 0 512 ++ ports ++ counts
    ++ cut (s.pwr.calLog.reverse.flatMap id) 0 8192 ++ cut [] 0 3072 ++ recs

/-- The fault parts of a save gathered anew, with FATAL set (R54). -/
def State.patchSave (s : State) (b : List Byte) : List Byte :=
  let (counts, recs) := s.saveFaults
  b.take 6 ++ [BitVec.ofNat 8 (byteAt b 6 ||| 1)] ++ (b.take 0x1400).drop 7 ++ counts ++ (b.take 0x8000).drop 0x5400 ++ recs

/-- A save area of the kennel. -/
def State.saveAreaAt (s : State) (i : Nat) : SaveArea := if i = 0 then s.kennel.save0 else s.kennel.save1

/-- Replace a save area. -/
def State.setSaveArea (i : Nat) (a : SaveArea) (s : State) : State :=
  if i = 0 then { s with kennel.save0 := a } else { s with kennel.save1 := a }

/-- The area that holds the newest valid save: the higher SEQ (R482). -/
def State.newestSave (s : State) : Option Nat :=
  let a := s.kennel.save0
  let b := s.kennel.save1
  if a.valid && (!b.valid || decide (b.seq ≤ a.seq)) then some 0 else if b.valid then some 1 else none

/-- A save begins: it writes the area that does not hold the newest valid one, which has no valid header until the save
ends (R481, R482). -/
def State.startSave (mv flags : Nat) (s : State) : State :=
  let area := match s.newestSave with | some 0 => 1 | _ => 0
  let seq := match s.newestSave with
    | some i => ((s.saveAreaAt i).seq + 1) % 2 ^ 32
    | none => ((if s.kennel.save0.seq < s.kennel.save1.seq then s.kennel.save1.seq else s.kennel.save0.seq) + 1) % 2 ^ 32
  let b := s.saveBytes seq mv flags
  { s.setSaveArea area { s.saveAreaAt area with valid := false } with
    pwr.save := some { area := area, since := s.now, bytes := b } }

/-- Entry into SAVE (R51, R481): fetched commands, requests, loads and swaps are lost without a completion, frames on
their way out end, host DMA stops. -/
def State.enterSave (mv : Nat) (s : State) : State :=
  let s1 := (s.startSave mv 0).enterMode .save 5
  let s2 := { s1 with cmds := [], md.req := none, tel.pend := none, gen.swap := none, gen.drains := [],
                      tab.job := .idle, tab.mig := s1.tab.mig.map fun (m : Mig) => { m with cmd := none }, core.tx := [], core.sending := [], pwr.ramps := [], pwr.capWait := [],
                      host.ha.held := [], host.hb.held := [], host.ha.late := [], host.hb.late := [] }
  ((s2.stopLoads 0).stopLoads 1).stopCalSwaps.stopWear

/-! ## RESET and BOOT (R38, R64, R66, R591) -/

/-- Entry into RESET (R64): every field as after reset, but for the kennel, the levels of pins, CAUSE and what is the
model's own. `hold` begins the millisecond of a device reset (R66). -/
def State.enterReset (cause : Nat) (hold : Bool) (s : State) : State :=
  let r := State.reset
  let r1 := { r with pending := s.pending, now := s.now, serial := s.serial, out := s.out, pins := s.pins,
                     kennel := s.kennel, host.ha.perst := s.host.ha.perst, host.hb.perst := s.host.hb.perst }
  { r1 with md.prev := if s.mode = .reset then s.md.prev else s.mode, md.cause := cause,
            md.resetAt := if hold then some s.now else none }

/-- A firmware fetch or check fails: the device returns to RESET with its host ports live (R38, R62, R591). -/
def State.fwFail (result : Nat) (s : State) : State :=
  let s1 := s.enterMode .reset 4
  { s1 with md := { s1.md with bootResult := result, fwAsked := false, fwStarted := false, hostLive := true },
            ref.a.state := .off, ref.b.state := .off, time.a := Te.zero, time.b := Te.zero }

/-- HOST_PREF of the sampled straps (R578). -/
def State.strapPref (s : State) : Nat := bits s.pins.strap 10 10

/-- Entry into BOOT at the rise of RESET_N or at the end of a device reset (R38, R57, R115, R542): CAUSE stays. -/
def State.enterBoot (s : State) : State :=
  let p := s.strapPref
  let s1 := ((s.enterMode .boot s.md.cause).commit 2 p).commit 1 (p * 4)
  { s1 with md := { s1.md with phase := .clocks, bootAt := s.now, resetAt := none } }

/-- BOOT resumes at WAIT_FW (R591): device time starts again from 0 on the engines whose PLLs are judged stable. -/
def State.resumeBoot (s : State) : State :=
  let s1 := s.enterMode .boot 1
  let te := fun (ok : Bool) => { Te.zero with run := ok }
  { s1 with md := { s1.md with phase := .waitFw, bootResult := 0, hostLive := false },
            ref.a.state := if s1.ref.a.memOk && s1.ref.a.katOk then .loading else .failed,
            ref.b.state := if s1.ref.b.memOk && s1.ref.b.katOk then .loading else .failed,
            time.a := te (s.judge 7).stable, time.b := te (s.judge 8).stable }

end Sys2Proof.Machine
end

