-- ==== Sys2Proof/Machine/Faults.lean ====
section
/-! DEFINITION. The fault collector: classes of codes, reports, records, the first-error latch, the collector's own
faults, injections, and the votes of the keel registers (R499 to R526). -/
namespace Sys2Proof.Machine
open Host (Outcome)

/-! ## Codes and their classes (R500, R501) -/

/-- The class of a code in a run of codes from `first` on. -/
def classAt (first : Nat) (l : List Cls) (code : Nat) : Option Cls := if first ≤ code then l[code - first]? else none

/-- The class of a slice's code (chapters 05 to 07). -/
def sliceClass (code : Nat) : Option Cls :=
  if code < 0x20 then classAt 0x10 [.ce, .ce, .uc, .ce, .uc] code
  else if code < 0x30 then classAt 0x20 [.ce, .ce, .ce, .uc, .ce, .uc] code
  else classAt 0x30 [.ce, .uc, .uc] code

/-- The class that the code tables give a source's code, none for a pair that is in no table. The collector's own code
is not among them: no report of it reaches the collector (R516). -/
def codeClass (src code : Nat) : Option Cls :=
  if src = 0x100 ∨ src = 0x101 then classAt 1 [.ce, .uc, .ce, .ce] code
  else if src = 0x200 then
    if code < 0x10 then classAt 1 [.ce, .uc, .uc, .ce] code
    else classAt 0x10 [.ce, .uc, .ce, .ft, .ce, .ce, .uc, .ce, .ce] code
  else if src = 0x400 then classAt 1 [.ce, .ce, .ce, .ce, .ce, .ft, .ce] code
  else if src = 0x500 then classAt 1 [.ce, .ce, .ft, .ft, .ce, .ce, .uc, .ce, .ce, .ce, .ft] code
  else if src = 0x600 then classAt 1 [.ce, .ce, .ce] code
  else if src = 0x700 then classAt 1 [.uc, .uc, .uc, .ce, .uc] code
  else if src = 0x701 then classAt 1 [.uc, .ce, .ce, .uc, .ce, .uc] code
  else if src = 0x702 then classAt 1 [.ce, .uc, .ce, .ce] code
  else if src = 0x800 then classAt 1 [.ce, .ce] code
  else if src = 0x900 then classAt 1 [.ce, .uc, .uc, .ce] code
  else if src = 0x901 then classAt 1 [.ce, .uc] code
  else if 0xA00 ≤ src ∧ src < 0xA10 then sliceClass code
  else if 0xB00 ≤ src ∧ src < 0xB10 then classAt 1 [.ce, .ce, .ce, .ce, .ce, .uc] code
  else if src = 0xC00 then classAt 1 [.ce, .uc, .uc, .ce, .ce, .uc] code
  else none

/-! ## The kennel's SECDED (R544) -/

/-- The save area or wear copy of the kennel that holds an uncorrectable word is taken as invalid; an injected one
leaves the stored data as they were. -/
def State.kennelBad (addr : Nat) (inj : Bool) (s : State) : State :=
  let drop (i : Nat) (s : State) : State :=
    { s with pwr.saveShown := s.pwr.saveShown && decide (s.pwr.saveArea ≠ i) }
  if addr < 0x18000 then
    drop 0 (if inj then s else { s with kennel.save0.valid := false })
  else if addr < 0x30000 then
    drop 1 (if inj then s else { s with kennel.save1.valid := false })
  else if inj then s
  else if addr < 0x90000 then
    { s with kennel.copy0.valid := false, ref.wearCopy := if s.kennel.copy1.valid then 1 else s.ref.wearCopy }
  else if addr < 0xF0000 then
    { s with kennel.copy1.valid := false, ref.wearCopy := if s.kennel.copy0.valid then 0 else s.ref.wearCopy }
  else s

/-- A word of the kennel fails its check: a single error is rewritten, an uncorrectable one spoils what holds it. An
injection armed for the address has caused it (R517). -/
def State.kennelCheck (addr : Nat) (double : Bool) (s : State) : State :=
  match s.injected 0xC00 0 addr with
  | (some two, s1) =>
    if two then (s1.kennelBad addr true).raiseX 0xC00 2 .uc (packItems [(20, addr)]) true
    else s1.raiseX 0xC00 1 .ce (packItems [(20, addr)]) true
  | (none, s1) =>
    if double then (s1.kennelBad addr false).raise 0xC00 2 .uc (packItems [(20, addr)])
    else s1.raise 0xC00 1 .ce (packItems [(20, addr)])

/-- The secure element fails: its fault is logged (R548). -/
def State.seFail (s : State) : State :=
  ({ s with ref.seFault := true, ref.seReady := false }).raise 0xC00 6 .uc 0

/-! ## Reports and records (R506 to R514) -/

/-- A checker raises a report of a code that the tables know (R500, R508). -/
def execFaultReport (source : BitVec 12) (code : Byte) (detail : BitVec 63) (s : State) : Outcome State Fault Refusal :=
  .next <|
    match codeClass source.toNat code.toNat with
    | none => s
    | some c =>
      if source.toNat = 0xC00 ∧ (code.toNat = 1 ∨ code.toNat = 2) then
        s.kennelCheck (detail.toNat % 2 ^ 20) (decide (code.toNat = 2))
      else if source.toNat = 0xC00 ∧ code.toNat = 6 then s.seFail
      else s.raise source.toNat code.toNat c detail.toNat

/-- One report stands before another: the earlier detection, and among equal times the lower source (R506). -/
def Rec.before (a b : Rec) : Bool := decide (a.seen < b.seen) || (decide (a.seen = b.seen) && decide (a.src < b.src))

/-- The report that is recorded next (R506). -/
def nextReport : List Rec → Option Rec
  | [] => none
  | r :: rs => match nextReport rs with
    | some x => if x.before r then some x else some r
    | none => some r

/-- The log number after one (R507). -/
def nextNumber (n : Nat) : Nat := if 2 ^ 32 - 1 ≤ n then 1 else n + 1

/-- The slice that a record counts as raised by (R512). -/
def recSlice (src : Nat) : Nat := if src / 256 = 0xA ∨ src / 256 = 0xB then src % 16 else 0

/-- A record as a FAULT event (R503, R512). -/
def Rec.evt (r : Rec) : Evt :=
  { typ := 4, code := r.code, source := r.src % 2 ^ 12 + r.cls.code * 2 ^ 12 + b2n r.injected * 2 ^ 14, time := r.time,
    detail := toLE 7 r.detail ++ toLE 1 (bits r.detail 62 56), sl := recSlice r.src }

/-- A record enters the history, and the latch when that is clear (R507, R509). -/
def State.logRec (r : Rec) (s : State) : State :=
  let f := s.flt
  let f1 := { f with hist := (r :: f.hist).take 2047, last := r.number }
  { s with flt := if f.firstValid then f1
      else { f1 with firstValid := true, first := some r, later := satTo 0xFFFF (f.raised - 1), raised := 0 } }

/-- A record is posted, or lost to the active port (R512, R513). -/
def State.postRec (r : Rec) (s : State) : State :=
  match s.postEvt r.evt with
  | (true, s1) => s1
  | (false, s1) =>
    { s1 with flt := { s1.flt with lostValid := true, lostCount := satInc 16 s1.flt.lostCount,
                                   lostTime := if s1.flt.lostValid then s1.flt.lostTime else r.time } }

/-- The cause that entry into SAFE shows for a fatal record (R514). -/
def Rec.cause (r : Rec) : Nat :=
  if r.src = 0x400 ∧ r.code = 6 then 7 else if r.src = 0x500 ∧ r.code = 0xB then 8 else 6

/-- Modes from which a fatal fault enters SAFE (R38). -/
def safeFrom (m : Mode) : Bool :=
  decide (m = .boot) || decide (m = .configure) || decide (m = .forward) || decide (m = .drain) || decide (m = .park)

/-- What a fatal record does: SAFE (R514), or in SAVE its place in the save under way (R54). -/
def State.fatal (r : Rec) (s : State) : State :=
  if safeFrom s.mode then ({ s with flt.fatal := r.number }).enterSafe r.cause
  else match s.pwr.save with
    | some v => if s.mode = .save then { s with pwr.save := some { v with bytes := s.patchSave v.bytes } } else s
    | none => s

/-- The follow-up of a source whose report has been recorded becomes pending (R506). -/
def State.takeFollow (src : Nat) (s : State) : State :=
  match s.flt.follow.find? fun r => r.src = src with
  | none => s
  | some r =>
    let rest := s.flt.follow.eraseP fun x => x.src = src
    ({ s with flt.follow := rest }).raiseX r.src r.code r.cls r.detail r.injected

/-- Record a pending report (R506 to R514). -/
def State.recordOne (r : Rec) (s : State) : State :=
  let r1 := { r with number := nextNumber s.flt.last }
  let s1 := { s with flt.pend := s.flt.pend.filter fun x => x.src ≠ r.src }
  let s2 := (s1.logRec r1).postRec r1
  if r1.cls = .ft then (s2.fatal r1).takeFollow r.src else s2.takeFollow r.src

/-- Every 4 ns the collector records one pending report, unless it is frozen (R506, R514). -/
def execFaultRecord (s : State) : Outcome State Fault Refusal :=
  .next <|
    if s.flt.frozen then s
    else match nextReport s.flt.pend with
      | some r => s.recordOne r
      | none => s

/-- A fatal fault that hardware acts on at once: its record is the one that enters SAFE, whatever its source still has
pending (R475, R493). -/
def State.fatalNow (src code detail : Nat) (s : State) : State :=
  if safeFrom s.mode then
    let s1 := ({ s with flt.pend := s.flt.pend.filter fun x => x.src ≠ src }).raise src code .ft detail
    match s1.flt.pend.find? fun x => x.src = src with
    | some r => s1.recordOne r
    | none => s1
  else s.raise src code .ft detail

/-- A junction comparator trips at 115 °C (R475). -/
def execJunctionComparatorTrip (sensor : Fin 64) (s : State) : Outcome State Fault Refusal :=
  .next (s.fatalNow 0x400 6 (packItems [(6, sensor.val)]))

/-- An error in the collector's own state (R516): `part` as the record names it, `corrected` for a single-bit error in the
history or the counts. An armed injection makes the record name part 0. -/
def execCollectorFault (part : Fin 5) (corrected : Bool) (s : State) : Outcome State Fault Refusal :=
  .next <|
    if !s.pins.resetN then s
    else
      let (hit, s0) := s.injected 0x300 0 0
      if hit.isNone && corrected && decide (3 ≤ part.val) then
        { s0 with flt.selfCe := satInc 8 s0.flt.selfCe }
      else
        let r : Rec := { src := 0x300, code := 1, cls := .ft, injected := hit.isSome, number := 0, time := s0.devTime,
                         seen := s0.now, detail := packItems [(3, if hit.isSome then 0 else part.val)] }
        let f := s0.flt
        let s1 := { s0 with flt := { f with selfFault := true, first := some r, firstValid := true, raised := 0,
                                            later := if f.firstValid then f.later else satTo 0xFFFF f.raised } }
        if safeFrom s1.mode then s1.enterSafe 6
        else match s1.pwr.save with
          | some v => if s1.mode = .save then { s1 with pwr.save := some { v with bytes := s1.patchSave v.bytes } } else s1
          | none => s1

/-! ## What the host writes (R509, R510, R513, R515) -/

/-- FLT_FIRST_STAT.VALID written 1 (R509): a report still pending then is the next to be latched and is not counted in
LATER. -/
def execFltFirstClear (p : HostPort) (value : Word) (s : State) : Outcome State Fault Refusal :=
  .next <|
    if s.takesRw p && bit value.toNat 0 then
      { s with flt := { s.flt with firstValid := false, later := 0, raised := b2n (!s.flt.pend.isEmpty) } }
    else s

/-- FLT_LOST.VALID written 1 (R513). -/
def execFltLostClear (p : HostPort) (value : Word) (s : State) : Outcome State Fault Refusal :=
  .next <|
    if s.takesRw p && bit value.toNat 0 then { s with flt := { s.flt with lostValid := false, lostCount := 0 } } else s

/-- FLT_CTL.CLR_COUNTS written 1 (R510, R526). -/
def execClrCounts (p : HostPort) (value : Word) (s : State) : Outcome State Fault Refusal :=
  .next <|
    if s.takesRw p && bit value.toNat 0 then
      { s with flt := { s.flt with srcCnt := [], classCe := 0, classUc := 0, classFt := 0, keelFix := 0, selfCe := 0,
                                   coalesced := 0 } }
    else s

/-! ## Injections (R517 to R520) -/

/-- Whether a checker's INDEX names a location, none for a source and checker that are not in the table. -/
def State.injectIndex (s : State) (src ch i : Nat) : Option Bool :=
  let banked := decide (i < 2 ^ 17) && decide (bits i 15 14 = 0)
  let row := decide (i < 2 ^ 21) && decide (bits i 15 11 = 0)
  if src = 0x200 ∧ ch = 0 then some (decide (i % 8 < 5) && decide (i / 8 < 3))
  else if src = 0x300 ∧ ch = 0 then some (decide (i = 0))
  else if src = 0x701 ∧ ch < 2 then some (decide (i < 2097152))
  else if src = 0x700 ∧ ch = 0 then some (s.buf.validHandle i)
  else if src = 0x900 ∧ ch = 0 then some (locOk i)
  else if src = 0x901 ∧ ch = 0 then some (decide (i < 65536))
  else if 0xA00 ≤ src ∧ src < 0xA10 then
    match ch with
    | 0 => some (decide (i < 128))
    | 1 => some banked
    | 2 => some row
    | 3 => some row
    | 4 => some banked
    | 5 => some (decide (i < 524288))
    | 6 => some (decide (i < 262144))
    | _ => none
  else if 0xB00 ≤ src ∧ src < 0xB10 ∧ ch = 0 then some (decide (i < 2 ^ 12) && decide (i % 2 ^ 11 < 1600))
  else if src = 0xC00 ∧ ch = 0 then some (decide (i < 2 ^ 20))
  else none

/-- A checker by parity or CRC, which takes no MODE 1 (R519). -/
def isParity (src ch : Nat) : Bool :=
  decide (src = 0x200) || decide (src = 0x300) || (decide (src = 0x701) && decide (ch = 0))
    || (decide (src / 16 = 0xA0) && (decide (ch = 0) || decide (ch = 2))) || decide (src / 16 = 0xB0)

/-- The record that an injected inversion raises is UC (R519): a tile CRC always; a double error where no second copy
serves. -/
def raisesUc (src ch : Nat) (double : Bool) : Bool :=
  (decide (src = 0x701) && (decide (ch = 0) || double))
    || (double && (decide (src = 0x900) || decide (src = 0xC00)
      || (decide (src / 16 = 0xA0) && (decide (ch = 1) || decide (3 ≤ ch)))))

/-- The record would be FT (R519). -/
def State.injectFatal (s : State) (src ch : Nat) (double : Bool) : Bool :=
  decide (src = 0x300) || (raisesUc src ch double && bit (s.rd 0x30004) (src / 256))

/-- The lowest slot, 0 to 7, that holds no injection. -/
def FaultSt.freeSlot (f : FaultSt) : Option Nat := (List.range 8).find? fun i => !(f.inj.any fun j => j.slot = i)

/-- The argument fields of FAULT_INJECT, whose reserved bits are judged under R519. -/
def injectFields : List ArgField := [named 8 2 0xFFF, whole 10 1, named 11 1 1, whole 12 4, whole 16 2, named 18 1 3]

/-- FAULT_INJECT with CANCEL = 0 (R518, R519). -/
def execFaultInject (p : HostPort) (n : Fin 64) (s : State) : Outcome State Fault Refusal :=
  .next <| s.runCmd p n 0x78 (fun c => !bit (c.arg 18 1) 1) (fun _ => [whole 8 56]) fun c s =>
    let src := c.arg 8 2
    let ch := c.arg 10 1
    let double := bit (c.arg 11 1) 0
    let i := c.arg 12 4
    let count := c.arg 16 2
    let known := match s.injectIndex src ch i with
      | some ok => ok || decide (i = 0xFFFFFFFF)
      | none => false
    if !c.reservedOk injectFields || !known || decide (count = 0) || decide (256 < count) then .done .badArg 1 0 s
    else if !bit (c.arg 18 1) 0 && s.injectFatal src ch double then .done .badArg 2 0 s
    else if double && isParity src ch then .done .badArg 3 0 s
    else match s.flt.freeSlot with
      | none => .refuse .noRoom s
      | some k =>
        .done .ok k 0 { s with flt.inj := s.flt.inj ++
          [{ slot := k, source := src, checker := ch, double := double, index := i, left := count }] }

/-- FAULT_INJECT with CANCEL = 1 (R520): MODE, INDEX and COUNT must be 0. -/
def execFaultInjectCancel (p : HostPort) (n : Fin 64) (s : State) : Outcome State Fault Refusal :=
  .next <| s.runCmd p n 0x78 (fun c => bit (c.arg 18 1) 1) (fun _ => [whole 8 56]) fun c s =>
    let src := c.arg 8 2
    let ch := c.arg 10 1
    if !c.reservedOk [named 8 2 0xFFF, whole 10 1, named 18 1 3] || (s.injectIndex src ch 0).isNone then
      .done .badArg 1 0 s
    else
      let rest := s.flt.inj.filter fun j => !(j.source = src ∧ j.checker = ch)
      let k := s.flt.inj.length - rest.length
      if k = 0 then .refuse .notFound s else .done .ok k 0 { s with flt.inj := rest }

/-! ## Keel votes (R521 to R525) -/

/-- The copies of a keel register by number. -/
def Keel.copies (k : Keel) : List (Nat × KeelCopy) := [(0, k.c0), (1, k.c1), (2, k.c2)]

/-- Replace a copy. -/
def Keel.setCopy (i : Nat) (c : KeelCopy) (k : Keel) : Keel :=
  match i with
  | 0 => { k with c0 := c }
  | 1 => { k with c1 := c }
  | _ => { k with c2 := c }

/-- The outcome of a vote (R523): the value that wins with the copies to repair, none when the register is stuck. -/
def Keel.vote (voted : Nat) (valid : List (Nat × Nat)) (all : List Nat) : Option (Nat × List Nat) :=
  let rest (keep : List Nat) : List Nat := all.filter fun i => !keep.contains i
  match valid with
  | [(i, a)] => if a = voted then some (a, rest [i]) else none
  | [(i, a), (j, b)] => if a = b then some (a, rest [i, j]) else none
  | [(i, a), (j, b), (k, c)] =>
    if a = b then some (a, if b = c then [] else rest [i, j])
    else if a = c then some (a, rest [i, k])
    else if b = c then some (b, rest [j, k])
    else none
  | _ => none

/-- Copy `i` of a keel register is checked for an injection: the copies hit so far, and the state. -/
def keelHit (id : Nat) (acc : List Nat × State) (i : Nat) : List Nat × State :=
  let x := acc.2.injected 0x200 0 (id + 8 * i)
  (if x.1.isSome then acc.1 ++ [i] else acc.1, x.2)

/-- Injections that the checks of a register's copies meet: the copies seen as invalid, and the state. -/
def State.keelInject (id : Nat) (s : State) : List Nat × State :=
  [0, 1, 2].foldl (keelHit id) ([], s)

/-- Repairs of the last second, newest first. -/
def recentFixes (now : Nat) (l : List (Nat × Nat)) : List (Nat × Nat) := l.filter fun e => decide (now - e.2 < nsPerSec)

/-- Copies are repaired from the winner, counted and logged (R523, R525). -/
def State.keelRepair (id v : Nat) (fix : List Nat) (inj : Bool) (s : State) : State :=
  let k := fix.foldl (fun k i => k.setCopy i { val := v, ok := true }) (s.keel id)
  let fixes := fix.map (fun i => (i, s.now)) ++ recentFixes s.now k.fixes
  let worn := fix.find? fun i => decide (4 < (fixes.filter fun e => e.1 = i).length)
  let mark := k.bad.isNone && worn.isSome
  let due := match k.fixLogged with
    | none => true
    | some t => decide (nsPerSec ≤ s.now - t)
  let k1 := { k with voted := v, stuck := false, fixes := fixes, bad := if mark then worn else k.bad,
                     fixLogged := if due then some s.now else k.fixLogged }
  let s1 := { s.setKeel id k1 with flt.keelFix := satTo (2 ^ 32 - 1) ((s.setKeel id k1).flt.keelFix + fix.length) }
  let which := match fix with
    | [i] => i
    | _ => 3
  let s2 := if due then s1.raiseX 0x200 1 .ce (packItems [(3, id), (2, which)]) inj else s1
  match worn with
  | some i => if mark then s2.follow 0x200 3 .uc (packItems [(3, id), (2, i)]) inj else s2
  | none => s2

/-- A vote of a keel register: `upsets` are the copies that read differently from now on, with their value and whether
their check code is good (R523 to R525). -/
def execKeelVote (id : Fin 5) (upsets : List (Fin 3 × Nat × Bool)) (s : State) : Outcome State Fault Refusal :=
  .next <|
    let k0 := upsets.foldl (fun k e => k.setCopy e.1.val { val := e.2.1, ok := e.2.2 }) (s.keel id)
    let (hit, s1) := (s.setKeel id k0).keelInject id
    let used := k0.copies.filter fun c => decide (some c.1 ≠ k0.bad)
    let valid := (used.filter fun c => c.2.ok && !hit.contains c.1).map fun c => (c.1, c.2.val)
    match Keel.vote k0.voted valid (used.map Prod.fst) with
    | some (v, []) => s1.setKeel id { k0 with voted := v, stuck := false }
    | some (v, fix) => s1.keelRepair id v fix (fix.any hit.contains)
    | none =>
      let s2 := s1.setKeel id { k0 with stuck := true }
      if k0.stuck then s2 else s2.raiseX 0x200 2 .uc (packItems [(3, id.val)]) (!hit.isEmpty)

end Sys2Proof.Machine
end

