-- ==== Sys2Proof/Machine/Power.lean ====
section
/-! DEFINITION. Power: the estimate and its calibration, the cap and its domains, phase hints, temperature, parking, and
the hold-up voltage (R460 to R486). -/
namespace Sys2Proof.Machine
open Host (Outcome)

/-- The source ID of the power block (R486). -/
def pwrSrc : Nat := 0x400

/-- Post a POWER event (R472). -/
def State.powerEvt (code source : Nat) (s : State) : State :=
  s.post 8 code source 0 (toLE 2 s.pWatts ++ toLE 2 (satTo 2047 (s.capNow / 4096)) ++ toLE 2 s.pwrLevel
    ++ [BitVec.ofNat 8 s.pwr.hot])

/-! ## Throttling (R472) -/

/-- THROTTLE has moved: its rise is posted, and the time for which it has stayed 0 is kept. -/
def State.throttleEdge (s : State) : State :=
  if s.throttle then
    let s1 := { s with pwr.lowSince := none }
    if s.pwr.throttleOn then s1 else ({ s1 with pwr.throttleOn := true }).powerEvt 1 0
  else if s.pwr.throttleOn && s.pwr.lowSince.isNone then { s with pwr.lowSince := some s.now } else s

/-- THROTTLE has stayed 0 for 1 ms (R472). -/
def execThrottleOff (s : State) : Outcome State Fault Refusal :=
  .next <|
    if s.pwr.throttleOn && !s.throttle && s.elapsed s.pwr.lowSince 1000000 then
      ({ s with pwr.throttleOn := false, pwr.lowSince := none }).powerEvt 2 0
    else s

/-! ## The pipeline clock (R468, R469, R496) -/

/-- CLK_PIPE.TARGET. -/
def State.clkTarget (s : State) : Nat := bits (s.rd 0x50008) 4 0

/-- The clock that TARGET and the loop ask for (R496). -/
def State.clkGoal (s : State) : Nat := if s.pwr.clkLevel < s.clkTarget then s.pwr.clkLevel else s.clkTarget

/-- The floor that the loop keeps: the lower of TARGET and F_FLOOR (R496). -/
def State.clkFloor (s : State) : Nat := if s.fFloor < s.clkTarget then s.fFloor else s.clkTarget

/-- The clock may step: the last step is at least 10 µs back (R496). -/
def State.clkFree (s : State) : Bool := s.clk.lastStep.isNone || s.elapsed s.clk.lastStep 10000

/-- CAP_SET commands complete once the clock has reached the floor, each with the word that it committed (R469). -/
def State.capDone (s : State) : State :=
  if s.clkFloor ≤ s.clk.pipeCur then
    s.pwr.capWait.foldl (fun t c => t.completeSer c.1 .ok c.2 t.pWatts) { s with pwr.capWait := [] }
  else s

/-- One 100 MHz step of the clock toward what is asked for, where a step is due (R496). -/
def State.stepClock (s : State) : State :=
  let cur := s.clk.pipeCur
  if s.clkFree && decide (cur ≠ s.clkGoal) then
    ({ s with clk.pipeCur := if cur < s.clkGoal then cur + 1 else cur - 1, clk.lastStep := some s.now }).capDone
  else s

/-- The pipeline clock moves (R496). -/
def execPipelineClockStep (s : State) : Outcome State Fault Refusal := .next s.stepClock

/-! ## Domains of the cap (R465, R466) -/

/-- The three domains. -/
inductive Domain
  | compute
  | memory
  | links
  deriving DecidableEq, Repr

/-- The domains in the order of a CAP_SET ORDER code. -/
def orderOf : Nat → List Domain
  | 1 => [.compute, .links, .memory]
  | 2 => [.memory, .compute, .links]
  | 3 => [.memory, .links, .compute]
  | 4 => [.links, .compute, .memory]
  | 5 => [.links, .memory, .compute]
  | _ => [.compute, .memory, .links]

/-- The order in force: a hint's, else the cap's (R471). -/
def State.orderNow (s : State) : List Domain :=
  match s.hintNow with
  | some (_, h) => orderOf h.order
  | none => orderOf (bits s.pwrCap 14 12)

/-- A domain is at its limit (R465). -/
def State.atLimit (s : State) : Domain → Bool
  | .compute => decide (s.withholdMax ≤ s.pwr.withhold) && decide (s.clkGoal ≤ s.clkFloor)
  | .memory => decide (2 ≤ s.pwr.mem)
  | .links => decide (3 ≤ s.pwr.link)

/-- The lanes of the ports that are UP. -/
def State.upLanes (s : State) : List Nat :=
  (s.port.ports.filter fun e => e.2.state = .up).flatMap fun e => s.lanesOf e.1

/-- A memory level is taken. -/
def State.takeMem (s : State) : State := { s with pwr.mem := s.pwr.mem + 1, pwr.steps := .mem :: s.pwr.steps }

/-- A link level is taken: every UP lane lowers its effort but those whose margin would fall below the floor (R465). -/
def State.takeLink (stay : List Nat) (s : State) : State :=
  { s with pwr.link := s.pwr.link + 1, pwr.steps := .link :: s.pwr.steps,
           pwr.effort := (s.upLanes.filter fun l => !stay.contains l).foldl (fun m l => m.set 0 l (m.get 0 l + 1))
             s.pwr.effort }

/-- A step of a domain that is not at its limit (R465, R466): a clock step waits for its pace. -/
def State.takeStep (stay : List Nat) (d : Domain) (s : State) : State :=
  match d with
  | .compute =>
    if s.pwr.withhold < s.withholdMax then
      { s with pwr.withhold := s.pwr.withhold + 1, pwr.steps := .withhold :: s.pwr.steps }
    else if s.clkFree && decide (s.clk.pipeCur ≤ s.clkGoal) then
      ({ s with pwr.clkLevel := s.clkGoal - 1, pwr.clkSteps := s.pwr.clkSteps + 1,
                pwr.steps := .clock :: s.pwr.steps }).stepClock
    else s
  | .memory => s.takeMem
  | .links => s.takeLink stay

/-- A hint in force asks for the last step to stay (R466, R471). -/
def State.hintKeeps (s : State) (x : PStep) : Bool :=
  match s.hintNow with
  | some (_, h) => (decide (x = .mem) && decide (s.pwr.mem ≤ h.mem)) || (decide (x = .link) && decide (s.pwr.link ≤ h.link))
  | none => false

/-- From when the 10 µs to the next return count: a step worth more than 10 W goes back in parts over 20 µs (R466, R479). -/
def State.backAt (s : State) (saving : Nat) : Nat := s.now + (if 10 < saving then 10000 else 0)

/-- Return the last step taken, worth `saving` watts (R466, R479). -/
def State.returnStep (saving : Nat) (s : State) : State :=
  match s.pwr.steps with
  | [] => s
  | x :: rest =>
    let s1 := { s with pwr.steps := rest, pwr.lastBack := some (s.backAt saving) }
    match x with
    | .withhold => { s1 with pwr.withhold := s.pwr.withhold - 1 }
    | .clock =>
      ({ s1 with pwr.clkSteps := s.pwr.clkSteps - 1,
                 pwr.clkLevel := if s.pwr.clkSteps ≤ 1 then 16 else s.pwr.clkLevel + 1 }).stepClock
    | .mem => { s1 with pwr.mem := s.pwr.mem - 1 }
    | .link =>
      let k := s.pwr.link - 1
      { s1 with pwr.link := k,
                pwr.effort := s.pwr.effort.filterMap fun e =>
                  if k = 0 then none else some (e.1, if k < e.2 then k else e.2) }

/-- A step may be returned now: the last return is 10 µs back, and a clock step keeps its pace. -/
def State.mayReturn (s : State) (x : PStep) : Bool :=
  (s.pwr.lastBack.isNone || s.elapsed s.pwr.lastBack 10000)
    && (decide (x ≠ .clock) || (s.clkFree && decide (s.clk.pipeCur = s.clkGoal)))

/-- Withholding beyond a lowered WITHHOLD_MAX is returned at the pace of R466. -/
def State.trimWithhold (s : State) (saving : Nat) : Option State :=
  if s.withholdMax < s.pwr.withhold ∧ s.mayReturn .withhold = true then
    some { s with pwr.withhold := s.pwr.withhold - 1, pwr.steps := s.pwr.steps.erase .withhold,
                  pwr.lastBack := some (s.backAt saving) }
  else none

/-- P from an estimate E in watts, in units of 2^-12 W (R460, R463, R464); E_last is `eLast` / `eLastNum`. -/
def PwrSt.pOf (x : PwrSt) (e : Nat) : Nat :=
  if x.measLost then x.gain * e * 110 / 100
  else if x.frozen ∧ x.eLast ≠ 0 then x.m * e * x.eLastNum / x.eLast / 16
  else x.gain * e

/-- A return is allowed: P with the last step's saving stays at or below 0.98 × C, and no hint keeps the step. -/
def State.backOk (s : State) (saving : Nat) : Bool :=
  match s.pwr.steps with
  | x :: _ => decide ((s.pwr.p + saving * 4096) * 100 ≤ 98 * s.capNow) && !s.hintKeeps x
  | [] => false

/-- The memory and link domains rise to what the hint in force asks for (R471), within the limits of R465. -/
def State.hintLevels (stay : List Nat) (s : State) : State :=
  match s.hintNow with
  | some (_, h) =>
    let s1 := (List.range (h.mem - s.pwr.mem)).foldl (fun t _ => t.takeMem) s
    (List.range (h.link - s.pwr.link)).foldl (fun t _ => t.takeLink stay) s1
  | none => s

/-- The loop's action of a microsecond (R465, R466); `saving` in watts is what the last step taken saves. -/
def State.loopAct (stay : List Nat) (saving : Nat) (s : State) : State :=
  match s.trimWithhold saving with
  | some t => t
  | none =>
    if s.capNow < s.pwr.p then
      match s.orderNow.find? fun d => !s.atLimit d with
      | some d => s.takeStep stay d
      | none => s
    else match s.pwr.steps with
      | x :: _ => if s.elapsed s.pwr.okSince 100000 && s.mayReturn x then s.returnStep saving else s
      | [] => s

/-- Every 1 µs: E in watts, the estimated saving of the last step taken in watts, and the lanes whose margin would fall
below LINK_MARGIN_FLOOR (R460, R465 to R467). The loop acts while the active Collie runs. -/
def execPowerLoopTick (e saving : BitVec 11) (stay : List Lane) (s : State) : Outcome State Fault Refusal :=
  .next <|
    if s.mode = .reset ∨ s.mode = .save then s
    else
      let p := s.pwr.pOf e.toNat
      let s1 := { s with pwr.e := e.toNat, pwr.p := p, pwr.eSum := s.pwr.eSum + e.toNat, pwr.eNum := s.pwr.eNum + 1 }
      let above := decide (s1.capNow < p)
      let keep (t : Option Nat) : Option Nat := match t with | some x => some x | none => some s.now
      let s2 := { s1 with
        pwr.overSince := if above then keep s1.pwr.overSince else none,
        pwr.underSince := if above then none else keep s1.pwr.underSince,
        pwr.okSince := if s1.backOk saving.toNat then keep s1.pwr.okSince else none }
      if s2.collieActs then ((s2.hintLevels (stay.map Fin.val)).loopAct (stay.map Fin.val) saving.toNat).throttleEdge else s2

/-- Every domain is at its limit and P has exceeded C for 1 ms (R467). -/
def execCapUnmet (s : State) : Outcome State Fault Refusal :=
  .next <|
    if !s.pwr.unmet && s.elapsed s.pwr.overSince 1000000 && s.atLimit .compute && s.atLimit .memory && s.atLimit .links then
      (({ s with pwr.unmet := true }).raise pwrSrc 4 .ce
        (packItems [(11, s.pWatts), (11, satTo 2047 (s.capNow / 4096))])).powerEvt 3 0
    else s

/-- P has stayed at or below C for 1 ms (R467). -/
def execCapMet (s : State) : Outcome State Fault Refusal :=
  .next <|
    if s.pwr.unmet && s.elapsed s.pwr.underSince 1000000 then ({ s with pwr.unmet := false }).powerEvt 4 0 else s

/-! ## CAP_SET (R469) -/

/-- A raised floor lifts the level that the loop has set, and its clock steps with it. -/
def State.liftClock (s : State) : State :=
  if s.pwr.clkLevel < s.clkFloor then
    let n := if s.clkTarget - s.clkFloor < s.pwr.clkSteps then s.clkTarget - s.clkFloor else s.pwr.clkSteps
    { s with pwr.clkLevel := if n = 0 then 16 else s.clkFloor, pwr.clkSteps := n,
             pwr.steps := (List.range (s.pwr.clkSteps - n)).foldl (fun l _ => l.erase .clock) s.pwr.steps }
  else s

/-- A CAP_SET whose word `v` is committed completes once the clock has risen to its floor (R469). -/
def State.capAnswer (c : Cmd) (v : Nat) (s : State) : Ran :=
  if s.clkFloor ≤ s.clk.pipeCur then .done .ok v s.pWatts s.capDone
  else .wait { s with pwr.capWait := s.pwr.capWait ++ [(c.serial, v)] }

/-- CAP_SET (R469). -/
def execCapSet (p : HostPort) (n : Fin 64) (s : State) : Outcome State Fault Refusal :=
  .next <| s.runCmd p n 0x62 anyRow (fun _ => [whole 8 2, named 10 1 7, whole 11 1, named 12 1 0xF]) fun c s =>
    let w := c.arg 8 2
    let o := c.arg 10 1
    let f := c.arg 11 1
    let h := c.arg 12 1
    if w < 400 ∨ 1100 < w ∨ 5 < o ∨ f < 8 ∨ 16 < f ∨ 12 < h then .refuse .badArg s
    else
      let v := w + o * 2 ^ 12 + f * 2 ^ 16 + h * 2 ^ 24
      (s.commit 3 v).liftClock.throttleEdge.capAnswer c v

/-! ## Phase hints (R470, R471) -/

/-- The hint in a slot. -/
def State.hint (s : State) (i : Nat) : Option Hint := s.pwr.hints.get none i

/-- Replace a slot. -/
def State.setHint (i : Nat) (h : Option Hint) (s : State) : State :=
  { s with pwr.hints := s.pwr.hints.set none i h }

/-- A hint comes into force (R471): from the loop's next microsecond it acts on the domains. -/
def State.startHint (i : Nat) (s : State) : State :=
  match s.hint i with
  | some h => (s.setHint i (some { h with since := some s.now })).powerEvt 0xA i
  | none => s

/-- A hint ends: a running one marks its edge (R471). -/
def State.endHint (i : Nat) (s : State) : State :=
  match s.hint i with
  | some h =>
    let s1 := s.setHint i none
    if h.since.isSome then s1.powerEvt 0xB i else s1
  | none => s

/-- PHASE_HINT with CANCEL_ALL = 0 (R470). -/
def execPhaseHint (p : HostPort) (n : Fin 64) (s : State) : Outcome State Fault Refusal :=
  .next <| s.runCmd p n 0x61 (fun c => !bit (c.arg 8 1) 0)
    (fun _ => [named 8 1 1, named 9 1 7, named 10 1 0xF, whole 12 4, whole 16 14]) fun c s =>
    let o := c.arg 9 1
    let m := c.argBits 10 1 1 0
    let d := c.arg 12 4
    if 5 < o ∨ m = 3 ∨ d = 0 ∨ 10000000 < d ∨ c.timeOk 16 = false ∨ s.devTime + tenSec < c.time 16 then
      .refuse .badArg s
    else match [0, 1, 2, 3].find? fun i => (s.hint i).isNone with
      | none => .refuse .noRoom s
      | some i =>
        let h : Hint := { at' := c.time 16, durUs := d, order := o, mem := m, link := c.argBits 10 1 3 2, since := none }
        let s1 := s.setHint i (some h)
        .done .ok i 0 (if c.time 16 ≤ s.devTime then s1.startHint i else s1)

/-- PHASE_HINT with CANCEL_ALL = 1 (R470). -/
def execPhaseHintCancelAll (p : HostPort) (n : Fin 64) (s : State) : Outcome State Fault Refusal :=
  .next <| s.runCmd p n 0x61 (fun c => bit (c.arg 8 1) 0) (fun _ => [named 8 1 1]) fun _ s =>
    .done .ok s.pwr.hints.length 0 ([0, 1, 2, 3].foldl (fun t i => t.endHint i) s)

/-- A pending hint whose AT has come, the earliest first. -/
def State.hintDue (s : State) : Option Nat :=
  (s.pwr.hints.foldl (fun (b : Option (Nat × Hint)) e => match e.2 with
    | some h =>
      if h.since.isNone && decide (h.at' ≤ s.devTime) then
        match b with
        | some (_, g) => if h.at' < g.at' then some (e.1, h) else b
        | none => some (e.1, h)
      else b
    | none => b) none).map Prod.fst

/-- AT of a pending hint has come (R471). -/
def execHintStart (s : State) : Outcome State Fault Refusal :=
  .next (match s.hintDue with | some i => s.startHint i | none => s)

/-- A hint has run for DURATION_US (R471). -/
def execHintEnd (slot : Fin 4) (s : State) : Outcome State Fault Refusal :=
  .next <|
    match s.hint slot with
    | some h => if s.elapsed h.since (h.durUs * 1000) then s.endHint slot else s
    | none => s

/-! ## Calibration (R461 to R464) -/

/-- A LINEAR11 word in units of 2^-16 W (R461): [15:11] the exponent, [10:0] the mantissa, both signed. -/
def linear11 (w : Nat) : Int := signed 11 (bits w 10 0) * (2 ^ (signed 5 (bits w 15 11) + 16).toNat : Nat)

/-- PWR_PMB[r].EN. -/
def State.pmbOn (s : State) (r : Nat) : Bool := bit (s.rd (0x40040 + 4 * r)) 7

/-- An entry's failure is logged, no more than once per second (R462). -/
def State.pmbErr (r cause : Nat) (s : State) : State :=
  let due := match s.pwr.pmbLog.get 0 r with
    | 0 => true
    | t => decide (nsPerSec ≤ s.now + 1 - t)
  if due then
    ({ s with pwr.pmbLog := s.pwr.pmbLog.put r (s.now + 1) }).follow pwrSrc 3 .ce (packItems [(4, r), (2, cause)]) false
  else s

/-- The gain moved one eighth of the way toward M ÷ E_avg, M in units of 2^-16 W, rounded down to the units of GAIN, and
clamped to 0.5 to 2.0 (R462). -/
def gainMove (gain m eSum eNum : Nat) : Nat :=
  if eSum = 0 then gain
  else
    let g := (gain : Int) + (((m * eNum : Nat) : Int) - ((16 * gain * eSum : Nat) : Int)) / (128 * eSum : Nat)
    if g < 0x800 then 0x800 else if 0x2000 < g then 0x2000 else g.toNat

/-- |M − g × E_avg| exceeds 0.15 × M (R464), M in units of 2^-16 W. -/
def disagrees (gain m eSum eNum : Nat) : Bool :=
  let a : Int := (m * eNum : Nat)
  let b : Int := (16 * gain * eSum : Nat)
  decide (15 * a < 100 * ((a - b).natAbs : Int))

/-- A calibration is entered in the log that a save takes (R481): 16 bytes. -/
def State.calEntry (s : State) (m : Nat) : List Byte :=
  toLE 2 (satTo 0xFFFF m) ++ toLE 2 s.pWatts ++ toLE 2 (satTo 2047 (s.capNow / 4096))
    ++ [BitVec.ofNat 8 s.pwr.hot, BitVec.ofNat 8 s.pwrStat] ++ toLE 4 (s.devNs / nsPerSec) ++ toLE 4 (s.devNs % nsPerSec)

/-- A good calibration (R462 to R464). -/
def State.calGood (m : Nat) (s : State) : State :=
  let x := s.pwr
  let off := disagrees x.gain m x.eSum x.eNum
  let d := if off then satTo 8 (x.disagree + 1) else 0
  let freeze := decide (d = 8) && !x.frozen
  let back := x.measLost && decide (8 ≤ x.good + 1)
  let avg := if x.eNum = 0 then 0 else x.gain * x.eSum / x.eNum / 4096
  let s1 := { s with pwr := { x with
    m := m, mAt := some s.now, eLast := x.eSum, eLastNum := x.eNum, disagree := d,
    frozen := x.frozen || freeze, bad := 0, good := satTo 8 (x.good + 1), measLost := x.measLost && !back,
    gain := if x.measLost || x.frozen || freeze then x.gain else gainMove x.gain m x.eSum x.eNum } }
  let s2 := if freeze then (s1.follow pwrSrc 1 .ce (packItems [(11, m / 65536), (11, satTo 2047 avg)]) false).powerEvt 5 0 else s1
  if back then s2.powerEvt 7 0 else s2

/-- A calibration without a good M: `mask` are the entries that fail (R463). -/
def State.calBad (mask : Nat) (s : State) : State :=
  let n := satTo 3 (s.pwr.bad + 1)
  let s1 := { s with pwr.bad := n, pwr.good := 0, pwr.disagree := 0 }
  if n = 3 ∧ s.pwr.measLost = false then
    (({ s1 with pwr.measLost := true }).follow pwrSrc 2 .ce (packItems [(16, mask)]) false).powerEvt 6 0
  else s1

/-- What an entry answered: a cause of failure, or its word as a number (R461). -/
def pmbAnswer (answers : List (Fin 16 × Option (Fin 3) × BitVec 16)) (r : Nat) : Option Nat × Int :=
  match answers.find? fun a => a.1.val = r with
  | some (_, some c, _) => (some c.val, 0)
  | some (_, none, w) => (none, linear11 w.toNat)
  | none => (some 0, 0)

/-- M, in units of 2^-16 W, lies in its range and near the last good one (R462). -/
def State.pmbPlausible (s : State) (m : Int) : Bool :=
  decide (50 * 65536 ≤ m) && decide (m ≤ 1500 * 65536) && (s.pwr.mAt.isNone || decide ((m - s.pwr.m).natAbs ≤ 400 * 65536))

/-- The calibration is logged, and the next one begins (R481). -/
def State.calLogged (m : Nat) (s : State) : State :=
  { s with pwr.calLog := (s.calEntry m :: s.pwr.calLog).take 512, pwr.eSum := 0, pwr.eNum := 0 }

/-- The device reads READ_POUT of entries as PMBus master, with PAGE first where an entry has one (R461). -/
def State.pmbReads (on : List Nat) (s : State) : State :=
  on.foldl (fun t r =>
    let v := t.rd (0x40040 + 4 * r)
    let t1 := if bits v 15 8 = 0xFF then t else t.emit (.pmbus (bits v 6 0) 0x00 (some (bits v 15 8)))
    t1.emit (.pmbus (bits v 6 0) 0x96 none)) s

/-- A calibration ends: good, or without a good M (R462, R463). -/
def State.calTake (good : Bool) (m mask : Nat) (s : State) : State := if good then s.calGood m else s.calBad mask

/-- An implausible M is logged against an entry (R463). -/
def State.pmbBlame (bad : Bool) (blame : Nat) (s : State) : State := if bad then s.pmbErr blame 3 else s

/-- Every 1 ms (R461 to R464): what each entry answered, a cause of failure (0 no answer, 1 NACK, 2 PEC) or its LINEAR11
word, an entry not named giving no answer; `blame` is the entry that an implausible M is logged against. -/
def execPmbusCalibration (answers : List (Fin 16 × Option (Fin 3) × BitVec 16)) (blame : Fin 16) (s : State) :
    Outcome State Fault Refusal :=
  .next <|
    if s.mode = .reset ∨ s.mode = .save then s
    else
      let on := (List.range 16).filter s.pmbOn
      let failing := on.filterMap fun r => (pmbAnswer answers r).1.map fun c => (r, c)
      let m : Int := (on.map fun r => (pmbAnswer answers r).2).foldl (· + ·) 0
      let plausible := s.pmbPlausible m
      let bad := failing.isEmpty && !plausible && s.pmbOn blame
      let s1 := (failing.foldl (fun t f => t.pmbErr f.1 f.2) s).pmbBlame bad blame
      let mask := (failing.map fun f => 2 ^ f.1).sum + (if bad then 2 ^ blame.val else 0)
      ((s1.pmbReads on).calTake (failing.isEmpty && plausible) m.toNat mask).calLogged (m.toNat / 65536)

/-- PWR_CTL.CAL_RESUME written 1 (R464). -/
def execCalResume (p : HostPort) (value : Word) (s : State) : Outcome State Fault Refusal :=
  .next <|
    if s.takesRw p && bit value.toNat 0 && s.pwr.frozen then
      { s with pwr.frozen := false, pwr.disagree := 0 }
    else s

/-! ## Temperature (R473, R474) -/

/-- Every 100 µs the active Collie publishes the hottest junction and its sensor (R473); at 100 °C the thermal limit
begins (R474). -/
def execTemperatureRead (hot : Byte) (sensor : Fin 64) (s : State) : Outcome State Fault Refusal :=
  .next <|
    if s.collieActs then
      let h := hot.toNat
      let s1 := { s with pwr.hot := h, pwr.sensor := sensor.val, pwr.hotMax := if s.pwr.hotMax < h then h else s.pwr.hotMax }
      if 100 ≤ h ∧ s.pwr.thermal = none then
        (({ s1 with pwr.thermal := some s1.pwr.p }).raise pwrSrc 5 .ce (packItems [(6, sensor.val), (8, h)])).powerEvt 8 0
      else s1
    else s

/-- Every 1 ms the thermal limit falls or rises by 2 %; a limit that has risen above CAP_W is withdrawn (R474). -/
def execThermalLimitTick (s : State) : Outcome State Fault Refusal :=
  .next <|
    match s.pwr.thermal with
    | none => s
    | some t =>
      if 100 ≤ s.pwr.hot then { s with pwr.thermal := some (t * 98 / 100) }
      else if s.pwr.hot < 97 then
        let u := t * 102 / 100
        if s.capW * 4096 < u then ({ s with pwr.thermal := none }).powerEvt 9 0 else { s with pwr.thermal := some u }
      else s

/-! ## Parking (R476 to R478) -/

/-- The layout of PWR_STATE. -/
def pwrStateLayout (c : Cmd) : List ArgField :=
  [whole 8 1, whole 9 1, named 10 1 0xF] ++ (if c.arg 8 1 = 0 then [] else [whole 12 4])

/-- A port in use with ADMIN_UP = 1. -/
def State.adminUp (s : State) (p : Nat) : Bool := s.enabled p && bit (s.ptCtrl p) 0

/-- The command behind a ramp that ends early is aborted. -/
def State.rampAborted (c : Option Nat) (s : State) : State :=
  match c with
  | some x => s.completeSer x .aborted 0 0
  | none => s

/-- The unpark of a unit under way is given up: its command completes with ABORTED. -/
def State.dropRamps (f : Ramp → Bool) (s : State) : State :=
  (s.pwr.ramps.filter f).foldl (fun t r => t.rampAborted r.cmd) { s with pwr.ramps := s.pwr.ramps.filter fun r => !f r }

/-- PWR_STATE parks a slice (R476). -/
def execPwrStateParkSlice (p : HostPort) (n : Fin 64) (s : State) : Outcome State Fault Refusal :=
  .next <| s.runCmd p n 0x60 (fun c => decide (c.arg 8 1 = 0) && decide (c.arg 9 1 = 1)) pwrStateLayout fun c s =>
    let u := c.arg 10 1 % 16
    match ((List.range 32).map (32 * u + ·)).find? fun q => s.adminUp q || s.isRecirc q with
    | some q => .done .badArg q 0 s
    | none =>
      let s1 := (s.onSlice u fun x => { x with parked := true }).dropRamps fun r => r.isSlice && decide (r.unit = u)
      .done .ok s1.slicePark 0 s1

/-- The lanes of a harp that a mask names. -/
def maskLanes (mask : Nat) : List Nat := (List.range 32).filter fun k => bit mask k

/-- A lane turned off (R477). -/
def LaneSt.park (x : LaneSt) : LaneSt :=
  { x with parked := true, sigDet := false, cdrLock := false, trained := false, prbsLock := false }

/-- PWR_STATE parks lanes (R477). -/
def execPwrStateParkLanes (p : HostPort) (n : Fin 64) (s : State) : Outcome State Fault Refusal :=
  .next <| s.runCmd p n 0x60 (fun c => decide (c.arg 8 1 = 1) && decide (c.arg 9 1 = 1)) pwrStateLayout fun c s =>
    let h := c.arg 10 1 % 16
    let ls := maskLanes (c.arg 12 4)
    match ls.find? fun k => match s.portOfLane (32 * h + k) with | some q => s.adminUp q | none => false with
    | some k => .done .badArg k 0 s
    | none =>
      let s1 := ls.foldl (fun t k => t.setLane (32 * h + k) (t.lane (32 * h + k)).park) s
      .done .ok (s1.lanePark h) 0 s1

/-- PWR_STATE unparks a slice or lanes (R478): the command waits for the ramp; a unit that is not parked completes at
once. -/
def execPwrStateUnpark (p : HostPort) (n : Fin 64) (s : State) : Outcome State Fault Refusal :=
  .next <| s.runCmd p n 0x60 (fun c => !(decide (c.arg 9 1 = 1) && decide (c.arg 8 1 < 2))) pwrStateLayout fun c s =>
    let u := c.arg 10 1 % 16
    if c.arg 9 1 ≠ 0 ∨ 1 < c.arg 8 1 then .refuse .badArg s
    else if c.arg 8 1 = 0 then
      if (s.slice u).parked then
        let r : Ramp := { cmd := some c.serial, isSlice := true, unit := u, lanes := 0, since := s.now }
        .wait { s.onSlice u fun x => { x with parked := false } with pwr.ramps := s.pwr.ramps ++ [r] }
      else .done .ok s.slicePark 0 s
    else
      let ls := (maskLanes (c.arg 12 4)).filter fun k => (s.lane (32 * u + k)).parked
      if ls.isEmpty then .done .ok (s.lanePark u) 0 s
      else
        let s1 := ls.foldl (fun t k => t.setLane (32 * u + k) { t.lane (32 * u + k) with parked := false }) s
        let r : Ramp := { cmd := some c.serial, isSlice := false, unit := u, lanes := c.arg 12 4, since := s.now }
        .wait { s1 with pwr.ramps := s1.pwr.ramps ++ [r] }

/-! ## Hold-up (R483, R484) -/

/-- Every 1 ms VHOLD is read, in mV (R484). -/
def execVholdReading (mv : BitVec 12) (s : State) : Outcome State Fault Refusal :=
  .next <|
    if s.mode = .reset ∨ s.mode = .save then s
    else
      let v := mv.toNat
      let low := if v < 3000 then satTo 10 (s.pwr.holdLow + 1) else 0
      let high := if 3100 ≤ v then satTo 10 (s.pwr.holdHigh + 1) else 0
      let s1 := { s with pwr.mv := v, pwr.holdLow := low, pwr.holdHigh := high }
      if high = 10 then { s1 with pwr.holdOk := true, pwr.holdLogged := false }
      else if low = 10 then
        let s2 := { s1 with pwr.holdOk := false, pwr.holdLogged := true }
        if s.pwr.holdLogged then s2 else s2.raise pwrSrc 7 .ce (packItems [(12, v)])
      else s1

/-- PWR_SAVE_CTL with DISCARD and GUARD invalidates both save areas (R483). -/
def execPwrSaveDiscard (p : HostPort) (value : Word) (s : State) : Outcome State Fault Refusal :=
  .next <|
    if decide (p = s.active) && s.hostAlive && s.mode ≠ .save && bit value.toNat 0
        && decide (bits value.toNat 31 16 = 0x5120) then
      { s with kennel.save0.valid := false, kennel.save1.valid := false, pwr.saveShown := false }
    else s

end Sys2Proof.Machine
end

