-- ==== Sys2Proof/Machine/Time.lean ====
section
/-! DEFINITION. Device time: corrections and steps, the pair of time engines, pulse outputs and capture inputs (R391 to
R405, R436, R539 to R541), and the HEALTH events (R550). -/
namespace Sys2Proof.Machine
open Host (Outcome)

/-! ## HEALTH events (R550) -/

/-- Post a HEALTH event (R550). -/
def State.healthEvt (code : Nat) (s : State) : State :=
  s.post 10 code 0 0 (toLE 2 (s.healthWord .a) ++ toLE 2 (s.healthWord .b)
    ++ [BitVec.ofNat 8 s.flt.keel1.voted, BitVec.ofNat 8 (s.ref.a.state.code + 8 * s.ref.b.state.code), 0])

/-- Bits [5:0] of the two health words. -/
def State.healthBits (s : State) : Nat × Nat := (s.healthWord .a % 64, s.healthWord .b % 64)

/-- CHANGE is posted when a health bit differs from what it was in `before` (R550). -/
def State.noteHealth (s before : State) : State := if before.healthBits = s.healthBits then s else s.healthEvt 2

/-! ## The pair of engines (R391, R539 to R541) -/

/-- A side as a bit. -/
def Side.ofBit (b : Bool) : Side := if b then .b else .a

/-- The roles with another time engine active. -/
def State.rolesWithTe (s : State) (e : Side) : Nat := setBits s.flt.keel1.voted 1 1 (sideNum e)

/-- The standby engine becomes active: TIMECAP code 0x04, the count of switches, and a HEALTH event (R402, R540, R550).
Whether it did: a stuck keel register 1 refuses it (R536). -/
def State.switchTe (s : State) : Bool × State :=
  let diff := signSat s.teDiff
  let e := s.activeTe.peer
  match s.keelChange 1 (s.rolesWithTe e) with
  | (false, s1) => (false, s1)
  | (true, s1) =>
    let s2 := { s1 with time.switches := satInc 16 s1.time.switches, time.diffSince := none, time.diffLogged := false }
    let s3 := s2.setTe e.peer { s2.te e.peer with okSince := none }
    (true, (s3.post 5 4 (sideNum e) 0 (toLE 4 diff ++ toLE 3 0)).healthEvt 3)

/-- The active engine is judged lost, for its PLL (0) or its counter (1) (R540, R541). -/
def State.teLost (cause : Nat) (s : State) : State :=
  let e := s.activeTe
  if s.teElig e.peer then
    match s.switchTe with
    | (true, s1) => s1.follow 0x200 0x15 .ce (packItems [(1, sideNum e.peer), (1, cause)]) false
    | (false, s1) => s1
  else s.follow 0x200 0x16 .uc (packItems [(1, sideNum e)]) false

/-- An engine's counter fails its parity check (R539). -/
def execTeCounterFault (e : Side) (s : State) : Outcome State Fault Refusal :=
  .next <|
    let x := s.te e
    if x.run && x.parity then
      let s1 := s.setTe e { x with parity := false, okSince := none }
      if e = s1.activeTe then s1.teLost 1 else s1
    else s

/-- TE-A has been eligible for 10 s while TE-B is active (R540). -/
def execTeRevert (s : State) : Outcome State Fault Refusal :=
  .next <|
    if s.activeTe = .b ∧ s.teElig .a = true ∧ s.elapsed s.time.a.okSince (1000000 + 10 * nsPerSec) = true then
      match s.switchTe with
      | (true, s1) => s1.follow 0x200 0x14 .ce (packItems [(1, 1), (2, 1)]) false
      | (false, s1) => s1
    else s

/-- The standby engine's time for which it has been healthy and near, and for which it has been far (R436, R539). -/
def State.noteTe (s : State) : State :=
  let e := s.activeTe.peer
  let x := s.te e
  let ok := s.teOk e && s.teNear
  let keep (t : Option Nat) : Option Nat := match t with | some y => some y | none => some s.now
  let s1 := s.setTe e { x with okSince := if ok then keep x.okSince else none }
  if s.teNear then { s1 with time.diffSince := none, time.diffLogged := false }
  else
    let s2 := { s1 with time.diffSince := keep s1.time.diffSince }
    if !s2.time.diffLogged && s2.elapsed s2.time.diffSince 1000001 then
      ({ s2 with time.diffLogged := true }).raise 0x600 1 .ce (packItems [(32, signSat s2.teDiff)])
    else s2

/-- A standby count after its measurement: beyond 1 µs, or once a lost engine is healthy again, it steps to the active engine's count,
else it moves toward it by `move` units of 2^-16 ns, at most to the same count (R391, R541). -/
def Te.track (a : Te) (move : Nat) (x : Te) : Te :=
  let d : Int := (x.t : Int) - a.t
  let m : Int := if move < d.natAbs then move else d.natAbs
  if 65536000 < d.natAbs ∨ x.parity = false ∨ x.behind = true then
    { x with t := a.t, acc := a.acc, parity := true, behind := false }
  else { x with t := teMove x.t (if d < 0 then m else -m) }

/-- Every 1 µs the standby engine measures its difference and, while its clocks are judged stable, slews or steps to the
active engine (R391, R541). -/
def execTeTrack (m : TeMove) (s : State) : Outcome State Fault Refusal :=
  .next <|
    let e := s.activeTe.peer
    let a := s.te s.activeTe
    if (s.te e).run && a.run then
      let x : Te := { s.te e with t := teMove (s.te e).t m.drift }
      (s.setTe e (if s.teClock e then Te.track a m.move x else x)).noteTe
    else s.setTe e { s.te e with okSince := none }

/-! ## Pulse outputs (R403, R404) -/

/-- Replace an output. -/
def State.setOut (i : Nat) (x : TimeOut) (s : State) : State :=
  { s with time.outs := s.time.outs.set TimeOut.zero i x }

/-- Drive an output to its active or inactive level. -/
def State.drive (i : Nat) (active : Bool) (s : State) : State := s.emit (.pulse i (active != (s.timeOut i).invert))

/-- An output goes active at device time `t`, in units of 2^-16 ns, for WIDTH. -/
def State.rise (i t : Nat) (s : State) : State :=
  let x := s.timeOut i
  (s.setOut i { x with fall := some (t + x.width * 65536),
                       next := if x.period = 0 then none else some (t / 65536 + x.period) }).drive i true

/-- An output goes inactive. -/
def State.fallOut (i : Nat) (s : State) : State := (s.setOut i { s.timeOut i with fall := none }).drive i false

/-- An output stops: it holds its inactive level (R403). -/
def State.stopOut (i : Nat) (s : State) : State :=
  let x := s.timeOut i
  let s1 := s.setOut i { x with en := false, next := none, fall := none }
  if x.fall.isSome then s1.drive i false else s1

/-- The first START + k × PERIOD that lies in the future, START itself when it does not lie in the past (R404); `now` is in
units of 2^-16 ns. -/
def firstRise (start period now : Nat) : Nat :=
  if now ≤ start * 65536 then start
  else if period = 0 then start
  else start + ((now - start * 65536) / (period * 65536) + 1) * period

/-- Register of output `i` (R431). -/
def outReg (i o : Nat) : Nat := 0x60100 + 0x20 * i + o

/-- Period and width keep R403. -/
def pulseOk (ns period width : Nat) : Bool :=
  decide (ns < nsPerSec)
    && (if period = 0 then decide (4 ≤ width) && decide (width ≤ nsPerSec)
        else decide (20 ≤ period) && decide (period ≤ nsPerSec) && decide (4 ≤ width) && decide (width + 4 ≤ period))

/-- A write of TIME_OUT_CTL with EN = 1 (R404): from EN = 0 the settings take effect, or are refused. -/
def execTimeOutEnable (p : HostPort) (pin : Fin 8) (value : Word) (s : State) : Outcome State Fault Refusal :=
  .next <|
    let i := pin.val
    let v := value.toNat
    if s.takesRw p && bit v 0 then
      let s1 := s.wr (outReg i 0x14) (bits v 1 1 * 2)
      let x := s1.timeOut i
      if x.en then s1
      else
        let ns := s1.rd (outReg i 8)
        let start := s1.rd64 (outReg i 0) * nsPerSec + ns
        let period := s1.rd (outReg i 0xC)
        let width := s1.rd (outReg i 0x10)
        let inv := bit v 1
        if !pulseOk ns period width then s1.setOut i { x with err := true }
        else if period = 0 ∧ start * 65536 < s1.devTime then
          (s1.setOut i { x with err := true }).raise 0x600 3 .ce (packItems [(3, i)])
        else
          let y : TimeOut := { en := true, err := false, start := start, period := period, width := width, invert := inv,
                               next := some (firstRise start period s1.devTime), fall := none }
          let s2 := s1.setOut i y
          if x.invert = inv then s2 else s2.drive i false
    else s

/-- An edge of a pulse output is due (R403): the earlier of its fall and its next rise. -/
def execPulseEdge (pin : Fin 8) (s : State) : Outcome State Fault Refusal :=
  .next <|
    let i := pin.val
    let x := s.timeOut i
    if !x.en then s
    else if x.fall.any fun y => decide (y ≤ s.devTime) then s.fallOut i
    else match x.next with
      | some t => if t * 65536 ≤ s.devTime then s.rise i (t * 65536) else s
      | none => s

/-! ## Steps of device time (R392, R394 to R396) -/

/-- A one-off action that device time can reach (R396). -/
inductive OneOff
  | gen (w : Swap)
  | cal (p : Nat)
  | pulse (i : Nat)
  | snap (w : SnapReq)
  | hint (i : Nat)
  deriving DecidableEq, Repr

/-- The one-off actions that wait for a time, each with that time in units of 2^-16 ns. -/
def State.oneOffs (s : State) : List (Nat × OneOff) :=
  (match s.gen.swap with
    | some w => (match w.at' with | some t => [(t, .gen w)] | none => [])
    | none => [])
  ++ s.time.cal.filterMap (fun e => e.2.swapAt.map fun t => (t * 65536, OneOff.cal e.1))
  ++ s.time.outs.filterMap (fun e =>
      if e.2.en ∧ e.2.period = 0 then e.2.next.map fun t => (t * 65536, OneOff.pulse e.1) else none)
  ++ (match s.tel.pend with
    | some w => (match w.at' with | some t => [(t, .snap w)] | none => [])
    | none => [])
  ++ s.pwr.hints.filterMap (fun e => match e.2 with
      | some h => if h.since.isNone then some (h.at', OneOff.hint e.1) else none
      | none => none)

/-- An action in its place by time. -/
def insTime (x : Nat × OneOff) : List (Nat × OneOff) → List (Nat × OneOff)
  | [] => [x]
  | y :: r => if x.1 < y.1 then x :: y :: r else y :: insTime x r

/-- Take a one-off action at the device time just after a step (R396). -/
def State.takeOneOff (a : OneOff) (s : State) : State :=
  match a with
  | .gen w => s.doSwap w s.devTime
  | .cal p => s.takeCalSwap p
  | .pulse i => s.rise i s.devTime
  | .snap w => s.takeSnap w s.devTime
  | .hint i => s.startHint i

/-- Both engines' counts move by `delta`, and with them the end of a pulse under way, which keeps its width. -/
def State.moveTime (delta : Int) (s : State) : State :=
  let move (e : Te) : Te := { e with t := teMove e.t delta }
  { s with time.a := move s.time.a, time.b := move s.time.b,
           time.outs := s.time.outs.map fun e => (e.1, { e.2 with fall := e.2.fall.map fun f => teMove f delta }) }

/-- Every periodic activity takes its place in the new time (R396): the frets in force and the pulse trains. -/
def State.realign (s : State) : State :=
  let outs := s.time.outs.map fun e =>
    let x := e.2
    if x.en ∧ x.period ≠ 0 then (e.1, { x with next := some (firstRise x.start x.period s.devTime) }) else e
  (s.time.cal.filter fun e => e.2.act.isSome).foldl (fun t e => t.refreshFret e.1) { s with time.outs := outs }

/-- Device time steps by `delta` units of 2^-16 ns on both engines: what it passes is taken in the order of its times, then
every periodic activity realigns, and STEPPED is posted (R392, R396, R402). -/
def State.stepTime (delta : Int) (source shown : Nat) (s : State) : State :=
  let old := s.devTime
  let due := (s.oneOffs.filter fun a => decide (old < a.1) && decide ((a.1 : Int) ≤ (old : Int) + delta)).foldl
    (fun l a => insTime a l) []
  let taken := due.foldl (fun t a => t.takeOneOff a.2) (s.moveTime delta)
  taken.realign.post 5 3 source 0 (toLE 4 shown ++ toLE 3 0)

/-- The fields of TIME_CTL that a write keeps: ADJ_SLEW, and SLEW_PPM in its range (R431). -/
def State.writeTimeCtl (v : Nat) (s : State) : State :=
  let old := s.rd 0x60010
  let x := setBits old 2 2 (bits v 2 2)
  s.wr 0x60010 (if 1 ≤ bits v 25 16 ∧ bits v 25 16 ≤ 1000 then setBits x 25 16 (bits v 25 16) else x)

/-- A write is refused under R393 to R395. -/
def State.timeErr (s : State) : State := { s with time.err := true }

/-- ADJ_GO (R394). -/
def State.adjGo (s : State) : State :=
  let off := signed 64 (s.rd64 0x60018)
  if s.time.busy ∨ 2 * nsPerSec * 65536 < off.natAbs then s.timeErr
  else if bit (s.rd 0x60010) 2 then { s with time.busy := true, time.slewLeft := off * 1000000000 }
  else s.stepTime off 1 (signSat (off / 65536))

/-- SET_GO (R395). -/
def State.setGo (s : State) : State :=
  let ns := s.rd 0x60028
  if s.time.busy ∨ nsPerSec ≤ ns then s.timeErr
  else
    let t := (s.rd64 0x60020 * nsPerSec + ns) * 65536
    let zero := fun (e : Te) => { e with acc := 0 }
    ({ s with time.a := zero s.time.a, time.b := zero s.time.b }).stepTime ((t : Int) - s.devTime) 0 0x80000000

/-- A write of TIME_CTL with SET_GO = 1 (R395); ADJ_GO written with it follows. -/
def execTimeSetGo (p : HostPort) (value : Word) (s : State) : Outcome State Fault Refusal :=
  .next <|
    let v := value.toNat
    if s.takesRw p && bit v 0 then
      let s1 := (s.writeTimeCtl v).setGo
      if bit v 1 then s1.adjGo else s1
    else s

/-- A write of TIME_CTL with ADJ_GO = 1 and SET_GO = 0 (R394). -/
def execTimeAdjGo (p : HostPort) (value : Word) (s : State) : Outcome State Fault Refusal :=
  .next <|
    let v := value.toNat
    if s.takesRw p && bit v 1 && !bit v 0 then (s.writeTimeCtl v).adjGo else s

/-- A slew has used up its offset (R394). -/
def execSlewEnd (s : State) : Outcome State Fault Refusal :=
  .next (if s.time.busy && decide (s.time.slewLeft = 0) then { s with time.busy := false } else s)

/-- TIME_FREQ (R393): within ±500 ppm in units of 2^-12 ppb. -/
def execTimeFreqWrite (p : HostPort) (value : Word) (s : State) : Outcome State Fault Refusal :=
  .next <|
    if s.takesRw p then
      if (signed 32 value.toNat).natAbs ≤ 2048000000 then s.setReg 0x60014 value else s.timeErr
    else s

/-! ## Capture inputs (R405) -/

/-- Replace an input. -/
def State.setIn (j : Nat) (x : TimeIn) (s : State) : State := { s with time.ins := s.time.ins.set TimeIn.zero j x }

/-- A rising edge of the trim pin gives a measurement when the interval since the last one lies within 1 % of
CLK_TRIM_PERIOD (R495). -/
def State.trimEdgeAt (j : Nat) (s : State) : State :=
  let cfg := s.rd 0x5000C
  if bits cfg 1 0 = 1 ∧ bits cfg 3 2 = j then
    let period := bits (s.rd 0x50010) 29 0 * 65536
    let good := match s.clk.trimEdge with
      | some t => decide (((s.devTime : Int) - t - period).natAbs * 100 ≤ period)
      | none => false
    { s with clk.trimEdge := some s.devTime, clk.trimGood := if good then s.now else s.clk.trimGood }
  else s

/-- A snapshot waits for an edge of this pin: T is the capture time plus 16 ns (R452). -/
def State.snapEdge (j : Nat) (s : State) : State :=
  match s.tel.pend with
  | some w => if w.trigger = 2 ∧ w.pin = j ∧ w.at' = none then
      { s with tel.pend := some { w with at' := some (s.devTime + 16 * 65536) } } else s
  | none => s

/-- A captured edge of an input (R405), which can also take a snapshot (R452). -/
def State.takeEdge (j k : Nat) (s : State) : State :=
  let x := s.timeIn j
  (s.setIn j { x with cap := s.devTime, captures := (x.captures + 1) % 2 ^ 16, count := k, lastAt := some s.now }).snapEdge j

/-- A selected edge of an input is captured, counted and posted, or counted as lost within 1 µs of the last (R405). -/
def State.captureEdge (j : Nat) (rising : Bool) (s : State) : State :=
  let ctl := s.timeInCtl j
  let x := s.timeIn j
  let k := (x.count + 1) % 2 ^ 32
  if !bit ctl (if rising then 0 else 1) then s
  else if x.lastAt.any fun t => decide (s.now - t < 1000) then
    (s.setIn j { x with lost := satInc 16 x.lost }).raise 0x600 2 .ce (packItems [(2, j)])
  else if bit ctl 2 then (s.takeEdge j k).post 5 2 j 0 (toLE 4 k ++ [if rising then 1 else 2, 0, 0])
  else s.takeEdge j k

/-- An edge on a TIME_IN pin (R405, R452, R495). -/
def execTimeInEdge (pin : Fin 4) (rising : Bool) (s : State) : Outcome State Fault Refusal :=
  .next ((if rising then s.trimEdgeAt pin.val else s).captureEdge pin.val rising)

end Sys2Proof.Machine
end

