-- ==== Sys2Proof/Machine/Referee.lean ====
section
/-! DEFINITION. The referee: the pair of Collies, failover, restart and deliberate swaps, firmware updates in service, the
host preference, HEALTH events and wear writes (R527 to R547, R550, R590). -/
namespace Sys2Proof.Machine
open Host (Outcome)

/-! ## The pair of Collies (R527 to R536) -/

/-- A Collie's health word as a record or an event shows it (R504). -/
def State.health16 (s : State) (e : Side) : Nat := s.healthWord e % 2 ^ 16

/-- The roles with another Collie active. -/
def State.rolesWithCollie (s : State) (e : Side) : Nat := setBits s.flt.keel1.voted 0 0 (sideNum e)

/-- A Collie as a restart begins it: in SELFTEST, its health bits 0, its failures counted on (R533, R590). -/
def Collie.restarting (c : Collie) : Collie :=
  { Collie.zero with state := .selftest, fails := c.fails, restored := c.restored }

/-- A Collie held in reset (R527, R590). -/
def Collie.failed (c : Collie) : Collie := { Collie.zero with state := .failed, fails := c.fails, restored := c.restored }

/-- A Collie that served fails (R533): it is logged and restarted, unless it has been restarted within the last hour. -/
def State.failCollie (e : Side) (s : State) : State :=
  let c := s.collie e
  let again := match c.restored with | some t => decide (s.now - t < 3600 * nsPerSec) | none => false
  let w := s.health16 e
  (s.setCollie e (if again then c.failed else c.restarting)).follow 0x200 0x11 .uc (packItems [(1, sideNum e), (16, w)]) false

/-- What a Collie that becomes active takes from the mirror (R531): the coefficients of the trained lanes and the
integrators of the power loop; spare maps and domain levels are the hardware's. -/
def State.useMirror (s : State) : State :=
  match s.ref.mirror with
  | some m =>
    let s1 := m.lanes.foldl (fun t x =>
      let l := t.lane x.1
      if l.trained then t.setLane x.1 { l with cur := setBits l.cur 27 0 (bits x.2 27 0) } else t) s
    { s1 with pwr.gain := m.gain, pwr.eSum := m.eSum, pwr.eNum := m.eNum, pwr.disagree := m.disagree }
  | none => s

/-- The active Collie is judged lost (R531, R532, R536), with the cause that its record names. -/
def State.collieLost (cause : Nat) (s : State) : State :=
  let e := s.activeCollie
  let n := e.peer
  if !s.collieOk n then s.follow 0x200 0x13 .ft (packItems [(16, s.health16 .a), (16, s.health16 .b)]) false
  else match s.keelChange 1 (s.rolesWithCollie n) with
    | (false, s1) => s1
    | (true, s1) =>
      let s2 := s1.setCollie n { s1.collie n with state := .active, since := none }
      let s3 := { s2 with ref.failovers := satInc 8 s2.ref.failovers }
      let s4 := s3.follow 0x200 0x10 .ce (packItems [(1, sideNum n), (2, cause)]) false
      let s5 := s4.useMirror.failCollie e
      ({ s5 with ref.mirror := none }).healthEvt 3

/-- A health bit, a heartbeat or a PLL has moved: the active Collie may be lost, and the standby becomes eligible or
stops being so (R531, R533, R534). -/
def State.judgeCollies (cause : Nat) (s : State) : State :=
  let e := s.activeCollie
  let s1 := if (s.collie e).state = .active ∧ s.collieOk e = false then s.collieLost cause else s
  let n := s1.activeCollie.peer
  let c := s1.collie n
  if c.state = .standby then
    if s1.collieOk n then
      if c.since.isNone then s1.setCollie n { c with since := some s1.now } else s1
    else if c.since.isSome then s1.failCollie n else s1
  else s1

/-- A deliberate swap of the Collies (R535), of which `cause` is the record's: whether it happened, and the state. The last
mirror transfer makes the new active Collie's state that of the old one. -/
def State.swapCollie (cause : Nat) (s : State) : Bool × State :=
  let e := s.activeCollie
  let n := e.peer
  if !s.collieOk n then (false, s)
  else match s.keelChange 1 (s.rolesWithCollie n) with
    | (false, s1) => (false, s1)
    | (true, s1) =>
      let s2 := s1.setCollie n { s1.collie n with state := .active, since := none }
      let s3 := s2.setCollie e { s2.collie e with state := .standby, mirrorOk := false, mirrorAt := none, since := none }
      let s4 := { s3 with ref.swaps := satInc 8 s3.ref.swaps, ref.mirror := none }
      (true, (s4.follow 0x200 0x14 .ce (packItems [(1, 0), (2, cause)]) false).healthEvt 3)

/-- A Collie's heartbeat (R528, R590); `memFail` tells of an uncorrectable error in its memory since the one before
(R529). -/
def execCollieHeartbeat (e : Side) (memFail : Bool) (s : State) : Outcome State Fault Refusal :=
  .next <|
    let c := s.collie e
    if c.runs then
      let c1 := { c with beat := some s.now, alive := true, memOk := c.memOk && !memFail,
                         fails := if memFail then satInc 8 c.fails else c.fails }
      ((s.setCollie e c1).judgeCollies 1).noteHealth s
    else s

/-- No heartbeat for 200 µs, or a health bit or a PLL that stands fallen (R531, R533). -/
def execCollieHeartbeatTimeout (e : Side) (s : State) : Outcome State Fault Refusal :=
  .next <|
    let c := s.collie e
    if c.runs && s.elapsed c.beat 200000 then
      ((s.setCollie e { c with alive := false }).judgeCollies 0).noteHealth s
    else if c.runs then (s.judgeCollies (if s.pllOk e then 1 else 2)).noteHealth s
    else s

/-- A restart's self-test ends, or with `loaded` its loading (R533): the Collie goes on, or stays FAILED. -/
def execCollieRestored (e : Side) (loaded ok : Bool) (s : State) : Outcome State Fault Refusal :=
  .next <|
    let c := s.collie e
    let boot := decide (s.mode = .reset) || (decide (s.mode = .boot) && decide (s.md.phase.code < 6))
    if boot || decide (s.ref.fwu = .reloading e) then s
    else if c.state = .selftest ∧ loaded = false then
      (s.setCollie e (if ok then { c with state := .loading, memOk := true, katOk := true }
        else { c.failed with fails := satInc 8 c.fails })).noteHealth s
    else if c.state = .loading ∧ loaded = true then
      if ok then
        let c1 := { c with state := .standby, fwOk := true, alive := true, beat := some s.now, restored := some s.now,
                           version := (s.collie e.peer).version }
        ((s.setCollie e c1).follow 0x200 0x12 .ce (packItems [(1, sideNum e)]) false).noteHealth s
      else (s.setCollie e c.failed).noteHealth s
    else s

/-- The standby's known-answer check (R529). -/
def execCollieKatCheck (ok : Bool) (s : State) : Outcome State Fault Refusal :=
  .next <|
    let e := s.activeCollie.peer
    let c := s.collie e
    if c.state = .standby then
      ((s.setCollie e { c with katOk := ok, fails := if ok then c.fails else satInc 8 c.fails }).judgeCollies 1).noteHealth s
    else s

/-- The standby's sweep of its whole memory (R529). -/
def execCollieMemorySweep (ok : Bool) (s : State) : Outcome State Fault Refusal :=
  .next <|
    let e := s.activeCollie.peer
    let c := s.collie e
    if c.state = .standby ∧ ok = false then
      ((s.setCollie e { c with memOk := false, fails := satInc 8 c.fails }).judgeCollies 1).noteHealth s
    else s

/-- What a mirror transfer carries of the state that a takeover uses (R530). -/
def State.mirrorNow (s : State) : Mirror :=
  { lanes := SMap.keep (fun _ c => decide (c ≠ 0)) (s.port.lanes.map fun e => (e.1, e.2.cur)), gain := s.pwr.gain, eSum := s.pwr.eSum, eNum := s.pwr.eNum,
    disagree := s.pwr.disagree }

/-- A mirror transfer of the active Collie reaches the standby: applied whole, or discarded (R530). -/
def execMirrorTransfer (applied : Bool) (s : State) : Outcome State Fault Refusal :=
  .next <|
    let e := s.activeCollie.peer
    let c := s.collie e
    if applied && decide (c.state = .standby) && decide ((s.collie e.peer).state = .active) then
      let s1 := s.setCollie e { c with mirrorOk := true, mirrorAt := some s.now }
      (({ s1 with ref.mirror := some s1.mirrorNow }).judgeCollies 1).noteHealth s
    else s

/-- The standby's newest transfer has become older than 2 ms (R530). -/
def execMirrorOkLapse (s : State) : Outcome State Fault Refusal :=
  .next <|
    let e := s.activeCollie.peer
    let c := s.collie e
    if c.mirrorOk && s.elapsed c.mirrorAt 2000001 then
      ((s.setCollie e { c with mirrorOk := false }).judgeCollies 1).noteHealth s
    else s

/-- Collie A has been in STANDBY and eligible for 10 s while B is active (R534). -/
def execCollieRevert (s : State) : Outcome State Fault Refusal :=
  .next <|
    if s.activeCollie = .b ∧ s.ref.a.state = .standby ∧ s.elapsed s.ref.a.since (10 * nsPerSec) = true then
      (s.swapCollie 1).2.noteHealth s
    else s

/-! ## REF_ROLE_CMD (R535, R536, R540, R551) -/

/-- A refused or abandoned command. -/
def State.cmdErr (s : State) : State := { s with ref.cmdErr := true }

/-- The Collies change places after their roles were written. -/
def State.rewriteCollie (collie old : Side) (s : State) : State :=
  if collie = old then s
  else
    let up := s.collie collie
    let down := s.collie old
    let t1 := s.setCollie collie { up with state := if up.state = .standby then .active else up.state, since := none }
    let t2 := t1.setCollie old
      { down with state := if down.state = .active then .standby else down.state, mirrorOk := false, mirrorAt := none, since := none }
    { t2 with ref.mirror := none }

/-- The time engines change places after their roles were written; `diff` is their difference before it. -/
def State.rewriteTe (te old : Side) (diff : Nat) (s : State) : State :=
  if te = old then s
  else { s with time.switches := satInc 16 s.time.switches }.post 5 4 (sideNum te) 0 (toLE 4 diff ++ toLE 3 0)

/-- The roles that the host commits while keel register 1 is stuck (R522, R551), and the units' states with them; the
host triggers act again (R120). -/
def State.rewriteRoles (collie te : Side) (s : State) : State :=
  let oldC := s.activeCollie
  let oldT := s.activeTe
  let s1 := s.commit 1 (setBits (s.rolesWithCollie collie) 1 1 (sideNum te))
  let s2 := (s1.rewriteCollie collie oldC).rewriteTe te oldT (signSat s.teDiff)
  (if collie = oldC ∧ te = oldT then s2 else s2.healthEvt 3).settle

/-- REF_ROLE_CMD names a Collie: a deliberate swap makes it active, or the command is refused (R535, R536). -/
def State.roleCollie (collie : Side) (s : State) : State :=
  if collie = s.activeCollie then s
  else match s.swapCollie 3 with
    | (true, t) => t
    | (false, t) => t.cmdErr

/-- REF_ROLE_CMD names a time engine: it becomes active while it is eligible, or the command is refused (R540). -/
def State.roleTe (te : Side) (s : State) : State :=
  if te = s.activeTe then s
  else if s.teElig te then
    match s.switchTe with
    | (true, t) => t.follow 0x200 0x14 .ce (packItems [(1, 1), (2, 3)]) false
    | (false, t) => t.cmdErr
  else s.cmdErr

/-- REF_ROLE_CMD with GO and GUARD (R551). -/
def execRefRoleCmd (p : HostPort) (value : Word) (s : State) : Outcome State Fault Refusal :=
  .next <|
    let v := value.toNat
    let collie := Side.ofBit (bit v 0)
    let te := Side.ofBit (bit v 1)
    if s.takesRw p && bit v 2 && decide (bits v 31 16 = 0x5120) then
      if s.flt.keel1.stuck then (s.rewriteRoles collie te).noteHealth s
      else ((s.roleCollie collie).roleTe te).noteHealth s
    else s

/-! ## Firmware update in service (R537, R538) -/

/-- An update is refused or fails, with the cause that its record names. -/
def State.fwuFail (cause : Nat) (s : State) : State :=
  ({ s with ref.fwuErr := true }).follow 0x200 0x18 .ce (packItems [(3, cause)]) false

/-- An image address and length keep R62. -/
def imageOk (addr len : Nat) : Bool :=
  decide (addr % 4096 = 0) && decide (0 < len) && decide (len % 4096 = 0) && decide (len ≤ 2097152)

/-- REF_FWU_CTL with GO and GUARD (R537). -/
def execRefFwuCtl (p : HostPort) (value : Word) (s : State) : Outcome State Fault Refusal :=
  .next <|
    let v := value.toNat
    let e := s.activeCollie.peer
    if s.takesRw p && bit v 0 && decide (bits v 31 16 = 0x5120) then
      if s.ref.fwu ≠ .none then s.fwuFail 0
      else if !((s.collie e).state = .standby ∧ s.collieOk e = true) then s.fwuFail 1
      else if !imageOk (s.rd64 0x20020) (s.rd 0x20028) then s.fwuFail 2
      else { s with ref.fwu := .fetching e }
    else s

/-- The standby has fetched the update and checked its signature, or has failed in one of them (R538): a deliberate swap
follows, and the former active Collie loads the new image. -/
def execFwuVerifyDone (fetched good : Bool) (image : List Byte) (version : Word) (s : State) :
    Outcome State Fault Refusal :=
  .next <|
    match s.ref.fwu with
    | .fetching e =>
      let s0 := { s with ref.fwu := .none }
      if !fetched then s0.fwuFail 3
      else if !good then s0.fwuFail 4
      else if !((s.collie e).state = .standby ∧ s.collieOk e = true) then s0.fwuFail 1
      else
        match (s0.setCollie e { s0.collie e with version := version.toNat }).swapCollie 2 with
        | (false, s1) => (s1.setCollie e { s1.collie e with version := (s0.collie e).version }).fwuFail 1
        | (true, s1) =>
          let c := s1.collie e.peer
          let s2 := s1.setCollie e.peer { c with state := .loading, alive := false, fwOk := false, beat := none, version := 0 }
          ({ s2 with ref.fwu := .reloading e.peer, ref.meas := s2.ref.meas.set [] 1 (sha384 image) }).noteHealth s
    | _ => s

/-- The former active Collie has loaded and verified the new image, or has failed to (R533, R538). -/
def execFwuReloadDone (ok : Bool) (s : State) : Outcome State Fault Refusal :=
  .next <|
    match s.ref.fwu with
    | .reloading e =>
      let c := s.collie e
      let s0 := { s with ref.fwu := .none }
      if c.state ≠ .loading then { s0 with ref.fwuErr := true }
      else if ok then
        let v := (s.collie e.peer).version
        let s1 := s0.setCollie e { c with state := .standby, alive := true, fwOk := true, beat := some s.now, version := v }
        (s1.follow 0x200 0x17 .ce (packItems [(32, v)]) false).noteHealth s
      else (({ s0 with ref.fwuErr := true }).failCollie e).noteHealth s
    | _ => s

/-! ## The host preference (R542) -/

/-- A write of REF_HOST_PREF by the active host commits keel register 2 (R122, R522, R542). -/
def execRefHostPrefWrite (p : HostPort) (value : Word) (s : State) : Outcome State Fault Refusal :=
  .next (if s.takesRw p then s.commit 2 (value.toNat % 2) else s)

/-! ## HEALTH and wear writes (R545, R550) -/

/-- HEALTH_MS have passed since the last PERIODIC event (R550). -/
def execHealthPeriodic (s : State) : Outcome State Fault Refusal :=
  .next <|
    let ms := s.rd 0x20018 % 2 ^ 16
    if ms ≠ 0 ∧ s.mode ≠ .reset ∧ (s.ref.healthAt.isNone || s.elapsed s.ref.healthAt (ms * 1000000)) = true then
      { s with ref.healthAt := some s.now }.healthEvt 1
    else s

/-- The eight words of ID_WEAR_SUM for a wear content (R552). -/
def Wear.sum (w : Wear) : List Nat :=
  let tiles (k : Nat) : Nat := (w.tiles.filter fun e => bits e.2 31 30 = k).length
  [tiles 1, tiles 2, w.withdrawn.length, w.terriers.length, w.tcam.length, w.lost.length, w.d2d.length,
   ((List.range 32).map fun i => b2n (bit w.retired i)).sum]

/-- A wear copy of the kennel. -/
def State.wearAt' (s : State) (i : Nat) : WearCopy := if i = 0 then s.kennel.copy0 else s.kennel.copy1

/-- Replace a wear copy. -/
def State.setWear (i : Nat) (c : WearCopy) (s : State) : State :=
  if i = 0 then { s with kennel.copy0 := c } else { s with kennel.copy1 := c }

/-- The wear copy that holds the newest valid record (R546). -/
def Kennel.newest (k : Kennel) : Option Nat :=
  if k.copy0.valid && (!k.copy1.valid || decide (k.copy1.seq < k.copy0.seq)) then some 0
  else if k.copy1.valid then some 1 else none

/-- Every 10 s a wear copy is written when a spare has been used since the last write (R545): the copy that does not hold
the newest valid record is not valid until its header is written. -/
def execWearWritePeriod (s : State) : Outcome State Fault Refusal :=
  .next <|
    if s.mode = .reset ∨ s.mode = .boot ∨ s.mode = .save ∨ s.collieActs = false then s
    else if s.ref.wearDirty && s.ref.wearWriting.isNone then
      let i := match s.kennel.newest with | some 0 => 1 | _ => 0
      let seq := match s.kennel.newest with | some j => ((s.wearAt' j).seq + 1) % 2 ^ 32 | none => 1
      { s.setWear i { valid := false, seq := seq, wear := s.ref.wear } with
        ref.wearDirty := false, ref.wearWriting := some i }
    else s

/-- A wear write ends with its header, or fails (R545, R552). -/
def execWearWriteEnd (ok : Bool) (s : State) : Outcome State Fault Refusal :=
  .next <|
    match s.ref.wearWriting with
    | none => s
    | some i =>
      let s0 := { s with ref.wearWriting := none }
      let c := s.wearAt' i
      if ok then
        { s0.setWear i { c with valid := true } with
          ref.wearErr := false, ref.wearAt := some s.now, ref.wearCopy := i, ref.wearSum := c.wear.sum }
      else ({ s0 with ref.wearErr := true, ref.wearDirty := true }).follow 0xC00 3 .uc (packItems [(1, i)]) false

end Sys2Proof.Machine
end

