-- ==== Sys2Proof/Machine/Clocks.lean ====
section
/-! DEFINITION. Clocks: judging windows and what a clock's loss does, the clock phase of BOOT, the system reference, the
oscillator's trim and the pipeline clock's target (R487 to R498). -/
namespace Sys2Proof.Machine
open Host (Outcome)

/-- A clock record's detail: the clock's number (R497, R504). -/
def clkDetail (i : Nat) : Nat := packItems [(5, i)]

/-- Log a clock record behind what its source still has pending (R497). -/
def State.clkRec (code i : Nat) (s : State) : State :=
  match codeClass 0x500 code with
  | some c => s.follow 0x500 code c (clkDetail i) false
  | none => s

/-! ## Judging (R492) -/

/-- Twice the expected count of clock `i` in a window of 10 µs (R487, R492), none for a number that names no clock. -/
def State.nominal2 (s : State) (i : Nat) : Option Nat :=
  if i < 2 then some 3125
  else if i = 2 then some (2000 * s.clk.pipeCur)
  else if i = 3 then some 30000
  else if i = 4 then some 36000
  else if i < 7 then some 16000
  else if i < 11 then some 20000
  else if 16 ≤ i ∧ i < 32 then some 1062500
  else none

/-- A window passes: its count differs from the expected one by no more than 500 ppm and one cycle (R492). -/
def windowPasses (nominal2 count : Nat) : Bool :=
  decide (((2 * count : Nat) - (nominal2 : Nat) : Int).natAbs * 2000 ≤ nominal2 + 4000)

/-- A reference toggles: its count lies within 2.5 % (R493). -/
def refToggles (count : Nat) : Bool := decide (((2 * count : Nat) - (3125 : Nat) : Int).natAbs * 40 ≤ 3125)

/-- A judge after a window: stable after 64 passing windows in a row, lost after 4 failing ones (R492). -/
def Judge.step (pass : Bool) (j : Judge) : Judge :=
  if j.stable then
    if pass then { j with fail := 0 }
    else if j.fail < 3 then { j with fail := j.fail + 1 }
    else Judge.zero
  else if pass then
    if j.pass < 63 then { j with pass := j.pass + 1 } else { stable := true, pass := 0, fail := 0 }
  else Judge.zero

/-! ## What a loss does -/

/-- The system reference is lost: the other reference takes over, or none is left (R490, R491). -/
def State.sysRefLost (i : Nat) (s : State) : State :=
  if (s.judge (1 - i)).stable then
    ({ s with clk.sysRef1 := !s.clk.sysRef1, clk.switches := satInc 16 s.clk.switches }).clkRec 2 i
  else s.clkRec 3 i

/-- The PLL of a time engine is lost, or the reference that feeds it (R490, R539, R540): the engine is unhealthy. -/
def State.timePllLost (e : Side) (s : State) : State :=
  let s1 := s.setTe e { s.te e with okSince := none, behind := (s.te e).run }
  if e = s1.activeTe ∧ (s1.te e).run = true then s1.teLost 0 else s1

/-- The ports of a harp start again (R143 and "When a clock is lost in service"). -/
def State.harpLost (h : Nat) (pick : Draw) (s : State) : State :=
  ((List.range 32).map (32 * h + ·)).foldl (fun t p => if t.enabled p then t.restartPort p true pick else t) s

/-- A host port's clock is lost: its link is down, on the active port a trigger (R117, R493). -/
def State.hostPllLost (p : HostPort) (s : State) : State :=
  if (s.half p).linkUp then
    let s1 := s.onHalf p fun h => { h with linkUp := false, rate := 0, width := 0 }
    if p = s1.active then s1.trigger 2 (s1.eligible p.peer) else s1
  else s

/-- Clock `i` has been judged lost: its record and its consequence (R490, R491, R497). -/
def State.clockLost (i : Nat) (pick : Draw) (s : State) : State :=
  if i < 2 then
    let s1 := s.clkRec 1 i
    (if i = b2n s.clk.sysRef1 ∧ s.md.phase ≠ .clocks then s1.sysRefLost i else s1).timePllLost (if i = 0 then .a else .b)
  else if i < 5 then s.clkRec 4 i
  else if i < 7 then (s.clkRec 5 i).judgeCollies 2
  else if i < 9 then (s.clkRec 6 i).timePllLost (if i = 7 then .a else .b)
  else if i < 11 then (s.clkRec 8 i).hostPllLost (if i = 9 then .ha else .hb)
  else (s.clkRec 7 i).harpLost (i - 16) pick

/-! ## BOOT's clock phase (R489, R493, R540) -/

/-- A time engine starts at 0 s, 0 ns when its clock is judged stable in BOOT (R391). -/
def State.startTe (e : Side) (s : State) : State :=
  if s.mode = .boot ∧ (s.te e).run = false then s.setTe e { Te.zero with run := true } else s

/-- Clock `i` has been judged stable. -/
def State.clockStable (i : Nat) (s : State) : State :=
  if i = 7 then s.startTe .a else if i = 8 then s.startTe .b else s

/-- REFCLK0 is the system reference in BOOT while it is judged stable, else REFCLK1 while that is (R489). -/
def State.pickRef (s : State) : State :=
  if s.mode = .boot ∧ s.md.phase = .clocks then
    { s with clk.sysRef1 := !(s.judge 0).stable && (s.judge 1).stable }
  else s

/-- The clocks that BOOT requires and that are not judged stable (R487): the oscillator first. -/
def State.clocksMissing (s : State) : List Nat :=
  (if s.clk.trimLocked then [] else [Config.oscillator])
    ++ (if s.sysRefOk then [] else [b2n s.clk.sysRef1])
    ++ ([2, 3, 4, 5, 6].filter fun i => !(s.judge i).stable)
    ++ (if (s.judge 7).stable || (s.judge 8).stable then [] else [7])
    ++ (((List.range 16).map (16 + ·)).filter fun i => !(s.judge i).stable)

/-- The clock phase ends (R489, R493, R540): the Collies self-test, TE-A is active unless its PLL is not stable, and a
reference that was not started is logged. -/
def State.clocksDone (s : State) : State :=
  if s.mode = .boot ∧ s.md.phase = .clocks ∧ s.clocksMissing.isEmpty = true ∧ s.md.bootAt + 2000000 ≤ s.now then
    let e : Side := if (s.judge 7).stable then .a else .b
    let s1 := s.commit 1 (s.rolesWithTe e)
    let s2 := { s1 with md.phase := .selftest, ref.a := { s1.ref.a with state := .selftest },
                        ref.b := { s1.ref.b with state := .selftest } }
    let s3 := if (s2.te .a).run then s2 else s2.clkRec 1 0
    if (s3.te .b).run then s3 else s3.clkRec 1 1
  else s

/-- The clock monitors run: the device is out of RESET, or keeps its clocks in it (R505, R591). -/
def State.clocksRun (s : State) : Bool := s.pins.resetN && s.hostAlive

/-- What a window leaves of a clock: its judge, a reference's presence (R493), a harp's lock. -/
def State.judged (i count : Nat) (pass : Bool) (k : Judge) (s : State) : State :=
  { s with clk.judge := s.clk.judge.set Judge.zero i k,
           clk.ref0Present := if i = 0 then refToggles count else s.clk.ref0Present,
           clk.ref1Present := if i = 1 then refToggles count else s.clk.ref1Present,
           port.pllLock := if 16 ≤ i then s.port.pllLock.set false (i - 16) pass else s.port.pllLock }

/-- A clock is judged lost, or stable again (R492). -/
def State.judgeChange (i : Nat) (pick : Draw) (was is' : Bool) (s : State) : State :=
  if was && !is' then s.clockLost i pick else if !was && is' then s.clockStable i else s

/-- A judging window of a clock ends with a count (R492); `pick` serves what a lost harp drops. A harp's PLL is taken as
locked while its windows pass. -/
def execClockJudgeWindow (clock : Fin 32) (count : Nat) (pick : Draw) (s : State) : Outcome State Fault Refusal :=
  .next <|
    let i := clock.val
    match s.nominal2 i with
    | none => s
    | some n =>
      if !s.clocksRun then s
      else
        let pass := windowPasses n count
        let j := s.judge i
        let k := j.step pass
        ((s.judged i count pass k).judgeChange i pick j.stable k.stable).pickRef.clocksDone.noteHealth s

/-- A required clock is not judged stable 20 ms into BOOT (R38, R493). -/
def execBootClock (s : State) : Outcome State Fault Refusal :=
  .next <|
    match s.clocksMissing with
    | i :: _ =>
      if s.mode = .boot ∧ s.md.phase = .clocks ∧ s.md.bootAt + 20000000 ≤ s.now then
        ({ s with md.bootResult := 6 }).fatalNow 0x500 0xB (clkDetail i)
      else s
    | [] => s

/-! ## The oscillator's trim (R494, R495) -/

/-- The code moved against a measured error: toward the nominal by one step where that brings it nearer, by the whole
measurement in BOOT's first 220 µs (R493, R494). -/
def trimMove (code : Nat) (err : Int) (wholly : Bool) : Nat :=
  let step : Int := if wholly then err / 25 else if 25 < 2 * err then 1 else if 2 * err < -25 then -1 else 0
  let x : Int := (code : Int) - step
  if x < 0 then 0 else if 4095 < x then 4095 else x.toNat

/-- A 12-bit signed field, saturating. -/
def sat12 (v : Int) : Int := if v < -2048 then -2048 else if 2047 < v then 2047 else v

/-- The chosen source gives a usable measurement (R495): the system reference while it is judged stable or BOOT has yet to
judge it, or a pin whose last interval was good. -/
def State.trimUsable (s : State) : Bool :=
  if bits (s.rd 0x5000C) 1 0 = 1 then decide (0 < s.clk.trimGood) && decide (s.now - s.clk.trimGood < 1000000)
  else s.sysRefOk || decide (s.md.phase = .clocks)

/-- The oscillator measures itself: the error in ppm, positive when it runs fast (R494, R495). -/
def execOscillatorTrim (err : Int) (usable : Bool) (s : State) : Outcome State Fault Refusal :=
  .next <|
    if !(s.clocksRun && usable && s.trimUsable) then s
    else
      let c := s.clk
      let code := trimMove c.trimCode err (decide (s.mode = .boot) && decide (s.now ≤ s.md.bootAt + 220000))
      let s1 := { s with clk := { c with trimCode := code, trimErr := sat12 err, trimLocked := decide (err.natAbs ≤ 100),
                                         trimGood := if bits (s.rd 0x5000C) 1 0 = 1 then c.trimGood else s.now,
                                         trimLost := false } }
      let s2 := if code ≠ c.trimCode ∧ (code = 0 ∨ code = 4095) then s1.clkRec 0xA Config.oscillator else s1
      s2.clocksDone

/-- No usable measurement for 10 ms (R495). -/
def execTrimSrcLost (s : State) : Outcome State Fault Refusal :=
  .next <|
    if s.clocksRun && !s.clk.trimLost && decide (s.clk.trimGood + 10000000 ≤ s.now)
        && decide (s.md.bootAt + 10000000 ≤ s.now) then
      ({ s with clk.trimLost := true, clk.trimLocked := false }).clkRec 9 Config.oscillator
    else s

/-! ## CLK_PIPE (R496) -/

/-- A write of CLK_PIPE.TARGET, 8 to 16 (R496). -/
def execClkPipeWrite (p : HostPort) (value : Word) (s : State) : Outcome State Fault Refusal :=
  .next <|
    let t := bits value.toNat 4 0
    if s.takesRw p && decide (8 ≤ t) && decide (t ≤ 16) then (s.wr 0x50008 (setBits (s.rd 0x50008) 4 0 t)).capDone
    else s

end Sys2Proof.Machine
end

