-- ==== Sys2Proof/Machine/Modes.lean ====
section
/-! DEFINITION. Modes: transitions and their requests, reset and the pins, BOOT from self-test to the kennel's read-back,
host-interface resets, SAVE's end and the test port (R36 to R69, R478, R482, R546, R578, R579, R584, R591). -/
namespace Sys2Proof.Machine
open Host (Outcome)

/-! ## Transitions a host asks for (R38 to R47) -/

/-- LINK_DOWN turns the transmitters off, so that every port leaves UP or the way there (R47). No frame is queued for one:
PARK has an empty buffer. -/
def State.lanesDown (s : State) : State := (List.range 512).foldl (fun t p => t.dropBack p Draw.zero) s

/-- A move among CONFIGURE, FORWARD, DRAIN and PARK: refused while keel register 0 is stuck (R524). -/
def State.moveMode (m : Mode) (cause : Nat) (s : State) : Bool × State :=
  let old := s.mode
  match s.keelChange 0 m.code with
  | (false, t) => (false, t)
  | (true, t) =>
    let down := match s.md.req with | some r => decide (m = .park) && r.linkDown | none => false
    let u : State := { t with md := { t.md with prev := old, cause := cause, req := none, parkDown := down } }
    (true, (if down then u.lanesDown else u).pfcUpdate)

/-- The table of R38 among these modes. -/
def modeGo : Mode → Mode → Bool
  | .configure, .forward => true
  | .configure, .park => true
  | .forward, .drain => true
  | .drain, .forward => true
  | .drain, .configure => true
  | .drain, .park => true
  | .park, .forward => true
  | .park, .configure => true
  | _, _ => false

/-- The preconditions of FORWARD from CONFIGURE (R42). -/
def State.mayForward (s : State) : Bool := s.genValid s.gen.cur && s.fit

/-- The request in progress has come to its end: the mode changes, and its command completes (R44, R97). -/
def State.finishReq (st : Status) (dropped : Nat) (s : State) : State :=
  match s.md.req with
  | none => s
  | some r => match s.moveMode r.target 2 with
    | (true, t) => match r.cmd with
      | some c => t.completeSer c st dropped 0
      | none => t
    | (false, t) => match r.cmd with
      | some c => ({ t with md.req := none }).completeSer c .wrongMode 0 0
      | none => { t with md.req := none }

/-- The slices that the end of PARK unparks, in ascending order, the ramps of which follow each other (R478). -/
def State.startUnpark (s : State) : State :=
  let ns := (List.range 16).filter fun n => !(s.slice n).parked
  { s with pwr.ramps := s.pwr.ramps ++ ns.map fun n => { cmd := none, isSlice := true, unit := n, lanes := 0, since := s.now } }

/-- The end of PARK has no ramp left (R478). -/
def State.unparkDone (s : State) : State :=
  if s.mode = .park ∧ (s.pwr.ramps.any fun r => r.cmd.isNone) = false then s.finishReq .ok 0 else s

/-- Begin a transition that takes a later event to complete (R38). -/
def State.startReq (c : Cmd) (m : Mode) (s : State) : State :=
  let ms := c.arg 12 4
  let s1 := { s with md.req := some { cmd := some c.serial, target := m,
                                      flushAt := if ms = 0 then none else some (s.now + ms * 1000000),
                                      linkDown := decide (c.arg 9 1 = 1) } }
  if s.mode = .park then s1.startUnpark else s1

/-- MODE_REQUEST to FORWARD while a request from DRAIN waits: that one is aborted (R45). -/
def State.backToForward (s : State) : Ran :=
  let old := s.md.req.bind ModeReq.cmd
  match s.moveMode .forward 2 with
  | (true, t) => .done .ok 0 0 (match old with | some w => t.completeSer w .aborted 0 0 | none => t)
  | (false, t) => .done .wrongMode 0 0 t

/-- MODE_REQUEST with a target other than RESET (R38 to R47, R97). -/
def execModeRequest (p : HostPort) (n : Fin 64) (s : State) : Outcome State Fault Refusal :=
  .next <|
    let s1 := s.runCmd p n 0x70 (fun c => decide (c.argBits 8 1 3 0 ≠ 0)) (fun _ => [named 8 1 0xF, whole 9 1, whole 12 4])
      fun c s =>
        let t := c.argBits 8 1 3 0
        let m := Mode.ofCode t
        let opt := c.arg 9 1
        let ms := c.arg 12 4
        let flush := decide (s.mode = .drain) && (decide (m = .configure) || decide (m = .park))
        if 7 < t ∨ 1 < opt ∨ (opt ≠ 0 ∧ m ≠ .park) ∨ 10000 < ms ∨ (ms ≠ 0 ∧ flush = false) then .refuse .badArg s
        else if s.modeBusy then
          if s.mode = .drain ∧ m = .forward then s.backToForward else .refuse .wrongMode s
        else if m = s.mode then .done .ok 0 0 (s.commit 0 m.code)
        else if !modeGo s.mode m then .refuse .wrongMode s
        else if s.mode = .configure ∧ m = .forward ∧ s.mayForward = false then .refuse .badArg s
        else if s.flt.keel0.stuck then .refuse .wrongMode (s.keelRefused 0)
        else if (s.mode = .configure ∨ s.mode = .drain) ∧ m = .forward then
          match s.moveMode m 2 with
          | (true, t) => .done .ok 0 0 t
          | (false, t) => .done .wrongMode 0 0 t
        else .wait (s.startReq c m)
    s1.unparkDone

/-- MODE_REQUEST with target RESET starts a device reset, whatever is in progress, and writes no completion (R46, R66,
R92). -/
def execModeRequestReset (p : HostPort) (n : Fin 64) (s : State) : Outcome State Fault Refusal :=
  .next <| s.runCmd p n 0x70 (fun c => decide (c.argBits 8 1 3 0 = 0)) (fun _ => [named 8 1 0xF, whole 9 1, whole 12 4])
    fun c s =>
      if c.arg 9 1 ≠ 0 ∨ c.arg 12 4 ≠ 0 then .refuse .badArg s
      else .wait (s.enterReset 2 true)

/-- The request in progress leads from one mode to another. -/
def State.reqFrom (s : State) (old : Mode) (new : Mode → Bool) : Bool :=
  decide (s.mode = old) && (match s.md.req with | some r => new r.target | none => false)

/-- Ingress has stopped: DRAIN (R38). -/
def execDrainIngressStopped (s : State) : Outcome State Fault Refusal :=
  .next (if s.reqFrom .forward fun m => decide (m = .drain) then s.finishReq .ok 0 else s)

/-- The pipelines are gated: PARK (R38). -/
def execPipelinesGated (s : State) : Outcome State Fault Refusal :=
  .next (if s.reqFrom .configure fun m => decide (m = .park) then s.finishReq .ok 0 else s)

/-- The buffer is empty: the request from DRAIN completes (R38, R44). -/
def execDrainBufferEmpty (s : State) : Outcome State Fault Refusal :=
  .next (if s.reqFrom .drain (fun _ => true) && s.bufEmpty then s.finishReq .ok 0 else s)

/-- The packets of the pipelines are dropped. -/
def State.flushPkts (pick : Draw) (s : State) : State := s.core.pkts.foldl (fun t k => t.dropPkt 3 pick k) s

/-- A port sends nothing any more. -/
def State.endTx (p : Nat) (s : State) : State := { s with core.tx := s.core.tx.erase p }

/-- The frames being sent are dropped. -/
def State.flushTx (pick : Draw) (s : State) : State :=
  s.core.tx.foldl (fun t e => (t.endTx e.1).dropDesc 3 pick e.2.d) s

/-- The frames of a list are dropped. -/
def State.flushList (pick : Draw) (l : List Desc) (s : State) : State := l.foldl (fun u d => u.dropDesc 3 pick d) s

/-- The frames of every queue are dropped. -/
def State.flushQueues (pick : Draw) (s : State) : State :=
  s.core.queues.foldl (fun t e => (t.leaveQueue e.1 []).flushList pick e.2) s

/-- The copies that wait for their frames are dropped. -/
def State.flushCopies (pick : Draw) (s : State) : State :=
  { s with core.copies := [] }.flushList pick (s.core.copies.map Prod.snd)

/-- Every frame that is buffered is dropped with reason DRAIN_FLUSH (R44): how many, and the state. -/
def State.flushAll (pick : Draw) (s : State) : Nat × State :=
  let s1 := s.flushPkts pick
  let s2 := s1.flushTx pick
  let s3 := s2.flushCopies pick
  (s.core.pkts.length + s1.core.tx.length + s2.core.copies.length + (s3.core.queues.map fun e => e.2.length).sum,
    s3.flushQueues pick)

/-- The flush time has ended with frames in the buffer (R44): copies that the drops themselves made go with them. -/
def execDrainFlushTimeout (pick : Draw) (s : State) : Outcome State Fault Refusal :=
  .next <|
    let due := match s.md.req.bind ModeReq.flushAt with | some t => decide (t ≤ s.now) | none => false
    if s.reqFrom .drain (fun _ => true) && due && !s.bufEmpty then
      let (n, s1) := s.flushAll pick
      let (k, s2) := s1.flushAll pick
      s2.finishReq .partial' (n + k)
    else s

/-- An unpark ramp has run for RAMP_US (R478): the first that is due, those of the end of PARK one after another. -/
def execUnparkRampEnd (s : State) : Outcome State Fault Refusal :=
  .next <|
    let first := s.pwr.ramps.find? fun r => r.cmd.isNone
    let due (r : Ramp) : Bool := decide (s.rampNs ≤ s.now - r.since) && (r.cmd.isSome || decide (first = some r))
    match s.pwr.ramps.find? due with
    | none => s.unparkDone
    | some r =>
      let rest := s.pwr.ramps.filter fun x => x ≠ r
      match r.cmd with
      | some c =>
        let s1 := { s with pwr.ramps := rest }
        s1.completeSer c .ok (if r.isSlice then s1.slicePark else s1.lanePark r.unit) 0
      | none =>
        ({ s with pwr.ramps := rest.map fun (x : Ramp) => if x.cmd.isNone then { x with since := s.now } else x }).unparkDone

/-! ## GL_MODE_REQ, GL_RESET and the firmware registers (R39, R40, R58 to R62, R591) -/

/-- Some command ring of a port is enabled (R40). -/
def State.ringsRun (s : State) (p : HostPort) : Bool := (List.range 64).any fun n => (s.ring p n).en

/-- A write of GL_MODE_REQ with its result (R58). -/
def State.glResult (t r : Nat) (s : State) : State := { s with md.reqTarget := t, md.reqResult := r }

/-- A write of GL_MODE_REQ (R38 to R42, R58). -/
def execGlModeReq (p : HostPort) (value : Word) (s : State) : Outcome State Fault Refusal :=
  .next <|
    let t := bits value.toNat 3 0
    let m := Mode.ofCode t
    let takes := s.served || decide (s.mode = .boot)
      || (decide (s.mode = .reset) && s.md.hostLive && decide (t ≠ 1))
    if !(decide (p = s.active) && takes) || decide (s.md.reqResult = 1) then s
    else if s.ringsRun p then { s with md.reqResult := 4 }
    else if 7 < t ∨ s.modeBusy = true then s.glResult t 3
    else if m = s.mode then (s.commit 0 m.code).glResult t 2
    else if s.mode = .boot ∧ m = .configure ∧ s.md.phase = .done ∧ (s.md.bootResult = 1 ∨ s.md.bootResult = 2) then
      match s.moveMode m 1 with
      | (true, u) => u.glResult t 2
      | (false, u) => u.glResult t 3
    else if s.mode = .configure ∧ m = .forward then
      if !s.mayForward then s.glResult t 5
      else match s.moveMode m 1 with
        | (true, u) => u.glResult t 2
        | (false, u) => u.glResult t 3
    else s.glResult t 3

/-- GL_MODE_REQ.TARGET = BOOT in RESET with the host ports live (R591). -/
def execGlModeReqBoot (p : HostPort) (value : Word) (s : State) : Outcome State Fault Refusal :=
  .next <|
    if decide (p = s.active) && decide (s.mode = .reset) && s.md.hostLive && decide (bits value.toNat 3 0 = 1) then
      s.resumeBoot.glResult 1 2
    else s

/-- GL_RESET with DEV_RST and GUARD starts a device reset (R38, R59, R66), in any mode but SAVE. -/
def execGlReset (p : HostPort) (value : Word) (s : State) : Outcome State Fault Refusal :=
  .next <|
    let v := value.toNat
    if decide (p = s.active) && s.hostAlive && decide (s.mode ≠ .save) && bit v 0 && decide (bits v 31 16 = 0x5120) then
      s.enterReset 3 true
    else s

/-- GL_FW_ADDR and GL_FW_LEN take a write (R61). -/
def State.fwWrites (s : State) (p : HostPort) : Bool :=
  decide (p = s.active) && !s.md.fwStarted
    && ((decide (s.mode = .reset) && s.md.hostLive)
        || (decide (s.mode = .boot) && decide (s.md.phase.code ≤ 2) && decide (s.md.bootResult ≠ 6)))

/-- A write of GL_FW_LEN (R61, R62): in BOOT a length asks for the fetch. -/
def execGlFwLen (p : HostPort) (value : Word) (s : State) : Outcome State Fault Refusal :=
  .next <|
    if s.fwWrites p then
      let s1 := s.setReg 0x28 value
      if s.mode = .boot ∧ value ≠ 0 then { s1 with md.fwAsked := true, md.fwWriteAt := s.now } else s1
    else s

/-! ## Reset and pins (R38, R51 to R55, R63, R66, R482, R578, R579, R584) -/

/-- RESET_N falls and stays low for a time; `acts` decides a pulse between the two limits of R578. -/
def execResetNFall (ns : Nat) (acts : Bool) (s : State) : Outcome State Fault Refusal :=
  .next (if s.pins.resetN && lowActs 100 1000 ns acts then ({ s with pins.resetN := false }).enterReset 0 false else s)

/-- RESET_N rises: the straps are sampled and BOOT begins (R38, R578). -/
def execResetNRise (hostPref : Bool) (strap : BitVec 10) (s : State) : Outcome State Fault Refusal :=
  .next <|
    if s.pins.resetN then s
    else ({ s with pins.resetN := true, pins.bench := [], pins.strap := strap.toNat + b2n hostPref * 1024 }).enterBoot

/-- A device reset has held the device in RESET for 1 ms (R66). -/
def execDeviceResetHoldEnd (s : State) : Outcome State Fault Refusal :=
  .next <|
    if s.pins.resetN && decide (s.mode = .reset) && s.elapsed s.md.resetAt 1000000 then s.enterBoot else s

/-- PWRFAIL_N falls and stays low for a time, with VHOLD in mV at the fall (R51 to R54, R481, R578). -/
def execPwrfailNFall (ns : Nat) (acts : Bool) (mv : BitVec 12) (s : State) : Outcome State Fault Refusal :=
  .next <|
    if s.pins.pwrfailN && lowActs 500 1000 ns acts then
      let s1 := { s with pins.pwrfailN := false }
      if s1.served then s1.enterSave mv.toNat
      else if s1.mode = .safe ∧ s1.pwr.save.isNone = true then s1.startSave mv.toNat 2
      else s1
    else s

/-- PWRFAIL_N rises: a device in SAVE stays there (R55). -/
def execPwrfailNRise (s : State) : Outcome State Fault Refusal := .next { s with pins.pwrfailN := true }

/-- VHOLD falls below 2.4 V during a save: its area stays without a valid header (R482). -/
def execVholdCollapse (s : State) : Outcome State Fault Refusal := .next { s with pwr.save := none }

/-- A save ends with its header (R481, R482). -/
def execSaveWriteEnd (s : State) : Outcome State Fault Refusal :=
  .next <|
    match s.pwr.save with
    | some v =>
      let b := withCrc v.bytes
      { s.setSaveArea v.area { valid := true, seq := le b 8 4, bytes := b } with pwr.save := none }
    | none => s

/-- Power is lost: all but the kennel is gone (R38, R64). -/
def execLossOfPower (s : State) : Outcome State Fault Refusal :=
  .next <|
    let r := State.reset
    { r with pending := s.pending, now := s.now, serial := s.serial, out := s.out, kennel := s.kennel }

/-- A control-store load of the port's commands ends. -/
def State.stopCsOf (own : Nat → Bool) (g : Nat) (s : State) : State :=
  match (s.csBank g).load with
  | some l => if own l.cmd then (s.setCsBank g { s.csBank g with load := none }).completeSer l.cmd .aborted 0 0 else s
  | none => s

/-- A tree load of the port's commands ends. -/
def State.stopTreeOf (own : Nat → Bool) (g : Nat) (s : State) : State :=
  match (s.treeBank g).load with
  | some l => if own l.cmd then (s.setTreeBank g { s.treeBank g with load := none }).completeSer l.cmd .aborted 0 0 else s
  | none => s

/-- The commands that a port fetched write no completion any more (R65). -/
def State.muteCmds (p : HostPort) (s : State) : State :=
  { s with cmds := s.cmds.map fun (d : Cmd) => if d.port = p then { d with mute := true } else d }

/-- The rings, vectors and held writes of a port are cleared (R63, R555). -/
def State.clearHalf (p : HostPort) (s : State) : State :=
  { s with regs := s.regs.keep fun o _ => !inArr o (hiReg p 0x800) 4 64 }.onHalf p fun h =>
    { h with vec := [], msix := [], rings := [], held := [], late := [] }

/-- What a host-interface reset clears of a port (R63 to R65, R555). -/
def State.resetPort (p : HostPort) (s : State) : State :=
  let own (c : Nat) : Bool := s.cmds.any fun d => decide (d.serial = c) && decide (d.port = p)
  let s1 := (s.muteCmds p).stopTablesIf own false
  ((((s1.stopCsOf own 0).stopTreeOf own 0).stopCsOf own 1).stopTreeOf own 1).clearHalf p

/-- HI_IFRST.START of the writer's own port (R63). -/
def execHiIfrstStart (p half : HostPort) (value : Word) (s : State) : Outcome State Fault Refusal :=
  .next <|
    if s.hiWriteOk p half && bit value.toNat 0 then
      (s.onHalf p fun h => { h with busy := true, busyAt := s.now }).resetPort p
    else s

/-- A host-interface reset is complete (R63). -/
def execHiIfrstDone (p : HostPort) (s : State) : Outcome State Fault Refusal :=
  .next (s.onHalf p fun h => { h with busy := false })

/-- PERST of a port falls (R578, R579): its link is held down, its configuration space is reset, and its interface with it;
on the active port the link loss is a trigger. -/
def execPerstFall (p : HostPort) (ns : Nat) (acts : Bool) (s : State) : Outcome State Fault Refusal :=
  .next <|
    if !(s.half p).perst && lowActs 0 100000 ns acts then
      let up := (s.half p).linkUp
      let s1 := s.onHalf p fun h =>
        { h with perst := true, linkUp := false, rate := 0, width := 0, bme := false, d3hot := false, spdm := .idle, doe := none }
      let s2 := if s1.hostAlive then s1.resetPort p else s1
      if up ∧ s2.hostAlive = true ∧ p = s2.active then s2.trigger 2 (s2.eligible p.peer) else s2
    else s

/-- PERST of a port rises: its link may train (R579). -/
def execPerstRise (p : HostPort) (s : State) : Outcome State Fault Refusal :=
  .next (s.onHalf p fun h => { h with perst := false })

/-- The instructions of the test port: every other code acts as BYPASS (R584). -/
def tapCode (c : Nat) : Nat := if [0x00, 0x01, 0x04, 0x05, 0x10].contains c then c else 0xFF

/-- The test port loads an instruction, or is reset (R584); what a tester has set in the lanes lasts as long as HSTAP is the
instruction (R585). -/
def execTapInstruction (reset : Bool) (code : Byte) (s : State) : Outcome State Fault Refusal :=
  .next <|
    let c := if reset then 0xFF else tapCode code.toNat
    { s with pins.tap := c, pins.bench := if c = 0x10 then s.pins.bench else [] }

/-! ## BOOT (R60 to R62, R528, R533, R535, R546, R590) -/

/-- A Collie's boot-ROM self-test has ended (R60, R529, R590). -/
def Collie.tested (mem kat : Bool) (c : Collie) : Collie :=
  { c with state := if mem && kat then .loading else .failed, memOk := mem, katOk := kat,
           fails := if mem && kat then c.fails else satInc 8 c.fails }

/-- A Collie that BOOT has found wanting is logged (R533). -/
def State.logFailed (e : Side) (s : State) : State :=
  s.follow 0x200 0x11 .uc (packItems [(1, sideNum e), (16, s.health16 e)]) false

/-- No Collie is left (R532). -/
def State.noCollie (s : State) : State :=
  s.follow 0x200 0x13 .ft (packItems [(16, s.health16 .a), (16, s.health16 .b)]) false

/-- The Collies finish their self-test (R60): the memory test and the known-answer check of each. -/
def execBootSelftestDone (memA katA memB katB : Bool) (s : State) : Outcome State Fault Refusal :=
  .next <|
    if s.mode = .boot ∧ s.md.phase = .selftest then
      let s1 := { s with md.phase := .waitFw, md.selftestAt := s.now, ref.a := s.ref.a.tested memA katA,
                         ref.b := s.ref.b.tested memB katB }
      let s2 := if memA && katA then s1 else s1.logFailed .a
      let s3 := if memB && katB then s2 else s2.logFailed .b
      (if (memA && katA) || (memB && katB) then s3 else s3.noCollie).noteHealth s
    else s

/-- The firmware fetch begins (R62). -/
def execFwFetchStart (s : State) : Outcome State Fault Refusal :=
  .next <|
    if s.mode = .boot ∧ s.md.phase = .waitFw ∧ s.md.fwAsked = true ∧ s.canWrite s.active = true then
      if imageOk (s.rd64 0x20) (s.rd 0x28) then { s with md.phase := .fwFetch, md.fwStarted := true }
      else s.fwFail 5
    else s

/-- The image has been fetched, or a DMA error ended the fetch (R62). -/
def execFwFetchDone (ok : Bool) (s : State) : Outcome State Fault Refusal :=
  .next <|
    if s.mode = .boot ∧ s.md.phase = .fwFetch then
      if ok then { s with md.phase := .fwVerify } else s.fwFail 4
    else s

/-- The signature check ends (R62, R549, R590): the image, and VERSION of its header. -/
def execFwVerifyDone (good : Bool) (image : List Byte) (version : Word) (s : State) : Outcome State Fault Refusal :=
  .next <|
    if s.mode = .boot ∧ s.md.phase = .fwVerify then
      if good then
        let load := fun (c : Collie) => if c.state = .loading then { c with fwOk := true, version := version.toNat } else c
        ({ s with md.phase := .roleProof, ref.a := load s.ref.a, ref.b := load s.ref.b,
                  ref.meas := s.ref.meas.set [] 1 (sha384 image) }).noteHealth s
      else s.fwFail 3
    else s

/-- The image has not been fetched and verified within 10 ms (R62). -/
def execFwFetchTimeout (s : State) : Outcome State Fault Refusal :=
  .next <|
    let since := if s.md.fwWriteAt < s.md.selftestAt then s.md.selftestAt else s.md.fwWriteAt
    if s.mode = .boot ∧ s.md.fwAsked = true ∧ 2 ≤ s.md.phase.code ∧ s.md.phase.code ≤ 4 ∧ since + 10000000 ≤ s.now then
      s.fwFail 4
    else s

/-- A Collie takes up its place at the end of the role proof, with its first heartbeat (R590). -/
def Collie.placed (now : Nat) (st : CollieState) (c : Collie) : Collie :=
  if st = .failed then c.failed else { c with state := st, alive := true, beat := some now }

/-- The role proof ends (R60, R535): which Collies passed it. -/
def execRoleProofDone (aOk bOk : Bool) (s : State) : Outcome State Fault Refusal :=
  .next <|
    if s.mode = .boot ∧ s.md.phase = .roleProof then
      let okA := aOk && decide (s.ref.a.state = .loading)
      let okB := bOk && decide (s.ref.b.state = .loading)
      let stA : CollieState := if okA then .active else .failed
      let stB : CollieState := if okA && okB then .standby else if okB then .active else .failed
      let s1 := { s with md.phase := .kennel, md.collieAOk := okA, md.collieBOk := okB,
                         ref.a := s.ref.a.placed s.now stA, ref.b := s.ref.b.placed s.now stB }
      let s2 := s1.commit 1 (s1.rolesWithCollie (if okB && !okA then .b else .a))
      let swap := fun (t : State) => (t.follow 0x200 0x14 .ce (packItems [(1, 0), (2, 0)]) false).healthEvt 3
      let s3 := if okA && okB then swap (swap s2) else s2
      let s4 := if !okA && decide (s.ref.a.state = .loading) then s3.logFailed .a else s3
      let s5 := if !okB && decide (s.ref.b.state = .loading) then s4.logFailed .b else s4
      (if okA || okB then s5 else s5.noCollie).noteHealth s
    else s

/-! ### The kennel's read-back (R546) -/

/-- The engines of a slice that a wear content names as retired. -/
def Wear.engines (w : Wear) (n : Nat) : List Nat := (w.terriers.filter fun e => e.1 / 128 = n).map fun e => e.1 % 128

/-- The engines of a slice as the wear records leave them (R205, R331): a spare serves for each that is retired. -/
def SliceSt.applyTerriers (l : List Nat) (x : SliceSt) : SliceSt :=
  let spares := [120, 121, 122, 123, 124, 125, 126, 127].filter fun e => !l.contains e
  { x with retired := l, spares := spares.drop (l.filter (· < 120)).length }

/-- A TCAM spare serves a row (R239): a spare that served it before no longer does. -/
def SliceSt.applySpare (key row : Nat) (x : SliceSt) : SliceSt :=
  { x with rowSpare :=
      SMap.put (x.rowSpare.map fun (e : Nat × Nat) => if e.1 / 64 = key / 64 ∧ e.2 / 2 = row then (e.1, 4096) else e) key (row * 2) }

/-- The slices as the wear records leave them: engines retired, rows spared, rows lost (R546). -/
def State.wearSlices (w : Wear) (s : State) : State :=
  let s1 := (List.range 16).foldl (fun t n =>
    if (w.engines n).isEmpty then t else t.onSlice n (SliceSt.applyTerriers (w.engines n))) s
  let s2 := w.tcam.foldl (fun t e => t.onSlice (e.1 / 2048) (SliceSt.applySpare (e.1 % 2048) (e.2 % 2048))) s1
  w.lost.foldl (fun t v => t.onSlice (v / 65536 % 16) fun x => { x with lost := x.lost ++ [v % 65536] }) s2

/-- How the wear records use a spare tile. -/
def spareOf (v : Nat) : SpareUse := if bits v 31 30 = 2 then .bad false else .serving (bits v 21 0) false

/-- The buffer as the wear records leave it. -/
def wearBuf (w : Wear) (b : BufSt) : BufSt :=
  let buf := { b with spares := w.tiles.map fun (e : Nat × Nat) => (e.1, spareOf e.2),
                      gone := w.withdrawn.map (· % 2 ^ 26) }
  { buf with withdrawn := buf.layWithdrawn }

/-- The endpoint table's segments as the wear records leave them. -/
def wearTab (w : Wear) (t : TablesSt) : TablesSt :=
  let gone := (List.range 17).filter fun i => bit w.retired i
  { t with retired := w.retired, spare := if gone.isEmpty then t.spare else none,
           segmap := gone.foldl (fun m g => if g < 16 then m.set 0 g 17 else m) t.segmap }

/-- Apply a wear content (R331, R546). -/
def State.applyWear (w : Wear) (s : State) : State :=
  let s1 := s.wearSlices w
  { s1 with buf := wearBuf w s1.buf, tab := wearTab w s1.tab,
            port.d2d := w.d2d.foldl (fun m e => m.set 0 (e.1 / 64) (m.get 0 (e.1 / 64) + 1)) s1.port.d2d,
            ref.wear := w, ref.wearSum := w.sum }

/-- A copy of the wear records that holds none is recorded (R546). -/
def State.wearMissing (i : Nat) (s : State) : State :=
  if (s.wearAt' i).valid then s else s.follow 0xC00 5 .ce (packItems [(1, i)]) false

/-- The newest wear records take effect (R546). -/
def State.loadWear (s : State) : State :=
  match s.kennel.newest with
  | some i => { (s.applyWear (s.wearAt' i).wear) with ref.wearCopy := i }
  | none => s

/-- The secure element has answered in BOOT, or has not (R548). -/
def State.elementReady (ok : Bool) (s : State) : State := if ok then { s with ref.seReady := true } else s.seFail

/-- BOOT's last phase ends: the saved area shows, and BOOT_RESULT tells how many Collies run (R482). -/
def State.bootReady (s : State) : State :=
  let save := s.newestSave
  { s with pwr.saveShown := save.isSome, pwr.saveArea := save.getD 0,
           md := { s.md with saveValid := save.isSome, phase := .done,
                             bootResult := if s.md.collieAOk && s.md.collieBOk then 1 else 2 } }

/-- The kennel has been read back (R546): words that fail their check with whether they are uncorrectable, and whether the
secure element answers. -/
def execKennelReadbackDone (errs : List (BitVec 20 × Bool)) (element : Bool) (s : State) :
    Outcome State Fault Refusal :=
  .next <|
    if s.mode = .boot ∧ s.md.phase = .kennel then
      let s1 := errs.foldl (fun t e => t.kennelCheck e.1.toNat e.2) s
      ((((s1.wearMissing 0).wearMissing 1).loadWear).elementReady element).bootReady
    else s

end Sys2Proof.Machine
end

