-- ==== Sys2Proof/Machine/Regs.lean ====
section
/-! DEFINITION. A host's write to a register that has no command of its own: the access type and the field rules of each
register (R4, R5, R17, R74, R88, R555 to R563, R589). A value that a field map refuses leaves its field or its register as
it was. -/
namespace Sys2Proof.Machine
open Host (Outcome)

/-! ## Field rules -/

/-- A field of a write in its place: the new value where the field takes it, else the old one. -/
def fld (old v hi lo : Nat) (ok : Nat → Bool) : Nat :=
  (if ok (bits v hi lo) then bits v hi lo else bits old hi lo) * 2 ^ lo

/-- A field that takes every value. -/
def all (v hi lo : Nat) : Nat := bits v hi lo * 2 ^ lo

/-- The value is not 0. -/
def nonzero (x : Nat) : Bool := decide (x ≠ 0)

/-- The access types of the registers written here (R4). -/
inductive Acc
  | rw
  | rwc
  deriving DecidableEq, Repr

/-- What a write leaves of a register, with its access type. -/
abbrev Rule := Option (Acc × Nat)

/-- A register of type RW. -/
def rw (v : Nat) : Rule := some (.rw, v)
/-- A register of type RWC. -/
def rwc (v : Nat) : Rule := some (.rwc, v)
/-- A register that keeps its whole value when a test of the write fails. -/
def ifOk (ok : Bool) (old v : Nat) : Nat := if ok then v else old

/-! ## The registers by block -/

/-- REF_CFG, REF_FWU_ADDR and REF_FWU_LEN (R551). -/
def refRule (o old v : Nat) : Rule :=
  match o with
  | 0x18 => rw (fld old v 15 0 fun x => decide (x = 0) || within 10 60000 x)
  | 0x20 => rw v
  | 0x24 => rw v
  | 0x28 => rw v
  | _ => none

/-- The PWR block (R485). -/
def pwrRule (o old v : Nat) : Rule :=
  if o = 4 then rw (all v 7 0 + fld old v 27 16 (within 16 4000))
  else if inArr o 0x40 4 16 then rwc (all v 15 0)
  else none

/-- The CLK block (R498). -/
def clkRule (o old v : Nat) : Rule :=
  match o with
  | 0x0C => rw (ifOk (decide (bits v 1 0 < 2)) old (all v 3 0))
  | 0x10 => rw (fld old v 29 0 (within 1000 1000000000))
  | _ => none

/-- The TIME block (R431): a pulse output's settings lie in its 32 bytes. -/
def timeRule (o v : Nat) : Rule :=
  if o = 0x18 ∨ o = 0x1C ∨ o = 0x20 ∨ o = 0x24 then rw v
  else if o = 0x28 then rw (all v 29 0)
  else if inArr o 0x100 0x20 8 ∨ inArr o 0x104 0x20 8 then rw v
  else if inArr o 0x108 0x20 8 ∨ inArr o 0x10C 0x20 8 ∨ inArr o 0x110 0x20 8 then rw (all v 29 0)
  else if inArr o 0x210 0x20 4 then rw (all v 2 0)
  else none

/-- The PERF block (R458). -/
def perfRule (o old v : Nat) : Rule :=
  match o with
  | 0x100 => rw (all v 1 0)
  | 0x104 => rw (all v 16 0)
  | 0x108 => rw v
  | 0x10C => rw (all v 23 0)
  | 0x110 => rw (all v 15 0)
  | 0x114 => rw v
  | 0x120 => rw (ifOk (decide (bits v 1 0 ≠ 3)) old (all v 5 0))
  | _ => none

/-- An ALPHA code that BPM_IPROF and BPM_QPROF take (R320). -/
def alphaCode (x : Nat) : Bool := !within 11 14 x

/-- The BPM block (R332). -/
def bpmRule (o old v : Nat) : Rule :=
  if inArr o 0 4 4 then rw (all v 21 0)
  else if inArr o 0x10 4 4 then rw (all v 15 0)
  else if o = 0x60 then rw (fld old v 1 0 (fun x => decide (x ≠ 3)) + fld old v 17 4 (within 100 10000))
  else if inArr o 0x100 4 16 then rwc (ifOk (alphaCode (bits v 15 12)) old v)
  else if inArr o 0x140 4 16 then rwc (ifOk (alphaCode (bits v 19 16)) old (all v 19 0))
  else none

/-- The CORE block (R365). -/
def coreRule (o old v : Nat) : Rule :=
  if o = 0 then rw (fld old v 2 0 nonzero + fld old v 25 16 (within 1 1000))
  else if o = 4 then rw (fld old v 15 0 nonzero + all v 16 16)
  else if inArr o 0x80 4 32 then rw (all v 4 0)
  else if inArr o 0x100 8 16 then rw (all v 25 0)
  else if inArr o 0x104 8 16 then rw (all v 15 0)
  else if inArr o 0x200 4 16 then rw (ifOk (decide (bits v 15 0 ≤ bits v 31 16)) old v)
  else if inArr o 0x400 16 16 then rw (all v 19 0)
  else if inArr o 0x404 16 16 then
    rw (fld old v 13 0 (fun x => decide (x = 0) || within 64 10176 x) + fld old v 20 14 (within 0 64)
      + fld old v 27 21 (within 0 44) + all v 28 28)
  else if inArr o 0x408 16 16 then rw v
  else if inArr o 0x40C 16 16 then rw (all v 22 0)
  else if inArr o 0x1000 4 256 then rw v
  else none

/-- The SCH block (R390). -/
def schRule (o old v : Nat) : Rule :=
  match o with
  | 0 => rw (fld old v 15 0 nonzero + fld old v 31 16 nonzero)
  | 4 => rw (all v 1 0)
  | _ => none

/-- The TBL block (R298): a seed is written only while its segment holds no entry. -/
def State.tblRule (s : State) (o old v : Nat) : Rule :=
  if o = 0 then rw (fld old v 6 0 (within 50 100) + fld old v 17 8 nonzero)
  else if inArr o 0x80 4 32 then rwc (ifOk (decide (s.segUsed ((o - 0x80) / 8) = 0)) old v)
  else none

/-- CAL_FRER_BASE and CAL_FRER_TIMER (R432). -/
def calRule (o old v : Nat) : Rule :=
  if o = 0x10 then rw (all v 16 0)
  else if inArr o 0x4004 16 1024 then rw (fld old v 15 0 nonzero)
  else none

/-- SL_TCAM_KSEL (R250): windows begin at byte 54 at most, and a metadata unit has offset 0. -/
def kselOk (v : Nat) : Bool :=
  (List.range 4).all fun u =>
    decide (bits v (8 * u + 5) (8 * u) ≤ 54) && (!bit v (8 * u + 6) || decide (bits v (8 * u + 5) (8 * u) = 0))

/-- SL_ECMP_FSEL (R298): no field passes byte 63. -/
def fselOk (v : Nat) : Bool :=
  (List.range 4).all fun m => decide (bits v (8 * m + 5) (8 * m) + bits v (8 * m + 7) (8 * m + 6) ≤ 63)

/-- SL_POL_CMAP: no colour is 0b11. -/
def cmapOk (v : Nat) : Bool := (List.range 16).all fun m => decide (bits v (2 * m + 1) (2 * m) ≠ 3)

/-- SL_PMC_SEL (R450, R451). -/
def pmcOk (v : Nat) : Bool := decide (bits v 7 0 ≤ 0x18) && !within 1 3 (bits v 26 22)

/-- The banks of the other LPM table of a slice. -/
def State.otherBanks (s : State) (n o : Nat) : Nat := s.rd (slReg n (if o = 0x40C then 0x410 else 0x40C))

/-- A slice block (R558). -/
def State.slRule (s : State) (n o old v : Nat) : Rule :=
  if o = 0x100 then rw (fld old v 6 0 (within 8 96))
  else if o = 0x104 then rw (all v 13 0)
  else if o = 0x120 then rw (all v 0 0 + fld old v 15 8 nonzero)
  else if inArr o 0x200 4 32 then
    rwc (ifOk (decide (bits v 1 0 ≠ 3) && decide (bits v 3 2 ≠ 3)) old (bits old 31 7 * 128 + all v 6 0))
  else if inArr o 0x280 4 32 then rwc (ifOk (kselOk v) old (v &&& 0x7F7F7F7F))
  else if o = 0x400 then rw (all v 6 0)
  else if o = 0x404 then rw (v &&& 0x7F7F)
  else if o = 0x408 then
    rwc (ifOk (decide (bits v 1 0 ≠ 3) && decide (bits v 3 2 ≠ 3)) old (all v 3 0))
  else if o = 0x40C ∨ o = 0x410 then rwc (ifOk (decide (v &&& s.otherBanks n o = 0)) old v)
  else if o = 0x420 then
    rw (fld old v 1 0 (fun x => decide (x ≠ 3)) + all v 2 2 + fld old v 15 4 nonzero + all v 31 16)
  else if o = 0x424 then rwc (ifOk ((s.slice n).l2.isEmpty) old v)
  else if inArr o 0x500 4 4 then rw (all v 16 0)
  else if inArr o 0x510 4 4 then rw v
  else if inArr o 0x520 4 16 then rw (ifOk (fselOk v) old v)
  else if inArr o 0x600 4 4 then rw (ifOk (cmapOk v) old v)
  else if o = 0x700 then rw (fld old v 6 0 (within 0 64))
  else if inArr o 0x800 4 64 then rw (ifOk (pmcOk v) old (all v 26 0))
  else none

/-- A port block (R559); PT_CORE_CFG.RECIRC alone of its register is RWC. -/
def State.ptRule (s : State) (o old v : Nat) : Rule :=
  match o with
  | 0x0C => rw (fld old v 13 0 (within 1518 10176) + fld old v 15 14 (fun x => decide (x ≠ 3)) + all v 24 16)
  | 0x10 => rw v
  | 0x14 => rw (all v 15 0)
  | 0x1C => rw (all v 12 0)
  | 0x20 => rwc (all v 26 0)
  | 0x24 => rwc v
  | 0x28 => rw (all v 7 0 + (if s.mode = .configure then all v 8 8 else all old 8 8) + all v 18 9)
  | 0x2C => rw (all v 16 0)
  | 0x30 => rw v
  | 0x108 => rw v
  | 0x10C => rw (all v 0 0)
  | 0x180 => rw (all v 8 0 + all v 31 16)
  | 0x1C0 => rw (all v 10 0 + 2 ^ 11 + all v 18 12)
  | _ => none

/-- What a write of a stored register leaves in it, none for an offset that is no such register (R554). -/
def State.regRule (s : State) (o old v : Nat) : Rule :=
  if 0x20000 ≤ o ∧ o < 0x30000 then refRule (o - 0x20000) old v
  else if o = 0x30004 then rw (all v 15 0)
  else if 0x40000 ≤ o ∧ o < 0x50000 then pwrRule (o - 0x40000) old v
  else if 0x50000 ≤ o ∧ o < 0x60000 then clkRule (o - 0x50000) old v
  else if 0x60000 ≤ o ∧ o < 0x70000 then timeRule (o - 0x60000) v
  else if 0x70000 ≤ o ∧ o < 0x80000 then perfRule (o - 0x70000) old v
  else if 0x80000 ≤ o ∧ o < 0x90000 then bpmRule (o - 0x80000) old v
  else if 0x90000 ≤ o ∧ o < 0xA0000 then coreRule (o - 0x90000) old v
  else if 0xA0000 ≤ o ∧ o < 0xB0000 then schRule (o - 0xA0000) old v
  else if 0xB0000 ≤ o ∧ o < 0xC0000 then s.tblRule (o - 0xB0000) old v
  else if 0x100000 ≤ o ∧ o < 0x200000 then s.slRule ((o - 0x100000) / 0x10000) (o % 0x10000) old v
  else if 0x200000 ≤ o ∧ o < 0x400000 then
    if s.inactive ((o - 0x200000) / 0x1000) then none else s.ptRule (o % 0x1000) old v
  else if 0x500000 ≤ o ∧ o < 0x510000 then calRule (o - 0x500000) old v
  else none

/-! ## What a write does beside -/

/-- A change of a TCAM bank's MODE or WIDTH invalidates its entries (R226). -/
def State.bankChanged (n b old v : Nat) (s : State) : State :=
  if bits old 3 0 = bits v 3 0 then s
  else s.onSlice n fun x => { x with acl := x.acl.keep fun k _ => decide (k / 2048 ≠ b),
                                     lpm := x.lpm.keep fun k _ => decide (k / 2048 ≠ b) }

/-- PT_PREEMPT: verification is disabled, or begins on a port that is UP (R419). -/
def State.preemptChanged (p : Nat) (s : State) : State :=
  if s.verifies p && decide (s.time.verify.get 0 p ≠ 0) then s else s.verifyStart p

/-- TIME_IN_CTL: setting EDGE clears the counts of the pin (R402, R431). -/
def State.edgeChanged (j v : Nat) (s : State) : State :=
  if bits v 1 0 = 0 then s else s.setIn j { s.timeIn j with captures := 0, count := 0 }

/-- The effects of a write beside the register's own value. -/
def State.regEffect (o old v : Nat) (s : State) : State :=
  if 0x100000 ≤ o ∧ o < 0x200000 ∧ inArr (o % 0x10000) 0x200 4 32 = true then
    s.bankChanged ((o - 0x100000) / 0x10000) ((o % 0x10000 - 0x200) / 4) old v
  else if 0x200000 ≤ o ∧ o < 0x400000 then
    let p := (o - 0x200000) / 0x1000
    if o % 0x1000 = 0x1C0 then s.preemptChanged p
    else if o % 0x1000 = 0x2C then { s with tel.pcSeen := s.tel.pcSeen.set 0 p 0 }
    else s.pfcUpdate
  else if inArr o 0x60210 0x20 4 then s.edgeChanged ((o - 0x60210) / 0x20) v
  else if inArr o 0x90200 4 16 then s.pfcUpdate
  else if o = 0x80060 ∧ bits v 1 0 = 0 then { s with buf.running := false }
  else if o = 0x5000C ∧ old ≠ v then { s with clk.trimEdge := none, clk.trimGood := s.now, clk.trimLost := false }
  else s

/-- Write a register of the map, where the mode and the field rules take it (R563). -/
def State.writeStored (p : HostPort) (o v : Nat) (s : State) : State :=
  let old := s.rd o
  match s.regRule o old v with
  | some (.rw, x) => if s.takesRw p then (s.wr o x).regEffect o old x else s
  | some (.rwc, x) => if s.takesRwc p then (s.wr o x).regEffect o old x else s
  | none => s

/-! ## Registers with rules of their own -/

/-- The device takes writes of the registers that R563 lists for RESET, BOOT and SAFE (in SAVE none). -/
def State.takesListed (s : State) (p : HostPort) : Bool :=
  decide (p = s.active) && s.hostAlive && decide (s.mode ≠ .save)

/-- A ring block takes a write while the ring neither runs nor has work outstanding (R88). -/
def State.writeRing (p : HostPort) (n o v : Nat) (s : State) : State :=
  let r := s.ring p n
  if r.en || r.active || !ringId n then s
  else match o with
    | 0 => s.setRing p n { r with base := setBits r.base 31 0 v }
    | 4 => s.setRing p n { r with base := setBits r.base 63 32 v }
    | 8 => if n < 64 then s.setRing p n { r with cbase := setBits r.cbase 31 0 v } else s
    | 0xC => if n < 64 then s.setRing p n { r with cbase := setBits r.cbase 63 32 v } else s
    | 0x10 => s.setRing p n { r with log2n := bits v 4 0, vector := bits v 13 8, irqEn := bit v 16, typ := bits v 23 20 }
    | _ => s

/-- The bits of a word of an MSI-X entry that software writes: the address' low two and the control word's bits above the
mask are 0. -/
def msixMask (k v : Nat) : Nat := if k % 4 = 0 then v - v % 4 else if k % 4 = 3 then v % 2 else v

/-- Word `k` of a port's MSI-X table is written: an unmasked vector sends what it holds pending (R113). -/
def State.writeMsix (p : HostPort) (k v : Nat) (s : State) : State :=
  let s1 := s.onHalf p fun h => { h with msix := h.msix.set (if k % 4 = 3 then 1 else 0) k (msixMask k v) }
  if k % 4 = 3 ∧ ((s1.half p).vec.get Vec.zero (k / 4)).pend = true then s1.sendVec p (k / 4) else s1

/-- HI_HB_TIMEOUT: a timeout that brings the age below it begins the time for which it has stayed so (R117, R118). -/
def State.writeTimeout (p : HostPort) (v : Nat) (s : State) : State :=
  if within 1 1000 (bits v 9 0) then
    let s1 := s.wr (hiReg p 8) (bits v 9 0)
    (if !s.ageBelow p && s1.ageBelow p then s1.onHalf p fun h => { h with below := some s.now } else s1).settle
  else s

/-- A write to a port's half of the HI block, at an offset of HA's (R63, R86, R557, R589). -/
def State.writeHi (p : HostPort) (o v : Nat) (s : State) : State :=
  if o = 8 then s.writeTimeout p v
  else if o = 0xC then
    if within 1000 600000 (bits v 19 0) then s.wr (hiReg p 0xC) (bits v 19 0) else s
  else if inArr o 0x800 4 64 then (s.wr (hiReg p o) (v &&& 0x0FFF0FFF)).vecDue p ((o - 0x800) / 4)
  else if 0x1000 ≤ o ∧ o < 0x5000 then s.writeRing p ((o - 0x1000) / 0x40) ((o - 0x1000) % 0x40) v
  else if 0x7000 ≤ o ∧ o < 0x7400 then s.writeMsix p ((o - 0x7000) / 4) v
  else s

/-- A write to the GL, FLT, PWR, REF and TIME registers that are not merely stored. -/
def State.writeOwn (p : HostPort) (o v : Nat) (s : State) : State :=
  if o = 0x20 ∨ o = 0x24 then (if s.fwWrites p then s.wr o v else s)
  else if o = 0x2000C then
    if s.takesRw p then
      { s with ref.cmdErr := s.ref.cmdErr && !bit v 2, ref.fwuErr := s.ref.fwuErr && !bit v 4 }
    else s
  else if o = 0x30040 then
    (if s.takesRw p || (s.takesListed p && decide (s.mode = .safe)) then s.wr o (bits v 10 0) else s)
  else if o = 0x40084 then (if s.takesListed p && within 0 23 (bits v 4 0) then s.wr o (bits v 4 0) else s)
  else if o = 0x60010 then (if s.takesRw p && decide (bits v 1 0 = 0) then s.writeTimeCtl v else s)
  else if o = 0x60030 then (if s.takesRw p && bit v 4 then { s with time.err := false } else s)
  else if inArr o 0x60114 0x20 8 then
    (if s.takesRw p && !bit v 0 then (s.stopOut ((o - 0x60114) / 0x20)).wr o (all v 1 1) else s)
  else s.writeStored p o v

/-- A write of four bytes at an aligned offset of BAR0. -/
def State.write4 (p : HostPort) (o v : Nat) (s : State) : State :=
  if 0x10000 ≤ o ∧ o < 0x20000 then
    let half : HostPort := if o < 0x18000 then .ha else .hb
    if s.hiWriteOk p half then s.writeHi half ((o - 0x10000) % 0x8000) v else s
  else s.writeOwn p o v

/-- A host's write to BAR0 of four bytes, or of eight where `wide`; an access that its register does not take has no
effect (R74). Offsets whose write is another command's are left to it. -/
def execRegisterWrite (p : HostPort) (offset : BitVec 26) (wide : Bool) (value : DWord) (s : State) :
    Outcome State Fault Refusal :=
  .next <|
    let o := offset.toNat
    let v := value.toNat
    if o % 4 ≠ 0 then s
    else if wide then
      if o % 8 = 0 ∧ isWide o = true then (s.write4 p o (v % 2 ^ 32)).write4 p (o + 4) (v / 2 ^ 32) else s
    else s.write4 p o (v % 2 ^ 32)

end Sys2Proof.Machine
end

