-- ==== Sys2Proof/Machine/Spdm.lean ====
section
/-! DEFINITION. SPDM through the DOE mailbox of a host port (R128, R129, R548, R549). The codes of the messages and of
their fields are those of SPDM 1.2, which the spec names. -/
namespace Sys2Proof.Machine
open Host (Outcome)

/-- The port answers configuration requests: its link is up, and the device is out of RESET or keeps its ports live
(R38, R129). -/
def State.spdmLive (s : State) (p : HostPort) : Bool := s.hostAlive && (s.half p).linkUp && !(s.half p).perst

/-- A response in the port's mailbox. -/
def State.respond (p : HostPort) (code : Nat) (data : List Byte) (s : State) : State :=
  s.onHalf p fun h => { h with doe := some (code, data) }

/-- An ERROR response: its error code. -/
def State.spdmError (p : HostPort) (err : Nat) (s : State) : State := s.respond p 0x7F [BitVec.ofNat 8 err, 0]

/-- A request that a connection takes only once it has come this far; else it is unexpected. -/
def State.spdmRun (p : HostPort) (ok : Spdm → Bool) (f : State → State) (s : State) : State :=
  if s.spdmLive p then (if ok (s.half p).spdm then f s else s.spdmError p 4) else s

/-- The connection has come to a step. -/
def State.spdmTo (p : HostPort) (x : Spdm) (s : State) : State := s.onHalf p fun h => { h with spdm := x }

/-- GET_VERSION begins a connection anew: version 1.2. -/
def execSpdmGetVersion (p : HostPort) (s : State) : Outcome State Fault Refusal :=
  .next (s.spdmRun p (fun _ => true) fun s => (s.spdmTo p .version).respond p 0x04 [0, 1, 0, 0x12])

/-- GET_CAPABILITIES: CERT_CAP, CHAL_CAP and MEAS_CAP with signature. -/
def execSpdmGetCapabilities (p : HostPort) (s : State) : Outcome State Fault Refusal :=
  .next (s.spdmRun p (fun x => decide (x ≠ .idle)) fun s => (s.spdmTo p .capabilities).respond p 0x61 (toLE 4 0x16))

/-- NEGOTIATE_ALGORITHMS: ECDSA P-384 and SHA-384, which the requester must offer. -/
def execSpdmNegotiateAlgorithms (p : HostPort) (offered : Bool) (s : State) : Outcome State Fault Refusal :=
  .next (s.spdmRun p (fun x => decide (x = .capabilities) || decide (x = .negotiated)) fun s =>
    if offered then (s.spdmTo p .negotiated).respond p 0x63 (toLE 4 4 ++ toLE 4 0x80 ++ toLE 4 2)
    else s.spdmError p 1)

/-- The algorithms have been settled. -/
def negotiated (x : Spdm) : Bool := decide (x = .negotiated)

/-- A request that needs the secure element (R548): the element answers, or it fails and the fault is logged. -/
def State.withElement (p : HostPort) (answers : Bool) (f : State → State) (s : State) : State :=
  if answers && !s.ref.seFault then f s
  else (if s.ref.seFault then s else s.seFail).spdmError p 5

/-- The digest of slot 0's chain. -/
def chainDigest : List Byte := sha384 Config.certChain

/-- GET_DIGESTS: slot 0 alone. -/
def execSpdmGetDigests (p : HostPort) (answers : Bool) (s : State) : Outcome State Fault Refusal :=
  .next (s.spdmRun p negotiated fun s => s.withElement p answers fun s => s.respond p 0x01 (1 :: chainDigest))

/-- The bytes of the chain that a CERTIFICATE response can carry: a DOE data object holds at most 4 KiB (R128), of which
its header and the response's fields before the portion take 16. -/
def certRoom : Nat := 4096 - 16

/-- GET_CERTIFICATE: a portion of slot 0's chain with what remains of it. -/
def execSpdmGetCertificate (p : HostPort) (slot : Fin 8) (offset length : BitVec 16) (answers : Bool) (s : State) :
    Outcome State Fault Refusal :=
  .next (s.spdmRun p negotiated fun s =>
    if slot.val ≠ 0 ∨ Config.certChain.length ≤ offset.toNat then s.spdmError p 1
    else s.withElement p answers fun s =>
      let part := (Config.certChain.drop offset.toNat).take (satTo certRoom length.toNat)
      s.respond p 0x02 (toLE 2 part.length ++ toLE 2 (Config.certChain.length - offset.toNat - part.length) ++ part))

/-- A fresh nonce (32 bytes), and the state that has used it. -/
def State.nonce (s : State) : List Byte × State := (cut (Config.nonce s.serial) 0 32, { s with serial := s.serial + 1 })

/-- CHALLENGE: the chain's digest, a nonce, and the signature over them and the requester's nonce. -/
def execSpdmChallenge (p : HostPort) (slot : Fin 8) (nonce : List Byte) (answers : Bool) (s : State) :
    Outcome State Fault Refusal :=
  .next (s.spdmRun p negotiated fun s =>
    if slot.val ≠ 0 then s.spdmError p 1
    else s.withElement p answers fun s =>
      let (mine, s1) := s.nonce
      let b := chainDigest ++ mine
      s1.respond p 0x03 (b ++ Config.sign (nonce ++ b)))

/-- A measurement block (R549), none for an index that has none: block 1 is absent until FW_VERIFY has passed (R129). -/
def State.measBlock (s : State) (i : Nat) : Option (List Byte) :=
  let digest := s.ref.meas.get [] i
  match i with
  | 1 => if digest.isEmpty then none else some digest
  | 2 | 3 | 4 | 5 => some (cut digest 0 48)
  | 6 => some (match s.kennel.keyHash with | some h => cut h 0 48 | none => cut [] 0 48)
  | 7 => some (wordBytes ((List.range 8).map fun k => s.ref.wearSum.getD k 0))
  | 8 => some (toLE 4 0x51202100)
  | _ => none

/-- The type of a measurement block. -/
def measType (i : Nat) : Nat := if i ≤ 5 then 1 else if i = 6 then 0x83 else 0x82

/-- A block with its index, type and size before it. -/
def measEntry (i : Nat) (b : List Byte) : List Byte :=
  [BitVec.ofNat 8 i, 1] ++ toLE 2 (b.length + 3) ++ [BitVec.ofNat 8 (measType i)] ++ toLE 2 b.length ++ b

/-- The blocks present, in order. -/
def State.measAll (s : State) : List (List Byte) :=
  [1, 2, 3, 4, 5, 6, 7, 8].filterMap fun i => (s.measBlock i).map (measEntry i)

/-- GET_MEASUREMENTS: operation 0 asks for the count, 0xFF for every block, any other for that block; signed or not. -/
def execSpdmGetMeasurements (p : HostPort) (op : Byte) (sign : Bool) (nonce : List Byte) (answers : Bool) (s : State) :
    Outcome State Fault Refusal :=
  .next (s.spdmRun p negotiated fun s =>
    let blocks := if op.toNat = 0 then some [] else if op.toNat = 0xFF then some s.measAll
      else (s.measBlock op.toNat).map fun b => [measEntry op.toNat b]
    match blocks with
    | none => s.spdmError p 1
    | some l =>
      let n := if op.toNat = 0 then s.measAll.length else l.length
      let (mine, s1) := s.nonce
      let b := [BitVec.ofNat 8 n] ++ toLE 3 l.flatten.length ++ l.flatten ++ mine
      if sign then s1.withElement p answers fun t => t.respond p 0x60 (b ++ Config.sign (nonce ++ b))
      else s1.respond p 0x60 b)

/-- An SPDM request that the device does not support (R128), by its request code: KEY_EXCHANGE, FINISH, PSK_EXCHANGE,
PSK_FINISH, HEARTBEAT, KEY_UPDATE, END_SESSION, GET_CSR, SET_CERTIFICATE, CHUNK_SEND, CHUNK_GET, and every other code that
no coverage row names, are answered with UnsupportedRequest. -/
def spdmKnown (code : Nat) : Bool := [0x84, 0xE1, 0xE3, 0x81, 0x82, 0x83, 0xE0].contains code

/-- The answer to a request outside the coverage of R128: an ERROR that names the request. -/
def State.spdmUnsupported (p : HostPort) (code : Nat) (s : State) : State :=
  if s.spdmLive p && !spdmKnown code then s.respond p 0x7F [7, BitVec.ofNat 8 code] else s

/-- A DOE Discovery response (R128): of index 0 DOE Discovery itself and of index 1 CMA/SPDM, each with the PCI-SIG's
vendor ID, the object type and the next index; the response's first number is 0 to tell it from an SPDM code. -/
def State.doeDiscovery (p : HostPort) (index : Nat) (s : State) : State :=
  if s.spdmLive p then
    (if index = 0 then s.respond p 0 [1, 0, 0, 1] else if index = 1 then s.respond p 0 [1, 0, 1, 0]
     else s.respond p 0 [0xFF, 0xFF, 0, 0])
  else s

/-- A DOE Abort resets the port's mailbox (R128): the response it holds is dropped. -/
def execDoeAbort (p : HostPort) (s : State) : Outcome State Fault Refusal :=
  .next (if s.spdmLive p then s.onHalf p fun h => { h with doe := none } else s)

end Sys2Proof.Machine
end

