-- ==== Sys2Proof/Machine/Dispatch.lean ====
section
/-! DEFINITION. The dispatch: one arm for each constructor, each a call of its meaning. -/
namespace Sys2Proof.Machine

/-- What a command does to the device, its queue apart. -/
def exec (i : Instr) (s : State) : Host.Outcome State Fault Refusal :=
  match i with
  | .resetNFall ns acts => Sys2Proof.Machine.execResetNFall ns acts s
  | .resetNRise hostPref strap => Sys2Proof.Machine.execResetNRise hostPref strap s
  | .pwrfailNFall ns acts mv => Sys2Proof.Machine.execPwrfailNFall ns acts mv s
  | .pwrfailNRise => Sys2Proof.Machine.execPwrfailNRise s
  | .hostSelNFall ns acts => Sys2Proof.Machine.execHostSelNFall ns acts s
  | .hostSelNRise => Sys2Proof.Machine.execHostSelNRise s
  | .perstFall p ns acts => Sys2Proof.Machine.execPerstFall p ns acts s
  | .perstRise p => Sys2Proof.Machine.execPerstRise p s
  | .pcieLinkDown p => Sys2Proof.Machine.execPcieLinkDown p s
  | .pcieLinkUp p rate width => Sys2Proof.Machine.execPcieLinkUp p rate width s
  | .busMasterEnableFall p => Sys2Proof.Machine.execBusMasterEnableFall p s
  | .busMasterEnableRise p => Sys2Proof.Machine.execBusMasterEnableRise p s
  | .junctionComparatorTrip sensor => Sys2Proof.Machine.execJunctionComparatorTrip sensor s
  | .timeInEdge pin rising => Sys2Proof.Machine.execTimeInEdge pin rising s
  | .vholdCollapse => Sys2Proof.Machine.execVholdCollapse s
  | .clockJudgeWindow clock count pick => Sys2Proof.Machine.execClockJudgeWindow clock count pick s
  | .bootClock => Sys2Proof.Machine.execBootClock s
  | .oscillatorTrim err usable => Sys2Proof.Machine.execOscillatorTrim err usable s
  | .trimSrcLost => Sys2Proof.Machine.execTrimSrcLost s
  | .pipelineClockStep => Sys2Proof.Machine.execPipelineClockStep s
  | .deviceResetHoldEnd => Sys2Proof.Machine.execDeviceResetHoldEnd s
  | .bootSelftestDone memA katA memB katB => Sys2Proof.Machine.execBootSelftestDone memA katA memB katB s
  | .fwFetchStart => Sys2Proof.Machine.execFwFetchStart s
  | .fwFetchDone ok => Sys2Proof.Machine.execFwFetchDone ok s
  | .fwVerifyDone good image version => Sys2Proof.Machine.execFwVerifyDone good image version s
  | .fwFetchTimeout => Sys2Proof.Machine.execFwFetchTimeout s
  | .roleProofDone aOk bOk => Sys2Proof.Machine.execRoleProofDone aOk bOk s
  | .kennelReadbackDone errs element => Sys2Proof.Machine.execKennelReadbackDone errs element s
  | .bootChoiceTimer => Sys2Proof.Machine.execBootChoiceTimer s
  | .glModeReq p value => Sys2Proof.Machine.execGlModeReq p value s
  | .glModeReqBoot p value => Sys2Proof.Machine.execGlModeReqBoot p value s
  | .glReset p value => Sys2Proof.Machine.execGlReset p value s
  | .glFwLen p value => Sys2Proof.Machine.execGlFwLen p value s
  | .hiIfrstStart p half value => Sys2Proof.Machine.execHiIfrstStart p half value s
  | .hiIfrstDone p => Sys2Proof.Machine.execHiIfrstDone p s
  | .hiHandover p half value => Sys2Proof.Machine.execHiHandover p half value s
  | .heartbeat p => Sys2Proof.Machine.execHeartbeat p s
  | .heartbeatTimeout => Sys2Proof.Machine.execHeartbeatTimeout s
  | .revertHoldExpiry => Sys2Proof.Machine.execRevertHoldExpiry s
  | .hiRingEnable p half n => Sys2Proof.Machine.execHiRingEnable p half n s
  | .hiRingDisable p half n => Sys2Proof.Machine.execHiRingDisable p half n s
  | .ringWorkDrained p n => Sys2Proof.Machine.execRingWorkDrained p n s
  | .hiRingStatClear p half n value => Sys2Proof.Machine.execHiRingStatClear p half n value s
  | .prodDoorbell p n value => Sys2Proof.Machine.execProdDoorbell p n value s
  | .consDoorbell p n value => Sys2Proof.Machine.execConsDoorbell p n value s
  | .commandFetch p n desc => Sys2Proof.Machine.execCommandFetch p n desc s
  | .dmaErrorCompletion p n => Sys2Proof.Machine.execDmaErrorCompletion p n s
  | .vectorTimerExpiry p v => Sys2Proof.Machine.execVectorTimerExpiry p v s
  | .nop p n => Sys2Proof.Machine.execNop p n s
  | .fence p n => Sys2Proof.Machine.execFence p n s
  | .notSupported p n => Sys2Proof.Machine.execNotSupported p n s
  | .epInsert p n => Sys2Proof.Machine.execEpInsert p n s
  | .epDelete p n => Sys2Proof.Machine.execEpDelete p n s
  | .epRead p n => Sys2Proof.Machine.execEpRead p n s
  | .epSegRehash p n => Sys2Proof.Machine.execEpSegRehash p n s
  | .epSegRehashAbort p n => Sys2Proof.Machine.execEpSegRehashAbort p n s
  | .epSegRehashResume p n => Sys2Proof.Machine.execEpSegRehashResume p n s
  | .epSegRehashRevert p n => Sys2Proof.Machine.execEpSegRehashRevert p n s
  | .epSegSwap p n => Sys2Proof.Machine.execEpSegSwap p n s
  | .tableEngineStep errs => Sys2Proof.Machine.execTableEngineStep errs s
  | .directWrite p n => Sys2Proof.Machine.execDirectWrite p n s
  | .directRead p n => Sys2Proof.Machine.execDirectRead p n s
  | .lpmAdd p n picks => Sys2Proof.Machine.execLpmAdd p n picks s
  | .lpmDelete p n => Sys2Proof.Machine.execLpmDelete p n s
  | .lpmRead p n => Sys2Proof.Machine.execLpmRead p n s
  | .aclWrite p n data => Sys2Proof.Machine.execAclWrite p n data s
  | .aclWriteMove p n => Sys2Proof.Machine.execAclWriteMove p n s
  | .aclWriteMaskOnly p n => Sys2Proof.Machine.execAclWriteMaskOnly p n s
  | .aclInvalidate p n => Sys2Proof.Machine.execAclInvalidate p n s
  | .aclRead p n => Sys2Proof.Machine.execAclRead p n s
  | .aclProbe p n key => Sys2Proof.Machine.execAclProbe p n key s
  | .treeLoad p n image => Sys2Proof.Machine.execTreeLoad p n image s
  | .treeLoadDone g => Sys2Proof.Machine.execTreeLoadDone g s
  | .csLoad p n image => Sys2Proof.Machine.execCsLoad p n image s
  | .csLoadProvision p n image => Sys2Proof.Machine.execCsLoadProvision p n image s
  | .csLoadDone g good => Sys2Proof.Machine.execCsLoadDone g good s
  | .genSwap p n => Sys2Proof.Machine.execGenSwap p n s
  | .genSwapInstant => Sys2Proof.Machine.execGenSwapInstant s
  | .genDrained => Sys2Proof.Machine.execGenDrained s
  | .l2Write p n => Sys2Proof.Machine.execL2Write p n s
  | .l2Delete p n => Sys2Proof.Machine.execL2Delete p n s
  | .l2Flush p n => Sys2Proof.Machine.execL2Flush p n s
  | .l2Read p n => Sys2Proof.Machine.execL2Read p n s
  | .ecmpGroupWrite p n => Sys2Proof.Machine.execEcmpGroupWrite p n s
  | .ecmpMemberWrite p n words => Sys2Proof.Machine.execEcmpMemberWrite p n words s
  | .calLoad p n data => Sys2Proof.Machine.execCalLoad p n data s
  | .calSwap p n => Sys2Proof.Machine.execCalSwap p n s
  | .calSwapInstant port => Sys2Proof.Machine.execCalSwapInstant port s
  | .fretBoundary port => Sys2Proof.Machine.execFretBoundary port s
  | .policerWrite p n => Sys2Proof.Machine.execPolicerWrite p n s
  | .policerRead p n => Sys2Proof.Machine.execPolicerRead p n s
  | .shaperWrite p n => Sys2Proof.Machine.execShaperWrite p n s
  | .shaperRead p n => Sys2Proof.Machine.execShaperRead p n s
  | .queueCfg p n => Sys2Proof.Machine.execQueueCfg p n s
  | .ctrSnapshot p n => Sys2Proof.Machine.execCtrSnapshot p n s
  | .ctrSnapshotCancel p n => Sys2Proof.Machine.execCtrSnapshotCancel p n s
  | .ctrSnapshotUnfreeze p n => Sys2Proof.Machine.execCtrSnapshotUnfreeze p n s
  | .snapshotInstant => Sys2Proof.Machine.execSnapshotInstant s
  | .ctrRead p n => Sys2Proof.Machine.execCtrRead p n s
  | .pwrStateParkSlice p n => Sys2Proof.Machine.execPwrStateParkSlice p n s
  | .pwrStateParkLanes p n => Sys2Proof.Machine.execPwrStateParkLanes p n s
  | .pwrStateUnpark p n => Sys2Proof.Machine.execPwrStateUnpark p n s
  | .unparkRampEnd => Sys2Proof.Machine.execUnparkRampEnd s
  | .phaseHint p n => Sys2Proof.Machine.execPhaseHint p n s
  | .phaseHintCancelAll p n => Sys2Proof.Machine.execPhaseHintCancelAll p n s
  | .hintStart => Sys2Proof.Machine.execHintStart s
  | .hintEnd slot => Sys2Proof.Machine.execHintEnd slot s
  | .capSet p n => Sys2Proof.Machine.execCapSet p n s
  | .bpmAlloc p n picks failed => Sys2Proof.Machine.execBpmAlloc p n picks failed s
  | .bpmFree p n handles => Sys2Proof.Machine.execBpmFree p n handles s
  | .bpmFreeAllHost p n => Sys2Proof.Machine.execBpmFreeAllHost p n s
  | .modeRequest p n => Sys2Proof.Machine.execModeRequest p n s
  | .modeRequestReset p n => Sys2Proof.Machine.execModeRequestReset p n s
  | .drainIngressStopped => Sys2Proof.Machine.execDrainIngressStopped s
  | .drainBufferEmpty => Sys2Proof.Machine.execDrainBufferEmpty s
  | .drainFlushTimeout pick => Sys2Proof.Machine.execDrainFlushTimeout pick s
  | .pipelinesGated => Sys2Proof.Machine.execPipelinesGated s
  | .saveWriteEnd => Sys2Proof.Machine.execSaveWriteEnd s
  | .faultInject p n => Sys2Proof.Machine.execFaultInject p n s
  | .faultInjectCancel p n => Sys2Proof.Machine.execFaultInjectCancel p n s
  | .spdmGetVersion p => Sys2Proof.Machine.execSpdmGetVersion p s
  | .spdmGetCapabilities p => Sys2Proof.Machine.execSpdmGetCapabilities p s
  | .spdmNegotiateAlgorithms p offered => Sys2Proof.Machine.execSpdmNegotiateAlgorithms p offered s
  | .spdmGetDigests p answers => Sys2Proof.Machine.execSpdmGetDigests p answers s
  | .spdmGetCertificate p slot offset length answers => Sys2Proof.Machine.execSpdmGetCertificate p slot offset length answers s
  | .spdmChallenge p slot nonce answers => Sys2Proof.Machine.execSpdmChallenge p slot nonce answers s
  | .spdmGetMeasurements p op sign nonce answers => Sys2Proof.Machine.execSpdmGetMeasurements p op sign nonce answers s
  | .doeAbort p => Sys2Proof.Machine.execDoeAbort p s
  | .ptModeWrite p port value pick => Sys2Proof.Machine.execPtModeWrite p port value pick s
  | .adminUpSet p port value pick => Sys2Proof.Machine.execAdminUpSet p port value pick s
  | .adminUpClear p port value pick => Sys2Proof.Machine.execAdminUpClear p port value pick s
  | .retrain p port value pick => Sys2Proof.Machine.execRetrain p port value pick s
  | .loopbackSelect by' port loopback pick => Sys2Proof.Machine.execLoopbackSelect by' port loopback pick s
  | .ptTestWrite by' port value => Sys2Proof.Machine.execPtTestWrite by' port value s
  | .hpLaneTxeqWrite p lane value => Sys2Proof.Machine.execHpLaneTxeqWrite p lane value s
  | .detectSignal x => Sys2Proof.Machine.execDetectSignal x s
  | .anComplete port => Sys2Proof.Machine.execAnComplete port s
  | .lxTrainingFrame lane inverted frame => Sys2Proof.Machine.execLxTrainingFrame lane inverted frame s
  | .trainingComplete port => Sys2Proof.Machine.execTrainingComplete port s
  | .alignComplete port rxLat txLat reversed inverted margins => Sys2Proof.Machine.execAlignComplete port rxLat txLat reversed inverted margins s
  | .portStateLimit port => Sys2Proof.Machine.execPortStateLimit port s
  | .laneLoss lane what pick => Sys2Proof.Machine.execLaneLoss lane what pick s
  | .fecWindow port total corr uncorr hist margins => Sys2Proof.Machine.execFecWindow port total corr uncorr hist margins s
  | .d2dWireError harp toHarp wire lane pick => Sys2Proof.Machine.execD2dWireError harp toHarp wire lane pick s
  | .preemptVerify port verify => Sys2Proof.Machine.execPreemptVerify port verify s
  | .frameReceive port bytes rx => Sys2Proof.Machine.execFrameReceive port bytes rx s
  | .macControlFrame port bytes errored => Sys2Proof.Machine.execMacControlFrame port bytes errored s
  | .pauseExpiry port tc => Sys2Proof.Machine.execPauseExpiry port tc s
  | .frameAdmission slice slot pick => Sys2Proof.Machine.execFrameAdmission slice slot pick s
  | .headDispatch slice => Sys2Proof.Machine.execHeadDispatch slice s
  | .parseStop slice e parity errs => Sys2Proof.Machine.execParseStop slice e parity errs s
  | .extentChoice port pos lost => Sys2Proof.Machine.execExtentChoice port pos lost s
  | .lookupComplete slice errs rows pick => Sys2Proof.Machine.execLookupComplete slice errs rows pick s
  | .learnRecord slice origin => Sys2Proof.Machine.execLearnRecord slice origin s
  | .enqueue port inject rand ups pick => Sys2Proof.Machine.execEnqueue port inject rand ups pick s
  | .captureResume session => Sys2Proof.Machine.execCaptureResume session s
  | .pfcRefresh port => Sys2Proof.Machine.execPfcRefresh port s
  | .frerResetTimer stream => Sys2Proof.Machine.execFrerResetTimer stream s
  | .schedulerChoice port pick => Sys2Proof.Machine.execSchedulerChoice port pick s
  | .frameEgress port ups pos lost => Sys2Proof.Machine.execFrameEgress port ups pos lost s
  | .recircTimeout port pick => Sys2Proof.Machine.execRecircTimeout port pick s
  | .tc7Stale port pick => Sys2Proof.Machine.execTc7Stale port pick s
  | .shaperTokenUpdate => Sys2Proof.Machine.execShaperTokenUpdate s
  | .policerBucketFill => Sys2Proof.Machine.execPolicerBucketFill s
  | .histogramSample => Sys2Proof.Machine.execHistogramSample s
  | .transmitDescriptor desc frame pick => Sys2Proof.Machine.execTransmitDescriptor desc frame pick s
  | .cpuQueueService desc ups pick => Sys2Proof.Machine.execCpuQueueService desc ups pick s
  | .canaryTest slice => Sys2Proof.Machine.execCanaryTest slice s
  | .canaryTestEnd slice pass => Sys2Proof.Machine.execCanaryTestEnd slice pass s
  | .csScrub errs => Sys2Proof.Machine.execCsScrub errs s
  | .csEccRepair slice loc => Sys2Proof.Machine.execCsEccRepair slice loc s
  | .treeScrub errs => Sys2Proof.Machine.execTreeScrub errs s
  | .treeEccRepair slice loc => Sys2Proof.Machine.execTreeEccRepair slice loc s
  | .tcamShadowScrub slice rows => Sys2Proof.Machine.execTcamShadowScrub slice rows s
  | .tcamRowSpare slice loc => Sys2Proof.Machine.execTcamRowSpare slice loc s
  | .epScrub errs => Sys2Proof.Machine.execEpScrub errs s
  | .l2AgeTick slice => Sys2Proof.Machine.execL2AgeTick slice s
  | .flapHoldExpiry slice => Sys2Proof.Machine.execFlapHoldExpiry slice s
  | .l2MoveSecond => Sys2Proof.Machine.execL2MoveSecond s
  | .bpmCommit p value => Sys2Proof.Machine.execBpmCommit p value s
  | .bpmCommitDone => Sys2Proof.Machine.execBpmCommitDone s
  | .sheepdogSweep ups => Sys2Proof.Machine.execSheepdogSweep ups s
  | .sheepdogSweepEnd => Sys2Proof.Machine.execSheepdogSweepEnd s
  | .timeSetGo p value => Sys2Proof.Machine.execTimeSetGo p value s
  | .timeAdjGo p value => Sys2Proof.Machine.execTimeAdjGo p value s
  | .slewEnd => Sys2Proof.Machine.execSlewEnd s
  | .timeFreqWrite p value => Sys2Proof.Machine.execTimeFreqWrite p value s
  | .teTrack m => Sys2Proof.Machine.execTeTrack m s
  | .teCounterFault e => Sys2Proof.Machine.execTeCounterFault e s
  | .teRevert => Sys2Proof.Machine.execTeRevert s
  | .timeOutEnable p pin value => Sys2Proof.Machine.execTimeOutEnable p pin value s
  | .pulseEdge pin => Sys2Proof.Machine.execPulseEdge pin s
  | .calBaseSecWrite p part value => Sys2Proof.Machine.execCalBaseSecWrite p part value s
  | .calBaseNsWrite p value => Sys2Proof.Machine.execCalBaseNsWrite p value s
  | .ptCalCfgWrite p port value => Sys2Proof.Machine.execPtCalCfgWrite p port value s
  | .calFrerCtlWrite p stream value => Sys2Proof.Machine.execCalFrerCtlWrite p stream value s
  | .powerLoopTick e saving stay => Sys2Proof.Machine.execPowerLoopTick e saving stay s
  | .throttleOff => Sys2Proof.Machine.execThrottleOff s
  | .capUnmet => Sys2Proof.Machine.execCapUnmet s
  | .capMet => Sys2Proof.Machine.execCapMet s
  | .pmbusCalibration answers blame => Sys2Proof.Machine.execPmbusCalibration answers blame s
  | .calResume p value => Sys2Proof.Machine.execCalResume p value s
  | .temperatureRead hot sensor => Sys2Proof.Machine.execTemperatureRead hot sensor s
  | .thermalLimitTick => Sys2Proof.Machine.execThermalLimitTick s
  | .vholdReading mv => Sys2Proof.Machine.execVholdReading mv s
  | .pwrSaveDiscard p value => Sys2Proof.Machine.execPwrSaveDiscard p value s
  | .clkPipeWrite p value => Sys2Proof.Machine.execClkPipeWrite p value s
  | .faultReport source code detail => Sys2Proof.Machine.execFaultReport source code detail s
  | .faultRecord => Sys2Proof.Machine.execFaultRecord s
  | .collectorFault part corrected => Sys2Proof.Machine.execCollectorFault part corrected s
  | .fltFirstClear p value => Sys2Proof.Machine.execFltFirstClear p value s
  | .fltLostClear p value => Sys2Proof.Machine.execFltLostClear p value s
  | .clrCounts p value => Sys2Proof.Machine.execClrCounts p value s
  | .keelVote id upsets => Sys2Proof.Machine.execKeelVote id upsets s
  | .collieHeartbeat e memFail => Sys2Proof.Machine.execCollieHeartbeat e memFail s
  | .collieHeartbeatTimeout e => Sys2Proof.Machine.execCollieHeartbeatTimeout e s
  | .collieRestored e loaded ok => Sys2Proof.Machine.execCollieRestored e loaded ok s
  | .collieKatCheck ok => Sys2Proof.Machine.execCollieKatCheck ok s
  | .collieMemorySweep ok => Sys2Proof.Machine.execCollieMemorySweep ok s
  | .mirrorTransfer applied => Sys2Proof.Machine.execMirrorTransfer applied s
  | .mirrorOkLapse => Sys2Proof.Machine.execMirrorOkLapse s
  | .collieRevert => Sys2Proof.Machine.execCollieRevert s
  | .refRoleCmd p value => Sys2Proof.Machine.execRefRoleCmd p value s
  | .refFwuCtl p value => Sys2Proof.Machine.execRefFwuCtl p value s
  | .fwuVerifyDone fetched good image version => Sys2Proof.Machine.execFwuVerifyDone fetched good image version s
  | .fwuReloadDone ok => Sys2Proof.Machine.execFwuReloadDone ok s
  | .refHostPrefWrite p value => Sys2Proof.Machine.execRefHostPrefWrite p value s
  | .healthPeriodic => Sys2Proof.Machine.execHealthPeriodic s
  | .wearWritePeriod => Sys2Proof.Machine.execWearWritePeriod s
  | .wearWriteEnd ok => Sys2Proof.Machine.execWearWriteEnd ok s
  | .pmcSampleTimeout slice c pick => Sys2Proof.Machine.execPmcSampleTimeout slice c pick s
  | .perfUserEnWrite p value => Sys2Proof.Machine.execPerfUserEnWrite p value s
  | .tblEpProfWrite p high t value => Sys2Proof.Machine.execTblEpProfWrite p high t value s
  | .registerWrite p offset wide value => Sys2Proof.Machine.execRegisterWrite p offset wide value s
  | .lossOfPower => Sys2Proof.Machine.execLossOfPower s
  | .calendarBasePassed => Sys2Proof.Machine.execCalendarBasePassed s
  | .prbsLock lane locked errors => Sys2Proof.Machine.execPrbsLock lane locked errors s
  | .rsFault port localFault remoteFault => Sys2Proof.Machine.execRsFault port localFault remoteFault s
  | .d3hot p enter => Sys2Proof.Machine.execD3hot p enter s
  | .tapInstruction reset code => Sys2Proof.Machine.execTapInstruction reset code s

end Sys2Proof.Machine
end

