-- ==== Sys2Proof/Safety.lean ====
section
/-! DEFINITION. The terms the claims are stated in: when a ring's oldest command runs, what a move of the active role
leaves, the forms that every step keeps, the table of R38, and the parts and registers that a command may change. -/
namespace Sys2Proof.Safety
open Sys2Proof.Machine

/-- Command `c` is its ring's oldest and may start, carries the opcode, is served in the current mode, and has no
reserved bit of its layout set (R48, R93, R98): what every command of a ring needs before its own conditions. -/
def runs (s : State) (p : HostPort) (n op : Nat) (fs : List ArgField) (c : Cmd) : Bool :=
  decide (s.headCmd p n = some c) && decide (c.opcode = op) && s.startable c && servedIn op s.mode && c.reservedOk fs

/-- The stored registers and the counters are in canonical form, so that equal contents are equal data. -/
def Canonical (s : State) : Prop := s.regs.wf regReset = true ∧ s.cnts.wf (fun _ => 0) = true

/-- The active role has moved to the other port for a cause: both halves show the cause and one change more (R121). -/
def moved (cause : Nat) (s t : State) : Prop :=
  t.active = s.active.peer ∧ ∀ p, (t.half p).lastCause = cause ∧ (t.half p).changes = satInc 16 (s.half p).changes

/-! ## Modes -/

/-- The transitions of the table of R38, and staying. -/
def modeMay (a b : Mode) : Bool :=
  decide (a = b) || decide (b = .reset) || modeGo a b ||
    [(Mode.reset, Mode.boot), (.boot, .configure), (.configure, .save), (.forward, .save), (.drain, .save), (.park, .save),
     (.boot, .safe), (.configure, .safe), (.forward, .safe), (.drain, .safe), (.park, .safe)].contains (a, b)

/-- A request in progress asks for a transition of R38 from the current mode, and while RESET_N is low the device is in
RESET with its host ports not live. -/
def Lawful (s : State) : Prop :=
  (∀ r, s.md.req = some r → modeGo s.mode r.target = true) ∧
    (s.pins.resetN = false → s.mode = .reset ∧ s.md.hostLive = false)

/-- The command is a vote of a keel register, which can give the register another value than the last one voted. -/
def isVote : Instr → Bool
  | .keelVote .. => true
  | _ => false

/-! ## What a command may change -/

/-- The parts of the state. -/
inductive Part
  /-- The queue of waiting commands. -/
  | pending
  /-- The instant. -/
  | now
  /-- The serial numbers given. -/
  | serial
  /-- What the device has sent. -/
  | out
  /-- The pins. -/
  | pins
  /-- Boot and mode requests. -/
  | md
  /-- The two halves of the host interface. -/
  | host
  /-- Fetched commands. -/
  | cmds
  /-- The fault collector and keel registers. -/
  | flt
  /-- Clocks. -/
  | clk
  /-- The referee and the Collies. -/
  | ref
  /-- The kennel die. -/
  | kennel
  /-- Time engines, pins of time, calendars. -/
  | time
  /-- Tiles and extents. -/
  | buf
  /-- Ports, lanes and wires. -/
  | port
  /-- The slices. -/
  | slices
  /-- The endpoint table and the table engine. -/
  | tab
  /-- Generations. -/
  | gen
  /-- Packets, queues and mirrors. -/
  | core
  /-- Deficits, shapers, policers, histograms. -/
  | sch
  /-- Snapshots and samples. -/
  | tel
  /-- The power loop. -/
  | pwr
  /-- Stored registers. -/
  | regs
  /-- Counters. -/
  | cnts
  /-- Keel register 0, the mode. -/
  | keel0
  /-- Keel register 1, the roles. -/
  | keel1
  /-- The provisioned customer-key hash. -/
  | keyHash
  /-- The pipeline clock. -/
  | pipeCur
  deriving DecidableEq, Repr

/-- Two states have the same contents in a part. -/
def Part.same (p : Part) (s t : State) : Prop :=
  match p with
  | .pending => t.pending = s.pending
  | .now => t.now = s.now
  | .serial => t.serial = s.serial
  | .out => t.out = s.out
  | .pins => t.pins = s.pins
  | .md => t.md = s.md
  | .host => t.host = s.host
  | .cmds => t.cmds = s.cmds
  | .flt => t.flt = s.flt
  | .clk => t.clk = s.clk
  | .ref => t.ref = s.ref
  | .kennel => t.kennel = s.kennel
  | .time => t.time = s.time
  | .buf => t.buf = s.buf
  | .port => t.port = s.port
  | .slices => t.slices = s.slices
  | .tab => t.tab = s.tab
  | .gen => t.gen = s.gen
  | .core => t.core = s.core
  | .sch => t.sch = s.sch
  | .tel => t.tel = s.tel
  | .pwr => t.pwr = s.pwr
  | .regs => t.regs = s.regs
  | .cnts => t.cnts = s.cnts
  | .keel0 => t.flt.keel0 = s.flt.keel0
  | .keel1 => t.flt.keel1 = s.flt.keel1
  | .keyHash => t.kennel.keyHash = s.kennel.keyHash
  | .pipeCur => t.clk.pipeCur = s.clk.pipeCur

/-- The parts that a command may change; it leaves every other as it is. -/
def parts : Instr → List Part
  | .resetNFall .. | .lossOfPower .. =>
    [.pins, .md, .host, .cmds, .flt, .clk, .ref, .time, .buf, .port, .slices, .tab, .gen, .core, .sch,
     .tel, .pwr, .regs, .cnts, .keel0, .keel1, .pipeCur]
  | .resetNRise .. =>
    [.pins, .md, .flt, .keel0, .keel1]
  | .pwrfailNFall .. =>
    [.out, .pins, .md, .host, .cmds, .flt, .ref, .kennel, .time, .tab, .gen, .core, .tel, .pwr, .keel0,
     .keel1]
  | .pwrfailNRise .. | .tapInstruction .. =>
    [.pins]
  | .hostSelNFall .. =>
    [.out, .pins, .host, .flt, .core, .keel1]
  | .hostSelNRise .. =>
    [.pins, .host]
  | .perstFall .. =>
    [.out, .host, .cmds, .flt, .tab, .gen, .core, .regs, .keel1]
  | .perstRise .. | .busMasterEnableFall .. | .hiIfrstDone .. | .ringWorkDrained .. | .hiRingStatClear ..
  | .spdmGetVersion .. | .spdmGetCapabilities .. | .spdmNegotiateAlgorithms .. | .doeAbort .. =>
    [.host]
  | .pcieLinkDown .. | .pcieLinkUp .. | .busMasterEnableRise .. | .hiHandover .. | .heartbeat ..
  | .heartbeatTimeout .. | .revertHoldExpiry .. =>
    [.out, .host, .flt, .core, .keel1]
  | .junctionComparatorTrip .. | .bootClock .. | .faultRecord .. | .collectorFault .. =>
    [.out, .md, .host, .cmds, .flt, .time, .port, .tab, .gen, .core, .tel, .pwr, .cnts, .keel0, .keel1]
  | .timeInEdge .. =>
    [.out, .host, .flt, .clk, .time, .tel]
  | .vholdCollapse .. | .calResume .. =>
    [.pwr]
  | .clockJudgeWindow .. =>
    [.out, .md, .host, .flt, .clk, .ref, .time, .buf, .port, .gen, .core, .sch, .tel, .pwr, .cnts, .keel1]
  | .oscillatorTrim .. =>
    [.md, .flt, .clk, .ref, .keel1]
  | .trimSrcLost .. =>
    [.flt, .clk]
  | .pipelineClockStep .. | .powerLoopTick .. =>
    [.out, .host, .cmds, .clk, .pwr, .pipeCur]
  | .deviceResetHoldEnd .. =>
    [.md, .flt, .keel0, .keel1]
  | .bootSelftestDone .. =>
    [.out, .md, .host, .flt, .ref]
  | .fwFetchStart .. | .fwFetchDone .. | .fwFetchTimeout .. | .glModeReqBoot .. =>
    [.md, .flt, .ref, .time, .keel0, .keel1]
  | .fwVerifyDone .. =>
    [.out, .md, .host, .flt, .ref, .time, .keel0, .keel1]
  | .roleProofDone .. =>
    [.out, .md, .host, .flt, .ref, .keel1]
  | .kennelReadbackDone .. =>
    [.md, .flt, .ref, .kennel, .buf, .port, .slices, .tab, .pwr]
  | .bootChoiceTimer .. =>
    [.host, .flt, .keel1]
  | .glModeReq .. =>
    [.out, .md, .host, .flt, .ref, .time, .buf, .port, .gen, .core, .sch, .tel, .cnts, .keel0, .keel1]
  | .glReset .. =>
    [.md, .host, .cmds, .flt, .clk, .ref, .time, .buf, .port, .slices, .tab, .gen, .core, .sch, .tel,
     .pwr, .regs, .cnts, .keel0, .keel1, .pipeCur]
  | .glFwLen .. =>
    [.md, .regs]
  | .hiIfrstStart .. =>
    [.out, .host, .cmds, .tab, .gen, .regs]
  | .hiRingEnable .. | .hiRingDisable .. =>
    [.host, .core]
  | .prodDoorbell .. | .dmaErrorCompletion .. =>
    [.host, .flt]
  | .consDoorbell .. =>
    [.out, .host, .flt, .core]
  | .commandFetch .. =>
    [.serial, .host, .cmds]
  | .vectorTimerExpiry .. =>
    [.out, .host]
  | .nop .. | .fence .. | .notSupported .. | .lpmRead .. | .aclRead .. | .aclProbe .. | .l2Read ..
  | .policerRead .. | .ctrRead .. =>
    [.out, .host, .cmds]
  | .epInsert .. | .epDelete .. | .epRead .. =>
    [.out, .host, .cmds, .flt, .tab, .cnts]
  | .epSegRehash .. | .epSegRehashAbort .. | .epSegRehashResume .. | .epSegRehashRevert .. | .directWrite ..
  | .l2Flush .. =>
    [.out, .host, .cmds, .tab]
  | .epSegSwap .. =>
    [.out, .host, .cmds, .flt, .ref, .tab, .regs]
  | .tableEngineStep .. =>
    [.out, .host, .cmds, .flt, .slices, .tab, .cnts]
  | .directRead .. =>
    [.out, .host, .cmds, .flt, .tab]
  | .lpmAdd .. =>
    [.out, .host, .cmds, .slices, .tab]
  | .lpmDelete .. | .aclWrite .. | .aclWriteMove .. | .aclWriteMaskOnly .. | .aclInvalidate .. | .l2Write ..
  | .l2Delete .. | .ecmpGroupWrite .. | .ecmpMemberWrite .. =>
    [.out, .host, .cmds, .slices]
  | .treeLoad .. =>
    [.out, .host, .cmds, .slices, .gen]
  | .treeLoadDone .. | .genSwap .. | .genSwapInstant .. | .genDrained .. =>
    [.out, .host, .cmds, .gen]
  | .csLoad .. | .csLoadProvision .. =>
    [.out, .host, .cmds, .ref, .slices, .gen]
  | .csLoadDone .. =>
    [.out, .host, .cmds, .ref, .kennel, .gen, .keyHash]
  | .calLoad .. | .calSwap .. | .calSwapInstant .. =>
    [.out, .host, .cmds, .time]
  | .fretBoundary .. | .preemptVerify .. | .slewEnd .. | .calBaseSecWrite .. | .ptCalCfgWrite ..
  | .calendarBasePassed .. =>
    [.time]
  | .policerWrite .. | .shaperWrite .. | .shaperRead .. =>
    [.out, .host, .cmds, .sch]
  | .queueCfg .. =>
    [.out, .host, .cmds, .port, .core, .cnts]
  | .ctrSnapshot .. | .ctrSnapshotCancel .. | .ctrSnapshotUnfreeze .. | .snapshotInstant .. =>
    [.out, .host, .cmds, .tel]
  | .pwrStateParkSlice .. =>
    [.out, .host, .cmds, .slices, .pwr]
  | .pwrStateParkLanes .. =>
    [.out, .host, .cmds, .port]
  | .pwrStateUnpark .. =>
    [.out, .host, .cmds, .port, .slices, .pwr]
  | .unparkRampEnd .. | .modeRequest .. =>
    [.out, .md, .host, .cmds, .flt, .ref, .time, .buf, .port, .gen, .core, .sch, .tel, .pwr, .cnts,
     .keel0, .keel1]
  | .phaseHint .. | .phaseHintCancelAll .. =>
    [.out, .host, .cmds, .pwr]
  | .hintStart .. | .hintEnd .. | .throttleOff .. | .capMet .. | .thermalLimitTick .. =>
    [.out, .host, .pwr]
  | .capSet .. =>
    [.out, .host, .cmds, .flt, .pwr, .keel1]
  | .bpmAlloc .. | .bpmFree .. | .bpmFreeAllHost .. =>
    [.out, .host, .cmds, .flt, .ref, .buf, .port, .core, .cnts]
  | .modeRequestReset .. =>
    [.out, .md, .host, .cmds, .flt, .clk, .ref, .time, .buf, .port, .slices, .tab, .gen, .core, .sch,
     .tel, .pwr, .regs, .cnts, .keel0, .keel1, .pipeCur]
  | .drainIngressStopped .. | .drainBufferEmpty .. | .drainFlushTimeout .. | .pipelinesGated .. =>
    [.out, .md, .host, .cmds, .flt, .ref, .time, .buf, .port, .gen, .core, .sch, .tel, .cnts, .keel0,
     .keel1]
  | .saveWriteEnd .. | .pwrSaveDiscard .. =>
    [.kennel, .pwr]
  | .faultInject .. | .faultInjectCancel .. =>
    [.out, .host, .cmds, .flt]
  | .spdmGetDigests .. | .spdmGetCertificate .. =>
    [.host, .flt, .ref]
  | .spdmChallenge .. | .spdmGetMeasurements .. =>
    [.serial, .host, .flt, .ref]
  | .ptModeWrite .. =>
    [.out, .host, .cmds, .flt, .ref, .time, .buf, .port, .gen, .core, .sch, .tel, .regs, .cnts]
  | .adminUpSet .. | .adminUpClear .. | .retrain .. =>
    [.out, .host, .flt, .ref, .time, .buf, .port, .gen, .core, .sch, .tel, .regs, .cnts]
  | .loopbackSelect .. | .ptTestWrite .. =>
    [.out, .pins, .host, .flt, .ref, .time, .buf, .port, .gen, .core, .sch, .tel, .regs, .cnts]
  | .hpLaneTxeqWrite .. | .perfUserEnWrite .. | .tblEpProfWrite .. =>
    [.regs]
  | .detectSignal .. | .anComplete .. | .pauseExpiry .. | .rsFault .. =>
    [.port]
  | .lxTrainingFrame .. | .trainingComplete .. =>
    [.out, .port]
  | .alignComplete .. =>
    [.out, .flt, .time, .port, .core, .cnts]
  | .portStateLimit .. | .laneLoss .. | .d2dWireError .. =>
    [.out, .host, .flt, .ref, .time, .buf, .port, .gen, .core, .sch, .tel, .cnts]
  | .fecWindow .. =>
    [.flt, .port, .cnts]
  | .frameReceive .. | .macControlFrame .. =>
    [.port, .core, .cnts]
  | .frameAdmission .. | .extentChoice .. =>
    [.out, .host, .flt, .ref, .buf, .port, .gen, .core, .tel, .cnts]
  | .headDispatch .. =>
    [.slices, .core]
  | .parseStop .. | .canaryTestEnd .. =>
    [.out, .host, .flt, .ref, .buf, .port, .slices, .gen, .core, .tel, .cnts]
  | .lookupComplete .. =>
    [.out, .host, .flt, .ref, .buf, .port, .slices, .tab, .gen, .core, .sch, .tel, .cnts]
  | .learnRecord .. | .l2AgeTick .. =>
    [.out, .host, .slices, .tab, .cnts]
  | .enqueue .. =>
    [.out, .host, .flt, .ref, .time, .buf, .port, .gen, .core, .tel, .cnts]
  | .captureResume .. =>
    [.flt, .core]
  | .pfcRefresh .. =>
    [.out, .port, .core, .cnts]
  | .frerResetTimer .. =>
    [.time, .cnts]
  | .schedulerChoice .. | .frameEgress .. | .recircTimeout .. | .tc7Stale .. | .transmitDescriptor ..
  | .cpuQueueService .. =>
    [.out, .host, .flt, .ref, .buf, .port, .gen, .core, .sch, .tel, .cnts]
  | .shaperTokenUpdate .. | .policerBucketFill .. | .histogramSample .. =>
    [.sch]
  | .canaryTest .. | .l2MoveSecond .. =>
    [.slices]
  | .csScrub .. | .csEccRepair .. | .treeScrub .. | .treeEccRepair .. =>
    [.flt, .slices]
  | .tcamShadowScrub .. | .tcamRowSpare .. =>
    [.flt, .ref, .slices]
  | .epScrub .. =>
    [.out, .host, .flt, .tab, .cnts]
  | .flapHoldExpiry .. =>
    [.slices, .tab, .cnts]
  | .bpmCommit .. =>
    [.buf]
  | .bpmCommitDone .. | .sheepdogSweepEnd .. =>
    [.out, .flt, .ref, .buf, .port, .core, .cnts]
  | .sheepdogSweep .. =>
    [.flt, .buf]
  | .timeSetGo .. | .timeAdjGo .. =>
    [.out, .host, .cmds, .time, .gen, .tel, .pwr, .regs]
  | .timeFreqWrite .. | .calFrerCtlWrite .. =>
    [.time, .regs]
  | .teTrack .. =>
    [.flt, .time]
  | .teCounterFault .. | .teRevert .. =>
    [.out, .host, .flt, .time, .keel1]
  | .timeOutEnable .. =>
    [.out, .flt, .time, .regs]
  | .pulseEdge .. =>
    [.out, .time]
  | .calBaseNsWrite .. | .refHostPrefWrite .. =>
    [.flt, .keel1]
  | .capUnmet .. | .pmbusCalibration .. | .temperatureRead .. =>
    [.out, .host, .flt, .pwr]
  | .vholdReading .. =>
    [.flt, .pwr]
  | .clkPipeWrite .. =>
    [.out, .host, .cmds, .pwr, .regs]
  | .faultReport .. =>
    [.flt, .ref, .kennel, .pwr]
  | .fltFirstClear .. | .fltLostClear .. | .clrCounts .. =>
    [.flt]
  | .keelVote .. =>
    [.flt, .keel0, .keel1]
  | .collieHeartbeat .. | .collieHeartbeatTimeout .. | .collieKatCheck .. | .collieMemorySweep ..
  | .mirrorTransfer .. | .mirrorOkLapse .. =>
    [.out, .host, .flt, .ref, .port, .pwr, .keel1]
  | .collieRestored .. | .fwuReloadDone .. =>
    [.out, .host, .flt, .ref]
  | .collieRevert .. | .fwuVerifyDone .. =>
    [.out, .host, .flt, .ref, .keel1]
  | .refRoleCmd .. =>
    [.out, .host, .flt, .ref, .time, .core, .keel1]
  | .refFwuCtl .. =>
    [.flt, .ref]
  | .healthPeriodic .. =>
    [.out, .host, .ref]
  | .wearWritePeriod .. =>
    [.ref, .kennel]
  | .wearWriteEnd .. =>
    [.flt, .ref, .kennel]
  | .pmcSampleTimeout .. =>
    [.out, .host, .buf, .core, .tel, .cnts]
  | .registerWrite .. =>
    [.out, .host, .flt, .clk, .ref, .time, .buf, .port, .slices, .core, .tel, .regs, .cnts, .keel1]
  | .prbsLock .. =>
    [.pins, .port]
  | .d3hot .. =>
    [.out, .host, .core]
end Sys2Proof.Safety
end

