-- ==== Sys2Proof/Certificates/Slice0/Obligations.lean ====
section
/-! DEFINITION. The statements for the provers, written from the numbered rules of the spec: what each command does where it
acts, what it leaves unchanged, and what every step keeps. -/
open Sys2Proof Sys2Proof.Machine Sys2Proof.Safety
open Host (Outcome)

/-- For every command c, queue rest and state s: a step of s with c at the front of its queue and rest behind it is
exec c on s with the queue rest. The queue is the model's own form of commands from outside (assumption 1). [Derived
from 03 host ports and rings.md] -/
def Obligations.StepRunsTheFrontCommand : Prop :=
  ∀ (c : Instr) (rest : List Instr) (s : State),
    step { s with pending := c :: rest } = exec c { s with pending := rest }

/-- On an empty queue a step answers a next state in which the model's clock stands one nanosecond later; a stopped
time engine holds its count; a running engine whose frequency correction is 0, with nothing gathered and no slew
left, counts 65,536 units of 2^-16 ns, modulo 2^64 seconds. Nothing but the clock, the two engines and the offset
left of a slew changes. That a step on an empty queue is a nanosecond is the model's choice (assumption 2). [Derived
from R8, R391, R393, R394] -/
def Obligations.EmptyQueueIsOneNanosecond : Prop :=
  ∀ s : State, s.pending = [] → ∃ t, step s = .next t ∧ t.now = s.now + 1 ∧
    t = { s with now := t.now, time := { s.time with a := t.time.a, b := t.time.b, slewLeft := t.time.slewLeft } } ∧
    (∀ e, (s.te e).run = false → t.te e = s.te e) ∧
    (∀ e, (s.te e).run = true → (s.te e).acc = 0 → s.time.slewLeft = 0 → s.rd 0x60014 = 0 →
      (t.te e).t = ((s.te e).t + 65536) % teSpan ∧ (t.te e).acc = 0)

/-- Let c be a fetched command of a ring that is not muted, on a port that can write, whose ring has a base and does
not interrupt, where no mirrored completion waits, and whose completion is not copied (its opcode is not mirrored or
the other port's ring of the same ID is off). Completing it with status st and results r0, r1 takes it from the
outstanding commands and makes exactly one memory write: at HI_RING_CBASE + 16 × the index of c's slot, 16 bytes
with the TAG of the command in bytes 0-3, its OPCODE in byte 4, the status code in byte 5, the index of the next
slot in bytes 6-7, RESULT0 in bytes 8-11, RESULT1 in bytes 12-14 and PHASE alone in byte 15: 0x80 in lap 0 and 0x00
in lap 1. HI_RING_CPTR becomes the position after c's slot and HI_RING_WCOUNT rises by 1, modulo 2^32. [Derived from
R77, R78, R79, R87, R92, R95] -/
def Obligations.CompletionIsWrittenInItsOwnSlot : Prop :=
  ∀ (c : Cmd) (st : Status) (r0 r1 : Nat) (s : State), c.mute = false → s.canWrite c.port = true →
    (s.ring c.port c.ring).base ≠ 0 → (s.ring c.port c.ring).irqEn = false →
    (mirroredOp c.opcode = false ∨ (s.ring c.port.peer c.ring).en = false) → (s.half c.port).late = [] →
    let t := s.complete c st r0 r1
    let r := s.ring c.port c.ring
    t.out = .dma c.port (r.cbase + c.pos % 2 ^ 16 * 16)
      (cut c.bytes 4 4 ++ [c.bytes.getD 0 0, BitVec.ofNat 8 st.code] ++ toLE 2 ((c.pos % 2 ^ 16 + 1) % 2 ^ r.log2n)
        ++ toLE 4 r0 ++ toLE 3 r1 ++ [if bit c.pos 16 then 0x00 else 0x80]) :: s.out ∧
    t.cmds = s.cmds.filter (fun d => d.serial ≠ c.serial) ∧
    (t.ring c.port c.ring).cptr = r.succ c.pos ∧
    (t.ring c.port c.ring).wcount = (r.wcount + 1) % 2 ^ 32

/-- NOP: the oldest command of a ring with opcode 0x01, when it may run, completes with OK and both results 0.
FENCE: the oldest command of a ring with opcode 0x7F, when no command fetched before it from any ring of the port is
outstanding and no report is pending, completes with OK and both results 0. An oldest command whose opcode is not in
the opcode table completes with NOT_SUPPORTED, in whatever mode. Nothing else changes. [Derived from R93, R96, R98,
R101] -/
def Obligations.PlainCommandsComplete : Prop :=
  (∀ p n c s, runs s p n.val 0x01 [] c = true → exec (.nop p n) s = .next (s.complete c .ok 0 0)) ∧
  (∀ p n c s, runs s p n.val 0x7F [] c = true → (∀ d ∈ s.cmds, d.port = c.port → c.serial ≤ d.serial) →
    s.flt.pend = [] → exec (.fence p n) s = .next (s.complete c .ok 0 0)) ∧
  (∀ p (n : Fin 64) c s, s.headCmd p n.val = some c → s.startable c = true → c.opcode ∉ opcodes →
    exec (.notSupported p n) s = .next (s.complete c .notSupported 0 0))

/-- While keel register 1 is not stuck, the active role moves to the other port, both halves show the cause and one
change more (saturating at 0xFFFF): on HOST_SEL_N low for 1 µs with the peer's link up (cause 3); on the active
port's link going down with the peer eligible (cause 2); on a handover write of the active host with GO and GUARD to
its own half, the peer eligible (cause 4); on the active port's heartbeat age exceeding its timeout, supervised and
not already held, the peer eligible (cause 1); and on the revert hold of the preferred standby port with HOST_SEL_N
high (cause 5). The standby is eligible where its link is up, its Bus Master Enable is 1 and its age is below its
timeout. [Derived from R114, R115, R116, R117, R119, R120, R121] -/
def Obligations.TriggersMoveTheActiveRole : Prop :=
  (∀ ns acts s, 1000 ≤ ns → s.hostAlive = true → s.flt.keel1.stuck = false → (s.half s.active.peer).linkUp = true →
    ∃ t, exec (.hostSelNFall ns acts) s = .next t ∧ moved 3 s t ∧ t.pins.hostSelN = false) ∧
  (∀ s, (s.half s.active).linkUp = true → s.flt.keel1.stuck = false → s.eligible s.active.peer = true →
    ∃ t, exec (.pcieLinkDown s.active) s = .next t ∧ moved 2 s t ∧ (t.half s.active).linkUp = false) ∧
  (∀ (v : Word) s, s.hiWriteOk s.active s.active = true → bit v.toNat 0 = true → bits v.toNat 31 16 = 0x5120 →
    s.flt.keel1.stuck = false → s.eligible s.active.peer = true →
    ∃ t, exec (.hiHandover s.active s.active v) s = .next t ∧ moved 4 s t) ∧
  (∀ s, s.hostAlive = true → (s.half s.active).supervised = true → s.ageExceeds s.active = true →
    s.host.heldBeat = false → s.flt.keel1.stuck = false → s.eligible s.active.peer = true →
    ∃ t, exec .heartbeatTimeout s = .next t ∧ moved 1 s t) ∧
  (∀ s since, s.hostAlive = true → s.preferred = s.active.peer → s.ageBelow s.preferred = true →
    (s.half s.preferred).below = some since → bits (s.rd (hiReg s.preferred 0xC)) 19 0 * 1000000 ≤ s.now - since →
    s.pins.hostSelN = true → s.flt.keel1.stuck = false → ∃ t, exec .revertHoldExpiry s = .next t ∧ moved 5 s t)

/-- With the peer's link down, HOST_SEL_N low for 1 µs leaves the active role where it is and the trigger is held;
with the peer not eligible, the active port's link going down, or its heartbeat age exceeding its timeout, leaves
the active role where it is, sets HI_ROLE.NO_STANDBY of the active port, and the trigger is held. A handover write
into the other port's half, by the standby host, or without GO or GUARD, changes nothing at all. [Derived from R117,
R118, R122, R589] -/
def Obligations.FailedTriggersAreHeld : Prop :=
  (∀ ns acts s, 1000 ≤ ns → s.hostAlive = true → (s.half s.active.peer).linkUp = false →
    ∃ t, exec (.hostSelNFall ns acts) s = .next t ∧ t.active = s.active ∧ t.host.heldSel = true) ∧
  (∀ s, (s.half s.active).linkUp = true → s.eligible s.active.peer = false →
    ∃ t, exec (.pcieLinkDown s.active) s = .next t ∧ t.active = s.active ∧ t.host.heldLink = true ∧
      (t.half s.active).noStandby = true) ∧
  (∀ s, s.hostAlive = true → (s.half s.active).supervised = true → s.ageExceeds s.active = true →
    s.host.heldBeat = false → s.eligible s.active.peer = false →
    ∃ t, exec .heartbeatTimeout s = .next t ∧ t.active = s.active ∧ t.host.heldBeat = true ∧
      (t.half s.active).noStandby = true) ∧
  (∀ p half v s, (p ≠ half ∨ p ≠ s.active ∨ bit v.toNat 0 = false ∨ bits v.toNat 31 16 ≠ 0x5120) →
    exec (.hiHandover p half v) s = .next s)

/-- HOST_SEL_N rising lets a held HOST_SEL_N trigger go and nothing else. The standby port's link going down clears
LINK_UP, RATE and WIDTH of its half and nothing else. A link comes up with its rate and width where the codes are
those of HI_PORT_STAT, the strap allows the rate, PERST is high, the host logic runs and the port's PLL is stable.
Clearing Bus Master Enable changes that bit alone; setting it sets it, and a port that can then write holds no write
back. D3hot stands as entered or left; entering it changes nothing else. A heartbeat while the link is up restarts
the port's age and begins its supervision. 100 ms after boot, with the preferred port active and its link down and
the other link up, the boot choice makes the other port active with LAST_CAUSE 0 in both halves and CHANGES as it
was. [Derived from R70, R72, R86, R115, R116, R118, R119, R579] -/
def Obligations.HostPortEvents : Prop :=
  (∀ s, exec .hostSelNRise s =
    .next { s with pins := { s.pins with hostSelN := true }, host := { s.host with heldSel := false } }) ∧
  (∀ s, (s.half s.active.peer).linkUp = true → exec (.pcieLinkDown s.active.peer) s =
    .next (s.onHalf s.active.peer fun h => { h with linkUp := false, rate := 0, width := 0 })) ∧
  (∀ p rate width s, rate ∈ [3, 4, 5, 6] → width ∈ [1, 2, 4] → rate ≤ s.rateCap p → (s.half p).perst = false →
    s.hostAlive = true → (s.clk.judge.get Judge.zero (hostPll p)).stable = true →
    ∃ t, exec (.pcieLinkUp p rate width) s = .next t ∧ (t.half p).linkUp = true ∧ (t.half p).rate = rate ∧
      (t.half p).width = width) ∧
  (∀ p s, exec (.busMasterEnableFall p) s = .next (s.onHalf p fun h => { h with bme := false })) ∧
  (∀ p s, ∃ t, exec (.busMasterEnableRise p) s = .next t ∧ (t.half p).bme = true ∧
    (t.canWrite p = true → (t.half p).held = [])) ∧
  (∀ p s, exec (.d3hot p true) s = .next (s.onHalf p fun h => { h with d3hot := true })) ∧
  (∀ p s, ∃ t, exec (.d3hot p false) s = .next t ∧ (t.half p).d3hot = false ∧
    (t.canWrite p = true → (t.half p).held = [])) ∧
  (∀ p s, s.hostAlive = true → s.mode ≠ .save → (s.half p).linkUp = true →
    ∃ t, exec (.heartbeat p) s = .next t ∧ (t.half p).beat = some s.now ∧ (t.half p).supervised = true) ∧
  (∀ s, s.hostAlive = true → s.host.bootChosen = false → s.md.bootAt + 100000000 ≤ s.now → s.active = s.preferred →
    (s.half s.active).linkUp = false → (s.half s.active.peer).linkUp = true → s.flt.keel1.stuck = false →
    ∃ t, exec .bootChoiceTimer s = .next t ∧ t.active = s.active.peer ∧ t.host.bootChosen = true ∧
      ∀ p, (t.half p).lastCause = 0 ∧ (t.half p).changes = (s.half p).changes)

/-- An enable of an idle ring that passes the checks of R89 starts it: EN set, every position at index 0 of lap 0,
HI_RING_DROP, HI_RING_WCOUNT and SEQ at 0; one that fails them sets CFG_ERR and leaves EN 0. A write of EN = 0 stops
the ring. ACTIVE of a stopped ring falls once no command fetched from it is outstanding and no write of it is held.
A write to HI_RING_STAT clears the W1C bits written 1. A PROD within one ring length of the fetch position is
accepted, and a CONS that is not ahead of the write position and at most one ring length behind it; any other sets
DB_ERR and raises the port's CE report 1 with the ring. A doorbell page then reads what it accepted. After an
enable, a disable and a CONS the instant since which the rings have had room for captures is noted anew, and a CONS
lets mirrored completions that wait on the port be taken; nothing else changes. [Derived from R76, R77, R83, R84,
R87, R88, R89, R90] -/
def Obligations.RingsFollowTheirRegisters : Prop :=
  (∀ h (n : Fin 256) s, s.hiWriteOk h h = true → (s.ring h n).en = false → (s.ring h n).active = false →
    (s.served = true ∨ s.mode = .safe) → ringId n = true → ringOk n (s.ring h n) = true →
    exec (.hiRingEnable h h n) s = .next ((s.setRing h n { s.ring h n with
      en := true, ptr := 0, cptr := 0, prod := 0, cons := 0, drop := 0, wcount := 0, seq := 0 }).noteRoom)) ∧
  (∀ h (n : Fin 256) s, s.hiWriteOk h h = true → (s.ring h n).en = false → (s.ring h n).active = false →
    (s.served = true ∨ s.mode = .safe) → ringId n = true → ringOk n (s.ring h n) = false →
    exec (.hiRingEnable h h n) s = .next (s.setRing h n { s.ring h n with cfgErr := true })) ∧
  (∀ h (n : Fin 256) s, s.hiWriteOk h h = true →
    exec (.hiRingDisable h h n) s = .next ((s.setRing h n { s.ring h n with en := false }).noteRoom)) ∧
  (∀ p (n : Fin 256) s, (s.ring p n).en = false → (s.ring p n).active = true →
    (∀ c ∈ s.cmds, ¬(c.port = p ∧ c.ring = n.val)) → (∀ x ∈ (s.half p).held, x.ring ≠ n.val) →
    exec (.ringWorkDrained p n) s = .next (s.setRing p n { s.ring p n with active := false })) ∧
  (∀ h (n : Fin 256) (v : Word) s, s.hiWriteOk h h = true →
    exec (.hiRingStatClear h h n v) s = .next (s.setRing h n { s.ring h n with
      dbErr := (s.ring h n).dbErr && !bit v.toNat 0, dmaErr := (s.ring h n).dmaErr && !bit v.toNat 1,
      descErr := (s.ring h n).descErr && !bit v.toNat 2, cfgErr := (s.ring h n).cfgErr && !bit v.toNat 3 })) ∧
  (∀ (n : Fin 256) (v : Word) s, (s.ring s.active n).en = true → s.mode ≠ .save → (n.val < 64 ∨ 128 ≤ n.val) →
    (s.ring s.active n).inRange v.toNat = true →
    (s.ring s.active n).dist (s.ring s.active n).ptr v.toNat ≤ 2 ^ (s.ring s.active n).log2n →
    exec (.prodDoorbell s.active n v) s = .next
      (s.setRing s.active n { s.ring s.active n with prod := v.toNat, dbProd := v.toNat })) ∧
  (∀ (n : Fin 256) (v : Word) s, (s.ring s.active n).en = true → s.mode ≠ .save → n.val < 80 →
    (s.ring s.active n).inRange v.toNat = true →
    (s.ring s.active n).dist v.toNat (if n.val < 64 then (s.ring s.active n).cptr else (s.ring s.active n).ptr)
      ≤ 2 ^ (s.ring s.active n).log2n →
    exec (.consDoorbell s.active n v) s = .next (((s.setRing s.active n { s.ring s.active n with
      cons := v.toNat, dbCons := v.toNat }).flushLate s.active).noteRoom)) ∧
  (∀ (n : Fin 256) (v : Word) s, (s.ring s.active n).en = true → s.mode ≠ .save → (n.val < 64 ∨ 128 ≤ n.val) →
    ((s.ring s.active n).inRange v.toNat = false ∨
      2 ^ (s.ring s.active n).log2n < (s.ring s.active n).dist (s.ring s.active n).ptr v.toNat) →
    exec (.prodDoorbell s.active n v) s = .next ((s.setRing s.active n { s.ring s.active n with dbErr := true }).raise
      (portSrc s.active) 1 .ce (packItems [(8, n.val)])))

/-- A ring of the active port that is enabled, not at its PROD and with a completion slot free, on a port that can
write, in a mode that serves commands or SAFE, fetches the 64 bytes given: the command joins the end of the fetched
ones with the slot of the fetch position, with the device time of the fetch, the fetch position moves to the next
slot, and ACTIVE is set. An error completion of a ring that is enabled, or disabled with work outstanding, leaves it
disabled, sets DMA_ERR and raises the port's UC report 2 with the ring. A vector with entries counted for TIMER µs
or longer is sent: with the port able to write and the vector not masked its message leaves and its count is
cleared. [Derived from R82, R85, R91, R98, R112, R113] -/
def Obligations.RingTraffic : Prop :=
  (∀ (n : Fin 64) desc s, (s.ring s.active n).en = true → s.canWrite s.active = true →
    (s.served = true ∨ s.mode = .safe) → (s.ring s.active n).prod ≠ (s.ring s.active n).ptr →
    (s.ring s.active n).noSlot = false → desc.length = 64 →
    exec (.commandFetch s.active n desc) s = .next
      { s.setRing s.active n { s.ring s.active n with
          ptr := (s.ring s.active n).succ (s.ring s.active n).ptr, active := true } with
        cmds := s.cmds ++ [{ port := s.active, ring := n, pos := (s.ring s.active n).ptr, bytes := desc,
                             serial := s.serial, waiting := false, mute := false, fetched := s.devTime }],
        serial := s.serial + 1 }) ∧
  (∀ p (n : Fin 256) s, (s.ring p n).en = true ∨ (s.ring p n).active = true →
    exec (.dmaErrorCompletion p n) s = .next ((s.setRing p n { s.ring p n with en := false, dmaErr := true }).raise
      (portSrc p) 2 .uc (packItems [(8, n.val)]))) ∧
  (∀ p (v : Fin 64) s, 0 < ((s.half p).vec.get Vec.zero v).count → ((s.half p).vec.get Vec.zero v).pend = false →
    bits (s.rd (hiReg p (0x800 + 4 * v))) 27 16 ≠ 0 →
    bits (s.rd (hiReg p (0x800 + 4 * v))) 27 16 * 1000 ≤ s.now - ((s.half p).vec.get Vec.zero v).since →
    s.canWrite p = true → s.vecMasked p v = false →
    exec (.vectorTimerExpiry p v) s = .next
      ((s.onHalf p fun h => { h with vec := h.vec.set Vec.zero v Vec.zero }).emit (.msix p v)))

/-- While keel register 0 is not stuck: MODE_REQUEST to FORWARD in CONFIGURE with the preconditions met, and in
DRAIN, with LINK_OPT and FLUSH_MS 0 and no request in progress, leaves the device in FORWARD with PREV the old mode
and CAUSE 2; to DRAIN in FORWARD it begins a request and waits. The request in progress completes, with the target
mode, PREV the old mode, CAUSE 2 and no request left, when ingress has stopped (FORWARD to DRAIN), when the
pipelines are gated (CONFIGURE to PARK), when the buffer is empty (from DRAIN), and, with the buffer not empty, when
the flush time has ended. GL_MODE_REQ with TARGET FORWARD in CONFIGURE, no command ring running and the
preconditions met, leaves the device in FORWARD with TARGET 3, RESULT 2 and CAUSE 1. [Derived from R38, R39, R42,
R44, R57, R58, R97] -/
def Obligations.RequestedModeChanges : Prop :=
  (∀ p (n : Fin 64) c s, runs s p n 0x70 [named 8 1 0xF, whole 9 1, whole 12 4] c = true → c.argBits 8 1 3 0 = 3 →
    c.arg 9 1 = 0 → c.arg 12 4 = 0 → s.md.req = none → s.flt.keel0.stuck = false →
    ((s.mode = .configure ∧ s.mayForward = true) ∨ s.mode = .drain) →
    ∃ t, exec (.modeRequest p n) s = .next t ∧ t.mode = .forward ∧ t.md.prev = s.mode ∧ t.md.cause = 2) ∧
  (∀ p (n : Fin 64) c s, runs s p n 0x70 [named 8 1 0xF, whole 9 1, whole 12 4] c = true → c.argBits 8 1 3 0 = 4 →
    c.arg 9 1 = 0 → c.arg 12 4 = 0 → s.md.req = none → s.flt.keel0.stuck = false → s.mode = .forward →
    exec (.modeRequest p n) s = .next (({ s with
      md := { s.md with
        req := some { cmd := some c.serial, target := .drain, flushAt := none, linkDown := false } } }).wait c)) ∧
  (∀ s r, s.md.req = some r → s.mode = .forward → r.target = .drain → s.flt.keel0.stuck = false →
    ∃ t, exec .drainIngressStopped s = .next t ∧ t.mode = .drain ∧ t.md.prev = .forward ∧ t.md.cause = 2 ∧
      t.md.req = none) ∧
  (∀ s r, s.md.req = some r → s.mode = .configure → r.target = .park → s.flt.keel0.stuck = false →
    ∃ t, exec .pipelinesGated s = .next t ∧ t.mode = .park ∧ t.md.prev = .configure ∧ t.md.cause = 2 ∧
      t.md.req = none) ∧
  (∀ s r, s.md.req = some r → s.mode = .drain → s.bufEmpty = true → s.flt.keel0.stuck = false →
    ∃ t, exec .drainBufferEmpty s = .next t ∧ t.mode = r.target ∧ t.md.prev = .drain ∧ t.md.cause = 2 ∧
      t.md.req = none) ∧
  (∀ s r at' pick, s.md.req = some r → r.flushAt = some at' → at' ≤ s.now → s.mode = .drain → s.bufEmpty = false →
    s.flt.keel0.stuck = false →
    ∃ t, exec (.drainFlushTimeout pick) s = .next t ∧ t.mode = r.target ∧ t.md.prev = .drain ∧ t.md.cause = 2 ∧
      t.md.req = none) ∧
  (∀ (v : Word) s, bits v.toNat 3 0 = 3 → s.mode = .configure → s.md.reqResult ≠ 1 → s.ringsRun s.active = false →
    s.md.req = none → s.mayForward = true → s.flt.keel0.stuck = false →
    ∃ t, exec (.glModeReq s.active v) s = .next t ∧ t.mode = .forward ∧ t.md.prev = .configure ∧ t.md.cause = 1 ∧
      t.md.reqTarget = 3 ∧ t.md.reqResult = 2)

/-- RESET_N low for 1 µs, GL_RESET with DEV_RST and GUARD by the active host (host logic running, not in SAVE), and
MODE_REQUEST with target RESET and nothing else set, each leave the device in RESET with CAUSE 0, 3 and 2: the mode
before it in PREV (unless it was RESET), every stored register and counter at its reset value, no fetched command,
the kennel and the other pins as they were; the last two begin the millisecond of a device reset. Loss of power
leaves the state after reset but for the kennel. PWRFAIL_N low for 1 µs in CONFIGURE, FORWARD, DRAIN or PARK enters
SAVE with CAUSE 5, no fetched command and a save begun at that instant; in SAFE with no save under way it begins one
and stays. PWRFAIL_N rising changes the pin alone. A collapse of VHOLD ends the save and writes nothing; the end of
a save makes its area valid with the bytes saved, their CRC in place. [Derived from R38, R51, R55, R64, R66, R481,
R482] -/
def Obligations.ResetsAndSaves : Prop :=
  (∀ ns acts s, s.pins.resetN = true → 1000 ≤ ns →
    ∃ t, exec (.resetNFall ns acts) s = .next t ∧ t.mode = .reset ∧ t.md.cause = 0 ∧ t.md.resetAt = none ∧
      t.md.prev = (if s.mode = .reset then s.md.prev else s.mode) ∧ t.regs = [] ∧ t.cnts = [] ∧ t.cmds = [] ∧
      t.kennel = s.kennel ∧ t.pins = { s.pins with resetN := false }) ∧
  (∀ (v : Word) s, s.hostAlive = true → s.mode ≠ .save → bit v.toNat 0 = true → bits v.toNat 31 16 = 0x5120 →
    ∃ t, exec (.glReset s.active v) s = .next t ∧ t.mode = .reset ∧ t.md.cause = 3 ∧ t.md.resetAt = some s.now ∧
      t.md.prev = (if s.mode = .reset then s.md.prev else s.mode) ∧ t.regs = [] ∧ t.cnts = [] ∧ t.cmds = [] ∧
      t.kennel = s.kennel ∧ t.pins = s.pins) ∧
  (∀ p (n : Fin 64) c s, runs s p n 0x70 [named 8 1 0xF, whole 9 1, whole 12 4] c = true → c.argBits 8 1 3 0 = 0 →
    c.arg 9 1 = 0 → c.arg 12 4 = 0 →
    ∃ t, exec (.modeRequestReset p n) s = .next t ∧ t.mode = .reset ∧ t.md.cause = 2 ∧ t.md.resetAt = some s.now ∧
      t.md.prev = s.mode ∧ t.regs = [] ∧ t.cnts = [] ∧ t.cmds = [] ∧ t.kennel = s.kennel ∧ t.pins = s.pins ∧
      t.out = s.out) ∧
  (∀ s, exec .lossOfPower s = .next
    { State.reset with pending := s.pending, now := s.now, serial := s.serial, out := s.out, kennel := s.kennel }) ∧
  (∀ ns acts mv s, s.pins.pwrfailN = true → 1000 ≤ ns → s.served = true →
    ∃ t, exec (.pwrfailNFall ns acts mv) s = .next t ∧ t.mode = .save ∧ t.md.prev = s.mode ∧ t.md.cause = 5 ∧
      t.cmds = [] ∧ t.pins = { s.pins with pwrfailN := false } ∧ ∃ v, t.pwr.save = some v ∧ v.since = s.now) ∧
  (∀ ns acts mv s, s.pins.pwrfailN = true → 1000 ≤ ns → s.mode = .safe → s.pwr.save = none →
    ∃ t, exec (.pwrfailNFall ns acts mv) s = .next t ∧ t.mode = .safe ∧ t.cmds = s.cmds ∧
      ∃ v, t.pwr.save = some v ∧ v.since = s.now) ∧
  (∀ s, exec .pwrfailNRise s = .next { s with pins := { s.pins with pwrfailN := true } }) ∧
  (∀ s, exec .vholdCollapse s = .next { s with pwr := { s.pwr with save := none } }) ∧
  (∀ s v, s.pwr.save = some v →
    ∃ t, exec .saveWriteEnd s = .next t ∧ t.pwr.save = none ∧
      t.saveAreaAt v.area = { valid := true, seq := le (withCrc v.bytes) 8 4, bytes := withCrc v.bytes } ∧
      (v.area = 0 → t.kennel.save1 = s.kennel.save1) ∧ (v.area ≠ 0 → t.kennel.save0 = s.kennel.save0))

/-- RESET_N rising, and the end of a device reset's millisecond with RESET_N high, enter BOOT at phase CLOCKS: the
strap names the preferred and the active host port. The self-test's end moves to WAIT_FW and records what each
Collie passed. In WAIT_FW with the fetch asked for and the active port able to write, a well-formed address and
length start the fetch; its end moves to FW_VERIFY, the verification to ROLE_PROOF with the image's digest, the role
proof of the Collies that had loaded to the kennel phase with at least the proven ones marked OK, and the kennel's
read-back to DONE with RESULT 1 or 2 by the two Collies. A fetch that is refused, fails, is not verified, or takes
more than 10 ms leaves the device in RESET with the host ports live and RESULT 5, 4, 3 and 4; from there GL_MODE_REQ
with TARGET BOOT resumes BOOT at WAIT_FW. A write of GL_FW_LEN while it takes stores the length, and a length in
BOOT asks for the fetch. [Derived from R38, R57, R60, R61, R62, R66, R115, R482, R542, R578, R591] -/
def Obligations.BootRunsPhaseByPhase : Prop :=
  (∀ hostPref (strap : BitVec 10) s, s.pins.resetN = false →
    ∃ t, exec (.resetNRise hostPref strap) s = .next t ∧ t.mode = .boot ∧ t.md.phase = .clocks ∧ t.md.bootAt = s.now ∧
      t.pins.resetN = true ∧ t.preferred = (if hostPref then .hb else .ha) ∧ t.active = t.preferred) ∧
  (∀ s at', s.pins.resetN = true → s.mode = .reset → s.md.resetAt = some at' → at' + 1000000 ≤ s.now →
    ∃ t, exec .deviceResetHoldEnd s = .next t ∧ t.mode = .boot ∧ t.md.phase = .clocks ∧ t.md.bootAt = s.now ∧
      t.md.resetAt = none ∧ t.active = t.preferred) ∧
  (∀ memA katA memB katB s, s.mode = .boot → s.md.phase = .selftest →
    ∃ t, exec (.bootSelftestDone memA katA memB katB) s = .next t ∧ t.md.phase = .waitFw ∧ t.ref.a.memOk = memA ∧
      t.ref.a.katOk = katA ∧ t.ref.b.memOk = memB ∧ t.ref.b.katOk = katB) ∧
  (∀ s, s.mode = .boot → s.md.phase = .waitFw → s.md.fwAsked = true → s.canWrite s.active = true →
    imageOk (s.rd64 0x20) (s.rd 0x28) = true →
    exec .fwFetchStart s = .next { s with md := { s.md with phase := .fwFetch, fwStarted := true } }) ∧
  (∀ s, s.mode = .boot → s.md.phase = .fwFetch →
    exec (.fwFetchDone true) s = .next { s with md := { s.md with phase := .fwVerify } }) ∧
  (∀ image version s, s.mode = .boot → s.md.phase = .fwVerify → sha384 image ≠ [] →
    ∃ t, exec (.fwVerifyDone true image version) s = .next t ∧ t.md.phase = .roleProof ∧
      t.ref.meas.get [] 1 = sha384 image) ∧
  (∀ s, s.mode = .boot → s.md.phase = .roleProof → s.ref.a.state = .loading → s.ref.b.state = .loading →
    ∃ t, exec (.roleProofDone true true) s = .next t ∧ t.md.phase = .kennel ∧ t.md.collieAOk = true ∧
      t.md.collieBOk = true ∧ t.activeCollie = .a ∧ t.ref.a.state = .active ∧ t.ref.b.state = .standby) ∧
  (∀ errs s, s.mode = .boot → s.md.phase = .kennel →
    ∃ t, exec (.kennelReadbackDone errs true) s = .next t ∧ t.md.phase = .done ∧
      t.md.bootResult = (if s.md.collieAOk && s.md.collieBOk then 1 else 2)) ∧
  (∀ i s, s.mode = .boot →
    ((i = .fwFetchStart ∧ s.md.phase = .waitFw ∧ s.md.fwAsked = true ∧ s.canWrite s.active = true ∧
        imageOk (s.rd64 0x20) (s.rd 0x28) = false) ∨
      (i = .fwFetchDone false ∧ s.md.phase = .fwFetch) ∨
      (∃ image version, i = .fwVerifyDone false image version ∧ s.md.phase = .fwVerify) ∨
      (i = .fwFetchTimeout ∧ s.md.fwAsked = true ∧ (s.md.phase = .waitFw ∨ s.md.phase = .fwFetch ∨ s.md.phase = .fwVerify) ∧
        s.md.fwWriteAt + 10000000 ≤ s.now ∧ s.md.selftestAt + 10000000 ≤ s.now)) →
    ∃ t, exec i s = .next t ∧ t.mode = .reset ∧ t.md.hostLive = true ∧ t.md.cause = 4 ∧
      t.md.bootResult = (match i with | .fwFetchStart => 5 | .fwVerifyDone _ _ _ => 3 | _ => 4)) ∧
  (∀ (v : Word) s, s.mode = .reset → s.md.hostLive = true → bits v.toNat 3 0 = 1 →
    ∃ t, exec (.glModeReqBoot s.active v) s = .next t ∧ t.mode = .boot ∧ t.md.phase = .waitFw ∧ t.md.hostLive = false ∧
      t.md.cause = 1 ∧ t.md.reqTarget = 1 ∧ t.md.reqResult = 2) ∧
  (∀ (v : Word) s, s.fwWrites s.active = true → s.mode = .boot → v ≠ 0 →
    exec (.glFwLen s.active v) s =
      .next { s.setReg 0x28 v with md := { s.md with fwAsked := true, fwWriteAt := s.now } })

/-- HI_IFRST.START by a port to its own half marks the half busy and clears its rings, vectors, MSI-X table and held
writes; every command the port has outstanding afterwards writes no completion. Its end clears the mark alone. PERST
low for 100 µs takes the link, its rate and width, Bus Master Enable, D3hot and the SPDM connection down; PERST
rising lifts the pin alone. The end of an only unpark ramp that a command asked for takes the ramp away and
completes its command with OK and the parked units. The test port holds BYPASS after its reset and the instruction
loaded otherwise, and what a tester has set on the lanes stays only while that is HSTAP. [Derived from R63, R64,
R65, R113, R478, R579, R584] -/
def Obligations.InterfaceResetsAndPins : Prop :=
  (∀ h (v : Word) s, s.hiWriteOk h h = true → bit v.toNat 0 = true →
    ∃ t, exec (.hiIfrstStart h h v) s = .next t ∧ (t.half h).busy = true ∧ (t.half h).busyAt = s.now ∧
      (t.half h).rings = [] ∧ (t.half h).vec = [] ∧ (t.half h).msix = [] ∧ (t.half h).held = [] ∧
      ∀ c ∈ t.cmds, c.port = h → c.mute = true) ∧
  (∀ p s, exec (.hiIfrstDone p) s = .next (s.onHalf p fun h => { h with busy := false })) ∧
  (∀ p ns acts s, (s.half p).perst = false → 100000 ≤ ns →
    ∃ t, exec (.perstFall p ns acts) s = .next t ∧ (t.half p).perst = true ∧ (t.half p).linkUp = false ∧
      (t.half p).rate = 0 ∧ (t.half p).width = 0 ∧ (t.half p).bme = false ∧ (t.half p).d3hot = false ∧
      (t.half p).spdm = .idle ∧ (t.half p).doe = none) ∧
  (∀ p s, exec (.perstRise p) s = .next (s.onHalf p fun h => { h with perst := false })) ∧
  (∀ s (r : Ramp) k, s.pwr.ramps = [r] → r.cmd = some k → s.rampNs ≤ s.now - r.since →
    exec .unparkRampEnd s = .next (({ s with pwr := { s.pwr with ramps := [] } }).completeSer k .ok
      (if r.isSlice then s.slicePark else s.lanePark r.unit) 0)) ∧
  (∀ reset code s, exec (.tapInstruction reset code) s = .next { s with
    pins := { s.pins with
      tap := if reset = false ∧ code.toNat ∈ [0x00, 0x01, 0x04, 0x05, 0x10] then code.toNat else 0xFF,
      bench := if reset = false ∧ code.toNat = 0x10 then s.pins.bench else [] } })

/-- CAL_LOAD with a port on an active number, 1 to 1,024 entries of 20 ns to 1 s with no reserved bit that add up to
a cycle of 1 µs to 1 s, a CAPO below the cycle, a 64-byte aligned address and no swap pending writes the port's bank
that is not active and completes with its number and the count. CAL_SWAP for one port that is ready and has no swap
pending, without AT, sets the swap of that port to the first cycle start at or after the command's fetch and waits.
At that instant the bank that was not active becomes active and SWAPS rises by 1. A fret boundary shows the entry in
force, and so does each enabled port once the calendar base has passed. PT_CAL_CFG written by the active host
enables the calendar of a port with an active bank, disables it with EN = 0, and with EN = 1 and no active bank sets
CFG_ERR and leaves it disabled. [Derived from R410, R411, R412, R413, R414, R415, R433] -/
def Obligations.CalendarsLoadSwapAndShow : Prop :=
  (∀ p (n : Fin 64) data c s,
    runs s p n 0x48 [named 8 2 0x1FF, whole 10 2, named 12 4 0x3FFFFFFF, named 16 4 0x3FFFFFFF, whole 20 4, whole 24 8]
      c = true → s.inactive (c.arg 8 2) = false → 1 ≤ c.arg 10 2 → c.arg 10 2 ≤ 1024 → 1000 ≤ c.arg 16 4 →
    c.arg 16 4 ≤ 1000000000 → c.arg 24 8 % 64 = 0 →
    (∀ i < c.arg 10 2, fretReservedOk data i = true ∧ 20 ≤ (readFret data i).dur ∧ (readFret data i).dur ≤ 1000000000) →
    (((List.range (c.arg 10 2)).map (readFret data)).map Fret.dur).sum = c.arg 16 4 → c.arg 12 4 < c.arg 16 4 →
    (s.cal (c.arg 8 2)).pending = false →
    exec (.calLoad p n data) s = .next ((s.setCal (c.arg 8 2) ((s.cal (c.arg 8 2)).setBank (s.cal (c.arg 8 2)).idle
      { frets := (List.range (c.arg 10 2)).map (readFret data), cycle := c.arg 16 4, capo := c.arg 12 4,
        tag := c.arg 20 4 })).complete c .ok (s.cal (c.arg 8 2)).idle (c.arg 10 2))) ∧
  (∀ p (n : Fin 64) c s, runs s p n 0x49 [named 8 2 0x1FF, whole 10 1, named 11 1 1] c = true → c.arg 10 1 = 0 →
    c.arg 11 1 = 0 → s.inactive (c.arg 8 2) = false → (s.cal (c.arg 8 2)).ready = true →
    s.swapPorts 0 (c.arg 8 2) = [c.arg 8 2] → s.swapPending 0 (c.arg 8 2) = false →
    ∃ t, exec (.calSwap p n) s = .next t ∧ (t.cal (c.arg 8 2)).pending = true ∧
      (t.cal (c.arg 8 2)).swapAt = some ((s.cal (c.arg 8 2)).swapInstant (ceilNs c.fetched)) ∧
      (t.cal (c.arg 8 2)).act = (s.cal (c.arg 8 2)).act ∧
      t.time.calSwaps = s.time.calSwaps ++
        [{ cmd := c.serial, ref := c.fetched, scope := [c.arg 8 2], left := [c.arg 8 2], done := 0, lastAt := 0 }]) ∧
  (∀ (p : Port) at' s, (s.cal p).swapAt = some at' → at' ≤ s.devNs →
    ∃ t, exec (.calSwapInstant p) s = .next t ∧ (t.cal p).act = some (s.cal p).idle ∧ (t.cal p).swapAt = none ∧
      (t.cal p).swaps = satInc 16 (s.cal p).swaps) ∧
  (∀ (p : Port) i f e s, (s.cal p).fretNow s.devNs = some (i, f, e) →
    exec (.fretBoundary p) s = .next (s.setCal p { s.cal p with fret := i })) ∧
  (∀ p i f e s, s.calBase ≤ s.devNs → (s.cal p).en = true → (s.cal p).fretNow s.devNs = some (i, f, e) →
    ∃ t, exec .calendarBasePassed s = .next t ∧ t.cal p = { s.cal p with fret := i }) ∧
  (∀ (p : Port) (v : Word) s, s.served = true → s.inactive p = false → ((s.cal p).act ≠ none ∨ bit v.toNat 0 = false) →
    exec (.ptCalCfgWrite s.active p v) s = .next (s.setCal p { s.cal p with en := bit v.toNat 0, cfgErr := false })) ∧
  (∀ (p : Port) (v : Word) s, s.served = true → s.inactive p = false → (s.cal p).act = none → bit v.toNat 0 = true →
    exec (.ptCalCfgWrite s.active p v) s = .next (s.setCal p { s.cal p with en := false, cfgErr := true }))

/-- The active host's write of CAL_BASE_SEC stages the written half or both halves of the seconds and changes
nothing else. Its write of CAL_BASE_NS below 10^9 commits the staged seconds and those nanoseconds into keel
register 4, which then is not stuck, and changes nothing else. Its write of CAL_FRER_CTL with HISTORY from 2 to 32
stores the register's named bits and starts the stream anew. A recovering stream for which no frame has passed for
its RESET_MS takes any next frame, forgets its window and counts a reset. VERIFY of a port that is UP with EN = 1
and VERIFY_DIS = 0 takes the state that the exchange reached: verifying, with the instant at which it began; and any
other, failed only once it has been verifying for VERIFY_MS (0 taken as 128). [Derived from R7, R419, R425, R427,
R429, R432, R433, R522, R524] -/
def Obligations.CalendarBaseStreamsAndPreemption : Prop :=
  (∀ part (v : DWord) s, s.served = true → exec (.calBaseSecWrite s.active part v) s =
    .next { s with time := { s.time with stagedSec := match part with
                               | .low => setBits s.time.stagedSec 31 0 v.toNat
                               | .high => setBits s.time.stagedSec 63 32 v.toNat
                               | .both => v.toNat } }) ∧
  (∀ (v : Word) s, s.served = true → v.toNat < 1000000000 →
    ∃ t, exec (.calBaseNsWrite s.active v) s = .next t ∧ t.calBase = s.time.stagedSec * 1000000000 + v.toNat ∧
      t.flt.keel4.stuck = false ∧ t = { s with flt := { s.flt with keel4 := t.flt.keel4 } }) ∧
  (∀ (i : Fin 1024) (v : Word) s, s.served = true → 2 ≤ bits v.toNat 9 4 → bits v.toNat 9 4 ≤ 32 →
    exec (.calFrerCtlWrite s.active i v) s = .next ((s.wr (0x504000 + 16 * i.val) (v.toNat % 2 ^ 19)).setFrer i Frer.zero)) ∧
  (∀ (i : Fin 1024) at' s, (s.frer i).lastPass = some at' → bits (s.rd (0x504000 + 16 * i.val)) 1 0 = 2 →
    (s.frer i).takeAny = false → bits (s.rd (0x504004 + 16 * i.val)) 15 0 * 1000000 ≤ s.now - at' →
    exec (.frerResetTimer i) s = .next ((s.setFrer i { s.frer i with takeAny := true, seen := [] }).frerCount i 5)) ∧
  (∀ (p : Port) s, bit (s.rd (ptReg p 0x1C0)) 0 = true → bit (s.rd (ptReg p 0x1C0)) 1 = false → (s.pt p).state = .up →
    exec (.preemptVerify p 2) s = .next { s with
      time := { s.time with verify := s.time.verify.set 0 p 2, verifyAt := s.time.verifyAt.set 0 p s.now } }) ∧
  (∀ (p : Port) (x : Fin 5) s, bit (s.rd (ptReg p 0x1C0)) 0 = true → bit (s.rd (ptReg p 0x1C0)) 1 = false →
    (s.pt p).state = .up → x ≠ 2 → (x = 4 → s.time.verify.get 0 p = 2 ∧
      (if bits (s.rd (ptReg p 0x1C0)) 18 12 = 0 then 128 else bits (s.rd (ptReg p 0x1C0)) 18 12) * 1000000
        ≤ s.now - s.time.verifyAt.get 0 p) →
    exec (.preemptVerify p x) s = .next { s with time := { s.time with verify := s.time.verify.set 0 p x } })

/-- With no slew under way and the registers in canonical form: SET_GO alone sets the active engine to the staged
seconds and nanoseconds (below 10^9) and moves the other by the same amount, counts being held modulo 2^64 s. ADJ_GO
alone with an offset of at most 2 s either starts a slew of that offset, the engines standing as they were (ADJ_SLEW
= 1), or moves both engines by it at once (ADJ_SLEW = 0). A slew that has no offset left ends. TIME_FREQ takes a
correction of at most 500 ppm either way; one beyond it sets the error flag and changes nothing else. [Derived from
R392, R393, R394, R395, R431] -/
def Obligations.DeviceTimeIsAdjusted : Prop :=
  (∀ (v : Word) s, Canonical s → s.served = true → bit v.toNat 0 = true → bit v.toNat 1 = false → s.time.busy = false →
    s.rd 0x60028 < 1000000000 →
    ∃ t, exec (.timeSetGo s.active v) s = .next t ∧ t.devTime = (s.rd64 0x60020 * 1000000000 + s.rd 0x60028) * 65536 ∧
      ∀ e, (t.te e).t = teMove (s.te e).t (((s.rd64 0x60020 * 1000000000 + s.rd 0x60028) * 65536 : Nat) - s.devTime)) ∧
  (∀ (v : Word) s, Canonical s → s.served = true → bit v.toNat 0 = false → bit v.toNat 1 = true → bit v.toNat 2 = true →
    s.time.busy = false → (signed 64 (s.rd64 0x60018)).natAbs ≤ 2 * 1000000000 * 65536 →
    ∃ t, exec (.timeAdjGo s.active v) s = .next t ∧ t.time.busy = true ∧
      t.time.slewLeft = signed 64 (s.rd64 0x60018) * 1000000000 ∧ ∀ e, t.te e = s.te e) ∧
  (∀ (v : Word) s, Canonical s → s.served = true → bit v.toNat 0 = false → bit v.toNat 1 = true → bit v.toNat 2 = false →
    s.time.busy = false → (signed 64 (s.rd64 0x60018)).natAbs ≤ 2 * 1000000000 * 65536 →
    ∃ t, exec (.timeAdjGo s.active v) s = .next t ∧ t.time.busy = false ∧
      ∀ e, (t.te e).t = teMove (s.te e).t (signed 64 (s.rd64 0x60018))) ∧
  (∀ s, s.time.busy = true → s.time.slewLeft = 0 →
    exec .slewEnd s = .next { s with time := { s.time with busy := false } }) ∧
  (∀ (v : Word) s, s.served = true → (signed 32 v.toNat).natAbs ≤ 2048000000 →
    exec (.timeFreqWrite s.active v) s = .next (s.setReg 0x60014 v)) ∧
  (∀ (v : Word) s, s.served = true → 2048000000 < (signed 32 v.toNat).natAbs →
    exec (.timeFreqWrite s.active v) s = .next { s with time := { s.time with err := true } })

/-- A counter fault of the running standby engine spoils its parity; of the running active engine with the standby
eligible and keel register 1 not stuck it makes the standby active. TE-A, eligible for 10 s and the time that
eligibility takes, becomes active again. A tracking step adds what the standby engine has drifted since the last
one; while its PLL and reference are judged stable it then takes the active engine's count and good parity where it
differs by more than 1 µs, its parity is bad or its PLL has been lost, and else moves toward it by the given amount
and never past it. An output enabled from EN = 0 with settings that keep R403 and a start that has not passed a
single pulse arms its next rise. A due fall drives the inactive level and a due rise the active one. A selected edge
of an input at least 1 µs after the last capture stores device time and counts one capture and one edge. [Derived
from R391, R403, R404, R405, R539, R540, R541] -/
def Obligations.TimeEnginesAndPins : Prop :=
  (∀ s, (s.te s.activeTe.peer).run = true → (s.te s.activeTe.peer).parity = true →
    exec (.teCounterFault s.activeTe.peer) s =
      .next (s.setTe s.activeTe.peer { s.te s.activeTe.peer with parity := false, okSince := none })) ∧
  (∀ s, (s.te s.activeTe).run = true → (s.te s.activeTe).parity = true → s.flt.keel1.stuck = false →
    (s.setTe s.activeTe { s.te s.activeTe with parity := false, okSince := none }).teElig s.activeTe.peer = true →
    ∃ t, exec (.teCounterFault s.activeTe) s = .next t ∧ t.activeTe = s.activeTe.peer ∧
      (t.te s.activeTe).parity = false ∧ t.time.switches = satInc 16 s.time.switches) ∧
  (∀ s at', s.activeTe = .b → s.teElig .a = true → s.time.a.okSince = some at' → at' + 10001000000 ≤ s.now →
    s.flt.keel1.stuck = false → ∃ t, exec .teRevert s = .next t ∧ t.activeTe = .a) ∧
  (∀ drift move s, (s.te s.activeTe.peer).run = true → (s.te s.activeTe).run = true → s.teClock s.activeTe.peer = true →
    let x := s.te s.activeTe.peer
    (65536000 < ((teMove x.t drift : Int) - (s.te s.activeTe).t).natAbs ∨ x.parity = false ∨ x.behind = true) →
    ∃ t, exec (.teTrack ⟨drift, move⟩) s = .next t ∧ (t.te s.activeTe.peer).t = (s.te s.activeTe).t ∧
      (t.te s.activeTe.peer).parity = true ∧ (t.te s.activeTe.peer).behind = false) ∧
  (∀ drift move s, (s.te s.activeTe.peer).run = true → (s.te s.activeTe).run = true → s.teClock s.activeTe.peer = true →
    let x := s.te s.activeTe.peer
    let d : Int := (teMove x.t drift : Int) - (s.te s.activeTe).t
    d.natAbs ≤ 65536000 → x.parity = true → x.behind = false →
    ∃ t, exec (.teTrack ⟨drift, move⟩) s = .next t ∧ (t.te s.activeTe.peer).t =
      teMove (teMove x.t drift) (if d < 0 then (min move d.natAbs : Nat) else -(min move d.natAbs : Nat))) ∧
  (∀ (i : Fin 8) (v : Word) s, Canonical s → s.served = true → bit v.toNat 0 = true → (s.timeOut i).en = false →
    pulseOk (s.rd (outReg i 8)) (s.rd (outReg i 0xC)) (s.rd (outReg i 0x10)) = true →
    (s.rd (outReg i 0xC) = 0 → s.devTime ≤ (s.rd64 (outReg i 0) * 1000000000 + s.rd (outReg i 8)) * 65536) →
    ∃ t, exec (.timeOutEnable s.active i v) s = .next t ∧ (t.timeOut i).en = true ∧ (t.timeOut i).err = false ∧
      (t.timeOut i).invert = bit v.toNat 1 ∧ (t.timeOut i).width = s.rd (outReg i 0x10) ∧
      (t.timeOut i).next = some (firstRise (s.rd64 (outReg i 0) * 1000000000 + s.rd (outReg i 8)) (s.rd (outReg i 0xC))
        s.devTime)) ∧
  (∀ (i : Fin 8) at' s, (s.timeOut i).en = true → (s.timeOut i).fall = some at' → at' ≤ s.devTime →
    ∃ t, exec (.pulseEdge i) s = .next t ∧ t.out = .pulse i (s.timeOut i).invert :: s.out ∧ (t.timeOut i).fall = none) ∧
  (∀ (i : Fin 8) (at' : Nat) s, (s.timeOut i).en = true → (s.timeOut i).fall = none → (s.timeOut i).next = some at' →
    at' * 65536 ≤ s.devTime →
    ∃ t, exec (.pulseEdge i) s = .next t ∧ t.out = .pulse i (!(s.timeOut i).invert) :: s.out ∧
      (t.timeOut i).fall = some ((at' + (s.timeOut i).width) * 65536)) ∧
  (∀ (j : Fin 4) rising s, bit (s.timeInCtl j) (if rising then 0 else 1) = true →
    (∀ at', (s.timeIn j).lastAt = some at' → 1000 ≤ s.now - at') →
    ∃ t, exec (.timeInEdge j rising) s = .next t ∧ (t.timeIn j).cap = s.devTime ∧
      (t.timeIn j).captures = ((s.timeIn j).captures + 1) % 2 ^ 16 ∧
      (t.timeIn j).count = ((s.timeIn j).count + 1) % 2 ^ 32)

/-- BPM_ALLOC of one extent without TEST from a pool that can serve it, with room in the shared space, an 8-byte
aligned address and fewer than 4,096 extents held, enters a free extent with the host's tag charged to the shared
space, writes its handle and completes with RESULT0 1, where no other request of the cycle wins an extent. Of COUNT
extents that can all be had it completes with COUNT, every arbitration lost counted. BPM_FREE of distinct listed
handles whose records, once read, all pass the checks with the host's tag frees each and completes with their
number; ALL_HOST reads the records of the host's extents and frees every one. Freeing an extent in service with no
retirement pending on its tiles releases its charge, removes its record and puts it on its free list, and changes
nothing else. BPM_COMMIT.GO by the active host in CONFIGURE (or in DRAIN with the buffer empty), with no extent of
the host and a layout that fits the live tiles, starts the commit; its end lays out the pools with every record
gone, then applies the retirements still pending. Each works out the pauses anew. [Derived from R308, R313, R315,
R316, R322, R323, R324, R325] -/
def Obligations.HostTakesAndFreesExtents : Prop :=
  (∀ p (n : Fin 64) picks failed c h s,
    runs s p n 0x68 [named 8 1 3, named 9 1 3, whole 10 2, whole 16 8] c = true → c.arg 10 2 = 1 → c.arg 8 1 ≤ 3 →
    c.arg 16 8 % 8 = 0 → bit (c.arg 9 1) 1 = false → s.buf.hostCnt < 4096 → s.poolServes (c.arg 8 1) false = true →
    ((s.buf.used + poolSize (c.arg 8 1) : Nat) : Int) ≤ s.sharedSpace →
    (picks.getD 0 Draw.zero).lost = [] →
    s.buf.hand (c.arg 8 1) (picks.getD 0 Draw.zero).pos = some h → hPool h = c.arg 8 1 →
    exec (.bpmAlloc p n picks failed) s =
      .next (((((s.enterExt h 0x3FF .host []).bpmCount 2 0).hostData c (c.arg 16 8) (toLE 4 h)).complete c .ok 1 0).pfcUpdate)) ∧
  (∀ p (n : Fin 64) picks failed c hs t l s,
    runs s p n 0x68 [named 8 1 3, named 9 1 3, whole 10 2, whole 16 8] c = true → 1 ≤ c.arg 10 2 → c.arg 10 2 ≤ 64 →
    c.arg 16 8 % 8 = 0 → s.buf.hostCnt + c.arg 10 2 ≤ 4096 →
    s.hostTakes (bit (c.arg 9 1) 0) (c.arg 8 1) picks (c.arg 10 2) = (some (hs, t), l) →
    exec (.bpmAlloc p n picks failed) s =
      .next (if bit (c.arg 9 1) 1 then
          (((t.testExtents hs failed).2.bpmCount 2 l).hostData c (c.arg 16 8) (hs.flatMap fun h => toLE 4 h)).complete c
            .ok (c.arg 10 2) (t.testExtents hs failed).1
        else ((t.bpmCount 2 l).hostData c (c.arg 16 8) (hs.flatMap fun h => toLE 4 h)).complete c .ok
          (c.arg 10 2) 0).pfcUpdate) ∧
  (∀ p (n : Fin 64) (handles : List Word) c (s s1 : State), runs s p n 0x69 [named 8 1 1, whole 10 2, whole 16 8] c = true →
    bit (c.arg 8 1) 0 = false → 1 ≤ c.arg 10 2 → c.arg 10 2 ≤ 64 → c.arg 16 8 % 8 = 0 → handles.length = c.arg 10 2 →
    handles.Nodup → s1 = handles.foldl (fun t h => t.readRecord h.toNat) s →
    (∀ h ∈ handles, s1.buf.check h.toNat 0x3FF = none) →
    exec (.bpmFree p n handles) s =
      .next (((handles.foldl (fun t h => t.freeExt h.toNat) s1).complete c .ok (c.arg 10 2) 0).pfcUpdate)) ∧
  (∀ p (n : Fin 64) c (s s1 : State), runs s p n 0x69 [named 8 1 1] c = true → bit (c.arg 8 1) 0 = true →
    s1 = s.buf.hostExts.foldl (fun t h => t.readRecord h) s →
    exec (.bpmFreeAllHost p n) s =
      .next (((s1.buf.hostExts.foldl (fun t h => t.freeExt h) s1).complete c .ok s1.buf.hostExts.length 0).pfcUpdate)) ∧
  (∀ h (s : State), s.buf.withdrawn.get 0 h = 0 → (∀ e ∈ s.buf.retire, e.1 ∉ tilesOf h) →
    s.freeExt h = { s with
      buf := { s.buf.uncharge (hSize h) (s.buf.ext.get Ext.none h).charge with
        ext := s.buf.ext.erase h, onList := s.buf.onList.erase h } }) ∧
  (∀ (v : Word) s b, s.served = true → bit v.toNat 0 = true → s.buf.busy = false → s.buf.hostCnt = 0 →
    (s.mode = .configure ∨ (s.mode = .drain ∧ s.bufEmpty = true)) →
    b = s.buf.withCounts [s.wantCnt 0, s.wantCnt 1, s.wantCnt 2, s.wantCnt 3] →
    b.pooled ≤ ({ b with withdrawn := b.layWithdrawn }).live →
    exec (.bpmCommit s.active v) s = .next { s with buf := { s.buf with
      busy := true, next := [s.wantCnt 0, s.wantCnt 1, s.wantCnt 2, s.wantCnt 3], commitErr := false } }) ∧
  (∀ s, s.buf.busy = true →
    ∃ b, exec .bpmCommitDone s = .next (({ s with buf := b }).retirePending.pfcUpdate) ∧ b.busy = false ∧ b.ext = [] ∧
      b.cnt0 = s.buf.next.getD 0 0 ∧ b.cnt1 = s.buf.next.getD 1 0 ∧ b.cnt2 = s.buf.next.getD 2 0 ∧
      b.cnt3 = s.buf.next.getD 3 0 ∧ b.withdrawn = b.layWithdrawn)

/-- A sweep due in FORWARD, DRAIN or PARK with the Sheepdog in service and none running starts at that instant and
repairs the free lists, which changes nothing where no upset has touched them; one due while another runs is skipped
and logged. The end of a sweep reads every record, marks every extent that something names, counts the sweep, and,
where no extent is then a leak, changes nothing else but the pauses it works out anew. A sweep running when MODE is
written OFF ends with no effect of its own. A leak in RECLAIM mode is freed and counted, in REPORT mode its record
stays. [Derived from R326, R327, R328] -/
def Obligations.SheepdogSweeps : Prop :=
  (∀ ups s, (s.mode = .forward ∨ s.mode = .drain ∨ s.mode = .park) → bits s.sheepCfg 1 0 ≠ 0 →
    (s.upset ups).buf.running = false →
    s.sweepDue = true → exec (.sheepdogSweep ups) s =
      .next ({ s.upset ups with buf := { (s.upset ups).buf with
        running := true, startAt := some s.now, prevAt := (s.upset ups).buf.sweepAt, sweepAt := s.now } }).audit) ∧
  (∀ s : State, s.buf.onList = [] → s.buf.offList = [] → s.audit = s) ∧
  (∀ s : State, s.audit.buf.onList = [] ∧ s.audit.buf.offList = []) ∧
  (∀ ups s, (s.mode = .forward ∨ s.mode = .drain ∨ s.mode = .park) → bits s.sheepCfg 1 0 ≠ 0 → s.sweepDue = true →
    (s.upset ups).buf.running = true → exec (.sheepdogSweep ups) s =
      .next (({ s.upset ups with buf.startAt := some s.now }).raise 0x702 4 .ce
        (packItems [(8, satTo 255 ((s.now - (s.upset ups).buf.sweepAt) / 1000000))]))) ∧
  (∀ (s s0 : State) ext t, s.buf.running = true → (s.mode = .forward ∨ s.mode = .drain ∨ s.mode = .park) →
    bits s.sheepCfg 1 0 ≠ 0 → s0 = s.buf.ext.foldl (fun t e => t.readRecord e.1) s →
    ext = s0.buf.ext.map (fun e => (e.1, { e.2 with mark := e.2.mark % 2 * 2 + b2n (s0.namedExts.contains e.1) })) →
    t = { s0 with buf := { s0.buf with ext := ext, running := false, sweeps := (s.buf.sweeps + 1) % 65536,
                                       lastMs := satTo 255 ((s.now - s.buf.sweepAt) / 1000000) } } →
    (∀ e ∈ ext, t.buf.isLeak e.1 e.2 = false) → exec .sheepdogSweepEnd s = .next t.pfcUpdate) ∧
  (∀ s, s.buf.running = true → bits s.sheepCfg 1 0 = 0 →
    exec .sheepdogSweepEnd s = .next { s with buf.running := false }) ∧
  (∀ (s : State) h e, bits s.sheepCfg 1 0 = 2 → s.judgeLeak h e = ((s.freeExt h).bpmCount 11 1).follow 0x702 1 .ce
    (packItems [(32, h), (12, e.owner), (16, (s.ms16 + 65536 - e.allocMs) % 65536)]) false) ∧
  (∀ (s : State) h e, bits s.sheepCfg 1 0 = 1 → (s.judgeLeak h e).buf = s.buf)

/-- From no history, 64 passing windows in a row make a judge stable and 63 do not; 4 failing windows in a row make
a stable judge lost and 3 do not. A judging window of a clock while the monitors run steps that clock's judge by
whether the count lies within 500 ppm and one cycle of the expected one; a harp's clock so judged lost is logged and
starts the harp's ports again. A required clock not stable 20 ms into BOOT enters SAFE with result 6. Outside BOOT a
usable measurement moves the trim code by at most one step, stores the error cut to 12 bits, and is locked within
100 ppm. No usable measurement for 10 ms clears the lock and logs the loss. The active host's write of CLK_PIPE with
a target from 8 to 16 stores it. [Derived from R38, R492, R493, R494, R495, R496, R497] -/
def Obligations.ClocksAreJudgedAndTrimmed : Prop :=
  ((Nat.repeat (Judge.step true) 64 Judge.zero).stable = true ∧
    (∀ k < 64, (Nat.repeat (Judge.step true) k Judge.zero).stable = false) ∧
    (∀ j : Judge, j.stable = true → j.fail = 0 →
      (Nat.repeat (Judge.step false) 3 j).stable = true ∧ (Nat.repeat (Judge.step false) 4 j).stable = false)) ∧
  (∀ (i : Fin 32) count pick m s, s.nominal2 i = some m → s.clocksRun = true →
    s.clk.judge.wf (fun _ => Judge.zero) = true →
    ((s.judge i).step (windowPasses m count)).stable = (s.judge i).stable →
    ∃ t, exec (.clockJudgeWindow i count pick) s = .next t ∧ t.judge i = (s.judge i).step (windowPasses m count) ∧
      t.clk.trimCode = s.clk.trimCode ∧ t.clk.pipeCur = s.clk.pipeCur) ∧
  (∀ (i : Fin 32) count pick s, 16 ≤ i.val → s.clocksRun = true → windowPasses 1062500 count = false →
    (s.judge i).stable = true → 3 ≤ (s.judge i).fail →
    exec (.clockJudgeWindow i count pick) s = .next ((((s.judged i count false Judge.zero).clkRec 7 i).harpLost
      (i.val - 16) pick).pickRef.clocksDone.noteHealth s)) ∧
  (∀ i rest s, s.clocksMissing = i :: rest → s.mode = .boot → s.md.phase = .clocks → s.md.bootAt + 20000000 ≤ s.now →
    s.pins.resetN = true → s.flt.frozen = false →
    ∃ t, exec .bootClock s = .next t ∧ t.mode = .safe ∧ t.md.bootResult = 6) ∧
  (∀ err s, s.mode ≠ .boot → s.clocksRun = true → s.trimUsable = true →
    ∃ t, exec (.oscillatorTrim err true) s = .next t ∧ t.clk.trimErr = sat12 err ∧
      t.clk.trimLocked = decide (err.natAbs ≤ 100) ∧ t.clk.trimLost = false ∧ t.clk.trimCode ≤ 4095 ∧
      (s.clk.trimCode ≤ 4095 → t.clk.trimCode ≤ s.clk.trimCode + 1 ∧ s.clk.trimCode ≤ t.clk.trimCode + 1)) ∧
  (∀ s, s.clocksRun = true → s.clk.trimLost = false → s.clk.trimGood + 10000000 ≤ s.now →
    s.md.bootAt + 10000000 ≤ s.now →
    exec .trimSrcLost s =
      .next (({ s with clk := { s.clk with trimLost := true, trimLocked := false } }).clkRec 9 Config.oscillator)) ∧
  (∀ (v : Word) s, s.served = true → 8 ≤ bits v.toNat 4 0 → bits v.toNat 4 0 ≤ 16 →
    exec (.clkPipeWrite s.active v) s = .next ((s.wr 0x50008 (setBits (s.rd 0x50008) 4 0 (bits v.toNat 4 0))).capDone))

/-- DIRECT_WRITE without INVALIDATE writes a result that keeps R254 and is no ECMP result, with INVALIDATE it
removes the entry; DIRECT_READ then completes with bits 31 to 0 of the result in RESULT0 and the rest with VALID in
RESULT1, and with 0 and 0 for an entry that is not valid, no injection being armed for it. ECMP_GROUP_WRITE with a
size from 1 to 4,096 inside the member table writes the group in each named slice. ECMP_MEMBER_WRITE of 1 to 256
words that keep R254 inside the table from a 4-byte aligned address writes each named slice's members. [Derived from
R254, R279, R280, R295, R297] -/
def Obligations.DirectAndEcmpTables : Prop :=
  (∀ p (n : Fin 64) c s, runs s p n 0x18 [whole 8 2, named 10 1 1, named 12 5 0xFFFFFFFFF] c = true →
    bit (c.arg 10 1) 0 = false → resultOk (c.arg 12 5) = true → resKind (c.arg 12 5) ≠ 2 →
    ∃ t : State, exec (.directWrite p n) s = .next (t.complete c .ok 0 0) ∧ t.direct (c.arg 8 2) = some (c.arg 12 5) ∧
      ∀ a, a ≠ c.arg 8 2 → t.direct a = s.direct a) ∧
  (∀ p (n : Fin 64) c s, runs s p n 0x18 [whole 8 2, named 10 1 1] c = true → bit (c.arg 10 1) 0 = true →
    s.tab.direct.wf (fun _ => 0) = true →
    ∃ t : State, exec (.directWrite p n) s = .next (t.complete c .ok 0 0) ∧ t.direct (c.arg 8 2) = none ∧
      ∀ a, a ≠ c.arg 8 2 → t.direct a = s.direct a) ∧
  (∀ p (n : Fin 64) c s, runs s p n 0x19 [whole 8 2] c = true →
    (∀ i ∈ s.flt.inj, ¬(i.source = 0x901 ∧ i.checker = 0 ∧ (i.index = c.arg 8 2 ∨ i.index = 0xFFFFFFFF))) →
    exec (.directRead p n) s = .next (match s.direct (c.arg 8 2) with
      | some r => s.complete c .ok (r % 2 ^ 32) (r / 2 ^ 32 + 16)
      | none => s.complete c .ok 0 0)) ∧
  (∀ p (n : Fin 64) c s,
    runs s p n 0x40 [whole 8 2, named 10 2 0xFFF, named 12 4 0x3FFFF, whole 16 2, named 18 1 3, named 19 1 1] c = true →
    1 ≤ c.arg 16 2 → c.arg 16 2 ≤ 4096 → c.arg 12 4 + c.arg 16 2 ≤ 262144 →
    exec (.ecmpGroupWrite p n) s = .next (((maskSlices (c.arg 8 2)).foldl (fun t m => t.onSlice m fun y =>
      { y with groups := y.groups.set Group.zero (c.arg 10 2)
                 { base := c.arg 12 4, size := c.arg 16 2, hprof := c.arg 18 1, valid := bit (c.arg 19 1) 0 },
               ecmpBad := y.ecmpBad.filter (· ≠ c.arg 10 2) }) s).complete c .ok 0 0)) ∧
  (∀ p (n : Fin 64) (words : List Word) c s, runs s p n 0x41 [whole 8 2, whole 12 4, whole 16 2, whole 24 8] c = true →
    1 ≤ c.arg 16 2 → c.arg 16 2 ≤ 256 → c.arg 12 4 + c.arg 16 2 ≤ 262144 → c.arg 24 8 % 4 = 0 →
    words.length = c.arg 16 2 → (∀ w ∈ words, memberOk w.toNat = true) →
    exec (.ecmpMemberWrite p n words) s = .next (((maskSlices (c.arg 8 2)).foldl (fun t m => t.onSlice m fun y =>
      { y with members := ((words.map BitVec.toNat).foldl
                 (fun (acc : Nat × SMap Nat) w => (acc.1 + 1, acc.2.set 0 acc.1 w)) (c.arg 12 4, y.members)).2,
               ecmpBad := y.ecmpBad.filter fun b =>
                 !(decide (4096 + c.arg 12 4 ≤ b) && decide (b < 4096 + c.arg 12 4 + c.arg 16 2)) }) s).complete c .ok 0 0))

/-- A chosen frame whose first tile is complete, whose record names its owner, that is not late and whose tiles read
clean leaves while the buffer is live: from a port that does not recirculate it is sent and its port's pauses are
worked out anew, from a recirculation port it is written anew for a further pass. The editor leaves a frame that the
host asked to be sent as written, and a frame without ECN mark, DEI mark, R-TAG or pop, as it is. While the buffer
is live the next CPU queue's head frame, of its owner and with tiles that read clean, is written to its ring's
posted buffer when that ring is enabled, has one, and the port issues requests; on a disabled ring it is dropped and
the ring counts it. A well-formed descriptor of the next transmit ring in FORWARD whose frame finds an extent queues
the frame at its port, or injects it as a packet of the port, and is written back with OK. [Derived from R107, R108,
R109, R110, R111, R302, R343, R347, R352, R388] -/
def Obligations.FramesLeaveAndReachTheHost : Prop :=
  (∀ (p : Port) ups t pick (s s1 u : State), (s.upset ups).core.tx.find? (fun e => e.1 = p.val) = some (p.val, t) →
    s.bufLive = true → t.d.tileAt ≤ s.now →
    s1 = ({ s.upset ups with core.tx := (s.upset ups).core.tx.erase p.val }).settleRefunds →
    s1.buf.check t.d.h t.d.owner = none → t.d.late = .none →
    s1.readTiles t.d.h t.d.owner (s1.dataOf t.d.h).length = (none, u) →
    exec (.frameEgress p ups pick.pos pick.lost) s = .next (if u.isRecirc p
      then (u.recirculate t p pick (body (s1.dataOf t.d.h))).pfcUpdate
      else (u.sendFrame t p pick false (s1.dataOf t.d.h)).pfcUpdate)) ∧
  (∀ (s : State) x b, x.d.plain = true → s.editFrame x b = { bytes := b, act := .none, ovf := false }) ∧
  (∀ d b, d.ecn = false → d.yelDei = false → d.rtag = none → d.pop = false → editPass d b = b) ∧
  (∀ desc ups pick q d rest (s s1 t u : State), s.bufLive = true → s1 = (s.upset ups).bringCopies pick →
    s1.nextCpu = some q → s1.queue (cpuKey q) = d :: rest → t = { s1.setQueue (cpuKey q) rest with sch.cpuTurn := q } →
    t.buf.check d.h d.owner = none → (t.ring t.active (128 + q)).en = true →
    (t.ring t.active (128 + q)).ptr ≠ (t.ring t.active (128 + q)).prod → t.canWrite t.active = true →
    t.readTiles d.h d.owner (match d.cut with
      | some m => satTo m (t.dataOf d.h).length
      | none => (t.dataOf d.h).length) = (none, u) →
    exec (.cpuQueueService desc ups pick) s = .next ((((u.receiveBack (128 + q) d (match d.cut with
      | some m => (body (t.dataOf d.h)).take m
      | none => body (t.dataOf d.h)) (decide (d.late ≠ .none)) desc).done d).2).pfcUpdate)) ∧
  (∀ desc ups pick q d rest (s s1 t : State), s.bufLive = true → s1 = (s.upset ups).bringCopies pick →
    s1.nextCpu = some q → s1.queue (cpuKey q) = d :: rest → t = { s1.setQueue (cpuKey q) rest with sch.cpuTurn := q } →
    t.buf.check d.h d.owner = none → (t.ring t.active (128 + q)).en = false →
    exec (.cpuQueueService desc ups pick) s = .next ((((t.setRing t.active (128 + q)
      { t.ring t.active (128 + q) with drop := satInc 32 (t.ring t.active (128 + q)).drop }).done d).2).pfcUpdate)) ∧
  (∀ desc frame pick i p b h s t, s.nextTx = some i → s.canWrite s.active = true → s.mode = .forward →
    p = le desc 10 2 → p < 512 → s.inactive p = false → bit (byteAt desc 12) 3 = false →
    b = (if bit (byteAt desc 13) 0 then withFcs (cut frame 0 (le desc 8 2)) else cut frame 0 (le desc 8 2)) →
    txLenOk (bit (byteAt desc 13) 0) (le desc 8 2) = true →
    s.take (some b.length) false none (classKey p (byteAt desc 12 % 8)) (tag 1 i) pick b = (.got h, t) →
    ∃ u, u = ((t.txPlace (t.txDesc p (byteAt desc 12 % 8)
          (if bit (byteAt desc 13) 2 then some (le desc 14 2 % 2 ^ 15) else none)
          (if bit (byteAt desc 13) 1 then some (le desc 16 4) else none) (tag 1 i) h b.length) pick).pfcUpdate).txBack i .ok ∧
      exec (.transmitDescriptor desc frame pick) s = .next { u with sch := { u.sch with txTurn := i } }) ∧
  (∀ desc frame pick i p b h s t, s.nextTx = some i → s.canWrite s.active = true → s.mode = .forward →
    p = le desc 10 2 → p < 512 → s.inactive p = false → bit (byteAt desc 12) 3 = true →
    (s.slice (p / 32)).parked = false →
    b = (if bit (byteAt desc 13) 0 then withFcs (cut frame 0 (le desc 8 2)) else cut frame 0 (le desc 8 2)) →
    txLenOk (bit (byteAt desc 13) 0) (le desc 8 2) = true →
    s.take (some b.length) (s.preClass p b) (some (p * 8 + s.pgOf p (pcpOf b))) (classKey p 0) (tag 1 i) pick b
      = (.got h, t) →
    ∃ k u, u = ((t.addPkt k).pfcUpdate).txBack i .ok ∧
      exec (.transmitDescriptor desc frame pick) s = .next { u with sch := { u.sch with txTurn := i } } ∧
      k.inject = true ∧ k.h = some h ∧ k.via = p ∧ k.bytes = b)

/-- In CONFIGURE the active host's write of either half of an endpoint profile that leaves it not valid, or keeping
R298, stores its named bits. With the table engine free, no migration, no injection armed and a good key: EP_INSERT
of a key that is not held, with a free slot in a bucket of it, puts the entry there and completes with its location;
of one that is held, with REPLACE, it puts the entry in its place. EP_DELETE of a key that is held, its segment
having nothing in the stash, clears its place alone. EP_READ by key writes the entry's block and completes with its
location. A scrub that finds nothing, with nothing armed, changes nothing; a single-bit error found is counted and
logged, a double-bit error of a location in the stash clears it. [Derived from R254, R256, R262, R264, R265, R266,
R267, R268, R269, R298] -/
def Obligations.EndpointKeys : Prop :=
  (∀ (high : Bool) (t : Fin 16) (v : Word) s, s.mode = .configure →
    (if high then bit v.toNat 13 = false ∨ profOk (s.rd (0xB0180 + 4 * t.val)) (v.toNat &&& 0x3FFF) = true
     else bit (s.rd (0xB01C0 + 4 * t.val)) 13 = false ∨
       profOk (v.toNat &&& 0x07FF07FF) (s.rd (0xB01C0 + 4 * t.val)) = true) →
    exec (.tblEpProfWrite s.active high t v) s = .next (if high then s.wr (0xB01C0 + 4 * t.val) (v.toNat &&& 0x3FFF)
      else s.wr (0xB0180 + 4 * t.val) (v.toNat &&& 0x07FF07FF))) ∧
  (∀ p (n : Fin 64) c e l s, runs s p n 0x10 [named 8 1 0xF, named 9 1 1, named 12 5 0xFFFFFFFFF, whole 24 25] c = true →
    s.tab.job = .idle → s.tab.mig = none → s.flt.inj = [] → s.keyBad c = false → resultOk (c.arg 12 5) = true →
    e = s.keyEntry c (c.arg 12 5) → s.epFind e = none → s.roomFor e (s.space e.seg) = some l →
    exec (.epInsert p n) s = .next ((s.epStore l e).complete c .ok (locWord l) 0)) ∧
  (∀ (s : State) l e, l < inStash → (s.epStore l e).epAt l = some e) ∧
  (∀ p (n : Fin 64) c l s, runs s p n 0x10 [named 8 1 0xF, named 9 1 1, named 12 5 0xFFFFFFFFF, whole 24 25] c = true →
    s.tab.job = .idle → s.tab.mig = none → s.flt.inj = [] → s.keyBad c = false → resultOk (c.arg 12 5) = true →
    s.epFind (s.keyEntry c (c.arg 12 5)) = some l → bit (c.arg 9 1) 0 = true →
    exec (.epInsert p n) s = .next ((s.epPut l (s.keyEntry c (c.arg 12 5))).complete c .ok (locWord l) 0)) ∧
  (∀ p (n : Fin 64) c l s, runs s p n 0x11 [named 8 1 0xF, whole 24 25] c = true → s.tab.job = .idle → s.tab.mig = none →
    s.flt.inj = [] → s.keyBad c = false → s.epFind (s.keyEntry c 0) = some l →
    (∀ x ∈ s.tab.stash, x.2.seg ≠ (s.keyEntry c 0).seg) →
    exec (.epDelete p n) s = .next ((s.epClear l).complete c .ok (locWord l) 0)) ∧
  (∀ p (n : Fin 64) c l s, runs s p n 0x12 [whole 9 1, whole 16 8, named 8 1 0xF, whole 24 25] c = true → c.arg 9 1 = 0 →
    c.arg 16 8 % 64 = 0 → s.tab.job = .idle → s.tab.mig = none → s.flt.inj = [] → s.keyBad c = false →
    s.epFind (s.keyEntry c 0) = some l →
    exec (.epRead p n) s = .next ((s.hostData c (c.arg 16 8) (s.epBlock l (s.epAt l))).complete c .ok (locWord l) 0)) ∧
  (∀ s, s.flt.inj = [] → exec (.epScrub []) s = .next s) ∧
  (∀ w s, s.flt.inj = [] → locOk w = true →
    exec (.epScrub [(w, .one)]) s = .next ((s.epCount 3).raiseX 0x900 1 .ce (packItems [(32, locWord (wordLoc w))]) false)) ∧
  (∀ w e s, s.flt.inj = [] → locOk w = true → inStash ≤ wordLoc w → s.epAt (wordLoc w) = some e →
    exec (.epScrub [(w, .two)]) s =
      .next (((s.epCount 4).raiseX 0x900 2 .uc (packItems [(32, locWord (wordLoc w))]) false).epClear (wordLoc w)))

/-- EP_SEG_REHASH of a segment without an option, with a spare and no migration, empties the spare and makes it the
segment's shadow under the new seeds, and waits. ABORT completes the running migration's command PARTIAL and itself
with OK and the cursor, and the migration stops. RESUME and REVERT of a stopped, unfinished migration continue it
under the new command, REVERT backward from bucket 0. EP_SEG_SWAP of the segment whose migration has finished maps
it to the shadow, stores the new seeds, frees the old physical segment's slots, makes it the spare, and completes
with the new and the spare segment; an old segment marked failed is retired instead and leaves no spare. [Derived
from R272, R274, R275, R276, R277] -/
def Obligations.SegmentRehash : Prop :=
  (∀ p (n : Fin 64) c sp s, runs s p n 0x13 [whole 8 1, named 9 1 7, whole 12 4, whole 16 4] c = true → c.arg 9 1 = 0 →
    c.arg 8 1 ≤ 15 → s.tab.mig = none → s.tab.spare = some sp →
    exec (.epSegRehash p n) s = .next (({ s with tab := { s.tab with
      ep := s.tab.ep.keep (fun k _ => decide (k / 2 ^ 20 ≠ sp)), spare := none,
      mig := some { seg := c.arg 8 1, shadow := sp, seed0 := c.arg 12 4, seed1 := c.arg 16 4, cursor := 0,
                    finished := false, cmd := some c.serial, back := false, stashed := 0, lostEnts := 0,
                    served := false } } }).wait c)) ∧
  (∀ p (n : Fin 64) c m x s, runs s p n 0x13 [whole 8 1, named 9 1 7] c = true → c.arg 9 1 = 1 → c.arg 8 1 ≤ 15 →
    s.tab.mig = some m → m.seg = c.arg 8 1 → m.cmd = some x →
    exec (.epSegRehashAbort p n) s = .next (((({ s with tab := { s.tab with mig := some { m with cmd := none } } }).completeSer
      x .partial' m.cursor m.result1)).complete c .ok m.cursor m.result1)) ∧
  (∀ p (n : Fin 64) c m s, runs s p n 0x13 [whole 8 1, named 9 1 7] c = true → c.arg 9 1 = 2 → c.arg 8 1 ≤ 15 →
    s.tab.mig = some m → m.seg = c.arg 8 1 → m.cmd = none → m.finished = false →
    exec (.epSegRehashResume p n) s = .next (({ s with tab := { s.tab with
      mig := some { m with cmd := some c.serial, back := false, served := false } } }).wait c)) ∧
  (∀ p (n : Fin 64) c m s, runs s p n 0x13 [whole 8 1, named 9 1 7] c = true → c.arg 9 1 = 4 → c.arg 8 1 ≤ 15 →
    s.tab.mig = some m → m.seg = c.arg 8 1 → m.cmd = none → m.finished = false →
    exec (.epSegRehashRevert p n) s = .next (({ s with tab := { s.tab with
      mig := some { m with cmd := some c.serial, back := true, cursor := 0, stashed := 0, served := false } } }).wait c)) ∧
  (∀ p (n : Fin 64) c m s, runs s p n 0x14 [whole 8 1] c = true → s.tab.mig = some m → m.seg = c.arg 8 1 →
    m.finished = true → s.tab.isFailed (s.segPhys (c.arg 8 1)) = false → s.regs.wf regReset = true →
    s.tab.segmap.wf (fun _ => 0) = true → m.seed0 < 2 ^ 32 → m.seed1 < 2 ^ 32 →
    ∃ t : State, exec (.epSegSwap p n) s = .next (t.complete c .ok m.shadow (s.segPhys (c.arg 8 1))) ∧
      t.segPhys (c.arg 8 1) = m.shadow ∧ t.space (c.arg 8 1) = m.space ∧ t.tab.mig = none ∧
      t.tab.spare = some (s.segPhys (c.arg 8 1)) ∧
      t.tab.ep = s.tab.ep.keep (fun k _ => decide (k / 2 ^ 20 ≠ s.segPhys (c.arg 8 1)))) ∧
  (∀ p (n : Fin 64) c m s, runs s p n 0x14 [whole 8 1] c = true → s.tab.mig = some m → m.seg = c.arg 8 1 →
    m.finished = true → s.tab.isFailed (s.segPhys (c.arg 8 1)) = true →
    ∃ t : State, exec (.epSegSwap p n) s = .next (t.complete c .ok m.shadow 0x1F) ∧ t.tab.mig = none ∧
      t.tab.spare = none ∧ t.tab.retired = s.tab.retired ||| 2 ^ s.segPhys (c.arg 8 1))

/-- A report of a source and code of the tables, other than the kennel's own, is raised with the class the tables
give; one the tables do not give changes nothing. With the collector not frozen the oldest pending report is
recorded under the next log number at the head of the history, and leaves the pending reports; when its class is FT
in a mode from BOOT to PARK, the device is in SAFE after it with the old mode in PREV and the record's cause in
CAUSE. With nothing pending, or the collector frozen, nothing is recorded. A junction comparator's trip in a mode
from BOOT to PARK is recorded at once, with its sensor, and enters SAFE; in another mode it is raised. A corrected
error in the collector's history or counts is counted; any other error of the collector in a mode from BOOT to PARK
marks the collector at fault, latches its record as the first one and enters SAFE with cause 6; in SAFE it marks and
latches alone. The active host clears FLT_FIRST_STAT, FLT_LOST and the counts, and nothing else. [Derived from R38,
R475, R500, R506, R507, R509, R510, R513, R514, R516] -/
def Obligations.ReportsBecomeRecords : Prop :=
  (∀ (src : BitVec 12) (code : Byte) (d : BitVec 63) k s, codeClass src.toNat code.toNat = some k →
    (src.toNat ≠ 0xC00 ∨ (code.toNat ≠ 1 ∧ code.toNat ≠ 2 ∧ code.toNat ≠ 6)) →
    exec (.faultReport src code d) s = .next (s.raise src.toNat code.toNat k d.toNat)) ∧
  (∀ (src : BitVec 12) (code : Byte) (d : BitVec 63) s, codeClass src.toNat code.toNat = none →
    exec (.faultReport src code d) s = .next s) ∧
  (∀ s r, s.flt.frozen = false → nextReport s.flt.pend = some r → r.cls ≠ .ft →
    ∃ t, exec .faultRecord s = .next t ∧ t.mode = s.mode ∧
      t.flt.hist = ({ r with number := nextNumber s.flt.last } :: s.flt.hist).take 2047 ∧
      t.flt.last = nextNumber s.flt.last ∧
      ((∀ x ∈ s.flt.follow, x.src ≠ r.src) → t.flt.pend = s.flt.pend.filter fun x => x.src ≠ r.src)) ∧
  (∀ s r, s.flt.frozen = false → nextReport s.flt.pend = some r → r.cls = .ft → safeFrom s.mode = true →
    ∃ t, exec .faultRecord s = .next t ∧ t.mode = .safe ∧ t.md.prev = s.mode ∧ t.md.cause = r.cause ∧
      t.flt.hist = ({ r with number := nextNumber s.flt.last } :: s.flt.hist).take 2047 ∧
      t.flt.last = nextNumber s.flt.last ∧ t.flt.pend = []) ∧
  (∀ s, s.flt.frozen = true ∨ s.flt.pend = [] → exec .faultRecord s = .next s) ∧
  (∀ (i : Fin 64) s, safeFrom s.mode = true → s.pins.resetN = true → s.flt.frozen = false →
    ∃ t, exec (.junctionComparatorTrip i) s = .next t ∧ t.mode = .safe ∧ t.md.prev = s.mode ∧
      t.flt.hist = (({ src := 0x400, code := 6, cls := .ft, injected := false, number := nextNumber s.flt.last,
                       time := s.devTime, seen := s.now, detail := packItems [(6, i.val)] } : Rec) :: s.flt.hist).take 2047 ∧
      t.flt.pend = []) ∧
  (∀ (i : Fin 64) s, safeFrom s.mode = false →
    exec (.junctionComparatorTrip i) s = .next (s.raise 0x400 6 .ft (packItems [(6, i.val)]))) ∧
  (∀ (part : Fin 5) s, s.pins.resetN = true → s.flt.inj = [] → 3 ≤ part.val →
    exec (.collectorFault part true) s = .next { s with flt := { s.flt with selfCe := satInc 8 s.flt.selfCe } }) ∧
  (∀ (part : Fin 5) corrected s, s.pins.resetN = true → s.flt.inj = [] → corrected = false ∨ part.val < 3 →
    safeFrom s.mode = true →
    ∃ t, exec (.collectorFault part corrected) s = .next t ∧ t.mode = .safe ∧ t.md.prev = s.mode ∧ t.md.cause = 6 ∧
      t.flt.selfFault = true ∧ t.flt.firstValid = true ∧
      t.flt.first = some { src := 0x300, code := 1, cls := .ft, injected := false, number := 0, time := s.devTime,
                           seen := s.now, detail := packItems [(3, part.val)] }) ∧
  (∀ (part : Fin 5) corrected s, s.pins.resetN = true → s.flt.inj = [] → corrected = false ∨ part.val < 3 → s.mode = .safe →
    exec (.collectorFault part corrected) s = .next { s with flt := { s.flt with
      selfFault := true, firstValid := true, raised := 0,
      later := if s.flt.firstValid then s.flt.later else satTo 0xFFFF s.flt.raised,
      first := some { src := 0x300, code := 1, cls := .ft, injected := false, number := 0, time := s.devTime,
                      seen := s.now, detail := packItems [(3, part.val)] } } }) ∧
  (∀ (v : Word) s, s.served = true → bit v.toNat 0 = true →
    exec (.fltFirstClear s.active v) s = .next { s with
      flt := { s.flt with firstValid := false, later := 0, raised := if s.flt.pend = [] then 0 else 1 } }) ∧
  (∀ (v : Word) s, s.served = true → bit v.toNat 0 = true →
    exec (.fltLostClear s.active v) s = .next { s with flt := { s.flt with lostValid := false, lostCount := 0 } }) ∧
  (∀ (v : Word) s, s.served = true → bit v.toNat 0 = true →
    exec (.clrCounts s.active v) s = .next { s with
      flt := { s.flt with srcCnt := [], classCe := 0, classUc := 0, classFt := 0, keelFix := 0, selfCe := 0,
                          coalesced := 0 } })

/-- A report raised while the collector runs is counted against its source and its class, becomes pending when its
source has none pending and else adds to COALESCED; with the collector frozen it is only counted. FAULT_INJECT of a
known checker and location, 1 to 256 times, with a slot free, that needs no FATAL_OK and is no MODE 1 of a parity
check, arms the lowest free slot and completes with it. CANCEL takes a checker's armed injections away and completes
with their number. A vote of three good copies that agree takes their value and ends a stuck state; one copy that
differs, or whose check code fails, is rewritten from the two that agree; three good copies that all differ leave
the register stuck. [Derived from R506, R508, R509, R517, R518, R519, R520, R521, R522, R523, R524] -/
def Obligations.InjectionsAndKeelVotes : Prop :=
  (∀ s : State, ∀ src code k d inj, s.pins.resetN = true →
    (s.raiseX src code k d inj).flt.srcCnt = s.flt.srcCnt.set 0 src (satInc 16 (s.flt.srcCnt.get 0 src)) ∧
    (s.raiseX src code k d inj).flt.pend = (if s.flt.frozen || s.flt.pend.any (fun r => r.src = src) then s.flt.pend
      else s.flt.pend ++ [({ src := src, code := code, cls := s.clsOf src k, injected := inj, number := 0,
                             time := s.devTime, seen := s.now, detail := d } : Rec)]) ∧
    (s.raiseX src code k d inj).flt.coalesced =
      (if !s.flt.frozen && s.flt.pend.any (fun r => r.src = src) then satInc 16 s.flt.coalesced else s.flt.coalesced)) ∧
  (∀ p (n : Fin 64) c k (s : State), runs s p n 0x78 [whole 8 56] c = true → bit (c.arg 18 1) 1 = false →
    c.reservedOk injectFields = true →
    (s.injectIndex (c.arg 8 2) (c.arg 10 1) (c.arg 12 4) = some true ∨
      (s.injectIndex (c.arg 8 2) (c.arg 10 1) (c.arg 12 4) = some false ∧ c.arg 12 4 = 0xFFFFFFFF)) →
    1 ≤ c.arg 16 2 → c.arg 16 2 ≤ 256 →
    (bit (c.arg 18 1) 0 = true ∨ s.injectFatal (c.arg 8 2) (c.arg 10 1) (bit (c.arg 11 1) 0) = false) →
    (bit (c.arg 11 1) 0 = false ∨ isParity (c.arg 8 2) (c.arg 10 1) = false) → s.flt.freeSlot = some k →
    exec (.faultInject p n) s = .next (({ s with flt := { s.flt with inj := s.flt.inj ++
      [({ slot := k, source := c.arg 8 2, checker := c.arg 10 1, double := bit (c.arg 11 1) 0, index := c.arg 12 4,
          left := c.arg 16 2 } : Inject)] } }).complete c .ok k 0)) ∧
  (∀ p (n : Fin 64) c s rest, runs s p n 0x78 [whole 8 56] c = true → bit (c.arg 18 1) 1 = true →
    c.reservedOk [named 8 2 0xFFF, whole 10 1, named 18 1 3] = true →
    s.injectIndex (c.arg 8 2) (c.arg 10 1) 0 ≠ none →
    rest = s.flt.inj.filter (fun j => !(j.source = c.arg 8 2 ∧ j.checker = c.arg 10 1)) → rest.length < s.flt.inj.length →
    exec (.faultInjectCancel p n) s = .next (({ s with flt := { s.flt with inj := rest } }).complete c .ok
      (s.flt.inj.length - rest.length) 0)) ∧
  (∀ (i : Fin 5) v (s : State), s.flt.inj = [] → (s.keel i).bad = none → (s.keel i).c0 = { val := v, ok := true } →
    (s.keel i).c1 = { val := v, ok := true } → (s.keel i).c2 = { val := v, ok := true } →
    exec (.keelVote i []) s = .next (s.setKeel i { s.keel i with voted := v, stuck := false })) ∧
  (∀ (i : Fin 5) (j : Fin 3) v w ok (s : State), s.flt.inj = [] → (s.keel i).bad = none → (s.keel i).c0 = { val := v, ok := true } →
    (s.keel i).c1 = { val := v, ok := true } → (s.keel i).c2 = { val := v, ok := true } → (w ≠ v ∨ ok = false) →
    ∃ t, exec (.keelVote i [(j, w, ok)]) s = .next t ∧ (t.keel i).c0 = { val := v, ok := true } ∧
      (t.keel i).c1 = { val := v, ok := true } ∧ (t.keel i).c2 = { val := v, ok := true } ∧ (t.keel i).voted = v ∧
      (t.keel i).stuck = false) ∧
  (∀ (i : Fin 5) a b c (s : State), s.flt.inj = [] → (s.keel i).bad = none → a ≠ b → a ≠ c → b ≠ c →
    ∃ t, exec (.keelVote i [(0, a, true), (1, b, true), (2, c, true)]) s = .next t ∧ (t.keel i).stuck = true ∧
      (t.keel i).voted = (s.keel i).voted)

/-- CS_LOAD of an aligned image of the region its header names, long enough and at most 0x37000 bytes, into a bank
that is free, without PROVISION, marks the bank invalid, holds the image and waits, and every location it writes
reads good in every slice; with PROVISION it does so in CONFIGURE for a customer image while no key hash is
provisioned. A customer image needs a valid bank of its base version. When the load ends with an image that keeps
R198 and a proven signature, the bank holds the image's region and is valid, the region's measurement is the image's
digest, a hash once provisioned stays and a provisioning load sets the hash of the image's key where there was none;
the command completes with the image's version and word count. An image that fails R198 completes BAD_ARG and one
that is not proven AUTH_FAIL with its cause, and the bank stays as it was but for the load. [Derived from R195,
R196, R197, R198, R199, R200, R201, R549] -/
def Obligations.ControlStoreLoads : Prop :=
  (∀ p (n : Fin 64) image c s, runs s p n 0x31 [whole 8 8, whole 16 4, named 20 1 1, whole 21 1, named 22 1 1] c = true →
    s.genBusy (c.arg 20 1 % 2) = false → (s.csBank (c.arg 20 1 % 2)).load = none → c.arg 8 8 % 4096 = 0 →
    c.arg 16 4 % 4096 = 0 → c.arg 16 4 ≤ 0x37000 → c.arg 21 1 ≤ 1 → byteAt (imageOf (c.arg 16 4) image) 5 = c.arg 21 1 →
    csWordsAt (decide (c.arg 21 1 = 1)) + 16 * csWords (imageOf (c.arg 16 4) image) ≤ c.arg 16 4 →
    (c.arg 21 1 = 1 → (s.csBank (c.arg 20 1 % 2)).valid = true ∧
      byteAt (imageOf (c.arg 16 4) image) 12 = (s.csBank (c.arg 20 1 % 2)).verV / 2 ^ 24) →
    (bit (c.arg 22 1) 0 = true → c.arg 21 1 = 1 ∧ s.mode = .configure ∧ s.kennel.keyHash = none) →
    ∃ t : State, (if bit (c.arg 22 1) 0 then exec (.csLoadProvision p n image) s else exec (.csLoad p n image) s) =
        .next (t.wait c) ∧ (t.csBank (c.arg 20 1 % 2)).valid = false ∧
      (t.csBank (c.arg 20 1 % 2)).load = some
        { cmd := c.serial, image := imageOf (c.arg 16 4) image, cust := decide (c.arg 21 1 = 1),
          provision := bit (c.arg 22 1) 0 } ∧
      t = { s with gen := t.gen, ref := { s.ref with meas := t.ref.meas },
                   slices := (s.csRewrite (c.arg 20 1 % 2) (decide (c.arg 21 1 = 1))).slices }) ∧
  (∀ (g : Fin 2) l s, (s.csBank g).load = some l → csImageOk l.cust l.image = true → s.csAuth l true = none →
    sha384 l.image ≠ [] →
    ∃ t : State, exec (.csLoadDone g true) s = .next (t.completeSer l.cmd .ok (imgVersion l.image) (csWords l.image)) ∧
      t.csBank g = CsBank.apply { s.csBank g with load := none } l.cust l.image ∧ (t.csBank g).valid = true ∧
      t.ref.meas.get [] (measOf g l.cust) = sha384 l.image ∧
      t.kennel.keyHash = (match s.kennel.keyHash with
        | some k => some k
        | none => if l.provision then some (sha384 (csPubkey l.image)) else none)) ∧
  (∀ (g : Fin 2) l good s, (s.csBank g).load = some l → csImageOk l.cust l.image = false →
    exec (.csLoadDone g good) s =
      .next ((s.setCsBank g { s.csBank g with load := none }).completeSer l.cmd .badArg 0 0)) ∧
  (∀ (g : Fin 2) l good cause s, (s.csBank g).load = some l → csImageOk l.cust l.image = true →
    s.csAuth l good = some cause →
    exec (.csLoadDone g good) s =
      .next ((s.setCsBank g { s.csBank g with load := none }).completeSer l.cmd .authFail cause 0)) ∧
  (∀ (s : State) l good, s.csAuth l good = (match s.kennel.keyHash with
    | some k => if l.cust = true ∧ sha384 (csPubkey l.image) ≠ k then some 2 else if good then none else some 1
    | none => if l.cust = true ∧ l.provision = false then some 3 else if good then none else some 1))

/-- TREE_LOAD of an aligned image of at most 0x101000 bytes that holds its units, into a bank that is free, marks
the bank invalid, makes its units read good in every slice, holds the image and waits; its end applies an image with
no failing field and completes with version and units, or completes BAD_ARG with the offset of the first failing
field and changes the bank no further. A scrub with nothing to find and nothing armed changes nothing, and without
an active Collie there is none; a single-bit error of a unit that reads good, in a bank that is not being loaded, is
logged. A unit marked bad is repaired from the next slice's good copy. GEN_SWAP to a generation that is current
completes and changes nothing; to one that is not, whose banks are valid, with no swap pending and no load under
way, and with AT_VALID at an instant no more than 10 s ahead, it becomes pending for the instant, or for the next
cycle. At its instant the target is current; without WAIT_DRAIN or with nothing in flight the command completes with
the packets in flight, else it waits for them. Before its instant nothing happens. A drained generation's swap
completes with the packets counted and the microseconds taken; with none drained nothing happens. [Derived from
R222, R223, R224, R225, R246, R247, R248] -/
def Obligations.TreesAndGenerations : Prop :=
  (∀ p (n : Fin 64) image c s, runs s p n 0x30 [whole 8 8, whole 16 4, named 20 1 1] c = true →
    s.genBusy (c.arg 20 1 % 2) = false → (s.treeBank (c.arg 20 1 % 2)).load = none → c.arg 8 8 % 4096 = 0 →
    c.arg 16 4 % 4096 = 0 → c.arg 16 4 ≤ 0x101000 → 0x1000 + 64 * treeUnits (imageOf (c.arg 16 4) image) ≤ c.arg 16 4 →
    exec (.treeLoad p n image) s = .next (((s.treeRewrite (c.arg 20 1 % 2)).setTreeBank (c.arg 20 1 % 2) { s.treeBank (c.arg 20 1 % 2) with
      valid := false, ver := 0,
      load := some
        { cmd := c.serial, image := imageOf (c.arg 16 4) image, cust := false, provision := false } }).wait c)) ∧
  (∀ (g : Fin 2) l s, (s.treeBank g).load = some l →
    exec (.treeLoadDone g) s = .next (match treeFail l.image with
      | none => (s.setTreeBank g (TreeBank.apply l.image)).completeSer l.cmd .ok (imgVersion l.image) (treeUnits l.image)
      | some off => (s.setTreeBank g { s.treeBank g with load := none }).completeSer l.cmd .badArg off 0)) ∧
  (∀ s, s.flt.inj = [] → exec (.treeScrub []) s = .next s) ∧
  (∀ errs s, s.collieActs = false → exec (.treeScrub errs) s = .next s) ∧
  (∀ (m : Slice) loc s, s.collieActs = true → loc < 131072 → loc % 65536 < 16384 →
    (s.treeBank (loc / 65536)).load = none → s.flt.inj = [] → loc * 2 ∉ (s.slice m).treeBad →
    loc * 2 + 1 ∉ (s.slice m).treeBad →
    exec (.treeScrub [(m, loc, .one)]) s = .next (s.raise (0xA00 + m.val) 0x24 .ce
      (packItems [(1, loc / 65536), (14, loc % 16384)]))) ∧
  (∀ (m : Slice) loc s, loc * 2 ∈ (s.slice m).treeBad → loc * 2 + 1 ∉ (s.slice m).treeBad →
    loc * 2 ∉ (s.slice ((m.val + 1) % 16)).treeBad → loc * 2 + 1 ∉ (s.slice ((m.val + 1) % 16)).treeBad →
    exec (.treeEccRepair m loc) s = .next ((s.setSlice m { s.slice m with
      treeBad := (s.slice m).treeBad.filter fun l => l / 2 ≠ loc }).raiseX (0xA00 + m.val) 0x25 .uc
        (packItems [(1, loc / 65536), (14, loc % 16384), (4, (m.val + 1) % 16)]) false)) ∧
  (∀ p (n : Fin 64) c s, runs s p n 0x32 [named 8 1 1, named 9 1 3] c = true → bit (c.arg 9 1) 1 = false →
    s.gen.cur = c.arg 8 1 % 2 → exec (.genSwap p n) s = .next (s.complete c .ok 0 0)) ∧
  (∀ p (n : Fin 64) c s, runs s p n 0x32 [named 8 1 1, named 9 1 3] c = true → bit (c.arg 9 1) 1 = false →
    s.gen.cur ≠ c.arg 8 1 % 2 → (s.csBank (c.arg 8 1 % 2)).valid = true → (s.treeBank (c.arg 8 1 % 2)).valid = true →
    s.gen.swap = none → s.anyLoad = false →
    exec (.genSwap p n) s = .next (({ s with
      gen := { s.gen with
        swap := some { cmd := c.serial, target := c.arg 8 1 % 2, at' := none, waitDrain := bit (c.arg 9 1) 0 } } }).wait c)) ∧
  (∀ p (n : Fin 64) c s, runs s p n 0x32 [named 8 1 1, named 9 1 3, whole 16 8, whole 24 4, whole 28 2] c = true →
    bit (c.arg 9 1) 1 = true → c.timeOk 16 = true → c.time 16 ≤ s.devTime + tenSec →
    s.gen.cur ≠ c.arg 8 1 % 2 → (s.csBank (c.arg 8 1 % 2)).valid = true → (s.treeBank (c.arg 8 1 % 2)).valid = true →
    s.gen.swap = none → s.anyLoad = false →
    exec (.genSwap p n) s = .next (({ s with
      gen := { s.gen with
        swap := some { cmd := c.serial, target := c.arg 8 1 % 2, waitDrain := bit (c.arg 9 1) 0,
                       at' := if s.devTime < c.time 16 then some (c.time 16) else none } } }).wait c)) ∧
  (∀ w ts (s s1 : State), s.gen.swap = some w →
    (w.at' = none ∧ ts = s.devTime ∨ w.at' = some ts ∧ ts ≤ s.devTime) →
    s1 = { s with gen := { s.gen with cur := w.target, swap := none, swaps := satInc 16 s.gen.swaps, ts := ts } } →
    exec .genSwapInstant s = .next (if w.waitDrain = true ∧ s.infl s.gen.cur ≠ 0
      then { s1 with gen.drains := s.gen.drains ++
          [{ cmd := w.cmd, old := s.gen.cur, count := s.infl s.gen.cur, since := s.now }] }
      else s1.completeSer w.cmd .ok (s.infl s.gen.cur) 0)) ∧
  (∀ s, (s.gen.swap = none ∨ ∃ w ts, s.gen.swap = some w ∧ w.at' = some ts ∧ s.devTime < ts) →
    exec .genSwapInstant s = .next s) ∧
  (∀ s, (∀ d ∈ s.gen.drains, s.infl d.old ≠ 0) → exec .genDrained s = .next s) ∧
  (∀ s d, s.gen.drains.find? (fun d => s.infl d.old = 0) = some d →
    exec .genDrained s = .next (({ s with gen := { s.gen with drains := s.gen.drains.filter fun e => e.cmd ≠ d.cmd } }).completeSer
      d.cmd .ok d.count (satTo 0xFFFFFF ((s.now - d.since + 999) / 1000))))

/-- A slice applies the first record of an origin that it has not applied. A learn of a key that it does not hold,
with a free slot in the key's bucket, stores a dynamic entry of age 0 there; a record that no slice has sent leaves
the state. Every whole second the moves of every entry start at 0. A pinned entry whose hold has passed is no longer
held by this slice, which sends UNPIN. With ageing off, or before its time, an age tick changes nothing; one that is
due ages a dynamic entry of the slice's own ports by one, and removes it at its seventh with a record to the other
slices, and leaves static entries and those of other slices' ports. L2_WRITE to a port in service, of a key that no
named slice holds (or with REPLACE), with room in each, stores the entry in each and completes; L2_DELETE of a key
that some named slice holds removes it from each. L2_FLUSH waits for the table engine. L2_READ by index and by key
writes the entry's 16 bytes. Storing an entry in a bucket's free slot makes that slot hold it. [Derived from R287,
R288, R289, R290, R291, R292, R293] -/
def Obligations.L2EntriesAndCommands : Prop :=
  (∀ (m o : Slice) r bus s, takeRec m o s.tab.bus = (some r, bus) →
    exec (.learnRecord m o) s = .next (({ s with tab := { s.tab with bus := bus } }).applyRec m r)) ∧
  (∀ (m o : Slice) bus s, takeRec m o s.tab.bus = (none, bus) → exec (.learnRecord m o) s = .next s) ∧
  (∀ m r i (s : State), r.kind = .learn → s.l2Find m r.vid r.mac = none → s.l2Free m r.vid r.mac = some i →
    (s.applyRec m r).l2At m i = some { vid := r.vid, mac := r.mac, port := r.port, age := 0, static := false,
                                       pinned := false, moves := 0, pinAt := none }) ∧
  (∀ s, exec .l2MoveSecond s = .next { s with slices := s.slices.map fun x => (x.1, { x.2 with
    l2 := x.2.l2.map fun e => (e.1, { e.2 with moves := 0 }) }) }) ∧
  (∀ (m : Slice) before after i e at' (s : State), (s.slice m).l2 = before ++ (i, e) :: after →
    (∀ x ∈ before, x.2.pinAt = none) → e.pinAt = some at' → at' + bits (s.l2Cfg m) 15 4 * 1000000000 ≤ s.now →
    ∃ t : State, exec (.flapHoldExpiry m) s = .next t ∧ t.l2At m i = some { e with pinAt := none } ∧
      t.tab.bus = s.tab.bus ++
        [{ kind := .unpin, origin := m, vid := e.vid, mac := e.mac, port := e.port, left := List.range 16 }]) ∧
  (∀ (m : Slice) s, bits (s.l2Cfg m) 31 16 = 0 ∨ ((s.slice m).ageAt.isSome = true ∧
    s.elapsed (s.slice m).ageAt (bits (s.l2Cfg m) 31 16 * 100000000) = false) → exec (.l2AgeTick m) s = .next s) ∧
  (∀ (m : Slice) (s u : State), bits (s.l2Cfg m) 31 16 ≠ 0 → ((s.slice m).ageAt.isNone ||
      s.elapsed (s.slice m).ageAt (bits (s.l2Cfg m) 31 16 * 100000000)) = true →
    u = s.onSlice m (fun y => { y with ageAt := some s.now }) →
    (∀ i e, (s.slice m).l2 = [(i, e)] → exec (.l2AgeTick m) s = .next (
      if portSlice e.port ≠ m.val ∨ e.static = true then u
      else if e.age < 6 then u.setL2 m i (some { e with age := e.age + 1 })
      else (((u.setL2 m i none).l2Count m 5).l2Evt 2 1 e.port m e.vid e.mac).originate
        { kind := .remove, origin := m, vid := e.vid, mac := e.mac, port := e.port,
          left := (List.range 16).filter (· ≠ m.val) })) ∧
    ((∀ x ∈ (s.slice m).l2, x.2.static = true ∨ portSlice x.2.port ≠ m.val) → exec (.l2AgeTick m) s = .next u)) ∧
  (∀ p (n : Fin 64) c s, runs s p n 0x38 [whole 8 2, whole 10 6, named 16 2 0xFFF, named 18 2 0x1FF, named 20 1 3] c = true →
    s.inactive (c.arg 18 2) = false →
    (bit (c.arg 20 1) 1 = true ∨ ∀ m ∈ maskSlices (c.arg 8 2), s.l2Find m (l2Vid c) (l2Mac c) = none) →
    (∀ m ∈ maskSlices (c.arg 8 2), s.l2Find m (l2Vid c) (l2Mac c) ≠ none ∨ s.l2Free m (l2Vid c) (l2Mac c) ≠ none) →
    exec (.l2Write p n) s = .next (((maskSlices (c.arg 8 2)).foldl (fun t m => t.l2Store m (l2Vid c) (l2Mac c)
      { learned (l2Vid c) (l2Mac c) (c.arg 18 2) with static := bit (c.arg 20 1) 0 }) s).complete c .ok 0 0)) ∧
  (∀ m vid mac e i (s : State), s.l2Find m vid mac = none → s.l2Free m vid mac = some i →
    (s.l2Store m vid mac e).l2At m i = some e ∧ ∀ k, k ≠ m → (s.l2Store m vid mac e).slice k = s.slice k) ∧
  (∀ p (n : Fin 64) c m s, runs s p n 0x39 [whole 8 2, whole 10 6, named 16 2 0xFFF] c = true →
    m ∈ maskSlices (c.arg 8 2) → s.l2Find m (l2Vid c) (l2Mac c) ≠ none →
    exec (.l2Delete p n) s =
      .next (((maskSlices (c.arg 8 2)).foldl (fun t m => t.l2Remove m (l2Vid c) (l2Mac c)) s).complete c .ok 0 0)) ∧
  (∀ p (n : Fin 64) c s, runs s p n 0x3A [whole 8 2, named 10 1 7, named 16 2 0xFFF, named 18 2 0x1FF] c = true →
    s.tab.job = .idle →
    exec (.l2Flush p n) s = .next (({ s with tab := { s.tab with
      job := .flush c.serial (c.arg 8 2) (c.arg 10 1) (c.arg 18 2) (c.arg 16 2) 0 0 } }).wait c)) ∧
  (∀ p (n : Fin 64) c s, runs s p n 0x3B [whole 8 1, whole 9 1, whole 10 6, whole 12 4, named 16 2 0xFFF, whole 24 8] c = true →
    c.arg 8 1 ≤ 15 → c.arg 9 1 = 1 → c.arg 24 8 % 16 = 0 → c.arg 12 4 ≤ 524287 →
    exec (.l2Read p n) s = .next ((s.hostData c (c.arg 24 8)
      (l2Block (c.arg 12 4) (s.l2At (c.arg 8 1) (c.arg 12 4)))).complete c .ok 0 0)) ∧
  (∀ p (n : Fin 64) c i e s, runs s p n 0x3B [whole 8 1, whole 9 1, whole 10 6, whole 12 4, named 16 2 0xFFF, whole 24 8] c = true →
    c.arg 8 1 ≤ 15 → c.arg 9 1 = 0 → c.arg 24 8 % 16 = 0 → s.l2Find (c.arg 8 1) (l2Vid c) (l2Mac c) = some (i, e) →
    exec (.l2Read p n) s = .next ((s.hostData c (c.arg 24 8) (l2Block i (some e))).complete c .ok 0 0))

/-- With no routine and no migration a step changes nothing. A step of a chain of moves makes the next move and
counts it; at the end of the chain the new key is stored, a slot it leaves is freed, and the command completes with
its location and the moves made. A step of a flush clears one bucket in each named slice, and after the last bucket
the command completes with the entries removed. A routine that fills freed slots from the stash takes one step and
ends. A step of a prefix shift makes the next move, counted on the lowest slice, and at its end the prefix is
written to its places and the command completes. [Derived from R262, R263, R265, R272, R278, R283, R292] -/
def Obligations.TableEngineSteps : Prop :=
  (∀ errs s, s.tab.job = .idle → s.tab.mig = none → exec (.tableEngineStep errs) s = .next s) ∧
  (∀ errs s c a b r made l e old, s.tab.job = .chain c ((a, b) :: r) made l e old →
    exec (.tableEngineStep errs) s =
      .next (({ s with tab := { s.tab with job := .chain c r (made + 1) l e old } }).epMove a b)) ∧
  (∀ errs s c made l e, s.tab.job = .chain c [] made l e none →
    exec (.tableEngineStep errs) s =
      .next ((({ s with tab := { s.tab with job := .idle } }).epStore l e).completeSer c .ok (locWord l) made)) ∧
  (∀ errs s c made l e o, s.tab.job = .chain c [] made l e (some o) →
    exec (.tableEngineStep errs) s = .next (((({ s with tab := { s.tab with job := .idle } }).epStore l e).epClear
      o).completeSer c .ok (locWord l) made)) ∧
  (∀ errs s c mask filter port vid next removed, s.tab.job = .flush c mask filter port vid next removed → next < 131071 →
    ∃ t : State, exec (.tableEngineStep errs) s = .next t ∧
      t.tab.job = .flush c mask filter port vid (next + 1)
        (removed + (s.flushBucket (maskSlices mask) filter port vid next).1) ∧
      t.slices = (s.flushBucket (maskSlices mask) filter port vid next).2.slices) ∧
  (∀ errs s c mask filter port vid removed, s.tab.job = .flush c mask filter port vid 131071 removed →
    ∃ t : State, exec (.tableEngineStep errs) s = .next (t.completeSer c .ok
        (removed + (s.flushBucket (maskSlices mask) filter port vid 131071).1) 0) ∧ t.tab.job = .idle ∧
      t.slices = (s.flushBucket (maskSlices mask) filter port vid 131071).2.slices) ∧
  (∀ errs s seg, s.tab.job = .restash seg → s.tab.mig = none →
    exec (.tableEngineStep errs) s =
      .next (({ s with tab := { s.tab with job := .idle } }).restash seg (s.space seg))) ∧
  (∀ errs s c low n a b r made places e, s.tab.job = .shift c low ((n, a, b) :: r) made places e →
    exec (.tableEngineStep errs) s = .next (({ s with tab := { s.tab with
      job := .shift c low r (made + if n = low.1 then 1 else 0) places e } }).lpmMove n a b)) ∧
  (∀ errs s c low made places e, s.tab.job = .shift c low [] made places e →
    exec (.tableEngineStep errs) s = .next ((places.foldl (fun (t : State) q => t.setLpm q.1 q.2 (some e))
      { s with tab := { s.tab with job := .idle } }).completeSer c .ok (lpmResult0 low.2) made))

/-- LPM_ADD, the table engine free, of a prefix that suits the table of every named slice: where no slice holds it
and each has a suitable free row, with no shift to make the prefix is stored in each and the command completes with
the lowest slice's row; with shifts to make they become the engine's routine. With REPLACE, held in every slice, it
takes its result where it is. Without REPLACE a held prefix is refused. LPM_DELETE of a prefix that every named
slice holds clears it in each and answers the lowest slice's row. An unknown prefix is NOT_FOUND. LPM_READ answers
the result and the length, exactly or as a probe, of the first row that hits. A result or format that does not fit
is BAD_ARG. [Derived from R281, R282, R283, R284, R285, R286] -/
def Obligations.LpmCommands : Prop :=
  (∀ p (n : Fin 64) picks c m r fs v6 e job (row : Nat → Nat) (s : State),
    runs s p n 0x20 fs c = true → fs = [named 12 1 1, named 20 5 0xFFFFFFFFF] ++ lpmLayout s c → s.tab.job = .idle →
    c.arg 10 1 ≤ 1 → v6 = decide (c.arg 10 1 = 1) → maskSlices (c.arg 8 2) = m :: r → resultOk (c.arg 20 5) = true →
    e = ({ v6 := v6, plen := c.arg 11 1, vrf := c.arg 16 2, pfx := lpmAddr c, result := c.arg 20 5 } : LpmEnt) →
    (∀ k ∈ m :: r, s.lpmBad k v6 e.plen e.pfx = false ∧ s.lpmFind k v6 e.plen e.vrf e.pfx = none ∧
      s.lpmChoose k v6 e.plen (picks.getD k 0) = some (row k)) →
    job = .shift c.serial (m, (s.lpmShifts m v6 e.plen (row m)).2)
      ((m :: r).flatMap fun k => (s.lpmShifts k v6 e.plen (row k)).1.map fun x => (k, x.1, x.2)) 0
      ((m :: r).map fun k => (k, (s.lpmShifts k v6 e.plen (row k)).2)) e →
    exec (.lpmAdd p n picks) s = .next (
      if ∀ k ∈ m :: r, (s.lpmShifts k v6 e.plen (row k)).1 = [] then
        ((m :: r).foldl (fun (t : State) k => t.setLpm k (s.lpmShifts k v6 e.plen (row k)).2 (some e)) s).complete c .ok
          (lpmResult0 (s.lpmShifts m v6 e.plen (row m)).2) 0
      else ({ s with tab := { s.tab with job := job } }).wait c)) ∧
  (∀ p (n : Fin 64) picks c m r fs v6 e (at' : Nat → Nat × LpmEnt) (s : State),
    runs s p n 0x20 fs c = true → fs = [named 12 1 1, named 20 5 0xFFFFFFFFF] ++ lpmLayout s c → s.tab.job = .idle →
    c.arg 10 1 ≤ 1 → v6 = decide (c.arg 10 1 = 1) → maskSlices (c.arg 8 2) = m :: r → resultOk (c.arg 20 5) = true →
    e = ({ v6 := v6, plen := c.arg 11 1, vrf := c.arg 16 2, pfx := lpmAddr c, result := c.arg 20 5 } : LpmEnt) →
    (∀ k ∈ m :: r, s.lpmBad k v6 e.plen e.pfx = false ∧ s.lpmFind k v6 e.plen e.vrf e.pfx = some (at' k)) →
    exec (.lpmAdd p n picks) s = .next (if bit (c.arg 12 1) 0 then
        ((m :: r).foldl (fun (t : State) k => t.setLpm k (at' k).1 (some e)) s).complete c .ok (lpmResult0 (at' m).1) 0
      else s.complete c .exists' 0 0)) ∧
  (∀ p (n : Fin 64) c m r v6 (at' : Nat → Nat × LpmEnt) (s : State),
    runs s p n 0x21 (lpmLayout s c) c = true → s.tab.job = .idle →
    c.arg 10 1 ≤ 1 → v6 = decide (c.arg 10 1 = 1) → maskSlices (c.arg 8 2) = m :: r →
    (∀ k ∈ m :: r, s.lpmBad k v6 (c.arg 11 1) (lpmAddr c) = false ∧
      s.lpmFind k v6 (c.arg 11 1) (c.arg 16 2) (lpmAddr c) = some (at' k)) →
    exec (.lpmDelete p n) s = .next (((m :: r).foldl (fun (t : State) k => t.setLpm k (at' k).1 none) s).complete c .ok
      (lpmResult0 (at' m).1) 0)) ∧
  (∀ p (n : Fin 64) c k v6 (s : State), runs s p n 0x21 (lpmLayout s c) c = true → s.tab.job = .idle →
    c.arg 10 1 ≤ 1 → v6 = decide (c.arg 10 1 = 1) → k ∈ maskSlices (c.arg 8 2) →
    (∀ j ∈ maskSlices (c.arg 8 2), s.lpmBad j v6 (c.arg 11 1) (lpmAddr c) = false) →
    s.lpmFind k v6 (c.arg 11 1) (c.arg 16 2) (lpmAddr c) = none →
    exec (.lpmDelete p n) s = .next (s.complete c .notFound 0 0)) ∧
  (∀ p (n : Fin 64) c fs v6 e l (s : State), runs s p n 0x22 fs c = true → c.arg 8 1 ≤ 15 → c.arg 10 1 ≤ 1 →
    v6 = decide (c.arg 10 1 = 1) →
    fs = [whole 8 1, whole 10 1, whole 11 1, whole 12 1] ++
      (if (match s.lpmFmt (c.arg 8 1) v6 with | some (_, v) => v | none => true) then [whole 16 2] else [])
      ++ (if v6 then [whole 32 16] else [whole 32 4]) →
    (c.arg 12 1 = 0 ∧ s.lpmBad (c.arg 8 1) v6 (c.arg 11 1) (lpmAddr c) = false ∧
        s.lpmFind (c.arg 8 1) v6 (c.arg 11 1) (c.arg 16 2) (lpmAddr c) = some (l, e)) ∨
      (c.arg 12 1 = 1 ∧ s.lpmBad (c.arg 8 1) v6 (lpmBits v6) (lpmAddr c) = false ∧
        (s.lpmHits (c.arg 8 1) v6 (c.arg 16 2) (lpmAddr c) []).head? = some (l, e)) →
    exec (.lpmRead p n) s = .next (s.complete c .ok (e.result % 2 ^ 32) (e.result / 2 ^ 32 + e.plen * 16))) ∧
  (∀ p (n : Fin 64) picks c fs k (s : State), runs s p n 0x20 fs c = true →
    fs = [named 12 1 1, named 20 5 0xFFFFFFFFF] ++ lpmLayout s c → s.tab.job = .idle →
    resultOk (c.arg 20 5) = false ∨ 1 < c.arg 10 1 ∨ (k ∈ maskSlices (c.arg 8 2) ∧
      s.lpmFmt k (decide (c.arg 10 1 = 1)) = none) →
    exec (.lpmAdd p n picks) s = .next (s.complete c .badArg 0 0))

/-- For commands whose bank and row suit every named slice: ACL_WRITE stores the whole entry, MOVE takes an entry to
an empty place and clears the old one, MASK_ONLY changes its generation mask, ACL_INVALIDATE clears it; ACL_WRITE
and ACL_INVALIDATE answer GEN_BUSY where the command would change a view in use, and MASK_ONLY runs where it would
not; ACL_INVALIDATE of a missing entry is NOT_FOUND. ACL_READ writes the entry's 96 bytes and answers its priority,
mask and flags. A probe answers the winner's MATCH_ID, or all ones, and the number of hits. A hard-failed row takes
the lowest free spare of its bank, or is lost and its entry with it when there is none. A scrub rewrites a row that
differs from its shadow and counts the repair; an uncorrectable shadow copy loses the row. [Derived from R228, R229,
R230, R231, R232, R233, R234, R235, R236, R237, R239, R240] -/
def Obligations.AclCommandsAndRowRepair : Prop :=
  (∀ p (n : Fin 64) data c loc (entry : Nat → AclEnt) (s : State), runs s p n 0x28 (aclLayout c) c = true →
    bit (c.arg 11 1) 1 = false → bit (c.arg 11 1) 2 = false → s.aclBad c = false → c.arg 20 1 ≠ 0 →
    actionOk (c.arg 24 4) = true → c.arg 32 8 % 64 = 0 → loc = rowLoc (c.arg 10 1) (c.arg 12 2) →
    (∀ m, entry m =
      { width := s.bankWidth m (c.arg 10 1), prio := c.arg 18 2, genmask := c.arg 20 1,
        action := c.arg 24 4, value := be data 0 (10 * s.bankWidth m (c.arg 10 1)),
        care := be data (10 * s.bankWidth m (c.arg 10 1)) (10 * s.bankWidth m (c.arg 10 1)) }) →
    (∀ m ∈ maskSlices (c.arg 8 2), (entry m).value &&& (entry m).care = (entry m).value) →
    s.aclLost (maskSlices (c.arg 8 2)) (c.arg 10 1) loc = false →
    exec (.aclWrite p n data) s = .next (
      if s.viewBusy ((maskSlices (c.arg 8 2)).foldl
          (fun a m => a ||| viewChange (s.aclAt m loc) (some (entry m))) 0) (bit (c.arg 11 1) 0)
      then s.complete c .genBusy 0 0
      else ((maskSlices (c.arg 8 2)).foldl (fun (t : State) m => t.setAcl m loc (some (entry m))) s).complete c .ok 0 0)) ∧
  (∀ p (n : Fin 64) c w loc src (s : State), runs s p n 0x28 (aclLayout c) c = true →
    bit (c.arg 11 1) 1 = true → bit (c.arg 11 1) 2 = false → s.aclBad c = false → c.arg 14 1 ≤ 31 → c.arg 16 2 ≤ 2047 →
    loc = rowLoc (c.arg 10 1) (c.arg 12 2) → src = rowLoc (c.arg 14 1) (c.arg 16 2) →
    (∀ m ∈ maskSlices (c.arg 8 2), s.bankWidth m (c.arg 10 1) = w ∧
      s.bankWidth m (c.arg 14 1) = w ∧ (s.aclAt m src).isSome ∧ s.aclAt m loc = none) →
    s.aclLost (maskSlices (c.arg 8 2)) (c.arg 10 1) loc = false →
    exec (.aclWriteMove p n) s = .next (((maskSlices (c.arg 8 2)).foldl (fun (t : State) m =>
      (t.setAcl m loc (s.aclAt m src)).setAcl m src none) s).complete c .ok 0 0)) ∧
  (∀ p (n : Fin 64) c loc (s : State), runs s p n 0x28 (aclLayout c) c = true → bit (c.arg 11 1) 1 = false →
    bit (c.arg 11 1) 2 = true → s.aclBad c = false → c.arg 20 1 ≠ 0 → loc = rowLoc (c.arg 10 1) (c.arg 12 2) →
    (∀ m ∈ maskSlices (c.arg 8 2), (s.aclAt m loc).isSome) →
    s.aclLost (maskSlices (c.arg 8 2)) (c.arg 10 1) loc = false →
    s.viewBusy ((maskSlices (c.arg 8 2)).foldl (fun a m => a ||| viewChange (s.aclAt m loc)
      ((s.aclAt m loc).map fun e => { e with genmask := c.arg 20 1 })) 0) (bit (c.arg 11 1) 0) = false →
    exec (.aclWriteMaskOnly p n) s = .next (((maskSlices (c.arg 8 2)).foldl (fun (t : State) m =>
      t.setAcl m loc ((s.aclAt m loc).map fun e => { e with genmask := c.arg 20 1 })) s).complete c .ok 0 0)) ∧
  (∀ p (n : Fin 64) c loc (s : State), runs s p n 0x29 [whole 8 2, whole 10 1, named 11 1 1, whole 12 2] c = true →
    s.aclBad c = false → loc = rowLoc (c.arg 10 1) (c.arg 12 2) →
    exec (.aclInvalidate p n) s = .next (
      if (maskSlices (c.arg 8 2)).any fun m => (s.aclAt m loc).isNone then s.complete c .notFound 0 0
      else if s.viewBusy ((maskSlices (c.arg 8 2)).foldl (fun a m => a ||| viewChange (s.aclAt m loc) none) 0)
          (bit (c.arg 11 1) 0) then s.complete c .genBusy 0 0
      else ((maskSlices (c.arg 8 2)).foldl (fun (t : State) m => t.setAcl m loc none) s).complete c .ok 0 0)) ∧
  (∀ p (n : Fin 64) c loc e (s : State), runs s p n 0x2A (aclReadLayout c) c = true → c.arg 12 1 = 0 →
    c.arg 8 1 ≤ 15 → c.arg 9 1 ≤ 31 → c.arg 10 2 ≤ 2047 → c.arg 10 2 % s.bankWidth (c.arg 8 1) (c.arg 9 1) = 0 →
    c.arg 16 8 % 64 = 0 → s.bankMode (c.arg 8 1) (c.arg 9 1) = 1 → loc = rowLoc (c.arg 9 1) (c.arg 10 2) →
    s.aclAt (c.arg 8 1) loc = some e →
    ∃ flags, flags = s.aclFlags (c.arg 8 1) loc (s.bankWidth (c.arg 8 1) (c.arg 9 1)) true ∧
      exec (.aclRead p n) s = .next ((s.hostData c (c.arg 16 8) (aclBlock (some e) flags)).complete c .ok
        (e.prio + e.genmask * 2 ^ 16 + flags * 2 ^ 18) 0)) ∧
  (∀ p (n : Fin 64) key c hits (s : State), runs s p n 0x2A (aclReadLayout c) c = true → c.arg 12 1 = 1 →
    c.arg 8 1 ≤ 15 → c.arg 13 1 ≤ 7 → c.arg 16 8 % 64 = 0 →
    hits = s.aclHits (c.arg 8 1) (c.arg 13 1) (c.arg 14 1) (keyNat key (be key 64 10)) [] →
    exec (.aclProbe p n key) s = .next (s.complete c .ok
      (match aclBest hits with | some e => aclMatch e.1 | none => 0xFFFFFFFF) hits.length)) ∧
  (∀ (sl : Slice) loc i (s : State), loc ∈ (s.slice sl).hard → loc + 65536 ∉ (s.slice sl).hard → loc < 65536 →
    (s.slice sl).freeSpare (loc / 2048) = some i → (∀ e ∈ (s.slice sl).rowSpare, e.1 / 64 ≠ loc / 2048) →
    ∃ t : State, exec (.tcamRowSpare sl loc) s = .next t ∧
      ((64 * (loc / 2048) + i, loc % 2048 * 2) : Nat × Nat) ∈ (t.slice sl).rowSpare ∧ loc ∉ (t.slice sl).hard) ∧
  (∀ (sl : Slice) loc (s : State), loc ∈ (s.slice sl).hard → loc < 65536 → (s.slice sl).freeSpare (loc / 2048) = none →
    ∃ t : State, exec (.tcamRowSpare sl loc) s = .next t ∧ (t.slice sl).rowLost loc = true ∧
      (t.slice sl).acl = (s.slice sl).acl.erase (firstRow (s.bankWidth sl (loc / 2048)) loc) ∧
      (t.slice sl).lpm = (s.slice sl).lpm.erase (firstRow (s.bankWidth sl (loc / 2048)) loc)) ∧
  (∀ (sl : Slice) loc (s : State), loc < 65536 → s.flt.inj = [] → (s.slice sl).rowLost loc = false →
    ∃ t : State, exec (.tcamShadowScrub sl [(loc, false, false)]) s = .next t ∧
      (t.slice sl).fixes = satInc 16 (s.slice sl).fixes ∧ (t.slice sl).rowLost loc = false) ∧
  (∀ (sl : Slice) loc stuck (s : State), loc < 65536 → s.flt.inj = [] → (s.slice sl).rowLost loc = false →
    ∃ t : State, exec (.tcamShadowScrub sl [(loc, stuck, true)]) s = .next t ∧ (t.slice sl).rowLost loc = true)

/-- While the buffer is live the first head in order that has arrived goes to the engine picked, its budget read
then, and with no engine free into the second head buffer of the engine picked for that; with no such head nothing
changes. A parse that ends without a parity error leaves the packet parsed with its key, headers and flags, counts
the parse, and starts the head in the engine's second buffer; a parity error sends the head back once and retires
the engine, and drops the packet the second time. A canary test that is due takes the next engine in rotation out of
service and brings a spare in; a pass counts and makes the engine a spare, a failure counts and retires it. A
retired engine is in the retired list and is no spare. A scrub with no error and nothing armed changes nothing,
skips a bank that is being loaded, and reads each other location found in error. An uncorrectable location is
rewritten from the next slice with a good copy and is marked no longer. [Derived from R174, R175, R177, R185, R203,
R204, R205, R206, R207, R208, R209] -/
def Obligations.HeadsEnginesAndControlStore : Prop :=
  (∀ (sl : Slice) k e (s : State), s.bufLive = true → ((s.headOrder sl).find? fun k => decide (k.headAt ≤ s.now)) = some k →
    s.pickEngine sl = some e → exec (.headDispatch sl) s =
      .next ((s.setPkt { k with stage := .engine e, budget := s.parseBudget k.slice }).onSlice sl fun x =>
        { x with lastPick := e })) ∧
  (∀ (sl : Slice) k e (s : State), s.bufLive = true → ((s.headOrder sl).find? fun k => decide (k.headAt ≤ s.now)) = some k →
    s.pickEngine sl = none → s.pickBuffer sl = some e → exec (.headDispatch sl) s =
      .next ((s.setPkt { k with stage := .loaded e }).onSlice sl fun x => { x with lastPick := e })) ∧
  (∀ (sl : Slice) (s : State), (∀ k ∈ s.headOrder sl, s.now < k.headAt) → exec (.headDispatch sl) s = .next s) ∧
  (∀ (sl : Slice) (e : Fin 128) errs k x t (s : State), s.bufLive = true → s.flt.inj = [] →
    (s.core.pkts.find? fun k => decide (k.slice = sl.val ∧ k.stage = .engine e.val)) = some k → s.parse k errs = (x, t) →
    exec (.parseStop sl e false errs) s = .next (((t.setPkt
      { k with stage := .parsed, key := x.key, hdrs := x.hdrs, flags := x.flags }).countParse k x).promote sl e)) ∧
  (∀ n e k (s : State), (s.core.pkts.find? fun k => decide (k.slice = n ∧ k.stage = .loaded e)) = some k →
    s.promote n e = s.setPkt { k with stage := .engine e, budget := s.parseBudget k.slice }) ∧
  (∀ (sl : Slice) (e : Fin 128) errs k (s : State), s.bufLive = true → s.flt.inj = [] →
    (s.core.pkts.find? fun k => decide (k.slice = sl.val ∧ k.stage = .engine e.val)) = some k → k.reparses = 0 →
    exec (.parseStop sl e true errs) s = .next
      (((s.setPkt { k with stage := .headQ, reparses := 1 }).parseCount sl 5).retireEngine sl e false).pfcUpdate) ∧
  (∀ (sl : Slice) (e : Fin 128) errs k (s : State), s.bufLive = true → s.flt.inj = [] →
    (s.core.pkts.find? fun k => decide (k.slice = sl.val ∧ k.stage = .engine e.val)) = some k → k.reparses ≠ 0 →
    exec (.parseStop sl e true errs) s = .next
      ((((s.setPkt { k with stage := .headQ }).slotLeave sl .wastedDrop).dropPkt 1 Draw.zero k).retireEngine sl e
        false).pfcUpdate) ∧
  (∀ (sl : Slice) e sp (s : State), s.canaryDue sl = true → (s.slice sl).nextTest = some e →
    (s.slice sl).nextSpare = some sp → s.engineFree sl e = true → s.bufferFree sl e = true → e ∉ (s.slice sl).spares →
    exec (.canaryTest sl) s = .next (s.setSlice sl
      { s.slice sl with spares := (s.slice sl).spares.filter (· ≠ sp) ++ [e], test := some (e, s.now),
                        canAt := some s.now, canTurn := (e + 1) % 128 })) ∧
  (∀ (sl : Slice) e at' (s : State), s.flt.inj = [] → (s.slice sl).test = some (e, at') →
    exec (.canaryTestEnd sl true) s = .next (s.setSlice sl
      { s.slice sl with test := none, canPass := ((s.slice sl).canPass + 1) % 65536, canLast := e }) ∧
    exec (.canaryTestEnd sl false) s = .next ((s.setSlice sl
      { s.slice sl with canFail := satInc 8 (s.slice sl).canFail, canLast := e }).retireEngine sl e false).pfcUpdate) ∧
  (∀ n e inj (s : State), e ∈ ((s.retireEngine n e inj).slice n).retired ∧
    e ∉ ((s.retireEngine n e inj).slice n).spares) ∧
  (∀ s, s.flt.inj = [] → exec (.csScrub []) s = .next s) ∧
  (∀ (sl : Slice) loc err (s : State), s.collieActs = true → s.flt.inj = [] → loc < 131072 → loc % 65536 < csBankSize →
    exec (.csScrub [(sl, loc, err)]) s =
      .next (if (s.csBank (loc / 65536)).load.isSome then s else (s.csRead sl loc [(loc, err)]).2)) ∧
  (∀ (sl : Slice) loc m (s : State), s.collieActs = true → s.slices.wf (fun _ => SliceSt.zero) = true → loc * 2 ∈ (s.slice sl).csBad →
    s.csSource sl loc = some m →
    ∃ t : State, exec (.csEccRepair sl loc) s = .next t ∧ loc * 2 ∉ (t.slice sl).csBad ∧ loc * 2 + 1 ∉ (t.slice sl).csBad)

/-- A port in near-end or MAC loopback hears nothing of the line, and a port that is not UP or a device in SAFE or
SAVE takes no frame. A frame shorter than 64 bytes, longer than MAX_FRAME below 1729, errored or of a bad FCS is
counted so. A good frame that is no MAC control is counted with its bytes, and joins the packets that wait in
FORWARD or DRAIN; in CONFIGURE, or PARK with idle links, it is dropped and counted. The fragments of a preempted
frame are put together where preemption is enabled, and the last one makes the frame; elsewhere they are ignored. A
good MAC control frame acts at the MAC, a bad one is only counted: a pause under FC 1 holds classes 0 to 6, and
class 7 where it is allowed to, until the time it names. A pause that has run out ends and no other. A slot that is
not offered does nothing; an offered slot with nothing waiting counts as FRONT; an open one that loses no frame
admits, with room in the head queue, the packet whose turn it is. [Derived from R43, R156, R157, R159, R160, R161,
R163, R167, R354, R407] -/
def Obligations.FramesArriveAndAreAdmitted : Prop :=
  (∀ (p : Port) b err piece s, s.loopback p % 2 = 1 → exec (.frameReceive p b ⟨err, piece⟩) s = .next s ∧
    exec (.macControlFrame p b err) s = .next s) ∧
  (∀ (p : Port) b err s, ((s.pt p).state ≠ .up ∨ s.mode = .safe ∨ s.mode = .save) →
    exec (.frameReceive p b ⟨err, .whole⟩) s = .next s ∧ exec (.macControlFrame p b err) s = .next s) ∧
  (∀ (p : Port) (b : List Byte) err (s : State), s.loopback p % 2 = 0 → (s.pt p).state = .up → s.mode ≠ .safe →
    s.mode ≠ .save → b.length < 64 → exec (.frameReceive p b ⟨err, .whole⟩) s = .next (s.ptCount p 3 1)) ∧
  (∀ (p : Port) (b : List Byte) err (s : State), s.loopback p % 2 = 0 → (s.pt p).state = .up → s.mode ≠ .safe →
    s.mode ≠ .save → 64 ≤ b.length → s.maxFrame p < b.length → s.maxFrame p < 1729 →
    exec (.frameReceive p b ⟨err, .whole⟩) s = .next (s.ptCount p 4 1)) ∧
  (∀ (p : Port) (b : List Byte) err (s t : State), s.loopback p % 2 = 0 → (s.pt p).state = .up →
    s.mode = .forward ∨ s.mode = .drain → 64 ≤ b.length → b.length ≤ s.maxFrame p → err = true ∨ fcsGood b = false →
    t = s.ptCount p 2 1 →
    exec (.frameReceive p b ⟨err, .whole⟩) s = .next (if isMacControl b then t else t.addPkt (t.newPkt p b .fcs))) ∧
  (∀ (p : Port) (b : List Byte) (s t : State), s.loopback p % 2 = 0 → (s.pt p).state = .up →
    s.mode = .forward ∨ s.mode = .drain → 64 ≤ b.length → b.length ≤ s.maxFrame p → fcsGood b = true →
    isMacControl b = false → t = (s.ptCount p 0 1).ptCount p 1 b.length →
    exec (.frameReceive p b ⟨false, .whole⟩) s = .next (t.addPkt (t.newPkt p b .none))) ∧
  (∀ (p : Port) (b : List Byte) (s : State), s.loopback p % 2 = 0 → (s.pt p).state = .up →
    s.mode = .configure ∨ (s.mode = .park ∧ s.md.parkDown = false) → 64 ≤ b.length → b.length ≤ s.maxFrame p →
    fcsGood b = true → isMacControl b = false →
    exec (.frameReceive p b ⟨false, .whole⟩) s = .next (((s.ptCount p 0 1).ptCount p 1 b.length).ptCount p 7 1)) ∧
  (∀ (p : Port) (b : List Byte) err (s : State), s.loopback p % 2 = 0 → bit (s.rd (ptReg p 0x1C0)) 0 = true →
    exec (.frameReceive p b ⟨err, .first⟩) s = .next (s.setPt p { s.pt p with asm := b }) ∧
    exec (.frameReceive p b ⟨err, .middle⟩) s = .next (s.setPt p { s.pt p with asm := (s.pt p).asm ++ b }) ∧
    exec (.frameReceive p b ⟨err, .last⟩) s =
      .next ((s.setPt p { s.pt p with asm := [] }).receive p ((s.pt p).asm ++ b) err)) ∧
  (∀ (p : Port) (b : List Byte) err piece (s : State), bit (s.rd (ptReg p 0x1C0)) 0 = false → piece ≠ .whole →
    exec (.frameReceive p b ⟨err, piece⟩) s = .next s) ∧
  (∀ (p : Port) (b : List Byte) (s t : State), s.loopback p % 2 = 0 → (s.pt p).state = .up → s.mode ≠ .safe →
    s.mode ≠ .save → 64 ≤ b.length → b.length ≤ s.maxFrame p → fcsGood b = true → isMacControl b = true →
    s.rate p ≠ 0 → t = (s.ptCount p 0 1).ptCount p 1 b.length →
    exec (.macControlFrame p b false) s = .next (t.macControl p b) ∧
    (be b 14 2 = 1 → bits (s.macCfg p) 15 14 = 1 → (s.pt p).pause.wf (fun _ => 0) = true → ∀ c, c < 7 ∨ (c = 7 ∧ bit (s.macCfg p) 24 = true) →
      ((t.macControl p b).pt p).pause.get 0 c = (if be b 16 2 = 0 then 0
        else (s.now + nsFor b.length (s.rate p)) * 1000 + be b 16 2 * 512000 / s.rate p)) ∧
    (be b 14 2 ≠ 1 → be b 14 2 ≠ 0x101 → t.macControl p b = t.ptCount p 6 1)) ∧
  (∀ (p : Port) (tc : Fin 8) (s : State), exec (.pauseExpiry p tc) s =
    .next (if (s.pt p).pause.get 0 tc ≤ s.now * 1000 then s.setPause p tc 0 else s)) ∧
  (∀ (sl : Slice) kind lost pick s, s.offersSlot sl kind = false → exec (.frameAdmission sl ⟨kind, lost⟩ pick) s = .next s) ∧
  (∀ (sl : Slice) kind lost pick (s t : State), s.offersSlot sl kind = true → s.waitingFor sl = [] →
    t = { s with core.slotNo := s.core.slotNo.set 0 sl ((s.core.slotNo.get 0 sl + 1) % 16) } →
    exec (.frameAdmission sl ⟨kind, lost⟩ pick) s = .next ((t.slotCount sl .total).slotCount sl .front).pfcUpdate) ∧
  (∀ (sl : Slice) pick k (s t : State), s.offersSlot sl .ordinary = true → s.mode ≠ .drain → (s.slice sl).inService ≠ 0 →
    s.slotKind sl .ordinary = .ordinary → s.core.slotNo.get 0 sl < s.slotShare sl →
    t = { s with core.slotNo := s.core.slotNo.set 0 sl ((s.core.slotNo.get 0 sl + 1) % 16) } →
    nextInTurn (s.core.rot.get 33 sl) (s.waitingFor sl) = some k → s.headQFull k.slice = false →
    exec (.frameAdmission sl ⟨.ordinary, []⟩ pick) s = .next (t.admitPkt k).pfcUpdate) ∧
  (∀ (sl : Slice) pick k r (s t : State), s.offersSlot sl .reserved = true → s.mode ≠ .drain → (s.slice sl).inService ≠ 0 →
    s.core.slotNo.get 0 sl < s.slotShare sl →
    t = { s with core.slotNo := s.core.slotNo.set 0 sl ((s.core.slotNo.get 0 sl + 1) % 16) } →
    ((s.waitingFor sl).filter fun k => k.tc7) = k :: r → s.headQFull k.slice = false →
    exec (.frameAdmission sl ⟨.reserved, []⟩ pick) s = .next (t.admitPkt k).pfcUpdate)

/-- With no packet ready the end of the lookup stage changes nothing. The oldest packet, once parsed, leaves first,
while the buffer is live, and the pauses are worked out anew. One whose disposition is drop is counted, learned from
and dropped with reason 9; one whose disposition is trap is counted, learned from, and goes to the host's queue with
REASON 2. Otherwise the lookups run, and a packet with a class error is dropped with reason 0x0F. A DROP destination
drops a packet with no copy; a packet its policer drops is dropped with reason 0x10; a destination port, or a trap,
becomes the packet's fate. [Derived from R178, R186, R212, R213, R214, R225, R386] -/
def Obligations.LookupsEndInFates : Prop :=
  (∀ (sl : Slice) errs rows pick s, s.nextLookup sl = none → exec (.lookupComplete sl errs rows pick) s = .next s) ∧
  (∀ (sl : Slice) k r (s : State), s.pktsOf sl = k :: r → k.stage = .parsed → s.nextLookup sl = some k) ∧
  (∀ (sl : Slice) errs rows pick k s, s.bufLive = true → s.nextLookup sl = some k → s.disposition k = 1 →
    exec (.lookupComplete sl errs rows pick) s = .next (((s.parseCount k.slice 6).learnFrom k errs).actionDrop 9 pick k).pfcUpdate) ∧
  (∀ (sl : Slice) errs rows pick k s, s.bufLive = true → s.nextLookup sl = some k → s.disposition k = 2 →
    ∃ q, q = bits (s.rd (slReg k.slice 0x104)) 13 8 ∧ exec (.lookupComplete sl errs rows pick) s =
      .next (((s.parseCount k.slice 7).learnFrom k errs).actionDone pick k
        { Fate.zero with trap := some (q, 2, k.flags % 2 ^ 16) }).pfcUpdate) ∧
  (∀ (sl : Slice) errs rows pick k (s t : State), s.bufLive = true → s.nextLookup sl = some k →
    s.disposition k = 0 ∨ s.disposition k = 3 → (s.learnFrom k errs).lookups k (s.disposition k == 3) errs rows = (none, t) →
    exec (.lookupComplete sl errs rows pick) s = .next (t.actionDrop 0x0F pick k).pfcUpdate) ∧
  (∀ (sl : Slice) errs rows pick k ws cls f (s t : State), s.bufLive = true → s.nextLookup sl = some k →
    s.disposition k = 0 ∨ s.disposition k = 3 →
    (s.learnFrom k errs).lookups k (s.disposition k == 3) errs rows = (some (ws, cls, f), t) →
    exec (.lookupComplete sl errs rows pick) s = .next (t.applyActions k ws cls f errs pick).pfcUpdate) ∧
  (∀ r red f pick k (s : State), f.copy = none →
    s.settleFate (.drop r) red f pick k = s.actionDrop r pick { k with fate := f }) ∧
  (∀ d f pick k (s : State), (∀ r, d ≠ .drop r) →
    s.settleFate d true f pick k = s.actionDrop 0x10 pick { k with fate := f }) ∧
  (∀ p c f pick k (s : State), s.settleFate (.port p c) false f pick k =
    s.actionDone pick k { f with dest := some p, chan := c }) ∧
  (∀ q r m f pick k (s : State), s.settleFate (.trap q r m) false f pick k =
    s.actionDone pick k { f with trap := some (q, r, m) })

/-- A PT_MODE value that the port refuses sets its CFG_ERR and changes no register; another is stored. The four
writes of PT_CTRL by the active host to an active port write it whole. A write that moves ADMIN_UP, with ADMIN_UP
changes the loopback, or retrains a port that is not in TEST, stores the value and restarts the port. A write that
changes nothing in use stores the value and restarts nothing. PT_TEST is stored; a port that has ADMIN_UP, or whose
first state it does not change, stays. HP_LANE_TXEQ takes coefficients in their ranges and ignores others. A write
of a port within another port's lanes changes nothing. A port that is not UP restarts in its first state. A tester's
choice of near-end loopback and his generator and checker settings of a lane are kept while the test access port is
open, and do nothing else. [Derived from R134, R135, R136, R138, R142, R145, R146, R163, R164, R165, R170, R563] -/
def Obligations.PortRegistersAreWritten : Prop :=
  (∀ (p : Port) (v : Word) pick s, s.takesRwc s.active = true → s.inactive p = false →
    ptModeBad p (v.toNat % 128) = true →
    exec (.ptModeWrite s.active p v pick) s = .next (s.setPt p { s.pt p with cfgErr := true })) ∧
  (∀ (p : Port) (v : Word) pick s, Canonical s → s.takesRwc s.active = true → s.inactive p = false →
    ptModeBad p (v.toNat % 128) = false →
    ∃ t, exec (.ptModeWrite s.active p v pick) s = .next t ∧ t.rd (ptReg p 0) = v.toNat % 128) ∧
  (∀ (h : HostPort) (p : Port) (v : Word) pick s, s.ptWrites h p = true →
    (bit v.toNat 0 = true → exec (.adminUpSet h p v pick) s = .next (s.writeCtrl p v.toNat pick)) ∧
    (bit v.toNat 0 = false → exec (.adminUpClear h p v pick) s = .next (s.writeCtrl p v.toNat pick)) ∧
    (bit v.toNat 3 = true → exec (.retrain h p v pick) s = .next (s.writeCtrl p v.toNat pick))) ∧
  (∀ (h : HostPort) (p : Port) (m : Fin 4) pick s, s.ptWrites h p = true →
    exec (.loopbackSelect (.host h) p m pick) s = .next (s.writeCtrl p (s.ptCtrl p % 2 + m.val * 2) pick)) ∧
  (∀ (h : HostPort) (p : Port) (v : Word) (m : Fin 4) pick s, s.ptWrites h p = false →
    exec (.adminUpSet h p v pick) s = .next s ∧ exec (.adminUpClear h p v pick) s = .next s ∧
    exec (.retrain h p v pick) s = .next s ∧ exec (.loopbackSelect (.host h) p m pick) s = .next s ∧
    exec (.ptTestWrite (.host h) p v) s = .next s) ∧
  (∀ (p : Port) (v : Word) (m : Fin 4) pick s, s.testPort = none →
    exec (.loopbackSelect .tester p m pick) s = .next s ∧ exec (.ptTestWrite .tester p v) s = .next s) ∧
  (∀ (p : Port) (v : Word) (m : Fin 4) pick (s : State) x, s.testPort.isSome = true → x = s.pins.bench.get LaneTest.zero p →
    exec (.loopbackSelect .tester p m pick) s = .next { s with
      pins.bench := s.pins.bench.set LaneTest.zero p { x with nearEnd := decide (m.val = 1) } } ∧
    exec (.ptTestWrite .tester p v) s = .next { s with
      pins.bench := s.pins.bench.set LaneTest.zero p
        { x with word := v.toNat % 64, errs := if bit (v.toNat % 64) 4 then 0 else x.errs,
                 lock := bit (v.toNat % 64) 4 && x.lock } }) ∧
  (∀ (p : Nat) v pick (s : State), Canonical s → (s.writeCtrl p v pick).ptCtrl p = v % 8) ∧
  (∀ (p : Nat) v pick (s : State), bit (s.ptCtrl p) 0 = true → bit v 0 = false →
    s.writeCtrl p v pick = (s.wr (ptReg p 4) (v % 8)).restartPort p false pick) ∧
  (∀ (p : Nat) v pick (s : State), bit (s.ptCtrl p) 0 = false → bit v 0 = false →
    s.writeCtrl p v pick = s.wr (ptReg p 4) (v % 8)) ∧
  (∀ (p : Nat) v pick (s : State), bit v 0 = true →
    bit (s.ptCtrl p) 0 = false ∨ bits (s.ptCtrl p) 2 1 ≠ bits v 2 1 ∨ (bit v 3 = true ∧ (s.pt p).state ≠ .test) →
    ∃ u : State, s.writeCtrl p v pick = u.restartPort p true pick ∧ (u.pt p).state = (s.pt p).state) ∧
  (∀ (p : Nat) v pick (s : State), bit v 0 = true → bit (s.ptCtrl p) 0 = true → bits (s.ptCtrl p) 2 1 = bits v 2 1 →
    bit v 3 = false ∨ (s.pt p).state = .test → (s.writeCtrl p v pick).port.ports = s.port.ports) ∧
  (∀ (p : Nat) cut pick (s : State), s.port.ports.wf (fun _ => PortSt.zero) = true → (s.pt p).state ≠ .up →
    ((s.restartPort p cut pick).pt p).state = s.firstState p ∧ ((s.restartPort p cut pick).pt p).reversed = false) ∧
  (∀ (h : HostPort) (p : Port) (v : Word) s, Canonical s → s.ptWrites h p = true →
    exec (.ptTestWrite (.host h) p v) s = .next (s.writeTest p (v.toNat % 64)) ∧
    (s.writeTest p (v.toNat % 64)).ptTest p = v.toNat % 64 ∧
    ((s.wr (ptReg p 0x18) (v.toNat % 64)).firstState p = (s.pt p).state ∨ bit (s.ptCtrl p) 0 = true →
      (s.writeTest p (v.toNat % 64)).port.ports = s.port.ports)) ∧
  (∀ (h : HostPort) (l : Lane) (v : Word) s, s.takesRw h = true → exec (.hpLaneTxeqWrite h l v) s =
    .next (if tapsOk v.toNat then s.wr (laneReg l 4) (v.toNat % 2 ^ 30) else s))

/-- A signal that comes on lanes of an enabled port is detected on them; a port in DETECT that is not held down
moves on once it is detected on every lane, none parked, and no other moves. One in AN moves to training or
alignment. A lane in LX training answers each frame with its own; an inverted marker shows the lane inverted, odd
parity changes nothing but that nothing is repeated; the second of two equal requests is carried out on the lane it
names. Training ends in ALIGN, in LX once both sides are ready and after eight frames more from each lane. Alignment
takes the port UP with the latencies measured, and is recorded. A training in LX limits at 500 ms and others, like
auto-negotiation, with their timers: a training is counted and recorded, each restarts the port; alignment limits at
2 ms. A lane lost restarts a port that is UP and no other. A checker's lock and errors are kept on a port in TEST,
or by a tester on the lane. RS faults of an enabled port are kept; its 1 ms window without an uncorrectable codeword
ends FEC_DEGRADE and records nothing. A failing wire takes the next spare, which is kept as wear and recorded; with
none left every port of the harp is held down, which is recorded. [Derived from R142, R143, R144, R147, R148, R149,
R152, R165, R166, R168, R171, R172] -/
def Obligations.PortsComeUpAndReport : Prop :=
  (∀ (p : Port) lanes s, s.enabled p = true → s.lanesOn p = true → (s.pt p).state = .detect → (s.pt p).d2dDown = false →
    (∀ l ∈ s.lanesOf p, (s.lane l).parked = false ∧ ((s.lane l).sigDet = true ∨ bit lanes.toNat (l - p) = true)) →
    exec (.detectSignal ⟨p, lanes⟩) s = .next ((s.detectLanes p lanes.toNat).toState p (s.afterDetect p true))) ∧
  (∀ (p : Port) lanes s, ((s.pt p).state ≠ .detect ∨ (s.pt p).d2dDown = true ∨ ∃ l ∈ s.lanesOf p,
      (s.lane l).parked = true ∨ ((s.lane l).sigDet = false ∧ bit lanes.toNat (l - p) = false)) →
    exec (.detectSignal ⟨p, lanes⟩) s =
      .next (if s.enabled p = true ∧ s.lanesOn p = true then s.detectLanes p lanes.toNat else s)) ∧
  (∀ (p : Port) s, exec (.anComplete p) s =
    .next (if (s.pt p).state = .an ∧ s.lanesOn p = true then s.toState p (s.afterDetect p false) else s)) ∧
  (∀ (l : Lane) p inv (c : BitVec 16) (own : BitVec 12) o (s u : State), s.portOfLane l = some p →
    (s.pt p).state = .train → s.isLx p = true → s.lanesOn p = true → u = s.heardTraining p l inv c.toNat →
    o = { u.lane l with own := if bits own.toNat 5 4 = 0 then own.toNat else own.toNat - b2n (bit own.toNat 0) } →
    exec (.lxTrainingFrame l inv ⟨c, own⟩) s = .next ((u.setLane l o).sendTraining p l)) ∧
  (∀ (s : State) p l, (s.sendTraining p l).out =
      .training l ((s.lane l).control (l - p)) ((s.lane l).status (l - p)) :: s.out) ∧
  (∀ (p l c : Nat) (s : State),
    s.heardTraining p l true c = s.setLane l { s.lane l with polInv := true, lastReq := none, ready := 0 } ∧
    (evenParity c = false →
      s.heardTraining p l false c = s.setLane l { s.lane l with lastReq := none, ready := 0 }) ∧
    (evenParity c = true → (s.lane l).lastReq ≠ some (bits c 12 2) →
      s.heardTraining p l false c = s.setLane l { s.lane l with
        peerLane := bits c 15 13, lastReq := some (bits c 12 2), ready := if bit c 1 then satTo 3 ((s.lane l).ready + 1) else 0 }) ∧
    (evenParity c = true → (s.lane l).lastReq = some (bits c 12 2) →
      bits c 12 10 < s.width p → p + bits c 12 10 ≠ l → ∀ y, y = s.lane (p + bits c 12 10) →
        (trainRequest c y.cur).1 ≠ 0 →
        ((s.heardTraining p l false c).lane (p + bits c 12 10)).result = (trainRequest c y.cur).1 ∧
        ((s.heardTraining p l false c).lane (p + bits c 12 10)).cur =
          (if bit c 2 then setBits (trainRequest c y.cur).2 28 28 1 else (trainRequest c y.cur).2))) ∧
  (∀ (p : Port) (s u : State), (s.pt p).state = .train → s.lanesOn p = true →
    s.isLx p = false ∨ (∀ l ∈ s.lanesOf p, (s.lane l).ready = 3 ∧ bit (s.lane l).own 0 = true) →
    u = (if s.isLx p then s.lastTraining p else s) →
    exec (.trainingComplete p) s = .next (((u.lanesOf p).foldl
      (fun (t : State) l => t.setLane l { t.lane l with cdrLock := true, trained := true }) u).toState p .align)) ∧
  (∀ (p : Port) (rx tx : Word) rev inv ms s, (s.pt p).state = .align → s.lanesOn p = true →
    ∃ u : State, exec (.alignComplete p rx tx rev inv ms) s =
        .next (((u.portRec p 1).verifyStart p).pfcUpdate) ∧
      (u.pt p).state = .up ∧ u.time.rxLat = s.time.rxLat.set 0 p rx.toNat ∧
      u.time.txLat = s.time.txLat.set 0 p tx.toNat ∧ (s.isLx p = false ∨ s.trains p = false → (u.pt p).reversed = rev)) ∧
  (∀ (p : Port) s, (s.pt p).state = .train → s.isLx p = true → exec (.portStateLimit p) s =
    .next (if s.now - (s.pt p).since < 500000000 then s
      else ((s.ptCount p 15 1).portRec p 3).restartPort p false Draw.zero)) ∧
  (∀ (p : Port) s, (s.pt p).state = .train → s.isLx p = false → exec (.portStateLimit p) s =
    .next (((s.ptCount p 15 1).portRec p 3).restartPort p false Draw.zero)) ∧
  (∀ (p : Port) s, (s.pt p).state = .an → exec (.portStateLimit p) s = .next (s.restartPort p false Draw.zero)) ∧
  (∀ (p : Port) s, (s.pt p).state = .align → exec (.portStateLimit p) s =
    .next (if s.now - (s.pt p).since < 2000000 then s else s.restartPort p false Draw.zero)) ∧
  (∀ (l : Lane) (w : Fin 3) p pick (s : State), s.portOfLane l = some p →
    exec (.laneLoss l w pick) s = .next (if (s.pt p).state = .up
      then (s.setLane l ((s.lane l).lose w)).restartPort p true pick else s.setLane l ((s.lane l).lose w))) ∧
  (∀ (l : Lane) locked (e : DWord) p (s : State), s.portOfLane l = some p →
    bit (s.pins.bench.get LaneTest.zero l).word 4 = false →
    (s.pt p).state = .test → bit (s.ptTest p) 4 = true → bit (s.ptCtrl p) 0 = false →
    s.port.lanes.wf (fun _ => LaneSt.zero) = true →
    ∃ t : State, exec (.prbsLock l locked e) s = .next t ∧ (t.lane l).prbsLock = locked ∧
      (t.lane l).prbsErr = satTo (2 ^ 64 - 1) ((s.lane l).prbsErr + e.toNat)) ∧
  (∀ (l : Lane) locked (e : DWord) x (s : State), s.testPort.isSome = true → x = s.pins.bench.get LaneTest.zero l →
    bit x.word 4 = true → exec (.prbsLock l locked e) s = .next { s with
      pins.bench := s.pins.bench.set LaneTest.zero l
        { x with lock := locked, errs := satTo (2 ^ 64 - 1) (x.errs + e.toNat) } }) ∧
  (∀ (p : Port) a b s, exec (.rsFault p a b) s = .next (if s.enabled p then
    s.setPt p { s.pt p with localFault := a, remoteFault := b } else s)) ∧
  (∀ (p : Port) (tot cor : Word) hist ms (s : State), s.enabled p = true → s.port.ports.wf (fun _ => PortSt.zero) = true →
    ∃ t : State, exec (.fecWindow p tot cor 0 hist ms) s = .next t ∧ (t.pt p).fecRun = 0 ∧
      (t.pt p).fecDegrade = false ∧ t.flt = s.flt) ∧
  (∀ (h : Slice) dir (w : Fin 1600) ln pick k (s : State), s.mode ≠ .reset → s.mode ≠ .save → s.collieActs = true →
    s.flt.inj = [] → k = 2 * h.val + b2n dir → s.port.d2d.get 0 k < 64 →
    exec (.d2dWireError h dir w ln pick) s = .next ((({ s with
      port.d2d := s.port.d2d.set 0 k (s.port.d2d.get 0 k + 1) }).wearUse false fun x =>
        { x with d2d := x.d2d.set 0 (k * 64 + s.port.d2d.get 0 k) (w.val + 2 ^ 15) }).raiseX (harpSrc h) 5 .ce
          (packItems [(10, 512 + 32 * h.val + ln.val)]) false)) ∧
  (∀ (h : Slice) dir (w : Fin 1600) ln pick (s : State), s.mode ≠ .reset → s.mode ≠ .save → s.collieActs = true →
    s.flt.inj = [] → 64 ≤ s.port.d2d.get 0 (2 * h.val + b2n dir) → (s.pt (32 * h.val)).d2dDown = false →
    exec (.d2dWireError h dir w ln pick) s = .next ((s.harpDown h pick).follow (harpSrc h) 6 .uc
      (packItems [(10, 512 + 32 * h.val + ln.val)]) false)) ∧
  (∀ (h : Nat) pick p (s : State), p / 32 = h → ((s.harpDown h pick).pt p).d2dDown = true)

/-- Every microsecond out of RESET and SAVE, E and P are formed, and while the active Collie runs the loop acts.
Above the cap it takes a step in the first domain of the order in force that is not at its limit, and none with all
at their limits; at or below it returns the last step where it may, and nothing with no step taken. The clock steps
100 MHz toward what is asked for when a step is due. P over the cap for 1 ms with every domain at its limit is
unmet, once; 1 ms at or below ends it. A calibration with every enabled entry answering and a plausible M keeps it;
one without a good M counts against the measurement. The hottest junction is published, and at 100 C the thermal
limit begins at P, falls or rises by 2 %, and is withdrawn above CAP_W. Ten low readings of VHOLD end HOLD_OK, ten
high ones restore it. [Derived from R460, R461, R462, R463, R464, R465, R466, R467, R473, R474, R484, R496] -/
def Obligations.PowerLoopAndLimits : Prop :=
  (∀ e sv st s, s.mode = .reset ∨ s.mode = .save → exec (.powerLoopTick e sv st) s = .next s ∧
    (∀ a b, exec (.pmbusCalibration a b) s = .next s) ∧ ∀ mv, exec (.vholdReading mv) s = .next s) ∧
  (∀ (e sv : BitVec 11) (st : List Lane) s, s.mode ≠ .reset → s.mode ≠ .save →
    ∃ u : State, u.pwr.e = e.toNat ∧ u.pwr.p = s.pwr.pOf e.toNat ∧ u.pwr.steps = s.pwr.steps ∧
      u.pwr.eSum = s.pwr.eSum + e.toNat ∧ u.pwr.eNum = s.pwr.eNum + 1 ∧ u.clk = s.clk ∧
      exec (.powerLoopTick e sv st) s =
        .next (if s.collieActs then
          ((u.hintLevels (st.map Fin.val)).loopAct (st.map Fin.val) sv.toNat).throttleEdge else u)) ∧
  (∀ (st : List Nat) sv d (s : State), s.trimWithhold sv = none → s.capNow < s.pwr.p →
    s.orderNow.find? (fun d => !s.atLimit d) = some d → s.loopAct st sv = s.takeStep st d) ∧
  (∀ (st : List Nat) sv (s : State), s.trimWithhold sv = none → s.capNow < s.pwr.p → (∀ d, s.atLimit d = true) → s.loopAct st sv = s) ∧
  (∀ (st : List Nat) sv (s : State), s.trimWithhold sv = none → s.pwr.p ≤ s.capNow → s.pwr.steps = [] → s.loopAct st sv = s) ∧
  (∀ (st : List Nat) sv x r (s : State), s.trimWithhold sv = none → s.pwr.p ≤ s.capNow → s.pwr.steps = x :: r →
    s.loopAct st sv = if s.elapsed s.pwr.okSince 100000 && s.mayReturn x then s.returnStep sv else s) ∧
  (∀ (st : List Nat) (s : State), s.pwr.withhold < s.withholdMax →
    (s.takeStep st .compute).pwr.withhold = s.pwr.withhold + 1) ∧
  (∀ s, s.clkFree = true → s.clk.pipeCur ≠ s.clkGoal →
    ∃ t, exec .pipelineClockStep s = .next t ∧
      t.clk.pipeCur = (if s.clk.pipeCur < s.clkGoal then s.clk.pipeCur + 1 else s.clk.pipeCur - 1) ∧
      t.clk.lastStep = some s.now) ∧
  (∀ s, s.clkFree = false ∨ s.clk.pipeCur = s.clkGoal → exec .pipelineClockStep s = .next s) ∧
  (∀ s, s.pwr.throttleOn = true → s.throttle = false → s.elapsed s.pwr.lowSince 1000000 = true →
    exec .throttleOff s = .next (({ s with pwr.throttleOn := false, pwr.lowSince := none }).powerEvt 2 0)) ∧
  (∀ s, s.pwr.unmet = false → s.elapsed s.pwr.overSince 1000000 = true → (∀ d, s.atLimit d = true) →
    exec .capUnmet s = .next ((({ s with pwr.unmet := true }).raise pwrSrc 4 .ce
      (packItems [(11, s.pWatts), (11, satTo 2047 (s.capNow / 4096))])).powerEvt 3 0)) ∧
  (∀ s, (s.pwr.unmet = true ∨ s.elapsed s.pwr.overSince 1000000 = false) → exec .capUnmet s = .next s) ∧
  (∀ s, s.pwr.unmet = true → s.elapsed s.pwr.underSince 1000000 = true →
    exec .capMet s = .next (({ s with pwr.unmet := false }).powerEvt 4 0)) ∧
  (∀ ans b m s, s.mode ≠ .reset → s.mode ≠ .save →
    (∀ r, r < 16 → s.pmbOn r = true → (pmbAnswer ans r).1 = none) →
    m = (((List.range 16).filter s.pmbOn).map fun r => (pmbAnswer ans r).2).foldl (· + ·) 0 →
    s.pmbPlausible m = true →
    ∃ t : State, exec (.pmbusCalibration ans b) s = .next t ∧ t.pwr.m = m.toNat ∧ t.pwr.mAt = some s.now ∧
      t.pwr.bad = 0 ∧ t.pwr.eSum = 0 ∧ t.pwr.eNum = 0) ∧
  (∀ ans b r c s, s.mode ≠ .reset → s.mode ≠ .save → r < 16 → s.pmbOn r = true → (pmbAnswer ans r).1 = some c →
    ∃ t : State, exec (.pmbusCalibration ans b) s = .next t ∧ t.pwr.bad = satTo 3 (s.pwr.bad + 1) ∧ t.pwr.good = 0 ∧
      t.pwr.m = s.pwr.m ∧ t.pwr.gain = s.pwr.gain) ∧
  (∀ (v : Word) s, s.served = true → bit v.toNat 0 = true → s.pwr.frozen = true →
    exec (.calResume s.active v) s = .next { s with pwr.frozen := false, pwr.disagree := 0 }) ∧
  (∀ (h : Byte) (i : Fin 64) s, s.collieActs = true → h.toNat < 100 ∨ s.pwr.thermal ≠ none →
    ∃ t : State, exec (.temperatureRead h i) s = .next t ∧ t.pwr.hot = h.toNat ∧ t.pwr.sensor = i.val ∧
      t.pwr.hotMax = (if s.pwr.hotMax < h.toNat then h.toNat else s.pwr.hotMax) ∧ t.pwr.thermal = s.pwr.thermal) ∧
  (∀ (h : Byte) (i : Fin 64) s, s.collieActs = true → 100 ≤ h.toNat → s.pwr.thermal = none →
    ∃ t : State, exec (.temperatureRead h i) s = .next t ∧ t.pwr.thermal = some s.pwr.p) ∧
  (∀ s x, s.pwr.thermal = some x →
    (100 ≤ s.pwr.hot → exec .thermalLimitTick s = .next { s with pwr.thermal := some (x * 98 / 100) }) ∧
    (97 ≤ s.pwr.hot → s.pwr.hot < 100 → exec .thermalLimitTick s = .next s) ∧
    (s.pwr.hot < 97 → exec .thermalLimitTick s = .next (if s.capW * 4096 < x * 102 / 100
      then ({ s with pwr.thermal := none }).powerEvt 9 0 else { s with pwr.thermal := some (x * 102 / 100) }))) ∧
  (∀ (mv : BitVec 12) s, s.mode ≠ .reset → s.mode ≠ .save →
    ∃ t : State, exec (.vholdReading mv) s = .next t ∧ t.pwr.mv = mv.toNat ∧
      (mv.toNat < 3000 → 9 ≤ s.pwr.holdLow → t.pwr.holdOk = false) ∧
      (3100 ≤ mv.toNat → 9 ≤ s.pwr.holdHigh → t.pwr.holdOk = true) ∧
      (mv.toNat < 3100 → s.pwr.holdLow < 9 → t.pwr.holdOk = s.pwr.holdOk))

/-- CAP_SET of a cap, order, floor and limit in range commits the cap, and completes at once when the clock is at
its floor and else waits for it. A phase hint in range takes the lowest free slot and starts at once when its time
has come, and is refused NO_ROOM with no slot free. CANCEL_ALL ends every hint and answers how many there were. A
due hint starts; a hint that has run its time ends and no earlier. PWR_STATE parks a slice or lanes where no port in
use is on them and answers the first port or lane that is; an unpark waits for the ramp, and completes at once with
nothing parked. DISCARD with its guard by the active host invalidates both save areas and does nothing without the
guard. [Derived from R469, R470, R471, R476, R477, R478, R483] -/
def Obligations.PowerCommands : Prop :=
  (∀ p (n : Fin 64) c v (s : State), runs s p n 0x62 [whole 8 2, named 10 1 7, whole 11 1, named 12 1 0xF] c = true →
    400 ≤ c.arg 8 2 → c.arg 8 2 ≤ 1100 → c.arg 10 1 ≤ 5 → 8 ≤ c.arg 11 1 → c.arg 11 1 ≤ 16 → c.arg 12 1 ≤ 12 →
    v = c.arg 8 2 + c.arg 10 1 * 2 ^ 12 + c.arg 11 1 * 2 ^ 16 + c.arg 12 1 * 2 ^ 24 →
    ∃ t : State, t = (s.commit 3 v).liftClock.throttleEdge ∧ exec (.capSet p n) s =
      .next (if t.clkFloor ≤ t.clk.pipeCur then t.capDone.complete c .ok v t.pWatts
        else ({ t with pwr.capWait := t.pwr.capWait ++ [(c.serial, v)] }).wait c)) ∧
  (∀ v (s : State), (s.commit 3 v).pwrCap = v) ∧
  (∀ p (n : Fin 64) c (s : State), runs s p n 0x61 [named 8 1 1, named 9 1 7, named 10 1 0xF, whole 12 4, whole 16 14] c = true →
    bit (c.arg 8 1) 0 = false → c.arg 9 1 ≤ 5 → c.argBits 10 1 1 0 ≠ 3 → c.arg 12 4 ≠ 0 → c.arg 12 4 ≤ 10000000 →
    c.timeOk 16 = true → c.time 16 ≤ s.devTime + tenSec →
    (∀ i h, [0, 1, 2, 3].find? (fun i => (s.hint i).isNone) = some i →
      h = ({ at' := c.time 16, durUs := c.arg 12 4, order := c.arg 9 1, mem := c.argBits 10 1 1 0,
             link := c.argBits 10 1 3 2, since := none } : Hint) →
      exec (.phaseHint p n) s = .next ((if c.time 16 ≤ s.devTime then (s.setHint i (some h)).startHint i
        else s.setHint i (some h)).complete c .ok i 0)) ∧
    ((∀ i < 4, (s.hint i).isSome) → exec (.phaseHint p n) s = .next (s.complete c .noRoom 0 0))) ∧
  (∀ p (n : Fin 64) c (s : State), runs s p n 0x61 [named 8 1 1] c = true → bit (c.arg 8 1) 0 = true →
    exec (.phaseHintCancelAll p n) s = .next
      (([0, 1, 2, 3].foldl (fun (t : State) i => t.endHint i) s).complete c .ok s.pwr.hints.length 0)) ∧
  (∀ i s, s.hintDue = some i → exec .hintStart s = .next (s.startHint i)) ∧
  (∀ s, s.hintDue = none → exec .hintStart s = .next s) ∧
  (∀ (i : Fin 4) h s, s.hint i = some h → exec (.hintEnd i) s =
    .next (if s.elapsed h.since (h.durUs * 1000) then s.endHint i else s)) ∧
  (∀ (i : Nat) h (s : State), s.hint i = some h → h.since.isSome = false → s.endHint i = s.setHint i none) ∧
  (∀ p (n : Fin 64) c u (s : State), runs s p n 0x60 [whole 8 1, whole 9 1, named 10 1 0xF] c = true → c.arg 8 1 = 0 →
    c.arg 9 1 = 1 → u = c.arg 10 1 % 16 →
    (∀ q, ((List.range 32).map (32 * u + ·)).find? (fun q => s.adminUp q || s.isRecirc q) = some q →
      exec (.pwrStateParkSlice p n) s = .next (s.complete c .badArg q 0)) ∧
    ((∀ q ∈ (List.range 32).map (32 * u + ·), s.adminUp q = false ∧ s.isRecirc q = false) → s.pwr.ramps = [] →
      ∃ t : State, t = s.onSlice u (fun x => { x with parked := true }) ∧
        exec (.pwrStateParkSlice p n) s = .next (t.complete c .ok t.slicePark 0))) ∧
  (∀ p (n : Fin 64) c u (s : State), runs s p n 0x60 [whole 8 1, whole 9 1, named 10 1 0xF, whole 12 4] c = true →
    c.arg 8 1 = 1 → c.arg 9 1 = 1 → u = c.arg 10 1 % 16 →
    (∀ k ∈ maskLanes (c.arg 12 4), ∀ q, s.portOfLane (32 * u + k) = some q → s.adminUp q = false) →
    ∃ t : State, t = (maskLanes (c.arg 12 4)).foldl (fun (t : State) k =>
        t.setLane (32 * u + k) (t.lane (32 * u + k)).park) s ∧
      exec (.pwrStateParkLanes p n) s = .next (t.complete c .ok (t.lanePark u) 0)) ∧
  (∀ p (n : Fin 64) c k q u (s : State), runs s p n 0x60 [whole 8 1, whole 9 1, named 10 1 0xF, whole 12 4] c = true →
    c.arg 8 1 = 1 → c.arg 9 1 = 1 → u = c.arg 10 1 % 16 → maskLanes (c.arg 12 4) = [k] →
    s.portOfLane (32 * u + k) = some q → s.adminUp q = true →
    exec (.pwrStateParkLanes p n) s = .next (s.complete c .badArg k 0)) ∧
  (∀ p (n : Fin 64) c u r (s : State), runs s p n 0x60 [whole 8 1, whole 9 1, named 10 1 0xF] c = true → c.arg 8 1 = 0 →
    c.arg 9 1 = 0 → u = c.arg 10 1 % 16 →
    r = ({ cmd := some c.serial, isSlice := true, unit := u, lanes := 0, since := s.now } : Ramp) →
    exec (.pwrStateUnpark p n) s = .next (if (s.slice u).parked then
      ({ s.onSlice u (fun x => { x with parked := false }) with pwr.ramps := s.pwr.ramps ++ [r] }).wait c
      else s.complete c .ok s.slicePark 0)) ∧
  (∀ p (n : Fin 64) c u (s : State), runs s p n 0x60 [whole 8 1, whole 9 1, named 10 1 0xF, whole 12 4] c = true →
    c.arg 8 1 = 1 → c.arg 9 1 = 0 → u = c.arg 10 1 % 16 →
    (∀ k ∈ maskLanes (c.arg 12 4), (s.lane (32 * u + k)).parked = false) →
    exec (.pwrStateUnpark p n) s = .next (s.complete c .ok (s.lanePark u) 0)) ∧
  (∀ (v : Word) s, s.hostAlive = true → s.mode ≠ .save → bit v.toNat 0 = true →
    exec (.pwrSaveDiscard s.active v) s = .next (if bits v.toNat 31 16 = 0x5120 then
      { s with kennel.save0.valid := false, kennel.save1.valid := false, pwr.saveShown := false } else s))

/-- A heartbeat of a Collie that runs keeps its instant and marks it alive; one of a Collie that does not run
changes nothing. The active Collie found unfit gives its role to a fit standby, which becomes active, the failover
is counted, and the failed one restarts, or is held when restarted within the hour; with no fit standby the failure
is fatal. A standby whose check or sweep fails is marked so and counted. A mirror transfer applied to a standby is
kept with its instant; a discarded one changes nothing. A restart's self-test leads to loading, and its loading to
standby, or leaves it failed. A deliberate swap exchanges active and standby, counts, and drops the mirror; the
revert to A is one. [Derived from R527, R528, R529, R530, R531, R532, R533, R534, R535, R536] -/
def Obligations.ColliesServeAndFailOver : Prop :=
  (∀ e m s, (s.collie e).runs = false → exec (.collieHeartbeat e m) s = .next s ∧
    exec (.collieHeartbeatTimeout e) s = .next s) ∧
  (∀ e s c, (s.collie e).runs = true →
    c = { s.collie e with beat := some s.now, alive := true } →
    exec (.collieHeartbeat e false) s =
      .next (((s.setCollie e { c with memOk := (s.collie e).memOk && true }).judgeCollies 1).noteHealth s)) ∧
  (∀ e s, (s.collie e).runs = true → s.elapsed (s.collie e).beat 200000 = true →
    exec (.collieHeartbeatTimeout e) s =
      .next (((s.setCollie e { s.collie e with alive := false }).judgeCollies 0).noteHealth s)) ∧
  (∀ cause e n (s : State), e = s.activeCollie → n = e.peer → (s.keel 1).stuck = false → s.collieOk n = true →
    ∃ t : State, s.collieLost cause = t ∧ t.activeCollie = n ∧ (t.collie n).state = .active ∧
      t.ref.failovers = satInc 8 s.ref.failovers ∧ t.ref.mirror = none ∧
      (t.collie e).state = (match (s.collie e).restored with
        | some x => if s.now - x < 3600 * nsPerSec then .failed else .selftest
        | none => .selftest)) ∧
  (∀ cause (s : State), s.collieOk s.activeCollie.peer = false →
    s.collieLost cause = s.follow 0x200 0x13 .ft (packItems [(16, s.health16 .a), (16, s.health16 .b)]) false) ∧
  (∀ ok e s, e = s.activeCollie.peer → (s.collie e).state = .standby → exec (.collieKatCheck ok) s =
    .next (((s.setCollie e
      { s.collie e with katOk := ok, fails := if ok then (s.collie e).fails else satInc 8 (s.collie e).fails }).judgeCollies
        1).noteHealth s)) ∧
  (∀ ok s, (s.collie s.activeCollie.peer).state ≠ .standby → exec (.collieKatCheck ok) s = .next s ∧
    exec (.collieMemorySweep ok) s = .next s ∧ exec (.mirrorTransfer ok) s = .next s) ∧
  (∀ e s, e = s.activeCollie.peer → (s.collie e).state = .standby → exec (.collieMemorySweep false) s =
    .next (((s.setCollie e
      { s.collie e with memOk := false, fails := satInc 8 (s.collie e).fails }).judgeCollies 1).noteHealth s)
    ∧ exec (.collieMemorySweep true) s = .next s ∧ exec (.mirrorTransfer false) s = .next s) ∧
  (∀ e u s, e = s.activeCollie.peer → (s.collie e).state = .standby → (s.collie e.peer).state = .active →
    u = s.setCollie e { s.collie e with mirrorOk := true, mirrorAt := some s.now } →
    exec (.mirrorTransfer true) s = .next ((({ u with ref.mirror := some u.mirrorNow }).judgeCollies 1).noteHealth s)) ∧
  (∀ e s, e = s.activeCollie.peer → (s.collie e).mirrorOk = true → s.elapsed (s.collie e).mirrorAt 2000001 = true →
    exec .mirrorOkLapse s = .next (((s.setCollie e { s.collie e with mirrorOk := false }).judgeCollies 1).noteHealth s)) ∧
  (∀ s, (s.collie s.activeCollie.peer).mirrorOk = false → exec .mirrorOkLapse s = .next s) ∧
  (∀ e s, s.mode ≠ .reset → s.mode ≠ .boot → s.ref.fwu ≠ .reloading e →
    ((s.collie e).state = .selftest →
      (∃ t, exec (.collieRestored e false true) s = .next t ∧ (t.collie e).state = .loading) ∧
      (∃ t, exec (.collieRestored e false false) s = .next t ∧ (t.collie e).state = .failed)) ∧
    ((s.collie e).state = .loading →
      (∃ t, exec (.collieRestored e true true) s = .next t ∧ (t.collie e).state = .standby ∧
        (t.collie e).restored = some s.now) ∧
      (∃ t, exec (.collieRestored e true false) s = .next t ∧ (t.collie e).state = .failed))) ∧
  (∀ cause e n (s : State), e = s.activeCollie → n = e.peer → (s.keel 1).stuck = false → s.collieOk n = true →
    ∃ t : State, s.swapCollie cause = (true, t) ∧ t.activeCollie = n ∧ (t.collie n).state = .active ∧
      (t.collie e).state = .standby ∧ t.ref.swaps = satInc 8 s.ref.swaps ∧ t.ref.mirror = none) ∧
  (∀ s, s.activeCollie = .b → s.ref.a.state = .standby → s.elapsed s.ref.a.since (10 * nsPerSec) = true →
    exec .collieRevert s = .next ((s.swapCollie 1).2.noteHealth s)) ∧
  (∀ s, s.activeCollie = .a ∨ s.ref.a.state ≠ .standby → exec .collieRevert s = .next s)

/-- REF_ROLE_CMD without its guard does nothing; naming the roles as they stand changes no role; it swaps the
Collies to the one named, or sets CMD_ERR. An update with its guard starts fetching into a fit standby from a valid
image, and otherwise fails with its cause. A verified fetch swaps the Collies and begins the reload; a failed fetch
or signature fails the update with cause 3 or 4. The reloaded Collie comes back as standby with the same version.
The preference is committed in keel register 2. The periodic HEALTH event is posted once HEALTH_MS, not 0, has
passed since the last. A used spare starts a wear write to the copy that is not the newest; its end makes the copy
valid, or is logged as uncorrectable and the wear stays to be written. [Derived from R522, R533, R535, R537, R538,
R542, R545, R546, R550, R551] -/
def Obligations.RoleCommandsUpdatesAndWear : Prop :=
  (∀ (p : HostPort) (v : Word) s, bits v.toNat 31 16 ≠ 0x5120 → exec (.refRoleCmd p v) s = .next s ∧
    exec (.refFwuCtl p v) s = .next s) ∧
  (∀ (v : Word) s, s.served = true → bits v.toNat 31 16 = 0x5120 → bit v.toNat 2 = true → s.flt.keel1.stuck = false →
    Side.ofBit (bit v.toNat 0) = s.activeCollie → Side.ofBit (bit v.toNat 1) = s.activeTe →
    exec (.refRoleCmd s.active v) s = .next (s.noteHealth s)) ∧
  (∀ (v : Word) ok u s, s.served = true → bits v.toNat 31 16 = 0x5120 → bit v.toNat 2 = true → s.flt.keel1.stuck = false →
    Side.ofBit (bit v.toNat 0) ≠ s.activeCollie → s.swapCollie 3 = (ok, u) → Side.ofBit (bit v.toNat 1) = u.activeTe →
    exec (.refRoleCmd s.active v) s = .next ((if ok then u else u.cmdErr).noteHealth s)) ∧
  (∀ (v : Word) s, s.served = true → bits v.toNat 31 16 = 0x5120 → bit v.toNat 2 = true → s.flt.keel1.stuck = true →
    exec (.refRoleCmd s.active v) s =
      .next ((s.rewriteRoles (Side.ofBit (bit v.toNat 0)) (Side.ofBit (bit v.toNat 1))).noteHealth s)) ∧
  (∀ (v : Word) e s, s.served = true → bits v.toNat 31 16 = 0x5120 → bit v.toNat 0 = true → e = s.activeCollie.peer →
    (s.ref.fwu ≠ .none → exec (.refFwuCtl s.active v) s = .next (s.fwuFail 0)) ∧
    (s.ref.fwu = .none → (s.collie e).state ≠ .standby → exec (.refFwuCtl s.active v) s = .next (s.fwuFail 1)) ∧
    (s.ref.fwu = .none → (s.collie e).state = .standby → s.collieOk e = true →
      exec (.refFwuCtl s.active v) s = .next (if imageOk (s.rd64 0x20020) (s.rd 0x20028)
        then { s with ref.fwu := .fetching e } else s.fwuFail 2))) ∧
  (∀ e ok img (v : Word) s, s.ref.fwu = .fetching e →
    exec (.fwuVerifyDone false ok img v) s = .next (({ s with ref.fwu := .none }).fwuFail 3) ∧
    exec (.fwuVerifyDone true false img v) s = .next (({ s with ref.fwu := .none }).fwuFail 4)) ∧
  (∀ e img (v : Word) s, s.ref.fwu = .fetching e → e = s.activeCollie.peer → (s.collie e).state = .standby →
    s.collieOk e = true → (s.keel 1).stuck = false →
    ∃ t : State, exec (.fwuVerifyDone true true img v) s = .next t ∧ t.ref.fwu = .reloading e.peer ∧
      t.activeCollie = e ∧ (t.collie e).version = v.toNat ∧ (t.collie e.peer).state = .loading) ∧
  (∀ ok img (v : Word) s, (∀ e, s.ref.fwu ≠ .fetching e) → exec (.fwuVerifyDone ok ok img v) s = .next s) ∧
  (∀ e s, s.ref.fwu = .reloading e → (s.collie e).state = .loading →
    ∃ t : State, exec (.fwuReloadDone true) s = .next t ∧ t.ref.fwu = .none ∧ (t.collie e).state = .standby ∧
      (t.collie e).version = (s.collie e.peer).version) ∧
  (∀ ok s, (∀ e, s.ref.fwu ≠ .reloading e) → exec (.fwuReloadDone ok) s = .next s) ∧
  (∀ (v : Word) s, s.served = true → exec (.refHostPrefWrite s.active v) s = .next (s.commit 2 (v.toNat % 2))) ∧
  (∀ s, exec .healthPeriodic s =
    .next (if s.rd 0x20018 % 2 ^ 16 ≠ 0 ∧ s.mode ≠ .reset ∧
        (s.ref.healthAt.isNone || s.elapsed s.ref.healthAt (s.rd 0x20018 % 2 ^ 16 * 1000000)) = true
      then ({ s with ref.healthAt := some s.now }).healthEvt 1 else s)) ∧
  (∀ s, s.ref.wearDirty = false → exec .wearWritePeriod s = .next s) ∧
  (∀ s i, s.mode ≠ .reset → s.mode ≠ .boot → s.mode ≠ .save → s.collieActs = true → s.ref.wearDirty = true →
    s.ref.wearWriting = none → i = (if s.kennel.newest = some 0 then 1 else 0) →
    ∃ t : State, exec .wearWritePeriod s = .next t ∧ t.ref.wearWriting = some i ∧ t.ref.wearDirty = false ∧
      (t.wearAt' i).valid = false ∧ (t.wearAt' i).wear = s.ref.wear ∧ t.wearAt' (1 - i) = s.wearAt' (1 - i)) ∧
  (∀ s ok, s.ref.wearWriting = none → exec (.wearWriteEnd ok) s = .next s) ∧
  (∀ s i, s.ref.wearWriting = some i → i < 2 →
    (∃ t : State, exec (.wearWriteEnd true) s = .next t ∧ (t.wearAt' i).valid = true ∧ t.ref.wearWriting = none ∧
      t.ref.wearErr = false ∧ t.ref.wearSum = (s.wearAt' i).wear.sum) ∧
    exec (.wearWriteEnd false) s = .next (({ s with
      ref.wearWriting := none, ref.wearErr := true, ref.wearDirty := true }).follow 0xC00 3 .uc (packItems [(1, i)]) false))

/-- A port that does not answer configuration requests takes no SPDM request and no abort. GET_VERSION begins a
connection anew and is answered always. A request out of its order is answered with an ERROR of code 4 and moves the
connection no further. Capabilities follow the version, algorithms the capabilities, and are refused with code 1
when the requester does not offer those the device has. Digests, a certificate portion, as long as the mailbox's
object limit lets it be, a challenge's signature and measurements follow the algorithms; slot 0 alone is served. A
secure element that does not answer makes the response an ERROR of code 5. Measurement blocks are answered by their
index, an absent one is refused. The codes of the messages are the model's, from SPDM 1.2. An abort empties the
mailbox. [Derived from R38, R128, R129, R548, R549] -/
def Obligations.SpdmIsAnswered : Prop :=
  (∀ p s, s.spdmLive p = false → exec (.spdmGetVersion p) s = .next s ∧ exec (.spdmGetCapabilities p) s = .next s ∧
    (∀ o, exec (.spdmNegotiateAlgorithms p o) s = .next s) ∧ (∀ a, exec (.spdmGetDigests p a) s = .next s) ∧
    (∀ sl a b o, exec (.spdmGetCertificate p sl a b o) s = .next s) ∧
    (∀ sl n a, exec (.spdmChallenge p sl n a) s = .next s) ∧
    (∀ op g n a, exec (.spdmGetMeasurements p op g n a) s = .next s) ∧ exec (.doeAbort p) s = .next s) ∧
  (∀ p s, s.spdmLive p = true → ∃ t : State, exec (.spdmGetVersion p) s = .next t ∧ (t.half p).spdm = .version ∧
    (t.half p).doe = some (0x04, [0, 1, 0, 0x12])) ∧
  (∀ p s, s.spdmLive p = true → (s.half p).spdm ≠ .idle → ∃ t : State, exec (.spdmGetCapabilities p) s = .next t ∧
    (t.half p).spdm = .capabilities ∧ (t.half p).doe = some (0x61, toLE 4 0x16)) ∧
  (∀ p o s, s.spdmLive p = true → (s.half p).spdm = .capabilities ∨ (s.half p).spdm = .negotiated →
    ∃ t : State, exec (.spdmNegotiateAlgorithms p o) s = .next t ∧
      (o = true → (t.half p).spdm = .negotiated ∧ (t.half p).doe = some (0x63, toLE 4 4 ++ toLE 4 0x80 ++ toLE 4 2)) ∧
      (o = false → (t.half p).spdm = (s.half p).spdm ∧ (t.half p).doe = some (0x7F, [1, 0]))) ∧
  (∀ p s, s.spdmLive p = true → (s.half p).spdm ≠ .negotiated →
    (∀ a, exec (.spdmGetDigests p a) s = .next (s.spdmError p 4)) ∧
    (∀ sl a b o, exec (.spdmGetCertificate p sl a b o) s = .next (s.spdmError p 4)) ∧
    (∀ sl n a, exec (.spdmChallenge p sl n a) s = .next (s.spdmError p 4)) ∧
    (∀ op g n a, exec (.spdmGetMeasurements p op g n a) s = .next (s.spdmError p 4))) ∧
  (∀ p s, s.spdmLive p = true → (s.half p).spdm = .negotiated → s.ref.seFault = false →
    exec (.spdmGetDigests p true) s = .next (s.respond p 0x01 (1 :: chainDigest)) ∧
    exec (.spdmGetDigests p false) s = .next (s.seFail.spdmError p 5)) ∧
  (∀ p (sl : Fin 8) (off len : BitVec 16) part s, s.spdmLive p = true → (s.half p).spdm = .negotiated →
    s.ref.seFault = false → part = (Config.certChain.drop off.toNat).take (satTo certRoom len.toNat) →
    exec (.spdmGetCertificate p sl off len true) s = .next (
      if sl.val ≠ 0 ∨ Config.certChain.length ≤ off.toNat then s.spdmError p 1
      else s.respond p 0x02
        (toLE 2 part.length ++ toLE 2 (Config.certChain.length - off.toNat - part.length) ++ part))) ∧
  (∀ p n b s, s.spdmLive p = true → (s.half p).spdm = .negotiated → s.ref.seFault = false →
    b = chainDigest ++ cut (Config.nonce s.serial) 0 32 →
    exec (.spdmChallenge p 0 n true) s = .next (({ s with serial := s.serial + 1 }).respond p 0x03
      (b ++ Config.sign (n ++ b)))) ∧
  (∀ p (sl : Fin 8) n a s, s.spdmLive p = true → (s.half p).spdm = .negotiated → sl ≠ 0 →
    exec (.spdmChallenge p sl n a) s = .next (s.spdmError p 1)) ∧
  (∀ p (op : Byte) x n s, s.spdmLive p = true → (s.half p).spdm = .negotiated → op ≠ 0 → op ≠ 0xFF →
    s.measBlock op.toNat = some x →
    exec (.spdmGetMeasurements p op false n true) s = .next (({ s with serial := s.serial + 1 }).respond p 0x60
      ([1] ++ toLE 3 (measEntry op.toNat x).length ++ measEntry op.toNat x ++ cut (Config.nonce s.serial) 0 32))) ∧
  (∀ p (op : Byte) g n a s, s.spdmLive p = true → (s.half p).spdm = .negotiated → op ≠ 0 → op ≠ 0xFF →
    s.measBlock op.toNat = none → exec (.spdmGetMeasurements p op g n a) s = .next (s.spdmError p 1)) ∧
  (∀ p s, s.spdmLive p = true → ∃ t : State, exec (.doeAbort p) s = .next t ∧ (t.half p).doe = none ∧
    (t.half p).spdm = (s.half p).spdm ∧ t.half p.peer = s.half p.peer)

/-- QUEUE_CFG of a port in use sets a queue's profile, quantum or binding as its options say and answers the profile
and depth; it refuses with detail 1, 2 or 3 what it may not do. Every shaper and policer gains its tokens up to its
size at its update. SHAPER_WRITE with values in range stores the shaper, with its bucket full on FILL or rate 0 and
else holding what it held up to the new burst, and answers the whole tokens; READ writes the shaper's 16 bytes; one
refused for its arguments answers the tokens of the shaper it names. POLICER_WRITE stores the policer in every named
slice; READ of one slice writes its 32 bytes. Outside a whole multiple of 1024 ns of device time, outside FORWARD
and DRAIN, or with sampling off a histogram sample changes nothing. [Derived from R334, R335, R367, R375, R377,
R378, R379, R382, R384, R387, R389] -/
def Obligations.QueuesShapersAndPolicers : Prop :=
  (∀ p (n : Fin 64) c fs (s : State), runs s p n 0x52 fs c = true →
    fs = [whole 8 1, named 9 1 0xF, named 10 2 0x1FF, named 12 1 7, named 13 1 0xF, named 14 2 0x7FFF, named 16 4 0xFFFFFF] →
    (1 < c.arg 8 1 ∨ s.inactive (c.arg 10 2) = true →
      exec (.queueCfg p n) s = .next (s.complete c .badArg 1 0).pfcUpdate) ∧
    (c.arg 8 1 = 1 → s.inactive (c.arg 10 2) = false → bit (c.arg 9 1) 0 = true → bit (c.arg 9 1) 1 = false →
      bit (c.arg 9 1) 3 = false → s.queue (chanKey (c.arg 14 2)) ≠ [] →
      exec (.queueCfg p n) s = .next (s.complete c .badArg 2 0).pfcUpdate) ∧
    (c.arg 8 1 = 0 → s.inactive (c.arg 10 2) = false → c.arg 9 1 = 0 →
      exec (.queueCfg p n) s = .next (s.complete c .ok (s.core.prof.get 0 (classKey (c.arg 10 2) (c.arg 12 1)))
        (s.ecnDepth (s.members (classKey (c.arg 10 2) (c.arg 12 1))))).pfcUpdate) ∧
    (c.arg 8 1 = 0 → s.inactive (c.arg 10 2) = false → c.arg 9 1 = 8 → 64 ≤ c.arg 16 4 → c.arg 16 4 ≤ 1048576 →
      ∃ t : State, t = { s with core := { s.core with
          quantum := s.core.quantum.set 2048 (classKey (c.arg 10 2) (c.arg 12 1)) (c.arg 16 4) } } ∧
        exec (.queueCfg p n) s = .next (t.complete c .ok (s.core.prof.get 0 (classKey (c.arg 10 2) (c.arg 12 1)))
          (t.ecnDepth (t.members (classKey (c.arg 10 2) (c.arg 12 1))))).pfcUpdate) ∧
    (c.arg 8 1 = 1 → s.inactive (c.arg 10 2) = false → c.arg 9 1 = 1 → s.queue (chanKey (c.arg 14 2)) = [] →
      ∃ t : State, t = { s with core := { s.core with
          bind := s.core.bind.set 0 (c.arg 14 2) (classKey (c.arg 10 2) (c.arg 12 1) + 1) } } ∧
        exec (.queueCfg p n) s = .next (t.complete c .ok (s.core.prof.get 0 (chanKey (c.arg 14 2)))
          (t.ecnDepth [chanKey (c.arg 14 2)])).pfcUpdate)) ∧
  (∀ s u : State, u = s.settleRefunds → ∃ t : State, exec .shaperTokenUpdate s = .next t ∧
    t = { u with sch := { u.sch with shapers := t.sch.shapers } } ∧
    (u.sch.shapers.wf (fun _ => Shaper.zero) = true → ∀ k, u.shaper k ≠ Shaper.zero → t.shaper k = (u.shaper k).fill u.now)) ∧
  (∀ now (x : Shaper), (x.rate = 0 → (x.fill now).tok = x.burst * 65536) ∧ (x.fill now).tok ≤ x.burst * 65536 ∧
    (x.tok ≤ x.burst * 65536 → x.tok ≤ (x.fill now).tok)) ∧
  (∀ p (n : Fin 64) c x (s u : State), u = s.settleRefunds → runs u p n 0x51 (anyBits c) c = true →
    bit (c.arg 9 1) 0 = false → shaperBad u c = false →
    c.arg 16 4 = 0 ∨ (1000 ≤ c.arg 16 4 ∧ c.arg 16 4 ≤ 2000000000) → 64 ≤ c.arg 20 4 → c.arg 20 4 ≤ 16777216 →
    c.arg 24 8 = 0 →
    x = ({ rate := c.arg 16 4, burst := c.arg 20 4, at' := u.now,
           tok := if c.arg 16 4 = 0 ∨ bit (c.arg 9 1) 1 = true then (c.arg 20 4 * 65536 : Nat)
             else imin (c.arg 20 4 * 65536) ((u.shaper (shaperKey c)).fill u.now).tok } : Shaper) →
    exec (.shaperWrite p n) s = .next ((u.setShaper (shaperKey c) x).complete c .ok x.whole 0)) ∧
  (∀ p (n : Fin 64) c x (s u : State), u = s.settleRefunds → runs u p n 0x51 (anyBits c) c = true →
    bit (c.arg 9 1) 0 = true → shaperBad u c = false → c.arg 16 4 = 0 → c.arg 20 4 = 0 → c.arg 24 8 % 16 = 0 →
    x = (u.shaper (shaperKey c)).fill u.now →
    exec (.shaperRead p n) s = .next ((u.hostData c (c.arg 24 8)
      (toLE 4 x.rate ++ toLE 4 x.burst ++ toLE 4 x.whole ++ toLE 4 0)).complete c .ok x.whole 0)) ∧
  (∀ p (n : Fin 64) c (s u : State), u = s.settleRefunds → runs u p n 0x51 (anyBits c) c = true → shaperBad u c = true →
    c.arg 8 1 ≤ 2 →
    exec (if bit (c.arg 9 1) 0 then .shaperRead p n else .shaperWrite p n) s =
      .next (u.complete c .badArg ((u.shaper (shaperKey c)).fill u.now).whole 0)) ∧
  (∀ s, s.sch.owed = [] → ∃ t : State, exec .policerBucketFill s = .next t ∧
    (s.sch.pol.wf (fun _ => Policer.zero) = true → ∀ sl i, s.policer sl i ≠ Policer.zero →
      t.policer sl i = (s.policer sl i).fill s.now)) ∧
  (∀ p (n : Fin 64) c (s : State), runs s p n 0x50 (policerLayout c) c = true → bit (c.arg 13 1) 0 = false →
    exec (.policerWrite p n) s = .next (if policerBad c then s.complete c .badArg 0 0
      else ((maskSlices (c.arg 8 2)).foldl (fun (t : State) sl =>
        t.setPolicer sl (c.arg 10 2) (policerAfter c s.now (t.policer sl (c.arg 10 2)))) s).complete c .ok 0 0)) ∧
  (∀ p (n : Fin 64) c sl x (s : State), runs s p n 0x50 (policerLayout c) c = true → bit (c.arg 13 1) 0 = true →
    maskSlices (c.arg 8 2) = [sl] → bit (c.arg 13 1) 1 = false → c.arg 12 1 = 0 → c.arg 16 4 = 0 → c.arg 20 4 = 0 →
    c.arg 24 4 = 0 → c.arg 28 4 = 0 → c.arg 32 8 % 32 = 0 → x = s.policer sl (c.arg 10 2) →
    exec (.policerRead p n) s = .next ((s.hostData c (c.arg 32 8)
      ([BitVec.ofNat 8 x.mode] ++ toLE 3 0 ++ toLE 4 x.cir ++ toLE 4 x.cbs ++ toLE 4 x.pir ++ toLE 4 x.pbs
        ++ toLE 4 (x.tc / 65536) ++ toLE 4 (x.te / 65536) ++ toLE 4 0)).complete c .ok 0 0)) ∧
  (∀ s, (bit (s.rd 0xA0004) 0 = false ∨ s.devNs % 1024 ≠ 0 ∨ (s.mode ≠ .forward ∧ s.mode ≠ .drain)) →
    exec .histogramSample s = .next s) ∧
  (∀ s, bit (s.rd 0xA0004) 0 = true → bit (s.rd 0xA0004) 1 = false → s.devNs % 1024 = 0 → s.mode = .forward →
    exec .histogramSample s =
      .next ((List.range 4096).foldl (fun (t : State) q => t.sampleQueue q (t.members q)) s))

/-- A trTCM packet that TE does not cover is red, one that TC does not cover is yellow and takes from TE alone, and
a green one takes from both. An srTCM packet takes from TC when it can, else from TE, else it is red and takes
nothing. Colours of packets that were red stay red. No bucket rises when a packet passes and a policer that is off
is green for all. An eligible TC7 goes first, then TC6. A shaper with no rate passes everything and is charged
nothing; another passes frames while its tokens are not below 0, and a charge lowers them by the frame's bytes. A
turn whose holder is not eligible ends, and an emptied member keeps no positive deficit. [Derived from R368, R369,
R372, R373, R376, R382, R384] -/
def Obligations.ColoursChoicesAndCharges : Prop :=
  (∀ l (x : Policer), x.alg = 2 →
    (x.te < l * 65536 → x.police 0 l = (2, x)) ∧
    (l * 65536 ≤ x.te → x.tc < l * 65536 → x.police 0 l = (1, { x with te := x.te - l * 65536 })) ∧
    (l * 65536 ≤ x.te → l * 65536 ≤ x.tc → x.police 0 l =
      (0, { x with te := x.te - l * 65536, tc := x.tc - l * 65536 }))) ∧
  (∀ l (x : Policer), x.alg = 1 ∨ x.alg = 3 →
    (l * 65536 ≤ x.tc → x.police 0 l = (0, { x with tc := x.tc - l * 65536 })) ∧
    (x.tc < l * 65536 → l * 65536 ≤ x.te → x.police 0 l = (1, { x with te := x.te - l * 65536 })) ∧
    (x.tc < l * 65536 → x.te < l * 65536 → x.police 0 l = (2, x))) ∧
  (∀ l (x : Policer), x.alg ≠ 0 → x.police 2 l = (2, x)) ∧
  (∀ inp l (x : Policer), x.alg = 0 → x.police inp l = (0, x)) ∧
  (∀ inp l (x : Policer), (x.police inp l).2.tc ≤ x.tc ∧ (x.police inp l).2.te ≤ x.te ∧ (x.police inp l).1 ≤ 2 ∧
    (inp ≤ 2 → x.alg ≠ 0 → inp ≤ (x.police inp l).1)) ∧
  (∀ (p : Nat) (s : State), s.classEligible p 7 = true → s.pickClass p = some (7, s.sch.classDef)) ∧
  (∀ (p : Nat) (s : State), s.classEligible p 7 = false → s.classEligible p 6 = true →
    s.pickClass p = some (6, s.sch.classDef)) ∧
  (∀ (p tc : Nat) m (s : State), s.pickClass p = some (tc, m) → s.classEligible p tc = true ∧ tc ≤ 7) ∧
  (∀ (x : Shaper) len fl, x.rate = 0 → x.passes = true ∧ x.charge len fl = x) ∧
  (∀ (x : Shaper) len, x.rate ≠ 0 → (x.passes = true ↔ 0 ≤ x.tok) ∧
    (x.charge len false).tok = x.tok - (len * 65536 : Nat)) ∧
  (∀ (x : Shaper) len, x.rate ≠ 0 → (x.charge len true).tok ≤ x.tok ∧
    (-((x.burst * 65536 : Nat) : Int) ≤ x.tok → -((x.burst * 65536 : Nat) : Int) ≤ (x.charge len true).tok)) ∧
  (∀ (x : Turn) elig, (x.keep elig).who = x.who ∧
    ((x.keep elig).runs = true ↔ x.runs = true ∧ ∃ k, x.who = some k ∧ elig k = true)) ∧
  (∀ (m : SMap Int) k, m.wf (fun _ => 0) = true → (capDef true m k).get 0 k = imin 0 (m.get 0 k) ∧
    ∀ j, j ≠ k → (capDef true m k).get 0 j = m.get 0 j)

/-- With no group due, or no flow control, a PFC refresh sends nothing; a due 802.3x refresh sends one pause of
TIME. With no packet waiting for an extent nothing is taken; one that gets an extent keeps it, and one that does not
is dropped with reason 4 or 5. The next packet of an ingress port is enqueued at its destination port, or at the
host; one whose frame ended with a fault is dropped with reason 8, one that has not arrived whole for the host
waits. A port that is not UP drops with 0x11, an unbound channel with 0x12. A session resumes once its rings have
been roomy and the backlog low for 100 us. A queue's head is dropped only when it has waited longer than its limit,
a TC7 head never with MAX_WAIT 0. A choice first brings copies whose frames have arrived into their queues and drops
the heads that a gate can never pass; a port that cannot send chooses nothing, another the class and the member that
its rounds pick. With the buffer frozen nothing is taken, enqueued or dropped. [Derived from R309, R310, R336, R338,
R340, R342, R350, R355, R362, R369, R417, R418] -/
def Obligations.PacketsTakeExtentsAndQueue : Prop :=
  (∀ (p : Port) s, (bits (s.macCfg p) 15 14 = 0 ∨ s.xoffGroups p = []) → exec (.pfcRefresh p) s = .next s) ∧
  (∀ (p : Port) g s, bits (s.macCfg p) 15 14 = 1 → s.xoffGroups p = [g] →
    s.core.xoff.get 0 (p.val * 8 + g) + s.refreshPs p ≤ s.now * 1000 + 1 →
    ∃ t : State, t = { s with core.xoff := s.core.xoff.put (p.val * 8 + g) (s.now * 1000 + 1) } ∧
      exec (.pfcRefresh p) s = .next (t.sendMac p (toBE 2 1 ++ toBE 2 s.pfcTime))) ∧
  (∀ (p : Port) (pick : Draw) s, s.bufLive = false ∨ s.needsExtent p = none → exec (.extentChoice p pick.pos pick.lost) s = .next s) ∧
  (∀ (p : Port) (pick : Draw) k r (t s : State), s.bufLive = true → s.needsExtent p = some k →
    s.take (pickLen k.bytes) k.tc7 (s.entityOf k) k.fate.queue k.owner pick k.bytes = (r, t) →
    (r = .noExtent → exec (.extentChoice p pick.pos pick.lost) s = .next (t.dropPkt 4 pick k).pfcUpdate) ∧
    (r = .bufLimit → exec (.extentChoice p pick.pos pick.lost) s = .next (t.dropPkt 5 pick k).pfcUpdate) ∧
    (∀ h, r = .got h → k.late = .none ∨ pickLen k.bytes = none →
      exec (.extentChoice p pick.pos pick.lost) s = .next ((t.setPkt { k with h := some h }).pfcUpdate)) ∧
    (∀ h, r = .got h → k.late ≠ .none → pickLen k.bytes ≠ none → exec (.extentChoice p pick.pos pick.lost) s =
      .next (((t.setPkt { k with h := some h }).dropPkt 8 pick { k with h := some h }).pfcUpdate))) ∧
  (∀ b, pickLen b = (if b.length < 1729 then some b.length else none)) ∧
  (∀ (p : Port) inj (r1 r2 : BitVec 16) ups pick s, s.bufLive = false →
    exec (.enqueue p inj ⟨r1, r2⟩ ups pick) s = .next (s.upset ups)) ∧
  (∀ (p : Port) inj (r1 r2 : BitVec 16) ups pick (s u : State), s.bufLive = true →
    u = (s.upset ups).bringCopies pick →
    (u.nextEnqueue p inj = none → exec (.enqueue p inj ⟨r1, r2⟩ ups pick) s = .next u.pfcUpdate) ∧
    (∀ k q, u.nextEnqueue p inj = some k → k.fate.dest = some q →
      exec (.enqueue p inj ⟨r1, r2⟩ ups pick) s = .next (u.enqueuePort k q r1.toNat r2.toNat pick).pfcUpdate) ∧
    (∀ k q a m, u.nextEnqueue p inj = some k → k.fate.dest = none → k.fate.trap = some (q, a, m) →
      exec (.enqueue p inj ⟨r1, r2⟩ ups pick) s = .next (u.enqueueHost k q a m pick).pfcUpdate)) ∧
  (∀ k q a m pick (s : State), (s.now < k.endsAt → s.enqueueHost k q a m pick = s) ∧
    (k.endsAt ≤ s.now → k.late ≠ .none → s.enqueueHost k q a m pick = s.dropPkt 8 pick k)) ∧
  (∀ k q r1 r2 pick (s : State), k.endsAt ≤ s.now → k.late ≠ .none → s.enqueuePort k q r1 r2 pick = s.dropPkt 8 pick k) ∧
  (∀ k q r1 r2 pick (s : State), k.endsAt ≤ s.now → k.late = .none → k.fate.copy = none → s.isUp q = false →
    s.enqueuePort k q r1 r2 pick = s.dropPkt 0x11 pick k) ∧
  (∀ (d : Desc) c (s : State), s.isUp d.port = true → d.chan = some c → s.core.bind.get 0 c ≠ classKey d.port d.tc + 1 →
    s.enqueueRefusal d = some 0x12) ∧
  (∀ (m : Fin 16) (s u : State), u = s.noteRoom → exec (.captureResume m) s =
    .next (if (u.mir m).fallback && u.elapsed u.core.roomSince 100000 then
      (u.setMir m { u.mir m with fallback := false, afterFb := true }).raise 0x800 2 .ce
        (packItems [(4, m.val), (32, satTo (2 ^ 32 - 1) (u.mir m).fbSent)]) else u)) ∧
  (∀ (p : Port) pick s, s.bufLive = false ∨ s.isRecirc p = false → exec (.recircTimeout p pick) s = .next s) ∧
  (∀ (p : Port) pick s, s.bufLive = true → s.isRecirc p = true → exec (.recircTimeout p pick) s = .next
    ((((List.range 8).flatMap fun tc => s.members (classKey p tc)).foldl (fun (t : State) k =>
      t.dropStale k (bits (s.rd 0x90000) 25 16 * 1000) 0x14 pick (t.queue k).length) s).pfcUpdate)) ∧
  (∀ (p : Port) pick s, bits (s.rd (ptReg p 0x180)) 31 16 = 0 ∨ s.bufLive = false →
    exec (.tc7Stale p pick) s = .next s) ∧
  (∀ (p : Port) pick s, s.bufLive = true → bits (s.rd (ptReg p 0x180)) 31 16 ≠ 0 → exec (.tc7Stale p pick) s = .next
    (((s.members (classKey p 7)).foldl (fun (t : State) k =>
      t.dropStale k (bits (s.rd (ptReg p 0x180)) 31 16 * 1000) 0x1B pick (t.queue k).length) s).pfcUpdate)) ∧
  (∀ k limit r pick n (s : State), s.headWaited k limit = false → s.dropStale k limit r pick n = s) ∧
  (∀ k limit r pick n d rest (s : State), s.queue k = d :: rest → limit < s.now - d.enqAt →
    s.dropStale k limit r pick (n + 1) = ((s.leaveQueue k rest).dropDesc r pick d).dropStale k limit r pick n) ∧
  (∀ k pick n d rest (s : State), s.queue k = d :: rest → s.dropNever k pick (n + 1) =
    if s.neverSent d then ((s.leaveQueue k rest).dropDesc 0x1A pick d).dropNever k pick n else s) ∧
  (∀ (p : Port) pick s, s.bufLive = false → exec (.schedulerChoice p pick) s = .next s) ∧
  (∀ (p : Port) pick (s u : State), s.bufLive = true → u = s.bringCopies pick →
    exec (.schedulerChoice p pick) s = .next ((((((List.range 8).flatMap fun tc => u.members (classKey p tc)).foldl
      (fun (t : State) k => (t.judgeKnown k pick).dropNever k pick (t.queue k).length) u).lineUpdate p).chooseNext
        p).pfcUpdate)) ∧
  (∀ (p : Nat) (s u : State), u = s.settleRefunds.endTurns p →
    (u.canSend p = false → s.chooseNext p = u) ∧ (u.pickClass p = none → s.chooseNext p = u) ∧
    (∀ tc cd md k d rest, u.canSend p = true → u.pickClass p = some (tc, cd) →
      dwrrPick u.quantum (u.members (classKey p tc)) (fun k => u.headEligible p tc k)
        (u.sch.memTurn.get Turn.none (classKey p tc)) u.sch.memDef = some (k, md) →
      u.queue k = d :: rest →
      s.chooseNext p = State.choose p tc k d rest { u with sch := { u.sch with classDef := cd, memDef := md } }))

/-- CTR_SNAPSHOT with a trigger of 0 to 2 becomes pending, and refuses with detail 1 a field out of range, 2 a time
too far ahead, 3 a second one. TRIGGER 3 aborts the pending one, NOT_FOUND with none; TRIGGER 4 unfreezes. At its
instant every counter is latched under the next snapshot number and the command completes. CTR_READ of a space and
range that exist writes the counters named, live or from the snapshot; from a snapshot never taken it is NOT_FOUND.
A sample with no packet admitted within 1 us is posted without one. The user pages shown are the low 16 bits
written. [Derived from R451, R452, R453, R454, R455, R456, R457] -/
def Obligations.CountersAreSnappedAndRead : Prop :=
  (∀ p (n : Fin 64) c w (s : State), runs s p n 0x58 (snapLayout c) c = true → c.arg 8 1 ≤ 2 →
    w = ({ cmd := c.serial, trigger := c.arg 8 1, at' := if c.arg 8 1 = 1 ∧ s.devTime < c.time 16 then some (c.time 16) else none,
           pin := c.arg 10 1, freeze := bit (c.arg 9 1) 0 } : SnapReq) →
    (s.snapBad c = true → exec (.ctrSnapshot p n) s = .next (s.complete c .badArg 1 0)) ∧
    (s.snapBad c = false → c.arg 8 1 = 1 → s.devTime + tenSec < c.time 16 →
      exec (.ctrSnapshot p n) s = .next (s.complete c .badArg 2 0)) ∧
    (s.snapBad c = false → c.arg 8 1 ≠ 1 ∨ (c.timeOk 16 = true ∧ c.time 16 ≤ s.devTime + tenSec) →
      exec (.ctrSnapshot p n) s = .next (if s.tel.pend.isSome then s.complete c .badArg 3 0
        else ({ s with tel := { s.tel with pend := some w } }).wait c))) ∧
  (∀ p (n : Fin 64) c (s : State), runs s p n 0x58 (snapLayout c) c = true → c.arg 8 1 = 3 → s.snapBad c = false →
    (s.tel.pend = none → exec (.ctrSnapshotCancel p n) s = .next (s.complete c .notFound 0 0)) ∧
    (∀ w, s.tel.pend = some w → exec (.ctrSnapshotCancel p n) s =
      .next ((({ s with tel := { s.tel with pend := none } }).completeSer w.cmd .aborted 0 0).complete c .ok 0 0))) ∧
  (∀ p (n : Fin 64) c (s : State), runs s p n 0x58 (snapLayout c) c = true → c.arg 8 1 = 4 → s.snapBad c = false →
    exec (.ctrSnapshotUnfreeze p n) s = .next (({ s with tel := { s.tel with frozen := false } }).complete c .ok 0 0)) ∧
  (∀ s, s.tel.pend = none → exec .snapshotInstant s = .next s) ∧
  (∀ w t s, s.tel.pend = some w → w.at' = some t →
    exec .snapshotInstant s = .next (if t ≤ s.devTime then s.takeSnap w t else s)) ∧
  (∀ w s, s.tel.pend = some w → w.at' = none →
    exec .snapshotInstant s = .next (if w.trigger = 2 then s else s.takeSnap w s.devTime)) ∧
  (∀ w t s, ∃ u : State, State.takeSnap w t s = u.completeSer w.cmd .ok ((s.tel.snapId + 1) % 2 ^ 32) 0 ∧
    u.tel.snapId = (s.tel.snapId + 1) % 2 ^ 32 ∧ u.tel.snapAt = t ∧ u.tel.bank.cnts = s.cnts ∧ u.tel.pend = none ∧
    u.tel.frozen = (s.tel.frozen || w.freeze) ∧ u.cnts = s.cnts) ∧
  (∀ p (n : Fin 64) c snap (s : State), runs s p n 0x59 [whole 8 1, named 9 1 1, whole 10 2, whole 12 4, whole 16 8] c = true →
    ctrSize (c.arg 8 1) ≠ 0 → c.arg 10 2 ≠ 0 → c.arg 10 2 ≤ 512 → c.arg 12 4 + c.arg 10 2 ≤ ctrSize (c.arg 8 1) →
    c.arg 16 8 % 8 = 0 → snap = bit (c.arg 9 1) 0 →
    exec (.ctrRead p n) s = .next (if snap = true ∧ s.tel.snapId = 0 then s.complete c .notFound 0 0
      else (s.hostData c (c.arg 16 8) ((List.range (c.arg 10 2)).flatMap fun k =>
          toLE 8 ((s.ctrBank snap).read (c.arg 8 1) (c.arg 12 4 + k)))).complete c .ok
        (if snap then s.tel.snapId else 0) (c.arg 10 2))) ∧
  (∀ (m : Slice) (c : Fin 64) pick before after x s, s.tel.samples = before ++ (m.val * 64 + c.val, x) :: after →
    (∀ e ∈ before, e.1 ≠ m.val * 64 + c.val) → x.admitted = [] → x.since + 1000 ≤ s.now →
    exec (.pmcSampleTimeout m c pick) s = .next (s.postSample (m.val * 64 + c.val) pick (emptyCard m))) ∧
  (∀ (m : Slice) (c : Fin 64) pick s, (∀ e ∈ s.tel.samples, e.1 ≠ m.val * 64 + c.val) →
    exec (.pmcSampleTimeout m c pick) s = .next s) ∧
  (∀ (v : Word) s, Canonical s → s.served = true → ∃ t : State, exec (.perfUserEnWrite s.active v) s = .next t ∧
    t.rd 0x70000 = v.toNat % 2 ^ 16 ∧ ∀ o, o ≠ 0x70000 → t.rd o = s.rd o)

/-- A write at an offset that is no multiple of 4, or of 8 bytes at one that is no 64-bit register, has no effect. A
write of 8 bytes to a 64-bit register writes its two halves, the low one first. A write to a port's block of the HI
space by a host that may not write it has no effect, a running ring's block takes none, and the completion base is a
command ring's alone. A stored register takes the value its field rules leave, in the modes of its class, and no
other stored register changes with it; an offset with no register, or a mode that takes no write, leaves the state.
[Derived from R7, R74, R86, R87, R88, R117, R526, R554, R563] -/
def Obligations.RegisterWritesActOnTheirRegister : Prop :=
  (∀ p (o : BitVec 26) w v s, o.toNat % 4 ≠ 0 → exec (.registerWrite p o w v) s = .next s) ∧
  (∀ p (o : BitVec 26) v s, o.toNat % 8 ≠ 0 ∨ isWide o.toNat = false → exec (.registerWrite p o true v) s = .next s) ∧
  (∀ p (o : BitVec 26) (v : DWord) s, o.toNat % 8 = 0 → isWide o.toNat = true → exec (.registerWrite p o true v) s =
    .next ((s.write4 p o.toNat (v.toNat % 2 ^ 32)).write4 p (o.toNat + 4) (v.toNat / 2 ^ 32))) ∧
  (∀ p (o : BitVec 26) (v : DWord) s, o.toNat % 4 = 0 → exec (.registerWrite p o false v) s =
    .next (s.write4 p o.toNat (v.toNat % 2 ^ 32))) ∧
  (∀ p o v (s : State), 0x10000 ≤ o → o < 0x18000 → s.hiWriteOk p .ha = false → s.write4 p o v = s) ∧
  (∀ p o v (s : State), 0x18000 ≤ o → o < 0x20000 → s.hiWriteOk p .hb = false → s.write4 p o v = s) ∧
  (∀ p n o v (s : State), (s.ring p n).en = true → s.writeRing p n o v = s) ∧
  (∀ p (n : Nat) v (s : State), (s.ring p n).en = false → (s.ring p n).active = false → ringId n = true →
    s.writeRing p n 0 v = s.setRing p n { s.ring p n with base := setBits (s.ring p n).base 31 0 v } ∧
    s.writeRing p n 4 v = s.setRing p n { s.ring p n with base := setBits (s.ring p n).base 63 32 v }) ∧
  (∀ p (n : Nat) v (s : State), (s.ring p n).en = false → (s.ring p n).active = false → ringId n = true →
    (64 ≤ n → s.writeRing p n 8 v = s ∧ s.writeRing p n 0xC v = s) ∧
    (n < 64 → s.writeRing p n 8 v = s.setRing p n { s.ring p n with cbase := setBits (s.ring p n).cbase 31 0 v } ∧
      s.writeRing p n 0xC v = s.setRing p n { s.ring p n with cbase := setBits (s.ring p n).cbase 63 32 v })) ∧
  (∀ p o v (s : State), s.regRule o (s.rd o) v = none → s.writeStored p o v = s) ∧
  (∀ p o v (s : State), s.takesRw p = false → s.takesRwc p = false → s.writeStored p o v = s) ∧
  (∀ p o v x (s : State), s.regRule o (s.rd o) v = some (.rw, x) → s.takesRw p = true →
    s.writeStored p o v = (s.wr o x).regEffect o (s.rd o) x) ∧
  (∀ p o v x (s : State), s.regRule o (s.rd o) v = some (.rwc, x) → s.takesRwc p = true →
    s.writeStored p o v = (s.wr o x).regEffect o (s.rd o) x) ∧
  (∀ o v x (s : State), Canonical s → ((s.wr o x).regEffect o v x).rd o = x % 2 ^ 32 ∧
    ∀ q, q ≠ o → ((s.wr o x).regEffect o v x).rd q = s.rd q) ∧
  (∀ (v : DWord) s, Canonical s → s.served = true → ∃ t : State, exec (.registerWrite s.active 0x30004 false v) s = .next t ∧
    t.rd 0x30004 = v.toNat % 2 ^ 16 ∧ ∀ q, q ≠ 0x30004 → t.rd q = s.rd q)

/-- The table `parts` names, for each of the 240 commands, the parts of the state it may change: no command changes
the queue of waiting commands or the instant, only one changes the provisioned key hash, only six the pipeline
clock, and so on for each register group, memory and queue. Whatever a command's operands and whatever the state, a
next state that it answers agrees with the state before in every part that the table does not name for it. [Derived
from R32, R36, R98, R200, R514, R522, R543, R545, R555, R563] -/
def Obligations.CommandsChangeOnlyTheirParts : Prop :=
  ∀ i s t p, exec i s = .next t → p ∉ parts i → Part.same p s t

/-- Whatever the state and whatever command waits in front, a step answers a next state (no command of the block
faults or is refused), and the commands that wait after it are those that waited before without the front one: no
command adds one, drops one or changes their order. The queue is the model's own form of commands that come from
outside (assumption 1). [Derived from 03 host ports and rings.md] -/
def Obligations.EveryStepTakesTheFrontCommand : Prop :=
  ∀ s : State, ∃ t, step s = .next t ∧ t.pending = s.pending.tail

/-- A state is lawful when a request in progress asks for a transition of the table of R38 from the current mode,
and when RESET_N low means RESET with the host ports not live. In every lawful state, for every command in front but
a vote of a keel register (which can show another value than the last one voted), a step leaves a lawful state whose
mode is the mode before or one that the table of R38 leads to from it. [Derived from R36, R38, R46, R51, R62, R66,
R514, R591, R592] -/
def Obligations.ModesFollowTheTable : Prop :=
  ∀ s t : State, (∀ c, s.pending.head? = some c → isVote c = false) → Lawful s → step s = .next t →
    Lawful t ∧ modeMay s.mode t.mode = true

/-- The stored registers and the 64-bit counters are held as lists of offset and value with rising offsets and no
entry that holds what an unlisted offset reads as (the value after reset; 0 for a counter). In every state of that
form a step, whatever command it takes, leaves a state of that form: equal contents are always equal data. The form
is the model's own. [Derived from R7, R64, R555, R556, R557, R558, R559, R560] -/
def Obligations.RegistersAndCountersStayCanonical : Prop :=
  ∀ s t : State, Canonical s → step s = .next t → Canonical t

/-- Once the kennel holds the hash of a customer key, every step leaves that hash in it: no command and no tick, no
reset, save, failure or loss of power changes or clears it. [Derived from R198, R199, R200] -/
def Obligations.ProvisionedKeyHashStays : Prop :=
  ∀ (s t : State) h, s.kennel.keyHash = some h → step s = .next t → t.kennel.keyHash = some h

/-- After reset the device is in RESET with SAFE_N low; no request is in progress, no command is fetched, no ring is
enabled, no report is pending and no first fault valid, the time engines stand at 0, no register or counter differs
from its reset value, and the state is lawful and canonical. [Derived from R36, R37, R57, R64, R76, R392, R509,
R555] -/
def Obligations.StateAfterReset : Prop :=
  State.reset.mode = .reset ∧ State.reset.safeN = false ∧ State.reset.md.req = none ∧ State.reset.cmds = [] ∧
  (∀ p n, (State.reset.ring p n).en = false) ∧ State.reset.flt.pend = [] ∧ State.reset.flt.firstValid = false ∧
  State.reset.time.a = Te.zero ∧ State.reset.time.b = Te.zero ∧ State.reset.regs = [] ∧ State.reset.cnts = [] ∧
  Lawful State.reset ∧ Canonical State.reset

/-- In every state, the level of the pin SAFE_N is low when the mode is RESET or SAFE, and high when the mode is
BOOT, CONFIGURE, FORWARD, DRAIN, PARK or SAVE. [The rule R37] -/
def Obligations.SafeNShowsResetAndSafe : Prop :=
  ∀ s : State, ((s.mode = .reset ∨ s.mode = .safe) → s.safeN = false) ∧
    ((s.mode ≠ .reset ∧ s.mode ≠ .safe) → s.safeN = true)

/-- For every state, value and page: a write to the PROD or the CONS doorbell of a ring that is not enabled changes
nothing at all, and neither does one on the port that is not active, at any page (page 80 holds no doorbell of a
ring: its write is the heartbeat, which either role's port takes). [The rule R84] -/
def Obligations.IdleDoorbellsHaveNoEffect : Prop :=
  ∀ p (n : Fin 256) (v : Word) (s : State), ((s.ring p n).en = false ∨ (p ≠ s.active ∧ n.val ≠ 80)) →
    exec (.prodDoorbell p n v) s = .next s ∧ exec (.consDoorbell p n v) s = .next s

/-- For a FAULT_INJECT that runs with CANCEL = 1 and names a known checker: with MODE, INDEX and COUNT 0 and no
reserved bit set, every armed injection of SOURCE and CHECKER is taken away and no other, and the command completes
with OK and their number, or with NOT_FOUND and nothing changed when there is none; with MODE, INDEX or COUNT not 0
it completes with BAD_ARG and nothing changes. [The rule R520] -/
def Obligations.InjectionsAreCancelled : Prop :=
  ∀ p (n : Fin 64) c (s : State), runs s p n 0x78 [whole 8 56] c = true → bit (c.arg 18 1) 1 = true →
    s.injectIndex (c.arg 8 2) (c.arg 10 1) 0 ≠ none →
    (∀ rest, c.reservedOk [named 8 2 0xFFF, whole 10 1, named 18 1 3] = true →
      rest = s.flt.inj.filter (fun j => !(j.source = c.arg 8 2 ∧ j.checker = c.arg 10 1)) →
      exec (.faultInjectCancel p n) s = .next (if rest.length < s.flt.inj.length then
        ({ s with flt := { s.flt with inj := rest } }).complete c .ok (s.flt.inj.length - rest.length) 0
        else s.complete c .notFound 0 0)) ∧
    ((bit (c.arg 11 1) 0 = true ∨ c.arg 12 4 ≠ 0 ∨ c.arg 16 2 ≠ 0) →
      exec (.faultInjectCancel p n) s = .next (s.complete c .badArg 1 0))
end

