-- ==== Sys2Proof/Laws/Base.lean ====
section
/-! SUPPORT. What a fold, a choice and a pair keep of a state, field by field. -/
set_option linter.unusedSimpArgs false
set_option linter.unusedVariables false
namespace Sys2Proof.Machine

/-- The state that a command's own meaning ends with. -/
def Ran.st : Ran → State
  | .done _ _ _ s => s
  | .wait s => s

@[simp] theorem Ran.st_done (a b c s) : (Ran.done a b c s).st = s := rfl

@[simp] theorem Ran.st_wait (s) : (Ran.wait s).st = s := rfl

@[simp] theorem Ran.st_refuse (a s) : (Ran.refuse a s).st = s := rfl

@[simp] theorem Ran.st_ite (c : Prop) [Decidable c] (a b : Ran) :
    (if c then a else b).st = if c then a.st else b.st := by split <;> rfl

/-- The second of a pair that a search gave. -/

theorem snd_of {α β : Type} {p : α × β} {a : α} {b : β} (h : p = (a, b)) : b = p.2 := by rw [h]

@[simp] theorem snd_ite {β : Type} (c : Prop) [Decidable c] (a b : β × State) :
    (if c then a else b).2 = if c then a.2 else b.2 := by split <;> rfl

/-- A fold keeps what each of its steps keeps. -/

theorem foldl_keeps {α β : Type} (f : State → β) (g : State → α → State) (h : ∀ t a, f (g t a) = f t) (l : List α)
    (s : State) : f (l.foldl g s) = f s := by
  induction l generalizing s with
  | nil => rfl
  | cons a r ih => exact (ih _).trans (h s a)

/-- A fold over pairs keeps of the state what each of its steps keeps. -/

theorem foldl_snd_keeps {α β γ : Type} (f : State → β) (g : γ × State → α → γ × State)
    (h : ∀ t a, f (g t a).2 = f t.2) (l : List α) (s : γ × State) : f (l.foldl g s).2 = f s.2 := by
  induction l generalizing s with
  | nil => rfl
  | cons a r ih => exact (ih _).trans (h s a)

/-- A command of a ring keeps what its own meaning keeps, but for its completion. -/

theorem runCmd_keeps {β : Type} (f : State → β) (hc : ∀ s c a x y, f (State.complete c a x y s) = f s)
    (hw : ∀ s c, f (State.wait c s) = f s) (p : HostPort) (n op : Nat) (row : Cmd → Bool)
    (layout : Cmd → List ArgField) (body : Cmd → State → Ran) (s : State) (h : ∀ c t, f (body c t).st = f t) :
    f (State.runCmd p n op row layout body s) = f s := by
  unfold State.runCmd
  split
  · rfl
  · rename_i c _
    have k := h c s
    (repeat' split) <;> simp_all

@[simp] theorem ite_pending (c : Prop) [Decidable c] (a b : State) :
    (if c then a else b).pending = if c then a.pending else b.pending := by split <;> rfl

@[simp] theorem foldl_pending {α : Type} (g : State → α → State) (h : ∀ t a, (g t a).pending = t.pending) (l : List α) (s : State) :
    (l.foldl g s).pending = s.pending := foldl_keeps (fun t => t.pending) g h l s

@[simp] theorem foldl_snd_pending {α γ : Type} (g : γ × State → α → γ × State) (h : ∀ t a, (g t a).2.pending = t.2.pending)
    (l : List α) (s : γ × State) : (l.foldl g s).2.pending = s.2.pending := foldl_snd_keeps (fun t => t.pending) g h l s

@[simp] theorem ite_now (c : Prop) [Decidable c] (a b : State) :
    (if c then a else b).now = if c then a.now else b.now := by split <;> rfl

@[simp] theorem foldl_now {α : Type} (g : State → α → State) (h : ∀ t a, (g t a).now = t.now) (l : List α) (s : State) :
    (l.foldl g s).now = s.now := foldl_keeps (fun t => t.now) g h l s

@[simp] theorem foldl_snd_now {α γ : Type} (g : γ × State → α → γ × State) (h : ∀ t a, (g t a).2.now = t.2.now)
    (l : List α) (s : γ × State) : (l.foldl g s).2.now = s.2.now := foldl_snd_keeps (fun t => t.now) g h l s

@[simp] theorem ite_serial (c : Prop) [Decidable c] (a b : State) :
    (if c then a else b).serial = if c then a.serial else b.serial := by split <;> rfl

@[simp] theorem foldl_serial {α : Type} (g : State → α → State) (h : ∀ t a, (g t a).serial = t.serial) (l : List α) (s : State) :
    (l.foldl g s).serial = s.serial := foldl_keeps (fun t => t.serial) g h l s

@[simp] theorem foldl_snd_serial {α γ : Type} (g : γ × State → α → γ × State) (h : ∀ t a, (g t a).2.serial = t.2.serial)
    (l : List α) (s : γ × State) : (l.foldl g s).2.serial = s.2.serial := foldl_snd_keeps (fun t => t.serial) g h l s

@[simp] theorem ite_out (c : Prop) [Decidable c] (a b : State) :
    (if c then a else b).out = if c then a.out else b.out := by split <;> rfl

@[simp] theorem foldl_out {α : Type} (g : State → α → State) (h : ∀ t a, (g t a).out = t.out) (l : List α) (s : State) :
    (l.foldl g s).out = s.out := foldl_keeps (fun t => t.out) g h l s

@[simp] theorem foldl_snd_out {α γ : Type} (g : γ × State → α → γ × State) (h : ∀ t a, (g t a).2.out = t.2.out)
    (l : List α) (s : γ × State) : (l.foldl g s).2.out = s.2.out := foldl_snd_keeps (fun t => t.out) g h l s

@[simp] theorem ite_pins (c : Prop) [Decidable c] (a b : State) :
    (if c then a else b).pins = if c then a.pins else b.pins := by split <;> rfl

@[simp] theorem foldl_pins {α : Type} (g : State → α → State) (h : ∀ t a, (g t a).pins = t.pins) (l : List α) (s : State) :
    (l.foldl g s).pins = s.pins := foldl_keeps (fun t => t.pins) g h l s

@[simp] theorem foldl_snd_pins {α γ : Type} (g : γ × State → α → γ × State) (h : ∀ t a, (g t a).2.pins = t.2.pins)
    (l : List α) (s : γ × State) : (l.foldl g s).2.pins = s.2.pins := foldl_snd_keeps (fun t => t.pins) g h l s

@[simp] theorem ite_md (c : Prop) [Decidable c] (a b : State) :
    (if c then a else b).md = if c then a.md else b.md := by split <;> rfl

@[simp] theorem foldl_md {α : Type} (g : State → α → State) (h : ∀ t a, (g t a).md = t.md) (l : List α) (s : State) :
    (l.foldl g s).md = s.md := foldl_keeps (fun t => t.md) g h l s

@[simp] theorem foldl_snd_md {α γ : Type} (g : γ × State → α → γ × State) (h : ∀ t a, (g t a).2.md = t.2.md)
    (l : List α) (s : γ × State) : (l.foldl g s).2.md = s.2.md := foldl_snd_keeps (fun t => t.md) g h l s

@[simp] theorem ite_host (c : Prop) [Decidable c] (a b : State) :
    (if c then a else b).host = if c then a.host else b.host := by split <;> rfl

@[simp] theorem foldl_host {α : Type} (g : State → α → State) (h : ∀ t a, (g t a).host = t.host) (l : List α) (s : State) :
    (l.foldl g s).host = s.host := foldl_keeps (fun t => t.host) g h l s

@[simp] theorem foldl_snd_host {α γ : Type} (g : γ × State → α → γ × State) (h : ∀ t a, (g t a).2.host = t.2.host)
    (l : List α) (s : γ × State) : (l.foldl g s).2.host = s.2.host := foldl_snd_keeps (fun t => t.host) g h l s

@[simp] theorem ite_cmds (c : Prop) [Decidable c] (a b : State) :
    (if c then a else b).cmds = if c then a.cmds else b.cmds := by split <;> rfl

@[simp] theorem foldl_cmds {α : Type} (g : State → α → State) (h : ∀ t a, (g t a).cmds = t.cmds) (l : List α) (s : State) :
    (l.foldl g s).cmds = s.cmds := foldl_keeps (fun t => t.cmds) g h l s

@[simp] theorem foldl_snd_cmds {α γ : Type} (g : γ × State → α → γ × State) (h : ∀ t a, (g t a).2.cmds = t.2.cmds)
    (l : List α) (s : γ × State) : (l.foldl g s).2.cmds = s.2.cmds := foldl_snd_keeps (fun t => t.cmds) g h l s

@[simp] theorem ite_flt (c : Prop) [Decidable c] (a b : State) :
    (if c then a else b).flt = if c then a.flt else b.flt := by split <;> rfl

@[simp] theorem foldl_flt {α : Type} (g : State → α → State) (h : ∀ t a, (g t a).flt = t.flt) (l : List α) (s : State) :
    (l.foldl g s).flt = s.flt := foldl_keeps (fun t => t.flt) g h l s

@[simp] theorem foldl_snd_flt {α γ : Type} (g : γ × State → α → γ × State) (h : ∀ t a, (g t a).2.flt = t.2.flt)
    (l : List α) (s : γ × State) : (l.foldl g s).2.flt = s.2.flt := foldl_snd_keeps (fun t => t.flt) g h l s

@[simp] theorem ite_clk (c : Prop) [Decidable c] (a b : State) :
    (if c then a else b).clk = if c then a.clk else b.clk := by split <;> rfl

@[simp] theorem foldl_clk {α : Type} (g : State → α → State) (h : ∀ t a, (g t a).clk = t.clk) (l : List α) (s : State) :
    (l.foldl g s).clk = s.clk := foldl_keeps (fun t => t.clk) g h l s

@[simp] theorem foldl_snd_clk {α γ : Type} (g : γ × State → α → γ × State) (h : ∀ t a, (g t a).2.clk = t.2.clk)
    (l : List α) (s : γ × State) : (l.foldl g s).2.clk = s.2.clk := foldl_snd_keeps (fun t => t.clk) g h l s

@[simp] theorem ite_ref (c : Prop) [Decidable c] (a b : State) :
    (if c then a else b).ref = if c then a.ref else b.ref := by split <;> rfl

@[simp] theorem foldl_ref {α : Type} (g : State → α → State) (h : ∀ t a, (g t a).ref = t.ref) (l : List α) (s : State) :
    (l.foldl g s).ref = s.ref := foldl_keeps (fun t => t.ref) g h l s

@[simp] theorem foldl_snd_ref {α γ : Type} (g : γ × State → α → γ × State) (h : ∀ t a, (g t a).2.ref = t.2.ref)
    (l : List α) (s : γ × State) : (l.foldl g s).2.ref = s.2.ref := foldl_snd_keeps (fun t => t.ref) g h l s

@[simp] theorem ite_kennel (c : Prop) [Decidable c] (a b : State) :
    (if c then a else b).kennel = if c then a.kennel else b.kennel := by split <;> rfl

@[simp] theorem foldl_kennel {α : Type} (g : State → α → State) (h : ∀ t a, (g t a).kennel = t.kennel) (l : List α) (s : State) :
    (l.foldl g s).kennel = s.kennel := foldl_keeps (fun t => t.kennel) g h l s

@[simp] theorem foldl_snd_kennel {α γ : Type} (g : γ × State → α → γ × State) (h : ∀ t a, (g t a).2.kennel = t.2.kennel)
    (l : List α) (s : γ × State) : (l.foldl g s).2.kennel = s.2.kennel := foldl_snd_keeps (fun t => t.kennel) g h l s

@[simp] theorem ite_time (c : Prop) [Decidable c] (a b : State) :
    (if c then a else b).time = if c then a.time else b.time := by split <;> rfl

@[simp] theorem foldl_time {α : Type} (g : State → α → State) (h : ∀ t a, (g t a).time = t.time) (l : List α) (s : State) :
    (l.foldl g s).time = s.time := foldl_keeps (fun t => t.time) g h l s

@[simp] theorem foldl_snd_time {α γ : Type} (g : γ × State → α → γ × State) (h : ∀ t a, (g t a).2.time = t.2.time)
    (l : List α) (s : γ × State) : (l.foldl g s).2.time = s.2.time := foldl_snd_keeps (fun t => t.time) g h l s

@[simp] theorem ite_buf (c : Prop) [Decidable c] (a b : State) :
    (if c then a else b).buf = if c then a.buf else b.buf := by split <;> rfl

@[simp] theorem foldl_buf {α : Type} (g : State → α → State) (h : ∀ t a, (g t a).buf = t.buf) (l : List α) (s : State) :
    (l.foldl g s).buf = s.buf := foldl_keeps (fun t => t.buf) g h l s

@[simp] theorem foldl_snd_buf {α γ : Type} (g : γ × State → α → γ × State) (h : ∀ t a, (g t a).2.buf = t.2.buf)
    (l : List α) (s : γ × State) : (l.foldl g s).2.buf = s.2.buf := foldl_snd_keeps (fun t => t.buf) g h l s

@[simp] theorem ite_port (c : Prop) [Decidable c] (a b : State) :
    (if c then a else b).port = if c then a.port else b.port := by split <;> rfl

@[simp] theorem foldl_port {α : Type} (g : State → α → State) (h : ∀ t a, (g t a).port = t.port) (l : List α) (s : State) :
    (l.foldl g s).port = s.port := foldl_keeps (fun t => t.port) g h l s

@[simp] theorem foldl_snd_port {α γ : Type} (g : γ × State → α → γ × State) (h : ∀ t a, (g t a).2.port = t.2.port)
    (l : List α) (s : γ × State) : (l.foldl g s).2.port = s.2.port := foldl_snd_keeps (fun t => t.port) g h l s

@[simp] theorem ite_slices (c : Prop) [Decidable c] (a b : State) :
    (if c then a else b).slices = if c then a.slices else b.slices := by split <;> rfl

@[simp] theorem foldl_slices {α : Type} (g : State → α → State) (h : ∀ t a, (g t a).slices = t.slices) (l : List α) (s : State) :
    (l.foldl g s).slices = s.slices := foldl_keeps (fun t => t.slices) g h l s

@[simp] theorem foldl_snd_slices {α γ : Type} (g : γ × State → α → γ × State) (h : ∀ t a, (g t a).2.slices = t.2.slices)
    (l : List α) (s : γ × State) : (l.foldl g s).2.slices = s.2.slices := foldl_snd_keeps (fun t => t.slices) g h l s

@[simp] theorem ite_tab (c : Prop) [Decidable c] (a b : State) :
    (if c then a else b).tab = if c then a.tab else b.tab := by split <;> rfl

@[simp] theorem foldl_tab {α : Type} (g : State → α → State) (h : ∀ t a, (g t a).tab = t.tab) (l : List α) (s : State) :
    (l.foldl g s).tab = s.tab := foldl_keeps (fun t => t.tab) g h l s

@[simp] theorem foldl_snd_tab {α γ : Type} (g : γ × State → α → γ × State) (h : ∀ t a, (g t a).2.tab = t.2.tab)
    (l : List α) (s : γ × State) : (l.foldl g s).2.tab = s.2.tab := foldl_snd_keeps (fun t => t.tab) g h l s

@[simp] theorem ite_gen (c : Prop) [Decidable c] (a b : State) :
    (if c then a else b).gen = if c then a.gen else b.gen := by split <;> rfl

@[simp] theorem foldl_gen {α : Type} (g : State → α → State) (h : ∀ t a, (g t a).gen = t.gen) (l : List α) (s : State) :
    (l.foldl g s).gen = s.gen := foldl_keeps (fun t => t.gen) g h l s

@[simp] theorem foldl_snd_gen {α γ : Type} (g : γ × State → α → γ × State) (h : ∀ t a, (g t a).2.gen = t.2.gen)
    (l : List α) (s : γ × State) : (l.foldl g s).2.gen = s.2.gen := foldl_snd_keeps (fun t => t.gen) g h l s

@[simp] theorem ite_core (c : Prop) [Decidable c] (a b : State) :
    (if c then a else b).core = if c then a.core else b.core := by split <;> rfl

@[simp] theorem foldl_core {α : Type} (g : State → α → State) (h : ∀ t a, (g t a).core = t.core) (l : List α) (s : State) :
    (l.foldl g s).core = s.core := foldl_keeps (fun t => t.core) g h l s

@[simp] theorem foldl_snd_core {α γ : Type} (g : γ × State → α → γ × State) (h : ∀ t a, (g t a).2.core = t.2.core)
    (l : List α) (s : γ × State) : (l.foldl g s).2.core = s.2.core := foldl_snd_keeps (fun t => t.core) g h l s

@[simp] theorem ite_sch (c : Prop) [Decidable c] (a b : State) :
    (if c then a else b).sch = if c then a.sch else b.sch := by split <;> rfl

@[simp] theorem foldl_sch {α : Type} (g : State → α → State) (h : ∀ t a, (g t a).sch = t.sch) (l : List α) (s : State) :
    (l.foldl g s).sch = s.sch := foldl_keeps (fun t => t.sch) g h l s

@[simp] theorem foldl_snd_sch {α γ : Type} (g : γ × State → α → γ × State) (h : ∀ t a, (g t a).2.sch = t.2.sch)
    (l : List α) (s : γ × State) : (l.foldl g s).2.sch = s.2.sch := foldl_snd_keeps (fun t => t.sch) g h l s

@[simp] theorem ite_tel (c : Prop) [Decidable c] (a b : State) :
    (if c then a else b).tel = if c then a.tel else b.tel := by split <;> rfl

@[simp] theorem foldl_tel {α : Type} (g : State → α → State) (h : ∀ t a, (g t a).tel = t.tel) (l : List α) (s : State) :
    (l.foldl g s).tel = s.tel := foldl_keeps (fun t => t.tel) g h l s

@[simp] theorem foldl_snd_tel {α γ : Type} (g : γ × State → α → γ × State) (h : ∀ t a, (g t a).2.tel = t.2.tel)
    (l : List α) (s : γ × State) : (l.foldl g s).2.tel = s.2.tel := foldl_snd_keeps (fun t => t.tel) g h l s

@[simp] theorem ite_pwr (c : Prop) [Decidable c] (a b : State) :
    (if c then a else b).pwr = if c then a.pwr else b.pwr := by split <;> rfl

@[simp] theorem foldl_pwr {α : Type} (g : State → α → State) (h : ∀ t a, (g t a).pwr = t.pwr) (l : List α) (s : State) :
    (l.foldl g s).pwr = s.pwr := foldl_keeps (fun t => t.pwr) g h l s

@[simp] theorem foldl_snd_pwr {α γ : Type} (g : γ × State → α → γ × State) (h : ∀ t a, (g t a).2.pwr = t.2.pwr)
    (l : List α) (s : γ × State) : (l.foldl g s).2.pwr = s.2.pwr := foldl_snd_keeps (fun t => t.pwr) g h l s

@[simp] theorem ite_regs (c : Prop) [Decidable c] (a b : State) :
    (if c then a else b).regs = if c then a.regs else b.regs := by split <;> rfl

@[simp] theorem foldl_regs {α : Type} (g : State → α → State) (h : ∀ t a, (g t a).regs = t.regs) (l : List α) (s : State) :
    (l.foldl g s).regs = s.regs := foldl_keeps (fun t => t.regs) g h l s

@[simp] theorem foldl_snd_regs {α γ : Type} (g : γ × State → α → γ × State) (h : ∀ t a, (g t a).2.regs = t.2.regs)
    (l : List α) (s : γ × State) : (l.foldl g s).2.regs = s.2.regs := foldl_snd_keeps (fun t => t.regs) g h l s

@[simp] theorem ite_cnts (c : Prop) [Decidable c] (a b : State) :
    (if c then a else b).cnts = if c then a.cnts else b.cnts := by split <;> rfl

@[simp] theorem foldl_cnts {α : Type} (g : State → α → State) (h : ∀ t a, (g t a).cnts = t.cnts) (l : List α) (s : State) :
    (l.foldl g s).cnts = s.cnts := foldl_keeps (fun t => t.cnts) g h l s

@[simp] theorem foldl_snd_cnts {α γ : Type} (g : γ × State → α → γ × State) (h : ∀ t a, (g t a).2.cnts = t.2.cnts)
    (l : List α) (s : γ × State) : (l.foldl g s).2.cnts = s.2.cnts := foldl_snd_keeps (fun t => t.cnts) g h l s

@[simp] theorem ite_flt_keel0 (c : Prop) [Decidable c] (a b : State) :
    (if c then a else b).flt.keel0 = if c then a.flt.keel0 else b.flt.keel0 := by split <;> rfl

@[simp] theorem foldl_flt_keel0 {α : Type} (g : State → α → State) (h : ∀ t a, (g t a).flt.keel0 = t.flt.keel0) (l : List α) (s : State) :
    (l.foldl g s).flt.keel0 = s.flt.keel0 := foldl_keeps (fun t => t.flt.keel0) g h l s

@[simp] theorem foldl_snd_flt_keel0 {α γ : Type} (g : γ × State → α → γ × State) (h : ∀ t a, (g t a).2.flt.keel0 = t.2.flt.keel0)
    (l : List α) (s : γ × State) : (l.foldl g s).2.flt.keel0 = s.2.flt.keel0 := foldl_snd_keeps (fun t => t.flt.keel0) g h l s

@[simp] theorem ite_flt_keel1 (c : Prop) [Decidable c] (a b : State) :
    (if c then a else b).flt.keel1 = if c then a.flt.keel1 else b.flt.keel1 := by split <;> rfl

@[simp] theorem foldl_flt_keel1 {α : Type} (g : State → α → State) (h : ∀ t a, (g t a).flt.keel1 = t.flt.keel1) (l : List α) (s : State) :
    (l.foldl g s).flt.keel1 = s.flt.keel1 := foldl_keeps (fun t => t.flt.keel1) g h l s

@[simp] theorem foldl_snd_flt_keel1 {α γ : Type} (g : γ × State → α → γ × State) (h : ∀ t a, (g t a).2.flt.keel1 = t.2.flt.keel1)
    (l : List α) (s : γ × State) : (l.foldl g s).2.flt.keel1 = s.2.flt.keel1 := foldl_snd_keeps (fun t => t.flt.keel1) g h l s

@[simp] theorem ite_kennel_keyHash (c : Prop) [Decidable c] (a b : State) :
    (if c then a else b).kennel.keyHash = if c then a.kennel.keyHash else b.kennel.keyHash := by split <;> rfl

@[simp] theorem foldl_kennel_keyHash {α : Type} (g : State → α → State) (h : ∀ t a, (g t a).kennel.keyHash = t.kennel.keyHash) (l : List α) (s : State) :
    (l.foldl g s).kennel.keyHash = s.kennel.keyHash := foldl_keeps (fun t => t.kennel.keyHash) g h l s

@[simp] theorem foldl_snd_kennel_keyHash {α γ : Type} (g : γ × State → α → γ × State) (h : ∀ t a, (g t a).2.kennel.keyHash = t.2.kennel.keyHash)
    (l : List α) (s : γ × State) : (l.foldl g s).2.kennel.keyHash = s.2.kennel.keyHash := foldl_snd_keeps (fun t => t.kennel.keyHash) g h l s

@[simp] theorem ite_clk_pipeCur (c : Prop) [Decidable c] (a b : State) :
    (if c then a else b).clk.pipeCur = if c then a.clk.pipeCur else b.clk.pipeCur := by split <;> rfl

@[simp] theorem foldl_clk_pipeCur {α : Type} (g : State → α → State) (h : ∀ t a, (g t a).clk.pipeCur = t.clk.pipeCur) (l : List α) (s : State) :
    (l.foldl g s).clk.pipeCur = s.clk.pipeCur := foldl_keeps (fun t => t.clk.pipeCur) g h l s

@[simp] theorem foldl_snd_clk_pipeCur {α γ : Type} (g : γ × State → α → γ × State) (h : ∀ t a, (g t a).2.clk.pipeCur = t.2.clk.pipeCur)
    (l : List α) (s : γ × State) : (l.foldl g s).2.clk.pipeCur = s.2.clk.pipeCur := foldl_snd_keeps (fun t => t.clk.pipeCur) g h l s

@[simp] theorem ite_faultst_keel0_own (c : Prop) [Decidable c] (a b : FaultSt) :
    (if c then a else b).keel0 = if c then a.keel0 else b.keel0 := by split <;> rfl

@[simp] theorem ite_faultst_keel1_own (c : Prop) [Decidable c] (a b : FaultSt) :
    (if c then a else b).keel1 = if c then a.keel1 else b.keel1 := by split <;> rfl

@[simp] theorem ite_kennel_keyHash_own (c : Prop) [Decidable c] (a b : Kennel) :
    (if c then a else b).keyHash = if c then a.keyHash else b.keyHash := by split <;> rfl

@[simp] theorem ite_clockst_pipeCur_own (c : Prop) [Decidable c] (a b : ClockSt) :
    (if c then a else b).pipeCur = if c then a.pipeCur else b.pipeCur := by split <;> rfl

end Sys2Proof.Machine
end

