-- ==== Sys2Proof/Laws/KeepsOps.lean ====
section
/-! SUPPORT. What each operation of Machine/Ops.lean keeps: the parts of the state that it leaves as they are. -/
set_option linter.unusedSimpArgs false
set_option linter.unusedVariables false
namespace Sys2Proof.Machine
open Host (Outcome)

@[simp] theorem State.setReg_keeps (o : Nat) (v : Word) (s : State) :
    (State.setReg o v s).pending = s.pending ∧ (State.setReg o v s).now = s.now ∧
    (State.setReg o v s).serial = s.serial ∧ (State.setReg o v s).out = s.out ∧
    (State.setReg o v s).pins = s.pins ∧ (State.setReg o v s).md = s.md ∧ (State.setReg o v s).host = s.host ∧
    (State.setReg o v s).cmds = s.cmds ∧ (State.setReg o v s).flt = s.flt ∧ (State.setReg o v s).clk = s.clk ∧
    (State.setReg o v s).ref = s.ref ∧ (State.setReg o v s).kennel = s.kennel ∧
    (State.setReg o v s).time = s.time ∧ (State.setReg o v s).buf = s.buf ∧ (State.setReg o v s).port = s.port ∧
    (State.setReg o v s).slices = s.slices ∧ (State.setReg o v s).tab = s.tab ∧ (State.setReg o v s).gen = s.gen ∧
    (State.setReg o v s).core = s.core ∧ (State.setReg o v s).sch = s.sch ∧ (State.setReg o v s).tel = s.tel ∧
    (State.setReg o v s).pwr = s.pwr ∧ (State.setReg o v s).cnts = s.cnts := by
  (unfold State.setReg; simp only [ite_self, and_self, implies_true, Ran.st_done, Ran.st_wait, Ran.st_refuse, Ran.st_ite, snd_ite, foldl_pending, foldl_now, foldl_serial, foldl_out, foldl_pins, foldl_md, foldl_host, foldl_cmds, foldl_flt, foldl_clk, foldl_ref, foldl_kennel, foldl_time, foldl_buf, foldl_port, foldl_slices, foldl_tab, foldl_gen, foldl_core, foldl_sch, foldl_tel, foldl_pwr, foldl_cnts, foldl_snd_pending, foldl_snd_now, foldl_snd_serial, foldl_snd_out, foldl_snd_pins, foldl_snd_md, foldl_snd_host, foldl_snd_cmds, foldl_snd_flt, foldl_snd_clk, foldl_snd_ref, foldl_snd_kennel, foldl_snd_time, foldl_snd_buf, foldl_snd_port, foldl_snd_slices, foldl_snd_tab, foldl_snd_gen, foldl_snd_core, foldl_snd_sch, foldl_snd_tel, foldl_snd_pwr, foldl_snd_cnts]; done)

@[simp] theorem State.wr_keeps (o v : Nat) (s : State) :
    (State.wr o v s).pending = s.pending ∧ (State.wr o v s).now = s.now ∧ (State.wr o v s).serial = s.serial ∧
    (State.wr o v s).out = s.out ∧ (State.wr o v s).pins = s.pins ∧ (State.wr o v s).md = s.md ∧
    (State.wr o v s).host = s.host ∧ (State.wr o v s).cmds = s.cmds ∧ (State.wr o v s).flt = s.flt ∧
    (State.wr o v s).clk = s.clk ∧ (State.wr o v s).ref = s.ref ∧ (State.wr o v s).kennel = s.kennel ∧
    (State.wr o v s).time = s.time ∧ (State.wr o v s).buf = s.buf ∧ (State.wr o v s).port = s.port ∧
    (State.wr o v s).slices = s.slices ∧ (State.wr o v s).tab = s.tab ∧ (State.wr o v s).gen = s.gen ∧
    (State.wr o v s).core = s.core ∧ (State.wr o v s).sch = s.sch ∧ (State.wr o v s).tel = s.tel ∧
    (State.wr o v s).pwr = s.pwr ∧ (State.wr o v s).cnts = s.cnts := by
  (unfold State.wr; simp only [State.setReg_keeps, ite_self, and_self, implies_true, Ran.st_done, Ran.st_wait, Ran.st_refuse, Ran.st_ite, snd_ite, foldl_pending, foldl_now, foldl_serial, foldl_out, foldl_pins, foldl_md, foldl_host, foldl_cmds, foldl_flt, foldl_clk, foldl_ref, foldl_kennel, foldl_time, foldl_buf, foldl_port, foldl_slices, foldl_tab, foldl_gen, foldl_core, foldl_sch, foldl_tel, foldl_pwr, foldl_cnts, foldl_snd_pending, foldl_snd_now, foldl_snd_serial, foldl_snd_out, foldl_snd_pins, foldl_snd_md, foldl_snd_host, foldl_snd_cmds, foldl_snd_flt, foldl_snd_clk, foldl_snd_ref, foldl_snd_kennel, foldl_snd_time, foldl_snd_buf, foldl_snd_port, foldl_snd_slices, foldl_snd_tab, foldl_snd_gen, foldl_snd_core, foldl_snd_sch, foldl_snd_tel, foldl_snd_pwr, foldl_snd_cnts]; done)

@[simp] theorem State.count_keeps (o n : Nat) (s : State) :
    (State.count o n s).pending = s.pending ∧ (State.count o n s).now = s.now ∧
    (State.count o n s).serial = s.serial ∧ (State.count o n s).out = s.out ∧ (State.count o n s).pins = s.pins ∧
    (State.count o n s).md = s.md ∧ (State.count o n s).host = s.host ∧ (State.count o n s).cmds = s.cmds ∧
    (State.count o n s).flt = s.flt ∧ (State.count o n s).clk = s.clk ∧ (State.count o n s).ref = s.ref ∧
    (State.count o n s).kennel = s.kennel ∧ (State.count o n s).time = s.time ∧ (State.count o n s).buf = s.buf ∧
    (State.count o n s).port = s.port ∧ (State.count o n s).slices = s.slices ∧ (State.count o n s).tab = s.tab ∧
    (State.count o n s).gen = s.gen ∧ (State.count o n s).core = s.core ∧ (State.count o n s).sch = s.sch ∧
    (State.count o n s).tel = s.tel ∧ (State.count o n s).pwr = s.pwr ∧ (State.count o n s).regs = s.regs := by
  (unfold State.count; simp only [ite_self, and_self, implies_true, Ran.st_done, Ran.st_wait, Ran.st_refuse, Ran.st_ite, snd_ite, foldl_pending, foldl_now, foldl_serial, foldl_out, foldl_pins, foldl_md, foldl_host, foldl_cmds, foldl_flt, foldl_clk, foldl_ref, foldl_kennel, foldl_time, foldl_buf, foldl_port, foldl_slices, foldl_tab, foldl_gen, foldl_core, foldl_sch, foldl_tel, foldl_pwr, foldl_regs, foldl_snd_pending, foldl_snd_now, foldl_snd_serial, foldl_snd_out, foldl_snd_pins, foldl_snd_md, foldl_snd_host, foldl_snd_cmds, foldl_snd_flt, foldl_snd_clk, foldl_snd_ref, foldl_snd_kennel, foldl_snd_time, foldl_snd_buf, foldl_snd_port, foldl_snd_slices, foldl_snd_tab, foldl_snd_gen, foldl_snd_core, foldl_snd_sch, foldl_snd_tel, foldl_snd_pwr, foldl_snd_regs]; done)

@[simp] theorem State.setHalf_keeps (p : HostPort) (h : Half) (s : State) :
    (State.setHalf p h s).pending = s.pending ∧ (State.setHalf p h s).now = s.now ∧
    (State.setHalf p h s).serial = s.serial ∧ (State.setHalf p h s).out = s.out ∧
    (State.setHalf p h s).pins = s.pins ∧ (State.setHalf p h s).md = s.md ∧ (State.setHalf p h s).cmds = s.cmds ∧
    (State.setHalf p h s).flt = s.flt ∧ (State.setHalf p h s).clk = s.clk ∧ (State.setHalf p h s).ref = s.ref ∧
    (State.setHalf p h s).kennel = s.kennel ∧ (State.setHalf p h s).time = s.time ∧
    (State.setHalf p h s).buf = s.buf ∧ (State.setHalf p h s).port = s.port ∧
    (State.setHalf p h s).slices = s.slices ∧ (State.setHalf p h s).tab = s.tab ∧
    (State.setHalf p h s).gen = s.gen ∧ (State.setHalf p h s).core = s.core ∧ (State.setHalf p h s).sch = s.sch ∧
    (State.setHalf p h s).tel = s.tel ∧ (State.setHalf p h s).pwr = s.pwr ∧ (State.setHalf p h s).regs = s.regs ∧
    (State.setHalf p h s).cnts = s.cnts := by
  (unfold State.setHalf; split <;> simp only [ite_self, and_self, implies_true, Ran.st_done, Ran.st_wait, Ran.st_refuse, Ran.st_ite, snd_ite, ite_pending, ite_now, ite_serial, ite_out, ite_pins, ite_md, ite_cmds, ite_flt, ite_clk, ite_ref, ite_kennel, ite_time, ite_buf, ite_port, ite_slices, ite_tab, ite_gen, ite_core, ite_sch, ite_tel, ite_pwr, ite_regs, ite_cnts, foldl_pending, foldl_now, foldl_serial, foldl_out, foldl_pins, foldl_md, foldl_cmds, foldl_flt, foldl_clk, foldl_ref, foldl_kennel, foldl_time, foldl_buf, foldl_port, foldl_slices, foldl_tab, foldl_gen, foldl_core, foldl_sch, foldl_tel, foldl_pwr, foldl_regs, foldl_cnts, foldl_snd_pending, foldl_snd_now, foldl_snd_serial, foldl_snd_out, foldl_snd_pins, foldl_snd_md, foldl_snd_cmds, foldl_snd_flt, foldl_snd_clk, foldl_snd_ref, foldl_snd_kennel, foldl_snd_time, foldl_snd_buf, foldl_snd_port, foldl_snd_slices, foldl_snd_tab, foldl_snd_gen, foldl_snd_core, foldl_snd_sch, foldl_snd_tel, foldl_snd_pwr, foldl_snd_regs, foldl_snd_cnts])

@[simp] theorem State.onHalf_keeps (p : HostPort) (f : Half → Half) (s : State) :
    (State.onHalf p f s).pending = s.pending ∧ (State.onHalf p f s).now = s.now ∧
    (State.onHalf p f s).serial = s.serial ∧ (State.onHalf p f s).out = s.out ∧
    (State.onHalf p f s).pins = s.pins ∧ (State.onHalf p f s).md = s.md ∧ (State.onHalf p f s).cmds = s.cmds ∧
    (State.onHalf p f s).flt = s.flt ∧ (State.onHalf p f s).clk = s.clk ∧ (State.onHalf p f s).ref = s.ref ∧
    (State.onHalf p f s).kennel = s.kennel ∧ (State.onHalf p f s).time = s.time ∧
    (State.onHalf p f s).buf = s.buf ∧ (State.onHalf p f s).port = s.port ∧
    (State.onHalf p f s).slices = s.slices ∧ (State.onHalf p f s).tab = s.tab ∧ (State.onHalf p f s).gen = s.gen ∧
    (State.onHalf p f s).core = s.core ∧ (State.onHalf p f s).sch = s.sch ∧ (State.onHalf p f s).tel = s.tel ∧
    (State.onHalf p f s).pwr = s.pwr ∧ (State.onHalf p f s).regs = s.regs ∧ (State.onHalf p f s).cnts = s.cnts := by
  (unfold State.onHalf; simp only [State.setHalf_keeps, ite_self, and_self, implies_true, Ran.st_done, Ran.st_wait, Ran.st_refuse, Ran.st_ite, snd_ite, foldl_pending, foldl_now, foldl_serial, foldl_out, foldl_pins, foldl_md, foldl_cmds, foldl_flt, foldl_clk, foldl_ref, foldl_kennel, foldl_time, foldl_buf, foldl_port, foldl_slices, foldl_tab, foldl_gen, foldl_core, foldl_sch, foldl_tel, foldl_pwr, foldl_regs, foldl_cnts, foldl_snd_pending, foldl_snd_now, foldl_snd_serial, foldl_snd_out, foldl_snd_pins, foldl_snd_md, foldl_snd_cmds, foldl_snd_flt, foldl_snd_clk, foldl_snd_ref, foldl_snd_kennel, foldl_snd_time, foldl_snd_buf, foldl_snd_port, foldl_snd_slices, foldl_snd_tab, foldl_snd_gen, foldl_snd_core, foldl_snd_sch, foldl_snd_tel, foldl_snd_pwr, foldl_snd_regs, foldl_snd_cnts]; done)

@[simp] theorem State.setRing_keeps (p : HostPort) (n : Nat) (r : Ring) (s : State) :
    (State.setRing p n r s).pending = s.pending ∧ (State.setRing p n r s).now = s.now ∧
    (State.setRing p n r s).serial = s.serial ∧ (State.setRing p n r s).out = s.out ∧
    (State.setRing p n r s).pins = s.pins ∧ (State.setRing p n r s).md = s.md ∧
    (State.setRing p n r s).cmds = s.cmds ∧ (State.setRing p n r s).flt = s.flt ∧
    (State.setRing p n r s).clk = s.clk ∧ (State.setRing p n r s).ref = s.ref ∧
    (State.setRing p n r s).kennel = s.kennel ∧ (State.setRing p n r s).time = s.time ∧
    (State.setRing p n r s).buf = s.buf ∧ (State.setRing p n r s).port = s.port ∧
    (State.setRing p n r s).slices = s.slices ∧ (State.setRing p n r s).tab = s.tab ∧
    (State.setRing p n r s).gen = s.gen ∧ (State.setRing p n r s).core = s.core ∧
    (State.setRing p n r s).sch = s.sch ∧ (State.setRing p n r s).tel = s.tel ∧
    (State.setRing p n r s).pwr = s.pwr ∧ (State.setRing p n r s).regs = s.regs ∧
    (State.setRing p n r s).cnts = s.cnts := by
  (unfold State.setRing; simp only [State.onHalf_keeps, ite_self, and_self, implies_true, Ran.st_done, Ran.st_wait, Ran.st_refuse, Ran.st_ite, snd_ite, foldl_pending, foldl_now, foldl_serial, foldl_out, foldl_pins, foldl_md, foldl_cmds, foldl_flt, foldl_clk, foldl_ref, foldl_kennel, foldl_time, foldl_buf, foldl_port, foldl_slices, foldl_tab, foldl_gen, foldl_core, foldl_sch, foldl_tel, foldl_pwr, foldl_regs, foldl_cnts, foldl_snd_pending, foldl_snd_now, foldl_snd_serial, foldl_snd_out, foldl_snd_pins, foldl_snd_md, foldl_snd_cmds, foldl_snd_flt, foldl_snd_clk, foldl_snd_ref, foldl_snd_kennel, foldl_snd_time, foldl_snd_buf, foldl_snd_port, foldl_snd_slices, foldl_snd_tab, foldl_snd_gen, foldl_snd_core, foldl_snd_sch, foldl_snd_tel, foldl_snd_pwr, foldl_snd_regs, foldl_snd_cnts]; done)

@[simp] theorem State.setTe_keeps (e : Side) (x : Te) (s : State) :
    (State.setTe e x s).pending = s.pending ∧ (State.setTe e x s).now = s.now ∧
    (State.setTe e x s).serial = s.serial ∧ (State.setTe e x s).out = s.out ∧ (State.setTe e x s).pins = s.pins ∧
    (State.setTe e x s).md = s.md ∧ (State.setTe e x s).host = s.host ∧ (State.setTe e x s).cmds = s.cmds ∧
    (State.setTe e x s).flt = s.flt ∧ (State.setTe e x s).clk = s.clk ∧ (State.setTe e x s).ref = s.ref ∧
    (State.setTe e x s).kennel = s.kennel ∧ (State.setTe e x s).buf = s.buf ∧ (State.setTe e x s).port = s.port ∧
    (State.setTe e x s).slices = s.slices ∧ (State.setTe e x s).tab = s.tab ∧ (State.setTe e x s).gen = s.gen ∧
    (State.setTe e x s).core = s.core ∧ (State.setTe e x s).sch = s.sch ∧ (State.setTe e x s).tel = s.tel ∧
    (State.setTe e x s).pwr = s.pwr ∧ (State.setTe e x s).regs = s.regs ∧ (State.setTe e x s).cnts = s.cnts := by
  (unfold State.setTe; split <;> simp only [ite_self, and_self, implies_true, Ran.st_done, Ran.st_wait, Ran.st_refuse, Ran.st_ite, snd_ite, ite_pending, ite_now, ite_serial, ite_out, ite_pins, ite_md, ite_host, ite_cmds, ite_flt, ite_clk, ite_ref, ite_kennel, ite_buf, ite_port, ite_slices, ite_tab, ite_gen, ite_core, ite_sch, ite_tel, ite_pwr, ite_regs, ite_cnts, foldl_pending, foldl_now, foldl_serial, foldl_out, foldl_pins, foldl_md, foldl_host, foldl_cmds, foldl_flt, foldl_clk, foldl_ref, foldl_kennel, foldl_buf, foldl_port, foldl_slices, foldl_tab, foldl_gen, foldl_core, foldl_sch, foldl_tel, foldl_pwr, foldl_regs, foldl_cnts, foldl_snd_pending, foldl_snd_now, foldl_snd_serial, foldl_snd_out, foldl_snd_pins, foldl_snd_md, foldl_snd_host, foldl_snd_cmds, foldl_snd_flt, foldl_snd_clk, foldl_snd_ref, foldl_snd_kennel, foldl_snd_buf, foldl_snd_port, foldl_snd_slices, foldl_snd_tab, foldl_snd_gen, foldl_snd_core, foldl_snd_sch, foldl_snd_tel, foldl_snd_pwr, foldl_snd_regs, foldl_snd_cnts])

@[simp] theorem State.tick_keeps (s : State) :
    (State.tick s).pending = s.pending ∧ (State.tick s).serial = s.serial ∧ (State.tick s).out = s.out ∧
    (State.tick s).pins = s.pins ∧ (State.tick s).md = s.md ∧ (State.tick s).host = s.host ∧
    (State.tick s).cmds = s.cmds ∧ (State.tick s).flt = s.flt ∧ (State.tick s).clk = s.clk ∧
    (State.tick s).ref = s.ref ∧ (State.tick s).kennel = s.kennel ∧ (State.tick s).buf = s.buf ∧
    (State.tick s).port = s.port ∧ (State.tick s).slices = s.slices ∧ (State.tick s).tab = s.tab ∧
    (State.tick s).gen = s.gen ∧ (State.tick s).core = s.core ∧ (State.tick s).sch = s.sch ∧
    (State.tick s).tel = s.tel ∧ (State.tick s).pwr = s.pwr ∧ (State.tick s).regs = s.regs ∧
    (State.tick s).cnts = s.cnts := by
  (unfold State.tick; simp only [ite_self, and_self, implies_true, Ran.st_done, Ran.st_wait, Ran.st_refuse, Ran.st_ite, snd_ite, foldl_pending, foldl_serial, foldl_out, foldl_pins, foldl_md, foldl_host, foldl_cmds, foldl_flt, foldl_clk, foldl_ref, foldl_kennel, foldl_buf, foldl_port, foldl_slices, foldl_tab, foldl_gen, foldl_core, foldl_sch, foldl_tel, foldl_pwr, foldl_regs, foldl_cnts, foldl_snd_pending, foldl_snd_serial, foldl_snd_out, foldl_snd_pins, foldl_snd_md, foldl_snd_host, foldl_snd_cmds, foldl_snd_flt, foldl_snd_clk, foldl_snd_ref, foldl_snd_kennel, foldl_snd_buf, foldl_snd_port, foldl_snd_slices, foldl_snd_tab, foldl_snd_gen, foldl_snd_core, foldl_snd_sch, foldl_snd_tel, foldl_snd_pwr, foldl_snd_regs, foldl_snd_cnts]; done)

@[simp] theorem State.emit_keeps (o : Out) (s : State) :
    (State.emit o s).pending = s.pending ∧ (State.emit o s).now = s.now ∧ (State.emit o s).serial = s.serial ∧
    (State.emit o s).pins = s.pins ∧ (State.emit o s).md = s.md ∧ (State.emit o s).host = s.host ∧
    (State.emit o s).cmds = s.cmds ∧ (State.emit o s).flt = s.flt ∧ (State.emit o s).clk = s.clk ∧
    (State.emit o s).ref = s.ref ∧ (State.emit o s).kennel = s.kennel ∧ (State.emit o s).time = s.time ∧
    (State.emit o s).buf = s.buf ∧ (State.emit o s).port = s.port ∧ (State.emit o s).slices = s.slices ∧
    (State.emit o s).tab = s.tab ∧ (State.emit o s).gen = s.gen ∧ (State.emit o s).core = s.core ∧
    (State.emit o s).sch = s.sch ∧ (State.emit o s).tel = s.tel ∧ (State.emit o s).pwr = s.pwr ∧
    (State.emit o s).regs = s.regs ∧ (State.emit o s).cnts = s.cnts := by
  (unfold State.emit; simp only [ite_self, and_self, implies_true, Ran.st_done, Ran.st_wait, Ran.st_refuse, Ran.st_ite, snd_ite, foldl_pending, foldl_now, foldl_serial, foldl_pins, foldl_md, foldl_host, foldl_cmds, foldl_flt, foldl_clk, foldl_ref, foldl_kennel, foldl_time, foldl_buf, foldl_port, foldl_slices, foldl_tab, foldl_gen, foldl_core, foldl_sch, foldl_tel, foldl_pwr, foldl_regs, foldl_cnts, foldl_snd_pending, foldl_snd_now, foldl_snd_serial, foldl_snd_pins, foldl_snd_md, foldl_snd_host, foldl_snd_cmds, foldl_snd_flt, foldl_snd_clk, foldl_snd_ref, foldl_snd_kennel, foldl_snd_time, foldl_snd_buf, foldl_snd_port, foldl_snd_slices, foldl_snd_tab, foldl_snd_gen, foldl_snd_core, foldl_snd_sch, foldl_snd_tel, foldl_snd_pwr, foldl_snd_regs, foldl_snd_cnts]; done)

@[simp] theorem State.hostWrite_keeps (p : HostPort) (n addr : Nat) (data : List Byte) (s : State) :
    (State.hostWrite p n addr data s).pending = s.pending ∧ (State.hostWrite p n addr data s).now = s.now ∧
    (State.hostWrite p n addr data s).serial = s.serial ∧ (State.hostWrite p n addr data s).pins = s.pins ∧
    (State.hostWrite p n addr data s).md = s.md ∧ (State.hostWrite p n addr data s).cmds = s.cmds ∧
    (State.hostWrite p n addr data s).flt = s.flt ∧ (State.hostWrite p n addr data s).clk = s.clk ∧
    (State.hostWrite p n addr data s).ref = s.ref ∧ (State.hostWrite p n addr data s).kennel = s.kennel ∧
    (State.hostWrite p n addr data s).time = s.time ∧ (State.hostWrite p n addr data s).buf = s.buf ∧
    (State.hostWrite p n addr data s).port = s.port ∧ (State.hostWrite p n addr data s).slices = s.slices ∧
    (State.hostWrite p n addr data s).tab = s.tab ∧ (State.hostWrite p n addr data s).gen = s.gen ∧
    (State.hostWrite p n addr data s).core = s.core ∧ (State.hostWrite p n addr data s).sch = s.sch ∧
    (State.hostWrite p n addr data s).tel = s.tel ∧ (State.hostWrite p n addr data s).pwr = s.pwr ∧
    (State.hostWrite p n addr data s).regs = s.regs ∧ (State.hostWrite p n addr data s).cnts = s.cnts := by
  (unfold State.hostWrite; simp only [State.onHalf_keeps, State.emit_keeps, ite_self, and_self, implies_true, Ran.st_done, Ran.st_wait, Ran.st_refuse, Ran.st_ite, snd_ite, ite_pending, ite_now, ite_serial, ite_pins, ite_md, ite_cmds, ite_flt, ite_clk, ite_ref, ite_kennel, ite_time, ite_buf, ite_port, ite_slices, ite_tab, ite_gen, ite_core, ite_sch, ite_tel, ite_pwr, ite_regs, ite_cnts, foldl_pending, foldl_now, foldl_serial, foldl_pins, foldl_md, foldl_cmds, foldl_flt, foldl_clk, foldl_ref, foldl_kennel, foldl_time, foldl_buf, foldl_port, foldl_slices, foldl_tab, foldl_gen, foldl_core, foldl_sch, foldl_tel, foldl_pwr, foldl_regs, foldl_cnts, foldl_snd_pending, foldl_snd_now, foldl_snd_serial, foldl_snd_pins, foldl_snd_md, foldl_snd_cmds, foldl_snd_flt, foldl_snd_clk, foldl_snd_ref, foldl_snd_kennel, foldl_snd_time, foldl_snd_buf, foldl_snd_port, foldl_snd_slices, foldl_snd_tab, foldl_snd_gen, foldl_snd_core, foldl_snd_sch, foldl_snd_tel, foldl_snd_pwr, foldl_snd_regs, foldl_snd_cnts]; done)

@[simp] theorem State.hostEntry_keeps (p : HostPort) (n addr : Nat) (data : List Byte) (s : State) :
    (State.hostEntry p n addr data s).pending = s.pending ∧ (State.hostEntry p n addr data s).now = s.now ∧
    (State.hostEntry p n addr data s).serial = s.serial ∧ (State.hostEntry p n addr data s).pins = s.pins ∧
    (State.hostEntry p n addr data s).md = s.md ∧ (State.hostEntry p n addr data s).cmds = s.cmds ∧
    (State.hostEntry p n addr data s).flt = s.flt ∧ (State.hostEntry p n addr data s).clk = s.clk ∧
    (State.hostEntry p n addr data s).ref = s.ref ∧ (State.hostEntry p n addr data s).kennel = s.kennel ∧
    (State.hostEntry p n addr data s).time = s.time ∧ (State.hostEntry p n addr data s).buf = s.buf ∧
    (State.hostEntry p n addr data s).port = s.port ∧ (State.hostEntry p n addr data s).slices = s.slices ∧
    (State.hostEntry p n addr data s).tab = s.tab ∧ (State.hostEntry p n addr data s).gen = s.gen ∧
    (State.hostEntry p n addr data s).core = s.core ∧ (State.hostEntry p n addr data s).sch = s.sch ∧
    (State.hostEntry p n addr data s).tel = s.tel ∧ (State.hostEntry p n addr data s).pwr = s.pwr ∧
    (State.hostEntry p n addr data s).regs = s.regs ∧ (State.hostEntry p n addr data s).cnts = s.cnts := by
  (unfold State.hostEntry; simp only [State.hostWrite_keeps, ite_self, and_self, implies_true, Ran.st_done, Ran.st_wait, Ran.st_refuse, Ran.st_ite, snd_ite, ite_pending, ite_now, ite_serial, ite_pins, ite_md, ite_cmds, ite_flt, ite_clk, ite_ref, ite_kennel, ite_time, ite_buf, ite_port, ite_slices, ite_tab, ite_gen, ite_core, ite_sch, ite_tel, ite_pwr, ite_regs, ite_cnts, foldl_pending, foldl_now, foldl_serial, foldl_pins, foldl_md, foldl_cmds, foldl_flt, foldl_clk, foldl_ref, foldl_kennel, foldl_time, foldl_buf, foldl_port, foldl_slices, foldl_tab, foldl_gen, foldl_core, foldl_sch, foldl_tel, foldl_pwr, foldl_regs, foldl_cnts, foldl_snd_pending, foldl_snd_now, foldl_snd_serial, foldl_snd_pins, foldl_snd_md, foldl_snd_cmds, foldl_snd_flt, foldl_snd_clk, foldl_snd_ref, foldl_snd_kennel, foldl_snd_time, foldl_snd_buf, foldl_snd_port, foldl_snd_slices, foldl_snd_tab, foldl_snd_gen, foldl_snd_core, foldl_snd_sch, foldl_snd_tel, foldl_snd_pwr, foldl_snd_regs, foldl_snd_cnts]; done)

@[simp] theorem State.sendVec_keeps (p : HostPort) (v : Nat) (s : State) :
    (State.sendVec p v s).pending = s.pending ∧ (State.sendVec p v s).now = s.now ∧
    (State.sendVec p v s).serial = s.serial ∧ (State.sendVec p v s).pins = s.pins ∧
    (State.sendVec p v s).md = s.md ∧ (State.sendVec p v s).cmds = s.cmds ∧ (State.sendVec p v s).flt = s.flt ∧
    (State.sendVec p v s).clk = s.clk ∧ (State.sendVec p v s).ref = s.ref ∧
    (State.sendVec p v s).kennel = s.kennel ∧ (State.sendVec p v s).time = s.time ∧
    (State.sendVec p v s).buf = s.buf ∧ (State.sendVec p v s).port = s.port ∧
    (State.sendVec p v s).slices = s.slices ∧ (State.sendVec p v s).tab = s.tab ∧
    (State.sendVec p v s).gen = s.gen ∧ (State.sendVec p v s).core = s.core ∧ (State.sendVec p v s).sch = s.sch ∧
    (State.sendVec p v s).tel = s.tel ∧ (State.sendVec p v s).pwr = s.pwr ∧ (State.sendVec p v s).regs = s.regs ∧
    (State.sendVec p v s).cnts = s.cnts := by
  (unfold State.sendVec; simp only [State.onHalf_keeps, State.emit_keeps, ite_self, and_self, implies_true, Ran.st_done, Ran.st_wait, Ran.st_refuse, Ran.st_ite, snd_ite, ite_pending, ite_now, ite_serial, ite_pins, ite_md, ite_cmds, ite_flt, ite_clk, ite_ref, ite_kennel, ite_time, ite_buf, ite_port, ite_slices, ite_tab, ite_gen, ite_core, ite_sch, ite_tel, ite_pwr, ite_regs, ite_cnts, foldl_pending, foldl_now, foldl_serial, foldl_pins, foldl_md, foldl_cmds, foldl_flt, foldl_clk, foldl_ref, foldl_kennel, foldl_time, foldl_buf, foldl_port, foldl_slices, foldl_tab, foldl_gen, foldl_core, foldl_sch, foldl_tel, foldl_pwr, foldl_regs, foldl_cnts, foldl_snd_pending, foldl_snd_now, foldl_snd_serial, foldl_snd_pins, foldl_snd_md, foldl_snd_cmds, foldl_snd_flt, foldl_snd_clk, foldl_snd_ref, foldl_snd_kennel, foldl_snd_time, foldl_snd_buf, foldl_snd_port, foldl_snd_slices, foldl_snd_tab, foldl_snd_gen, foldl_snd_core, foldl_snd_sch, foldl_snd_tel, foldl_snd_pwr, foldl_snd_regs, foldl_snd_cnts]; done)

@[simp] theorem State.vecDue_keeps (p : HostPort) (v : Nat) (s : State) :
    (State.vecDue p v s).pending = s.pending ∧ (State.vecDue p v s).now = s.now ∧
    (State.vecDue p v s).serial = s.serial ∧ (State.vecDue p v s).pins = s.pins ∧ (State.vecDue p v s).md = s.md ∧
    (State.vecDue p v s).cmds = s.cmds ∧ (State.vecDue p v s).flt = s.flt ∧ (State.vecDue p v s).clk = s.clk ∧
    (State.vecDue p v s).ref = s.ref ∧ (State.vecDue p v s).kennel = s.kennel ∧
    (State.vecDue p v s).time = s.time ∧ (State.vecDue p v s).buf = s.buf ∧ (State.vecDue p v s).port = s.port ∧
    (State.vecDue p v s).slices = s.slices ∧ (State.vecDue p v s).tab = s.tab ∧ (State.vecDue p v s).gen = s.gen ∧
    (State.vecDue p v s).core = s.core ∧ (State.vecDue p v s).sch = s.sch ∧ (State.vecDue p v s).tel = s.tel ∧
    (State.vecDue p v s).pwr = s.pwr ∧ (State.vecDue p v s).regs = s.regs ∧ (State.vecDue p v s).cnts = s.cnts := by
  (unfold State.vecDue; simp only [State.sendVec_keeps, ite_self, and_self, implies_true, Ran.st_done, Ran.st_wait, Ran.st_refuse, Ran.st_ite, snd_ite, ite_pending, ite_now, ite_serial, ite_pins, ite_md, ite_cmds, ite_flt, ite_clk, ite_ref, ite_kennel, ite_time, ite_buf, ite_port, ite_slices, ite_tab, ite_gen, ite_core, ite_sch, ite_tel, ite_pwr, ite_regs, ite_cnts, foldl_pending, foldl_now, foldl_serial, foldl_pins, foldl_md, foldl_cmds, foldl_flt, foldl_clk, foldl_ref, foldl_kennel, foldl_time, foldl_buf, foldl_port, foldl_slices, foldl_tab, foldl_gen, foldl_core, foldl_sch, foldl_tel, foldl_pwr, foldl_regs, foldl_cnts, foldl_snd_pending, foldl_snd_now, foldl_snd_serial, foldl_snd_pins, foldl_snd_md, foldl_snd_cmds, foldl_snd_flt, foldl_snd_clk, foldl_snd_ref, foldl_snd_kennel, foldl_snd_time, foldl_snd_buf, foldl_snd_port, foldl_snd_slices, foldl_snd_tab, foldl_snd_gen, foldl_snd_core, foldl_snd_sch, foldl_snd_tel, foldl_snd_pwr, foldl_snd_regs, foldl_snd_cnts]; done)

@[simp] theorem State.notify_keeps (p : HostPort) (r : Ring) (irqNow : Bool) (s : State) :
    (State.notify p r irqNow s).pending = s.pending ∧ (State.notify p r irqNow s).now = s.now ∧
    (State.notify p r irqNow s).serial = s.serial ∧ (State.notify p r irqNow s).pins = s.pins ∧
    (State.notify p r irqNow s).md = s.md ∧ (State.notify p r irqNow s).cmds = s.cmds ∧
    (State.notify p r irqNow s).flt = s.flt ∧ (State.notify p r irqNow s).clk = s.clk ∧
    (State.notify p r irqNow s).ref = s.ref ∧ (State.notify p r irqNow s).kennel = s.kennel ∧
    (State.notify p r irqNow s).time = s.time ∧ (State.notify p r irqNow s).buf = s.buf ∧
    (State.notify p r irqNow s).port = s.port ∧ (State.notify p r irqNow s).slices = s.slices ∧
    (State.notify p r irqNow s).tab = s.tab ∧ (State.notify p r irqNow s).gen = s.gen ∧
    (State.notify p r irqNow s).core = s.core ∧ (State.notify p r irqNow s).sch = s.sch ∧
    (State.notify p r irqNow s).tel = s.tel ∧ (State.notify p r irqNow s).pwr = s.pwr ∧
    (State.notify p r irqNow s).regs = s.regs ∧ (State.notify p r irqNow s).cnts = s.cnts := by
  (unfold State.notify; simp only [State.onHalf_keeps, State.sendVec_keeps, ite_self, and_self, implies_true, Ran.st_done, Ran.st_wait, Ran.st_refuse, Ran.st_ite, snd_ite, ite_pending, ite_now, ite_serial, ite_pins, ite_md, ite_cmds, ite_flt, ite_clk, ite_ref, ite_kennel, ite_time, ite_buf, ite_port, ite_slices, ite_tab, ite_gen, ite_core, ite_sch, ite_tel, ite_pwr, ite_regs, ite_cnts, foldl_pending, foldl_now, foldl_serial, foldl_pins, foldl_md, foldl_cmds, foldl_flt, foldl_clk, foldl_ref, foldl_kennel, foldl_time, foldl_buf, foldl_port, foldl_slices, foldl_tab, foldl_gen, foldl_core, foldl_sch, foldl_tel, foldl_pwr, foldl_regs, foldl_cnts, foldl_snd_pending, foldl_snd_now, foldl_snd_serial, foldl_snd_pins, foldl_snd_md, foldl_snd_cmds, foldl_snd_flt, foldl_snd_clk, foldl_snd_ref, foldl_snd_kennel, foldl_snd_time, foldl_snd_buf, foldl_snd_port, foldl_snd_slices, foldl_snd_tab, foldl_snd_gen, foldl_snd_core, foldl_snd_sch, foldl_snd_tel, foldl_snd_pwr, foldl_snd_regs, foldl_snd_cnts]; done)

@[simp] theorem State.noteRoom_keeps (s : State) :
    (State.noteRoom s).pending = s.pending ∧ (State.noteRoom s).now = s.now ∧
    (State.noteRoom s).serial = s.serial ∧ (State.noteRoom s).out = s.out ∧ (State.noteRoom s).pins = s.pins ∧
    (State.noteRoom s).md = s.md ∧ (State.noteRoom s).host = s.host ∧ (State.noteRoom s).cmds = s.cmds ∧
    (State.noteRoom s).flt = s.flt ∧ (State.noteRoom s).clk = s.clk ∧ (State.noteRoom s).ref = s.ref ∧
    (State.noteRoom s).kennel = s.kennel ∧ (State.noteRoom s).time = s.time ∧ (State.noteRoom s).buf = s.buf ∧
    (State.noteRoom s).port = s.port ∧ (State.noteRoom s).slices = s.slices ∧ (State.noteRoom s).tab = s.tab ∧
    (State.noteRoom s).gen = s.gen ∧ (State.noteRoom s).sch = s.sch ∧ (State.noteRoom s).tel = s.tel ∧
    (State.noteRoom s).pwr = s.pwr ∧ (State.noteRoom s).regs = s.regs ∧ (State.noteRoom s).cnts = s.cnts := by
  (unfold State.noteRoom; simp only [ite_self, and_self, implies_true, Ran.st_done, Ran.st_wait, Ran.st_refuse, Ran.st_ite, snd_ite, foldl_pending, foldl_now, foldl_serial, foldl_out, foldl_pins, foldl_md, foldl_host, foldl_cmds, foldl_flt, foldl_clk, foldl_ref, foldl_kennel, foldl_time, foldl_buf, foldl_port, foldl_slices, foldl_tab, foldl_gen, foldl_sch, foldl_tel, foldl_pwr, foldl_regs, foldl_cnts, foldl_snd_pending, foldl_snd_now, foldl_snd_serial, foldl_snd_out, foldl_snd_pins, foldl_snd_md, foldl_snd_host, foldl_snd_cmds, foldl_snd_flt, foldl_snd_clk, foldl_snd_ref, foldl_snd_kennel, foldl_snd_time, foldl_snd_buf, foldl_snd_port, foldl_snd_slices, foldl_snd_tab, foldl_snd_gen, foldl_snd_sch, foldl_snd_tel, foldl_snd_pwr, foldl_snd_regs, foldl_snd_cnts]; done)

@[simp] theorem State.routeEvt_keeps (p : HostPort) (e : Evt) (s : State) :
    (State.routeEvt p e s).2.pending = s.pending ∧ (State.routeEvt p e s).2.now = s.now ∧
    (State.routeEvt p e s).2.serial = s.serial ∧ (State.routeEvt p e s).2.pins = s.pins ∧
    (State.routeEvt p e s).2.md = s.md ∧ (State.routeEvt p e s).2.cmds = s.cmds ∧
    (State.routeEvt p e s).2.flt = s.flt ∧ (State.routeEvt p e s).2.clk = s.clk ∧
    (State.routeEvt p e s).2.ref = s.ref ∧ (State.routeEvt p e s).2.kennel = s.kennel ∧
    (State.routeEvt p e s).2.time = s.time ∧ (State.routeEvt p e s).2.buf = s.buf ∧
    (State.routeEvt p e s).2.port = s.port ∧ (State.routeEvt p e s).2.slices = s.slices ∧
    (State.routeEvt p e s).2.tab = s.tab ∧ (State.routeEvt p e s).2.gen = s.gen ∧
    (State.routeEvt p e s).2.core = s.core ∧ (State.routeEvt p e s).2.sch = s.sch ∧
    (State.routeEvt p e s).2.tel = s.tel ∧ (State.routeEvt p e s).2.pwr = s.pwr ∧
    (State.routeEvt p e s).2.regs = s.regs ∧ (State.routeEvt p e s).2.cnts = s.cnts := by
  (unfold State.routeEvt; split <;> simp only [State.notify_keeps, State.onHalf_keeps, State.setRing_keeps, State.hostEntry_keeps, ite_self, and_self, implies_true, Ran.st_done, Ran.st_wait, Ran.st_refuse, Ran.st_ite, snd_ite, ite_pending, ite_now, ite_serial, ite_pins, ite_md, ite_cmds, ite_flt, ite_clk, ite_ref, ite_kennel, ite_time, ite_buf, ite_port, ite_slices, ite_tab, ite_gen, ite_core, ite_sch, ite_tel, ite_pwr, ite_regs, ite_cnts, foldl_pending, foldl_now, foldl_serial, foldl_pins, foldl_md, foldl_cmds, foldl_flt, foldl_clk, foldl_ref, foldl_kennel, foldl_time, foldl_buf, foldl_port, foldl_slices, foldl_tab, foldl_gen, foldl_core, foldl_sch, foldl_tel, foldl_pwr, foldl_regs, foldl_cnts, foldl_snd_pending, foldl_snd_now, foldl_snd_serial, foldl_snd_pins, foldl_snd_md, foldl_snd_cmds, foldl_snd_flt, foldl_snd_clk, foldl_snd_ref, foldl_snd_kennel, foldl_snd_time, foldl_snd_buf, foldl_snd_port, foldl_snd_slices, foldl_snd_tab, foldl_snd_gen, foldl_snd_core, foldl_snd_sch, foldl_snd_tel, foldl_snd_pwr, foldl_snd_regs, foldl_snd_cnts])

@[simp] theorem State.postEvt_keeps (e : Evt) (s : State) :
    (State.postEvt e s).2.pending = s.pending ∧ (State.postEvt e s).2.now = s.now ∧
    (State.postEvt e s).2.serial = s.serial ∧ (State.postEvt e s).2.pins = s.pins ∧
    (State.postEvt e s).2.md = s.md ∧ (State.postEvt e s).2.cmds = s.cmds ∧ (State.postEvt e s).2.flt = s.flt ∧
    (State.postEvt e s).2.clk = s.clk ∧ (State.postEvt e s).2.ref = s.ref ∧
    (State.postEvt e s).2.kennel = s.kennel ∧ (State.postEvt e s).2.time = s.time ∧
    (State.postEvt e s).2.buf = s.buf ∧ (State.postEvt e s).2.port = s.port ∧
    (State.postEvt e s).2.slices = s.slices ∧ (State.postEvt e s).2.tab = s.tab ∧
    (State.postEvt e s).2.gen = s.gen ∧ (State.postEvt e s).2.core = s.core ∧ (State.postEvt e s).2.sch = s.sch ∧
    (State.postEvt e s).2.tel = s.tel ∧ (State.postEvt e s).2.pwr = s.pwr ∧ (State.postEvt e s).2.regs = s.regs ∧
    (State.postEvt e s).2.cnts = s.cnts := by
  (unfold State.postEvt; simp only [State.routeEvt_keeps, ite_self, and_self, implies_true, Ran.st_done, Ran.st_wait, Ran.st_refuse, Ran.st_ite, snd_ite, ite_pending, ite_now, ite_serial, ite_pins, ite_md, ite_cmds, ite_flt, ite_clk, ite_ref, ite_kennel, ite_time, ite_buf, ite_port, ite_slices, ite_tab, ite_gen, ite_core, ite_sch, ite_tel, ite_pwr, ite_regs, ite_cnts, foldl_pending, foldl_now, foldl_serial, foldl_pins, foldl_md, foldl_cmds, foldl_flt, foldl_clk, foldl_ref, foldl_kennel, foldl_time, foldl_buf, foldl_port, foldl_slices, foldl_tab, foldl_gen, foldl_core, foldl_sch, foldl_tel, foldl_pwr, foldl_regs, foldl_cnts, foldl_snd_pending, foldl_snd_now, foldl_snd_serial, foldl_snd_pins, foldl_snd_md, foldl_snd_cmds, foldl_snd_flt, foldl_snd_clk, foldl_snd_ref, foldl_snd_kennel, foldl_snd_time, foldl_snd_buf, foldl_snd_port, foldl_snd_slices, foldl_snd_tab, foldl_snd_gen, foldl_snd_core, foldl_snd_sch, foldl_snd_tel, foldl_snd_pwr, foldl_snd_regs, foldl_snd_cnts]; done)

@[simp] theorem State.post_keeps (typ code source slice : Nat) (detail : List Byte) (s : State) :
    (State.post typ code source slice detail s).pending = s.pending ∧
    (State.post typ code source slice detail s).now = s.now ∧
    (State.post typ code source slice detail s).serial = s.serial ∧
    (State.post typ code source slice detail s).pins = s.pins ∧
    (State.post typ code source slice detail s).md = s.md ∧
    (State.post typ code source slice detail s).cmds = s.cmds ∧
    (State.post typ code source slice detail s).flt = s.flt ∧
    (State.post typ code source slice detail s).clk = s.clk ∧
    (State.post typ code source slice detail s).ref = s.ref ∧
    (State.post typ code source slice detail s).kennel = s.kennel ∧
    (State.post typ code source slice detail s).time = s.time ∧
    (State.post typ code source slice detail s).buf = s.buf ∧
    (State.post typ code source slice detail s).port = s.port ∧
    (State.post typ code source slice detail s).slices = s.slices ∧
    (State.post typ code source slice detail s).tab = s.tab ∧
    (State.post typ code source slice detail s).gen = s.gen ∧
    (State.post typ code source slice detail s).core = s.core ∧
    (State.post typ code source slice detail s).sch = s.sch ∧
    (State.post typ code source slice detail s).tel = s.tel ∧
    (State.post typ code source slice detail s).pwr = s.pwr ∧
    (State.post typ code source slice detail s).regs = s.regs ∧
    (State.post typ code source slice detail s).cnts = s.cnts := by
  (unfold State.post; simp only [State.postEvt_keeps, ite_self, and_self, implies_true, Ran.st_done, Ran.st_wait, Ran.st_refuse, Ran.st_ite, snd_ite, foldl_pending, foldl_now, foldl_serial, foldl_pins, foldl_md, foldl_cmds, foldl_flt, foldl_clk, foldl_ref, foldl_kennel, foldl_time, foldl_buf, foldl_port, foldl_slices, foldl_tab, foldl_gen, foldl_core, foldl_sch, foldl_tel, foldl_pwr, foldl_regs, foldl_cnts, foldl_snd_pending, foldl_snd_now, foldl_snd_serial, foldl_snd_pins, foldl_snd_md, foldl_snd_cmds, foldl_snd_flt, foldl_snd_clk, foldl_snd_ref, foldl_snd_kennel, foldl_snd_time, foldl_snd_buf, foldl_snd_port, foldl_snd_slices, foldl_snd_tab, foldl_snd_gen, foldl_snd_core, foldl_snd_sch, foldl_snd_tel, foldl_snd_pwr, foldl_snd_regs, foldl_snd_cnts]; done)

@[simp] theorem State.raiseX_keeps (src code : Nat) (c : Cls) (detail : Nat) (inj : Bool) (s : State) :
    (State.raiseX src code c detail inj s).pending = s.pending ∧
    (State.raiseX src code c detail inj s).now = s.now ∧ (State.raiseX src code c detail inj s).serial = s.serial ∧
    (State.raiseX src code c detail inj s).out = s.out ∧ (State.raiseX src code c detail inj s).pins = s.pins ∧
    (State.raiseX src code c detail inj s).md = s.md ∧ (State.raiseX src code c detail inj s).host = s.host ∧
    (State.raiseX src code c detail inj s).cmds = s.cmds ∧ (State.raiseX src code c detail inj s).clk = s.clk ∧
    (State.raiseX src code c detail inj s).ref = s.ref ∧ (State.raiseX src code c detail inj s).kennel = s.kennel ∧
    (State.raiseX src code c detail inj s).time = s.time ∧ (State.raiseX src code c detail inj s).buf = s.buf ∧
    (State.raiseX src code c detail inj s).port = s.port ∧
    (State.raiseX src code c detail inj s).slices = s.slices ∧ (State.raiseX src code c detail inj s).tab = s.tab ∧
    (State.raiseX src code c detail inj s).gen = s.gen ∧ (State.raiseX src code c detail inj s).core = s.core ∧
    (State.raiseX src code c detail inj s).sch = s.sch ∧ (State.raiseX src code c detail inj s).tel = s.tel ∧
    (State.raiseX src code c detail inj s).pwr = s.pwr ∧ (State.raiseX src code c detail inj s).regs = s.regs ∧
    (State.raiseX src code c detail inj s).cnts = s.cnts ∧
    (State.raiseX src code c detail inj s).flt.keel0 = s.flt.keel0 ∧
    (State.raiseX src code c detail inj s).flt.keel1 = s.flt.keel1 := by
  unfold State.raiseX
  split
  · simp only [and_self]
  · dsimp only
    split
    · simp only [and_self]
    · split <;> split <;> simp only [and_self]

@[simp] theorem State.raise_keeps (src code : Nat) (c : Cls) (detail : Nat) (s : State) :
    (State.raise src code c detail s).pending = s.pending ∧ (State.raise src code c detail s).now = s.now ∧
    (State.raise src code c detail s).serial = s.serial ∧ (State.raise src code c detail s).out = s.out ∧
    (State.raise src code c detail s).pins = s.pins ∧ (State.raise src code c detail s).md = s.md ∧
    (State.raise src code c detail s).host = s.host ∧ (State.raise src code c detail s).cmds = s.cmds ∧
    (State.raise src code c detail s).clk = s.clk ∧ (State.raise src code c detail s).ref = s.ref ∧
    (State.raise src code c detail s).kennel = s.kennel ∧ (State.raise src code c detail s).time = s.time ∧
    (State.raise src code c detail s).buf = s.buf ∧ (State.raise src code c detail s).port = s.port ∧
    (State.raise src code c detail s).slices = s.slices ∧ (State.raise src code c detail s).tab = s.tab ∧
    (State.raise src code c detail s).gen = s.gen ∧ (State.raise src code c detail s).core = s.core ∧
    (State.raise src code c detail s).sch = s.sch ∧ (State.raise src code c detail s).tel = s.tel ∧
    (State.raise src code c detail s).pwr = s.pwr ∧ (State.raise src code c detail s).regs = s.regs ∧
    (State.raise src code c detail s).cnts = s.cnts ∧ (State.raise src code c detail s).flt.keel0 = s.flt.keel0 ∧
    (State.raise src code c detail s).flt.keel1 = s.flt.keel1 := by
  (unfold State.raise; simp only [State.raiseX_keeps, ite_self, and_self, implies_true, Ran.st_done, Ran.st_wait, Ran.st_refuse, Ran.st_ite, snd_ite, foldl_pending, foldl_now, foldl_serial, foldl_out, foldl_pins, foldl_md, foldl_host, foldl_cmds, foldl_clk, foldl_ref, foldl_kennel, foldl_time, foldl_buf, foldl_port, foldl_slices, foldl_tab, foldl_gen, foldl_core, foldl_sch, foldl_tel, foldl_pwr, foldl_regs, foldl_cnts, foldl_flt_keel0, foldl_flt_keel1, foldl_snd_pending, foldl_snd_now, foldl_snd_serial, foldl_snd_out, foldl_snd_pins, foldl_snd_md, foldl_snd_host, foldl_snd_cmds, foldl_snd_clk, foldl_snd_ref, foldl_snd_kennel, foldl_snd_time, foldl_snd_buf, foldl_snd_port, foldl_snd_slices, foldl_snd_tab, foldl_snd_gen, foldl_snd_core, foldl_snd_sch, foldl_snd_tel, foldl_snd_pwr, foldl_snd_regs, foldl_snd_cnts, foldl_snd_flt_keel0, foldl_snd_flt_keel1]; done)

@[simp] theorem State.follow_keeps (src code : Nat) (c : Cls) (detail : Nat) (inj : Bool) (s : State) :
    (State.follow src code c detail inj s).pending = s.pending ∧
    (State.follow src code c detail inj s).now = s.now ∧ (State.follow src code c detail inj s).serial = s.serial ∧
    (State.follow src code c detail inj s).out = s.out ∧ (State.follow src code c detail inj s).pins = s.pins ∧
    (State.follow src code c detail inj s).md = s.md ∧ (State.follow src code c detail inj s).host = s.host ∧
    (State.follow src code c detail inj s).cmds = s.cmds ∧ (State.follow src code c detail inj s).clk = s.clk ∧
    (State.follow src code c detail inj s).ref = s.ref ∧ (State.follow src code c detail inj s).kennel = s.kennel ∧
    (State.follow src code c detail inj s).time = s.time ∧ (State.follow src code c detail inj s).buf = s.buf ∧
    (State.follow src code c detail inj s).port = s.port ∧
    (State.follow src code c detail inj s).slices = s.slices ∧ (State.follow src code c detail inj s).tab = s.tab ∧
    (State.follow src code c detail inj s).gen = s.gen ∧ (State.follow src code c detail inj s).core = s.core ∧
    (State.follow src code c detail inj s).sch = s.sch ∧ (State.follow src code c detail inj s).tel = s.tel ∧
    (State.follow src code c detail inj s).pwr = s.pwr ∧ (State.follow src code c detail inj s).regs = s.regs ∧
    (State.follow src code c detail inj s).cnts = s.cnts ∧
    (State.follow src code c detail inj s).flt.keel0 = s.flt.keel0 ∧
    (State.follow src code c detail inj s).flt.keel1 = s.flt.keel1 := by
  (unfold State.follow; simp only [State.raiseX_keeps, ite_self, and_self, implies_true, Ran.st_done, Ran.st_wait, Ran.st_refuse, Ran.st_ite, snd_ite, ite_pending, ite_now, ite_serial, ite_out, ite_pins, ite_md, ite_host, ite_cmds, ite_clk, ite_ref, ite_kennel, ite_time, ite_buf, ite_port, ite_slices, ite_tab, ite_gen, ite_core, ite_sch, ite_tel, ite_pwr, ite_regs, ite_cnts, ite_flt_keel0, ite_flt_keel1, foldl_pending, foldl_now, foldl_serial, foldl_out, foldl_pins, foldl_md, foldl_host, foldl_cmds, foldl_clk, foldl_ref, foldl_kennel, foldl_time, foldl_buf, foldl_port, foldl_slices, foldl_tab, foldl_gen, foldl_core, foldl_sch, foldl_tel, foldl_pwr, foldl_regs, foldl_cnts, foldl_flt_keel0, foldl_flt_keel1, foldl_snd_pending, foldl_snd_now, foldl_snd_serial, foldl_snd_out, foldl_snd_pins, foldl_snd_md, foldl_snd_host, foldl_snd_cmds, foldl_snd_clk, foldl_snd_ref, foldl_snd_kennel, foldl_snd_time, foldl_snd_buf, foldl_snd_port, foldl_snd_slices, foldl_snd_tab, foldl_snd_gen, foldl_snd_core, foldl_snd_sch, foldl_snd_tel, foldl_snd_pwr, foldl_snd_regs, foldl_snd_cnts, foldl_snd_flt_keel0, foldl_snd_flt_keel1]; done)

@[simp] theorem State.injected_keeps (src checker loc : Nat) (s : State) :
    (State.injected src checker loc s).2.pending = s.pending ∧ (State.injected src checker loc s).2.now = s.now ∧
    (State.injected src checker loc s).2.serial = s.serial ∧ (State.injected src checker loc s).2.out = s.out ∧
    (State.injected src checker loc s).2.pins = s.pins ∧ (State.injected src checker loc s).2.md = s.md ∧
    (State.injected src checker loc s).2.host = s.host ∧ (State.injected src checker loc s).2.cmds = s.cmds ∧
    (State.injected src checker loc s).2.clk = s.clk ∧ (State.injected src checker loc s).2.ref = s.ref ∧
    (State.injected src checker loc s).2.kennel = s.kennel ∧ (State.injected src checker loc s).2.time = s.time ∧
    (State.injected src checker loc s).2.buf = s.buf ∧ (State.injected src checker loc s).2.port = s.port ∧
    (State.injected src checker loc s).2.slices = s.slices ∧ (State.injected src checker loc s).2.tab = s.tab ∧
    (State.injected src checker loc s).2.gen = s.gen ∧ (State.injected src checker loc s).2.core = s.core ∧
    (State.injected src checker loc s).2.sch = s.sch ∧ (State.injected src checker loc s).2.tel = s.tel ∧
    (State.injected src checker loc s).2.pwr = s.pwr ∧ (State.injected src checker loc s).2.regs = s.regs ∧
    (State.injected src checker loc s).2.cnts = s.cnts ∧
    (State.injected src checker loc s).2.flt.keel0 = s.flt.keel0 ∧
    (State.injected src checker loc s).2.flt.keel1 = s.flt.keel1 := by
  (unfold State.injected; split <;> simp only [ite_self, and_self, implies_true, Ran.st_done, Ran.st_wait, Ran.st_refuse, Ran.st_ite, snd_ite, ite_pending, ite_now, ite_serial, ite_out, ite_pins, ite_md, ite_host, ite_cmds, ite_clk, ite_ref, ite_kennel, ite_time, ite_buf, ite_port, ite_slices, ite_tab, ite_gen, ite_core, ite_sch, ite_tel, ite_pwr, ite_regs, ite_cnts, ite_flt_keel0, ite_flt_keel1, foldl_pending, foldl_now, foldl_serial, foldl_out, foldl_pins, foldl_md, foldl_host, foldl_cmds, foldl_clk, foldl_ref, foldl_kennel, foldl_time, foldl_buf, foldl_port, foldl_slices, foldl_tab, foldl_gen, foldl_core, foldl_sch, foldl_tel, foldl_pwr, foldl_regs, foldl_cnts, foldl_flt_keel0, foldl_flt_keel1, foldl_snd_pending, foldl_snd_now, foldl_snd_serial, foldl_snd_out, foldl_snd_pins, foldl_snd_md, foldl_snd_host, foldl_snd_cmds, foldl_snd_clk, foldl_snd_ref, foldl_snd_kennel, foldl_snd_time, foldl_snd_buf, foldl_snd_port, foldl_snd_slices, foldl_snd_tab, foldl_snd_gen, foldl_snd_core, foldl_snd_sch, foldl_snd_tel, foldl_snd_pwr, foldl_snd_regs, foldl_snd_cnts, foldl_snd_flt_keel0, foldl_snd_flt_keel1])

@[simp] theorem State.setKeel_keeps (i : Nat) (k : Keel) (s : State) :
    (State.setKeel i k s).pending = s.pending ∧ (State.setKeel i k s).now = s.now ∧
    (State.setKeel i k s).serial = s.serial ∧ (State.setKeel i k s).out = s.out ∧
    (State.setKeel i k s).pins = s.pins ∧ (State.setKeel i k s).md = s.md ∧ (State.setKeel i k s).host = s.host ∧
    (State.setKeel i k s).cmds = s.cmds ∧ (State.setKeel i k s).clk = s.clk ∧ (State.setKeel i k s).ref = s.ref ∧
    (State.setKeel i k s).kennel = s.kennel ∧ (State.setKeel i k s).time = s.time ∧
    (State.setKeel i k s).buf = s.buf ∧ (State.setKeel i k s).port = s.port ∧
    (State.setKeel i k s).slices = s.slices ∧ (State.setKeel i k s).tab = s.tab ∧
    (State.setKeel i k s).gen = s.gen ∧ (State.setKeel i k s).core = s.core ∧ (State.setKeel i k s).sch = s.sch ∧
    (State.setKeel i k s).tel = s.tel ∧ (State.setKeel i k s).pwr = s.pwr ∧ (State.setKeel i k s).regs = s.regs ∧
    (State.setKeel i k s).cnts = s.cnts := by
  unfold State.setKeel; split <;> simp

@[simp] theorem State.setKeel_keel0 (i : Nat) (k : Keel) (s : State) (h : i ≠ 0) :
    (State.setKeel i k s).flt.keel0 = s.flt.keel0 := by unfold State.setKeel; split <;> simp_all

@[simp] theorem State.setKeel_keel1 (i : Nat) (k : Keel) (s : State) (h : i ≠ 1) :
    (State.setKeel i k s).flt.keel1 = s.flt.keel1 := by unfold State.setKeel; split <;> simp_all

@[simp] theorem State.commit_keeps (i v : Nat) (s : State) :
    (State.commit i v s).pending = s.pending ∧ (State.commit i v s).now = s.now ∧
    (State.commit i v s).serial = s.serial ∧ (State.commit i v s).out = s.out ∧
    (State.commit i v s).pins = s.pins ∧ (State.commit i v s).md = s.md ∧ (State.commit i v s).host = s.host ∧
    (State.commit i v s).cmds = s.cmds ∧ (State.commit i v s).clk = s.clk ∧ (State.commit i v s).ref = s.ref ∧
    (State.commit i v s).kennel = s.kennel ∧ (State.commit i v s).time = s.time ∧
    (State.commit i v s).buf = s.buf ∧ (State.commit i v s).port = s.port ∧
    (State.commit i v s).slices = s.slices ∧ (State.commit i v s).tab = s.tab ∧ (State.commit i v s).gen = s.gen ∧
    (State.commit i v s).core = s.core ∧ (State.commit i v s).sch = s.sch ∧ (State.commit i v s).tel = s.tel ∧
    (State.commit i v s).pwr = s.pwr ∧ (State.commit i v s).regs = s.regs ∧ (State.commit i v s).cnts = s.cnts := by
  simp [State.commit]

@[simp] theorem State.commit_keel0 (i v : Nat) (s : State) (h : i ≠ 0) :
    (State.commit i v s).flt.keel0 = s.flt.keel0 := by simp [State.commit, h]

@[simp] theorem State.commit_keel1 (i v : Nat) (s : State) (h : i ≠ 1) :
    (State.commit i v s).flt.keel1 = s.flt.keel1 := by simp [State.commit, h]

@[simp] theorem State.keelRefused_keeps (i : Nat) (s : State) :
    (State.keelRefused i s).pending = s.pending ∧ (State.keelRefused i s).now = s.now ∧
    (State.keelRefused i s).serial = s.serial ∧ (State.keelRefused i s).out = s.out ∧
    (State.keelRefused i s).pins = s.pins ∧ (State.keelRefused i s).md = s.md ∧
    (State.keelRefused i s).host = s.host ∧ (State.keelRefused i s).cmds = s.cmds ∧
    (State.keelRefused i s).clk = s.clk ∧ (State.keelRefused i s).ref = s.ref ∧
    (State.keelRefused i s).kennel = s.kennel ∧ (State.keelRefused i s).time = s.time ∧
    (State.keelRefused i s).buf = s.buf ∧ (State.keelRefused i s).port = s.port ∧
    (State.keelRefused i s).slices = s.slices ∧ (State.keelRefused i s).tab = s.tab ∧
    (State.keelRefused i s).gen = s.gen ∧ (State.keelRefused i s).core = s.core ∧
    (State.keelRefused i s).sch = s.sch ∧ (State.keelRefused i s).tel = s.tel ∧
    (State.keelRefused i s).pwr = s.pwr ∧ (State.keelRefused i s).regs = s.regs ∧
    (State.keelRefused i s).cnts = s.cnts := by
  unfold State.keelRefused; (repeat' split) <;> simp

@[simp] theorem State.keelRefused_keel0 (i : Nat) (s : State) (h : i ≠ 0) :
    (State.keelRefused i s).flt.keel0 = s.flt.keel0 := by unfold State.keelRefused; simp only [ite_flt_keel0, State.raise_keeps, State.setKeel_keel0 _ _ _ h, ite_self]

@[simp] theorem State.keelRefused_keel1 (i : Nat) (s : State) (h : i ≠ 1) :
    (State.keelRefused i s).flt.keel1 = s.flt.keel1 := by unfold State.keelRefused; simp only [ite_flt_keel1, State.raise_keeps, State.setKeel_keel1 _ _ _ h, ite_self]

@[simp] theorem State.keelChange_keeps (i v : Nat) (s : State) :
    (State.keelChange i v s).2.pending = s.pending ∧ (State.keelChange i v s).2.now = s.now ∧
    (State.keelChange i v s).2.serial = s.serial ∧ (State.keelChange i v s).2.out = s.out ∧
    (State.keelChange i v s).2.pins = s.pins ∧ (State.keelChange i v s).2.md = s.md ∧
    (State.keelChange i v s).2.host = s.host ∧ (State.keelChange i v s).2.cmds = s.cmds ∧
    (State.keelChange i v s).2.clk = s.clk ∧ (State.keelChange i v s).2.ref = s.ref ∧
    (State.keelChange i v s).2.kennel = s.kennel ∧ (State.keelChange i v s).2.time = s.time ∧
    (State.keelChange i v s).2.buf = s.buf ∧ (State.keelChange i v s).2.port = s.port ∧
    (State.keelChange i v s).2.slices = s.slices ∧ (State.keelChange i v s).2.tab = s.tab ∧
    (State.keelChange i v s).2.gen = s.gen ∧ (State.keelChange i v s).2.core = s.core ∧
    (State.keelChange i v s).2.sch = s.sch ∧ (State.keelChange i v s).2.tel = s.tel ∧
    (State.keelChange i v s).2.pwr = s.pwr ∧ (State.keelChange i v s).2.regs = s.regs ∧
    (State.keelChange i v s).2.cnts = s.cnts := by
  unfold State.keelChange; (repeat' split) <;> simp

@[simp] theorem State.keelChange_keel0 (i v : Nat) (s : State) (h : i ≠ 0) :
    ((State.keelChange i v s).2).flt.keel0 = s.flt.keel0 := by unfold State.keelChange; (repeat' split) <;> simp [h]

@[simp] theorem State.keelChange_keel1 (i v : Nat) (s : State) (h : i ≠ 1) :
    ((State.keelChange i v s).2).flt.keel1 = s.flt.keel1 := by unfold State.keelChange; (repeat' split) <;> simp [h]

@[simp] theorem State.writeCpl_keeps (p : HostPort) (n pos : Nat) (e : List Byte) (irqNow : Bool) (s : State) :
    (State.writeCpl p n pos e irqNow s).pending = s.pending ∧ (State.writeCpl p n pos e irqNow s).now = s.now ∧
    (State.writeCpl p n pos e irqNow s).serial = s.serial ∧ (State.writeCpl p n pos e irqNow s).pins = s.pins ∧
    (State.writeCpl p n pos e irqNow s).md = s.md ∧ (State.writeCpl p n pos e irqNow s).cmds = s.cmds ∧
    (State.writeCpl p n pos e irqNow s).flt = s.flt ∧ (State.writeCpl p n pos e irqNow s).clk = s.clk ∧
    (State.writeCpl p n pos e irqNow s).ref = s.ref ∧ (State.writeCpl p n pos e irqNow s).kennel = s.kennel ∧
    (State.writeCpl p n pos e irqNow s).time = s.time ∧ (State.writeCpl p n pos e irqNow s).buf = s.buf ∧
    (State.writeCpl p n pos e irqNow s).port = s.port ∧ (State.writeCpl p n pos e irqNow s).slices = s.slices ∧
    (State.writeCpl p n pos e irqNow s).tab = s.tab ∧ (State.writeCpl p n pos e irqNow s).gen = s.gen ∧
    (State.writeCpl p n pos e irqNow s).core = s.core ∧ (State.writeCpl p n pos e irqNow s).sch = s.sch ∧
    (State.writeCpl p n pos e irqNow s).tel = s.tel ∧ (State.writeCpl p n pos e irqNow s).pwr = s.pwr ∧
    (State.writeCpl p n pos e irqNow s).regs = s.regs ∧ (State.writeCpl p n pos e irqNow s).cnts = s.cnts := by
  (unfold State.writeCpl; simp only [State.notify_keeps, State.hostWrite_keeps, State.setRing_keeps, ite_self, and_self, implies_true, Ran.st_done, Ran.st_wait, Ran.st_refuse, Ran.st_ite, snd_ite, foldl_pending, foldl_now, foldl_serial, foldl_pins, foldl_md, foldl_cmds, foldl_flt, foldl_clk, foldl_ref, foldl_kennel, foldl_time, foldl_buf, foldl_port, foldl_slices, foldl_tab, foldl_gen, foldl_core, foldl_sch, foldl_tel, foldl_pwr, foldl_regs, foldl_cnts, foldl_snd_pending, foldl_snd_now, foldl_snd_serial, foldl_snd_pins, foldl_snd_md, foldl_snd_cmds, foldl_snd_flt, foldl_snd_clk, foldl_snd_ref, foldl_snd_kennel, foldl_snd_time, foldl_snd_buf, foldl_snd_port, foldl_snd_slices, foldl_snd_tab, foldl_snd_gen, foldl_snd_core, foldl_snd_sch, foldl_snd_tel, foldl_snd_pwr, foldl_snd_regs, foldl_snd_cnts]; done)

@[simp] theorem State.restRing_keeps (p : HostPort) (n : Nat) (s : State) :
    (State.restRing p n s).pending = s.pending ∧ (State.restRing p n s).now = s.now ∧
    (State.restRing p n s).serial = s.serial ∧ (State.restRing p n s).out = s.out ∧
    (State.restRing p n s).pins = s.pins ∧ (State.restRing p n s).md = s.md ∧
    (State.restRing p n s).cmds = s.cmds ∧ (State.restRing p n s).flt = s.flt ∧
    (State.restRing p n s).clk = s.clk ∧ (State.restRing p n s).ref = s.ref ∧
    (State.restRing p n s).kennel = s.kennel ∧ (State.restRing p n s).time = s.time ∧
    (State.restRing p n s).buf = s.buf ∧ (State.restRing p n s).port = s.port ∧
    (State.restRing p n s).slices = s.slices ∧ (State.restRing p n s).tab = s.tab ∧
    (State.restRing p n s).gen = s.gen ∧ (State.restRing p n s).core = s.core ∧
    (State.restRing p n s).sch = s.sch ∧ (State.restRing p n s).tel = s.tel ∧ (State.restRing p n s).pwr = s.pwr ∧
    (State.restRing p n s).regs = s.regs ∧ (State.restRing p n s).cnts = s.cnts := by
  (unfold State.restRing; simp only [State.setRing_keeps, ite_self, and_self, implies_true, Ran.st_done, Ran.st_wait, Ran.st_refuse, Ran.st_ite, snd_ite, ite_pending, ite_now, ite_serial, ite_out, ite_pins, ite_md, ite_cmds, ite_flt, ite_clk, ite_ref, ite_kennel, ite_time, ite_buf, ite_port, ite_slices, ite_tab, ite_gen, ite_core, ite_sch, ite_tel, ite_pwr, ite_regs, ite_cnts, foldl_pending, foldl_now, foldl_serial, foldl_out, foldl_pins, foldl_md, foldl_cmds, foldl_flt, foldl_clk, foldl_ref, foldl_kennel, foldl_time, foldl_buf, foldl_port, foldl_slices, foldl_tab, foldl_gen, foldl_core, foldl_sch, foldl_tel, foldl_pwr, foldl_regs, foldl_cnts, foldl_snd_pending, foldl_snd_now, foldl_snd_serial, foldl_snd_out, foldl_snd_pins, foldl_snd_md, foldl_snd_cmds, foldl_snd_flt, foldl_snd_clk, foldl_snd_ref, foldl_snd_kennel, foldl_snd_time, foldl_snd_buf, foldl_snd_port, foldl_snd_slices, foldl_snd_tab, foldl_snd_gen, foldl_snd_core, foldl_snd_sch, foldl_snd_tel, foldl_snd_pwr, foldl_snd_regs, foldl_snd_cnts]; done)

@[simp] theorem State.dropCmd_keeps (c : Cmd) (s : State) :
    (State.dropCmd c s).pending = s.pending ∧ (State.dropCmd c s).now = s.now ∧
    (State.dropCmd c s).serial = s.serial ∧ (State.dropCmd c s).out = s.out ∧ (State.dropCmd c s).pins = s.pins ∧
    (State.dropCmd c s).md = s.md ∧ (State.dropCmd c s).host = s.host ∧ (State.dropCmd c s).flt = s.flt ∧
    (State.dropCmd c s).clk = s.clk ∧ (State.dropCmd c s).ref = s.ref ∧ (State.dropCmd c s).kennel = s.kennel ∧
    (State.dropCmd c s).time = s.time ∧ (State.dropCmd c s).buf = s.buf ∧ (State.dropCmd c s).port = s.port ∧
    (State.dropCmd c s).slices = s.slices ∧ (State.dropCmd c s).tab = s.tab ∧ (State.dropCmd c s).gen = s.gen ∧
    (State.dropCmd c s).core = s.core ∧ (State.dropCmd c s).sch = s.sch ∧ (State.dropCmd c s).tel = s.tel ∧
    (State.dropCmd c s).pwr = s.pwr ∧ (State.dropCmd c s).regs = s.regs ∧ (State.dropCmd c s).cnts = s.cnts := by
  (unfold State.dropCmd; simp only [ite_self, and_self, implies_true, Ran.st_done, Ran.st_wait, Ran.st_refuse, Ran.st_ite, snd_ite, ite_pending, ite_now, ite_serial, ite_out, ite_pins, ite_md, ite_host, ite_flt, ite_clk, ite_ref, ite_kennel, ite_time, ite_buf, ite_port, ite_slices, ite_tab, ite_gen, ite_core, ite_sch, ite_tel, ite_pwr, ite_regs, ite_cnts, foldl_pending, foldl_now, foldl_serial, foldl_out, foldl_pins, foldl_md, foldl_host, foldl_flt, foldl_clk, foldl_ref, foldl_kennel, foldl_time, foldl_buf, foldl_port, foldl_slices, foldl_tab, foldl_gen, foldl_core, foldl_sch, foldl_tel, foldl_pwr, foldl_regs, foldl_cnts, foldl_snd_pending, foldl_snd_now, foldl_snd_serial, foldl_snd_out, foldl_snd_pins, foldl_snd_md, foldl_snd_host, foldl_snd_flt, foldl_snd_clk, foldl_snd_ref, foldl_snd_kennel, foldl_snd_time, foldl_snd_buf, foldl_snd_port, foldl_snd_slices, foldl_snd_tab, foldl_snd_gen, foldl_snd_core, foldl_snd_sch, foldl_snd_tel, foldl_snd_pwr, foldl_snd_regs, foldl_snd_cnts]; done)

@[simp] theorem State.copyCpl_keeps (p : HostPort) (x : Nat × List Byte) (s : State) :
    (State.copyCpl p x s).pending = s.pending ∧ (State.copyCpl p x s).now = s.now ∧
    (State.copyCpl p x s).serial = s.serial ∧ (State.copyCpl p x s).pins = s.pins ∧
    (State.copyCpl p x s).md = s.md ∧ (State.copyCpl p x s).cmds = s.cmds ∧ (State.copyCpl p x s).flt = s.flt ∧
    (State.copyCpl p x s).clk = s.clk ∧ (State.copyCpl p x s).ref = s.ref ∧
    (State.copyCpl p x s).kennel = s.kennel ∧ (State.copyCpl p x s).time = s.time ∧
    (State.copyCpl p x s).buf = s.buf ∧ (State.copyCpl p x s).port = s.port ∧
    (State.copyCpl p x s).slices = s.slices ∧ (State.copyCpl p x s).tab = s.tab ∧
    (State.copyCpl p x s).gen = s.gen ∧ (State.copyCpl p x s).core = s.core ∧ (State.copyCpl p x s).sch = s.sch ∧
    (State.copyCpl p x s).tel = s.tel ∧ (State.copyCpl p x s).pwr = s.pwr ∧ (State.copyCpl p x s).regs = s.regs ∧
    (State.copyCpl p x s).cnts = s.cnts := by
  (unfold State.copyCpl; simp only [State.onHalf_keeps, State.writeCpl_keeps, State.setRing_keeps, ite_self, and_self, implies_true, Ran.st_done, Ran.st_wait, Ran.st_refuse, Ran.st_ite, snd_ite, ite_pending, ite_now, ite_serial, ite_pins, ite_md, ite_cmds, ite_flt, ite_clk, ite_ref, ite_kennel, ite_time, ite_buf, ite_port, ite_slices, ite_tab, ite_gen, ite_core, ite_sch, ite_tel, ite_pwr, ite_regs, ite_cnts, foldl_pending, foldl_now, foldl_serial, foldl_pins, foldl_md, foldl_cmds, foldl_flt, foldl_clk, foldl_ref, foldl_kennel, foldl_time, foldl_buf, foldl_port, foldl_slices, foldl_tab, foldl_gen, foldl_core, foldl_sch, foldl_tel, foldl_pwr, foldl_regs, foldl_cnts, foldl_snd_pending, foldl_snd_now, foldl_snd_serial, foldl_snd_pins, foldl_snd_md, foldl_snd_cmds, foldl_snd_flt, foldl_snd_clk, foldl_snd_ref, foldl_snd_kennel, foldl_snd_time, foldl_snd_buf, foldl_snd_port, foldl_snd_slices, foldl_snd_tab, foldl_snd_gen, foldl_snd_core, foldl_snd_sch, foldl_snd_tel, foldl_snd_pwr, foldl_snd_regs, foldl_snd_cnts]; done)

@[simp] theorem State.flushLate_keeps (p : HostPort) (s : State) :
    (State.flushLate p s).pending = s.pending ∧ (State.flushLate p s).now = s.now ∧
    (State.flushLate p s).serial = s.serial ∧ (State.flushLate p s).pins = s.pins ∧
    (State.flushLate p s).md = s.md ∧ (State.flushLate p s).cmds = s.cmds ∧ (State.flushLate p s).flt = s.flt ∧
    (State.flushLate p s).clk = s.clk ∧ (State.flushLate p s).ref = s.ref ∧
    (State.flushLate p s).kennel = s.kennel ∧ (State.flushLate p s).time = s.time ∧
    (State.flushLate p s).buf = s.buf ∧ (State.flushLate p s).port = s.port ∧
    (State.flushLate p s).slices = s.slices ∧ (State.flushLate p s).tab = s.tab ∧
    (State.flushLate p s).gen = s.gen ∧ (State.flushLate p s).core = s.core ∧ (State.flushLate p s).sch = s.sch ∧
    (State.flushLate p s).tel = s.tel ∧ (State.flushLate p s).pwr = s.pwr ∧ (State.flushLate p s).regs = s.regs ∧
    (State.flushLate p s).cnts = s.cnts := by
  (unfold State.flushLate; simp only [State.onHalf_keeps, State.copyCpl_keeps, ite_self, and_self, implies_true, Ran.st_done, Ran.st_wait, Ran.st_refuse, Ran.st_ite, snd_ite, foldl_pending, foldl_now, foldl_serial, foldl_pins, foldl_md, foldl_cmds, foldl_flt, foldl_clk, foldl_ref, foldl_kennel, foldl_time, foldl_buf, foldl_port, foldl_slices, foldl_tab, foldl_gen, foldl_core, foldl_sch, foldl_tel, foldl_pwr, foldl_regs, foldl_cnts, foldl_snd_pending, foldl_snd_now, foldl_snd_serial, foldl_snd_pins, foldl_snd_md, foldl_snd_cmds, foldl_snd_flt, foldl_snd_clk, foldl_snd_ref, foldl_snd_kennel, foldl_snd_time, foldl_snd_buf, foldl_snd_port, foldl_snd_slices, foldl_snd_tab, foldl_snd_gen, foldl_snd_core, foldl_snd_sch, foldl_snd_tel, foldl_snd_pwr, foldl_snd_regs, foldl_snd_cnts]; done)

@[simp] theorem State.complete_keeps (c : Cmd) (st : Status) (r0 r1 : Nat) (s : State) :
    (State.complete c st r0 r1 s).pending = s.pending ∧ (State.complete c st r0 r1 s).now = s.now ∧
    (State.complete c st r0 r1 s).serial = s.serial ∧ (State.complete c st r0 r1 s).pins = s.pins ∧
    (State.complete c st r0 r1 s).md = s.md ∧ (State.complete c st r0 r1 s).flt = s.flt ∧
    (State.complete c st r0 r1 s).clk = s.clk ∧ (State.complete c st r0 r1 s).ref = s.ref ∧
    (State.complete c st r0 r1 s).kennel = s.kennel ∧ (State.complete c st r0 r1 s).time = s.time ∧
    (State.complete c st r0 r1 s).buf = s.buf ∧ (State.complete c st r0 r1 s).port = s.port ∧
    (State.complete c st r0 r1 s).slices = s.slices ∧ (State.complete c st r0 r1 s).tab = s.tab ∧
    (State.complete c st r0 r1 s).gen = s.gen ∧ (State.complete c st r0 r1 s).core = s.core ∧
    (State.complete c st r0 r1 s).sch = s.sch ∧ (State.complete c st r0 r1 s).tel = s.tel ∧
    (State.complete c st r0 r1 s).pwr = s.pwr ∧ (State.complete c st r0 r1 s).regs = s.regs ∧
    (State.complete c st r0 r1 s).cnts = s.cnts := by
  (unfold State.complete; simp only [State.dropCmd_keeps, State.restRing_keeps, State.flushLate_keeps, State.writeCpl_keeps, State.copyCpl_keeps, ite_self, and_self, implies_true, Ran.st_done, Ran.st_wait, Ran.st_refuse, Ran.st_ite, snd_ite, ite_pending, ite_now, ite_serial, ite_pins, ite_md, ite_flt, ite_clk, ite_ref, ite_kennel, ite_time, ite_buf, ite_port, ite_slices, ite_tab, ite_gen, ite_core, ite_sch, ite_tel, ite_pwr, ite_regs, ite_cnts, foldl_pending, foldl_now, foldl_serial, foldl_pins, foldl_md, foldl_flt, foldl_clk, foldl_ref, foldl_kennel, foldl_time, foldl_buf, foldl_port, foldl_slices, foldl_tab, foldl_gen, foldl_core, foldl_sch, foldl_tel, foldl_pwr, foldl_regs, foldl_cnts, foldl_snd_pending, foldl_snd_now, foldl_snd_serial, foldl_snd_pins, foldl_snd_md, foldl_snd_flt, foldl_snd_clk, foldl_snd_ref, foldl_snd_kennel, foldl_snd_time, foldl_snd_buf, foldl_snd_port, foldl_snd_slices, foldl_snd_tab, foldl_snd_gen, foldl_snd_core, foldl_snd_sch, foldl_snd_tel, foldl_snd_pwr, foldl_snd_regs, foldl_snd_cnts]; done)

@[simp] theorem State.completeSer_keeps (serial : Nat) (st : Status) (r0 r1 : Nat) (s : State) :
    (State.completeSer serial st r0 r1 s).pending = s.pending ∧ (State.completeSer serial st r0 r1 s).now = s.now ∧
    (State.completeSer serial st r0 r1 s).serial = s.serial ∧ (State.completeSer serial st r0 r1 s).pins = s.pins ∧
    (State.completeSer serial st r0 r1 s).md = s.md ∧ (State.completeSer serial st r0 r1 s).flt = s.flt ∧
    (State.completeSer serial st r0 r1 s).clk = s.clk ∧ (State.completeSer serial st r0 r1 s).ref = s.ref ∧
    (State.completeSer serial st r0 r1 s).kennel = s.kennel ∧ (State.completeSer serial st r0 r1 s).time = s.time ∧
    (State.completeSer serial st r0 r1 s).buf = s.buf ∧ (State.completeSer serial st r0 r1 s).port = s.port ∧
    (State.completeSer serial st r0 r1 s).slices = s.slices ∧ (State.completeSer serial st r0 r1 s).tab = s.tab ∧
    (State.completeSer serial st r0 r1 s).gen = s.gen ∧ (State.completeSer serial st r0 r1 s).core = s.core ∧
    (State.completeSer serial st r0 r1 s).sch = s.sch ∧ (State.completeSer serial st r0 r1 s).tel = s.tel ∧
    (State.completeSer serial st r0 r1 s).pwr = s.pwr ∧ (State.completeSer serial st r0 r1 s).regs = s.regs ∧
    (State.completeSer serial st r0 r1 s).cnts = s.cnts := by
  (unfold State.completeSer; split <;> simp only [State.complete_keeps, ite_self, and_self, implies_true, Ran.st_done, Ran.st_wait, Ran.st_refuse, Ran.st_ite, snd_ite, ite_pending, ite_now, ite_serial, ite_pins, ite_md, ite_flt, ite_clk, ite_ref, ite_kennel, ite_time, ite_buf, ite_port, ite_slices, ite_tab, ite_gen, ite_core, ite_sch, ite_tel, ite_pwr, ite_regs, ite_cnts, foldl_pending, foldl_now, foldl_serial, foldl_pins, foldl_md, foldl_flt, foldl_clk, foldl_ref, foldl_kennel, foldl_time, foldl_buf, foldl_port, foldl_slices, foldl_tab, foldl_gen, foldl_core, foldl_sch, foldl_tel, foldl_pwr, foldl_regs, foldl_cnts, foldl_snd_pending, foldl_snd_now, foldl_snd_serial, foldl_snd_pins, foldl_snd_md, foldl_snd_flt, foldl_snd_clk, foldl_snd_ref, foldl_snd_kennel, foldl_snd_time, foldl_snd_buf, foldl_snd_port, foldl_snd_slices, foldl_snd_tab, foldl_snd_gen, foldl_snd_core, foldl_snd_sch, foldl_snd_tel, foldl_snd_pwr, foldl_snd_regs, foldl_snd_cnts])

@[simp] theorem State.wait_keeps (c : Cmd) (s : State) :
    (State.wait c s).pending = s.pending ∧ (State.wait c s).now = s.now ∧ (State.wait c s).serial = s.serial ∧
    (State.wait c s).out = s.out ∧ (State.wait c s).pins = s.pins ∧ (State.wait c s).md = s.md ∧
    (State.wait c s).host = s.host ∧ (State.wait c s).flt = s.flt ∧ (State.wait c s).clk = s.clk ∧
    (State.wait c s).ref = s.ref ∧ (State.wait c s).kennel = s.kennel ∧ (State.wait c s).time = s.time ∧
    (State.wait c s).buf = s.buf ∧ (State.wait c s).port = s.port ∧ (State.wait c s).slices = s.slices ∧
    (State.wait c s).tab = s.tab ∧ (State.wait c s).gen = s.gen ∧ (State.wait c s).core = s.core ∧
    (State.wait c s).sch = s.sch ∧ (State.wait c s).tel = s.tel ∧ (State.wait c s).pwr = s.pwr ∧
    (State.wait c s).regs = s.regs ∧ (State.wait c s).cnts = s.cnts := by
  (unfold State.wait; simp only [ite_self, and_self, implies_true, Ran.st_done, Ran.st_wait, Ran.st_refuse, Ran.st_ite, snd_ite, foldl_pending, foldl_now, foldl_serial, foldl_out, foldl_pins, foldl_md, foldl_host, foldl_flt, foldl_clk, foldl_ref, foldl_kennel, foldl_time, foldl_buf, foldl_port, foldl_slices, foldl_tab, foldl_gen, foldl_core, foldl_sch, foldl_tel, foldl_pwr, foldl_regs, foldl_cnts, foldl_snd_pending, foldl_snd_now, foldl_snd_serial, foldl_snd_out, foldl_snd_pins, foldl_snd_md, foldl_snd_host, foldl_snd_flt, foldl_snd_clk, foldl_snd_ref, foldl_snd_kennel, foldl_snd_time, foldl_snd_buf, foldl_snd_port, foldl_snd_slices, foldl_snd_tab, foldl_snd_gen, foldl_snd_core, foldl_snd_sch, foldl_snd_tel, foldl_snd_pwr, foldl_snd_regs, foldl_snd_cnts]; done)
end Sys2Proof.Machine
end

