-- ==== Sys2Proof/Laws/KeepsOperands.lean ====
section
/-! SUPPORT. What each operation of Machine/Operands.lean keeps: the parts of the state that it leaves as they are. -/
set_option linter.unusedSimpArgs false
set_option linter.unusedVariables false
namespace Sys2Proof.Machine
open Host (Outcome)

@[simp] theorem Ran.refuse_keeps (st : Status) (s : State) :
    (Ran.refuse st s).st.pending = s.pending ∧ (Ran.refuse st s).st.now = s.now ∧
    (Ran.refuse st s).st.serial = s.serial ∧ (Ran.refuse st s).st.out = s.out ∧
    (Ran.refuse st s).st.pins = s.pins ∧ (Ran.refuse st s).st.md = s.md ∧ (Ran.refuse st s).st.host = s.host ∧
    (Ran.refuse st s).st.cmds = s.cmds ∧ (Ran.refuse st s).st.flt = s.flt ∧ (Ran.refuse st s).st.clk = s.clk ∧
    (Ran.refuse st s).st.ref = s.ref ∧ (Ran.refuse st s).st.kennel = s.kennel ∧
    (Ran.refuse st s).st.time = s.time ∧ (Ran.refuse st s).st.buf = s.buf ∧ (Ran.refuse st s).st.port = s.port ∧
    (Ran.refuse st s).st.slices = s.slices ∧ (Ran.refuse st s).st.tab = s.tab ∧ (Ran.refuse st s).st.gen = s.gen ∧
    (Ran.refuse st s).st.core = s.core ∧ (Ran.refuse st s).st.sch = s.sch ∧ (Ran.refuse st s).st.tel = s.tel ∧
    (Ran.refuse st s).st.pwr = s.pwr ∧ (Ran.refuse st s).st.regs = s.regs ∧ (Ran.refuse st s).st.cnts = s.cnts := by
  (unfold Ran.refuse; simp only [ite_self, and_self, implies_true, Ran.st_done, Ran.st_wait, Ran.st_refuse, Ran.st_ite, snd_ite, foldl_pending, foldl_now, foldl_serial, foldl_out, foldl_pins, foldl_md, foldl_host, foldl_cmds, foldl_flt, foldl_clk, foldl_ref, foldl_kennel, foldl_time, foldl_buf, foldl_port, foldl_slices, foldl_tab, foldl_gen, foldl_core, foldl_sch, foldl_tel, foldl_pwr, foldl_regs, foldl_cnts, foldl_snd_pending, foldl_snd_now, foldl_snd_serial, foldl_snd_out, foldl_snd_pins, foldl_snd_md, foldl_snd_host, foldl_snd_cmds, foldl_snd_flt, foldl_snd_clk, foldl_snd_ref, foldl_snd_kennel, foldl_snd_time, foldl_snd_buf, foldl_snd_port, foldl_snd_slices, foldl_snd_tab, foldl_snd_gen, foldl_snd_core, foldl_snd_sch, foldl_snd_tel, foldl_snd_pwr, foldl_snd_regs, foldl_snd_cnts]; done)

@[simp] theorem State.runCmd_pending (p : HostPort) (n op : Nat) (row : Cmd → Bool) (layout : Cmd → List ArgField)
    (body : Cmd → State → Ran) (s : State) (h : ∀ c t, (body c t).st.pending = t.pending) :
    (State.runCmd p n op row layout body s).pending = s.pending :=
  runCmd_keeps (fun t => t.pending) (fun _ _ _ _ _ => by simp) (fun _ _ => by simp) p n op row layout body s h

@[simp] theorem State.runCmd_now (p : HostPort) (n op : Nat) (row : Cmd → Bool) (layout : Cmd → List ArgField)
    (body : Cmd → State → Ran) (s : State) (h : ∀ c t, (body c t).st.now = t.now) :
    (State.runCmd p n op row layout body s).now = s.now :=
  runCmd_keeps (fun t => t.now) (fun _ _ _ _ _ => by simp) (fun _ _ => by simp) p n op row layout body s h

@[simp] theorem State.runCmd_serial (p : HostPort) (n op : Nat) (row : Cmd → Bool) (layout : Cmd → List ArgField)
    (body : Cmd → State → Ran) (s : State) (h : ∀ c t, (body c t).st.serial = t.serial) :
    (State.runCmd p n op row layout body s).serial = s.serial :=
  runCmd_keeps (fun t => t.serial) (fun _ _ _ _ _ => by simp) (fun _ _ => by simp) p n op row layout body s h

@[simp] theorem State.runCmd_pins (p : HostPort) (n op : Nat) (row : Cmd → Bool) (layout : Cmd → List ArgField)
    (body : Cmd → State → Ran) (s : State) (h : ∀ c t, (body c t).st.pins = t.pins) :
    (State.runCmd p n op row layout body s).pins = s.pins :=
  runCmd_keeps (fun t => t.pins) (fun _ _ _ _ _ => by simp) (fun _ _ => by simp) p n op row layout body s h

@[simp] theorem State.runCmd_md (p : HostPort) (n op : Nat) (row : Cmd → Bool) (layout : Cmd → List ArgField)
    (body : Cmd → State → Ran) (s : State) (h : ∀ c t, (body c t).st.md = t.md) :
    (State.runCmd p n op row layout body s).md = s.md :=
  runCmd_keeps (fun t => t.md) (fun _ _ _ _ _ => by simp) (fun _ _ => by simp) p n op row layout body s h

@[simp] theorem State.runCmd_flt (p : HostPort) (n op : Nat) (row : Cmd → Bool) (layout : Cmd → List ArgField)
    (body : Cmd → State → Ran) (s : State) (h : ∀ c t, (body c t).st.flt = t.flt) :
    (State.runCmd p n op row layout body s).flt = s.flt :=
  runCmd_keeps (fun t => t.flt) (fun _ _ _ _ _ => by simp) (fun _ _ => by simp) p n op row layout body s h

@[simp] theorem State.runCmd_clk (p : HostPort) (n op : Nat) (row : Cmd → Bool) (layout : Cmd → List ArgField)
    (body : Cmd → State → Ran) (s : State) (h : ∀ c t, (body c t).st.clk = t.clk) :
    (State.runCmd p n op row layout body s).clk = s.clk :=
  runCmd_keeps (fun t => t.clk) (fun _ _ _ _ _ => by simp) (fun _ _ => by simp) p n op row layout body s h

@[simp] theorem State.runCmd_ref (p : HostPort) (n op : Nat) (row : Cmd → Bool) (layout : Cmd → List ArgField)
    (body : Cmd → State → Ran) (s : State) (h : ∀ c t, (body c t).st.ref = t.ref) :
    (State.runCmd p n op row layout body s).ref = s.ref :=
  runCmd_keeps (fun t => t.ref) (fun _ _ _ _ _ => by simp) (fun _ _ => by simp) p n op row layout body s h

@[simp] theorem State.runCmd_kennel (p : HostPort) (n op : Nat) (row : Cmd → Bool) (layout : Cmd → List ArgField)
    (body : Cmd → State → Ran) (s : State) (h : ∀ c t, (body c t).st.kennel = t.kennel) :
    (State.runCmd p n op row layout body s).kennel = s.kennel :=
  runCmd_keeps (fun t => t.kennel) (fun _ _ _ _ _ => by simp) (fun _ _ => by simp) p n op row layout body s h

@[simp] theorem State.runCmd_time (p : HostPort) (n op : Nat) (row : Cmd → Bool) (layout : Cmd → List ArgField)
    (body : Cmd → State → Ran) (s : State) (h : ∀ c t, (body c t).st.time = t.time) :
    (State.runCmd p n op row layout body s).time = s.time :=
  runCmd_keeps (fun t => t.time) (fun _ _ _ _ _ => by simp) (fun _ _ => by simp) p n op row layout body s h

@[simp] theorem State.runCmd_buf (p : HostPort) (n op : Nat) (row : Cmd → Bool) (layout : Cmd → List ArgField)
    (body : Cmd → State → Ran) (s : State) (h : ∀ c t, (body c t).st.buf = t.buf) :
    (State.runCmd p n op row layout body s).buf = s.buf :=
  runCmd_keeps (fun t => t.buf) (fun _ _ _ _ _ => by simp) (fun _ _ => by simp) p n op row layout body s h

@[simp] theorem State.runCmd_port (p : HostPort) (n op : Nat) (row : Cmd → Bool) (layout : Cmd → List ArgField)
    (body : Cmd → State → Ran) (s : State) (h : ∀ c t, (body c t).st.port = t.port) :
    (State.runCmd p n op row layout body s).port = s.port :=
  runCmd_keeps (fun t => t.port) (fun _ _ _ _ _ => by simp) (fun _ _ => by simp) p n op row layout body s h

@[simp] theorem State.runCmd_slices (p : HostPort) (n op : Nat) (row : Cmd → Bool) (layout : Cmd → List ArgField)
    (body : Cmd → State → Ran) (s : State) (h : ∀ c t, (body c t).st.slices = t.slices) :
    (State.runCmd p n op row layout body s).slices = s.slices :=
  runCmd_keeps (fun t => t.slices) (fun _ _ _ _ _ => by simp) (fun _ _ => by simp) p n op row layout body s h

@[simp] theorem State.runCmd_tab (p : HostPort) (n op : Nat) (row : Cmd → Bool) (layout : Cmd → List ArgField)
    (body : Cmd → State → Ran) (s : State) (h : ∀ c t, (body c t).st.tab = t.tab) :
    (State.runCmd p n op row layout body s).tab = s.tab :=
  runCmd_keeps (fun t => t.tab) (fun _ _ _ _ _ => by simp) (fun _ _ => by simp) p n op row layout body s h

@[simp] theorem State.runCmd_gen (p : HostPort) (n op : Nat) (row : Cmd → Bool) (layout : Cmd → List ArgField)
    (body : Cmd → State → Ran) (s : State) (h : ∀ c t, (body c t).st.gen = t.gen) :
    (State.runCmd p n op row layout body s).gen = s.gen :=
  runCmd_keeps (fun t => t.gen) (fun _ _ _ _ _ => by simp) (fun _ _ => by simp) p n op row layout body s h

@[simp] theorem State.runCmd_core (p : HostPort) (n op : Nat) (row : Cmd → Bool) (layout : Cmd → List ArgField)
    (body : Cmd → State → Ran) (s : State) (h : ∀ c t, (body c t).st.core = t.core) :
    (State.runCmd p n op row layout body s).core = s.core :=
  runCmd_keeps (fun t => t.core) (fun _ _ _ _ _ => by simp) (fun _ _ => by simp) p n op row layout body s h

@[simp] theorem State.runCmd_sch (p : HostPort) (n op : Nat) (row : Cmd → Bool) (layout : Cmd → List ArgField)
    (body : Cmd → State → Ran) (s : State) (h : ∀ c t, (body c t).st.sch = t.sch) :
    (State.runCmd p n op row layout body s).sch = s.sch :=
  runCmd_keeps (fun t => t.sch) (fun _ _ _ _ _ => by simp) (fun _ _ => by simp) p n op row layout body s h

@[simp] theorem State.runCmd_tel (p : HostPort) (n op : Nat) (row : Cmd → Bool) (layout : Cmd → List ArgField)
    (body : Cmd → State → Ran) (s : State) (h : ∀ c t, (body c t).st.tel = t.tel) :
    (State.runCmd p n op row layout body s).tel = s.tel :=
  runCmd_keeps (fun t => t.tel) (fun _ _ _ _ _ => by simp) (fun _ _ => by simp) p n op row layout body s h

@[simp] theorem State.runCmd_pwr (p : HostPort) (n op : Nat) (row : Cmd → Bool) (layout : Cmd → List ArgField)
    (body : Cmd → State → Ran) (s : State) (h : ∀ c t, (body c t).st.pwr = t.pwr) :
    (State.runCmd p n op row layout body s).pwr = s.pwr :=
  runCmd_keeps (fun t => t.pwr) (fun _ _ _ _ _ => by simp) (fun _ _ => by simp) p n op row layout body s h

@[simp] theorem State.runCmd_regs (p : HostPort) (n op : Nat) (row : Cmd → Bool) (layout : Cmd → List ArgField)
    (body : Cmd → State → Ran) (s : State) (h : ∀ c t, (body c t).st.regs = t.regs) :
    (State.runCmd p n op row layout body s).regs = s.regs :=
  runCmd_keeps (fun t => t.regs) (fun _ _ _ _ _ => by simp) (fun _ _ => by simp) p n op row layout body s h

@[simp] theorem State.runCmd_cnts (p : HostPort) (n op : Nat) (row : Cmd → Bool) (layout : Cmd → List ArgField)
    (body : Cmd → State → Ran) (s : State) (h : ∀ c t, (body c t).st.cnts = t.cnts) :
    (State.runCmd p n op row layout body s).cnts = s.cnts :=
  runCmd_keeps (fun t => t.cnts) (fun _ _ _ _ _ => by simp) (fun _ _ => by simp) p n op row layout body s h

@[simp] theorem State.hostData_keeps (c : Cmd) (addr : Nat) (data : List Byte) (s : State) :
    (State.hostData c addr data s).pending = s.pending ∧ (State.hostData c addr data s).now = s.now ∧
    (State.hostData c addr data s).serial = s.serial ∧ (State.hostData c addr data s).pins = s.pins ∧
    (State.hostData c addr data s).md = s.md ∧ (State.hostData c addr data s).cmds = s.cmds ∧
    (State.hostData c addr data s).flt = s.flt ∧ (State.hostData c addr data s).clk = s.clk ∧
    (State.hostData c addr data s).ref = s.ref ∧ (State.hostData c addr data s).kennel = s.kennel ∧
    (State.hostData c addr data s).time = s.time ∧ (State.hostData c addr data s).buf = s.buf ∧
    (State.hostData c addr data s).port = s.port ∧ (State.hostData c addr data s).slices = s.slices ∧
    (State.hostData c addr data s).tab = s.tab ∧ (State.hostData c addr data s).gen = s.gen ∧
    (State.hostData c addr data s).core = s.core ∧ (State.hostData c addr data s).sch = s.sch ∧
    (State.hostData c addr data s).tel = s.tel ∧ (State.hostData c addr data s).pwr = s.pwr ∧
    (State.hostData c addr data s).regs = s.regs ∧ (State.hostData c addr data s).cnts = s.cnts := by
  (unfold State.hostData; simp only [State.hostWrite_keeps, ite_self, and_self, implies_true, Ran.st_done, Ran.st_wait, Ran.st_refuse, Ran.st_ite, snd_ite, ite_pending, ite_now, ite_serial, ite_pins, ite_md, ite_cmds, ite_flt, ite_clk, ite_ref, ite_kennel, ite_time, ite_buf, ite_port, ite_slices, ite_tab, ite_gen, ite_core, ite_sch, ite_tel, ite_pwr, ite_regs, ite_cnts, foldl_pending, foldl_now, foldl_serial, foldl_pins, foldl_md, foldl_cmds, foldl_flt, foldl_clk, foldl_ref, foldl_kennel, foldl_time, foldl_buf, foldl_port, foldl_slices, foldl_tab, foldl_gen, foldl_core, foldl_sch, foldl_tel, foldl_pwr, foldl_regs, foldl_cnts, foldl_snd_pending, foldl_snd_now, foldl_snd_serial, foldl_snd_pins, foldl_snd_md, foldl_snd_cmds, foldl_snd_flt, foldl_snd_clk, foldl_snd_ref, foldl_snd_kennel, foldl_snd_time, foldl_snd_buf, foldl_snd_port, foldl_snd_slices, foldl_snd_tab, foldl_snd_gen, foldl_snd_core, foldl_snd_sch, foldl_snd_tel, foldl_snd_pwr, foldl_snd_regs, foldl_snd_cnts]; done)

@[simp] theorem State.setPt_keeps (p : Nat) (x : PortSt) (s : State) :
    (State.setPt p x s).pending = s.pending ∧ (State.setPt p x s).now = s.now ∧
    (State.setPt p x s).serial = s.serial ∧ (State.setPt p x s).out = s.out ∧ (State.setPt p x s).pins = s.pins ∧
    (State.setPt p x s).md = s.md ∧ (State.setPt p x s).host = s.host ∧ (State.setPt p x s).cmds = s.cmds ∧
    (State.setPt p x s).flt = s.flt ∧ (State.setPt p x s).clk = s.clk ∧ (State.setPt p x s).ref = s.ref ∧
    (State.setPt p x s).kennel = s.kennel ∧ (State.setPt p x s).time = s.time ∧ (State.setPt p x s).buf = s.buf ∧
    (State.setPt p x s).slices = s.slices ∧ (State.setPt p x s).tab = s.tab ∧ (State.setPt p x s).gen = s.gen ∧
    (State.setPt p x s).core = s.core ∧ (State.setPt p x s).sch = s.sch ∧ (State.setPt p x s).tel = s.tel ∧
    (State.setPt p x s).pwr = s.pwr ∧ (State.setPt p x s).regs = s.regs ∧ (State.setPt p x s).cnts = s.cnts := by
  (unfold State.setPt; simp only [ite_self, and_self, implies_true, Ran.st_done, Ran.st_wait, Ran.st_refuse, Ran.st_ite, snd_ite, foldl_pending, foldl_now, foldl_serial, foldl_out, foldl_pins, foldl_md, foldl_host, foldl_cmds, foldl_flt, foldl_clk, foldl_ref, foldl_kennel, foldl_time, foldl_buf, foldl_slices, foldl_tab, foldl_gen, foldl_core, foldl_sch, foldl_tel, foldl_pwr, foldl_regs, foldl_cnts, foldl_snd_pending, foldl_snd_now, foldl_snd_serial, foldl_snd_out, foldl_snd_pins, foldl_snd_md, foldl_snd_host, foldl_snd_cmds, foldl_snd_flt, foldl_snd_clk, foldl_snd_ref, foldl_snd_kennel, foldl_snd_time, foldl_snd_buf, foldl_snd_slices, foldl_snd_tab, foldl_snd_gen, foldl_snd_core, foldl_snd_sch, foldl_snd_tel, foldl_snd_pwr, foldl_snd_regs, foldl_snd_cnts]; done)

@[simp] theorem State.setLane_keeps (l : Nat) (x : LaneSt) (s : State) :
    (State.setLane l x s).pending = s.pending ∧ (State.setLane l x s).now = s.now ∧
    (State.setLane l x s).serial = s.serial ∧ (State.setLane l x s).out = s.out ∧
    (State.setLane l x s).pins = s.pins ∧ (State.setLane l x s).md = s.md ∧ (State.setLane l x s).host = s.host ∧
    (State.setLane l x s).cmds = s.cmds ∧ (State.setLane l x s).flt = s.flt ∧ (State.setLane l x s).clk = s.clk ∧
    (State.setLane l x s).ref = s.ref ∧ (State.setLane l x s).kennel = s.kennel ∧
    (State.setLane l x s).time = s.time ∧ (State.setLane l x s).buf = s.buf ∧
    (State.setLane l x s).slices = s.slices ∧ (State.setLane l x s).tab = s.tab ∧
    (State.setLane l x s).gen = s.gen ∧ (State.setLane l x s).core = s.core ∧ (State.setLane l x s).sch = s.sch ∧
    (State.setLane l x s).tel = s.tel ∧ (State.setLane l x s).pwr = s.pwr ∧ (State.setLane l x s).regs = s.regs ∧
    (State.setLane l x s).cnts = s.cnts := by
  (unfold State.setLane; simp only [ite_self, and_self, implies_true, Ran.st_done, Ran.st_wait, Ran.st_refuse, Ran.st_ite, snd_ite, foldl_pending, foldl_now, foldl_serial, foldl_out, foldl_pins, foldl_md, foldl_host, foldl_cmds, foldl_flt, foldl_clk, foldl_ref, foldl_kennel, foldl_time, foldl_buf, foldl_slices, foldl_tab, foldl_gen, foldl_core, foldl_sch, foldl_tel, foldl_pwr, foldl_regs, foldl_cnts, foldl_snd_pending, foldl_snd_now, foldl_snd_serial, foldl_snd_out, foldl_snd_pins, foldl_snd_md, foldl_snd_host, foldl_snd_cmds, foldl_snd_flt, foldl_snd_clk, foldl_snd_ref, foldl_snd_kennel, foldl_snd_time, foldl_snd_buf, foldl_snd_slices, foldl_snd_tab, foldl_snd_gen, foldl_snd_core, foldl_snd_sch, foldl_snd_tel, foldl_snd_pwr, foldl_snd_regs, foldl_snd_cnts]; done)

@[simp] theorem State.ptCount_keeps (p i n : Nat) (s : State) :
    (State.ptCount p i n s).pending = s.pending ∧ (State.ptCount p i n s).now = s.now ∧
    (State.ptCount p i n s).serial = s.serial ∧ (State.ptCount p i n s).out = s.out ∧
    (State.ptCount p i n s).pins = s.pins ∧ (State.ptCount p i n s).md = s.md ∧
    (State.ptCount p i n s).host = s.host ∧ (State.ptCount p i n s).cmds = s.cmds ∧
    (State.ptCount p i n s).flt = s.flt ∧ (State.ptCount p i n s).clk = s.clk ∧
    (State.ptCount p i n s).ref = s.ref ∧ (State.ptCount p i n s).kennel = s.kennel ∧
    (State.ptCount p i n s).time = s.time ∧ (State.ptCount p i n s).buf = s.buf ∧
    (State.ptCount p i n s).port = s.port ∧ (State.ptCount p i n s).slices = s.slices ∧
    (State.ptCount p i n s).tab = s.tab ∧ (State.ptCount p i n s).gen = s.gen ∧
    (State.ptCount p i n s).core = s.core ∧ (State.ptCount p i n s).sch = s.sch ∧
    (State.ptCount p i n s).tel = s.tel ∧ (State.ptCount p i n s).pwr = s.pwr ∧
    (State.ptCount p i n s).regs = s.regs := by
  (unfold State.ptCount; simp only [State.count_keeps, ite_self, and_self, implies_true, Ran.st_done, Ran.st_wait, Ran.st_refuse, Ran.st_ite, snd_ite, foldl_pending, foldl_now, foldl_serial, foldl_out, foldl_pins, foldl_md, foldl_host, foldl_cmds, foldl_flt, foldl_clk, foldl_ref, foldl_kennel, foldl_time, foldl_buf, foldl_port, foldl_slices, foldl_tab, foldl_gen, foldl_core, foldl_sch, foldl_tel, foldl_pwr, foldl_regs, foldl_snd_pending, foldl_snd_now, foldl_snd_serial, foldl_snd_out, foldl_snd_pins, foldl_snd_md, foldl_snd_host, foldl_snd_cmds, foldl_snd_flt, foldl_snd_clk, foldl_snd_ref, foldl_snd_kennel, foldl_snd_time, foldl_snd_buf, foldl_snd_port, foldl_snd_slices, foldl_snd_tab, foldl_snd_gen, foldl_snd_core, foldl_snd_sch, foldl_snd_tel, foldl_snd_pwr, foldl_snd_regs]; done)
end Sys2Proof.Machine
end

