-- ==== Sys2Proof/Laws/KeepsBuffer.lean ====
section
/-! SUPPORT. What each operation of Machine/Buffer.lean keeps: the parts of the state that it leaves as they are. -/
set_option linter.unusedSimpArgs false
set_option linter.unusedVariables false
namespace Sys2Proof.Machine
open Host (Outcome)

@[simp] theorem State.bpmCount_keeps (i n : Nat) (s : State) :
    (State.bpmCount i n s).pending = s.pending ∧ (State.bpmCount i n s).now = s.now ∧
    (State.bpmCount i n s).serial = s.serial ∧ (State.bpmCount i n s).out = s.out ∧
    (State.bpmCount i n s).pins = s.pins ∧ (State.bpmCount i n s).md = s.md ∧
    (State.bpmCount i n s).host = s.host ∧ (State.bpmCount i n s).cmds = s.cmds ∧
    (State.bpmCount i n s).flt = s.flt ∧ (State.bpmCount i n s).clk = s.clk ∧ (State.bpmCount i n s).ref = s.ref ∧
    (State.bpmCount i n s).kennel = s.kennel ∧ (State.bpmCount i n s).time = s.time ∧
    (State.bpmCount i n s).buf = s.buf ∧ (State.bpmCount i n s).port = s.port ∧
    (State.bpmCount i n s).slices = s.slices ∧ (State.bpmCount i n s).tab = s.tab ∧
    (State.bpmCount i n s).gen = s.gen ∧ (State.bpmCount i n s).core = s.core ∧
    (State.bpmCount i n s).sch = s.sch ∧ (State.bpmCount i n s).tel = s.tel ∧ (State.bpmCount i n s).pwr = s.pwr ∧
    (State.bpmCount i n s).regs = s.regs := by
  (unfold State.bpmCount; simp only [State.count_keeps, ite_self, and_self, implies_true, Ran.st_done, Ran.st_wait, Ran.st_refuse, Ran.st_ite, snd_ite, foldl_pending, foldl_now, foldl_serial, foldl_out, foldl_pins, foldl_md, foldl_host, foldl_cmds, foldl_flt, foldl_clk, foldl_ref, foldl_kennel, foldl_time, foldl_buf, foldl_port, foldl_slices, foldl_tab, foldl_gen, foldl_core, foldl_sch, foldl_tel, foldl_pwr, foldl_regs, foldl_snd_pending, foldl_snd_now, foldl_snd_serial, foldl_snd_out, foldl_snd_pins, foldl_snd_md, foldl_snd_host, foldl_snd_cmds, foldl_snd_flt, foldl_snd_clk, foldl_snd_ref, foldl_snd_kennel, foldl_snd_time, foldl_snd_buf, foldl_snd_port, foldl_snd_slices, foldl_snd_tab, foldl_snd_gen, foldl_snd_core, foldl_snd_sch, foldl_snd_tel, foldl_snd_pwr, foldl_snd_regs]; done)

@[simp] theorem State.enterExt_keeps (h owner : Nat) (c : Charge) (data : List Byte) (s : State) :
    (State.enterExt h owner c data s).pending = s.pending ∧ (State.enterExt h owner c data s).now = s.now ∧
    (State.enterExt h owner c data s).serial = s.serial ∧ (State.enterExt h owner c data s).out = s.out ∧
    (State.enterExt h owner c data s).pins = s.pins ∧ (State.enterExt h owner c data s).md = s.md ∧
    (State.enterExt h owner c data s).host = s.host ∧ (State.enterExt h owner c data s).cmds = s.cmds ∧
    (State.enterExt h owner c data s).flt = s.flt ∧ (State.enterExt h owner c data s).clk = s.clk ∧
    (State.enterExt h owner c data s).ref = s.ref ∧ (State.enterExt h owner c data s).kennel = s.kennel ∧
    (State.enterExt h owner c data s).time = s.time ∧ (State.enterExt h owner c data s).port = s.port ∧
    (State.enterExt h owner c data s).slices = s.slices ∧ (State.enterExt h owner c data s).tab = s.tab ∧
    (State.enterExt h owner c data s).gen = s.gen ∧ (State.enterExt h owner c data s).core = s.core ∧
    (State.enterExt h owner c data s).sch = s.sch ∧ (State.enterExt h owner c data s).tel = s.tel ∧
    (State.enterExt h owner c data s).pwr = s.pwr ∧ (State.enterExt h owner c data s).regs = s.regs := by
  (unfold State.enterExt; simp only [State.bpmCount_keeps, ite_self, and_self, implies_true, Ran.st_done, Ran.st_wait, Ran.st_refuse, Ran.st_ite, snd_ite, foldl_pending, foldl_now, foldl_serial, foldl_out, foldl_pins, foldl_md, foldl_host, foldl_cmds, foldl_flt, foldl_clk, foldl_ref, foldl_kennel, foldl_time, foldl_port, foldl_slices, foldl_tab, foldl_gen, foldl_core, foldl_sch, foldl_tel, foldl_pwr, foldl_regs, foldl_snd_pending, foldl_snd_now, foldl_snd_serial, foldl_snd_out, foldl_snd_pins, foldl_snd_md, foldl_snd_host, foldl_snd_cmds, foldl_snd_flt, foldl_snd_clk, foldl_snd_ref, foldl_snd_kennel, foldl_snd_time, foldl_snd_port, foldl_snd_slices, foldl_snd_tab, foldl_snd_gen, foldl_snd_core, foldl_snd_sch, foldl_snd_tel, foldl_snd_pwr, foldl_snd_regs]; done)

@[simp] theorem State.takeFrom_keeps (tc7 : Bool) (i : Option Nat) (q owner : Nat) (pick : Draw) (data : List Byte) (a6 a7 : Nat) (a8 : State) :
    (State.takeFrom tc7 i q owner pick data a6 a7 a8).2.pending = a8.pending ∧
    (State.takeFrom tc7 i q owner pick data a6 a7 a8).2.now = a8.now ∧
    (State.takeFrom tc7 i q owner pick data a6 a7 a8).2.serial = a8.serial ∧
    (State.takeFrom tc7 i q owner pick data a6 a7 a8).2.out = a8.out ∧
    (State.takeFrom tc7 i q owner pick data a6 a7 a8).2.pins = a8.pins ∧
    (State.takeFrom tc7 i q owner pick data a6 a7 a8).2.md = a8.md ∧
    (State.takeFrom tc7 i q owner pick data a6 a7 a8).2.host = a8.host ∧
    (State.takeFrom tc7 i q owner pick data a6 a7 a8).2.cmds = a8.cmds ∧
    (State.takeFrom tc7 i q owner pick data a6 a7 a8).2.flt = a8.flt ∧
    (State.takeFrom tc7 i q owner pick data a6 a7 a8).2.clk = a8.clk ∧
    (State.takeFrom tc7 i q owner pick data a6 a7 a8).2.ref = a8.ref ∧
    (State.takeFrom tc7 i q owner pick data a6 a7 a8).2.kennel = a8.kennel ∧
    (State.takeFrom tc7 i q owner pick data a6 a7 a8).2.time = a8.time ∧
    (State.takeFrom tc7 i q owner pick data a6 a7 a8).2.port = a8.port ∧
    (State.takeFrom tc7 i q owner pick data a6 a7 a8).2.slices = a8.slices ∧
    (State.takeFrom tc7 i q owner pick data a6 a7 a8).2.tab = a8.tab ∧
    (State.takeFrom tc7 i q owner pick data a6 a7 a8).2.gen = a8.gen ∧
    (State.takeFrom tc7 i q owner pick data a6 a7 a8).2.core = a8.core ∧
    (State.takeFrom tc7 i q owner pick data a6 a7 a8).2.sch = a8.sch ∧
    (State.takeFrom tc7 i q owner pick data a6 a7 a8).2.tel = a8.tel ∧
    (State.takeFrom tc7 i q owner pick data a6 a7 a8).2.pwr = a8.pwr ∧
    (State.takeFrom tc7 i q owner pick data a6 a7 a8).2.regs = a8.regs := by
  induction a6 generalizing a7 a8 with
  | zero => simp [State.takeFrom]
  | succ n ih =>
    unfold State.takeFrom
    dsimp only
    (repeat' split) <;> first | (simp; done) | (simp [ih]; done)

@[simp] theorem State.take_keeps (len : Option Nat) (tc7 : Bool) (i : Option Nat) (q owner : Nat) (pick : Draw) (data : List Byte) (s : State) :
    (State.take len tc7 i q owner pick data s).2.pending = s.pending ∧
    (State.take len tc7 i q owner pick data s).2.now = s.now ∧
    (State.take len tc7 i q owner pick data s).2.serial = s.serial ∧
    (State.take len tc7 i q owner pick data s).2.out = s.out ∧
    (State.take len tc7 i q owner pick data s).2.pins = s.pins ∧
    (State.take len tc7 i q owner pick data s).2.md = s.md ∧
    (State.take len tc7 i q owner pick data s).2.host = s.host ∧
    (State.take len tc7 i q owner pick data s).2.cmds = s.cmds ∧
    (State.take len tc7 i q owner pick data s).2.flt = s.flt ∧
    (State.take len tc7 i q owner pick data s).2.clk = s.clk ∧
    (State.take len tc7 i q owner pick data s).2.ref = s.ref ∧
    (State.take len tc7 i q owner pick data s).2.kennel = s.kennel ∧
    (State.take len tc7 i q owner pick data s).2.time = s.time ∧
    (State.take len tc7 i q owner pick data s).2.port = s.port ∧
    (State.take len tc7 i q owner pick data s).2.slices = s.slices ∧
    (State.take len tc7 i q owner pick data s).2.tab = s.tab ∧
    (State.take len tc7 i q owner pick data s).2.gen = s.gen ∧
    (State.take len tc7 i q owner pick data s).2.core = s.core ∧
    (State.take len tc7 i q owner pick data s).2.sch = s.sch ∧
    (State.take len tc7 i q owner pick data s).2.tel = s.tel ∧
    (State.take len tc7 i q owner pick data s).2.pwr = s.pwr ∧
    (State.take len tc7 i q owner pick data s).2.regs = s.regs := by
  unfold State.take
  split
  · rename_i q1
    dsimp only
    split <;> simp [snd_of q1]
  · simp

@[simp] theorem State.wearUse_keeps (inj : Bool) (f : Wear → Wear) (s : State) :
    (State.wearUse inj f s).pending = s.pending ∧ (State.wearUse inj f s).now = s.now ∧
    (State.wearUse inj f s).serial = s.serial ∧ (State.wearUse inj f s).out = s.out ∧
    (State.wearUse inj f s).pins = s.pins ∧ (State.wearUse inj f s).md = s.md ∧
    (State.wearUse inj f s).host = s.host ∧ (State.wearUse inj f s).cmds = s.cmds ∧
    (State.wearUse inj f s).flt = s.flt ∧ (State.wearUse inj f s).clk = s.clk ∧
    (State.wearUse inj f s).kennel = s.kennel ∧ (State.wearUse inj f s).time = s.time ∧
    (State.wearUse inj f s).buf = s.buf ∧ (State.wearUse inj f s).port = s.port ∧
    (State.wearUse inj f s).slices = s.slices ∧ (State.wearUse inj f s).tab = s.tab ∧
    (State.wearUse inj f s).gen = s.gen ∧ (State.wearUse inj f s).core = s.core ∧
    (State.wearUse inj f s).sch = s.sch ∧ (State.wearUse inj f s).tel = s.tel ∧
    (State.wearUse inj f s).pwr = s.pwr ∧ (State.wearUse inj f s).regs = s.regs ∧
    (State.wearUse inj f s).cnts = s.cnts := by
  (unfold State.wearUse; simp only [ite_self, and_self, implies_true, Ran.st_done, Ran.st_wait, Ran.st_refuse, Ran.st_ite, snd_ite, ite_pending, ite_now, ite_serial, ite_out, ite_pins, ite_md, ite_host, ite_cmds, ite_flt, ite_clk, ite_kennel, ite_time, ite_buf, ite_port, ite_slices, ite_tab, ite_gen, ite_core, ite_sch, ite_tel, ite_pwr, ite_regs, ite_cnts, foldl_pending, foldl_now, foldl_serial, foldl_out, foldl_pins, foldl_md, foldl_host, foldl_cmds, foldl_flt, foldl_clk, foldl_kennel, foldl_time, foldl_buf, foldl_port, foldl_slices, foldl_tab, foldl_gen, foldl_core, foldl_sch, foldl_tel, foldl_pwr, foldl_regs, foldl_cnts, foldl_snd_pending, foldl_snd_now, foldl_snd_serial, foldl_snd_out, foldl_snd_pins, foldl_snd_md, foldl_snd_host, foldl_snd_cmds, foldl_snd_flt, foldl_snd_clk, foldl_snd_kennel, foldl_snd_time, foldl_snd_buf, foldl_snd_port, foldl_snd_slices, foldl_snd_tab, foldl_snd_gen, foldl_snd_core, foldl_snd_sch, foldl_snd_tel, foldl_snd_pwr, foldl_snd_regs, foldl_snd_cnts]; done)

@[simp] theorem State.withdraw_keeps (h : Nat) (inj : Bool) (s : State) :
    (State.withdraw h inj s).pending = s.pending ∧ (State.withdraw h inj s).now = s.now ∧
    (State.withdraw h inj s).serial = s.serial ∧ (State.withdraw h inj s).out = s.out ∧
    (State.withdraw h inj s).pins = s.pins ∧ (State.withdraw h inj s).md = s.md ∧
    (State.withdraw h inj s).host = s.host ∧ (State.withdraw h inj s).cmds = s.cmds ∧
    (State.withdraw h inj s).clk = s.clk ∧ (State.withdraw h inj s).kennel = s.kennel ∧
    (State.withdraw h inj s).time = s.time ∧ (State.withdraw h inj s).port = s.port ∧
    (State.withdraw h inj s).slices = s.slices ∧ (State.withdraw h inj s).tab = s.tab ∧
    (State.withdraw h inj s).gen = s.gen ∧ (State.withdraw h inj s).core = s.core ∧
    (State.withdraw h inj s).sch = s.sch ∧ (State.withdraw h inj s).tel = s.tel ∧
    (State.withdraw h inj s).pwr = s.pwr ∧ (State.withdraw h inj s).regs = s.regs ∧
    (State.withdraw h inj s).cnts = s.cnts ∧ (State.withdraw h inj s).flt.keel0 = s.flt.keel0 ∧
    (State.withdraw h inj s).flt.keel1 = s.flt.keel1 := by
  (unfold State.withdraw; simp only [State.follow_keeps, State.raise_keeps, State.wearUse_keeps, ite_self, and_self, implies_true, Ran.st_done, Ran.st_wait, Ran.st_refuse, Ran.st_ite, snd_ite, ite_pending, ite_now, ite_serial, ite_out, ite_pins, ite_md, ite_host, ite_cmds, ite_clk, ite_kennel, ite_time, ite_port, ite_slices, ite_tab, ite_gen, ite_core, ite_sch, ite_tel, ite_pwr, ite_regs, ite_cnts, ite_flt_keel0, ite_flt_keel1, foldl_pending, foldl_now, foldl_serial, foldl_out, foldl_pins, foldl_md, foldl_host, foldl_cmds, foldl_clk, foldl_kennel, foldl_time, foldl_port, foldl_slices, foldl_tab, foldl_gen, foldl_core, foldl_sch, foldl_tel, foldl_pwr, foldl_regs, foldl_cnts, foldl_flt_keel0, foldl_flt_keel1, foldl_snd_pending, foldl_snd_now, foldl_snd_serial, foldl_snd_out, foldl_snd_pins, foldl_snd_md, foldl_snd_host, foldl_snd_cmds, foldl_snd_clk, foldl_snd_kennel, foldl_snd_time, foldl_snd_port, foldl_snd_slices, foldl_snd_tab, foldl_snd_gen, foldl_snd_core, foldl_snd_sch, foldl_snd_tel, foldl_snd_pwr, foldl_snd_regs, foldl_snd_cnts, foldl_snd_flt_keel0, foldl_snd_flt_keel1]; done)

@[simp] theorem State.spareLow_keeps (inj : Bool) (s : State) :
    (State.spareLow inj s).pending = s.pending ∧ (State.spareLow inj s).now = s.now ∧
    (State.spareLow inj s).serial = s.serial ∧ (State.spareLow inj s).out = s.out ∧
    (State.spareLow inj s).pins = s.pins ∧ (State.spareLow inj s).md = s.md ∧
    (State.spareLow inj s).host = s.host ∧ (State.spareLow inj s).cmds = s.cmds ∧
    (State.spareLow inj s).clk = s.clk ∧ (State.spareLow inj s).ref = s.ref ∧
    (State.spareLow inj s).kennel = s.kennel ∧ (State.spareLow inj s).time = s.time ∧
    (State.spareLow inj s).buf = s.buf ∧ (State.spareLow inj s).port = s.port ∧
    (State.spareLow inj s).slices = s.slices ∧ (State.spareLow inj s).tab = s.tab ∧
    (State.spareLow inj s).gen = s.gen ∧ (State.spareLow inj s).core = s.core ∧
    (State.spareLow inj s).sch = s.sch ∧ (State.spareLow inj s).tel = s.tel ∧ (State.spareLow inj s).pwr = s.pwr ∧
    (State.spareLow inj s).regs = s.regs ∧ (State.spareLow inj s).cnts = s.cnts ∧
    (State.spareLow inj s).flt.keel0 = s.flt.keel0 ∧ (State.spareLow inj s).flt.keel1 = s.flt.keel1 := by
  (unfold State.spareLow; simp only [State.follow_keeps, ite_self, and_self, implies_true, Ran.st_done, Ran.st_wait, Ran.st_refuse, Ran.st_ite, snd_ite, ite_pending, ite_now, ite_serial, ite_out, ite_pins, ite_md, ite_host, ite_cmds, ite_clk, ite_ref, ite_kennel, ite_time, ite_buf, ite_port, ite_slices, ite_tab, ite_gen, ite_core, ite_sch, ite_tel, ite_pwr, ite_regs, ite_cnts, ite_flt_keel0, ite_flt_keel1, foldl_pending, foldl_now, foldl_serial, foldl_out, foldl_pins, foldl_md, foldl_host, foldl_cmds, foldl_clk, foldl_ref, foldl_kennel, foldl_time, foldl_buf, foldl_port, foldl_slices, foldl_tab, foldl_gen, foldl_core, foldl_sch, foldl_tel, foldl_pwr, foldl_regs, foldl_cnts, foldl_flt_keel0, foldl_flt_keel1, foldl_snd_pending, foldl_snd_now, foldl_snd_serial, foldl_snd_out, foldl_snd_pins, foldl_snd_md, foldl_snd_host, foldl_snd_cmds, foldl_snd_clk, foldl_snd_ref, foldl_snd_kennel, foldl_snd_time, foldl_snd_buf, foldl_snd_port, foldl_snd_slices, foldl_snd_tab, foldl_snd_gen, foldl_snd_core, foldl_snd_sch, foldl_snd_tel, foldl_snd_pwr, foldl_snd_regs, foldl_snd_cnts, foldl_snd_flt_keel0, foldl_snd_flt_keel1]; done)

@[simp] theorem State.bringSpare_keeps (t h old : Nat) (inj : Bool) (a4 a5 : Nat) (a6 : State) :
    (State.bringSpare t h old inj a4 a5 a6).pending = a6.pending ∧
    (State.bringSpare t h old inj a4 a5 a6).now = a6.now ∧
    (State.bringSpare t h old inj a4 a5 a6).serial = a6.serial ∧
    (State.bringSpare t h old inj a4 a5 a6).out = a6.out ∧ (State.bringSpare t h old inj a4 a5 a6).pins = a6.pins ∧
    (State.bringSpare t h old inj a4 a5 a6).md = a6.md ∧ (State.bringSpare t h old inj a4 a5 a6).host = a6.host ∧
    (State.bringSpare t h old inj a4 a5 a6).cmds = a6.cmds ∧ (State.bringSpare t h old inj a4 a5 a6).clk = a6.clk ∧
    (State.bringSpare t h old inj a4 a5 a6).kennel = a6.kennel ∧
    (State.bringSpare t h old inj a4 a5 a6).time = a6.time ∧
    (State.bringSpare t h old inj a4 a5 a6).port = a6.port ∧
    (State.bringSpare t h old inj a4 a5 a6).slices = a6.slices ∧
    (State.bringSpare t h old inj a4 a5 a6).tab = a6.tab ∧ (State.bringSpare t h old inj a4 a5 a6).gen = a6.gen ∧
    (State.bringSpare t h old inj a4 a5 a6).core = a6.core ∧ (State.bringSpare t h old inj a4 a5 a6).sch = a6.sch ∧
    (State.bringSpare t h old inj a4 a5 a6).tel = a6.tel ∧ (State.bringSpare t h old inj a4 a5 a6).pwr = a6.pwr ∧
    (State.bringSpare t h old inj a4 a5 a6).regs = a6.regs ∧
    (State.bringSpare t h old inj a4 a5 a6).flt.keel0 = a6.flt.keel0 ∧
    (State.bringSpare t h old inj a4 a5 a6).flt.keel1 = a6.flt.keel1 := by
  induction a4 generalizing a5 a6 with
  | zero => simp only [State.bringSpare]; simp
  | succ n ih =>
    unfold State.bringSpare
    dsimp only
    (repeat' split) <;> first | (simp only [ih]; done) | (simp [ih, -List.reduceReplicate]; done) | (simp [-List.reduceReplicate]; done)

@[simp] theorem State.retireTile_keeps (h t : Nat) (inj : Bool) (s : State) :
    (State.retireTile h t inj s).pending = s.pending ∧ (State.retireTile h t inj s).now = s.now ∧
    (State.retireTile h t inj s).serial = s.serial ∧ (State.retireTile h t inj s).out = s.out ∧
    (State.retireTile h t inj s).pins = s.pins ∧ (State.retireTile h t inj s).md = s.md ∧
    (State.retireTile h t inj s).host = s.host ∧ (State.retireTile h t inj s).cmds = s.cmds ∧
    (State.retireTile h t inj s).clk = s.clk ∧ (State.retireTile h t inj s).kennel = s.kennel ∧
    (State.retireTile h t inj s).time = s.time ∧ (State.retireTile h t inj s).port = s.port ∧
    (State.retireTile h t inj s).slices = s.slices ∧ (State.retireTile h t inj s).tab = s.tab ∧
    (State.retireTile h t inj s).gen = s.gen ∧ (State.retireTile h t inj s).core = s.core ∧
    (State.retireTile h t inj s).sch = s.sch ∧ (State.retireTile h t inj s).tel = s.tel ∧
    (State.retireTile h t inj s).pwr = s.pwr ∧ (State.retireTile h t inj s).regs = s.regs ∧
    (State.retireTile h t inj s).flt.keel0 = s.flt.keel0 ∧ (State.retireTile h t inj s).flt.keel1 = s.flt.keel1 := by
  (unfold State.retireTile; simp only [State.bringSpare_keeps, State.wearUse_keeps, ite_self, and_self, implies_true, Ran.st_done, Ran.st_wait, Ran.st_refuse, Ran.st_ite, snd_ite, ite_pending, ite_now, ite_serial, ite_out, ite_pins, ite_md, ite_host, ite_cmds, ite_clk, ite_kennel, ite_time, ite_port, ite_slices, ite_tab, ite_gen, ite_core, ite_sch, ite_tel, ite_pwr, ite_regs, ite_flt_keel0, ite_flt_keel1, foldl_pending, foldl_now, foldl_serial, foldl_out, foldl_pins, foldl_md, foldl_host, foldl_cmds, foldl_clk, foldl_kennel, foldl_time, foldl_port, foldl_slices, foldl_tab, foldl_gen, foldl_core, foldl_sch, foldl_tel, foldl_pwr, foldl_regs, foldl_flt_keel0, foldl_flt_keel1, foldl_snd_pending, foldl_snd_now, foldl_snd_serial, foldl_snd_out, foldl_snd_pins, foldl_snd_md, foldl_snd_host, foldl_snd_cmds, foldl_snd_clk, foldl_snd_kennel, foldl_snd_time, foldl_snd_port, foldl_snd_slices, foldl_snd_tab, foldl_snd_gen, foldl_snd_core, foldl_snd_sch, foldl_snd_tel, foldl_snd_pwr, foldl_snd_regs, foldl_snd_flt_keel0, foldl_snd_flt_keel1]; done)

@[simp] theorem State.applyRetire_keeps (h : Nat) (s : State) :
    (State.applyRetire h s).pending = s.pending ∧ (State.applyRetire h s).now = s.now ∧
    (State.applyRetire h s).serial = s.serial ∧ (State.applyRetire h s).out = s.out ∧
    (State.applyRetire h s).pins = s.pins ∧ (State.applyRetire h s).md = s.md ∧
    (State.applyRetire h s).host = s.host ∧ (State.applyRetire h s).cmds = s.cmds ∧
    (State.applyRetire h s).clk = s.clk ∧ (State.applyRetire h s).kennel = s.kennel ∧
    (State.applyRetire h s).time = s.time ∧ (State.applyRetire h s).port = s.port ∧
    (State.applyRetire h s).slices = s.slices ∧ (State.applyRetire h s).tab = s.tab ∧
    (State.applyRetire h s).gen = s.gen ∧ (State.applyRetire h s).core = s.core ∧
    (State.applyRetire h s).sch = s.sch ∧ (State.applyRetire h s).tel = s.tel ∧
    (State.applyRetire h s).pwr = s.pwr ∧ (State.applyRetire h s).regs = s.regs ∧
    (State.applyRetire h s).flt.keel0 = s.flt.keel0 ∧ (State.applyRetire h s).flt.keel1 = s.flt.keel1 := by
  (unfold State.applyRetire; simp only [State.retireTile_keeps, ite_self, and_self, implies_true, Ran.st_done, Ran.st_wait, Ran.st_refuse, Ran.st_ite, snd_ite, ite_pending, ite_now, ite_serial, ite_out, ite_pins, ite_md, ite_host, ite_cmds, ite_clk, ite_kennel, ite_time, ite_port, ite_slices, ite_tab, ite_gen, ite_core, ite_sch, ite_tel, ite_pwr, ite_regs, ite_flt_keel0, ite_flt_keel1, foldl_pending, foldl_now, foldl_serial, foldl_out, foldl_pins, foldl_md, foldl_host, foldl_cmds, foldl_clk, foldl_kennel, foldl_time, foldl_port, foldl_slices, foldl_tab, foldl_gen, foldl_core, foldl_sch, foldl_tel, foldl_pwr, foldl_regs, foldl_flt_keel0, foldl_flt_keel1, foldl_snd_pending, foldl_snd_now, foldl_snd_serial, foldl_snd_out, foldl_snd_pins, foldl_snd_md, foldl_snd_host, foldl_snd_cmds, foldl_snd_clk, foldl_snd_kennel, foldl_snd_time, foldl_snd_port, foldl_snd_slices, foldl_snd_tab, foldl_snd_gen, foldl_snd_core, foldl_snd_sch, foldl_snd_tel, foldl_snd_pwr, foldl_snd_regs, foldl_snd_flt_keel0, foldl_snd_flt_keel1]; done)

@[simp] theorem State.freeExt_keeps (h : Nat) (s : State) :
    (State.freeExt h s).pending = s.pending ∧ (State.freeExt h s).now = s.now ∧
    (State.freeExt h s).serial = s.serial ∧ (State.freeExt h s).out = s.out ∧ (State.freeExt h s).pins = s.pins ∧
    (State.freeExt h s).md = s.md ∧ (State.freeExt h s).host = s.host ∧ (State.freeExt h s).cmds = s.cmds ∧
    (State.freeExt h s).clk = s.clk ∧ (State.freeExt h s).kennel = s.kennel ∧ (State.freeExt h s).time = s.time ∧
    (State.freeExt h s).port = s.port ∧ (State.freeExt h s).slices = s.slices ∧ (State.freeExt h s).tab = s.tab ∧
    (State.freeExt h s).gen = s.gen ∧ (State.freeExt h s).core = s.core ∧ (State.freeExt h s).sch = s.sch ∧
    (State.freeExt h s).tel = s.tel ∧ (State.freeExt h s).pwr = s.pwr ∧ (State.freeExt h s).regs = s.regs ∧
    (State.freeExt h s).flt.keel0 = s.flt.keel0 ∧ (State.freeExt h s).flt.keel1 = s.flt.keel1 := by
  (unfold State.freeExt; simp only [State.applyRetire_keeps, ite_self, and_self, implies_true, Ran.st_done, Ran.st_wait, Ran.st_refuse, Ran.st_ite, snd_ite, ite_pending, ite_now, ite_serial, ite_out, ite_pins, ite_md, ite_host, ite_cmds, ite_clk, ite_kennel, ite_time, ite_port, ite_slices, ite_tab, ite_gen, ite_core, ite_sch, ite_tel, ite_pwr, ite_regs, ite_flt_keel0, ite_flt_keel1, foldl_pending, foldl_now, foldl_serial, foldl_out, foldl_pins, foldl_md, foldl_host, foldl_cmds, foldl_clk, foldl_kennel, foldl_time, foldl_port, foldl_slices, foldl_tab, foldl_gen, foldl_core, foldl_sch, foldl_tel, foldl_pwr, foldl_regs, foldl_flt_keel0, foldl_flt_keel1, foldl_snd_pending, foldl_snd_now, foldl_snd_serial, foldl_snd_out, foldl_snd_pins, foldl_snd_md, foldl_snd_host, foldl_snd_cmds, foldl_snd_clk, foldl_snd_kennel, foldl_snd_time, foldl_snd_port, foldl_snd_slices, foldl_snd_tab, foldl_snd_gen, foldl_snd_core, foldl_snd_sch, foldl_snd_tel, foldl_snd_pwr, foldl_snd_regs, foldl_snd_flt_keel0, foldl_snd_flt_keel1]; done)

@[simp] theorem State.logRefused_keeps (h tag : Nat) (r : Refused) (s : State) :
    (State.logRefused h tag r s).pending = s.pending ∧ (State.logRefused h tag r s).now = s.now ∧
    (State.logRefused h tag r s).serial = s.serial ∧ (State.logRefused h tag r s).out = s.out ∧
    (State.logRefused h tag r s).pins = s.pins ∧ (State.logRefused h tag r s).md = s.md ∧
    (State.logRefused h tag r s).host = s.host ∧ (State.logRefused h tag r s).cmds = s.cmds ∧
    (State.logRefused h tag r s).clk = s.clk ∧ (State.logRefused h tag r s).ref = s.ref ∧
    (State.logRefused h tag r s).kennel = s.kennel ∧ (State.logRefused h tag r s).time = s.time ∧
    (State.logRefused h tag r s).buf = s.buf ∧ (State.logRefused h tag r s).port = s.port ∧
    (State.logRefused h tag r s).slices = s.slices ∧ (State.logRefused h tag r s).tab = s.tab ∧
    (State.logRefused h tag r s).gen = s.gen ∧ (State.logRefused h tag r s).core = s.core ∧
    (State.logRefused h tag r s).sch = s.sch ∧ (State.logRefused h tag r s).tel = s.tel ∧
    (State.logRefused h tag r s).pwr = s.pwr ∧ (State.logRefused h tag r s).regs = s.regs ∧
    (State.logRefused h tag r s).cnts = s.cnts ∧ (State.logRefused h tag r s).flt.keel0 = s.flt.keel0 ∧
    (State.logRefused h tag r s).flt.keel1 = s.flt.keel1 := by
  (unfold State.logRefused; split <;> simp only [State.raise_keeps, ite_self, and_self, implies_true, Ran.st_done, Ran.st_wait, Ran.st_refuse, Ran.st_ite, snd_ite, ite_pending, ite_now, ite_serial, ite_out, ite_pins, ite_md, ite_host, ite_cmds, ite_clk, ite_ref, ite_kennel, ite_time, ite_buf, ite_port, ite_slices, ite_tab, ite_gen, ite_core, ite_sch, ite_tel, ite_pwr, ite_regs, ite_cnts, ite_flt_keel0, ite_flt_keel1, foldl_pending, foldl_now, foldl_serial, foldl_out, foldl_pins, foldl_md, foldl_host, foldl_cmds, foldl_clk, foldl_ref, foldl_kennel, foldl_time, foldl_buf, foldl_port, foldl_slices, foldl_tab, foldl_gen, foldl_core, foldl_sch, foldl_tel, foldl_pwr, foldl_regs, foldl_cnts, foldl_flt_keel0, foldl_flt_keel1, foldl_snd_pending, foldl_snd_now, foldl_snd_serial, foldl_snd_out, foldl_snd_pins, foldl_snd_md, foldl_snd_host, foldl_snd_cmds, foldl_snd_clk, foldl_snd_ref, foldl_snd_kennel, foldl_snd_time, foldl_snd_buf, foldl_snd_port, foldl_snd_slices, foldl_snd_tab, foldl_snd_gen, foldl_snd_core, foldl_snd_sch, foldl_snd_tel, foldl_snd_pwr, foldl_snd_regs, foldl_snd_cnts, foldl_snd_flt_keel0, foldl_snd_flt_keel1])

@[simp] theorem State.readRecord_keeps (h : Nat) (s : State) :
    (State.readRecord h s).pending = s.pending ∧ (State.readRecord h s).now = s.now ∧
    (State.readRecord h s).serial = s.serial ∧ (State.readRecord h s).out = s.out ∧
    (State.readRecord h s).pins = s.pins ∧ (State.readRecord h s).md = s.md ∧
    (State.readRecord h s).host = s.host ∧ (State.readRecord h s).cmds = s.cmds ∧
    (State.readRecord h s).clk = s.clk ∧ (State.readRecord h s).ref = s.ref ∧
    (State.readRecord h s).kennel = s.kennel ∧ (State.readRecord h s).time = s.time ∧
    (State.readRecord h s).port = s.port ∧ (State.readRecord h s).slices = s.slices ∧
    (State.readRecord h s).tab = s.tab ∧ (State.readRecord h s).gen = s.gen ∧
    (State.readRecord h s).core = s.core ∧ (State.readRecord h s).sch = s.sch ∧
    (State.readRecord h s).tel = s.tel ∧ (State.readRecord h s).pwr = s.pwr ∧
    (State.readRecord h s).regs = s.regs ∧ (State.readRecord h s).cnts = s.cnts ∧
    (State.readRecord h s).flt.keel0 = s.flt.keel0 ∧ (State.readRecord h s).flt.keel1 = s.flt.keel1 := by
  (unfold State.readRecord; simp only [State.injected_keeps, State.raiseX_keeps, State.raise_keeps, ite_self, and_self, implies_true, Ran.st_done, Ran.st_wait, Ran.st_refuse, Ran.st_ite, snd_ite, ite_pending, ite_now, ite_serial, ite_out, ite_pins, ite_md, ite_host, ite_cmds, ite_clk, ite_ref, ite_kennel, ite_time, ite_port, ite_slices, ite_tab, ite_gen, ite_core, ite_sch, ite_tel, ite_pwr, ite_regs, ite_cnts, ite_flt_keel0, ite_flt_keel1, foldl_pending, foldl_now, foldl_serial, foldl_out, foldl_pins, foldl_md, foldl_host, foldl_cmds, foldl_clk, foldl_ref, foldl_kennel, foldl_time, foldl_port, foldl_slices, foldl_tab, foldl_gen, foldl_core, foldl_sch, foldl_tel, foldl_pwr, foldl_regs, foldl_cnts, foldl_flt_keel0, foldl_flt_keel1, foldl_snd_pending, foldl_snd_now, foldl_snd_serial, foldl_snd_out, foldl_snd_pins, foldl_snd_md, foldl_snd_host, foldl_snd_cmds, foldl_snd_clk, foldl_snd_ref, foldl_snd_kennel, foldl_snd_time, foldl_snd_port, foldl_snd_slices, foldl_snd_tab, foldl_snd_gen, foldl_snd_core, foldl_snd_sch, foldl_snd_tel, foldl_snd_pwr, foldl_snd_regs, foldl_snd_cnts, foldl_snd_flt_keel0, foldl_snd_flt_keel1]; done)

@[simp] theorem State.release_keeps (h tag : Nat) (s : State) :
    (State.release h tag s).2.pending = s.pending ∧ (State.release h tag s).2.now = s.now ∧
    (State.release h tag s).2.serial = s.serial ∧ (State.release h tag s).2.out = s.out ∧
    (State.release h tag s).2.pins = s.pins ∧ (State.release h tag s).2.md = s.md ∧
    (State.release h tag s).2.host = s.host ∧ (State.release h tag s).2.cmds = s.cmds ∧
    (State.release h tag s).2.clk = s.clk ∧ (State.release h tag s).2.kennel = s.kennel ∧
    (State.release h tag s).2.time = s.time ∧ (State.release h tag s).2.port = s.port ∧
    (State.release h tag s).2.slices = s.slices ∧ (State.release h tag s).2.tab = s.tab ∧
    (State.release h tag s).2.gen = s.gen ∧ (State.release h tag s).2.core = s.core ∧
    (State.release h tag s).2.sch = s.sch ∧ (State.release h tag s).2.tel = s.tel ∧
    (State.release h tag s).2.pwr = s.pwr ∧ (State.release h tag s).2.regs = s.regs ∧
    (State.release h tag s).2.flt.keel0 = s.flt.keel0 ∧ (State.release h tag s).2.flt.keel1 = s.flt.keel1 := by
  unfold State.release
  dsimp only
  split
  · simp
  · split
    · simp
    · split <;> simp

@[simp] theorem State.addRef_keeps (h : Nat) (s : State) :
    (State.addRef h s).pending = s.pending ∧ (State.addRef h s).now = s.now ∧
    (State.addRef h s).serial = s.serial ∧ (State.addRef h s).out = s.out ∧ (State.addRef h s).pins = s.pins ∧
    (State.addRef h s).md = s.md ∧ (State.addRef h s).host = s.host ∧ (State.addRef h s).cmds = s.cmds ∧
    (State.addRef h s).clk = s.clk ∧ (State.addRef h s).ref = s.ref ∧ (State.addRef h s).kennel = s.kennel ∧
    (State.addRef h s).time = s.time ∧ (State.addRef h s).port = s.port ∧ (State.addRef h s).slices = s.slices ∧
    (State.addRef h s).tab = s.tab ∧ (State.addRef h s).gen = s.gen ∧ (State.addRef h s).core = s.core ∧
    (State.addRef h s).sch = s.sch ∧ (State.addRef h s).tel = s.tel ∧ (State.addRef h s).pwr = s.pwr ∧
    (State.addRef h s).regs = s.regs ∧ (State.addRef h s).cnts = s.cnts ∧
    (State.addRef h s).flt.keel0 = s.flt.keel0 ∧ (State.addRef h s).flt.keel1 = s.flt.keel1 := by
  (unfold State.addRef; simp only [State.readRecord_keeps, ite_self, and_self, implies_true, Ran.st_done, Ran.st_wait, Ran.st_refuse, Ran.st_ite, snd_ite, ite_pending, ite_now, ite_serial, ite_out, ite_pins, ite_md, ite_host, ite_cmds, ite_clk, ite_ref, ite_kennel, ite_time, ite_port, ite_slices, ite_tab, ite_gen, ite_core, ite_sch, ite_tel, ite_pwr, ite_regs, ite_cnts, ite_flt_keel0, ite_flt_keel1, foldl_pending, foldl_now, foldl_serial, foldl_out, foldl_pins, foldl_md, foldl_host, foldl_cmds, foldl_clk, foldl_ref, foldl_kennel, foldl_time, foldl_port, foldl_slices, foldl_tab, foldl_gen, foldl_core, foldl_sch, foldl_tel, foldl_pwr, foldl_regs, foldl_cnts, foldl_flt_keel0, foldl_flt_keel1, foldl_snd_pending, foldl_snd_now, foldl_snd_serial, foldl_snd_out, foldl_snd_pins, foldl_snd_md, foldl_snd_host, foldl_snd_cmds, foldl_snd_clk, foldl_snd_ref, foldl_snd_kennel, foldl_snd_time, foldl_snd_port, foldl_snd_slices, foldl_snd_tab, foldl_snd_gen, foldl_snd_core, foldl_snd_sch, foldl_snd_tel, foldl_snd_pwr, foldl_snd_regs, foldl_snd_cnts, foldl_snd_flt_keel0, foldl_snd_flt_keel1]; done)

@[simp] theorem State.upset_keeps (u : Upset) (s : State) :
    (State.upset u s).pending = s.pending ∧ (State.upset u s).now = s.now ∧ (State.upset u s).serial = s.serial ∧
    (State.upset u s).out = s.out ∧ (State.upset u s).pins = s.pins ∧ (State.upset u s).md = s.md ∧
    (State.upset u s).host = s.host ∧ (State.upset u s).cmds = s.cmds ∧ (State.upset u s).flt = s.flt ∧
    (State.upset u s).clk = s.clk ∧ (State.upset u s).ref = s.ref ∧ (State.upset u s).kennel = s.kennel ∧
    (State.upset u s).time = s.time ∧ (State.upset u s).port = s.port ∧ (State.upset u s).slices = s.slices ∧
    (State.upset u s).tab = s.tab ∧ (State.upset u s).gen = s.gen ∧ (State.upset u s).core = s.core ∧
    (State.upset u s).sch = s.sch ∧ (State.upset u s).tel = s.tel ∧ (State.upset u s).pwr = s.pwr ∧
    (State.upset u s).regs = s.regs ∧ (State.upset u s).cnts = s.cnts := by
  (unfold State.upset; simp only [ite_self, and_self, implies_true, Ran.st_done, Ran.st_wait, Ran.st_refuse, Ran.st_ite, snd_ite, foldl_pending, foldl_now, foldl_serial, foldl_out, foldl_pins, foldl_md, foldl_host, foldl_cmds, foldl_flt, foldl_clk, foldl_ref, foldl_kennel, foldl_time, foldl_port, foldl_slices, foldl_tab, foldl_gen, foldl_core, foldl_sch, foldl_tel, foldl_pwr, foldl_regs, foldl_cnts, foldl_snd_pending, foldl_snd_now, foldl_snd_serial, foldl_snd_out, foldl_snd_pins, foldl_snd_md, foldl_snd_host, foldl_snd_cmds, foldl_snd_flt, foldl_snd_clk, foldl_snd_ref, foldl_snd_kennel, foldl_snd_time, foldl_snd_port, foldl_snd_slices, foldl_snd_tab, foldl_snd_gen, foldl_snd_core, foldl_snd_sch, foldl_snd_tel, foldl_snd_pwr, foldl_snd_regs, foldl_snd_cnts]; done)

@[simp] theorem State.readTile_keeps (tag t : Nat) (e : Option TileErr) (inj : Bool) (s : State) :
    (State.readTile tag t e inj s).2.pending = s.pending ∧ (State.readTile tag t e inj s).2.now = s.now ∧
    (State.readTile tag t e inj s).2.serial = s.serial ∧ (State.readTile tag t e inj s).2.out = s.out ∧
    (State.readTile tag t e inj s).2.pins = s.pins ∧ (State.readTile tag t e inj s).2.md = s.md ∧
    (State.readTile tag t e inj s).2.host = s.host ∧ (State.readTile tag t e inj s).2.cmds = s.cmds ∧
    (State.readTile tag t e inj s).2.clk = s.clk ∧ (State.readTile tag t e inj s).2.ref = s.ref ∧
    (State.readTile tag t e inj s).2.kennel = s.kennel ∧ (State.readTile tag t e inj s).2.time = s.time ∧
    (State.readTile tag t e inj s).2.port = s.port ∧ (State.readTile tag t e inj s).2.slices = s.slices ∧
    (State.readTile tag t e inj s).2.tab = s.tab ∧ (State.readTile tag t e inj s).2.gen = s.gen ∧
    (State.readTile tag t e inj s).2.core = s.core ∧ (State.readTile tag t e inj s).2.sch = s.sch ∧
    (State.readTile tag t e inj s).2.tel = s.tel ∧ (State.readTile tag t e inj s).2.pwr = s.pwr ∧
    (State.readTile tag t e inj s).2.regs = s.regs ∧ (State.readTile tag t e inj s).2.flt.keel0 = s.flt.keel0 ∧
    (State.readTile tag t e inj s).2.flt.keel1 = s.flt.keel1 := by
  (unfold State.readTile; split <;> simp only [State.raiseX_keeps, State.bpmCount_keeps, ite_self, and_self, implies_true, Ran.st_done, Ran.st_wait, Ran.st_refuse, Ran.st_ite, snd_ite, ite_pending, ite_now, ite_serial, ite_out, ite_pins, ite_md, ite_host, ite_cmds, ite_clk, ite_ref, ite_kennel, ite_time, ite_port, ite_slices, ite_tab, ite_gen, ite_core, ite_sch, ite_tel, ite_pwr, ite_regs, ite_flt_keel0, ite_flt_keel1, foldl_pending, foldl_now, foldl_serial, foldl_out, foldl_pins, foldl_md, foldl_host, foldl_cmds, foldl_clk, foldl_ref, foldl_kennel, foldl_time, foldl_port, foldl_slices, foldl_tab, foldl_gen, foldl_core, foldl_sch, foldl_tel, foldl_pwr, foldl_regs, foldl_flt_keel0, foldl_flt_keel1, foldl_snd_pending, foldl_snd_now, foldl_snd_serial, foldl_snd_out, foldl_snd_pins, foldl_snd_md, foldl_snd_host, foldl_snd_cmds, foldl_snd_clk, foldl_snd_ref, foldl_snd_kennel, foldl_snd_time, foldl_snd_port, foldl_snd_slices, foldl_snd_tab, foldl_snd_gen, foldl_snd_core, foldl_snd_sch, foldl_snd_tel, foldl_snd_pwr, foldl_snd_regs, foldl_snd_flt_keel0, foldl_snd_flt_keel1])

@[simp] theorem State.tileInject_keeps (t : Nat) (s : State) :
    (State.tileInject t s).2.pending = s.pending ∧ (State.tileInject t s).2.now = s.now ∧
    (State.tileInject t s).2.serial = s.serial ∧ (State.tileInject t s).2.out = s.out ∧
    (State.tileInject t s).2.pins = s.pins ∧ (State.tileInject t s).2.md = s.md ∧
    (State.tileInject t s).2.host = s.host ∧ (State.tileInject t s).2.cmds = s.cmds ∧
    (State.tileInject t s).2.clk = s.clk ∧ (State.tileInject t s).2.ref = s.ref ∧
    (State.tileInject t s).2.kennel = s.kennel ∧ (State.tileInject t s).2.time = s.time ∧
    (State.tileInject t s).2.buf = s.buf ∧ (State.tileInject t s).2.port = s.port ∧
    (State.tileInject t s).2.slices = s.slices ∧ (State.tileInject t s).2.tab = s.tab ∧
    (State.tileInject t s).2.gen = s.gen ∧ (State.tileInject t s).2.core = s.core ∧
    (State.tileInject t s).2.sch = s.sch ∧ (State.tileInject t s).2.tel = s.tel ∧
    (State.tileInject t s).2.pwr = s.pwr ∧ (State.tileInject t s).2.regs = s.regs ∧
    (State.tileInject t s).2.cnts = s.cnts ∧ (State.tileInject t s).2.flt.keel0 = s.flt.keel0 ∧
    (State.tileInject t s).2.flt.keel1 = s.flt.keel1 := by
  unfold State.tileInject
  dsimp only
  split <;> simp

@[simp] theorem readTileAt_keeps (h tag : Nat) (acc : Option Nat × State) (j : Nat) :
    (readTileAt h tag acc j).2.pending = acc.2.pending ∧ (readTileAt h tag acc j).2.now = acc.2.now ∧
    (readTileAt h tag acc j).2.serial = acc.2.serial ∧ (readTileAt h tag acc j).2.out = acc.2.out ∧
    (readTileAt h tag acc j).2.pins = acc.2.pins ∧ (readTileAt h tag acc j).2.md = acc.2.md ∧
    (readTileAt h tag acc j).2.host = acc.2.host ∧ (readTileAt h tag acc j).2.cmds = acc.2.cmds ∧
    (readTileAt h tag acc j).2.clk = acc.2.clk ∧ (readTileAt h tag acc j).2.ref = acc.2.ref ∧
    (readTileAt h tag acc j).2.kennel = acc.2.kennel ∧ (readTileAt h tag acc j).2.time = acc.2.time ∧
    (readTileAt h tag acc j).2.port = acc.2.port ∧ (readTileAt h tag acc j).2.slices = acc.2.slices ∧
    (readTileAt h tag acc j).2.tab = acc.2.tab ∧ (readTileAt h tag acc j).2.gen = acc.2.gen ∧
    (readTileAt h tag acc j).2.core = acc.2.core ∧ (readTileAt h tag acc j).2.sch = acc.2.sch ∧
    (readTileAt h tag acc j).2.tel = acc.2.tel ∧ (readTileAt h tag acc j).2.pwr = acc.2.pwr ∧
    (readTileAt h tag acc j).2.regs = acc.2.regs ∧ (readTileAt h tag acc j).2.flt.keel0 = acc.2.flt.keel0 ∧
    (readTileAt h tag acc j).2.flt.keel1 = acc.2.flt.keel1 := by
  (unfold readTileAt; simp only [State.tileInject_keeps, State.readTile_keeps, ite_self, and_self, implies_true, Ran.st_done, Ran.st_wait, Ran.st_refuse, Ran.st_ite, snd_ite, ite_pending, ite_now, ite_serial, ite_out, ite_pins, ite_md, ite_host, ite_cmds, ite_clk, ite_ref, ite_kennel, ite_time, ite_port, ite_slices, ite_tab, ite_gen, ite_core, ite_sch, ite_tel, ite_pwr, ite_regs, ite_flt_keel0, ite_flt_keel1, foldl_pending, foldl_now, foldl_serial, foldl_out, foldl_pins, foldl_md, foldl_host, foldl_cmds, foldl_clk, foldl_ref, foldl_kennel, foldl_time, foldl_port, foldl_slices, foldl_tab, foldl_gen, foldl_core, foldl_sch, foldl_tel, foldl_pwr, foldl_regs, foldl_flt_keel0, foldl_flt_keel1, foldl_snd_pending, foldl_snd_now, foldl_snd_serial, foldl_snd_out, foldl_snd_pins, foldl_snd_md, foldl_snd_host, foldl_snd_cmds, foldl_snd_clk, foldl_snd_ref, foldl_snd_kennel, foldl_snd_time, foldl_snd_port, foldl_snd_slices, foldl_snd_tab, foldl_snd_gen, foldl_snd_core, foldl_snd_sch, foldl_snd_tel, foldl_snd_pwr, foldl_snd_regs, foldl_snd_flt_keel0, foldl_snd_flt_keel1]; done)

@[simp] theorem State.readTiles_keeps (h tag n : Nat) (s : State) :
    (State.readTiles h tag n s).2.pending = s.pending ∧ (State.readTiles h tag n s).2.now = s.now ∧
    (State.readTiles h tag n s).2.serial = s.serial ∧ (State.readTiles h tag n s).2.out = s.out ∧
    (State.readTiles h tag n s).2.pins = s.pins ∧ (State.readTiles h tag n s).2.md = s.md ∧
    (State.readTiles h tag n s).2.host = s.host ∧ (State.readTiles h tag n s).2.cmds = s.cmds ∧
    (State.readTiles h tag n s).2.clk = s.clk ∧ (State.readTiles h tag n s).2.ref = s.ref ∧
    (State.readTiles h tag n s).2.kennel = s.kennel ∧ (State.readTiles h tag n s).2.time = s.time ∧
    (State.readTiles h tag n s).2.port = s.port ∧ (State.readTiles h tag n s).2.slices = s.slices ∧
    (State.readTiles h tag n s).2.tab = s.tab ∧ (State.readTiles h tag n s).2.gen = s.gen ∧
    (State.readTiles h tag n s).2.core = s.core ∧ (State.readTiles h tag n s).2.sch = s.sch ∧
    (State.readTiles h tag n s).2.tel = s.tel ∧ (State.readTiles h tag n s).2.pwr = s.pwr ∧
    (State.readTiles h tag n s).2.regs = s.regs ∧ (State.readTiles h tag n s).2.flt.keel0 = s.flt.keel0 ∧
    (State.readTiles h tag n s).2.flt.keel1 = s.flt.keel1 := by
  (unfold State.readTiles; simp only [readTileAt_keeps, ite_self, and_self, implies_true, Ran.st_done, Ran.st_wait, Ran.st_refuse, Ran.st_ite, snd_ite, foldl_pending, foldl_now, foldl_serial, foldl_out, foldl_pins, foldl_md, foldl_host, foldl_cmds, foldl_clk, foldl_ref, foldl_kennel, foldl_time, foldl_port, foldl_slices, foldl_tab, foldl_gen, foldl_core, foldl_sch, foldl_tel, foldl_pwr, foldl_regs, foldl_flt_keel0, foldl_flt_keel1, foldl_snd_pending, foldl_snd_now, foldl_snd_serial, foldl_snd_out, foldl_snd_pins, foldl_snd_md, foldl_snd_host, foldl_snd_cmds, foldl_snd_clk, foldl_snd_ref, foldl_snd_kennel, foldl_snd_time, foldl_snd_port, foldl_snd_slices, foldl_snd_tab, foldl_snd_gen, foldl_snd_core, foldl_snd_sch, foldl_snd_tel, foldl_snd_pwr, foldl_snd_regs, foldl_snd_flt_keel0, foldl_snd_flt_keel1]; done)
end Sys2Proof.Machine
end

