-- ==== Sys2Proof/Laws/KeepsCalendar.lean ====
section
/-! SUPPORT. What each operation of Machine/Calendar.lean keeps: the parts of the state that it leaves as they are. -/
set_option linter.unusedSimpArgs false
set_option linter.unusedVariables false
namespace Sys2Proof.Machine
open Host (Outcome)

@[simp] theorem State.setCal_keeps (p : Nat) (c : Cal) (s : State) :
    (State.setCal p c s).pending = s.pending ∧ (State.setCal p c s).now = s.now ∧
    (State.setCal p c s).serial = s.serial ∧ (State.setCal p c s).out = s.out ∧
    (State.setCal p c s).pins = s.pins ∧ (State.setCal p c s).md = s.md ∧ (State.setCal p c s).host = s.host ∧
    (State.setCal p c s).cmds = s.cmds ∧ (State.setCal p c s).flt = s.flt ∧ (State.setCal p c s).clk = s.clk ∧
    (State.setCal p c s).ref = s.ref ∧ (State.setCal p c s).kennel = s.kennel ∧ (State.setCal p c s).buf = s.buf ∧
    (State.setCal p c s).port = s.port ∧ (State.setCal p c s).slices = s.slices ∧
    (State.setCal p c s).tab = s.tab ∧ (State.setCal p c s).gen = s.gen ∧ (State.setCal p c s).core = s.core ∧
    (State.setCal p c s).sch = s.sch ∧ (State.setCal p c s).tel = s.tel ∧ (State.setCal p c s).pwr = s.pwr ∧
    (State.setCal p c s).regs = s.regs ∧ (State.setCal p c s).cnts = s.cnts := by
  (unfold State.setCal; simp only [ite_self, and_self, implies_true, Ran.st_done, Ran.st_wait, Ran.st_refuse, Ran.st_ite, snd_ite, foldl_pending, foldl_now, foldl_serial, foldl_out, foldl_pins, foldl_md, foldl_host, foldl_cmds, foldl_flt, foldl_clk, foldl_ref, foldl_kennel, foldl_buf, foldl_port, foldl_slices, foldl_tab, foldl_gen, foldl_core, foldl_sch, foldl_tel, foldl_pwr, foldl_regs, foldl_cnts, foldl_snd_pending, foldl_snd_now, foldl_snd_serial, foldl_snd_out, foldl_snd_pins, foldl_snd_md, foldl_snd_host, foldl_snd_cmds, foldl_snd_flt, foldl_snd_clk, foldl_snd_ref, foldl_snd_kennel, foldl_snd_buf, foldl_snd_port, foldl_snd_slices, foldl_snd_tab, foldl_snd_gen, foldl_snd_core, foldl_snd_sch, foldl_snd_tel, foldl_snd_pwr, foldl_snd_regs, foldl_snd_cnts]; done)

@[simp] theorem State.refreshFret_keeps (p : Nat) (s : State) :
    (State.refreshFret p s).pending = s.pending ∧ (State.refreshFret p s).now = s.now ∧
    (State.refreshFret p s).serial = s.serial ∧ (State.refreshFret p s).out = s.out ∧
    (State.refreshFret p s).pins = s.pins ∧ (State.refreshFret p s).md = s.md ∧
    (State.refreshFret p s).host = s.host ∧ (State.refreshFret p s).cmds = s.cmds ∧
    (State.refreshFret p s).flt = s.flt ∧ (State.refreshFret p s).clk = s.clk ∧
    (State.refreshFret p s).ref = s.ref ∧ (State.refreshFret p s).kennel = s.kennel ∧
    (State.refreshFret p s).buf = s.buf ∧ (State.refreshFret p s).port = s.port ∧
    (State.refreshFret p s).slices = s.slices ∧ (State.refreshFret p s).tab = s.tab ∧
    (State.refreshFret p s).gen = s.gen ∧ (State.refreshFret p s).core = s.core ∧
    (State.refreshFret p s).sch = s.sch ∧ (State.refreshFret p s).tel = s.tel ∧
    (State.refreshFret p s).pwr = s.pwr ∧ (State.refreshFret p s).regs = s.regs ∧
    (State.refreshFret p s).cnts = s.cnts := by
  (unfold State.refreshFret; dsimp only; split <;> simp only [State.setCal_keeps, ite_self, and_self, implies_true, Ran.st_done, Ran.st_wait, Ran.st_refuse, Ran.st_ite, snd_ite, ite_pending, ite_now, ite_serial, ite_out, ite_pins, ite_md, ite_host, ite_cmds, ite_flt, ite_clk, ite_ref, ite_kennel, ite_buf, ite_port, ite_slices, ite_tab, ite_gen, ite_core, ite_sch, ite_tel, ite_pwr, ite_regs, ite_cnts, foldl_pending, foldl_now, foldl_serial, foldl_out, foldl_pins, foldl_md, foldl_host, foldl_cmds, foldl_flt, foldl_clk, foldl_ref, foldl_kennel, foldl_buf, foldl_port, foldl_slices, foldl_tab, foldl_gen, foldl_core, foldl_sch, foldl_tel, foldl_pwr, foldl_regs, foldl_cnts, foldl_snd_pending, foldl_snd_now, foldl_snd_serial, foldl_snd_out, foldl_snd_pins, foldl_snd_md, foldl_snd_host, foldl_snd_cmds, foldl_snd_flt, foldl_snd_clk, foldl_snd_ref, foldl_snd_kennel, foldl_snd_buf, foldl_snd_port, foldl_snd_slices, foldl_snd_tab, foldl_snd_gen, foldl_snd_core, foldl_snd_sch, foldl_snd_tel, foldl_snd_pwr, foldl_snd_regs, foldl_snd_cnts])

@[simp] theorem State.takeCalSwap_keeps (p : Nat) (s : State) :
    (State.takeCalSwap p s).pending = s.pending ∧ (State.takeCalSwap p s).now = s.now ∧
    (State.takeCalSwap p s).serial = s.serial ∧ (State.takeCalSwap p s).pins = s.pins ∧
    (State.takeCalSwap p s).md = s.md ∧ (State.takeCalSwap p s).flt = s.flt ∧ (State.takeCalSwap p s).clk = s.clk ∧
    (State.takeCalSwap p s).ref = s.ref ∧ (State.takeCalSwap p s).kennel = s.kennel ∧
    (State.takeCalSwap p s).buf = s.buf ∧ (State.takeCalSwap p s).port = s.port ∧
    (State.takeCalSwap p s).slices = s.slices ∧ (State.takeCalSwap p s).tab = s.tab ∧
    (State.takeCalSwap p s).gen = s.gen ∧ (State.takeCalSwap p s).core = s.core ∧
    (State.takeCalSwap p s).sch = s.sch ∧ (State.takeCalSwap p s).tel = s.tel ∧
    (State.takeCalSwap p s).pwr = s.pwr ∧ (State.takeCalSwap p s).regs = s.regs ∧
    (State.takeCalSwap p s).cnts = s.cnts := by
  (unfold State.takeCalSwap; dsimp only; split <;> simp only [State.refreshFret_keeps, State.completeSer_keeps, State.setCal_keeps, ite_self, and_self, implies_true, Ran.st_done, Ran.st_wait, Ran.st_refuse, Ran.st_ite, snd_ite, ite_pending, ite_now, ite_serial, ite_pins, ite_md, ite_flt, ite_clk, ite_ref, ite_kennel, ite_buf, ite_port, ite_slices, ite_tab, ite_gen, ite_core, ite_sch, ite_tel, ite_pwr, ite_regs, ite_cnts, foldl_pending, foldl_now, foldl_serial, foldl_pins, foldl_md, foldl_flt, foldl_clk, foldl_ref, foldl_kennel, foldl_buf, foldl_port, foldl_slices, foldl_tab, foldl_gen, foldl_core, foldl_sch, foldl_tel, foldl_pwr, foldl_regs, foldl_cnts, foldl_snd_pending, foldl_snd_now, foldl_snd_serial, foldl_snd_pins, foldl_snd_md, foldl_snd_flt, foldl_snd_clk, foldl_snd_ref, foldl_snd_kennel, foldl_snd_buf, foldl_snd_port, foldl_snd_slices, foldl_snd_tab, foldl_snd_gen, foldl_snd_core, foldl_snd_sch, foldl_snd_tel, foldl_snd_pwr, foldl_snd_regs, foldl_snd_cnts])

@[simp] theorem State.setFrer_keeps (i : Nat) (f : Frer) (s : State) :
    (State.setFrer i f s).pending = s.pending ∧ (State.setFrer i f s).now = s.now ∧
    (State.setFrer i f s).serial = s.serial ∧ (State.setFrer i f s).out = s.out ∧
    (State.setFrer i f s).pins = s.pins ∧ (State.setFrer i f s).md = s.md ∧ (State.setFrer i f s).host = s.host ∧
    (State.setFrer i f s).cmds = s.cmds ∧ (State.setFrer i f s).flt = s.flt ∧ (State.setFrer i f s).clk = s.clk ∧
    (State.setFrer i f s).ref = s.ref ∧ (State.setFrer i f s).kennel = s.kennel ∧
    (State.setFrer i f s).buf = s.buf ∧ (State.setFrer i f s).port = s.port ∧
    (State.setFrer i f s).slices = s.slices ∧ (State.setFrer i f s).tab = s.tab ∧
    (State.setFrer i f s).gen = s.gen ∧ (State.setFrer i f s).core = s.core ∧ (State.setFrer i f s).sch = s.sch ∧
    (State.setFrer i f s).tel = s.tel ∧ (State.setFrer i f s).pwr = s.pwr ∧ (State.setFrer i f s).regs = s.regs ∧
    (State.setFrer i f s).cnts = s.cnts := by
  (unfold State.setFrer; simp only [ite_self, and_self, implies_true, Ran.st_done, Ran.st_wait, Ran.st_refuse, Ran.st_ite, snd_ite, foldl_pending, foldl_now, foldl_serial, foldl_out, foldl_pins, foldl_md, foldl_host, foldl_cmds, foldl_flt, foldl_clk, foldl_ref, foldl_kennel, foldl_buf, foldl_port, foldl_slices, foldl_tab, foldl_gen, foldl_core, foldl_sch, foldl_tel, foldl_pwr, foldl_regs, foldl_cnts, foldl_snd_pending, foldl_snd_now, foldl_snd_serial, foldl_snd_out, foldl_snd_pins, foldl_snd_md, foldl_snd_host, foldl_snd_cmds, foldl_snd_flt, foldl_snd_clk, foldl_snd_ref, foldl_snd_kennel, foldl_snd_buf, foldl_snd_port, foldl_snd_slices, foldl_snd_tab, foldl_snd_gen, foldl_snd_core, foldl_snd_sch, foldl_snd_tel, foldl_snd_pwr, foldl_snd_regs, foldl_snd_cnts]; done)

@[simp] theorem State.frerCount_keeps (i k : Nat) (s : State) :
    (State.frerCount i k s).pending = s.pending ∧ (State.frerCount i k s).now = s.now ∧
    (State.frerCount i k s).serial = s.serial ∧ (State.frerCount i k s).out = s.out ∧
    (State.frerCount i k s).pins = s.pins ∧ (State.frerCount i k s).md = s.md ∧
    (State.frerCount i k s).host = s.host ∧ (State.frerCount i k s).cmds = s.cmds ∧
    (State.frerCount i k s).flt = s.flt ∧ (State.frerCount i k s).clk = s.clk ∧
    (State.frerCount i k s).ref = s.ref ∧ (State.frerCount i k s).kennel = s.kennel ∧
    (State.frerCount i k s).time = s.time ∧ (State.frerCount i k s).buf = s.buf ∧
    (State.frerCount i k s).port = s.port ∧ (State.frerCount i k s).slices = s.slices ∧
    (State.frerCount i k s).tab = s.tab ∧ (State.frerCount i k s).gen = s.gen ∧
    (State.frerCount i k s).core = s.core ∧ (State.frerCount i k s).sch = s.sch ∧
    (State.frerCount i k s).tel = s.tel ∧ (State.frerCount i k s).pwr = s.pwr ∧
    (State.frerCount i k s).regs = s.regs := by
  (unfold State.frerCount; simp only [State.count_keeps, ite_self, and_self, implies_true, Ran.st_done, Ran.st_wait, Ran.st_refuse, Ran.st_ite, snd_ite, foldl_pending, foldl_now, foldl_serial, foldl_out, foldl_pins, foldl_md, foldl_host, foldl_cmds, foldl_flt, foldl_clk, foldl_ref, foldl_kennel, foldl_time, foldl_buf, foldl_port, foldl_slices, foldl_tab, foldl_gen, foldl_core, foldl_sch, foldl_tel, foldl_pwr, foldl_regs, foldl_snd_pending, foldl_snd_now, foldl_snd_serial, foldl_snd_out, foldl_snd_pins, foldl_snd_md, foldl_snd_host, foldl_snd_cmds, foldl_snd_flt, foldl_snd_clk, foldl_snd_ref, foldl_snd_kennel, foldl_snd_time, foldl_snd_buf, foldl_snd_port, foldl_snd_slices, foldl_snd_tab, foldl_snd_gen, foldl_snd_core, foldl_snd_sch, foldl_snd_tel, foldl_snd_pwr, foldl_snd_regs]; done)

@[simp] theorem State.verifyStart_keeps (p : Nat) (s : State) :
    (State.verifyStart p s).pending = s.pending ∧ (State.verifyStart p s).now = s.now ∧
    (State.verifyStart p s).serial = s.serial ∧ (State.verifyStart p s).out = s.out ∧
    (State.verifyStart p s).pins = s.pins ∧ (State.verifyStart p s).md = s.md ∧
    (State.verifyStart p s).host = s.host ∧ (State.verifyStart p s).cmds = s.cmds ∧
    (State.verifyStart p s).flt = s.flt ∧ (State.verifyStart p s).clk = s.clk ∧
    (State.verifyStart p s).ref = s.ref ∧ (State.verifyStart p s).kennel = s.kennel ∧
    (State.verifyStart p s).buf = s.buf ∧ (State.verifyStart p s).port = s.port ∧
    (State.verifyStart p s).slices = s.slices ∧ (State.verifyStart p s).tab = s.tab ∧
    (State.verifyStart p s).gen = s.gen ∧ (State.verifyStart p s).core = s.core ∧
    (State.verifyStart p s).sch = s.sch ∧ (State.verifyStart p s).tel = s.tel ∧
    (State.verifyStart p s).pwr = s.pwr ∧ (State.verifyStart p s).regs = s.regs ∧
    (State.verifyStart p s).cnts = s.cnts := by
  (unfold State.verifyStart; simp only [ite_self, and_self, implies_true, Ran.st_done, Ran.st_wait, Ran.st_refuse, Ran.st_ite, snd_ite, foldl_pending, foldl_now, foldl_serial, foldl_out, foldl_pins, foldl_md, foldl_host, foldl_cmds, foldl_flt, foldl_clk, foldl_ref, foldl_kennel, foldl_buf, foldl_port, foldl_slices, foldl_tab, foldl_gen, foldl_core, foldl_sch, foldl_tel, foldl_pwr, foldl_regs, foldl_cnts, foldl_snd_pending, foldl_snd_now, foldl_snd_serial, foldl_snd_out, foldl_snd_pins, foldl_snd_md, foldl_snd_host, foldl_snd_cmds, foldl_snd_flt, foldl_snd_clk, foldl_snd_ref, foldl_snd_kennel, foldl_snd_buf, foldl_snd_port, foldl_snd_slices, foldl_snd_tab, foldl_snd_gen, foldl_snd_core, foldl_snd_sch, foldl_snd_tel, foldl_snd_pwr, foldl_snd_regs, foldl_snd_cnts]; done)
end Sys2Proof.Machine
end

