-- ==== Sys2Proof/Laws/KeepsSched.lean ====
section
/-! SUPPORT. What each operation of Machine/Sched.lean keeps: the parts of the state that it leaves as they are. -/
set_option linter.unusedSimpArgs false
set_option linter.unusedVariables false
namespace Sys2Proof.Machine
open Host (Outcome)

@[simp] theorem State.setQueue_keeps (k : Nat) (q : List Desc) (s : State) :
    (State.setQueue k q s).pending = s.pending ∧ (State.setQueue k q s).now = s.now ∧
    (State.setQueue k q s).serial = s.serial ∧ (State.setQueue k q s).out = s.out ∧
    (State.setQueue k q s).pins = s.pins ∧ (State.setQueue k q s).md = s.md ∧
    (State.setQueue k q s).host = s.host ∧ (State.setQueue k q s).cmds = s.cmds ∧
    (State.setQueue k q s).flt = s.flt ∧ (State.setQueue k q s).clk = s.clk ∧ (State.setQueue k q s).ref = s.ref ∧
    (State.setQueue k q s).kennel = s.kennel ∧ (State.setQueue k q s).time = s.time ∧
    (State.setQueue k q s).buf = s.buf ∧ (State.setQueue k q s).port = s.port ∧
    (State.setQueue k q s).slices = s.slices ∧ (State.setQueue k q s).tab = s.tab ∧
    (State.setQueue k q s).gen = s.gen ∧ (State.setQueue k q s).sch = s.sch ∧ (State.setQueue k q s).tel = s.tel ∧
    (State.setQueue k q s).pwr = s.pwr ∧ (State.setQueue k q s).regs = s.regs ∧
    (State.setQueue k q s).cnts = s.cnts := by
  (unfold State.setQueue; simp only [ite_self, and_self, implies_true, Ran.st_done, Ran.st_wait, Ran.st_refuse, Ran.st_ite, snd_ite, foldl_pending, foldl_now, foldl_serial, foldl_out, foldl_pins, foldl_md, foldl_host, foldl_cmds, foldl_flt, foldl_clk, foldl_ref, foldl_kennel, foldl_time, foldl_buf, foldl_port, foldl_slices, foldl_tab, foldl_gen, foldl_sch, foldl_tel, foldl_pwr, foldl_regs, foldl_cnts, foldl_snd_pending, foldl_snd_now, foldl_snd_serial, foldl_snd_out, foldl_snd_pins, foldl_snd_md, foldl_snd_host, foldl_snd_cmds, foldl_snd_flt, foldl_snd_clk, foldl_snd_ref, foldl_snd_kennel, foldl_snd_time, foldl_snd_buf, foldl_snd_port, foldl_snd_slices, foldl_snd_tab, foldl_snd_gen, foldl_snd_sch, foldl_snd_tel, foldl_snd_pwr, foldl_snd_regs, foldl_snd_cnts]; done)

@[simp] theorem State.setShaper_keeps (k : Nat) (x : Shaper) (s : State) :
    (State.setShaper k x s).pending = s.pending ∧ (State.setShaper k x s).now = s.now ∧
    (State.setShaper k x s).serial = s.serial ∧ (State.setShaper k x s).out = s.out ∧
    (State.setShaper k x s).pins = s.pins ∧ (State.setShaper k x s).md = s.md ∧
    (State.setShaper k x s).host = s.host ∧ (State.setShaper k x s).cmds = s.cmds ∧
    (State.setShaper k x s).flt = s.flt ∧ (State.setShaper k x s).clk = s.clk ∧
    (State.setShaper k x s).ref = s.ref ∧ (State.setShaper k x s).kennel = s.kennel ∧
    (State.setShaper k x s).time = s.time ∧ (State.setShaper k x s).buf = s.buf ∧
    (State.setShaper k x s).port = s.port ∧ (State.setShaper k x s).slices = s.slices ∧
    (State.setShaper k x s).tab = s.tab ∧ (State.setShaper k x s).gen = s.gen ∧
    (State.setShaper k x s).core = s.core ∧ (State.setShaper k x s).tel = s.tel ∧
    (State.setShaper k x s).pwr = s.pwr ∧ (State.setShaper k x s).regs = s.regs ∧
    (State.setShaper k x s).cnts = s.cnts := by
  (unfold State.setShaper; simp only [ite_self, and_self, implies_true, Ran.st_done, Ran.st_wait, Ran.st_refuse, Ran.st_ite, snd_ite, foldl_pending, foldl_now, foldl_serial, foldl_out, foldl_pins, foldl_md, foldl_host, foldl_cmds, foldl_flt, foldl_clk, foldl_ref, foldl_kennel, foldl_time, foldl_buf, foldl_port, foldl_slices, foldl_tab, foldl_gen, foldl_core, foldl_tel, foldl_pwr, foldl_regs, foldl_cnts, foldl_snd_pending, foldl_snd_now, foldl_snd_serial, foldl_snd_out, foldl_snd_pins, foldl_snd_md, foldl_snd_host, foldl_snd_cmds, foldl_snd_flt, foldl_snd_clk, foldl_snd_ref, foldl_snd_kennel, foldl_snd_time, foldl_snd_buf, foldl_snd_port, foldl_snd_slices, foldl_snd_tab, foldl_snd_gen, foldl_snd_core, foldl_snd_tel, foldl_snd_pwr, foldl_snd_regs, foldl_snd_cnts]; done)

@[simp] theorem State.emptied_keeps (k : Nat) (s : State) :
    (State.emptied k s).pending = s.pending ∧ (State.emptied k s).now = s.now ∧
    (State.emptied k s).serial = s.serial ∧ (State.emptied k s).out = s.out ∧ (State.emptied k s).pins = s.pins ∧
    (State.emptied k s).md = s.md ∧ (State.emptied k s).host = s.host ∧ (State.emptied k s).cmds = s.cmds ∧
    (State.emptied k s).flt = s.flt ∧ (State.emptied k s).clk = s.clk ∧ (State.emptied k s).ref = s.ref ∧
    (State.emptied k s).kennel = s.kennel ∧ (State.emptied k s).time = s.time ∧ (State.emptied k s).buf = s.buf ∧
    (State.emptied k s).port = s.port ∧ (State.emptied k s).slices = s.slices ∧ (State.emptied k s).tab = s.tab ∧
    (State.emptied k s).gen = s.gen ∧ (State.emptied k s).core = s.core ∧ (State.emptied k s).tel = s.tel ∧
    (State.emptied k s).pwr = s.pwr ∧ (State.emptied k s).regs = s.regs ∧ (State.emptied k s).cnts = s.cnts := by
  (unfold State.emptied; split <;> simp only [ite_self, and_self, implies_true, Ran.st_done, Ran.st_wait, Ran.st_refuse, Ran.st_ite, snd_ite, ite_pending, ite_now, ite_serial, ite_out, ite_pins, ite_md, ite_host, ite_cmds, ite_flt, ite_clk, ite_ref, ite_kennel, ite_time, ite_buf, ite_port, ite_slices, ite_tab, ite_gen, ite_core, ite_tel, ite_pwr, ite_regs, ite_cnts, foldl_pending, foldl_now, foldl_serial, foldl_out, foldl_pins, foldl_md, foldl_host, foldl_cmds, foldl_flt, foldl_clk, foldl_ref, foldl_kennel, foldl_time, foldl_buf, foldl_port, foldl_slices, foldl_tab, foldl_gen, foldl_core, foldl_tel, foldl_pwr, foldl_regs, foldl_cnts, foldl_snd_pending, foldl_snd_now, foldl_snd_serial, foldl_snd_out, foldl_snd_pins, foldl_snd_md, foldl_snd_host, foldl_snd_cmds, foldl_snd_flt, foldl_snd_clk, foldl_snd_ref, foldl_snd_kennel, foldl_snd_time, foldl_snd_buf, foldl_snd_port, foldl_snd_slices, foldl_snd_tab, foldl_snd_gen, foldl_snd_core, foldl_snd_tel, foldl_snd_pwr, foldl_snd_regs, foldl_snd_cnts])

@[simp] theorem State.leaveQueue_keeps (k : Nat) (q : List Desc) (s : State) :
    (State.leaveQueue k q s).pending = s.pending ∧ (State.leaveQueue k q s).now = s.now ∧
    (State.leaveQueue k q s).serial = s.serial ∧ (State.leaveQueue k q s).out = s.out ∧
    (State.leaveQueue k q s).pins = s.pins ∧ (State.leaveQueue k q s).md = s.md ∧
    (State.leaveQueue k q s).host = s.host ∧ (State.leaveQueue k q s).cmds = s.cmds ∧
    (State.leaveQueue k q s).flt = s.flt ∧ (State.leaveQueue k q s).clk = s.clk ∧
    (State.leaveQueue k q s).ref = s.ref ∧ (State.leaveQueue k q s).kennel = s.kennel ∧
    (State.leaveQueue k q s).time = s.time ∧ (State.leaveQueue k q s).buf = s.buf ∧
    (State.leaveQueue k q s).port = s.port ∧ (State.leaveQueue k q s).slices = s.slices ∧
    (State.leaveQueue k q s).tab = s.tab ∧ (State.leaveQueue k q s).gen = s.gen ∧
    (State.leaveQueue k q s).tel = s.tel ∧ (State.leaveQueue k q s).pwr = s.pwr ∧
    (State.leaveQueue k q s).regs = s.regs ∧ (State.leaveQueue k q s).cnts = s.cnts := by
  (unfold State.leaveQueue; simp only [State.setQueue_keeps, State.emptied_keeps, ite_self, and_self, implies_true, Ran.st_done, Ran.st_wait, Ran.st_refuse, Ran.st_ite, snd_ite, foldl_pending, foldl_now, foldl_serial, foldl_out, foldl_pins, foldl_md, foldl_host, foldl_cmds, foldl_flt, foldl_clk, foldl_ref, foldl_kennel, foldl_time, foldl_buf, foldl_port, foldl_slices, foldl_tab, foldl_gen, foldl_tel, foldl_pwr, foldl_regs, foldl_cnts, foldl_snd_pending, foldl_snd_now, foldl_snd_serial, foldl_snd_out, foldl_snd_pins, foldl_snd_md, foldl_snd_host, foldl_snd_cmds, foldl_snd_flt, foldl_snd_clk, foldl_snd_ref, foldl_snd_kennel, foldl_snd_time, foldl_snd_buf, foldl_snd_port, foldl_snd_slices, foldl_snd_tab, foldl_snd_gen, foldl_snd_tel, foldl_snd_pwr, foldl_snd_regs, foldl_snd_cnts]; done)

@[simp] theorem State.refund_keeps (r : Refund) (s : State) :
    (State.refund r s).pending = s.pending ∧ (State.refund r s).now = s.now ∧
    (State.refund r s).serial = s.serial ∧ (State.refund r s).out = s.out ∧ (State.refund r s).pins = s.pins ∧
    (State.refund r s).md = s.md ∧ (State.refund r s).host = s.host ∧ (State.refund r s).cmds = s.cmds ∧
    (State.refund r s).flt = s.flt ∧ (State.refund r s).clk = s.clk ∧ (State.refund r s).ref = s.ref ∧
    (State.refund r s).kennel = s.kennel ∧ (State.refund r s).time = s.time ∧ (State.refund r s).buf = s.buf ∧
    (State.refund r s).port = s.port ∧ (State.refund r s).slices = s.slices ∧ (State.refund r s).tab = s.tab ∧
    (State.refund r s).gen = s.gen ∧ (State.refund r s).core = s.core ∧ (State.refund r s).tel = s.tel ∧
    (State.refund r s).pwr = s.pwr ∧ (State.refund r s).regs = s.regs ∧ (State.refund r s).cnts = s.cnts := by
  (unfold State.refund; split <;> simp only [State.setShaper_keeps, ite_self, and_self, implies_true, Ran.st_done, Ran.st_wait, Ran.st_refuse, Ran.st_ite, snd_ite, ite_pending, ite_now, ite_serial, ite_out, ite_pins, ite_md, ite_host, ite_cmds, ite_flt, ite_clk, ite_ref, ite_kennel, ite_time, ite_buf, ite_port, ite_slices, ite_tab, ite_gen, ite_core, ite_tel, ite_pwr, ite_regs, ite_cnts, foldl_pending, foldl_now, foldl_serial, foldl_out, foldl_pins, foldl_md, foldl_host, foldl_cmds, foldl_flt, foldl_clk, foldl_ref, foldl_kennel, foldl_time, foldl_buf, foldl_port, foldl_slices, foldl_tab, foldl_gen, foldl_core, foldl_tel, foldl_pwr, foldl_regs, foldl_cnts, foldl_snd_pending, foldl_snd_now, foldl_snd_serial, foldl_snd_out, foldl_snd_pins, foldl_snd_md, foldl_snd_host, foldl_snd_cmds, foldl_snd_flt, foldl_snd_clk, foldl_snd_ref, foldl_snd_kennel, foldl_snd_time, foldl_snd_buf, foldl_snd_port, foldl_snd_slices, foldl_snd_tab, foldl_snd_gen, foldl_snd_core, foldl_snd_tel, foldl_snd_pwr, foldl_snd_regs, foldl_snd_cnts])

@[simp] theorem State.settleRefunds_keeps (s : State) :
    (State.settleRefunds s).pending = s.pending ∧ (State.settleRefunds s).now = s.now ∧
    (State.settleRefunds s).serial = s.serial ∧ (State.settleRefunds s).out = s.out ∧
    (State.settleRefunds s).pins = s.pins ∧ (State.settleRefunds s).md = s.md ∧
    (State.settleRefunds s).host = s.host ∧ (State.settleRefunds s).cmds = s.cmds ∧
    (State.settleRefunds s).flt = s.flt ∧ (State.settleRefunds s).clk = s.clk ∧
    (State.settleRefunds s).ref = s.ref ∧ (State.settleRefunds s).kennel = s.kennel ∧
    (State.settleRefunds s).time = s.time ∧ (State.settleRefunds s).buf = s.buf ∧
    (State.settleRefunds s).port = s.port ∧ (State.settleRefunds s).slices = s.slices ∧
    (State.settleRefunds s).tab = s.tab ∧ (State.settleRefunds s).gen = s.gen ∧
    (State.settleRefunds s).core = s.core ∧ (State.settleRefunds s).tel = s.tel ∧
    (State.settleRefunds s).pwr = s.pwr ∧ (State.settleRefunds s).regs = s.regs ∧
    (State.settleRefunds s).cnts = s.cnts := by
  (unfold State.settleRefunds; simp only [State.refund_keeps, ite_self, and_self, implies_true, Ran.st_done, Ran.st_wait, Ran.st_refuse, Ran.st_ite, snd_ite, foldl_pending, foldl_now, foldl_serial, foldl_out, foldl_pins, foldl_md, foldl_host, foldl_cmds, foldl_flt, foldl_clk, foldl_ref, foldl_kennel, foldl_time, foldl_buf, foldl_port, foldl_slices, foldl_tab, foldl_gen, foldl_core, foldl_tel, foldl_pwr, foldl_regs, foldl_cnts, foldl_snd_pending, foldl_snd_now, foldl_snd_serial, foldl_snd_out, foldl_snd_pins, foldl_snd_md, foldl_snd_host, foldl_snd_cmds, foldl_snd_flt, foldl_snd_clk, foldl_snd_ref, foldl_snd_kennel, foldl_snd_time, foldl_snd_buf, foldl_snd_port, foldl_snd_slices, foldl_snd_tab, foldl_snd_gen, foldl_snd_core, foldl_snd_tel, foldl_snd_pwr, foldl_snd_regs, foldl_snd_cnts]; done)

@[simp] theorem State.shaperRefused_keeps (s : State) (c : Cmd) :
    (State.shaperRefused s c).st.pending = s.pending ∧ (State.shaperRefused s c).st.now = s.now ∧
    (State.shaperRefused s c).st.serial = s.serial ∧ (State.shaperRefused s c).st.out = s.out ∧
    (State.shaperRefused s c).st.pins = s.pins ∧ (State.shaperRefused s c).st.md = s.md ∧
    (State.shaperRefused s c).st.host = s.host ∧ (State.shaperRefused s c).st.cmds = s.cmds ∧
    (State.shaperRefused s c).st.flt = s.flt ∧ (State.shaperRefused s c).st.clk = s.clk ∧
    (State.shaperRefused s c).st.ref = s.ref ∧ (State.shaperRefused s c).st.kennel = s.kennel ∧
    (State.shaperRefused s c).st.time = s.time ∧ (State.shaperRefused s c).st.buf = s.buf ∧
    (State.shaperRefused s c).st.port = s.port ∧ (State.shaperRefused s c).st.slices = s.slices ∧
    (State.shaperRefused s c).st.tab = s.tab ∧ (State.shaperRefused s c).st.gen = s.gen ∧
    (State.shaperRefused s c).st.core = s.core ∧ (State.shaperRefused s c).st.sch = s.sch ∧
    (State.shaperRefused s c).st.tel = s.tel ∧ (State.shaperRefused s c).st.pwr = s.pwr ∧
    (State.shaperRefused s c).st.regs = s.regs ∧ (State.shaperRefused s c).st.cnts = s.cnts := by
  (unfold State.shaperRefused; simp only [ite_self, and_self, implies_true, Ran.st_done, Ran.st_wait, Ran.st_refuse, Ran.st_ite, snd_ite, foldl_pending, foldl_now, foldl_serial, foldl_out, foldl_pins, foldl_md, foldl_host, foldl_cmds, foldl_flt, foldl_clk, foldl_ref, foldl_kennel, foldl_time, foldl_buf, foldl_port, foldl_slices, foldl_tab, foldl_gen, foldl_core, foldl_sch, foldl_tel, foldl_pwr, foldl_regs, foldl_cnts, foldl_snd_pending, foldl_snd_now, foldl_snd_serial, foldl_snd_out, foldl_snd_pins, foldl_snd_md, foldl_snd_host, foldl_snd_cmds, foldl_snd_flt, foldl_snd_clk, foldl_snd_ref, foldl_snd_kennel, foldl_snd_time, foldl_snd_buf, foldl_snd_port, foldl_snd_slices, foldl_snd_tab, foldl_snd_gen, foldl_snd_core, foldl_snd_sch, foldl_snd_tel, foldl_snd_pwr, foldl_snd_regs, foldl_snd_cnts]; done)

@[simp] theorem State.chargeShapers_keeps (ks : List Nat) (tc len : Nat) (s : State) :
    (State.chargeShapers ks tc len s).pending = s.pending ∧ (State.chargeShapers ks tc len s).now = s.now ∧
    (State.chargeShapers ks tc len s).serial = s.serial ∧ (State.chargeShapers ks tc len s).out = s.out ∧
    (State.chargeShapers ks tc len s).pins = s.pins ∧ (State.chargeShapers ks tc len s).md = s.md ∧
    (State.chargeShapers ks tc len s).host = s.host ∧ (State.chargeShapers ks tc len s).cmds = s.cmds ∧
    (State.chargeShapers ks tc len s).flt = s.flt ∧ (State.chargeShapers ks tc len s).clk = s.clk ∧
    (State.chargeShapers ks tc len s).ref = s.ref ∧ (State.chargeShapers ks tc len s).kennel = s.kennel ∧
    (State.chargeShapers ks tc len s).time = s.time ∧ (State.chargeShapers ks tc len s).buf = s.buf ∧
    (State.chargeShapers ks tc len s).port = s.port ∧ (State.chargeShapers ks tc len s).slices = s.slices ∧
    (State.chargeShapers ks tc len s).tab = s.tab ∧ (State.chargeShapers ks tc len s).gen = s.gen ∧
    (State.chargeShapers ks tc len s).core = s.core ∧ (State.chargeShapers ks tc len s).tel = s.tel ∧
    (State.chargeShapers ks tc len s).pwr = s.pwr ∧ (State.chargeShapers ks tc len s).regs = s.regs ∧
    (State.chargeShapers ks tc len s).cnts = s.cnts := by
  (unfold State.chargeShapers; simp only [State.setShaper_keeps, ite_self, and_self, implies_true, Ran.st_done, Ran.st_wait, Ran.st_refuse, Ran.st_ite, snd_ite, ite_pending, ite_now, ite_serial, ite_out, ite_pins, ite_md, ite_host, ite_cmds, ite_flt, ite_clk, ite_ref, ite_kennel, ite_time, ite_buf, ite_port, ite_slices, ite_tab, ite_gen, ite_core, ite_tel, ite_pwr, ite_regs, ite_cnts, foldl_pending, foldl_now, foldl_serial, foldl_out, foldl_pins, foldl_md, foldl_host, foldl_cmds, foldl_flt, foldl_clk, foldl_ref, foldl_kennel, foldl_time, foldl_buf, foldl_port, foldl_slices, foldl_tab, foldl_gen, foldl_core, foldl_tel, foldl_pwr, foldl_regs, foldl_cnts, foldl_snd_pending, foldl_snd_now, foldl_snd_serial, foldl_snd_out, foldl_snd_pins, foldl_snd_md, foldl_snd_host, foldl_snd_cmds, foldl_snd_flt, foldl_snd_clk, foldl_snd_ref, foldl_snd_kennel, foldl_snd_time, foldl_snd_buf, foldl_snd_port, foldl_snd_slices, foldl_snd_tab, foldl_snd_gen, foldl_snd_core, foldl_snd_tel, foldl_snd_pwr, foldl_snd_regs, foldl_snd_cnts]; done)

@[simp] theorem State.endTurns_keeps (p : Nat) (s : State) :
    (State.endTurns p s).pending = s.pending ∧ (State.endTurns p s).now = s.now ∧
    (State.endTurns p s).serial = s.serial ∧ (State.endTurns p s).out = s.out ∧
    (State.endTurns p s).pins = s.pins ∧ (State.endTurns p s).md = s.md ∧ (State.endTurns p s).host = s.host ∧
    (State.endTurns p s).cmds = s.cmds ∧ (State.endTurns p s).flt = s.flt ∧ (State.endTurns p s).clk = s.clk ∧
    (State.endTurns p s).ref = s.ref ∧ (State.endTurns p s).kennel = s.kennel ∧
    (State.endTurns p s).time = s.time ∧ (State.endTurns p s).buf = s.buf ∧ (State.endTurns p s).port = s.port ∧
    (State.endTurns p s).slices = s.slices ∧ (State.endTurns p s).tab = s.tab ∧ (State.endTurns p s).gen = s.gen ∧
    (State.endTurns p s).core = s.core ∧ (State.endTurns p s).tel = s.tel ∧ (State.endTurns p s).pwr = s.pwr ∧
    (State.endTurns p s).regs = s.regs ∧ (State.endTurns p s).cnts = s.cnts := by
  (unfold State.endTurns; simp only [ite_self, and_self, implies_true, Ran.st_done, Ran.st_wait, Ran.st_refuse, Ran.st_ite, snd_ite, foldl_pending, foldl_now, foldl_serial, foldl_out, foldl_pins, foldl_md, foldl_host, foldl_cmds, foldl_flt, foldl_clk, foldl_ref, foldl_kennel, foldl_time, foldl_buf, foldl_port, foldl_slices, foldl_tab, foldl_gen, foldl_core, foldl_tel, foldl_pwr, foldl_regs, foldl_cnts, foldl_snd_pending, foldl_snd_now, foldl_snd_serial, foldl_snd_out, foldl_snd_pins, foldl_snd_md, foldl_snd_host, foldl_snd_cmds, foldl_snd_flt, foldl_snd_clk, foldl_snd_ref, foldl_snd_kennel, foldl_snd_time, foldl_snd_buf, foldl_snd_port, foldl_snd_slices, foldl_snd_tab, foldl_snd_gen, foldl_snd_core, foldl_snd_tel, foldl_snd_pwr, foldl_snd_regs, foldl_snd_cnts]; done)

@[simp] theorem State.schCount_keeps (i n : Nat) (s : State) :
    (State.schCount i n s).pending = s.pending ∧ (State.schCount i n s).now = s.now ∧
    (State.schCount i n s).serial = s.serial ∧ (State.schCount i n s).out = s.out ∧
    (State.schCount i n s).pins = s.pins ∧ (State.schCount i n s).md = s.md ∧
    (State.schCount i n s).host = s.host ∧ (State.schCount i n s).cmds = s.cmds ∧
    (State.schCount i n s).flt = s.flt ∧ (State.schCount i n s).clk = s.clk ∧ (State.schCount i n s).ref = s.ref ∧
    (State.schCount i n s).kennel = s.kennel ∧ (State.schCount i n s).time = s.time ∧
    (State.schCount i n s).buf = s.buf ∧ (State.schCount i n s).port = s.port ∧
    (State.schCount i n s).slices = s.slices ∧ (State.schCount i n s).tab = s.tab ∧
    (State.schCount i n s).gen = s.gen ∧ (State.schCount i n s).core = s.core ∧
    (State.schCount i n s).sch = s.sch ∧ (State.schCount i n s).tel = s.tel ∧ (State.schCount i n s).pwr = s.pwr ∧
    (State.schCount i n s).regs = s.regs := by
  (unfold State.schCount; simp only [State.count_keeps, ite_self, and_self, implies_true, Ran.st_done, Ran.st_wait, Ran.st_refuse, Ran.st_ite, snd_ite, foldl_pending, foldl_now, foldl_serial, foldl_out, foldl_pins, foldl_md, foldl_host, foldl_cmds, foldl_flt, foldl_clk, foldl_ref, foldl_kennel, foldl_time, foldl_buf, foldl_port, foldl_slices, foldl_tab, foldl_gen, foldl_core, foldl_sch, foldl_tel, foldl_pwr, foldl_regs, foldl_snd_pending, foldl_snd_now, foldl_snd_serial, foldl_snd_out, foldl_snd_pins, foldl_snd_md, foldl_snd_host, foldl_snd_cmds, foldl_snd_flt, foldl_snd_clk, foldl_snd_ref, foldl_snd_kennel, foldl_snd_time, foldl_snd_buf, foldl_snd_port, foldl_snd_slices, foldl_snd_tab, foldl_snd_gen, foldl_snd_core, foldl_snd_sch, foldl_snd_tel, foldl_snd_pwr, foldl_snd_regs]; done)

@[simp] theorem State.chargeDeficits_keeps (tc q k len : Nat) (s : State) :
    (State.chargeDeficits tc q k len s).pending = s.pending ∧ (State.chargeDeficits tc q k len s).now = s.now ∧
    (State.chargeDeficits tc q k len s).serial = s.serial ∧ (State.chargeDeficits tc q k len s).out = s.out ∧
    (State.chargeDeficits tc q k len s).pins = s.pins ∧ (State.chargeDeficits tc q k len s).md = s.md ∧
    (State.chargeDeficits tc q k len s).host = s.host ∧ (State.chargeDeficits tc q k len s).cmds = s.cmds ∧
    (State.chargeDeficits tc q k len s).flt = s.flt ∧ (State.chargeDeficits tc q k len s).clk = s.clk ∧
    (State.chargeDeficits tc q k len s).ref = s.ref ∧ (State.chargeDeficits tc q k len s).kennel = s.kennel ∧
    (State.chargeDeficits tc q k len s).time = s.time ∧ (State.chargeDeficits tc q k len s).buf = s.buf ∧
    (State.chargeDeficits tc q k len s).port = s.port ∧ (State.chargeDeficits tc q k len s).slices = s.slices ∧
    (State.chargeDeficits tc q k len s).tab = s.tab ∧ (State.chargeDeficits tc q k len s).gen = s.gen ∧
    (State.chargeDeficits tc q k len s).core = s.core ∧ (State.chargeDeficits tc q k len s).tel = s.tel ∧
    (State.chargeDeficits tc q k len s).pwr = s.pwr ∧ (State.chargeDeficits tc q k len s).regs = s.regs ∧
    (State.chargeDeficits tc q k len s).cnts = s.cnts := by
  (unfold State.chargeDeficits; simp only [State.emptied_keeps, ite_self, and_self, implies_true, Ran.st_done, Ran.st_wait, Ran.st_refuse, Ran.st_ite, snd_ite, ite_pending, ite_now, ite_serial, ite_out, ite_pins, ite_md, ite_host, ite_cmds, ite_flt, ite_clk, ite_ref, ite_kennel, ite_time, ite_buf, ite_port, ite_slices, ite_tab, ite_gen, ite_core, ite_tel, ite_pwr, ite_regs, ite_cnts, foldl_pending, foldl_now, foldl_serial, foldl_out, foldl_pins, foldl_md, foldl_host, foldl_cmds, foldl_flt, foldl_clk, foldl_ref, foldl_kennel, foldl_time, foldl_buf, foldl_port, foldl_slices, foldl_tab, foldl_gen, foldl_core, foldl_tel, foldl_pwr, foldl_regs, foldl_cnts, foldl_snd_pending, foldl_snd_now, foldl_snd_serial, foldl_snd_out, foldl_snd_pins, foldl_snd_md, foldl_snd_host, foldl_snd_cmds, foldl_snd_flt, foldl_snd_clk, foldl_snd_ref, foldl_snd_kennel, foldl_snd_time, foldl_snd_buf, foldl_snd_port, foldl_snd_slices, foldl_snd_tab, foldl_snd_gen, foldl_snd_core, foldl_snd_tel, foldl_snd_pwr, foldl_snd_regs, foldl_snd_cnts]; done)

@[simp] theorem State.noteTurns_keeps (p tc q k : Nat) (s : State) :
    (State.noteTurns p tc q k s).pending = s.pending ∧ (State.noteTurns p tc q k s).now = s.now ∧
    (State.noteTurns p tc q k s).serial = s.serial ∧ (State.noteTurns p tc q k s).out = s.out ∧
    (State.noteTurns p tc q k s).pins = s.pins ∧ (State.noteTurns p tc q k s).md = s.md ∧
    (State.noteTurns p tc q k s).host = s.host ∧ (State.noteTurns p tc q k s).cmds = s.cmds ∧
    (State.noteTurns p tc q k s).flt = s.flt ∧ (State.noteTurns p tc q k s).clk = s.clk ∧
    (State.noteTurns p tc q k s).ref = s.ref ∧ (State.noteTurns p tc q k s).kennel = s.kennel ∧
    (State.noteTurns p tc q k s).time = s.time ∧ (State.noteTurns p tc q k s).buf = s.buf ∧
    (State.noteTurns p tc q k s).port = s.port ∧ (State.noteTurns p tc q k s).slices = s.slices ∧
    (State.noteTurns p tc q k s).tab = s.tab ∧ (State.noteTurns p tc q k s).gen = s.gen ∧
    (State.noteTurns p tc q k s).core = s.core ∧ (State.noteTurns p tc q k s).tel = s.tel ∧
    (State.noteTurns p tc q k s).pwr = s.pwr ∧ (State.noteTurns p tc q k s).regs = s.regs ∧
    (State.noteTurns p tc q k s).cnts = s.cnts := by
  (unfold State.noteTurns; simp only [ite_self, and_self, implies_true, Ran.st_done, Ran.st_wait, Ran.st_refuse, Ran.st_ite, snd_ite, ite_pending, ite_now, ite_serial, ite_out, ite_pins, ite_md, ite_host, ite_cmds, ite_flt, ite_clk, ite_ref, ite_kennel, ite_time, ite_buf, ite_port, ite_slices, ite_tab, ite_gen, ite_core, ite_tel, ite_pwr, ite_regs, ite_cnts, foldl_pending, foldl_now, foldl_serial, foldl_out, foldl_pins, foldl_md, foldl_host, foldl_cmds, foldl_flt, foldl_clk, foldl_ref, foldl_kennel, foldl_time, foldl_buf, foldl_port, foldl_slices, foldl_tab, foldl_gen, foldl_core, foldl_tel, foldl_pwr, foldl_regs, foldl_cnts, foldl_snd_pending, foldl_snd_now, foldl_snd_serial, foldl_snd_out, foldl_snd_pins, foldl_snd_md, foldl_snd_host, foldl_snd_cmds, foldl_snd_flt, foldl_snd_clk, foldl_snd_ref, foldl_snd_kennel, foldl_snd_time, foldl_snd_buf, foldl_snd_port, foldl_snd_slices, foldl_snd_tab, foldl_snd_gen, foldl_snd_core, foldl_snd_tel, foldl_snd_pwr, foldl_snd_regs, foldl_snd_cnts]; done)

@[simp] theorem State.choose_keeps (p tc k : Nat) (d : Desc) (rest : List Desc) (s : State) :
    (State.choose p tc k d rest s).pending = s.pending ∧ (State.choose p tc k d rest s).now = s.now ∧
    (State.choose p tc k d rest s).serial = s.serial ∧ (State.choose p tc k d rest s).out = s.out ∧
    (State.choose p tc k d rest s).pins = s.pins ∧ (State.choose p tc k d rest s).md = s.md ∧
    (State.choose p tc k d rest s).host = s.host ∧ (State.choose p tc k d rest s).cmds = s.cmds ∧
    (State.choose p tc k d rest s).flt = s.flt ∧ (State.choose p tc k d rest s).clk = s.clk ∧
    (State.choose p tc k d rest s).ref = s.ref ∧ (State.choose p tc k d rest s).kennel = s.kennel ∧
    (State.choose p tc k d rest s).time = s.time ∧ (State.choose p tc k d rest s).buf = s.buf ∧
    (State.choose p tc k d rest s).port = s.port ∧ (State.choose p tc k d rest s).slices = s.slices ∧
    (State.choose p tc k d rest s).tab = s.tab ∧ (State.choose p tc k d rest s).gen = s.gen ∧
    (State.choose p tc k d rest s).tel = s.tel ∧ (State.choose p tc k d rest s).pwr = s.pwr ∧
    (State.choose p tc k d rest s).regs = s.regs := by
  (unfold State.choose; simp only [State.setQueue_keeps, State.schCount_keeps, State.chargeShapers_keeps, State.noteTurns_keeps, State.chargeDeficits_keeps, ite_self, and_self, implies_true, Ran.st_done, Ran.st_wait, Ran.st_refuse, Ran.st_ite, snd_ite, ite_pending, ite_now, ite_serial, ite_out, ite_pins, ite_md, ite_host, ite_cmds, ite_flt, ite_clk, ite_ref, ite_kennel, ite_time, ite_buf, ite_port, ite_slices, ite_tab, ite_gen, ite_tel, ite_pwr, ite_regs, foldl_pending, foldl_now, foldl_serial, foldl_out, foldl_pins, foldl_md, foldl_host, foldl_cmds, foldl_flt, foldl_clk, foldl_ref, foldl_kennel, foldl_time, foldl_buf, foldl_port, foldl_slices, foldl_tab, foldl_gen, foldl_tel, foldl_pwr, foldl_regs, foldl_snd_pending, foldl_snd_now, foldl_snd_serial, foldl_snd_out, foldl_snd_pins, foldl_snd_md, foldl_snd_host, foldl_snd_cmds, foldl_snd_flt, foldl_snd_clk, foldl_snd_ref, foldl_snd_kennel, foldl_snd_time, foldl_snd_buf, foldl_snd_port, foldl_snd_slices, foldl_snd_tab, foldl_snd_gen, foldl_snd_tel, foldl_snd_pwr, foldl_snd_regs]; done)

@[simp] theorem State.chooseNext_keeps (p : Nat) (s₀ : State) :
    (State.chooseNext p s₀).pending = s₀.pending ∧ (State.chooseNext p s₀).now = s₀.now ∧
    (State.chooseNext p s₀).serial = s₀.serial ∧ (State.chooseNext p s₀).out = s₀.out ∧
    (State.chooseNext p s₀).pins = s₀.pins ∧ (State.chooseNext p s₀).md = s₀.md ∧
    (State.chooseNext p s₀).host = s₀.host ∧ (State.chooseNext p s₀).cmds = s₀.cmds ∧
    (State.chooseNext p s₀).flt = s₀.flt ∧ (State.chooseNext p s₀).clk = s₀.clk ∧
    (State.chooseNext p s₀).ref = s₀.ref ∧ (State.chooseNext p s₀).kennel = s₀.kennel ∧
    (State.chooseNext p s₀).time = s₀.time ∧ (State.chooseNext p s₀).buf = s₀.buf ∧
    (State.chooseNext p s₀).port = s₀.port ∧ (State.chooseNext p s₀).slices = s₀.slices ∧
    (State.chooseNext p s₀).tab = s₀.tab ∧ (State.chooseNext p s₀).gen = s₀.gen ∧
    (State.chooseNext p s₀).tel = s₀.tel ∧ (State.chooseNext p s₀).pwr = s₀.pwr ∧
    (State.chooseNext p s₀).regs = s₀.regs := by
  unfold State.chooseNext
  (try dsimp only)
  (repeat' split) <;> first | (simp; done) | (rename_i q; simp [snd_of q]; done) | (rename_i q _; simp [snd_of q]; done)

@[simp] theorem State.owe_keeps (p : Nat) (t : Tx) (s : State) :
    (State.owe p t s).pending = s.pending ∧ (State.owe p t s).now = s.now ∧ (State.owe p t s).serial = s.serial ∧
    (State.owe p t s).out = s.out ∧ (State.owe p t s).pins = s.pins ∧ (State.owe p t s).md = s.md ∧
    (State.owe p t s).host = s.host ∧ (State.owe p t s).cmds = s.cmds ∧ (State.owe p t s).flt = s.flt ∧
    (State.owe p t s).clk = s.clk ∧ (State.owe p t s).ref = s.ref ∧ (State.owe p t s).kennel = s.kennel ∧
    (State.owe p t s).time = s.time ∧ (State.owe p t s).buf = s.buf ∧ (State.owe p t s).port = s.port ∧
    (State.owe p t s).slices = s.slices ∧ (State.owe p t s).tab = s.tab ∧ (State.owe p t s).gen = s.gen ∧
    (State.owe p t s).core = s.core ∧ (State.owe p t s).tel = s.tel ∧ (State.owe p t s).pwr = s.pwr ∧
    (State.owe p t s).regs = s.regs ∧ (State.owe p t s).cnts = s.cnts := by
  (unfold State.owe; simp only [State.refund_keeps, ite_self, and_self, implies_true, Ran.st_done, Ran.st_wait, Ran.st_refuse, Ran.st_ite, snd_ite, ite_pending, ite_now, ite_serial, ite_out, ite_pins, ite_md, ite_host, ite_cmds, ite_flt, ite_clk, ite_ref, ite_kennel, ite_time, ite_buf, ite_port, ite_slices, ite_tab, ite_gen, ite_core, ite_tel, ite_pwr, ite_regs, ite_cnts, foldl_pending, foldl_now, foldl_serial, foldl_out, foldl_pins, foldl_md, foldl_host, foldl_cmds, foldl_flt, foldl_clk, foldl_ref, foldl_kennel, foldl_time, foldl_buf, foldl_port, foldl_slices, foldl_tab, foldl_gen, foldl_core, foldl_tel, foldl_pwr, foldl_regs, foldl_cnts, foldl_snd_pending, foldl_snd_now, foldl_snd_serial, foldl_snd_out, foldl_snd_pins, foldl_snd_md, foldl_snd_host, foldl_snd_cmds, foldl_snd_flt, foldl_snd_clk, foldl_snd_ref, foldl_snd_kennel, foldl_snd_time, foldl_snd_buf, foldl_snd_port, foldl_snd_slices, foldl_snd_tab, foldl_snd_gen, foldl_snd_core, foldl_snd_tel, foldl_snd_pwr, foldl_snd_regs, foldl_snd_cnts]; done)

@[simp] theorem State.setPolicer_keeps (sl i : Nat) (x : Policer) (s : State) :
    (State.setPolicer sl i x s).pending = s.pending ∧ (State.setPolicer sl i x s).now = s.now ∧
    (State.setPolicer sl i x s).serial = s.serial ∧ (State.setPolicer sl i x s).out = s.out ∧
    (State.setPolicer sl i x s).pins = s.pins ∧ (State.setPolicer sl i x s).md = s.md ∧
    (State.setPolicer sl i x s).host = s.host ∧ (State.setPolicer sl i x s).cmds = s.cmds ∧
    (State.setPolicer sl i x s).flt = s.flt ∧ (State.setPolicer sl i x s).clk = s.clk ∧
    (State.setPolicer sl i x s).ref = s.ref ∧ (State.setPolicer sl i x s).kennel = s.kennel ∧
    (State.setPolicer sl i x s).time = s.time ∧ (State.setPolicer sl i x s).buf = s.buf ∧
    (State.setPolicer sl i x s).port = s.port ∧ (State.setPolicer sl i x s).slices = s.slices ∧
    (State.setPolicer sl i x s).tab = s.tab ∧ (State.setPolicer sl i x s).gen = s.gen ∧
    (State.setPolicer sl i x s).core = s.core ∧ (State.setPolicer sl i x s).tel = s.tel ∧
    (State.setPolicer sl i x s).pwr = s.pwr ∧ (State.setPolicer sl i x s).regs = s.regs ∧
    (State.setPolicer sl i x s).cnts = s.cnts := by
  (unfold State.setPolicer; simp only [ite_self, and_self, implies_true, Ran.st_done, Ran.st_wait, Ran.st_refuse, Ran.st_ite, snd_ite, foldl_pending, foldl_now, foldl_serial, foldl_out, foldl_pins, foldl_md, foldl_host, foldl_cmds, foldl_flt, foldl_clk, foldl_ref, foldl_kennel, foldl_time, foldl_buf, foldl_port, foldl_slices, foldl_tab, foldl_gen, foldl_core, foldl_tel, foldl_pwr, foldl_regs, foldl_cnts, foldl_snd_pending, foldl_snd_now, foldl_snd_serial, foldl_snd_out, foldl_snd_pins, foldl_snd_md, foldl_snd_host, foldl_snd_cmds, foldl_snd_flt, foldl_snd_clk, foldl_snd_ref, foldl_snd_kennel, foldl_snd_time, foldl_snd_buf, foldl_snd_port, foldl_snd_slices, foldl_snd_tab, foldl_snd_gen, foldl_snd_core, foldl_snd_tel, foldl_snd_pwr, foldl_snd_regs, foldl_snd_cnts]; done)

@[simp] theorem State.settlePolicers_keeps (s : State) :
    (State.settlePolicers s).pending = s.pending ∧ (State.settlePolicers s).now = s.now ∧
    (State.settlePolicers s).serial = s.serial ∧ (State.settlePolicers s).out = s.out ∧
    (State.settlePolicers s).pins = s.pins ∧ (State.settlePolicers s).md = s.md ∧
    (State.settlePolicers s).host = s.host ∧ (State.settlePolicers s).cmds = s.cmds ∧
    (State.settlePolicers s).flt = s.flt ∧ (State.settlePolicers s).clk = s.clk ∧
    (State.settlePolicers s).ref = s.ref ∧ (State.settlePolicers s).kennel = s.kennel ∧
    (State.settlePolicers s).time = s.time ∧ (State.settlePolicers s).buf = s.buf ∧
    (State.settlePolicers s).port = s.port ∧ (State.settlePolicers s).slices = s.slices ∧
    (State.settlePolicers s).tab = s.tab ∧ (State.settlePolicers s).gen = s.gen ∧
    (State.settlePolicers s).core = s.core ∧ (State.settlePolicers s).tel = s.tel ∧
    (State.settlePolicers s).pwr = s.pwr ∧ (State.settlePolicers s).regs = s.regs ∧
    (State.settlePolicers s).cnts = s.cnts := by
  (unfold State.settlePolicers; simp only [ite_self, and_self, implies_true, Ran.st_done, Ran.st_wait, Ran.st_refuse, Ran.st_ite, snd_ite, foldl_pending, foldl_now, foldl_serial, foldl_out, foldl_pins, foldl_md, foldl_host, foldl_cmds, foldl_flt, foldl_clk, foldl_ref, foldl_kennel, foldl_time, foldl_buf, foldl_port, foldl_slices, foldl_tab, foldl_gen, foldl_core, foldl_tel, foldl_pwr, foldl_regs, foldl_cnts, foldl_snd_pending, foldl_snd_now, foldl_snd_serial, foldl_snd_out, foldl_snd_pins, foldl_snd_md, foldl_snd_host, foldl_snd_cmds, foldl_snd_flt, foldl_snd_clk, foldl_snd_ref, foldl_snd_kennel, foldl_snd_time, foldl_snd_buf, foldl_snd_port, foldl_snd_slices, foldl_snd_tab, foldl_snd_gen, foldl_snd_core, foldl_snd_tel, foldl_snd_pwr, foldl_snd_regs, foldl_snd_cnts]; done)

@[simp] theorem State.sampleQueue_keeps (s : State) (k : Nat) (ks : List Nat) :
    (State.sampleQueue s k ks).pending = s.pending ∧ (State.sampleQueue s k ks).now = s.now ∧
    (State.sampleQueue s k ks).serial = s.serial ∧ (State.sampleQueue s k ks).out = s.out ∧
    (State.sampleQueue s k ks).pins = s.pins ∧ (State.sampleQueue s k ks).md = s.md ∧
    (State.sampleQueue s k ks).host = s.host ∧ (State.sampleQueue s k ks).cmds = s.cmds ∧
    (State.sampleQueue s k ks).flt = s.flt ∧ (State.sampleQueue s k ks).clk = s.clk ∧
    (State.sampleQueue s k ks).ref = s.ref ∧ (State.sampleQueue s k ks).kennel = s.kennel ∧
    (State.sampleQueue s k ks).time = s.time ∧ (State.sampleQueue s k ks).buf = s.buf ∧
    (State.sampleQueue s k ks).port = s.port ∧ (State.sampleQueue s k ks).slices = s.slices ∧
    (State.sampleQueue s k ks).tab = s.tab ∧ (State.sampleQueue s k ks).gen = s.gen ∧
    (State.sampleQueue s k ks).core = s.core ∧ (State.sampleQueue s k ks).tel = s.tel ∧
    (State.sampleQueue s k ks).pwr = s.pwr ∧ (State.sampleQueue s k ks).regs = s.regs ∧
    (State.sampleQueue s k ks).cnts = s.cnts := by
  (unfold State.sampleQueue; simp only [ite_self, and_self, implies_true, Ran.st_done, Ran.st_wait, Ran.st_refuse, Ran.st_ite, snd_ite, foldl_pending, foldl_now, foldl_serial, foldl_out, foldl_pins, foldl_md, foldl_host, foldl_cmds, foldl_flt, foldl_clk, foldl_ref, foldl_kennel, foldl_time, foldl_buf, foldl_port, foldl_slices, foldl_tab, foldl_gen, foldl_core, foldl_tel, foldl_pwr, foldl_regs, foldl_cnts, foldl_snd_pending, foldl_snd_now, foldl_snd_serial, foldl_snd_out, foldl_snd_pins, foldl_snd_md, foldl_snd_host, foldl_snd_cmds, foldl_snd_flt, foldl_snd_clk, foldl_snd_ref, foldl_snd_kennel, foldl_snd_time, foldl_snd_buf, foldl_snd_port, foldl_snd_slices, foldl_snd_tab, foldl_snd_gen, foldl_snd_core, foldl_snd_tel, foldl_snd_pwr, foldl_snd_regs, foldl_snd_cnts]; done)
end Sys2Proof.Machine
end

