-- ==== Sys2Proof/Laws/KeepsCopies.lean ====
section
/-! SUPPORT. What each operation of Machine/Copies.lean keeps: the parts of the state that it leaves as they are. -/
set_option linter.unusedSimpArgs false
set_option linter.unusedVariables false
namespace Sys2Proof.Machine
open Host (Outcome)

@[simp] theorem State.coreCount_keeps (i n : Nat) (s : State) :
    (State.coreCount i n s).pending = s.pending ∧ (State.coreCount i n s).now = s.now ∧
    (State.coreCount i n s).serial = s.serial ∧ (State.coreCount i n s).out = s.out ∧
    (State.coreCount i n s).pins = s.pins ∧ (State.coreCount i n s).md = s.md ∧
    (State.coreCount i n s).host = s.host ∧ (State.coreCount i n s).cmds = s.cmds ∧
    (State.coreCount i n s).flt = s.flt ∧ (State.coreCount i n s).clk = s.clk ∧
    (State.coreCount i n s).ref = s.ref ∧ (State.coreCount i n s).kennel = s.kennel ∧
    (State.coreCount i n s).time = s.time ∧ (State.coreCount i n s).buf = s.buf ∧
    (State.coreCount i n s).port = s.port ∧ (State.coreCount i n s).slices = s.slices ∧
    (State.coreCount i n s).tab = s.tab ∧ (State.coreCount i n s).gen = s.gen ∧
    (State.coreCount i n s).core = s.core ∧ (State.coreCount i n s).sch = s.sch ∧
    (State.coreCount i n s).tel = s.tel ∧ (State.coreCount i n s).pwr = s.pwr ∧
    (State.coreCount i n s).regs = s.regs := by
  (unfold State.coreCount; simp only [State.count_keeps, ite_self, and_self, implies_true, Ran.st_done, Ran.st_wait, Ran.st_refuse, Ran.st_ite, snd_ite, foldl_pending, foldl_now, foldl_serial, foldl_out, foldl_pins, foldl_md, foldl_host, foldl_cmds, foldl_flt, foldl_clk, foldl_ref, foldl_kennel, foldl_time, foldl_buf, foldl_port, foldl_slices, foldl_tab, foldl_gen, foldl_core, foldl_sch, foldl_tel, foldl_pwr, foldl_regs, foldl_snd_pending, foldl_snd_now, foldl_snd_serial, foldl_snd_out, foldl_snd_pins, foldl_snd_md, foldl_snd_host, foldl_snd_cmds, foldl_snd_flt, foldl_snd_clk, foldl_snd_ref, foldl_snd_kennel, foldl_snd_time, foldl_snd_buf, foldl_snd_port, foldl_snd_slices, foldl_snd_tab, foldl_snd_gen, foldl_snd_core, foldl_snd_sch, foldl_snd_tel, foldl_snd_pwr, foldl_snd_regs]; done)

@[simp] theorem State.push_keeps (k : Nat) (d : Desc) (s : State) :
    (State.push k d s).pending = s.pending ∧ (State.push k d s).now = s.now ∧
    (State.push k d s).serial = s.serial ∧ (State.push k d s).out = s.out ∧ (State.push k d s).pins = s.pins ∧
    (State.push k d s).md = s.md ∧ (State.push k d s).host = s.host ∧ (State.push k d s).cmds = s.cmds ∧
    (State.push k d s).flt = s.flt ∧ (State.push k d s).clk = s.clk ∧ (State.push k d s).ref = s.ref ∧
    (State.push k d s).kennel = s.kennel ∧ (State.push k d s).time = s.time ∧ (State.push k d s).buf = s.buf ∧
    (State.push k d s).port = s.port ∧ (State.push k d s).slices = s.slices ∧ (State.push k d s).tab = s.tab ∧
    (State.push k d s).gen = s.gen ∧ (State.push k d s).sch = s.sch ∧ (State.push k d s).tel = s.tel ∧
    (State.push k d s).pwr = s.pwr ∧ (State.push k d s).regs = s.regs := by
  (unfold State.push; simp only [State.coreCount_keeps, State.setQueue_keeps, ite_self, and_self, implies_true, Ran.st_done, Ran.st_wait, Ran.st_refuse, Ran.st_ite, snd_ite, foldl_pending, foldl_now, foldl_serial, foldl_out, foldl_pins, foldl_md, foldl_host, foldl_cmds, foldl_flt, foldl_clk, foldl_ref, foldl_kennel, foldl_time, foldl_buf, foldl_port, foldl_slices, foldl_tab, foldl_gen, foldl_sch, foldl_tel, foldl_pwr, foldl_regs, foldl_snd_pending, foldl_snd_now, foldl_snd_serial, foldl_snd_out, foldl_snd_pins, foldl_snd_md, foldl_snd_host, foldl_snd_cmds, foldl_snd_flt, foldl_snd_clk, foldl_snd_ref, foldl_snd_kennel, foldl_snd_time, foldl_snd_buf, foldl_snd_port, foldl_snd_slices, foldl_snd_tab, foldl_snd_gen, foldl_snd_sch, foldl_snd_tel, foldl_snd_pwr, foldl_snd_regs]; done)

@[simp] theorem State.offer_keeps (k : Nat) (d : Desc) (s : State) :
    (State.offer k d s).pending = s.pending ∧ (State.offer k d s).now = s.now ∧
    (State.offer k d s).serial = s.serial ∧ (State.offer k d s).out = s.out ∧ (State.offer k d s).pins = s.pins ∧
    (State.offer k d s).md = s.md ∧ (State.offer k d s).host = s.host ∧ (State.offer k d s).cmds = s.cmds ∧
    (State.offer k d s).flt = s.flt ∧ (State.offer k d s).clk = s.clk ∧ (State.offer k d s).ref = s.ref ∧
    (State.offer k d s).kennel = s.kennel ∧ (State.offer k d s).time = s.time ∧ (State.offer k d s).buf = s.buf ∧
    (State.offer k d s).port = s.port ∧ (State.offer k d s).slices = s.slices ∧ (State.offer k d s).tab = s.tab ∧
    (State.offer k d s).gen = s.gen ∧ (State.offer k d s).sch = s.sch ∧ (State.offer k d s).tel = s.tel ∧
    (State.offer k d s).pwr = s.pwr ∧ (State.offer k d s).regs = s.regs := by
  (unfold State.offer; simp only [State.push_keeps, ite_self, and_self, implies_true, Ran.st_done, Ran.st_wait, Ran.st_refuse, Ran.st_ite, snd_ite, ite_pending, ite_now, ite_serial, ite_out, ite_pins, ite_md, ite_host, ite_cmds, ite_flt, ite_clk, ite_ref, ite_kennel, ite_time, ite_buf, ite_port, ite_slices, ite_tab, ite_gen, ite_sch, ite_tel, ite_pwr, ite_regs, foldl_pending, foldl_now, foldl_serial, foldl_out, foldl_pins, foldl_md, foldl_host, foldl_cmds, foldl_flt, foldl_clk, foldl_ref, foldl_kennel, foldl_time, foldl_buf, foldl_port, foldl_slices, foldl_tab, foldl_gen, foldl_sch, foldl_tel, foldl_pwr, foldl_regs, foldl_snd_pending, foldl_snd_now, foldl_snd_serial, foldl_snd_out, foldl_snd_pins, foldl_snd_md, foldl_snd_host, foldl_snd_cmds, foldl_snd_flt, foldl_snd_clk, foldl_snd_ref, foldl_snd_kennel, foldl_snd_time, foldl_snd_buf, foldl_snd_port, foldl_snd_slices, foldl_snd_tab, foldl_snd_gen, foldl_snd_sch, foldl_snd_tel, foldl_snd_pwr, foldl_snd_regs]; done)

@[simp] theorem State.countDrop_keeps (r : Nat) (inPort : Option Nat) (s₀ : State) :
    (State.countDrop r inPort s₀).pending = s₀.pending ∧ (State.countDrop r inPort s₀).now = s₀.now ∧
    (State.countDrop r inPort s₀).serial = s₀.serial ∧ (State.countDrop r inPort s₀).out = s₀.out ∧
    (State.countDrop r inPort s₀).pins = s₀.pins ∧ (State.countDrop r inPort s₀).md = s₀.md ∧
    (State.countDrop r inPort s₀).host = s₀.host ∧ (State.countDrop r inPort s₀).cmds = s₀.cmds ∧
    (State.countDrop r inPort s₀).flt = s₀.flt ∧ (State.countDrop r inPort s₀).clk = s₀.clk ∧
    (State.countDrop r inPort s₀).ref = s₀.ref ∧ (State.countDrop r inPort s₀).kennel = s₀.kennel ∧
    (State.countDrop r inPort s₀).time = s₀.time ∧ (State.countDrop r inPort s₀).buf = s₀.buf ∧
    (State.countDrop r inPort s₀).port = s₀.port ∧ (State.countDrop r inPort s₀).slices = s₀.slices ∧
    (State.countDrop r inPort s₀).tab = s₀.tab ∧ (State.countDrop r inPort s₀).gen = s₀.gen ∧
    (State.countDrop r inPort s₀).core = s₀.core ∧ (State.countDrop r inPort s₀).sch = s₀.sch ∧
    (State.countDrop r inPort s₀).tel = s₀.tel ∧ (State.countDrop r inPort s₀).pwr = s₀.pwr ∧
    (State.countDrop r inPort s₀).regs = s₀.regs := by
  unfold State.countDrop
  dsimp only
  (repeat' split) <;> simp

@[simp] theorem State.setMir_keeps (m : Nat) (x : Mir) (s : State) :
    (State.setMir m x s).pending = s.pending ∧ (State.setMir m x s).now = s.now ∧
    (State.setMir m x s).serial = s.serial ∧ (State.setMir m x s).out = s.out ∧
    (State.setMir m x s).pins = s.pins ∧ (State.setMir m x s).md = s.md ∧ (State.setMir m x s).host = s.host ∧
    (State.setMir m x s).cmds = s.cmds ∧ (State.setMir m x s).flt = s.flt ∧ (State.setMir m x s).clk = s.clk ∧
    (State.setMir m x s).ref = s.ref ∧ (State.setMir m x s).kennel = s.kennel ∧
    (State.setMir m x s).time = s.time ∧ (State.setMir m x s).buf = s.buf ∧ (State.setMir m x s).port = s.port ∧
    (State.setMir m x s).slices = s.slices ∧ (State.setMir m x s).tab = s.tab ∧ (State.setMir m x s).gen = s.gen ∧
    (State.setMir m x s).sch = s.sch ∧ (State.setMir m x s).tel = s.tel ∧ (State.setMir m x s).pwr = s.pwr ∧
    (State.setMir m x s).regs = s.regs ∧ (State.setMir m x s).cnts = s.cnts := by
  (unfold State.setMir; simp only [ite_self, and_self, implies_true, Ran.st_done, Ran.st_wait, Ran.st_refuse, Ran.st_ite, snd_ite, foldl_pending, foldl_now, foldl_serial, foldl_out, foldl_pins, foldl_md, foldl_host, foldl_cmds, foldl_flt, foldl_clk, foldl_ref, foldl_kennel, foldl_time, foldl_buf, foldl_port, foldl_slices, foldl_tab, foldl_gen, foldl_sch, foldl_tel, foldl_pwr, foldl_regs, foldl_cnts, foldl_snd_pending, foldl_snd_now, foldl_snd_serial, foldl_snd_out, foldl_snd_pins, foldl_snd_md, foldl_snd_host, foldl_snd_cmds, foldl_snd_flt, foldl_snd_clk, foldl_snd_ref, foldl_snd_kennel, foldl_snd_time, foldl_snd_buf, foldl_snd_port, foldl_snd_slices, foldl_snd_tab, foldl_snd_gen, foldl_snd_sch, foldl_snd_tel, foldl_snd_pwr, foldl_snd_regs, foldl_snd_cnts]; done)

@[simp] theorem State.mirTakes_keeps (m : Nat) (s : State) :
    (State.mirTakes m s).2.pending = s.pending ∧ (State.mirTakes m s).2.now = s.now ∧
    (State.mirTakes m s).2.serial = s.serial ∧ (State.mirTakes m s).2.out = s.out ∧
    (State.mirTakes m s).2.pins = s.pins ∧ (State.mirTakes m s).2.md = s.md ∧
    (State.mirTakes m s).2.host = s.host ∧ (State.mirTakes m s).2.cmds = s.cmds ∧
    (State.mirTakes m s).2.flt = s.flt ∧ (State.mirTakes m s).2.clk = s.clk ∧ (State.mirTakes m s).2.ref = s.ref ∧
    (State.mirTakes m s).2.kennel = s.kennel ∧ (State.mirTakes m s).2.time = s.time ∧
    (State.mirTakes m s).2.buf = s.buf ∧ (State.mirTakes m s).2.port = s.port ∧
    (State.mirTakes m s).2.slices = s.slices ∧ (State.mirTakes m s).2.tab = s.tab ∧
    (State.mirTakes m s).2.gen = s.gen ∧ (State.mirTakes m s).2.sch = s.sch ∧ (State.mirTakes m s).2.tel = s.tel ∧
    (State.mirTakes m s).2.pwr = s.pwr ∧ (State.mirTakes m s).2.regs = s.regs ∧
    (State.mirTakes m s).2.cnts = s.cnts := by
  (unfold State.mirTakes; simp only [State.setMir_keeps, ite_self, and_self, implies_true, Ran.st_done, Ran.st_wait, Ran.st_refuse, Ran.st_ite, snd_ite, foldl_pending, foldl_now, foldl_serial, foldl_out, foldl_pins, foldl_md, foldl_host, foldl_cmds, foldl_flt, foldl_clk, foldl_ref, foldl_kennel, foldl_time, foldl_buf, foldl_port, foldl_slices, foldl_tab, foldl_gen, foldl_sch, foldl_tel, foldl_pwr, foldl_regs, foldl_cnts, foldl_snd_pending, foldl_snd_now, foldl_snd_serial, foldl_snd_out, foldl_snd_pins, foldl_snd_md, foldl_snd_host, foldl_snd_cmds, foldl_snd_flt, foldl_snd_clk, foldl_snd_ref, foldl_snd_kennel, foldl_snd_time, foldl_snd_buf, foldl_snd_port, foldl_snd_slices, foldl_snd_tab, foldl_snd_gen, foldl_snd_sch, foldl_snd_tel, foldl_snd_pwr, foldl_snd_regs, foldl_snd_cnts]; done)

@[simp] theorem copyTaken_keeps (d : Desc) (owner len : Nat) (shared : Option Nat) (r : Took × State) :
    (copyTaken d owner len shared r).2.pending = r.2.pending ∧ (copyTaken d owner len shared r).2.now = r.2.now ∧
    (copyTaken d owner len shared r).2.serial = r.2.serial ∧ (copyTaken d owner len shared r).2.out = r.2.out ∧
    (copyTaken d owner len shared r).2.pins = r.2.pins ∧ (copyTaken d owner len shared r).2.md = r.2.md ∧
    (copyTaken d owner len shared r).2.host = r.2.host ∧ (copyTaken d owner len shared r).2.cmds = r.2.cmds ∧
    (copyTaken d owner len shared r).2.flt = r.2.flt ∧ (copyTaken d owner len shared r).2.clk = r.2.clk ∧
    (copyTaken d owner len shared r).2.ref = r.2.ref ∧ (copyTaken d owner len shared r).2.kennel = r.2.kennel ∧
    (copyTaken d owner len shared r).2.time = r.2.time ∧ (copyTaken d owner len shared r).2.buf = r.2.buf ∧
    (copyTaken d owner len shared r).2.port = r.2.port ∧ (copyTaken d owner len shared r).2.slices = r.2.slices ∧
    (copyTaken d owner len shared r).2.tab = r.2.tab ∧ (copyTaken d owner len shared r).2.gen = r.2.gen ∧
    (copyTaken d owner len shared r).2.core = r.2.core ∧ (copyTaken d owner len shared r).2.sch = r.2.sch ∧
    (copyTaken d owner len shared r).2.tel = r.2.tel ∧ (copyTaken d owner len shared r).2.pwr = r.2.pwr ∧
    (copyTaken d owner len shared r).2.regs = r.2.regs ∧ (copyTaken d owner len shared r).2.cnts = r.2.cnts := by
  (unfold copyTaken; split <;> simp only [ite_self, and_self, implies_true, Ran.st_done, Ran.st_wait, Ran.st_refuse, Ran.st_ite, snd_ite, ite_pending, ite_now, ite_serial, ite_out, ite_pins, ite_md, ite_host, ite_cmds, ite_flt, ite_clk, ite_ref, ite_kennel, ite_time, ite_buf, ite_port, ite_slices, ite_tab, ite_gen, ite_core, ite_sch, ite_tel, ite_pwr, ite_regs, ite_cnts, foldl_pending, foldl_now, foldl_serial, foldl_out, foldl_pins, foldl_md, foldl_host, foldl_cmds, foldl_flt, foldl_clk, foldl_ref, foldl_kennel, foldl_time, foldl_buf, foldl_port, foldl_slices, foldl_tab, foldl_gen, foldl_core, foldl_sch, foldl_tel, foldl_pwr, foldl_regs, foldl_cnts, foldl_snd_pending, foldl_snd_now, foldl_snd_serial, foldl_snd_out, foldl_snd_pins, foldl_snd_md, foldl_snd_host, foldl_snd_cmds, foldl_snd_flt, foldl_snd_clk, foldl_snd_ref, foldl_snd_kennel, foldl_snd_time, foldl_snd_buf, foldl_snd_port, foldl_snd_slices, foldl_snd_tab, foldl_snd_gen, foldl_snd_core, foldl_snd_sch, foldl_snd_tel, foldl_snd_pwr, foldl_snd_regs, foldl_snd_cnts])

@[simp] theorem State.makeCopy_keeps (m q : Nat) (pick : Draw) (d : Desc) (o : Orig) (s : State) :
    (State.makeCopy m q pick d o s).2.pending = s.pending ∧ (State.makeCopy m q pick d o s).2.now = s.now ∧
    (State.makeCopy m q pick d o s).2.serial = s.serial ∧ (State.makeCopy m q pick d o s).2.out = s.out ∧
    (State.makeCopy m q pick d o s).2.pins = s.pins ∧ (State.makeCopy m q pick d o s).2.md = s.md ∧
    (State.makeCopy m q pick d o s).2.host = s.host ∧ (State.makeCopy m q pick d o s).2.cmds = s.cmds ∧
    (State.makeCopy m q pick d o s).2.clk = s.clk ∧ (State.makeCopy m q pick d o s).2.ref = s.ref ∧
    (State.makeCopy m q pick d o s).2.kennel = s.kennel ∧ (State.makeCopy m q pick d o s).2.time = s.time ∧
    (State.makeCopy m q pick d o s).2.port = s.port ∧ (State.makeCopy m q pick d o s).2.slices = s.slices ∧
    (State.makeCopy m q pick d o s).2.tab = s.tab ∧ (State.makeCopy m q pick d o s).2.gen = s.gen ∧
    (State.makeCopy m q pick d o s).2.sch = s.sch ∧ (State.makeCopy m q pick d o s).2.tel = s.tel ∧
    (State.makeCopy m q pick d o s).2.pwr = s.pwr ∧ (State.makeCopy m q pick d o s).2.regs = s.regs ∧
    (State.makeCopy m q pick d o s).2.flt.keel0 = s.flt.keel0 ∧
    (State.makeCopy m q pick d o s).2.flt.keel1 = s.flt.keel1 := by
  unfold State.makeCopy
  dsimp only
  (repeat' split) <;> simp

@[simp] theorem State.mirDiscard_keeps (o : Orig) (s : State) :
    (State.mirDiscard o s).pending = s.pending ∧ (State.mirDiscard o s).now = s.now ∧
    (State.mirDiscard o s).serial = s.serial ∧ (State.mirDiscard o s).out = s.out ∧
    (State.mirDiscard o s).pins = s.pins ∧ (State.mirDiscard o s).md = s.md ∧
    (State.mirDiscard o s).host = s.host ∧ (State.mirDiscard o s).cmds = s.cmds ∧
    (State.mirDiscard o s).flt = s.flt ∧ (State.mirDiscard o s).clk = s.clk ∧ (State.mirDiscard o s).ref = s.ref ∧
    (State.mirDiscard o s).kennel = s.kennel ∧ (State.mirDiscard o s).time = s.time ∧
    (State.mirDiscard o s).buf = s.buf ∧ (State.mirDiscard o s).port = s.port ∧
    (State.mirDiscard o s).slices = s.slices ∧ (State.mirDiscard o s).tab = s.tab ∧
    (State.mirDiscard o s).gen = s.gen ∧ (State.mirDiscard o s).core = s.core ∧
    (State.mirDiscard o s).sch = s.sch ∧ (State.mirDiscard o s).tel = s.tel ∧ (State.mirDiscard o s).pwr = s.pwr ∧
    (State.mirDiscard o s).regs = s.regs := by
  (unfold State.mirDiscard; simp only [State.countDrop_keeps, ite_self, and_self, implies_true, Ran.st_done, Ran.st_wait, Ran.st_refuse, Ran.st_ite, snd_ite, foldl_pending, foldl_now, foldl_serial, foldl_out, foldl_pins, foldl_md, foldl_host, foldl_cmds, foldl_flt, foldl_clk, foldl_ref, foldl_kennel, foldl_time, foldl_buf, foldl_port, foldl_slices, foldl_tab, foldl_gen, foldl_core, foldl_sch, foldl_tel, foldl_pwr, foldl_regs, foldl_snd_pending, foldl_snd_now, foldl_snd_serial, foldl_snd_out, foldl_snd_pins, foldl_snd_md, foldl_snd_host, foldl_snd_cmds, foldl_snd_flt, foldl_snd_clk, foldl_snd_ref, foldl_snd_kennel, foldl_snd_time, foldl_snd_buf, foldl_snd_port, foldl_snd_slices, foldl_snd_tab, foldl_snd_gen, foldl_snd_core, foldl_snd_sch, foldl_snd_tel, foldl_snd_pwr, foldl_snd_regs]; done)

@[simp] theorem State.mirLost_keeps (x : Made) (o : Orig) (s : State) :
    (State.mirLost x o s).pending = s.pending ∧ (State.mirLost x o s).now = s.now ∧
    (State.mirLost x o s).serial = s.serial ∧ (State.mirLost x o s).out = s.out ∧
    (State.mirLost x o s).pins = s.pins ∧ (State.mirLost x o s).md = s.md ∧ (State.mirLost x o s).host = s.host ∧
    (State.mirLost x o s).cmds = s.cmds ∧ (State.mirLost x o s).flt = s.flt ∧ (State.mirLost x o s).clk = s.clk ∧
    (State.mirLost x o s).ref = s.ref ∧ (State.mirLost x o s).kennel = s.kennel ∧
    (State.mirLost x o s).time = s.time ∧ (State.mirLost x o s).buf = s.buf ∧ (State.mirLost x o s).port = s.port ∧
    (State.mirLost x o s).slices = s.slices ∧ (State.mirLost x o s).tab = s.tab ∧
    (State.mirLost x o s).gen = s.gen ∧ (State.mirLost x o s).core = s.core ∧ (State.mirLost x o s).sch = s.sch ∧
    (State.mirLost x o s).tel = s.tel ∧ (State.mirLost x o s).pwr = s.pwr ∧ (State.mirLost x o s).regs = s.regs := by
  (unfold State.mirLost; split <;> simp only [State.mirDiscard_keeps, State.countDrop_keeps, ite_self, and_self, implies_true, Ran.st_done, Ran.st_wait, Ran.st_refuse, Ran.st_ite, snd_ite, ite_pending, ite_now, ite_serial, ite_out, ite_pins, ite_md, ite_host, ite_cmds, ite_flt, ite_clk, ite_ref, ite_kennel, ite_time, ite_buf, ite_port, ite_slices, ite_tab, ite_gen, ite_core, ite_sch, ite_tel, ite_pwr, ite_regs, foldl_pending, foldl_now, foldl_serial, foldl_out, foldl_pins, foldl_md, foldl_host, foldl_cmds, foldl_flt, foldl_clk, foldl_ref, foldl_kennel, foldl_time, foldl_buf, foldl_port, foldl_slices, foldl_tab, foldl_gen, foldl_core, foldl_sch, foldl_tel, foldl_pwr, foldl_regs, foldl_snd_pending, foldl_snd_now, foldl_snd_serial, foldl_snd_out, foldl_snd_pins, foldl_snd_md, foldl_snd_host, foldl_snd_cmds, foldl_snd_flt, foldl_snd_clk, foldl_snd_ref, foldl_snd_kennel, foldl_snd_time, foldl_snd_buf, foldl_snd_port, foldl_snd_slices, foldl_snd_tab, foldl_snd_gen, foldl_snd_core, foldl_snd_sch, foldl_snd_tel, foldl_snd_pwr, foldl_snd_regs])

@[simp] theorem State.putFallback_keeps (m : Nat) (d : Desc) (s : State) :
    (State.putFallback m d s).pending = s.pending ∧ (State.putFallback m d s).now = s.now ∧
    (State.putFallback m d s).serial = s.serial ∧ (State.putFallback m d s).out = s.out ∧
    (State.putFallback m d s).pins = s.pins ∧ (State.putFallback m d s).md = s.md ∧
    (State.putFallback m d s).host = s.host ∧ (State.putFallback m d s).cmds = s.cmds ∧
    (State.putFallback m d s).flt = s.flt ∧ (State.putFallback m d s).clk = s.clk ∧
    (State.putFallback m d s).ref = s.ref ∧ (State.putFallback m d s).kennel = s.kennel ∧
    (State.putFallback m d s).time = s.time ∧ (State.putFallback m d s).buf = s.buf ∧
    (State.putFallback m d s).port = s.port ∧ (State.putFallback m d s).slices = s.slices ∧
    (State.putFallback m d s).tab = s.tab ∧ (State.putFallback m d s).gen = s.gen ∧
    (State.putFallback m d s).sch = s.sch ∧ (State.putFallback m d s).tel = s.tel ∧
    (State.putFallback m d s).pwr = s.pwr ∧ (State.putFallback m d s).regs = s.regs := by
  (unfold State.putFallback; simp only [State.coreCount_keeps, State.setMir_keeps, State.offer_keeps, ite_self, and_self, implies_true, Ran.st_done, Ran.st_wait, Ran.st_refuse, Ran.st_ite, snd_ite, foldl_pending, foldl_now, foldl_serial, foldl_out, foldl_pins, foldl_md, foldl_host, foldl_cmds, foldl_flt, foldl_clk, foldl_ref, foldl_kennel, foldl_time, foldl_buf, foldl_port, foldl_slices, foldl_tab, foldl_gen, foldl_sch, foldl_tel, foldl_pwr, foldl_regs, foldl_snd_pending, foldl_snd_now, foldl_snd_serial, foldl_snd_out, foldl_snd_pins, foldl_snd_md, foldl_snd_host, foldl_snd_cmds, foldl_snd_flt, foldl_snd_clk, foldl_snd_ref, foldl_snd_kennel, foldl_snd_time, foldl_snd_buf, foldl_snd_port, foldl_snd_slices, foldl_snd_tab, foldl_snd_gen, foldl_snd_sch, foldl_snd_tel, foldl_snd_pwr, foldl_snd_regs]; done)

@[simp] theorem State.fallbackCopy_keeps (m : Nat) (pick : Draw) (o : Orig) (s : State) :
    (State.fallbackCopy m pick o s).pending = s.pending ∧ (State.fallbackCopy m pick o s).now = s.now ∧
    (State.fallbackCopy m pick o s).serial = s.serial ∧ (State.fallbackCopy m pick o s).out = s.out ∧
    (State.fallbackCopy m pick o s).pins = s.pins ∧ (State.fallbackCopy m pick o s).md = s.md ∧
    (State.fallbackCopy m pick o s).host = s.host ∧ (State.fallbackCopy m pick o s).cmds = s.cmds ∧
    (State.fallbackCopy m pick o s).clk = s.clk ∧ (State.fallbackCopy m pick o s).ref = s.ref ∧
    (State.fallbackCopy m pick o s).kennel = s.kennel ∧ (State.fallbackCopy m pick o s).time = s.time ∧
    (State.fallbackCopy m pick o s).port = s.port ∧ (State.fallbackCopy m pick o s).slices = s.slices ∧
    (State.fallbackCopy m pick o s).tab = s.tab ∧ (State.fallbackCopy m pick o s).gen = s.gen ∧
    (State.fallbackCopy m pick o s).sch = s.sch ∧ (State.fallbackCopy m pick o s).tel = s.tel ∧
    (State.fallbackCopy m pick o s).pwr = s.pwr ∧ (State.fallbackCopy m pick o s).regs = s.regs ∧
    (State.fallbackCopy m pick o s).flt.keel0 = s.flt.keel0 ∧
    (State.fallbackCopy m pick o s).flt.keel1 = s.flt.keel1 := by
  unfold State.fallbackCopy
  dsimp only
  (repeat' split) <;> (try simp) <;> rename_i q1 <;> simp [snd_of q1]

@[simp] theorem State.captureRecord_keeps (m code : Nat) (egress : Option Nat) (time reason : Nat) (bad : Bool) (o : Orig) (s : State) :
    (State.captureRecord m code egress time reason bad o s).pending = s.pending ∧
    (State.captureRecord m code egress time reason bad o s).now = s.now ∧
    (State.captureRecord m code egress time reason bad o s).serial = s.serial ∧
    (State.captureRecord m code egress time reason bad o s).pins = s.pins ∧
    (State.captureRecord m code egress time reason bad o s).md = s.md ∧
    (State.captureRecord m code egress time reason bad o s).cmds = s.cmds ∧
    (State.captureRecord m code egress time reason bad o s).clk = s.clk ∧
    (State.captureRecord m code egress time reason bad o s).ref = s.ref ∧
    (State.captureRecord m code egress time reason bad o s).kennel = s.kennel ∧
    (State.captureRecord m code egress time reason bad o s).time = s.time ∧
    (State.captureRecord m code egress time reason bad o s).port = s.port ∧
    (State.captureRecord m code egress time reason bad o s).slices = s.slices ∧
    (State.captureRecord m code egress time reason bad o s).tab = s.tab ∧
    (State.captureRecord m code egress time reason bad o s).gen = s.gen ∧
    (State.captureRecord m code egress time reason bad o s).sch = s.sch ∧
    (State.captureRecord m code egress time reason bad o s).tel = s.tel ∧
    (State.captureRecord m code egress time reason bad o s).pwr = s.pwr ∧
    (State.captureRecord m code egress time reason bad o s).regs = s.regs ∧
    (State.captureRecord m code egress time reason bad o s).flt.keel0 = s.flt.keel0 ∧
    (State.captureRecord m code egress time reason bad o s).flt.keel1 = s.flt.keel1 := by
  (unfold State.captureRecord; simp only [State.postEvt_keeps, State.coreCount_keeps, State.setMir_keeps, State.readTiles_keeps, State.countDrop_keeps, ite_self, and_self, implies_true, Ran.st_done, Ran.st_wait, Ran.st_refuse, Ran.st_ite, snd_ite, ite_pending, ite_now, ite_serial, ite_pins, ite_md, ite_cmds, ite_clk, ite_ref, ite_kennel, ite_time, ite_port, ite_slices, ite_tab, ite_gen, ite_sch, ite_tel, ite_pwr, ite_regs, ite_flt_keel0, ite_flt_keel1, foldl_pending, foldl_now, foldl_serial, foldl_pins, foldl_md, foldl_cmds, foldl_clk, foldl_ref, foldl_kennel, foldl_time, foldl_port, foldl_slices, foldl_tab, foldl_gen, foldl_sch, foldl_tel, foldl_pwr, foldl_regs, foldl_flt_keel0, foldl_flt_keel1, foldl_snd_pending, foldl_snd_now, foldl_snd_serial, foldl_snd_pins, foldl_snd_md, foldl_snd_cmds, foldl_snd_clk, foldl_snd_ref, foldl_snd_kennel, foldl_snd_time, foldl_snd_port, foldl_snd_slices, foldl_snd_tab, foldl_snd_gen, foldl_snd_sch, foldl_snd_tel, foldl_snd_pwr, foldl_snd_regs, foldl_snd_flt_keel0, foldl_snd_flt_keel1]; done)

@[simp] theorem State.captureCopy_keeps (m code : Nat) (egress : Option Nat) (time reason : Nat) (pick : Draw) (bad : Bool) (o : Orig) (s : State) :
    (State.captureCopy m code egress time reason pick bad o s).pending = s.pending ∧
    (State.captureCopy m code egress time reason pick bad o s).now = s.now ∧
    (State.captureCopy m code egress time reason pick bad o s).serial = s.serial ∧
    (State.captureCopy m code egress time reason pick bad o s).pins = s.pins ∧
    (State.captureCopy m code egress time reason pick bad o s).md = s.md ∧
    (State.captureCopy m code egress time reason pick bad o s).cmds = s.cmds ∧
    (State.captureCopy m code egress time reason pick bad o s).clk = s.clk ∧
    (State.captureCopy m code egress time reason pick bad o s).ref = s.ref ∧
    (State.captureCopy m code egress time reason pick bad o s).kennel = s.kennel ∧
    (State.captureCopy m code egress time reason pick bad o s).time = s.time ∧
    (State.captureCopy m code egress time reason pick bad o s).port = s.port ∧
    (State.captureCopy m code egress time reason pick bad o s).slices = s.slices ∧
    (State.captureCopy m code egress time reason pick bad o s).tab = s.tab ∧
    (State.captureCopy m code egress time reason pick bad o s).gen = s.gen ∧
    (State.captureCopy m code egress time reason pick bad o s).sch = s.sch ∧
    (State.captureCopy m code egress time reason pick bad o s).tel = s.tel ∧
    (State.captureCopy m code egress time reason pick bad o s).pwr = s.pwr ∧
    (State.captureCopy m code egress time reason pick bad o s).regs = s.regs ∧
    (State.captureCopy m code egress time reason pick bad o s).flt.keel0 = s.flt.keel0 ∧
    (State.captureCopy m code egress time reason pick bad o s).flt.keel1 = s.flt.keel1 := by
  (unfold State.captureCopy; simp only [State.fallbackCopy_keeps, State.captureRecord_keeps, State.setMir_keeps, State.raise_keeps, State.noteRoom_keeps, ite_self, and_self, implies_true, Ran.st_done, Ran.st_wait, Ran.st_refuse, Ran.st_ite, snd_ite, ite_pending, ite_now, ite_serial, ite_pins, ite_md, ite_cmds, ite_clk, ite_ref, ite_kennel, ite_time, ite_port, ite_slices, ite_tab, ite_gen, ite_sch, ite_tel, ite_pwr, ite_regs, ite_flt_keel0, ite_flt_keel1, foldl_pending, foldl_now, foldl_serial, foldl_pins, foldl_md, foldl_cmds, foldl_clk, foldl_ref, foldl_kennel, foldl_time, foldl_port, foldl_slices, foldl_tab, foldl_gen, foldl_sch, foldl_tel, foldl_pwr, foldl_regs, foldl_flt_keel0, foldl_flt_keel1, foldl_snd_pending, foldl_snd_now, foldl_snd_serial, foldl_snd_pins, foldl_snd_md, foldl_snd_cmds, foldl_snd_clk, foldl_snd_ref, foldl_snd_kennel, foldl_snd_time, foldl_snd_port, foldl_snd_slices, foldl_snd_tab, foldl_snd_gen, foldl_snd_sch, foldl_snd_tel, foldl_snd_pwr, foldl_snd_regs, foldl_snd_flt_keel0, foldl_snd_flt_keel1]; done)

@[simp] theorem State.mirrorCopy_keeps (m code : Nat) (egress : Option Nat) (time reason : Nat) (pick : Draw) (bad : Bool) (o : Orig) (s : State) :
    (State.mirrorCopy m code egress time reason pick bad o s).pending = s.pending ∧
    (State.mirrorCopy m code egress time reason pick bad o s).now = s.now ∧
    (State.mirrorCopy m code egress time reason pick bad o s).serial = s.serial ∧
    (State.mirrorCopy m code egress time reason pick bad o s).pins = s.pins ∧
    (State.mirrorCopy m code egress time reason pick bad o s).md = s.md ∧
    (State.mirrorCopy m code egress time reason pick bad o s).cmds = s.cmds ∧
    (State.mirrorCopy m code egress time reason pick bad o s).clk = s.clk ∧
    (State.mirrorCopy m code egress time reason pick bad o s).ref = s.ref ∧
    (State.mirrorCopy m code egress time reason pick bad o s).kennel = s.kennel ∧
    (State.mirrorCopy m code egress time reason pick bad o s).time = s.time ∧
    (State.mirrorCopy m code egress time reason pick bad o s).port = s.port ∧
    (State.mirrorCopy m code egress time reason pick bad o s).slices = s.slices ∧
    (State.mirrorCopy m code egress time reason pick bad o s).tab = s.tab ∧
    (State.mirrorCopy m code egress time reason pick bad o s).gen = s.gen ∧
    (State.mirrorCopy m code egress time reason pick bad o s).sch = s.sch ∧
    (State.mirrorCopy m code egress time reason pick bad o s).tel = s.tel ∧
    (State.mirrorCopy m code egress time reason pick bad o s).pwr = s.pwr ∧
    (State.mirrorCopy m code egress time reason pick bad o s).regs = s.regs ∧
    (State.mirrorCopy m code egress time reason pick bad o s).flt.keel0 = s.flt.keel0 ∧
    (State.mirrorCopy m code egress time reason pick bad o s).flt.keel1 = s.flt.keel1 := by
  unfold State.mirrorCopy
  dsimp only
  (repeat' split) <;> first | (simp; done) | (rename_i q; simp [snd_of q])

@[simp] theorem State.pmcAdd_keeps (n c k : Nat) (s : State) :
    (State.pmcAdd n c k s).pending = s.pending ∧ (State.pmcAdd n c k s).now = s.now ∧
    (State.pmcAdd n c k s).serial = s.serial ∧ (State.pmcAdd n c k s).out = s.out ∧
    (State.pmcAdd n c k s).pins = s.pins ∧ (State.pmcAdd n c k s).md = s.md ∧
    (State.pmcAdd n c k s).host = s.host ∧ (State.pmcAdd n c k s).cmds = s.cmds ∧
    (State.pmcAdd n c k s).flt = s.flt ∧ (State.pmcAdd n c k s).clk = s.clk ∧ (State.pmcAdd n c k s).ref = s.ref ∧
    (State.pmcAdd n c k s).kennel = s.kennel ∧ (State.pmcAdd n c k s).time = s.time ∧
    (State.pmcAdd n c k s).buf = s.buf ∧ (State.pmcAdd n c k s).port = s.port ∧
    (State.pmcAdd n c k s).slices = s.slices ∧ (State.pmcAdd n c k s).tab = s.tab ∧
    (State.pmcAdd n c k s).gen = s.gen ∧ (State.pmcAdd n c k s).core = s.core ∧
    (State.pmcAdd n c k s).sch = s.sch ∧ (State.pmcAdd n c k s).pwr = s.pwr ∧
    (State.pmcAdd n c k s).regs = s.regs := by
  (unfold State.pmcAdd; simp only [State.count_keeps, ite_self, and_self, implies_true, Ran.st_done, Ran.st_wait, Ran.st_refuse, Ran.st_ite, snd_ite, ite_pending, ite_now, ite_serial, ite_out, ite_pins, ite_md, ite_host, ite_cmds, ite_flt, ite_clk, ite_ref, ite_kennel, ite_time, ite_buf, ite_port, ite_slices, ite_tab, ite_gen, ite_core, ite_sch, ite_pwr, ite_regs, foldl_pending, foldl_now, foldl_serial, foldl_out, foldl_pins, foldl_md, foldl_host, foldl_cmds, foldl_flt, foldl_clk, foldl_ref, foldl_kennel, foldl_time, foldl_buf, foldl_port, foldl_slices, foldl_tab, foldl_gen, foldl_core, foldl_sch, foldl_pwr, foldl_regs, foldl_snd_pending, foldl_snd_now, foldl_snd_serial, foldl_snd_out, foldl_snd_pins, foldl_snd_md, foldl_snd_host, foldl_snd_cmds, foldl_snd_flt, foldl_snd_clk, foldl_snd_ref, foldl_snd_kennel, foldl_snd_time, foldl_snd_buf, foldl_snd_port, foldl_snd_slices, foldl_snd_tab, foldl_snd_gen, foldl_snd_core, foldl_snd_sch, foldl_snd_pwr, foldl_snd_regs]; done)

@[simp] theorem State.pmc_keeps (n ev : Nat) (arg : Nat → Bool) (port : Option Nat) (slot : Bool) (k : Nat) (s : State) :
    (State.pmc n ev arg port slot k s).pending = s.pending ∧ (State.pmc n ev arg port slot k s).now = s.now ∧
    (State.pmc n ev arg port slot k s).serial = s.serial ∧ (State.pmc n ev arg port slot k s).out = s.out ∧
    (State.pmc n ev arg port slot k s).pins = s.pins ∧ (State.pmc n ev arg port slot k s).md = s.md ∧
    (State.pmc n ev arg port slot k s).host = s.host ∧ (State.pmc n ev arg port slot k s).cmds = s.cmds ∧
    (State.pmc n ev arg port slot k s).flt = s.flt ∧ (State.pmc n ev arg port slot k s).clk = s.clk ∧
    (State.pmc n ev arg port slot k s).ref = s.ref ∧ (State.pmc n ev arg port slot k s).kennel = s.kennel ∧
    (State.pmc n ev arg port slot k s).time = s.time ∧ (State.pmc n ev arg port slot k s).buf = s.buf ∧
    (State.pmc n ev arg port slot k s).port = s.port ∧ (State.pmc n ev arg port slot k s).slices = s.slices ∧
    (State.pmc n ev arg port slot k s).tab = s.tab ∧ (State.pmc n ev arg port slot k s).gen = s.gen ∧
    (State.pmc n ev arg port slot k s).core = s.core ∧ (State.pmc n ev arg port slot k s).sch = s.sch ∧
    (State.pmc n ev arg port slot k s).pwr = s.pwr ∧ (State.pmc n ev arg port slot k s).regs = s.regs := by
  (unfold State.pmc; simp only [State.pmcAdd_keeps, ite_self, and_self, implies_true, Ran.st_done, Ran.st_wait, Ran.st_refuse, Ran.st_ite, snd_ite, ite_pending, ite_now, ite_serial, ite_out, ite_pins, ite_md, ite_host, ite_cmds, ite_flt, ite_clk, ite_ref, ite_kennel, ite_time, ite_buf, ite_port, ite_slices, ite_tab, ite_gen, ite_core, ite_sch, ite_pwr, ite_regs, foldl_pending, foldl_now, foldl_serial, foldl_out, foldl_pins, foldl_md, foldl_host, foldl_cmds, foldl_flt, foldl_clk, foldl_ref, foldl_kennel, foldl_time, foldl_buf, foldl_port, foldl_slices, foldl_tab, foldl_gen, foldl_core, foldl_sch, foldl_pwr, foldl_regs, foldl_snd_pending, foldl_snd_now, foldl_snd_serial, foldl_snd_out, foldl_snd_pins, foldl_snd_md, foldl_snd_host, foldl_snd_cmds, foldl_snd_flt, foldl_snd_clk, foldl_snd_ref, foldl_snd_kennel, foldl_snd_time, foldl_snd_buf, foldl_snd_port, foldl_snd_slices, foldl_snd_tab, foldl_snd_gen, foldl_snd_core, foldl_snd_sch, foldl_snd_pwr, foldl_snd_regs]; done)

@[simp] theorem State.pmc0_keeps (n ev : Nat) (port : Option Nat) (k : Nat) (s : State) :
    (State.pmc0 n ev port k s).pending = s.pending ∧ (State.pmc0 n ev port k s).now = s.now ∧
    (State.pmc0 n ev port k s).serial = s.serial ∧ (State.pmc0 n ev port k s).out = s.out ∧
    (State.pmc0 n ev port k s).pins = s.pins ∧ (State.pmc0 n ev port k s).md = s.md ∧
    (State.pmc0 n ev port k s).host = s.host ∧ (State.pmc0 n ev port k s).cmds = s.cmds ∧
    (State.pmc0 n ev port k s).flt = s.flt ∧ (State.pmc0 n ev port k s).clk = s.clk ∧
    (State.pmc0 n ev port k s).ref = s.ref ∧ (State.pmc0 n ev port k s).kennel = s.kennel ∧
    (State.pmc0 n ev port k s).time = s.time ∧ (State.pmc0 n ev port k s).buf = s.buf ∧
    (State.pmc0 n ev port k s).port = s.port ∧ (State.pmc0 n ev port k s).slices = s.slices ∧
    (State.pmc0 n ev port k s).tab = s.tab ∧ (State.pmc0 n ev port k s).gen = s.gen ∧
    (State.pmc0 n ev port k s).core = s.core ∧ (State.pmc0 n ev port k s).sch = s.sch ∧
    (State.pmc0 n ev port k s).pwr = s.pwr ∧ (State.pmc0 n ev port k s).regs = s.regs := by
  (unfold State.pmc0; simp only [State.pmc_keeps, ite_self, and_self, implies_true, Ran.st_done, Ran.st_wait, Ran.st_refuse, Ran.st_ite, snd_ite, foldl_pending, foldl_now, foldl_serial, foldl_out, foldl_pins, foldl_md, foldl_host, foldl_cmds, foldl_flt, foldl_clk, foldl_ref, foldl_kennel, foldl_time, foldl_buf, foldl_port, foldl_slices, foldl_tab, foldl_gen, foldl_core, foldl_sch, foldl_pwr, foldl_regs, foldl_snd_pending, foldl_snd_now, foldl_snd_serial, foldl_snd_out, foldl_snd_pins, foldl_snd_md, foldl_snd_host, foldl_snd_cmds, foldl_snd_flt, foldl_snd_clk, foldl_snd_ref, foldl_snd_kennel, foldl_snd_time, foldl_snd_buf, foldl_snd_port, foldl_snd_slices, foldl_snd_tab, foldl_snd_gen, foldl_snd_core, foldl_snd_sch, foldl_snd_pwr, foldl_snd_regs]; done)

@[simp] theorem State.lossEvt_keeps (r sl : Nat) (via : Option Nat) (s : State) :
    (State.lossEvt r sl via s).pending = s.pending ∧ (State.lossEvt r sl via s).now = s.now ∧
    (State.lossEvt r sl via s).serial = s.serial ∧ (State.lossEvt r sl via s).out = s.out ∧
    (State.lossEvt r sl via s).pins = s.pins ∧ (State.lossEvt r sl via s).md = s.md ∧
    (State.lossEvt r sl via s).host = s.host ∧ (State.lossEvt r sl via s).cmds = s.cmds ∧
    (State.lossEvt r sl via s).flt = s.flt ∧ (State.lossEvt r sl via s).clk = s.clk ∧
    (State.lossEvt r sl via s).ref = s.ref ∧ (State.lossEvt r sl via s).kennel = s.kennel ∧
    (State.lossEvt r sl via s).time = s.time ∧ (State.lossEvt r sl via s).buf = s.buf ∧
    (State.lossEvt r sl via s).port = s.port ∧ (State.lossEvt r sl via s).slices = s.slices ∧
    (State.lossEvt r sl via s).tab = s.tab ∧ (State.lossEvt r sl via s).gen = s.gen ∧
    (State.lossEvt r sl via s).core = s.core ∧ (State.lossEvt r sl via s).sch = s.sch ∧
    (State.lossEvt r sl via s).pwr = s.pwr ∧ (State.lossEvt r sl via s).regs = s.regs := by
  (unfold State.lossEvt; split <;> simp only [State.pmc_keeps, ite_self, and_self, implies_true, Ran.st_done, Ran.st_wait, Ran.st_refuse, Ran.st_ite, snd_ite, ite_pending, ite_now, ite_serial, ite_out, ite_pins, ite_md, ite_host, ite_cmds, ite_flt, ite_clk, ite_ref, ite_kennel, ite_time, ite_buf, ite_port, ite_slices, ite_tab, ite_gen, ite_core, ite_sch, ite_pwr, ite_regs, foldl_pending, foldl_now, foldl_serial, foldl_out, foldl_pins, foldl_md, foldl_host, foldl_cmds, foldl_flt, foldl_clk, foldl_ref, foldl_kennel, foldl_time, foldl_buf, foldl_port, foldl_slices, foldl_tab, foldl_gen, foldl_core, foldl_sch, foldl_pwr, foldl_regs, foldl_snd_pending, foldl_snd_now, foldl_snd_serial, foldl_snd_out, foldl_snd_pins, foldl_snd_md, foldl_snd_host, foldl_snd_cmds, foldl_snd_flt, foldl_snd_clk, foldl_snd_ref, foldl_snd_kennel, foldl_snd_time, foldl_snd_buf, foldl_snd_port, foldl_snd_slices, foldl_snd_tab, foldl_snd_gen, foldl_snd_core, foldl_snd_sch, foldl_snd_pwr, foldl_snd_regs])

@[simp] theorem State.dropCopy_keeps (r : Nat) (pick : Draw) (o : Orig) (s : State) :
    (State.dropCopy r pick o s).pending = s.pending ∧ (State.dropCopy r pick o s).now = s.now ∧
    (State.dropCopy r pick o s).serial = s.serial ∧ (State.dropCopy r pick o s).pins = s.pins ∧
    (State.dropCopy r pick o s).md = s.md ∧ (State.dropCopy r pick o s).cmds = s.cmds ∧
    (State.dropCopy r pick o s).clk = s.clk ∧ (State.dropCopy r pick o s).ref = s.ref ∧
    (State.dropCopy r pick o s).kennel = s.kennel ∧ (State.dropCopy r pick o s).time = s.time ∧
    (State.dropCopy r pick o s).port = s.port ∧ (State.dropCopy r pick o s).slices = s.slices ∧
    (State.dropCopy r pick o s).tab = s.tab ∧ (State.dropCopy r pick o s).gen = s.gen ∧
    (State.dropCopy r pick o s).sch = s.sch ∧ (State.dropCopy r pick o s).pwr = s.pwr ∧
    (State.dropCopy r pick o s).regs = s.regs ∧ (State.dropCopy r pick o s).flt.keel0 = s.flt.keel0 ∧
    (State.dropCopy r pick o s).flt.keel1 = s.flt.keel1 := by
  (unfold State.dropCopy; simp only [State.lossEvt_keeps, State.mirrorCopy_keeps, State.countDrop_keeps, ite_self, and_self, implies_true, Ran.st_done, Ran.st_wait, Ran.st_refuse, Ran.st_ite, snd_ite, ite_pending, ite_now, ite_serial, ite_pins, ite_md, ite_cmds, ite_clk, ite_ref, ite_kennel, ite_time, ite_port, ite_slices, ite_tab, ite_gen, ite_sch, ite_pwr, ite_regs, ite_flt_keel0, ite_flt_keel1, foldl_pending, foldl_now, foldl_serial, foldl_pins, foldl_md, foldl_cmds, foldl_clk, foldl_ref, foldl_kennel, foldl_time, foldl_port, foldl_slices, foldl_tab, foldl_gen, foldl_sch, foldl_pwr, foldl_regs, foldl_flt_keel0, foldl_flt_keel1, foldl_snd_pending, foldl_snd_now, foldl_snd_serial, foldl_snd_pins, foldl_snd_md, foldl_snd_cmds, foldl_snd_clk, foldl_snd_ref, foldl_snd_kennel, foldl_snd_time, foldl_snd_port, foldl_snd_slices, foldl_snd_tab, foldl_snd_gen, foldl_snd_sch, foldl_snd_pwr, foldl_snd_regs, foldl_snd_flt_keel0, foldl_snd_flt_keel1]; done)

@[simp] theorem State.done_keeps (d : Desc) (s : State) :
    (State.done d s).2.pending = s.pending ∧ (State.done d s).2.now = s.now ∧
    (State.done d s).2.serial = s.serial ∧ (State.done d s).2.out = s.out ∧ (State.done d s).2.pins = s.pins ∧
    (State.done d s).2.md = s.md ∧ (State.done d s).2.host = s.host ∧ (State.done d s).2.cmds = s.cmds ∧
    (State.done d s).2.clk = s.clk ∧ (State.done d s).2.kennel = s.kennel ∧ (State.done d s).2.time = s.time ∧
    (State.done d s).2.port = s.port ∧ (State.done d s).2.slices = s.slices ∧ (State.done d s).2.tab = s.tab ∧
    (State.done d s).2.gen = s.gen ∧ (State.done d s).2.sch = s.sch ∧ (State.done d s).2.tel = s.tel ∧
    (State.done d s).2.pwr = s.pwr ∧ (State.done d s).2.regs = s.regs ∧
    (State.done d s).2.flt.keel0 = s.flt.keel0 ∧ (State.done d s).2.flt.keel1 = s.flt.keel1 := by
  (unfold State.done; split <;> simp only [State.setMir_keeps, State.release_keeps, ite_self, and_self, implies_true, Ran.st_done, Ran.st_wait, Ran.st_refuse, Ran.st_ite, snd_ite, ite_pending, ite_now, ite_serial, ite_out, ite_pins, ite_md, ite_host, ite_cmds, ite_clk, ite_kennel, ite_time, ite_port, ite_slices, ite_tab, ite_gen, ite_sch, ite_tel, ite_pwr, ite_regs, ite_flt_keel0, ite_flt_keel1, foldl_pending, foldl_now, foldl_serial, foldl_out, foldl_pins, foldl_md, foldl_host, foldl_cmds, foldl_clk, foldl_kennel, foldl_time, foldl_port, foldl_slices, foldl_tab, foldl_gen, foldl_sch, foldl_tel, foldl_pwr, foldl_regs, foldl_flt_keel0, foldl_flt_keel1, foldl_snd_pending, foldl_snd_now, foldl_snd_serial, foldl_snd_out, foldl_snd_pins, foldl_snd_md, foldl_snd_host, foldl_snd_cmds, foldl_snd_clk, foldl_snd_kennel, foldl_snd_time, foldl_snd_port, foldl_snd_slices, foldl_snd_tab, foldl_snd_gen, foldl_snd_sch, foldl_snd_tel, foldl_snd_pwr, foldl_snd_regs, foldl_snd_flt_keel0, foldl_snd_flt_keel1])

@[simp] theorem State.leaveGen_keeps (g : Nat) (s : State) :
    (State.leaveGen g s).pending = s.pending ∧ (State.leaveGen g s).now = s.now ∧
    (State.leaveGen g s).serial = s.serial ∧ (State.leaveGen g s).out = s.out ∧
    (State.leaveGen g s).pins = s.pins ∧ (State.leaveGen g s).md = s.md ∧ (State.leaveGen g s).host = s.host ∧
    (State.leaveGen g s).cmds = s.cmds ∧ (State.leaveGen g s).flt = s.flt ∧ (State.leaveGen g s).clk = s.clk ∧
    (State.leaveGen g s).ref = s.ref ∧ (State.leaveGen g s).kennel = s.kennel ∧
    (State.leaveGen g s).time = s.time ∧ (State.leaveGen g s).buf = s.buf ∧ (State.leaveGen g s).port = s.port ∧
    (State.leaveGen g s).slices = s.slices ∧ (State.leaveGen g s).tab = s.tab ∧
    (State.leaveGen g s).core = s.core ∧ (State.leaveGen g s).sch = s.sch ∧ (State.leaveGen g s).tel = s.tel ∧
    (State.leaveGen g s).pwr = s.pwr ∧ (State.leaveGen g s).regs = s.regs ∧ (State.leaveGen g s).cnts = s.cnts := by
  (unfold State.leaveGen; simp only [ite_self, and_self, implies_true, Ran.st_done, Ran.st_wait, Ran.st_refuse, Ran.st_ite, snd_ite, ite_pending, ite_now, ite_serial, ite_out, ite_pins, ite_md, ite_host, ite_cmds, ite_flt, ite_clk, ite_ref, ite_kennel, ite_time, ite_buf, ite_port, ite_slices, ite_tab, ite_core, ite_sch, ite_tel, ite_pwr, ite_regs, ite_cnts, foldl_pending, foldl_now, foldl_serial, foldl_out, foldl_pins, foldl_md, foldl_host, foldl_cmds, foldl_flt, foldl_clk, foldl_ref, foldl_kennel, foldl_time, foldl_buf, foldl_port, foldl_slices, foldl_tab, foldl_core, foldl_sch, foldl_tel, foldl_pwr, foldl_regs, foldl_cnts, foldl_snd_pending, foldl_snd_now, foldl_snd_serial, foldl_snd_out, foldl_snd_pins, foldl_snd_md, foldl_snd_host, foldl_snd_cmds, foldl_snd_flt, foldl_snd_clk, foldl_snd_ref, foldl_snd_kennel, foldl_snd_time, foldl_snd_buf, foldl_snd_port, foldl_snd_slices, foldl_snd_tab, foldl_snd_core, foldl_snd_sch, foldl_snd_tel, foldl_snd_pwr, foldl_snd_regs, foldl_snd_cnts]; done)

@[simp] theorem State.dropDesc_keeps (r : Nat) (pick : Draw) (d : Desc) (s : State) :
    (State.dropDesc r pick d s).pending = s.pending ∧ (State.dropDesc r pick d s).now = s.now ∧
    (State.dropDesc r pick d s).serial = s.serial ∧ (State.dropDesc r pick d s).pins = s.pins ∧
    (State.dropDesc r pick d s).md = s.md ∧ (State.dropDesc r pick d s).cmds = s.cmds ∧
    (State.dropDesc r pick d s).clk = s.clk ∧ (State.dropDesc r pick d s).kennel = s.kennel ∧
    (State.dropDesc r pick d s).time = s.time ∧ (State.dropDesc r pick d s).port = s.port ∧
    (State.dropDesc r pick d s).slices = s.slices ∧ (State.dropDesc r pick d s).tab = s.tab ∧
    (State.dropDesc r pick d s).sch = s.sch ∧ (State.dropDesc r pick d s).pwr = s.pwr ∧
    (State.dropDesc r pick d s).regs = s.regs ∧ (State.dropDesc r pick d s).flt.keel0 = s.flt.keel0 ∧
    (State.dropDesc r pick d s).flt.keel1 = s.flt.keel1 := by
  (unfold State.dropDesc; simp only [State.leaveGen_keeps, State.done_keeps, State.countDrop_keeps, State.dropCopy_keeps, ite_self, and_self, implies_true, Ran.st_done, Ran.st_wait, Ran.st_refuse, Ran.st_ite, snd_ite, ite_pending, ite_now, ite_serial, ite_pins, ite_md, ite_cmds, ite_clk, ite_kennel, ite_time, ite_port, ite_slices, ite_tab, ite_sch, ite_pwr, ite_regs, ite_flt_keel0, ite_flt_keel1, foldl_pending, foldl_now, foldl_serial, foldl_pins, foldl_md, foldl_cmds, foldl_clk, foldl_kennel, foldl_time, foldl_port, foldl_slices, foldl_tab, foldl_sch, foldl_pwr, foldl_regs, foldl_flt_keel0, foldl_flt_keel1, foldl_snd_pending, foldl_snd_now, foldl_snd_serial, foldl_snd_pins, foldl_snd_md, foldl_snd_cmds, foldl_snd_clk, foldl_snd_kennel, foldl_snd_time, foldl_snd_port, foldl_snd_slices, foldl_snd_tab, foldl_snd_sch, foldl_snd_pwr, foldl_snd_regs, foldl_snd_flt_keel0, foldl_snd_flt_keel1]; done)

@[simp] theorem State.bringCopy_keeps (pick : Draw) (e : Nat × Desc) (s : State) :
    (State.bringCopy pick e s).pending = s.pending ∧ (State.bringCopy pick e s).now = s.now ∧
    (State.bringCopy pick e s).serial = s.serial ∧ (State.bringCopy pick e s).pins = s.pins ∧
    (State.bringCopy pick e s).md = s.md ∧ (State.bringCopy pick e s).cmds = s.cmds ∧
    (State.bringCopy pick e s).clk = s.clk ∧ (State.bringCopy pick e s).kennel = s.kennel ∧
    (State.bringCopy pick e s).time = s.time ∧ (State.bringCopy pick e s).port = s.port ∧
    (State.bringCopy pick e s).slices = s.slices ∧ (State.bringCopy pick e s).tab = s.tab ∧
    (State.bringCopy pick e s).sch = s.sch ∧ (State.bringCopy pick e s).pwr = s.pwr ∧
    (State.bringCopy pick e s).regs = s.regs ∧ (State.bringCopy pick e s).flt.keel0 = s.flt.keel0 ∧
    (State.bringCopy pick e s).flt.keel1 = s.flt.keel1 := by
  (unfold State.bringCopy; simp only [State.dropDesc_keeps, State.push_keeps, ite_self, and_self, implies_true, Ran.st_done, Ran.st_wait, Ran.st_refuse, Ran.st_ite, snd_ite, ite_pending, ite_now, ite_serial, ite_pins, ite_md, ite_cmds, ite_clk, ite_kennel, ite_time, ite_port, ite_slices, ite_tab, ite_sch, ite_pwr, ite_regs, ite_flt_keel0, ite_flt_keel1, foldl_pending, foldl_now, foldl_serial, foldl_pins, foldl_md, foldl_cmds, foldl_clk, foldl_kennel, foldl_time, foldl_port, foldl_slices, foldl_tab, foldl_sch, foldl_pwr, foldl_regs, foldl_flt_keel0, foldl_flt_keel1, foldl_snd_pending, foldl_snd_now, foldl_snd_serial, foldl_snd_pins, foldl_snd_md, foldl_snd_cmds, foldl_snd_clk, foldl_snd_kennel, foldl_snd_time, foldl_snd_port, foldl_snd_slices, foldl_snd_tab, foldl_snd_sch, foldl_snd_pwr, foldl_snd_regs, foldl_snd_flt_keel0, foldl_snd_flt_keel1]; done)

@[simp] theorem State.bringCopies_keeps (pick : Draw) (s : State) :
    (State.bringCopies pick s).pending = s.pending ∧ (State.bringCopies pick s).now = s.now ∧
    (State.bringCopies pick s).serial = s.serial ∧ (State.bringCopies pick s).pins = s.pins ∧
    (State.bringCopies pick s).md = s.md ∧ (State.bringCopies pick s).cmds = s.cmds ∧
    (State.bringCopies pick s).clk = s.clk ∧ (State.bringCopies pick s).kennel = s.kennel ∧
    (State.bringCopies pick s).time = s.time ∧ (State.bringCopies pick s).port = s.port ∧
    (State.bringCopies pick s).slices = s.slices ∧ (State.bringCopies pick s).tab = s.tab ∧
    (State.bringCopies pick s).sch = s.sch ∧ (State.bringCopies pick s).pwr = s.pwr ∧
    (State.bringCopies pick s).regs = s.regs ∧ (State.bringCopies pick s).flt.keel0 = s.flt.keel0 ∧
    (State.bringCopies pick s).flt.keel1 = s.flt.keel1 := by
  (unfold State.bringCopies; simp only [State.bringCopy_keeps, ite_self, and_self, implies_true, Ran.st_done, Ran.st_wait, Ran.st_refuse, Ran.st_ite, snd_ite, foldl_pending, foldl_now, foldl_serial, foldl_pins, foldl_md, foldl_cmds, foldl_clk, foldl_kennel, foldl_time, foldl_port, foldl_slices, foldl_tab, foldl_sch, foldl_pwr, foldl_regs, foldl_flt_keel0, foldl_flt_keel1, foldl_snd_pending, foldl_snd_now, foldl_snd_serial, foldl_snd_pins, foldl_snd_md, foldl_snd_cmds, foldl_snd_clk, foldl_snd_kennel, foldl_snd_time, foldl_snd_port, foldl_snd_slices, foldl_snd_tab, foldl_snd_sch, foldl_snd_pwr, foldl_snd_regs, foldl_snd_flt_keel0, foldl_snd_flt_keel1]; done)

@[simp] theorem State.perfCount_keeps (i n : Nat) (s : State) :
    (State.perfCount i n s).pending = s.pending ∧ (State.perfCount i n s).now = s.now ∧
    (State.perfCount i n s).serial = s.serial ∧ (State.perfCount i n s).out = s.out ∧
    (State.perfCount i n s).pins = s.pins ∧ (State.perfCount i n s).md = s.md ∧
    (State.perfCount i n s).host = s.host ∧ (State.perfCount i n s).cmds = s.cmds ∧
    (State.perfCount i n s).flt = s.flt ∧ (State.perfCount i n s).clk = s.clk ∧
    (State.perfCount i n s).ref = s.ref ∧ (State.perfCount i n s).kennel = s.kennel ∧
    (State.perfCount i n s).time = s.time ∧ (State.perfCount i n s).buf = s.buf ∧
    (State.perfCount i n s).port = s.port ∧ (State.perfCount i n s).slices = s.slices ∧
    (State.perfCount i n s).tab = s.tab ∧ (State.perfCount i n s).gen = s.gen ∧
    (State.perfCount i n s).core = s.core ∧ (State.perfCount i n s).sch = s.sch ∧
    (State.perfCount i n s).tel = s.tel ∧ (State.perfCount i n s).pwr = s.pwr ∧
    (State.perfCount i n s).regs = s.regs := by
  (unfold State.perfCount; simp only [State.count_keeps, ite_self, and_self, implies_true, Ran.st_done, Ran.st_wait, Ran.st_refuse, Ran.st_ite, snd_ite, foldl_pending, foldl_now, foldl_serial, foldl_out, foldl_pins, foldl_md, foldl_host, foldl_cmds, foldl_flt, foldl_clk, foldl_ref, foldl_kennel, foldl_time, foldl_buf, foldl_port, foldl_slices, foldl_tab, foldl_gen, foldl_core, foldl_sch, foldl_tel, foldl_pwr, foldl_regs, foldl_snd_pending, foldl_snd_now, foldl_snd_serial, foldl_snd_out, foldl_snd_pins, foldl_snd_md, foldl_snd_host, foldl_snd_cmds, foldl_snd_flt, foldl_snd_clk, foldl_snd_ref, foldl_snd_kennel, foldl_snd_time, foldl_snd_buf, foldl_snd_port, foldl_snd_slices, foldl_snd_tab, foldl_snd_gen, foldl_snd_core, foldl_snd_sch, foldl_snd_tel, foldl_snd_pwr, foldl_snd_regs]; done)

@[simp] theorem queueCard_keeps (p tc sl time len : Nat) (r : Took × State) :
    (queueCard p tc sl time len r).2.pending = r.2.pending ∧ (queueCard p tc sl time len r).2.now = r.2.now ∧
    (queueCard p tc sl time len r).2.serial = r.2.serial ∧ (queueCard p tc sl time len r).2.out = r.2.out ∧
    (queueCard p tc sl time len r).2.pins = r.2.pins ∧ (queueCard p tc sl time len r).2.md = r.2.md ∧
    (queueCard p tc sl time len r).2.host = r.2.host ∧ (queueCard p tc sl time len r).2.cmds = r.2.cmds ∧
    (queueCard p tc sl time len r).2.flt = r.2.flt ∧ (queueCard p tc sl time len r).2.clk = r.2.clk ∧
    (queueCard p tc sl time len r).2.ref = r.2.ref ∧ (queueCard p tc sl time len r).2.kennel = r.2.kennel ∧
    (queueCard p tc sl time len r).2.time = r.2.time ∧ (queueCard p tc sl time len r).2.buf = r.2.buf ∧
    (queueCard p tc sl time len r).2.port = r.2.port ∧ (queueCard p tc sl time len r).2.slices = r.2.slices ∧
    (queueCard p tc sl time len r).2.tab = r.2.tab ∧ (queueCard p tc sl time len r).2.gen = r.2.gen ∧
    (queueCard p tc sl time len r).2.sch = r.2.sch ∧ (queueCard p tc sl time len r).2.tel = r.2.tel ∧
    (queueCard p tc sl time len r).2.pwr = r.2.pwr ∧ (queueCard p tc sl time len r).2.regs = r.2.regs := by
  (unfold queueCard; split <;> simp only [State.push_keeps, ite_self, and_self, implies_true, Ran.st_done, Ran.st_wait, Ran.st_refuse, Ran.st_ite, snd_ite, ite_pending, ite_now, ite_serial, ite_out, ite_pins, ite_md, ite_host, ite_cmds, ite_flt, ite_clk, ite_ref, ite_kennel, ite_time, ite_buf, ite_port, ite_slices, ite_tab, ite_gen, ite_sch, ite_tel, ite_pwr, ite_regs, foldl_pending, foldl_now, foldl_serial, foldl_out, foldl_pins, foldl_md, foldl_host, foldl_cmds, foldl_flt, foldl_clk, foldl_ref, foldl_kennel, foldl_time, foldl_buf, foldl_port, foldl_slices, foldl_tab, foldl_gen, foldl_sch, foldl_tel, foldl_pwr, foldl_regs, foldl_snd_pending, foldl_snd_now, foldl_snd_serial, foldl_snd_out, foldl_snd_pins, foldl_snd_md, foldl_snd_host, foldl_snd_cmds, foldl_snd_flt, foldl_snd_clk, foldl_snd_ref, foldl_snd_kennel, foldl_snd_time, foldl_snd_buf, foldl_snd_port, foldl_snd_slices, foldl_snd_tab, foldl_snd_gen, foldl_snd_sch, foldl_snd_tel, foldl_snd_pwr, foldl_snd_regs])

@[simp] theorem State.cardFrame_keeps (m time sl : Nat) (pick : Draw) (e : Evt) (s : State) :
    (State.cardFrame m time sl pick e s).2.pending = s.pending ∧
    (State.cardFrame m time sl pick e s).2.now = s.now ∧ (State.cardFrame m time sl pick e s).2.serial = s.serial ∧
    (State.cardFrame m time sl pick e s).2.out = s.out ∧ (State.cardFrame m time sl pick e s).2.pins = s.pins ∧
    (State.cardFrame m time sl pick e s).2.md = s.md ∧ (State.cardFrame m time sl pick e s).2.host = s.host ∧
    (State.cardFrame m time sl pick e s).2.cmds = s.cmds ∧ (State.cardFrame m time sl pick e s).2.flt = s.flt ∧
    (State.cardFrame m time sl pick e s).2.clk = s.clk ∧ (State.cardFrame m time sl pick e s).2.ref = s.ref ∧
    (State.cardFrame m time sl pick e s).2.kennel = s.kennel ∧
    (State.cardFrame m time sl pick e s).2.time = s.time ∧ (State.cardFrame m time sl pick e s).2.port = s.port ∧
    (State.cardFrame m time sl pick e s).2.slices = s.slices ∧ (State.cardFrame m time sl pick e s).2.tab = s.tab ∧
    (State.cardFrame m time sl pick e s).2.gen = s.gen ∧ (State.cardFrame m time sl pick e s).2.sch = s.sch ∧
    (State.cardFrame m time sl pick e s).2.tel = s.tel ∧ (State.cardFrame m time sl pick e s).2.pwr = s.pwr ∧
    (State.cardFrame m time sl pick e s).2.regs = s.regs := by
  (unfold State.cardFrame; simp only [queueCard_keeps, State.take_keeps, ite_self, and_self, implies_true, Ran.st_done, Ran.st_wait, Ran.st_refuse, Ran.st_ite, snd_ite, ite_pending, ite_now, ite_serial, ite_out, ite_pins, ite_md, ite_host, ite_cmds, ite_flt, ite_clk, ite_ref, ite_kennel, ite_time, ite_port, ite_slices, ite_tab, ite_gen, ite_sch, ite_tel, ite_pwr, ite_regs, foldl_pending, foldl_now, foldl_serial, foldl_out, foldl_pins, foldl_md, foldl_host, foldl_cmds, foldl_flt, foldl_clk, foldl_ref, foldl_kennel, foldl_time, foldl_port, foldl_slices, foldl_tab, foldl_gen, foldl_sch, foldl_tel, foldl_pwr, foldl_regs, foldl_snd_pending, foldl_snd_now, foldl_snd_serial, foldl_snd_out, foldl_snd_pins, foldl_snd_md, foldl_snd_host, foldl_snd_cmds, foldl_snd_flt, foldl_snd_clk, foldl_snd_ref, foldl_snd_kennel, foldl_snd_time, foldl_snd_port, foldl_snd_slices, foldl_snd_tab, foldl_snd_gen, foldl_snd_sch, foldl_snd_tel, foldl_snd_pwr, foldl_snd_regs]; done)

@[simp] theorem State.sendPostcard_keeps (code source time sl : Nat) (pick : Draw) (detail : List Byte) (s : State) :
    (State.sendPostcard code source time sl pick detail s).pending = s.pending ∧
    (State.sendPostcard code source time sl pick detail s).now = s.now ∧
    (State.sendPostcard code source time sl pick detail s).serial = s.serial ∧
    (State.sendPostcard code source time sl pick detail s).pins = s.pins ∧
    (State.sendPostcard code source time sl pick detail s).md = s.md ∧
    (State.sendPostcard code source time sl pick detail s).cmds = s.cmds ∧
    (State.sendPostcard code source time sl pick detail s).flt = s.flt ∧
    (State.sendPostcard code source time sl pick detail s).clk = s.clk ∧
    (State.sendPostcard code source time sl pick detail s).ref = s.ref ∧
    (State.sendPostcard code source time sl pick detail s).kennel = s.kennel ∧
    (State.sendPostcard code source time sl pick detail s).time = s.time ∧
    (State.sendPostcard code source time sl pick detail s).port = s.port ∧
    (State.sendPostcard code source time sl pick detail s).slices = s.slices ∧
    (State.sendPostcard code source time sl pick detail s).tab = s.tab ∧
    (State.sendPostcard code source time sl pick detail s).gen = s.gen ∧
    (State.sendPostcard code source time sl pick detail s).sch = s.sch ∧
    (State.sendPostcard code source time sl pick detail s).tel = s.tel ∧
    (State.sendPostcard code source time sl pick detail s).pwr = s.pwr ∧
    (State.sendPostcard code source time sl pick detail s).regs = s.regs := by
  (unfold State.sendPostcard; simp only [State.postEvt_keeps, State.cardFrame_keeps, State.perfCount_keeps, ite_self, and_self, implies_true, Ran.st_done, Ran.st_wait, Ran.st_refuse, Ran.st_ite, snd_ite, ite_pending, ite_now, ite_serial, ite_pins, ite_md, ite_cmds, ite_flt, ite_clk, ite_ref, ite_kennel, ite_time, ite_port, ite_slices, ite_tab, ite_gen, ite_sch, ite_tel, ite_pwr, ite_regs, foldl_pending, foldl_now, foldl_serial, foldl_pins, foldl_md, foldl_cmds, foldl_flt, foldl_clk, foldl_ref, foldl_kennel, foldl_time, foldl_port, foldl_slices, foldl_tab, foldl_gen, foldl_sch, foldl_tel, foldl_pwr, foldl_regs, foldl_snd_pending, foldl_snd_now, foldl_snd_serial, foldl_snd_pins, foldl_snd_md, foldl_snd_cmds, foldl_snd_flt, foldl_snd_clk, foldl_snd_ref, foldl_snd_kennel, foldl_snd_time, foldl_snd_port, foldl_snd_slices, foldl_snd_tab, foldl_snd_gen, foldl_snd_sch, foldl_snd_tel, foldl_snd_pwr, foldl_snd_regs]; done)
end Sys2Proof.Machine
end

