-- ==== Sys2Proof/Laws/KeepsSlices.lean ====
section
/-! SUPPORT. What each operation of Machine/Slices.lean keeps: the parts of the state that it leaves as they are. -/
set_option linter.unusedSimpArgs false
set_option linter.unusedVariables false
namespace Sys2Proof.Machine
open Host (Outcome)

@[simp] theorem State.setSlice_keeps (n : Nat) (x : SliceSt) (s : State) :
    (State.setSlice n x s).pending = s.pending ∧ (State.setSlice n x s).now = s.now ∧
    (State.setSlice n x s).serial = s.serial ∧ (State.setSlice n x s).out = s.out ∧
    (State.setSlice n x s).pins = s.pins ∧ (State.setSlice n x s).md = s.md ∧
    (State.setSlice n x s).host = s.host ∧ (State.setSlice n x s).cmds = s.cmds ∧
    (State.setSlice n x s).flt = s.flt ∧ (State.setSlice n x s).clk = s.clk ∧ (State.setSlice n x s).ref = s.ref ∧
    (State.setSlice n x s).kennel = s.kennel ∧ (State.setSlice n x s).time = s.time ∧
    (State.setSlice n x s).buf = s.buf ∧ (State.setSlice n x s).port = s.port ∧
    (State.setSlice n x s).tab = s.tab ∧ (State.setSlice n x s).gen = s.gen ∧
    (State.setSlice n x s).core = s.core ∧ (State.setSlice n x s).sch = s.sch ∧
    (State.setSlice n x s).tel = s.tel ∧ (State.setSlice n x s).pwr = s.pwr ∧
    (State.setSlice n x s).regs = s.regs ∧ (State.setSlice n x s).cnts = s.cnts := by
  (unfold State.setSlice; simp only [ite_self, and_self, implies_true, Ran.st_done, Ran.st_wait, Ran.st_refuse, Ran.st_ite, snd_ite, foldl_pending, foldl_now, foldl_serial, foldl_out, foldl_pins, foldl_md, foldl_host, foldl_cmds, foldl_flt, foldl_clk, foldl_ref, foldl_kennel, foldl_time, foldl_buf, foldl_port, foldl_tab, foldl_gen, foldl_core, foldl_sch, foldl_tel, foldl_pwr, foldl_regs, foldl_cnts, foldl_snd_pending, foldl_snd_now, foldl_snd_serial, foldl_snd_out, foldl_snd_pins, foldl_snd_md, foldl_snd_host, foldl_snd_cmds, foldl_snd_flt, foldl_snd_clk, foldl_snd_ref, foldl_snd_kennel, foldl_snd_time, foldl_snd_buf, foldl_snd_port, foldl_snd_tab, foldl_snd_gen, foldl_snd_core, foldl_snd_sch, foldl_snd_tel, foldl_snd_pwr, foldl_snd_regs, foldl_snd_cnts]; done)

@[simp] theorem State.onSlice_keeps (n : Nat) (f : SliceSt → SliceSt) (s : State) :
    (State.onSlice n f s).pending = s.pending ∧ (State.onSlice n f s).now = s.now ∧
    (State.onSlice n f s).serial = s.serial ∧ (State.onSlice n f s).out = s.out ∧
    (State.onSlice n f s).pins = s.pins ∧ (State.onSlice n f s).md = s.md ∧ (State.onSlice n f s).host = s.host ∧
    (State.onSlice n f s).cmds = s.cmds ∧ (State.onSlice n f s).flt = s.flt ∧ (State.onSlice n f s).clk = s.clk ∧
    (State.onSlice n f s).ref = s.ref ∧ (State.onSlice n f s).kennel = s.kennel ∧
    (State.onSlice n f s).time = s.time ∧ (State.onSlice n f s).buf = s.buf ∧ (State.onSlice n f s).port = s.port ∧
    (State.onSlice n f s).tab = s.tab ∧ (State.onSlice n f s).gen = s.gen ∧ (State.onSlice n f s).core = s.core ∧
    (State.onSlice n f s).sch = s.sch ∧ (State.onSlice n f s).tel = s.tel ∧ (State.onSlice n f s).pwr = s.pwr ∧
    (State.onSlice n f s).regs = s.regs ∧ (State.onSlice n f s).cnts = s.cnts := by
  (unfold State.onSlice; simp only [State.setSlice_keeps, ite_self, and_self, implies_true, Ran.st_done, Ran.st_wait, Ran.st_refuse, Ran.st_ite, snd_ite, foldl_pending, foldl_now, foldl_serial, foldl_out, foldl_pins, foldl_md, foldl_host, foldl_cmds, foldl_flt, foldl_clk, foldl_ref, foldl_kennel, foldl_time, foldl_buf, foldl_port, foldl_tab, foldl_gen, foldl_core, foldl_sch, foldl_tel, foldl_pwr, foldl_regs, foldl_cnts, foldl_snd_pending, foldl_snd_now, foldl_snd_serial, foldl_snd_out, foldl_snd_pins, foldl_snd_md, foldl_snd_host, foldl_snd_cmds, foldl_snd_flt, foldl_snd_clk, foldl_snd_ref, foldl_snd_kennel, foldl_snd_time, foldl_snd_buf, foldl_snd_port, foldl_snd_tab, foldl_snd_gen, foldl_snd_core, foldl_snd_sch, foldl_snd_tel, foldl_snd_pwr, foldl_snd_regs, foldl_snd_cnts]; done)

@[simp] theorem State.enterGen_keeps (g : Nat) (s : State) :
    (State.enterGen g s).pending = s.pending ∧ (State.enterGen g s).now = s.now ∧
    (State.enterGen g s).serial = s.serial ∧ (State.enterGen g s).out = s.out ∧
    (State.enterGen g s).pins = s.pins ∧ (State.enterGen g s).md = s.md ∧ (State.enterGen g s).host = s.host ∧
    (State.enterGen g s).cmds = s.cmds ∧ (State.enterGen g s).flt = s.flt ∧ (State.enterGen g s).clk = s.clk ∧
    (State.enterGen g s).ref = s.ref ∧ (State.enterGen g s).kennel = s.kennel ∧
    (State.enterGen g s).time = s.time ∧ (State.enterGen g s).buf = s.buf ∧ (State.enterGen g s).port = s.port ∧
    (State.enterGen g s).slices = s.slices ∧ (State.enterGen g s).tab = s.tab ∧
    (State.enterGen g s).core = s.core ∧ (State.enterGen g s).sch = s.sch ∧ (State.enterGen g s).tel = s.tel ∧
    (State.enterGen g s).pwr = s.pwr ∧ (State.enterGen g s).regs = s.regs ∧ (State.enterGen g s).cnts = s.cnts := by
  (unfold State.enterGen; simp only [ite_self, and_self, implies_true, Ran.st_done, Ran.st_wait, Ran.st_refuse, Ran.st_ite, snd_ite, ite_pending, ite_now, ite_serial, ite_out, ite_pins, ite_md, ite_host, ite_cmds, ite_flt, ite_clk, ite_ref, ite_kennel, ite_time, ite_buf, ite_port, ite_slices, ite_tab, ite_core, ite_sch, ite_tel, ite_pwr, ite_regs, ite_cnts, foldl_pending, foldl_now, foldl_serial, foldl_out, foldl_pins, foldl_md, foldl_host, foldl_cmds, foldl_flt, foldl_clk, foldl_ref, foldl_kennel, foldl_time, foldl_buf, foldl_port, foldl_slices, foldl_tab, foldl_core, foldl_sch, foldl_tel, foldl_pwr, foldl_regs, foldl_cnts, foldl_snd_pending, foldl_snd_now, foldl_snd_serial, foldl_snd_out, foldl_snd_pins, foldl_snd_md, foldl_snd_host, foldl_snd_cmds, foldl_snd_flt, foldl_snd_clk, foldl_snd_ref, foldl_snd_kennel, foldl_snd_time, foldl_snd_buf, foldl_snd_port, foldl_snd_slices, foldl_snd_tab, foldl_snd_core, foldl_snd_sch, foldl_snd_tel, foldl_snd_pwr, foldl_snd_regs, foldl_snd_cnts]; done)

@[simp] theorem State.setCsBank_keeps (g : Nat) (b : CsBank) (s : State) :
    (State.setCsBank g b s).pending = s.pending ∧ (State.setCsBank g b s).now = s.now ∧
    (State.setCsBank g b s).serial = s.serial ∧ (State.setCsBank g b s).out = s.out ∧
    (State.setCsBank g b s).pins = s.pins ∧ (State.setCsBank g b s).md = s.md ∧
    (State.setCsBank g b s).host = s.host ∧ (State.setCsBank g b s).cmds = s.cmds ∧
    (State.setCsBank g b s).flt = s.flt ∧ (State.setCsBank g b s).clk = s.clk ∧
    (State.setCsBank g b s).ref = s.ref ∧ (State.setCsBank g b s).kennel = s.kennel ∧
    (State.setCsBank g b s).time = s.time ∧ (State.setCsBank g b s).buf = s.buf ∧
    (State.setCsBank g b s).port = s.port ∧ (State.setCsBank g b s).slices = s.slices ∧
    (State.setCsBank g b s).tab = s.tab ∧ (State.setCsBank g b s).core = s.core ∧
    (State.setCsBank g b s).sch = s.sch ∧ (State.setCsBank g b s).tel = s.tel ∧
    (State.setCsBank g b s).pwr = s.pwr ∧ (State.setCsBank g b s).regs = s.regs ∧
    (State.setCsBank g b s).cnts = s.cnts := by
  (unfold State.setCsBank; simp only [ite_self, and_self, implies_true, Ran.st_done, Ran.st_wait, Ran.st_refuse, Ran.st_ite, snd_ite, ite_pending, ite_now, ite_serial, ite_out, ite_pins, ite_md, ite_host, ite_cmds, ite_flt, ite_clk, ite_ref, ite_kennel, ite_time, ite_buf, ite_port, ite_slices, ite_tab, ite_core, ite_sch, ite_tel, ite_pwr, ite_regs, ite_cnts, foldl_pending, foldl_now, foldl_serial, foldl_out, foldl_pins, foldl_md, foldl_host, foldl_cmds, foldl_flt, foldl_clk, foldl_ref, foldl_kennel, foldl_time, foldl_buf, foldl_port, foldl_slices, foldl_tab, foldl_core, foldl_sch, foldl_tel, foldl_pwr, foldl_regs, foldl_cnts, foldl_snd_pending, foldl_snd_now, foldl_snd_serial, foldl_snd_out, foldl_snd_pins, foldl_snd_md, foldl_snd_host, foldl_snd_cmds, foldl_snd_flt, foldl_snd_clk, foldl_snd_ref, foldl_snd_kennel, foldl_snd_time, foldl_snd_buf, foldl_snd_port, foldl_snd_slices, foldl_snd_tab, foldl_snd_core, foldl_snd_sch, foldl_snd_tel, foldl_snd_pwr, foldl_snd_regs, foldl_snd_cnts]; done)

@[simp] theorem State.setTreeBank_keeps (g : Nat) (b : TreeBank) (s : State) :
    (State.setTreeBank g b s).pending = s.pending ∧ (State.setTreeBank g b s).now = s.now ∧
    (State.setTreeBank g b s).serial = s.serial ∧ (State.setTreeBank g b s).out = s.out ∧
    (State.setTreeBank g b s).pins = s.pins ∧ (State.setTreeBank g b s).md = s.md ∧
    (State.setTreeBank g b s).host = s.host ∧ (State.setTreeBank g b s).cmds = s.cmds ∧
    (State.setTreeBank g b s).flt = s.flt ∧ (State.setTreeBank g b s).clk = s.clk ∧
    (State.setTreeBank g b s).ref = s.ref ∧ (State.setTreeBank g b s).kennel = s.kennel ∧
    (State.setTreeBank g b s).time = s.time ∧ (State.setTreeBank g b s).buf = s.buf ∧
    (State.setTreeBank g b s).port = s.port ∧ (State.setTreeBank g b s).slices = s.slices ∧
    (State.setTreeBank g b s).tab = s.tab ∧ (State.setTreeBank g b s).core = s.core ∧
    (State.setTreeBank g b s).sch = s.sch ∧ (State.setTreeBank g b s).tel = s.tel ∧
    (State.setTreeBank g b s).pwr = s.pwr ∧ (State.setTreeBank g b s).regs = s.regs ∧
    (State.setTreeBank g b s).cnts = s.cnts := by
  (unfold State.setTreeBank; simp only [ite_self, and_self, implies_true, Ran.st_done, Ran.st_wait, Ran.st_refuse, Ran.st_ite, snd_ite, ite_pending, ite_now, ite_serial, ite_out, ite_pins, ite_md, ite_host, ite_cmds, ite_flt, ite_clk, ite_ref, ite_kennel, ite_time, ite_buf, ite_port, ite_slices, ite_tab, ite_core, ite_sch, ite_tel, ite_pwr, ite_regs, ite_cnts, foldl_pending, foldl_now, foldl_serial, foldl_out, foldl_pins, foldl_md, foldl_host, foldl_cmds, foldl_flt, foldl_clk, foldl_ref, foldl_kennel, foldl_time, foldl_buf, foldl_port, foldl_slices, foldl_tab, foldl_core, foldl_sch, foldl_tel, foldl_pwr, foldl_regs, foldl_cnts, foldl_snd_pending, foldl_snd_now, foldl_snd_serial, foldl_snd_out, foldl_snd_pins, foldl_snd_md, foldl_snd_host, foldl_snd_cmds, foldl_snd_flt, foldl_snd_clk, foldl_snd_ref, foldl_snd_kennel, foldl_snd_time, foldl_snd_buf, foldl_snd_port, foldl_snd_slices, foldl_snd_tab, foldl_snd_core, foldl_snd_sch, foldl_snd_tel, foldl_snd_pwr, foldl_snd_regs, foldl_snd_cnts]; done)

@[simp] theorem State.slotCount_keeps (n : Nat) (c : SlotClass) (s : State) :
    (State.slotCount n c s).pending = s.pending ∧ (State.slotCount n c s).now = s.now ∧
    (State.slotCount n c s).serial = s.serial ∧ (State.slotCount n c s).out = s.out ∧
    (State.slotCount n c s).pins = s.pins ∧ (State.slotCount n c s).md = s.md ∧
    (State.slotCount n c s).host = s.host ∧ (State.slotCount n c s).cmds = s.cmds ∧
    (State.slotCount n c s).flt = s.flt ∧ (State.slotCount n c s).clk = s.clk ∧
    (State.slotCount n c s).ref = s.ref ∧ (State.slotCount n c s).kennel = s.kennel ∧
    (State.slotCount n c s).time = s.time ∧ (State.slotCount n c s).buf = s.buf ∧
    (State.slotCount n c s).port = s.port ∧ (State.slotCount n c s).slices = s.slices ∧
    (State.slotCount n c s).tab = s.tab ∧ (State.slotCount n c s).gen = s.gen ∧
    (State.slotCount n c s).core = s.core ∧ (State.slotCount n c s).sch = s.sch ∧
    (State.slotCount n c s).pwr = s.pwr ∧ (State.slotCount n c s).regs = s.regs := by
  (unfold State.slotCount; simp only [State.pmc_keeps, State.count_keeps, ite_self, and_self, implies_true, Ran.st_done, Ran.st_wait, Ran.st_refuse, Ran.st_ite, snd_ite, ite_pending, ite_now, ite_serial, ite_out, ite_pins, ite_md, ite_host, ite_cmds, ite_flt, ite_clk, ite_ref, ite_kennel, ite_time, ite_buf, ite_port, ite_slices, ite_tab, ite_gen, ite_core, ite_sch, ite_pwr, ite_regs, foldl_pending, foldl_now, foldl_serial, foldl_out, foldl_pins, foldl_md, foldl_host, foldl_cmds, foldl_flt, foldl_clk, foldl_ref, foldl_kennel, foldl_time, foldl_buf, foldl_port, foldl_slices, foldl_tab, foldl_gen, foldl_core, foldl_sch, foldl_pwr, foldl_regs, foldl_snd_pending, foldl_snd_now, foldl_snd_serial, foldl_snd_out, foldl_snd_pins, foldl_snd_md, foldl_snd_host, foldl_snd_cmds, foldl_snd_flt, foldl_snd_clk, foldl_snd_ref, foldl_snd_kennel, foldl_snd_time, foldl_snd_buf, foldl_snd_port, foldl_snd_slices, foldl_snd_tab, foldl_snd_gen, foldl_snd_core, foldl_snd_sch, foldl_snd_pwr, foldl_snd_regs]; done)

@[simp] theorem State.slotFill_keeps (n : Nat) (s : State) :
    (State.slotFill n s).pending = s.pending ∧ (State.slotFill n s).now = s.now ∧
    (State.slotFill n s).serial = s.serial ∧ (State.slotFill n s).out = s.out ∧
    (State.slotFill n s).pins = s.pins ∧ (State.slotFill n s).md = s.md ∧ (State.slotFill n s).host = s.host ∧
    (State.slotFill n s).cmds = s.cmds ∧ (State.slotFill n s).flt = s.flt ∧ (State.slotFill n s).clk = s.clk ∧
    (State.slotFill n s).ref = s.ref ∧ (State.slotFill n s).kennel = s.kennel ∧
    (State.slotFill n s).time = s.time ∧ (State.slotFill n s).buf = s.buf ∧ (State.slotFill n s).port = s.port ∧
    (State.slotFill n s).slices = s.slices ∧ (State.slotFill n s).tab = s.tab ∧ (State.slotFill n s).gen = s.gen ∧
    (State.slotFill n s).core = s.core ∧ (State.slotFill n s).sch = s.sch ∧ (State.slotFill n s).pwr = s.pwr ∧
    (State.slotFill n s).regs = s.regs := by
  (unfold State.slotFill; simp only [State.count_keeps, State.slotCount_keeps, ite_self, and_self, implies_true, Ran.st_done, Ran.st_wait, Ran.st_refuse, Ran.st_ite, snd_ite, ite_pending, ite_now, ite_serial, ite_out, ite_pins, ite_md, ite_host, ite_cmds, ite_flt, ite_clk, ite_ref, ite_kennel, ite_time, ite_buf, ite_port, ite_slices, ite_tab, ite_gen, ite_core, ite_sch, ite_pwr, ite_regs, foldl_pending, foldl_now, foldl_serial, foldl_out, foldl_pins, foldl_md, foldl_host, foldl_cmds, foldl_flt, foldl_clk, foldl_ref, foldl_kennel, foldl_time, foldl_buf, foldl_port, foldl_slices, foldl_tab, foldl_gen, foldl_core, foldl_sch, foldl_pwr, foldl_regs, foldl_snd_pending, foldl_snd_now, foldl_snd_serial, foldl_snd_out, foldl_snd_pins, foldl_snd_md, foldl_snd_host, foldl_snd_cmds, foldl_snd_flt, foldl_snd_clk, foldl_snd_ref, foldl_snd_kennel, foldl_snd_time, foldl_snd_buf, foldl_snd_port, foldl_snd_slices, foldl_snd_tab, foldl_snd_gen, foldl_snd_core, foldl_snd_sch, foldl_snd_pwr, foldl_snd_regs]; done)

@[simp] theorem State.slotLeave_keeps (n : Nat) (c : SlotClass) (s : State) :
    (State.slotLeave n c s).pending = s.pending ∧ (State.slotLeave n c s).now = s.now ∧
    (State.slotLeave n c s).serial = s.serial ∧ (State.slotLeave n c s).out = s.out ∧
    (State.slotLeave n c s).pins = s.pins ∧ (State.slotLeave n c s).md = s.md ∧
    (State.slotLeave n c s).host = s.host ∧ (State.slotLeave n c s).cmds = s.cmds ∧
    (State.slotLeave n c s).flt = s.flt ∧ (State.slotLeave n c s).clk = s.clk ∧
    (State.slotLeave n c s).ref = s.ref ∧ (State.slotLeave n c s).kennel = s.kennel ∧
    (State.slotLeave n c s).time = s.time ∧ (State.slotLeave n c s).buf = s.buf ∧
    (State.slotLeave n c s).port = s.port ∧ (State.slotLeave n c s).slices = s.slices ∧
    (State.slotLeave n c s).tab = s.tab ∧ (State.slotLeave n c s).gen = s.gen ∧
    (State.slotLeave n c s).core = s.core ∧ (State.slotLeave n c s).sch = s.sch ∧
    (State.slotLeave n c s).pwr = s.pwr ∧ (State.slotLeave n c s).regs = s.regs := by
  (unfold State.slotLeave; simp only [State.count_keeps, State.slotCount_keeps, ite_self, and_self, implies_true, Ran.st_done, Ran.st_wait, Ran.st_refuse, Ran.st_ite, snd_ite, ite_pending, ite_now, ite_serial, ite_out, ite_pins, ite_md, ite_host, ite_cmds, ite_flt, ite_clk, ite_ref, ite_kennel, ite_time, ite_buf, ite_port, ite_slices, ite_tab, ite_gen, ite_core, ite_sch, ite_pwr, ite_regs, foldl_pending, foldl_now, foldl_serial, foldl_out, foldl_pins, foldl_md, foldl_host, foldl_cmds, foldl_flt, foldl_clk, foldl_ref, foldl_kennel, foldl_time, foldl_buf, foldl_port, foldl_slices, foldl_tab, foldl_gen, foldl_core, foldl_sch, foldl_pwr, foldl_regs, foldl_snd_pending, foldl_snd_now, foldl_snd_serial, foldl_snd_out, foldl_snd_pins, foldl_snd_md, foldl_snd_host, foldl_snd_cmds, foldl_snd_flt, foldl_snd_clk, foldl_snd_ref, foldl_snd_kennel, foldl_snd_time, foldl_snd_buf, foldl_snd_port, foldl_snd_slices, foldl_snd_tab, foldl_snd_gen, foldl_snd_core, foldl_snd_sch, foldl_snd_pwr, foldl_snd_regs]; done)

@[simp] theorem State.setPkt_keeps (k : Pkt) (s : State) :
    (State.setPkt k s).pending = s.pending ∧ (State.setPkt k s).now = s.now ∧
    (State.setPkt k s).serial = s.serial ∧ (State.setPkt k s).out = s.out ∧ (State.setPkt k s).pins = s.pins ∧
    (State.setPkt k s).md = s.md ∧ (State.setPkt k s).host = s.host ∧ (State.setPkt k s).cmds = s.cmds ∧
    (State.setPkt k s).flt = s.flt ∧ (State.setPkt k s).clk = s.clk ∧ (State.setPkt k s).ref = s.ref ∧
    (State.setPkt k s).kennel = s.kennel ∧ (State.setPkt k s).time = s.time ∧ (State.setPkt k s).buf = s.buf ∧
    (State.setPkt k s).port = s.port ∧ (State.setPkt k s).slices = s.slices ∧ (State.setPkt k s).tab = s.tab ∧
    (State.setPkt k s).gen = s.gen ∧ (State.setPkt k s).sch = s.sch ∧ (State.setPkt k s).tel = s.tel ∧
    (State.setPkt k s).pwr = s.pwr ∧ (State.setPkt k s).regs = s.regs ∧ (State.setPkt k s).cnts = s.cnts := by
  (unfold State.setPkt; simp only [ite_self, and_self, implies_true, Ran.st_done, Ran.st_wait, Ran.st_refuse, Ran.st_ite, snd_ite, foldl_pending, foldl_now, foldl_serial, foldl_out, foldl_pins, foldl_md, foldl_host, foldl_cmds, foldl_flt, foldl_clk, foldl_ref, foldl_kennel, foldl_time, foldl_buf, foldl_port, foldl_slices, foldl_tab, foldl_gen, foldl_sch, foldl_tel, foldl_pwr, foldl_regs, foldl_cnts, foldl_snd_pending, foldl_snd_now, foldl_snd_serial, foldl_snd_out, foldl_snd_pins, foldl_snd_md, foldl_snd_host, foldl_snd_cmds, foldl_snd_flt, foldl_snd_clk, foldl_snd_ref, foldl_snd_kennel, foldl_snd_time, foldl_snd_buf, foldl_snd_port, foldl_snd_slices, foldl_snd_tab, foldl_snd_gen, foldl_snd_sch, foldl_snd_tel, foldl_snd_pwr, foldl_snd_regs, foldl_snd_cnts]; done)

@[simp] theorem State.dropPktOut_keeps (k : Pkt) (s : State) :
    (State.dropPktOut k s).pending = s.pending ∧ (State.dropPktOut k s).now = s.now ∧
    (State.dropPktOut k s).serial = s.serial ∧ (State.dropPktOut k s).out = s.out ∧
    (State.dropPktOut k s).pins = s.pins ∧ (State.dropPktOut k s).md = s.md ∧
    (State.dropPktOut k s).host = s.host ∧ (State.dropPktOut k s).cmds = s.cmds ∧
    (State.dropPktOut k s).flt = s.flt ∧ (State.dropPktOut k s).clk = s.clk ∧ (State.dropPktOut k s).ref = s.ref ∧
    (State.dropPktOut k s).kennel = s.kennel ∧ (State.dropPktOut k s).time = s.time ∧
    (State.dropPktOut k s).buf = s.buf ∧ (State.dropPktOut k s).port = s.port ∧
    (State.dropPktOut k s).slices = s.slices ∧ (State.dropPktOut k s).tab = s.tab ∧
    (State.dropPktOut k s).gen = s.gen ∧ (State.dropPktOut k s).sch = s.sch ∧ (State.dropPktOut k s).tel = s.tel ∧
    (State.dropPktOut k s).pwr = s.pwr ∧ (State.dropPktOut k s).regs = s.regs ∧
    (State.dropPktOut k s).cnts = s.cnts := by
  (unfold State.dropPktOut; simp only [ite_self, and_self, implies_true, Ran.st_done, Ran.st_wait, Ran.st_refuse, Ran.st_ite, snd_ite, foldl_pending, foldl_now, foldl_serial, foldl_out, foldl_pins, foldl_md, foldl_host, foldl_cmds, foldl_flt, foldl_clk, foldl_ref, foldl_kennel, foldl_time, foldl_buf, foldl_port, foldl_slices, foldl_tab, foldl_gen, foldl_sch, foldl_tel, foldl_pwr, foldl_regs, foldl_cnts, foldl_snd_pending, foldl_snd_now, foldl_snd_serial, foldl_snd_out, foldl_snd_pins, foldl_snd_md, foldl_snd_host, foldl_snd_cmds, foldl_snd_flt, foldl_snd_clk, foldl_snd_ref, foldl_snd_kennel, foldl_snd_time, foldl_snd_buf, foldl_snd_port, foldl_snd_slices, foldl_snd_tab, foldl_snd_gen, foldl_snd_sch, foldl_snd_tel, foldl_snd_pwr, foldl_snd_regs, foldl_snd_cnts]; done)

@[simp] theorem State.dropPkt_keeps (r : Nat) (pick : Draw) (k : Pkt) (s : State) :
    (State.dropPkt r pick k s).pending = s.pending ∧ (State.dropPkt r pick k s).now = s.now ∧
    (State.dropPkt r pick k s).serial = s.serial ∧ (State.dropPkt r pick k s).pins = s.pins ∧
    (State.dropPkt r pick k s).md = s.md ∧ (State.dropPkt r pick k s).cmds = s.cmds ∧
    (State.dropPkt r pick k s).clk = s.clk ∧ (State.dropPkt r pick k s).kennel = s.kennel ∧
    (State.dropPkt r pick k s).time = s.time ∧ (State.dropPkt r pick k s).port = s.port ∧
    (State.dropPkt r pick k s).slices = s.slices ∧ (State.dropPkt r pick k s).tab = s.tab ∧
    (State.dropPkt r pick k s).sch = s.sch ∧ (State.dropPkt r pick k s).pwr = s.pwr ∧
    (State.dropPkt r pick k s).regs = s.regs ∧ (State.dropPkt r pick k s).flt.keel0 = s.flt.keel0 ∧
    (State.dropPkt r pick k s).flt.keel1 = s.flt.keel1 := by
  unfold State.dropPkt
  (try dsimp only)
  (repeat' split) <;> first | (simp; done) | (rename_i q; simp [snd_of q]; done) | (rename_i q _; simp [snd_of q]; done)
end Sys2Proof.Machine
end

