-- ==== Sys2Proof/Laws/KeepsFlow.lean ====
section
/-! SUPPORT. What each operation of Machine/Flow.lean keeps: the parts of the state that it leaves as they are. -/
set_option linter.unusedSimpArgs false
set_option linter.unusedVariables false
namespace Sys2Proof.Machine
open Host (Outcome)

@[simp] theorem State.setPause_keeps (p tc until' : Nat) (s : State) :
    (State.setPause p tc until' s).pending = s.pending ∧ (State.setPause p tc until' s).now = s.now ∧
    (State.setPause p tc until' s).serial = s.serial ∧ (State.setPause p tc until' s).out = s.out ∧
    (State.setPause p tc until' s).pins = s.pins ∧ (State.setPause p tc until' s).md = s.md ∧
    (State.setPause p tc until' s).host = s.host ∧ (State.setPause p tc until' s).cmds = s.cmds ∧
    (State.setPause p tc until' s).flt = s.flt ∧ (State.setPause p tc until' s).clk = s.clk ∧
    (State.setPause p tc until' s).ref = s.ref ∧ (State.setPause p tc until' s).kennel = s.kennel ∧
    (State.setPause p tc until' s).time = s.time ∧ (State.setPause p tc until' s).buf = s.buf ∧
    (State.setPause p tc until' s).slices = s.slices ∧ (State.setPause p tc until' s).tab = s.tab ∧
    (State.setPause p tc until' s).gen = s.gen ∧ (State.setPause p tc until' s).core = s.core ∧
    (State.setPause p tc until' s).sch = s.sch ∧ (State.setPause p tc until' s).tel = s.tel ∧
    (State.setPause p tc until' s).pwr = s.pwr ∧ (State.setPause p tc until' s).regs = s.regs ∧
    (State.setPause p tc until' s).cnts = s.cnts := by
  (unfold State.setPause; simp only [State.setPt_keeps, ite_self, and_self, implies_true, Ran.st_done, Ran.st_wait, Ran.st_refuse, Ran.st_ite, snd_ite, foldl_pending, foldl_now, foldl_serial, foldl_out, foldl_pins, foldl_md, foldl_host, foldl_cmds, foldl_flt, foldl_clk, foldl_ref, foldl_kennel, foldl_time, foldl_buf, foldl_slices, foldl_tab, foldl_gen, foldl_core, foldl_sch, foldl_tel, foldl_pwr, foldl_regs, foldl_cnts, foldl_snd_pending, foldl_snd_now, foldl_snd_serial, foldl_snd_out, foldl_snd_pins, foldl_snd_md, foldl_snd_host, foldl_snd_cmds, foldl_snd_flt, foldl_snd_clk, foldl_snd_ref, foldl_snd_kennel, foldl_snd_time, foldl_snd_buf, foldl_snd_slices, foldl_snd_tab, foldl_snd_gen, foldl_snd_core, foldl_snd_sch, foldl_snd_tel, foldl_snd_pwr, foldl_snd_regs, foldl_snd_cnts]; done)

@[simp] theorem State.macControl_keeps (p : Nat) (b : List Byte) (s : State) :
    (State.macControl p b s).pending = s.pending ∧ (State.macControl p b s).now = s.now ∧
    (State.macControl p b s).serial = s.serial ∧ (State.macControl p b s).out = s.out ∧
    (State.macControl p b s).pins = s.pins ∧ (State.macControl p b s).md = s.md ∧
    (State.macControl p b s).host = s.host ∧ (State.macControl p b s).cmds = s.cmds ∧
    (State.macControl p b s).flt = s.flt ∧ (State.macControl p b s).clk = s.clk ∧
    (State.macControl p b s).ref = s.ref ∧ (State.macControl p b s).kennel = s.kennel ∧
    (State.macControl p b s).time = s.time ∧ (State.macControl p b s).buf = s.buf ∧
    (State.macControl p b s).slices = s.slices ∧ (State.macControl p b s).tab = s.tab ∧
    (State.macControl p b s).gen = s.gen ∧ (State.macControl p b s).core = s.core ∧
    (State.macControl p b s).sch = s.sch ∧ (State.macControl p b s).tel = s.tel ∧
    (State.macControl p b s).pwr = s.pwr ∧ (State.macControl p b s).regs = s.regs := by
  (unfold State.macControl; split <;> simp only [State.setPause_keeps, State.ptCount_keeps, ite_self, and_self, implies_true, Ran.st_done, Ran.st_wait, Ran.st_refuse, Ran.st_ite, snd_ite, ite_pending, ite_now, ite_serial, ite_out, ite_pins, ite_md, ite_host, ite_cmds, ite_flt, ite_clk, ite_ref, ite_kennel, ite_time, ite_buf, ite_slices, ite_tab, ite_gen, ite_core, ite_sch, ite_tel, ite_pwr, ite_regs, foldl_pending, foldl_now, foldl_serial, foldl_out, foldl_pins, foldl_md, foldl_host, foldl_cmds, foldl_flt, foldl_clk, foldl_ref, foldl_kennel, foldl_time, foldl_buf, foldl_slices, foldl_tab, foldl_gen, foldl_core, foldl_sch, foldl_tel, foldl_pwr, foldl_regs, foldl_snd_pending, foldl_snd_now, foldl_snd_serial, foldl_snd_out, foldl_snd_pins, foldl_snd_md, foldl_snd_host, foldl_snd_cmds, foldl_snd_flt, foldl_snd_clk, foldl_snd_ref, foldl_snd_kennel, foldl_snd_time, foldl_snd_buf, foldl_snd_slices, foldl_snd_tab, foldl_snd_gen, foldl_snd_core, foldl_snd_sch, foldl_snd_tel, foldl_snd_pwr, foldl_snd_regs])

@[simp] theorem State.addPkt_keeps (k : Pkt) (s : State) :
    (State.addPkt k s).pending = s.pending ∧ (State.addPkt k s).now = s.now ∧
    (State.addPkt k s).serial = s.serial ∧ (State.addPkt k s).out = s.out ∧ (State.addPkt k s).pins = s.pins ∧
    (State.addPkt k s).md = s.md ∧ (State.addPkt k s).host = s.host ∧ (State.addPkt k s).cmds = s.cmds ∧
    (State.addPkt k s).flt = s.flt ∧ (State.addPkt k s).clk = s.clk ∧ (State.addPkt k s).ref = s.ref ∧
    (State.addPkt k s).kennel = s.kennel ∧ (State.addPkt k s).time = s.time ∧ (State.addPkt k s).buf = s.buf ∧
    (State.addPkt k s).port = s.port ∧ (State.addPkt k s).slices = s.slices ∧ (State.addPkt k s).tab = s.tab ∧
    (State.addPkt k s).gen = s.gen ∧ (State.addPkt k s).sch = s.sch ∧ (State.addPkt k s).tel = s.tel ∧
    (State.addPkt k s).pwr = s.pwr ∧ (State.addPkt k s).regs = s.regs ∧ (State.addPkt k s).cnts = s.cnts := by
  (unfold State.addPkt; simp only [ite_self, and_self, implies_true, Ran.st_done, Ran.st_wait, Ran.st_refuse, Ran.st_ite, snd_ite, foldl_pending, foldl_now, foldl_serial, foldl_out, foldl_pins, foldl_md, foldl_host, foldl_cmds, foldl_flt, foldl_clk, foldl_ref, foldl_kennel, foldl_time, foldl_buf, foldl_port, foldl_slices, foldl_tab, foldl_gen, foldl_sch, foldl_tel, foldl_pwr, foldl_regs, foldl_cnts, foldl_snd_pending, foldl_snd_now, foldl_snd_serial, foldl_snd_out, foldl_snd_pins, foldl_snd_md, foldl_snd_host, foldl_snd_cmds, foldl_snd_flt, foldl_snd_clk, foldl_snd_ref, foldl_snd_kennel, foldl_snd_time, foldl_snd_buf, foldl_snd_port, foldl_snd_slices, foldl_snd_tab, foldl_snd_gen, foldl_snd_sch, foldl_snd_tel, foldl_snd_pwr, foldl_snd_regs, foldl_snd_cnts]; done)

@[simp] theorem State.passOn_keeps (p : Nat) (b : List Byte) (late : Late) (s : State) :
    (State.passOn p b late s).pending = s.pending ∧ (State.passOn p b late s).now = s.now ∧
    (State.passOn p b late s).serial = s.serial ∧ (State.passOn p b late s).out = s.out ∧
    (State.passOn p b late s).pins = s.pins ∧ (State.passOn p b late s).md = s.md ∧
    (State.passOn p b late s).host = s.host ∧ (State.passOn p b late s).cmds = s.cmds ∧
    (State.passOn p b late s).flt = s.flt ∧ (State.passOn p b late s).clk = s.clk ∧
    (State.passOn p b late s).ref = s.ref ∧ (State.passOn p b late s).kennel = s.kennel ∧
    (State.passOn p b late s).time = s.time ∧ (State.passOn p b late s).buf = s.buf ∧
    (State.passOn p b late s).port = s.port ∧ (State.passOn p b late s).slices = s.slices ∧
    (State.passOn p b late s).tab = s.tab ∧ (State.passOn p b late s).gen = s.gen ∧
    (State.passOn p b late s).sch = s.sch ∧ (State.passOn p b late s).tel = s.tel ∧
    (State.passOn p b late s).pwr = s.pwr ∧ (State.passOn p b late s).regs = s.regs := by
  (unfold State.passOn; split <;> simp only [State.addPkt_keeps, State.ptCount_keeps, ite_self, and_self, implies_true, Ran.st_done, Ran.st_wait, Ran.st_refuse, Ran.st_ite, snd_ite, ite_pending, ite_now, ite_serial, ite_out, ite_pins, ite_md, ite_host, ite_cmds, ite_flt, ite_clk, ite_ref, ite_kennel, ite_time, ite_buf, ite_port, ite_slices, ite_tab, ite_gen, ite_sch, ite_tel, ite_pwr, ite_regs, foldl_pending, foldl_now, foldl_serial, foldl_out, foldl_pins, foldl_md, foldl_host, foldl_cmds, foldl_flt, foldl_clk, foldl_ref, foldl_kennel, foldl_time, foldl_buf, foldl_port, foldl_slices, foldl_tab, foldl_gen, foldl_sch, foldl_tel, foldl_pwr, foldl_regs, foldl_snd_pending, foldl_snd_now, foldl_snd_serial, foldl_snd_out, foldl_snd_pins, foldl_snd_md, foldl_snd_host, foldl_snd_cmds, foldl_snd_flt, foldl_snd_clk, foldl_snd_ref, foldl_snd_kennel, foldl_snd_time, foldl_snd_buf, foldl_snd_port, foldl_snd_slices, foldl_snd_tab, foldl_snd_gen, foldl_snd_sch, foldl_snd_tel, foldl_snd_pwr, foldl_snd_regs])

@[simp] theorem State.receive_keeps (p : Nat) (b : List Byte) (errored : Bool) (s : State) :
    (State.receive p b errored s).pending = s.pending ∧ (State.receive p b errored s).now = s.now ∧
    (State.receive p b errored s).serial = s.serial ∧ (State.receive p b errored s).out = s.out ∧
    (State.receive p b errored s).pins = s.pins ∧ (State.receive p b errored s).md = s.md ∧
    (State.receive p b errored s).host = s.host ∧ (State.receive p b errored s).cmds = s.cmds ∧
    (State.receive p b errored s).flt = s.flt ∧ (State.receive p b errored s).clk = s.clk ∧
    (State.receive p b errored s).ref = s.ref ∧ (State.receive p b errored s).kennel = s.kennel ∧
    (State.receive p b errored s).time = s.time ∧ (State.receive p b errored s).buf = s.buf ∧
    (State.receive p b errored s).slices = s.slices ∧ (State.receive p b errored s).tab = s.tab ∧
    (State.receive p b errored s).gen = s.gen ∧ (State.receive p b errored s).sch = s.sch ∧
    (State.receive p b errored s).tel = s.tel ∧ (State.receive p b errored s).pwr = s.pwr ∧
    (State.receive p b errored s).regs = s.regs := by
  (unfold State.receive; simp only [State.macControl_keeps, State.ptCount_keeps, State.passOn_keeps, ite_self, and_self, implies_true, Ran.st_done, Ran.st_wait, Ran.st_refuse, Ran.st_ite, snd_ite, ite_pending, ite_now, ite_serial, ite_out, ite_pins, ite_md, ite_host, ite_cmds, ite_flt, ite_clk, ite_ref, ite_kennel, ite_time, ite_buf, ite_slices, ite_tab, ite_gen, ite_sch, ite_tel, ite_pwr, ite_regs, foldl_pending, foldl_now, foldl_serial, foldl_out, foldl_pins, foldl_md, foldl_host, foldl_cmds, foldl_flt, foldl_clk, foldl_ref, foldl_kennel, foldl_time, foldl_buf, foldl_slices, foldl_tab, foldl_gen, foldl_sch, foldl_tel, foldl_pwr, foldl_regs, foldl_snd_pending, foldl_snd_now, foldl_snd_serial, foldl_snd_out, foldl_snd_pins, foldl_snd_md, foldl_snd_host, foldl_snd_cmds, foldl_snd_flt, foldl_snd_clk, foldl_snd_ref, foldl_snd_kennel, foldl_snd_time, foldl_snd_buf, foldl_snd_slices, foldl_snd_tab, foldl_snd_gen, foldl_snd_sch, foldl_snd_tel, foldl_snd_pwr, foldl_snd_regs]; done)

@[simp] theorem State.setAsm_keeps (p : Nat) (b : List Byte) (s : State) :
    (State.setAsm p b s).pending = s.pending ∧ (State.setAsm p b s).now = s.now ∧
    (State.setAsm p b s).serial = s.serial ∧ (State.setAsm p b s).out = s.out ∧
    (State.setAsm p b s).pins = s.pins ∧ (State.setAsm p b s).md = s.md ∧ (State.setAsm p b s).host = s.host ∧
    (State.setAsm p b s).cmds = s.cmds ∧ (State.setAsm p b s).flt = s.flt ∧ (State.setAsm p b s).clk = s.clk ∧
    (State.setAsm p b s).ref = s.ref ∧ (State.setAsm p b s).kennel = s.kennel ∧
    (State.setAsm p b s).time = s.time ∧ (State.setAsm p b s).buf = s.buf ∧
    (State.setAsm p b s).slices = s.slices ∧ (State.setAsm p b s).tab = s.tab ∧ (State.setAsm p b s).gen = s.gen ∧
    (State.setAsm p b s).core = s.core ∧ (State.setAsm p b s).sch = s.sch ∧ (State.setAsm p b s).tel = s.tel ∧
    (State.setAsm p b s).pwr = s.pwr ∧ (State.setAsm p b s).regs = s.regs ∧ (State.setAsm p b s).cnts = s.cnts := by
  (unfold State.setAsm; simp only [State.setPt_keeps, ite_self, and_self, implies_true, Ran.st_done, Ran.st_wait, Ran.st_refuse, Ran.st_ite, snd_ite, foldl_pending, foldl_now, foldl_serial, foldl_out, foldl_pins, foldl_md, foldl_host, foldl_cmds, foldl_flt, foldl_clk, foldl_ref, foldl_kennel, foldl_time, foldl_buf, foldl_slices, foldl_tab, foldl_gen, foldl_core, foldl_sch, foldl_tel, foldl_pwr, foldl_regs, foldl_cnts, foldl_snd_pending, foldl_snd_now, foldl_snd_serial, foldl_snd_out, foldl_snd_pins, foldl_snd_md, foldl_snd_host, foldl_snd_cmds, foldl_snd_flt, foldl_snd_clk, foldl_snd_ref, foldl_snd_kennel, foldl_snd_time, foldl_snd_buf, foldl_snd_slices, foldl_snd_tab, foldl_snd_gen, foldl_snd_core, foldl_snd_sch, foldl_snd_tel, foldl_snd_pwr, foldl_snd_regs, foldl_snd_cnts]; done)

@[simp] theorem State.lineOut_keeps (p : Nat) (b : List Byte) (bad : Bool) (s : State) :
    (State.lineOut p b bad s).pending = s.pending ∧ (State.lineOut p b bad s).now = s.now ∧
    (State.lineOut p b bad s).serial = s.serial ∧ (State.lineOut p b bad s).pins = s.pins ∧
    (State.lineOut p b bad s).md = s.md ∧ (State.lineOut p b bad s).host = s.host ∧
    (State.lineOut p b bad s).cmds = s.cmds ∧ (State.lineOut p b bad s).flt = s.flt ∧
    (State.lineOut p b bad s).clk = s.clk ∧ (State.lineOut p b bad s).ref = s.ref ∧
    (State.lineOut p b bad s).kennel = s.kennel ∧ (State.lineOut p b bad s).time = s.time ∧
    (State.lineOut p b bad s).buf = s.buf ∧ (State.lineOut p b bad s).slices = s.slices ∧
    (State.lineOut p b bad s).tab = s.tab ∧ (State.lineOut p b bad s).gen = s.gen ∧
    (State.lineOut p b bad s).sch = s.sch ∧ (State.lineOut p b bad s).tel = s.tel ∧
    (State.lineOut p b bad s).pwr = s.pwr ∧ (State.lineOut p b bad s).regs = s.regs := by
  (unfold State.lineOut; split <;> simp only [State.receive_keeps, State.emit_keeps, ite_self, and_self, implies_true, Ran.st_done, Ran.st_wait, Ran.st_refuse, Ran.st_ite, snd_ite, ite_pending, ite_now, ite_serial, ite_pins, ite_md, ite_host, ite_cmds, ite_flt, ite_clk, ite_ref, ite_kennel, ite_time, ite_buf, ite_slices, ite_tab, ite_gen, ite_sch, ite_tel, ite_pwr, ite_regs, foldl_pending, foldl_now, foldl_serial, foldl_pins, foldl_md, foldl_host, foldl_cmds, foldl_flt, foldl_clk, foldl_ref, foldl_kennel, foldl_time, foldl_buf, foldl_slices, foldl_tab, foldl_gen, foldl_sch, foldl_tel, foldl_pwr, foldl_regs, foldl_snd_pending, foldl_snd_now, foldl_snd_serial, foldl_snd_pins, foldl_snd_md, foldl_snd_host, foldl_snd_cmds, foldl_snd_flt, foldl_snd_clk, foldl_snd_ref, foldl_snd_kennel, foldl_snd_time, foldl_snd_buf, foldl_snd_slices, foldl_snd_tab, foldl_snd_gen, foldl_snd_sch, foldl_snd_tel, foldl_snd_pwr, foldl_snd_regs])

@[simp] theorem State.sendMac_keeps (p : Nat) (payload : List Byte) (s : State) :
    (State.sendMac p payload s).pending = s.pending ∧ (State.sendMac p payload s).now = s.now ∧
    (State.sendMac p payload s).serial = s.serial ∧ (State.sendMac p payload s).pins = s.pins ∧
    (State.sendMac p payload s).md = s.md ∧ (State.sendMac p payload s).host = s.host ∧
    (State.sendMac p payload s).cmds = s.cmds ∧ (State.sendMac p payload s).flt = s.flt ∧
    (State.sendMac p payload s).clk = s.clk ∧ (State.sendMac p payload s).ref = s.ref ∧
    (State.sendMac p payload s).kennel = s.kennel ∧ (State.sendMac p payload s).time = s.time ∧
    (State.sendMac p payload s).buf = s.buf ∧ (State.sendMac p payload s).slices = s.slices ∧
    (State.sendMac p payload s).tab = s.tab ∧ (State.sendMac p payload s).gen = s.gen ∧
    (State.sendMac p payload s).sch = s.sch ∧ (State.sendMac p payload s).tel = s.tel ∧
    (State.sendMac p payload s).pwr = s.pwr ∧ (State.sendMac p payload s).regs = s.regs := by
  (unfold State.sendMac; simp only [State.coreCount_keeps, State.lineOut_keeps, State.ptCount_keeps, ite_self, and_self, implies_true, Ran.st_done, Ran.st_wait, Ran.st_refuse, Ran.st_ite, snd_ite, ite_pending, ite_now, ite_serial, ite_pins, ite_md, ite_host, ite_cmds, ite_flt, ite_clk, ite_ref, ite_kennel, ite_time, ite_buf, ite_slices, ite_tab, ite_gen, ite_sch, ite_tel, ite_pwr, ite_regs, foldl_pending, foldl_now, foldl_serial, foldl_pins, foldl_md, foldl_host, foldl_cmds, foldl_flt, foldl_clk, foldl_ref, foldl_kennel, foldl_time, foldl_buf, foldl_slices, foldl_tab, foldl_gen, foldl_sch, foldl_tel, foldl_pwr, foldl_regs, foldl_snd_pending, foldl_snd_now, foldl_snd_serial, foldl_snd_pins, foldl_snd_md, foldl_snd_host, foldl_snd_cmds, foldl_snd_flt, foldl_snd_clk, foldl_snd_ref, foldl_snd_kennel, foldl_snd_time, foldl_snd_buf, foldl_snd_slices, foldl_snd_tab, foldl_snd_gen, foldl_snd_sch, foldl_snd_tel, foldl_snd_pwr, foldl_snd_regs]; done)

@[simp] theorem State.putLine_keeps (p : Nat) (b : List Byte) (bad : Bool) (s : State) :
    (State.putLine p b bad s).pending = s.pending ∧ (State.putLine p b bad s).now = s.now ∧
    (State.putLine p b bad s).serial = s.serial ∧ (State.putLine p b bad s).pins = s.pins ∧
    (State.putLine p b bad s).md = s.md ∧ (State.putLine p b bad s).host = s.host ∧
    (State.putLine p b bad s).cmds = s.cmds ∧ (State.putLine p b bad s).flt = s.flt ∧
    (State.putLine p b bad s).clk = s.clk ∧ (State.putLine p b bad s).ref = s.ref ∧
    (State.putLine p b bad s).kennel = s.kennel ∧ (State.putLine p b bad s).time = s.time ∧
    (State.putLine p b bad s).buf = s.buf ∧ (State.putLine p b bad s).slices = s.slices ∧
    (State.putLine p b bad s).tab = s.tab ∧ (State.putLine p b bad s).gen = s.gen ∧
    (State.putLine p b bad s).sch = s.sch ∧ (State.putLine p b bad s).tel = s.tel ∧
    (State.putLine p b bad s).pwr = s.pwr ∧ (State.putLine p b bad s).regs = s.regs := by
  (unfold State.putLine; simp only [State.lineOut_keeps, State.ptCount_keeps, ite_self, and_self, implies_true, Ran.st_done, Ran.st_wait, Ran.st_refuse, Ran.st_ite, snd_ite, ite_pending, ite_now, ite_serial, ite_pins, ite_md, ite_host, ite_cmds, ite_flt, ite_clk, ite_ref, ite_kennel, ite_time, ite_buf, ite_slices, ite_tab, ite_gen, ite_sch, ite_tel, ite_pwr, ite_regs, foldl_pending, foldl_now, foldl_serial, foldl_pins, foldl_md, foldl_host, foldl_cmds, foldl_flt, foldl_clk, foldl_ref, foldl_kennel, foldl_time, foldl_buf, foldl_slices, foldl_tab, foldl_gen, foldl_sch, foldl_tel, foldl_pwr, foldl_regs, foldl_snd_pending, foldl_snd_now, foldl_snd_serial, foldl_snd_pins, foldl_snd_md, foldl_snd_host, foldl_snd_cmds, foldl_snd_flt, foldl_snd_clk, foldl_snd_ref, foldl_snd_kennel, foldl_snd_time, foldl_snd_buf, foldl_snd_slices, foldl_snd_tab, foldl_snd_gen, foldl_snd_sch, foldl_snd_tel, foldl_snd_pwr, foldl_snd_regs]; done)

@[simp] theorem State.beginSending_keeps (p : Nat) (x : Sending) (s : State) :
    (State.beginSending p x s).pending = s.pending ∧ (State.beginSending p x s).now = s.now ∧
    (State.beginSending p x s).serial = s.serial ∧ (State.beginSending p x s).out = s.out ∧
    (State.beginSending p x s).pins = s.pins ∧ (State.beginSending p x s).md = s.md ∧
    (State.beginSending p x s).host = s.host ∧ (State.beginSending p x s).cmds = s.cmds ∧
    (State.beginSending p x s).flt = s.flt ∧ (State.beginSending p x s).clk = s.clk ∧
    (State.beginSending p x s).ref = s.ref ∧ (State.beginSending p x s).kennel = s.kennel ∧
    (State.beginSending p x s).time = s.time ∧ (State.beginSending p x s).buf = s.buf ∧
    (State.beginSending p x s).port = s.port ∧ (State.beginSending p x s).slices = s.slices ∧
    (State.beginSending p x s).tab = s.tab ∧ (State.beginSending p x s).gen = s.gen ∧
    (State.beginSending p x s).sch = s.sch ∧ (State.beginSending p x s).tel = s.tel ∧
    (State.beginSending p x s).pwr = s.pwr ∧ (State.beginSending p x s).regs = s.regs ∧
    (State.beginSending p x s).cnts = s.cnts := by
  (unfold State.beginSending; simp only [ite_self, and_self, implies_true, Ran.st_done, Ran.st_wait, Ran.st_refuse, Ran.st_ite, snd_ite, foldl_pending, foldl_now, foldl_serial, foldl_out, foldl_pins, foldl_md, foldl_host, foldl_cmds, foldl_flt, foldl_clk, foldl_ref, foldl_kennel, foldl_time, foldl_buf, foldl_port, foldl_slices, foldl_tab, foldl_gen, foldl_sch, foldl_tel, foldl_pwr, foldl_regs, foldl_cnts, foldl_snd_pending, foldl_snd_now, foldl_snd_serial, foldl_snd_out, foldl_snd_pins, foldl_snd_md, foldl_snd_host, foldl_snd_cmds, foldl_snd_flt, foldl_snd_clk, foldl_snd_ref, foldl_snd_kennel, foldl_snd_time, foldl_snd_buf, foldl_snd_port, foldl_snd_slices, foldl_snd_tab, foldl_snd_gen, foldl_snd_sch, foldl_snd_tel, foldl_snd_pwr, foldl_snd_regs, foldl_snd_cnts]; done)

@[simp] theorem State.fragOut_keeps (p : Nat) (b : List Byte) (last bad : Bool) (s : State) :
    (State.fragOut p b last bad s).pending = s.pending ∧ (State.fragOut p b last bad s).now = s.now ∧
    (State.fragOut p b last bad s).serial = s.serial ∧ (State.fragOut p b last bad s).pins = s.pins ∧
    (State.fragOut p b last bad s).md = s.md ∧ (State.fragOut p b last bad s).host = s.host ∧
    (State.fragOut p b last bad s).cmds = s.cmds ∧ (State.fragOut p b last bad s).flt = s.flt ∧
    (State.fragOut p b last bad s).clk = s.clk ∧ (State.fragOut p b last bad s).ref = s.ref ∧
    (State.fragOut p b last bad s).kennel = s.kennel ∧ (State.fragOut p b last bad s).time = s.time ∧
    (State.fragOut p b last bad s).buf = s.buf ∧ (State.fragOut p b last bad s).port = s.port ∧
    (State.fragOut p b last bad s).slices = s.slices ∧ (State.fragOut p b last bad s).tab = s.tab ∧
    (State.fragOut p b last bad s).gen = s.gen ∧ (State.fragOut p b last bad s).core = s.core ∧
    (State.fragOut p b last bad s).sch = s.sch ∧ (State.fragOut p b last bad s).tel = s.tel ∧
    (State.fragOut p b last bad s).pwr = s.pwr ∧ (State.fragOut p b last bad s).regs = s.regs ∧
    (State.fragOut p b last bad s).cnts = s.cnts := by
  (unfold State.fragOut; simp only [State.emit_keeps, ite_self, and_self, implies_true, Ran.st_done, Ran.st_wait, Ran.st_refuse, Ran.st_ite, snd_ite, ite_pending, ite_now, ite_serial, ite_pins, ite_md, ite_host, ite_cmds, ite_flt, ite_clk, ite_ref, ite_kennel, ite_time, ite_buf, ite_port, ite_slices, ite_tab, ite_gen, ite_core, ite_sch, ite_tel, ite_pwr, ite_regs, ite_cnts, foldl_pending, foldl_now, foldl_serial, foldl_pins, foldl_md, foldl_host, foldl_cmds, foldl_flt, foldl_clk, foldl_ref, foldl_kennel, foldl_time, foldl_buf, foldl_port, foldl_slices, foldl_tab, foldl_gen, foldl_core, foldl_sch, foldl_tel, foldl_pwr, foldl_regs, foldl_cnts, foldl_snd_pending, foldl_snd_now, foldl_snd_serial, foldl_snd_pins, foldl_snd_md, foldl_snd_host, foldl_snd_cmds, foldl_snd_flt, foldl_snd_clk, foldl_snd_ref, foldl_snd_kennel, foldl_snd_time, foldl_snd_buf, foldl_snd_port, foldl_snd_slices, foldl_snd_tab, foldl_snd_gen, foldl_snd_core, foldl_snd_sch, foldl_snd_tel, foldl_snd_pwr, foldl_snd_regs, foldl_snd_cnts]; done)

@[simp] theorem State.finishSending_keeps (p : Nat) (s : State) :
    (State.finishSending p s).pending = s.pending ∧ (State.finishSending p s).now = s.now ∧
    (State.finishSending p s).serial = s.serial ∧ (State.finishSending p s).pins = s.pins ∧
    (State.finishSending p s).md = s.md ∧ (State.finishSending p s).host = s.host ∧
    (State.finishSending p s).cmds = s.cmds ∧ (State.finishSending p s).flt = s.flt ∧
    (State.finishSending p s).clk = s.clk ∧ (State.finishSending p s).ref = s.ref ∧
    (State.finishSending p s).kennel = s.kennel ∧ (State.finishSending p s).time = s.time ∧
    (State.finishSending p s).buf = s.buf ∧ (State.finishSending p s).slices = s.slices ∧
    (State.finishSending p s).tab = s.tab ∧ (State.finishSending p s).gen = s.gen ∧
    (State.finishSending p s).sch = s.sch ∧ (State.finishSending p s).tel = s.tel ∧
    (State.finishSending p s).pwr = s.pwr ∧ (State.finishSending p s).regs = s.regs := by
  (unfold State.finishSending; split <;> simp only [State.receive_keeps, State.putLine_keeps, State.ptCount_keeps, State.fragOut_keeps, ite_self, and_self, implies_true, Ran.st_done, Ran.st_wait, Ran.st_refuse, Ran.st_ite, snd_ite, ite_pending, ite_now, ite_serial, ite_pins, ite_md, ite_host, ite_cmds, ite_flt, ite_clk, ite_ref, ite_kennel, ite_time, ite_buf, ite_slices, ite_tab, ite_gen, ite_sch, ite_tel, ite_pwr, ite_regs, foldl_pending, foldl_now, foldl_serial, foldl_pins, foldl_md, foldl_host, foldl_cmds, foldl_flt, foldl_clk, foldl_ref, foldl_kennel, foldl_time, foldl_buf, foldl_slices, foldl_tab, foldl_gen, foldl_sch, foldl_tel, foldl_pwr, foldl_regs, foldl_snd_pending, foldl_snd_now, foldl_snd_serial, foldl_snd_pins, foldl_snd_md, foldl_snd_host, foldl_snd_cmds, foldl_snd_flt, foldl_snd_clk, foldl_snd_ref, foldl_snd_kennel, foldl_snd_time, foldl_snd_buf, foldl_snd_slices, foldl_snd_tab, foldl_snd_gen, foldl_snd_sch, foldl_snd_tel, foldl_snd_pwr, foldl_snd_regs])

@[simp] theorem State.preempt_keeps (p n : Nat) (x : Sending) (s : State) :
    (State.preempt p n x s).pending = s.pending ∧ (State.preempt p n x s).now = s.now ∧
    (State.preempt p n x s).serial = s.serial ∧ (State.preempt p n x s).pins = s.pins ∧
    (State.preempt p n x s).md = s.md ∧ (State.preempt p n x s).host = s.host ∧
    (State.preempt p n x s).cmds = s.cmds ∧ (State.preempt p n x s).flt = s.flt ∧
    (State.preempt p n x s).clk = s.clk ∧ (State.preempt p n x s).ref = s.ref ∧
    (State.preempt p n x s).kennel = s.kennel ∧ (State.preempt p n x s).time = s.time ∧
    (State.preempt p n x s).buf = s.buf ∧ (State.preempt p n x s).port = s.port ∧
    (State.preempt p n x s).slices = s.slices ∧ (State.preempt p n x s).tab = s.tab ∧
    (State.preempt p n x s).gen = s.gen ∧ (State.preempt p n x s).sch = s.sch ∧
    (State.preempt p n x s).tel = s.tel ∧ (State.preempt p n x s).pwr = s.pwr ∧
    (State.preempt p n x s).regs = s.regs ∧ (State.preempt p n x s).cnts = s.cnts := by
  (unfold State.preempt; simp only [State.beginSending_keeps, State.fragOut_keeps, ite_self, and_self, implies_true, Ran.st_done, Ran.st_wait, Ran.st_refuse, Ran.st_ite, snd_ite, foldl_pending, foldl_now, foldl_serial, foldl_pins, foldl_md, foldl_host, foldl_cmds, foldl_flt, foldl_clk, foldl_ref, foldl_kennel, foldl_time, foldl_buf, foldl_port, foldl_slices, foldl_tab, foldl_gen, foldl_sch, foldl_tel, foldl_pwr, foldl_regs, foldl_cnts, foldl_snd_pending, foldl_snd_now, foldl_snd_serial, foldl_snd_pins, foldl_snd_md, foldl_snd_host, foldl_snd_cmds, foldl_snd_flt, foldl_snd_clk, foldl_snd_ref, foldl_snd_kennel, foldl_snd_time, foldl_snd_buf, foldl_snd_port, foldl_snd_slices, foldl_snd_tab, foldl_snd_gen, foldl_snd_sch, foldl_snd_tel, foldl_snd_pwr, foldl_snd_regs, foldl_snd_cnts]; done)

@[simp] theorem State.lineUpdate_keeps (p : Nat) (s : State) :
    (State.lineUpdate p s).pending = s.pending ∧ (State.lineUpdate p s).now = s.now ∧
    (State.lineUpdate p s).serial = s.serial ∧ (State.lineUpdate p s).pins = s.pins ∧
    (State.lineUpdate p s).md = s.md ∧ (State.lineUpdate p s).host = s.host ∧
    (State.lineUpdate p s).cmds = s.cmds ∧ (State.lineUpdate p s).flt = s.flt ∧
    (State.lineUpdate p s).clk = s.clk ∧ (State.lineUpdate p s).ref = s.ref ∧
    (State.lineUpdate p s).kennel = s.kennel ∧ (State.lineUpdate p s).time = s.time ∧
    (State.lineUpdate p s).buf = s.buf ∧ (State.lineUpdate p s).slices = s.slices ∧
    (State.lineUpdate p s).tab = s.tab ∧ (State.lineUpdate p s).gen = s.gen ∧ (State.lineUpdate p s).sch = s.sch ∧
    (State.lineUpdate p s).tel = s.tel ∧ (State.lineUpdate p s).pwr = s.pwr ∧
    (State.lineUpdate p s).regs = s.regs := by
  (unfold State.lineUpdate; split <;> simp only [State.preempt_keeps, State.beginSending_keeps, State.finishSending_keeps, ite_self, and_self, implies_true, Ran.st_done, Ran.st_wait, Ran.st_refuse, Ran.st_ite, snd_ite, ite_pending, ite_now, ite_serial, ite_pins, ite_md, ite_host, ite_cmds, ite_flt, ite_clk, ite_ref, ite_kennel, ite_time, ite_buf, ite_slices, ite_tab, ite_gen, ite_sch, ite_tel, ite_pwr, ite_regs, foldl_pending, foldl_now, foldl_serial, foldl_pins, foldl_md, foldl_host, foldl_cmds, foldl_flt, foldl_clk, foldl_ref, foldl_kennel, foldl_time, foldl_buf, foldl_slices, foldl_tab, foldl_gen, foldl_sch, foldl_tel, foldl_pwr, foldl_regs, foldl_snd_pending, foldl_snd_now, foldl_snd_serial, foldl_snd_pins, foldl_snd_md, foldl_snd_host, foldl_snd_cmds, foldl_snd_flt, foldl_snd_clk, foldl_snd_ref, foldl_snd_kennel, foldl_snd_time, foldl_snd_buf, foldl_snd_slices, foldl_snd_tab, foldl_snd_gen, foldl_snd_sch, foldl_snd_tel, foldl_snd_pwr, foldl_snd_regs])

@[simp] theorem State.sendFlow_keeps (p : Nat) (changed : List Nat) (before : Bool) (s : State) :
    (State.sendFlow p changed before s).pending = s.pending ∧ (State.sendFlow p changed before s).now = s.now ∧
    (State.sendFlow p changed before s).serial = s.serial ∧ (State.sendFlow p changed before s).pins = s.pins ∧
    (State.sendFlow p changed before s).md = s.md ∧ (State.sendFlow p changed before s).host = s.host ∧
    (State.sendFlow p changed before s).cmds = s.cmds ∧ (State.sendFlow p changed before s).flt = s.flt ∧
    (State.sendFlow p changed before s).clk = s.clk ∧ (State.sendFlow p changed before s).ref = s.ref ∧
    (State.sendFlow p changed before s).kennel = s.kennel ∧ (State.sendFlow p changed before s).time = s.time ∧
    (State.sendFlow p changed before s).buf = s.buf ∧ (State.sendFlow p changed before s).slices = s.slices ∧
    (State.sendFlow p changed before s).tab = s.tab ∧ (State.sendFlow p changed before s).gen = s.gen ∧
    (State.sendFlow p changed before s).sch = s.sch ∧ (State.sendFlow p changed before s).tel = s.tel ∧
    (State.sendFlow p changed before s).pwr = s.pwr ∧ (State.sendFlow p changed before s).regs = s.regs := by
  (unfold State.sendFlow; split <;> simp only [State.sendMac_keeps, ite_self, and_self, implies_true, Ran.st_done, Ran.st_wait, Ran.st_refuse, Ran.st_ite, snd_ite, ite_pending, ite_now, ite_serial, ite_pins, ite_md, ite_host, ite_cmds, ite_flt, ite_clk, ite_ref, ite_kennel, ite_time, ite_buf, ite_slices, ite_tab, ite_gen, ite_sch, ite_tel, ite_pwr, ite_regs, foldl_pending, foldl_now, foldl_serial, foldl_pins, foldl_md, foldl_host, foldl_cmds, foldl_flt, foldl_clk, foldl_ref, foldl_kennel, foldl_time, foldl_buf, foldl_slices, foldl_tab, foldl_gen, foldl_sch, foldl_tel, foldl_pwr, foldl_regs, foldl_snd_pending, foldl_snd_now, foldl_snd_serial, foldl_snd_pins, foldl_snd_md, foldl_snd_host, foldl_snd_cmds, foldl_snd_flt, foldl_snd_clk, foldl_snd_ref, foldl_snd_kennel, foldl_snd_time, foldl_snd_buf, foldl_snd_slices, foldl_snd_tab, foldl_snd_gen, foldl_snd_sch, foldl_snd_tel, foldl_snd_pwr, foldl_snd_regs])

@[simp] theorem State.xoffMove_keeps (i : Nat) (s : State) :
    (State.xoffMove i s).pending = s.pending ∧ (State.xoffMove i s).now = s.now ∧
    (State.xoffMove i s).serial = s.serial ∧ (State.xoffMove i s).out = s.out ∧
    (State.xoffMove i s).pins = s.pins ∧ (State.xoffMove i s).md = s.md ∧ (State.xoffMove i s).host = s.host ∧
    (State.xoffMove i s).cmds = s.cmds ∧ (State.xoffMove i s).flt = s.flt ∧ (State.xoffMove i s).clk = s.clk ∧
    (State.xoffMove i s).ref = s.ref ∧ (State.xoffMove i s).kennel = s.kennel ∧
    (State.xoffMove i s).time = s.time ∧ (State.xoffMove i s).buf = s.buf ∧ (State.xoffMove i s).port = s.port ∧
    (State.xoffMove i s).slices = s.slices ∧ (State.xoffMove i s).tab = s.tab ∧ (State.xoffMove i s).gen = s.gen ∧
    (State.xoffMove i s).sch = s.sch ∧ (State.xoffMove i s).tel = s.tel ∧ (State.xoffMove i s).pwr = s.pwr ∧
    (State.xoffMove i s).regs = s.regs := by
  (unfold State.xoffMove; simp only [State.coreCount_keeps, ite_self, and_self, implies_true, Ran.st_done, Ran.st_wait, Ran.st_refuse, Ran.st_ite, snd_ite, ite_pending, ite_now, ite_serial, ite_out, ite_pins, ite_md, ite_host, ite_cmds, ite_flt, ite_clk, ite_ref, ite_kennel, ite_time, ite_buf, ite_port, ite_slices, ite_tab, ite_gen, ite_sch, ite_tel, ite_pwr, ite_regs, foldl_pending, foldl_now, foldl_serial, foldl_out, foldl_pins, foldl_md, foldl_host, foldl_cmds, foldl_flt, foldl_clk, foldl_ref, foldl_kennel, foldl_time, foldl_buf, foldl_port, foldl_slices, foldl_tab, foldl_gen, foldl_sch, foldl_tel, foldl_pwr, foldl_regs, foldl_snd_pending, foldl_snd_now, foldl_snd_serial, foldl_snd_out, foldl_snd_pins, foldl_snd_md, foldl_snd_host, foldl_snd_cmds, foldl_snd_flt, foldl_snd_clk, foldl_snd_ref, foldl_snd_kennel, foldl_snd_time, foldl_snd_buf, foldl_snd_port, foldl_snd_slices, foldl_snd_tab, foldl_snd_gen, foldl_snd_sch, foldl_snd_tel, foldl_snd_pwr, foldl_snd_regs]; done)

@[simp] theorem State.pfcUpdate_keeps (s : State) :
    (State.pfcUpdate s).pending = s.pending ∧ (State.pfcUpdate s).now = s.now ∧
    (State.pfcUpdate s).serial = s.serial ∧ (State.pfcUpdate s).pins = s.pins ∧ (State.pfcUpdate s).md = s.md ∧
    (State.pfcUpdate s).host = s.host ∧ (State.pfcUpdate s).cmds = s.cmds ∧ (State.pfcUpdate s).flt = s.flt ∧
    (State.pfcUpdate s).clk = s.clk ∧ (State.pfcUpdate s).ref = s.ref ∧ (State.pfcUpdate s).kennel = s.kennel ∧
    (State.pfcUpdate s).time = s.time ∧ (State.pfcUpdate s).buf = s.buf ∧ (State.pfcUpdate s).slices = s.slices ∧
    (State.pfcUpdate s).tab = s.tab ∧ (State.pfcUpdate s).gen = s.gen ∧ (State.pfcUpdate s).sch = s.sch ∧
    (State.pfcUpdate s).tel = s.tel ∧ (State.pfcUpdate s).pwr = s.pwr ∧ (State.pfcUpdate s).regs = s.regs := by
  (unfold State.pfcUpdate; simp only [State.xoffMove_keeps, State.sendFlow_keeps, ite_self, and_self, implies_true, Ran.st_done, Ran.st_wait, Ran.st_refuse, Ran.st_ite, snd_ite, foldl_pending, foldl_now, foldl_serial, foldl_pins, foldl_md, foldl_host, foldl_cmds, foldl_flt, foldl_clk, foldl_ref, foldl_kennel, foldl_time, foldl_buf, foldl_slices, foldl_tab, foldl_gen, foldl_sch, foldl_tel, foldl_pwr, foldl_regs, foldl_snd_pending, foldl_snd_now, foldl_snd_serial, foldl_snd_pins, foldl_snd_md, foldl_snd_host, foldl_snd_cmds, foldl_snd_flt, foldl_snd_clk, foldl_snd_ref, foldl_snd_kennel, foldl_snd_time, foldl_snd_buf, foldl_snd_slices, foldl_snd_tab, foldl_snd_gen, foldl_snd_sch, foldl_snd_tel, foldl_snd_pwr, foldl_snd_regs]; done)
end Sys2Proof.Machine
end

