-- ==== Sys2Proof/Laws/KeepsParse.lean ====
section
/-! SUPPORT. What each operation of Machine/Parse.lean keeps: the parts of the state that it leaves as they are. -/
set_option linter.unusedSimpArgs false
set_option linter.unusedVariables false
namespace Sys2Proof.Machine
open Host (Outcome)

@[simp] theorem State.csRead_keeps (n loc : Nat) (errs : List (Nat × EccErr)) (s : State) :
    (State.csRead n loc errs s).2.pending = s.pending ∧ (State.csRead n loc errs s).2.now = s.now ∧
    (State.csRead n loc errs s).2.serial = s.serial ∧ (State.csRead n loc errs s).2.out = s.out ∧
    (State.csRead n loc errs s).2.pins = s.pins ∧ (State.csRead n loc errs s).2.md = s.md ∧
    (State.csRead n loc errs s).2.host = s.host ∧ (State.csRead n loc errs s).2.cmds = s.cmds ∧
    (State.csRead n loc errs s).2.clk = s.clk ∧ (State.csRead n loc errs s).2.ref = s.ref ∧
    (State.csRead n loc errs s).2.kennel = s.kennel ∧ (State.csRead n loc errs s).2.time = s.time ∧
    (State.csRead n loc errs s).2.buf = s.buf ∧ (State.csRead n loc errs s).2.port = s.port ∧
    (State.csRead n loc errs s).2.tab = s.tab ∧ (State.csRead n loc errs s).2.gen = s.gen ∧
    (State.csRead n loc errs s).2.core = s.core ∧ (State.csRead n loc errs s).2.sch = s.sch ∧
    (State.csRead n loc errs s).2.tel = s.tel ∧ (State.csRead n loc errs s).2.pwr = s.pwr ∧
    (State.csRead n loc errs s).2.regs = s.regs ∧ (State.csRead n loc errs s).2.cnts = s.cnts ∧
    (State.csRead n loc errs s).2.flt.keel0 = s.flt.keel0 ∧ (State.csRead n loc errs s).2.flt.keel1 = s.flt.keel1 := by
  unfold State.csRead
  (try dsimp only)
  (repeat' split) <;> first | (simp; done) | (rename_i q; simp [snd_of q]; done) | (rename_i q _; simp [snd_of q]; done)

@[simp] theorem parseRun_keeps (n g : Nat) (errs : List (Nat × EccErr)) (h : HeadIn) (budget a5 : Nat) (a6 : Par) (a7 : State) :
    (parseRun n g errs h budget a5 a6 a7).2.pending = a7.pending ∧
    (parseRun n g errs h budget a5 a6 a7).2.now = a7.now ∧
    (parseRun n g errs h budget a5 a6 a7).2.serial = a7.serial ∧
    (parseRun n g errs h budget a5 a6 a7).2.out = a7.out ∧ (parseRun n g errs h budget a5 a6 a7).2.pins = a7.pins ∧
    (parseRun n g errs h budget a5 a6 a7).2.md = a7.md ∧ (parseRun n g errs h budget a5 a6 a7).2.host = a7.host ∧
    (parseRun n g errs h budget a5 a6 a7).2.cmds = a7.cmds ∧ (parseRun n g errs h budget a5 a6 a7).2.clk = a7.clk ∧
    (parseRun n g errs h budget a5 a6 a7).2.ref = a7.ref ∧
    (parseRun n g errs h budget a5 a6 a7).2.kennel = a7.kennel ∧
    (parseRun n g errs h budget a5 a6 a7).2.time = a7.time ∧ (parseRun n g errs h budget a5 a6 a7).2.buf = a7.buf ∧
    (parseRun n g errs h budget a5 a6 a7).2.port = a7.port ∧ (parseRun n g errs h budget a5 a6 a7).2.tab = a7.tab ∧
    (parseRun n g errs h budget a5 a6 a7).2.gen = a7.gen ∧ (parseRun n g errs h budget a5 a6 a7).2.core = a7.core ∧
    (parseRun n g errs h budget a5 a6 a7).2.sch = a7.sch ∧ (parseRun n g errs h budget a5 a6 a7).2.tel = a7.tel ∧
    (parseRun n g errs h budget a5 a6 a7).2.pwr = a7.pwr ∧ (parseRun n g errs h budget a5 a6 a7).2.regs = a7.regs ∧
    (parseRun n g errs h budget a5 a6 a7).2.cnts = a7.cnts ∧
    (parseRun n g errs h budget a5 a6 a7).2.flt.keel0 = a7.flt.keel0 ∧
    (parseRun n g errs h budget a5 a6 a7).2.flt.keel1 = a7.flt.keel1 := by
  induction a5 generalizing a6 a7 with
  | zero => simp [parseRun]
  | succ k ih =>
    unfold parseRun
    dsimp only
    (repeat' split) <;> simp [ih]

@[simp] theorem State.parse_keeps (k : Pkt) (errs : List (Nat × EccErr)) (s : State) :
    (State.parse k errs s).2.pending = s.pending ∧ (State.parse k errs s).2.now = s.now ∧
    (State.parse k errs s).2.serial = s.serial ∧ (State.parse k errs s).2.out = s.out ∧
    (State.parse k errs s).2.pins = s.pins ∧ (State.parse k errs s).2.md = s.md ∧
    (State.parse k errs s).2.host = s.host ∧ (State.parse k errs s).2.cmds = s.cmds ∧
    (State.parse k errs s).2.clk = s.clk ∧ (State.parse k errs s).2.ref = s.ref ∧
    (State.parse k errs s).2.kennel = s.kennel ∧ (State.parse k errs s).2.time = s.time ∧
    (State.parse k errs s).2.buf = s.buf ∧ (State.parse k errs s).2.port = s.port ∧
    (State.parse k errs s).2.tab = s.tab ∧ (State.parse k errs s).2.gen = s.gen ∧
    (State.parse k errs s).2.core = s.core ∧ (State.parse k errs s).2.sch = s.sch ∧
    (State.parse k errs s).2.tel = s.tel ∧ (State.parse k errs s).2.pwr = s.pwr ∧
    (State.parse k errs s).2.regs = s.regs ∧ (State.parse k errs s).2.cnts = s.cnts ∧
    (State.parse k errs s).2.flt.keel0 = s.flt.keel0 ∧ (State.parse k errs s).2.flt.keel1 = s.flt.keel1 := by
  (unfold State.parse; simp only [parseRun_keeps, State.csRead_keeps, ite_self, and_self, implies_true, Ran.st_done, Ran.st_wait, Ran.st_refuse, Ran.st_ite, snd_ite, ite_pending, ite_now, ite_serial, ite_out, ite_pins, ite_md, ite_host, ite_cmds, ite_clk, ite_ref, ite_kennel, ite_time, ite_buf, ite_port, ite_tab, ite_gen, ite_core, ite_sch, ite_tel, ite_pwr, ite_regs, ite_cnts, ite_flt_keel0, ite_flt_keel1, foldl_pending, foldl_now, foldl_serial, foldl_out, foldl_pins, foldl_md, foldl_host, foldl_cmds, foldl_clk, foldl_ref, foldl_kennel, foldl_time, foldl_buf, foldl_port, foldl_tab, foldl_gen, foldl_core, foldl_sch, foldl_tel, foldl_pwr, foldl_regs, foldl_cnts, foldl_flt_keel0, foldl_flt_keel1, foldl_snd_pending, foldl_snd_now, foldl_snd_serial, foldl_snd_out, foldl_snd_pins, foldl_snd_md, foldl_snd_host, foldl_snd_cmds, foldl_snd_clk, foldl_snd_ref, foldl_snd_kennel, foldl_snd_time, foldl_snd_buf, foldl_snd_port, foldl_snd_tab, foldl_snd_gen, foldl_snd_core, foldl_snd_sch, foldl_snd_tel, foldl_snd_pwr, foldl_snd_regs, foldl_snd_cnts, foldl_snd_flt_keel0, foldl_snd_flt_keel1]; done)

@[simp] theorem State.emptyHeadQ_keeps (n : Nat) (s : State) :
    (State.emptyHeadQ n s).pending = s.pending ∧ (State.emptyHeadQ n s).now = s.now ∧
    (State.emptyHeadQ n s).serial = s.serial ∧ (State.emptyHeadQ n s).pins = s.pins ∧
    (State.emptyHeadQ n s).md = s.md ∧ (State.emptyHeadQ n s).cmds = s.cmds ∧ (State.emptyHeadQ n s).clk = s.clk ∧
    (State.emptyHeadQ n s).kennel = s.kennel ∧ (State.emptyHeadQ n s).time = s.time ∧
    (State.emptyHeadQ n s).port = s.port ∧ (State.emptyHeadQ n s).slices = s.slices ∧
    (State.emptyHeadQ n s).tab = s.tab ∧ (State.emptyHeadQ n s).sch = s.sch ∧ (State.emptyHeadQ n s).pwr = s.pwr ∧
    (State.emptyHeadQ n s).regs = s.regs ∧ (State.emptyHeadQ n s).flt.keel0 = s.flt.keel0 ∧
    (State.emptyHeadQ n s).flt.keel1 = s.flt.keel1 := by
  (unfold State.emptyHeadQ; simp only [State.dropPkt_keeps, State.slotLeave_keeps, ite_self, and_self, implies_true, Ran.st_done, Ran.st_wait, Ran.st_refuse, Ran.st_ite, snd_ite, ite_pending, ite_now, ite_serial, ite_pins, ite_md, ite_cmds, ite_clk, ite_kennel, ite_time, ite_port, ite_slices, ite_tab, ite_sch, ite_pwr, ite_regs, ite_flt_keel0, ite_flt_keel1, foldl_pending, foldl_now, foldl_serial, foldl_pins, foldl_md, foldl_cmds, foldl_clk, foldl_kennel, foldl_time, foldl_port, foldl_slices, foldl_tab, foldl_sch, foldl_pwr, foldl_regs, foldl_flt_keel0, foldl_flt_keel1, foldl_snd_pending, foldl_snd_now, foldl_snd_serial, foldl_snd_pins, foldl_snd_md, foldl_snd_cmds, foldl_snd_clk, foldl_snd_kennel, foldl_snd_time, foldl_snd_port, foldl_snd_slices, foldl_snd_tab, foldl_snd_sch, foldl_snd_pwr, foldl_snd_regs, foldl_snd_flt_keel0, foldl_snd_flt_keel1]; done)

@[simp] theorem State.unload_keeps (n e : Nat) (s : State) :
    (State.unload n e s).pending = s.pending ∧ (State.unload n e s).now = s.now ∧
    (State.unload n e s).serial = s.serial ∧ (State.unload n e s).out = s.out ∧
    (State.unload n e s).pins = s.pins ∧ (State.unload n e s).md = s.md ∧ (State.unload n e s).host = s.host ∧
    (State.unload n e s).cmds = s.cmds ∧ (State.unload n e s).flt = s.flt ∧ (State.unload n e s).clk = s.clk ∧
    (State.unload n e s).ref = s.ref ∧ (State.unload n e s).kennel = s.kennel ∧
    (State.unload n e s).time = s.time ∧ (State.unload n e s).buf = s.buf ∧ (State.unload n e s).port = s.port ∧
    (State.unload n e s).slices = s.slices ∧ (State.unload n e s).tab = s.tab ∧ (State.unload n e s).gen = s.gen ∧
    (State.unload n e s).sch = s.sch ∧ (State.unload n e s).tel = s.tel ∧ (State.unload n e s).pwr = s.pwr ∧
    (State.unload n e s).regs = s.regs ∧ (State.unload n e s).cnts = s.cnts := by
  (unfold State.unload; simp only [ite_self, and_self, implies_true, Ran.st_done, Ran.st_wait, Ran.st_refuse, Ran.st_ite, snd_ite, foldl_pending, foldl_now, foldl_serial, foldl_out, foldl_pins, foldl_md, foldl_host, foldl_cmds, foldl_flt, foldl_clk, foldl_ref, foldl_kennel, foldl_time, foldl_buf, foldl_port, foldl_slices, foldl_tab, foldl_gen, foldl_sch, foldl_tel, foldl_pwr, foldl_regs, foldl_cnts, foldl_snd_pending, foldl_snd_now, foldl_snd_serial, foldl_snd_out, foldl_snd_pins, foldl_snd_md, foldl_snd_host, foldl_snd_cmds, foldl_snd_flt, foldl_snd_clk, foldl_snd_ref, foldl_snd_kennel, foldl_snd_time, foldl_snd_buf, foldl_snd_port, foldl_snd_slices, foldl_snd_tab, foldl_snd_gen, foldl_snd_sch, foldl_snd_tel, foldl_snd_pwr, foldl_snd_regs, foldl_snd_cnts]; done)

@[simp] theorem State.retireEngine_keeps (n e : Nat) (inj : Bool) (s₀ : State) :
    (State.retireEngine n e inj s₀).pending = s₀.pending ∧ (State.retireEngine n e inj s₀).now = s₀.now ∧
    (State.retireEngine n e inj s₀).serial = s₀.serial ∧ (State.retireEngine n e inj s₀).pins = s₀.pins ∧
    (State.retireEngine n e inj s₀).md = s₀.md ∧ (State.retireEngine n e inj s₀).cmds = s₀.cmds ∧
    (State.retireEngine n e inj s₀).clk = s₀.clk ∧ (State.retireEngine n e inj s₀).kennel = s₀.kennel ∧
    (State.retireEngine n e inj s₀).time = s₀.time ∧ (State.retireEngine n e inj s₀).port = s₀.port ∧
    (State.retireEngine n e inj s₀).tab = s₀.tab ∧ (State.retireEngine n e inj s₀).sch = s₀.sch ∧
    (State.retireEngine n e inj s₀).pwr = s₀.pwr ∧ (State.retireEngine n e inj s₀).regs = s₀.regs ∧
    (State.retireEngine n e inj s₀).flt.keel0 = s₀.flt.keel0 ∧
    (State.retireEngine n e inj s₀).flt.keel1 = s₀.flt.keel1 := by
  unfold State.retireEngine
  dsimp only
  split
  · split <;> simp
  · split
    · split <;> simp
    · simp

@[simp] theorem State.startParse_keeps (k : Pkt) (e : Nat) (s : State) :
    (State.startParse k e s).pending = s.pending ∧ (State.startParse k e s).now = s.now ∧
    (State.startParse k e s).serial = s.serial ∧ (State.startParse k e s).out = s.out ∧
    (State.startParse k e s).pins = s.pins ∧ (State.startParse k e s).md = s.md ∧
    (State.startParse k e s).host = s.host ∧ (State.startParse k e s).cmds = s.cmds ∧
    (State.startParse k e s).flt = s.flt ∧ (State.startParse k e s).clk = s.clk ∧
    (State.startParse k e s).ref = s.ref ∧ (State.startParse k e s).kennel = s.kennel ∧
    (State.startParse k e s).time = s.time ∧ (State.startParse k e s).buf = s.buf ∧
    (State.startParse k e s).port = s.port ∧ (State.startParse k e s).slices = s.slices ∧
    (State.startParse k e s).tab = s.tab ∧ (State.startParse k e s).gen = s.gen ∧
    (State.startParse k e s).sch = s.sch ∧ (State.startParse k e s).tel = s.tel ∧
    (State.startParse k e s).pwr = s.pwr ∧ (State.startParse k e s).regs = s.regs ∧
    (State.startParse k e s).cnts = s.cnts := by
  (unfold State.startParse; simp only [State.setPkt_keeps, ite_self, and_self, implies_true, Ran.st_done, Ran.st_wait, Ran.st_refuse, Ran.st_ite, snd_ite, foldl_pending, foldl_now, foldl_serial, foldl_out, foldl_pins, foldl_md, foldl_host, foldl_cmds, foldl_flt, foldl_clk, foldl_ref, foldl_kennel, foldl_time, foldl_buf, foldl_port, foldl_slices, foldl_tab, foldl_gen, foldl_sch, foldl_tel, foldl_pwr, foldl_regs, foldl_cnts, foldl_snd_pending, foldl_snd_now, foldl_snd_serial, foldl_snd_out, foldl_snd_pins, foldl_snd_md, foldl_snd_host, foldl_snd_cmds, foldl_snd_flt, foldl_snd_clk, foldl_snd_ref, foldl_snd_kennel, foldl_snd_time, foldl_snd_buf, foldl_snd_port, foldl_snd_slices, foldl_snd_tab, foldl_snd_gen, foldl_snd_sch, foldl_snd_tel, foldl_snd_pwr, foldl_snd_regs, foldl_snd_cnts]; done)

@[simp] theorem State.parseCount_keeps (n i : Nat) (s : State) :
    (State.parseCount n i s).pending = s.pending ∧ (State.parseCount n i s).now = s.now ∧
    (State.parseCount n i s).serial = s.serial ∧ (State.parseCount n i s).out = s.out ∧
    (State.parseCount n i s).pins = s.pins ∧ (State.parseCount n i s).md = s.md ∧
    (State.parseCount n i s).host = s.host ∧ (State.parseCount n i s).cmds = s.cmds ∧
    (State.parseCount n i s).flt = s.flt ∧ (State.parseCount n i s).clk = s.clk ∧
    (State.parseCount n i s).ref = s.ref ∧ (State.parseCount n i s).kennel = s.kennel ∧
    (State.parseCount n i s).time = s.time ∧ (State.parseCount n i s).buf = s.buf ∧
    (State.parseCount n i s).port = s.port ∧ (State.parseCount n i s).slices = s.slices ∧
    (State.parseCount n i s).tab = s.tab ∧ (State.parseCount n i s).gen = s.gen ∧
    (State.parseCount n i s).core = s.core ∧ (State.parseCount n i s).sch = s.sch ∧
    (State.parseCount n i s).tel = s.tel ∧ (State.parseCount n i s).pwr = s.pwr ∧
    (State.parseCount n i s).regs = s.regs := by
  (unfold State.parseCount; simp only [State.count_keeps, ite_self, and_self, implies_true, Ran.st_done, Ran.st_wait, Ran.st_refuse, Ran.st_ite, snd_ite, foldl_pending, foldl_now, foldl_serial, foldl_out, foldl_pins, foldl_md, foldl_host, foldl_cmds, foldl_flt, foldl_clk, foldl_ref, foldl_kennel, foldl_time, foldl_buf, foldl_port, foldl_slices, foldl_tab, foldl_gen, foldl_core, foldl_sch, foldl_tel, foldl_pwr, foldl_regs, foldl_snd_pending, foldl_snd_now, foldl_snd_serial, foldl_snd_out, foldl_snd_pins, foldl_snd_md, foldl_snd_host, foldl_snd_cmds, foldl_snd_flt, foldl_snd_clk, foldl_snd_ref, foldl_snd_kennel, foldl_snd_time, foldl_snd_buf, foldl_snd_port, foldl_snd_slices, foldl_snd_tab, foldl_snd_gen, foldl_snd_core, foldl_snd_sch, foldl_snd_tel, foldl_snd_pwr, foldl_snd_regs]; done)

@[simp] theorem State.countParse_keeps (k : Pkt) (x : Par) (s : State) :
    (State.countParse k x s).pending = s.pending ∧ (State.countParse k x s).now = s.now ∧
    (State.countParse k x s).serial = s.serial ∧ (State.countParse k x s).out = s.out ∧
    (State.countParse k x s).pins = s.pins ∧ (State.countParse k x s).md = s.md ∧
    (State.countParse k x s).host = s.host ∧ (State.countParse k x s).cmds = s.cmds ∧
    (State.countParse k x s).flt = s.flt ∧ (State.countParse k x s).clk = s.clk ∧
    (State.countParse k x s).ref = s.ref ∧ (State.countParse k x s).kennel = s.kennel ∧
    (State.countParse k x s).time = s.time ∧ (State.countParse k x s).buf = s.buf ∧
    (State.countParse k x s).port = s.port ∧ (State.countParse k x s).slices = s.slices ∧
    (State.countParse k x s).tab = s.tab ∧ (State.countParse k x s).gen = s.gen ∧
    (State.countParse k x s).core = s.core ∧ (State.countParse k x s).sch = s.sch ∧
    (State.countParse k x s).pwr = s.pwr ∧ (State.countParse k x s).regs = s.regs := by
  (unfold State.countParse; simp only [State.parseCount_keeps, State.pmc_keeps, State.count_keeps, State.pmc0_keeps, ite_self, and_self, implies_true, Ran.st_done, Ran.st_wait, Ran.st_refuse, Ran.st_ite, snd_ite, ite_pending, ite_now, ite_serial, ite_out, ite_pins, ite_md, ite_host, ite_cmds, ite_flt, ite_clk, ite_ref, ite_kennel, ite_time, ite_buf, ite_port, ite_slices, ite_tab, ite_gen, ite_core, ite_sch, ite_pwr, ite_regs, foldl_pending, foldl_now, foldl_serial, foldl_out, foldl_pins, foldl_md, foldl_host, foldl_cmds, foldl_flt, foldl_clk, foldl_ref, foldl_kennel, foldl_time, foldl_buf, foldl_port, foldl_slices, foldl_tab, foldl_gen, foldl_core, foldl_sch, foldl_pwr, foldl_regs, foldl_snd_pending, foldl_snd_now, foldl_snd_serial, foldl_snd_out, foldl_snd_pins, foldl_snd_md, foldl_snd_host, foldl_snd_cmds, foldl_snd_flt, foldl_snd_clk, foldl_snd_ref, foldl_snd_kennel, foldl_snd_time, foldl_snd_buf, foldl_snd_port, foldl_snd_slices, foldl_snd_tab, foldl_snd_gen, foldl_snd_core, foldl_snd_sch, foldl_snd_pwr, foldl_snd_regs]; done)

@[simp] theorem State.promote_keeps (n e : Nat) (s : State) :
    (State.promote n e s).pending = s.pending ∧ (State.promote n e s).now = s.now ∧
    (State.promote n e s).serial = s.serial ∧ (State.promote n e s).out = s.out ∧
    (State.promote n e s).pins = s.pins ∧ (State.promote n e s).md = s.md ∧ (State.promote n e s).host = s.host ∧
    (State.promote n e s).cmds = s.cmds ∧ (State.promote n e s).flt = s.flt ∧ (State.promote n e s).clk = s.clk ∧
    (State.promote n e s).ref = s.ref ∧ (State.promote n e s).kennel = s.kennel ∧
    (State.promote n e s).time = s.time ∧ (State.promote n e s).buf = s.buf ∧ (State.promote n e s).port = s.port ∧
    (State.promote n e s).slices = s.slices ∧ (State.promote n e s).tab = s.tab ∧
    (State.promote n e s).gen = s.gen ∧ (State.promote n e s).sch = s.sch ∧ (State.promote n e s).tel = s.tel ∧
    (State.promote n e s).pwr = s.pwr ∧ (State.promote n e s).regs = s.regs ∧ (State.promote n e s).cnts = s.cnts := by
  (unfold State.promote; split <;> simp only [State.startParse_keeps, ite_self, and_self, implies_true, Ran.st_done, Ran.st_wait, Ran.st_refuse, Ran.st_ite, snd_ite, ite_pending, ite_now, ite_serial, ite_out, ite_pins, ite_md, ite_host, ite_cmds, ite_flt, ite_clk, ite_ref, ite_kennel, ite_time, ite_buf, ite_port, ite_slices, ite_tab, ite_gen, ite_sch, ite_tel, ite_pwr, ite_regs, ite_cnts, foldl_pending, foldl_now, foldl_serial, foldl_out, foldl_pins, foldl_md, foldl_host, foldl_cmds, foldl_flt, foldl_clk, foldl_ref, foldl_kennel, foldl_time, foldl_buf, foldl_port, foldl_slices, foldl_tab, foldl_gen, foldl_sch, foldl_tel, foldl_pwr, foldl_regs, foldl_cnts, foldl_snd_pending, foldl_snd_now, foldl_snd_serial, foldl_snd_out, foldl_snd_pins, foldl_snd_md, foldl_snd_host, foldl_snd_cmds, foldl_snd_flt, foldl_snd_clk, foldl_snd_ref, foldl_snd_kennel, foldl_snd_time, foldl_snd_buf, foldl_snd_port, foldl_snd_slices, foldl_snd_tab, foldl_snd_gen, foldl_snd_sch, foldl_snd_tel, foldl_snd_pwr, foldl_snd_regs, foldl_snd_cnts])

@[simp] theorem State.csScrub_keeps (n : Nat) (errs : List (Nat × EccErr)) (s : State) :
    (State.csScrub n errs s).pending = s.pending ∧ (State.csScrub n errs s).now = s.now ∧
    (State.csScrub n errs s).serial = s.serial ∧ (State.csScrub n errs s).out = s.out ∧
    (State.csScrub n errs s).pins = s.pins ∧ (State.csScrub n errs s).md = s.md ∧
    (State.csScrub n errs s).host = s.host ∧ (State.csScrub n errs s).cmds = s.cmds ∧
    (State.csScrub n errs s).clk = s.clk ∧ (State.csScrub n errs s).ref = s.ref ∧
    (State.csScrub n errs s).kennel = s.kennel ∧ (State.csScrub n errs s).time = s.time ∧
    (State.csScrub n errs s).buf = s.buf ∧ (State.csScrub n errs s).port = s.port ∧
    (State.csScrub n errs s).tab = s.tab ∧ (State.csScrub n errs s).gen = s.gen ∧
    (State.csScrub n errs s).core = s.core ∧ (State.csScrub n errs s).sch = s.sch ∧
    (State.csScrub n errs s).tel = s.tel ∧ (State.csScrub n errs s).pwr = s.pwr ∧
    (State.csScrub n errs s).regs = s.regs ∧ (State.csScrub n errs s).cnts = s.cnts ∧
    (State.csScrub n errs s).flt.keel0 = s.flt.keel0 ∧ (State.csScrub n errs s).flt.keel1 = s.flt.keel1 := by
  (unfold State.csScrub; simp only [State.csRead_keeps, ite_self, and_self, implies_true, Ran.st_done, Ran.st_wait, Ran.st_refuse, Ran.st_ite, snd_ite, foldl_pending, foldl_now, foldl_serial, foldl_out, foldl_pins, foldl_md, foldl_host, foldl_cmds, foldl_clk, foldl_ref, foldl_kennel, foldl_time, foldl_buf, foldl_port, foldl_tab, foldl_gen, foldl_core, foldl_sch, foldl_tel, foldl_pwr, foldl_regs, foldl_cnts, foldl_flt_keel0, foldl_flt_keel1, foldl_snd_pending, foldl_snd_now, foldl_snd_serial, foldl_snd_out, foldl_snd_pins, foldl_snd_md, foldl_snd_host, foldl_snd_cmds, foldl_snd_clk, foldl_snd_ref, foldl_snd_kennel, foldl_snd_time, foldl_snd_buf, foldl_snd_port, foldl_snd_tab, foldl_snd_gen, foldl_snd_core, foldl_snd_sch, foldl_snd_tel, foldl_snd_pwr, foldl_snd_regs, foldl_snd_cnts, foldl_snd_flt_keel0, foldl_snd_flt_keel1]; done)
end Sys2Proof.Machine
end

