-- ==== Sys2Proof/Laws/KeepsGens.lean ====
section
/-! SUPPORT. What each operation of Machine/Gens.lean keeps: the parts of the state that it leaves as they are. -/
set_option linter.unusedSimpArgs false
set_option linter.unusedVariables false
namespace Sys2Proof.Machine
open Host (Outcome)

@[simp] theorem State.csRewrite_keeps (g : Nat) (cust : Bool) (s : State) :
    (State.csRewrite g cust s).pending = s.pending ∧ (State.csRewrite g cust s).now = s.now ∧
    (State.csRewrite g cust s).serial = s.serial ∧ (State.csRewrite g cust s).out = s.out ∧
    (State.csRewrite g cust s).pins = s.pins ∧ (State.csRewrite g cust s).md = s.md ∧
    (State.csRewrite g cust s).host = s.host ∧ (State.csRewrite g cust s).cmds = s.cmds ∧
    (State.csRewrite g cust s).flt = s.flt ∧ (State.csRewrite g cust s).clk = s.clk ∧
    (State.csRewrite g cust s).ref = s.ref ∧ (State.csRewrite g cust s).kennel = s.kennel ∧
    (State.csRewrite g cust s).time = s.time ∧ (State.csRewrite g cust s).buf = s.buf ∧
    (State.csRewrite g cust s).port = s.port ∧ (State.csRewrite g cust s).tab = s.tab ∧
    (State.csRewrite g cust s).gen = s.gen ∧ (State.csRewrite g cust s).core = s.core ∧
    (State.csRewrite g cust s).sch = s.sch ∧ (State.csRewrite g cust s).tel = s.tel ∧
    (State.csRewrite g cust s).pwr = s.pwr ∧ (State.csRewrite g cust s).regs = s.regs ∧
    (State.csRewrite g cust s).cnts = s.cnts := by
  (unfold State.csRewrite; simp only [State.onSlice_keeps, ite_self, and_self, implies_true, Ran.st_done, Ran.st_wait, Ran.st_refuse, Ran.st_ite, snd_ite, foldl_pending, foldl_now, foldl_serial, foldl_out, foldl_pins, foldl_md, foldl_host, foldl_cmds, foldl_flt, foldl_clk, foldl_ref, foldl_kennel, foldl_time, foldl_buf, foldl_port, foldl_tab, foldl_gen, foldl_core, foldl_sch, foldl_tel, foldl_pwr, foldl_regs, foldl_cnts, foldl_snd_pending, foldl_snd_now, foldl_snd_serial, foldl_snd_out, foldl_snd_pins, foldl_snd_md, foldl_snd_host, foldl_snd_cmds, foldl_snd_flt, foldl_snd_clk, foldl_snd_ref, foldl_snd_kennel, foldl_snd_time, foldl_snd_buf, foldl_snd_port, foldl_snd_tab, foldl_snd_gen, foldl_snd_core, foldl_snd_sch, foldl_snd_tel, foldl_snd_pwr, foldl_snd_regs, foldl_snd_cnts]; done)

@[simp] theorem State.csLoad_keeps (image : List Byte) (c : Cmd) (s : State) :
    (State.csLoad image c s).st.pending = s.pending ∧ (State.csLoad image c s).st.now = s.now ∧
    (State.csLoad image c s).st.serial = s.serial ∧ (State.csLoad image c s).st.out = s.out ∧
    (State.csLoad image c s).st.pins = s.pins ∧ (State.csLoad image c s).st.md = s.md ∧
    (State.csLoad image c s).st.host = s.host ∧ (State.csLoad image c s).st.cmds = s.cmds ∧
    (State.csLoad image c s).st.flt = s.flt ∧ (State.csLoad image c s).st.clk = s.clk ∧
    (State.csLoad image c s).st.kennel = s.kennel ∧ (State.csLoad image c s).st.time = s.time ∧
    (State.csLoad image c s).st.buf = s.buf ∧ (State.csLoad image c s).st.port = s.port ∧
    (State.csLoad image c s).st.tab = s.tab ∧ (State.csLoad image c s).st.core = s.core ∧
    (State.csLoad image c s).st.sch = s.sch ∧ (State.csLoad image c s).st.tel = s.tel ∧
    (State.csLoad image c s).st.pwr = s.pwr ∧ (State.csLoad image c s).st.regs = s.regs ∧
    (State.csLoad image c s).st.cnts = s.cnts := by
  (unfold State.csLoad; simp only [State.setCsBank_keeps, Ran.refuse_keeps, State.csRewrite_keeps, ite_self, and_self, implies_true, Ran.st_done, Ran.st_wait, Ran.st_refuse, Ran.st_ite, snd_ite, ite_pending, ite_now, ite_serial, ite_out, ite_pins, ite_md, ite_host, ite_cmds, ite_flt, ite_clk, ite_kennel, ite_time, ite_buf, ite_port, ite_tab, ite_core, ite_sch, ite_tel, ite_pwr, ite_regs, ite_cnts, foldl_pending, foldl_now, foldl_serial, foldl_out, foldl_pins, foldl_md, foldl_host, foldl_cmds, foldl_flt, foldl_clk, foldl_kennel, foldl_time, foldl_buf, foldl_port, foldl_tab, foldl_core, foldl_sch, foldl_tel, foldl_pwr, foldl_regs, foldl_cnts, foldl_snd_pending, foldl_snd_now, foldl_snd_serial, foldl_snd_out, foldl_snd_pins, foldl_snd_md, foldl_snd_host, foldl_snd_cmds, foldl_snd_flt, foldl_snd_clk, foldl_snd_kennel, foldl_snd_time, foldl_snd_buf, foldl_snd_port, foldl_snd_tab, foldl_snd_core, foldl_snd_sch, foldl_snd_tel, foldl_snd_pwr, foldl_snd_regs, foldl_snd_cnts]; done)

@[simp] theorem State.treeRewrite_keeps (g : Nat) (s : State) :
    (State.treeRewrite g s).pending = s.pending ∧ (State.treeRewrite g s).now = s.now ∧
    (State.treeRewrite g s).serial = s.serial ∧ (State.treeRewrite g s).out = s.out ∧
    (State.treeRewrite g s).pins = s.pins ∧ (State.treeRewrite g s).md = s.md ∧
    (State.treeRewrite g s).host = s.host ∧ (State.treeRewrite g s).cmds = s.cmds ∧
    (State.treeRewrite g s).flt = s.flt ∧ (State.treeRewrite g s).clk = s.clk ∧
    (State.treeRewrite g s).ref = s.ref ∧ (State.treeRewrite g s).kennel = s.kennel ∧
    (State.treeRewrite g s).time = s.time ∧ (State.treeRewrite g s).buf = s.buf ∧
    (State.treeRewrite g s).port = s.port ∧ (State.treeRewrite g s).tab = s.tab ∧
    (State.treeRewrite g s).gen = s.gen ∧ (State.treeRewrite g s).core = s.core ∧
    (State.treeRewrite g s).sch = s.sch ∧ (State.treeRewrite g s).tel = s.tel ∧
    (State.treeRewrite g s).pwr = s.pwr ∧ (State.treeRewrite g s).regs = s.regs ∧
    (State.treeRewrite g s).cnts = s.cnts := by
  (unfold State.treeRewrite; simp only [State.onSlice_keeps, ite_self, and_self, implies_true, Ran.st_done, Ran.st_wait, Ran.st_refuse, Ran.st_ite, snd_ite, foldl_pending, foldl_now, foldl_serial, foldl_out, foldl_pins, foldl_md, foldl_host, foldl_cmds, foldl_flt, foldl_clk, foldl_ref, foldl_kennel, foldl_time, foldl_buf, foldl_port, foldl_tab, foldl_gen, foldl_core, foldl_sch, foldl_tel, foldl_pwr, foldl_regs, foldl_cnts, foldl_snd_pending, foldl_snd_now, foldl_snd_serial, foldl_snd_out, foldl_snd_pins, foldl_snd_md, foldl_snd_host, foldl_snd_cmds, foldl_snd_flt, foldl_snd_clk, foldl_snd_ref, foldl_snd_kennel, foldl_snd_time, foldl_snd_buf, foldl_snd_port, foldl_snd_tab, foldl_snd_gen, foldl_snd_core, foldl_snd_sch, foldl_snd_tel, foldl_snd_pwr, foldl_snd_regs, foldl_snd_cnts]; done)

@[simp] theorem State.treeRead_keeps (n loc : Nat) (errs : List (Nat × EccErr)) (s : State) :
    (State.treeRead n loc errs s).2.pending = s.pending ∧ (State.treeRead n loc errs s).2.now = s.now ∧
    (State.treeRead n loc errs s).2.serial = s.serial ∧ (State.treeRead n loc errs s).2.out = s.out ∧
    (State.treeRead n loc errs s).2.pins = s.pins ∧ (State.treeRead n loc errs s).2.md = s.md ∧
    (State.treeRead n loc errs s).2.host = s.host ∧ (State.treeRead n loc errs s).2.cmds = s.cmds ∧
    (State.treeRead n loc errs s).2.clk = s.clk ∧ (State.treeRead n loc errs s).2.ref = s.ref ∧
    (State.treeRead n loc errs s).2.kennel = s.kennel ∧ (State.treeRead n loc errs s).2.time = s.time ∧
    (State.treeRead n loc errs s).2.buf = s.buf ∧ (State.treeRead n loc errs s).2.port = s.port ∧
    (State.treeRead n loc errs s).2.tab = s.tab ∧ (State.treeRead n loc errs s).2.gen = s.gen ∧
    (State.treeRead n loc errs s).2.core = s.core ∧ (State.treeRead n loc errs s).2.sch = s.sch ∧
    (State.treeRead n loc errs s).2.tel = s.tel ∧ (State.treeRead n loc errs s).2.pwr = s.pwr ∧
    (State.treeRead n loc errs s).2.regs = s.regs ∧ (State.treeRead n loc errs s).2.cnts = s.cnts ∧
    (State.treeRead n loc errs s).2.flt.keel0 = s.flt.keel0 ∧
    (State.treeRead n loc errs s).2.flt.keel1 = s.flt.keel1 := by
  unfold State.treeRead
  (try dsimp only)
  (repeat' split) <;> first | (simp; done) | (rename_i q; simp [snd_of q]; done) | (rename_i q _; simp [snd_of q]; done)

@[simp] theorem State.treeScrub_keeps (n : Nat) (errs : List (Nat × EccErr)) (s : State) :
    (State.treeScrub n errs s).pending = s.pending ∧ (State.treeScrub n errs s).now = s.now ∧
    (State.treeScrub n errs s).serial = s.serial ∧ (State.treeScrub n errs s).out = s.out ∧
    (State.treeScrub n errs s).pins = s.pins ∧ (State.treeScrub n errs s).md = s.md ∧
    (State.treeScrub n errs s).host = s.host ∧ (State.treeScrub n errs s).cmds = s.cmds ∧
    (State.treeScrub n errs s).clk = s.clk ∧ (State.treeScrub n errs s).ref = s.ref ∧
    (State.treeScrub n errs s).kennel = s.kennel ∧ (State.treeScrub n errs s).time = s.time ∧
    (State.treeScrub n errs s).buf = s.buf ∧ (State.treeScrub n errs s).port = s.port ∧
    (State.treeScrub n errs s).tab = s.tab ∧ (State.treeScrub n errs s).gen = s.gen ∧
    (State.treeScrub n errs s).core = s.core ∧ (State.treeScrub n errs s).sch = s.sch ∧
    (State.treeScrub n errs s).tel = s.tel ∧ (State.treeScrub n errs s).pwr = s.pwr ∧
    (State.treeScrub n errs s).regs = s.regs ∧ (State.treeScrub n errs s).cnts = s.cnts ∧
    (State.treeScrub n errs s).flt.keel0 = s.flt.keel0 ∧ (State.treeScrub n errs s).flt.keel1 = s.flt.keel1 := by
  (unfold State.treeScrub; simp only [State.treeRead_keeps, ite_self, and_self, implies_true, Ran.st_done, Ran.st_wait, Ran.st_refuse, Ran.st_ite, snd_ite, foldl_pending, foldl_now, foldl_serial, foldl_out, foldl_pins, foldl_md, foldl_host, foldl_cmds, foldl_clk, foldl_ref, foldl_kennel, foldl_time, foldl_buf, foldl_port, foldl_tab, foldl_gen, foldl_core, foldl_sch, foldl_tel, foldl_pwr, foldl_regs, foldl_cnts, foldl_flt_keel0, foldl_flt_keel1, foldl_snd_pending, foldl_snd_now, foldl_snd_serial, foldl_snd_out, foldl_snd_pins, foldl_snd_md, foldl_snd_host, foldl_snd_cmds, foldl_snd_clk, foldl_snd_ref, foldl_snd_kennel, foldl_snd_time, foldl_snd_buf, foldl_snd_port, foldl_snd_tab, foldl_snd_gen, foldl_snd_core, foldl_snd_sch, foldl_snd_tel, foldl_snd_pwr, foldl_snd_regs, foldl_snd_cnts, foldl_snd_flt_keel0, foldl_snd_flt_keel1]; done)

@[simp] theorem State.doSwap_keeps (w : Swap) (ts : Nat) (s : State) :
    (State.doSwap w ts s).pending = s.pending ∧ (State.doSwap w ts s).now = s.now ∧
    (State.doSwap w ts s).serial = s.serial ∧ (State.doSwap w ts s).pins = s.pins ∧
    (State.doSwap w ts s).md = s.md ∧ (State.doSwap w ts s).flt = s.flt ∧ (State.doSwap w ts s).clk = s.clk ∧
    (State.doSwap w ts s).ref = s.ref ∧ (State.doSwap w ts s).kennel = s.kennel ∧
    (State.doSwap w ts s).time = s.time ∧ (State.doSwap w ts s).buf = s.buf ∧ (State.doSwap w ts s).port = s.port ∧
    (State.doSwap w ts s).slices = s.slices ∧ (State.doSwap w ts s).tab = s.tab ∧
    (State.doSwap w ts s).core = s.core ∧ (State.doSwap w ts s).sch = s.sch ∧ (State.doSwap w ts s).tel = s.tel ∧
    (State.doSwap w ts s).pwr = s.pwr ∧ (State.doSwap w ts s).regs = s.regs ∧ (State.doSwap w ts s).cnts = s.cnts := by
  (unfold State.doSwap; simp only [State.completeSer_keeps, ite_self, and_self, implies_true, Ran.st_done, Ran.st_wait, Ran.st_refuse, Ran.st_ite, snd_ite, ite_pending, ite_now, ite_serial, ite_pins, ite_md, ite_flt, ite_clk, ite_ref, ite_kennel, ite_time, ite_buf, ite_port, ite_slices, ite_tab, ite_core, ite_sch, ite_tel, ite_pwr, ite_regs, ite_cnts, foldl_pending, foldl_now, foldl_serial, foldl_pins, foldl_md, foldl_flt, foldl_clk, foldl_ref, foldl_kennel, foldl_time, foldl_buf, foldl_port, foldl_slices, foldl_tab, foldl_core, foldl_sch, foldl_tel, foldl_pwr, foldl_regs, foldl_cnts, foldl_snd_pending, foldl_snd_now, foldl_snd_serial, foldl_snd_pins, foldl_snd_md, foldl_snd_flt, foldl_snd_clk, foldl_snd_ref, foldl_snd_kennel, foldl_snd_time, foldl_snd_buf, foldl_snd_port, foldl_snd_slices, foldl_snd_tab, foldl_snd_core, foldl_snd_sch, foldl_snd_tel, foldl_snd_pwr, foldl_snd_regs, foldl_snd_cnts]; done)
end Sys2Proof.Machine
end

