-- ==== Sys2Proof/Laws/KeepsTcam.lean ====
section
/-! SUPPORT. What each operation of Machine/Tcam.lean keeps: the parts of the state that it leaves as they are. -/
set_option linter.unusedSimpArgs false
set_option linter.unusedVariables false
namespace Sys2Proof.Machine
open Host (Outcome)

@[simp] theorem State.classCount_keeps (n i : Nat) (s : State) :
    (State.classCount n i s).pending = s.pending ∧ (State.classCount n i s).now = s.now ∧
    (State.classCount n i s).serial = s.serial ∧ (State.classCount n i s).out = s.out ∧
    (State.classCount n i s).pins = s.pins ∧ (State.classCount n i s).md = s.md ∧
    (State.classCount n i s).host = s.host ∧ (State.classCount n i s).cmds = s.cmds ∧
    (State.classCount n i s).flt = s.flt ∧ (State.classCount n i s).clk = s.clk ∧
    (State.classCount n i s).ref = s.ref ∧ (State.classCount n i s).kennel = s.kennel ∧
    (State.classCount n i s).time = s.time ∧ (State.classCount n i s).buf = s.buf ∧
    (State.classCount n i s).port = s.port ∧ (State.classCount n i s).slices = s.slices ∧
    (State.classCount n i s).tab = s.tab ∧ (State.classCount n i s).gen = s.gen ∧
    (State.classCount n i s).core = s.core ∧ (State.classCount n i s).sch = s.sch ∧
    (State.classCount n i s).tel = s.tel ∧ (State.classCount n i s).pwr = s.pwr ∧
    (State.classCount n i s).regs = s.regs := by
  (unfold State.classCount; simp only [State.count_keeps, ite_self, and_self, implies_true, Ran.st_done, Ran.st_wait, Ran.st_refuse, Ran.st_ite, snd_ite, foldl_pending, foldl_now, foldl_serial, foldl_out, foldl_pins, foldl_md, foldl_host, foldl_cmds, foldl_flt, foldl_clk, foldl_ref, foldl_kennel, foldl_time, foldl_buf, foldl_port, foldl_slices, foldl_tab, foldl_gen, foldl_core, foldl_sch, foldl_tel, foldl_pwr, foldl_regs, foldl_snd_pending, foldl_snd_now, foldl_snd_serial, foldl_snd_out, foldl_snd_pins, foldl_snd_md, foldl_snd_host, foldl_snd_cmds, foldl_snd_flt, foldl_snd_clk, foldl_snd_ref, foldl_snd_kennel, foldl_snd_time, foldl_snd_buf, foldl_snd_port, foldl_snd_slices, foldl_snd_tab, foldl_snd_gen, foldl_snd_core, foldl_snd_sch, foldl_snd_tel, foldl_snd_pwr, foldl_snd_regs]; done)

@[simp] theorem State.loseRow_keeps (n loc : Nat) (inj : Bool) (s : State) :
    (State.loseRow n loc inj s).pending = s.pending ∧ (State.loseRow n loc inj s).now = s.now ∧
    (State.loseRow n loc inj s).serial = s.serial ∧ (State.loseRow n loc inj s).out = s.out ∧
    (State.loseRow n loc inj s).pins = s.pins ∧ (State.loseRow n loc inj s).md = s.md ∧
    (State.loseRow n loc inj s).host = s.host ∧ (State.loseRow n loc inj s).cmds = s.cmds ∧
    (State.loseRow n loc inj s).clk = s.clk ∧ (State.loseRow n loc inj s).kennel = s.kennel ∧
    (State.loseRow n loc inj s).time = s.time ∧ (State.loseRow n loc inj s).buf = s.buf ∧
    (State.loseRow n loc inj s).port = s.port ∧ (State.loseRow n loc inj s).tab = s.tab ∧
    (State.loseRow n loc inj s).gen = s.gen ∧ (State.loseRow n loc inj s).core = s.core ∧
    (State.loseRow n loc inj s).sch = s.sch ∧ (State.loseRow n loc inj s).tel = s.tel ∧
    (State.loseRow n loc inj s).pwr = s.pwr ∧ (State.loseRow n loc inj s).regs = s.regs ∧
    (State.loseRow n loc inj s).cnts = s.cnts ∧ (State.loseRow n loc inj s).flt.keel0 = s.flt.keel0 ∧
    (State.loseRow n loc inj s).flt.keel1 = s.flt.keel1 := by
  (unfold State.loseRow; simp only [State.raiseX_keeps, State.raise_keeps, State.wearUse_keeps, State.setSlice_keeps, ite_self, and_self, implies_true, Ran.st_done, Ran.st_wait, Ran.st_refuse, Ran.st_ite, snd_ite, ite_pending, ite_now, ite_serial, ite_out, ite_pins, ite_md, ite_host, ite_cmds, ite_clk, ite_kennel, ite_time, ite_buf, ite_port, ite_tab, ite_gen, ite_core, ite_sch, ite_tel, ite_pwr, ite_regs, ite_cnts, ite_flt_keel0, ite_flt_keel1, foldl_pending, foldl_now, foldl_serial, foldl_out, foldl_pins, foldl_md, foldl_host, foldl_cmds, foldl_clk, foldl_kennel, foldl_time, foldl_buf, foldl_port, foldl_tab, foldl_gen, foldl_core, foldl_sch, foldl_tel, foldl_pwr, foldl_regs, foldl_cnts, foldl_flt_keel0, foldl_flt_keel1, foldl_snd_pending, foldl_snd_now, foldl_snd_serial, foldl_snd_out, foldl_snd_pins, foldl_snd_md, foldl_snd_host, foldl_snd_cmds, foldl_snd_clk, foldl_snd_kennel, foldl_snd_time, foldl_snd_buf, foldl_snd_port, foldl_snd_tab, foldl_snd_gen, foldl_snd_core, foldl_snd_sch, foldl_snd_tel, foldl_snd_pwr, foldl_snd_regs, foldl_snd_cnts, foldl_snd_flt_keel0, foldl_snd_flt_keel1]; done)

@[simp] theorem State.fixRow_keeps (n loc : Nat) (inj stuck shadow : Bool) (s : State) :
    (State.fixRow n loc inj stuck shadow s).pending = s.pending ∧
    (State.fixRow n loc inj stuck shadow s).now = s.now ∧
    (State.fixRow n loc inj stuck shadow s).serial = s.serial ∧
    (State.fixRow n loc inj stuck shadow s).out = s.out ∧ (State.fixRow n loc inj stuck shadow s).pins = s.pins ∧
    (State.fixRow n loc inj stuck shadow s).md = s.md ∧ (State.fixRow n loc inj stuck shadow s).host = s.host ∧
    (State.fixRow n loc inj stuck shadow s).cmds = s.cmds ∧ (State.fixRow n loc inj stuck shadow s).clk = s.clk ∧
    (State.fixRow n loc inj stuck shadow s).kennel = s.kennel ∧
    (State.fixRow n loc inj stuck shadow s).time = s.time ∧ (State.fixRow n loc inj stuck shadow s).buf = s.buf ∧
    (State.fixRow n loc inj stuck shadow s).port = s.port ∧ (State.fixRow n loc inj stuck shadow s).tab = s.tab ∧
    (State.fixRow n loc inj stuck shadow s).gen = s.gen ∧ (State.fixRow n loc inj stuck shadow s).core = s.core ∧
    (State.fixRow n loc inj stuck shadow s).sch = s.sch ∧ (State.fixRow n loc inj stuck shadow s).tel = s.tel ∧
    (State.fixRow n loc inj stuck shadow s).pwr = s.pwr ∧ (State.fixRow n loc inj stuck shadow s).regs = s.regs ∧
    (State.fixRow n loc inj stuck shadow s).cnts = s.cnts ∧
    (State.fixRow n loc inj stuck shadow s).flt.keel0 = s.flt.keel0 ∧
    (State.fixRow n loc inj stuck shadow s).flt.keel1 = s.flt.keel1 := by
  (unfold State.fixRow; simp only [State.injected_keeps, State.raiseX_keeps, State.setSlice_keeps, State.loseRow_keeps, ite_self, and_self, implies_true, Ran.st_done, Ran.st_wait, Ran.st_refuse, Ran.st_ite, snd_ite, ite_pending, ite_now, ite_serial, ite_out, ite_pins, ite_md, ite_host, ite_cmds, ite_clk, ite_kennel, ite_time, ite_buf, ite_port, ite_tab, ite_gen, ite_core, ite_sch, ite_tel, ite_pwr, ite_regs, ite_cnts, ite_flt_keel0, ite_flt_keel1, foldl_pending, foldl_now, foldl_serial, foldl_out, foldl_pins, foldl_md, foldl_host, foldl_cmds, foldl_clk, foldl_kennel, foldl_time, foldl_buf, foldl_port, foldl_tab, foldl_gen, foldl_core, foldl_sch, foldl_tel, foldl_pwr, foldl_regs, foldl_cnts, foldl_flt_keel0, foldl_flt_keel1, foldl_snd_pending, foldl_snd_now, foldl_snd_serial, foldl_snd_out, foldl_snd_pins, foldl_snd_md, foldl_snd_host, foldl_snd_cmds, foldl_snd_clk, foldl_snd_kennel, foldl_snd_time, foldl_snd_buf, foldl_snd_port, foldl_snd_tab, foldl_snd_gen, foldl_snd_core, foldl_snd_sch, foldl_snd_tel, foldl_snd_pwr, foldl_snd_regs, foldl_snd_cnts, foldl_snd_flt_keel0, foldl_snd_flt_keel1]; done)

@[simp] theorem State.scrubInjected_keeps (n : Nat) (s : State) :
    (State.scrubInjected n s).pending = s.pending ∧ (State.scrubInjected n s).now = s.now ∧
    (State.scrubInjected n s).serial = s.serial ∧ (State.scrubInjected n s).out = s.out ∧
    (State.scrubInjected n s).pins = s.pins ∧ (State.scrubInjected n s).md = s.md ∧
    (State.scrubInjected n s).host = s.host ∧ (State.scrubInjected n s).cmds = s.cmds ∧
    (State.scrubInjected n s).clk = s.clk ∧ (State.scrubInjected n s).kennel = s.kennel ∧
    (State.scrubInjected n s).time = s.time ∧ (State.scrubInjected n s).buf = s.buf ∧
    (State.scrubInjected n s).port = s.port ∧ (State.scrubInjected n s).tab = s.tab ∧
    (State.scrubInjected n s).gen = s.gen ∧ (State.scrubInjected n s).core = s.core ∧
    (State.scrubInjected n s).sch = s.sch ∧ (State.scrubInjected n s).tel = s.tel ∧
    (State.scrubInjected n s).pwr = s.pwr ∧ (State.scrubInjected n s).regs = s.regs ∧
    (State.scrubInjected n s).cnts = s.cnts ∧ (State.scrubInjected n s).flt.keel0 = s.flt.keel0 ∧
    (State.scrubInjected n s).flt.keel1 = s.flt.keel1 := by
  (unfold State.scrubInjected; simp only [State.injected_keeps, State.loseRow_keeps, ite_self, and_self, implies_true, Ran.st_done, Ran.st_wait, Ran.st_refuse, Ran.st_ite, snd_ite, ite_pending, ite_now, ite_serial, ite_out, ite_pins, ite_md, ite_host, ite_cmds, ite_clk, ite_kennel, ite_time, ite_buf, ite_port, ite_tab, ite_gen, ite_core, ite_sch, ite_tel, ite_pwr, ite_regs, ite_cnts, ite_flt_keel0, ite_flt_keel1, foldl_pending, foldl_now, foldl_serial, foldl_out, foldl_pins, foldl_md, foldl_host, foldl_cmds, foldl_clk, foldl_kennel, foldl_time, foldl_buf, foldl_port, foldl_tab, foldl_gen, foldl_core, foldl_sch, foldl_tel, foldl_pwr, foldl_regs, foldl_cnts, foldl_flt_keel0, foldl_flt_keel1, foldl_snd_pending, foldl_snd_now, foldl_snd_serial, foldl_snd_out, foldl_snd_pins, foldl_snd_md, foldl_snd_host, foldl_snd_cmds, foldl_snd_clk, foldl_snd_kennel, foldl_snd_time, foldl_snd_buf, foldl_snd_port, foldl_snd_tab, foldl_snd_gen, foldl_snd_core, foldl_snd_sch, foldl_snd_tel, foldl_snd_pwr, foldl_snd_regs, foldl_snd_cnts, foldl_snd_flt_keel0, foldl_snd_flt_keel1]; done)

@[simp] theorem rowCheck_keeps (n lookup i : Nat) (errs : List RowErr) (acc : List Nat × State) (r : Nat) :
    (rowCheck n lookup i errs acc r).2.pending = acc.2.pending ∧
    (rowCheck n lookup i errs acc r).2.now = acc.2.now ∧ (rowCheck n lookup i errs acc r).2.serial = acc.2.serial ∧
    (rowCheck n lookup i errs acc r).2.out = acc.2.out ∧ (rowCheck n lookup i errs acc r).2.pins = acc.2.pins ∧
    (rowCheck n lookup i errs acc r).2.md = acc.2.md ∧ (rowCheck n lookup i errs acc r).2.host = acc.2.host ∧
    (rowCheck n lookup i errs acc r).2.cmds = acc.2.cmds ∧ (rowCheck n lookup i errs acc r).2.clk = acc.2.clk ∧
    (rowCheck n lookup i errs acc r).2.kennel = acc.2.kennel ∧
    (rowCheck n lookup i errs acc r).2.time = acc.2.time ∧ (rowCheck n lookup i errs acc r).2.buf = acc.2.buf ∧
    (rowCheck n lookup i errs acc r).2.port = acc.2.port ∧ (rowCheck n lookup i errs acc r).2.tab = acc.2.tab ∧
    (rowCheck n lookup i errs acc r).2.gen = acc.2.gen ∧ (rowCheck n lookup i errs acc r).2.core = acc.2.core ∧
    (rowCheck n lookup i errs acc r).2.sch = acc.2.sch ∧ (rowCheck n lookup i errs acc r).2.tel = acc.2.tel ∧
    (rowCheck n lookup i errs acc r).2.pwr = acc.2.pwr ∧ (rowCheck n lookup i errs acc r).2.regs = acc.2.regs ∧
    (rowCheck n lookup i errs acc r).2.cnts = acc.2.cnts ∧
    (rowCheck n lookup i errs acc r).2.flt.keel0 = acc.2.flt.keel0 ∧
    (rowCheck n lookup i errs acc r).2.flt.keel1 = acc.2.flt.keel1 := by
  (unfold rowCheck; split <;> simp only [State.injected_keeps, State.fixRow_keeps, ite_self, and_self, implies_true, Ran.st_done, Ran.st_wait, Ran.st_refuse, Ran.st_ite, snd_ite, ite_pending, ite_now, ite_serial, ite_out, ite_pins, ite_md, ite_host, ite_cmds, ite_clk, ite_kennel, ite_time, ite_buf, ite_port, ite_tab, ite_gen, ite_core, ite_sch, ite_tel, ite_pwr, ite_regs, ite_cnts, ite_flt_keel0, ite_flt_keel1, foldl_pending, foldl_now, foldl_serial, foldl_out, foldl_pins, foldl_md, foldl_host, foldl_cmds, foldl_clk, foldl_kennel, foldl_time, foldl_buf, foldl_port, foldl_tab, foldl_gen, foldl_core, foldl_sch, foldl_tel, foldl_pwr, foldl_regs, foldl_cnts, foldl_flt_keel0, foldl_flt_keel1, foldl_snd_pending, foldl_snd_now, foldl_snd_serial, foldl_snd_out, foldl_snd_pins, foldl_snd_md, foldl_snd_host, foldl_snd_cmds, foldl_snd_clk, foldl_snd_kennel, foldl_snd_time, foldl_snd_buf, foldl_snd_port, foldl_snd_tab, foldl_snd_gen, foldl_snd_core, foldl_snd_sch, foldl_snd_tel, foldl_snd_pwr, foldl_snd_regs, foldl_snd_cnts, foldl_snd_flt_keel0, foldl_snd_flt_keel1])

@[simp] theorem State.parityLoop_keeps (n lookup : Nat) (hits : List Nat → List (Nat × Nat)) (errs : List RowErr) (a4 a5 : Nat) (a6 : List Nat) (a7 : State) :
    (State.parityLoop n lookup hits errs a4 a5 a6 a7).2.pending = a7.pending ∧
    (State.parityLoop n lookup hits errs a4 a5 a6 a7).2.now = a7.now ∧
    (State.parityLoop n lookup hits errs a4 a5 a6 a7).2.serial = a7.serial ∧
    (State.parityLoop n lookup hits errs a4 a5 a6 a7).2.out = a7.out ∧
    (State.parityLoop n lookup hits errs a4 a5 a6 a7).2.pins = a7.pins ∧
    (State.parityLoop n lookup hits errs a4 a5 a6 a7).2.md = a7.md ∧
    (State.parityLoop n lookup hits errs a4 a5 a6 a7).2.host = a7.host ∧
    (State.parityLoop n lookup hits errs a4 a5 a6 a7).2.cmds = a7.cmds ∧
    (State.parityLoop n lookup hits errs a4 a5 a6 a7).2.clk = a7.clk ∧
    (State.parityLoop n lookup hits errs a4 a5 a6 a7).2.kennel = a7.kennel ∧
    (State.parityLoop n lookup hits errs a4 a5 a6 a7).2.time = a7.time ∧
    (State.parityLoop n lookup hits errs a4 a5 a6 a7).2.buf = a7.buf ∧
    (State.parityLoop n lookup hits errs a4 a5 a6 a7).2.port = a7.port ∧
    (State.parityLoop n lookup hits errs a4 a5 a6 a7).2.tab = a7.tab ∧
    (State.parityLoop n lookup hits errs a4 a5 a6 a7).2.gen = a7.gen ∧
    (State.parityLoop n lookup hits errs a4 a5 a6 a7).2.core = a7.core ∧
    (State.parityLoop n lookup hits errs a4 a5 a6 a7).2.sch = a7.sch ∧
    (State.parityLoop n lookup hits errs a4 a5 a6 a7).2.tel = a7.tel ∧
    (State.parityLoop n lookup hits errs a4 a5 a6 a7).2.pwr = a7.pwr ∧
    (State.parityLoop n lookup hits errs a4 a5 a6 a7).2.regs = a7.regs ∧
    (State.parityLoop n lookup hits errs a4 a5 a6 a7).2.flt.keel0 = a7.flt.keel0 ∧
    (State.parityLoop n lookup hits errs a4 a5 a6 a7).2.flt.keel1 = a7.flt.keel1 := by
  induction a4 generalizing a5 a6 a7 with
  | zero => simp [State.parityLoop]
  | succ m ih =>
    unfold State.parityLoop
    dsimp only
    split
    · simp
    split
    · simp
    · simp [ih]

@[simp] theorem State.setAcl_keeps (n loc : Nat) (e : Option AclEnt) (s : State) :
    (State.setAcl n loc e s).pending = s.pending ∧ (State.setAcl n loc e s).now = s.now ∧
    (State.setAcl n loc e s).serial = s.serial ∧ (State.setAcl n loc e s).out = s.out ∧
    (State.setAcl n loc e s).pins = s.pins ∧ (State.setAcl n loc e s).md = s.md ∧
    (State.setAcl n loc e s).host = s.host ∧ (State.setAcl n loc e s).cmds = s.cmds ∧
    (State.setAcl n loc e s).flt = s.flt ∧ (State.setAcl n loc e s).clk = s.clk ∧
    (State.setAcl n loc e s).ref = s.ref ∧ (State.setAcl n loc e s).kennel = s.kennel ∧
    (State.setAcl n loc e s).time = s.time ∧ (State.setAcl n loc e s).buf = s.buf ∧
    (State.setAcl n loc e s).port = s.port ∧ (State.setAcl n loc e s).tab = s.tab ∧
    (State.setAcl n loc e s).gen = s.gen ∧ (State.setAcl n loc e s).core = s.core ∧
    (State.setAcl n loc e s).sch = s.sch ∧ (State.setAcl n loc e s).tel = s.tel ∧
    (State.setAcl n loc e s).pwr = s.pwr ∧ (State.setAcl n loc e s).regs = s.regs ∧
    (State.setAcl n loc e s).cnts = s.cnts := by
  (unfold State.setAcl; simp only [State.onSlice_keeps, ite_self, and_self, implies_true, Ran.st_done, Ran.st_wait, Ran.st_refuse, Ran.st_ite, snd_ite, foldl_pending, foldl_now, foldl_serial, foldl_out, foldl_pins, foldl_md, foldl_host, foldl_cmds, foldl_flt, foldl_clk, foldl_ref, foldl_kennel, foldl_time, foldl_buf, foldl_port, foldl_tab, foldl_gen, foldl_core, foldl_sch, foldl_tel, foldl_pwr, foldl_regs, foldl_cnts, foldl_snd_pending, foldl_snd_now, foldl_snd_serial, foldl_snd_out, foldl_snd_pins, foldl_snd_md, foldl_snd_host, foldl_snd_cmds, foldl_snd_flt, foldl_snd_clk, foldl_snd_ref, foldl_snd_kennel, foldl_snd_time, foldl_snd_buf, foldl_snd_port, foldl_snd_tab, foldl_snd_gen, foldl_snd_core, foldl_snd_sch, foldl_snd_tel, foldl_snd_pwr, foldl_snd_regs, foldl_snd_cnts]; done)

@[simp] theorem State.aclApply_keeps (ns : List Nat) (loc : Nat) (new : Nat → Option AclEnt) (live : Bool) (s : State) :
    (State.aclApply ns loc new live s).st.pending = s.pending ∧ (State.aclApply ns loc new live s).st.now = s.now ∧
    (State.aclApply ns loc new live s).st.serial = s.serial ∧ (State.aclApply ns loc new live s).st.out = s.out ∧
    (State.aclApply ns loc new live s).st.pins = s.pins ∧ (State.aclApply ns loc new live s).st.md = s.md ∧
    (State.aclApply ns loc new live s).st.host = s.host ∧ (State.aclApply ns loc new live s).st.cmds = s.cmds ∧
    (State.aclApply ns loc new live s).st.flt = s.flt ∧ (State.aclApply ns loc new live s).st.clk = s.clk ∧
    (State.aclApply ns loc new live s).st.ref = s.ref ∧ (State.aclApply ns loc new live s).st.kennel = s.kennel ∧
    (State.aclApply ns loc new live s).st.time = s.time ∧ (State.aclApply ns loc new live s).st.buf = s.buf ∧
    (State.aclApply ns loc new live s).st.port = s.port ∧ (State.aclApply ns loc new live s).st.tab = s.tab ∧
    (State.aclApply ns loc new live s).st.gen = s.gen ∧ (State.aclApply ns loc new live s).st.core = s.core ∧
    (State.aclApply ns loc new live s).st.sch = s.sch ∧ (State.aclApply ns loc new live s).st.tel = s.tel ∧
    (State.aclApply ns loc new live s).st.pwr = s.pwr ∧ (State.aclApply ns loc new live s).st.regs = s.regs ∧
    (State.aclApply ns loc new live s).st.cnts = s.cnts := by
  (unfold State.aclApply; simp only [Ran.refuse_keeps, State.setAcl_keeps, ite_self, and_self, implies_true, Ran.st_done, Ran.st_wait, Ran.st_refuse, Ran.st_ite, snd_ite, ite_pending, ite_now, ite_serial, ite_out, ite_pins, ite_md, ite_host, ite_cmds, ite_flt, ite_clk, ite_ref, ite_kennel, ite_time, ite_buf, ite_port, ite_tab, ite_gen, ite_core, ite_sch, ite_tel, ite_pwr, ite_regs, ite_cnts, foldl_pending, foldl_now, foldl_serial, foldl_out, foldl_pins, foldl_md, foldl_host, foldl_cmds, foldl_flt, foldl_clk, foldl_ref, foldl_kennel, foldl_time, foldl_buf, foldl_port, foldl_tab, foldl_gen, foldl_core, foldl_sch, foldl_tel, foldl_pwr, foldl_regs, foldl_cnts, foldl_snd_pending, foldl_snd_now, foldl_snd_serial, foldl_snd_out, foldl_snd_pins, foldl_snd_md, foldl_snd_host, foldl_snd_cmds, foldl_snd_flt, foldl_snd_clk, foldl_snd_ref, foldl_snd_kennel, foldl_snd_time, foldl_snd_buf, foldl_snd_port, foldl_snd_tab, foldl_snd_gen, foldl_snd_core, foldl_snd_sch, foldl_snd_tel, foldl_snd_pwr, foldl_snd_regs, foldl_snd_cnts]; done)
end Sys2Proof.Machine
end

