-- ==== Sys2Proof/Laws/KeepsEndpoint.lean ====
section
/-! SUPPORT. What each operation of Machine/Endpoint.lean keeps: the parts of the state that it leaves as they are. -/
set_option linter.unusedSimpArgs false
set_option linter.unusedVariables false
namespace Sys2Proof.Machine
open Host (Outcome)

@[simp] theorem State.epPut_keeps (l : Nat) (e : EpEnt) (s : State) :
    (State.epPut l e s).pending = s.pending ∧ (State.epPut l e s).now = s.now ∧
    (State.epPut l e s).serial = s.serial ∧ (State.epPut l e s).out = s.out ∧ (State.epPut l e s).pins = s.pins ∧
    (State.epPut l e s).md = s.md ∧ (State.epPut l e s).host = s.host ∧ (State.epPut l e s).cmds = s.cmds ∧
    (State.epPut l e s).flt = s.flt ∧ (State.epPut l e s).clk = s.clk ∧ (State.epPut l e s).ref = s.ref ∧
    (State.epPut l e s).kennel = s.kennel ∧ (State.epPut l e s).time = s.time ∧ (State.epPut l e s).buf = s.buf ∧
    (State.epPut l e s).port = s.port ∧ (State.epPut l e s).slices = s.slices ∧ (State.epPut l e s).gen = s.gen ∧
    (State.epPut l e s).core = s.core ∧ (State.epPut l e s).sch = s.sch ∧ (State.epPut l e s).tel = s.tel ∧
    (State.epPut l e s).pwr = s.pwr ∧ (State.epPut l e s).regs = s.regs ∧ (State.epPut l e s).cnts = s.cnts := by
  (unfold State.epPut; simp only [ite_self, and_self, implies_true, Ran.st_done, Ran.st_wait, Ran.st_refuse, Ran.st_ite, snd_ite, ite_pending, ite_now, ite_serial, ite_out, ite_pins, ite_md, ite_host, ite_cmds, ite_flt, ite_clk, ite_ref, ite_kennel, ite_time, ite_buf, ite_port, ite_slices, ite_gen, ite_core, ite_sch, ite_tel, ite_pwr, ite_regs, ite_cnts, foldl_pending, foldl_now, foldl_serial, foldl_out, foldl_pins, foldl_md, foldl_host, foldl_cmds, foldl_flt, foldl_clk, foldl_ref, foldl_kennel, foldl_time, foldl_buf, foldl_port, foldl_slices, foldl_gen, foldl_core, foldl_sch, foldl_tel, foldl_pwr, foldl_regs, foldl_cnts, foldl_snd_pending, foldl_snd_now, foldl_snd_serial, foldl_snd_out, foldl_snd_pins, foldl_snd_md, foldl_snd_host, foldl_snd_cmds, foldl_snd_flt, foldl_snd_clk, foldl_snd_ref, foldl_snd_kennel, foldl_snd_time, foldl_snd_buf, foldl_snd_port, foldl_snd_slices, foldl_snd_gen, foldl_snd_core, foldl_snd_sch, foldl_snd_tel, foldl_snd_pwr, foldl_snd_regs, foldl_snd_cnts]; done)

@[simp] theorem State.epClear_keeps (l : Nat) (s : State) :
    (State.epClear l s).pending = s.pending ∧ (State.epClear l s).now = s.now ∧
    (State.epClear l s).serial = s.serial ∧ (State.epClear l s).out = s.out ∧ (State.epClear l s).pins = s.pins ∧
    (State.epClear l s).md = s.md ∧ (State.epClear l s).host = s.host ∧ (State.epClear l s).cmds = s.cmds ∧
    (State.epClear l s).flt = s.flt ∧ (State.epClear l s).clk = s.clk ∧ (State.epClear l s).ref = s.ref ∧
    (State.epClear l s).kennel = s.kennel ∧ (State.epClear l s).time = s.time ∧ (State.epClear l s).buf = s.buf ∧
    (State.epClear l s).port = s.port ∧ (State.epClear l s).slices = s.slices ∧ (State.epClear l s).gen = s.gen ∧
    (State.epClear l s).core = s.core ∧ (State.epClear l s).sch = s.sch ∧ (State.epClear l s).tel = s.tel ∧
    (State.epClear l s).pwr = s.pwr ∧ (State.epClear l s).regs = s.regs ∧ (State.epClear l s).cnts = s.cnts := by
  (unfold State.epClear; simp only [ite_self, and_self, implies_true, Ran.st_done, Ran.st_wait, Ran.st_refuse, Ran.st_ite, snd_ite, ite_pending, ite_now, ite_serial, ite_out, ite_pins, ite_md, ite_host, ite_cmds, ite_flt, ite_clk, ite_ref, ite_kennel, ite_time, ite_buf, ite_port, ite_slices, ite_gen, ite_core, ite_sch, ite_tel, ite_pwr, ite_regs, ite_cnts, foldl_pending, foldl_now, foldl_serial, foldl_out, foldl_pins, foldl_md, foldl_host, foldl_cmds, foldl_flt, foldl_clk, foldl_ref, foldl_kennel, foldl_time, foldl_buf, foldl_port, foldl_slices, foldl_gen, foldl_core, foldl_sch, foldl_tel, foldl_pwr, foldl_regs, foldl_cnts, foldl_snd_pending, foldl_snd_now, foldl_snd_serial, foldl_snd_out, foldl_snd_pins, foldl_snd_md, foldl_snd_host, foldl_snd_cmds, foldl_snd_flt, foldl_snd_clk, foldl_snd_ref, foldl_snd_kennel, foldl_snd_time, foldl_snd_buf, foldl_snd_port, foldl_snd_slices, foldl_snd_gen, foldl_snd_core, foldl_snd_sch, foldl_snd_tel, foldl_snd_pwr, foldl_snd_regs, foldl_snd_cnts]; done)

@[simp] theorem State.epCount_keeps (i : Nat) (s : State) :
    (State.epCount i s).pending = s.pending ∧ (State.epCount i s).now = s.now ∧
    (State.epCount i s).serial = s.serial ∧ (State.epCount i s).out = s.out ∧ (State.epCount i s).pins = s.pins ∧
    (State.epCount i s).md = s.md ∧ (State.epCount i s).host = s.host ∧ (State.epCount i s).cmds = s.cmds ∧
    (State.epCount i s).flt = s.flt ∧ (State.epCount i s).clk = s.clk ∧ (State.epCount i s).ref = s.ref ∧
    (State.epCount i s).kennel = s.kennel ∧ (State.epCount i s).time = s.time ∧ (State.epCount i s).buf = s.buf ∧
    (State.epCount i s).port = s.port ∧ (State.epCount i s).slices = s.slices ∧ (State.epCount i s).tab = s.tab ∧
    (State.epCount i s).gen = s.gen ∧ (State.epCount i s).core = s.core ∧ (State.epCount i s).sch = s.sch ∧
    (State.epCount i s).tel = s.tel ∧ (State.epCount i s).pwr = s.pwr ∧ (State.epCount i s).regs = s.regs := by
  (unfold State.epCount; simp only [State.count_keeps, ite_self, and_self, implies_true, Ran.st_done, Ran.st_wait, Ran.st_refuse, Ran.st_ite, snd_ite, foldl_pending, foldl_now, foldl_serial, foldl_out, foldl_pins, foldl_md, foldl_host, foldl_cmds, foldl_flt, foldl_clk, foldl_ref, foldl_kennel, foldl_time, foldl_buf, foldl_port, foldl_slices, foldl_tab, foldl_gen, foldl_core, foldl_sch, foldl_tel, foldl_pwr, foldl_regs, foldl_snd_pending, foldl_snd_now, foldl_snd_serial, foldl_snd_out, foldl_snd_pins, foldl_snd_md, foldl_snd_host, foldl_snd_cmds, foldl_snd_flt, foldl_snd_clk, foldl_snd_ref, foldl_snd_kennel, foldl_snd_time, foldl_snd_buf, foldl_snd_port, foldl_snd_slices, foldl_snd_tab, foldl_snd_gen, foldl_snd_core, foldl_snd_sch, foldl_snd_tel, foldl_snd_pwr, foldl_snd_regs]; done)

@[simp] theorem State.rehashEvt_keeps (code seg : Nat) (s : State) :
    (State.rehashEvt code seg s).pending = s.pending ∧ (State.rehashEvt code seg s).now = s.now ∧
    (State.rehashEvt code seg s).serial = s.serial ∧ (State.rehashEvt code seg s).pins = s.pins ∧
    (State.rehashEvt code seg s).md = s.md ∧ (State.rehashEvt code seg s).cmds = s.cmds ∧
    (State.rehashEvt code seg s).flt = s.flt ∧ (State.rehashEvt code seg s).clk = s.clk ∧
    (State.rehashEvt code seg s).ref = s.ref ∧ (State.rehashEvt code seg s).kennel = s.kennel ∧
    (State.rehashEvt code seg s).time = s.time ∧ (State.rehashEvt code seg s).buf = s.buf ∧
    (State.rehashEvt code seg s).port = s.port ∧ (State.rehashEvt code seg s).slices = s.slices ∧
    (State.rehashEvt code seg s).tab = s.tab ∧ (State.rehashEvt code seg s).gen = s.gen ∧
    (State.rehashEvt code seg s).core = s.core ∧ (State.rehashEvt code seg s).sch = s.sch ∧
    (State.rehashEvt code seg s).tel = s.tel ∧ (State.rehashEvt code seg s).pwr = s.pwr ∧
    (State.rehashEvt code seg s).regs = s.regs ∧ (State.rehashEvt code seg s).cnts = s.cnts := by
  (unfold State.rehashEvt; simp only [State.post_keeps, ite_self, and_self, implies_true, Ran.st_done, Ran.st_wait, Ran.st_refuse, Ran.st_ite, snd_ite, foldl_pending, foldl_now, foldl_serial, foldl_pins, foldl_md, foldl_cmds, foldl_flt, foldl_clk, foldl_ref, foldl_kennel, foldl_time, foldl_buf, foldl_port, foldl_slices, foldl_tab, foldl_gen, foldl_core, foldl_sch, foldl_tel, foldl_pwr, foldl_regs, foldl_cnts, foldl_snd_pending, foldl_snd_now, foldl_snd_serial, foldl_snd_pins, foldl_snd_md, foldl_snd_cmds, foldl_snd_flt, foldl_snd_clk, foldl_snd_ref, foldl_snd_kennel, foldl_snd_time, foldl_snd_buf, foldl_snd_port, foldl_snd_slices, foldl_snd_tab, foldl_snd_gen, foldl_snd_core, foldl_snd_sch, foldl_snd_tel, foldl_snd_pwr, foldl_snd_regs, foldl_snd_cnts]; done)

@[simp] theorem State.epStore_keeps (l : Nat) (e : EpEnt) (s : State) :
    (State.epStore l e s).pending = s.pending ∧ (State.epStore l e s).now = s.now ∧
    (State.epStore l e s).serial = s.serial ∧ (State.epStore l e s).pins = s.pins ∧
    (State.epStore l e s).md = s.md ∧ (State.epStore l e s).cmds = s.cmds ∧ (State.epStore l e s).flt = s.flt ∧
    (State.epStore l e s).clk = s.clk ∧ (State.epStore l e s).ref = s.ref ∧
    (State.epStore l e s).kennel = s.kennel ∧ (State.epStore l e s).time = s.time ∧
    (State.epStore l e s).buf = s.buf ∧ (State.epStore l e s).port = s.port ∧
    (State.epStore l e s).slices = s.slices ∧ (State.epStore l e s).gen = s.gen ∧
    (State.epStore l e s).core = s.core ∧ (State.epStore l e s).sch = s.sch ∧ (State.epStore l e s).tel = s.tel ∧
    (State.epStore l e s).pwr = s.pwr ∧ (State.epStore l e s).regs = s.regs ∧ (State.epStore l e s).cnts = s.cnts := by
  (unfold State.epStore; simp only [State.rehashEvt_keeps, State.epPut_keeps, ite_self, and_self, implies_true, Ran.st_done, Ran.st_wait, Ran.st_refuse, Ran.st_ite, snd_ite, ite_pending, ite_now, ite_serial, ite_pins, ite_md, ite_cmds, ite_flt, ite_clk, ite_ref, ite_kennel, ite_time, ite_buf, ite_port, ite_slices, ite_gen, ite_core, ite_sch, ite_tel, ite_pwr, ite_regs, ite_cnts, foldl_pending, foldl_now, foldl_serial, foldl_pins, foldl_md, foldl_cmds, foldl_flt, foldl_clk, foldl_ref, foldl_kennel, foldl_time, foldl_buf, foldl_port, foldl_slices, foldl_gen, foldl_core, foldl_sch, foldl_tel, foldl_pwr, foldl_regs, foldl_cnts, foldl_snd_pending, foldl_snd_now, foldl_snd_serial, foldl_snd_pins, foldl_snd_md, foldl_snd_cmds, foldl_snd_flt, foldl_snd_clk, foldl_snd_ref, foldl_snd_kennel, foldl_snd_time, foldl_snd_buf, foldl_snd_port, foldl_snd_slices, foldl_snd_gen, foldl_snd_core, foldl_snd_sch, foldl_snd_tel, foldl_snd_pwr, foldl_snd_regs, foldl_snd_cnts]; done)

@[simp] theorem State.bankError_keeps (l : Nat) (inj : Bool) (s : State) :
    (State.bankError l inj s).pending = s.pending ∧ (State.bankError l inj s).now = s.now ∧
    (State.bankError l inj s).serial = s.serial ∧ (State.bankError l inj s).pins = s.pins ∧
    (State.bankError l inj s).md = s.md ∧ (State.bankError l inj s).cmds = s.cmds ∧
    (State.bankError l inj s).clk = s.clk ∧ (State.bankError l inj s).ref = s.ref ∧
    (State.bankError l inj s).kennel = s.kennel ∧ (State.bankError l inj s).time = s.time ∧
    (State.bankError l inj s).buf = s.buf ∧ (State.bankError l inj s).port = s.port ∧
    (State.bankError l inj s).slices = s.slices ∧ (State.bankError l inj s).gen = s.gen ∧
    (State.bankError l inj s).core = s.core ∧ (State.bankError l inj s).sch = s.sch ∧
    (State.bankError l inj s).tel = s.tel ∧ (State.bankError l inj s).pwr = s.pwr ∧
    (State.bankError l inj s).regs = s.regs ∧ (State.bankError l inj s).cnts = s.cnts ∧
    (State.bankError l inj s).flt.keel0 = s.flt.keel0 ∧ (State.bankError l inj s).flt.keel1 = s.flt.keel1 := by
  unfold State.bankError
  (try dsimp only)
  (repeat' split) <;> first | (simp; done) | (rename_i q; simp [snd_of q]; done) | (rename_i q _; simp [snd_of q]; done)

@[simp] theorem State.epError_keeps (l : Nat) (e : EccErr) (inj : Bool) (s : State) :
    (State.epError l e inj s).pending = s.pending ∧ (State.epError l e inj s).now = s.now ∧
    (State.epError l e inj s).serial = s.serial ∧ (State.epError l e inj s).pins = s.pins ∧
    (State.epError l e inj s).md = s.md ∧ (State.epError l e inj s).cmds = s.cmds ∧
    (State.epError l e inj s).clk = s.clk ∧ (State.epError l e inj s).ref = s.ref ∧
    (State.epError l e inj s).kennel = s.kennel ∧ (State.epError l e inj s).time = s.time ∧
    (State.epError l e inj s).buf = s.buf ∧ (State.epError l e inj s).port = s.port ∧
    (State.epError l e inj s).slices = s.slices ∧ (State.epError l e inj s).gen = s.gen ∧
    (State.epError l e inj s).core = s.core ∧ (State.epError l e inj s).sch = s.sch ∧
    (State.epError l e inj s).tel = s.tel ∧ (State.epError l e inj s).pwr = s.pwr ∧
    (State.epError l e inj s).regs = s.regs ∧ (State.epError l e inj s).flt.keel0 = s.flt.keel0 ∧
    (State.epError l e inj s).flt.keel1 = s.flt.keel1 := by
  unfold State.epError
  (try dsimp only)
  (repeat' split) <;> first | (simp; done) | (rename_i q; simp [snd_of q]; done) | (rename_i q _; simp [snd_of q]; done)

@[simp] theorem State.epErr_keeps (l : Nat) (e : Option EccErr) (inj : Bool) (s : State) :
    (State.epErr l e inj s).pending = s.pending ∧ (State.epErr l e inj s).now = s.now ∧
    (State.epErr l e inj s).serial = s.serial ∧ (State.epErr l e inj s).pins = s.pins ∧
    (State.epErr l e inj s).md = s.md ∧ (State.epErr l e inj s).cmds = s.cmds ∧
    (State.epErr l e inj s).clk = s.clk ∧ (State.epErr l e inj s).ref = s.ref ∧
    (State.epErr l e inj s).kennel = s.kennel ∧ (State.epErr l e inj s).time = s.time ∧
    (State.epErr l e inj s).buf = s.buf ∧ (State.epErr l e inj s).port = s.port ∧
    (State.epErr l e inj s).slices = s.slices ∧ (State.epErr l e inj s).gen = s.gen ∧
    (State.epErr l e inj s).core = s.core ∧ (State.epErr l e inj s).sch = s.sch ∧
    (State.epErr l e inj s).tel = s.tel ∧ (State.epErr l e inj s).pwr = s.pwr ∧
    (State.epErr l e inj s).regs = s.regs ∧ (State.epErr l e inj s).flt.keel0 = s.flt.keel0 ∧
    (State.epErr l e inj s).flt.keel1 = s.flt.keel1 := by
  (unfold State.epErr; split <;> simp only [State.epError_keeps, ite_self, and_self, implies_true, Ran.st_done, Ran.st_wait, Ran.st_refuse, Ran.st_ite, snd_ite, ite_pending, ite_now, ite_serial, ite_pins, ite_md, ite_cmds, ite_clk, ite_ref, ite_kennel, ite_time, ite_buf, ite_port, ite_slices, ite_gen, ite_core, ite_sch, ite_tel, ite_pwr, ite_regs, ite_flt_keel0, ite_flt_keel1, foldl_pending, foldl_now, foldl_serial, foldl_pins, foldl_md, foldl_cmds, foldl_clk, foldl_ref, foldl_kennel, foldl_time, foldl_buf, foldl_port, foldl_slices, foldl_gen, foldl_core, foldl_sch, foldl_tel, foldl_pwr, foldl_regs, foldl_flt_keel0, foldl_flt_keel1, foldl_snd_pending, foldl_snd_now, foldl_snd_serial, foldl_snd_pins, foldl_snd_md, foldl_snd_cmds, foldl_snd_clk, foldl_snd_ref, foldl_snd_kennel, foldl_snd_time, foldl_snd_buf, foldl_snd_port, foldl_snd_slices, foldl_snd_gen, foldl_snd_core, foldl_snd_sch, foldl_snd_tel, foldl_snd_pwr, foldl_snd_regs, foldl_snd_flt_keel0, foldl_snd_flt_keel1])

@[simp] theorem State.epCheck_keeps (ls : List Nat) (errs : List (Nat × EccErr)) (s : State) :
    (State.epCheck ls errs s).pending = s.pending ∧ (State.epCheck ls errs s).now = s.now ∧
    (State.epCheck ls errs s).serial = s.serial ∧ (State.epCheck ls errs s).pins = s.pins ∧
    (State.epCheck ls errs s).md = s.md ∧ (State.epCheck ls errs s).cmds = s.cmds ∧
    (State.epCheck ls errs s).clk = s.clk ∧ (State.epCheck ls errs s).ref = s.ref ∧
    (State.epCheck ls errs s).kennel = s.kennel ∧ (State.epCheck ls errs s).time = s.time ∧
    (State.epCheck ls errs s).buf = s.buf ∧ (State.epCheck ls errs s).port = s.port ∧
    (State.epCheck ls errs s).slices = s.slices ∧ (State.epCheck ls errs s).gen = s.gen ∧
    (State.epCheck ls errs s).core = s.core ∧ (State.epCheck ls errs s).sch = s.sch ∧
    (State.epCheck ls errs s).tel = s.tel ∧ (State.epCheck ls errs s).pwr = s.pwr ∧
    (State.epCheck ls errs s).regs = s.regs ∧ (State.epCheck ls errs s).flt.keel0 = s.flt.keel0 ∧
    (State.epCheck ls errs s).flt.keel1 = s.flt.keel1 := by
  (unfold State.epCheck; simp only [State.injected_keeps, State.epErr_keeps, ite_self, and_self, implies_true, Ran.st_done, Ran.st_wait, Ran.st_refuse, Ran.st_ite, snd_ite, foldl_pending, foldl_now, foldl_serial, foldl_pins, foldl_md, foldl_cmds, foldl_clk, foldl_ref, foldl_kennel, foldl_time, foldl_buf, foldl_port, foldl_slices, foldl_gen, foldl_core, foldl_sch, foldl_tel, foldl_pwr, foldl_regs, foldl_flt_keel0, foldl_flt_keel1, foldl_snd_pending, foldl_snd_now, foldl_snd_serial, foldl_snd_pins, foldl_snd_md, foldl_snd_cmds, foldl_snd_clk, foldl_snd_ref, foldl_snd_kennel, foldl_snd_time, foldl_snd_buf, foldl_snd_port, foldl_snd_slices, foldl_snd_gen, foldl_snd_core, foldl_snd_sch, foldl_snd_tel, foldl_snd_pwr, foldl_snd_regs, foldl_snd_flt_keel0, foldl_snd_flt_keel1]; done)

@[simp] theorem State.epHit_keeps (hit : Option Nat) (s1 : State) :
    (State.epHit hit s1).2.pending = s1.pending ∧ (State.epHit hit s1).2.now = s1.now ∧
    (State.epHit hit s1).2.serial = s1.serial ∧ (State.epHit hit s1).2.out = s1.out ∧
    (State.epHit hit s1).2.pins = s1.pins ∧ (State.epHit hit s1).2.md = s1.md ∧
    (State.epHit hit s1).2.host = s1.host ∧ (State.epHit hit s1).2.cmds = s1.cmds ∧
    (State.epHit hit s1).2.flt = s1.flt ∧ (State.epHit hit s1).2.clk = s1.clk ∧
    (State.epHit hit s1).2.ref = s1.ref ∧ (State.epHit hit s1).2.kennel = s1.kennel ∧
    (State.epHit hit s1).2.time = s1.time ∧ (State.epHit hit s1).2.buf = s1.buf ∧
    (State.epHit hit s1).2.port = s1.port ∧ (State.epHit hit s1).2.slices = s1.slices ∧
    (State.epHit hit s1).2.tab = s1.tab ∧ (State.epHit hit s1).2.gen = s1.gen ∧
    (State.epHit hit s1).2.core = s1.core ∧ (State.epHit hit s1).2.sch = s1.sch ∧
    (State.epHit hit s1).2.tel = s1.tel ∧ (State.epHit hit s1).2.pwr = s1.pwr ∧
    (State.epHit hit s1).2.regs = s1.regs := by
  (unfold State.epHit; split <;> simp only [State.epCount_keeps, ite_self, and_self, implies_true, Ran.st_done, Ran.st_wait, Ran.st_refuse, Ran.st_ite, snd_ite, ite_pending, ite_now, ite_serial, ite_out, ite_pins, ite_md, ite_host, ite_cmds, ite_flt, ite_clk, ite_ref, ite_kennel, ite_time, ite_buf, ite_port, ite_slices, ite_tab, ite_gen, ite_core, ite_sch, ite_tel, ite_pwr, ite_regs, foldl_pending, foldl_now, foldl_serial, foldl_out, foldl_pins, foldl_md, foldl_host, foldl_cmds, foldl_flt, foldl_clk, foldl_ref, foldl_kennel, foldl_time, foldl_buf, foldl_port, foldl_slices, foldl_tab, foldl_gen, foldl_core, foldl_sch, foldl_tel, foldl_pwr, foldl_regs, foldl_snd_pending, foldl_snd_now, foldl_snd_serial, foldl_snd_out, foldl_snd_pins, foldl_snd_md, foldl_snd_host, foldl_snd_cmds, foldl_snd_flt, foldl_snd_clk, foldl_snd_ref, foldl_snd_kennel, foldl_snd_time, foldl_snd_buf, foldl_snd_port, foldl_snd_slices, foldl_snd_tab, foldl_snd_gen, foldl_snd_core, foldl_snd_sch, foldl_snd_tel, foldl_snd_pwr, foldl_snd_regs])

@[simp] theorem State.epLookup_keeps (e : EpEnt) (errs : List (Nat × EccErr)) (s : State) :
    (State.epLookup e errs s).2.pending = s.pending ∧ (State.epLookup e errs s).2.now = s.now ∧
    (State.epLookup e errs s).2.serial = s.serial ∧ (State.epLookup e errs s).2.pins = s.pins ∧
    (State.epLookup e errs s).2.md = s.md ∧ (State.epLookup e errs s).2.cmds = s.cmds ∧
    (State.epLookup e errs s).2.clk = s.clk ∧ (State.epLookup e errs s).2.ref = s.ref ∧
    (State.epLookup e errs s).2.kennel = s.kennel ∧ (State.epLookup e errs s).2.time = s.time ∧
    (State.epLookup e errs s).2.buf = s.buf ∧ (State.epLookup e errs s).2.port = s.port ∧
    (State.epLookup e errs s).2.slices = s.slices ∧ (State.epLookup e errs s).2.gen = s.gen ∧
    (State.epLookup e errs s).2.core = s.core ∧ (State.epLookup e errs s).2.sch = s.sch ∧
    (State.epLookup e errs s).2.tel = s.tel ∧ (State.epLookup e errs s).2.pwr = s.pwr ∧
    (State.epLookup e errs s).2.regs = s.regs ∧ (State.epLookup e errs s).2.flt.keel0 = s.flt.keel0 ∧
    (State.epLookup e errs s).2.flt.keel1 = s.flt.keel1 := by
  simp only [State.epLookup, State.epHit_keeps, State.epCount_keeps, State.epCheck_keeps, and_self]

@[simp] theorem State.epMove_keeps (from' to' : Nat) (s : State) :
    (State.epMove from' to' s).pending = s.pending ∧ (State.epMove from' to' s).now = s.now ∧
    (State.epMove from' to' s).serial = s.serial ∧ (State.epMove from' to' s).out = s.out ∧
    (State.epMove from' to' s).pins = s.pins ∧ (State.epMove from' to' s).md = s.md ∧
    (State.epMove from' to' s).host = s.host ∧ (State.epMove from' to' s).cmds = s.cmds ∧
    (State.epMove from' to' s).flt = s.flt ∧ (State.epMove from' to' s).clk = s.clk ∧
    (State.epMove from' to' s).ref = s.ref ∧ (State.epMove from' to' s).kennel = s.kennel ∧
    (State.epMove from' to' s).time = s.time ∧ (State.epMove from' to' s).buf = s.buf ∧
    (State.epMove from' to' s).port = s.port ∧ (State.epMove from' to' s).slices = s.slices ∧
    (State.epMove from' to' s).gen = s.gen ∧ (State.epMove from' to' s).core = s.core ∧
    (State.epMove from' to' s).sch = s.sch ∧ (State.epMove from' to' s).tel = s.tel ∧
    (State.epMove from' to' s).pwr = s.pwr ∧ (State.epMove from' to' s).regs = s.regs ∧
    (State.epMove from' to' s).cnts = s.cnts := by
  (unfold State.epMove; split <;> simp only [State.epClear_keeps, State.epPut_keeps, ite_self, and_self, implies_true, Ran.st_done, Ran.st_wait, Ran.st_refuse, Ran.st_ite, snd_ite, ite_pending, ite_now, ite_serial, ite_out, ite_pins, ite_md, ite_host, ite_cmds, ite_flt, ite_clk, ite_ref, ite_kennel, ite_time, ite_buf, ite_port, ite_slices, ite_gen, ite_core, ite_sch, ite_tel, ite_pwr, ite_regs, ite_cnts, foldl_pending, foldl_now, foldl_serial, foldl_out, foldl_pins, foldl_md, foldl_host, foldl_cmds, foldl_flt, foldl_clk, foldl_ref, foldl_kennel, foldl_time, foldl_buf, foldl_port, foldl_slices, foldl_gen, foldl_core, foldl_sch, foldl_tel, foldl_pwr, foldl_regs, foldl_cnts, foldl_snd_pending, foldl_snd_now, foldl_snd_serial, foldl_snd_out, foldl_snd_pins, foldl_snd_md, foldl_snd_host, foldl_snd_cmds, foldl_snd_flt, foldl_snd_clk, foldl_snd_ref, foldl_snd_kennel, foldl_snd_time, foldl_snd_buf, foldl_snd_port, foldl_snd_slices, foldl_snd_gen, foldl_snd_core, foldl_snd_sch, foldl_snd_tel, foldl_snd_pwr, foldl_snd_regs, foldl_snd_cnts])

@[simp] theorem State.epServed_keeps (s : State) :
    (State.epServed s).pending = s.pending ∧ (State.epServed s).now = s.now ∧
    (State.epServed s).serial = s.serial ∧ (State.epServed s).out = s.out ∧ (State.epServed s).pins = s.pins ∧
    (State.epServed s).md = s.md ∧ (State.epServed s).host = s.host ∧ (State.epServed s).cmds = s.cmds ∧
    (State.epServed s).flt = s.flt ∧ (State.epServed s).clk = s.clk ∧ (State.epServed s).ref = s.ref ∧
    (State.epServed s).kennel = s.kennel ∧ (State.epServed s).time = s.time ∧ (State.epServed s).buf = s.buf ∧
    (State.epServed s).port = s.port ∧ (State.epServed s).slices = s.slices ∧ (State.epServed s).gen = s.gen ∧
    (State.epServed s).core = s.core ∧ (State.epServed s).sch = s.sch ∧ (State.epServed s).tel = s.tel ∧
    (State.epServed s).pwr = s.pwr ∧ (State.epServed s).regs = s.regs ∧ (State.epServed s).cnts = s.cnts := by
  (unfold State.epServed; split <;> simp only [ite_self, and_self, implies_true, Ran.st_done, Ran.st_wait, Ran.st_refuse, Ran.st_ite, snd_ite, ite_pending, ite_now, ite_serial, ite_out, ite_pins, ite_md, ite_host, ite_cmds, ite_flt, ite_clk, ite_ref, ite_kennel, ite_time, ite_buf, ite_port, ite_slices, ite_gen, ite_core, ite_sch, ite_tel, ite_pwr, ite_regs, ite_cnts, foldl_pending, foldl_now, foldl_serial, foldl_out, foldl_pins, foldl_md, foldl_host, foldl_cmds, foldl_flt, foldl_clk, foldl_ref, foldl_kennel, foldl_time, foldl_buf, foldl_port, foldl_slices, foldl_gen, foldl_core, foldl_sch, foldl_tel, foldl_pwr, foldl_regs, foldl_cnts, foldl_snd_pending, foldl_snd_now, foldl_snd_serial, foldl_snd_out, foldl_snd_pins, foldl_snd_md, foldl_snd_host, foldl_snd_cmds, foldl_snd_flt, foldl_snd_clk, foldl_snd_ref, foldl_snd_kennel, foldl_snd_time, foldl_snd_buf, foldl_snd_port, foldl_snd_slices, foldl_snd_gen, foldl_snd_core, foldl_snd_sch, foldl_snd_tel, foldl_snd_pwr, foldl_snd_regs, foldl_snd_cnts])

@[simp] theorem State.epLeave_keeps (old : Option Nat) (s : State) :
    (State.epLeave old s).pending = s.pending ∧ (State.epLeave old s).now = s.now ∧
    (State.epLeave old s).serial = s.serial ∧ (State.epLeave old s).out = s.out ∧
    (State.epLeave old s).pins = s.pins ∧ (State.epLeave old s).md = s.md ∧ (State.epLeave old s).host = s.host ∧
    (State.epLeave old s).cmds = s.cmds ∧ (State.epLeave old s).flt = s.flt ∧ (State.epLeave old s).clk = s.clk ∧
    (State.epLeave old s).ref = s.ref ∧ (State.epLeave old s).kennel = s.kennel ∧
    (State.epLeave old s).time = s.time ∧ (State.epLeave old s).buf = s.buf ∧ (State.epLeave old s).port = s.port ∧
    (State.epLeave old s).slices = s.slices ∧ (State.epLeave old s).gen = s.gen ∧
    (State.epLeave old s).core = s.core ∧ (State.epLeave old s).sch = s.sch ∧ (State.epLeave old s).tel = s.tel ∧
    (State.epLeave old s).pwr = s.pwr ∧ (State.epLeave old s).regs = s.regs ∧ (State.epLeave old s).cnts = s.cnts := by
  (unfold State.epLeave; split <;> simp only [State.epClear_keeps, ite_self, and_self, implies_true, Ran.st_done, Ran.st_wait, Ran.st_refuse, Ran.st_ite, snd_ite, ite_pending, ite_now, ite_serial, ite_out, ite_pins, ite_md, ite_host, ite_cmds, ite_flt, ite_clk, ite_ref, ite_kennel, ite_time, ite_buf, ite_port, ite_slices, ite_gen, ite_core, ite_sch, ite_tel, ite_pwr, ite_regs, ite_cnts, foldl_pending, foldl_now, foldl_serial, foldl_out, foldl_pins, foldl_md, foldl_host, foldl_cmds, foldl_flt, foldl_clk, foldl_ref, foldl_kennel, foldl_time, foldl_buf, foldl_port, foldl_slices, foldl_gen, foldl_core, foldl_sch, foldl_tel, foldl_pwr, foldl_regs, foldl_cnts, foldl_snd_pending, foldl_snd_now, foldl_snd_serial, foldl_snd_out, foldl_snd_pins, foldl_snd_md, foldl_snd_host, foldl_snd_cmds, foldl_snd_flt, foldl_snd_clk, foldl_snd_ref, foldl_snd_kennel, foldl_snd_time, foldl_snd_buf, foldl_snd_port, foldl_snd_slices, foldl_snd_gen, foldl_snd_core, foldl_snd_sch, foldl_snd_tel, foldl_snd_pwr, foldl_snd_regs, foldl_snd_cnts])

@[simp] theorem State.insertPlace_keeps (c : Cmd) (e : EpEnt) (old : Option Nat) (pl : Place) (s : State) :
    (State.insertPlace c e old pl s).st.pending = s.pending ∧ (State.insertPlace c e old pl s).st.now = s.now ∧
    (State.insertPlace c e old pl s).st.serial = s.serial ∧ (State.insertPlace c e old pl s).st.pins = s.pins ∧
    (State.insertPlace c e old pl s).st.md = s.md ∧ (State.insertPlace c e old pl s).st.cmds = s.cmds ∧
    (State.insertPlace c e old pl s).st.flt = s.flt ∧ (State.insertPlace c e old pl s).st.clk = s.clk ∧
    (State.insertPlace c e old pl s).st.ref = s.ref ∧ (State.insertPlace c e old pl s).st.kennel = s.kennel ∧
    (State.insertPlace c e old pl s).st.time = s.time ∧ (State.insertPlace c e old pl s).st.buf = s.buf ∧
    (State.insertPlace c e old pl s).st.port = s.port ∧ (State.insertPlace c e old pl s).st.slices = s.slices ∧
    (State.insertPlace c e old pl s).st.gen = s.gen ∧ (State.insertPlace c e old pl s).st.core = s.core ∧
    (State.insertPlace c e old pl s).st.sch = s.sch ∧ (State.insertPlace c e old pl s).st.tel = s.tel ∧
    (State.insertPlace c e old pl s).st.pwr = s.pwr ∧ (State.insertPlace c e old pl s).st.regs = s.regs ∧
    (State.insertPlace c e old pl s).st.cnts = s.cnts := by
  (unfold State.insertPlace; split <;> simp only [State.rehashEvt_keeps, State.epLeave_keeps, State.epStore_keeps, ite_self, and_self, implies_true, Ran.st_done, Ran.st_wait, Ran.st_refuse, Ran.st_ite, snd_ite, ite_pending, ite_now, ite_serial, ite_pins, ite_md, ite_cmds, ite_flt, ite_clk, ite_ref, ite_kennel, ite_time, ite_buf, ite_port, ite_slices, ite_gen, ite_core, ite_sch, ite_tel, ite_pwr, ite_regs, ite_cnts, foldl_pending, foldl_now, foldl_serial, foldl_pins, foldl_md, foldl_cmds, foldl_flt, foldl_clk, foldl_ref, foldl_kennel, foldl_time, foldl_buf, foldl_port, foldl_slices, foldl_gen, foldl_core, foldl_sch, foldl_tel, foldl_pwr, foldl_regs, foldl_cnts, foldl_snd_pending, foldl_snd_now, foldl_snd_serial, foldl_snd_pins, foldl_snd_md, foldl_snd_cmds, foldl_snd_flt, foldl_snd_clk, foldl_snd_ref, foldl_snd_kennel, foldl_snd_time, foldl_snd_buf, foldl_snd_port, foldl_snd_slices, foldl_snd_gen, foldl_snd_core, foldl_snd_sch, foldl_snd_tel, foldl_snd_pwr, foldl_snd_regs, foldl_snd_cnts])

@[simp] theorem State.insertNew_keeps (c : Cmd) (e : EpEnt) (old : Option Nat) (s : State) :
    (State.insertNew c e old s).st.pending = s.pending ∧ (State.insertNew c e old s).st.now = s.now ∧
    (State.insertNew c e old s).st.serial = s.serial ∧ (State.insertNew c e old s).st.pins = s.pins ∧
    (State.insertNew c e old s).st.md = s.md ∧ (State.insertNew c e old s).st.cmds = s.cmds ∧
    (State.insertNew c e old s).st.flt = s.flt ∧ (State.insertNew c e old s).st.clk = s.clk ∧
    (State.insertNew c e old s).st.ref = s.ref ∧ (State.insertNew c e old s).st.kennel = s.kennel ∧
    (State.insertNew c e old s).st.time = s.time ∧ (State.insertNew c e old s).st.buf = s.buf ∧
    (State.insertNew c e old s).st.port = s.port ∧ (State.insertNew c e old s).st.slices = s.slices ∧
    (State.insertNew c e old s).st.gen = s.gen ∧ (State.insertNew c e old s).st.core = s.core ∧
    (State.insertNew c e old s).st.sch = s.sch ∧ (State.insertNew c e old s).st.tel = s.tel ∧
    (State.insertNew c e old s).st.pwr = s.pwr ∧ (State.insertNew c e old s).st.regs = s.regs ∧
    (State.insertNew c e old s).st.cnts = s.cnts := by
  (unfold State.insertNew; simp only [State.insertPlace_keeps, ite_self, and_self, implies_true, Ran.st_done, Ran.st_wait, Ran.st_refuse, Ran.st_ite, snd_ite, foldl_pending, foldl_now, foldl_serial, foldl_pins, foldl_md, foldl_cmds, foldl_flt, foldl_clk, foldl_ref, foldl_kennel, foldl_time, foldl_buf, foldl_port, foldl_slices, foldl_gen, foldl_core, foldl_sch, foldl_tel, foldl_pwr, foldl_regs, foldl_cnts, foldl_snd_pending, foldl_snd_now, foldl_snd_serial, foldl_snd_pins, foldl_snd_md, foldl_snd_cmds, foldl_snd_flt, foldl_snd_clk, foldl_snd_ref, foldl_snd_kennel, foldl_snd_time, foldl_snd_buf, foldl_snd_port, foldl_snd_slices, foldl_snd_gen, foldl_snd_core, foldl_snd_sch, foldl_snd_tel, foldl_snd_pwr, foldl_snd_regs, foldl_snd_cnts]; done)

@[simp] theorem State.insertHit_keeps (c : Cmd) (e : EpEnt) (hit : Option Nat) (s : State) :
    (State.insertHit c e hit s).st.pending = s.pending ∧ (State.insertHit c e hit s).st.now = s.now ∧
    (State.insertHit c e hit s).st.serial = s.serial ∧ (State.insertHit c e hit s).st.pins = s.pins ∧
    (State.insertHit c e hit s).st.md = s.md ∧ (State.insertHit c e hit s).st.cmds = s.cmds ∧
    (State.insertHit c e hit s).st.flt = s.flt ∧ (State.insertHit c e hit s).st.clk = s.clk ∧
    (State.insertHit c e hit s).st.ref = s.ref ∧ (State.insertHit c e hit s).st.kennel = s.kennel ∧
    (State.insertHit c e hit s).st.time = s.time ∧ (State.insertHit c e hit s).st.buf = s.buf ∧
    (State.insertHit c e hit s).st.port = s.port ∧ (State.insertHit c e hit s).st.slices = s.slices ∧
    (State.insertHit c e hit s).st.gen = s.gen ∧ (State.insertHit c e hit s).st.core = s.core ∧
    (State.insertHit c e hit s).st.sch = s.sch ∧ (State.insertHit c e hit s).st.tel = s.tel ∧
    (State.insertHit c e hit s).st.pwr = s.pwr ∧ (State.insertHit c e hit s).st.regs = s.regs ∧
    (State.insertHit c e hit s).st.cnts = s.cnts := by
  (unfold State.insertHit; split <;> simp only [State.insertNew_keeps, State.epPut_keeps, ite_self, and_self, implies_true, Ran.st_done, Ran.st_wait, Ran.st_refuse, Ran.st_ite, snd_ite, ite_pending, ite_now, ite_serial, ite_pins, ite_md, ite_cmds, ite_flt, ite_clk, ite_ref, ite_kennel, ite_time, ite_buf, ite_port, ite_slices, ite_gen, ite_core, ite_sch, ite_tel, ite_pwr, ite_regs, ite_cnts, foldl_pending, foldl_now, foldl_serial, foldl_pins, foldl_md, foldl_cmds, foldl_flt, foldl_clk, foldl_ref, foldl_kennel, foldl_time, foldl_buf, foldl_port, foldl_slices, foldl_gen, foldl_core, foldl_sch, foldl_tel, foldl_pwr, foldl_regs, foldl_cnts, foldl_snd_pending, foldl_snd_now, foldl_snd_serial, foldl_snd_pins, foldl_snd_md, foldl_snd_cmds, foldl_snd_flt, foldl_snd_clk, foldl_snd_ref, foldl_snd_kennel, foldl_snd_time, foldl_snd_buf, foldl_snd_port, foldl_snd_slices, foldl_snd_gen, foldl_snd_core, foldl_snd_sch, foldl_snd_tel, foldl_snd_pwr, foldl_snd_regs, foldl_snd_cnts])

@[simp] theorem State.deleteHit_keeps (seg : Nat) (hit : Option Nat) (s : State) :
    (State.deleteHit seg hit s).st.pending = s.pending ∧ (State.deleteHit seg hit s).st.now = s.now ∧
    (State.deleteHit seg hit s).st.serial = s.serial ∧ (State.deleteHit seg hit s).st.out = s.out ∧
    (State.deleteHit seg hit s).st.pins = s.pins ∧ (State.deleteHit seg hit s).st.md = s.md ∧
    (State.deleteHit seg hit s).st.host = s.host ∧ (State.deleteHit seg hit s).st.cmds = s.cmds ∧
    (State.deleteHit seg hit s).st.flt = s.flt ∧ (State.deleteHit seg hit s).st.clk = s.clk ∧
    (State.deleteHit seg hit s).st.ref = s.ref ∧ (State.deleteHit seg hit s).st.kennel = s.kennel ∧
    (State.deleteHit seg hit s).st.time = s.time ∧ (State.deleteHit seg hit s).st.buf = s.buf ∧
    (State.deleteHit seg hit s).st.port = s.port ∧ (State.deleteHit seg hit s).st.slices = s.slices ∧
    (State.deleteHit seg hit s).st.gen = s.gen ∧ (State.deleteHit seg hit s).st.core = s.core ∧
    (State.deleteHit seg hit s).st.sch = s.sch ∧ (State.deleteHit seg hit s).st.tel = s.tel ∧
    (State.deleteHit seg hit s).st.pwr = s.pwr ∧ (State.deleteHit seg hit s).st.regs = s.regs ∧
    (State.deleteHit seg hit s).st.cnts = s.cnts := by
  (unfold State.deleteHit; split <;> simp only [State.epClear_keeps, Ran.refuse_keeps, ite_self, and_self, implies_true, Ran.st_done, Ran.st_wait, Ran.st_refuse, Ran.st_ite, snd_ite, ite_pending, ite_now, ite_serial, ite_out, ite_pins, ite_md, ite_host, ite_cmds, ite_flt, ite_clk, ite_ref, ite_kennel, ite_time, ite_buf, ite_port, ite_slices, ite_gen, ite_core, ite_sch, ite_tel, ite_pwr, ite_regs, ite_cnts, foldl_pending, foldl_now, foldl_serial, foldl_out, foldl_pins, foldl_md, foldl_host, foldl_cmds, foldl_flt, foldl_clk, foldl_ref, foldl_kennel, foldl_time, foldl_buf, foldl_port, foldl_slices, foldl_gen, foldl_core, foldl_sch, foldl_tel, foldl_pwr, foldl_regs, foldl_cnts, foldl_snd_pending, foldl_snd_now, foldl_snd_serial, foldl_snd_out, foldl_snd_pins, foldl_snd_md, foldl_snd_host, foldl_snd_cmds, foldl_snd_flt, foldl_snd_clk, foldl_snd_ref, foldl_snd_kennel, foldl_snd_time, foldl_snd_buf, foldl_snd_port, foldl_snd_slices, foldl_snd_gen, foldl_snd_core, foldl_snd_sch, foldl_snd_tel, foldl_snd_pwr, foldl_snd_regs, foldl_snd_cnts])

@[simp] theorem State.readHit_keeps (c : Cmd) (addr : Nat) (hit : Option Nat) (s : State) :
    (State.readHit c addr hit s).st.pending = s.pending ∧ (State.readHit c addr hit s).st.now = s.now ∧
    (State.readHit c addr hit s).st.serial = s.serial ∧ (State.readHit c addr hit s).st.pins = s.pins ∧
    (State.readHit c addr hit s).st.md = s.md ∧ (State.readHit c addr hit s).st.cmds = s.cmds ∧
    (State.readHit c addr hit s).st.flt = s.flt ∧ (State.readHit c addr hit s).st.clk = s.clk ∧
    (State.readHit c addr hit s).st.ref = s.ref ∧ (State.readHit c addr hit s).st.kennel = s.kennel ∧
    (State.readHit c addr hit s).st.time = s.time ∧ (State.readHit c addr hit s).st.buf = s.buf ∧
    (State.readHit c addr hit s).st.port = s.port ∧ (State.readHit c addr hit s).st.slices = s.slices ∧
    (State.readHit c addr hit s).st.tab = s.tab ∧ (State.readHit c addr hit s).st.gen = s.gen ∧
    (State.readHit c addr hit s).st.core = s.core ∧ (State.readHit c addr hit s).st.sch = s.sch ∧
    (State.readHit c addr hit s).st.tel = s.tel ∧ (State.readHit c addr hit s).st.pwr = s.pwr ∧
    (State.readHit c addr hit s).st.regs = s.regs ∧ (State.readHit c addr hit s).st.cnts = s.cnts := by
  (unfold State.readHit; split <;> simp only [Ran.refuse_keeps, State.hostData_keeps, ite_self, and_self, implies_true, Ran.st_done, Ran.st_wait, Ran.st_refuse, Ran.st_ite, snd_ite, ite_pending, ite_now, ite_serial, ite_pins, ite_md, ite_cmds, ite_flt, ite_clk, ite_ref, ite_kennel, ite_time, ite_buf, ite_port, ite_slices, ite_tab, ite_gen, ite_core, ite_sch, ite_tel, ite_pwr, ite_regs, ite_cnts, foldl_pending, foldl_now, foldl_serial, foldl_pins, foldl_md, foldl_cmds, foldl_flt, foldl_clk, foldl_ref, foldl_kennel, foldl_time, foldl_buf, foldl_port, foldl_slices, foldl_tab, foldl_gen, foldl_core, foldl_sch, foldl_tel, foldl_pwr, foldl_regs, foldl_cnts, foldl_snd_pending, foldl_snd_now, foldl_snd_serial, foldl_snd_pins, foldl_snd_md, foldl_snd_cmds, foldl_snd_flt, foldl_snd_clk, foldl_snd_ref, foldl_snd_kennel, foldl_snd_time, foldl_snd_buf, foldl_snd_port, foldl_snd_slices, foldl_snd_tab, foldl_snd_gen, foldl_snd_core, foldl_snd_sch, foldl_snd_tel, foldl_snd_pwr, foldl_snd_regs, foldl_snd_cnts])

@[simp] theorem State.restash_keeps (seg : Nat) (sp : Space) (s : State) :
    (State.restash seg sp s).pending = s.pending ∧ (State.restash seg sp s).now = s.now ∧
    (State.restash seg sp s).serial = s.serial ∧ (State.restash seg sp s).pins = s.pins ∧
    (State.restash seg sp s).md = s.md ∧ (State.restash seg sp s).cmds = s.cmds ∧
    (State.restash seg sp s).flt = s.flt ∧ (State.restash seg sp s).clk = s.clk ∧
    (State.restash seg sp s).ref = s.ref ∧ (State.restash seg sp s).kennel = s.kennel ∧
    (State.restash seg sp s).time = s.time ∧ (State.restash seg sp s).buf = s.buf ∧
    (State.restash seg sp s).port = s.port ∧ (State.restash seg sp s).slices = s.slices ∧
    (State.restash seg sp s).gen = s.gen ∧ (State.restash seg sp s).core = s.core ∧
    (State.restash seg sp s).sch = s.sch ∧ (State.restash seg sp s).tel = s.tel ∧
    (State.restash seg sp s).pwr = s.pwr ∧ (State.restash seg sp s).regs = s.regs ∧
    (State.restash seg sp s).cnts = s.cnts := by
  (unfold State.restash; split <;> simp only [State.epClear_keeps, State.epStore_keeps, ite_self, and_self, implies_true, Ran.st_done, Ran.st_wait, Ran.st_refuse, Ran.st_ite, snd_ite, ite_pending, ite_now, ite_serial, ite_pins, ite_md, ite_cmds, ite_flt, ite_clk, ite_ref, ite_kennel, ite_time, ite_buf, ite_port, ite_slices, ite_gen, ite_core, ite_sch, ite_tel, ite_pwr, ite_regs, ite_cnts, foldl_pending, foldl_now, foldl_serial, foldl_pins, foldl_md, foldl_cmds, foldl_flt, foldl_clk, foldl_ref, foldl_kennel, foldl_time, foldl_buf, foldl_port, foldl_slices, foldl_gen, foldl_core, foldl_sch, foldl_tel, foldl_pwr, foldl_regs, foldl_cnts, foldl_snd_pending, foldl_snd_now, foldl_snd_serial, foldl_snd_pins, foldl_snd_md, foldl_snd_cmds, foldl_snd_flt, foldl_snd_clk, foldl_snd_ref, foldl_snd_kennel, foldl_snd_time, foldl_snd_buf, foldl_snd_port, foldl_snd_slices, foldl_snd_gen, foldl_snd_core, foldl_snd_sch, foldl_snd_tel, foldl_snd_pwr, foldl_snd_regs, foldl_snd_cnts])

theorem State.carryTo_keeps (l : Nat) (e : EpEnt) (pl : Place) (s : State) : ∀ x t, State.carryTo l e pl s = some (x, t) →
    t.pending = s.pending ∧ t.now = s.now ∧ t.serial = s.serial ∧ t.pins = s.pins ∧ t.md = s.md ∧ t.cmds = s.cmds ∧
    t.flt = s.flt ∧ t.clk = s.clk ∧ t.ref = s.ref ∧ t.kennel = s.kennel ∧ t.time = s.time ∧ t.buf = s.buf ∧
    t.port = s.port ∧ t.slices = s.slices ∧ t.gen = s.gen ∧ t.core = s.core ∧ t.sch = s.sch ∧ t.tel = s.tel ∧
    t.pwr = s.pwr ∧ t.regs = s.regs ∧ t.cnts = s.cnts := by
  intro x t h
  unfold State.carryTo at h
  split at h <;> simp only [reduceCtorEq, Option.some.injEq, Prod.mk.injEq] at h
  all_goals (obtain ⟨-, rfl⟩ := h; simp)

@[simp] theorem State.carryOne_keeps (sp : Space) (acc : Bool × Nat × State) (l : Nat) :
    (State.carryOne sp acc l).2.2.pending = acc.2.2.pending ∧ (State.carryOne sp acc l).2.2.now = acc.2.2.now ∧
    (State.carryOne sp acc l).2.2.serial = acc.2.2.serial ∧ (State.carryOne sp acc l).2.2.pins = acc.2.2.pins ∧
    (State.carryOne sp acc l).2.2.md = acc.2.2.md ∧ (State.carryOne sp acc l).2.2.cmds = acc.2.2.cmds ∧
    (State.carryOne sp acc l).2.2.flt = acc.2.2.flt ∧ (State.carryOne sp acc l).2.2.clk = acc.2.2.clk ∧
    (State.carryOne sp acc l).2.2.ref = acc.2.2.ref ∧ (State.carryOne sp acc l).2.2.kennel = acc.2.2.kennel ∧
    (State.carryOne sp acc l).2.2.time = acc.2.2.time ∧ (State.carryOne sp acc l).2.2.buf = acc.2.2.buf ∧
    (State.carryOne sp acc l).2.2.port = acc.2.2.port ∧ (State.carryOne sp acc l).2.2.slices = acc.2.2.slices ∧
    (State.carryOne sp acc l).2.2.gen = acc.2.2.gen ∧ (State.carryOne sp acc l).2.2.core = acc.2.2.core ∧
    (State.carryOne sp acc l).2.2.sch = acc.2.2.sch ∧ (State.carryOne sp acc l).2.2.tel = acc.2.2.tel ∧
    (State.carryOne sp acc l).2.2.pwr = acc.2.2.pwr ∧ (State.carryOne sp acc l).2.2.regs = acc.2.2.regs ∧
    (State.carryOne sp acc l).2.2.cnts = acc.2.2.cnts := by
  unfold State.carryOne
  split
  · split
    · simp only [and_self]
    · rename_i e q
      generalize acc.2.2.plan e sp = pl
      cases r : State.carryTo l e pl acc.2.2 with
      | none => simp
      | some x => have k := State.carryTo_keeps l e pl _ x.1 x.2 r; simp [k]
  · simp only [and_self]

/-- A fold over triples keeps of the state what each of its steps keeps. -/

theorem foldl3_keeps {α β γ δ : Type} (f : State → β) (g : γ × δ × State → α → γ × δ × State)
    (h : ∀ t a, f (g t a).2.2 = f t.2.2) (l : List α) (s : γ × δ × State) : f (l.foldl g s).2.2 = f s.2.2 := by
  induction l generalizing s with
  | nil => rfl
  | cons a r ih => exact (ih _).trans (h s a)

@[simp] theorem State.carryAll_keeps (sp : Space) (ls : List Nat) (k : Nat) (s : State) :
    (State.carryAll sp ls k s).2.2.pending = s.pending ∧ (State.carryAll sp ls k s).2.2.now = s.now ∧
    (State.carryAll sp ls k s).2.2.serial = s.serial ∧ (State.carryAll sp ls k s).2.2.pins = s.pins ∧
    (State.carryAll sp ls k s).2.2.md = s.md ∧ (State.carryAll sp ls k s).2.2.cmds = s.cmds ∧
    (State.carryAll sp ls k s).2.2.flt = s.flt ∧ (State.carryAll sp ls k s).2.2.clk = s.clk ∧
    (State.carryAll sp ls k s).2.2.ref = s.ref ∧ (State.carryAll sp ls k s).2.2.kennel = s.kennel ∧
    (State.carryAll sp ls k s).2.2.time = s.time ∧ (State.carryAll sp ls k s).2.2.buf = s.buf ∧
    (State.carryAll sp ls k s).2.2.port = s.port ∧ (State.carryAll sp ls k s).2.2.slices = s.slices ∧
    (State.carryAll sp ls k s).2.2.gen = s.gen ∧ (State.carryAll sp ls k s).2.2.core = s.core ∧
    (State.carryAll sp ls k s).2.2.sch = s.sch ∧ (State.carryAll sp ls k s).2.2.tel = s.tel ∧
    (State.carryAll sp ls k s).2.2.pwr = s.pwr ∧ (State.carryAll sp ls k s).2.2.regs = s.regs ∧
    (State.carryAll sp ls k s).2.2.cnts = s.cnts := by
  unfold State.carryAll
  refine ⟨foldl3_keeps (fun t => t.pending) _ (fun a l => by simp) _ _, foldl3_keeps (fun t => t.now) _ (fun a l => by simp) _ _, foldl3_keeps (fun t => t.serial) _ (fun a l => by simp) _ _, foldl3_keeps (fun t => t.pins) _ (fun a l => by simp) _ _, foldl3_keeps (fun t => t.md) _ (fun a l => by simp) _ _, foldl3_keeps (fun t => t.cmds) _ (fun a l => by simp) _ _, foldl3_keeps (fun t => t.flt) _ (fun a l => by simp) _ _, foldl3_keeps (fun t => t.clk) _ (fun a l => by simp) _ _, foldl3_keeps (fun t => t.ref) _ (fun a l => by simp) _ _, foldl3_keeps (fun t => t.kennel) _ (fun a l => by simp) _ _, foldl3_keeps (fun t => t.time) _ (fun a l => by simp) _ _, foldl3_keeps (fun t => t.buf) _ (fun a l => by simp) _ _, foldl3_keeps (fun t => t.port) _ (fun a l => by simp) _ _, foldl3_keeps (fun t => t.slices) _ (fun a l => by simp) _ _, foldl3_keeps (fun t => t.gen) _ (fun a l => by simp) _ _, foldl3_keeps (fun t => t.core) _ (fun a l => by simp) _ _, foldl3_keeps (fun t => t.sch) _ (fun a l => by simp) _ _, foldl3_keeps (fun t => t.tel) _ (fun a l => by simp) _ _, foldl3_keeps (fun t => t.pwr) _ (fun a l => by simp) _ _, foldl3_keeps (fun t => t.regs) _ (fun a l => by simp) _ _, foldl3_keeps (fun t => t.cnts) _ (fun a l => by simp) _ _⟩

@[simp] theorem State.migFull_keeps (m : Mig) (s : State) :
    (State.migFull m s).pending = s.pending ∧ (State.migFull m s).now = s.now ∧
    (State.migFull m s).serial = s.serial ∧ (State.migFull m s).pins = s.pins ∧ (State.migFull m s).md = s.md ∧
    (State.migFull m s).flt = s.flt ∧ (State.migFull m s).clk = s.clk ∧ (State.migFull m s).ref = s.ref ∧
    (State.migFull m s).kennel = s.kennel ∧ (State.migFull m s).time = s.time ∧ (State.migFull m s).buf = s.buf ∧
    (State.migFull m s).port = s.port ∧ (State.migFull m s).slices = s.slices ∧ (State.migFull m s).gen = s.gen ∧
    (State.migFull m s).core = s.core ∧ (State.migFull m s).sch = s.sch ∧ (State.migFull m s).tel = s.tel ∧
    (State.migFull m s).pwr = s.pwr ∧ (State.migFull m s).regs = s.regs ∧ (State.migFull m s).cnts = s.cnts := by
  (unfold State.migFull; split <;> simp only [State.rehashEvt_keeps, State.completeSer_keeps, ite_self, and_self, implies_true, Ran.st_done, Ran.st_wait, Ran.st_refuse, Ran.st_ite, snd_ite, ite_pending, ite_now, ite_serial, ite_pins, ite_md, ite_flt, ite_clk, ite_ref, ite_kennel, ite_time, ite_buf, ite_port, ite_slices, ite_gen, ite_core, ite_sch, ite_tel, ite_pwr, ite_regs, ite_cnts, foldl_pending, foldl_now, foldl_serial, foldl_pins, foldl_md, foldl_flt, foldl_clk, foldl_ref, foldl_kennel, foldl_time, foldl_buf, foldl_port, foldl_slices, foldl_gen, foldl_core, foldl_sch, foldl_tel, foldl_pwr, foldl_regs, foldl_cnts, foldl_snd_pending, foldl_snd_now, foldl_snd_serial, foldl_snd_pins, foldl_snd_md, foldl_snd_flt, foldl_snd_clk, foldl_snd_ref, foldl_snd_kennel, foldl_snd_time, foldl_snd_buf, foldl_snd_port, foldl_snd_slices, foldl_snd_gen, foldl_snd_core, foldl_snd_sch, foldl_snd_tel, foldl_snd_pwr, foldl_snd_regs, foldl_snd_cnts])

@[simp] theorem migCarried_keeps (m : Mig) (lost : Nat) (sp : Space) (cursor : Nat) (r : Bool × Nat × State) :
    (migCarried m lost sp cursor r).pending = r.2.2.pending ∧ (migCarried m lost sp cursor r).now = r.2.2.now ∧
    (migCarried m lost sp cursor r).serial = r.2.2.serial ∧ (migCarried m lost sp cursor r).pins = r.2.2.pins ∧
    (migCarried m lost sp cursor r).md = r.2.2.md ∧ (migCarried m lost sp cursor r).flt = r.2.2.flt ∧
    (migCarried m lost sp cursor r).clk = r.2.2.clk ∧ (migCarried m lost sp cursor r).ref = r.2.2.ref ∧
    (migCarried m lost sp cursor r).kennel = r.2.2.kennel ∧ (migCarried m lost sp cursor r).time = r.2.2.time ∧
    (migCarried m lost sp cursor r).buf = r.2.2.buf ∧ (migCarried m lost sp cursor r).port = r.2.2.port ∧
    (migCarried m lost sp cursor r).slices = r.2.2.slices ∧ (migCarried m lost sp cursor r).gen = r.2.2.gen ∧
    (migCarried m lost sp cursor r).core = r.2.2.core ∧ (migCarried m lost sp cursor r).sch = r.2.2.sch ∧
    (migCarried m lost sp cursor r).tel = r.2.2.tel ∧ (migCarried m lost sp cursor r).pwr = r.2.2.pwr ∧
    (migCarried m lost sp cursor r).regs = r.2.2.regs ∧ (migCarried m lost sp cursor r).cnts = r.2.2.cnts := by
  (unfold migCarried; simp only [State.restash_keeps, State.migFull_keeps, ite_self, and_self, implies_true, Ran.st_done, Ran.st_wait, Ran.st_refuse, Ran.st_ite, snd_ite, ite_pending, ite_now, ite_serial, ite_pins, ite_md, ite_flt, ite_clk, ite_ref, ite_kennel, ite_time, ite_buf, ite_port, ite_slices, ite_gen, ite_core, ite_sch, ite_tel, ite_pwr, ite_regs, ite_cnts, foldl_pending, foldl_now, foldl_serial, foldl_pins, foldl_md, foldl_flt, foldl_clk, foldl_ref, foldl_kennel, foldl_time, foldl_buf, foldl_port, foldl_slices, foldl_gen, foldl_core, foldl_sch, foldl_tel, foldl_pwr, foldl_regs, foldl_cnts, foldl_snd_pending, foldl_snd_now, foldl_snd_serial, foldl_snd_pins, foldl_snd_md, foldl_snd_flt, foldl_snd_clk, foldl_snd_ref, foldl_snd_kennel, foldl_snd_time, foldl_snd_buf, foldl_snd_port, foldl_snd_slices, foldl_snd_gen, foldl_snd_core, foldl_snd_sch, foldl_snd_tel, foldl_snd_pwr, foldl_snd_regs, foldl_snd_cnts]; done)

@[simp] theorem State.migBucket_keeps (m : Mig) (b : Nat) (sp : Space) (cursor : Nat) (errs : List (Nat × EccErr)) (s : State) :
    (State.migBucket m b sp cursor errs s).pending = s.pending ∧
    (State.migBucket m b sp cursor errs s).now = s.now ∧ (State.migBucket m b sp cursor errs s).serial = s.serial ∧
    (State.migBucket m b sp cursor errs s).pins = s.pins ∧ (State.migBucket m b sp cursor errs s).md = s.md ∧
    (State.migBucket m b sp cursor errs s).clk = s.clk ∧ (State.migBucket m b sp cursor errs s).ref = s.ref ∧
    (State.migBucket m b sp cursor errs s).kennel = s.kennel ∧
    (State.migBucket m b sp cursor errs s).time = s.time ∧ (State.migBucket m b sp cursor errs s).buf = s.buf ∧
    (State.migBucket m b sp cursor errs s).port = s.port ∧
    (State.migBucket m b sp cursor errs s).slices = s.slices ∧ (State.migBucket m b sp cursor errs s).gen = s.gen ∧
    (State.migBucket m b sp cursor errs s).core = s.core ∧ (State.migBucket m b sp cursor errs s).sch = s.sch ∧
    (State.migBucket m b sp cursor errs s).tel = s.tel ∧ (State.migBucket m b sp cursor errs s).pwr = s.pwr ∧
    (State.migBucket m b sp cursor errs s).regs = s.regs ∧
    (State.migBucket m b sp cursor errs s).flt.keel0 = s.flt.keel0 ∧
    (State.migBucket m b sp cursor errs s).flt.keel1 = s.flt.keel1 := by
  (unfold State.migBucket; simp only [State.epCheck_keeps, State.carryAll_keeps, migCarried_keeps, ite_self, and_self, implies_true, Ran.st_done, Ran.st_wait, Ran.st_refuse, Ran.st_ite, snd_ite, foldl_pending, foldl_now, foldl_serial, foldl_pins, foldl_md, foldl_clk, foldl_ref, foldl_kennel, foldl_time, foldl_buf, foldl_port, foldl_slices, foldl_gen, foldl_core, foldl_sch, foldl_tel, foldl_pwr, foldl_regs, foldl_flt_keel0, foldl_flt_keel1, foldl_snd_pending, foldl_snd_now, foldl_snd_serial, foldl_snd_pins, foldl_snd_md, foldl_snd_clk, foldl_snd_ref, foldl_snd_kennel, foldl_snd_time, foldl_snd_buf, foldl_snd_port, foldl_snd_slices, foldl_snd_gen, foldl_snd_core, foldl_snd_sch, foldl_snd_tel, foldl_snd_pwr, foldl_snd_regs, foldl_snd_flt_keel0, foldl_snd_flt_keel1]; done)

@[simp] theorem State.migForward_keeps (m : Mig) (errs : List (Nat × EccErr)) (s : State) :
    (State.migForward m errs s).pending = s.pending ∧ (State.migForward m errs s).now = s.now ∧
    (State.migForward m errs s).serial = s.serial ∧ (State.migForward m errs s).pins = s.pins ∧
    (State.migForward m errs s).md = s.md ∧ (State.migForward m errs s).clk = s.clk ∧
    (State.migForward m errs s).ref = s.ref ∧ (State.migForward m errs s).kennel = s.kennel ∧
    (State.migForward m errs s).time = s.time ∧ (State.migForward m errs s).buf = s.buf ∧
    (State.migForward m errs s).port = s.port ∧ (State.migForward m errs s).slices = s.slices ∧
    (State.migForward m errs s).gen = s.gen ∧ (State.migForward m errs s).core = s.core ∧
    (State.migForward m errs s).sch = s.sch ∧ (State.migForward m errs s).tel = s.tel ∧
    (State.migForward m errs s).pwr = s.pwr ∧ (State.migForward m errs s).regs = s.regs ∧
    (State.migForward m errs s).flt.keel0 = s.flt.keel0 ∧ (State.migForward m errs s).flt.keel1 = s.flt.keel1 := by
  unfold State.migForward
  (try dsimp only)
  (repeat' split) <;> first | (simp; done) | (rename_i q; simp [snd_of q]; done) | (rename_i q _; simp [snd_of q]; done)

@[simp] theorem State.migBack_keeps (m : Mig) (errs : List (Nat × EccErr)) (s : State) :
    (State.migBack m errs s).pending = s.pending ∧ (State.migBack m errs s).now = s.now ∧
    (State.migBack m errs s).serial = s.serial ∧ (State.migBack m errs s).pins = s.pins ∧
    (State.migBack m errs s).md = s.md ∧ (State.migBack m errs s).clk = s.clk ∧
    (State.migBack m errs s).ref = s.ref ∧ (State.migBack m errs s).kennel = s.kennel ∧
    (State.migBack m errs s).time = s.time ∧ (State.migBack m errs s).buf = s.buf ∧
    (State.migBack m errs s).port = s.port ∧ (State.migBack m errs s).slices = s.slices ∧
    (State.migBack m errs s).gen = s.gen ∧ (State.migBack m errs s).core = s.core ∧
    (State.migBack m errs s).sch = s.sch ∧ (State.migBack m errs s).tel = s.tel ∧
    (State.migBack m errs s).pwr = s.pwr ∧ (State.migBack m errs s).regs = s.regs ∧
    (State.migBack m errs s).flt.keel0 = s.flt.keel0 ∧ (State.migBack m errs s).flt.keel1 = s.flt.keel1 := by
  unfold State.migBack
  (try dsimp only)
  (repeat' split) <;> first | (simp; done) | (rename_i q; simp [snd_of q]; done) | (rename_i q _; simp [snd_of q]; done)

@[simp] theorem State.migStep_keeps (errs : List (Nat × EccErr)) (s : State) :
    (State.migStep errs s).pending = s.pending ∧ (State.migStep errs s).now = s.now ∧
    (State.migStep errs s).serial = s.serial ∧ (State.migStep errs s).pins = s.pins ∧
    (State.migStep errs s).md = s.md ∧ (State.migStep errs s).clk = s.clk ∧ (State.migStep errs s).ref = s.ref ∧
    (State.migStep errs s).kennel = s.kennel ∧ (State.migStep errs s).time = s.time ∧
    (State.migStep errs s).buf = s.buf ∧ (State.migStep errs s).port = s.port ∧
    (State.migStep errs s).slices = s.slices ∧ (State.migStep errs s).gen = s.gen ∧
    (State.migStep errs s).core = s.core ∧ (State.migStep errs s).sch = s.sch ∧
    (State.migStep errs s).tel = s.tel ∧ (State.migStep errs s).pwr = s.pwr ∧
    (State.migStep errs s).regs = s.regs ∧ (State.migStep errs s).flt.keel0 = s.flt.keel0 ∧
    (State.migStep errs s).flt.keel1 = s.flt.keel1 := by
  (unfold State.migStep; split <;> simp only [State.migForward_keeps, State.migBack_keeps, ite_self, and_self, implies_true, Ran.st_done, Ran.st_wait, Ran.st_refuse, Ran.st_ite, snd_ite, ite_pending, ite_now, ite_serial, ite_pins, ite_md, ite_clk, ite_ref, ite_kennel, ite_time, ite_buf, ite_port, ite_slices, ite_gen, ite_core, ite_sch, ite_tel, ite_pwr, ite_regs, ite_flt_keel0, ite_flt_keel1, foldl_pending, foldl_now, foldl_serial, foldl_pins, foldl_md, foldl_clk, foldl_ref, foldl_kennel, foldl_time, foldl_buf, foldl_port, foldl_slices, foldl_gen, foldl_core, foldl_sch, foldl_tel, foldl_pwr, foldl_regs, foldl_flt_keel0, foldl_flt_keel1, foldl_snd_pending, foldl_snd_now, foldl_snd_serial, foldl_snd_pins, foldl_snd_md, foldl_snd_clk, foldl_snd_ref, foldl_snd_kennel, foldl_snd_time, foldl_snd_buf, foldl_snd_port, foldl_snd_slices, foldl_snd_gen, foldl_snd_core, foldl_snd_sch, foldl_snd_tel, foldl_snd_pwr, foldl_snd_regs, foldl_snd_flt_keel0, foldl_snd_flt_keel1])
end Sys2Proof.Machine
end

