-- ==== Sys2Proof/Laws/KeepsDirect.lean ====
section
/-! SUPPORT. What each operation of Machine/Direct.lean keeps: the parts of the state that it leaves as they are. -/
set_option linter.unusedSimpArgs false
set_option linter.unusedVariables false
namespace Sys2Proof.Machine
open Host (Outcome)

@[simp] theorem State.setDirect_keeps (a : Nat) (r : Option Nat) (s : State) :
    (State.setDirect a r s).pending = s.pending ∧ (State.setDirect a r s).now = s.now ∧
    (State.setDirect a r s).serial = s.serial ∧ (State.setDirect a r s).out = s.out ∧
    (State.setDirect a r s).pins = s.pins ∧ (State.setDirect a r s).md = s.md ∧
    (State.setDirect a r s).host = s.host ∧ (State.setDirect a r s).cmds = s.cmds ∧
    (State.setDirect a r s).flt = s.flt ∧ (State.setDirect a r s).clk = s.clk ∧
    (State.setDirect a r s).ref = s.ref ∧ (State.setDirect a r s).kennel = s.kennel ∧
    (State.setDirect a r s).time = s.time ∧ (State.setDirect a r s).buf = s.buf ∧
    (State.setDirect a r s).port = s.port ∧ (State.setDirect a r s).slices = s.slices ∧
    (State.setDirect a r s).gen = s.gen ∧ (State.setDirect a r s).core = s.core ∧
    (State.setDirect a r s).sch = s.sch ∧ (State.setDirect a r s).tel = s.tel ∧
    (State.setDirect a r s).pwr = s.pwr ∧ (State.setDirect a r s).regs = s.regs ∧
    (State.setDirect a r s).cnts = s.cnts := by
  (unfold State.setDirect; simp only [ite_self, and_self, implies_true, Ran.st_done, Ran.st_wait, Ran.st_refuse, Ran.st_ite, snd_ite, foldl_pending, foldl_now, foldl_serial, foldl_out, foldl_pins, foldl_md, foldl_host, foldl_cmds, foldl_flt, foldl_clk, foldl_ref, foldl_kennel, foldl_time, foldl_buf, foldl_port, foldl_slices, foldl_gen, foldl_core, foldl_sch, foldl_tel, foldl_pwr, foldl_regs, foldl_cnts, foldl_snd_pending, foldl_snd_now, foldl_snd_serial, foldl_snd_out, foldl_snd_pins, foldl_snd_md, foldl_snd_host, foldl_snd_cmds, foldl_snd_flt, foldl_snd_clk, foldl_snd_ref, foldl_snd_kennel, foldl_snd_time, foldl_snd_buf, foldl_snd_port, foldl_snd_slices, foldl_snd_gen, foldl_snd_core, foldl_snd_sch, foldl_snd_tel, foldl_snd_pwr, foldl_snd_regs, foldl_snd_cnts]; done)

@[simp] theorem State.directRead_keeps (a : Nat) (e0 e1 : Option EccErr) (s : State) :
    (State.directRead a e0 e1 s).2.pending = s.pending ∧ (State.directRead a e0 e1 s).2.now = s.now ∧
    (State.directRead a e0 e1 s).2.serial = s.serial ∧ (State.directRead a e0 e1 s).2.out = s.out ∧
    (State.directRead a e0 e1 s).2.pins = s.pins ∧ (State.directRead a e0 e1 s).2.md = s.md ∧
    (State.directRead a e0 e1 s).2.host = s.host ∧ (State.directRead a e0 e1 s).2.cmds = s.cmds ∧
    (State.directRead a e0 e1 s).2.clk = s.clk ∧ (State.directRead a e0 e1 s).2.ref = s.ref ∧
    (State.directRead a e0 e1 s).2.kennel = s.kennel ∧ (State.directRead a e0 e1 s).2.time = s.time ∧
    (State.directRead a e0 e1 s).2.buf = s.buf ∧ (State.directRead a e0 e1 s).2.port = s.port ∧
    (State.directRead a e0 e1 s).2.slices = s.slices ∧ (State.directRead a e0 e1 s).2.gen = s.gen ∧
    (State.directRead a e0 e1 s).2.core = s.core ∧ (State.directRead a e0 e1 s).2.sch = s.sch ∧
    (State.directRead a e0 e1 s).2.tel = s.tel ∧ (State.directRead a e0 e1 s).2.pwr = s.pwr ∧
    (State.directRead a e0 e1 s).2.regs = s.regs ∧ (State.directRead a e0 e1 s).2.cnts = s.cnts ∧
    (State.directRead a e0 e1 s).2.flt.keel0 = s.flt.keel0 ∧
    (State.directRead a e0 e1 s).2.flt.keel1 = s.flt.keel1 := by
  (unfold State.directRead; simp only [State.injected_keeps, State.raiseX_keeps, State.setDirect_keeps, State.raise_keeps, ite_self, and_self, implies_true, Ran.st_done, Ran.st_wait, Ran.st_refuse, Ran.st_ite, snd_ite, ite_pending, ite_now, ite_serial, ite_out, ite_pins, ite_md, ite_host, ite_cmds, ite_clk, ite_ref, ite_kennel, ite_time, ite_buf, ite_port, ite_slices, ite_gen, ite_core, ite_sch, ite_tel, ite_pwr, ite_regs, ite_cnts, ite_flt_keel0, ite_flt_keel1, foldl_pending, foldl_now, foldl_serial, foldl_out, foldl_pins, foldl_md, foldl_host, foldl_cmds, foldl_clk, foldl_ref, foldl_kennel, foldl_time, foldl_buf, foldl_port, foldl_slices, foldl_gen, foldl_core, foldl_sch, foldl_tel, foldl_pwr, foldl_regs, foldl_cnts, foldl_flt_keel0, foldl_flt_keel1, foldl_snd_pending, foldl_snd_now, foldl_snd_serial, foldl_snd_out, foldl_snd_pins, foldl_snd_md, foldl_snd_host, foldl_snd_cmds, foldl_snd_clk, foldl_snd_ref, foldl_snd_kennel, foldl_snd_time, foldl_snd_buf, foldl_snd_port, foldl_snd_slices, foldl_snd_gen, foldl_snd_core, foldl_snd_sch, foldl_snd_tel, foldl_snd_pwr, foldl_snd_regs, foldl_snd_cnts, foldl_snd_flt_keel0, foldl_snd_flt_keel1]; done)

@[simp] theorem State.ecmpRead_keeps (n loc : Nat) (errs : List (Nat × EccErr)) (s : State) :
    (State.ecmpRead n loc errs s).2.pending = s.pending ∧ (State.ecmpRead n loc errs s).2.now = s.now ∧
    (State.ecmpRead n loc errs s).2.serial = s.serial ∧ (State.ecmpRead n loc errs s).2.out = s.out ∧
    (State.ecmpRead n loc errs s).2.pins = s.pins ∧ (State.ecmpRead n loc errs s).2.md = s.md ∧
    (State.ecmpRead n loc errs s).2.host = s.host ∧ (State.ecmpRead n loc errs s).2.cmds = s.cmds ∧
    (State.ecmpRead n loc errs s).2.clk = s.clk ∧ (State.ecmpRead n loc errs s).2.ref = s.ref ∧
    (State.ecmpRead n loc errs s).2.kennel = s.kennel ∧ (State.ecmpRead n loc errs s).2.time = s.time ∧
    (State.ecmpRead n loc errs s).2.buf = s.buf ∧ (State.ecmpRead n loc errs s).2.port = s.port ∧
    (State.ecmpRead n loc errs s).2.tab = s.tab ∧ (State.ecmpRead n loc errs s).2.gen = s.gen ∧
    (State.ecmpRead n loc errs s).2.core = s.core ∧ (State.ecmpRead n loc errs s).2.sch = s.sch ∧
    (State.ecmpRead n loc errs s).2.tel = s.tel ∧ (State.ecmpRead n loc errs s).2.pwr = s.pwr ∧
    (State.ecmpRead n loc errs s).2.regs = s.regs ∧ (State.ecmpRead n loc errs s).2.cnts = s.cnts ∧
    (State.ecmpRead n loc errs s).2.flt.keel0 = s.flt.keel0 ∧
    (State.ecmpRead n loc errs s).2.flt.keel1 = s.flt.keel1 := by
  (unfold State.ecmpRead; simp only [State.injected_keeps, State.onSlice_keeps, State.raiseX_keeps, ite_self, and_self, implies_true, Ran.st_done, Ran.st_wait, Ran.st_refuse, Ran.st_ite, snd_ite, ite_pending, ite_now, ite_serial, ite_out, ite_pins, ite_md, ite_host, ite_cmds, ite_clk, ite_ref, ite_kennel, ite_time, ite_buf, ite_port, ite_tab, ite_gen, ite_core, ite_sch, ite_tel, ite_pwr, ite_regs, ite_cnts, ite_flt_keel0, ite_flt_keel1, foldl_pending, foldl_now, foldl_serial, foldl_out, foldl_pins, foldl_md, foldl_host, foldl_cmds, foldl_clk, foldl_ref, foldl_kennel, foldl_time, foldl_buf, foldl_port, foldl_tab, foldl_gen, foldl_core, foldl_sch, foldl_tel, foldl_pwr, foldl_regs, foldl_cnts, foldl_flt_keel0, foldl_flt_keel1, foldl_snd_pending, foldl_snd_now, foldl_snd_serial, foldl_snd_out, foldl_snd_pins, foldl_snd_md, foldl_snd_host, foldl_snd_cmds, foldl_snd_clk, foldl_snd_ref, foldl_snd_kennel, foldl_snd_time, foldl_snd_buf, foldl_snd_port, foldl_snd_tab, foldl_snd_gen, foldl_snd_core, foldl_snd_sch, foldl_snd_tel, foldl_snd_pwr, foldl_snd_regs, foldl_snd_cnts, foldl_snd_flt_keel0, foldl_snd_flt_keel1]; done)

@[simp] theorem State.tryMembers_keeps (n : Nat) (g : Group) (errs : List (Nat × EccErr)) (a3 a4 : Nat) (a5 : State) :
    (State.tryMembers n g errs a3 a4 a5).2.pending = a5.pending ∧
    (State.tryMembers n g errs a3 a4 a5).2.now = a5.now ∧
    (State.tryMembers n g errs a3 a4 a5).2.serial = a5.serial ∧
    (State.tryMembers n g errs a3 a4 a5).2.out = a5.out ∧ (State.tryMembers n g errs a3 a4 a5).2.pins = a5.pins ∧
    (State.tryMembers n g errs a3 a4 a5).2.md = a5.md ∧ (State.tryMembers n g errs a3 a4 a5).2.host = a5.host ∧
    (State.tryMembers n g errs a3 a4 a5).2.cmds = a5.cmds ∧ (State.tryMembers n g errs a3 a4 a5).2.clk = a5.clk ∧
    (State.tryMembers n g errs a3 a4 a5).2.ref = a5.ref ∧
    (State.tryMembers n g errs a3 a4 a5).2.kennel = a5.kennel ∧
    (State.tryMembers n g errs a3 a4 a5).2.time = a5.time ∧ (State.tryMembers n g errs a3 a4 a5).2.buf = a5.buf ∧
    (State.tryMembers n g errs a3 a4 a5).2.port = a5.port ∧ (State.tryMembers n g errs a3 a4 a5).2.tab = a5.tab ∧
    (State.tryMembers n g errs a3 a4 a5).2.gen = a5.gen ∧ (State.tryMembers n g errs a3 a4 a5).2.core = a5.core ∧
    (State.tryMembers n g errs a3 a4 a5).2.sch = a5.sch ∧ (State.tryMembers n g errs a3 a4 a5).2.tel = a5.tel ∧
    (State.tryMembers n g errs a3 a4 a5).2.pwr = a5.pwr ∧ (State.tryMembers n g errs a3 a4 a5).2.regs = a5.regs ∧
    (State.tryMembers n g errs a3 a4 a5).2.cnts = a5.cnts ∧
    (State.tryMembers n g errs a3 a4 a5).2.flt.keel0 = a5.flt.keel0 ∧
    (State.tryMembers n g errs a3 a4 a5).2.flt.keel1 = a5.flt.keel1 := by
  induction a3 generalizing a4 a5 with
  | zero => simp [State.tryMembers]
  | succ k ih =>
    unfold State.tryMembers
    dsimp only
    split <;> simp [ih]

@[simp] theorem State.ecmpPick_keeps (n grp : Nat) (key : List Byte) (port : Nat) (errs : List (Nat × EccErr)) (s : State) :
    (State.ecmpPick n grp key port errs s).2.pending = s.pending ∧
    (State.ecmpPick n grp key port errs s).2.now = s.now ∧
    (State.ecmpPick n grp key port errs s).2.serial = s.serial ∧
    (State.ecmpPick n grp key port errs s).2.out = s.out ∧ (State.ecmpPick n grp key port errs s).2.pins = s.pins ∧
    (State.ecmpPick n grp key port errs s).2.md = s.md ∧ (State.ecmpPick n grp key port errs s).2.host = s.host ∧
    (State.ecmpPick n grp key port errs s).2.cmds = s.cmds ∧ (State.ecmpPick n grp key port errs s).2.clk = s.clk ∧
    (State.ecmpPick n grp key port errs s).2.ref = s.ref ∧
    (State.ecmpPick n grp key port errs s).2.kennel = s.kennel ∧
    (State.ecmpPick n grp key port errs s).2.time = s.time ∧ (State.ecmpPick n grp key port errs s).2.buf = s.buf ∧
    (State.ecmpPick n grp key port errs s).2.port = s.port ∧ (State.ecmpPick n grp key port errs s).2.tab = s.tab ∧
    (State.ecmpPick n grp key port errs s).2.gen = s.gen ∧ (State.ecmpPick n grp key port errs s).2.core = s.core ∧
    (State.ecmpPick n grp key port errs s).2.sch = s.sch ∧ (State.ecmpPick n grp key port errs s).2.tel = s.tel ∧
    (State.ecmpPick n grp key port errs s).2.pwr = s.pwr ∧ (State.ecmpPick n grp key port errs s).2.regs = s.regs ∧
    (State.ecmpPick n grp key port errs s).2.flt.keel0 = s.flt.keel0 ∧
    (State.ecmpPick n grp key port errs s).2.flt.keel1 = s.flt.keel1 := by
  unfold State.ecmpPick
  dsimp only
  split
  · simp
  · split <;> (rename_i q; simp [snd_of q])
end Sys2Proof.Machine
end

