-- ==== Sys2Proof/Laws/KeepsLpm.lean ====
section
/-! SUPPORT. What each operation of Machine/Lpm.lean keeps: the parts of the state that it leaves as they are. -/
set_option linter.unusedSimpArgs false
set_option linter.unusedVariables false
namespace Sys2Proof.Machine
open Host (Outcome)

@[simp] theorem State.setLpm_keeps (n row : Nat) (e : Option LpmEnt) (s : State) :
    (State.setLpm n row e s).pending = s.pending ∧ (State.setLpm n row e s).now = s.now ∧
    (State.setLpm n row e s).serial = s.serial ∧ (State.setLpm n row e s).out = s.out ∧
    (State.setLpm n row e s).pins = s.pins ∧ (State.setLpm n row e s).md = s.md ∧
    (State.setLpm n row e s).host = s.host ∧ (State.setLpm n row e s).cmds = s.cmds ∧
    (State.setLpm n row e s).flt = s.flt ∧ (State.setLpm n row e s).clk = s.clk ∧
    (State.setLpm n row e s).ref = s.ref ∧ (State.setLpm n row e s).kennel = s.kennel ∧
    (State.setLpm n row e s).time = s.time ∧ (State.setLpm n row e s).buf = s.buf ∧
    (State.setLpm n row e s).port = s.port ∧ (State.setLpm n row e s).tab = s.tab ∧
    (State.setLpm n row e s).gen = s.gen ∧ (State.setLpm n row e s).core = s.core ∧
    (State.setLpm n row e s).sch = s.sch ∧ (State.setLpm n row e s).tel = s.tel ∧
    (State.setLpm n row e s).pwr = s.pwr ∧ (State.setLpm n row e s).regs = s.regs ∧
    (State.setLpm n row e s).cnts = s.cnts := by
  (unfold State.setLpm; simp only [State.onSlice_keeps, ite_self, and_self, implies_true, Ran.st_done, Ran.st_wait, Ran.st_refuse, Ran.st_ite, snd_ite, foldl_pending, foldl_now, foldl_serial, foldl_out, foldl_pins, foldl_md, foldl_host, foldl_cmds, foldl_flt, foldl_clk, foldl_ref, foldl_kennel, foldl_time, foldl_buf, foldl_port, foldl_tab, foldl_gen, foldl_core, foldl_sch, foldl_tel, foldl_pwr, foldl_regs, foldl_cnts, foldl_snd_pending, foldl_snd_now, foldl_snd_serial, foldl_snd_out, foldl_snd_pins, foldl_snd_md, foldl_snd_host, foldl_snd_cmds, foldl_snd_flt, foldl_snd_clk, foldl_snd_ref, foldl_snd_kennel, foldl_snd_time, foldl_snd_buf, foldl_snd_port, foldl_snd_tab, foldl_snd_gen, foldl_snd_core, foldl_snd_sch, foldl_snd_tel, foldl_snd_pwr, foldl_snd_regs, foldl_snd_cnts]; done)

@[simp] theorem State.lpmAt_keeps (m : Nat) (x : Option (Nat × LpmEnt)) (e : Option LpmEnt) (s : State) :
    (State.lpmAt m x e s).pending = s.pending ∧ (State.lpmAt m x e s).now = s.now ∧
    (State.lpmAt m x e s).serial = s.serial ∧ (State.lpmAt m x e s).out = s.out ∧
    (State.lpmAt m x e s).pins = s.pins ∧ (State.lpmAt m x e s).md = s.md ∧ (State.lpmAt m x e s).host = s.host ∧
    (State.lpmAt m x e s).cmds = s.cmds ∧ (State.lpmAt m x e s).flt = s.flt ∧ (State.lpmAt m x e s).clk = s.clk ∧
    (State.lpmAt m x e s).ref = s.ref ∧ (State.lpmAt m x e s).kennel = s.kennel ∧
    (State.lpmAt m x e s).time = s.time ∧ (State.lpmAt m x e s).buf = s.buf ∧ (State.lpmAt m x e s).port = s.port ∧
    (State.lpmAt m x e s).tab = s.tab ∧ (State.lpmAt m x e s).gen = s.gen ∧ (State.lpmAt m x e s).core = s.core ∧
    (State.lpmAt m x e s).sch = s.sch ∧ (State.lpmAt m x e s).tel = s.tel ∧ (State.lpmAt m x e s).pwr = s.pwr ∧
    (State.lpmAt m x e s).regs = s.regs ∧ (State.lpmAt m x e s).cnts = s.cnts := by
  (unfold State.lpmAt; split <;> simp only [State.setLpm_keeps, ite_self, and_self, implies_true, Ran.st_done, Ran.st_wait, Ran.st_refuse, Ran.st_ite, snd_ite, ite_pending, ite_now, ite_serial, ite_out, ite_pins, ite_md, ite_host, ite_cmds, ite_flt, ite_clk, ite_ref, ite_kennel, ite_time, ite_buf, ite_port, ite_tab, ite_gen, ite_core, ite_sch, ite_tel, ite_pwr, ite_regs, ite_cnts, foldl_pending, foldl_now, foldl_serial, foldl_out, foldl_pins, foldl_md, foldl_host, foldl_cmds, foldl_flt, foldl_clk, foldl_ref, foldl_kennel, foldl_time, foldl_buf, foldl_port, foldl_tab, foldl_gen, foldl_core, foldl_sch, foldl_tel, foldl_pwr, foldl_regs, foldl_cnts, foldl_snd_pending, foldl_snd_now, foldl_snd_serial, foldl_snd_out, foldl_snd_pins, foldl_snd_md, foldl_snd_host, foldl_snd_cmds, foldl_snd_flt, foldl_snd_clk, foldl_snd_ref, foldl_snd_kennel, foldl_snd_time, foldl_snd_buf, foldl_snd_port, foldl_snd_tab, foldl_snd_gen, foldl_snd_core, foldl_snd_sch, foldl_snd_tel, foldl_snd_pwr, foldl_snd_regs, foldl_snd_cnts])

@[simp] theorem State.lpmMove_keeps (n from' to' : Nat) (s : State) :
    (State.lpmMove n from' to' s).pending = s.pending ∧ (State.lpmMove n from' to' s).now = s.now ∧
    (State.lpmMove n from' to' s).serial = s.serial ∧ (State.lpmMove n from' to' s).out = s.out ∧
    (State.lpmMove n from' to' s).pins = s.pins ∧ (State.lpmMove n from' to' s).md = s.md ∧
    (State.lpmMove n from' to' s).host = s.host ∧ (State.lpmMove n from' to' s).cmds = s.cmds ∧
    (State.lpmMove n from' to' s).flt = s.flt ∧ (State.lpmMove n from' to' s).clk = s.clk ∧
    (State.lpmMove n from' to' s).ref = s.ref ∧ (State.lpmMove n from' to' s).kennel = s.kennel ∧
    (State.lpmMove n from' to' s).time = s.time ∧ (State.lpmMove n from' to' s).buf = s.buf ∧
    (State.lpmMove n from' to' s).port = s.port ∧ (State.lpmMove n from' to' s).tab = s.tab ∧
    (State.lpmMove n from' to' s).gen = s.gen ∧ (State.lpmMove n from' to' s).core = s.core ∧
    (State.lpmMove n from' to' s).sch = s.sch ∧ (State.lpmMove n from' to' s).tel = s.tel ∧
    (State.lpmMove n from' to' s).pwr = s.pwr ∧ (State.lpmMove n from' to' s).regs = s.regs ∧
    (State.lpmMove n from' to' s).cnts = s.cnts := by
  (unfold State.lpmMove; split <;> simp only [State.setLpm_keeps, ite_self, and_self, implies_true, Ran.st_done, Ran.st_wait, Ran.st_refuse, Ran.st_ite, snd_ite, ite_pending, ite_now, ite_serial, ite_out, ite_pins, ite_md, ite_host, ite_cmds, ite_flt, ite_clk, ite_ref, ite_kennel, ite_time, ite_buf, ite_port, ite_tab, ite_gen, ite_core, ite_sch, ite_tel, ite_pwr, ite_regs, ite_cnts, foldl_pending, foldl_now, foldl_serial, foldl_out, foldl_pins, foldl_md, foldl_host, foldl_cmds, foldl_flt, foldl_clk, foldl_ref, foldl_kennel, foldl_time, foldl_buf, foldl_port, foldl_tab, foldl_gen, foldl_core, foldl_sch, foldl_tel, foldl_pwr, foldl_regs, foldl_cnts, foldl_snd_pending, foldl_snd_now, foldl_snd_serial, foldl_snd_out, foldl_snd_pins, foldl_snd_md, foldl_snd_host, foldl_snd_cmds, foldl_snd_flt, foldl_snd_clk, foldl_snd_ref, foldl_snd_kennel, foldl_snd_time, foldl_snd_buf, foldl_snd_port, foldl_snd_tab, foldl_snd_gen, foldl_snd_core, foldl_snd_sch, foldl_snd_tel, foldl_snd_pwr, foldl_snd_regs, foldl_snd_cnts])

@[simp] theorem State.lpmSearch_keeps (n cls : Nat) (key : List Byte) (errs : List RowErr) (s : State) :
    (State.lpmSearch n cls key errs s).2.pending = s.pending ∧ (State.lpmSearch n cls key errs s).2.now = s.now ∧
    (State.lpmSearch n cls key errs s).2.serial = s.serial ∧ (State.lpmSearch n cls key errs s).2.out = s.out ∧
    (State.lpmSearch n cls key errs s).2.pins = s.pins ∧ (State.lpmSearch n cls key errs s).2.md = s.md ∧
    (State.lpmSearch n cls key errs s).2.host = s.host ∧ (State.lpmSearch n cls key errs s).2.cmds = s.cmds ∧
    (State.lpmSearch n cls key errs s).2.clk = s.clk ∧ (State.lpmSearch n cls key errs s).2.kennel = s.kennel ∧
    (State.lpmSearch n cls key errs s).2.time = s.time ∧ (State.lpmSearch n cls key errs s).2.buf = s.buf ∧
    (State.lpmSearch n cls key errs s).2.port = s.port ∧ (State.lpmSearch n cls key errs s).2.tab = s.tab ∧
    (State.lpmSearch n cls key errs s).2.gen = s.gen ∧ (State.lpmSearch n cls key errs s).2.core = s.core ∧
    (State.lpmSearch n cls key errs s).2.sch = s.sch ∧ (State.lpmSearch n cls key errs s).2.tel = s.tel ∧
    (State.lpmSearch n cls key errs s).2.pwr = s.pwr ∧ (State.lpmSearch n cls key errs s).2.regs = s.regs ∧
    (State.lpmSearch n cls key errs s).2.flt.keel0 = s.flt.keel0 ∧
    (State.lpmSearch n cls key errs s).2.flt.keel1 = s.flt.keel1 := by
  unfold State.lpmSearch
  dsimp only
  split <;> (rename_i q; simp [snd_of q])
end Sys2Proof.Machine
end

