-- ==== Sys2Proof/Laws/KeepsL2.lean ====
section
/-! SUPPORT. What each operation of Machine/L2.lean keeps: the parts of the state that it leaves as they are. -/
set_option linter.unusedSimpArgs false
set_option linter.unusedVariables false
namespace Sys2Proof.Machine
open Host (Outcome)

@[simp] theorem State.setL2_keeps (n i : Nat) (e : Option L2Ent) (s : State) :
    (State.setL2 n i e s).pending = s.pending ∧ (State.setL2 n i e s).now = s.now ∧
    (State.setL2 n i e s).serial = s.serial ∧ (State.setL2 n i e s).out = s.out ∧
    (State.setL2 n i e s).pins = s.pins ∧ (State.setL2 n i e s).md = s.md ∧ (State.setL2 n i e s).host = s.host ∧
    (State.setL2 n i e s).cmds = s.cmds ∧ (State.setL2 n i e s).flt = s.flt ∧ (State.setL2 n i e s).clk = s.clk ∧
    (State.setL2 n i e s).ref = s.ref ∧ (State.setL2 n i e s).kennel = s.kennel ∧
    (State.setL2 n i e s).time = s.time ∧ (State.setL2 n i e s).buf = s.buf ∧ (State.setL2 n i e s).port = s.port ∧
    (State.setL2 n i e s).tab = s.tab ∧ (State.setL2 n i e s).gen = s.gen ∧ (State.setL2 n i e s).core = s.core ∧
    (State.setL2 n i e s).sch = s.sch ∧ (State.setL2 n i e s).tel = s.tel ∧ (State.setL2 n i e s).pwr = s.pwr ∧
    (State.setL2 n i e s).regs = s.regs ∧ (State.setL2 n i e s).cnts = s.cnts := by
  (unfold State.setL2; simp only [State.onSlice_keeps, ite_self, and_self, implies_true, Ran.st_done, Ran.st_wait, Ran.st_refuse, Ran.st_ite, snd_ite, foldl_pending, foldl_now, foldl_serial, foldl_out, foldl_pins, foldl_md, foldl_host, foldl_cmds, foldl_flt, foldl_clk, foldl_ref, foldl_kennel, foldl_time, foldl_buf, foldl_port, foldl_tab, foldl_gen, foldl_core, foldl_sch, foldl_tel, foldl_pwr, foldl_regs, foldl_cnts, foldl_snd_pending, foldl_snd_now, foldl_snd_serial, foldl_snd_out, foldl_snd_pins, foldl_snd_md, foldl_snd_host, foldl_snd_cmds, foldl_snd_flt, foldl_snd_clk, foldl_snd_ref, foldl_snd_kennel, foldl_snd_time, foldl_snd_buf, foldl_snd_port, foldl_snd_tab, foldl_snd_gen, foldl_snd_core, foldl_snd_sch, foldl_snd_tel, foldl_snd_pwr, foldl_snd_regs, foldl_snd_cnts]; done)

@[simp] theorem State.l2Count_keeps (n i : Nat) (s : State) :
    (State.l2Count n i s).pending = s.pending ∧ (State.l2Count n i s).now = s.now ∧
    (State.l2Count n i s).serial = s.serial ∧ (State.l2Count n i s).out = s.out ∧
    (State.l2Count n i s).pins = s.pins ∧ (State.l2Count n i s).md = s.md ∧ (State.l2Count n i s).host = s.host ∧
    (State.l2Count n i s).cmds = s.cmds ∧ (State.l2Count n i s).flt = s.flt ∧ (State.l2Count n i s).clk = s.clk ∧
    (State.l2Count n i s).ref = s.ref ∧ (State.l2Count n i s).kennel = s.kennel ∧
    (State.l2Count n i s).time = s.time ∧ (State.l2Count n i s).buf = s.buf ∧ (State.l2Count n i s).port = s.port ∧
    (State.l2Count n i s).slices = s.slices ∧ (State.l2Count n i s).tab = s.tab ∧
    (State.l2Count n i s).gen = s.gen ∧ (State.l2Count n i s).core = s.core ∧ (State.l2Count n i s).sch = s.sch ∧
    (State.l2Count n i s).tel = s.tel ∧ (State.l2Count n i s).pwr = s.pwr ∧ (State.l2Count n i s).regs = s.regs := by
  (unfold State.l2Count; simp only [State.count_keeps, ite_self, and_self, implies_true, Ran.st_done, Ran.st_wait, Ran.st_refuse, Ran.st_ite, snd_ite, foldl_pending, foldl_now, foldl_serial, foldl_out, foldl_pins, foldl_md, foldl_host, foldl_cmds, foldl_flt, foldl_clk, foldl_ref, foldl_kennel, foldl_time, foldl_buf, foldl_port, foldl_slices, foldl_tab, foldl_gen, foldl_core, foldl_sch, foldl_tel, foldl_pwr, foldl_regs, foldl_snd_pending, foldl_snd_now, foldl_snd_serial, foldl_snd_out, foldl_snd_pins, foldl_snd_md, foldl_snd_host, foldl_snd_cmds, foldl_snd_flt, foldl_snd_clk, foldl_snd_ref, foldl_snd_kennel, foldl_snd_time, foldl_snd_buf, foldl_snd_port, foldl_snd_slices, foldl_snd_tab, foldl_snd_gen, foldl_snd_core, foldl_snd_sch, foldl_snd_tel, foldl_snd_pwr, foldl_snd_regs]; done)

@[simp] theorem State.l2Error_keeps (n i : Nat) (e : EccErr) (inj : Bool) (s : State) :
    (State.l2Error n i e inj s).pending = s.pending ∧ (State.l2Error n i e inj s).now = s.now ∧
    (State.l2Error n i e inj s).serial = s.serial ∧ (State.l2Error n i e inj s).out = s.out ∧
    (State.l2Error n i e inj s).pins = s.pins ∧ (State.l2Error n i e inj s).md = s.md ∧
    (State.l2Error n i e inj s).host = s.host ∧ (State.l2Error n i e inj s).cmds = s.cmds ∧
    (State.l2Error n i e inj s).clk = s.clk ∧ (State.l2Error n i e inj s).ref = s.ref ∧
    (State.l2Error n i e inj s).kennel = s.kennel ∧ (State.l2Error n i e inj s).time = s.time ∧
    (State.l2Error n i e inj s).buf = s.buf ∧ (State.l2Error n i e inj s).port = s.port ∧
    (State.l2Error n i e inj s).tab = s.tab ∧ (State.l2Error n i e inj s).gen = s.gen ∧
    (State.l2Error n i e inj s).core = s.core ∧ (State.l2Error n i e inj s).sch = s.sch ∧
    (State.l2Error n i e inj s).tel = s.tel ∧ (State.l2Error n i e inj s).pwr = s.pwr ∧
    (State.l2Error n i e inj s).regs = s.regs ∧ (State.l2Error n i e inj s).cnts = s.cnts ∧
    (State.l2Error n i e inj s).flt.keel0 = s.flt.keel0 ∧ (State.l2Error n i e inj s).flt.keel1 = s.flt.keel1 := by
  (unfold State.l2Error; split <;> simp only [State.setL2_keeps, State.raiseX_keeps, ite_self, and_self, implies_true, Ran.st_done, Ran.st_wait, Ran.st_refuse, Ran.st_ite, snd_ite, ite_pending, ite_now, ite_serial, ite_out, ite_pins, ite_md, ite_host, ite_cmds, ite_clk, ite_ref, ite_kennel, ite_time, ite_buf, ite_port, ite_tab, ite_gen, ite_core, ite_sch, ite_tel, ite_pwr, ite_regs, ite_cnts, ite_flt_keel0, ite_flt_keel1, foldl_pending, foldl_now, foldl_serial, foldl_out, foldl_pins, foldl_md, foldl_host, foldl_cmds, foldl_clk, foldl_ref, foldl_kennel, foldl_time, foldl_buf, foldl_port, foldl_tab, foldl_gen, foldl_core, foldl_sch, foldl_tel, foldl_pwr, foldl_regs, foldl_cnts, foldl_flt_keel0, foldl_flt_keel1, foldl_snd_pending, foldl_snd_now, foldl_snd_serial, foldl_snd_out, foldl_snd_pins, foldl_snd_md, foldl_snd_host, foldl_snd_cmds, foldl_snd_clk, foldl_snd_ref, foldl_snd_kennel, foldl_snd_time, foldl_snd_buf, foldl_snd_port, foldl_snd_tab, foldl_snd_gen, foldl_snd_core, foldl_snd_sch, foldl_snd_tel, foldl_snd_pwr, foldl_snd_regs, foldl_snd_cnts, foldl_snd_flt_keel0, foldl_snd_flt_keel1])

@[simp] theorem State.l2Err_keeps (n i : Nat) (e : Option EccErr) (inj : Bool) (s : State) :
    (State.l2Err n i e inj s).pending = s.pending ∧ (State.l2Err n i e inj s).now = s.now ∧
    (State.l2Err n i e inj s).serial = s.serial ∧ (State.l2Err n i e inj s).out = s.out ∧
    (State.l2Err n i e inj s).pins = s.pins ∧ (State.l2Err n i e inj s).md = s.md ∧
    (State.l2Err n i e inj s).host = s.host ∧ (State.l2Err n i e inj s).cmds = s.cmds ∧
    (State.l2Err n i e inj s).clk = s.clk ∧ (State.l2Err n i e inj s).ref = s.ref ∧
    (State.l2Err n i e inj s).kennel = s.kennel ∧ (State.l2Err n i e inj s).time = s.time ∧
    (State.l2Err n i e inj s).buf = s.buf ∧ (State.l2Err n i e inj s).port = s.port ∧
    (State.l2Err n i e inj s).tab = s.tab ∧ (State.l2Err n i e inj s).gen = s.gen ∧
    (State.l2Err n i e inj s).core = s.core ∧ (State.l2Err n i e inj s).sch = s.sch ∧
    (State.l2Err n i e inj s).tel = s.tel ∧ (State.l2Err n i e inj s).pwr = s.pwr ∧
    (State.l2Err n i e inj s).regs = s.regs ∧ (State.l2Err n i e inj s).cnts = s.cnts ∧
    (State.l2Err n i e inj s).flt.keel0 = s.flt.keel0 ∧ (State.l2Err n i e inj s).flt.keel1 = s.flt.keel1 := by
  (unfold State.l2Err; split <;> simp only [State.l2Error_keeps, ite_self, and_self, implies_true, Ran.st_done, Ran.st_wait, Ran.st_refuse, Ran.st_ite, snd_ite, ite_pending, ite_now, ite_serial, ite_out, ite_pins, ite_md, ite_host, ite_cmds, ite_clk, ite_ref, ite_kennel, ite_time, ite_buf, ite_port, ite_tab, ite_gen, ite_core, ite_sch, ite_tel, ite_pwr, ite_regs, ite_cnts, ite_flt_keel0, ite_flt_keel1, foldl_pending, foldl_now, foldl_serial, foldl_out, foldl_pins, foldl_md, foldl_host, foldl_cmds, foldl_clk, foldl_ref, foldl_kennel, foldl_time, foldl_buf, foldl_port, foldl_tab, foldl_gen, foldl_core, foldl_sch, foldl_tel, foldl_pwr, foldl_regs, foldl_cnts, foldl_flt_keel0, foldl_flt_keel1, foldl_snd_pending, foldl_snd_now, foldl_snd_serial, foldl_snd_out, foldl_snd_pins, foldl_snd_md, foldl_snd_host, foldl_snd_cmds, foldl_snd_clk, foldl_snd_ref, foldl_snd_kennel, foldl_snd_time, foldl_snd_buf, foldl_snd_port, foldl_snd_tab, foldl_snd_gen, foldl_snd_core, foldl_snd_sch, foldl_snd_tel, foldl_snd_pwr, foldl_snd_regs, foldl_snd_cnts, foldl_snd_flt_keel0, foldl_snd_flt_keel1])

@[simp] theorem State.l2Check_keeps (n vid mac : Nat) (errs : List (Nat × EccErr)) (s : State) :
    (State.l2Check n vid mac errs s).pending = s.pending ∧ (State.l2Check n vid mac errs s).now = s.now ∧
    (State.l2Check n vid mac errs s).serial = s.serial ∧ (State.l2Check n vid mac errs s).out = s.out ∧
    (State.l2Check n vid mac errs s).pins = s.pins ∧ (State.l2Check n vid mac errs s).md = s.md ∧
    (State.l2Check n vid mac errs s).host = s.host ∧ (State.l2Check n vid mac errs s).cmds = s.cmds ∧
    (State.l2Check n vid mac errs s).clk = s.clk ∧ (State.l2Check n vid mac errs s).ref = s.ref ∧
    (State.l2Check n vid mac errs s).kennel = s.kennel ∧ (State.l2Check n vid mac errs s).time = s.time ∧
    (State.l2Check n vid mac errs s).buf = s.buf ∧ (State.l2Check n vid mac errs s).port = s.port ∧
    (State.l2Check n vid mac errs s).tab = s.tab ∧ (State.l2Check n vid mac errs s).gen = s.gen ∧
    (State.l2Check n vid mac errs s).core = s.core ∧ (State.l2Check n vid mac errs s).sch = s.sch ∧
    (State.l2Check n vid mac errs s).tel = s.tel ∧ (State.l2Check n vid mac errs s).pwr = s.pwr ∧
    (State.l2Check n vid mac errs s).regs = s.regs ∧ (State.l2Check n vid mac errs s).cnts = s.cnts ∧
    (State.l2Check n vid mac errs s).flt.keel0 = s.flt.keel0 ∧
    (State.l2Check n vid mac errs s).flt.keel1 = s.flt.keel1 := by
  (unfold State.l2Check; simp only [State.injected_keeps, State.l2Err_keeps, ite_self, and_self, implies_true, Ran.st_done, Ran.st_wait, Ran.st_refuse, Ran.st_ite, snd_ite, foldl_pending, foldl_now, foldl_serial, foldl_out, foldl_pins, foldl_md, foldl_host, foldl_cmds, foldl_clk, foldl_ref, foldl_kennel, foldl_time, foldl_buf, foldl_port, foldl_tab, foldl_gen, foldl_core, foldl_sch, foldl_tel, foldl_pwr, foldl_regs, foldl_cnts, foldl_flt_keel0, foldl_flt_keel1, foldl_snd_pending, foldl_snd_now, foldl_snd_serial, foldl_snd_out, foldl_snd_pins, foldl_snd_md, foldl_snd_host, foldl_snd_cmds, foldl_snd_clk, foldl_snd_ref, foldl_snd_kennel, foldl_snd_time, foldl_snd_buf, foldl_snd_port, foldl_snd_tab, foldl_snd_gen, foldl_snd_core, foldl_snd_sch, foldl_snd_tel, foldl_snd_pwr, foldl_snd_regs, foldl_snd_cnts, foldl_snd_flt_keel0, foldl_snd_flt_keel1]; done)

@[simp] theorem State.l2Evt_keeps (typ code source n vid mac : Nat) (s : State) :
    (State.l2Evt typ code source n vid mac s).pending = s.pending ∧
    (State.l2Evt typ code source n vid mac s).now = s.now ∧
    (State.l2Evt typ code source n vid mac s).serial = s.serial ∧
    (State.l2Evt typ code source n vid mac s).pins = s.pins ∧ (State.l2Evt typ code source n vid mac s).md = s.md ∧
    (State.l2Evt typ code source n vid mac s).cmds = s.cmds ∧
    (State.l2Evt typ code source n vid mac s).flt = s.flt ∧ (State.l2Evt typ code source n vid mac s).clk = s.clk ∧
    (State.l2Evt typ code source n vid mac s).ref = s.ref ∧
    (State.l2Evt typ code source n vid mac s).kennel = s.kennel ∧
    (State.l2Evt typ code source n vid mac s).time = s.time ∧
    (State.l2Evt typ code source n vid mac s).buf = s.buf ∧
    (State.l2Evt typ code source n vid mac s).port = s.port ∧
    (State.l2Evt typ code source n vid mac s).slices = s.slices ∧
    (State.l2Evt typ code source n vid mac s).tab = s.tab ∧ (State.l2Evt typ code source n vid mac s).gen = s.gen ∧
    (State.l2Evt typ code source n vid mac s).core = s.core ∧
    (State.l2Evt typ code source n vid mac s).sch = s.sch ∧ (State.l2Evt typ code source n vid mac s).tel = s.tel ∧
    (State.l2Evt typ code source n vid mac s).pwr = s.pwr ∧
    (State.l2Evt typ code source n vid mac s).regs = s.regs ∧
    (State.l2Evt typ code source n vid mac s).cnts = s.cnts := by
  (unfold State.l2Evt; simp only [State.post_keeps, ite_self, and_self, implies_true, Ran.st_done, Ran.st_wait, Ran.st_refuse, Ran.st_ite, snd_ite, foldl_pending, foldl_now, foldl_serial, foldl_pins, foldl_md, foldl_cmds, foldl_flt, foldl_clk, foldl_ref, foldl_kennel, foldl_time, foldl_buf, foldl_port, foldl_slices, foldl_tab, foldl_gen, foldl_core, foldl_sch, foldl_tel, foldl_pwr, foldl_regs, foldl_cnts, foldl_snd_pending, foldl_snd_now, foldl_snd_serial, foldl_snd_pins, foldl_snd_md, foldl_snd_cmds, foldl_snd_flt, foldl_snd_clk, foldl_snd_ref, foldl_snd_kennel, foldl_snd_time, foldl_snd_buf, foldl_snd_port, foldl_snd_slices, foldl_snd_tab, foldl_snd_gen, foldl_snd_core, foldl_snd_sch, foldl_snd_tel, foldl_snd_pwr, foldl_snd_regs, foldl_snd_cnts]; done)

@[simp] theorem State.originate_keeps (r : LearnRec) (s : State) :
    (State.originate r s).pending = s.pending ∧ (State.originate r s).now = s.now ∧
    (State.originate r s).serial = s.serial ∧ (State.originate r s).out = s.out ∧
    (State.originate r s).pins = s.pins ∧ (State.originate r s).md = s.md ∧ (State.originate r s).host = s.host ∧
    (State.originate r s).cmds = s.cmds ∧ (State.originate r s).flt = s.flt ∧ (State.originate r s).clk = s.clk ∧
    (State.originate r s).ref = s.ref ∧ (State.originate r s).kennel = s.kennel ∧
    (State.originate r s).time = s.time ∧ (State.originate r s).buf = s.buf ∧ (State.originate r s).port = s.port ∧
    (State.originate r s).gen = s.gen ∧ (State.originate r s).core = s.core ∧ (State.originate r s).sch = s.sch ∧
    (State.originate r s).tel = s.tel ∧ (State.originate r s).pwr = s.pwr ∧ (State.originate r s).regs = s.regs := by
  (unfold State.originate; simp only [State.l2Count_keeps, State.setSlice_keeps, ite_self, and_self, implies_true, Ran.st_done, Ran.st_wait, Ran.st_refuse, Ran.st_ite, snd_ite, ite_pending, ite_now, ite_serial, ite_out, ite_pins, ite_md, ite_host, ite_cmds, ite_flt, ite_clk, ite_ref, ite_kennel, ite_time, ite_buf, ite_port, ite_gen, ite_core, ite_sch, ite_tel, ite_pwr, ite_regs, foldl_pending, foldl_now, foldl_serial, foldl_out, foldl_pins, foldl_md, foldl_host, foldl_cmds, foldl_flt, foldl_clk, foldl_ref, foldl_kennel, foldl_time, foldl_buf, foldl_port, foldl_gen, foldl_core, foldl_sch, foldl_tel, foldl_pwr, foldl_regs, foldl_snd_pending, foldl_snd_now, foldl_snd_serial, foldl_snd_out, foldl_snd_pins, foldl_snd_md, foldl_snd_host, foldl_snd_cmds, foldl_snd_flt, foldl_snd_clk, foldl_snd_ref, foldl_snd_kennel, foldl_snd_time, foldl_snd_buf, foldl_snd_port, foldl_snd_gen, foldl_snd_core, foldl_snd_sch, foldl_snd_tel, foldl_snd_pwr, foldl_snd_regs]; done)

@[simp] theorem State.l2Source_keeps (n port vid mac : Nat) (errs : List (Nat × EccErr)) (s0 : State) :
    (State.l2Source n port vid mac errs s0).pending = s0.pending ∧
    (State.l2Source n port vid mac errs s0).now = s0.now ∧
    (State.l2Source n port vid mac errs s0).serial = s0.serial ∧
    (State.l2Source n port vid mac errs s0).pins = s0.pins ∧ (State.l2Source n port vid mac errs s0).md = s0.md ∧
    (State.l2Source n port vid mac errs s0).cmds = s0.cmds ∧ (State.l2Source n port vid mac errs s0).clk = s0.clk ∧
    (State.l2Source n port vid mac errs s0).ref = s0.ref ∧
    (State.l2Source n port vid mac errs s0).kennel = s0.kennel ∧
    (State.l2Source n port vid mac errs s0).time = s0.time ∧ (State.l2Source n port vid mac errs s0).buf = s0.buf ∧
    (State.l2Source n port vid mac errs s0).port = s0.port ∧ (State.l2Source n port vid mac errs s0).gen = s0.gen ∧
    (State.l2Source n port vid mac errs s0).core = s0.core ∧ (State.l2Source n port vid mac errs s0).sch = s0.sch ∧
    (State.l2Source n port vid mac errs s0).tel = s0.tel ∧ (State.l2Source n port vid mac errs s0).pwr = s0.pwr ∧
    (State.l2Source n port vid mac errs s0).regs = s0.regs ∧
    (State.l2Source n port vid mac errs s0).flt.keel0 = s0.flt.keel0 ∧
    (State.l2Source n port vid mac errs s0).flt.keel1 = s0.flt.keel1 := by
  unfold State.l2Source
  (try dsimp only)
  (repeat' split) <;> first | (simp; done) | (rename_i q; simp [snd_of q]; done) | (rename_i q _; simp [snd_of q]; done)

@[simp] theorem State.applyLearn_keeps (n : Nat) (r : LearnRec) (s : State) :
    (State.applyLearn n r s).pending = s.pending ∧ (State.applyLearn n r s).now = s.now ∧
    (State.applyLearn n r s).serial = s.serial ∧ (State.applyLearn n r s).pins = s.pins ∧
    (State.applyLearn n r s).md = s.md ∧ (State.applyLearn n r s).cmds = s.cmds ∧
    (State.applyLearn n r s).flt = s.flt ∧ (State.applyLearn n r s).clk = s.clk ∧
    (State.applyLearn n r s).ref = s.ref ∧ (State.applyLearn n r s).kennel = s.kennel ∧
    (State.applyLearn n r s).time = s.time ∧ (State.applyLearn n r s).buf = s.buf ∧
    (State.applyLearn n r s).port = s.port ∧ (State.applyLearn n r s).tab = s.tab ∧
    (State.applyLearn n r s).gen = s.gen ∧ (State.applyLearn n r s).core = s.core ∧
    (State.applyLearn n r s).sch = s.sch ∧ (State.applyLearn n r s).tel = s.tel ∧
    (State.applyLearn n r s).pwr = s.pwr ∧ (State.applyLearn n r s).regs = s.regs := by
  unfold State.applyLearn
  (try dsimp only)
  (repeat' split) <;> first | (simp; done) | (rename_i q; simp [snd_of q]; done) | (rename_i q _; simp [snd_of q]; done)

@[simp] theorem State.pinNew_keeps (n : Nat) (r : LearnRec) (s : State) :
    (State.pinNew n r s).pending = s.pending ∧ (State.pinNew n r s).now = s.now ∧
    (State.pinNew n r s).serial = s.serial ∧ (State.pinNew n r s).pins = s.pins ∧ (State.pinNew n r s).md = s.md ∧
    (State.pinNew n r s).cmds = s.cmds ∧ (State.pinNew n r s).flt = s.flt ∧ (State.pinNew n r s).clk = s.clk ∧
    (State.pinNew n r s).ref = s.ref ∧ (State.pinNew n r s).kennel = s.kennel ∧
    (State.pinNew n r s).time = s.time ∧ (State.pinNew n r s).buf = s.buf ∧ (State.pinNew n r s).port = s.port ∧
    (State.pinNew n r s).tab = s.tab ∧ (State.pinNew n r s).gen = s.gen ∧ (State.pinNew n r s).core = s.core ∧
    (State.pinNew n r s).sch = s.sch ∧ (State.pinNew n r s).tel = s.tel ∧ (State.pinNew n r s).pwr = s.pwr ∧
    (State.pinNew n r s).regs = s.regs := by
  (unfold State.pinNew; split <;> simp only [State.l2Count_keeps, State.l2Evt_keeps, State.setL2_keeps, ite_self, and_self, implies_true, Ran.st_done, Ran.st_wait, Ran.st_refuse, Ran.st_ite, snd_ite, ite_pending, ite_now, ite_serial, ite_pins, ite_md, ite_cmds, ite_flt, ite_clk, ite_ref, ite_kennel, ite_time, ite_buf, ite_port, ite_tab, ite_gen, ite_core, ite_sch, ite_tel, ite_pwr, ite_regs, foldl_pending, foldl_now, foldl_serial, foldl_pins, foldl_md, foldl_cmds, foldl_flt, foldl_clk, foldl_ref, foldl_kennel, foldl_time, foldl_buf, foldl_port, foldl_tab, foldl_gen, foldl_core, foldl_sch, foldl_tel, foldl_pwr, foldl_regs, foldl_snd_pending, foldl_snd_now, foldl_snd_serial, foldl_snd_pins, foldl_snd_md, foldl_snd_cmds, foldl_snd_flt, foldl_snd_clk, foldl_snd_ref, foldl_snd_kennel, foldl_snd_time, foldl_snd_buf, foldl_snd_port, foldl_snd_tab, foldl_snd_gen, foldl_snd_core, foldl_snd_sch, foldl_snd_tel, foldl_snd_pwr, foldl_snd_regs])

@[simp] theorem State.applyMove_keeps (n : Nat) (flap : Bool) (r : LearnRec) (s : State) :
    (State.applyMove n flap r s).pending = s.pending ∧ (State.applyMove n flap r s).now = s.now ∧
    (State.applyMove n flap r s).serial = s.serial ∧ (State.applyMove n flap r s).pins = s.pins ∧
    (State.applyMove n flap r s).md = s.md ∧ (State.applyMove n flap r s).cmds = s.cmds ∧
    (State.applyMove n flap r s).flt = s.flt ∧ (State.applyMove n flap r s).clk = s.clk ∧
    (State.applyMove n flap r s).ref = s.ref ∧ (State.applyMove n flap r s).kennel = s.kennel ∧
    (State.applyMove n flap r s).time = s.time ∧ (State.applyMove n flap r s).buf = s.buf ∧
    (State.applyMove n flap r s).port = s.port ∧ (State.applyMove n flap r s).tab = s.tab ∧
    (State.applyMove n flap r s).gen = s.gen ∧ (State.applyMove n flap r s).core = s.core ∧
    (State.applyMove n flap r s).sch = s.sch ∧ (State.applyMove n flap r s).tel = s.tel ∧
    (State.applyMove n flap r s).pwr = s.pwr ∧ (State.applyMove n flap r s).regs = s.regs := by
  (unfold State.applyMove; split <;> simp only [State.l2Count_keeps, State.pinNew_keeps, State.l2Evt_keeps, State.setL2_keeps, State.applyLearn_keeps, ite_self, and_self, implies_true, Ran.st_done, Ran.st_wait, Ran.st_refuse, Ran.st_ite, snd_ite, ite_pending, ite_now, ite_serial, ite_pins, ite_md, ite_cmds, ite_flt, ite_clk, ite_ref, ite_kennel, ite_time, ite_buf, ite_port, ite_tab, ite_gen, ite_core, ite_sch, ite_tel, ite_pwr, ite_regs, foldl_pending, foldl_now, foldl_serial, foldl_pins, foldl_md, foldl_cmds, foldl_flt, foldl_clk, foldl_ref, foldl_kennel, foldl_time, foldl_buf, foldl_port, foldl_tab, foldl_gen, foldl_core, foldl_sch, foldl_tel, foldl_pwr, foldl_regs, foldl_snd_pending, foldl_snd_now, foldl_snd_serial, foldl_snd_pins, foldl_snd_md, foldl_snd_cmds, foldl_snd_flt, foldl_snd_clk, foldl_snd_ref, foldl_snd_kennel, foldl_snd_time, foldl_snd_buf, foldl_snd_port, foldl_snd_tab, foldl_snd_gen, foldl_snd_core, foldl_snd_sch, foldl_snd_tel, foldl_snd_pwr, foldl_snd_regs])

@[simp] theorem State.applyRec_keeps (n : Nat) (r : LearnRec) (s : State) :
    (State.applyRec n r s).pending = s.pending ∧ (State.applyRec n r s).now = s.now ∧
    (State.applyRec n r s).serial = s.serial ∧ (State.applyRec n r s).pins = s.pins ∧
    (State.applyRec n r s).md = s.md ∧ (State.applyRec n r s).cmds = s.cmds ∧ (State.applyRec n r s).flt = s.flt ∧
    (State.applyRec n r s).clk = s.clk ∧ (State.applyRec n r s).ref = s.ref ∧
    (State.applyRec n r s).kennel = s.kennel ∧ (State.applyRec n r s).time = s.time ∧
    (State.applyRec n r s).buf = s.buf ∧ (State.applyRec n r s).port = s.port ∧
    (State.applyRec n r s).tab = s.tab ∧ (State.applyRec n r s).gen = s.gen ∧
    (State.applyRec n r s).core = s.core ∧ (State.applyRec n r s).sch = s.sch ∧
    (State.applyRec n r s).tel = s.tel ∧ (State.applyRec n r s).pwr = s.pwr ∧
    (State.applyRec n r s).regs = s.regs := by
  (unfold State.applyRec; (repeat' split) <;> simp only [State.l2Count_keeps, State.l2Evt_keeps, State.setL2_keeps, State.applyLearn_keeps, State.applyMove_keeps, ite_self, and_self, implies_true, Ran.st_done, Ran.st_wait, Ran.st_refuse, Ran.st_ite, snd_ite, ite_pending, ite_now, ite_serial, ite_pins, ite_md, ite_cmds, ite_flt, ite_clk, ite_ref, ite_kennel, ite_time, ite_buf, ite_port, ite_tab, ite_gen, ite_core, ite_sch, ite_tel, ite_pwr, ite_regs, foldl_pending, foldl_now, foldl_serial, foldl_pins, foldl_md, foldl_cmds, foldl_flt, foldl_clk, foldl_ref, foldl_kennel, foldl_time, foldl_buf, foldl_port, foldl_tab, foldl_gen, foldl_core, foldl_sch, foldl_tel, foldl_pwr, foldl_regs, foldl_snd_pending, foldl_snd_now, foldl_snd_serial, foldl_snd_pins, foldl_snd_md, foldl_snd_cmds, foldl_snd_flt, foldl_snd_clk, foldl_snd_ref, foldl_snd_kennel, foldl_snd_time, foldl_snd_buf, foldl_snd_port, foldl_snd_tab, foldl_snd_gen, foldl_snd_core, foldl_snd_sch, foldl_snd_tel, foldl_snd_pwr, foldl_snd_regs])

@[simp] theorem State.l2Store_keeps (m vid mac : Nat) (e : L2Ent) (s : State) :
    (State.l2Store m vid mac e s).pending = s.pending ∧ (State.l2Store m vid mac e s).now = s.now ∧
    (State.l2Store m vid mac e s).serial = s.serial ∧ (State.l2Store m vid mac e s).out = s.out ∧
    (State.l2Store m vid mac e s).pins = s.pins ∧ (State.l2Store m vid mac e s).md = s.md ∧
    (State.l2Store m vid mac e s).host = s.host ∧ (State.l2Store m vid mac e s).cmds = s.cmds ∧
    (State.l2Store m vid mac e s).flt = s.flt ∧ (State.l2Store m vid mac e s).clk = s.clk ∧
    (State.l2Store m vid mac e s).ref = s.ref ∧ (State.l2Store m vid mac e s).kennel = s.kennel ∧
    (State.l2Store m vid mac e s).time = s.time ∧ (State.l2Store m vid mac e s).buf = s.buf ∧
    (State.l2Store m vid mac e s).port = s.port ∧ (State.l2Store m vid mac e s).tab = s.tab ∧
    (State.l2Store m vid mac e s).gen = s.gen ∧ (State.l2Store m vid mac e s).core = s.core ∧
    (State.l2Store m vid mac e s).sch = s.sch ∧ (State.l2Store m vid mac e s).tel = s.tel ∧
    (State.l2Store m vid mac e s).pwr = s.pwr ∧ (State.l2Store m vid mac e s).regs = s.regs ∧
    (State.l2Store m vid mac e s).cnts = s.cnts := by
  (unfold State.l2Store; split <;> simp only [State.setL2_keeps, ite_self, and_self, implies_true, Ran.st_done, Ran.st_wait, Ran.st_refuse, Ran.st_ite, snd_ite, ite_pending, ite_now, ite_serial, ite_out, ite_pins, ite_md, ite_host, ite_cmds, ite_flt, ite_clk, ite_ref, ite_kennel, ite_time, ite_buf, ite_port, ite_tab, ite_gen, ite_core, ite_sch, ite_tel, ite_pwr, ite_regs, ite_cnts, foldl_pending, foldl_now, foldl_serial, foldl_out, foldl_pins, foldl_md, foldl_host, foldl_cmds, foldl_flt, foldl_clk, foldl_ref, foldl_kennel, foldl_time, foldl_buf, foldl_port, foldl_tab, foldl_gen, foldl_core, foldl_sch, foldl_tel, foldl_pwr, foldl_regs, foldl_cnts, foldl_snd_pending, foldl_snd_now, foldl_snd_serial, foldl_snd_out, foldl_snd_pins, foldl_snd_md, foldl_snd_host, foldl_snd_cmds, foldl_snd_flt, foldl_snd_clk, foldl_snd_ref, foldl_snd_kennel, foldl_snd_time, foldl_snd_buf, foldl_snd_port, foldl_snd_tab, foldl_snd_gen, foldl_snd_core, foldl_snd_sch, foldl_snd_tel, foldl_snd_pwr, foldl_snd_regs, foldl_snd_cnts])

@[simp] theorem State.l2Remove_keeps (m vid mac : Nat) (s : State) :
    (State.l2Remove m vid mac s).pending = s.pending ∧ (State.l2Remove m vid mac s).now = s.now ∧
    (State.l2Remove m vid mac s).serial = s.serial ∧ (State.l2Remove m vid mac s).out = s.out ∧
    (State.l2Remove m vid mac s).pins = s.pins ∧ (State.l2Remove m vid mac s).md = s.md ∧
    (State.l2Remove m vid mac s).host = s.host ∧ (State.l2Remove m vid mac s).cmds = s.cmds ∧
    (State.l2Remove m vid mac s).flt = s.flt ∧ (State.l2Remove m vid mac s).clk = s.clk ∧
    (State.l2Remove m vid mac s).ref = s.ref ∧ (State.l2Remove m vid mac s).kennel = s.kennel ∧
    (State.l2Remove m vid mac s).time = s.time ∧ (State.l2Remove m vid mac s).buf = s.buf ∧
    (State.l2Remove m vid mac s).port = s.port ∧ (State.l2Remove m vid mac s).tab = s.tab ∧
    (State.l2Remove m vid mac s).gen = s.gen ∧ (State.l2Remove m vid mac s).core = s.core ∧
    (State.l2Remove m vid mac s).sch = s.sch ∧ (State.l2Remove m vid mac s).tel = s.tel ∧
    (State.l2Remove m vid mac s).pwr = s.pwr ∧ (State.l2Remove m vid mac s).regs = s.regs ∧
    (State.l2Remove m vid mac s).cnts = s.cnts := by
  (unfold State.l2Remove; split <;> simp only [State.setL2_keeps, ite_self, and_self, implies_true, Ran.st_done, Ran.st_wait, Ran.st_refuse, Ran.st_ite, snd_ite, ite_pending, ite_now, ite_serial, ite_out, ite_pins, ite_md, ite_host, ite_cmds, ite_flt, ite_clk, ite_ref, ite_kennel, ite_time, ite_buf, ite_port, ite_tab, ite_gen, ite_core, ite_sch, ite_tel, ite_pwr, ite_regs, ite_cnts, foldl_pending, foldl_now, foldl_serial, foldl_out, foldl_pins, foldl_md, foldl_host, foldl_cmds, foldl_flt, foldl_clk, foldl_ref, foldl_kennel, foldl_time, foldl_buf, foldl_port, foldl_tab, foldl_gen, foldl_core, foldl_sch, foldl_tel, foldl_pwr, foldl_regs, foldl_cnts, foldl_snd_pending, foldl_snd_now, foldl_snd_serial, foldl_snd_out, foldl_snd_pins, foldl_snd_md, foldl_snd_host, foldl_snd_cmds, foldl_snd_flt, foldl_snd_clk, foldl_snd_ref, foldl_snd_kennel, foldl_snd_time, foldl_snd_buf, foldl_snd_port, foldl_snd_tab, foldl_snd_gen, foldl_snd_core, foldl_snd_sch, foldl_snd_tel, foldl_snd_pwr, foldl_snd_regs, foldl_snd_cnts])

@[simp] theorem flushIn_keeps (filter port vid b : Nat) (acc : Nat × State) (n : Nat) :
    (flushIn filter port vid b acc n).2.pending = acc.2.pending ∧
    (flushIn filter port vid b acc n).2.now = acc.2.now ∧
    (flushIn filter port vid b acc n).2.serial = acc.2.serial ∧
    (flushIn filter port vid b acc n).2.out = acc.2.out ∧ (flushIn filter port vid b acc n).2.pins = acc.2.pins ∧
    (flushIn filter port vid b acc n).2.md = acc.2.md ∧ (flushIn filter port vid b acc n).2.host = acc.2.host ∧
    (flushIn filter port vid b acc n).2.cmds = acc.2.cmds ∧ (flushIn filter port vid b acc n).2.flt = acc.2.flt ∧
    (flushIn filter port vid b acc n).2.clk = acc.2.clk ∧ (flushIn filter port vid b acc n).2.ref = acc.2.ref ∧
    (flushIn filter port vid b acc n).2.kennel = acc.2.kennel ∧
    (flushIn filter port vid b acc n).2.time = acc.2.time ∧ (flushIn filter port vid b acc n).2.buf = acc.2.buf ∧
    (flushIn filter port vid b acc n).2.port = acc.2.port ∧ (flushIn filter port vid b acc n).2.tab = acc.2.tab ∧
    (flushIn filter port vid b acc n).2.gen = acc.2.gen ∧ (flushIn filter port vid b acc n).2.core = acc.2.core ∧
    (flushIn filter port vid b acc n).2.sch = acc.2.sch ∧ (flushIn filter port vid b acc n).2.tel = acc.2.tel ∧
    (flushIn filter port vid b acc n).2.pwr = acc.2.pwr ∧ (flushIn filter port vid b acc n).2.regs = acc.2.regs ∧
    (flushIn filter port vid b acc n).2.cnts = acc.2.cnts := by
  (unfold flushIn; simp only [State.setL2_keeps, ite_self, and_self, implies_true, Ran.st_done, Ran.st_wait, Ran.st_refuse, Ran.st_ite, snd_ite, foldl_pending, foldl_now, foldl_serial, foldl_out, foldl_pins, foldl_md, foldl_host, foldl_cmds, foldl_flt, foldl_clk, foldl_ref, foldl_kennel, foldl_time, foldl_buf, foldl_port, foldl_tab, foldl_gen, foldl_core, foldl_sch, foldl_tel, foldl_pwr, foldl_regs, foldl_cnts, foldl_snd_pending, foldl_snd_now, foldl_snd_serial, foldl_snd_out, foldl_snd_pins, foldl_snd_md, foldl_snd_host, foldl_snd_cmds, foldl_snd_flt, foldl_snd_clk, foldl_snd_ref, foldl_snd_kennel, foldl_snd_time, foldl_snd_buf, foldl_snd_port, foldl_snd_tab, foldl_snd_gen, foldl_snd_core, foldl_snd_sch, foldl_snd_tel, foldl_snd_pwr, foldl_snd_regs, foldl_snd_cnts]; done)

@[simp] theorem State.flushBucket_keeps (ns : List Nat) (filter port vid b : Nat) (s : State) :
    (State.flushBucket ns filter port vid b s).2.pending = s.pending ∧
    (State.flushBucket ns filter port vid b s).2.now = s.now ∧
    (State.flushBucket ns filter port vid b s).2.serial = s.serial ∧
    (State.flushBucket ns filter port vid b s).2.out = s.out ∧
    (State.flushBucket ns filter port vid b s).2.pins = s.pins ∧
    (State.flushBucket ns filter port vid b s).2.md = s.md ∧
    (State.flushBucket ns filter port vid b s).2.host = s.host ∧
    (State.flushBucket ns filter port vid b s).2.cmds = s.cmds ∧
    (State.flushBucket ns filter port vid b s).2.flt = s.flt ∧
    (State.flushBucket ns filter port vid b s).2.clk = s.clk ∧
    (State.flushBucket ns filter port vid b s).2.ref = s.ref ∧
    (State.flushBucket ns filter port vid b s).2.kennel = s.kennel ∧
    (State.flushBucket ns filter port vid b s).2.time = s.time ∧
    (State.flushBucket ns filter port vid b s).2.buf = s.buf ∧
    (State.flushBucket ns filter port vid b s).2.port = s.port ∧
    (State.flushBucket ns filter port vid b s).2.tab = s.tab ∧
    (State.flushBucket ns filter port vid b s).2.gen = s.gen ∧
    (State.flushBucket ns filter port vid b s).2.core = s.core ∧
    (State.flushBucket ns filter port vid b s).2.sch = s.sch ∧
    (State.flushBucket ns filter port vid b s).2.tel = s.tel ∧
    (State.flushBucket ns filter port vid b s).2.pwr = s.pwr ∧
    (State.flushBucket ns filter port vid b s).2.regs = s.regs ∧
    (State.flushBucket ns filter port vid b s).2.cnts = s.cnts := by
  (unfold State.flushBucket; simp only [flushIn_keeps, ite_self, and_self, implies_true, Ran.st_done, Ran.st_wait, Ran.st_refuse, Ran.st_ite, snd_ite, foldl_pending, foldl_now, foldl_serial, foldl_out, foldl_pins, foldl_md, foldl_host, foldl_cmds, foldl_flt, foldl_clk, foldl_ref, foldl_kennel, foldl_time, foldl_buf, foldl_port, foldl_tab, foldl_gen, foldl_core, foldl_sch, foldl_tel, foldl_pwr, foldl_regs, foldl_cnts, foldl_snd_pending, foldl_snd_now, foldl_snd_serial, foldl_snd_out, foldl_snd_pins, foldl_snd_md, foldl_snd_host, foldl_snd_cmds, foldl_snd_flt, foldl_snd_clk, foldl_snd_ref, foldl_snd_kennel, foldl_snd_time, foldl_snd_buf, foldl_snd_port, foldl_snd_tab, foldl_snd_gen, foldl_snd_core, foldl_snd_sch, foldl_snd_tel, foldl_snd_pwr, foldl_snd_regs, foldl_snd_cnts]; done)

@[simp] theorem State.stopTablesIf_keeps (own : Nat → Bool) (all : Bool) (s : State) :
    (State.stopTablesIf own all s).pending = s.pending ∧ (State.stopTablesIf own all s).now = s.now ∧
    (State.stopTablesIf own all s).serial = s.serial ∧ (State.stopTablesIf own all s).pins = s.pins ∧
    (State.stopTablesIf own all s).md = s.md ∧ (State.stopTablesIf own all s).flt = s.flt ∧
    (State.stopTablesIf own all s).clk = s.clk ∧ (State.stopTablesIf own all s).ref = s.ref ∧
    (State.stopTablesIf own all s).kennel = s.kennel ∧ (State.stopTablesIf own all s).time = s.time ∧
    (State.stopTablesIf own all s).buf = s.buf ∧ (State.stopTablesIf own all s).port = s.port ∧
    (State.stopTablesIf own all s).slices = s.slices ∧ (State.stopTablesIf own all s).gen = s.gen ∧
    (State.stopTablesIf own all s).core = s.core ∧ (State.stopTablesIf own all s).sch = s.sch ∧
    (State.stopTablesIf own all s).tel = s.tel ∧ (State.stopTablesIf own all s).pwr = s.pwr ∧
    (State.stopTablesIf own all s).regs = s.regs ∧ (State.stopTablesIf own all s).cnts = s.cnts := by
  unfold State.stopTablesIf
  dsimp only
  (repeat' split) <;> simp

@[simp] theorem State.stopFirst_keeps (s : State) :
    (State.stopFirst s).pending = s.pending ∧ (State.stopFirst s).now = s.now ∧
    (State.stopFirst s).serial = s.serial ∧ (State.stopFirst s).pins = s.pins ∧ (State.stopFirst s).md = s.md ∧
    (State.stopFirst s).flt = s.flt ∧ (State.stopFirst s).clk = s.clk ∧ (State.stopFirst s).ref = s.ref ∧
    (State.stopFirst s).kennel = s.kennel ∧ (State.stopFirst s).time = s.time ∧ (State.stopFirst s).buf = s.buf ∧
    (State.stopFirst s).port = s.port ∧ (State.stopFirst s).slices = s.slices ∧ (State.stopFirst s).tab = s.tab ∧
    (State.stopFirst s).gen = s.gen ∧ (State.stopFirst s).core = s.core ∧ (State.stopFirst s).sch = s.sch ∧
    (State.stopFirst s).tel = s.tel ∧ (State.stopFirst s).pwr = s.pwr ∧ (State.stopFirst s).regs = s.regs ∧
    (State.stopFirst s).cnts = s.cnts := by
  (unfold State.stopFirst; simp only [State.complete_keeps, ite_self, and_self, implies_true, Ran.st_done, Ran.st_wait, Ran.st_refuse, Ran.st_ite, snd_ite, foldl_pending, foldl_now, foldl_serial, foldl_pins, foldl_md, foldl_flt, foldl_clk, foldl_ref, foldl_kennel, foldl_time, foldl_buf, foldl_port, foldl_slices, foldl_tab, foldl_gen, foldl_core, foldl_sch, foldl_tel, foldl_pwr, foldl_regs, foldl_cnts, foldl_snd_pending, foldl_snd_now, foldl_snd_serial, foldl_snd_pins, foldl_snd_md, foldl_snd_flt, foldl_snd_clk, foldl_snd_ref, foldl_snd_kennel, foldl_snd_time, foldl_snd_buf, foldl_snd_port, foldl_snd_slices, foldl_snd_tab, foldl_snd_gen, foldl_snd_core, foldl_snd_sch, foldl_snd_tel, foldl_snd_pwr, foldl_snd_regs, foldl_snd_cnts]; done)

@[simp] theorem State.stopTables_keeps (s : State) :
    (State.stopTables s).pending = s.pending ∧ (State.stopTables s).now = s.now ∧
    (State.stopTables s).serial = s.serial ∧ (State.stopTables s).pins = s.pins ∧ (State.stopTables s).md = s.md ∧
    (State.stopTables s).flt = s.flt ∧ (State.stopTables s).clk = s.clk ∧ (State.stopTables s).ref = s.ref ∧
    (State.stopTables s).kennel = s.kennel ∧ (State.stopTables s).time = s.time ∧
    (State.stopTables s).buf = s.buf ∧ (State.stopTables s).port = s.port ∧
    (State.stopTables s).slices = s.slices ∧ (State.stopTables s).gen = s.gen ∧
    (State.stopTables s).core = s.core ∧ (State.stopTables s).sch = s.sch ∧ (State.stopTables s).tel = s.tel ∧
    (State.stopTables s).pwr = s.pwr ∧ (State.stopTables s).regs = s.regs ∧ (State.stopTables s).cnts = s.cnts := by
  (unfold State.stopTables; simp only [State.stopTablesIf_keeps, State.stopFirst_keeps, ite_self, and_self, implies_true, Ran.st_done, Ran.st_wait, Ran.st_refuse, Ran.st_ite, snd_ite, foldl_pending, foldl_now, foldl_serial, foldl_pins, foldl_md, foldl_flt, foldl_clk, foldl_ref, foldl_kennel, foldl_time, foldl_buf, foldl_port, foldl_slices, foldl_gen, foldl_core, foldl_sch, foldl_tel, foldl_pwr, foldl_regs, foldl_cnts, foldl_snd_pending, foldl_snd_now, foldl_snd_serial, foldl_snd_pins, foldl_snd_md, foldl_snd_flt, foldl_snd_clk, foldl_snd_ref, foldl_snd_kennel, foldl_snd_time, foldl_snd_buf, foldl_snd_port, foldl_snd_slices, foldl_snd_gen, foldl_snd_core, foldl_snd_sch, foldl_snd_tel, foldl_snd_pwr, foldl_snd_regs, foldl_snd_cnts]; done)
end Sys2Proof.Machine
end

