-- ==== Sys2Proof/Laws/KeepsClassify.lean ====
section
/-! SUPPORT. What each operation of Machine/Classify.lean keeps: the parts of the state that it leaves as they are. -/
set_option linter.unusedSimpArgs false
set_option linter.unusedVariables false
namespace Sys2Proof.Machine
open Host (Outcome)

@[simp] theorem State.readRules_keeps (n g first : Nat) (errs : List (Nat × EccErr)) (a4 : Nat) (a5 : State) :
    (State.readRules n g first errs a4 a5).2.pending = a5.pending ∧
    (State.readRules n g first errs a4 a5).2.now = a5.now ∧
    (State.readRules n g first errs a4 a5).2.serial = a5.serial ∧
    (State.readRules n g first errs a4 a5).2.out = a5.out ∧
    (State.readRules n g first errs a4 a5).2.pins = a5.pins ∧ (State.readRules n g first errs a4 a5).2.md = a5.md ∧
    (State.readRules n g first errs a4 a5).2.host = a5.host ∧
    (State.readRules n g first errs a4 a5).2.cmds = a5.cmds ∧
    (State.readRules n g first errs a4 a5).2.clk = a5.clk ∧ (State.readRules n g first errs a4 a5).2.ref = a5.ref ∧
    (State.readRules n g first errs a4 a5).2.kennel = a5.kennel ∧
    (State.readRules n g first errs a4 a5).2.time = a5.time ∧
    (State.readRules n g first errs a4 a5).2.buf = a5.buf ∧
    (State.readRules n g first errs a4 a5).2.port = a5.port ∧
    (State.readRules n g first errs a4 a5).2.tab = a5.tab ∧ (State.readRules n g first errs a4 a5).2.gen = a5.gen ∧
    (State.readRules n g first errs a4 a5).2.core = a5.core ∧
    (State.readRules n g first errs a4 a5).2.sch = a5.sch ∧ (State.readRules n g first errs a4 a5).2.tel = a5.tel ∧
    (State.readRules n g first errs a4 a5).2.pwr = a5.pwr ∧
    (State.readRules n g first errs a4 a5).2.regs = a5.regs ∧
    (State.readRules n g first errs a4 a5).2.cnts = a5.cnts ∧
    (State.readRules n g first errs a4 a5).2.flt.keel0 = a5.flt.keel0 ∧
    (State.readRules n g first errs a4 a5).2.flt.keel1 = a5.flt.keel1 := by
  induction a4 generalizing first a5 with
  | zero => simp [State.readRules]
  | succ k ih => unfold State.readRules; simp [ih]

@[simp] theorem State.walk_keeps (n g key : Nat) (errs : List (Nat × EccErr)) (a4 a5 : Nat) (a6 : State) :
    (State.walk n g key errs a4 a5 a6).2.pending = a6.pending ∧ (State.walk n g key errs a4 a5 a6).2.now = a6.now ∧
    (State.walk n g key errs a4 a5 a6).2.serial = a6.serial ∧ (State.walk n g key errs a4 a5 a6).2.out = a6.out ∧
    (State.walk n g key errs a4 a5 a6).2.pins = a6.pins ∧ (State.walk n g key errs a4 a5 a6).2.md = a6.md ∧
    (State.walk n g key errs a4 a5 a6).2.host = a6.host ∧ (State.walk n g key errs a4 a5 a6).2.cmds = a6.cmds ∧
    (State.walk n g key errs a4 a5 a6).2.clk = a6.clk ∧ (State.walk n g key errs a4 a5 a6).2.ref = a6.ref ∧
    (State.walk n g key errs a4 a5 a6).2.kennel = a6.kennel ∧ (State.walk n g key errs a4 a5 a6).2.time = a6.time ∧
    (State.walk n g key errs a4 a5 a6).2.buf = a6.buf ∧ (State.walk n g key errs a4 a5 a6).2.port = a6.port ∧
    (State.walk n g key errs a4 a5 a6).2.tab = a6.tab ∧ (State.walk n g key errs a4 a5 a6).2.gen = a6.gen ∧
    (State.walk n g key errs a4 a5 a6).2.core = a6.core ∧ (State.walk n g key errs a4 a5 a6).2.sch = a6.sch ∧
    (State.walk n g key errs a4 a5 a6).2.tel = a6.tel ∧ (State.walk n g key errs a4 a5 a6).2.pwr = a6.pwr ∧
    (State.walk n g key errs a4 a5 a6).2.regs = a6.regs ∧ (State.walk n g key errs a4 a5 a6).2.cnts = a6.cnts ∧
    (State.walk n g key errs a4 a5 a6).2.flt.keel0 = a6.flt.keel0 ∧
    (State.walk n g key errs a4 a5 a6).2.flt.keel1 = a6.flt.keel1 := by
  induction a4 generalizing a5 a6 with
  | zero => simp [State.walk]
  | succ k ih =>
    unfold State.walk
    dsimp only
    (repeat' split) <;> simp [ih]

@[simp] theorem State.walks_keeps (k : Pkt) (errs : List (Nat × EccErr)) (a2 : List Nat) (a3 : State) :
    (State.walks k errs a2 a3).2.pending = a3.pending ∧ (State.walks k errs a2 a3).2.now = a3.now ∧
    (State.walks k errs a2 a3).2.serial = a3.serial ∧ (State.walks k errs a2 a3).2.out = a3.out ∧
    (State.walks k errs a2 a3).2.pins = a3.pins ∧ (State.walks k errs a2 a3).2.md = a3.md ∧
    (State.walks k errs a2 a3).2.host = a3.host ∧ (State.walks k errs a2 a3).2.cmds = a3.cmds ∧
    (State.walks k errs a2 a3).2.clk = a3.clk ∧ (State.walks k errs a2 a3).2.ref = a3.ref ∧
    (State.walks k errs a2 a3).2.kennel = a3.kennel ∧ (State.walks k errs a2 a3).2.time = a3.time ∧
    (State.walks k errs a2 a3).2.buf = a3.buf ∧ (State.walks k errs a2 a3).2.port = a3.port ∧
    (State.walks k errs a2 a3).2.tab = a3.tab ∧ (State.walks k errs a2 a3).2.gen = a3.gen ∧
    (State.walks k errs a2 a3).2.core = a3.core ∧ (State.walks k errs a2 a3).2.sch = a3.sch ∧
    (State.walks k errs a2 a3).2.pwr = a3.pwr ∧ (State.walks k errs a2 a3).2.regs = a3.regs ∧
    (State.walks k errs a2 a3).2.flt.keel0 = a3.flt.keel0 ∧ (State.walks k errs a2 a3).2.flt.keel1 = a3.flt.keel1 := by
  induction a2 generalizing a3 with
  | nil => simp [State.walks]
  | cons l r ih =>
    unfold State.walks
    dsimp only
    split
    · rename_i q; simp [snd_of q]
    · rename_i q; simp [ih, snd_of q]
    · rename_i q
      split <;> (rename_i q2; simp [ih, snd_of q, snd_of q2])

@[simp] theorem State.aclWords_keeps (k : Pkt) (cls : Nat) (errs : List RowErr) (a3 a4 : Nat) (a5 : State) :
    (State.aclWords k cls errs a3 a4 a5).2.pending = a5.pending ∧
    (State.aclWords k cls errs a3 a4 a5).2.now = a5.now ∧
    (State.aclWords k cls errs a3 a4 a5).2.serial = a5.serial ∧
    (State.aclWords k cls errs a3 a4 a5).2.out = a5.out ∧ (State.aclWords k cls errs a3 a4 a5).2.pins = a5.pins ∧
    (State.aclWords k cls errs a3 a4 a5).2.md = a5.md ∧ (State.aclWords k cls errs a3 a4 a5).2.host = a5.host ∧
    (State.aclWords k cls errs a3 a4 a5).2.cmds = a5.cmds ∧ (State.aclWords k cls errs a3 a4 a5).2.clk = a5.clk ∧
    (State.aclWords k cls errs a3 a4 a5).2.kennel = a5.kennel ∧
    (State.aclWords k cls errs a3 a4 a5).2.time = a5.time ∧ (State.aclWords k cls errs a3 a4 a5).2.buf = a5.buf ∧
    (State.aclWords k cls errs a3 a4 a5).2.port = a5.port ∧ (State.aclWords k cls errs a3 a4 a5).2.tab = a5.tab ∧
    (State.aclWords k cls errs a3 a4 a5).2.gen = a5.gen ∧ (State.aclWords k cls errs a3 a4 a5).2.core = a5.core ∧
    (State.aclWords k cls errs a3 a4 a5).2.sch = a5.sch ∧ (State.aclWords k cls errs a3 a4 a5).2.pwr = a5.pwr ∧
    (State.aclWords k cls errs a3 a4 a5).2.regs = a5.regs ∧
    (State.aclWords k cls errs a3 a4 a5).2.flt.keel0 = a5.flt.keel0 ∧
    (State.aclWords k cls errs a3 a4 a5).2.flt.keel1 = a5.flt.keel1 := by
  induction a3 generalizing a4 a5 with
  | zero => simp [State.aclWords]
  | succ m ih =>
    unfold State.aclWords
    dsimp only
    split
    · rename_i q; simp [snd_of q]
    · rename_i q
      split
      · simp [ih, snd_of q]
      · split <;> (rename_i q2; simp [ih, snd_of q, snd_of q2])

@[simp] theorem State.directFound_keeps (a : Nat) (errs : List MemErr) (s : State) :
    (State.directFound a errs s).2.pending = s.pending ∧ (State.directFound a errs s).2.now = s.now ∧
    (State.directFound a errs s).2.serial = s.serial ∧ (State.directFound a errs s).2.out = s.out ∧
    (State.directFound a errs s).2.pins = s.pins ∧ (State.directFound a errs s).2.md = s.md ∧
    (State.directFound a errs s).2.host = s.host ∧ (State.directFound a errs s).2.cmds = s.cmds ∧
    (State.directFound a errs s).2.clk = s.clk ∧ (State.directFound a errs s).2.ref = s.ref ∧
    (State.directFound a errs s).2.kennel = s.kennel ∧ (State.directFound a errs s).2.time = s.time ∧
    (State.directFound a errs s).2.buf = s.buf ∧ (State.directFound a errs s).2.port = s.port ∧
    (State.directFound a errs s).2.slices = s.slices ∧ (State.directFound a errs s).2.gen = s.gen ∧
    (State.directFound a errs s).2.core = s.core ∧ (State.directFound a errs s).2.sch = s.sch ∧
    (State.directFound a errs s).2.tel = s.tel ∧ (State.directFound a errs s).2.pwr = s.pwr ∧
    (State.directFound a errs s).2.regs = s.regs ∧ (State.directFound a errs s).2.cnts = s.cnts ∧
    (State.directFound a errs s).2.flt.keel0 = s.flt.keel0 ∧
    (State.directFound a errs s).2.flt.keel1 = s.flt.keel1 := by
  unfold State.directFound
  (try dsimp only)
  (repeat' split) <;> first | (simp; done) | (rename_i q; simp [snd_of q]; done) | (rename_i q _; simp [snd_of q]; done)

@[simp] theorem State.viaAnchor_keeps (r mid : Nat) (errs : List MemErr) (s : State) :
    (State.viaAnchor r mid errs s).2.pending = s.pending ∧ (State.viaAnchor r mid errs s).2.now = s.now ∧
    (State.viaAnchor r mid errs s).2.serial = s.serial ∧ (State.viaAnchor r mid errs s).2.out = s.out ∧
    (State.viaAnchor r mid errs s).2.pins = s.pins ∧ (State.viaAnchor r mid errs s).2.md = s.md ∧
    (State.viaAnchor r mid errs s).2.host = s.host ∧ (State.viaAnchor r mid errs s).2.cmds = s.cmds ∧
    (State.viaAnchor r mid errs s).2.clk = s.clk ∧ (State.viaAnchor r mid errs s).2.ref = s.ref ∧
    (State.viaAnchor r mid errs s).2.kennel = s.kennel ∧ (State.viaAnchor r mid errs s).2.time = s.time ∧
    (State.viaAnchor r mid errs s).2.buf = s.buf ∧ (State.viaAnchor r mid errs s).2.port = s.port ∧
    (State.viaAnchor r mid errs s).2.slices = s.slices ∧ (State.viaAnchor r mid errs s).2.gen = s.gen ∧
    (State.viaAnchor r mid errs s).2.core = s.core ∧ (State.viaAnchor r mid errs s).2.sch = s.sch ∧
    (State.viaAnchor r mid errs s).2.tel = s.tel ∧ (State.viaAnchor r mid errs s).2.pwr = s.pwr ∧
    (State.viaAnchor r mid errs s).2.regs = s.regs ∧ (State.viaAnchor r mid errs s).2.cnts = s.cnts ∧
    (State.viaAnchor r mid errs s).2.flt.keel0 = s.flt.keel0 ∧
    (State.viaAnchor r mid errs s).2.flt.keel1 = s.flt.keel1 := by
  (unfold State.viaAnchor; simp only [State.directFound_keeps, ite_self, and_self, implies_true, Ran.st_done, Ran.st_wait, Ran.st_refuse, Ran.st_ite, snd_ite, ite_pending, ite_now, ite_serial, ite_out, ite_pins, ite_md, ite_host, ite_cmds, ite_clk, ite_ref, ite_kennel, ite_time, ite_buf, ite_port, ite_slices, ite_gen, ite_core, ite_sch, ite_tel, ite_pwr, ite_regs, ite_cnts, ite_flt_keel0, ite_flt_keel1, foldl_pending, foldl_now, foldl_serial, foldl_out, foldl_pins, foldl_md, foldl_host, foldl_cmds, foldl_clk, foldl_ref, foldl_kennel, foldl_time, foldl_buf, foldl_port, foldl_slices, foldl_gen, foldl_core, foldl_sch, foldl_tel, foldl_pwr, foldl_regs, foldl_cnts, foldl_flt_keel0, foldl_flt_keel1, foldl_snd_pending, foldl_snd_now, foldl_snd_serial, foldl_snd_out, foldl_snd_pins, foldl_snd_md, foldl_snd_host, foldl_snd_cmds, foldl_snd_clk, foldl_snd_ref, foldl_snd_kennel, foldl_snd_time, foldl_snd_buf, foldl_snd_port, foldl_snd_slices, foldl_snd_gen, foldl_snd_core, foldl_snd_sch, foldl_snd_tel, foldl_snd_pwr, foldl_snd_regs, foldl_snd_cnts, foldl_snd_flt_keel0, foldl_snd_flt_keel1]; done)

@[simp] theorem epAnswer_keeps (k : Pkt) (r : Option (Nat × EpEnt) × State) :
    (epAnswer k r).2.pending = r.2.pending ∧ (epAnswer k r).2.now = r.2.now ∧
    (epAnswer k r).2.serial = r.2.serial ∧ (epAnswer k r).2.out = r.2.out ∧ (epAnswer k r).2.pins = r.2.pins ∧
    (epAnswer k r).2.md = r.2.md ∧ (epAnswer k r).2.host = r.2.host ∧ (epAnswer k r).2.cmds = r.2.cmds ∧
    (epAnswer k r).2.flt = r.2.flt ∧ (epAnswer k r).2.clk = r.2.clk ∧ (epAnswer k r).2.ref = r.2.ref ∧
    (epAnswer k r).2.kennel = r.2.kennel ∧ (epAnswer k r).2.time = r.2.time ∧ (epAnswer k r).2.buf = r.2.buf ∧
    (epAnswer k r).2.port = r.2.port ∧ (epAnswer k r).2.slices = r.2.slices ∧ (epAnswer k r).2.tab = r.2.tab ∧
    (epAnswer k r).2.gen = r.2.gen ∧ (epAnswer k r).2.core = r.2.core ∧ (epAnswer k r).2.sch = r.2.sch ∧
    (epAnswer k r).2.pwr = r.2.pwr ∧ (epAnswer k r).2.regs = r.2.regs := by
  (unfold epAnswer; split <;> simp only [State.pmc0_keeps, ite_self, and_self, implies_true, Ran.st_done, Ran.st_wait, Ran.st_refuse, Ran.st_ite, snd_ite, ite_pending, ite_now, ite_serial, ite_out, ite_pins, ite_md, ite_host, ite_cmds, ite_flt, ite_clk, ite_ref, ite_kennel, ite_time, ite_buf, ite_port, ite_slices, ite_tab, ite_gen, ite_core, ite_sch, ite_pwr, ite_regs, foldl_pending, foldl_now, foldl_serial, foldl_out, foldl_pins, foldl_md, foldl_host, foldl_cmds, foldl_flt, foldl_clk, foldl_ref, foldl_kennel, foldl_time, foldl_buf, foldl_port, foldl_slices, foldl_tab, foldl_gen, foldl_core, foldl_sch, foldl_pwr, foldl_regs, foldl_snd_pending, foldl_snd_now, foldl_snd_serial, foldl_snd_out, foldl_snd_pins, foldl_snd_md, foldl_snd_host, foldl_snd_cmds, foldl_snd_flt, foldl_snd_clk, foldl_snd_ref, foldl_snd_kennel, foldl_snd_time, foldl_snd_buf, foldl_snd_port, foldl_snd_slices, foldl_snd_tab, foldl_snd_gen, foldl_snd_core, foldl_snd_sch, foldl_snd_pwr, foldl_snd_regs])

@[simp] theorem State.epResult_keeps (k : Pkt) (cls : Nat) (errs : List MemErr) (s : State) :
    (State.epResult k cls errs s).2.pending = s.pending ∧ (State.epResult k cls errs s).2.now = s.now ∧
    (State.epResult k cls errs s).2.serial = s.serial ∧ (State.epResult k cls errs s).2.pins = s.pins ∧
    (State.epResult k cls errs s).2.md = s.md ∧ (State.epResult k cls errs s).2.cmds = s.cmds ∧
    (State.epResult k cls errs s).2.clk = s.clk ∧ (State.epResult k cls errs s).2.ref = s.ref ∧
    (State.epResult k cls errs s).2.kennel = s.kennel ∧ (State.epResult k cls errs s).2.time = s.time ∧
    (State.epResult k cls errs s).2.buf = s.buf ∧ (State.epResult k cls errs s).2.port = s.port ∧
    (State.epResult k cls errs s).2.slices = s.slices ∧ (State.epResult k cls errs s).2.gen = s.gen ∧
    (State.epResult k cls errs s).2.core = s.core ∧ (State.epResult k cls errs s).2.sch = s.sch ∧
    (State.epResult k cls errs s).2.pwr = s.pwr ∧ (State.epResult k cls errs s).2.regs = s.regs ∧
    (State.epResult k cls errs s).2.flt.keel0 = s.flt.keel0 ∧
    (State.epResult k cls errs s).2.flt.keel1 = s.flt.keel1 := by
  unfold State.epResult
  dsimp only
  (repeat' split) <;> first | (simp; done) | (rename_i q; simp [snd_of q]; done)

@[simp] theorem State.lpmResult_keeps (k : Pkt) (cls : Nat) (rows : List RowErr) (s : State) :
    (State.lpmResult k cls rows s).2.pending = s.pending ∧ (State.lpmResult k cls rows s).2.now = s.now ∧
    (State.lpmResult k cls rows s).2.serial = s.serial ∧ (State.lpmResult k cls rows s).2.out = s.out ∧
    (State.lpmResult k cls rows s).2.pins = s.pins ∧ (State.lpmResult k cls rows s).2.md = s.md ∧
    (State.lpmResult k cls rows s).2.host = s.host ∧ (State.lpmResult k cls rows s).2.cmds = s.cmds ∧
    (State.lpmResult k cls rows s).2.clk = s.clk ∧ (State.lpmResult k cls rows s).2.kennel = s.kennel ∧
    (State.lpmResult k cls rows s).2.time = s.time ∧ (State.lpmResult k cls rows s).2.buf = s.buf ∧
    (State.lpmResult k cls rows s).2.port = s.port ∧ (State.lpmResult k cls rows s).2.tab = s.tab ∧
    (State.lpmResult k cls rows s).2.gen = s.gen ∧ (State.lpmResult k cls rows s).2.core = s.core ∧
    (State.lpmResult k cls rows s).2.sch = s.sch ∧ (State.lpmResult k cls rows s).2.pwr = s.pwr ∧
    (State.lpmResult k cls rows s).2.regs = s.regs ∧ (State.lpmResult k cls rows s).2.flt.keel0 = s.flt.keel0 ∧
    (State.lpmResult k cls rows s).2.flt.keel1 = s.flt.keel1 := by
  unfold State.lpmResult
  (try dsimp only)
  (repeat' split) <;> first | (simp; done) | (rename_i q; simp [snd_of q]; done) | (rename_i q _; simp [snd_of q]; done)

@[simp] theorem State.forward_keeps (k : Pkt) (asL2 : Bool) (cls : Nat) (errs : List MemErr) (rows : List RowErr) (s : State) :
    (State.forward k asL2 cls errs rows s).2.pending = s.pending ∧
    (State.forward k asL2 cls errs rows s).2.now = s.now ∧
    (State.forward k asL2 cls errs rows s).2.serial = s.serial ∧
    (State.forward k asL2 cls errs rows s).2.pins = s.pins ∧ (State.forward k asL2 cls errs rows s).2.md = s.md ∧
    (State.forward k asL2 cls errs rows s).2.cmds = s.cmds ∧ (State.forward k asL2 cls errs rows s).2.clk = s.clk ∧
    (State.forward k asL2 cls errs rows s).2.kennel = s.kennel ∧
    (State.forward k asL2 cls errs rows s).2.time = s.time ∧ (State.forward k asL2 cls errs rows s).2.buf = s.buf ∧
    (State.forward k asL2 cls errs rows s).2.port = s.port ∧ (State.forward k asL2 cls errs rows s).2.gen = s.gen ∧
    (State.forward k asL2 cls errs rows s).2.core = s.core ∧ (State.forward k asL2 cls errs rows s).2.sch = s.sch ∧
    (State.forward k asL2 cls errs rows s).2.pwr = s.pwr ∧ (State.forward k asL2 cls errs rows s).2.regs = s.regs ∧
    (State.forward k asL2 cls errs rows s).2.flt.keel0 = s.flt.keel0 ∧
    (State.forward k asL2 cls errs rows s).2.flt.keel1 = s.flt.keel1 := by
  unfold State.forward
  dsimp only
  split
  · split
    · rename_i q; simp [snd_of q]
    · rename_i q
      have k1 := snd_of q
      split
      · rename_i q2
        simp [snd_of q2, k1]
      · simp [k1]
  · split <;> simp

@[simp] theorem State.groupDest_keeps (k : Pkt) (g : Nat) (errs : List MemErr) (s : State) :
    (State.groupDest k g errs s).2.pending = s.pending ∧ (State.groupDest k g errs s).2.now = s.now ∧
    (State.groupDest k g errs s).2.serial = s.serial ∧ (State.groupDest k g errs s).2.out = s.out ∧
    (State.groupDest k g errs s).2.pins = s.pins ∧ (State.groupDest k g errs s).2.md = s.md ∧
    (State.groupDest k g errs s).2.host = s.host ∧ (State.groupDest k g errs s).2.cmds = s.cmds ∧
    (State.groupDest k g errs s).2.clk = s.clk ∧ (State.groupDest k g errs s).2.ref = s.ref ∧
    (State.groupDest k g errs s).2.kennel = s.kennel ∧ (State.groupDest k g errs s).2.time = s.time ∧
    (State.groupDest k g errs s).2.buf = s.buf ∧ (State.groupDest k g errs s).2.port = s.port ∧
    (State.groupDest k g errs s).2.tab = s.tab ∧ (State.groupDest k g errs s).2.gen = s.gen ∧
    (State.groupDest k g errs s).2.core = s.core ∧ (State.groupDest k g errs s).2.sch = s.sch ∧
    (State.groupDest k g errs s).2.tel = s.tel ∧ (State.groupDest k g errs s).2.pwr = s.pwr ∧
    (State.groupDest k g errs s).2.regs = s.regs ∧ (State.groupDest k g errs s).2.flt.keel0 = s.flt.keel0 ∧
    (State.groupDest k g errs s).2.flt.keel1 = s.flt.keel1 := by
  unfold State.groupDest
  split <;> (rename_i q; simp [snd_of q])

@[simp] theorem State.foundDest_keeps (k : Pkt) (f : Found) (errs : List MemErr) (s : State) :
    (State.foundDest k f errs s).2.pending = s.pending ∧ (State.foundDest k f errs s).2.now = s.now ∧
    (State.foundDest k f errs s).2.serial = s.serial ∧ (State.foundDest k f errs s).2.out = s.out ∧
    (State.foundDest k f errs s).2.pins = s.pins ∧ (State.foundDest k f errs s).2.md = s.md ∧
    (State.foundDest k f errs s).2.host = s.host ∧ (State.foundDest k f errs s).2.cmds = s.cmds ∧
    (State.foundDest k f errs s).2.clk = s.clk ∧ (State.foundDest k f errs s).2.ref = s.ref ∧
    (State.foundDest k f errs s).2.kennel = s.kennel ∧ (State.foundDest k f errs s).2.time = s.time ∧
    (State.foundDest k f errs s).2.buf = s.buf ∧ (State.foundDest k f errs s).2.port = s.port ∧
    (State.foundDest k f errs s).2.tab = s.tab ∧ (State.foundDest k f errs s).2.gen = s.gen ∧
    (State.foundDest k f errs s).2.core = s.core ∧ (State.foundDest k f errs s).2.sch = s.sch ∧
    (State.foundDest k f errs s).2.tel = s.tel ∧ (State.foundDest k f errs s).2.pwr = s.pwr ∧
    (State.foundDest k f errs s).2.regs = s.regs ∧ (State.foundDest k f errs s).2.flt.keel0 = s.flt.keel0 ∧
    (State.foundDest k f errs s).2.flt.keel1 = s.flt.keel1 := by
  unfold State.foundDest
  (try dsimp only)
  (repeat' split) <;> first | (simp; done) | (rename_i q; simp [snd_of q]; done) | (rename_i q _; simp [snd_of q]; done)

@[simp] theorem State.destOf_keeps (k : Pkt) (ws : List (Nat × Nat)) (f : Found) (errs : List MemErr) (s : State) :
    (State.destOf k ws f errs s).2.pending = s.pending ∧ (State.destOf k ws f errs s).2.now = s.now ∧
    (State.destOf k ws f errs s).2.serial = s.serial ∧ (State.destOf k ws f errs s).2.out = s.out ∧
    (State.destOf k ws f errs s).2.pins = s.pins ∧ (State.destOf k ws f errs s).2.md = s.md ∧
    (State.destOf k ws f errs s).2.host = s.host ∧ (State.destOf k ws f errs s).2.cmds = s.cmds ∧
    (State.destOf k ws f errs s).2.clk = s.clk ∧ (State.destOf k ws f errs s).2.ref = s.ref ∧
    (State.destOf k ws f errs s).2.kennel = s.kennel ∧ (State.destOf k ws f errs s).2.time = s.time ∧
    (State.destOf k ws f errs s).2.buf = s.buf ∧ (State.destOf k ws f errs s).2.port = s.port ∧
    (State.destOf k ws f errs s).2.tab = s.tab ∧ (State.destOf k ws f errs s).2.gen = s.gen ∧
    (State.destOf k ws f errs s).2.core = s.core ∧ (State.destOf k ws f errs s).2.sch = s.sch ∧
    (State.destOf k ws f errs s).2.tel = s.tel ∧ (State.destOf k ws f errs s).2.pwr = s.pwr ∧
    (State.destOf k ws f errs s).2.regs = s.regs ∧ (State.destOf k ws f errs s).2.flt.keel0 = s.flt.keel0 ∧
    (State.destOf k ws f errs s).2.flt.keel1 = s.flt.keel1 := by
  unfold State.destOf
  (try dsimp only)
  (repeat' split) <;> first | (simp; done) | (rename_i q; simp [snd_of q]; done) | (rename_i q _; simp [snd_of q]; done)

@[simp] theorem State.polAdd_keeps (key j n : Nat) (s : State) :
    (State.polAdd key j n s).pending = s.pending ∧ (State.polAdd key j n s).now = s.now ∧
    (State.polAdd key j n s).serial = s.serial ∧ (State.polAdd key j n s).out = s.out ∧
    (State.polAdd key j n s).pins = s.pins ∧ (State.polAdd key j n s).md = s.md ∧
    (State.polAdd key j n s).host = s.host ∧ (State.polAdd key j n s).cmds = s.cmds ∧
    (State.polAdd key j n s).flt = s.flt ∧ (State.polAdd key j n s).clk = s.clk ∧
    (State.polAdd key j n s).ref = s.ref ∧ (State.polAdd key j n s).kennel = s.kennel ∧
    (State.polAdd key j n s).time = s.time ∧ (State.polAdd key j n s).buf = s.buf ∧
    (State.polAdd key j n s).port = s.port ∧ (State.polAdd key j n s).slices = s.slices ∧
    (State.polAdd key j n s).tab = s.tab ∧ (State.polAdd key j n s).gen = s.gen ∧
    (State.polAdd key j n s).core = s.core ∧ (State.polAdd key j n s).tel = s.tel ∧
    (State.polAdd key j n s).pwr = s.pwr ∧ (State.polAdd key j n s).regs = s.regs ∧
    (State.polAdd key j n s).cnts = s.cnts := by
  (unfold State.polAdd; simp only [ite_self, and_self, implies_true, Ran.st_done, Ran.st_wait, Ran.st_refuse, Ran.st_ite, snd_ite, foldl_pending, foldl_now, foldl_serial, foldl_out, foldl_pins, foldl_md, foldl_host, foldl_cmds, foldl_flt, foldl_clk, foldl_ref, foldl_kennel, foldl_time, foldl_buf, foldl_port, foldl_slices, foldl_tab, foldl_gen, foldl_core, foldl_tel, foldl_pwr, foldl_regs, foldl_cnts, foldl_snd_pending, foldl_snd_now, foldl_snd_serial, foldl_snd_out, foldl_snd_pins, foldl_snd_md, foldl_snd_host, foldl_snd_cmds, foldl_snd_flt, foldl_snd_clk, foldl_snd_ref, foldl_snd_kennel, foldl_snd_time, foldl_snd_buf, foldl_snd_port, foldl_snd_slices, foldl_snd_tab, foldl_snd_gen, foldl_snd_core, foldl_snd_tel, foldl_snd_pwr, foldl_snd_regs, foldl_snd_cnts]; done)

@[simp] theorem State.polCount_keeps (key colour len : Nat) (s : State) :
    (State.polCount key colour len s).pending = s.pending ∧ (State.polCount key colour len s).now = s.now ∧
    (State.polCount key colour len s).serial = s.serial ∧ (State.polCount key colour len s).out = s.out ∧
    (State.polCount key colour len s).pins = s.pins ∧ (State.polCount key colour len s).md = s.md ∧
    (State.polCount key colour len s).host = s.host ∧ (State.polCount key colour len s).cmds = s.cmds ∧
    (State.polCount key colour len s).flt = s.flt ∧ (State.polCount key colour len s).clk = s.clk ∧
    (State.polCount key colour len s).ref = s.ref ∧ (State.polCount key colour len s).kennel = s.kennel ∧
    (State.polCount key colour len s).time = s.time ∧ (State.polCount key colour len s).buf = s.buf ∧
    (State.polCount key colour len s).port = s.port ∧ (State.polCount key colour len s).slices = s.slices ∧
    (State.polCount key colour len s).tab = s.tab ∧ (State.polCount key colour len s).gen = s.gen ∧
    (State.polCount key colour len s).core = s.core ∧ (State.polCount key colour len s).tel = s.tel ∧
    (State.polCount key colour len s).pwr = s.pwr ∧ (State.polCount key colour len s).regs = s.regs ∧
    (State.polCount key colour len s).cnts = s.cnts := by
  (unfold State.polCount; simp only [State.polAdd_keeps, ite_self, and_self, implies_true, Ran.st_done, Ran.st_wait, Ran.st_refuse, Ran.st_ite, snd_ite, foldl_pending, foldl_now, foldl_serial, foldl_out, foldl_pins, foldl_md, foldl_host, foldl_cmds, foldl_flt, foldl_clk, foldl_ref, foldl_kennel, foldl_time, foldl_buf, foldl_port, foldl_slices, foldl_tab, foldl_gen, foldl_core, foldl_tel, foldl_pwr, foldl_regs, foldl_cnts, foldl_snd_pending, foldl_snd_now, foldl_snd_serial, foldl_snd_out, foldl_snd_pins, foldl_snd_md, foldl_snd_host, foldl_snd_cmds, foldl_snd_flt, foldl_snd_clk, foldl_snd_ref, foldl_snd_kennel, foldl_snd_time, foldl_snd_buf, foldl_snd_port, foldl_snd_slices, foldl_snd_tab, foldl_snd_gen, foldl_snd_core, foldl_snd_tel, foldl_snd_pwr, foldl_snd_regs, foldl_snd_cnts]; done)

@[simp] theorem State.police_keeps (k : Pkt) (i : Nat) (s : State) :
    (State.police k i s).2.pending = s.pending ∧ (State.police k i s).2.now = s.now ∧
    (State.police k i s).2.serial = s.serial ∧ (State.police k i s).2.out = s.out ∧
    (State.police k i s).2.pins = s.pins ∧ (State.police k i s).2.md = s.md ∧
    (State.police k i s).2.host = s.host ∧ (State.police k i s).2.cmds = s.cmds ∧
    (State.police k i s).2.flt = s.flt ∧ (State.police k i s).2.clk = s.clk ∧ (State.police k i s).2.ref = s.ref ∧
    (State.police k i s).2.kennel = s.kennel ∧ (State.police k i s).2.time = s.time ∧
    (State.police k i s).2.buf = s.buf ∧ (State.police k i s).2.port = s.port ∧
    (State.police k i s).2.slices = s.slices ∧ (State.police k i s).2.tab = s.tab ∧
    (State.police k i s).2.gen = s.gen ∧ (State.police k i s).2.core = s.core ∧
    (State.police k i s).2.pwr = s.pwr ∧ (State.police k i s).2.regs = s.regs := by
  (unfold State.police; simp only [State.polCount_keeps, State.settlePolicers_keeps, State.pmc0_keeps, State.setPolicer_keeps, ite_self, and_self, implies_true, Ran.st_done, Ran.st_wait, Ran.st_refuse, Ran.st_ite, snd_ite, ite_pending, ite_now, ite_serial, ite_out, ite_pins, ite_md, ite_host, ite_cmds, ite_flt, ite_clk, ite_ref, ite_kennel, ite_time, ite_buf, ite_port, ite_slices, ite_tab, ite_gen, ite_core, ite_pwr, ite_regs, foldl_pending, foldl_now, foldl_serial, foldl_out, foldl_pins, foldl_md, foldl_host, foldl_cmds, foldl_flt, foldl_clk, foldl_ref, foldl_kennel, foldl_time, foldl_buf, foldl_port, foldl_slices, foldl_tab, foldl_gen, foldl_core, foldl_pwr, foldl_regs, foldl_snd_pending, foldl_snd_now, foldl_snd_serial, foldl_snd_out, foldl_snd_pins, foldl_snd_md, foldl_snd_host, foldl_snd_cmds, foldl_snd_flt, foldl_snd_clk, foldl_snd_ref, foldl_snd_kennel, foldl_snd_time, foldl_snd_buf, foldl_snd_port, foldl_snd_slices, foldl_snd_tab, foldl_snd_gen, foldl_snd_core, foldl_snd_pwr, foldl_snd_regs]; done)
end Sys2Proof.Machine
end

