-- ==== Sys2Proof/Laws/KeepsPipeline.lean ====
section
/-! SUPPORT. What each operation of Machine/Pipeline.lean keeps: the parts of the state that it leaves as they are. -/
set_option linter.unusedSimpArgs false
set_option linter.unusedVariables false
namespace Sys2Proof.Machine
open Host (Outcome)

@[simp] theorem State.dropAtAdmission_keeps (r : Nat) (pick : Draw) (k : Pkt) (s : State) :
    (State.dropAtAdmission r pick k s).pending = s.pending ∧ (State.dropAtAdmission r pick k s).now = s.now ∧
    (State.dropAtAdmission r pick k s).serial = s.serial ∧ (State.dropAtAdmission r pick k s).pins = s.pins ∧
    (State.dropAtAdmission r pick k s).md = s.md ∧ (State.dropAtAdmission r pick k s).cmds = s.cmds ∧
    (State.dropAtAdmission r pick k s).clk = s.clk ∧ (State.dropAtAdmission r pick k s).kennel = s.kennel ∧
    (State.dropAtAdmission r pick k s).time = s.time ∧ (State.dropAtAdmission r pick k s).port = s.port ∧
    (State.dropAtAdmission r pick k s).slices = s.slices ∧ (State.dropAtAdmission r pick k s).tab = s.tab ∧
    (State.dropAtAdmission r pick k s).sch = s.sch ∧ (State.dropAtAdmission r pick k s).pwr = s.pwr ∧
    (State.dropAtAdmission r pick k s).regs = s.regs ∧ (State.dropAtAdmission r pick k s).flt.keel0 = s.flt.keel0 ∧
    (State.dropAtAdmission r pick k s).flt.keel1 = s.flt.keel1 := by
  (unfold State.dropAtAdmission; simp only [State.dropPkt_keeps, ite_self, and_self, implies_true, Ran.st_done, Ran.st_wait, Ran.st_refuse, Ran.st_ite, snd_ite, foldl_pending, foldl_now, foldl_serial, foldl_pins, foldl_md, foldl_cmds, foldl_clk, foldl_kennel, foldl_time, foldl_port, foldl_slices, foldl_tab, foldl_sch, foldl_pwr, foldl_regs, foldl_flt_keel0, foldl_flt_keel1, foldl_snd_pending, foldl_snd_now, foldl_snd_serial, foldl_snd_pins, foldl_snd_md, foldl_snd_cmds, foldl_snd_clk, foldl_snd_kennel, foldl_snd_time, foldl_snd_port, foldl_snd_slices, foldl_snd_tab, foldl_snd_sch, foldl_snd_pwr, foldl_snd_regs, foldl_snd_flt_keel0, foldl_snd_flt_keel1]; done)

@[simp] theorem State.dropArrivals_keeps (n : Nat) (pick : Draw) (s : State) :
    (State.dropArrivals n pick s).pending = s.pending ∧ (State.dropArrivals n pick s).now = s.now ∧
    (State.dropArrivals n pick s).serial = s.serial ∧ (State.dropArrivals n pick s).pins = s.pins ∧
    (State.dropArrivals n pick s).md = s.md ∧ (State.dropArrivals n pick s).cmds = s.cmds ∧
    (State.dropArrivals n pick s).clk = s.clk ∧ (State.dropArrivals n pick s).kennel = s.kennel ∧
    (State.dropArrivals n pick s).time = s.time ∧ (State.dropArrivals n pick s).port = s.port ∧
    (State.dropArrivals n pick s).slices = s.slices ∧ (State.dropArrivals n pick s).tab = s.tab ∧
    (State.dropArrivals n pick s).sch = s.sch ∧ (State.dropArrivals n pick s).pwr = s.pwr ∧
    (State.dropArrivals n pick s).regs = s.regs ∧ (State.dropArrivals n pick s).flt.keel0 = s.flt.keel0 ∧
    (State.dropArrivals n pick s).flt.keel1 = s.flt.keel1 := by
  (unfold State.dropArrivals; simp only [State.dropAtAdmission_keeps, ite_self, and_self, implies_true, Ran.st_done, Ran.st_wait, Ran.st_refuse, Ran.st_ite, snd_ite, ite_pending, ite_now, ite_serial, ite_pins, ite_md, ite_cmds, ite_clk, ite_kennel, ite_time, ite_port, ite_slices, ite_tab, ite_sch, ite_pwr, ite_regs, ite_flt_keel0, ite_flt_keel1, foldl_pending, foldl_now, foldl_serial, foldl_pins, foldl_md, foldl_cmds, foldl_clk, foldl_kennel, foldl_time, foldl_port, foldl_slices, foldl_tab, foldl_sch, foldl_pwr, foldl_regs, foldl_flt_keel0, foldl_flt_keel1, foldl_snd_pending, foldl_snd_now, foldl_snd_serial, foldl_snd_pins, foldl_snd_md, foldl_snd_cmds, foldl_snd_clk, foldl_snd_kennel, foldl_snd_time, foldl_snd_port, foldl_snd_slices, foldl_snd_tab, foldl_snd_sch, foldl_snd_pwr, foldl_snd_regs, foldl_snd_flt_keel0, foldl_snd_flt_keel1]; done)

@[simp] theorem State.sampleAdmit_keeps (n id : Nat) (s : State) :
    (State.sampleAdmit n id s).pending = s.pending ∧ (State.sampleAdmit n id s).now = s.now ∧
    (State.sampleAdmit n id s).serial = s.serial ∧ (State.sampleAdmit n id s).out = s.out ∧
    (State.sampleAdmit n id s).pins = s.pins ∧ (State.sampleAdmit n id s).md = s.md ∧
    (State.sampleAdmit n id s).host = s.host ∧ (State.sampleAdmit n id s).cmds = s.cmds ∧
    (State.sampleAdmit n id s).flt = s.flt ∧ (State.sampleAdmit n id s).clk = s.clk ∧
    (State.sampleAdmit n id s).ref = s.ref ∧ (State.sampleAdmit n id s).kennel = s.kennel ∧
    (State.sampleAdmit n id s).time = s.time ∧ (State.sampleAdmit n id s).buf = s.buf ∧
    (State.sampleAdmit n id s).port = s.port ∧ (State.sampleAdmit n id s).slices = s.slices ∧
    (State.sampleAdmit n id s).tab = s.tab ∧ (State.sampleAdmit n id s).gen = s.gen ∧
    (State.sampleAdmit n id s).core = s.core ∧ (State.sampleAdmit n id s).sch = s.sch ∧
    (State.sampleAdmit n id s).pwr = s.pwr ∧ (State.sampleAdmit n id s).regs = s.regs ∧
    (State.sampleAdmit n id s).cnts = s.cnts := by
  (unfold State.sampleAdmit; simp only [ite_self, and_self, implies_true, Ran.st_done, Ran.st_wait, Ran.st_refuse, Ran.st_ite, snd_ite, foldl_pending, foldl_now, foldl_serial, foldl_out, foldl_pins, foldl_md, foldl_host, foldl_cmds, foldl_flt, foldl_clk, foldl_ref, foldl_kennel, foldl_time, foldl_buf, foldl_port, foldl_slices, foldl_tab, foldl_gen, foldl_core, foldl_sch, foldl_pwr, foldl_regs, foldl_cnts, foldl_snd_pending, foldl_snd_now, foldl_snd_serial, foldl_snd_out, foldl_snd_pins, foldl_snd_md, foldl_snd_host, foldl_snd_cmds, foldl_snd_flt, foldl_snd_clk, foldl_snd_ref, foldl_snd_kennel, foldl_snd_time, foldl_snd_buf, foldl_snd_port, foldl_snd_slices, foldl_snd_tab, foldl_snd_gen, foldl_snd_core, foldl_snd_sch, foldl_snd_pwr, foldl_snd_regs, foldl_snd_cnts]; done)

@[simp] theorem State.admitPkt_keeps (k : Pkt) (s : State) :
    (State.admitPkt k s).pending = s.pending ∧ (State.admitPkt k s).now = s.now ∧
    (State.admitPkt k s).serial = s.serial ∧ (State.admitPkt k s).out = s.out ∧
    (State.admitPkt k s).pins = s.pins ∧ (State.admitPkt k s).md = s.md ∧ (State.admitPkt k s).host = s.host ∧
    (State.admitPkt k s).cmds = s.cmds ∧ (State.admitPkt k s).flt = s.flt ∧ (State.admitPkt k s).clk = s.clk ∧
    (State.admitPkt k s).ref = s.ref ∧ (State.admitPkt k s).kennel = s.kennel ∧
    (State.admitPkt k s).time = s.time ∧ (State.admitPkt k s).buf = s.buf ∧ (State.admitPkt k s).port = s.port ∧
    (State.admitPkt k s).slices = s.slices ∧ (State.admitPkt k s).tab = s.tab ∧ (State.admitPkt k s).sch = s.sch ∧
    (State.admitPkt k s).pwr = s.pwr ∧ (State.admitPkt k s).regs = s.regs := by
  (unfold State.admitPkt; simp only [State.sampleAdmit_keeps, State.enterGen_keeps, State.slotFill_keeps, State.pmc0_keeps, ite_self, and_self, implies_true, Ran.st_done, Ran.st_wait, Ran.st_refuse, Ran.st_ite, snd_ite, ite_pending, ite_now, ite_serial, ite_out, ite_pins, ite_md, ite_host, ite_cmds, ite_flt, ite_clk, ite_ref, ite_kennel, ite_time, ite_buf, ite_port, ite_slices, ite_tab, ite_sch, ite_pwr, ite_regs, foldl_pending, foldl_now, foldl_serial, foldl_out, foldl_pins, foldl_md, foldl_host, foldl_cmds, foldl_flt, foldl_clk, foldl_ref, foldl_kennel, foldl_time, foldl_buf, foldl_port, foldl_slices, foldl_tab, foldl_sch, foldl_pwr, foldl_regs, foldl_snd_pending, foldl_snd_now, foldl_snd_serial, foldl_snd_out, foldl_snd_pins, foldl_snd_md, foldl_snd_host, foldl_snd_cmds, foldl_snd_flt, foldl_snd_clk, foldl_snd_ref, foldl_snd_kennel, foldl_snd_time, foldl_snd_buf, foldl_snd_port, foldl_snd_slices, foldl_snd_tab, foldl_snd_sch, foldl_snd_pwr, foldl_snd_regs]; done)

@[simp] theorem State.emptySlot_keeps (n : Nat) (kind : SlotKind) (waited : Bool) (s : State) :
    (State.emptySlot n kind waited s).pending = s.pending ∧ (State.emptySlot n kind waited s).now = s.now ∧
    (State.emptySlot n kind waited s).serial = s.serial ∧ (State.emptySlot n kind waited s).out = s.out ∧
    (State.emptySlot n kind waited s).pins = s.pins ∧ (State.emptySlot n kind waited s).md = s.md ∧
    (State.emptySlot n kind waited s).host = s.host ∧ (State.emptySlot n kind waited s).cmds = s.cmds ∧
    (State.emptySlot n kind waited s).flt = s.flt ∧ (State.emptySlot n kind waited s).clk = s.clk ∧
    (State.emptySlot n kind waited s).ref = s.ref ∧ (State.emptySlot n kind waited s).kennel = s.kennel ∧
    (State.emptySlot n kind waited s).time = s.time ∧ (State.emptySlot n kind waited s).buf = s.buf ∧
    (State.emptySlot n kind waited s).port = s.port ∧ (State.emptySlot n kind waited s).slices = s.slices ∧
    (State.emptySlot n kind waited s).tab = s.tab ∧ (State.emptySlot n kind waited s).gen = s.gen ∧
    (State.emptySlot n kind waited s).core = s.core ∧ (State.emptySlot n kind waited s).sch = s.sch ∧
    (State.emptySlot n kind waited s).pwr = s.pwr ∧ (State.emptySlot n kind waited s).regs = s.regs := by
  unfold State.emptySlot
  (try dsimp only)
  (repeat' split) <;> first | (simp; done) | (rename_i q; simp [snd_of q]; done) | (rename_i q _; simp [snd_of q]; done)

@[simp] theorem State.giveSlot_keeps (k : Pkt) (pick : Draw) (kind : SlotKind) (s : State) :
    (State.giveSlot k pick kind s).pending = s.pending ∧ (State.giveSlot k pick kind s).now = s.now ∧
    (State.giveSlot k pick kind s).serial = s.serial ∧ (State.giveSlot k pick kind s).pins = s.pins ∧
    (State.giveSlot k pick kind s).md = s.md ∧ (State.giveSlot k pick kind s).cmds = s.cmds ∧
    (State.giveSlot k pick kind s).clk = s.clk ∧ (State.giveSlot k pick kind s).kennel = s.kennel ∧
    (State.giveSlot k pick kind s).time = s.time ∧ (State.giveSlot k pick kind s).port = s.port ∧
    (State.giveSlot k pick kind s).slices = s.slices ∧ (State.giveSlot k pick kind s).tab = s.tab ∧
    (State.giveSlot k pick kind s).sch = s.sch ∧ (State.giveSlot k pick kind s).pwr = s.pwr ∧
    (State.giveSlot k pick kind s).regs = s.regs ∧ (State.giveSlot k pick kind s).flt.keel0 = s.flt.keel0 ∧
    (State.giveSlot k pick kind s).flt.keel1 = s.flt.keel1 := by
  unfold State.giveSlot
  (try dsimp only)
  (repeat' split) <;> first | (simp; done) | (rename_i q; simp [snd_of q]; done) | (rename_i q _; simp [snd_of q]; done)

@[simp] theorem State.dropLost_keeps (n : Nat) (lost : List Nat) (pick : Draw) (s : State) :
    (State.dropLost n lost pick s).pending = s.pending ∧ (State.dropLost n lost pick s).now = s.now ∧
    (State.dropLost n lost pick s).serial = s.serial ∧ (State.dropLost n lost pick s).pins = s.pins ∧
    (State.dropLost n lost pick s).md = s.md ∧ (State.dropLost n lost pick s).cmds = s.cmds ∧
    (State.dropLost n lost pick s).clk = s.clk ∧ (State.dropLost n lost pick s).kennel = s.kennel ∧
    (State.dropLost n lost pick s).time = s.time ∧ (State.dropLost n lost pick s).port = s.port ∧
    (State.dropLost n lost pick s).slices = s.slices ∧ (State.dropLost n lost pick s).tab = s.tab ∧
    (State.dropLost n lost pick s).sch = s.sch ∧ (State.dropLost n lost pick s).pwr = s.pwr ∧
    (State.dropLost n lost pick s).regs = s.regs ∧ (State.dropLost n lost pick s).flt.keel0 = s.flt.keel0 ∧
    (State.dropLost n lost pick s).flt.keel1 = s.flt.keel1 := by
  (unfold State.dropLost; simp only [State.dropAtAdmission_keeps, ite_self, and_self, implies_true, Ran.st_done, Ran.st_wait, Ran.st_refuse, Ran.st_ite, snd_ite, ite_pending, ite_now, ite_serial, ite_pins, ite_md, ite_cmds, ite_clk, ite_kennel, ite_time, ite_port, ite_slices, ite_tab, ite_sch, ite_pwr, ite_regs, ite_flt_keel0, ite_flt_keel1, foldl_pending, foldl_now, foldl_serial, foldl_pins, foldl_md, foldl_cmds, foldl_clk, foldl_kennel, foldl_time, foldl_port, foldl_slices, foldl_tab, foldl_sch, foldl_pwr, foldl_regs, foldl_flt_keel0, foldl_flt_keel1, foldl_snd_pending, foldl_snd_now, foldl_snd_serial, foldl_snd_pins, foldl_snd_md, foldl_snd_cmds, foldl_snd_clk, foldl_snd_kennel, foldl_snd_time, foldl_snd_port, foldl_snd_slices, foldl_snd_tab, foldl_snd_sch, foldl_snd_pwr, foldl_snd_regs, foldl_snd_flt_keel0, foldl_snd_flt_keel1]; done)

@[simp] theorem State.postSample_keeps (key : Nat) (pick : Draw) (c : Card) (s : State) :
    (State.postSample key pick c s).pending = s.pending ∧ (State.postSample key pick c s).now = s.now ∧
    (State.postSample key pick c s).serial = s.serial ∧ (State.postSample key pick c s).pins = s.pins ∧
    (State.postSample key pick c s).md = s.md ∧ (State.postSample key pick c s).cmds = s.cmds ∧
    (State.postSample key pick c s).flt = s.flt ∧ (State.postSample key pick c s).clk = s.clk ∧
    (State.postSample key pick c s).ref = s.ref ∧ (State.postSample key pick c s).kennel = s.kennel ∧
    (State.postSample key pick c s).time = s.time ∧ (State.postSample key pick c s).port = s.port ∧
    (State.postSample key pick c s).slices = s.slices ∧ (State.postSample key pick c s).tab = s.tab ∧
    (State.postSample key pick c s).gen = s.gen ∧ (State.postSample key pick c s).sch = s.sch ∧
    (State.postSample key pick c s).pwr = s.pwr ∧ (State.postSample key pick c s).regs = s.regs := by
  (unfold State.postSample; simp only [State.sendPostcard_keeps, State.perfCount_keeps, ite_self, and_self, implies_true, Ran.st_done, Ran.st_wait, Ran.st_refuse, Ran.st_ite, snd_ite, foldl_pending, foldl_now, foldl_serial, foldl_pins, foldl_md, foldl_cmds, foldl_flt, foldl_clk, foldl_ref, foldl_kennel, foldl_time, foldl_port, foldl_slices, foldl_tab, foldl_gen, foldl_sch, foldl_pwr, foldl_regs, foldl_snd_pending, foldl_snd_now, foldl_snd_serial, foldl_snd_pins, foldl_snd_md, foldl_snd_cmds, foldl_snd_flt, foldl_snd_clk, foldl_snd_ref, foldl_snd_kennel, foldl_snd_time, foldl_snd_port, foldl_snd_slices, foldl_snd_tab, foldl_snd_gen, foldl_snd_sch, foldl_snd_pwr, foldl_snd_regs]; done)

@[simp] theorem State.sampleLeave_keeps (k : Pkt) (pick : Draw) (s : State) :
    (State.sampleLeave k pick s).pending = s.pending ∧ (State.sampleLeave k pick s).now = s.now ∧
    (State.sampleLeave k pick s).serial = s.serial ∧ (State.sampleLeave k pick s).pins = s.pins ∧
    (State.sampleLeave k pick s).md = s.md ∧ (State.sampleLeave k pick s).cmds = s.cmds ∧
    (State.sampleLeave k pick s).flt = s.flt ∧ (State.sampleLeave k pick s).clk = s.clk ∧
    (State.sampleLeave k pick s).ref = s.ref ∧ (State.sampleLeave k pick s).kennel = s.kennel ∧
    (State.sampleLeave k pick s).time = s.time ∧ (State.sampleLeave k pick s).port = s.port ∧
    (State.sampleLeave k pick s).slices = s.slices ∧ (State.sampleLeave k pick s).tab = s.tab ∧
    (State.sampleLeave k pick s).gen = s.gen ∧ (State.sampleLeave k pick s).sch = s.sch ∧
    (State.sampleLeave k pick s).pwr = s.pwr ∧ (State.sampleLeave k pick s).regs = s.regs := by
  (unfold State.sampleLeave; simp only [State.postSample_keeps, ite_self, and_self, implies_true, Ran.st_done, Ran.st_wait, Ran.st_refuse, Ran.st_ite, snd_ite, foldl_pending, foldl_now, foldl_serial, foldl_pins, foldl_md, foldl_cmds, foldl_flt, foldl_clk, foldl_ref, foldl_kennel, foldl_time, foldl_port, foldl_slices, foldl_tab, foldl_gen, foldl_sch, foldl_pwr, foldl_regs, foldl_snd_pending, foldl_snd_now, foldl_snd_serial, foldl_snd_pins, foldl_snd_md, foldl_snd_cmds, foldl_snd_flt, foldl_snd_clk, foldl_snd_ref, foldl_snd_kennel, foldl_snd_time, foldl_snd_port, foldl_snd_slices, foldl_snd_tab, foldl_snd_gen, foldl_snd_sch, foldl_snd_pwr, foldl_snd_regs]; done)

@[simp] theorem State.lookups_keeps (k : Pkt) (asL2 : Bool) (errs : List MemErr) (rows : List RowErr) (s : State) :
    (State.lookups k asL2 errs rows s).2.pending = s.pending ∧ (State.lookups k asL2 errs rows s).2.now = s.now ∧
    (State.lookups k asL2 errs rows s).2.serial = s.serial ∧ (State.lookups k asL2 errs rows s).2.pins = s.pins ∧
    (State.lookups k asL2 errs rows s).2.md = s.md ∧ (State.lookups k asL2 errs rows s).2.cmds = s.cmds ∧
    (State.lookups k asL2 errs rows s).2.clk = s.clk ∧ (State.lookups k asL2 errs rows s).2.kennel = s.kennel ∧
    (State.lookups k asL2 errs rows s).2.time = s.time ∧ (State.lookups k asL2 errs rows s).2.buf = s.buf ∧
    (State.lookups k asL2 errs rows s).2.port = s.port ∧ (State.lookups k asL2 errs rows s).2.gen = s.gen ∧
    (State.lookups k asL2 errs rows s).2.core = s.core ∧ (State.lookups k asL2 errs rows s).2.sch = s.sch ∧
    (State.lookups k asL2 errs rows s).2.pwr = s.pwr ∧ (State.lookups k asL2 errs rows s).2.regs = s.regs ∧
    (State.lookups k asL2 errs rows s).2.flt.keel0 = s.flt.keel0 ∧
    (State.lookups k asL2 errs rows s).2.flt.keel1 = s.flt.keel1 := by
  unfold State.lookups
  split
  · rename_i q; simp [snd_of q]
  · rename_i s1 q
    have k1 := snd_of q
    dsimp only
    split
    · rename_i q2; simp [snd_of q2, k1]
    · rename_i s2 q2
      have k2 := snd_of q2
      split <;> (rename_i q3; simp [snd_of q3, k2, k1])

@[simp] theorem State.learnFrom_keeps (k : Pkt) (errs : List MemErr) (s : State) :
    (State.learnFrom k errs s).pending = s.pending ∧ (State.learnFrom k errs s).now = s.now ∧
    (State.learnFrom k errs s).serial = s.serial ∧ (State.learnFrom k errs s).pins = s.pins ∧
    (State.learnFrom k errs s).md = s.md ∧ (State.learnFrom k errs s).cmds = s.cmds ∧
    (State.learnFrom k errs s).clk = s.clk ∧ (State.learnFrom k errs s).ref = s.ref ∧
    (State.learnFrom k errs s).kennel = s.kennel ∧ (State.learnFrom k errs s).time = s.time ∧
    (State.learnFrom k errs s).buf = s.buf ∧ (State.learnFrom k errs s).port = s.port ∧
    (State.learnFrom k errs s).gen = s.gen ∧ (State.learnFrom k errs s).core = s.core ∧
    (State.learnFrom k errs s).sch = s.sch ∧ (State.learnFrom k errs s).tel = s.tel ∧
    (State.learnFrom k errs s).pwr = s.pwr ∧ (State.learnFrom k errs s).regs = s.regs ∧
    (State.learnFrom k errs s).flt.keel0 = s.flt.keel0 ∧ (State.learnFrom k errs s).flt.keel1 = s.flt.keel1 := by
  (unfold State.learnFrom; simp only [State.l2Source_keeps, ite_self, and_self, implies_true, Ran.st_done, Ran.st_wait, Ran.st_refuse, Ran.st_ite, snd_ite, ite_pending, ite_now, ite_serial, ite_pins, ite_md, ite_cmds, ite_clk, ite_ref, ite_kennel, ite_time, ite_buf, ite_port, ite_gen, ite_core, ite_sch, ite_tel, ite_pwr, ite_regs, ite_flt_keel0, ite_flt_keel1, foldl_pending, foldl_now, foldl_serial, foldl_pins, foldl_md, foldl_cmds, foldl_clk, foldl_ref, foldl_kennel, foldl_time, foldl_buf, foldl_port, foldl_gen, foldl_core, foldl_sch, foldl_tel, foldl_pwr, foldl_regs, foldl_flt_keel0, foldl_flt_keel1, foldl_snd_pending, foldl_snd_now, foldl_snd_serial, foldl_snd_pins, foldl_snd_md, foldl_snd_cmds, foldl_snd_clk, foldl_snd_ref, foldl_snd_kennel, foldl_snd_time, foldl_snd_buf, foldl_snd_port, foldl_snd_gen, foldl_snd_core, foldl_snd_sch, foldl_snd_tel, foldl_snd_pwr, foldl_snd_regs, foldl_snd_flt_keel0, foldl_snd_flt_keel1]; done)

@[simp] theorem State.actionDrop_keeps (r : Nat) (pick : Draw) (k : Pkt) (s : State) :
    (State.actionDrop r pick k s).pending = s.pending ∧ (State.actionDrop r pick k s).now = s.now ∧
    (State.actionDrop r pick k s).serial = s.serial ∧ (State.actionDrop r pick k s).pins = s.pins ∧
    (State.actionDrop r pick k s).md = s.md ∧ (State.actionDrop r pick k s).cmds = s.cmds ∧
    (State.actionDrop r pick k s).clk = s.clk ∧ (State.actionDrop r pick k s).kennel = s.kennel ∧
    (State.actionDrop r pick k s).time = s.time ∧ (State.actionDrop r pick k s).port = s.port ∧
    (State.actionDrop r pick k s).slices = s.slices ∧ (State.actionDrop r pick k s).tab = s.tab ∧
    (State.actionDrop r pick k s).sch = s.sch ∧ (State.actionDrop r pick k s).pwr = s.pwr ∧
    (State.actionDrop r pick k s).regs = s.regs ∧ (State.actionDrop r pick k s).flt.keel0 = s.flt.keel0 ∧
    (State.actionDrop r pick k s).flt.keel1 = s.flt.keel1 := by
  (unfold State.actionDrop; simp only [State.dropPkt_keeps, State.slotLeave_keeps, State.sampleLeave_keeps, ite_self, and_self, implies_true, Ran.st_done, Ran.st_wait, Ran.st_refuse, Ran.st_ite, snd_ite, foldl_pending, foldl_now, foldl_serial, foldl_pins, foldl_md, foldl_cmds, foldl_clk, foldl_kennel, foldl_time, foldl_port, foldl_slices, foldl_tab, foldl_sch, foldl_pwr, foldl_regs, foldl_flt_keel0, foldl_flt_keel1, foldl_snd_pending, foldl_snd_now, foldl_snd_serial, foldl_snd_pins, foldl_snd_md, foldl_snd_cmds, foldl_snd_clk, foldl_snd_kennel, foldl_snd_time, foldl_snd_port, foldl_snd_slices, foldl_snd_tab, foldl_snd_sch, foldl_snd_pwr, foldl_snd_regs, foldl_snd_flt_keel0, foldl_snd_flt_keel1]; done)

@[simp] theorem State.actionDone_keeps (pick : Draw) (k : Pkt) (f : Fate) (s : State) :
    (State.actionDone pick k f s).pending = s.pending ∧ (State.actionDone pick k f s).now = s.now ∧
    (State.actionDone pick k f s).serial = s.serial ∧ (State.actionDone pick k f s).pins = s.pins ∧
    (State.actionDone pick k f s).md = s.md ∧ (State.actionDone pick k f s).cmds = s.cmds ∧
    (State.actionDone pick k f s).flt = s.flt ∧ (State.actionDone pick k f s).clk = s.clk ∧
    (State.actionDone pick k f s).ref = s.ref ∧ (State.actionDone pick k f s).kennel = s.kennel ∧
    (State.actionDone pick k f s).time = s.time ∧ (State.actionDone pick k f s).port = s.port ∧
    (State.actionDone pick k f s).slices = s.slices ∧ (State.actionDone pick k f s).tab = s.tab ∧
    (State.actionDone pick k f s).gen = s.gen ∧ (State.actionDone pick k f s).sch = s.sch ∧
    (State.actionDone pick k f s).pwr = s.pwr ∧ (State.actionDone pick k f s).regs = s.regs := by
  (unfold State.actionDone; simp only [State.slotLeave_keeps, State.setPkt_keeps, State.sampleLeave_keeps, ite_self, and_self, implies_true, Ran.st_done, Ran.st_wait, Ran.st_refuse, Ran.st_ite, snd_ite, foldl_pending, foldl_now, foldl_serial, foldl_pins, foldl_md, foldl_cmds, foldl_flt, foldl_clk, foldl_ref, foldl_kennel, foldl_time, foldl_port, foldl_slices, foldl_tab, foldl_gen, foldl_sch, foldl_pwr, foldl_regs, foldl_snd_pending, foldl_snd_now, foldl_snd_serial, foldl_snd_pins, foldl_snd_md, foldl_snd_cmds, foldl_snd_flt, foldl_snd_clk, foldl_snd_ref, foldl_snd_kennel, foldl_snd_time, foldl_snd_port, foldl_snd_slices, foldl_snd_tab, foldl_snd_gen, foldl_snd_sch, foldl_snd_pwr, foldl_snd_regs]; done)

@[simp] theorem State.dropKeepCopy_keeps (r : Nat) (pick : Draw) (q mid : Nat) (k : Pkt) (f : Fate) (s : State) :
    (State.dropKeepCopy r pick q mid k f s).pending = s.pending ∧
    (State.dropKeepCopy r pick q mid k f s).now = s.now ∧
    (State.dropKeepCopy r pick q mid k f s).serial = s.serial ∧
    (State.dropKeepCopy r pick q mid k f s).pins = s.pins ∧ (State.dropKeepCopy r pick q mid k f s).md = s.md ∧
    (State.dropKeepCopy r pick q mid k f s).cmds = s.cmds ∧ (State.dropKeepCopy r pick q mid k f s).clk = s.clk ∧
    (State.dropKeepCopy r pick q mid k f s).ref = s.ref ∧
    (State.dropKeepCopy r pick q mid k f s).kennel = s.kennel ∧
    (State.dropKeepCopy r pick q mid k f s).time = s.time ∧ (State.dropKeepCopy r pick q mid k f s).port = s.port ∧
    (State.dropKeepCopy r pick q mid k f s).slices = s.slices ∧
    (State.dropKeepCopy r pick q mid k f s).tab = s.tab ∧ (State.dropKeepCopy r pick q mid k f s).gen = s.gen ∧
    (State.dropKeepCopy r pick q mid k f s).sch = s.sch ∧ (State.dropKeepCopy r pick q mid k f s).pwr = s.pwr ∧
    (State.dropKeepCopy r pick q mid k f s).regs = s.regs ∧
    (State.dropKeepCopy r pick q mid k f s).flt.keel0 = s.flt.keel0 ∧
    (State.dropKeepCopy r pick q mid k f s).flt.keel1 = s.flt.keel1 := by
  (unfold State.dropKeepCopy; simp only [State.slotLeave_keeps, State.setPkt_keeps, State.dropCopy_keeps, State.sampleLeave_keeps, ite_self, and_self, implies_true, Ran.st_done, Ran.st_wait, Ran.st_refuse, Ran.st_ite, snd_ite, foldl_pending, foldl_now, foldl_serial, foldl_pins, foldl_md, foldl_cmds, foldl_clk, foldl_ref, foldl_kennel, foldl_time, foldl_port, foldl_slices, foldl_tab, foldl_gen, foldl_sch, foldl_pwr, foldl_regs, foldl_flt_keel0, foldl_flt_keel1, foldl_snd_pending, foldl_snd_now, foldl_snd_serial, foldl_snd_pins, foldl_snd_md, foldl_snd_cmds, foldl_snd_clk, foldl_snd_ref, foldl_snd_kennel, foldl_snd_time, foldl_snd_port, foldl_snd_slices, foldl_snd_tab, foldl_snd_gen, foldl_snd_sch, foldl_snd_pwr, foldl_snd_regs, foldl_snd_flt_keel0, foldl_snd_flt_keel1]; done)

@[simp] theorem State.policed_keeps (k : Pkt) (pol : Option (Nat × Nat)) (s : State) :
    (State.policed k pol s).2.2.pending = s.pending ∧ (State.policed k pol s).2.2.now = s.now ∧
    (State.policed k pol s).2.2.serial = s.serial ∧ (State.policed k pol s).2.2.out = s.out ∧
    (State.policed k pol s).2.2.pins = s.pins ∧ (State.policed k pol s).2.2.md = s.md ∧
    (State.policed k pol s).2.2.host = s.host ∧ (State.policed k pol s).2.2.cmds = s.cmds ∧
    (State.policed k pol s).2.2.flt = s.flt ∧ (State.policed k pol s).2.2.clk = s.clk ∧
    (State.policed k pol s).2.2.ref = s.ref ∧ (State.policed k pol s).2.2.kennel = s.kennel ∧
    (State.policed k pol s).2.2.time = s.time ∧ (State.policed k pol s).2.2.buf = s.buf ∧
    (State.policed k pol s).2.2.port = s.port ∧ (State.policed k pol s).2.2.slices = s.slices ∧
    (State.policed k pol s).2.2.tab = s.tab ∧ (State.policed k pol s).2.2.gen = s.gen ∧
    (State.policed k pol s).2.2.core = s.core ∧ (State.policed k pol s).2.2.pwr = s.pwr ∧
    (State.policed k pol s).2.2.regs = s.regs := by
  (unfold State.policed; split <;> simp only [State.police_keeps, State.polAdd_keeps, ite_self, and_self, implies_true, Ran.st_done, Ran.st_wait, Ran.st_refuse, Ran.st_ite, snd_ite, ite_pending, ite_now, ite_serial, ite_out, ite_pins, ite_md, ite_host, ite_cmds, ite_flt, ite_clk, ite_ref, ite_kennel, ite_time, ite_buf, ite_port, ite_slices, ite_tab, ite_gen, ite_core, ite_pwr, ite_regs, foldl_pending, foldl_now, foldl_serial, foldl_out, foldl_pins, foldl_md, foldl_host, foldl_cmds, foldl_flt, foldl_clk, foldl_ref, foldl_kennel, foldl_time, foldl_buf, foldl_port, foldl_slices, foldl_tab, foldl_gen, foldl_core, foldl_pwr, foldl_regs, foldl_snd_pending, foldl_snd_now, foldl_snd_serial, foldl_snd_out, foldl_snd_pins, foldl_snd_md, foldl_snd_host, foldl_snd_cmds, foldl_snd_flt, foldl_snd_clk, foldl_snd_ref, foldl_snd_kennel, foldl_snd_time, foldl_snd_buf, foldl_snd_port, foldl_snd_slices, foldl_snd_tab, foldl_snd_gen, foldl_snd_core, foldl_snd_pwr, foldl_snd_regs])

@[simp] theorem State.settleFate_keeps (d : Dest) (red : Bool) (f : Fate) (pick : Draw) (k : Pkt) (s : State) :
    (State.settleFate d red f pick k s).pending = s.pending ∧ (State.settleFate d red f pick k s).now = s.now ∧
    (State.settleFate d red f pick k s).serial = s.serial ∧ (State.settleFate d red f pick k s).pins = s.pins ∧
    (State.settleFate d red f pick k s).md = s.md ∧ (State.settleFate d red f pick k s).cmds = s.cmds ∧
    (State.settleFate d red f pick k s).clk = s.clk ∧ (State.settleFate d red f pick k s).kennel = s.kennel ∧
    (State.settleFate d red f pick k s).time = s.time ∧ (State.settleFate d red f pick k s).port = s.port ∧
    (State.settleFate d red f pick k s).slices = s.slices ∧ (State.settleFate d red f pick k s).tab = s.tab ∧
    (State.settleFate d red f pick k s).sch = s.sch ∧ (State.settleFate d red f pick k s).pwr = s.pwr ∧
    (State.settleFate d red f pick k s).regs = s.regs ∧
    (State.settleFate d red f pick k s).flt.keel0 = s.flt.keel0 ∧
    (State.settleFate d red f pick k s).flt.keel1 = s.flt.keel1 := by
  (unfold State.settleFate; (repeat' split) <;> simp only [State.actionDrop_keeps, State.actionDone_keeps, State.dropKeepCopy_keeps, ite_self, and_self, implies_true, Ran.st_done, Ran.st_wait, Ran.st_refuse, Ran.st_ite, snd_ite, ite_pending, ite_now, ite_serial, ite_pins, ite_md, ite_cmds, ite_clk, ite_kennel, ite_time, ite_port, ite_slices, ite_tab, ite_sch, ite_pwr, ite_regs, ite_flt_keel0, ite_flt_keel1, foldl_pending, foldl_now, foldl_serial, foldl_pins, foldl_md, foldl_cmds, foldl_clk, foldl_kennel, foldl_time, foldl_port, foldl_slices, foldl_tab, foldl_sch, foldl_pwr, foldl_regs, foldl_flt_keel0, foldl_flt_keel1, foldl_snd_pending, foldl_snd_now, foldl_snd_serial, foldl_snd_pins, foldl_snd_md, foldl_snd_cmds, foldl_snd_clk, foldl_snd_kennel, foldl_snd_time, foldl_snd_port, foldl_snd_slices, foldl_snd_tab, foldl_snd_sch, foldl_snd_pwr, foldl_snd_regs, foldl_snd_flt_keel0, foldl_snd_flt_keel1])

@[simp] theorem State.applyActions_keeps (k : Pkt) (ws : List (Nat × Nat)) (cls : Nat) (found : Found) (errs : List MemErr) (pick : Draw) (s : State) :
    (State.applyActions k ws cls found errs pick s).pending = s.pending ∧
    (State.applyActions k ws cls found errs pick s).now = s.now ∧
    (State.applyActions k ws cls found errs pick s).serial = s.serial ∧
    (State.applyActions k ws cls found errs pick s).pins = s.pins ∧
    (State.applyActions k ws cls found errs pick s).md = s.md ∧
    (State.applyActions k ws cls found errs pick s).cmds = s.cmds ∧
    (State.applyActions k ws cls found errs pick s).clk = s.clk ∧
    (State.applyActions k ws cls found errs pick s).kennel = s.kennel ∧
    (State.applyActions k ws cls found errs pick s).time = s.time ∧
    (State.applyActions k ws cls found errs pick s).port = s.port ∧
    (State.applyActions k ws cls found errs pick s).tab = s.tab ∧
    (State.applyActions k ws cls found errs pick s).pwr = s.pwr ∧
    (State.applyActions k ws cls found errs pick s).regs = s.regs ∧
    (State.applyActions k ws cls found errs pick s).flt.keel0 = s.flt.keel0 ∧
    (State.applyActions k ws cls found errs pick s).flt.keel1 = s.flt.keel1 := by
  (unfold State.applyActions; simp only [State.policed_keeps, State.destOf_keeps, State.settleFate_keeps, ite_self, and_self, implies_true, Ran.st_done, Ran.st_wait, Ran.st_refuse, Ran.st_ite, snd_ite, foldl_pending, foldl_now, foldl_serial, foldl_pins, foldl_md, foldl_cmds, foldl_clk, foldl_kennel, foldl_time, foldl_port, foldl_tab, foldl_pwr, foldl_regs, foldl_flt_keel0, foldl_flt_keel1, foldl_snd_pending, foldl_snd_now, foldl_snd_serial, foldl_snd_pins, foldl_snd_md, foldl_snd_cmds, foldl_snd_clk, foldl_snd_kennel, foldl_snd_time, foldl_snd_port, foldl_snd_tab, foldl_snd_pwr, foldl_snd_regs, foldl_snd_flt_keel0, foldl_snd_flt_keel1]; done)
end Sys2Proof.Machine
end

