-- ==== Sys2Proof/Laws/KeepsSwitch.lean ====
section
/-! SUPPORT. What each operation of Machine/Switch.lean keeps: the parts of the state that it leaves as they are. -/
set_option linter.unusedSimpArgs false
set_option linter.unusedVariables false
namespace Sys2Proof.Machine
open Host (Outcome)

@[simp] theorem State.ecnMark_keeps (via r1 r2 : Nat) (d : Desc) (b : List Byte) (s : State) :
    (State.ecnMark via r1 r2 d b s).2.pending = s.pending ∧ (State.ecnMark via r1 r2 d b s).2.now = s.now ∧
    (State.ecnMark via r1 r2 d b s).2.serial = s.serial ∧ (State.ecnMark via r1 r2 d b s).2.out = s.out ∧
    (State.ecnMark via r1 r2 d b s).2.pins = s.pins ∧ (State.ecnMark via r1 r2 d b s).2.md = s.md ∧
    (State.ecnMark via r1 r2 d b s).2.host = s.host ∧ (State.ecnMark via r1 r2 d b s).2.cmds = s.cmds ∧
    (State.ecnMark via r1 r2 d b s).2.flt = s.flt ∧ (State.ecnMark via r1 r2 d b s).2.clk = s.clk ∧
    (State.ecnMark via r1 r2 d b s).2.ref = s.ref ∧ (State.ecnMark via r1 r2 d b s).2.kennel = s.kennel ∧
    (State.ecnMark via r1 r2 d b s).2.time = s.time ∧ (State.ecnMark via r1 r2 d b s).2.buf = s.buf ∧
    (State.ecnMark via r1 r2 d b s).2.port = s.port ∧ (State.ecnMark via r1 r2 d b s).2.slices = s.slices ∧
    (State.ecnMark via r1 r2 d b s).2.tab = s.tab ∧ (State.ecnMark via r1 r2 d b s).2.gen = s.gen ∧
    (State.ecnMark via r1 r2 d b s).2.core = s.core ∧ (State.ecnMark via r1 r2 d b s).2.sch = s.sch ∧
    (State.ecnMark via r1 r2 d b s).2.pwr = s.pwr ∧ (State.ecnMark via r1 r2 d b s).2.regs = s.regs := by
  unfold State.ecnMark
  (try dsimp only)
  (repeat' split) <;> first | (simp; done) | (rename_i q; simp [snd_of q]; done) | (rename_i q _; simp [snd_of q]; done)

@[simp] theorem State.frerAdd_keeps (i k n : Nat) (s : State) :
    (State.frerAdd i k n s).pending = s.pending ∧ (State.frerAdd i k n s).now = s.now ∧
    (State.frerAdd i k n s).serial = s.serial ∧ (State.frerAdd i k n s).out = s.out ∧
    (State.frerAdd i k n s).pins = s.pins ∧ (State.frerAdd i k n s).md = s.md ∧
    (State.frerAdd i k n s).host = s.host ∧ (State.frerAdd i k n s).cmds = s.cmds ∧
    (State.frerAdd i k n s).flt = s.flt ∧ (State.frerAdd i k n s).clk = s.clk ∧
    (State.frerAdd i k n s).ref = s.ref ∧ (State.frerAdd i k n s).kennel = s.kennel ∧
    (State.frerAdd i k n s).time = s.time ∧ (State.frerAdd i k n s).buf = s.buf ∧
    (State.frerAdd i k n s).port = s.port ∧ (State.frerAdd i k n s).slices = s.slices ∧
    (State.frerAdd i k n s).tab = s.tab ∧ (State.frerAdd i k n s).gen = s.gen ∧
    (State.frerAdd i k n s).core = s.core ∧ (State.frerAdd i k n s).sch = s.sch ∧
    (State.frerAdd i k n s).tel = s.tel ∧ (State.frerAdd i k n s).pwr = s.pwr ∧
    (State.frerAdd i k n s).regs = s.regs := by
  (unfold State.frerAdd; simp only [State.count_keeps, ite_self, and_self, implies_true, Ran.st_done, Ran.st_wait, Ran.st_refuse, Ran.st_ite, snd_ite, foldl_pending, foldl_now, foldl_serial, foldl_out, foldl_pins, foldl_md, foldl_host, foldl_cmds, foldl_flt, foldl_clk, foldl_ref, foldl_kennel, foldl_time, foldl_buf, foldl_port, foldl_slices, foldl_tab, foldl_gen, foldl_core, foldl_sch, foldl_tel, foldl_pwr, foldl_regs, foldl_snd_pending, foldl_snd_now, foldl_snd_serial, foldl_snd_out, foldl_snd_pins, foldl_snd_md, foldl_snd_host, foldl_snd_cmds, foldl_snd_flt, foldl_snd_clk, foldl_snd_ref, foldl_snd_kennel, foldl_snd_time, foldl_snd_buf, foldl_snd_port, foldl_snd_slices, foldl_snd_tab, foldl_snd_gen, foldl_snd_core, foldl_snd_sch, foldl_snd_tel, foldl_snd_pwr, foldl_snd_regs]; done)

@[simp] theorem State.frerRecover_keeps (i : Nat) (b : List Byte) (s : State) :
    (State.frerRecover i b s).2.pending = s.pending ∧ (State.frerRecover i b s).2.now = s.now ∧
    (State.frerRecover i b s).2.serial = s.serial ∧ (State.frerRecover i b s).2.out = s.out ∧
    (State.frerRecover i b s).2.pins = s.pins ∧ (State.frerRecover i b s).2.md = s.md ∧
    (State.frerRecover i b s).2.host = s.host ∧ (State.frerRecover i b s).2.cmds = s.cmds ∧
    (State.frerRecover i b s).2.flt = s.flt ∧ (State.frerRecover i b s).2.clk = s.clk ∧
    (State.frerRecover i b s).2.ref = s.ref ∧ (State.frerRecover i b s).2.kennel = s.kennel ∧
    (State.frerRecover i b s).2.buf = s.buf ∧ (State.frerRecover i b s).2.port = s.port ∧
    (State.frerRecover i b s).2.slices = s.slices ∧ (State.frerRecover i b s).2.tab = s.tab ∧
    (State.frerRecover i b s).2.gen = s.gen ∧ (State.frerRecover i b s).2.core = s.core ∧
    (State.frerRecover i b s).2.sch = s.sch ∧ (State.frerRecover i b s).2.tel = s.tel ∧
    (State.frerRecover i b s).2.pwr = s.pwr ∧ (State.frerRecover i b s).2.regs = s.regs := by
  unfold State.frerRecover
  (try dsimp only)
  (repeat' split) <;> first | (simp; done) | (rename_i q; simp [snd_of q]; done) | (rename_i q _; simp [snd_of q]; done)

@[simp] theorem State.frerGenerate_keeps (i : Nat) (b : List Byte) (d : Desc) (s : State) :
    (State.frerGenerate i b d s).2.pending = s.pending ∧ (State.frerGenerate i b d s).2.now = s.now ∧
    (State.frerGenerate i b d s).2.serial = s.serial ∧ (State.frerGenerate i b d s).2.out = s.out ∧
    (State.frerGenerate i b d s).2.pins = s.pins ∧ (State.frerGenerate i b d s).2.md = s.md ∧
    (State.frerGenerate i b d s).2.host = s.host ∧ (State.frerGenerate i b d s).2.cmds = s.cmds ∧
    (State.frerGenerate i b d s).2.flt = s.flt ∧ (State.frerGenerate i b d s).2.clk = s.clk ∧
    (State.frerGenerate i b d s).2.ref = s.ref ∧ (State.frerGenerate i b d s).2.kennel = s.kennel ∧
    (State.frerGenerate i b d s).2.buf = s.buf ∧ (State.frerGenerate i b d s).2.port = s.port ∧
    (State.frerGenerate i b d s).2.slices = s.slices ∧ (State.frerGenerate i b d s).2.tab = s.tab ∧
    (State.frerGenerate i b d s).2.gen = s.gen ∧ (State.frerGenerate i b d s).2.core = s.core ∧
    (State.frerGenerate i b d s).2.sch = s.sch ∧ (State.frerGenerate i b d s).2.tel = s.tel ∧
    (State.frerGenerate i b d s).2.pwr = s.pwr ∧ (State.frerGenerate i b d s).2.regs = s.regs := by
  (unfold State.frerGenerate; simp only [State.frerAdd_keeps, State.setFrer_keeps, ite_self, and_self, implies_true, Ran.st_done, Ran.st_wait, Ran.st_refuse, Ran.st_ite, snd_ite, foldl_pending, foldl_now, foldl_serial, foldl_out, foldl_pins, foldl_md, foldl_host, foldl_cmds, foldl_flt, foldl_clk, foldl_ref, foldl_kennel, foldl_buf, foldl_port, foldl_slices, foldl_tab, foldl_gen, foldl_core, foldl_sch, foldl_tel, foldl_pwr, foldl_regs, foldl_snd_pending, foldl_snd_now, foldl_snd_serial, foldl_snd_out, foldl_snd_pins, foldl_snd_md, foldl_snd_host, foldl_snd_cmds, foldl_snd_flt, foldl_snd_clk, foldl_snd_ref, foldl_snd_kennel, foldl_snd_buf, foldl_snd_port, foldl_snd_slices, foldl_snd_tab, foldl_snd_gen, foldl_snd_core, foldl_snd_sch, foldl_snd_tel, foldl_snd_pwr, foldl_snd_regs]; done)

@[simp] theorem State.splitCopy_keeps (i : Nat) (pick : Draw) (d : Desc) (b : List Byte) (s : State) :
    (State.splitCopy i pick d b s).pending = s.pending ∧ (State.splitCopy i pick d b s).now = s.now ∧
    (State.splitCopy i pick d b s).serial = s.serial ∧ (State.splitCopy i pick d b s).pins = s.pins ∧
    (State.splitCopy i pick d b s).md = s.md ∧ (State.splitCopy i pick d b s).cmds = s.cmds ∧
    (State.splitCopy i pick d b s).clk = s.clk ∧ (State.splitCopy i pick d b s).ref = s.ref ∧
    (State.splitCopy i pick d b s).kennel = s.kennel ∧ (State.splitCopy i pick d b s).time = s.time ∧
    (State.splitCopy i pick d b s).port = s.port ∧ (State.splitCopy i pick d b s).slices = s.slices ∧
    (State.splitCopy i pick d b s).tab = s.tab ∧ (State.splitCopy i pick d b s).gen = s.gen ∧
    (State.splitCopy i pick d b s).sch = s.sch ∧ (State.splitCopy i pick d b s).pwr = s.pwr ∧
    (State.splitCopy i pick d b s).regs = s.regs ∧ (State.splitCopy i pick d b s).flt.keel0 = s.flt.keel0 ∧
    (State.splitCopy i pick d b s).flt.keel1 = s.flt.keel1 := by
  unfold State.splitCopy
  dsimp only
  (repeat' split) <;> first | (simp; done) | (rename_i q; simp [snd_of q]; done)

@[simp] theorem State.giveBack_keeps (k : Pkt) (s : State) :
    (State.giveBack k s).pending = s.pending ∧ (State.giveBack k s).now = s.now ∧
    (State.giveBack k s).serial = s.serial ∧ (State.giveBack k s).out = s.out ∧
    (State.giveBack k s).pins = s.pins ∧ (State.giveBack k s).md = s.md ∧ (State.giveBack k s).host = s.host ∧
    (State.giveBack k s).cmds = s.cmds ∧ (State.giveBack k s).clk = s.clk ∧
    (State.giveBack k s).kennel = s.kennel ∧ (State.giveBack k s).time = s.time ∧
    (State.giveBack k s).port = s.port ∧ (State.giveBack k s).slices = s.slices ∧
    (State.giveBack k s).tab = s.tab ∧ (State.giveBack k s).gen = s.gen ∧ (State.giveBack k s).core = s.core ∧
    (State.giveBack k s).sch = s.sch ∧ (State.giveBack k s).tel = s.tel ∧ (State.giveBack k s).pwr = s.pwr ∧
    (State.giveBack k s).regs = s.regs ∧ (State.giveBack k s).flt.keel0 = s.flt.keel0 ∧
    (State.giveBack k s).flt.keel1 = s.flt.keel1 := by
  (unfold State.giveBack; split <;> simp only [State.release_keeps, ite_self, and_self, implies_true, Ran.st_done, Ran.st_wait, Ran.st_refuse, Ran.st_ite, snd_ite, ite_pending, ite_now, ite_serial, ite_out, ite_pins, ite_md, ite_host, ite_cmds, ite_clk, ite_kennel, ite_time, ite_port, ite_slices, ite_tab, ite_gen, ite_core, ite_sch, ite_tel, ite_pwr, ite_regs, ite_flt_keel0, ite_flt_keel1, foldl_pending, foldl_now, foldl_serial, foldl_out, foldl_pins, foldl_md, foldl_host, foldl_cmds, foldl_clk, foldl_kennel, foldl_time, foldl_port, foldl_slices, foldl_tab, foldl_gen, foldl_core, foldl_sch, foldl_tel, foldl_pwr, foldl_regs, foldl_flt_keel0, foldl_flt_keel1, foldl_snd_pending, foldl_snd_now, foldl_snd_serial, foldl_snd_out, foldl_snd_pins, foldl_snd_md, foldl_snd_host, foldl_snd_cmds, foldl_snd_clk, foldl_snd_kennel, foldl_snd_time, foldl_snd_port, foldl_snd_slices, foldl_snd_tab, foldl_snd_gen, foldl_snd_core, foldl_snd_sch, foldl_snd_tel, foldl_snd_pwr, foldl_snd_regs, foldl_snd_flt_keel0, foldl_snd_flt_keel1])

@[simp] theorem growTo_keeps (k : Pkt) (p o n : Nat) (b : List Byte) (r : Took × State) :
    (growTo k p o n b r).2.2.2.pending = r.2.pending ∧ (growTo k p o n b r).2.2.2.now = r.2.now ∧
    (growTo k p o n b r).2.2.2.serial = r.2.serial ∧ (growTo k p o n b r).2.2.2.out = r.2.out ∧
    (growTo k p o n b r).2.2.2.pins = r.2.pins ∧ (growTo k p o n b r).2.2.2.md = r.2.md ∧
    (growTo k p o n b r).2.2.2.host = r.2.host ∧ (growTo k p o n b r).2.2.2.cmds = r.2.cmds ∧
    (growTo k p o n b r).2.2.2.clk = r.2.clk ∧ (growTo k p o n b r).2.2.2.kennel = r.2.kennel ∧
    (growTo k p o n b r).2.2.2.time = r.2.time ∧ (growTo k p o n b r).2.2.2.port = r.2.port ∧
    (growTo k p o n b r).2.2.2.slices = r.2.slices ∧ (growTo k p o n b r).2.2.2.tab = r.2.tab ∧
    (growTo k p o n b r).2.2.2.gen = r.2.gen ∧ (growTo k p o n b r).2.2.2.core = r.2.core ∧
    (growTo k p o n b r).2.2.2.sch = r.2.sch ∧ (growTo k p o n b r).2.2.2.tel = r.2.tel ∧
    (growTo k p o n b r).2.2.2.pwr = r.2.pwr ∧ (growTo k p o n b r).2.2.2.regs = r.2.regs ∧
    (growTo k p o n b r).2.2.2.flt.keel0 = r.2.flt.keel0 ∧ (growTo k p o n b r).2.2.2.flt.keel1 = r.2.flt.keel1 := by
  (unfold growTo; split <;> simp only [State.giveBack_keeps, State.perfCount_keeps, ite_self, and_self, implies_true, Ran.st_done, Ran.st_wait, Ran.st_refuse, Ran.st_ite, snd_ite, ite_pending, ite_now, ite_serial, ite_out, ite_pins, ite_md, ite_host, ite_cmds, ite_clk, ite_kennel, ite_time, ite_port, ite_slices, ite_tab, ite_gen, ite_core, ite_sch, ite_tel, ite_pwr, ite_regs, ite_flt_keel0, ite_flt_keel1, foldl_pending, foldl_now, foldl_serial, foldl_out, foldl_pins, foldl_md, foldl_host, foldl_cmds, foldl_clk, foldl_kennel, foldl_time, foldl_port, foldl_slices, foldl_tab, foldl_gen, foldl_core, foldl_sch, foldl_tel, foldl_pwr, foldl_regs, foldl_flt_keel0, foldl_flt_keel1, foldl_snd_pending, foldl_snd_now, foldl_snd_serial, foldl_snd_out, foldl_snd_pins, foldl_snd_md, foldl_snd_host, foldl_snd_cmds, foldl_snd_clk, foldl_snd_kennel, foldl_snd_time, foldl_snd_port, foldl_snd_slices, foldl_snd_tab, foldl_snd_gen, foldl_snd_core, foldl_snd_sch, foldl_snd_tel, foldl_snd_pwr, foldl_snd_regs, foldl_snd_flt_keel0, foldl_snd_flt_keel1])

@[simp] theorem State.growFrame_keeps (k : Pkt) (p : Nat) (pick : Draw) (s : State) :
    (State.growFrame k p pick s).2.2.2.pending = s.pending ∧ (State.growFrame k p pick s).2.2.2.now = s.now ∧
    (State.growFrame k p pick s).2.2.2.serial = s.serial ∧ (State.growFrame k p pick s).2.2.2.out = s.out ∧
    (State.growFrame k p pick s).2.2.2.pins = s.pins ∧ (State.growFrame k p pick s).2.2.2.md = s.md ∧
    (State.growFrame k p pick s).2.2.2.host = s.host ∧ (State.growFrame k p pick s).2.2.2.cmds = s.cmds ∧
    (State.growFrame k p pick s).2.2.2.clk = s.clk ∧ (State.growFrame k p pick s).2.2.2.kennel = s.kennel ∧
    (State.growFrame k p pick s).2.2.2.time = s.time ∧ (State.growFrame k p pick s).2.2.2.port = s.port ∧
    (State.growFrame k p pick s).2.2.2.slices = s.slices ∧ (State.growFrame k p pick s).2.2.2.tab = s.tab ∧
    (State.growFrame k p pick s).2.2.2.gen = s.gen ∧ (State.growFrame k p pick s).2.2.2.core = s.core ∧
    (State.growFrame k p pick s).2.2.2.sch = s.sch ∧ (State.growFrame k p pick s).2.2.2.tel = s.tel ∧
    (State.growFrame k p pick s).2.2.2.pwr = s.pwr ∧ (State.growFrame k p pick s).2.2.2.regs = s.regs ∧
    (State.growFrame k p pick s).2.2.2.flt.keel0 = s.flt.keel0 ∧
    (State.growFrame k p pick s).2.2.2.flt.keel1 = s.flt.keel1 := by
  (unfold State.growFrame; (repeat' split) <;> simp only [growTo_keeps, State.take_keeps, State.perfCount_keeps, ite_self, and_self, implies_true, Ran.st_done, Ran.st_wait, Ran.st_refuse, Ran.st_ite, snd_ite, ite_pending, ite_now, ite_serial, ite_out, ite_pins, ite_md, ite_host, ite_cmds, ite_clk, ite_kennel, ite_time, ite_port, ite_slices, ite_tab, ite_gen, ite_core, ite_sch, ite_tel, ite_pwr, ite_regs, ite_flt_keel0, ite_flt_keel1, foldl_pending, foldl_now, foldl_serial, foldl_out, foldl_pins, foldl_md, foldl_host, foldl_cmds, foldl_clk, foldl_kennel, foldl_time, foldl_port, foldl_slices, foldl_tab, foldl_gen, foldl_core, foldl_sch, foldl_tel, foldl_pwr, foldl_regs, foldl_flt_keel0, foldl_flt_keel1, foldl_snd_pending, foldl_snd_now, foldl_snd_serial, foldl_snd_out, foldl_snd_pins, foldl_snd_md, foldl_snd_host, foldl_snd_cmds, foldl_snd_clk, foldl_snd_kennel, foldl_snd_time, foldl_snd_port, foldl_snd_slices, foldl_snd_tab, foldl_snd_gen, foldl_snd_core, foldl_snd_sch, foldl_snd_tel, foldl_snd_pwr, foldl_snd_regs, foldl_snd_flt_keel0, foldl_snd_flt_keel1])

@[simp] theorem State.rewriteFault_keeps (k : Pkt) (s : State) :
    (State.rewriteFault k s).2.pending = s.pending ∧ (State.rewriteFault k s).2.now = s.now ∧
    (State.rewriteFault k s).2.serial = s.serial ∧ (State.rewriteFault k s).2.out = s.out ∧
    (State.rewriteFault k s).2.pins = s.pins ∧ (State.rewriteFault k s).2.md = s.md ∧
    (State.rewriteFault k s).2.host = s.host ∧ (State.rewriteFault k s).2.cmds = s.cmds ∧
    (State.rewriteFault k s).2.clk = s.clk ∧ (State.rewriteFault k s).2.ref = s.ref ∧
    (State.rewriteFault k s).2.kennel = s.kennel ∧ (State.rewriteFault k s).2.time = s.time ∧
    (State.rewriteFault k s).2.port = s.port ∧ (State.rewriteFault k s).2.slices = s.slices ∧
    (State.rewriteFault k s).2.tab = s.tab ∧ (State.rewriteFault k s).2.gen = s.gen ∧
    (State.rewriteFault k s).2.core = s.core ∧ (State.rewriteFault k s).2.sch = s.sch ∧
    (State.rewriteFault k s).2.tel = s.tel ∧ (State.rewriteFault k s).2.pwr = s.pwr ∧
    (State.rewriteFault k s).2.regs = s.regs ∧ (State.rewriteFault k s).2.flt.keel0 = s.flt.keel0 ∧
    (State.rewriteFault k s).2.flt.keel1 = s.flt.keel1 := by
  unfold State.rewriteFault
  split
  · simp
  · rename_i h _
    cases s.buf.check h k.owner <;> simp

@[simp] theorem State.hostCopy_keeps (k : Pkt) (q mid : Nat) (s : State) :
    (State.hostCopy k q mid s).pending = s.pending ∧ (State.hostCopy k q mid s).now = s.now ∧
    (State.hostCopy k q mid s).serial = s.serial ∧ (State.hostCopy k q mid s).out = s.out ∧
    (State.hostCopy k q mid s).pins = s.pins ∧ (State.hostCopy k q mid s).md = s.md ∧
    (State.hostCopy k q mid s).host = s.host ∧ (State.hostCopy k q mid s).cmds = s.cmds ∧
    (State.hostCopy k q mid s).clk = s.clk ∧ (State.hostCopy k q mid s).ref = s.ref ∧
    (State.hostCopy k q mid s).kennel = s.kennel ∧ (State.hostCopy k q mid s).time = s.time ∧
    (State.hostCopy k q mid s).port = s.port ∧ (State.hostCopy k q mid s).slices = s.slices ∧
    (State.hostCopy k q mid s).tab = s.tab ∧ (State.hostCopy k q mid s).gen = s.gen ∧
    (State.hostCopy k q mid s).sch = s.sch ∧ (State.hostCopy k q mid s).tel = s.tel ∧
    (State.hostCopy k q mid s).pwr = s.pwr ∧ (State.hostCopy k q mid s).regs = s.regs ∧
    (State.hostCopy k q mid s).flt.keel0 = s.flt.keel0 ∧ (State.hostCopy k q mid s).flt.keel1 = s.flt.keel1 := by
  (unfold State.hostCopy; split <;> simp only [State.offer_keeps, State.addRef_keeps, ite_self, and_self, implies_true, Ran.st_done, Ran.st_wait, Ran.st_refuse, Ran.st_ite, snd_ite, ite_pending, ite_now, ite_serial, ite_out, ite_pins, ite_md, ite_host, ite_cmds, ite_clk, ite_ref, ite_kennel, ite_time, ite_port, ite_slices, ite_tab, ite_gen, ite_sch, ite_tel, ite_pwr, ite_regs, ite_flt_keel0, ite_flt_keel1, foldl_pending, foldl_now, foldl_serial, foldl_out, foldl_pins, foldl_md, foldl_host, foldl_cmds, foldl_clk, foldl_ref, foldl_kennel, foldl_time, foldl_port, foldl_slices, foldl_tab, foldl_gen, foldl_sch, foldl_tel, foldl_pwr, foldl_regs, foldl_flt_keel0, foldl_flt_keel1, foldl_snd_pending, foldl_snd_now, foldl_snd_serial, foldl_snd_out, foldl_snd_pins, foldl_snd_md, foldl_snd_host, foldl_snd_cmds, foldl_snd_clk, foldl_snd_ref, foldl_snd_kennel, foldl_snd_time, foldl_snd_port, foldl_snd_slices, foldl_snd_tab, foldl_snd_gen, foldl_snd_sch, foldl_snd_tel, foldl_snd_pwr, foldl_snd_regs, foldl_snd_flt_keel0, foldl_snd_flt_keel1])

@[simp] theorem State.enqueueMirrors_keeps (k : Pkt) (d : Desc) (held : Bool) (egress : Option Nat) (pick : Draw) (s : State) :
    (State.enqueueMirrors k d held egress pick s).pending = s.pending ∧
    (State.enqueueMirrors k d held egress pick s).now = s.now ∧
    (State.enqueueMirrors k d held egress pick s).serial = s.serial ∧
    (State.enqueueMirrors k d held egress pick s).pins = s.pins ∧
    (State.enqueueMirrors k d held egress pick s).md = s.md ∧
    (State.enqueueMirrors k d held egress pick s).cmds = s.cmds ∧
    (State.enqueueMirrors k d held egress pick s).clk = s.clk ∧
    (State.enqueueMirrors k d held egress pick s).ref = s.ref ∧
    (State.enqueueMirrors k d held egress pick s).kennel = s.kennel ∧
    (State.enqueueMirrors k d held egress pick s).time = s.time ∧
    (State.enqueueMirrors k d held egress pick s).port = s.port ∧
    (State.enqueueMirrors k d held egress pick s).slices = s.slices ∧
    (State.enqueueMirrors k d held egress pick s).tab = s.tab ∧
    (State.enqueueMirrors k d held egress pick s).gen = s.gen ∧
    (State.enqueueMirrors k d held egress pick s).sch = s.sch ∧
    (State.enqueueMirrors k d held egress pick s).tel = s.tel ∧
    (State.enqueueMirrors k d held egress pick s).pwr = s.pwr ∧
    (State.enqueueMirrors k d held egress pick s).regs = s.regs ∧
    (State.enqueueMirrors k d held egress pick s).flt.keel0 = s.flt.keel0 ∧
    (State.enqueueMirrors k d held egress pick s).flt.keel1 = s.flt.keel1 := by
  unfold State.enqueueMirrors
  cases k.fate.mirror <;> dsimp only <;> split <;> simp

@[simp] theorem State.leaveSlice_keeps (k : Pkt) (recirc : Bool) (s : State) :
    (State.leaveSlice k recirc s).pending = s.pending ∧ (State.leaveSlice k recirc s).now = s.now ∧
    (State.leaveSlice k recirc s).serial = s.serial ∧ (State.leaveSlice k recirc s).out = s.out ∧
    (State.leaveSlice k recirc s).pins = s.pins ∧ (State.leaveSlice k recirc s).md = s.md ∧
    (State.leaveSlice k recirc s).host = s.host ∧ (State.leaveSlice k recirc s).cmds = s.cmds ∧
    (State.leaveSlice k recirc s).flt = s.flt ∧ (State.leaveSlice k recirc s).clk = s.clk ∧
    (State.leaveSlice k recirc s).ref = s.ref ∧ (State.leaveSlice k recirc s).kennel = s.kennel ∧
    (State.leaveSlice k recirc s).time = s.time ∧ (State.leaveSlice k recirc s).buf = s.buf ∧
    (State.leaveSlice k recirc s).port = s.port ∧ (State.leaveSlice k recirc s).slices = s.slices ∧
    (State.leaveSlice k recirc s).tab = s.tab ∧ (State.leaveSlice k recirc s).sch = s.sch ∧
    (State.leaveSlice k recirc s).tel = s.tel ∧ (State.leaveSlice k recirc s).pwr = s.pwr ∧
    (State.leaveSlice k recirc s).regs = s.regs ∧ (State.leaveSlice k recirc s).cnts = s.cnts := by
  (unfold State.leaveSlice; simp only [State.leaveGen_keeps, State.dropPktOut_keeps, ite_self, and_self, implies_true, Ran.st_done, Ran.st_wait, Ran.st_refuse, Ran.st_ite, snd_ite, ite_pending, ite_now, ite_serial, ite_out, ite_pins, ite_md, ite_host, ite_cmds, ite_flt, ite_clk, ite_ref, ite_kennel, ite_time, ite_buf, ite_port, ite_slices, ite_tab, ite_sch, ite_tel, ite_pwr, ite_regs, ite_cnts, foldl_pending, foldl_now, foldl_serial, foldl_out, foldl_pins, foldl_md, foldl_host, foldl_cmds, foldl_flt, foldl_clk, foldl_ref, foldl_kennel, foldl_time, foldl_buf, foldl_port, foldl_slices, foldl_tab, foldl_sch, foldl_tel, foldl_pwr, foldl_regs, foldl_cnts, foldl_snd_pending, foldl_snd_now, foldl_snd_serial, foldl_snd_out, foldl_snd_pins, foldl_snd_md, foldl_snd_host, foldl_snd_cmds, foldl_snd_flt, foldl_snd_clk, foldl_snd_ref, foldl_snd_kennel, foldl_snd_time, foldl_snd_buf, foldl_snd_port, foldl_snd_slices, foldl_snd_tab, foldl_snd_sch, foldl_snd_tel, foldl_snd_pwr, foldl_snd_regs, foldl_snd_cnts]; done)

@[simp] theorem State.frerFirst_keeps (func i : Nat) (b : List Byte) (s : State) :
    (State.frerFirst func i b s).2.pending = s.pending ∧ (State.frerFirst func i b s).2.now = s.now ∧
    (State.frerFirst func i b s).2.serial = s.serial ∧ (State.frerFirst func i b s).2.out = s.out ∧
    (State.frerFirst func i b s).2.pins = s.pins ∧ (State.frerFirst func i b s).2.md = s.md ∧
    (State.frerFirst func i b s).2.host = s.host ∧ (State.frerFirst func i b s).2.cmds = s.cmds ∧
    (State.frerFirst func i b s).2.flt = s.flt ∧ (State.frerFirst func i b s).2.clk = s.clk ∧
    (State.frerFirst func i b s).2.ref = s.ref ∧ (State.frerFirst func i b s).2.kennel = s.kennel ∧
    (State.frerFirst func i b s).2.buf = s.buf ∧ (State.frerFirst func i b s).2.port = s.port ∧
    (State.frerFirst func i b s).2.slices = s.slices ∧ (State.frerFirst func i b s).2.tab = s.tab ∧
    (State.frerFirst func i b s).2.gen = s.gen ∧ (State.frerFirst func i b s).2.core = s.core ∧
    (State.frerFirst func i b s).2.sch = s.sch ∧ (State.frerFirst func i b s).2.tel = s.tel ∧
    (State.frerFirst func i b s).2.pwr = s.pwr ∧ (State.frerFirst func i b s).2.regs = s.regs := by
  (unfold State.frerFirst; simp only [State.frerRecover_keeps, ite_self, and_self, implies_true, Ran.st_done, Ran.st_wait, Ran.st_refuse, Ran.st_ite, snd_ite, ite_pending, ite_now, ite_serial, ite_out, ite_pins, ite_md, ite_host, ite_cmds, ite_flt, ite_clk, ite_ref, ite_kennel, ite_buf, ite_port, ite_slices, ite_tab, ite_gen, ite_core, ite_sch, ite_tel, ite_pwr, ite_regs, foldl_pending, foldl_now, foldl_serial, foldl_out, foldl_pins, foldl_md, foldl_host, foldl_cmds, foldl_flt, foldl_clk, foldl_ref, foldl_kennel, foldl_buf, foldl_port, foldl_slices, foldl_tab, foldl_gen, foldl_core, foldl_sch, foldl_tel, foldl_pwr, foldl_regs, foldl_snd_pending, foldl_snd_now, foldl_snd_serial, foldl_snd_out, foldl_snd_pins, foldl_snd_md, foldl_snd_host, foldl_snd_cmds, foldl_snd_flt, foldl_snd_clk, foldl_snd_ref, foldl_snd_kennel, foldl_snd_buf, foldl_snd_port, foldl_snd_slices, foldl_snd_tab, foldl_snd_gen, foldl_snd_core, foldl_snd_sch, foldl_snd_tel, foldl_snd_pwr, foldl_snd_regs]; done)

@[simp] theorem State.frerTag_keeps (func i : Nat) (b : List Byte) (d : Desc) (s : State) :
    (State.frerTag func i b d s).2.pending = s.pending ∧ (State.frerTag func i b d s).2.now = s.now ∧
    (State.frerTag func i b d s).2.serial = s.serial ∧ (State.frerTag func i b d s).2.out = s.out ∧
    (State.frerTag func i b d s).2.pins = s.pins ∧ (State.frerTag func i b d s).2.md = s.md ∧
    (State.frerTag func i b d s).2.host = s.host ∧ (State.frerTag func i b d s).2.cmds = s.cmds ∧
    (State.frerTag func i b d s).2.flt = s.flt ∧ (State.frerTag func i b d s).2.clk = s.clk ∧
    (State.frerTag func i b d s).2.ref = s.ref ∧ (State.frerTag func i b d s).2.kennel = s.kennel ∧
    (State.frerTag func i b d s).2.buf = s.buf ∧ (State.frerTag func i b d s).2.port = s.port ∧
    (State.frerTag func i b d s).2.slices = s.slices ∧ (State.frerTag func i b d s).2.tab = s.tab ∧
    (State.frerTag func i b d s).2.gen = s.gen ∧ (State.frerTag func i b d s).2.core = s.core ∧
    (State.frerTag func i b d s).2.sch = s.sch ∧ (State.frerTag func i b d s).2.tel = s.tel ∧
    (State.frerTag func i b d s).2.pwr = s.pwr ∧ (State.frerTag func i b d s).2.regs = s.regs := by
  (unfold State.frerTag; simp only [State.frerGenerate_keeps, ite_self, and_self, implies_true, Ran.st_done, Ran.st_wait, Ran.st_refuse, Ran.st_ite, snd_ite, ite_pending, ite_now, ite_serial, ite_out, ite_pins, ite_md, ite_host, ite_cmds, ite_flt, ite_clk, ite_ref, ite_kennel, ite_buf, ite_port, ite_slices, ite_tab, ite_gen, ite_core, ite_sch, ite_tel, ite_pwr, ite_regs, foldl_pending, foldl_now, foldl_serial, foldl_out, foldl_pins, foldl_md, foldl_host, foldl_cmds, foldl_flt, foldl_clk, foldl_ref, foldl_kennel, foldl_buf, foldl_port, foldl_slices, foldl_tab, foldl_gen, foldl_core, foldl_sch, foldl_tel, foldl_pwr, foldl_regs, foldl_snd_pending, foldl_snd_now, foldl_snd_serial, foldl_snd_out, foldl_snd_pins, foldl_snd_md, foldl_snd_host, foldl_snd_cmds, foldl_snd_flt, foldl_snd_clk, foldl_snd_ref, foldl_snd_kennel, foldl_snd_buf, foldl_snd_port, foldl_snd_slices, foldl_snd_tab, foldl_snd_gen, foldl_snd_core, foldl_snd_sch, foldl_snd_tel, foldl_snd_pwr, foldl_snd_regs]; done)

@[simp] theorem State.frerSplit_keeps (func i : Nat) (pick : Draw) (d : Desc) (b : List Byte) (s : State) :
    (State.frerSplit func i pick d b s).pending = s.pending ∧ (State.frerSplit func i pick d b s).now = s.now ∧
    (State.frerSplit func i pick d b s).serial = s.serial ∧ (State.frerSplit func i pick d b s).pins = s.pins ∧
    (State.frerSplit func i pick d b s).md = s.md ∧ (State.frerSplit func i pick d b s).cmds = s.cmds ∧
    (State.frerSplit func i pick d b s).clk = s.clk ∧ (State.frerSplit func i pick d b s).ref = s.ref ∧
    (State.frerSplit func i pick d b s).kennel = s.kennel ∧ (State.frerSplit func i pick d b s).time = s.time ∧
    (State.frerSplit func i pick d b s).port = s.port ∧ (State.frerSplit func i pick d b s).slices = s.slices ∧
    (State.frerSplit func i pick d b s).tab = s.tab ∧ (State.frerSplit func i pick d b s).gen = s.gen ∧
    (State.frerSplit func i pick d b s).sch = s.sch ∧ (State.frerSplit func i pick d b s).pwr = s.pwr ∧
    (State.frerSplit func i pick d b s).regs = s.regs ∧
    (State.frerSplit func i pick d b s).flt.keel0 = s.flt.keel0 ∧
    (State.frerSplit func i pick d b s).flt.keel1 = s.flt.keel1 := by
  (unfold State.frerSplit; simp only [State.splitCopy_keeps, ite_self, and_self, implies_true, Ran.st_done, Ran.st_wait, Ran.st_refuse, Ran.st_ite, snd_ite, ite_pending, ite_now, ite_serial, ite_pins, ite_md, ite_cmds, ite_clk, ite_ref, ite_kennel, ite_time, ite_port, ite_slices, ite_tab, ite_gen, ite_sch, ite_pwr, ite_regs, ite_flt_keel0, ite_flt_keel1, foldl_pending, foldl_now, foldl_serial, foldl_pins, foldl_md, foldl_cmds, foldl_clk, foldl_ref, foldl_kennel, foldl_time, foldl_port, foldl_slices, foldl_tab, foldl_gen, foldl_sch, foldl_pwr, foldl_regs, foldl_flt_keel0, foldl_flt_keel1, foldl_snd_pending, foldl_snd_now, foldl_snd_serial, foldl_snd_pins, foldl_snd_md, foldl_snd_cmds, foldl_snd_clk, foldl_snd_ref, foldl_snd_kennel, foldl_snd_time, foldl_snd_port, foldl_snd_slices, foldl_snd_tab, foldl_snd_gen, foldl_snd_sch, foldl_snd_pwr, foldl_snd_regs, foldl_snd_flt_keel0, foldl_snd_flt_keel1]; done)

@[simp] theorem State.putFrame_keeps (func i : Nat) (k0 k : Pkt) (d1 : Desc) (r1 r2 : Nat) (pick : Draw) (s1 : State) :
    (State.putFrame func i k0 k d1 r1 r2 pick s1).pending = s1.pending ∧
    (State.putFrame func i k0 k d1 r1 r2 pick s1).now = s1.now ∧
    (State.putFrame func i k0 k d1 r1 r2 pick s1).serial = s1.serial ∧
    (State.putFrame func i k0 k d1 r1 r2 pick s1).pins = s1.pins ∧
    (State.putFrame func i k0 k d1 r1 r2 pick s1).md = s1.md ∧
    (State.putFrame func i k0 k d1 r1 r2 pick s1).cmds = s1.cmds ∧
    (State.putFrame func i k0 k d1 r1 r2 pick s1).clk = s1.clk ∧
    (State.putFrame func i k0 k d1 r1 r2 pick s1).ref = s1.ref ∧
    (State.putFrame func i k0 k d1 r1 r2 pick s1).kennel = s1.kennel ∧
    (State.putFrame func i k0 k d1 r1 r2 pick s1).port = s1.port ∧
    (State.putFrame func i k0 k d1 r1 r2 pick s1).slices = s1.slices ∧
    (State.putFrame func i k0 k d1 r1 r2 pick s1).tab = s1.tab ∧
    (State.putFrame func i k0 k d1 r1 r2 pick s1).sch = s1.sch ∧
    (State.putFrame func i k0 k d1 r1 r2 pick s1).pwr = s1.pwr ∧
    (State.putFrame func i k0 k d1 r1 r2 pick s1).regs = s1.regs ∧
    (State.putFrame func i k0 k d1 r1 r2 pick s1).flt.keel0 = s1.flt.keel0 ∧
    (State.putFrame func i k0 k d1 r1 r2 pick s1).flt.keel1 = s1.flt.keel1 := by
  (unfold State.putFrame; simp only [State.enqueueMirrors_keeps, State.leaveSlice_keeps, State.frerTag_keeps, State.frerSplit_keeps, State.push_keeps, State.ecnMark_keeps, ite_self, and_self, implies_true, Ran.st_done, Ran.st_wait, Ran.st_refuse, Ran.st_ite, snd_ite, foldl_pending, foldl_now, foldl_serial, foldl_pins, foldl_md, foldl_cmds, foldl_clk, foldl_ref, foldl_kennel, foldl_port, foldl_slices, foldl_tab, foldl_sch, foldl_pwr, foldl_regs, foldl_flt_keel0, foldl_flt_keel1, foldl_snd_pending, foldl_snd_now, foldl_snd_serial, foldl_snd_pins, foldl_snd_md, foldl_snd_cmds, foldl_snd_clk, foldl_snd_ref, foldl_snd_kennel, foldl_snd_port, foldl_snd_slices, foldl_snd_tab, foldl_snd_sch, foldl_snd_pwr, foldl_snd_regs, foldl_snd_flt_keel0, foldl_snd_flt_keel1]; done)

@[simp] theorem State.placeRest_keeps (func i : Nat) (k0 k : Pkt) (d : Desc) (r1 r2 : Nat) (pick : Draw) (s1 : State) :
    (State.placeRest func i k0 k d r1 r2 pick s1).pending = s1.pending ∧
    (State.placeRest func i k0 k d r1 r2 pick s1).now = s1.now ∧
    (State.placeRest func i k0 k d r1 r2 pick s1).serial = s1.serial ∧
    (State.placeRest func i k0 k d r1 r2 pick s1).pins = s1.pins ∧
    (State.placeRest func i k0 k d r1 r2 pick s1).md = s1.md ∧
    (State.placeRest func i k0 k d r1 r2 pick s1).cmds = s1.cmds ∧
    (State.placeRest func i k0 k d r1 r2 pick s1).clk = s1.clk ∧
    (State.placeRest func i k0 k d r1 r2 pick s1).kennel = s1.kennel ∧
    (State.placeRest func i k0 k d r1 r2 pick s1).port = s1.port ∧
    (State.placeRest func i k0 k d r1 r2 pick s1).slices = s1.slices ∧
    (State.placeRest func i k0 k d r1 r2 pick s1).tab = s1.tab ∧
    (State.placeRest func i k0 k d r1 r2 pick s1).sch = s1.sch ∧
    (State.placeRest func i k0 k d r1 r2 pick s1).pwr = s1.pwr ∧
    (State.placeRest func i k0 k d r1 r2 pick s1).regs = s1.regs ∧
    (State.placeRest func i k0 k d r1 r2 pick s1).flt.keel0 = s1.flt.keel0 ∧
    (State.placeRest func i k0 k d r1 r2 pick s1).flt.keel1 = s1.flt.keel1 := by
  (unfold State.placeRest; simp only [State.dropPkt_keeps, State.putFrame_keeps, ite_self, and_self, implies_true, Ran.st_done, Ran.st_wait, Ran.st_refuse, Ran.st_ite, snd_ite, ite_pending, ite_now, ite_serial, ite_pins, ite_md, ite_cmds, ite_clk, ite_kennel, ite_port, ite_slices, ite_tab, ite_sch, ite_pwr, ite_regs, ite_flt_keel0, ite_flt_keel1, foldl_pending, foldl_now, foldl_serial, foldl_pins, foldl_md, foldl_cmds, foldl_clk, foldl_kennel, foldl_port, foldl_slices, foldl_tab, foldl_sch, foldl_pwr, foldl_regs, foldl_flt_keel0, foldl_flt_keel1, foldl_snd_pending, foldl_snd_now, foldl_snd_serial, foldl_snd_pins, foldl_snd_md, foldl_snd_cmds, foldl_snd_clk, foldl_snd_kennel, foldl_snd_port, foldl_snd_slices, foldl_snd_tab, foldl_snd_sch, foldl_snd_pwr, foldl_snd_regs, foldl_snd_flt_keel0, foldl_snd_flt_keel1]; done)

@[simp] theorem State.placeFrame_keeps (k0 k : Pkt) (d : Desc) (r1 r2 : Nat) (pick : Draw) (s : State) :
    (State.placeFrame k0 k d r1 r2 pick s).pending = s.pending ∧
    (State.placeFrame k0 k d r1 r2 pick s).now = s.now ∧ (State.placeFrame k0 k d r1 r2 pick s).serial = s.serial ∧
    (State.placeFrame k0 k d r1 r2 pick s).pins = s.pins ∧ (State.placeFrame k0 k d r1 r2 pick s).md = s.md ∧
    (State.placeFrame k0 k d r1 r2 pick s).cmds = s.cmds ∧ (State.placeFrame k0 k d r1 r2 pick s).clk = s.clk ∧
    (State.placeFrame k0 k d r1 r2 pick s).kennel = s.kennel ∧
    (State.placeFrame k0 k d r1 r2 pick s).port = s.port ∧
    (State.placeFrame k0 k d r1 r2 pick s).slices = s.slices ∧ (State.placeFrame k0 k d r1 r2 pick s).tab = s.tab ∧
    (State.placeFrame k0 k d r1 r2 pick s).sch = s.sch ∧ (State.placeFrame k0 k d r1 r2 pick s).pwr = s.pwr ∧
    (State.placeFrame k0 k d r1 r2 pick s).regs = s.regs ∧
    (State.placeFrame k0 k d r1 r2 pick s).flt.keel0 = s.flt.keel0 ∧
    (State.placeFrame k0 k d r1 r2 pick s).flt.keel1 = s.flt.keel1 := by
  (unfold State.placeFrame; dsimp only; split <;> simp only [State.dropPkt_keeps, State.frerFirst_keeps, State.placeRest_keeps, ite_self, and_self, implies_true, Ran.st_done, Ran.st_wait, Ran.st_refuse, Ran.st_ite, snd_ite, ite_pending, ite_now, ite_serial, ite_pins, ite_md, ite_cmds, ite_clk, ite_kennel, ite_port, ite_slices, ite_tab, ite_sch, ite_pwr, ite_regs, ite_flt_keel0, ite_flt_keel1, foldl_pending, foldl_now, foldl_serial, foldl_pins, foldl_md, foldl_cmds, foldl_clk, foldl_kennel, foldl_port, foldl_slices, foldl_tab, foldl_sch, foldl_pwr, foldl_regs, foldl_flt_keel0, foldl_flt_keel1, foldl_snd_pending, foldl_snd_now, foldl_snd_serial, foldl_snd_pins, foldl_snd_md, foldl_snd_cmds, foldl_snd_clk, foldl_snd_kennel, foldl_snd_port, foldl_snd_slices, foldl_snd_tab, foldl_snd_sch, foldl_snd_pwr, foldl_snd_regs, foldl_snd_flt_keel0, foldl_snd_flt_keel1])

@[simp] theorem State.growAndPlace_keeps (k : Pkt) (p : Nat) (cut : Bool) (r1 r2 : Nat) (pick : Draw) (s : State) :
    (State.growAndPlace k p cut r1 r2 pick s).pending = s.pending ∧
    (State.growAndPlace k p cut r1 r2 pick s).now = s.now ∧
    (State.growAndPlace k p cut r1 r2 pick s).serial = s.serial ∧
    (State.growAndPlace k p cut r1 r2 pick s).pins = s.pins ∧ (State.growAndPlace k p cut r1 r2 pick s).md = s.md ∧
    (State.growAndPlace k p cut r1 r2 pick s).cmds = s.cmds ∧
    (State.growAndPlace k p cut r1 r2 pick s).clk = s.clk ∧
    (State.growAndPlace k p cut r1 r2 pick s).kennel = s.kennel ∧
    (State.growAndPlace k p cut r1 r2 pick s).port = s.port ∧
    (State.growAndPlace k p cut r1 r2 pick s).slices = s.slices ∧
    (State.growAndPlace k p cut r1 r2 pick s).tab = s.tab ∧ (State.growAndPlace k p cut r1 r2 pick s).sch = s.sch ∧
    (State.growAndPlace k p cut r1 r2 pick s).pwr = s.pwr ∧
    (State.growAndPlace k p cut r1 r2 pick s).regs = s.regs ∧
    (State.growAndPlace k p cut r1 r2 pick s).flt.keel0 = s.flt.keel0 ∧
    (State.growAndPlace k p cut r1 r2 pick s).flt.keel1 = s.flt.keel1 := by
  unfold State.growAndPlace
  dsimp only
  split
  · cases (State.rewriteFault k s).1 <;> simp
  · simp

@[simp] theorem State.enqueuePort_keeps (k : Pkt) (p r1 r2 : Nat) (pick : Draw) (s : State) :
    (State.enqueuePort k p r1 r2 pick s).pending = s.pending ∧ (State.enqueuePort k p r1 r2 pick s).now = s.now ∧
    (State.enqueuePort k p r1 r2 pick s).serial = s.serial ∧ (State.enqueuePort k p r1 r2 pick s).pins = s.pins ∧
    (State.enqueuePort k p r1 r2 pick s).md = s.md ∧ (State.enqueuePort k p r1 r2 pick s).cmds = s.cmds ∧
    (State.enqueuePort k p r1 r2 pick s).clk = s.clk ∧ (State.enqueuePort k p r1 r2 pick s).kennel = s.kennel ∧
    (State.enqueuePort k p r1 r2 pick s).port = s.port ∧ (State.enqueuePort k p r1 r2 pick s).slices = s.slices ∧
    (State.enqueuePort k p r1 r2 pick s).tab = s.tab ∧ (State.enqueuePort k p r1 r2 pick s).sch = s.sch ∧
    (State.enqueuePort k p r1 r2 pick s).pwr = s.pwr ∧ (State.enqueuePort k p r1 r2 pick s).regs = s.regs ∧
    (State.enqueuePort k p r1 r2 pick s).flt.keel0 = s.flt.keel0 ∧
    (State.enqueuePort k p r1 r2 pick s).flt.keel1 = s.flt.keel1 := by
  unfold State.enqueuePort
  (try dsimp only)
  (repeat' split) <;> first | (simp; done) | (rename_i q; simp [snd_of q]; done) | (rename_i q _; simp [snd_of q]; done)

@[simp] theorem State.enqueueHost_keeps (k : Pkt) (q reason mid : Nat) (pick : Draw) (s : State) :
    (State.enqueueHost k q reason mid pick s).pending = s.pending ∧
    (State.enqueueHost k q reason mid pick s).now = s.now ∧
    (State.enqueueHost k q reason mid pick s).serial = s.serial ∧
    (State.enqueueHost k q reason mid pick s).pins = s.pins ∧ (State.enqueueHost k q reason mid pick s).md = s.md ∧
    (State.enqueueHost k q reason mid pick s).cmds = s.cmds ∧
    (State.enqueueHost k q reason mid pick s).clk = s.clk ∧
    (State.enqueueHost k q reason mid pick s).kennel = s.kennel ∧
    (State.enqueueHost k q reason mid pick s).time = s.time ∧
    (State.enqueueHost k q reason mid pick s).port = s.port ∧
    (State.enqueueHost k q reason mid pick s).slices = s.slices ∧
    (State.enqueueHost k q reason mid pick s).tab = s.tab ∧ (State.enqueueHost k q reason mid pick s).sch = s.sch ∧
    (State.enqueueHost k q reason mid pick s).pwr = s.pwr ∧
    (State.enqueueHost k q reason mid pick s).regs = s.regs ∧
    (State.enqueueHost k q reason mid pick s).flt.keel0 = s.flt.keel0 ∧
    (State.enqueueHost k q reason mid pick s).flt.keel1 = s.flt.keel1 := by
  unfold State.enqueueHost
  (try dsimp only)
  (repeat' split) <;> first | (simp; done) | (rename_i q; simp [snd_of q]; done) | (rename_i q _; simp [snd_of q]; done)

@[simp] theorem State.dropHead_keeps (k r : Nat) (pick : Draw) (s : State) :
    (State.dropHead k r pick s).pending = s.pending ∧ (State.dropHead k r pick s).now = s.now ∧
    (State.dropHead k r pick s).serial = s.serial ∧ (State.dropHead k r pick s).pins = s.pins ∧
    (State.dropHead k r pick s).md = s.md ∧ (State.dropHead k r pick s).cmds = s.cmds ∧
    (State.dropHead k r pick s).clk = s.clk ∧ (State.dropHead k r pick s).kennel = s.kennel ∧
    (State.dropHead k r pick s).time = s.time ∧ (State.dropHead k r pick s).port = s.port ∧
    (State.dropHead k r pick s).slices = s.slices ∧ (State.dropHead k r pick s).tab = s.tab ∧
    (State.dropHead k r pick s).pwr = s.pwr ∧ (State.dropHead k r pick s).regs = s.regs ∧
    (State.dropHead k r pick s).flt.keel0 = s.flt.keel0 ∧ (State.dropHead k r pick s).flt.keel1 = s.flt.keel1 := by
  (unfold State.dropHead; split <;> simp only [State.leaveQueue_keeps, State.dropDesc_keeps, ite_self, and_self, implies_true, Ran.st_done, Ran.st_wait, Ran.st_refuse, Ran.st_ite, snd_ite, ite_pending, ite_now, ite_serial, ite_pins, ite_md, ite_cmds, ite_clk, ite_kennel, ite_time, ite_port, ite_slices, ite_tab, ite_pwr, ite_regs, ite_flt_keel0, ite_flt_keel1, foldl_pending, foldl_now, foldl_serial, foldl_pins, foldl_md, foldl_cmds, foldl_clk, foldl_kennel, foldl_time, foldl_port, foldl_slices, foldl_tab, foldl_pwr, foldl_regs, foldl_flt_keel0, foldl_flt_keel1, foldl_snd_pending, foldl_snd_now, foldl_snd_serial, foldl_snd_pins, foldl_snd_md, foldl_snd_cmds, foldl_snd_clk, foldl_snd_kennel, foldl_snd_time, foldl_snd_port, foldl_snd_slices, foldl_snd_tab, foldl_snd_pwr, foldl_snd_regs, foldl_snd_flt_keel0, foldl_snd_flt_keel1])

@[simp] theorem State.dropStale_keeps (k limit r : Nat) (pick : Draw) (a4 : Nat) (a5 : State) :
    (State.dropStale k limit r pick a4 a5).pending = a5.pending ∧
    (State.dropStale k limit r pick a4 a5).now = a5.now ∧
    (State.dropStale k limit r pick a4 a5).serial = a5.serial ∧
    (State.dropStale k limit r pick a4 a5).pins = a5.pins ∧ (State.dropStale k limit r pick a4 a5).md = a5.md ∧
    (State.dropStale k limit r pick a4 a5).cmds = a5.cmds ∧ (State.dropStale k limit r pick a4 a5).clk = a5.clk ∧
    (State.dropStale k limit r pick a4 a5).kennel = a5.kennel ∧
    (State.dropStale k limit r pick a4 a5).time = a5.time ∧ (State.dropStale k limit r pick a4 a5).port = a5.port ∧
    (State.dropStale k limit r pick a4 a5).slices = a5.slices ∧
    (State.dropStale k limit r pick a4 a5).tab = a5.tab ∧ (State.dropStale k limit r pick a4 a5).pwr = a5.pwr ∧
    (State.dropStale k limit r pick a4 a5).regs = a5.regs ∧
    (State.dropStale k limit r pick a4 a5).flt.keel0 = a5.flt.keel0 ∧
    (State.dropStale k limit r pick a4 a5).flt.keel1 = a5.flt.keel1 := by
  fun_induction State.dropStale k limit r pick a4 a5 with
  | case1 => simp only [and_self]
  | case2 n s h ih => simp [ih]
  | case3 => simp only [and_self]

@[simp] theorem State.dropNever_keeps (k : Nat) (pick : Draw) (a2 : Nat) (a3 : State) :
    (State.dropNever k pick a2 a3).pending = a3.pending ∧ (State.dropNever k pick a2 a3).now = a3.now ∧
    (State.dropNever k pick a2 a3).serial = a3.serial ∧ (State.dropNever k pick a2 a3).pins = a3.pins ∧
    (State.dropNever k pick a2 a3).md = a3.md ∧ (State.dropNever k pick a2 a3).cmds = a3.cmds ∧
    (State.dropNever k pick a2 a3).clk = a3.clk ∧ (State.dropNever k pick a2 a3).kennel = a3.kennel ∧
    (State.dropNever k pick a2 a3).time = a3.time ∧ (State.dropNever k pick a2 a3).port = a3.port ∧
    (State.dropNever k pick a2 a3).slices = a3.slices ∧ (State.dropNever k pick a2 a3).tab = a3.tab ∧
    (State.dropNever k pick a2 a3).pwr = a3.pwr ∧ (State.dropNever k pick a2 a3).regs = a3.regs ∧
    (State.dropNever k pick a2 a3).flt.keel0 = a3.flt.keel0 ∧
    (State.dropNever k pick a2 a3).flt.keel1 = a3.flt.keel1 := by
  (fun_induction State.dropNever k pick a2 a3 <;> simp_all +zetaDelta <;> done)

@[simp] theorem State.judgeKnown_keeps (k : Nat) (pick : Draw) (s : State) :
    (State.judgeKnown k pick s).pending = s.pending ∧ (State.judgeKnown k pick s).now = s.now ∧
    (State.judgeKnown k pick s).serial = s.serial ∧ (State.judgeKnown k pick s).pins = s.pins ∧
    (State.judgeKnown k pick s).md = s.md ∧ (State.judgeKnown k pick s).cmds = s.cmds ∧
    (State.judgeKnown k pick s).clk = s.clk ∧ (State.judgeKnown k pick s).kennel = s.kennel ∧
    (State.judgeKnown k pick s).time = s.time ∧ (State.judgeKnown k pick s).port = s.port ∧
    (State.judgeKnown k pick s).slices = s.slices ∧ (State.judgeKnown k pick s).tab = s.tab ∧
    (State.judgeKnown k pick s).pwr = s.pwr ∧ (State.judgeKnown k pick s).regs = s.regs ∧
    (State.judgeKnown k pick s).flt.keel0 = s.flt.keel0 ∧ (State.judgeKnown k pick s).flt.keel1 = s.flt.keel1 := by
  (unfold State.judgeKnown; simp only [State.leaveQueue_keeps, State.dropDesc_keeps, ite_self, and_self, implies_true, Ran.st_done, Ran.st_wait, Ran.st_refuse, Ran.st_ite, snd_ite, ite_pending, ite_now, ite_serial, ite_pins, ite_md, ite_cmds, ite_clk, ite_kennel, ite_time, ite_port, ite_slices, ite_tab, ite_pwr, ite_regs, ite_flt_keel0, ite_flt_keel1, foldl_pending, foldl_now, foldl_serial, foldl_pins, foldl_md, foldl_cmds, foldl_clk, foldl_kennel, foldl_time, foldl_port, foldl_slices, foldl_tab, foldl_pwr, foldl_regs, foldl_flt_keel0, foldl_flt_keel1, foldl_snd_pending, foldl_snd_now, foldl_snd_serial, foldl_snd_pins, foldl_snd_md, foldl_snd_cmds, foldl_snd_clk, foldl_snd_kennel, foldl_snd_time, foldl_snd_port, foldl_snd_slices, foldl_snd_tab, foldl_snd_pwr, foldl_snd_regs, foldl_snd_flt_keel0, foldl_snd_flt_keel1]; done)
end Sys2Proof.Machine
end

