-- ==== Sys2Proof/Laws/KeepsEgress.lean ====
section
/-! SUPPORT. What each operation of Machine/Egress.lean keeps: the parts of the state that it leaves as they are. -/
set_option linter.unusedSimpArgs false
set_option linter.unusedVariables false
namespace Sys2Proof.Machine
open Host (Outcome)

@[simp] theorem State.countIoam_keeps (x : NodeIn) (e : Edited) (s : State) :
    (State.countIoam x e s).pending = s.pending ∧ (State.countIoam x e s).now = s.now ∧
    (State.countIoam x e s).serial = s.serial ∧ (State.countIoam x e s).out = s.out ∧
    (State.countIoam x e s).pins = s.pins ∧ (State.countIoam x e s).md = s.md ∧
    (State.countIoam x e s).host = s.host ∧ (State.countIoam x e s).cmds = s.cmds ∧
    (State.countIoam x e s).flt = s.flt ∧ (State.countIoam x e s).clk = s.clk ∧
    (State.countIoam x e s).ref = s.ref ∧ (State.countIoam x e s).kennel = s.kennel ∧
    (State.countIoam x e s).time = s.time ∧ (State.countIoam x e s).buf = s.buf ∧
    (State.countIoam x e s).port = s.port ∧ (State.countIoam x e s).slices = s.slices ∧
    (State.countIoam x e s).tab = s.tab ∧ (State.countIoam x e s).gen = s.gen ∧
    (State.countIoam x e s).core = s.core ∧ (State.countIoam x e s).sch = s.sch ∧
    (State.countIoam x e s).tel = s.tel ∧ (State.countIoam x e s).pwr = s.pwr ∧
    (State.countIoam x e s).regs = s.regs := by
  (unfold State.countIoam; split <;> simp only [State.perfCount_keeps, ite_self, and_self, implies_true, Ran.st_done, Ran.st_wait, Ran.st_refuse, Ran.st_ite, snd_ite, ite_pending, ite_now, ite_serial, ite_out, ite_pins, ite_md, ite_host, ite_cmds, ite_flt, ite_clk, ite_ref, ite_kennel, ite_time, ite_buf, ite_port, ite_slices, ite_tab, ite_gen, ite_core, ite_sch, ite_tel, ite_pwr, ite_regs, foldl_pending, foldl_now, foldl_serial, foldl_out, foldl_pins, foldl_md, foldl_host, foldl_cmds, foldl_flt, foldl_clk, foldl_ref, foldl_kennel, foldl_time, foldl_buf, foldl_port, foldl_slices, foldl_tab, foldl_gen, foldl_core, foldl_sch, foldl_tel, foldl_pwr, foldl_regs, foldl_snd_pending, foldl_snd_now, foldl_snd_serial, foldl_snd_out, foldl_snd_pins, foldl_snd_md, foldl_snd_host, foldl_snd_cmds, foldl_snd_flt, foldl_snd_clk, foldl_snd_ref, foldl_snd_kennel, foldl_snd_time, foldl_snd_buf, foldl_snd_port, foldl_snd_slices, foldl_snd_tab, foldl_snd_gen, foldl_snd_core, foldl_snd_sch, foldl_snd_tel, foldl_snd_pwr, foldl_snd_regs])

@[simp] theorem State.cardCode_keeps (x : NodeIn) (e : Edited) (s : State) :
    (State.cardCode x e s).2.pending = s.pending ∧ (State.cardCode x e s).2.now = s.now ∧
    (State.cardCode x e s).2.serial = s.serial ∧ (State.cardCode x e s).2.out = s.out ∧
    (State.cardCode x e s).2.pins = s.pins ∧ (State.cardCode x e s).2.md = s.md ∧
    (State.cardCode x e s).2.host = s.host ∧ (State.cardCode x e s).2.cmds = s.cmds ∧
    (State.cardCode x e s).2.flt = s.flt ∧ (State.cardCode x e s).2.clk = s.clk ∧
    (State.cardCode x e s).2.ref = s.ref ∧ (State.cardCode x e s).2.kennel = s.kennel ∧
    (State.cardCode x e s).2.time = s.time ∧ (State.cardCode x e s).2.buf = s.buf ∧
    (State.cardCode x e s).2.port = s.port ∧ (State.cardCode x e s).2.slices = s.slices ∧
    (State.cardCode x e s).2.tab = s.tab ∧ (State.cardCode x e s).2.gen = s.gen ∧
    (State.cardCode x e s).2.core = s.core ∧ (State.cardCode x e s).2.sch = s.sch ∧
    (State.cardCode x e s).2.pwr = s.pwr ∧ (State.cardCode x e s).2.regs = s.regs ∧
    (State.cardCode x e s).2.cnts = s.cnts := by
  (unfold State.cardCode; split <;> simp only [ite_self, and_self, implies_true, Ran.st_done, Ran.st_wait, Ran.st_refuse, Ran.st_ite, snd_ite, ite_pending, ite_now, ite_serial, ite_out, ite_pins, ite_md, ite_host, ite_cmds, ite_flt, ite_clk, ite_ref, ite_kennel, ite_time, ite_buf, ite_port, ite_slices, ite_tab, ite_gen, ite_core, ite_sch, ite_pwr, ite_regs, ite_cnts, foldl_pending, foldl_now, foldl_serial, foldl_out, foldl_pins, foldl_md, foldl_host, foldl_cmds, foldl_flt, foldl_clk, foldl_ref, foldl_kennel, foldl_time, foldl_buf, foldl_port, foldl_slices, foldl_tab, foldl_gen, foldl_core, foldl_sch, foldl_pwr, foldl_regs, foldl_cnts, foldl_snd_pending, foldl_snd_now, foldl_snd_serial, foldl_snd_out, foldl_snd_pins, foldl_snd_md, foldl_snd_host, foldl_snd_cmds, foldl_snd_flt, foldl_snd_clk, foldl_snd_ref, foldl_snd_kennel, foldl_snd_time, foldl_snd_buf, foldl_snd_port, foldl_snd_slices, foldl_snd_tab, foldl_snd_gen, foldl_snd_core, foldl_snd_sch, foldl_snd_pwr, foldl_snd_regs, foldl_snd_cnts])

@[simp] theorem State.dropChosen_keeps (t : Tx) (p r : Nat) (pick : Draw) (s : State) :
    (State.dropChosen t p r pick s).pending = s.pending ∧ (State.dropChosen t p r pick s).now = s.now ∧
    (State.dropChosen t p r pick s).serial = s.serial ∧ (State.dropChosen t p r pick s).pins = s.pins ∧
    (State.dropChosen t p r pick s).md = s.md ∧ (State.dropChosen t p r pick s).cmds = s.cmds ∧
    (State.dropChosen t p r pick s).clk = s.clk ∧ (State.dropChosen t p r pick s).kennel = s.kennel ∧
    (State.dropChosen t p r pick s).time = s.time ∧ (State.dropChosen t p r pick s).port = s.port ∧
    (State.dropChosen t p r pick s).slices = s.slices ∧ (State.dropChosen t p r pick s).tab = s.tab ∧
    (State.dropChosen t p r pick s).pwr = s.pwr ∧ (State.dropChosen t p r pick s).regs = s.regs ∧
    (State.dropChosen t p r pick s).flt.keel0 = s.flt.keel0 ∧
    (State.dropChosen t p r pick s).flt.keel1 = s.flt.keel1 := by
  (unfold State.dropChosen; simp only [State.dropDesc_keeps, State.owe_keeps, ite_self, and_self, implies_true, Ran.st_done, Ran.st_wait, Ran.st_refuse, Ran.st_ite, snd_ite, foldl_pending, foldl_now, foldl_serial, foldl_pins, foldl_md, foldl_cmds, foldl_clk, foldl_kennel, foldl_time, foldl_port, foldl_slices, foldl_tab, foldl_pwr, foldl_regs, foldl_flt_keel0, foldl_flt_keel1, foldl_snd_pending, foldl_snd_now, foldl_snd_serial, foldl_snd_pins, foldl_snd_md, foldl_snd_cmds, foldl_snd_clk, foldl_snd_kennel, foldl_snd_time, foldl_snd_port, foldl_snd_slices, foldl_snd_tab, foldl_snd_pwr, foldl_snd_regs, foldl_snd_flt_keel0, foldl_snd_flt_keel1]; done)

@[simp] theorem State.recirculate_keeps (t : Tx) (p : Nat) (pick : Draw) (b : List Byte) (s : State) :
    (State.recirculate t p pick b s).pending = s.pending ∧ (State.recirculate t p pick b s).now = s.now ∧
    (State.recirculate t p pick b s).serial = s.serial ∧ (State.recirculate t p pick b s).pins = s.pins ∧
    (State.recirculate t p pick b s).md = s.md ∧ (State.recirculate t p pick b s).cmds = s.cmds ∧
    (State.recirculate t p pick b s).clk = s.clk ∧ (State.recirculate t p pick b s).kennel = s.kennel ∧
    (State.recirculate t p pick b s).time = s.time ∧ (State.recirculate t p pick b s).port = s.port ∧
    (State.recirculate t p pick b s).slices = s.slices ∧ (State.recirculate t p pick b s).tab = s.tab ∧
    (State.recirculate t p pick b s).pwr = s.pwr ∧ (State.recirculate t p pick b s).regs = s.regs ∧
    (State.recirculate t p pick b s).flt.keel0 = s.flt.keel0 ∧
    (State.recirculate t p pick b s).flt.keel1 = s.flt.keel1 := by
  unfold State.recirculate
  dsimp only
  (repeat' split) <;> first | (simp; done) | (rename_i q; simp [snd_of q]; done)

@[simp] theorem State.firstBit_keeps (x : NodeIn) (e : Edited) (bad : Bool) (pick : Draw) (b : List Byte) (s : State) :
    (State.firstBit x e bad pick b s).pending = s.pending ∧ (State.firstBit x e bad pick b s).now = s.now ∧
    (State.firstBit x e bad pick b s).serial = s.serial ∧ (State.firstBit x e bad pick b s).pins = s.pins ∧
    (State.firstBit x e bad pick b s).md = s.md ∧ (State.firstBit x e bad pick b s).cmds = s.cmds ∧
    (State.firstBit x e bad pick b s).clk = s.clk ∧ (State.firstBit x e bad pick b s).ref = s.ref ∧
    (State.firstBit x e bad pick b s).kennel = s.kennel ∧ (State.firstBit x e bad pick b s).time = s.time ∧
    (State.firstBit x e bad pick b s).port = s.port ∧ (State.firstBit x e bad pick b s).slices = s.slices ∧
    (State.firstBit x e bad pick b s).tab = s.tab ∧ (State.firstBit x e bad pick b s).gen = s.gen ∧
    (State.firstBit x e bad pick b s).sch = s.sch ∧ (State.firstBit x e bad pick b s).pwr = s.pwr ∧
    (State.firstBit x e bad pick b s).regs = s.regs ∧ (State.firstBit x e bad pick b s).flt.keel0 = s.flt.keel0 ∧
    (State.firstBit x e bad pick b s).flt.keel1 = s.flt.keel1 := by
  unfold State.firstBit
  dsimp only
  cases x.d.cookie <;> dsimp only <;>
    (repeat' split) <;> first | (simp; done) | (rename_i q; simp [snd_of q])

@[simp] theorem State.sendFrame_keeps (t : Tx) (p : Nat) (pick : Draw) (tile : Bool) (b : List Byte) (s : State) :
    (State.sendFrame t p pick tile b s).pending = s.pending ∧ (State.sendFrame t p pick tile b s).now = s.now ∧
    (State.sendFrame t p pick tile b s).serial = s.serial ∧ (State.sendFrame t p pick tile b s).pins = s.pins ∧
    (State.sendFrame t p pick tile b s).md = s.md ∧ (State.sendFrame t p pick tile b s).cmds = s.cmds ∧
    (State.sendFrame t p pick tile b s).clk = s.clk ∧ (State.sendFrame t p pick tile b s).kennel = s.kennel ∧
    (State.sendFrame t p pick tile b s).time = s.time ∧ (State.sendFrame t p pick tile b s).slices = s.slices ∧
    (State.sendFrame t p pick tile b s).tab = s.tab ∧ (State.sendFrame t p pick tile b s).gen = s.gen ∧
    (State.sendFrame t p pick tile b s).pwr = s.pwr ∧ (State.sendFrame t p pick tile b s).regs = s.regs ∧
    (State.sendFrame t p pick tile b s).flt.keel0 = s.flt.keel0 ∧
    (State.sendFrame t p pick tile b s).flt.keel1 = s.flt.keel1 := by
  (unfold State.sendFrame; simp only [State.coreCount_keeps, State.firstBit_keeps, State.beginSending_keeps, State.putLine_keeps, State.owe_keeps, State.done_keeps, ite_self, and_self, implies_true, Ran.st_done, Ran.st_wait, Ran.st_refuse, Ran.st_ite, snd_ite, ite_pending, ite_now, ite_serial, ite_pins, ite_md, ite_cmds, ite_clk, ite_kennel, ite_time, ite_slices, ite_tab, ite_gen, ite_pwr, ite_regs, ite_flt_keel0, ite_flt_keel1, foldl_pending, foldl_now, foldl_serial, foldl_pins, foldl_md, foldl_cmds, foldl_clk, foldl_kennel, foldl_time, foldl_slices, foldl_tab, foldl_gen, foldl_pwr, foldl_regs, foldl_flt_keel0, foldl_flt_keel1, foldl_snd_pending, foldl_snd_now, foldl_snd_serial, foldl_snd_pins, foldl_snd_md, foldl_snd_cmds, foldl_snd_clk, foldl_snd_kennel, foldl_snd_time, foldl_snd_slices, foldl_snd_tab, foldl_snd_gen, foldl_snd_pwr, foldl_snd_regs, foldl_snd_flt_keel0, foldl_snd_flt_keel1]; done)

@[simp] theorem State.dropRefused_keeps (d : Desc) (r : Refused) (s : State) :
    (State.dropRefused d r s).pending = s.pending ∧ (State.dropRefused d r s).now = s.now ∧
    (State.dropRefused d r s).serial = s.serial ∧ (State.dropRefused d r s).out = s.out ∧
    (State.dropRefused d r s).pins = s.pins ∧ (State.dropRefused d r s).md = s.md ∧
    (State.dropRefused d r s).host = s.host ∧ (State.dropRefused d r s).cmds = s.cmds ∧
    (State.dropRefused d r s).clk = s.clk ∧ (State.dropRefused d r s).ref = s.ref ∧
    (State.dropRefused d r s).kennel = s.kennel ∧ (State.dropRefused d r s).time = s.time ∧
    (State.dropRefused d r s).buf = s.buf ∧ (State.dropRefused d r s).port = s.port ∧
    (State.dropRefused d r s).slices = s.slices ∧ (State.dropRefused d r s).tab = s.tab ∧
    (State.dropRefused d r s).core = s.core ∧ (State.dropRefused d r s).sch = s.sch ∧
    (State.dropRefused d r s).pwr = s.pwr ∧ (State.dropRefused d r s).regs = s.regs ∧
    (State.dropRefused d r s).flt.keel0 = s.flt.keel0 ∧ (State.dropRefused d r s).flt.keel1 = s.flt.keel1 := by
  (unfold State.dropRefused; simp only [State.lossEvt_keeps, State.leaveGen_keeps, State.bpmCount_keeps, State.countDrop_keeps, State.logRefused_keeps, ite_self, and_self, implies_true, Ran.st_done, Ran.st_wait, Ran.st_refuse, Ran.st_ite, snd_ite, ite_pending, ite_now, ite_serial, ite_out, ite_pins, ite_md, ite_host, ite_cmds, ite_clk, ite_ref, ite_kennel, ite_time, ite_buf, ite_port, ite_slices, ite_tab, ite_core, ite_sch, ite_pwr, ite_regs, ite_flt_keel0, ite_flt_keel1, foldl_pending, foldl_now, foldl_serial, foldl_out, foldl_pins, foldl_md, foldl_host, foldl_cmds, foldl_clk, foldl_ref, foldl_kennel, foldl_time, foldl_buf, foldl_port, foldl_slices, foldl_tab, foldl_core, foldl_sch, foldl_pwr, foldl_regs, foldl_flt_keel0, foldl_flt_keel1, foldl_snd_pending, foldl_snd_now, foldl_snd_serial, foldl_snd_out, foldl_snd_pins, foldl_snd_md, foldl_snd_host, foldl_snd_cmds, foldl_snd_clk, foldl_snd_ref, foldl_snd_kennel, foldl_snd_time, foldl_snd_buf, foldl_snd_port, foldl_snd_slices, foldl_snd_tab, foldl_snd_core, foldl_snd_sch, foldl_snd_pwr, foldl_snd_regs, foldl_snd_flt_keel0, foldl_snd_flt_keel1]; done)

@[simp] theorem State.leave_keeps (t : Tx) (p : Nat) (pick : Draw) (s : State) :
    (State.leave t p pick s).pending = s.pending ∧ (State.leave t p pick s).now = s.now ∧
    (State.leave t p pick s).serial = s.serial ∧ (State.leave t p pick s).pins = s.pins ∧
    (State.leave t p pick s).md = s.md ∧ (State.leave t p pick s).cmds = s.cmds ∧
    (State.leave t p pick s).clk = s.clk ∧ (State.leave t p pick s).kennel = s.kennel ∧
    (State.leave t p pick s).time = s.time ∧ (State.leave t p pick s).slices = s.slices ∧
    (State.leave t p pick s).tab = s.tab ∧ (State.leave t p pick s).pwr = s.pwr ∧
    (State.leave t p pick s).regs = s.regs ∧ (State.leave t p pick s).flt.keel0 = s.flt.keel0 ∧
    (State.leave t p pick s).flt.keel1 = s.flt.keel1 := by
  (unfold State.leave; simp only [State.dropChosen_keeps, State.sendFrame_keeps, State.readTiles_keeps, State.recirculate_keeps, ite_self, and_self, implies_true, Ran.st_done, Ran.st_wait, Ran.st_refuse, Ran.st_ite, snd_ite, ite_pending, ite_now, ite_serial, ite_pins, ite_md, ite_cmds, ite_clk, ite_kennel, ite_time, ite_slices, ite_tab, ite_pwr, ite_regs, ite_flt_keel0, ite_flt_keel1, foldl_pending, foldl_now, foldl_serial, foldl_pins, foldl_md, foldl_cmds, foldl_clk, foldl_kennel, foldl_time, foldl_slices, foldl_tab, foldl_pwr, foldl_regs, foldl_flt_keel0, foldl_flt_keel1, foldl_snd_pending, foldl_snd_now, foldl_snd_serial, foldl_snd_pins, foldl_snd_md, foldl_snd_cmds, foldl_snd_clk, foldl_snd_kennel, foldl_snd_time, foldl_snd_slices, foldl_snd_tab, foldl_snd_pwr, foldl_snd_regs, foldl_snd_flt_keel0, foldl_snd_flt_keel1]; done)

@[simp] theorem State.receiveBack_keeps (n : Nat) (d : Desc) (b : List Byte) (bad : Bool) (desc : List Byte) (s : State) :
    (State.receiveBack n d b bad desc s).pending = s.pending ∧ (State.receiveBack n d b bad desc s).now = s.now ∧
    (State.receiveBack n d b bad desc s).serial = s.serial ∧ (State.receiveBack n d b bad desc s).pins = s.pins ∧
    (State.receiveBack n d b bad desc s).md = s.md ∧ (State.receiveBack n d b bad desc s).cmds = s.cmds ∧
    (State.receiveBack n d b bad desc s).flt = s.flt ∧ (State.receiveBack n d b bad desc s).clk = s.clk ∧
    (State.receiveBack n d b bad desc s).ref = s.ref ∧ (State.receiveBack n d b bad desc s).kennel = s.kennel ∧
    (State.receiveBack n d b bad desc s).time = s.time ∧ (State.receiveBack n d b bad desc s).buf = s.buf ∧
    (State.receiveBack n d b bad desc s).port = s.port ∧ (State.receiveBack n d b bad desc s).slices = s.slices ∧
    (State.receiveBack n d b bad desc s).tab = s.tab ∧ (State.receiveBack n d b bad desc s).gen = s.gen ∧
    (State.receiveBack n d b bad desc s).core = s.core ∧ (State.receiveBack n d b bad desc s).sch = s.sch ∧
    (State.receiveBack n d b bad desc s).tel = s.tel ∧ (State.receiveBack n d b bad desc s).pwr = s.pwr ∧
    (State.receiveBack n d b bad desc s).regs = s.regs ∧ (State.receiveBack n d b bad desc s).cnts = s.cnts := by
  (unfold State.receiveBack; simp only [State.notify_keeps, State.hostWrite_keeps, State.setRing_keeps, ite_self, and_self, implies_true, Ran.st_done, Ran.st_wait, Ran.st_refuse, Ran.st_ite, snd_ite, ite_pending, ite_now, ite_serial, ite_pins, ite_md, ite_cmds, ite_flt, ite_clk, ite_ref, ite_kennel, ite_time, ite_buf, ite_port, ite_slices, ite_tab, ite_gen, ite_core, ite_sch, ite_tel, ite_pwr, ite_regs, ite_cnts, foldl_pending, foldl_now, foldl_serial, foldl_pins, foldl_md, foldl_cmds, foldl_flt, foldl_clk, foldl_ref, foldl_kennel, foldl_time, foldl_buf, foldl_port, foldl_slices, foldl_tab, foldl_gen, foldl_core, foldl_sch, foldl_tel, foldl_pwr, foldl_regs, foldl_cnts, foldl_snd_pending, foldl_snd_now, foldl_snd_serial, foldl_snd_pins, foldl_snd_md, foldl_snd_cmds, foldl_snd_flt, foldl_snd_clk, foldl_snd_ref, foldl_snd_kennel, foldl_snd_time, foldl_snd_buf, foldl_snd_port, foldl_snd_slices, foldl_snd_tab, foldl_snd_gen, foldl_snd_core, foldl_snd_sch, foldl_snd_tel, foldl_snd_pwr, foldl_snd_regs, foldl_snd_cnts]; done)

@[simp] theorem State.deliver_keeps (q : Nat) (d : Desc) (desc : List Byte) (pick : Draw) (s : State) :
    (State.deliver q d desc pick s).pending = s.pending ∧ (State.deliver q d desc pick s).now = s.now ∧
    (State.deliver q d desc pick s).serial = s.serial ∧ (State.deliver q d desc pick s).pins = s.pins ∧
    (State.deliver q d desc pick s).md = s.md ∧ (State.deliver q d desc pick s).cmds = s.cmds ∧
    (State.deliver q d desc pick s).clk = s.clk ∧ (State.deliver q d desc pick s).kennel = s.kennel ∧
    (State.deliver q d desc pick s).time = s.time ∧ (State.deliver q d desc pick s).port = s.port ∧
    (State.deliver q d desc pick s).slices = s.slices ∧ (State.deliver q d desc pick s).tab = s.tab ∧
    (State.deliver q d desc pick s).sch = s.sch ∧ (State.deliver q d desc pick s).pwr = s.pwr ∧
    (State.deliver q d desc pick s).regs = s.regs ∧ (State.deliver q d desc pick s).flt.keel0 = s.flt.keel0 ∧
    (State.deliver q d desc pick s).flt.keel1 = s.flt.keel1 := by
  (unfold State.deliver; split <;> simp only [State.dropDesc_keeps, State.readTiles_keeps, State.setRing_keeps, State.dropRefused_keeps, State.done_keeps, State.receiveBack_keeps, ite_self, and_self, implies_true, Ran.st_done, Ran.st_wait, Ran.st_refuse, Ran.st_ite, snd_ite, ite_pending, ite_now, ite_serial, ite_pins, ite_md, ite_cmds, ite_clk, ite_kennel, ite_time, ite_port, ite_slices, ite_tab, ite_sch, ite_pwr, ite_regs, ite_flt_keel0, ite_flt_keel1, foldl_pending, foldl_now, foldl_serial, foldl_pins, foldl_md, foldl_cmds, foldl_clk, foldl_kennel, foldl_time, foldl_port, foldl_slices, foldl_tab, foldl_sch, foldl_pwr, foldl_regs, foldl_flt_keel0, foldl_flt_keel1, foldl_snd_pending, foldl_snd_now, foldl_snd_serial, foldl_snd_pins, foldl_snd_md, foldl_snd_cmds, foldl_snd_clk, foldl_snd_kennel, foldl_snd_time, foldl_snd_port, foldl_snd_slices, foldl_snd_tab, foldl_snd_sch, foldl_snd_pwr, foldl_snd_regs, foldl_snd_flt_keel0, foldl_snd_flt_keel1])

@[simp] theorem State.txBack_keeps (i : Nat) (st : Status) (s : State) :
    (State.txBack i st s).pending = s.pending ∧ (State.txBack i st s).now = s.now ∧
    (State.txBack i st s).serial = s.serial ∧ (State.txBack i st s).pins = s.pins ∧
    (State.txBack i st s).md = s.md ∧ (State.txBack i st s).cmds = s.cmds ∧ (State.txBack i st s).flt = s.flt ∧
    (State.txBack i st s).clk = s.clk ∧ (State.txBack i st s).ref = s.ref ∧
    (State.txBack i st s).kennel = s.kennel ∧ (State.txBack i st s).time = s.time ∧
    (State.txBack i st s).buf = s.buf ∧ (State.txBack i st s).port = s.port ∧
    (State.txBack i st s).slices = s.slices ∧ (State.txBack i st s).tab = s.tab ∧
    (State.txBack i st s).gen = s.gen ∧ (State.txBack i st s).core = s.core ∧ (State.txBack i st s).sch = s.sch ∧
    (State.txBack i st s).tel = s.tel ∧ (State.txBack i st s).pwr = s.pwr ∧ (State.txBack i st s).regs = s.regs ∧
    (State.txBack i st s).cnts = s.cnts := by
  (unfold State.txBack; simp only [State.notify_keeps, State.hostWrite_keeps, State.setRing_keeps, ite_self, and_self, implies_true, Ran.st_done, Ran.st_wait, Ran.st_refuse, Ran.st_ite, snd_ite, foldl_pending, foldl_now, foldl_serial, foldl_pins, foldl_md, foldl_cmds, foldl_flt, foldl_clk, foldl_ref, foldl_kennel, foldl_time, foldl_buf, foldl_port, foldl_slices, foldl_tab, foldl_gen, foldl_core, foldl_sch, foldl_tel, foldl_pwr, foldl_regs, foldl_cnts, foldl_snd_pending, foldl_snd_now, foldl_snd_serial, foldl_snd_pins, foldl_snd_md, foldl_snd_cmds, foldl_snd_flt, foldl_snd_clk, foldl_snd_ref, foldl_snd_kennel, foldl_snd_time, foldl_snd_buf, foldl_snd_port, foldl_snd_slices, foldl_snd_tab, foldl_snd_gen, foldl_snd_core, foldl_snd_sch, foldl_snd_tel, foldl_snd_pwr, foldl_snd_regs, foldl_snd_cnts]; done)

@[simp] theorem State.txPlace_keeps (d : Desc) (pick : Draw) (s : State) :
    (State.txPlace d pick s).pending = s.pending ∧ (State.txPlace d pick s).now = s.now ∧
    (State.txPlace d pick s).serial = s.serial ∧ (State.txPlace d pick s).pins = s.pins ∧
    (State.txPlace d pick s).md = s.md ∧ (State.txPlace d pick s).cmds = s.cmds ∧
    (State.txPlace d pick s).clk = s.clk ∧ (State.txPlace d pick s).kennel = s.kennel ∧
    (State.txPlace d pick s).time = s.time ∧ (State.txPlace d pick s).port = s.port ∧
    (State.txPlace d pick s).slices = s.slices ∧ (State.txPlace d pick s).tab = s.tab ∧
    (State.txPlace d pick s).sch = s.sch ∧ (State.txPlace d pick s).pwr = s.pwr ∧
    (State.txPlace d pick s).regs = s.regs ∧ (State.txPlace d pick s).flt.keel0 = s.flt.keel0 ∧
    (State.txPlace d pick s).flt.keel1 = s.flt.keel1 := by
  unfold State.txPlace
  (try dsimp only)
  (repeat' split) <;> first | (simp; done) | (rename_i q; simp [snd_of q]; done) | (rename_i q _; simp [snd_of q]; done)

@[simp] theorem txTaken_keeps (inj : Bool) (p tc : Nat) (chan cookie : Option Nat) (owner : Nat) (pick : Draw) (b : List Byte) (r : Took × State) :
    (txTaken inj p tc chan cookie owner pick b r).2.pending = r.2.pending ∧
    (txTaken inj p tc chan cookie owner pick b r).2.now = r.2.now ∧
    (txTaken inj p tc chan cookie owner pick b r).2.serial = r.2.serial ∧
    (txTaken inj p tc chan cookie owner pick b r).2.pins = r.2.pins ∧
    (txTaken inj p tc chan cookie owner pick b r).2.md = r.2.md ∧
    (txTaken inj p tc chan cookie owner pick b r).2.cmds = r.2.cmds ∧
    (txTaken inj p tc chan cookie owner pick b r).2.clk = r.2.clk ∧
    (txTaken inj p tc chan cookie owner pick b r).2.kennel = r.2.kennel ∧
    (txTaken inj p tc chan cookie owner pick b r).2.time = r.2.time ∧
    (txTaken inj p tc chan cookie owner pick b r).2.slices = r.2.slices ∧
    (txTaken inj p tc chan cookie owner pick b r).2.tab = r.2.tab ∧
    (txTaken inj p tc chan cookie owner pick b r).2.sch = r.2.sch ∧
    (txTaken inj p tc chan cookie owner pick b r).2.pwr = r.2.pwr ∧
    (txTaken inj p tc chan cookie owner pick b r).2.regs = r.2.regs ∧
    (txTaken inj p tc chan cookie owner pick b r).2.flt.keel0 = r.2.flt.keel0 ∧
    (txTaken inj p tc chan cookie owner pick b r).2.flt.keel1 = r.2.flt.keel1 := by
  (unfold txTaken; split <;> simp only [State.addPkt_keeps, State.txPlace_keeps, State.pfcUpdate_keeps, ite_self, and_self, implies_true, Ran.st_done, Ran.st_wait, Ran.st_refuse, Ran.st_ite, snd_ite, ite_pending, ite_now, ite_serial, ite_pins, ite_md, ite_cmds, ite_clk, ite_kennel, ite_time, ite_slices, ite_tab, ite_sch, ite_pwr, ite_regs, ite_flt_keel0, ite_flt_keel1, foldl_pending, foldl_now, foldl_serial, foldl_pins, foldl_md, foldl_cmds, foldl_clk, foldl_kennel, foldl_time, foldl_slices, foldl_tab, foldl_sch, foldl_pwr, foldl_regs, foldl_flt_keel0, foldl_flt_keel1, foldl_snd_pending, foldl_snd_now, foldl_snd_serial, foldl_snd_pins, foldl_snd_md, foldl_snd_cmds, foldl_snd_clk, foldl_snd_kennel, foldl_snd_time, foldl_snd_slices, foldl_snd_tab, foldl_snd_sch, foldl_snd_pwr, foldl_snd_regs, foldl_snd_flt_keel0, foldl_snd_flt_keel1])

@[simp] theorem State.txTake_keeps (i : Nat) (desc frame : List Byte) (pick : Draw) (s : State) :
    (State.txTake i desc frame pick s).2.pending = s.pending ∧ (State.txTake i desc frame pick s).2.now = s.now ∧
    (State.txTake i desc frame pick s).2.serial = s.serial ∧ (State.txTake i desc frame pick s).2.pins = s.pins ∧
    (State.txTake i desc frame pick s).2.md = s.md ∧ (State.txTake i desc frame pick s).2.cmds = s.cmds ∧
    (State.txTake i desc frame pick s).2.clk = s.clk ∧ (State.txTake i desc frame pick s).2.kennel = s.kennel ∧
    (State.txTake i desc frame pick s).2.time = s.time ∧ (State.txTake i desc frame pick s).2.slices = s.slices ∧
    (State.txTake i desc frame pick s).2.tab = s.tab ∧ (State.txTake i desc frame pick s).2.sch = s.sch ∧
    (State.txTake i desc frame pick s).2.pwr = s.pwr ∧ (State.txTake i desc frame pick s).2.regs = s.regs ∧
    (State.txTake i desc frame pick s).2.flt.keel0 = s.flt.keel0 ∧
    (State.txTake i desc frame pick s).2.flt.keel1 = s.flt.keel1 := by
  (unfold State.txTake; simp only [State.take_keeps, txTaken_keeps, State.countDrop_keeps, ite_self, and_self, implies_true, Ran.st_done, Ran.st_wait, Ran.st_refuse, Ran.st_ite, snd_ite, ite_pending, ite_now, ite_serial, ite_pins, ite_md, ite_cmds, ite_clk, ite_kennel, ite_time, ite_slices, ite_tab, ite_sch, ite_pwr, ite_regs, ite_flt_keel0, ite_flt_keel1, foldl_pending, foldl_now, foldl_serial, foldl_pins, foldl_md, foldl_cmds, foldl_clk, foldl_kennel, foldl_time, foldl_slices, foldl_tab, foldl_sch, foldl_pwr, foldl_regs, foldl_flt_keel0, foldl_flt_keel1, foldl_snd_pending, foldl_snd_now, foldl_snd_serial, foldl_snd_pins, foldl_snd_md, foldl_snd_cmds, foldl_snd_clk, foldl_snd_kennel, foldl_snd_time, foldl_snd_slices, foldl_snd_tab, foldl_snd_sch, foldl_snd_pwr, foldl_snd_regs, foldl_snd_flt_keel0, foldl_snd_flt_keel1]; done)
end Sys2Proof.Machine
end

