-- ==== Sys2Proof/Laws/KeepsPorts.lean ====
section
/-! SUPPORT. What each operation of Machine/Ports.lean keeps: the parts of the state that it leaves as they are. -/
set_option linter.unusedSimpArgs false
set_option linter.unusedVariables false
namespace Sys2Proof.Machine
open Host (Outcome)

@[simp] theorem State.portRec_keeps (p code : Nat) (s : State) :
    (State.portRec p code s).pending = s.pending ∧ (State.portRec p code s).now = s.now ∧
    (State.portRec p code s).serial = s.serial ∧ (State.portRec p code s).out = s.out ∧
    (State.portRec p code s).pins = s.pins ∧ (State.portRec p code s).md = s.md ∧
    (State.portRec p code s).host = s.host ∧ (State.portRec p code s).cmds = s.cmds ∧
    (State.portRec p code s).clk = s.clk ∧ (State.portRec p code s).ref = s.ref ∧
    (State.portRec p code s).kennel = s.kennel ∧ (State.portRec p code s).time = s.time ∧
    (State.portRec p code s).buf = s.buf ∧ (State.portRec p code s).port = s.port ∧
    (State.portRec p code s).slices = s.slices ∧ (State.portRec p code s).tab = s.tab ∧
    (State.portRec p code s).gen = s.gen ∧ (State.portRec p code s).core = s.core ∧
    (State.portRec p code s).sch = s.sch ∧ (State.portRec p code s).tel = s.tel ∧
    (State.portRec p code s).pwr = s.pwr ∧ (State.portRec p code s).regs = s.regs ∧
    (State.portRec p code s).cnts = s.cnts ∧ (State.portRec p code s).flt.keel0 = s.flt.keel0 ∧
    (State.portRec p code s).flt.keel1 = s.flt.keel1 := by
  (unfold State.portRec; simp only [State.raise_keeps, ite_self, and_self, implies_true, Ran.st_done, Ran.st_wait, Ran.st_refuse, Ran.st_ite, snd_ite, foldl_pending, foldl_now, foldl_serial, foldl_out, foldl_pins, foldl_md, foldl_host, foldl_cmds, foldl_clk, foldl_ref, foldl_kennel, foldl_time, foldl_buf, foldl_port, foldl_slices, foldl_tab, foldl_gen, foldl_core, foldl_sch, foldl_tel, foldl_pwr, foldl_regs, foldl_cnts, foldl_flt_keel0, foldl_flt_keel1, foldl_snd_pending, foldl_snd_now, foldl_snd_serial, foldl_snd_out, foldl_snd_pins, foldl_snd_md, foldl_snd_host, foldl_snd_cmds, foldl_snd_clk, foldl_snd_ref, foldl_snd_kennel, foldl_snd_time, foldl_snd_buf, foldl_snd_port, foldl_snd_slices, foldl_snd_tab, foldl_snd_gen, foldl_snd_core, foldl_snd_sch, foldl_snd_tel, foldl_snd_pwr, foldl_snd_regs, foldl_snd_cnts, foldl_snd_flt_keel0, foldl_snd_flt_keel1]; done)

@[simp] theorem State.flushPort_keeps (p : Nat) (pick : Draw) (s : State) :
    (State.flushPort p pick s).pending = s.pending ∧ (State.flushPort p pick s).now = s.now ∧
    (State.flushPort p pick s).serial = s.serial ∧ (State.flushPort p pick s).pins = s.pins ∧
    (State.flushPort p pick s).md = s.md ∧ (State.flushPort p pick s).cmds = s.cmds ∧
    (State.flushPort p pick s).clk = s.clk ∧ (State.flushPort p pick s).kennel = s.kennel ∧
    (State.flushPort p pick s).time = s.time ∧ (State.flushPort p pick s).port = s.port ∧
    (State.flushPort p pick s).slices = s.slices ∧ (State.flushPort p pick s).tab = s.tab ∧
    (State.flushPort p pick s).pwr = s.pwr ∧ (State.flushPort p pick s).regs = s.regs ∧
    (State.flushPort p pick s).flt.keel0 = s.flt.keel0 ∧ (State.flushPort p pick s).flt.keel1 = s.flt.keel1 := by
  (unfold State.flushPort; simp only [State.leaveQueue_keeps, State.dropDesc_keeps, ite_self, and_self, implies_true, Ran.st_done, Ran.st_wait, Ran.st_refuse, Ran.st_ite, snd_ite, foldl_pending, foldl_now, foldl_serial, foldl_pins, foldl_md, foldl_cmds, foldl_clk, foldl_kennel, foldl_time, foldl_port, foldl_slices, foldl_tab, foldl_pwr, foldl_regs, foldl_flt_keel0, foldl_flt_keel1, foldl_snd_pending, foldl_snd_now, foldl_snd_serial, foldl_snd_pins, foldl_snd_md, foldl_snd_cmds, foldl_snd_clk, foldl_snd_kennel, foldl_snd_time, foldl_snd_port, foldl_snd_slices, foldl_snd_tab, foldl_snd_pwr, foldl_snd_regs, foldl_snd_flt_keel0, foldl_snd_flt_keel1]; done)

@[simp] theorem State.cutFrame_keeps (p : Nat) (pick : Draw) (s : State) :
    (State.cutFrame p pick s).pending = s.pending ∧ (State.cutFrame p pick s).now = s.now ∧
    (State.cutFrame p pick s).serial = s.serial ∧ (State.cutFrame p pick s).pins = s.pins ∧
    (State.cutFrame p pick s).md = s.md ∧ (State.cutFrame p pick s).cmds = s.cmds ∧
    (State.cutFrame p pick s).clk = s.clk ∧ (State.cutFrame p pick s).kennel = s.kennel ∧
    (State.cutFrame p pick s).time = s.time ∧ (State.cutFrame p pick s).port = s.port ∧
    (State.cutFrame p pick s).slices = s.slices ∧ (State.cutFrame p pick s).tab = s.tab ∧
    (State.cutFrame p pick s).sch = s.sch ∧ (State.cutFrame p pick s).pwr = s.pwr ∧
    (State.cutFrame p pick s).regs = s.regs ∧ (State.cutFrame p pick s).flt.keel0 = s.flt.keel0 ∧
    (State.cutFrame p pick s).flt.keel1 = s.flt.keel1 := by
  unfold State.cutFrame
  cases s.sendingOf p <;> dsimp only <;> split <;> simp

@[simp] theorem State.leaveUp_keeps (p : Nat) (dest : PState) (cut : Bool) (pick : Draw) (s : State) :
    (State.leaveUp p dest cut pick s).pending = s.pending ∧ (State.leaveUp p dest cut pick s).now = s.now ∧
    (State.leaveUp p dest cut pick s).serial = s.serial ∧ (State.leaveUp p dest cut pick s).pins = s.pins ∧
    (State.leaveUp p dest cut pick s).md = s.md ∧ (State.leaveUp p dest cut pick s).cmds = s.cmds ∧
    (State.leaveUp p dest cut pick s).clk = s.clk ∧ (State.leaveUp p dest cut pick s).kennel = s.kennel ∧
    (State.leaveUp p dest cut pick s).slices = s.slices ∧ (State.leaveUp p dest cut pick s).tab = s.tab ∧
    (State.leaveUp p dest cut pick s).pwr = s.pwr ∧ (State.leaveUp p dest cut pick s).regs = s.regs ∧
    (State.leaveUp p dest cut pick s).flt.keel0 = s.flt.keel0 ∧
    (State.leaveUp p dest cut pick s).flt.keel1 = s.flt.keel1 := by
  (unfold State.leaveUp; simp only [State.setPt_keeps, State.cutFrame_keeps, State.finishSending_keeps, State.pfcUpdate_keeps, State.flushPort_keeps, State.portRec_keeps, ite_self, and_self, implies_true, Ran.st_done, Ran.st_wait, Ran.st_refuse, Ran.st_ite, snd_ite, ite_pending, ite_now, ite_serial, ite_pins, ite_md, ite_cmds, ite_clk, ite_kennel, ite_slices, ite_tab, ite_pwr, ite_regs, ite_flt_keel0, ite_flt_keel1, foldl_pending, foldl_now, foldl_serial, foldl_pins, foldl_md, foldl_cmds, foldl_clk, foldl_kennel, foldl_slices, foldl_tab, foldl_pwr, foldl_regs, foldl_flt_keel0, foldl_flt_keel1, foldl_snd_pending, foldl_snd_now, foldl_snd_serial, foldl_snd_pins, foldl_snd_md, foldl_snd_cmds, foldl_snd_clk, foldl_snd_kennel, foldl_snd_slices, foldl_snd_tab, foldl_snd_pwr, foldl_snd_regs, foldl_snd_flt_keel0, foldl_snd_flt_keel1]; done)

@[simp] theorem State.startLanes_keeps (p : Nat) (dest : PState) (s : State) :
    (State.startLanes p dest s).pending = s.pending ∧ (State.startLanes p dest s).now = s.now ∧
    (State.startLanes p dest s).serial = s.serial ∧ (State.startLanes p dest s).out = s.out ∧
    (State.startLanes p dest s).pins = s.pins ∧ (State.startLanes p dest s).md = s.md ∧
    (State.startLanes p dest s).host = s.host ∧ (State.startLanes p dest s).cmds = s.cmds ∧
    (State.startLanes p dest s).flt = s.flt ∧ (State.startLanes p dest s).clk = s.clk ∧
    (State.startLanes p dest s).ref = s.ref ∧ (State.startLanes p dest s).kennel = s.kennel ∧
    (State.startLanes p dest s).time = s.time ∧ (State.startLanes p dest s).buf = s.buf ∧
    (State.startLanes p dest s).slices = s.slices ∧ (State.startLanes p dest s).tab = s.tab ∧
    (State.startLanes p dest s).gen = s.gen ∧ (State.startLanes p dest s).core = s.core ∧
    (State.startLanes p dest s).sch = s.sch ∧ (State.startLanes p dest s).tel = s.tel ∧
    (State.startLanes p dest s).pwr = s.pwr ∧ (State.startLanes p dest s).regs = s.regs ∧
    (State.startLanes p dest s).cnts = s.cnts := by
  (unfold State.startLanes; simp only [State.setLane_keeps, ite_self, and_self, implies_true, Ran.st_done, Ran.st_wait, Ran.st_refuse, Ran.st_ite, snd_ite, foldl_pending, foldl_now, foldl_serial, foldl_out, foldl_pins, foldl_md, foldl_host, foldl_cmds, foldl_flt, foldl_clk, foldl_ref, foldl_kennel, foldl_time, foldl_buf, foldl_slices, foldl_tab, foldl_gen, foldl_core, foldl_sch, foldl_tel, foldl_pwr, foldl_regs, foldl_cnts, foldl_snd_pending, foldl_snd_now, foldl_snd_serial, foldl_snd_out, foldl_snd_pins, foldl_snd_md, foldl_snd_host, foldl_snd_cmds, foldl_snd_flt, foldl_snd_clk, foldl_snd_ref, foldl_snd_kennel, foldl_snd_time, foldl_snd_buf, foldl_snd_slices, foldl_snd_tab, foldl_snd_gen, foldl_snd_core, foldl_snd_sch, foldl_snd_tel, foldl_snd_pwr, foldl_snd_regs, foldl_snd_cnts]; done)

@[simp] theorem State.restartPort_keeps (p : Nat) (cut : Bool) (pick : Draw) (s : State) :
    (State.restartPort p cut pick s).pending = s.pending ∧ (State.restartPort p cut pick s).now = s.now ∧
    (State.restartPort p cut pick s).serial = s.serial ∧ (State.restartPort p cut pick s).pins = s.pins ∧
    (State.restartPort p cut pick s).md = s.md ∧ (State.restartPort p cut pick s).cmds = s.cmds ∧
    (State.restartPort p cut pick s).clk = s.clk ∧ (State.restartPort p cut pick s).kennel = s.kennel ∧
    (State.restartPort p cut pick s).slices = s.slices ∧ (State.restartPort p cut pick s).tab = s.tab ∧
    (State.restartPort p cut pick s).pwr = s.pwr ∧ (State.restartPort p cut pick s).regs = s.regs ∧
    (State.restartPort p cut pick s).flt.keel0 = s.flt.keel0 ∧
    (State.restartPort p cut pick s).flt.keel1 = s.flt.keel1 := by
  (unfold State.restartPort; simp only [State.leaveUp_keeps, State.setPt_keeps, State.startLanes_keeps, ite_self, and_self, implies_true, Ran.st_done, Ran.st_wait, Ran.st_refuse, Ran.st_ite, snd_ite, foldl_pending, foldl_now, foldl_serial, foldl_pins, foldl_md, foldl_cmds, foldl_clk, foldl_kennel, foldl_slices, foldl_tab, foldl_pwr, foldl_regs, foldl_flt_keel0, foldl_flt_keel1, foldl_snd_pending, foldl_snd_now, foldl_snd_serial, foldl_snd_pins, foldl_snd_md, foldl_snd_cmds, foldl_snd_clk, foldl_snd_kennel, foldl_snd_slices, foldl_snd_tab, foldl_snd_pwr, foldl_snd_regs, foldl_snd_flt_keel0, foldl_snd_flt_keel1]; done)

@[simp] theorem State.clearCal_keeps (p : Nat) (s : State) :
    (State.clearCal p s).pending = s.pending ∧ (State.clearCal p s).now = s.now ∧
    (State.clearCal p s).serial = s.serial ∧ (State.clearCal p s).pins = s.pins ∧ (State.clearCal p s).md = s.md ∧
    (State.clearCal p s).flt = s.flt ∧ (State.clearCal p s).clk = s.clk ∧ (State.clearCal p s).ref = s.ref ∧
    (State.clearCal p s).kennel = s.kennel ∧ (State.clearCal p s).buf = s.buf ∧
    (State.clearCal p s).port = s.port ∧ (State.clearCal p s).slices = s.slices ∧
    (State.clearCal p s).tab = s.tab ∧ (State.clearCal p s).gen = s.gen ∧ (State.clearCal p s).core = s.core ∧
    (State.clearCal p s).sch = s.sch ∧ (State.clearCal p s).tel = s.tel ∧ (State.clearCal p s).pwr = s.pwr ∧
    (State.clearCal p s).regs = s.regs ∧ (State.clearCal p s).cnts = s.cnts := by
  (unfold State.clearCal; dsimp only; split <;> simp only [State.completeSer_keeps, State.setCal_keeps, ite_self, and_self, implies_true, Ran.st_done, Ran.st_wait, Ran.st_refuse, Ran.st_ite, snd_ite, ite_pending, ite_now, ite_serial, ite_pins, ite_md, ite_flt, ite_clk, ite_ref, ite_kennel, ite_buf, ite_port, ite_slices, ite_tab, ite_gen, ite_core, ite_sch, ite_tel, ite_pwr, ite_regs, ite_cnts, foldl_pending, foldl_now, foldl_serial, foldl_pins, foldl_md, foldl_flt, foldl_clk, foldl_ref, foldl_kennel, foldl_buf, foldl_port, foldl_slices, foldl_tab, foldl_gen, foldl_core, foldl_sch, foldl_tel, foldl_pwr, foldl_regs, foldl_cnts, foldl_snd_pending, foldl_snd_now, foldl_snd_serial, foldl_snd_pins, foldl_snd_md, foldl_snd_flt, foldl_snd_clk, foldl_snd_ref, foldl_snd_kennel, foldl_snd_buf, foldl_snd_port, foldl_snd_slices, foldl_snd_tab, foldl_snd_gen, foldl_snd_core, foldl_snd_sch, foldl_snd_tel, foldl_snd_pwr, foldl_snd_regs, foldl_snd_cnts])

@[simp] theorem State.clearPt_keeps (p : Nat) (s : State) :
    (State.clearPt p s).pending = s.pending ∧ (State.clearPt p s).now = s.now ∧
    (State.clearPt p s).serial = s.serial ∧ (State.clearPt p s).pins = s.pins ∧ (State.clearPt p s).md = s.md ∧
    (State.clearPt p s).flt = s.flt ∧ (State.clearPt p s).clk = s.clk ∧ (State.clearPt p s).ref = s.ref ∧
    (State.clearPt p s).kennel = s.kennel ∧ (State.clearPt p s).buf = s.buf ∧
    (State.clearPt p s).slices = s.slices ∧ (State.clearPt p s).tab = s.tab ∧ (State.clearPt p s).gen = s.gen ∧
    (State.clearPt p s).core = s.core ∧ (State.clearPt p s).sch = s.sch ∧ (State.clearPt p s).tel = s.tel ∧
    (State.clearPt p s).pwr = s.pwr ∧ (State.clearPt p s).cnts = s.cnts := by
  (unfold State.clearPt; simp only [State.setPt_keeps, State.clearCal_keeps, ite_self, and_self, implies_true, Ran.st_done, Ran.st_wait, Ran.st_refuse, Ran.st_ite, snd_ite, foldl_pending, foldl_now, foldl_serial, foldl_pins, foldl_md, foldl_flt, foldl_clk, foldl_ref, foldl_kennel, foldl_buf, foldl_slices, foldl_tab, foldl_gen, foldl_core, foldl_sch, foldl_tel, foldl_pwr, foldl_cnts, foldl_snd_pending, foldl_snd_now, foldl_snd_serial, foldl_snd_pins, foldl_snd_md, foldl_snd_flt, foldl_snd_clk, foldl_snd_ref, foldl_snd_kennel, foldl_snd_buf, foldl_snd_slices, foldl_snd_tab, foldl_snd_gen, foldl_snd_core, foldl_snd_sch, foldl_snd_tel, foldl_snd_pwr, foldl_snd_cnts]; done)

@[simp] theorem State.unparkPort_keeps (p : Nat) (s : State) :
    (State.unparkPort p s).pending = s.pending ∧ (State.unparkPort p s).now = s.now ∧
    (State.unparkPort p s).serial = s.serial ∧ (State.unparkPort p s).out = s.out ∧
    (State.unparkPort p s).pins = s.pins ∧ (State.unparkPort p s).md = s.md ∧
    (State.unparkPort p s).host = s.host ∧ (State.unparkPort p s).cmds = s.cmds ∧
    (State.unparkPort p s).flt = s.flt ∧ (State.unparkPort p s).clk = s.clk ∧ (State.unparkPort p s).ref = s.ref ∧
    (State.unparkPort p s).kennel = s.kennel ∧ (State.unparkPort p s).time = s.time ∧
    (State.unparkPort p s).buf = s.buf ∧ (State.unparkPort p s).slices = s.slices ∧
    (State.unparkPort p s).tab = s.tab ∧ (State.unparkPort p s).gen = s.gen ∧
    (State.unparkPort p s).core = s.core ∧ (State.unparkPort p s).sch = s.sch ∧
    (State.unparkPort p s).tel = s.tel ∧ (State.unparkPort p s).pwr = s.pwr ∧
    (State.unparkPort p s).regs = s.regs ∧ (State.unparkPort p s).cnts = s.cnts := by
  (unfold State.unparkPort; simp only [State.setLane_keeps, ite_self, and_self, implies_true, Ran.st_done, Ran.st_wait, Ran.st_refuse, Ran.st_ite, snd_ite, foldl_pending, foldl_now, foldl_serial, foldl_out, foldl_pins, foldl_md, foldl_host, foldl_cmds, foldl_flt, foldl_clk, foldl_ref, foldl_kennel, foldl_time, foldl_buf, foldl_slices, foldl_tab, foldl_gen, foldl_core, foldl_sch, foldl_tel, foldl_pwr, foldl_regs, foldl_cnts, foldl_snd_pending, foldl_snd_now, foldl_snd_serial, foldl_snd_out, foldl_snd_pins, foldl_snd_md, foldl_snd_host, foldl_snd_cmds, foldl_snd_flt, foldl_snd_clk, foldl_snd_ref, foldl_snd_kennel, foldl_snd_time, foldl_snd_buf, foldl_snd_slices, foldl_snd_tab, foldl_snd_gen, foldl_snd_core, foldl_snd_sch, foldl_snd_tel, foldl_snd_pwr, foldl_snd_regs, foldl_snd_cnts]; done)

@[simp] theorem State.writeCtrl_keeps (p v : Nat) (pick : Draw) (s : State) :
    (State.writeCtrl p v pick s).pending = s.pending ∧ (State.writeCtrl p v pick s).now = s.now ∧
    (State.writeCtrl p v pick s).serial = s.serial ∧ (State.writeCtrl p v pick s).pins = s.pins ∧
    (State.writeCtrl p v pick s).md = s.md ∧ (State.writeCtrl p v pick s).cmds = s.cmds ∧
    (State.writeCtrl p v pick s).clk = s.clk ∧ (State.writeCtrl p v pick s).kennel = s.kennel ∧
    (State.writeCtrl p v pick s).slices = s.slices ∧ (State.writeCtrl p v pick s).tab = s.tab ∧
    (State.writeCtrl p v pick s).pwr = s.pwr ∧ (State.writeCtrl p v pick s).flt.keel0 = s.flt.keel0 ∧
    (State.writeCtrl p v pick s).flt.keel1 = s.flt.keel1 := by
  (unfold State.writeCtrl; simp only [State.restartPort_keeps, State.wr_keeps, State.unparkPort_keeps, ite_self, and_self, implies_true, Ran.st_done, Ran.st_wait, Ran.st_refuse, Ran.st_ite, snd_ite, ite_pending, ite_now, ite_serial, ite_pins, ite_md, ite_cmds, ite_clk, ite_kennel, ite_slices, ite_tab, ite_pwr, ite_flt_keel0, ite_flt_keel1, foldl_pending, foldl_now, foldl_serial, foldl_pins, foldl_md, foldl_cmds, foldl_clk, foldl_kennel, foldl_slices, foldl_tab, foldl_pwr, foldl_flt_keel0, foldl_flt_keel1, foldl_snd_pending, foldl_snd_now, foldl_snd_serial, foldl_snd_pins, foldl_snd_md, foldl_snd_cmds, foldl_snd_clk, foldl_snd_kennel, foldl_snd_slices, foldl_snd_tab, foldl_snd_pwr, foldl_snd_flt_keel0, foldl_snd_flt_keel1]; done)

@[simp] theorem State.onBench_keeps (l : Nat) (f : LaneTest → LaneTest) (s : State) :
    (State.onBench l f s).pending = s.pending ∧ (State.onBench l f s).now = s.now ∧
    (State.onBench l f s).serial = s.serial ∧ (State.onBench l f s).out = s.out ∧ (State.onBench l f s).md = s.md ∧
    (State.onBench l f s).host = s.host ∧ (State.onBench l f s).cmds = s.cmds ∧ (State.onBench l f s).flt = s.flt ∧
    (State.onBench l f s).clk = s.clk ∧ (State.onBench l f s).ref = s.ref ∧
    (State.onBench l f s).kennel = s.kennel ∧ (State.onBench l f s).time = s.time ∧
    (State.onBench l f s).buf = s.buf ∧ (State.onBench l f s).port = s.port ∧
    (State.onBench l f s).slices = s.slices ∧ (State.onBench l f s).tab = s.tab ∧
    (State.onBench l f s).gen = s.gen ∧ (State.onBench l f s).core = s.core ∧ (State.onBench l f s).sch = s.sch ∧
    (State.onBench l f s).tel = s.tel ∧ (State.onBench l f s).pwr = s.pwr ∧ (State.onBench l f s).regs = s.regs ∧
    (State.onBench l f s).cnts = s.cnts := by
  (unfold State.onBench; simp only [ite_self, and_self, implies_true, Ran.st_done, Ran.st_wait, Ran.st_refuse, Ran.st_ite, snd_ite, ite_pending, ite_now, ite_serial, ite_out, ite_md, ite_host, ite_cmds, ite_flt, ite_clk, ite_ref, ite_kennel, ite_time, ite_buf, ite_port, ite_slices, ite_tab, ite_gen, ite_core, ite_sch, ite_tel, ite_pwr, ite_regs, ite_cnts, foldl_pending, foldl_now, foldl_serial, foldl_out, foldl_md, foldl_host, foldl_cmds, foldl_flt, foldl_clk, foldl_ref, foldl_kennel, foldl_time, foldl_buf, foldl_port, foldl_slices, foldl_tab, foldl_gen, foldl_core, foldl_sch, foldl_tel, foldl_pwr, foldl_regs, foldl_cnts, foldl_snd_pending, foldl_snd_now, foldl_snd_serial, foldl_snd_out, foldl_snd_md, foldl_snd_host, foldl_snd_cmds, foldl_snd_flt, foldl_snd_clk, foldl_snd_ref, foldl_snd_kennel, foldl_snd_time, foldl_snd_buf, foldl_snd_port, foldl_snd_slices, foldl_snd_tab, foldl_snd_gen, foldl_snd_core, foldl_snd_sch, foldl_snd_tel, foldl_snd_pwr, foldl_snd_regs, foldl_snd_cnts]; done)

@[simp] theorem State.writeTest_keeps (p v : Nat) (s : State) :
    (State.writeTest p v s).pending = s.pending ∧ (State.writeTest p v s).now = s.now ∧
    (State.writeTest p v s).serial = s.serial ∧ (State.writeTest p v s).pins = s.pins ∧
    (State.writeTest p v s).md = s.md ∧ (State.writeTest p v s).cmds = s.cmds ∧
    (State.writeTest p v s).clk = s.clk ∧ (State.writeTest p v s).kennel = s.kennel ∧
    (State.writeTest p v s).slices = s.slices ∧ (State.writeTest p v s).tab = s.tab ∧
    (State.writeTest p v s).pwr = s.pwr ∧ (State.writeTest p v s).flt.keel0 = s.flt.keel0 ∧
    (State.writeTest p v s).flt.keel1 = s.flt.keel1 := by
  (unfold State.writeTest; simp only [State.setLane_keeps, State.restartPort_keeps, State.wr_keeps, ite_self, and_self, implies_true, Ran.st_done, Ran.st_wait, Ran.st_refuse, Ran.st_ite, snd_ite, ite_pending, ite_now, ite_serial, ite_pins, ite_md, ite_cmds, ite_clk, ite_kennel, ite_slices, ite_tab, ite_pwr, ite_flt_keel0, ite_flt_keel1, foldl_pending, foldl_now, foldl_serial, foldl_pins, foldl_md, foldl_cmds, foldl_clk, foldl_kennel, foldl_slices, foldl_tab, foldl_pwr, foldl_flt_keel0, foldl_flt_keel1, foldl_snd_pending, foldl_snd_now, foldl_snd_serial, foldl_snd_pins, foldl_snd_md, foldl_snd_cmds, foldl_snd_clk, foldl_snd_kennel, foldl_snd_slices, foldl_snd_tab, foldl_snd_pwr, foldl_snd_flt_keel0, foldl_snd_flt_keel1]; done)

@[simp] theorem State.toState_keeps (p : Nat) (x : PState) (s : State) :
    (State.toState p x s).pending = s.pending ∧ (State.toState p x s).now = s.now ∧
    (State.toState p x s).serial = s.serial ∧ (State.toState p x s).out = s.out ∧
    (State.toState p x s).pins = s.pins ∧ (State.toState p x s).md = s.md ∧ (State.toState p x s).host = s.host ∧
    (State.toState p x s).cmds = s.cmds ∧ (State.toState p x s).flt = s.flt ∧ (State.toState p x s).clk = s.clk ∧
    (State.toState p x s).ref = s.ref ∧ (State.toState p x s).kennel = s.kennel ∧
    (State.toState p x s).time = s.time ∧ (State.toState p x s).buf = s.buf ∧
    (State.toState p x s).slices = s.slices ∧ (State.toState p x s).tab = s.tab ∧
    (State.toState p x s).gen = s.gen ∧ (State.toState p x s).core = s.core ∧ (State.toState p x s).sch = s.sch ∧
    (State.toState p x s).tel = s.tel ∧ (State.toState p x s).pwr = s.pwr ∧ (State.toState p x s).regs = s.regs ∧
    (State.toState p x s).cnts = s.cnts := by
  (unfold State.toState; simp only [State.setPt_keeps, ite_self, and_self, implies_true, Ran.st_done, Ran.st_wait, Ran.st_refuse, Ran.st_ite, snd_ite, foldl_pending, foldl_now, foldl_serial, foldl_out, foldl_pins, foldl_md, foldl_host, foldl_cmds, foldl_flt, foldl_clk, foldl_ref, foldl_kennel, foldl_time, foldl_buf, foldl_slices, foldl_tab, foldl_gen, foldl_core, foldl_sch, foldl_tel, foldl_pwr, foldl_regs, foldl_cnts, foldl_snd_pending, foldl_snd_now, foldl_snd_serial, foldl_snd_out, foldl_snd_pins, foldl_snd_md, foldl_snd_host, foldl_snd_cmds, foldl_snd_flt, foldl_snd_clk, foldl_snd_ref, foldl_snd_kennel, foldl_snd_time, foldl_snd_buf, foldl_snd_slices, foldl_snd_tab, foldl_snd_gen, foldl_snd_core, foldl_snd_sch, foldl_snd_tel, foldl_snd_pwr, foldl_snd_regs, foldl_snd_cnts]; done)

@[simp] theorem State.detectLanes_keeps (p lanes : Nat) (s : State) :
    (State.detectLanes p lanes s).pending = s.pending ∧ (State.detectLanes p lanes s).now = s.now ∧
    (State.detectLanes p lanes s).serial = s.serial ∧ (State.detectLanes p lanes s).out = s.out ∧
    (State.detectLanes p lanes s).pins = s.pins ∧ (State.detectLanes p lanes s).md = s.md ∧
    (State.detectLanes p lanes s).host = s.host ∧ (State.detectLanes p lanes s).cmds = s.cmds ∧
    (State.detectLanes p lanes s).flt = s.flt ∧ (State.detectLanes p lanes s).clk = s.clk ∧
    (State.detectLanes p lanes s).ref = s.ref ∧ (State.detectLanes p lanes s).kennel = s.kennel ∧
    (State.detectLanes p lanes s).time = s.time ∧ (State.detectLanes p lanes s).buf = s.buf ∧
    (State.detectLanes p lanes s).slices = s.slices ∧ (State.detectLanes p lanes s).tab = s.tab ∧
    (State.detectLanes p lanes s).gen = s.gen ∧ (State.detectLanes p lanes s).core = s.core ∧
    (State.detectLanes p lanes s).sch = s.sch ∧ (State.detectLanes p lanes s).tel = s.tel ∧
    (State.detectLanes p lanes s).pwr = s.pwr ∧ (State.detectLanes p lanes s).regs = s.regs ∧
    (State.detectLanes p lanes s).cnts = s.cnts := by
  (unfold State.detectLanes; simp only [State.setLane_keeps, ite_self, and_self, implies_true, Ran.st_done, Ran.st_wait, Ran.st_refuse, Ran.st_ite, snd_ite, foldl_pending, foldl_now, foldl_serial, foldl_out, foldl_pins, foldl_md, foldl_host, foldl_cmds, foldl_flt, foldl_clk, foldl_ref, foldl_kennel, foldl_time, foldl_buf, foldl_slices, foldl_tab, foldl_gen, foldl_core, foldl_sch, foldl_tel, foldl_pwr, foldl_regs, foldl_cnts, foldl_snd_pending, foldl_snd_now, foldl_snd_serial, foldl_snd_out, foldl_snd_pins, foldl_snd_md, foldl_snd_host, foldl_snd_cmds, foldl_snd_flt, foldl_snd_clk, foldl_snd_ref, foldl_snd_kennel, foldl_snd_time, foldl_snd_buf, foldl_snd_slices, foldl_snd_tab, foldl_snd_gen, foldl_snd_core, foldl_snd_sch, foldl_snd_tel, foldl_snd_pwr, foldl_snd_regs, foldl_snd_cnts]; done)

@[simp] theorem State.sendTraining_keeps (p l : Nat) (s : State) :
    (State.sendTraining p l s).pending = s.pending ∧ (State.sendTraining p l s).now = s.now ∧
    (State.sendTraining p l s).serial = s.serial ∧ (State.sendTraining p l s).pins = s.pins ∧
    (State.sendTraining p l s).md = s.md ∧ (State.sendTraining p l s).host = s.host ∧
    (State.sendTraining p l s).cmds = s.cmds ∧ (State.sendTraining p l s).flt = s.flt ∧
    (State.sendTraining p l s).clk = s.clk ∧ (State.sendTraining p l s).ref = s.ref ∧
    (State.sendTraining p l s).kennel = s.kennel ∧ (State.sendTraining p l s).time = s.time ∧
    (State.sendTraining p l s).buf = s.buf ∧ (State.sendTraining p l s).slices = s.slices ∧
    (State.sendTraining p l s).tab = s.tab ∧ (State.sendTraining p l s).gen = s.gen ∧
    (State.sendTraining p l s).core = s.core ∧ (State.sendTraining p l s).sch = s.sch ∧
    (State.sendTraining p l s).tel = s.tel ∧ (State.sendTraining p l s).pwr = s.pwr ∧
    (State.sendTraining p l s).regs = s.regs ∧ (State.sendTraining p l s).cnts = s.cnts := by
  (unfold State.sendTraining; simp only [State.setLane_keeps, State.emit_keeps, ite_self, and_self, implies_true, Ran.st_done, Ran.st_wait, Ran.st_refuse, Ran.st_ite, snd_ite, foldl_pending, foldl_now, foldl_serial, foldl_pins, foldl_md, foldl_host, foldl_cmds, foldl_flt, foldl_clk, foldl_ref, foldl_kennel, foldl_time, foldl_buf, foldl_slices, foldl_tab, foldl_gen, foldl_core, foldl_sch, foldl_tel, foldl_pwr, foldl_regs, foldl_cnts, foldl_snd_pending, foldl_snd_now, foldl_snd_serial, foldl_snd_pins, foldl_snd_md, foldl_snd_host, foldl_snd_cmds, foldl_snd_flt, foldl_snd_clk, foldl_snd_ref, foldl_snd_kennel, foldl_snd_time, foldl_snd_buf, foldl_snd_slices, foldl_snd_tab, foldl_snd_gen, foldl_snd_core, foldl_snd_sch, foldl_snd_tel, foldl_snd_pwr, foldl_snd_regs, foldl_snd_cnts]; done)

@[simp] theorem State.heardTraining_keeps (p l : Nat) (inverted : Bool) (c : Nat) (s : State) :
    (State.heardTraining p l inverted c s).pending = s.pending ∧
    (State.heardTraining p l inverted c s).now = s.now ∧ (State.heardTraining p l inverted c s).serial = s.serial ∧
    (State.heardTraining p l inverted c s).out = s.out ∧ (State.heardTraining p l inverted c s).pins = s.pins ∧
    (State.heardTraining p l inverted c s).md = s.md ∧ (State.heardTraining p l inverted c s).host = s.host ∧
    (State.heardTraining p l inverted c s).cmds = s.cmds ∧ (State.heardTraining p l inverted c s).flt = s.flt ∧
    (State.heardTraining p l inverted c s).clk = s.clk ∧ (State.heardTraining p l inverted c s).ref = s.ref ∧
    (State.heardTraining p l inverted c s).kennel = s.kennel ∧
    (State.heardTraining p l inverted c s).time = s.time ∧ (State.heardTraining p l inverted c s).buf = s.buf ∧
    (State.heardTraining p l inverted c s).slices = s.slices ∧ (State.heardTraining p l inverted c s).tab = s.tab ∧
    (State.heardTraining p l inverted c s).gen = s.gen ∧ (State.heardTraining p l inverted c s).core = s.core ∧
    (State.heardTraining p l inverted c s).sch = s.sch ∧ (State.heardTraining p l inverted c s).tel = s.tel ∧
    (State.heardTraining p l inverted c s).pwr = s.pwr ∧ (State.heardTraining p l inverted c s).regs = s.regs ∧
    (State.heardTraining p l inverted c s).cnts = s.cnts := by
  (unfold State.heardTraining; simp only [State.setLane_keeps, ite_self, and_self, implies_true, Ran.st_done, Ran.st_wait, Ran.st_refuse, Ran.st_ite, snd_ite, ite_pending, ite_now, ite_serial, ite_out, ite_pins, ite_md, ite_host, ite_cmds, ite_flt, ite_clk, ite_ref, ite_kennel, ite_time, ite_buf, ite_slices, ite_tab, ite_gen, ite_core, ite_sch, ite_tel, ite_pwr, ite_regs, ite_cnts, foldl_pending, foldl_now, foldl_serial, foldl_out, foldl_pins, foldl_md, foldl_host, foldl_cmds, foldl_flt, foldl_clk, foldl_ref, foldl_kennel, foldl_time, foldl_buf, foldl_slices, foldl_tab, foldl_gen, foldl_core, foldl_sch, foldl_tel, foldl_pwr, foldl_regs, foldl_cnts, foldl_snd_pending, foldl_snd_now, foldl_snd_serial, foldl_snd_out, foldl_snd_pins, foldl_snd_md, foldl_snd_host, foldl_snd_cmds, foldl_snd_flt, foldl_snd_clk, foldl_snd_ref, foldl_snd_kennel, foldl_snd_time, foldl_snd_buf, foldl_snd_slices, foldl_snd_tab, foldl_snd_gen, foldl_snd_core, foldl_snd_sch, foldl_snd_tel, foldl_snd_pwr, foldl_snd_regs, foldl_snd_cnts]; done)

@[simp] theorem State.lastTraining_keeps (p : Nat) (s : State) :
    (State.lastTraining p s).pending = s.pending ∧ (State.lastTraining p s).now = s.now ∧
    (State.lastTraining p s).serial = s.serial ∧ (State.lastTraining p s).pins = s.pins ∧
    (State.lastTraining p s).md = s.md ∧ (State.lastTraining p s).host = s.host ∧
    (State.lastTraining p s).cmds = s.cmds ∧ (State.lastTraining p s).flt = s.flt ∧
    (State.lastTraining p s).clk = s.clk ∧ (State.lastTraining p s).ref = s.ref ∧
    (State.lastTraining p s).kennel = s.kennel ∧ (State.lastTraining p s).time = s.time ∧
    (State.lastTraining p s).buf = s.buf ∧ (State.lastTraining p s).slices = s.slices ∧
    (State.lastTraining p s).tab = s.tab ∧ (State.lastTraining p s).gen = s.gen ∧
    (State.lastTraining p s).core = s.core ∧ (State.lastTraining p s).sch = s.sch ∧
    (State.lastTraining p s).tel = s.tel ∧ (State.lastTraining p s).pwr = s.pwr ∧
    (State.lastTraining p s).regs = s.regs ∧ (State.lastTraining p s).cnts = s.cnts := by
  (unfold State.lastTraining; simp only [State.sendTraining_keeps, ite_self, and_self, implies_true, Ran.st_done, Ran.st_wait, Ran.st_refuse, Ran.st_ite, snd_ite, foldl_pending, foldl_now, foldl_serial, foldl_pins, foldl_md, foldl_host, foldl_cmds, foldl_flt, foldl_clk, foldl_ref, foldl_kennel, foldl_time, foldl_buf, foldl_slices, foldl_tab, foldl_gen, foldl_core, foldl_sch, foldl_tel, foldl_pwr, foldl_regs, foldl_cnts, foldl_snd_pending, foldl_snd_now, foldl_snd_serial, foldl_snd_pins, foldl_snd_md, foldl_snd_host, foldl_snd_cmds, foldl_snd_flt, foldl_snd_clk, foldl_snd_ref, foldl_snd_kennel, foldl_snd_time, foldl_snd_buf, foldl_snd_slices, foldl_snd_tab, foldl_snd_gen, foldl_snd_core, foldl_snd_sch, foldl_snd_tel, foldl_snd_pwr, foldl_snd_regs, foldl_snd_cnts]; done)

@[simp] theorem State.setMargins_keeps (p : Nat) (margins : List Byte) (s : State) :
    (State.setMargins p margins s).pending = s.pending ∧ (State.setMargins p margins s).now = s.now ∧
    (State.setMargins p margins s).serial = s.serial ∧ (State.setMargins p margins s).out = s.out ∧
    (State.setMargins p margins s).pins = s.pins ∧ (State.setMargins p margins s).md = s.md ∧
    (State.setMargins p margins s).host = s.host ∧ (State.setMargins p margins s).cmds = s.cmds ∧
    (State.setMargins p margins s).flt = s.flt ∧ (State.setMargins p margins s).clk = s.clk ∧
    (State.setMargins p margins s).ref = s.ref ∧ (State.setMargins p margins s).kennel = s.kennel ∧
    (State.setMargins p margins s).time = s.time ∧ (State.setMargins p margins s).buf = s.buf ∧
    (State.setMargins p margins s).slices = s.slices ∧ (State.setMargins p margins s).tab = s.tab ∧
    (State.setMargins p margins s).gen = s.gen ∧ (State.setMargins p margins s).core = s.core ∧
    (State.setMargins p margins s).sch = s.sch ∧ (State.setMargins p margins s).tel = s.tel ∧
    (State.setMargins p margins s).pwr = s.pwr ∧ (State.setMargins p margins s).regs = s.regs ∧
    (State.setMargins p margins s).cnts = s.cnts := by
  (unfold State.setMargins; simp only [State.setLane_keeps, ite_self, and_self, implies_true, Ran.st_done, Ran.st_wait, Ran.st_refuse, Ran.st_ite, snd_ite, foldl_pending, foldl_now, foldl_serial, foldl_out, foldl_pins, foldl_md, foldl_host, foldl_cmds, foldl_flt, foldl_clk, foldl_ref, foldl_kennel, foldl_time, foldl_buf, foldl_slices, foldl_tab, foldl_gen, foldl_core, foldl_sch, foldl_tel, foldl_pwr, foldl_regs, foldl_cnts, foldl_snd_pending, foldl_snd_now, foldl_snd_serial, foldl_snd_out, foldl_snd_pins, foldl_snd_md, foldl_snd_host, foldl_snd_cmds, foldl_snd_flt, foldl_snd_clk, foldl_snd_ref, foldl_snd_kennel, foldl_snd_time, foldl_snd_buf, foldl_snd_slices, foldl_snd_tab, foldl_snd_gen, foldl_snd_core, foldl_snd_sch, foldl_snd_tel, foldl_snd_pwr, foldl_snd_regs, foldl_snd_cnts]; done)

@[simp] theorem State.dropBack_keeps (p : Nat) (pick : Draw) (s : State) :
    (State.dropBack p pick s).pending = s.pending ∧ (State.dropBack p pick s).now = s.now ∧
    (State.dropBack p pick s).serial = s.serial ∧ (State.dropBack p pick s).pins = s.pins ∧
    (State.dropBack p pick s).md = s.md ∧ (State.dropBack p pick s).cmds = s.cmds ∧
    (State.dropBack p pick s).clk = s.clk ∧ (State.dropBack p pick s).kennel = s.kennel ∧
    (State.dropBack p pick s).slices = s.slices ∧ (State.dropBack p pick s).tab = s.tab ∧
    (State.dropBack p pick s).pwr = s.pwr ∧ (State.dropBack p pick s).regs = s.regs ∧
    (State.dropBack p pick s).flt.keel0 = s.flt.keel0 ∧ (State.dropBack p pick s).flt.keel1 = s.flt.keel1 := by
  (unfold State.dropBack; split <;> simp only [State.restartPort_keeps, ite_self, and_self, implies_true, Ran.st_done, Ran.st_wait, Ran.st_refuse, Ran.st_ite, snd_ite, ite_pending, ite_now, ite_serial, ite_pins, ite_md, ite_cmds, ite_clk, ite_kennel, ite_slices, ite_tab, ite_pwr, ite_regs, ite_flt_keel0, ite_flt_keel1, foldl_pending, foldl_now, foldl_serial, foldl_pins, foldl_md, foldl_cmds, foldl_clk, foldl_kennel, foldl_slices, foldl_tab, foldl_pwr, foldl_regs, foldl_flt_keel0, foldl_flt_keel1, foldl_snd_pending, foldl_snd_now, foldl_snd_serial, foldl_snd_pins, foldl_snd_md, foldl_snd_cmds, foldl_snd_clk, foldl_snd_kennel, foldl_snd_slices, foldl_snd_tab, foldl_snd_pwr, foldl_snd_regs, foldl_snd_flt_keel0, foldl_snd_flt_keel1])

@[simp] theorem State.harpDown_keeps (h : Nat) (pick : Draw) (s : State) :
    (State.harpDown h pick s).pending = s.pending ∧ (State.harpDown h pick s).now = s.now ∧
    (State.harpDown h pick s).serial = s.serial ∧ (State.harpDown h pick s).pins = s.pins ∧
    (State.harpDown h pick s).md = s.md ∧ (State.harpDown h pick s).cmds = s.cmds ∧
    (State.harpDown h pick s).clk = s.clk ∧ (State.harpDown h pick s).kennel = s.kennel ∧
    (State.harpDown h pick s).slices = s.slices ∧ (State.harpDown h pick s).tab = s.tab ∧
    (State.harpDown h pick s).pwr = s.pwr ∧ (State.harpDown h pick s).regs = s.regs ∧
    (State.harpDown h pick s).flt.keel0 = s.flt.keel0 ∧ (State.harpDown h pick s).flt.keel1 = s.flt.keel1 := by
  (unfold State.harpDown; simp only [State.setPt_keeps, State.dropBack_keeps, ite_self, and_self, implies_true, Ran.st_done, Ran.st_wait, Ran.st_refuse, Ran.st_ite, snd_ite, ite_pending, ite_now, ite_serial, ite_pins, ite_md, ite_cmds, ite_clk, ite_kennel, ite_slices, ite_tab, ite_pwr, ite_regs, ite_flt_keel0, ite_flt_keel1, foldl_pending, foldl_now, foldl_serial, foldl_pins, foldl_md, foldl_cmds, foldl_clk, foldl_kennel, foldl_slices, foldl_tab, foldl_pwr, foldl_regs, foldl_flt_keel0, foldl_flt_keel1, foldl_snd_pending, foldl_snd_now, foldl_snd_serial, foldl_snd_pins, foldl_snd_md, foldl_snd_cmds, foldl_snd_clk, foldl_snd_kennel, foldl_snd_slices, foldl_snd_tab, foldl_snd_pwr, foldl_snd_regs, foldl_snd_flt_keel0, foldl_snd_flt_keel1]; done)
end Sys2Proof.Machine
end

