-- ==== Sys2Proof/Laws/KeepsSheepdog.lean ====
section
/-! SUPPORT. What each operation of Machine/Sheepdog.lean keeps: the parts of the state that it leaves as they are. -/
set_option linter.unusedSimpArgs false
set_option linter.unusedVariables false
namespace Sys2Proof.Machine
open Host (Outcome)

@[simp] theorem State.audit_keeps (s : State) :
    (State.audit s).pending = s.pending ∧ (State.audit s).now = s.now ∧ (State.audit s).serial = s.serial ∧
    (State.audit s).out = s.out ∧ (State.audit s).pins = s.pins ∧ (State.audit s).md = s.md ∧
    (State.audit s).host = s.host ∧ (State.audit s).cmds = s.cmds ∧ (State.audit s).clk = s.clk ∧
    (State.audit s).ref = s.ref ∧ (State.audit s).kennel = s.kennel ∧ (State.audit s).time = s.time ∧
    (State.audit s).port = s.port ∧ (State.audit s).slices = s.slices ∧ (State.audit s).tab = s.tab ∧
    (State.audit s).gen = s.gen ∧ (State.audit s).core = s.core ∧ (State.audit s).sch = s.sch ∧
    (State.audit s).tel = s.tel ∧ (State.audit s).pwr = s.pwr ∧ (State.audit s).regs = s.regs ∧
    (State.audit s).cnts = s.cnts ∧ (State.audit s).flt.keel0 = s.flt.keel0 ∧
    (State.audit s).flt.keel1 = s.flt.keel1 := by
  (unfold State.audit; simp only [State.follow_keeps, ite_self, and_self, implies_true, Ran.st_done, Ran.st_wait, Ran.st_refuse, Ran.st_ite, snd_ite, foldl_pending, foldl_now, foldl_serial, foldl_out, foldl_pins, foldl_md, foldl_host, foldl_cmds, foldl_clk, foldl_ref, foldl_kennel, foldl_time, foldl_port, foldl_slices, foldl_tab, foldl_gen, foldl_core, foldl_sch, foldl_tel, foldl_pwr, foldl_regs, foldl_cnts, foldl_flt_keel0, foldl_flt_keel1, foldl_snd_pending, foldl_snd_now, foldl_snd_serial, foldl_snd_out, foldl_snd_pins, foldl_snd_md, foldl_snd_host, foldl_snd_cmds, foldl_snd_clk, foldl_snd_ref, foldl_snd_kennel, foldl_snd_time, foldl_snd_port, foldl_snd_slices, foldl_snd_tab, foldl_snd_gen, foldl_snd_core, foldl_snd_sch, foldl_snd_tel, foldl_snd_pwr, foldl_snd_regs, foldl_snd_cnts, foldl_snd_flt_keel0, foldl_snd_flt_keel1]; done)

@[simp] theorem State.judgeLeak_keeps (s : State) (h : Nat) (e : Ext) :
    (State.judgeLeak s h e).pending = s.pending ∧ (State.judgeLeak s h e).now = s.now ∧
    (State.judgeLeak s h e).serial = s.serial ∧ (State.judgeLeak s h e).out = s.out ∧
    (State.judgeLeak s h e).pins = s.pins ∧ (State.judgeLeak s h e).md = s.md ∧
    (State.judgeLeak s h e).host = s.host ∧ (State.judgeLeak s h e).cmds = s.cmds ∧
    (State.judgeLeak s h e).clk = s.clk ∧ (State.judgeLeak s h e).kennel = s.kennel ∧
    (State.judgeLeak s h e).time = s.time ∧ (State.judgeLeak s h e).port = s.port ∧
    (State.judgeLeak s h e).slices = s.slices ∧ (State.judgeLeak s h e).tab = s.tab ∧
    (State.judgeLeak s h e).gen = s.gen ∧ (State.judgeLeak s h e).core = s.core ∧
    (State.judgeLeak s h e).sch = s.sch ∧ (State.judgeLeak s h e).tel = s.tel ∧
    (State.judgeLeak s h e).pwr = s.pwr ∧ (State.judgeLeak s h e).regs = s.regs ∧
    (State.judgeLeak s h e).flt.keel0 = s.flt.keel0 ∧ (State.judgeLeak s h e).flt.keel1 = s.flt.keel1 := by
  (unfold State.judgeLeak; simp only [State.freeExt_keeps, State.follow_keeps, State.bpmCount_keeps, ite_self, and_self, implies_true, Ran.st_done, Ran.st_wait, Ran.st_refuse, Ran.st_ite, snd_ite, ite_pending, ite_now, ite_serial, ite_out, ite_pins, ite_md, ite_host, ite_cmds, ite_clk, ite_kennel, ite_time, ite_port, ite_slices, ite_tab, ite_gen, ite_core, ite_sch, ite_tel, ite_pwr, ite_regs, ite_flt_keel0, ite_flt_keel1, foldl_pending, foldl_now, foldl_serial, foldl_out, foldl_pins, foldl_md, foldl_host, foldl_cmds, foldl_clk, foldl_kennel, foldl_time, foldl_port, foldl_slices, foldl_tab, foldl_gen, foldl_core, foldl_sch, foldl_tel, foldl_pwr, foldl_regs, foldl_flt_keel0, foldl_flt_keel1, foldl_snd_pending, foldl_snd_now, foldl_snd_serial, foldl_snd_out, foldl_snd_pins, foldl_snd_md, foldl_snd_host, foldl_snd_cmds, foldl_snd_clk, foldl_snd_kennel, foldl_snd_time, foldl_snd_port, foldl_snd_slices, foldl_snd_tab, foldl_snd_gen, foldl_snd_core, foldl_snd_sch, foldl_snd_tel, foldl_snd_pwr, foldl_snd_regs, foldl_snd_flt_keel0, foldl_snd_flt_keel1]; done)
end Sys2Proof.Machine
end

