-- ==== Sys2Proof/Laws/KeepsTelemetry.lean ====
section
/-! SUPPORT. What each operation of Machine/Telemetry.lean keeps: the parts of the state that it leaves as they are. -/
set_option linter.unusedSimpArgs false
set_option linter.unusedVariables false
namespace Sys2Proof.Machine
open Host (Outcome)

@[simp] theorem State.takeSnap_keeps (w : SnapReq) (t : Nat) (s : State) :
    (State.takeSnap w t s).pending = s.pending ∧ (State.takeSnap w t s).now = s.now ∧
    (State.takeSnap w t s).serial = s.serial ∧ (State.takeSnap w t s).pins = s.pins ∧
    (State.takeSnap w t s).md = s.md ∧ (State.takeSnap w t s).flt = s.flt ∧ (State.takeSnap w t s).clk = s.clk ∧
    (State.takeSnap w t s).ref = s.ref ∧ (State.takeSnap w t s).kennel = s.kennel ∧
    (State.takeSnap w t s).time = s.time ∧ (State.takeSnap w t s).buf = s.buf ∧
    (State.takeSnap w t s).port = s.port ∧ (State.takeSnap w t s).slices = s.slices ∧
    (State.takeSnap w t s).tab = s.tab ∧ (State.takeSnap w t s).gen = s.gen ∧
    (State.takeSnap w t s).core = s.core ∧ (State.takeSnap w t s).sch = s.sch ∧
    (State.takeSnap w t s).pwr = s.pwr ∧ (State.takeSnap w t s).regs = s.regs ∧
    (State.takeSnap w t s).cnts = s.cnts := by
  (unfold State.takeSnap; simp only [State.completeSer_keeps, ite_self, and_self, implies_true, Ran.st_done, Ran.st_wait, Ran.st_refuse, Ran.st_ite, snd_ite, foldl_pending, foldl_now, foldl_serial, foldl_pins, foldl_md, foldl_flt, foldl_clk, foldl_ref, foldl_kennel, foldl_time, foldl_buf, foldl_port, foldl_slices, foldl_tab, foldl_gen, foldl_core, foldl_sch, foldl_pwr, foldl_regs, foldl_cnts, foldl_snd_pending, foldl_snd_now, foldl_snd_serial, foldl_snd_pins, foldl_snd_md, foldl_snd_flt, foldl_snd_clk, foldl_snd_ref, foldl_snd_kennel, foldl_snd_time, foldl_snd_buf, foldl_snd_port, foldl_snd_slices, foldl_snd_tab, foldl_snd_gen, foldl_snd_core, foldl_snd_sch, foldl_snd_pwr, foldl_snd_regs, foldl_snd_cnts]; done)
end Sys2Proof.Machine
end

