-- ==== Sys2Proof/Laws/KeepsHost.lean ====
section
/-! SUPPORT. What each operation of Machine/Host.lean keeps: the parts of the state that it leaves as they are. -/
set_option linter.unusedSimpArgs false
set_option linter.unusedVariables false
namespace Sys2Proof.Machine
open Host (Outcome)

@[simp] theorem State.roleChange_keeps (cause : Nat) (s : State) :
    (State.roleChange cause s).2.pending = s.pending ∧ (State.roleChange cause s).2.now = s.now ∧
    (State.roleChange cause s).2.serial = s.serial ∧ (State.roleChange cause s).2.pins = s.pins ∧
    (State.roleChange cause s).2.md = s.md ∧ (State.roleChange cause s).2.cmds = s.cmds ∧
    (State.roleChange cause s).2.clk = s.clk ∧ (State.roleChange cause s).2.ref = s.ref ∧
    (State.roleChange cause s).2.kennel = s.kennel ∧ (State.roleChange cause s).2.time = s.time ∧
    (State.roleChange cause s).2.buf = s.buf ∧ (State.roleChange cause s).2.port = s.port ∧
    (State.roleChange cause s).2.slices = s.slices ∧ (State.roleChange cause s).2.tab = s.tab ∧
    (State.roleChange cause s).2.gen = s.gen ∧ (State.roleChange cause s).2.sch = s.sch ∧
    (State.roleChange cause s).2.tel = s.tel ∧ (State.roleChange cause s).2.pwr = s.pwr ∧
    (State.roleChange cause s).2.regs = s.regs ∧ (State.roleChange cause s).2.cnts = s.cnts ∧
    (State.roleChange cause s).2.flt.keel0 = s.flt.keel0 := by
  unfold State.roleChange
  dsimp only
  split <;> simp

@[simp] theorem State.noStandby_keeps (cause : Nat) (s : State) :
    (State.noStandby cause s).pending = s.pending ∧ (State.noStandby cause s).now = s.now ∧
    (State.noStandby cause s).serial = s.serial ∧ (State.noStandby cause s).out = s.out ∧
    (State.noStandby cause s).pins = s.pins ∧ (State.noStandby cause s).md = s.md ∧
    (State.noStandby cause s).cmds = s.cmds ∧ (State.noStandby cause s).clk = s.clk ∧
    (State.noStandby cause s).ref = s.ref ∧ (State.noStandby cause s).kennel = s.kennel ∧
    (State.noStandby cause s).time = s.time ∧ (State.noStandby cause s).buf = s.buf ∧
    (State.noStandby cause s).port = s.port ∧ (State.noStandby cause s).slices = s.slices ∧
    (State.noStandby cause s).tab = s.tab ∧ (State.noStandby cause s).gen = s.gen ∧
    (State.noStandby cause s).core = s.core ∧ (State.noStandby cause s).sch = s.sch ∧
    (State.noStandby cause s).tel = s.tel ∧ (State.noStandby cause s).pwr = s.pwr ∧
    (State.noStandby cause s).regs = s.regs ∧ (State.noStandby cause s).cnts = s.cnts ∧
    (State.noStandby cause s).flt.keel0 = s.flt.keel0 ∧ (State.noStandby cause s).flt.keel1 = s.flt.keel1 := by
  (unfold State.noStandby; simp only [State.onHalf_keeps, State.raise_keeps, ite_self, and_self, implies_true, Ran.st_done, Ran.st_wait, Ran.st_refuse, Ran.st_ite, snd_ite, ite_pending, ite_now, ite_serial, ite_out, ite_pins, ite_md, ite_cmds, ite_clk, ite_ref, ite_kennel, ite_time, ite_buf, ite_port, ite_slices, ite_tab, ite_gen, ite_core, ite_sch, ite_tel, ite_pwr, ite_regs, ite_cnts, ite_flt_keel0, ite_flt_keel1, foldl_pending, foldl_now, foldl_serial, foldl_out, foldl_pins, foldl_md, foldl_cmds, foldl_clk, foldl_ref, foldl_kennel, foldl_time, foldl_buf, foldl_port, foldl_slices, foldl_tab, foldl_gen, foldl_core, foldl_sch, foldl_tel, foldl_pwr, foldl_regs, foldl_cnts, foldl_flt_keel0, foldl_flt_keel1, foldl_snd_pending, foldl_snd_now, foldl_snd_serial, foldl_snd_out, foldl_snd_pins, foldl_snd_md, foldl_snd_cmds, foldl_snd_clk, foldl_snd_ref, foldl_snd_kennel, foldl_snd_time, foldl_snd_buf, foldl_snd_port, foldl_snd_slices, foldl_snd_tab, foldl_snd_gen, foldl_snd_core, foldl_snd_sch, foldl_snd_tel, foldl_snd_pwr, foldl_snd_regs, foldl_snd_cnts, foldl_snd_flt_keel0, foldl_snd_flt_keel1]; done)

@[simp] theorem State.holdTrigger_keeps (cause : Nat) (s : State) :
    (State.holdTrigger cause s).pending = s.pending ∧ (State.holdTrigger cause s).now = s.now ∧
    (State.holdTrigger cause s).serial = s.serial ∧ (State.holdTrigger cause s).out = s.out ∧
    (State.holdTrigger cause s).pins = s.pins ∧ (State.holdTrigger cause s).md = s.md ∧
    (State.holdTrigger cause s).cmds = s.cmds ∧ (State.holdTrigger cause s).flt = s.flt ∧
    (State.holdTrigger cause s).clk = s.clk ∧ (State.holdTrigger cause s).ref = s.ref ∧
    (State.holdTrigger cause s).kennel = s.kennel ∧ (State.holdTrigger cause s).time = s.time ∧
    (State.holdTrigger cause s).buf = s.buf ∧ (State.holdTrigger cause s).port = s.port ∧
    (State.holdTrigger cause s).slices = s.slices ∧ (State.holdTrigger cause s).tab = s.tab ∧
    (State.holdTrigger cause s).gen = s.gen ∧ (State.holdTrigger cause s).core = s.core ∧
    (State.holdTrigger cause s).sch = s.sch ∧ (State.holdTrigger cause s).tel = s.tel ∧
    (State.holdTrigger cause s).pwr = s.pwr ∧ (State.holdTrigger cause s).regs = s.regs ∧
    (State.holdTrigger cause s).cnts = s.cnts := by
  (unfold State.holdTrigger; split <;> simp only [ite_self, and_self, implies_true, Ran.st_done, Ran.st_wait, Ran.st_refuse, Ran.st_ite, snd_ite, ite_pending, ite_now, ite_serial, ite_out, ite_pins, ite_md, ite_cmds, ite_flt, ite_clk, ite_ref, ite_kennel, ite_time, ite_buf, ite_port, ite_slices, ite_tab, ite_gen, ite_core, ite_sch, ite_tel, ite_pwr, ite_regs, ite_cnts, foldl_pending, foldl_now, foldl_serial, foldl_out, foldl_pins, foldl_md, foldl_cmds, foldl_flt, foldl_clk, foldl_ref, foldl_kennel, foldl_time, foldl_buf, foldl_port, foldl_slices, foldl_tab, foldl_gen, foldl_core, foldl_sch, foldl_tel, foldl_pwr, foldl_regs, foldl_cnts, foldl_snd_pending, foldl_snd_now, foldl_snd_serial, foldl_snd_out, foldl_snd_pins, foldl_snd_md, foldl_snd_cmds, foldl_snd_flt, foldl_snd_clk, foldl_snd_ref, foldl_snd_kennel, foldl_snd_time, foldl_snd_buf, foldl_snd_port, foldl_snd_slices, foldl_snd_tab, foldl_snd_gen, foldl_snd_core, foldl_snd_sch, foldl_snd_tel, foldl_snd_pwr, foldl_snd_regs, foldl_snd_cnts])

@[simp] theorem State.trigger_keeps (cause : Nat) (cond : Bool) (s : State) :
    (State.trigger cause cond s).pending = s.pending ∧ (State.trigger cause cond s).now = s.now ∧
    (State.trigger cause cond s).serial = s.serial ∧ (State.trigger cause cond s).pins = s.pins ∧
    (State.trigger cause cond s).md = s.md ∧ (State.trigger cause cond s).cmds = s.cmds ∧
    (State.trigger cause cond s).clk = s.clk ∧ (State.trigger cause cond s).ref = s.ref ∧
    (State.trigger cause cond s).kennel = s.kennel ∧ (State.trigger cause cond s).time = s.time ∧
    (State.trigger cause cond s).buf = s.buf ∧ (State.trigger cause cond s).port = s.port ∧
    (State.trigger cause cond s).slices = s.slices ∧ (State.trigger cause cond s).tab = s.tab ∧
    (State.trigger cause cond s).gen = s.gen ∧ (State.trigger cause cond s).sch = s.sch ∧
    (State.trigger cause cond s).tel = s.tel ∧ (State.trigger cause cond s).pwr = s.pwr ∧
    (State.trigger cause cond s).regs = s.regs ∧ (State.trigger cause cond s).cnts = s.cnts ∧
    (State.trigger cause cond s).flt.keel0 = s.flt.keel0 := by
  (simp only [State.trigger]; (repeat' split) <;> first | (simp; done) | (rename_i q; simp [snd_of q]; done) | (rename_i q _; simp [snd_of q]; done) | (rename_i q _ _; simp [snd_of q]; done))

@[simp] theorem State.settle_keeps (s : State) :
    (State.settle s).pending = s.pending ∧ (State.settle s).now = s.now ∧ (State.settle s).serial = s.serial ∧
    (State.settle s).pins = s.pins ∧ (State.settle s).md = s.md ∧ (State.settle s).cmds = s.cmds ∧
    (State.settle s).clk = s.clk ∧ (State.settle s).ref = s.ref ∧ (State.settle s).kennel = s.kennel ∧
    (State.settle s).time = s.time ∧ (State.settle s).buf = s.buf ∧ (State.settle s).port = s.port ∧
    (State.settle s).slices = s.slices ∧ (State.settle s).tab = s.tab ∧ (State.settle s).gen = s.gen ∧
    (State.settle s).sch = s.sch ∧ (State.settle s).tel = s.tel ∧ (State.settle s).pwr = s.pwr ∧
    (State.settle s).regs = s.regs ∧ (State.settle s).cnts = s.cnts ∧ (State.settle s).flt.keel0 = s.flt.keel0 := by
  (unfold State.settle; simp only [State.roleChange_keeps, State.onHalf_keeps, State.noStandby_keeps, ite_self, and_self, implies_true, Ran.st_done, Ran.st_wait, Ran.st_refuse, Ran.st_ite, snd_ite, ite_pending, ite_now, ite_serial, ite_pins, ite_md, ite_cmds, ite_clk, ite_ref, ite_kennel, ite_time, ite_buf, ite_port, ite_slices, ite_tab, ite_gen, ite_sch, ite_tel, ite_pwr, ite_regs, ite_cnts, ite_flt_keel0, foldl_pending, foldl_now, foldl_serial, foldl_pins, foldl_md, foldl_cmds, foldl_clk, foldl_ref, foldl_kennel, foldl_time, foldl_buf, foldl_port, foldl_slices, foldl_tab, foldl_gen, foldl_sch, foldl_tel, foldl_pwr, foldl_regs, foldl_cnts, foldl_flt_keel0, foldl_snd_pending, foldl_snd_now, foldl_snd_serial, foldl_snd_pins, foldl_snd_md, foldl_snd_cmds, foldl_snd_clk, foldl_snd_ref, foldl_snd_kennel, foldl_snd_time, foldl_snd_buf, foldl_snd_port, foldl_snd_slices, foldl_snd_tab, foldl_snd_gen, foldl_snd_sch, foldl_snd_tel, foldl_snd_pwr, foldl_snd_regs, foldl_snd_cnts, foldl_snd_flt_keel0]; done)

@[simp] theorem State.resume_keeps (p : HostPort) (s : State) :
    (State.resume p s).pending = s.pending ∧ (State.resume p s).now = s.now ∧
    (State.resume p s).serial = s.serial ∧ (State.resume p s).pins = s.pins ∧ (State.resume p s).md = s.md ∧
    (State.resume p s).cmds = s.cmds ∧ (State.resume p s).flt = s.flt ∧ (State.resume p s).clk = s.clk ∧
    (State.resume p s).ref = s.ref ∧ (State.resume p s).kennel = s.kennel ∧ (State.resume p s).time = s.time ∧
    (State.resume p s).buf = s.buf ∧ (State.resume p s).port = s.port ∧ (State.resume p s).slices = s.slices ∧
    (State.resume p s).tab = s.tab ∧ (State.resume p s).gen = s.gen ∧ (State.resume p s).sch = s.sch ∧
    (State.resume p s).tel = s.tel ∧ (State.resume p s).pwr = s.pwr ∧ (State.resume p s).regs = s.regs ∧
    (State.resume p s).cnts = s.cnts := by
  (unfold State.resume; simp only [State.restRing_keeps, State.onHalf_keeps, State.sendVec_keeps, State.noteRoom_keeps, State.emit_keeps, ite_self, and_self, implies_true, Ran.st_done, Ran.st_wait, Ran.st_refuse, Ran.st_ite, snd_ite, ite_pending, ite_now, ite_serial, ite_pins, ite_md, ite_cmds, ite_flt, ite_clk, ite_ref, ite_kennel, ite_time, ite_buf, ite_port, ite_slices, ite_tab, ite_gen, ite_sch, ite_tel, ite_pwr, ite_regs, ite_cnts, foldl_pending, foldl_now, foldl_serial, foldl_pins, foldl_md, foldl_cmds, foldl_flt, foldl_clk, foldl_ref, foldl_kennel, foldl_time, foldl_buf, foldl_port, foldl_slices, foldl_tab, foldl_gen, foldl_sch, foldl_tel, foldl_pwr, foldl_regs, foldl_cnts, foldl_snd_pending, foldl_snd_now, foldl_snd_serial, foldl_snd_pins, foldl_snd_md, foldl_snd_cmds, foldl_snd_flt, foldl_snd_clk, foldl_snd_ref, foldl_snd_kennel, foldl_snd_time, foldl_snd_buf, foldl_snd_port, foldl_snd_slices, foldl_snd_tab, foldl_snd_gen, foldl_snd_sch, foldl_snd_tel, foldl_snd_pwr, foldl_snd_regs, foldl_snd_cnts]; done)

@[simp] theorem State.doorbellRefused_keeps (p : HostPort) (n : Nat) (s : State) :
    (State.doorbellRefused p n s).pending = s.pending ∧ (State.doorbellRefused p n s).now = s.now ∧
    (State.doorbellRefused p n s).serial = s.serial ∧ (State.doorbellRefused p n s).out = s.out ∧
    (State.doorbellRefused p n s).pins = s.pins ∧ (State.doorbellRefused p n s).md = s.md ∧
    (State.doorbellRefused p n s).cmds = s.cmds ∧ (State.doorbellRefused p n s).clk = s.clk ∧
    (State.doorbellRefused p n s).ref = s.ref ∧ (State.doorbellRefused p n s).kennel = s.kennel ∧
    (State.doorbellRefused p n s).time = s.time ∧ (State.doorbellRefused p n s).buf = s.buf ∧
    (State.doorbellRefused p n s).port = s.port ∧ (State.doorbellRefused p n s).slices = s.slices ∧
    (State.doorbellRefused p n s).tab = s.tab ∧ (State.doorbellRefused p n s).gen = s.gen ∧
    (State.doorbellRefused p n s).core = s.core ∧ (State.doorbellRefused p n s).sch = s.sch ∧
    (State.doorbellRefused p n s).tel = s.tel ∧ (State.doorbellRefused p n s).pwr = s.pwr ∧
    (State.doorbellRefused p n s).regs = s.regs ∧ (State.doorbellRefused p n s).cnts = s.cnts ∧
    (State.doorbellRefused p n s).flt.keel0 = s.flt.keel0 ∧ (State.doorbellRefused p n s).flt.keel1 = s.flt.keel1 := by
  (unfold State.doorbellRefused; simp only [State.raise_keeps, State.setRing_keeps, ite_self, and_self, implies_true, Ran.st_done, Ran.st_wait, Ran.st_refuse, Ran.st_ite, snd_ite, foldl_pending, foldl_now, foldl_serial, foldl_out, foldl_pins, foldl_md, foldl_cmds, foldl_clk, foldl_ref, foldl_kennel, foldl_time, foldl_buf, foldl_port, foldl_slices, foldl_tab, foldl_gen, foldl_core, foldl_sch, foldl_tel, foldl_pwr, foldl_regs, foldl_cnts, foldl_flt_keel0, foldl_flt_keel1, foldl_snd_pending, foldl_snd_now, foldl_snd_serial, foldl_snd_out, foldl_snd_pins, foldl_snd_md, foldl_snd_cmds, foldl_snd_clk, foldl_snd_ref, foldl_snd_kennel, foldl_snd_time, foldl_snd_buf, foldl_snd_port, foldl_snd_slices, foldl_snd_tab, foldl_snd_gen, foldl_snd_core, foldl_snd_sch, foldl_snd_tel, foldl_snd_pwr, foldl_snd_regs, foldl_snd_cnts, foldl_snd_flt_keel0, foldl_snd_flt_keel1]; done)
end Sys2Proof.Machine
end

