-- ==== Sys2Proof/Laws/KeepsFlags.lean ====
section
/-! SUPPORT. What each operation of Machine/Flags.lean keeps: the parts of the state that it leaves as they are. -/
set_option linter.unusedSimpArgs false
set_option linter.unusedVariables false
namespace Sys2Proof.Machine
open Host (Outcome)

@[simp] theorem State.setCollie_keeps (e : Side) (c : Collie) (s : State) :
    (State.setCollie e c s).pending = s.pending ∧ (State.setCollie e c s).now = s.now ∧
    (State.setCollie e c s).serial = s.serial ∧ (State.setCollie e c s).out = s.out ∧
    (State.setCollie e c s).pins = s.pins ∧ (State.setCollie e c s).md = s.md ∧
    (State.setCollie e c s).host = s.host ∧ (State.setCollie e c s).cmds = s.cmds ∧
    (State.setCollie e c s).flt = s.flt ∧ (State.setCollie e c s).clk = s.clk ∧
    (State.setCollie e c s).kennel = s.kennel ∧ (State.setCollie e c s).time = s.time ∧
    (State.setCollie e c s).buf = s.buf ∧ (State.setCollie e c s).port = s.port ∧
    (State.setCollie e c s).slices = s.slices ∧ (State.setCollie e c s).tab = s.tab ∧
    (State.setCollie e c s).gen = s.gen ∧ (State.setCollie e c s).core = s.core ∧
    (State.setCollie e c s).sch = s.sch ∧ (State.setCollie e c s).tel = s.tel ∧
    (State.setCollie e c s).pwr = s.pwr ∧ (State.setCollie e c s).regs = s.regs ∧
    (State.setCollie e c s).cnts = s.cnts := by
  (unfold State.setCollie; split <;> simp only [ite_self, and_self, implies_true, Ran.st_done, Ran.st_wait, Ran.st_refuse, Ran.st_ite, snd_ite, ite_pending, ite_now, ite_serial, ite_out, ite_pins, ite_md, ite_host, ite_cmds, ite_flt, ite_clk, ite_kennel, ite_time, ite_buf, ite_port, ite_slices, ite_tab, ite_gen, ite_core, ite_sch, ite_tel, ite_pwr, ite_regs, ite_cnts, foldl_pending, foldl_now, foldl_serial, foldl_out, foldl_pins, foldl_md, foldl_host, foldl_cmds, foldl_flt, foldl_clk, foldl_kennel, foldl_time, foldl_buf, foldl_port, foldl_slices, foldl_tab, foldl_gen, foldl_core, foldl_sch, foldl_tel, foldl_pwr, foldl_regs, foldl_cnts, foldl_snd_pending, foldl_snd_now, foldl_snd_serial, foldl_snd_out, foldl_snd_pins, foldl_snd_md, foldl_snd_host, foldl_snd_cmds, foldl_snd_flt, foldl_snd_clk, foldl_snd_kennel, foldl_snd_time, foldl_snd_buf, foldl_snd_port, foldl_snd_slices, foldl_snd_tab, foldl_snd_gen, foldl_snd_core, foldl_snd_sch, foldl_snd_tel, foldl_snd_pwr, foldl_snd_regs, foldl_snd_cnts])
end Sys2Proof.Machine
end

