-- ==== Sys2Proof/Laws/KeepsEntry.lean ====
section
/-! SUPPORT. What each operation of Machine/Entry.lean keeps: the parts of the state that it leaves as they are. -/
set_option linter.unusedSimpArgs false
set_option linter.unusedVariables false
namespace Sys2Proof.Machine
open Host (Outcome)

@[simp] theorem State.enterMode_keeps (m : Mode) (cause : Nat) (s : State) :
    (State.enterMode m cause s).pending = s.pending ∧ (State.enterMode m cause s).now = s.now ∧
    (State.enterMode m cause s).serial = s.serial ∧ (State.enterMode m cause s).out = s.out ∧
    (State.enterMode m cause s).pins = s.pins ∧ (State.enterMode m cause s).host = s.host ∧
    (State.enterMode m cause s).cmds = s.cmds ∧ (State.enterMode m cause s).clk = s.clk ∧
    (State.enterMode m cause s).ref = s.ref ∧ (State.enterMode m cause s).kennel = s.kennel ∧
    (State.enterMode m cause s).time = s.time ∧ (State.enterMode m cause s).buf = s.buf ∧
    (State.enterMode m cause s).port = s.port ∧ (State.enterMode m cause s).slices = s.slices ∧
    (State.enterMode m cause s).tab = s.tab ∧ (State.enterMode m cause s).gen = s.gen ∧
    (State.enterMode m cause s).core = s.core ∧ (State.enterMode m cause s).sch = s.sch ∧
    (State.enterMode m cause s).tel = s.tel ∧ (State.enterMode m cause s).pwr = s.pwr ∧
    (State.enterMode m cause s).regs = s.regs ∧ (State.enterMode m cause s).cnts = s.cnts := by
  (unfold State.enterMode; simp only [State.commit_keeps, ite_self, and_self, implies_true, Ran.st_done, Ran.st_wait, Ran.st_refuse, Ran.st_ite, snd_ite, foldl_pending, foldl_now, foldl_serial, foldl_out, foldl_pins, foldl_host, foldl_cmds, foldl_clk, foldl_ref, foldl_kennel, foldl_time, foldl_buf, foldl_port, foldl_slices, foldl_tab, foldl_gen, foldl_core, foldl_sch, foldl_tel, foldl_pwr, foldl_regs, foldl_cnts, foldl_snd_pending, foldl_snd_now, foldl_snd_serial, foldl_snd_out, foldl_snd_pins, foldl_snd_host, foldl_snd_cmds, foldl_snd_clk, foldl_snd_ref, foldl_snd_kennel, foldl_snd_time, foldl_snd_buf, foldl_snd_port, foldl_snd_slices, foldl_snd_tab, foldl_snd_gen, foldl_snd_core, foldl_snd_sch, foldl_snd_tel, foldl_snd_pwr, foldl_snd_regs, foldl_snd_cnts]; done)

@[simp] theorem State.stopReq_keeps (s : State) :
    (State.stopReq s).pending = s.pending ∧ (State.stopReq s).now = s.now ∧ (State.stopReq s).serial = s.serial ∧
    (State.stopReq s).pins = s.pins ∧ (State.stopReq s).flt = s.flt ∧ (State.stopReq s).clk = s.clk ∧
    (State.stopReq s).ref = s.ref ∧ (State.stopReq s).kennel = s.kennel ∧ (State.stopReq s).time = s.time ∧
    (State.stopReq s).buf = s.buf ∧ (State.stopReq s).port = s.port ∧ (State.stopReq s).slices = s.slices ∧
    (State.stopReq s).tab = s.tab ∧ (State.stopReq s).gen = s.gen ∧ (State.stopReq s).core = s.core ∧
    (State.stopReq s).sch = s.sch ∧ (State.stopReq s).tel = s.tel ∧ (State.stopReq s).pwr = s.pwr ∧
    (State.stopReq s).regs = s.regs ∧ (State.stopReq s).cnts = s.cnts := by
  unfold State.stopReq
  (try dsimp only)
  (repeat' split) <;> first | (simp; done) | (rename_i q; simp [snd_of q]; done) | (rename_i q _; simp [snd_of q]; done)

@[simp] theorem State.stopLoads_keeps (g : Nat) (s : State) :
    (State.stopLoads g s).pending = s.pending ∧ (State.stopLoads g s).now = s.now ∧
    (State.stopLoads g s).serial = s.serial ∧ (State.stopLoads g s).pins = s.pins ∧
    (State.stopLoads g s).md = s.md ∧ (State.stopLoads g s).flt = s.flt ∧ (State.stopLoads g s).clk = s.clk ∧
    (State.stopLoads g s).ref = s.ref ∧ (State.stopLoads g s).kennel = s.kennel ∧
    (State.stopLoads g s).time = s.time ∧ (State.stopLoads g s).buf = s.buf ∧ (State.stopLoads g s).port = s.port ∧
    (State.stopLoads g s).slices = s.slices ∧ (State.stopLoads g s).tab = s.tab ∧
    (State.stopLoads g s).core = s.core ∧ (State.stopLoads g s).sch = s.sch ∧ (State.stopLoads g s).tel = s.tel ∧
    (State.stopLoads g s).pwr = s.pwr ∧ (State.stopLoads g s).regs = s.regs ∧ (State.stopLoads g s).cnts = s.cnts := by
  unfold State.stopLoads
  (try dsimp only)
  (repeat' split) <;> first | (simp; done) | (rename_i q; simp [snd_of q]; done) | (rename_i q _; simp [snd_of q]; done)

@[simp] theorem State.stopSwaps_keeps (s : State) :
    (State.stopSwaps s).pending = s.pending ∧ (State.stopSwaps s).now = s.now ∧
    (State.stopSwaps s).serial = s.serial ∧ (State.stopSwaps s).pins = s.pins ∧ (State.stopSwaps s).md = s.md ∧
    (State.stopSwaps s).flt = s.flt ∧ (State.stopSwaps s).clk = s.clk ∧ (State.stopSwaps s).ref = s.ref ∧
    (State.stopSwaps s).kennel = s.kennel ∧ (State.stopSwaps s).time = s.time ∧ (State.stopSwaps s).buf = s.buf ∧
    (State.stopSwaps s).port = s.port ∧ (State.stopSwaps s).slices = s.slices ∧ (State.stopSwaps s).tab = s.tab ∧
    (State.stopSwaps s).core = s.core ∧ (State.stopSwaps s).sch = s.sch ∧ (State.stopSwaps s).tel = s.tel ∧
    (State.stopSwaps s).pwr = s.pwr ∧ (State.stopSwaps s).regs = s.regs ∧ (State.stopSwaps s).cnts = s.cnts := by
  (unfold State.stopSwaps; split <;> simp only [State.completeSer_keeps, ite_self, and_self, implies_true, Ran.st_done, Ran.st_wait, Ran.st_refuse, Ran.st_ite, snd_ite, ite_pending, ite_now, ite_serial, ite_pins, ite_md, ite_flt, ite_clk, ite_ref, ite_kennel, ite_time, ite_buf, ite_port, ite_slices, ite_tab, ite_core, ite_sch, ite_tel, ite_pwr, ite_regs, ite_cnts, foldl_pending, foldl_now, foldl_serial, foldl_pins, foldl_md, foldl_flt, foldl_clk, foldl_ref, foldl_kennel, foldl_time, foldl_buf, foldl_port, foldl_slices, foldl_tab, foldl_core, foldl_sch, foldl_tel, foldl_pwr, foldl_regs, foldl_cnts, foldl_snd_pending, foldl_snd_now, foldl_snd_serial, foldl_snd_pins, foldl_snd_md, foldl_snd_flt, foldl_snd_clk, foldl_snd_ref, foldl_snd_kennel, foldl_snd_time, foldl_snd_buf, foldl_snd_port, foldl_snd_slices, foldl_snd_tab, foldl_snd_core, foldl_snd_sch, foldl_snd_tel, foldl_snd_pwr, foldl_snd_regs, foldl_snd_cnts])

@[simp] theorem State.stopCalSwaps_keeps (s : State) :
    (State.stopCalSwaps s).pending = s.pending ∧ (State.stopCalSwaps s).now = s.now ∧
    (State.stopCalSwaps s).serial = s.serial ∧ (State.stopCalSwaps s).pins = s.pins ∧
    (State.stopCalSwaps s).md = s.md ∧ (State.stopCalSwaps s).flt = s.flt ∧ (State.stopCalSwaps s).clk = s.clk ∧
    (State.stopCalSwaps s).ref = s.ref ∧ (State.stopCalSwaps s).kennel = s.kennel ∧
    (State.stopCalSwaps s).buf = s.buf ∧ (State.stopCalSwaps s).port = s.port ∧
    (State.stopCalSwaps s).slices = s.slices ∧ (State.stopCalSwaps s).tab = s.tab ∧
    (State.stopCalSwaps s).gen = s.gen ∧ (State.stopCalSwaps s).core = s.core ∧
    (State.stopCalSwaps s).sch = s.sch ∧ (State.stopCalSwaps s).tel = s.tel ∧ (State.stopCalSwaps s).pwr = s.pwr ∧
    (State.stopCalSwaps s).regs = s.regs ∧ (State.stopCalSwaps s).cnts = s.cnts := by
  (unfold State.stopCalSwaps; simp only [State.completeSer_keeps, ite_self, and_self, implies_true, Ran.st_done, Ran.st_wait, Ran.st_refuse, Ran.st_ite, snd_ite, foldl_pending, foldl_now, foldl_serial, foldl_pins, foldl_md, foldl_flt, foldl_clk, foldl_ref, foldl_kennel, foldl_buf, foldl_port, foldl_slices, foldl_tab, foldl_gen, foldl_core, foldl_sch, foldl_tel, foldl_pwr, foldl_regs, foldl_cnts, foldl_snd_pending, foldl_snd_now, foldl_snd_serial, foldl_snd_pins, foldl_snd_md, foldl_snd_flt, foldl_snd_clk, foldl_snd_ref, foldl_snd_kennel, foldl_snd_buf, foldl_snd_port, foldl_snd_slices, foldl_snd_tab, foldl_snd_gen, foldl_snd_core, foldl_snd_sch, foldl_snd_tel, foldl_snd_pwr, foldl_snd_regs, foldl_snd_cnts]; done)

@[simp] theorem State.stopSnap_keeps (s : State) :
    (State.stopSnap s).pending = s.pending ∧ (State.stopSnap s).now = s.now ∧
    (State.stopSnap s).serial = s.serial ∧ (State.stopSnap s).pins = s.pins ∧ (State.stopSnap s).md = s.md ∧
    (State.stopSnap s).flt = s.flt ∧ (State.stopSnap s).clk = s.clk ∧ (State.stopSnap s).ref = s.ref ∧
    (State.stopSnap s).kennel = s.kennel ∧ (State.stopSnap s).time = s.time ∧ (State.stopSnap s).buf = s.buf ∧
    (State.stopSnap s).port = s.port ∧ (State.stopSnap s).slices = s.slices ∧ (State.stopSnap s).tab = s.tab ∧
    (State.stopSnap s).gen = s.gen ∧ (State.stopSnap s).core = s.core ∧ (State.stopSnap s).sch = s.sch ∧
    (State.stopSnap s).pwr = s.pwr ∧ (State.stopSnap s).regs = s.regs ∧ (State.stopSnap s).cnts = s.cnts := by
  (unfold State.stopSnap; split <;> simp only [State.completeSer_keeps, ite_self, and_self, implies_true, Ran.st_done, Ran.st_wait, Ran.st_refuse, Ran.st_ite, snd_ite, ite_pending, ite_now, ite_serial, ite_pins, ite_md, ite_flt, ite_clk, ite_ref, ite_kennel, ite_time, ite_buf, ite_port, ite_slices, ite_tab, ite_gen, ite_core, ite_sch, ite_pwr, ite_regs, ite_cnts, foldl_pending, foldl_now, foldl_serial, foldl_pins, foldl_md, foldl_flt, foldl_clk, foldl_ref, foldl_kennel, foldl_time, foldl_buf, foldl_port, foldl_slices, foldl_tab, foldl_gen, foldl_core, foldl_sch, foldl_pwr, foldl_regs, foldl_cnts, foldl_snd_pending, foldl_snd_now, foldl_snd_serial, foldl_snd_pins, foldl_snd_md, foldl_snd_flt, foldl_snd_clk, foldl_snd_ref, foldl_snd_kennel, foldl_snd_time, foldl_snd_buf, foldl_snd_port, foldl_snd_slices, foldl_snd_tab, foldl_snd_gen, foldl_snd_core, foldl_snd_sch, foldl_snd_pwr, foldl_snd_regs, foldl_snd_cnts])

@[simp] theorem State.stopPower_keeps (s : State) :
    (State.stopPower s).pending = s.pending ∧ (State.stopPower s).now = s.now ∧
    (State.stopPower s).serial = s.serial ∧ (State.stopPower s).pins = s.pins ∧ (State.stopPower s).md = s.md ∧
    (State.stopPower s).flt = s.flt ∧ (State.stopPower s).clk = s.clk ∧ (State.stopPower s).ref = s.ref ∧
    (State.stopPower s).kennel = s.kennel ∧ (State.stopPower s).time = s.time ∧ (State.stopPower s).buf = s.buf ∧
    (State.stopPower s).port = s.port ∧ (State.stopPower s).slices = s.slices ∧ (State.stopPower s).tab = s.tab ∧
    (State.stopPower s).gen = s.gen ∧ (State.stopPower s).core = s.core ∧ (State.stopPower s).sch = s.sch ∧
    (State.stopPower s).tel = s.tel ∧ (State.stopPower s).regs = s.regs ∧ (State.stopPower s).cnts = s.cnts := by
  (unfold State.stopPower; simp only [State.completeSer_keeps, ite_self, and_self, implies_true, Ran.st_done, Ran.st_wait, Ran.st_refuse, Ran.st_ite, snd_ite, foldl_pending, foldl_now, foldl_serial, foldl_pins, foldl_md, foldl_flt, foldl_clk, foldl_ref, foldl_kennel, foldl_time, foldl_buf, foldl_port, foldl_slices, foldl_tab, foldl_gen, foldl_core, foldl_sch, foldl_tel, foldl_regs, foldl_cnts, foldl_snd_pending, foldl_snd_now, foldl_snd_serial, foldl_snd_pins, foldl_snd_md, foldl_snd_flt, foldl_snd_clk, foldl_snd_ref, foldl_snd_kennel, foldl_snd_time, foldl_snd_buf, foldl_snd_port, foldl_snd_slices, foldl_snd_tab, foldl_snd_gen, foldl_snd_core, foldl_snd_sch, foldl_snd_tel, foldl_snd_regs, foldl_snd_cnts]; done)

@[simp] theorem State.stompOut_keeps (p : Nat) (t : Tx) (s : State) :
    (State.stompOut p t s).pending = s.pending ∧ (State.stompOut p t s).now = s.now ∧
    (State.stompOut p t s).serial = s.serial ∧ (State.stompOut p t s).pins = s.pins ∧
    (State.stompOut p t s).md = s.md ∧ (State.stompOut p t s).host = s.host ∧
    (State.stompOut p t s).cmds = s.cmds ∧ (State.stompOut p t s).flt = s.flt ∧
    (State.stompOut p t s).clk = s.clk ∧ (State.stompOut p t s).ref = s.ref ∧
    (State.stompOut p t s).kennel = s.kennel ∧ (State.stompOut p t s).time = s.time ∧
    (State.stompOut p t s).buf = s.buf ∧ (State.stompOut p t s).slices = s.slices ∧
    (State.stompOut p t s).tab = s.tab ∧ (State.stompOut p t s).gen = s.gen ∧ (State.stompOut p t s).sch = s.sch ∧
    (State.stompOut p t s).tel = s.tel ∧ (State.stompOut p t s).pwr = s.pwr ∧
    (State.stompOut p t s).regs = s.regs := by
  (unfold State.stompOut; simp only [State.lineOut_keeps, State.ptCount_keeps, ite_self, and_self, implies_true, Ran.st_done, Ran.st_wait, Ran.st_refuse, Ran.st_ite, snd_ite, foldl_pending, foldl_now, foldl_serial, foldl_pins, foldl_md, foldl_host, foldl_cmds, foldl_flt, foldl_clk, foldl_ref, foldl_kennel, foldl_time, foldl_buf, foldl_slices, foldl_tab, foldl_gen, foldl_sch, foldl_tel, foldl_pwr, foldl_regs, foldl_snd_pending, foldl_snd_now, foldl_snd_serial, foldl_snd_pins, foldl_snd_md, foldl_snd_host, foldl_snd_cmds, foldl_snd_flt, foldl_snd_clk, foldl_snd_ref, foldl_snd_kennel, foldl_snd_time, foldl_snd_buf, foldl_snd_slices, foldl_snd_tab, foldl_snd_gen, foldl_snd_sch, foldl_snd_tel, foldl_snd_pwr, foldl_snd_regs]; done)

@[simp] theorem State.stompSending_keeps (p : Nat) (x : Sending) (s : State) :
    (State.stompSending p x s).pending = s.pending ∧ (State.stompSending p x s).now = s.now ∧
    (State.stompSending p x s).serial = s.serial ∧ (State.stompSending p x s).pins = s.pins ∧
    (State.stompSending p x s).md = s.md ∧ (State.stompSending p x s).host = s.host ∧
    (State.stompSending p x s).cmds = s.cmds ∧ (State.stompSending p x s).flt = s.flt ∧
    (State.stompSending p x s).clk = s.clk ∧ (State.stompSending p x s).ref = s.ref ∧
    (State.stompSending p x s).kennel = s.kennel ∧ (State.stompSending p x s).time = s.time ∧
    (State.stompSending p x s).buf = s.buf ∧ (State.stompSending p x s).slices = s.slices ∧
    (State.stompSending p x s).tab = s.tab ∧ (State.stompSending p x s).gen = s.gen ∧
    (State.stompSending p x s).sch = s.sch ∧ (State.stompSending p x s).tel = s.tel ∧
    (State.stompSending p x s).pwr = s.pwr ∧ (State.stompSending p x s).regs = s.regs := by
  (unfold State.stompSending; simp only [State.beginSending_keeps, State.finishSending_keeps, ite_self, and_self, implies_true, Ran.st_done, Ran.st_wait, Ran.st_refuse, Ran.st_ite, snd_ite, foldl_pending, foldl_now, foldl_serial, foldl_pins, foldl_md, foldl_host, foldl_cmds, foldl_flt, foldl_clk, foldl_ref, foldl_kennel, foldl_time, foldl_buf, foldl_slices, foldl_tab, foldl_gen, foldl_sch, foldl_tel, foldl_pwr, foldl_regs, foldl_snd_pending, foldl_snd_now, foldl_snd_serial, foldl_snd_pins, foldl_snd_md, foldl_snd_host, foldl_snd_cmds, foldl_snd_flt, foldl_snd_clk, foldl_snd_ref, foldl_snd_kennel, foldl_snd_time, foldl_snd_buf, foldl_snd_slices, foldl_snd_tab, foldl_snd_gen, foldl_snd_sch, foldl_snd_tel, foldl_snd_pwr, foldl_snd_regs]; done)

@[simp] theorem State.stompAll_keeps (s₀ : State) :
    (State.stompAll s₀).pending = s₀.pending ∧ (State.stompAll s₀).now = s₀.now ∧
    (State.stompAll s₀).serial = s₀.serial ∧ (State.stompAll s₀).pins = s₀.pins ∧ (State.stompAll s₀).md = s₀.md ∧
    (State.stompAll s₀).host = s₀.host ∧ (State.stompAll s₀).cmds = s₀.cmds ∧ (State.stompAll s₀).flt = s₀.flt ∧
    (State.stompAll s₀).clk = s₀.clk ∧ (State.stompAll s₀).ref = s₀.ref ∧ (State.stompAll s₀).kennel = s₀.kennel ∧
    (State.stompAll s₀).time = s₀.time ∧ (State.stompAll s₀).buf = s₀.buf ∧
    (State.stompAll s₀).slices = s₀.slices ∧ (State.stompAll s₀).tab = s₀.tab ∧ (State.stompAll s₀).gen = s₀.gen ∧
    (State.stompAll s₀).sch = s₀.sch ∧ (State.stompAll s₀).tel = s₀.tel ∧ (State.stompAll s₀).pwr = s₀.pwr ∧
    (State.stompAll s₀).regs = s₀.regs := by
  (unfold State.stompAll; simp only [State.stompSending_keeps, State.stompOut_keeps, ite_self, and_self, implies_true, Ran.st_done, Ran.st_wait, Ran.st_refuse, Ran.st_ite, snd_ite, foldl_pending, foldl_now, foldl_serial, foldl_pins, foldl_md, foldl_host, foldl_cmds, foldl_flt, foldl_clk, foldl_ref, foldl_kennel, foldl_time, foldl_buf, foldl_slices, foldl_tab, foldl_gen, foldl_sch, foldl_tel, foldl_pwr, foldl_regs, foldl_snd_pending, foldl_snd_now, foldl_snd_serial, foldl_snd_pins, foldl_snd_md, foldl_snd_host, foldl_snd_cmds, foldl_snd_flt, foldl_snd_clk, foldl_snd_ref, foldl_snd_kennel, foldl_snd_time, foldl_snd_buf, foldl_snd_slices, foldl_snd_tab, foldl_snd_gen, foldl_snd_sch, foldl_snd_tel, foldl_snd_pwr, foldl_snd_regs]; done)

@[simp] theorem State.freeze_keeps (s : State) :
    (State.freeze s).pending = s.pending ∧ (State.freeze s).now = s.now ∧ (State.freeze s).serial = s.serial ∧
    (State.freeze s).out = s.out ∧ (State.freeze s).pins = s.pins ∧ (State.freeze s).md = s.md ∧
    (State.freeze s).host = s.host ∧ (State.freeze s).cmds = s.cmds ∧ (State.freeze s).clk = s.clk ∧
    (State.freeze s).ref = s.ref ∧ (State.freeze s).kennel = s.kennel ∧ (State.freeze s).time = s.time ∧
    (State.freeze s).buf = s.buf ∧ (State.freeze s).port = s.port ∧ (State.freeze s).slices = s.slices ∧
    (State.freeze s).tab = s.tab ∧ (State.freeze s).gen = s.gen ∧ (State.freeze s).core = s.core ∧
    (State.freeze s).sch = s.sch ∧ (State.freeze s).tel = s.tel ∧ (State.freeze s).pwr = s.pwr ∧
    (State.freeze s).regs = s.regs ∧ (State.freeze s).cnts = s.cnts ∧ (State.freeze s).flt.keel0 = s.flt.keel0 ∧
    (State.freeze s).flt.keel1 = s.flt.keel1 := by
  (unfold State.freeze; simp only [State.raiseX_keeps, ite_self, and_self, implies_true, Ran.st_done, Ran.st_wait, Ran.st_refuse, Ran.st_ite, snd_ite, foldl_pending, foldl_now, foldl_serial, foldl_out, foldl_pins, foldl_md, foldl_host, foldl_cmds, foldl_clk, foldl_ref, foldl_kennel, foldl_time, foldl_buf, foldl_port, foldl_slices, foldl_tab, foldl_gen, foldl_core, foldl_sch, foldl_tel, foldl_pwr, foldl_regs, foldl_cnts, foldl_flt_keel0, foldl_flt_keel1, foldl_snd_pending, foldl_snd_now, foldl_snd_serial, foldl_snd_out, foldl_snd_pins, foldl_snd_md, foldl_snd_host, foldl_snd_cmds, foldl_snd_clk, foldl_snd_ref, foldl_snd_kennel, foldl_snd_time, foldl_snd_buf, foldl_snd_port, foldl_snd_slices, foldl_snd_tab, foldl_snd_gen, foldl_snd_core, foldl_snd_sch, foldl_snd_tel, foldl_snd_pwr, foldl_snd_regs, foldl_snd_cnts, foldl_snd_flt_keel0, foldl_snd_flt_keel1]; done)

@[simp] theorem State.stopWear_keeps (s : State) :
    (State.stopWear s).pending = s.pending ∧ (State.stopWear s).now = s.now ∧
    (State.stopWear s).serial = s.serial ∧ (State.stopWear s).out = s.out ∧ (State.stopWear s).pins = s.pins ∧
    (State.stopWear s).md = s.md ∧ (State.stopWear s).host = s.host ∧ (State.stopWear s).cmds = s.cmds ∧
    (State.stopWear s).flt = s.flt ∧ (State.stopWear s).clk = s.clk ∧ (State.stopWear s).kennel = s.kennel ∧
    (State.stopWear s).time = s.time ∧ (State.stopWear s).buf = s.buf ∧ (State.stopWear s).port = s.port ∧
    (State.stopWear s).slices = s.slices ∧ (State.stopWear s).tab = s.tab ∧ (State.stopWear s).gen = s.gen ∧
    (State.stopWear s).core = s.core ∧ (State.stopWear s).sch = s.sch ∧ (State.stopWear s).tel = s.tel ∧
    (State.stopWear s).pwr = s.pwr ∧ (State.stopWear s).regs = s.regs ∧ (State.stopWear s).cnts = s.cnts := by
  (unfold State.stopWear; simp only [ite_self, and_self, implies_true, Ran.st_done, Ran.st_wait, Ran.st_refuse, Ran.st_ite, snd_ite, foldl_pending, foldl_now, foldl_serial, foldl_out, foldl_pins, foldl_md, foldl_host, foldl_cmds, foldl_flt, foldl_clk, foldl_kennel, foldl_time, foldl_buf, foldl_port, foldl_slices, foldl_tab, foldl_gen, foldl_core, foldl_sch, foldl_tel, foldl_pwr, foldl_regs, foldl_cnts, foldl_snd_pending, foldl_snd_now, foldl_snd_serial, foldl_snd_out, foldl_snd_pins, foldl_snd_md, foldl_snd_host, foldl_snd_cmds, foldl_snd_flt, foldl_snd_clk, foldl_snd_kennel, foldl_snd_time, foldl_snd_buf, foldl_snd_port, foldl_snd_slices, foldl_snd_tab, foldl_snd_gen, foldl_snd_core, foldl_snd_sch, foldl_snd_tel, foldl_snd_pwr, foldl_snd_regs, foldl_snd_cnts]; done)

@[simp] theorem State.enterSafe_keeps (cause : Nat) (s : State) :
    (State.enterSafe cause s).pending = s.pending ∧ (State.enterSafe cause s).now = s.now ∧
    (State.enterSafe cause s).serial = s.serial ∧ (State.enterSafe cause s).pins = s.pins ∧
    (State.enterSafe cause s).clk = s.clk ∧ (State.enterSafe cause s).ref = s.ref ∧
    (State.enterSafe cause s).kennel = s.kennel ∧ (State.enterSafe cause s).buf = s.buf ∧
    (State.enterSafe cause s).slices = s.slices ∧ (State.enterSafe cause s).sch = s.sch ∧
    (State.enterSafe cause s).regs = s.regs := by
  (unfold State.enterSafe; simp only [State.freeze_keeps, State.stopLoads_keeps, State.stopSwaps_keeps, State.stompAll_keeps, State.stopReq_keeps, State.stopTables_keeps, State.stopSnap_keeps, State.enterMode_keeps, State.stopCalSwaps_keeps, State.stopPower_keeps, ite_self, and_self, implies_true, Ran.st_done, Ran.st_wait, Ran.st_refuse, Ran.st_ite, snd_ite, foldl_pending, foldl_now, foldl_serial, foldl_pins, foldl_clk, foldl_ref, foldl_kennel, foldl_buf, foldl_slices, foldl_sch, foldl_regs, foldl_snd_pending, foldl_snd_now, foldl_snd_serial, foldl_snd_pins, foldl_snd_clk, foldl_snd_ref, foldl_snd_kennel, foldl_snd_buf, foldl_snd_slices, foldl_snd_sch, foldl_snd_regs]; done)

@[simp] theorem State.setSaveArea_keeps (i : Nat) (a : SaveArea) (s : State) :
    (State.setSaveArea i a s).pending = s.pending ∧ (State.setSaveArea i a s).now = s.now ∧
    (State.setSaveArea i a s).serial = s.serial ∧ (State.setSaveArea i a s).out = s.out ∧
    (State.setSaveArea i a s).pins = s.pins ∧ (State.setSaveArea i a s).md = s.md ∧
    (State.setSaveArea i a s).host = s.host ∧ (State.setSaveArea i a s).cmds = s.cmds ∧
    (State.setSaveArea i a s).flt = s.flt ∧ (State.setSaveArea i a s).clk = s.clk ∧
    (State.setSaveArea i a s).ref = s.ref ∧ (State.setSaveArea i a s).time = s.time ∧
    (State.setSaveArea i a s).buf = s.buf ∧ (State.setSaveArea i a s).port = s.port ∧
    (State.setSaveArea i a s).slices = s.slices ∧ (State.setSaveArea i a s).tab = s.tab ∧
    (State.setSaveArea i a s).gen = s.gen ∧ (State.setSaveArea i a s).core = s.core ∧
    (State.setSaveArea i a s).sch = s.sch ∧ (State.setSaveArea i a s).tel = s.tel ∧
    (State.setSaveArea i a s).pwr = s.pwr ∧ (State.setSaveArea i a s).regs = s.regs ∧
    (State.setSaveArea i a s).cnts = s.cnts ∧ (State.setSaveArea i a s).kennel.keyHash = s.kennel.keyHash := by
  (unfold State.setSaveArea; simp only [ite_self, and_self, implies_true, Ran.st_done, Ran.st_wait, Ran.st_refuse, Ran.st_ite, snd_ite, ite_pending, ite_now, ite_serial, ite_out, ite_pins, ite_md, ite_host, ite_cmds, ite_flt, ite_clk, ite_ref, ite_time, ite_buf, ite_port, ite_slices, ite_tab, ite_gen, ite_core, ite_sch, ite_tel, ite_pwr, ite_regs, ite_cnts, ite_kennel_keyHash, foldl_pending, foldl_now, foldl_serial, foldl_out, foldl_pins, foldl_md, foldl_host, foldl_cmds, foldl_flt, foldl_clk, foldl_ref, foldl_time, foldl_buf, foldl_port, foldl_slices, foldl_tab, foldl_gen, foldl_core, foldl_sch, foldl_tel, foldl_pwr, foldl_regs, foldl_cnts, foldl_kennel_keyHash, foldl_snd_pending, foldl_snd_now, foldl_snd_serial, foldl_snd_out, foldl_snd_pins, foldl_snd_md, foldl_snd_host, foldl_snd_cmds, foldl_snd_flt, foldl_snd_clk, foldl_snd_ref, foldl_snd_time, foldl_snd_buf, foldl_snd_port, foldl_snd_slices, foldl_snd_tab, foldl_snd_gen, foldl_snd_core, foldl_snd_sch, foldl_snd_tel, foldl_snd_pwr, foldl_snd_regs, foldl_snd_cnts, foldl_snd_kennel_keyHash]; done)

@[simp] theorem State.startSave_keeps (mv flags : Nat) (s : State) :
    (State.startSave mv flags s).pending = s.pending ∧ (State.startSave mv flags s).now = s.now ∧
    (State.startSave mv flags s).serial = s.serial ∧ (State.startSave mv flags s).out = s.out ∧
    (State.startSave mv flags s).pins = s.pins ∧ (State.startSave mv flags s).md = s.md ∧
    (State.startSave mv flags s).host = s.host ∧ (State.startSave mv flags s).cmds = s.cmds ∧
    (State.startSave mv flags s).flt = s.flt ∧ (State.startSave mv flags s).clk = s.clk ∧
    (State.startSave mv flags s).ref = s.ref ∧ (State.startSave mv flags s).time = s.time ∧
    (State.startSave mv flags s).buf = s.buf ∧ (State.startSave mv flags s).port = s.port ∧
    (State.startSave mv flags s).slices = s.slices ∧ (State.startSave mv flags s).tab = s.tab ∧
    (State.startSave mv flags s).gen = s.gen ∧ (State.startSave mv flags s).core = s.core ∧
    (State.startSave mv flags s).sch = s.sch ∧ (State.startSave mv flags s).tel = s.tel ∧
    (State.startSave mv flags s).regs = s.regs ∧ (State.startSave mv flags s).cnts = s.cnts ∧
    (State.startSave mv flags s).kennel.keyHash = s.kennel.keyHash := by
  (unfold State.startSave; simp only [State.setSaveArea_keeps, ite_self, and_self, implies_true, Ran.st_done, Ran.st_wait, Ran.st_refuse, Ran.st_ite, snd_ite, foldl_pending, foldl_now, foldl_serial, foldl_out, foldl_pins, foldl_md, foldl_host, foldl_cmds, foldl_flt, foldl_clk, foldl_ref, foldl_time, foldl_buf, foldl_port, foldl_slices, foldl_tab, foldl_gen, foldl_core, foldl_sch, foldl_tel, foldl_regs, foldl_cnts, foldl_kennel_keyHash, foldl_snd_pending, foldl_snd_now, foldl_snd_serial, foldl_snd_out, foldl_snd_pins, foldl_snd_md, foldl_snd_host, foldl_snd_cmds, foldl_snd_flt, foldl_snd_clk, foldl_snd_ref, foldl_snd_time, foldl_snd_buf, foldl_snd_port, foldl_snd_slices, foldl_snd_tab, foldl_snd_gen, foldl_snd_core, foldl_snd_sch, foldl_snd_tel, foldl_snd_regs, foldl_snd_cnts, foldl_snd_kennel_keyHash]; done)

@[simp] theorem State.enterSave_keeps (mv : Nat) (s : State) :
    (State.enterSave mv s).pending = s.pending ∧ (State.enterSave mv s).now = s.now ∧
    (State.enterSave mv s).serial = s.serial ∧ (State.enterSave mv s).pins = s.pins ∧
    (State.enterSave mv s).clk = s.clk ∧ (State.enterSave mv s).buf = s.buf ∧
    (State.enterSave mv s).port = s.port ∧ (State.enterSave mv s).slices = s.slices ∧
    (State.enterSave mv s).sch = s.sch ∧ (State.enterSave mv s).regs = s.regs ∧
    (State.enterSave mv s).cnts = s.cnts ∧ (State.enterSave mv s).kennel.keyHash = s.kennel.keyHash := by
  (unfold State.enterSave; simp only [State.stopLoads_keeps, State.startSave_keeps, State.stopWear_keeps, State.enterMode_keeps, State.stopCalSwaps_keeps, ite_self, and_self, implies_true, Ran.st_done, Ran.st_wait, Ran.st_refuse, Ran.st_ite, snd_ite, foldl_pending, foldl_now, foldl_serial, foldl_pins, foldl_clk, foldl_buf, foldl_port, foldl_slices, foldl_sch, foldl_regs, foldl_cnts, foldl_kennel_keyHash, foldl_snd_pending, foldl_snd_now, foldl_snd_serial, foldl_snd_pins, foldl_snd_clk, foldl_snd_buf, foldl_snd_port, foldl_snd_slices, foldl_snd_sch, foldl_snd_regs, foldl_snd_cnts, foldl_snd_kennel_keyHash]; done)

@[simp] theorem State.enterReset_keeps (cause : Nat) (hold : Bool) (s : State) :
    (State.enterReset cause hold s).pending = s.pending ∧ (State.enterReset cause hold s).now = s.now ∧
    (State.enterReset cause hold s).serial = s.serial ∧ (State.enterReset cause hold s).out = s.out ∧
    (State.enterReset cause hold s).pins = s.pins ∧ (State.enterReset cause hold s).kennel = s.kennel := by
  (unfold State.enterReset; simp only [ite_self, and_self, implies_true, Ran.st_done, Ran.st_wait, Ran.st_refuse, Ran.st_ite, snd_ite, foldl_pending, foldl_now, foldl_serial, foldl_out, foldl_pins, foldl_kennel, foldl_snd_pending, foldl_snd_now, foldl_snd_serial, foldl_snd_out, foldl_snd_pins, foldl_snd_kennel]; done)

@[simp] theorem State.fwFail_keeps (result : Nat) (s : State) :
    (State.fwFail result s).pending = s.pending ∧ (State.fwFail result s).now = s.now ∧
    (State.fwFail result s).serial = s.serial ∧ (State.fwFail result s).out = s.out ∧
    (State.fwFail result s).pins = s.pins ∧ (State.fwFail result s).host = s.host ∧
    (State.fwFail result s).cmds = s.cmds ∧ (State.fwFail result s).clk = s.clk ∧
    (State.fwFail result s).kennel = s.kennel ∧ (State.fwFail result s).buf = s.buf ∧
    (State.fwFail result s).port = s.port ∧ (State.fwFail result s).slices = s.slices ∧
    (State.fwFail result s).tab = s.tab ∧ (State.fwFail result s).gen = s.gen ∧
    (State.fwFail result s).core = s.core ∧ (State.fwFail result s).sch = s.sch ∧
    (State.fwFail result s).tel = s.tel ∧ (State.fwFail result s).pwr = s.pwr ∧
    (State.fwFail result s).regs = s.regs ∧ (State.fwFail result s).cnts = s.cnts := by
  (unfold State.fwFail; simp only [State.enterMode_keeps, ite_self, and_self, implies_true, Ran.st_done, Ran.st_wait, Ran.st_refuse, Ran.st_ite, snd_ite, foldl_pending, foldl_now, foldl_serial, foldl_out, foldl_pins, foldl_host, foldl_cmds, foldl_clk, foldl_kennel, foldl_buf, foldl_port, foldl_slices, foldl_tab, foldl_gen, foldl_core, foldl_sch, foldl_tel, foldl_pwr, foldl_regs, foldl_cnts, foldl_snd_pending, foldl_snd_now, foldl_snd_serial, foldl_snd_out, foldl_snd_pins, foldl_snd_host, foldl_snd_cmds, foldl_snd_clk, foldl_snd_kennel, foldl_snd_buf, foldl_snd_port, foldl_snd_slices, foldl_snd_tab, foldl_snd_gen, foldl_snd_core, foldl_snd_sch, foldl_snd_tel, foldl_snd_pwr, foldl_snd_regs, foldl_snd_cnts]; done)

@[simp] theorem State.enterBoot_keeps (s : State) :
    (State.enterBoot s).pending = s.pending ∧ (State.enterBoot s).now = s.now ∧
    (State.enterBoot s).serial = s.serial ∧ (State.enterBoot s).out = s.out ∧ (State.enterBoot s).pins = s.pins ∧
    (State.enterBoot s).host = s.host ∧ (State.enterBoot s).cmds = s.cmds ∧ (State.enterBoot s).clk = s.clk ∧
    (State.enterBoot s).ref = s.ref ∧ (State.enterBoot s).kennel = s.kennel ∧ (State.enterBoot s).time = s.time ∧
    (State.enterBoot s).buf = s.buf ∧ (State.enterBoot s).port = s.port ∧ (State.enterBoot s).slices = s.slices ∧
    (State.enterBoot s).tab = s.tab ∧ (State.enterBoot s).gen = s.gen ∧ (State.enterBoot s).core = s.core ∧
    (State.enterBoot s).sch = s.sch ∧ (State.enterBoot s).tel = s.tel ∧ (State.enterBoot s).pwr = s.pwr ∧
    (State.enterBoot s).regs = s.regs ∧ (State.enterBoot s).cnts = s.cnts := by
  (unfold State.enterBoot; simp only [State.enterMode_keeps, State.commit_keeps, ite_self, and_self, implies_true, Ran.st_done, Ran.st_wait, Ran.st_refuse, Ran.st_ite, snd_ite, foldl_pending, foldl_now, foldl_serial, foldl_out, foldl_pins, foldl_host, foldl_cmds, foldl_clk, foldl_ref, foldl_kennel, foldl_time, foldl_buf, foldl_port, foldl_slices, foldl_tab, foldl_gen, foldl_core, foldl_sch, foldl_tel, foldl_pwr, foldl_regs, foldl_cnts, foldl_snd_pending, foldl_snd_now, foldl_snd_serial, foldl_snd_out, foldl_snd_pins, foldl_snd_host, foldl_snd_cmds, foldl_snd_clk, foldl_snd_ref, foldl_snd_kennel, foldl_snd_time, foldl_snd_buf, foldl_snd_port, foldl_snd_slices, foldl_snd_tab, foldl_snd_gen, foldl_snd_core, foldl_snd_sch, foldl_snd_tel, foldl_snd_pwr, foldl_snd_regs, foldl_snd_cnts]; done)

@[simp] theorem State.resumeBoot_keeps (s : State) :
    (State.resumeBoot s).pending = s.pending ∧ (State.resumeBoot s).now = s.now ∧
    (State.resumeBoot s).serial = s.serial ∧ (State.resumeBoot s).out = s.out ∧
    (State.resumeBoot s).pins = s.pins ∧ (State.resumeBoot s).host = s.host ∧ (State.resumeBoot s).cmds = s.cmds ∧
    (State.resumeBoot s).clk = s.clk ∧ (State.resumeBoot s).kennel = s.kennel ∧ (State.resumeBoot s).buf = s.buf ∧
    (State.resumeBoot s).port = s.port ∧ (State.resumeBoot s).slices = s.slices ∧
    (State.resumeBoot s).tab = s.tab ∧ (State.resumeBoot s).gen = s.gen ∧ (State.resumeBoot s).core = s.core ∧
    (State.resumeBoot s).sch = s.sch ∧ (State.resumeBoot s).tel = s.tel ∧ (State.resumeBoot s).pwr = s.pwr ∧
    (State.resumeBoot s).regs = s.regs ∧ (State.resumeBoot s).cnts = s.cnts := by
  (unfold State.resumeBoot; simp only [State.enterMode_keeps, ite_self, and_self, implies_true, Ran.st_done, Ran.st_wait, Ran.st_refuse, Ran.st_ite, snd_ite, foldl_pending, foldl_now, foldl_serial, foldl_out, foldl_pins, foldl_host, foldl_cmds, foldl_clk, foldl_kennel, foldl_buf, foldl_port, foldl_slices, foldl_tab, foldl_gen, foldl_core, foldl_sch, foldl_tel, foldl_pwr, foldl_regs, foldl_cnts, foldl_snd_pending, foldl_snd_now, foldl_snd_serial, foldl_snd_out, foldl_snd_pins, foldl_snd_host, foldl_snd_cmds, foldl_snd_clk, foldl_snd_kennel, foldl_snd_buf, foldl_snd_port, foldl_snd_slices, foldl_snd_tab, foldl_snd_gen, foldl_snd_core, foldl_snd_sch, foldl_snd_tel, foldl_snd_pwr, foldl_snd_regs, foldl_snd_cnts]; done)
end Sys2Proof.Machine
end

