-- ==== Sys2Proof/Laws/KeepsFaults.lean ====
section
/-! SUPPORT. What each operation of Machine/Faults.lean keeps: the parts of the state that it leaves as they are. -/
set_option linter.unusedSimpArgs false
set_option linter.unusedVariables false
namespace Sys2Proof.Machine
open Host (Outcome)

@[simp] theorem State.kennelBad_keeps (addr : Nat) (inj : Bool) (s : State) :
    (State.kennelBad addr inj s).pending = s.pending ∧ (State.kennelBad addr inj s).now = s.now ∧
    (State.kennelBad addr inj s).serial = s.serial ∧ (State.kennelBad addr inj s).out = s.out ∧
    (State.kennelBad addr inj s).pins = s.pins ∧ (State.kennelBad addr inj s).md = s.md ∧
    (State.kennelBad addr inj s).host = s.host ∧ (State.kennelBad addr inj s).cmds = s.cmds ∧
    (State.kennelBad addr inj s).flt = s.flt ∧ (State.kennelBad addr inj s).clk = s.clk ∧
    (State.kennelBad addr inj s).time = s.time ∧ (State.kennelBad addr inj s).buf = s.buf ∧
    (State.kennelBad addr inj s).port = s.port ∧ (State.kennelBad addr inj s).slices = s.slices ∧
    (State.kennelBad addr inj s).tab = s.tab ∧ (State.kennelBad addr inj s).gen = s.gen ∧
    (State.kennelBad addr inj s).core = s.core ∧ (State.kennelBad addr inj s).sch = s.sch ∧
    (State.kennelBad addr inj s).tel = s.tel ∧ (State.kennelBad addr inj s).regs = s.regs ∧
    (State.kennelBad addr inj s).cnts = s.cnts ∧ (State.kennelBad addr inj s).kennel.keyHash = s.kennel.keyHash := by
  (unfold State.kennelBad; simp only [ite_self, and_self, implies_true, Ran.st_done, Ran.st_wait, Ran.st_refuse, Ran.st_ite, snd_ite, ite_pending, ite_now, ite_serial, ite_out, ite_pins, ite_md, ite_host, ite_cmds, ite_flt, ite_clk, ite_time, ite_buf, ite_port, ite_slices, ite_tab, ite_gen, ite_core, ite_sch, ite_tel, ite_regs, ite_cnts, ite_kennel_keyHash, foldl_pending, foldl_now, foldl_serial, foldl_out, foldl_pins, foldl_md, foldl_host, foldl_cmds, foldl_flt, foldl_clk, foldl_time, foldl_buf, foldl_port, foldl_slices, foldl_tab, foldl_gen, foldl_core, foldl_sch, foldl_tel, foldl_regs, foldl_cnts, foldl_kennel_keyHash, foldl_snd_pending, foldl_snd_now, foldl_snd_serial, foldl_snd_out, foldl_snd_pins, foldl_snd_md, foldl_snd_host, foldl_snd_cmds, foldl_snd_flt, foldl_snd_clk, foldl_snd_time, foldl_snd_buf, foldl_snd_port, foldl_snd_slices, foldl_snd_tab, foldl_snd_gen, foldl_snd_core, foldl_snd_sch, foldl_snd_tel, foldl_snd_regs, foldl_snd_cnts, foldl_snd_kennel_keyHash]; done)

@[simp] theorem State.kennelCheck_keeps (addr : Nat) (double : Bool) (s : State) :
    (State.kennelCheck addr double s).pending = s.pending ∧ (State.kennelCheck addr double s).now = s.now ∧
    (State.kennelCheck addr double s).serial = s.serial ∧ (State.kennelCheck addr double s).out = s.out ∧
    (State.kennelCheck addr double s).pins = s.pins ∧ (State.kennelCheck addr double s).md = s.md ∧
    (State.kennelCheck addr double s).host = s.host ∧ (State.kennelCheck addr double s).cmds = s.cmds ∧
    (State.kennelCheck addr double s).clk = s.clk ∧ (State.kennelCheck addr double s).time = s.time ∧
    (State.kennelCheck addr double s).buf = s.buf ∧ (State.kennelCheck addr double s).port = s.port ∧
    (State.kennelCheck addr double s).slices = s.slices ∧ (State.kennelCheck addr double s).tab = s.tab ∧
    (State.kennelCheck addr double s).gen = s.gen ∧ (State.kennelCheck addr double s).core = s.core ∧
    (State.kennelCheck addr double s).sch = s.sch ∧ (State.kennelCheck addr double s).tel = s.tel ∧
    (State.kennelCheck addr double s).regs = s.regs ∧ (State.kennelCheck addr double s).cnts = s.cnts ∧
    (State.kennelCheck addr double s).flt.keel0 = s.flt.keel0 ∧
    (State.kennelCheck addr double s).flt.keel1 = s.flt.keel1 ∧
    (State.kennelCheck addr double s).kennel.keyHash = s.kennel.keyHash := by
  unfold State.kennelCheck
  (repeat' split) <;> first | (simp; done) | (rename_i q; simp [snd_of q]; done) | (rename_i q _; simp [snd_of q]; done)

@[simp] theorem State.seFail_keeps (s : State) :
    (State.seFail s).pending = s.pending ∧ (State.seFail s).now = s.now ∧ (State.seFail s).serial = s.serial ∧
    (State.seFail s).out = s.out ∧ (State.seFail s).pins = s.pins ∧ (State.seFail s).md = s.md ∧
    (State.seFail s).host = s.host ∧ (State.seFail s).cmds = s.cmds ∧ (State.seFail s).clk = s.clk ∧
    (State.seFail s).kennel = s.kennel ∧ (State.seFail s).time = s.time ∧ (State.seFail s).buf = s.buf ∧
    (State.seFail s).port = s.port ∧ (State.seFail s).slices = s.slices ∧ (State.seFail s).tab = s.tab ∧
    (State.seFail s).gen = s.gen ∧ (State.seFail s).core = s.core ∧ (State.seFail s).sch = s.sch ∧
    (State.seFail s).tel = s.tel ∧ (State.seFail s).pwr = s.pwr ∧ (State.seFail s).regs = s.regs ∧
    (State.seFail s).cnts = s.cnts ∧ (State.seFail s).flt.keel0 = s.flt.keel0 ∧
    (State.seFail s).flt.keel1 = s.flt.keel1 := by
  (unfold State.seFail; simp only [State.raise_keeps, ite_self, and_self, implies_true, Ran.st_done, Ran.st_wait, Ran.st_refuse, Ran.st_ite, snd_ite, foldl_pending, foldl_now, foldl_serial, foldl_out, foldl_pins, foldl_md, foldl_host, foldl_cmds, foldl_clk, foldl_kennel, foldl_time, foldl_buf, foldl_port, foldl_slices, foldl_tab, foldl_gen, foldl_core, foldl_sch, foldl_tel, foldl_pwr, foldl_regs, foldl_cnts, foldl_flt_keel0, foldl_flt_keel1, foldl_snd_pending, foldl_snd_now, foldl_snd_serial, foldl_snd_out, foldl_snd_pins, foldl_snd_md, foldl_snd_host, foldl_snd_cmds, foldl_snd_clk, foldl_snd_kennel, foldl_snd_time, foldl_snd_buf, foldl_snd_port, foldl_snd_slices, foldl_snd_tab, foldl_snd_gen, foldl_snd_core, foldl_snd_sch, foldl_snd_tel, foldl_snd_pwr, foldl_snd_regs, foldl_snd_cnts, foldl_snd_flt_keel0, foldl_snd_flt_keel1]; done)

@[simp] theorem State.logRec_keeps (r : Rec) (s : State) :
    (State.logRec r s).pending = s.pending ∧ (State.logRec r s).now = s.now ∧
    (State.logRec r s).serial = s.serial ∧ (State.logRec r s).out = s.out ∧ (State.logRec r s).pins = s.pins ∧
    (State.logRec r s).md = s.md ∧ (State.logRec r s).host = s.host ∧ (State.logRec r s).cmds = s.cmds ∧
    (State.logRec r s).clk = s.clk ∧ (State.logRec r s).ref = s.ref ∧ (State.logRec r s).kennel = s.kennel ∧
    (State.logRec r s).time = s.time ∧ (State.logRec r s).buf = s.buf ∧ (State.logRec r s).port = s.port ∧
    (State.logRec r s).slices = s.slices ∧ (State.logRec r s).tab = s.tab ∧ (State.logRec r s).gen = s.gen ∧
    (State.logRec r s).core = s.core ∧ (State.logRec r s).sch = s.sch ∧ (State.logRec r s).tel = s.tel ∧
    (State.logRec r s).pwr = s.pwr ∧ (State.logRec r s).regs = s.regs ∧ (State.logRec r s).cnts = s.cnts ∧
    (State.logRec r s).flt.keel0 = s.flt.keel0 ∧ (State.logRec r s).flt.keel1 = s.flt.keel1 := by
  (unfold State.logRec; dsimp only; split <;> simp only [ite_self, and_self, implies_true, Ran.st_done, Ran.st_wait, Ran.st_refuse, Ran.st_ite, snd_ite, ite_pending, ite_now, ite_serial, ite_out, ite_pins, ite_md, ite_host, ite_cmds, ite_clk, ite_ref, ite_kennel, ite_time, ite_buf, ite_port, ite_slices, ite_tab, ite_gen, ite_core, ite_sch, ite_tel, ite_pwr, ite_regs, ite_cnts, ite_flt_keel0, ite_flt_keel1, foldl_pending, foldl_now, foldl_serial, foldl_out, foldl_pins, foldl_md, foldl_host, foldl_cmds, foldl_clk, foldl_ref, foldl_kennel, foldl_time, foldl_buf, foldl_port, foldl_slices, foldl_tab, foldl_gen, foldl_core, foldl_sch, foldl_tel, foldl_pwr, foldl_regs, foldl_cnts, foldl_flt_keel0, foldl_flt_keel1, foldl_snd_pending, foldl_snd_now, foldl_snd_serial, foldl_snd_out, foldl_snd_pins, foldl_snd_md, foldl_snd_host, foldl_snd_cmds, foldl_snd_clk, foldl_snd_ref, foldl_snd_kennel, foldl_snd_time, foldl_snd_buf, foldl_snd_port, foldl_snd_slices, foldl_snd_tab, foldl_snd_gen, foldl_snd_core, foldl_snd_sch, foldl_snd_tel, foldl_snd_pwr, foldl_snd_regs, foldl_snd_cnts, foldl_snd_flt_keel0, foldl_snd_flt_keel1])

@[simp] theorem State.postRec_keeps (r : Rec) (s : State) :
    (State.postRec r s).pending = s.pending ∧ (State.postRec r s).now = s.now ∧
    (State.postRec r s).serial = s.serial ∧ (State.postRec r s).pins = s.pins ∧ (State.postRec r s).md = s.md ∧
    (State.postRec r s).cmds = s.cmds ∧ (State.postRec r s).clk = s.clk ∧ (State.postRec r s).ref = s.ref ∧
    (State.postRec r s).kennel = s.kennel ∧ (State.postRec r s).time = s.time ∧ (State.postRec r s).buf = s.buf ∧
    (State.postRec r s).port = s.port ∧ (State.postRec r s).slices = s.slices ∧ (State.postRec r s).tab = s.tab ∧
    (State.postRec r s).gen = s.gen ∧ (State.postRec r s).core = s.core ∧ (State.postRec r s).sch = s.sch ∧
    (State.postRec r s).tel = s.tel ∧ (State.postRec r s).pwr = s.pwr ∧ (State.postRec r s).regs = s.regs ∧
    (State.postRec r s).cnts = s.cnts ∧ (State.postRec r s).flt.keel0 = s.flt.keel0 ∧
    (State.postRec r s).flt.keel1 = s.flt.keel1 := by
  (simp only [State.postRec]; (repeat' split) <;> first | (simp; done) | (rename_i q; simp [snd_of q]; done) | (rename_i q _; simp [snd_of q]; done) | (rename_i q _ _; simp [snd_of q]; done))

@[simp] theorem State.fatal_keeps (r : Rec) (s : State) :
    (State.fatal r s).pending = s.pending ∧ (State.fatal r s).now = s.now ∧ (State.fatal r s).serial = s.serial ∧
    (State.fatal r s).pins = s.pins ∧ (State.fatal r s).clk = s.clk ∧ (State.fatal r s).ref = s.ref ∧
    (State.fatal r s).kennel = s.kennel ∧ (State.fatal r s).buf = s.buf ∧ (State.fatal r s).slices = s.slices ∧
    (State.fatal r s).sch = s.sch ∧ (State.fatal r s).regs = s.regs := by
  unfold State.fatal
  (try dsimp only)
  (repeat' split) <;> first | (simp; done) | (rename_i q; simp [snd_of q]; done) | (rename_i q _; simp [snd_of q]; done)

@[simp] theorem State.takeFollow_keeps (src : Nat) (s : State) :
    (State.takeFollow src s).pending = s.pending ∧ (State.takeFollow src s).now = s.now ∧
    (State.takeFollow src s).serial = s.serial ∧ (State.takeFollow src s).out = s.out ∧
    (State.takeFollow src s).pins = s.pins ∧ (State.takeFollow src s).md = s.md ∧
    (State.takeFollow src s).host = s.host ∧ (State.takeFollow src s).cmds = s.cmds ∧
    (State.takeFollow src s).clk = s.clk ∧ (State.takeFollow src s).ref = s.ref ∧
    (State.takeFollow src s).kennel = s.kennel ∧ (State.takeFollow src s).time = s.time ∧
    (State.takeFollow src s).buf = s.buf ∧ (State.takeFollow src s).port = s.port ∧
    (State.takeFollow src s).slices = s.slices ∧ (State.takeFollow src s).tab = s.tab ∧
    (State.takeFollow src s).gen = s.gen ∧ (State.takeFollow src s).core = s.core ∧
    (State.takeFollow src s).sch = s.sch ∧ (State.takeFollow src s).tel = s.tel ∧
    (State.takeFollow src s).pwr = s.pwr ∧ (State.takeFollow src s).regs = s.regs ∧
    (State.takeFollow src s).cnts = s.cnts ∧ (State.takeFollow src s).flt.keel0 = s.flt.keel0 ∧
    (State.takeFollow src s).flt.keel1 = s.flt.keel1 := by
  (unfold State.takeFollow; split <;> simp only [State.raiseX_keeps, ite_self, and_self, implies_true, Ran.st_done, Ran.st_wait, Ran.st_refuse, Ran.st_ite, snd_ite, ite_pending, ite_now, ite_serial, ite_out, ite_pins, ite_md, ite_host, ite_cmds, ite_clk, ite_ref, ite_kennel, ite_time, ite_buf, ite_port, ite_slices, ite_tab, ite_gen, ite_core, ite_sch, ite_tel, ite_pwr, ite_regs, ite_cnts, ite_flt_keel0, ite_flt_keel1, foldl_pending, foldl_now, foldl_serial, foldl_out, foldl_pins, foldl_md, foldl_host, foldl_cmds, foldl_clk, foldl_ref, foldl_kennel, foldl_time, foldl_buf, foldl_port, foldl_slices, foldl_tab, foldl_gen, foldl_core, foldl_sch, foldl_tel, foldl_pwr, foldl_regs, foldl_cnts, foldl_flt_keel0, foldl_flt_keel1, foldl_snd_pending, foldl_snd_now, foldl_snd_serial, foldl_snd_out, foldl_snd_pins, foldl_snd_md, foldl_snd_host, foldl_snd_cmds, foldl_snd_clk, foldl_snd_ref, foldl_snd_kennel, foldl_snd_time, foldl_snd_buf, foldl_snd_port, foldl_snd_slices, foldl_snd_tab, foldl_snd_gen, foldl_snd_core, foldl_snd_sch, foldl_snd_tel, foldl_snd_pwr, foldl_snd_regs, foldl_snd_cnts, foldl_snd_flt_keel0, foldl_snd_flt_keel1])

@[simp] theorem State.recordOne_keeps (r : Rec) (s : State) :
    (State.recordOne r s).pending = s.pending ∧ (State.recordOne r s).now = s.now ∧
    (State.recordOne r s).serial = s.serial ∧ (State.recordOne r s).pins = s.pins ∧
    (State.recordOne r s).clk = s.clk ∧ (State.recordOne r s).ref = s.ref ∧
    (State.recordOne r s).kennel = s.kennel ∧ (State.recordOne r s).buf = s.buf ∧
    (State.recordOne r s).slices = s.slices ∧ (State.recordOne r s).sch = s.sch ∧
    (State.recordOne r s).regs = s.regs := by
  (unfold State.recordOne; simp only [State.fatal_keeps, State.logRec_keeps, State.takeFollow_keeps, State.postRec_keeps, ite_self, and_self, implies_true, Ran.st_done, Ran.st_wait, Ran.st_refuse, Ran.st_ite, snd_ite, ite_pending, ite_now, ite_serial, ite_pins, ite_clk, ite_ref, ite_kennel, ite_buf, ite_slices, ite_sch, ite_regs, foldl_pending, foldl_now, foldl_serial, foldl_pins, foldl_clk, foldl_ref, foldl_kennel, foldl_buf, foldl_slices, foldl_sch, foldl_regs, foldl_snd_pending, foldl_snd_now, foldl_snd_serial, foldl_snd_pins, foldl_snd_clk, foldl_snd_ref, foldl_snd_kennel, foldl_snd_buf, foldl_snd_slices, foldl_snd_sch, foldl_snd_regs]; done)

@[simp] theorem State.fatalNow_keeps (src code detail : Nat) (s : State) :
    (State.fatalNow src code detail s).pending = s.pending ∧ (State.fatalNow src code detail s).now = s.now ∧
    (State.fatalNow src code detail s).serial = s.serial ∧ (State.fatalNow src code detail s).pins = s.pins ∧
    (State.fatalNow src code detail s).clk = s.clk ∧ (State.fatalNow src code detail s).ref = s.ref ∧
    (State.fatalNow src code detail s).kennel = s.kennel ∧ (State.fatalNow src code detail s).buf = s.buf ∧
    (State.fatalNow src code detail s).slices = s.slices ∧ (State.fatalNow src code detail s).sch = s.sch ∧
    (State.fatalNow src code detail s).regs = s.regs := by
  unfold State.fatalNow
  (try dsimp only)
  (repeat' split) <;> first | (simp; done) | (rename_i q; simp [snd_of q]; done) | (rename_i q _; simp [snd_of q]; done)

@[simp] theorem keelHit_keeps (id : Nat) (acc : List Nat × State) (i : Nat) :
    (keelHit id acc i).2.pending = acc.2.pending ∧ (keelHit id acc i).2.now = acc.2.now ∧
    (keelHit id acc i).2.serial = acc.2.serial ∧ (keelHit id acc i).2.out = acc.2.out ∧
    (keelHit id acc i).2.pins = acc.2.pins ∧ (keelHit id acc i).2.md = acc.2.md ∧
    (keelHit id acc i).2.host = acc.2.host ∧ (keelHit id acc i).2.cmds = acc.2.cmds ∧
    (keelHit id acc i).2.clk = acc.2.clk ∧ (keelHit id acc i).2.ref = acc.2.ref ∧
    (keelHit id acc i).2.kennel = acc.2.kennel ∧ (keelHit id acc i).2.time = acc.2.time ∧
    (keelHit id acc i).2.buf = acc.2.buf ∧ (keelHit id acc i).2.port = acc.2.port ∧
    (keelHit id acc i).2.slices = acc.2.slices ∧ (keelHit id acc i).2.tab = acc.2.tab ∧
    (keelHit id acc i).2.gen = acc.2.gen ∧ (keelHit id acc i).2.core = acc.2.core ∧
    (keelHit id acc i).2.sch = acc.2.sch ∧ (keelHit id acc i).2.tel = acc.2.tel ∧
    (keelHit id acc i).2.pwr = acc.2.pwr ∧ (keelHit id acc i).2.regs = acc.2.regs ∧
    (keelHit id acc i).2.cnts = acc.2.cnts ∧ (keelHit id acc i).2.flt.keel0 = acc.2.flt.keel0 ∧
    (keelHit id acc i).2.flt.keel1 = acc.2.flt.keel1 := by
  (unfold keelHit; simp only [State.injected_keeps, ite_self, and_self, implies_true, Ran.st_done, Ran.st_wait, Ran.st_refuse, Ran.st_ite, snd_ite, foldl_pending, foldl_now, foldl_serial, foldl_out, foldl_pins, foldl_md, foldl_host, foldl_cmds, foldl_clk, foldl_ref, foldl_kennel, foldl_time, foldl_buf, foldl_port, foldl_slices, foldl_tab, foldl_gen, foldl_core, foldl_sch, foldl_tel, foldl_pwr, foldl_regs, foldl_cnts, foldl_flt_keel0, foldl_flt_keel1, foldl_snd_pending, foldl_snd_now, foldl_snd_serial, foldl_snd_out, foldl_snd_pins, foldl_snd_md, foldl_snd_host, foldl_snd_cmds, foldl_snd_clk, foldl_snd_ref, foldl_snd_kennel, foldl_snd_time, foldl_snd_buf, foldl_snd_port, foldl_snd_slices, foldl_snd_tab, foldl_snd_gen, foldl_snd_core, foldl_snd_sch, foldl_snd_tel, foldl_snd_pwr, foldl_snd_regs, foldl_snd_cnts, foldl_snd_flt_keel0, foldl_snd_flt_keel1]; done)

@[simp] theorem State.keelInject_keeps (id : Nat) (s : State) :
    (State.keelInject id s).2.pending = s.pending ∧ (State.keelInject id s).2.now = s.now ∧
    (State.keelInject id s).2.serial = s.serial ∧ (State.keelInject id s).2.out = s.out ∧
    (State.keelInject id s).2.pins = s.pins ∧ (State.keelInject id s).2.md = s.md ∧
    (State.keelInject id s).2.host = s.host ∧ (State.keelInject id s).2.cmds = s.cmds ∧
    (State.keelInject id s).2.clk = s.clk ∧ (State.keelInject id s).2.ref = s.ref ∧
    (State.keelInject id s).2.kennel = s.kennel ∧ (State.keelInject id s).2.time = s.time ∧
    (State.keelInject id s).2.buf = s.buf ∧ (State.keelInject id s).2.port = s.port ∧
    (State.keelInject id s).2.slices = s.slices ∧ (State.keelInject id s).2.tab = s.tab ∧
    (State.keelInject id s).2.gen = s.gen ∧ (State.keelInject id s).2.core = s.core ∧
    (State.keelInject id s).2.sch = s.sch ∧ (State.keelInject id s).2.tel = s.tel ∧
    (State.keelInject id s).2.pwr = s.pwr ∧ (State.keelInject id s).2.regs = s.regs ∧
    (State.keelInject id s).2.cnts = s.cnts ∧ (State.keelInject id s).2.flt.keel0 = s.flt.keel0 ∧
    (State.keelInject id s).2.flt.keel1 = s.flt.keel1 := by
  (unfold State.keelInject; simp only [keelHit_keeps, ite_self, and_self, implies_true, Ran.st_done, Ran.st_wait, Ran.st_refuse, Ran.st_ite, snd_ite, foldl_pending, foldl_now, foldl_serial, foldl_out, foldl_pins, foldl_md, foldl_host, foldl_cmds, foldl_clk, foldl_ref, foldl_kennel, foldl_time, foldl_buf, foldl_port, foldl_slices, foldl_tab, foldl_gen, foldl_core, foldl_sch, foldl_tel, foldl_pwr, foldl_regs, foldl_cnts, foldl_flt_keel0, foldl_flt_keel1, foldl_snd_pending, foldl_snd_now, foldl_snd_serial, foldl_snd_out, foldl_snd_pins, foldl_snd_md, foldl_snd_host, foldl_snd_cmds, foldl_snd_clk, foldl_snd_ref, foldl_snd_kennel, foldl_snd_time, foldl_snd_buf, foldl_snd_port, foldl_snd_slices, foldl_snd_tab, foldl_snd_gen, foldl_snd_core, foldl_snd_sch, foldl_snd_tel, foldl_snd_pwr, foldl_snd_regs, foldl_snd_cnts, foldl_snd_flt_keel0, foldl_snd_flt_keel1]; done)

@[simp] theorem State.keelRepair_keeps (id v : Nat) (fix : List Nat) (inj : Bool) (s : State) :
    (State.keelRepair id v fix inj s).pending = s.pending ∧ (State.keelRepair id v fix inj s).now = s.now ∧
    (State.keelRepair id v fix inj s).serial = s.serial ∧ (State.keelRepair id v fix inj s).out = s.out ∧
    (State.keelRepair id v fix inj s).pins = s.pins ∧ (State.keelRepair id v fix inj s).md = s.md ∧
    (State.keelRepair id v fix inj s).host = s.host ∧ (State.keelRepair id v fix inj s).cmds = s.cmds ∧
    (State.keelRepair id v fix inj s).clk = s.clk ∧ (State.keelRepair id v fix inj s).ref = s.ref ∧
    (State.keelRepair id v fix inj s).kennel = s.kennel ∧ (State.keelRepair id v fix inj s).time = s.time ∧
    (State.keelRepair id v fix inj s).buf = s.buf ∧ (State.keelRepair id v fix inj s).port = s.port ∧
    (State.keelRepair id v fix inj s).slices = s.slices ∧ (State.keelRepair id v fix inj s).tab = s.tab ∧
    (State.keelRepair id v fix inj s).gen = s.gen ∧ (State.keelRepair id v fix inj s).core = s.core ∧
    (State.keelRepair id v fix inj s).sch = s.sch ∧ (State.keelRepair id v fix inj s).tel = s.tel ∧
    (State.keelRepair id v fix inj s).pwr = s.pwr ∧ (State.keelRepair id v fix inj s).regs = s.regs ∧
    (State.keelRepair id v fix inj s).cnts = s.cnts := by
  simp only [State.keelRepair]
  split
  · split <;> (split <;> simp)
  · split <;> simp

end Sys2Proof.Machine
end

