-- ==== Sys2Proof/Laws/KeepsPower.lean ====
section
/-! SUPPORT. What each operation of Machine/Power.lean keeps: the parts of the state that it leaves as they are. -/
set_option linter.unusedSimpArgs false
set_option linter.unusedVariables false
namespace Sys2Proof.Machine
open Host (Outcome)

@[simp] theorem State.powerEvt_keeps (code source : Nat) (s : State) :
    (State.powerEvt code source s).pending = s.pending ∧ (State.powerEvt code source s).now = s.now ∧
    (State.powerEvt code source s).serial = s.serial ∧ (State.powerEvt code source s).pins = s.pins ∧
    (State.powerEvt code source s).md = s.md ∧ (State.powerEvt code source s).cmds = s.cmds ∧
    (State.powerEvt code source s).flt = s.flt ∧ (State.powerEvt code source s).clk = s.clk ∧
    (State.powerEvt code source s).ref = s.ref ∧ (State.powerEvt code source s).kennel = s.kennel ∧
    (State.powerEvt code source s).time = s.time ∧ (State.powerEvt code source s).buf = s.buf ∧
    (State.powerEvt code source s).port = s.port ∧ (State.powerEvt code source s).slices = s.slices ∧
    (State.powerEvt code source s).tab = s.tab ∧ (State.powerEvt code source s).gen = s.gen ∧
    (State.powerEvt code source s).core = s.core ∧ (State.powerEvt code source s).sch = s.sch ∧
    (State.powerEvt code source s).tel = s.tel ∧ (State.powerEvt code source s).pwr = s.pwr ∧
    (State.powerEvt code source s).regs = s.regs ∧ (State.powerEvt code source s).cnts = s.cnts := by
  (unfold State.powerEvt; simp only [State.post_keeps, ite_self, and_self, implies_true, Ran.st_done, Ran.st_wait, Ran.st_refuse, Ran.st_ite, snd_ite, foldl_pending, foldl_now, foldl_serial, foldl_pins, foldl_md, foldl_cmds, foldl_flt, foldl_clk, foldl_ref, foldl_kennel, foldl_time, foldl_buf, foldl_port, foldl_slices, foldl_tab, foldl_gen, foldl_core, foldl_sch, foldl_tel, foldl_pwr, foldl_regs, foldl_cnts, foldl_snd_pending, foldl_snd_now, foldl_snd_serial, foldl_snd_pins, foldl_snd_md, foldl_snd_cmds, foldl_snd_flt, foldl_snd_clk, foldl_snd_ref, foldl_snd_kennel, foldl_snd_time, foldl_snd_buf, foldl_snd_port, foldl_snd_slices, foldl_snd_tab, foldl_snd_gen, foldl_snd_core, foldl_snd_sch, foldl_snd_tel, foldl_snd_pwr, foldl_snd_regs, foldl_snd_cnts]; done)

@[simp] theorem State.throttleEdge_keeps (s : State) :
    (State.throttleEdge s).pending = s.pending ∧ (State.throttleEdge s).now = s.now ∧
    (State.throttleEdge s).serial = s.serial ∧ (State.throttleEdge s).pins = s.pins ∧
    (State.throttleEdge s).md = s.md ∧ (State.throttleEdge s).cmds = s.cmds ∧ (State.throttleEdge s).flt = s.flt ∧
    (State.throttleEdge s).clk = s.clk ∧ (State.throttleEdge s).ref = s.ref ∧
    (State.throttleEdge s).kennel = s.kennel ∧ (State.throttleEdge s).time = s.time ∧
    (State.throttleEdge s).buf = s.buf ∧ (State.throttleEdge s).port = s.port ∧
    (State.throttleEdge s).slices = s.slices ∧ (State.throttleEdge s).tab = s.tab ∧
    (State.throttleEdge s).gen = s.gen ∧ (State.throttleEdge s).core = s.core ∧
    (State.throttleEdge s).sch = s.sch ∧ (State.throttleEdge s).tel = s.tel ∧
    (State.throttleEdge s).regs = s.regs ∧ (State.throttleEdge s).cnts = s.cnts := by
  (unfold State.throttleEdge; simp only [State.powerEvt_keeps, ite_self, and_self, implies_true, Ran.st_done, Ran.st_wait, Ran.st_refuse, Ran.st_ite, snd_ite, ite_pending, ite_now, ite_serial, ite_pins, ite_md, ite_cmds, ite_flt, ite_clk, ite_ref, ite_kennel, ite_time, ite_buf, ite_port, ite_slices, ite_tab, ite_gen, ite_core, ite_sch, ite_tel, ite_regs, ite_cnts, foldl_pending, foldl_now, foldl_serial, foldl_pins, foldl_md, foldl_cmds, foldl_flt, foldl_clk, foldl_ref, foldl_kennel, foldl_time, foldl_buf, foldl_port, foldl_slices, foldl_tab, foldl_gen, foldl_core, foldl_sch, foldl_tel, foldl_regs, foldl_cnts, foldl_snd_pending, foldl_snd_now, foldl_snd_serial, foldl_snd_pins, foldl_snd_md, foldl_snd_cmds, foldl_snd_flt, foldl_snd_clk, foldl_snd_ref, foldl_snd_kennel, foldl_snd_time, foldl_snd_buf, foldl_snd_port, foldl_snd_slices, foldl_snd_tab, foldl_snd_gen, foldl_snd_core, foldl_snd_sch, foldl_snd_tel, foldl_snd_regs, foldl_snd_cnts]; done)

@[simp] theorem State.capDone_keeps (s : State) :
    (State.capDone s).pending = s.pending ∧ (State.capDone s).now = s.now ∧ (State.capDone s).serial = s.serial ∧
    (State.capDone s).pins = s.pins ∧ (State.capDone s).md = s.md ∧ (State.capDone s).flt = s.flt ∧
    (State.capDone s).clk = s.clk ∧ (State.capDone s).ref = s.ref ∧ (State.capDone s).kennel = s.kennel ∧
    (State.capDone s).time = s.time ∧ (State.capDone s).buf = s.buf ∧ (State.capDone s).port = s.port ∧
    (State.capDone s).slices = s.slices ∧ (State.capDone s).tab = s.tab ∧ (State.capDone s).gen = s.gen ∧
    (State.capDone s).core = s.core ∧ (State.capDone s).sch = s.sch ∧ (State.capDone s).tel = s.tel ∧
    (State.capDone s).regs = s.regs ∧ (State.capDone s).cnts = s.cnts := by
  (unfold State.capDone; simp only [State.completeSer_keeps, ite_self, and_self, implies_true, Ran.st_done, Ran.st_wait, Ran.st_refuse, Ran.st_ite, snd_ite, ite_pending, ite_now, ite_serial, ite_pins, ite_md, ite_flt, ite_clk, ite_ref, ite_kennel, ite_time, ite_buf, ite_port, ite_slices, ite_tab, ite_gen, ite_core, ite_sch, ite_tel, ite_regs, ite_cnts, foldl_pending, foldl_now, foldl_serial, foldl_pins, foldl_md, foldl_flt, foldl_clk, foldl_ref, foldl_kennel, foldl_time, foldl_buf, foldl_port, foldl_slices, foldl_tab, foldl_gen, foldl_core, foldl_sch, foldl_tel, foldl_regs, foldl_cnts, foldl_snd_pending, foldl_snd_now, foldl_snd_serial, foldl_snd_pins, foldl_snd_md, foldl_snd_flt, foldl_snd_clk, foldl_snd_ref, foldl_snd_kennel, foldl_snd_time, foldl_snd_buf, foldl_snd_port, foldl_snd_slices, foldl_snd_tab, foldl_snd_gen, foldl_snd_core, foldl_snd_sch, foldl_snd_tel, foldl_snd_regs, foldl_snd_cnts]; done)

@[simp] theorem State.stepClock_keeps (s : State) :
    (State.stepClock s).pending = s.pending ∧ (State.stepClock s).now = s.now ∧
    (State.stepClock s).serial = s.serial ∧ (State.stepClock s).pins = s.pins ∧ (State.stepClock s).md = s.md ∧
    (State.stepClock s).flt = s.flt ∧ (State.stepClock s).ref = s.ref ∧ (State.stepClock s).kennel = s.kennel ∧
    (State.stepClock s).time = s.time ∧ (State.stepClock s).buf = s.buf ∧ (State.stepClock s).port = s.port ∧
    (State.stepClock s).slices = s.slices ∧ (State.stepClock s).tab = s.tab ∧ (State.stepClock s).gen = s.gen ∧
    (State.stepClock s).core = s.core ∧ (State.stepClock s).sch = s.sch ∧ (State.stepClock s).tel = s.tel ∧
    (State.stepClock s).regs = s.regs ∧ (State.stepClock s).cnts = s.cnts := by
  (unfold State.stepClock; simp only [State.capDone_keeps, ite_self, and_self, implies_true, Ran.st_done, Ran.st_wait, Ran.st_refuse, Ran.st_ite, snd_ite, ite_pending, ite_now, ite_serial, ite_pins, ite_md, ite_flt, ite_ref, ite_kennel, ite_time, ite_buf, ite_port, ite_slices, ite_tab, ite_gen, ite_core, ite_sch, ite_tel, ite_regs, ite_cnts, foldl_pending, foldl_now, foldl_serial, foldl_pins, foldl_md, foldl_flt, foldl_ref, foldl_kennel, foldl_time, foldl_buf, foldl_port, foldl_slices, foldl_tab, foldl_gen, foldl_core, foldl_sch, foldl_tel, foldl_regs, foldl_cnts, foldl_snd_pending, foldl_snd_now, foldl_snd_serial, foldl_snd_pins, foldl_snd_md, foldl_snd_flt, foldl_snd_ref, foldl_snd_kennel, foldl_snd_time, foldl_snd_buf, foldl_snd_port, foldl_snd_slices, foldl_snd_tab, foldl_snd_gen, foldl_snd_core, foldl_snd_sch, foldl_snd_tel, foldl_snd_regs, foldl_snd_cnts]; done)

@[simp] theorem State.takeMem_keeps (s : State) :
    (State.takeMem s).pending = s.pending ∧ (State.takeMem s).now = s.now ∧ (State.takeMem s).serial = s.serial ∧
    (State.takeMem s).out = s.out ∧ (State.takeMem s).pins = s.pins ∧ (State.takeMem s).md = s.md ∧
    (State.takeMem s).host = s.host ∧ (State.takeMem s).cmds = s.cmds ∧ (State.takeMem s).flt = s.flt ∧
    (State.takeMem s).clk = s.clk ∧ (State.takeMem s).ref = s.ref ∧ (State.takeMem s).kennel = s.kennel ∧
    (State.takeMem s).time = s.time ∧ (State.takeMem s).buf = s.buf ∧ (State.takeMem s).port = s.port ∧
    (State.takeMem s).slices = s.slices ∧ (State.takeMem s).tab = s.tab ∧ (State.takeMem s).gen = s.gen ∧
    (State.takeMem s).core = s.core ∧ (State.takeMem s).sch = s.sch ∧ (State.takeMem s).tel = s.tel ∧
    (State.takeMem s).regs = s.regs ∧ (State.takeMem s).cnts = s.cnts := by
  (unfold State.takeMem; simp only [ite_self, and_self, implies_true, Ran.st_done, Ran.st_wait, Ran.st_refuse, Ran.st_ite, snd_ite, foldl_pending, foldl_now, foldl_serial, foldl_out, foldl_pins, foldl_md, foldl_host, foldl_cmds, foldl_flt, foldl_clk, foldl_ref, foldl_kennel, foldl_time, foldl_buf, foldl_port, foldl_slices, foldl_tab, foldl_gen, foldl_core, foldl_sch, foldl_tel, foldl_regs, foldl_cnts, foldl_snd_pending, foldl_snd_now, foldl_snd_serial, foldl_snd_out, foldl_snd_pins, foldl_snd_md, foldl_snd_host, foldl_snd_cmds, foldl_snd_flt, foldl_snd_clk, foldl_snd_ref, foldl_snd_kennel, foldl_snd_time, foldl_snd_buf, foldl_snd_port, foldl_snd_slices, foldl_snd_tab, foldl_snd_gen, foldl_snd_core, foldl_snd_sch, foldl_snd_tel, foldl_snd_regs, foldl_snd_cnts]; done)

@[simp] theorem State.takeLink_keeps (stay : List Nat) (s : State) :
    (State.takeLink stay s).pending = s.pending ∧ (State.takeLink stay s).now = s.now ∧
    (State.takeLink stay s).serial = s.serial ∧ (State.takeLink stay s).out = s.out ∧
    (State.takeLink stay s).pins = s.pins ∧ (State.takeLink stay s).md = s.md ∧
    (State.takeLink stay s).host = s.host ∧ (State.takeLink stay s).cmds = s.cmds ∧
    (State.takeLink stay s).flt = s.flt ∧ (State.takeLink stay s).clk = s.clk ∧
    (State.takeLink stay s).ref = s.ref ∧ (State.takeLink stay s).kennel = s.kennel ∧
    (State.takeLink stay s).time = s.time ∧ (State.takeLink stay s).buf = s.buf ∧
    (State.takeLink stay s).port = s.port ∧ (State.takeLink stay s).slices = s.slices ∧
    (State.takeLink stay s).tab = s.tab ∧ (State.takeLink stay s).gen = s.gen ∧
    (State.takeLink stay s).core = s.core ∧ (State.takeLink stay s).sch = s.sch ∧
    (State.takeLink stay s).tel = s.tel ∧ (State.takeLink stay s).regs = s.regs ∧
    (State.takeLink stay s).cnts = s.cnts := by
  (unfold State.takeLink; simp only [ite_self, and_self, implies_true, Ran.st_done, Ran.st_wait, Ran.st_refuse, Ran.st_ite, snd_ite, foldl_pending, foldl_now, foldl_serial, foldl_out, foldl_pins, foldl_md, foldl_host, foldl_cmds, foldl_flt, foldl_clk, foldl_ref, foldl_kennel, foldl_time, foldl_buf, foldl_port, foldl_slices, foldl_tab, foldl_gen, foldl_core, foldl_sch, foldl_tel, foldl_regs, foldl_cnts, foldl_snd_pending, foldl_snd_now, foldl_snd_serial, foldl_snd_out, foldl_snd_pins, foldl_snd_md, foldl_snd_host, foldl_snd_cmds, foldl_snd_flt, foldl_snd_clk, foldl_snd_ref, foldl_snd_kennel, foldl_snd_time, foldl_snd_buf, foldl_snd_port, foldl_snd_slices, foldl_snd_tab, foldl_snd_gen, foldl_snd_core, foldl_snd_sch, foldl_snd_tel, foldl_snd_regs, foldl_snd_cnts]; done)

@[simp] theorem State.takeStep_keeps (stay : List Nat) (d : Domain) (s : State) :
    (State.takeStep stay d s).pending = s.pending ∧ (State.takeStep stay d s).now = s.now ∧
    (State.takeStep stay d s).serial = s.serial ∧ (State.takeStep stay d s).pins = s.pins ∧
    (State.takeStep stay d s).md = s.md ∧ (State.takeStep stay d s).flt = s.flt ∧
    (State.takeStep stay d s).ref = s.ref ∧ (State.takeStep stay d s).kennel = s.kennel ∧
    (State.takeStep stay d s).time = s.time ∧ (State.takeStep stay d s).buf = s.buf ∧
    (State.takeStep stay d s).port = s.port ∧ (State.takeStep stay d s).slices = s.slices ∧
    (State.takeStep stay d s).tab = s.tab ∧ (State.takeStep stay d s).gen = s.gen ∧
    (State.takeStep stay d s).core = s.core ∧ (State.takeStep stay d s).sch = s.sch ∧
    (State.takeStep stay d s).tel = s.tel ∧ (State.takeStep stay d s).regs = s.regs ∧
    (State.takeStep stay d s).cnts = s.cnts := by
  (unfold State.takeStep; split <;> simp only [State.takeLink_keeps, State.stepClock_keeps, State.takeMem_keeps, ite_self, and_self, implies_true, Ran.st_done, Ran.st_wait, Ran.st_refuse, Ran.st_ite, snd_ite, ite_pending, ite_now, ite_serial, ite_pins, ite_md, ite_flt, ite_ref, ite_kennel, ite_time, ite_buf, ite_port, ite_slices, ite_tab, ite_gen, ite_core, ite_sch, ite_tel, ite_regs, ite_cnts, foldl_pending, foldl_now, foldl_serial, foldl_pins, foldl_md, foldl_flt, foldl_ref, foldl_kennel, foldl_time, foldl_buf, foldl_port, foldl_slices, foldl_tab, foldl_gen, foldl_core, foldl_sch, foldl_tel, foldl_regs, foldl_cnts, foldl_snd_pending, foldl_snd_now, foldl_snd_serial, foldl_snd_pins, foldl_snd_md, foldl_snd_flt, foldl_snd_ref, foldl_snd_kennel, foldl_snd_time, foldl_snd_buf, foldl_snd_port, foldl_snd_slices, foldl_snd_tab, foldl_snd_gen, foldl_snd_core, foldl_snd_sch, foldl_snd_tel, foldl_snd_regs, foldl_snd_cnts])

@[simp] theorem State.returnStep_keeps (saving : Nat) (s : State) :
    (State.returnStep saving s).pending = s.pending ∧ (State.returnStep saving s).now = s.now ∧
    (State.returnStep saving s).serial = s.serial ∧ (State.returnStep saving s).pins = s.pins ∧
    (State.returnStep saving s).md = s.md ∧ (State.returnStep saving s).flt = s.flt ∧
    (State.returnStep saving s).ref = s.ref ∧ (State.returnStep saving s).kennel = s.kennel ∧
    (State.returnStep saving s).time = s.time ∧ (State.returnStep saving s).buf = s.buf ∧
    (State.returnStep saving s).port = s.port ∧ (State.returnStep saving s).slices = s.slices ∧
    (State.returnStep saving s).tab = s.tab ∧ (State.returnStep saving s).gen = s.gen ∧
    (State.returnStep saving s).core = s.core ∧ (State.returnStep saving s).sch = s.sch ∧
    (State.returnStep saving s).tel = s.tel ∧ (State.returnStep saving s).regs = s.regs ∧
    (State.returnStep saving s).cnts = s.cnts := by
  unfold State.returnStep
  (try dsimp only)
  (repeat' split) <;> first | (simp; done) | (rename_i q; simp [snd_of q]; done) | (rename_i q _; simp [snd_of q]; done)

theorem State.trimWithhold_keeps (s : State) (saving : Nat) : ∀ t, State.trimWithhold s saving = some t →
    t.pending = s.pending ∧ t.now = s.now ∧ t.serial = s.serial ∧ t.out = s.out ∧ t.pins = s.pins ∧ t.md = s.md ∧
    t.host = s.host ∧ t.cmds = s.cmds ∧ t.flt = s.flt ∧ t.clk = s.clk ∧ t.ref = s.ref ∧ t.kennel = s.kennel ∧
    t.time = s.time ∧ t.buf = s.buf ∧ t.port = s.port ∧ t.slices = s.slices ∧ t.tab = s.tab ∧ t.gen = s.gen ∧
    t.core = s.core ∧ t.sch = s.sch ∧ t.tel = s.tel ∧ t.regs = s.regs ∧ t.cnts = s.cnts := by
  intro t h
  unfold State.trimWithhold at h
  (repeat' split at h) <;> simp only [reduceCtorEq, Option.some.injEq] at h <;> subst h <;> simp

@[simp] theorem State.hintLevels_keeps (stay : List Nat) (s : State) :
    (State.hintLevels stay s).pending = s.pending ∧ (State.hintLevels stay s).now = s.now ∧
    (State.hintLevels stay s).serial = s.serial ∧ (State.hintLevels stay s).out = s.out ∧
    (State.hintLevels stay s).pins = s.pins ∧ (State.hintLevels stay s).md = s.md ∧
    (State.hintLevels stay s).host = s.host ∧ (State.hintLevels stay s).cmds = s.cmds ∧
    (State.hintLevels stay s).flt = s.flt ∧ (State.hintLevels stay s).clk = s.clk ∧
    (State.hintLevels stay s).ref = s.ref ∧ (State.hintLevels stay s).kennel = s.kennel ∧
    (State.hintLevels stay s).time = s.time ∧ (State.hintLevels stay s).buf = s.buf ∧
    (State.hintLevels stay s).port = s.port ∧ (State.hintLevels stay s).slices = s.slices ∧
    (State.hintLevels stay s).tab = s.tab ∧ (State.hintLevels stay s).gen = s.gen ∧
    (State.hintLevels stay s).core = s.core ∧ (State.hintLevels stay s).sch = s.sch ∧
    (State.hintLevels stay s).tel = s.tel ∧ (State.hintLevels stay s).regs = s.regs ∧
    (State.hintLevels stay s).cnts = s.cnts := by
  (unfold State.hintLevels; split <;> simp only [State.takeLink_keeps, State.takeMem_keeps, ite_self, and_self, implies_true, Ran.st_done, Ran.st_wait, Ran.st_refuse, Ran.st_ite, snd_ite, ite_pending, ite_now, ite_serial, ite_out, ite_pins, ite_md, ite_host, ite_cmds, ite_flt, ite_clk, ite_ref, ite_kennel, ite_time, ite_buf, ite_port, ite_slices, ite_tab, ite_gen, ite_core, ite_sch, ite_tel, ite_regs, ite_cnts, foldl_pending, foldl_now, foldl_serial, foldl_out, foldl_pins, foldl_md, foldl_host, foldl_cmds, foldl_flt, foldl_clk, foldl_ref, foldl_kennel, foldl_time, foldl_buf, foldl_port, foldl_slices, foldl_tab, foldl_gen, foldl_core, foldl_sch, foldl_tel, foldl_regs, foldl_cnts, foldl_snd_pending, foldl_snd_now, foldl_snd_serial, foldl_snd_out, foldl_snd_pins, foldl_snd_md, foldl_snd_host, foldl_snd_cmds, foldl_snd_flt, foldl_snd_clk, foldl_snd_ref, foldl_snd_kennel, foldl_snd_time, foldl_snd_buf, foldl_snd_port, foldl_snd_slices, foldl_snd_tab, foldl_snd_gen, foldl_snd_core, foldl_snd_sch, foldl_snd_tel, foldl_snd_regs, foldl_snd_cnts])

@[simp] theorem State.loopAct_keeps (stay : List Nat) (saving : Nat) (s : State) :
    (State.loopAct stay saving s).pending = s.pending ∧ (State.loopAct stay saving s).now = s.now ∧
    (State.loopAct stay saving s).serial = s.serial ∧ (State.loopAct stay saving s).pins = s.pins ∧
    (State.loopAct stay saving s).md = s.md ∧ (State.loopAct stay saving s).flt = s.flt ∧
    (State.loopAct stay saving s).ref = s.ref ∧ (State.loopAct stay saving s).kennel = s.kennel ∧
    (State.loopAct stay saving s).time = s.time ∧ (State.loopAct stay saving s).buf = s.buf ∧
    (State.loopAct stay saving s).port = s.port ∧ (State.loopAct stay saving s).slices = s.slices ∧
    (State.loopAct stay saving s).tab = s.tab ∧ (State.loopAct stay saving s).gen = s.gen ∧
    (State.loopAct stay saving s).core = s.core ∧ (State.loopAct stay saving s).sch = s.sch ∧
    (State.loopAct stay saving s).tel = s.tel ∧ (State.loopAct stay saving s).regs = s.regs ∧
    (State.loopAct stay saving s).cnts = s.cnts := by
  unfold State.loopAct
  split
  · rename_i t q
    simp [State.trimWithhold_keeps _ _ _ q]
  · (repeat' split) <;> simp

@[simp] theorem State.liftClock_keeps (s : State) :
    (State.liftClock s).pending = s.pending ∧ (State.liftClock s).now = s.now ∧
    (State.liftClock s).serial = s.serial ∧ (State.liftClock s).out = s.out ∧ (State.liftClock s).pins = s.pins ∧
    (State.liftClock s).md = s.md ∧ (State.liftClock s).host = s.host ∧ (State.liftClock s).cmds = s.cmds ∧
    (State.liftClock s).flt = s.flt ∧ (State.liftClock s).clk = s.clk ∧ (State.liftClock s).ref = s.ref ∧
    (State.liftClock s).kennel = s.kennel ∧ (State.liftClock s).time = s.time ∧ (State.liftClock s).buf = s.buf ∧
    (State.liftClock s).port = s.port ∧ (State.liftClock s).slices = s.slices ∧ (State.liftClock s).tab = s.tab ∧
    (State.liftClock s).gen = s.gen ∧ (State.liftClock s).core = s.core ∧ (State.liftClock s).sch = s.sch ∧
    (State.liftClock s).tel = s.tel ∧ (State.liftClock s).regs = s.regs ∧ (State.liftClock s).cnts = s.cnts := by
  (unfold State.liftClock; simp only [ite_self, and_self, implies_true, Ran.st_done, Ran.st_wait, Ran.st_refuse, Ran.st_ite, snd_ite, ite_pending, ite_now, ite_serial, ite_out, ite_pins, ite_md, ite_host, ite_cmds, ite_flt, ite_clk, ite_ref, ite_kennel, ite_time, ite_buf, ite_port, ite_slices, ite_tab, ite_gen, ite_core, ite_sch, ite_tel, ite_regs, ite_cnts, foldl_pending, foldl_now, foldl_serial, foldl_out, foldl_pins, foldl_md, foldl_host, foldl_cmds, foldl_flt, foldl_clk, foldl_ref, foldl_kennel, foldl_time, foldl_buf, foldl_port, foldl_slices, foldl_tab, foldl_gen, foldl_core, foldl_sch, foldl_tel, foldl_regs, foldl_cnts, foldl_snd_pending, foldl_snd_now, foldl_snd_serial, foldl_snd_out, foldl_snd_pins, foldl_snd_md, foldl_snd_host, foldl_snd_cmds, foldl_snd_flt, foldl_snd_clk, foldl_snd_ref, foldl_snd_kennel, foldl_snd_time, foldl_snd_buf, foldl_snd_port, foldl_snd_slices, foldl_snd_tab, foldl_snd_gen, foldl_snd_core, foldl_snd_sch, foldl_snd_tel, foldl_snd_regs, foldl_snd_cnts]; done)

@[simp] theorem State.capAnswer_keeps (c : Cmd) (v : Nat) (s : State) :
    (State.capAnswer c v s).st.pending = s.pending ∧ (State.capAnswer c v s).st.now = s.now ∧
    (State.capAnswer c v s).st.serial = s.serial ∧ (State.capAnswer c v s).st.pins = s.pins ∧
    (State.capAnswer c v s).st.md = s.md ∧ (State.capAnswer c v s).st.flt = s.flt ∧
    (State.capAnswer c v s).st.clk = s.clk ∧ (State.capAnswer c v s).st.ref = s.ref ∧
    (State.capAnswer c v s).st.kennel = s.kennel ∧ (State.capAnswer c v s).st.time = s.time ∧
    (State.capAnswer c v s).st.buf = s.buf ∧ (State.capAnswer c v s).st.port = s.port ∧
    (State.capAnswer c v s).st.slices = s.slices ∧ (State.capAnswer c v s).st.tab = s.tab ∧
    (State.capAnswer c v s).st.gen = s.gen ∧ (State.capAnswer c v s).st.core = s.core ∧
    (State.capAnswer c v s).st.sch = s.sch ∧ (State.capAnswer c v s).st.tel = s.tel ∧
    (State.capAnswer c v s).st.regs = s.regs ∧ (State.capAnswer c v s).st.cnts = s.cnts := by
  (unfold State.capAnswer; simp only [State.capDone_keeps, ite_self, and_self, implies_true, Ran.st_done, Ran.st_wait, Ran.st_refuse, Ran.st_ite, snd_ite, ite_pending, ite_now, ite_serial, ite_pins, ite_md, ite_flt, ite_clk, ite_ref, ite_kennel, ite_time, ite_buf, ite_port, ite_slices, ite_tab, ite_gen, ite_core, ite_sch, ite_tel, ite_regs, ite_cnts, foldl_pending, foldl_now, foldl_serial, foldl_pins, foldl_md, foldl_flt, foldl_clk, foldl_ref, foldl_kennel, foldl_time, foldl_buf, foldl_port, foldl_slices, foldl_tab, foldl_gen, foldl_core, foldl_sch, foldl_tel, foldl_regs, foldl_cnts, foldl_snd_pending, foldl_snd_now, foldl_snd_serial, foldl_snd_pins, foldl_snd_md, foldl_snd_flt, foldl_snd_clk, foldl_snd_ref, foldl_snd_kennel, foldl_snd_time, foldl_snd_buf, foldl_snd_port, foldl_snd_slices, foldl_snd_tab, foldl_snd_gen, foldl_snd_core, foldl_snd_sch, foldl_snd_tel, foldl_snd_regs, foldl_snd_cnts]; done)

@[simp] theorem State.setHint_keeps (i : Nat) (h : Option Hint) (s : State) :
    (State.setHint i h s).pending = s.pending ∧ (State.setHint i h s).now = s.now ∧
    (State.setHint i h s).serial = s.serial ∧ (State.setHint i h s).out = s.out ∧
    (State.setHint i h s).pins = s.pins ∧ (State.setHint i h s).md = s.md ∧ (State.setHint i h s).host = s.host ∧
    (State.setHint i h s).cmds = s.cmds ∧ (State.setHint i h s).flt = s.flt ∧ (State.setHint i h s).clk = s.clk ∧
    (State.setHint i h s).ref = s.ref ∧ (State.setHint i h s).kennel = s.kennel ∧
    (State.setHint i h s).time = s.time ∧ (State.setHint i h s).buf = s.buf ∧ (State.setHint i h s).port = s.port ∧
    (State.setHint i h s).slices = s.slices ∧ (State.setHint i h s).tab = s.tab ∧
    (State.setHint i h s).gen = s.gen ∧ (State.setHint i h s).core = s.core ∧ (State.setHint i h s).sch = s.sch ∧
    (State.setHint i h s).tel = s.tel ∧ (State.setHint i h s).regs = s.regs ∧ (State.setHint i h s).cnts = s.cnts := by
  (unfold State.setHint; simp only [ite_self, and_self, implies_true, Ran.st_done, Ran.st_wait, Ran.st_refuse, Ran.st_ite, snd_ite, foldl_pending, foldl_now, foldl_serial, foldl_out, foldl_pins, foldl_md, foldl_host, foldl_cmds, foldl_flt, foldl_clk, foldl_ref, foldl_kennel, foldl_time, foldl_buf, foldl_port, foldl_slices, foldl_tab, foldl_gen, foldl_core, foldl_sch, foldl_tel, foldl_regs, foldl_cnts, foldl_snd_pending, foldl_snd_now, foldl_snd_serial, foldl_snd_out, foldl_snd_pins, foldl_snd_md, foldl_snd_host, foldl_snd_cmds, foldl_snd_flt, foldl_snd_clk, foldl_snd_ref, foldl_snd_kennel, foldl_snd_time, foldl_snd_buf, foldl_snd_port, foldl_snd_slices, foldl_snd_tab, foldl_snd_gen, foldl_snd_core, foldl_snd_sch, foldl_snd_tel, foldl_snd_regs, foldl_snd_cnts]; done)

@[simp] theorem State.startHint_keeps (i : Nat) (s : State) :
    (State.startHint i s).pending = s.pending ∧ (State.startHint i s).now = s.now ∧
    (State.startHint i s).serial = s.serial ∧ (State.startHint i s).pins = s.pins ∧
    (State.startHint i s).md = s.md ∧ (State.startHint i s).cmds = s.cmds ∧ (State.startHint i s).flt = s.flt ∧
    (State.startHint i s).clk = s.clk ∧ (State.startHint i s).ref = s.ref ∧
    (State.startHint i s).kennel = s.kennel ∧ (State.startHint i s).time = s.time ∧
    (State.startHint i s).buf = s.buf ∧ (State.startHint i s).port = s.port ∧
    (State.startHint i s).slices = s.slices ∧ (State.startHint i s).tab = s.tab ∧
    (State.startHint i s).gen = s.gen ∧ (State.startHint i s).core = s.core ∧ (State.startHint i s).sch = s.sch ∧
    (State.startHint i s).tel = s.tel ∧ (State.startHint i s).regs = s.regs ∧ (State.startHint i s).cnts = s.cnts := by
  (unfold State.startHint; split <;> simp only [State.setHint_keeps, State.powerEvt_keeps, ite_self, and_self, implies_true, Ran.st_done, Ran.st_wait, Ran.st_refuse, Ran.st_ite, snd_ite, ite_pending, ite_now, ite_serial, ite_pins, ite_md, ite_cmds, ite_flt, ite_clk, ite_ref, ite_kennel, ite_time, ite_buf, ite_port, ite_slices, ite_tab, ite_gen, ite_core, ite_sch, ite_tel, ite_regs, ite_cnts, foldl_pending, foldl_now, foldl_serial, foldl_pins, foldl_md, foldl_cmds, foldl_flt, foldl_clk, foldl_ref, foldl_kennel, foldl_time, foldl_buf, foldl_port, foldl_slices, foldl_tab, foldl_gen, foldl_core, foldl_sch, foldl_tel, foldl_regs, foldl_cnts, foldl_snd_pending, foldl_snd_now, foldl_snd_serial, foldl_snd_pins, foldl_snd_md, foldl_snd_cmds, foldl_snd_flt, foldl_snd_clk, foldl_snd_ref, foldl_snd_kennel, foldl_snd_time, foldl_snd_buf, foldl_snd_port, foldl_snd_slices, foldl_snd_tab, foldl_snd_gen, foldl_snd_core, foldl_snd_sch, foldl_snd_tel, foldl_snd_regs, foldl_snd_cnts])

@[simp] theorem State.endHint_keeps (i : Nat) (s : State) :
    (State.endHint i s).pending = s.pending ∧ (State.endHint i s).now = s.now ∧
    (State.endHint i s).serial = s.serial ∧ (State.endHint i s).pins = s.pins ∧ (State.endHint i s).md = s.md ∧
    (State.endHint i s).cmds = s.cmds ∧ (State.endHint i s).flt = s.flt ∧ (State.endHint i s).clk = s.clk ∧
    (State.endHint i s).ref = s.ref ∧ (State.endHint i s).kennel = s.kennel ∧ (State.endHint i s).time = s.time ∧
    (State.endHint i s).buf = s.buf ∧ (State.endHint i s).port = s.port ∧ (State.endHint i s).slices = s.slices ∧
    (State.endHint i s).tab = s.tab ∧ (State.endHint i s).gen = s.gen ∧ (State.endHint i s).core = s.core ∧
    (State.endHint i s).sch = s.sch ∧ (State.endHint i s).tel = s.tel ∧ (State.endHint i s).regs = s.regs ∧
    (State.endHint i s).cnts = s.cnts := by
  (unfold State.endHint; split <;> simp only [State.setHint_keeps, State.powerEvt_keeps, ite_self, and_self, implies_true, Ran.st_done, Ran.st_wait, Ran.st_refuse, Ran.st_ite, snd_ite, ite_pending, ite_now, ite_serial, ite_pins, ite_md, ite_cmds, ite_flt, ite_clk, ite_ref, ite_kennel, ite_time, ite_buf, ite_port, ite_slices, ite_tab, ite_gen, ite_core, ite_sch, ite_tel, ite_regs, ite_cnts, foldl_pending, foldl_now, foldl_serial, foldl_pins, foldl_md, foldl_cmds, foldl_flt, foldl_clk, foldl_ref, foldl_kennel, foldl_time, foldl_buf, foldl_port, foldl_slices, foldl_tab, foldl_gen, foldl_core, foldl_sch, foldl_tel, foldl_regs, foldl_cnts, foldl_snd_pending, foldl_snd_now, foldl_snd_serial, foldl_snd_pins, foldl_snd_md, foldl_snd_cmds, foldl_snd_flt, foldl_snd_clk, foldl_snd_ref, foldl_snd_kennel, foldl_snd_time, foldl_snd_buf, foldl_snd_port, foldl_snd_slices, foldl_snd_tab, foldl_snd_gen, foldl_snd_core, foldl_snd_sch, foldl_snd_tel, foldl_snd_regs, foldl_snd_cnts])

@[simp] theorem State.pmbErr_keeps (r cause : Nat) (s : State) :
    (State.pmbErr r cause s).pending = s.pending ∧ (State.pmbErr r cause s).now = s.now ∧
    (State.pmbErr r cause s).serial = s.serial ∧ (State.pmbErr r cause s).out = s.out ∧
    (State.pmbErr r cause s).pins = s.pins ∧ (State.pmbErr r cause s).md = s.md ∧
    (State.pmbErr r cause s).host = s.host ∧ (State.pmbErr r cause s).cmds = s.cmds ∧
    (State.pmbErr r cause s).clk = s.clk ∧ (State.pmbErr r cause s).ref = s.ref ∧
    (State.pmbErr r cause s).kennel = s.kennel ∧ (State.pmbErr r cause s).time = s.time ∧
    (State.pmbErr r cause s).buf = s.buf ∧ (State.pmbErr r cause s).port = s.port ∧
    (State.pmbErr r cause s).slices = s.slices ∧ (State.pmbErr r cause s).tab = s.tab ∧
    (State.pmbErr r cause s).gen = s.gen ∧ (State.pmbErr r cause s).core = s.core ∧
    (State.pmbErr r cause s).sch = s.sch ∧ (State.pmbErr r cause s).tel = s.tel ∧
    (State.pmbErr r cause s).regs = s.regs ∧ (State.pmbErr r cause s).cnts = s.cnts ∧
    (State.pmbErr r cause s).flt.keel0 = s.flt.keel0 ∧ (State.pmbErr r cause s).flt.keel1 = s.flt.keel1 := by
  (unfold State.pmbErr; simp only [State.follow_keeps, ite_self, and_self, implies_true, Ran.st_done, Ran.st_wait, Ran.st_refuse, Ran.st_ite, snd_ite, ite_pending, ite_now, ite_serial, ite_out, ite_pins, ite_md, ite_host, ite_cmds, ite_clk, ite_ref, ite_kennel, ite_time, ite_buf, ite_port, ite_slices, ite_tab, ite_gen, ite_core, ite_sch, ite_tel, ite_regs, ite_cnts, ite_flt_keel0, ite_flt_keel1, foldl_pending, foldl_now, foldl_serial, foldl_out, foldl_pins, foldl_md, foldl_host, foldl_cmds, foldl_clk, foldl_ref, foldl_kennel, foldl_time, foldl_buf, foldl_port, foldl_slices, foldl_tab, foldl_gen, foldl_core, foldl_sch, foldl_tel, foldl_regs, foldl_cnts, foldl_flt_keel0, foldl_flt_keel1, foldl_snd_pending, foldl_snd_now, foldl_snd_serial, foldl_snd_out, foldl_snd_pins, foldl_snd_md, foldl_snd_host, foldl_snd_cmds, foldl_snd_clk, foldl_snd_ref, foldl_snd_kennel, foldl_snd_time, foldl_snd_buf, foldl_snd_port, foldl_snd_slices, foldl_snd_tab, foldl_snd_gen, foldl_snd_core, foldl_snd_sch, foldl_snd_tel, foldl_snd_regs, foldl_snd_cnts, foldl_snd_flt_keel0, foldl_snd_flt_keel1]; done)

@[simp] theorem State.calGood_keeps (m : Nat) (s : State) :
    (State.calGood m s).pending = s.pending ∧ (State.calGood m s).now = s.now ∧
    (State.calGood m s).serial = s.serial ∧ (State.calGood m s).pins = s.pins ∧ (State.calGood m s).md = s.md ∧
    (State.calGood m s).cmds = s.cmds ∧ (State.calGood m s).clk = s.clk ∧ (State.calGood m s).ref = s.ref ∧
    (State.calGood m s).kennel = s.kennel ∧ (State.calGood m s).time = s.time ∧ (State.calGood m s).buf = s.buf ∧
    (State.calGood m s).port = s.port ∧ (State.calGood m s).slices = s.slices ∧ (State.calGood m s).tab = s.tab ∧
    (State.calGood m s).gen = s.gen ∧ (State.calGood m s).core = s.core ∧ (State.calGood m s).sch = s.sch ∧
    (State.calGood m s).tel = s.tel ∧ (State.calGood m s).regs = s.regs ∧ (State.calGood m s).cnts = s.cnts ∧
    (State.calGood m s).flt.keel0 = s.flt.keel0 ∧ (State.calGood m s).flt.keel1 = s.flt.keel1 := by
  (unfold State.calGood; simp only [State.follow_keeps, State.powerEvt_keeps, ite_self, and_self, implies_true, Ran.st_done, Ran.st_wait, Ran.st_refuse, Ran.st_ite, snd_ite, ite_pending, ite_now, ite_serial, ite_pins, ite_md, ite_cmds, ite_clk, ite_ref, ite_kennel, ite_time, ite_buf, ite_port, ite_slices, ite_tab, ite_gen, ite_core, ite_sch, ite_tel, ite_regs, ite_cnts, ite_flt_keel0, ite_flt_keel1, foldl_pending, foldl_now, foldl_serial, foldl_pins, foldl_md, foldl_cmds, foldl_clk, foldl_ref, foldl_kennel, foldl_time, foldl_buf, foldl_port, foldl_slices, foldl_tab, foldl_gen, foldl_core, foldl_sch, foldl_tel, foldl_regs, foldl_cnts, foldl_flt_keel0, foldl_flt_keel1, foldl_snd_pending, foldl_snd_now, foldl_snd_serial, foldl_snd_pins, foldl_snd_md, foldl_snd_cmds, foldl_snd_clk, foldl_snd_ref, foldl_snd_kennel, foldl_snd_time, foldl_snd_buf, foldl_snd_port, foldl_snd_slices, foldl_snd_tab, foldl_snd_gen, foldl_snd_core, foldl_snd_sch, foldl_snd_tel, foldl_snd_regs, foldl_snd_cnts, foldl_snd_flt_keel0, foldl_snd_flt_keel1]; done)

@[simp] theorem State.calBad_keeps (mask : Nat) (s : State) :
    (State.calBad mask s).pending = s.pending ∧ (State.calBad mask s).now = s.now ∧
    (State.calBad mask s).serial = s.serial ∧ (State.calBad mask s).pins = s.pins ∧
    (State.calBad mask s).md = s.md ∧ (State.calBad mask s).cmds = s.cmds ∧ (State.calBad mask s).clk = s.clk ∧
    (State.calBad mask s).ref = s.ref ∧ (State.calBad mask s).kennel = s.kennel ∧
    (State.calBad mask s).time = s.time ∧ (State.calBad mask s).buf = s.buf ∧ (State.calBad mask s).port = s.port ∧
    (State.calBad mask s).slices = s.slices ∧ (State.calBad mask s).tab = s.tab ∧
    (State.calBad mask s).gen = s.gen ∧ (State.calBad mask s).core = s.core ∧ (State.calBad mask s).sch = s.sch ∧
    (State.calBad mask s).tel = s.tel ∧ (State.calBad mask s).regs = s.regs ∧ (State.calBad mask s).cnts = s.cnts ∧
    (State.calBad mask s).flt.keel0 = s.flt.keel0 ∧ (State.calBad mask s).flt.keel1 = s.flt.keel1 := by
  (unfold State.calBad; simp only [State.follow_keeps, State.powerEvt_keeps, ite_self, and_self, implies_true, Ran.st_done, Ran.st_wait, Ran.st_refuse, Ran.st_ite, snd_ite, ite_pending, ite_now, ite_serial, ite_pins, ite_md, ite_cmds, ite_clk, ite_ref, ite_kennel, ite_time, ite_buf, ite_port, ite_slices, ite_tab, ite_gen, ite_core, ite_sch, ite_tel, ite_regs, ite_cnts, ite_flt_keel0, ite_flt_keel1, foldl_pending, foldl_now, foldl_serial, foldl_pins, foldl_md, foldl_cmds, foldl_clk, foldl_ref, foldl_kennel, foldl_time, foldl_buf, foldl_port, foldl_slices, foldl_tab, foldl_gen, foldl_core, foldl_sch, foldl_tel, foldl_regs, foldl_cnts, foldl_flt_keel0, foldl_flt_keel1, foldl_snd_pending, foldl_snd_now, foldl_snd_serial, foldl_snd_pins, foldl_snd_md, foldl_snd_cmds, foldl_snd_clk, foldl_snd_ref, foldl_snd_kennel, foldl_snd_time, foldl_snd_buf, foldl_snd_port, foldl_snd_slices, foldl_snd_tab, foldl_snd_gen, foldl_snd_core, foldl_snd_sch, foldl_snd_tel, foldl_snd_regs, foldl_snd_cnts, foldl_snd_flt_keel0, foldl_snd_flt_keel1]; done)

@[simp] theorem State.calLogged_keeps (m : Nat) (s : State) :
    (State.calLogged m s).pending = s.pending ∧ (State.calLogged m s).now = s.now ∧
    (State.calLogged m s).serial = s.serial ∧ (State.calLogged m s).out = s.out ∧
    (State.calLogged m s).pins = s.pins ∧ (State.calLogged m s).md = s.md ∧ (State.calLogged m s).host = s.host ∧
    (State.calLogged m s).cmds = s.cmds ∧ (State.calLogged m s).flt = s.flt ∧ (State.calLogged m s).clk = s.clk ∧
    (State.calLogged m s).ref = s.ref ∧ (State.calLogged m s).kennel = s.kennel ∧
    (State.calLogged m s).time = s.time ∧ (State.calLogged m s).buf = s.buf ∧ (State.calLogged m s).port = s.port ∧
    (State.calLogged m s).slices = s.slices ∧ (State.calLogged m s).tab = s.tab ∧
    (State.calLogged m s).gen = s.gen ∧ (State.calLogged m s).core = s.core ∧ (State.calLogged m s).sch = s.sch ∧
    (State.calLogged m s).tel = s.tel ∧ (State.calLogged m s).regs = s.regs ∧ (State.calLogged m s).cnts = s.cnts := by
  (unfold State.calLogged; simp only [ite_self, and_self, implies_true, Ran.st_done, Ran.st_wait, Ran.st_refuse, Ran.st_ite, snd_ite, foldl_pending, foldl_now, foldl_serial, foldl_out, foldl_pins, foldl_md, foldl_host, foldl_cmds, foldl_flt, foldl_clk, foldl_ref, foldl_kennel, foldl_time, foldl_buf, foldl_port, foldl_slices, foldl_tab, foldl_gen, foldl_core, foldl_sch, foldl_tel, foldl_regs, foldl_cnts, foldl_snd_pending, foldl_snd_now, foldl_snd_serial, foldl_snd_out, foldl_snd_pins, foldl_snd_md, foldl_snd_host, foldl_snd_cmds, foldl_snd_flt, foldl_snd_clk, foldl_snd_ref, foldl_snd_kennel, foldl_snd_time, foldl_snd_buf, foldl_snd_port, foldl_snd_slices, foldl_snd_tab, foldl_snd_gen, foldl_snd_core, foldl_snd_sch, foldl_snd_tel, foldl_snd_regs, foldl_snd_cnts]; done)

@[simp] theorem State.pmbReads_keeps (on : List Nat) (s : State) :
    (State.pmbReads on s).pending = s.pending ∧ (State.pmbReads on s).now = s.now ∧
    (State.pmbReads on s).serial = s.serial ∧ (State.pmbReads on s).pins = s.pins ∧
    (State.pmbReads on s).md = s.md ∧ (State.pmbReads on s).host = s.host ∧ (State.pmbReads on s).cmds = s.cmds ∧
    (State.pmbReads on s).flt = s.flt ∧ (State.pmbReads on s).clk = s.clk ∧ (State.pmbReads on s).ref = s.ref ∧
    (State.pmbReads on s).kennel = s.kennel ∧ (State.pmbReads on s).time = s.time ∧
    (State.pmbReads on s).buf = s.buf ∧ (State.pmbReads on s).port = s.port ∧
    (State.pmbReads on s).slices = s.slices ∧ (State.pmbReads on s).tab = s.tab ∧
    (State.pmbReads on s).gen = s.gen ∧ (State.pmbReads on s).core = s.core ∧ (State.pmbReads on s).sch = s.sch ∧
    (State.pmbReads on s).tel = s.tel ∧ (State.pmbReads on s).pwr = s.pwr ∧ (State.pmbReads on s).regs = s.regs ∧
    (State.pmbReads on s).cnts = s.cnts := by
  (unfold State.pmbReads; simp only [State.emit_keeps, ite_self, and_self, implies_true, Ran.st_done, Ran.st_wait, Ran.st_refuse, Ran.st_ite, snd_ite, ite_pending, ite_now, ite_serial, ite_pins, ite_md, ite_host, ite_cmds, ite_flt, ite_clk, ite_ref, ite_kennel, ite_time, ite_buf, ite_port, ite_slices, ite_tab, ite_gen, ite_core, ite_sch, ite_tel, ite_pwr, ite_regs, ite_cnts, foldl_pending, foldl_now, foldl_serial, foldl_pins, foldl_md, foldl_host, foldl_cmds, foldl_flt, foldl_clk, foldl_ref, foldl_kennel, foldl_time, foldl_buf, foldl_port, foldl_slices, foldl_tab, foldl_gen, foldl_core, foldl_sch, foldl_tel, foldl_pwr, foldl_regs, foldl_cnts, foldl_snd_pending, foldl_snd_now, foldl_snd_serial, foldl_snd_pins, foldl_snd_md, foldl_snd_host, foldl_snd_cmds, foldl_snd_flt, foldl_snd_clk, foldl_snd_ref, foldl_snd_kennel, foldl_snd_time, foldl_snd_buf, foldl_snd_port, foldl_snd_slices, foldl_snd_tab, foldl_snd_gen, foldl_snd_core, foldl_snd_sch, foldl_snd_tel, foldl_snd_pwr, foldl_snd_regs, foldl_snd_cnts]; done)

@[simp] theorem State.calTake_keeps (good : Bool) (m mask : Nat) (s : State) :
    (State.calTake good m mask s).pending = s.pending ∧ (State.calTake good m mask s).now = s.now ∧
    (State.calTake good m mask s).serial = s.serial ∧ (State.calTake good m mask s).pins = s.pins ∧
    (State.calTake good m mask s).md = s.md ∧ (State.calTake good m mask s).cmds = s.cmds ∧
    (State.calTake good m mask s).clk = s.clk ∧ (State.calTake good m mask s).ref = s.ref ∧
    (State.calTake good m mask s).kennel = s.kennel ∧ (State.calTake good m mask s).time = s.time ∧
    (State.calTake good m mask s).buf = s.buf ∧ (State.calTake good m mask s).port = s.port ∧
    (State.calTake good m mask s).slices = s.slices ∧ (State.calTake good m mask s).tab = s.tab ∧
    (State.calTake good m mask s).gen = s.gen ∧ (State.calTake good m mask s).core = s.core ∧
    (State.calTake good m mask s).sch = s.sch ∧ (State.calTake good m mask s).tel = s.tel ∧
    (State.calTake good m mask s).regs = s.regs ∧ (State.calTake good m mask s).cnts = s.cnts ∧
    (State.calTake good m mask s).flt.keel0 = s.flt.keel0 ∧ (State.calTake good m mask s).flt.keel1 = s.flt.keel1 := by
  (unfold State.calTake; simp only [State.calBad_keeps, State.calGood_keeps, ite_self, and_self, implies_true, Ran.st_done, Ran.st_wait, Ran.st_refuse, Ran.st_ite, snd_ite, ite_pending, ite_now, ite_serial, ite_pins, ite_md, ite_cmds, ite_clk, ite_ref, ite_kennel, ite_time, ite_buf, ite_port, ite_slices, ite_tab, ite_gen, ite_core, ite_sch, ite_tel, ite_regs, ite_cnts, ite_flt_keel0, ite_flt_keel1, foldl_pending, foldl_now, foldl_serial, foldl_pins, foldl_md, foldl_cmds, foldl_clk, foldl_ref, foldl_kennel, foldl_time, foldl_buf, foldl_port, foldl_slices, foldl_tab, foldl_gen, foldl_core, foldl_sch, foldl_tel, foldl_regs, foldl_cnts, foldl_flt_keel0, foldl_flt_keel1, foldl_snd_pending, foldl_snd_now, foldl_snd_serial, foldl_snd_pins, foldl_snd_md, foldl_snd_cmds, foldl_snd_clk, foldl_snd_ref, foldl_snd_kennel, foldl_snd_time, foldl_snd_buf, foldl_snd_port, foldl_snd_slices, foldl_snd_tab, foldl_snd_gen, foldl_snd_core, foldl_snd_sch, foldl_snd_tel, foldl_snd_regs, foldl_snd_cnts, foldl_snd_flt_keel0, foldl_snd_flt_keel1]; done)

@[simp] theorem State.pmbBlame_keeps (bad : Bool) (blame : Nat) (s : State) :
    (State.pmbBlame bad blame s).pending = s.pending ∧ (State.pmbBlame bad blame s).now = s.now ∧
    (State.pmbBlame bad blame s).serial = s.serial ∧ (State.pmbBlame bad blame s).out = s.out ∧
    (State.pmbBlame bad blame s).pins = s.pins ∧ (State.pmbBlame bad blame s).md = s.md ∧
    (State.pmbBlame bad blame s).host = s.host ∧ (State.pmbBlame bad blame s).cmds = s.cmds ∧
    (State.pmbBlame bad blame s).clk = s.clk ∧ (State.pmbBlame bad blame s).ref = s.ref ∧
    (State.pmbBlame bad blame s).kennel = s.kennel ∧ (State.pmbBlame bad blame s).time = s.time ∧
    (State.pmbBlame bad blame s).buf = s.buf ∧ (State.pmbBlame bad blame s).port = s.port ∧
    (State.pmbBlame bad blame s).slices = s.slices ∧ (State.pmbBlame bad blame s).tab = s.tab ∧
    (State.pmbBlame bad blame s).gen = s.gen ∧ (State.pmbBlame bad blame s).core = s.core ∧
    (State.pmbBlame bad blame s).sch = s.sch ∧ (State.pmbBlame bad blame s).tel = s.tel ∧
    (State.pmbBlame bad blame s).regs = s.regs ∧ (State.pmbBlame bad blame s).cnts = s.cnts ∧
    (State.pmbBlame bad blame s).flt.keel0 = s.flt.keel0 ∧ (State.pmbBlame bad blame s).flt.keel1 = s.flt.keel1 := by
  (unfold State.pmbBlame; simp only [State.pmbErr_keeps, ite_self, and_self, implies_true, Ran.st_done, Ran.st_wait, Ran.st_refuse, Ran.st_ite, snd_ite, ite_pending, ite_now, ite_serial, ite_out, ite_pins, ite_md, ite_host, ite_cmds, ite_clk, ite_ref, ite_kennel, ite_time, ite_buf, ite_port, ite_slices, ite_tab, ite_gen, ite_core, ite_sch, ite_tel, ite_regs, ite_cnts, ite_flt_keel0, ite_flt_keel1, foldl_pending, foldl_now, foldl_serial, foldl_out, foldl_pins, foldl_md, foldl_host, foldl_cmds, foldl_clk, foldl_ref, foldl_kennel, foldl_time, foldl_buf, foldl_port, foldl_slices, foldl_tab, foldl_gen, foldl_core, foldl_sch, foldl_tel, foldl_regs, foldl_cnts, foldl_flt_keel0, foldl_flt_keel1, foldl_snd_pending, foldl_snd_now, foldl_snd_serial, foldl_snd_out, foldl_snd_pins, foldl_snd_md, foldl_snd_host, foldl_snd_cmds, foldl_snd_clk, foldl_snd_ref, foldl_snd_kennel, foldl_snd_time, foldl_snd_buf, foldl_snd_port, foldl_snd_slices, foldl_snd_tab, foldl_snd_gen, foldl_snd_core, foldl_snd_sch, foldl_snd_tel, foldl_snd_regs, foldl_snd_cnts, foldl_snd_flt_keel0, foldl_snd_flt_keel1]; done)

@[simp] theorem State.rampAborted_keeps (c : Option Nat) (s : State) :
    (State.rampAborted c s).pending = s.pending ∧ (State.rampAborted c s).now = s.now ∧
    (State.rampAborted c s).serial = s.serial ∧ (State.rampAborted c s).pins = s.pins ∧
    (State.rampAborted c s).md = s.md ∧ (State.rampAborted c s).flt = s.flt ∧ (State.rampAborted c s).clk = s.clk ∧
    (State.rampAborted c s).ref = s.ref ∧ (State.rampAborted c s).kennel = s.kennel ∧
    (State.rampAborted c s).time = s.time ∧ (State.rampAborted c s).buf = s.buf ∧
    (State.rampAborted c s).port = s.port ∧ (State.rampAborted c s).slices = s.slices ∧
    (State.rampAborted c s).tab = s.tab ∧ (State.rampAborted c s).gen = s.gen ∧
    (State.rampAborted c s).core = s.core ∧ (State.rampAborted c s).sch = s.sch ∧
    (State.rampAborted c s).tel = s.tel ∧ (State.rampAborted c s).pwr = s.pwr ∧
    (State.rampAborted c s).regs = s.regs ∧ (State.rampAborted c s).cnts = s.cnts := by
  (unfold State.rampAborted; split <;> simp only [State.completeSer_keeps, ite_self, and_self, implies_true, Ran.st_done, Ran.st_wait, Ran.st_refuse, Ran.st_ite, snd_ite, ite_pending, ite_now, ite_serial, ite_pins, ite_md, ite_flt, ite_clk, ite_ref, ite_kennel, ite_time, ite_buf, ite_port, ite_slices, ite_tab, ite_gen, ite_core, ite_sch, ite_tel, ite_pwr, ite_regs, ite_cnts, foldl_pending, foldl_now, foldl_serial, foldl_pins, foldl_md, foldl_flt, foldl_clk, foldl_ref, foldl_kennel, foldl_time, foldl_buf, foldl_port, foldl_slices, foldl_tab, foldl_gen, foldl_core, foldl_sch, foldl_tel, foldl_pwr, foldl_regs, foldl_cnts, foldl_snd_pending, foldl_snd_now, foldl_snd_serial, foldl_snd_pins, foldl_snd_md, foldl_snd_flt, foldl_snd_clk, foldl_snd_ref, foldl_snd_kennel, foldl_snd_time, foldl_snd_buf, foldl_snd_port, foldl_snd_slices, foldl_snd_tab, foldl_snd_gen, foldl_snd_core, foldl_snd_sch, foldl_snd_tel, foldl_snd_pwr, foldl_snd_regs, foldl_snd_cnts])

@[simp] theorem State.dropRamps_keeps (f : Ramp → Bool) (s : State) :
    (State.dropRamps f s).pending = s.pending ∧ (State.dropRamps f s).now = s.now ∧
    (State.dropRamps f s).serial = s.serial ∧ (State.dropRamps f s).pins = s.pins ∧
    (State.dropRamps f s).md = s.md ∧ (State.dropRamps f s).flt = s.flt ∧ (State.dropRamps f s).clk = s.clk ∧
    (State.dropRamps f s).ref = s.ref ∧ (State.dropRamps f s).kennel = s.kennel ∧
    (State.dropRamps f s).time = s.time ∧ (State.dropRamps f s).buf = s.buf ∧ (State.dropRamps f s).port = s.port ∧
    (State.dropRamps f s).slices = s.slices ∧ (State.dropRamps f s).tab = s.tab ∧
    (State.dropRamps f s).gen = s.gen ∧ (State.dropRamps f s).core = s.core ∧ (State.dropRamps f s).sch = s.sch ∧
    (State.dropRamps f s).tel = s.tel ∧ (State.dropRamps f s).regs = s.regs ∧ (State.dropRamps f s).cnts = s.cnts := by
  (unfold State.dropRamps; simp only [State.rampAborted_keeps, ite_self, and_self, implies_true, Ran.st_done, Ran.st_wait, Ran.st_refuse, Ran.st_ite, snd_ite, foldl_pending, foldl_now, foldl_serial, foldl_pins, foldl_md, foldl_flt, foldl_clk, foldl_ref, foldl_kennel, foldl_time, foldl_buf, foldl_port, foldl_slices, foldl_tab, foldl_gen, foldl_core, foldl_sch, foldl_tel, foldl_regs, foldl_cnts, foldl_snd_pending, foldl_snd_now, foldl_snd_serial, foldl_snd_pins, foldl_snd_md, foldl_snd_flt, foldl_snd_clk, foldl_snd_ref, foldl_snd_kennel, foldl_snd_time, foldl_snd_buf, foldl_snd_port, foldl_snd_slices, foldl_snd_tab, foldl_snd_gen, foldl_snd_core, foldl_snd_sch, foldl_snd_tel, foldl_snd_regs, foldl_snd_cnts]; done)
end Sys2Proof.Machine
end

