-- ==== Sys2Proof/Laws/KeepsTime.lean ====
section
/-! SUPPORT. What each operation of Machine/Time.lean keeps: the parts of the state that it leaves as they are. -/
set_option linter.unusedSimpArgs false
set_option linter.unusedVariables false
namespace Sys2Proof.Machine
open Host (Outcome)

@[simp] theorem State.healthEvt_keeps (code : Nat) (s : State) :
    (State.healthEvt code s).pending = s.pending ∧ (State.healthEvt code s).now = s.now ∧
    (State.healthEvt code s).serial = s.serial ∧ (State.healthEvt code s).pins = s.pins ∧
    (State.healthEvt code s).md = s.md ∧ (State.healthEvt code s).cmds = s.cmds ∧
    (State.healthEvt code s).flt = s.flt ∧ (State.healthEvt code s).clk = s.clk ∧
    (State.healthEvt code s).ref = s.ref ∧ (State.healthEvt code s).kennel = s.kennel ∧
    (State.healthEvt code s).time = s.time ∧ (State.healthEvt code s).buf = s.buf ∧
    (State.healthEvt code s).port = s.port ∧ (State.healthEvt code s).slices = s.slices ∧
    (State.healthEvt code s).tab = s.tab ∧ (State.healthEvt code s).gen = s.gen ∧
    (State.healthEvt code s).core = s.core ∧ (State.healthEvt code s).sch = s.sch ∧
    (State.healthEvt code s).tel = s.tel ∧ (State.healthEvt code s).pwr = s.pwr ∧
    (State.healthEvt code s).regs = s.regs ∧ (State.healthEvt code s).cnts = s.cnts := by
  (unfold State.healthEvt; simp only [State.post_keeps, ite_self, and_self, implies_true, Ran.st_done, Ran.st_wait, Ran.st_refuse, Ran.st_ite, snd_ite, foldl_pending, foldl_now, foldl_serial, foldl_pins, foldl_md, foldl_cmds, foldl_flt, foldl_clk, foldl_ref, foldl_kennel, foldl_time, foldl_buf, foldl_port, foldl_slices, foldl_tab, foldl_gen, foldl_core, foldl_sch, foldl_tel, foldl_pwr, foldl_regs, foldl_cnts, foldl_snd_pending, foldl_snd_now, foldl_snd_serial, foldl_snd_pins, foldl_snd_md, foldl_snd_cmds, foldl_snd_flt, foldl_snd_clk, foldl_snd_ref, foldl_snd_kennel, foldl_snd_time, foldl_snd_buf, foldl_snd_port, foldl_snd_slices, foldl_snd_tab, foldl_snd_gen, foldl_snd_core, foldl_snd_sch, foldl_snd_tel, foldl_snd_pwr, foldl_snd_regs, foldl_snd_cnts]; done)

@[simp] theorem State.noteHealth_keeps (s before : State) :
    (State.noteHealth s before).pending = s.pending ∧ (State.noteHealth s before).now = s.now ∧
    (State.noteHealth s before).serial = s.serial ∧ (State.noteHealth s before).pins = s.pins ∧
    (State.noteHealth s before).md = s.md ∧ (State.noteHealth s before).cmds = s.cmds ∧
    (State.noteHealth s before).flt = s.flt ∧ (State.noteHealth s before).clk = s.clk ∧
    (State.noteHealth s before).ref = s.ref ∧ (State.noteHealth s before).kennel = s.kennel ∧
    (State.noteHealth s before).time = s.time ∧ (State.noteHealth s before).buf = s.buf ∧
    (State.noteHealth s before).port = s.port ∧ (State.noteHealth s before).slices = s.slices ∧
    (State.noteHealth s before).tab = s.tab ∧ (State.noteHealth s before).gen = s.gen ∧
    (State.noteHealth s before).core = s.core ∧ (State.noteHealth s before).sch = s.sch ∧
    (State.noteHealth s before).tel = s.tel ∧ (State.noteHealth s before).pwr = s.pwr ∧
    (State.noteHealth s before).regs = s.regs ∧ (State.noteHealth s before).cnts = s.cnts := by
  (unfold State.noteHealth; simp only [State.healthEvt_keeps, ite_self, and_self, implies_true, Ran.st_done, Ran.st_wait, Ran.st_refuse, Ran.st_ite, snd_ite, ite_pending, ite_now, ite_serial, ite_pins, ite_md, ite_cmds, ite_flt, ite_clk, ite_ref, ite_kennel, ite_time, ite_buf, ite_port, ite_slices, ite_tab, ite_gen, ite_core, ite_sch, ite_tel, ite_pwr, ite_regs, ite_cnts, foldl_pending, foldl_now, foldl_serial, foldl_pins, foldl_md, foldl_cmds, foldl_flt, foldl_clk, foldl_ref, foldl_kennel, foldl_time, foldl_buf, foldl_port, foldl_slices, foldl_tab, foldl_gen, foldl_core, foldl_sch, foldl_tel, foldl_pwr, foldl_regs, foldl_cnts, foldl_snd_pending, foldl_snd_now, foldl_snd_serial, foldl_snd_pins, foldl_snd_md, foldl_snd_cmds, foldl_snd_flt, foldl_snd_clk, foldl_snd_ref, foldl_snd_kennel, foldl_snd_time, foldl_snd_buf, foldl_snd_port, foldl_snd_slices, foldl_snd_tab, foldl_snd_gen, foldl_snd_core, foldl_snd_sch, foldl_snd_tel, foldl_snd_pwr, foldl_snd_regs, foldl_snd_cnts]; done)

@[simp] theorem State.switchTe_keeps (s : State) :
    (State.switchTe s).2.pending = s.pending ∧ (State.switchTe s).2.now = s.now ∧
    (State.switchTe s).2.serial = s.serial ∧ (State.switchTe s).2.pins = s.pins ∧ (State.switchTe s).2.md = s.md ∧
    (State.switchTe s).2.cmds = s.cmds ∧ (State.switchTe s).2.clk = s.clk ∧ (State.switchTe s).2.ref = s.ref ∧
    (State.switchTe s).2.kennel = s.kennel ∧ (State.switchTe s).2.buf = s.buf ∧
    (State.switchTe s).2.port = s.port ∧ (State.switchTe s).2.slices = s.slices ∧
    (State.switchTe s).2.tab = s.tab ∧ (State.switchTe s).2.gen = s.gen ∧ (State.switchTe s).2.core = s.core ∧
    (State.switchTe s).2.sch = s.sch ∧ (State.switchTe s).2.tel = s.tel ∧ (State.switchTe s).2.pwr = s.pwr ∧
    (State.switchTe s).2.regs = s.regs ∧ (State.switchTe s).2.cnts = s.cnts ∧
    (State.switchTe s).2.flt.keel0 = s.flt.keel0 := by
  unfold State.switchTe
  (try dsimp only)
  (repeat' split) <;> first | (simp; done) | (rename_i q; simp [snd_of q]; done) | (rename_i q _; simp [snd_of q]; done)

@[simp] theorem State.teLost_keeps (cause : Nat) (s : State) :
    (State.teLost cause s).pending = s.pending ∧ (State.teLost cause s).now = s.now ∧
    (State.teLost cause s).serial = s.serial ∧ (State.teLost cause s).pins = s.pins ∧
    (State.teLost cause s).md = s.md ∧ (State.teLost cause s).cmds = s.cmds ∧ (State.teLost cause s).clk = s.clk ∧
    (State.teLost cause s).ref = s.ref ∧ (State.teLost cause s).kennel = s.kennel ∧
    (State.teLost cause s).buf = s.buf ∧ (State.teLost cause s).port = s.port ∧
    (State.teLost cause s).slices = s.slices ∧ (State.teLost cause s).tab = s.tab ∧
    (State.teLost cause s).gen = s.gen ∧ (State.teLost cause s).core = s.core ∧
    (State.teLost cause s).sch = s.sch ∧ (State.teLost cause s).tel = s.tel ∧ (State.teLost cause s).pwr = s.pwr ∧
    (State.teLost cause s).regs = s.regs ∧ (State.teLost cause s).cnts = s.cnts ∧
    (State.teLost cause s).flt.keel0 = s.flt.keel0 := by
  unfold State.teLost
  (try dsimp only)
  (repeat' split) <;> first | (simp; done) | (rename_i q; simp [snd_of q]; done) | (rename_i q _; simp [snd_of q]; done)

@[simp] theorem State.noteTe_keeps (s : State) :
    (State.noteTe s).pending = s.pending ∧ (State.noteTe s).now = s.now ∧ (State.noteTe s).serial = s.serial ∧
    (State.noteTe s).out = s.out ∧ (State.noteTe s).pins = s.pins ∧ (State.noteTe s).md = s.md ∧
    (State.noteTe s).host = s.host ∧ (State.noteTe s).cmds = s.cmds ∧ (State.noteTe s).clk = s.clk ∧
    (State.noteTe s).ref = s.ref ∧ (State.noteTe s).kennel = s.kennel ∧ (State.noteTe s).buf = s.buf ∧
    (State.noteTe s).port = s.port ∧ (State.noteTe s).slices = s.slices ∧ (State.noteTe s).tab = s.tab ∧
    (State.noteTe s).gen = s.gen ∧ (State.noteTe s).core = s.core ∧ (State.noteTe s).sch = s.sch ∧
    (State.noteTe s).tel = s.tel ∧ (State.noteTe s).pwr = s.pwr ∧ (State.noteTe s).regs = s.regs ∧
    (State.noteTe s).cnts = s.cnts ∧ (State.noteTe s).flt.keel0 = s.flt.keel0 ∧
    (State.noteTe s).flt.keel1 = s.flt.keel1 := by
  (unfold State.noteTe; simp only [State.raise_keeps, State.setTe_keeps, ite_self, and_self, implies_true, Ran.st_done, Ran.st_wait, Ran.st_refuse, Ran.st_ite, snd_ite, ite_pending, ite_now, ite_serial, ite_out, ite_pins, ite_md, ite_host, ite_cmds, ite_clk, ite_ref, ite_kennel, ite_buf, ite_port, ite_slices, ite_tab, ite_gen, ite_core, ite_sch, ite_tel, ite_pwr, ite_regs, ite_cnts, ite_flt_keel0, ite_flt_keel1, foldl_pending, foldl_now, foldl_serial, foldl_out, foldl_pins, foldl_md, foldl_host, foldl_cmds, foldl_clk, foldl_ref, foldl_kennel, foldl_buf, foldl_port, foldl_slices, foldl_tab, foldl_gen, foldl_core, foldl_sch, foldl_tel, foldl_pwr, foldl_regs, foldl_cnts, foldl_flt_keel0, foldl_flt_keel1, foldl_snd_pending, foldl_snd_now, foldl_snd_serial, foldl_snd_out, foldl_snd_pins, foldl_snd_md, foldl_snd_host, foldl_snd_cmds, foldl_snd_clk, foldl_snd_ref, foldl_snd_kennel, foldl_snd_buf, foldl_snd_port, foldl_snd_slices, foldl_snd_tab, foldl_snd_gen, foldl_snd_core, foldl_snd_sch, foldl_snd_tel, foldl_snd_pwr, foldl_snd_regs, foldl_snd_cnts, foldl_snd_flt_keel0, foldl_snd_flt_keel1]; done)

@[simp] theorem State.setOut_keeps (i : Nat) (x : TimeOut) (s : State) :
    (State.setOut i x s).pending = s.pending ∧ (State.setOut i x s).now = s.now ∧
    (State.setOut i x s).serial = s.serial ∧ (State.setOut i x s).out = s.out ∧
    (State.setOut i x s).pins = s.pins ∧ (State.setOut i x s).md = s.md ∧ (State.setOut i x s).host = s.host ∧
    (State.setOut i x s).cmds = s.cmds ∧ (State.setOut i x s).flt = s.flt ∧ (State.setOut i x s).clk = s.clk ∧
    (State.setOut i x s).ref = s.ref ∧ (State.setOut i x s).kennel = s.kennel ∧ (State.setOut i x s).buf = s.buf ∧
    (State.setOut i x s).port = s.port ∧ (State.setOut i x s).slices = s.slices ∧
    (State.setOut i x s).tab = s.tab ∧ (State.setOut i x s).gen = s.gen ∧ (State.setOut i x s).core = s.core ∧
    (State.setOut i x s).sch = s.sch ∧ (State.setOut i x s).tel = s.tel ∧ (State.setOut i x s).pwr = s.pwr ∧
    (State.setOut i x s).regs = s.regs ∧ (State.setOut i x s).cnts = s.cnts := by
  (unfold State.setOut; simp only [ite_self, and_self, implies_true, Ran.st_done, Ran.st_wait, Ran.st_refuse, Ran.st_ite, snd_ite, foldl_pending, foldl_now, foldl_serial, foldl_out, foldl_pins, foldl_md, foldl_host, foldl_cmds, foldl_flt, foldl_clk, foldl_ref, foldl_kennel, foldl_buf, foldl_port, foldl_slices, foldl_tab, foldl_gen, foldl_core, foldl_sch, foldl_tel, foldl_pwr, foldl_regs, foldl_cnts, foldl_snd_pending, foldl_snd_now, foldl_snd_serial, foldl_snd_out, foldl_snd_pins, foldl_snd_md, foldl_snd_host, foldl_snd_cmds, foldl_snd_flt, foldl_snd_clk, foldl_snd_ref, foldl_snd_kennel, foldl_snd_buf, foldl_snd_port, foldl_snd_slices, foldl_snd_tab, foldl_snd_gen, foldl_snd_core, foldl_snd_sch, foldl_snd_tel, foldl_snd_pwr, foldl_snd_regs, foldl_snd_cnts]; done)

@[simp] theorem State.drive_keeps (i : Nat) (active : Bool) (s : State) :
    (State.drive i active s).pending = s.pending ∧ (State.drive i active s).now = s.now ∧
    (State.drive i active s).serial = s.serial ∧ (State.drive i active s).pins = s.pins ∧
    (State.drive i active s).md = s.md ∧ (State.drive i active s).host = s.host ∧
    (State.drive i active s).cmds = s.cmds ∧ (State.drive i active s).flt = s.flt ∧
    (State.drive i active s).clk = s.clk ∧ (State.drive i active s).ref = s.ref ∧
    (State.drive i active s).kennel = s.kennel ∧ (State.drive i active s).time = s.time ∧
    (State.drive i active s).buf = s.buf ∧ (State.drive i active s).port = s.port ∧
    (State.drive i active s).slices = s.slices ∧ (State.drive i active s).tab = s.tab ∧
    (State.drive i active s).gen = s.gen ∧ (State.drive i active s).core = s.core ∧
    (State.drive i active s).sch = s.sch ∧ (State.drive i active s).tel = s.tel ∧
    (State.drive i active s).pwr = s.pwr ∧ (State.drive i active s).regs = s.regs ∧
    (State.drive i active s).cnts = s.cnts := by
  (unfold State.drive; simp only [State.emit_keeps, ite_self, and_self, implies_true, Ran.st_done, Ran.st_wait, Ran.st_refuse, Ran.st_ite, snd_ite, foldl_pending, foldl_now, foldl_serial, foldl_pins, foldl_md, foldl_host, foldl_cmds, foldl_flt, foldl_clk, foldl_ref, foldl_kennel, foldl_time, foldl_buf, foldl_port, foldl_slices, foldl_tab, foldl_gen, foldl_core, foldl_sch, foldl_tel, foldl_pwr, foldl_regs, foldl_cnts, foldl_snd_pending, foldl_snd_now, foldl_snd_serial, foldl_snd_pins, foldl_snd_md, foldl_snd_host, foldl_snd_cmds, foldl_snd_flt, foldl_snd_clk, foldl_snd_ref, foldl_snd_kennel, foldl_snd_time, foldl_snd_buf, foldl_snd_port, foldl_snd_slices, foldl_snd_tab, foldl_snd_gen, foldl_snd_core, foldl_snd_sch, foldl_snd_tel, foldl_snd_pwr, foldl_snd_regs, foldl_snd_cnts]; done)

@[simp] theorem State.rise_keeps (i t : Nat) (s : State) :
    (State.rise i t s).pending = s.pending ∧ (State.rise i t s).now = s.now ∧
    (State.rise i t s).serial = s.serial ∧ (State.rise i t s).pins = s.pins ∧ (State.rise i t s).md = s.md ∧
    (State.rise i t s).host = s.host ∧ (State.rise i t s).cmds = s.cmds ∧ (State.rise i t s).flt = s.flt ∧
    (State.rise i t s).clk = s.clk ∧ (State.rise i t s).ref = s.ref ∧ (State.rise i t s).kennel = s.kennel ∧
    (State.rise i t s).buf = s.buf ∧ (State.rise i t s).port = s.port ∧ (State.rise i t s).slices = s.slices ∧
    (State.rise i t s).tab = s.tab ∧ (State.rise i t s).gen = s.gen ∧ (State.rise i t s).core = s.core ∧
    (State.rise i t s).sch = s.sch ∧ (State.rise i t s).tel = s.tel ∧ (State.rise i t s).pwr = s.pwr ∧
    (State.rise i t s).regs = s.regs ∧ (State.rise i t s).cnts = s.cnts := by
  (unfold State.rise; simp only [State.drive_keeps, State.setOut_keeps, ite_self, and_self, implies_true, Ran.st_done, Ran.st_wait, Ran.st_refuse, Ran.st_ite, snd_ite, foldl_pending, foldl_now, foldl_serial, foldl_pins, foldl_md, foldl_host, foldl_cmds, foldl_flt, foldl_clk, foldl_ref, foldl_kennel, foldl_buf, foldl_port, foldl_slices, foldl_tab, foldl_gen, foldl_core, foldl_sch, foldl_tel, foldl_pwr, foldl_regs, foldl_cnts, foldl_snd_pending, foldl_snd_now, foldl_snd_serial, foldl_snd_pins, foldl_snd_md, foldl_snd_host, foldl_snd_cmds, foldl_snd_flt, foldl_snd_clk, foldl_snd_ref, foldl_snd_kennel, foldl_snd_buf, foldl_snd_port, foldl_snd_slices, foldl_snd_tab, foldl_snd_gen, foldl_snd_core, foldl_snd_sch, foldl_snd_tel, foldl_snd_pwr, foldl_snd_regs, foldl_snd_cnts]; done)

@[simp] theorem State.fallOut_keeps (i : Nat) (s : State) :
    (State.fallOut i s).pending = s.pending ∧ (State.fallOut i s).now = s.now ∧
    (State.fallOut i s).serial = s.serial ∧ (State.fallOut i s).pins = s.pins ∧ (State.fallOut i s).md = s.md ∧
    (State.fallOut i s).host = s.host ∧ (State.fallOut i s).cmds = s.cmds ∧ (State.fallOut i s).flt = s.flt ∧
    (State.fallOut i s).clk = s.clk ∧ (State.fallOut i s).ref = s.ref ∧ (State.fallOut i s).kennel = s.kennel ∧
    (State.fallOut i s).buf = s.buf ∧ (State.fallOut i s).port = s.port ∧ (State.fallOut i s).slices = s.slices ∧
    (State.fallOut i s).tab = s.tab ∧ (State.fallOut i s).gen = s.gen ∧ (State.fallOut i s).core = s.core ∧
    (State.fallOut i s).sch = s.sch ∧ (State.fallOut i s).tel = s.tel ∧ (State.fallOut i s).pwr = s.pwr ∧
    (State.fallOut i s).regs = s.regs ∧ (State.fallOut i s).cnts = s.cnts := by
  (unfold State.fallOut; simp only [State.drive_keeps, State.setOut_keeps, ite_self, and_self, implies_true, Ran.st_done, Ran.st_wait, Ran.st_refuse, Ran.st_ite, snd_ite, foldl_pending, foldl_now, foldl_serial, foldl_pins, foldl_md, foldl_host, foldl_cmds, foldl_flt, foldl_clk, foldl_ref, foldl_kennel, foldl_buf, foldl_port, foldl_slices, foldl_tab, foldl_gen, foldl_core, foldl_sch, foldl_tel, foldl_pwr, foldl_regs, foldl_cnts, foldl_snd_pending, foldl_snd_now, foldl_snd_serial, foldl_snd_pins, foldl_snd_md, foldl_snd_host, foldl_snd_cmds, foldl_snd_flt, foldl_snd_clk, foldl_snd_ref, foldl_snd_kennel, foldl_snd_buf, foldl_snd_port, foldl_snd_slices, foldl_snd_tab, foldl_snd_gen, foldl_snd_core, foldl_snd_sch, foldl_snd_tel, foldl_snd_pwr, foldl_snd_regs, foldl_snd_cnts]; done)

@[simp] theorem State.stopOut_keeps (i : Nat) (s : State) :
    (State.stopOut i s).pending = s.pending ∧ (State.stopOut i s).now = s.now ∧
    (State.stopOut i s).serial = s.serial ∧ (State.stopOut i s).pins = s.pins ∧ (State.stopOut i s).md = s.md ∧
    (State.stopOut i s).host = s.host ∧ (State.stopOut i s).cmds = s.cmds ∧ (State.stopOut i s).flt = s.flt ∧
    (State.stopOut i s).clk = s.clk ∧ (State.stopOut i s).ref = s.ref ∧ (State.stopOut i s).kennel = s.kennel ∧
    (State.stopOut i s).buf = s.buf ∧ (State.stopOut i s).port = s.port ∧ (State.stopOut i s).slices = s.slices ∧
    (State.stopOut i s).tab = s.tab ∧ (State.stopOut i s).gen = s.gen ∧ (State.stopOut i s).core = s.core ∧
    (State.stopOut i s).sch = s.sch ∧ (State.stopOut i s).tel = s.tel ∧ (State.stopOut i s).pwr = s.pwr ∧
    (State.stopOut i s).regs = s.regs ∧ (State.stopOut i s).cnts = s.cnts := by
  (unfold State.stopOut; simp only [State.drive_keeps, State.setOut_keeps, ite_self, and_self, implies_true, Ran.st_done, Ran.st_wait, Ran.st_refuse, Ran.st_ite, snd_ite, ite_pending, ite_now, ite_serial, ite_pins, ite_md, ite_host, ite_cmds, ite_flt, ite_clk, ite_ref, ite_kennel, ite_buf, ite_port, ite_slices, ite_tab, ite_gen, ite_core, ite_sch, ite_tel, ite_pwr, ite_regs, ite_cnts, foldl_pending, foldl_now, foldl_serial, foldl_pins, foldl_md, foldl_host, foldl_cmds, foldl_flt, foldl_clk, foldl_ref, foldl_kennel, foldl_buf, foldl_port, foldl_slices, foldl_tab, foldl_gen, foldl_core, foldl_sch, foldl_tel, foldl_pwr, foldl_regs, foldl_cnts, foldl_snd_pending, foldl_snd_now, foldl_snd_serial, foldl_snd_pins, foldl_snd_md, foldl_snd_host, foldl_snd_cmds, foldl_snd_flt, foldl_snd_clk, foldl_snd_ref, foldl_snd_kennel, foldl_snd_buf, foldl_snd_port, foldl_snd_slices, foldl_snd_tab, foldl_snd_gen, foldl_snd_core, foldl_snd_sch, foldl_snd_tel, foldl_snd_pwr, foldl_snd_regs, foldl_snd_cnts]; done)

@[simp] theorem State.takeOneOff_keeps (a : OneOff) (s : State) :
    (State.takeOneOff a s).pending = s.pending ∧ (State.takeOneOff a s).now = s.now ∧
    (State.takeOneOff a s).serial = s.serial ∧ (State.takeOneOff a s).pins = s.pins ∧
    (State.takeOneOff a s).md = s.md ∧ (State.takeOneOff a s).flt = s.flt ∧ (State.takeOneOff a s).clk = s.clk ∧
    (State.takeOneOff a s).ref = s.ref ∧ (State.takeOneOff a s).kennel = s.kennel ∧
    (State.takeOneOff a s).buf = s.buf ∧ (State.takeOneOff a s).port = s.port ∧
    (State.takeOneOff a s).slices = s.slices ∧ (State.takeOneOff a s).tab = s.tab ∧
    (State.takeOneOff a s).core = s.core ∧ (State.takeOneOff a s).sch = s.sch ∧
    (State.takeOneOff a s).regs = s.regs ∧ (State.takeOneOff a s).cnts = s.cnts := by
  (unfold State.takeOneOff; split <;> simp only [State.takeSnap_keeps, State.takeCalSwap_keeps, State.startHint_keeps, State.doSwap_keeps, State.rise_keeps, ite_self, and_self, implies_true, Ran.st_done, Ran.st_wait, Ran.st_refuse, Ran.st_ite, snd_ite, ite_pending, ite_now, ite_serial, ite_pins, ite_md, ite_flt, ite_clk, ite_ref, ite_kennel, ite_buf, ite_port, ite_slices, ite_tab, ite_core, ite_sch, ite_regs, ite_cnts, foldl_pending, foldl_now, foldl_serial, foldl_pins, foldl_md, foldl_flt, foldl_clk, foldl_ref, foldl_kennel, foldl_buf, foldl_port, foldl_slices, foldl_tab, foldl_core, foldl_sch, foldl_regs, foldl_cnts, foldl_snd_pending, foldl_snd_now, foldl_snd_serial, foldl_snd_pins, foldl_snd_md, foldl_snd_flt, foldl_snd_clk, foldl_snd_ref, foldl_snd_kennel, foldl_snd_buf, foldl_snd_port, foldl_snd_slices, foldl_snd_tab, foldl_snd_core, foldl_snd_sch, foldl_snd_regs, foldl_snd_cnts])

@[simp] theorem State.moveTime_keeps (delta : Int) (s : State) :
    (State.moveTime delta s).pending = s.pending ∧ (State.moveTime delta s).now = s.now ∧
    (State.moveTime delta s).serial = s.serial ∧ (State.moveTime delta s).out = s.out ∧
    (State.moveTime delta s).pins = s.pins ∧ (State.moveTime delta s).md = s.md ∧
    (State.moveTime delta s).host = s.host ∧ (State.moveTime delta s).cmds = s.cmds ∧
    (State.moveTime delta s).flt = s.flt ∧ (State.moveTime delta s).clk = s.clk ∧
    (State.moveTime delta s).ref = s.ref ∧ (State.moveTime delta s).kennel = s.kennel ∧
    (State.moveTime delta s).buf = s.buf ∧ (State.moveTime delta s).port = s.port ∧
    (State.moveTime delta s).slices = s.slices ∧ (State.moveTime delta s).tab = s.tab ∧
    (State.moveTime delta s).gen = s.gen ∧ (State.moveTime delta s).core = s.core ∧
    (State.moveTime delta s).sch = s.sch ∧ (State.moveTime delta s).tel = s.tel ∧
    (State.moveTime delta s).pwr = s.pwr ∧ (State.moveTime delta s).regs = s.regs ∧
    (State.moveTime delta s).cnts = s.cnts := by
  (unfold State.moveTime; simp only [ite_self, and_self, implies_true, Ran.st_done, Ran.st_wait, Ran.st_refuse, Ran.st_ite, snd_ite, foldl_pending, foldl_now, foldl_serial, foldl_out, foldl_pins, foldl_md, foldl_host, foldl_cmds, foldl_flt, foldl_clk, foldl_ref, foldl_kennel, foldl_buf, foldl_port, foldl_slices, foldl_tab, foldl_gen, foldl_core, foldl_sch, foldl_tel, foldl_pwr, foldl_regs, foldl_cnts, foldl_snd_pending, foldl_snd_now, foldl_snd_serial, foldl_snd_out, foldl_snd_pins, foldl_snd_md, foldl_snd_host, foldl_snd_cmds, foldl_snd_flt, foldl_snd_clk, foldl_snd_ref, foldl_snd_kennel, foldl_snd_buf, foldl_snd_port, foldl_snd_slices, foldl_snd_tab, foldl_snd_gen, foldl_snd_core, foldl_snd_sch, foldl_snd_tel, foldl_snd_pwr, foldl_snd_regs, foldl_snd_cnts]; done)

@[simp] theorem State.realign_keeps (s : State) :
    (State.realign s).pending = s.pending ∧ (State.realign s).now = s.now ∧ (State.realign s).serial = s.serial ∧
    (State.realign s).out = s.out ∧ (State.realign s).pins = s.pins ∧ (State.realign s).md = s.md ∧
    (State.realign s).host = s.host ∧ (State.realign s).cmds = s.cmds ∧ (State.realign s).flt = s.flt ∧
    (State.realign s).clk = s.clk ∧ (State.realign s).ref = s.ref ∧ (State.realign s).kennel = s.kennel ∧
    (State.realign s).buf = s.buf ∧ (State.realign s).port = s.port ∧ (State.realign s).slices = s.slices ∧
    (State.realign s).tab = s.tab ∧ (State.realign s).gen = s.gen ∧ (State.realign s).core = s.core ∧
    (State.realign s).sch = s.sch ∧ (State.realign s).tel = s.tel ∧ (State.realign s).pwr = s.pwr ∧
    (State.realign s).regs = s.regs ∧ (State.realign s).cnts = s.cnts := by
  (unfold State.realign; simp only [State.refreshFret_keeps, ite_self, and_self, implies_true, Ran.st_done, Ran.st_wait, Ran.st_refuse, Ran.st_ite, snd_ite, foldl_pending, foldl_now, foldl_serial, foldl_out, foldl_pins, foldl_md, foldl_host, foldl_cmds, foldl_flt, foldl_clk, foldl_ref, foldl_kennel, foldl_buf, foldl_port, foldl_slices, foldl_tab, foldl_gen, foldl_core, foldl_sch, foldl_tel, foldl_pwr, foldl_regs, foldl_cnts, foldl_snd_pending, foldl_snd_now, foldl_snd_serial, foldl_snd_out, foldl_snd_pins, foldl_snd_md, foldl_snd_host, foldl_snd_cmds, foldl_snd_flt, foldl_snd_clk, foldl_snd_ref, foldl_snd_kennel, foldl_snd_buf, foldl_snd_port, foldl_snd_slices, foldl_snd_tab, foldl_snd_gen, foldl_snd_core, foldl_snd_sch, foldl_snd_tel, foldl_snd_pwr, foldl_snd_regs, foldl_snd_cnts]; done)

@[simp] theorem State.stepTime_keeps (delta : Int) (source shown : Nat) (s : State) :
    (State.stepTime delta source shown s).pending = s.pending ∧ (State.stepTime delta source shown s).now = s.now ∧
    (State.stepTime delta source shown s).serial = s.serial ∧ (State.stepTime delta source shown s).pins = s.pins ∧
    (State.stepTime delta source shown s).md = s.md ∧ (State.stepTime delta source shown s).flt = s.flt ∧
    (State.stepTime delta source shown s).clk = s.clk ∧ (State.stepTime delta source shown s).ref = s.ref ∧
    (State.stepTime delta source shown s).kennel = s.kennel ∧ (State.stepTime delta source shown s).buf = s.buf ∧
    (State.stepTime delta source shown s).port = s.port ∧ (State.stepTime delta source shown s).slices = s.slices ∧
    (State.stepTime delta source shown s).tab = s.tab ∧ (State.stepTime delta source shown s).core = s.core ∧
    (State.stepTime delta source shown s).sch = s.sch ∧ (State.stepTime delta source shown s).regs = s.regs ∧
    (State.stepTime delta source shown s).cnts = s.cnts := by
  (unfold State.stepTime; simp only [State.post_keeps, State.takeOneOff_keeps, State.moveTime_keeps, State.realign_keeps, ite_self, and_self, implies_true, Ran.st_done, Ran.st_wait, Ran.st_refuse, Ran.st_ite, snd_ite, foldl_pending, foldl_now, foldl_serial, foldl_pins, foldl_md, foldl_flt, foldl_clk, foldl_ref, foldl_kennel, foldl_buf, foldl_port, foldl_slices, foldl_tab, foldl_core, foldl_sch, foldl_regs, foldl_cnts, foldl_snd_pending, foldl_snd_now, foldl_snd_serial, foldl_snd_pins, foldl_snd_md, foldl_snd_flt, foldl_snd_clk, foldl_snd_ref, foldl_snd_kennel, foldl_snd_buf, foldl_snd_port, foldl_snd_slices, foldl_snd_tab, foldl_snd_core, foldl_snd_sch, foldl_snd_regs, foldl_snd_cnts]; done)

@[simp] theorem State.writeTimeCtl_keeps (v : Nat) (s : State) :
    (State.writeTimeCtl v s).pending = s.pending ∧ (State.writeTimeCtl v s).now = s.now ∧
    (State.writeTimeCtl v s).serial = s.serial ∧ (State.writeTimeCtl v s).out = s.out ∧
    (State.writeTimeCtl v s).pins = s.pins ∧ (State.writeTimeCtl v s).md = s.md ∧
    (State.writeTimeCtl v s).host = s.host ∧ (State.writeTimeCtl v s).cmds = s.cmds ∧
    (State.writeTimeCtl v s).flt = s.flt ∧ (State.writeTimeCtl v s).clk = s.clk ∧
    (State.writeTimeCtl v s).ref = s.ref ∧ (State.writeTimeCtl v s).kennel = s.kennel ∧
    (State.writeTimeCtl v s).time = s.time ∧ (State.writeTimeCtl v s).buf = s.buf ∧
    (State.writeTimeCtl v s).port = s.port ∧ (State.writeTimeCtl v s).slices = s.slices ∧
    (State.writeTimeCtl v s).tab = s.tab ∧ (State.writeTimeCtl v s).gen = s.gen ∧
    (State.writeTimeCtl v s).core = s.core ∧ (State.writeTimeCtl v s).sch = s.sch ∧
    (State.writeTimeCtl v s).tel = s.tel ∧ (State.writeTimeCtl v s).pwr = s.pwr ∧
    (State.writeTimeCtl v s).cnts = s.cnts := by
  (unfold State.writeTimeCtl; simp only [State.wr_keeps, ite_self, and_self, implies_true, Ran.st_done, Ran.st_wait, Ran.st_refuse, Ran.st_ite, snd_ite, foldl_pending, foldl_now, foldl_serial, foldl_out, foldl_pins, foldl_md, foldl_host, foldl_cmds, foldl_flt, foldl_clk, foldl_ref, foldl_kennel, foldl_time, foldl_buf, foldl_port, foldl_slices, foldl_tab, foldl_gen, foldl_core, foldl_sch, foldl_tel, foldl_pwr, foldl_cnts, foldl_snd_pending, foldl_snd_now, foldl_snd_serial, foldl_snd_out, foldl_snd_pins, foldl_snd_md, foldl_snd_host, foldl_snd_cmds, foldl_snd_flt, foldl_snd_clk, foldl_snd_ref, foldl_snd_kennel, foldl_snd_time, foldl_snd_buf, foldl_snd_port, foldl_snd_slices, foldl_snd_tab, foldl_snd_gen, foldl_snd_core, foldl_snd_sch, foldl_snd_tel, foldl_snd_pwr, foldl_snd_cnts]; done)

@[simp] theorem State.timeErr_keeps (s : State) :
    (State.timeErr s).pending = s.pending ∧ (State.timeErr s).now = s.now ∧ (State.timeErr s).serial = s.serial ∧
    (State.timeErr s).out = s.out ∧ (State.timeErr s).pins = s.pins ∧ (State.timeErr s).md = s.md ∧
    (State.timeErr s).host = s.host ∧ (State.timeErr s).cmds = s.cmds ∧ (State.timeErr s).flt = s.flt ∧
    (State.timeErr s).clk = s.clk ∧ (State.timeErr s).ref = s.ref ∧ (State.timeErr s).kennel = s.kennel ∧
    (State.timeErr s).buf = s.buf ∧ (State.timeErr s).port = s.port ∧ (State.timeErr s).slices = s.slices ∧
    (State.timeErr s).tab = s.tab ∧ (State.timeErr s).gen = s.gen ∧ (State.timeErr s).core = s.core ∧
    (State.timeErr s).sch = s.sch ∧ (State.timeErr s).tel = s.tel ∧ (State.timeErr s).pwr = s.pwr ∧
    (State.timeErr s).regs = s.regs ∧ (State.timeErr s).cnts = s.cnts := by
  (unfold State.timeErr; simp only [ite_self, and_self, implies_true, Ran.st_done, Ran.st_wait, Ran.st_refuse, Ran.st_ite, snd_ite, foldl_pending, foldl_now, foldl_serial, foldl_out, foldl_pins, foldl_md, foldl_host, foldl_cmds, foldl_flt, foldl_clk, foldl_ref, foldl_kennel, foldl_buf, foldl_port, foldl_slices, foldl_tab, foldl_gen, foldl_core, foldl_sch, foldl_tel, foldl_pwr, foldl_regs, foldl_cnts, foldl_snd_pending, foldl_snd_now, foldl_snd_serial, foldl_snd_out, foldl_snd_pins, foldl_snd_md, foldl_snd_host, foldl_snd_cmds, foldl_snd_flt, foldl_snd_clk, foldl_snd_ref, foldl_snd_kennel, foldl_snd_buf, foldl_snd_port, foldl_snd_slices, foldl_snd_tab, foldl_snd_gen, foldl_snd_core, foldl_snd_sch, foldl_snd_tel, foldl_snd_pwr, foldl_snd_regs, foldl_snd_cnts]; done)

@[simp] theorem State.adjGo_keeps (s : State) :
    (State.adjGo s).pending = s.pending ∧ (State.adjGo s).now = s.now ∧ (State.adjGo s).serial = s.serial ∧
    (State.adjGo s).pins = s.pins ∧ (State.adjGo s).md = s.md ∧ (State.adjGo s).flt = s.flt ∧
    (State.adjGo s).clk = s.clk ∧ (State.adjGo s).ref = s.ref ∧ (State.adjGo s).kennel = s.kennel ∧
    (State.adjGo s).buf = s.buf ∧ (State.adjGo s).port = s.port ∧ (State.adjGo s).slices = s.slices ∧
    (State.adjGo s).tab = s.tab ∧ (State.adjGo s).core = s.core ∧ (State.adjGo s).sch = s.sch ∧
    (State.adjGo s).regs = s.regs ∧ (State.adjGo s).cnts = s.cnts := by
  (unfold State.adjGo; simp only [State.timeErr_keeps, State.stepTime_keeps, ite_self, and_self, implies_true, Ran.st_done, Ran.st_wait, Ran.st_refuse, Ran.st_ite, snd_ite, ite_pending, ite_now, ite_serial, ite_pins, ite_md, ite_flt, ite_clk, ite_ref, ite_kennel, ite_buf, ite_port, ite_slices, ite_tab, ite_core, ite_sch, ite_regs, ite_cnts, foldl_pending, foldl_now, foldl_serial, foldl_pins, foldl_md, foldl_flt, foldl_clk, foldl_ref, foldl_kennel, foldl_buf, foldl_port, foldl_slices, foldl_tab, foldl_core, foldl_sch, foldl_regs, foldl_cnts, foldl_snd_pending, foldl_snd_now, foldl_snd_serial, foldl_snd_pins, foldl_snd_md, foldl_snd_flt, foldl_snd_clk, foldl_snd_ref, foldl_snd_kennel, foldl_snd_buf, foldl_snd_port, foldl_snd_slices, foldl_snd_tab, foldl_snd_core, foldl_snd_sch, foldl_snd_regs, foldl_snd_cnts]; done)

@[simp] theorem State.setGo_keeps (s : State) :
    (State.setGo s).pending = s.pending ∧ (State.setGo s).now = s.now ∧ (State.setGo s).serial = s.serial ∧
    (State.setGo s).pins = s.pins ∧ (State.setGo s).md = s.md ∧ (State.setGo s).flt = s.flt ∧
    (State.setGo s).clk = s.clk ∧ (State.setGo s).ref = s.ref ∧ (State.setGo s).kennel = s.kennel ∧
    (State.setGo s).buf = s.buf ∧ (State.setGo s).port = s.port ∧ (State.setGo s).slices = s.slices ∧
    (State.setGo s).tab = s.tab ∧ (State.setGo s).core = s.core ∧ (State.setGo s).sch = s.sch ∧
    (State.setGo s).regs = s.regs ∧ (State.setGo s).cnts = s.cnts := by
  (unfold State.setGo; simp only [State.timeErr_keeps, State.stepTime_keeps, ite_self, and_self, implies_true, Ran.st_done, Ran.st_wait, Ran.st_refuse, Ran.st_ite, snd_ite, ite_pending, ite_now, ite_serial, ite_pins, ite_md, ite_flt, ite_clk, ite_ref, ite_kennel, ite_buf, ite_port, ite_slices, ite_tab, ite_core, ite_sch, ite_regs, ite_cnts, foldl_pending, foldl_now, foldl_serial, foldl_pins, foldl_md, foldl_flt, foldl_clk, foldl_ref, foldl_kennel, foldl_buf, foldl_port, foldl_slices, foldl_tab, foldl_core, foldl_sch, foldl_regs, foldl_cnts, foldl_snd_pending, foldl_snd_now, foldl_snd_serial, foldl_snd_pins, foldl_snd_md, foldl_snd_flt, foldl_snd_clk, foldl_snd_ref, foldl_snd_kennel, foldl_snd_buf, foldl_snd_port, foldl_snd_slices, foldl_snd_tab, foldl_snd_core, foldl_snd_sch, foldl_snd_regs, foldl_snd_cnts]; done)

@[simp] theorem State.setIn_keeps (j : Nat) (x : TimeIn) (s : State) :
    (State.setIn j x s).pending = s.pending ∧ (State.setIn j x s).now = s.now ∧
    (State.setIn j x s).serial = s.serial ∧ (State.setIn j x s).out = s.out ∧ (State.setIn j x s).pins = s.pins ∧
    (State.setIn j x s).md = s.md ∧ (State.setIn j x s).host = s.host ∧ (State.setIn j x s).cmds = s.cmds ∧
    (State.setIn j x s).flt = s.flt ∧ (State.setIn j x s).clk = s.clk ∧ (State.setIn j x s).ref = s.ref ∧
    (State.setIn j x s).kennel = s.kennel ∧ (State.setIn j x s).buf = s.buf ∧ (State.setIn j x s).port = s.port ∧
    (State.setIn j x s).slices = s.slices ∧ (State.setIn j x s).tab = s.tab ∧ (State.setIn j x s).gen = s.gen ∧
    (State.setIn j x s).core = s.core ∧ (State.setIn j x s).sch = s.sch ∧ (State.setIn j x s).tel = s.tel ∧
    (State.setIn j x s).pwr = s.pwr ∧ (State.setIn j x s).regs = s.regs ∧ (State.setIn j x s).cnts = s.cnts := by
  (unfold State.setIn; simp only [ite_self, and_self, implies_true, Ran.st_done, Ran.st_wait, Ran.st_refuse, Ran.st_ite, snd_ite, foldl_pending, foldl_now, foldl_serial, foldl_out, foldl_pins, foldl_md, foldl_host, foldl_cmds, foldl_flt, foldl_clk, foldl_ref, foldl_kennel, foldl_buf, foldl_port, foldl_slices, foldl_tab, foldl_gen, foldl_core, foldl_sch, foldl_tel, foldl_pwr, foldl_regs, foldl_cnts, foldl_snd_pending, foldl_snd_now, foldl_snd_serial, foldl_snd_out, foldl_snd_pins, foldl_snd_md, foldl_snd_host, foldl_snd_cmds, foldl_snd_flt, foldl_snd_clk, foldl_snd_ref, foldl_snd_kennel, foldl_snd_buf, foldl_snd_port, foldl_snd_slices, foldl_snd_tab, foldl_snd_gen, foldl_snd_core, foldl_snd_sch, foldl_snd_tel, foldl_snd_pwr, foldl_snd_regs, foldl_snd_cnts]; done)

@[simp] theorem State.trimEdgeAt_keeps (j : Nat) (s : State) :
    (State.trimEdgeAt j s).pending = s.pending ∧ (State.trimEdgeAt j s).now = s.now ∧
    (State.trimEdgeAt j s).serial = s.serial ∧ (State.trimEdgeAt j s).out = s.out ∧
    (State.trimEdgeAt j s).pins = s.pins ∧ (State.trimEdgeAt j s).md = s.md ∧
    (State.trimEdgeAt j s).host = s.host ∧ (State.trimEdgeAt j s).cmds = s.cmds ∧
    (State.trimEdgeAt j s).flt = s.flt ∧ (State.trimEdgeAt j s).ref = s.ref ∧
    (State.trimEdgeAt j s).kennel = s.kennel ∧ (State.trimEdgeAt j s).time = s.time ∧
    (State.trimEdgeAt j s).buf = s.buf ∧ (State.trimEdgeAt j s).port = s.port ∧
    (State.trimEdgeAt j s).slices = s.slices ∧ (State.trimEdgeAt j s).tab = s.tab ∧
    (State.trimEdgeAt j s).gen = s.gen ∧ (State.trimEdgeAt j s).core = s.core ∧
    (State.trimEdgeAt j s).sch = s.sch ∧ (State.trimEdgeAt j s).tel = s.tel ∧ (State.trimEdgeAt j s).pwr = s.pwr ∧
    (State.trimEdgeAt j s).regs = s.regs ∧ (State.trimEdgeAt j s).cnts = s.cnts ∧
    (State.trimEdgeAt j s).clk.pipeCur = s.clk.pipeCur := by
  (unfold State.trimEdgeAt; simp only [ite_self, and_self, implies_true, Ran.st_done, Ran.st_wait, Ran.st_refuse, Ran.st_ite, snd_ite, ite_pending, ite_now, ite_serial, ite_out, ite_pins, ite_md, ite_host, ite_cmds, ite_flt, ite_ref, ite_kennel, ite_time, ite_buf, ite_port, ite_slices, ite_tab, ite_gen, ite_core, ite_sch, ite_tel, ite_pwr, ite_regs, ite_cnts, ite_clk_pipeCur, foldl_pending, foldl_now, foldl_serial, foldl_out, foldl_pins, foldl_md, foldl_host, foldl_cmds, foldl_flt, foldl_ref, foldl_kennel, foldl_time, foldl_buf, foldl_port, foldl_slices, foldl_tab, foldl_gen, foldl_core, foldl_sch, foldl_tel, foldl_pwr, foldl_regs, foldl_cnts, foldl_clk_pipeCur, foldl_snd_pending, foldl_snd_now, foldl_snd_serial, foldl_snd_out, foldl_snd_pins, foldl_snd_md, foldl_snd_host, foldl_snd_cmds, foldl_snd_flt, foldl_snd_ref, foldl_snd_kennel, foldl_snd_time, foldl_snd_buf, foldl_snd_port, foldl_snd_slices, foldl_snd_tab, foldl_snd_gen, foldl_snd_core, foldl_snd_sch, foldl_snd_tel, foldl_snd_pwr, foldl_snd_regs, foldl_snd_cnts, foldl_snd_clk_pipeCur]; done)

@[simp] theorem State.snapEdge_keeps (j : Nat) (s : State) :
    (State.snapEdge j s).pending = s.pending ∧ (State.snapEdge j s).now = s.now ∧
    (State.snapEdge j s).serial = s.serial ∧ (State.snapEdge j s).out = s.out ∧
    (State.snapEdge j s).pins = s.pins ∧ (State.snapEdge j s).md = s.md ∧ (State.snapEdge j s).host = s.host ∧
    (State.snapEdge j s).cmds = s.cmds ∧ (State.snapEdge j s).flt = s.flt ∧ (State.snapEdge j s).clk = s.clk ∧
    (State.snapEdge j s).ref = s.ref ∧ (State.snapEdge j s).kennel = s.kennel ∧
    (State.snapEdge j s).time = s.time ∧ (State.snapEdge j s).buf = s.buf ∧ (State.snapEdge j s).port = s.port ∧
    (State.snapEdge j s).slices = s.slices ∧ (State.snapEdge j s).tab = s.tab ∧ (State.snapEdge j s).gen = s.gen ∧
    (State.snapEdge j s).core = s.core ∧ (State.snapEdge j s).sch = s.sch ∧ (State.snapEdge j s).pwr = s.pwr ∧
    (State.snapEdge j s).regs = s.regs ∧ (State.snapEdge j s).cnts = s.cnts := by
  (unfold State.snapEdge; split <;> simp only [ite_self, and_self, implies_true, Ran.st_done, Ran.st_wait, Ran.st_refuse, Ran.st_ite, snd_ite, ite_pending, ite_now, ite_serial, ite_out, ite_pins, ite_md, ite_host, ite_cmds, ite_flt, ite_clk, ite_ref, ite_kennel, ite_time, ite_buf, ite_port, ite_slices, ite_tab, ite_gen, ite_core, ite_sch, ite_pwr, ite_regs, ite_cnts, foldl_pending, foldl_now, foldl_serial, foldl_out, foldl_pins, foldl_md, foldl_host, foldl_cmds, foldl_flt, foldl_clk, foldl_ref, foldl_kennel, foldl_time, foldl_buf, foldl_port, foldl_slices, foldl_tab, foldl_gen, foldl_core, foldl_sch, foldl_pwr, foldl_regs, foldl_cnts, foldl_snd_pending, foldl_snd_now, foldl_snd_serial, foldl_snd_out, foldl_snd_pins, foldl_snd_md, foldl_snd_host, foldl_snd_cmds, foldl_snd_flt, foldl_snd_clk, foldl_snd_ref, foldl_snd_kennel, foldl_snd_time, foldl_snd_buf, foldl_snd_port, foldl_snd_slices, foldl_snd_tab, foldl_snd_gen, foldl_snd_core, foldl_snd_sch, foldl_snd_pwr, foldl_snd_regs, foldl_snd_cnts])

@[simp] theorem State.takeEdge_keeps (j k : Nat) (s : State) :
    (State.takeEdge j k s).pending = s.pending ∧ (State.takeEdge j k s).now = s.now ∧
    (State.takeEdge j k s).serial = s.serial ∧ (State.takeEdge j k s).out = s.out ∧
    (State.takeEdge j k s).pins = s.pins ∧ (State.takeEdge j k s).md = s.md ∧
    (State.takeEdge j k s).host = s.host ∧ (State.takeEdge j k s).cmds = s.cmds ∧
    (State.takeEdge j k s).flt = s.flt ∧ (State.takeEdge j k s).clk = s.clk ∧ (State.takeEdge j k s).ref = s.ref ∧
    (State.takeEdge j k s).kennel = s.kennel ∧ (State.takeEdge j k s).buf = s.buf ∧
    (State.takeEdge j k s).port = s.port ∧ (State.takeEdge j k s).slices = s.slices ∧
    (State.takeEdge j k s).tab = s.tab ∧ (State.takeEdge j k s).gen = s.gen ∧
    (State.takeEdge j k s).core = s.core ∧ (State.takeEdge j k s).sch = s.sch ∧
    (State.takeEdge j k s).pwr = s.pwr ∧ (State.takeEdge j k s).regs = s.regs ∧
    (State.takeEdge j k s).cnts = s.cnts := by
  (unfold State.takeEdge; simp only [State.setIn_keeps, State.snapEdge_keeps, ite_self, and_self, implies_true, Ran.st_done, Ran.st_wait, Ran.st_refuse, Ran.st_ite, snd_ite, foldl_pending, foldl_now, foldl_serial, foldl_out, foldl_pins, foldl_md, foldl_host, foldl_cmds, foldl_flt, foldl_clk, foldl_ref, foldl_kennel, foldl_buf, foldl_port, foldl_slices, foldl_tab, foldl_gen, foldl_core, foldl_sch, foldl_pwr, foldl_regs, foldl_cnts, foldl_snd_pending, foldl_snd_now, foldl_snd_serial, foldl_snd_out, foldl_snd_pins, foldl_snd_md, foldl_snd_host, foldl_snd_cmds, foldl_snd_flt, foldl_snd_clk, foldl_snd_ref, foldl_snd_kennel, foldl_snd_buf, foldl_snd_port, foldl_snd_slices, foldl_snd_tab, foldl_snd_gen, foldl_snd_core, foldl_snd_sch, foldl_snd_pwr, foldl_snd_regs, foldl_snd_cnts]; done)

@[simp] theorem State.captureEdge_keeps (j : Nat) (rising : Bool) (s : State) :
    (State.captureEdge j rising s).pending = s.pending ∧ (State.captureEdge j rising s).now = s.now ∧
    (State.captureEdge j rising s).serial = s.serial ∧ (State.captureEdge j rising s).pins = s.pins ∧
    (State.captureEdge j rising s).md = s.md ∧ (State.captureEdge j rising s).cmds = s.cmds ∧
    (State.captureEdge j rising s).clk = s.clk ∧ (State.captureEdge j rising s).ref = s.ref ∧
    (State.captureEdge j rising s).kennel = s.kennel ∧ (State.captureEdge j rising s).buf = s.buf ∧
    (State.captureEdge j rising s).port = s.port ∧ (State.captureEdge j rising s).slices = s.slices ∧
    (State.captureEdge j rising s).tab = s.tab ∧ (State.captureEdge j rising s).gen = s.gen ∧
    (State.captureEdge j rising s).core = s.core ∧ (State.captureEdge j rising s).sch = s.sch ∧
    (State.captureEdge j rising s).pwr = s.pwr ∧ (State.captureEdge j rising s).regs = s.regs ∧
    (State.captureEdge j rising s).cnts = s.cnts ∧ (State.captureEdge j rising s).flt.keel0 = s.flt.keel0 ∧
    (State.captureEdge j rising s).flt.keel1 = s.flt.keel1 := by
  (unfold State.captureEdge; simp only [State.post_keeps, State.setIn_keeps, State.takeEdge_keeps, State.raise_keeps, ite_self, and_self, implies_true, Ran.st_done, Ran.st_wait, Ran.st_refuse, Ran.st_ite, snd_ite, ite_pending, ite_now, ite_serial, ite_pins, ite_md, ite_cmds, ite_clk, ite_ref, ite_kennel, ite_buf, ite_port, ite_slices, ite_tab, ite_gen, ite_core, ite_sch, ite_pwr, ite_regs, ite_cnts, ite_flt_keel0, ite_flt_keel1, foldl_pending, foldl_now, foldl_serial, foldl_pins, foldl_md, foldl_cmds, foldl_clk, foldl_ref, foldl_kennel, foldl_buf, foldl_port, foldl_slices, foldl_tab, foldl_gen, foldl_core, foldl_sch, foldl_pwr, foldl_regs, foldl_cnts, foldl_flt_keel0, foldl_flt_keel1, foldl_snd_pending, foldl_snd_now, foldl_snd_serial, foldl_snd_pins, foldl_snd_md, foldl_snd_cmds, foldl_snd_clk, foldl_snd_ref, foldl_snd_kennel, foldl_snd_buf, foldl_snd_port, foldl_snd_slices, foldl_snd_tab, foldl_snd_gen, foldl_snd_core, foldl_snd_sch, foldl_snd_pwr, foldl_snd_regs, foldl_snd_cnts, foldl_snd_flt_keel0, foldl_snd_flt_keel1]; done)
end Sys2Proof.Machine
end

