-- ==== Sys2Proof/Laws/KeepsReferee.lean ====
section
/-! SUPPORT. What each operation of Machine/Referee.lean keeps: the parts of the state that it leaves as they are. -/
set_option linter.unusedSimpArgs false
set_option linter.unusedVariables false
namespace Sys2Proof.Machine
open Host (Outcome)

@[simp] theorem State.failCollie_keeps (e : Side) (s : State) :
    (State.failCollie e s).pending = s.pending ∧ (State.failCollie e s).now = s.now ∧
    (State.failCollie e s).serial = s.serial ∧ (State.failCollie e s).out = s.out ∧
    (State.failCollie e s).pins = s.pins ∧ (State.failCollie e s).md = s.md ∧
    (State.failCollie e s).host = s.host ∧ (State.failCollie e s).cmds = s.cmds ∧
    (State.failCollie e s).clk = s.clk ∧ (State.failCollie e s).kennel = s.kennel ∧
    (State.failCollie e s).time = s.time ∧ (State.failCollie e s).buf = s.buf ∧
    (State.failCollie e s).port = s.port ∧ (State.failCollie e s).slices = s.slices ∧
    (State.failCollie e s).tab = s.tab ∧ (State.failCollie e s).gen = s.gen ∧
    (State.failCollie e s).core = s.core ∧ (State.failCollie e s).sch = s.sch ∧
    (State.failCollie e s).tel = s.tel ∧ (State.failCollie e s).pwr = s.pwr ∧
    (State.failCollie e s).regs = s.regs ∧ (State.failCollie e s).cnts = s.cnts ∧
    (State.failCollie e s).flt.keel0 = s.flt.keel0 ∧ (State.failCollie e s).flt.keel1 = s.flt.keel1 := by
  (unfold State.failCollie; simp only [State.follow_keeps, State.setCollie_keeps, ite_self, and_self, implies_true, Ran.st_done, Ran.st_wait, Ran.st_refuse, Ran.st_ite, snd_ite, foldl_pending, foldl_now, foldl_serial, foldl_out, foldl_pins, foldl_md, foldl_host, foldl_cmds, foldl_clk, foldl_kennel, foldl_time, foldl_buf, foldl_port, foldl_slices, foldl_tab, foldl_gen, foldl_core, foldl_sch, foldl_tel, foldl_pwr, foldl_regs, foldl_cnts, foldl_flt_keel0, foldl_flt_keel1, foldl_snd_pending, foldl_snd_now, foldl_snd_serial, foldl_snd_out, foldl_snd_pins, foldl_snd_md, foldl_snd_host, foldl_snd_cmds, foldl_snd_clk, foldl_snd_kennel, foldl_snd_time, foldl_snd_buf, foldl_snd_port, foldl_snd_slices, foldl_snd_tab, foldl_snd_gen, foldl_snd_core, foldl_snd_sch, foldl_snd_tel, foldl_snd_pwr, foldl_snd_regs, foldl_snd_cnts, foldl_snd_flt_keel0, foldl_snd_flt_keel1]; done)

@[simp] theorem State.useMirror_keeps (s : State) :
    (State.useMirror s).pending = s.pending ∧ (State.useMirror s).now = s.now ∧
    (State.useMirror s).serial = s.serial ∧ (State.useMirror s).out = s.out ∧ (State.useMirror s).pins = s.pins ∧
    (State.useMirror s).md = s.md ∧ (State.useMirror s).host = s.host ∧ (State.useMirror s).cmds = s.cmds ∧
    (State.useMirror s).flt = s.flt ∧ (State.useMirror s).clk = s.clk ∧ (State.useMirror s).ref = s.ref ∧
    (State.useMirror s).kennel = s.kennel ∧ (State.useMirror s).time = s.time ∧ (State.useMirror s).buf = s.buf ∧
    (State.useMirror s).slices = s.slices ∧ (State.useMirror s).tab = s.tab ∧ (State.useMirror s).gen = s.gen ∧
    (State.useMirror s).core = s.core ∧ (State.useMirror s).sch = s.sch ∧ (State.useMirror s).tel = s.tel ∧
    (State.useMirror s).regs = s.regs ∧ (State.useMirror s).cnts = s.cnts := by
  (unfold State.useMirror; split <;> simp only [State.setLane_keeps, ite_self, and_self, implies_true, Ran.st_done, Ran.st_wait, Ran.st_refuse, Ran.st_ite, snd_ite, ite_pending, ite_now, ite_serial, ite_out, ite_pins, ite_md, ite_host, ite_cmds, ite_flt, ite_clk, ite_ref, ite_kennel, ite_time, ite_buf, ite_slices, ite_tab, ite_gen, ite_core, ite_sch, ite_tel, ite_regs, ite_cnts, foldl_pending, foldl_now, foldl_serial, foldl_out, foldl_pins, foldl_md, foldl_host, foldl_cmds, foldl_flt, foldl_clk, foldl_ref, foldl_kennel, foldl_time, foldl_buf, foldl_slices, foldl_tab, foldl_gen, foldl_core, foldl_sch, foldl_tel, foldl_regs, foldl_cnts, foldl_snd_pending, foldl_snd_now, foldl_snd_serial, foldl_snd_out, foldl_snd_pins, foldl_snd_md, foldl_snd_host, foldl_snd_cmds, foldl_snd_flt, foldl_snd_clk, foldl_snd_ref, foldl_snd_kennel, foldl_snd_time, foldl_snd_buf, foldl_snd_slices, foldl_snd_tab, foldl_snd_gen, foldl_snd_core, foldl_snd_sch, foldl_snd_tel, foldl_snd_regs, foldl_snd_cnts])

@[simp] theorem State.collieLost_keeps (cause : Nat) (s : State) :
    (State.collieLost cause s).pending = s.pending ∧ (State.collieLost cause s).now = s.now ∧
    (State.collieLost cause s).serial = s.serial ∧ (State.collieLost cause s).pins = s.pins ∧
    (State.collieLost cause s).md = s.md ∧ (State.collieLost cause s).cmds = s.cmds ∧
    (State.collieLost cause s).clk = s.clk ∧ (State.collieLost cause s).kennel = s.kennel ∧
    (State.collieLost cause s).time = s.time ∧ (State.collieLost cause s).buf = s.buf ∧
    (State.collieLost cause s).slices = s.slices ∧ (State.collieLost cause s).tab = s.tab ∧
    (State.collieLost cause s).gen = s.gen ∧ (State.collieLost cause s).core = s.core ∧
    (State.collieLost cause s).sch = s.sch ∧ (State.collieLost cause s).tel = s.tel ∧
    (State.collieLost cause s).regs = s.regs ∧ (State.collieLost cause s).cnts = s.cnts ∧
    (State.collieLost cause s).flt.keel0 = s.flt.keel0 := by
  unfold State.collieLost
  dsimp only
  split
  · simp
  · split <;> (rename_i q; simp [snd_of q])

@[simp] theorem State.judgeCollies_keeps (cause : Nat) (s : State) :
    (State.judgeCollies cause s).pending = s.pending ∧ (State.judgeCollies cause s).now = s.now ∧
    (State.judgeCollies cause s).serial = s.serial ∧ (State.judgeCollies cause s).pins = s.pins ∧
    (State.judgeCollies cause s).md = s.md ∧ (State.judgeCollies cause s).cmds = s.cmds ∧
    (State.judgeCollies cause s).clk = s.clk ∧ (State.judgeCollies cause s).kennel = s.kennel ∧
    (State.judgeCollies cause s).time = s.time ∧ (State.judgeCollies cause s).buf = s.buf ∧
    (State.judgeCollies cause s).slices = s.slices ∧ (State.judgeCollies cause s).tab = s.tab ∧
    (State.judgeCollies cause s).gen = s.gen ∧ (State.judgeCollies cause s).core = s.core ∧
    (State.judgeCollies cause s).sch = s.sch ∧ (State.judgeCollies cause s).tel = s.tel ∧
    (State.judgeCollies cause s).regs = s.regs ∧ (State.judgeCollies cause s).cnts = s.cnts ∧
    (State.judgeCollies cause s).flt.keel0 = s.flt.keel0 := by
  (unfold State.judgeCollies; simp only [State.failCollie_keeps, State.collieLost_keeps, State.setCollie_keeps, ite_self, and_self, implies_true, Ran.st_done, Ran.st_wait, Ran.st_refuse, Ran.st_ite, snd_ite, ite_pending, ite_now, ite_serial, ite_pins, ite_md, ite_cmds, ite_clk, ite_kennel, ite_time, ite_buf, ite_slices, ite_tab, ite_gen, ite_core, ite_sch, ite_tel, ite_regs, ite_cnts, ite_flt_keel0, foldl_pending, foldl_now, foldl_serial, foldl_pins, foldl_md, foldl_cmds, foldl_clk, foldl_kennel, foldl_time, foldl_buf, foldl_slices, foldl_tab, foldl_gen, foldl_core, foldl_sch, foldl_tel, foldl_regs, foldl_cnts, foldl_flt_keel0, foldl_snd_pending, foldl_snd_now, foldl_snd_serial, foldl_snd_pins, foldl_snd_md, foldl_snd_cmds, foldl_snd_clk, foldl_snd_kennel, foldl_snd_time, foldl_snd_buf, foldl_snd_slices, foldl_snd_tab, foldl_snd_gen, foldl_snd_core, foldl_snd_sch, foldl_snd_tel, foldl_snd_regs, foldl_snd_cnts, foldl_snd_flt_keel0]; done)

@[simp] theorem State.swapCollie_keeps (cause : Nat) (s : State) :
    (State.swapCollie cause s).2.pending = s.pending ∧ (State.swapCollie cause s).2.now = s.now ∧
    (State.swapCollie cause s).2.serial = s.serial ∧ (State.swapCollie cause s).2.pins = s.pins ∧
    (State.swapCollie cause s).2.md = s.md ∧ (State.swapCollie cause s).2.cmds = s.cmds ∧
    (State.swapCollie cause s).2.clk = s.clk ∧ (State.swapCollie cause s).2.kennel = s.kennel ∧
    (State.swapCollie cause s).2.time = s.time ∧ (State.swapCollie cause s).2.buf = s.buf ∧
    (State.swapCollie cause s).2.port = s.port ∧ (State.swapCollie cause s).2.slices = s.slices ∧
    (State.swapCollie cause s).2.tab = s.tab ∧ (State.swapCollie cause s).2.gen = s.gen ∧
    (State.swapCollie cause s).2.core = s.core ∧ (State.swapCollie cause s).2.sch = s.sch ∧
    (State.swapCollie cause s).2.tel = s.tel ∧ (State.swapCollie cause s).2.pwr = s.pwr ∧
    (State.swapCollie cause s).2.regs = s.regs ∧ (State.swapCollie cause s).2.cnts = s.cnts ∧
    (State.swapCollie cause s).2.flt.keel0 = s.flt.keel0 := by
  unfold State.swapCollie
  dsimp only
  split
  · simp
  · split <;> (rename_i q; simp [snd_of q])

@[simp] theorem State.cmdErr_keeps (s : State) :
    (State.cmdErr s).pending = s.pending ∧ (State.cmdErr s).now = s.now ∧ (State.cmdErr s).serial = s.serial ∧
    (State.cmdErr s).out = s.out ∧ (State.cmdErr s).pins = s.pins ∧ (State.cmdErr s).md = s.md ∧
    (State.cmdErr s).host = s.host ∧ (State.cmdErr s).cmds = s.cmds ∧ (State.cmdErr s).flt = s.flt ∧
    (State.cmdErr s).clk = s.clk ∧ (State.cmdErr s).kennel = s.kennel ∧ (State.cmdErr s).time = s.time ∧
    (State.cmdErr s).buf = s.buf ∧ (State.cmdErr s).port = s.port ∧ (State.cmdErr s).slices = s.slices ∧
    (State.cmdErr s).tab = s.tab ∧ (State.cmdErr s).gen = s.gen ∧ (State.cmdErr s).core = s.core ∧
    (State.cmdErr s).sch = s.sch ∧ (State.cmdErr s).tel = s.tel ∧ (State.cmdErr s).pwr = s.pwr ∧
    (State.cmdErr s).regs = s.regs ∧ (State.cmdErr s).cnts = s.cnts := by
  (unfold State.cmdErr; simp only [ite_self, and_self, implies_true, Ran.st_done, Ran.st_wait, Ran.st_refuse, Ran.st_ite, snd_ite, foldl_pending, foldl_now, foldl_serial, foldl_out, foldl_pins, foldl_md, foldl_host, foldl_cmds, foldl_flt, foldl_clk, foldl_kennel, foldl_time, foldl_buf, foldl_port, foldl_slices, foldl_tab, foldl_gen, foldl_core, foldl_sch, foldl_tel, foldl_pwr, foldl_regs, foldl_cnts, foldl_snd_pending, foldl_snd_now, foldl_snd_serial, foldl_snd_out, foldl_snd_pins, foldl_snd_md, foldl_snd_host, foldl_snd_cmds, foldl_snd_flt, foldl_snd_clk, foldl_snd_kennel, foldl_snd_time, foldl_snd_buf, foldl_snd_port, foldl_snd_slices, foldl_snd_tab, foldl_snd_gen, foldl_snd_core, foldl_snd_sch, foldl_snd_tel, foldl_snd_pwr, foldl_snd_regs, foldl_snd_cnts]; done)

@[simp] theorem State.rewriteCollie_keeps (collie old : Side) (s : State) :
    (State.rewriteCollie collie old s).pending = s.pending ∧ (State.rewriteCollie collie old s).now = s.now ∧
    (State.rewriteCollie collie old s).serial = s.serial ∧ (State.rewriteCollie collie old s).out = s.out ∧
    (State.rewriteCollie collie old s).pins = s.pins ∧ (State.rewriteCollie collie old s).md = s.md ∧
    (State.rewriteCollie collie old s).host = s.host ∧ (State.rewriteCollie collie old s).cmds = s.cmds ∧
    (State.rewriteCollie collie old s).flt = s.flt ∧ (State.rewriteCollie collie old s).clk = s.clk ∧
    (State.rewriteCollie collie old s).kennel = s.kennel ∧ (State.rewriteCollie collie old s).time = s.time ∧
    (State.rewriteCollie collie old s).buf = s.buf ∧ (State.rewriteCollie collie old s).port = s.port ∧
    (State.rewriteCollie collie old s).slices = s.slices ∧ (State.rewriteCollie collie old s).tab = s.tab ∧
    (State.rewriteCollie collie old s).gen = s.gen ∧ (State.rewriteCollie collie old s).core = s.core ∧
    (State.rewriteCollie collie old s).sch = s.sch ∧ (State.rewriteCollie collie old s).tel = s.tel ∧
    (State.rewriteCollie collie old s).pwr = s.pwr ∧ (State.rewriteCollie collie old s).regs = s.regs ∧
    (State.rewriteCollie collie old s).cnts = s.cnts := by
  (unfold State.rewriteCollie; simp only [State.setCollie_keeps, ite_self, and_self, implies_true, Ran.st_done, Ran.st_wait, Ran.st_refuse, Ran.st_ite, snd_ite, ite_pending, ite_now, ite_serial, ite_out, ite_pins, ite_md, ite_host, ite_cmds, ite_flt, ite_clk, ite_kennel, ite_time, ite_buf, ite_port, ite_slices, ite_tab, ite_gen, ite_core, ite_sch, ite_tel, ite_pwr, ite_regs, ite_cnts, foldl_pending, foldl_now, foldl_serial, foldl_out, foldl_pins, foldl_md, foldl_host, foldl_cmds, foldl_flt, foldl_clk, foldl_kennel, foldl_time, foldl_buf, foldl_port, foldl_slices, foldl_tab, foldl_gen, foldl_core, foldl_sch, foldl_tel, foldl_pwr, foldl_regs, foldl_cnts, foldl_snd_pending, foldl_snd_now, foldl_snd_serial, foldl_snd_out, foldl_snd_pins, foldl_snd_md, foldl_snd_host, foldl_snd_cmds, foldl_snd_flt, foldl_snd_clk, foldl_snd_kennel, foldl_snd_time, foldl_snd_buf, foldl_snd_port, foldl_snd_slices, foldl_snd_tab, foldl_snd_gen, foldl_snd_core, foldl_snd_sch, foldl_snd_tel, foldl_snd_pwr, foldl_snd_regs, foldl_snd_cnts]; done)

@[simp] theorem State.rewriteTe_keeps (te old : Side) (diff : Nat) (s : State) :
    (State.rewriteTe te old diff s).pending = s.pending ∧ (State.rewriteTe te old diff s).now = s.now ∧
    (State.rewriteTe te old diff s).serial = s.serial ∧ (State.rewriteTe te old diff s).pins = s.pins ∧
    (State.rewriteTe te old diff s).md = s.md ∧ (State.rewriteTe te old diff s).cmds = s.cmds ∧
    (State.rewriteTe te old diff s).flt = s.flt ∧ (State.rewriteTe te old diff s).clk = s.clk ∧
    (State.rewriteTe te old diff s).ref = s.ref ∧ (State.rewriteTe te old diff s).kennel = s.kennel ∧
    (State.rewriteTe te old diff s).buf = s.buf ∧ (State.rewriteTe te old diff s).port = s.port ∧
    (State.rewriteTe te old diff s).slices = s.slices ∧ (State.rewriteTe te old diff s).tab = s.tab ∧
    (State.rewriteTe te old diff s).gen = s.gen ∧ (State.rewriteTe te old diff s).core = s.core ∧
    (State.rewriteTe te old diff s).sch = s.sch ∧ (State.rewriteTe te old diff s).tel = s.tel ∧
    (State.rewriteTe te old diff s).pwr = s.pwr ∧ (State.rewriteTe te old diff s).regs = s.regs ∧
    (State.rewriteTe te old diff s).cnts = s.cnts := by
  (unfold State.rewriteTe; simp only [State.post_keeps, ite_self, and_self, implies_true, Ran.st_done, Ran.st_wait, Ran.st_refuse, Ran.st_ite, snd_ite, ite_pending, ite_now, ite_serial, ite_pins, ite_md, ite_cmds, ite_flt, ite_clk, ite_ref, ite_kennel, ite_buf, ite_port, ite_slices, ite_tab, ite_gen, ite_core, ite_sch, ite_tel, ite_pwr, ite_regs, ite_cnts, foldl_pending, foldl_now, foldl_serial, foldl_pins, foldl_md, foldl_cmds, foldl_flt, foldl_clk, foldl_ref, foldl_kennel, foldl_buf, foldl_port, foldl_slices, foldl_tab, foldl_gen, foldl_core, foldl_sch, foldl_tel, foldl_pwr, foldl_regs, foldl_cnts, foldl_snd_pending, foldl_snd_now, foldl_snd_serial, foldl_snd_pins, foldl_snd_md, foldl_snd_cmds, foldl_snd_flt, foldl_snd_clk, foldl_snd_ref, foldl_snd_kennel, foldl_snd_buf, foldl_snd_port, foldl_snd_slices, foldl_snd_tab, foldl_snd_gen, foldl_snd_core, foldl_snd_sch, foldl_snd_tel, foldl_snd_pwr, foldl_snd_regs, foldl_snd_cnts]; done)

@[simp] theorem State.rewriteRoles_keeps (collie te : Side) (s : State) :
    (State.rewriteRoles collie te s).pending = s.pending ∧ (State.rewriteRoles collie te s).now = s.now ∧
    (State.rewriteRoles collie te s).serial = s.serial ∧ (State.rewriteRoles collie te s).pins = s.pins ∧
    (State.rewriteRoles collie te s).md = s.md ∧ (State.rewriteRoles collie te s).cmds = s.cmds ∧
    (State.rewriteRoles collie te s).clk = s.clk ∧ (State.rewriteRoles collie te s).kennel = s.kennel ∧
    (State.rewriteRoles collie te s).buf = s.buf ∧ (State.rewriteRoles collie te s).port = s.port ∧
    (State.rewriteRoles collie te s).slices = s.slices ∧ (State.rewriteRoles collie te s).tab = s.tab ∧
    (State.rewriteRoles collie te s).gen = s.gen ∧ (State.rewriteRoles collie te s).sch = s.sch ∧
    (State.rewriteRoles collie te s).tel = s.tel ∧ (State.rewriteRoles collie te s).pwr = s.pwr ∧
    (State.rewriteRoles collie te s).regs = s.regs ∧ (State.rewriteRoles collie te s).cnts = s.cnts ∧
    (State.rewriteRoles collie te s).flt.keel0 = s.flt.keel0 := by
  unfold State.rewriteRoles
  dsimp only
  split <;> simp only [State.settle_keeps, State.healthEvt_keeps, State.rewriteTe_keeps, State.rewriteCollie_keeps, State.commit_keeps, and_self] <;> simp

@[simp] theorem State.roleCollie_keeps (collie : Side) (s : State) :
    (State.roleCollie collie s).pending = s.pending ∧ (State.roleCollie collie s).now = s.now ∧
    (State.roleCollie collie s).serial = s.serial ∧ (State.roleCollie collie s).pins = s.pins ∧
    (State.roleCollie collie s).md = s.md ∧ (State.roleCollie collie s).cmds = s.cmds ∧
    (State.roleCollie collie s).clk = s.clk ∧ (State.roleCollie collie s).kennel = s.kennel ∧
    (State.roleCollie collie s).time = s.time ∧ (State.roleCollie collie s).buf = s.buf ∧
    (State.roleCollie collie s).port = s.port ∧ (State.roleCollie collie s).slices = s.slices ∧
    (State.roleCollie collie s).tab = s.tab ∧ (State.roleCollie collie s).gen = s.gen ∧
    (State.roleCollie collie s).core = s.core ∧ (State.roleCollie collie s).sch = s.sch ∧
    (State.roleCollie collie s).tel = s.tel ∧ (State.roleCollie collie s).pwr = s.pwr ∧
    (State.roleCollie collie s).regs = s.regs ∧ (State.roleCollie collie s).cnts = s.cnts ∧
    (State.roleCollie collie s).flt.keel0 = s.flt.keel0 := by
  (unfold State.roleCollie; split; · simp
   split <;> (rename_i q; simp [snd_of q]))

@[simp] theorem State.roleTe_keeps (te : Side) (s : State) :
    (State.roleTe te s).pending = s.pending ∧ (State.roleTe te s).now = s.now ∧
    (State.roleTe te s).serial = s.serial ∧ (State.roleTe te s).pins = s.pins ∧ (State.roleTe te s).md = s.md ∧
    (State.roleTe te s).cmds = s.cmds ∧ (State.roleTe te s).clk = s.clk ∧ (State.roleTe te s).kennel = s.kennel ∧
    (State.roleTe te s).buf = s.buf ∧ (State.roleTe te s).port = s.port ∧ (State.roleTe te s).slices = s.slices ∧
    (State.roleTe te s).tab = s.tab ∧ (State.roleTe te s).gen = s.gen ∧ (State.roleTe te s).core = s.core ∧
    (State.roleTe te s).sch = s.sch ∧ (State.roleTe te s).tel = s.tel ∧ (State.roleTe te s).pwr = s.pwr ∧
    (State.roleTe te s).regs = s.regs ∧ (State.roleTe te s).cnts = s.cnts ∧
    (State.roleTe te s).flt.keel0 = s.flt.keel0 := by
  (unfold State.roleTe; split; · simp
   split
   · split <;> (rename_i q; simp [snd_of q])
   · simp)

@[simp] theorem State.fwuFail_keeps (cause : Nat) (s : State) :
    (State.fwuFail cause s).pending = s.pending ∧ (State.fwuFail cause s).now = s.now ∧
    (State.fwuFail cause s).serial = s.serial ∧ (State.fwuFail cause s).out = s.out ∧
    (State.fwuFail cause s).pins = s.pins ∧ (State.fwuFail cause s).md = s.md ∧
    (State.fwuFail cause s).host = s.host ∧ (State.fwuFail cause s).cmds = s.cmds ∧
    (State.fwuFail cause s).clk = s.clk ∧ (State.fwuFail cause s).kennel = s.kennel ∧
    (State.fwuFail cause s).time = s.time ∧ (State.fwuFail cause s).buf = s.buf ∧
    (State.fwuFail cause s).port = s.port ∧ (State.fwuFail cause s).slices = s.slices ∧
    (State.fwuFail cause s).tab = s.tab ∧ (State.fwuFail cause s).gen = s.gen ∧
    (State.fwuFail cause s).core = s.core ∧ (State.fwuFail cause s).sch = s.sch ∧
    (State.fwuFail cause s).tel = s.tel ∧ (State.fwuFail cause s).pwr = s.pwr ∧
    (State.fwuFail cause s).regs = s.regs ∧ (State.fwuFail cause s).cnts = s.cnts ∧
    (State.fwuFail cause s).flt.keel0 = s.flt.keel0 ∧ (State.fwuFail cause s).flt.keel1 = s.flt.keel1 := by
  (unfold State.fwuFail; simp only [State.follow_keeps, ite_self, and_self, implies_true, Ran.st_done, Ran.st_wait, Ran.st_refuse, Ran.st_ite, snd_ite, foldl_pending, foldl_now, foldl_serial, foldl_out, foldl_pins, foldl_md, foldl_host, foldl_cmds, foldl_clk, foldl_kennel, foldl_time, foldl_buf, foldl_port, foldl_slices, foldl_tab, foldl_gen, foldl_core, foldl_sch, foldl_tel, foldl_pwr, foldl_regs, foldl_cnts, foldl_flt_keel0, foldl_flt_keel1, foldl_snd_pending, foldl_snd_now, foldl_snd_serial, foldl_snd_out, foldl_snd_pins, foldl_snd_md, foldl_snd_host, foldl_snd_cmds, foldl_snd_clk, foldl_snd_kennel, foldl_snd_time, foldl_snd_buf, foldl_snd_port, foldl_snd_slices, foldl_snd_tab, foldl_snd_gen, foldl_snd_core, foldl_snd_sch, foldl_snd_tel, foldl_snd_pwr, foldl_snd_regs, foldl_snd_cnts, foldl_snd_flt_keel0, foldl_snd_flt_keel1]; done)

@[simp] theorem State.setWear_keeps (i : Nat) (c : WearCopy) (s : State) :
    (State.setWear i c s).pending = s.pending ∧ (State.setWear i c s).now = s.now ∧
    (State.setWear i c s).serial = s.serial ∧ (State.setWear i c s).out = s.out ∧
    (State.setWear i c s).pins = s.pins ∧ (State.setWear i c s).md = s.md ∧ (State.setWear i c s).host = s.host ∧
    (State.setWear i c s).cmds = s.cmds ∧ (State.setWear i c s).flt = s.flt ∧ (State.setWear i c s).clk = s.clk ∧
    (State.setWear i c s).ref = s.ref ∧ (State.setWear i c s).time = s.time ∧ (State.setWear i c s).buf = s.buf ∧
    (State.setWear i c s).port = s.port ∧ (State.setWear i c s).slices = s.slices ∧
    (State.setWear i c s).tab = s.tab ∧ (State.setWear i c s).gen = s.gen ∧ (State.setWear i c s).core = s.core ∧
    (State.setWear i c s).sch = s.sch ∧ (State.setWear i c s).tel = s.tel ∧ (State.setWear i c s).pwr = s.pwr ∧
    (State.setWear i c s).regs = s.regs ∧ (State.setWear i c s).cnts = s.cnts ∧
    (State.setWear i c s).kennel.keyHash = s.kennel.keyHash := by
  (unfold State.setWear; simp only [ite_self, and_self, implies_true, Ran.st_done, Ran.st_wait, Ran.st_refuse, Ran.st_ite, snd_ite, ite_pending, ite_now, ite_serial, ite_out, ite_pins, ite_md, ite_host, ite_cmds, ite_flt, ite_clk, ite_ref, ite_time, ite_buf, ite_port, ite_slices, ite_tab, ite_gen, ite_core, ite_sch, ite_tel, ite_pwr, ite_regs, ite_cnts, ite_kennel_keyHash, foldl_pending, foldl_now, foldl_serial, foldl_out, foldl_pins, foldl_md, foldl_host, foldl_cmds, foldl_flt, foldl_clk, foldl_ref, foldl_time, foldl_buf, foldl_port, foldl_slices, foldl_tab, foldl_gen, foldl_core, foldl_sch, foldl_tel, foldl_pwr, foldl_regs, foldl_cnts, foldl_kennel_keyHash, foldl_snd_pending, foldl_snd_now, foldl_snd_serial, foldl_snd_out, foldl_snd_pins, foldl_snd_md, foldl_snd_host, foldl_snd_cmds, foldl_snd_flt, foldl_snd_clk, foldl_snd_ref, foldl_snd_time, foldl_snd_buf, foldl_snd_port, foldl_snd_slices, foldl_snd_tab, foldl_snd_gen, foldl_snd_core, foldl_snd_sch, foldl_snd_tel, foldl_snd_pwr, foldl_snd_regs, foldl_snd_cnts, foldl_snd_kennel_keyHash]; done)
end Sys2Proof.Machine
end

