-- ==== Sys2Proof/Laws/KeepsClocks.lean ====
section
/-! SUPPORT. What each operation of Machine/Clocks.lean keeps: the parts of the state that it leaves as they are. -/
set_option linter.unusedSimpArgs false
set_option linter.unusedVariables false
namespace Sys2Proof.Machine
open Host (Outcome)

@[simp] theorem State.clkRec_keeps (code i : Nat) (s : State) :
    (State.clkRec code i s).pending = s.pending ∧ (State.clkRec code i s).now = s.now ∧
    (State.clkRec code i s).serial = s.serial ∧ (State.clkRec code i s).out = s.out ∧
    (State.clkRec code i s).pins = s.pins ∧ (State.clkRec code i s).md = s.md ∧
    (State.clkRec code i s).host = s.host ∧ (State.clkRec code i s).cmds = s.cmds ∧
    (State.clkRec code i s).clk = s.clk ∧ (State.clkRec code i s).ref = s.ref ∧
    (State.clkRec code i s).kennel = s.kennel ∧ (State.clkRec code i s).time = s.time ∧
    (State.clkRec code i s).buf = s.buf ∧ (State.clkRec code i s).port = s.port ∧
    (State.clkRec code i s).slices = s.slices ∧ (State.clkRec code i s).tab = s.tab ∧
    (State.clkRec code i s).gen = s.gen ∧ (State.clkRec code i s).core = s.core ∧
    (State.clkRec code i s).sch = s.sch ∧ (State.clkRec code i s).tel = s.tel ∧
    (State.clkRec code i s).pwr = s.pwr ∧ (State.clkRec code i s).regs = s.regs ∧
    (State.clkRec code i s).cnts = s.cnts ∧ (State.clkRec code i s).flt.keel0 = s.flt.keel0 ∧
    (State.clkRec code i s).flt.keel1 = s.flt.keel1 := by
  (unfold State.clkRec; split <;> simp only [State.follow_keeps, ite_self, and_self, implies_true, Ran.st_done, Ran.st_wait, Ran.st_refuse, Ran.st_ite, snd_ite, ite_pending, ite_now, ite_serial, ite_out, ite_pins, ite_md, ite_host, ite_cmds, ite_clk, ite_ref, ite_kennel, ite_time, ite_buf, ite_port, ite_slices, ite_tab, ite_gen, ite_core, ite_sch, ite_tel, ite_pwr, ite_regs, ite_cnts, ite_flt_keel0, ite_flt_keel1, foldl_pending, foldl_now, foldl_serial, foldl_out, foldl_pins, foldl_md, foldl_host, foldl_cmds, foldl_clk, foldl_ref, foldl_kennel, foldl_time, foldl_buf, foldl_port, foldl_slices, foldl_tab, foldl_gen, foldl_core, foldl_sch, foldl_tel, foldl_pwr, foldl_regs, foldl_cnts, foldl_flt_keel0, foldl_flt_keel1, foldl_snd_pending, foldl_snd_now, foldl_snd_serial, foldl_snd_out, foldl_snd_pins, foldl_snd_md, foldl_snd_host, foldl_snd_cmds, foldl_snd_clk, foldl_snd_ref, foldl_snd_kennel, foldl_snd_time, foldl_snd_buf, foldl_snd_port, foldl_snd_slices, foldl_snd_tab, foldl_snd_gen, foldl_snd_core, foldl_snd_sch, foldl_snd_tel, foldl_snd_pwr, foldl_snd_regs, foldl_snd_cnts, foldl_snd_flt_keel0, foldl_snd_flt_keel1])

@[simp] theorem State.sysRefLost_keeps (i : Nat) (s : State) :
    (State.sysRefLost i s).pending = s.pending ∧ (State.sysRefLost i s).now = s.now ∧
    (State.sysRefLost i s).serial = s.serial ∧ (State.sysRefLost i s).out = s.out ∧
    (State.sysRefLost i s).pins = s.pins ∧ (State.sysRefLost i s).md = s.md ∧
    (State.sysRefLost i s).host = s.host ∧ (State.sysRefLost i s).cmds = s.cmds ∧
    (State.sysRefLost i s).ref = s.ref ∧ (State.sysRefLost i s).kennel = s.kennel ∧
    (State.sysRefLost i s).time = s.time ∧ (State.sysRefLost i s).buf = s.buf ∧
    (State.sysRefLost i s).port = s.port ∧ (State.sysRefLost i s).slices = s.slices ∧
    (State.sysRefLost i s).tab = s.tab ∧ (State.sysRefLost i s).gen = s.gen ∧
    (State.sysRefLost i s).core = s.core ∧ (State.sysRefLost i s).sch = s.sch ∧
    (State.sysRefLost i s).tel = s.tel ∧ (State.sysRefLost i s).pwr = s.pwr ∧
    (State.sysRefLost i s).regs = s.regs ∧ (State.sysRefLost i s).cnts = s.cnts ∧
    (State.sysRefLost i s).flt.keel0 = s.flt.keel0 ∧ (State.sysRefLost i s).flt.keel1 = s.flt.keel1 ∧
    (State.sysRefLost i s).clk.pipeCur = s.clk.pipeCur := by
  (unfold State.sysRefLost; simp only [State.clkRec_keeps, ite_self, and_self, implies_true, Ran.st_done, Ran.st_wait, Ran.st_refuse, Ran.st_ite, snd_ite, ite_pending, ite_now, ite_serial, ite_out, ite_pins, ite_md, ite_host, ite_cmds, ite_ref, ite_kennel, ite_time, ite_buf, ite_port, ite_slices, ite_tab, ite_gen, ite_core, ite_sch, ite_tel, ite_pwr, ite_regs, ite_cnts, ite_flt_keel0, ite_flt_keel1, ite_clk_pipeCur, foldl_pending, foldl_now, foldl_serial, foldl_out, foldl_pins, foldl_md, foldl_host, foldl_cmds, foldl_ref, foldl_kennel, foldl_time, foldl_buf, foldl_port, foldl_slices, foldl_tab, foldl_gen, foldl_core, foldl_sch, foldl_tel, foldl_pwr, foldl_regs, foldl_cnts, foldl_flt_keel0, foldl_flt_keel1, foldl_clk_pipeCur, foldl_snd_pending, foldl_snd_now, foldl_snd_serial, foldl_snd_out, foldl_snd_pins, foldl_snd_md, foldl_snd_host, foldl_snd_cmds, foldl_snd_ref, foldl_snd_kennel, foldl_snd_time, foldl_snd_buf, foldl_snd_port, foldl_snd_slices, foldl_snd_tab, foldl_snd_gen, foldl_snd_core, foldl_snd_sch, foldl_snd_tel, foldl_snd_pwr, foldl_snd_regs, foldl_snd_cnts, foldl_snd_flt_keel0, foldl_snd_flt_keel1, foldl_snd_clk_pipeCur]; done)

@[simp] theorem State.timePllLost_keeps (e : Side) (s : State) :
    (State.timePllLost e s).pending = s.pending ∧ (State.timePllLost e s).now = s.now ∧
    (State.timePllLost e s).serial = s.serial ∧ (State.timePllLost e s).pins = s.pins ∧
    (State.timePllLost e s).md = s.md ∧ (State.timePllLost e s).cmds = s.cmds ∧
    (State.timePllLost e s).clk = s.clk ∧ (State.timePllLost e s).ref = s.ref ∧
    (State.timePllLost e s).kennel = s.kennel ∧ (State.timePllLost e s).buf = s.buf ∧
    (State.timePllLost e s).port = s.port ∧ (State.timePllLost e s).slices = s.slices ∧
    (State.timePllLost e s).tab = s.tab ∧ (State.timePllLost e s).gen = s.gen ∧
    (State.timePllLost e s).core = s.core ∧ (State.timePllLost e s).sch = s.sch ∧
    (State.timePllLost e s).tel = s.tel ∧ (State.timePllLost e s).pwr = s.pwr ∧
    (State.timePllLost e s).regs = s.regs ∧ (State.timePllLost e s).cnts = s.cnts ∧
    (State.timePllLost e s).flt.keel0 = s.flt.keel0 := by
  (unfold State.timePllLost; simp only [State.teLost_keeps, State.setTe_keeps, ite_self, and_self, implies_true, Ran.st_done, Ran.st_wait, Ran.st_refuse, Ran.st_ite, snd_ite, ite_pending, ite_now, ite_serial, ite_pins, ite_md, ite_cmds, ite_clk, ite_ref, ite_kennel, ite_buf, ite_port, ite_slices, ite_tab, ite_gen, ite_core, ite_sch, ite_tel, ite_pwr, ite_regs, ite_cnts, ite_flt_keel0, foldl_pending, foldl_now, foldl_serial, foldl_pins, foldl_md, foldl_cmds, foldl_clk, foldl_ref, foldl_kennel, foldl_buf, foldl_port, foldl_slices, foldl_tab, foldl_gen, foldl_core, foldl_sch, foldl_tel, foldl_pwr, foldl_regs, foldl_cnts, foldl_flt_keel0, foldl_snd_pending, foldl_snd_now, foldl_snd_serial, foldl_snd_pins, foldl_snd_md, foldl_snd_cmds, foldl_snd_clk, foldl_snd_ref, foldl_snd_kennel, foldl_snd_buf, foldl_snd_port, foldl_snd_slices, foldl_snd_tab, foldl_snd_gen, foldl_snd_core, foldl_snd_sch, foldl_snd_tel, foldl_snd_pwr, foldl_snd_regs, foldl_snd_cnts, foldl_snd_flt_keel0]; done)

@[simp] theorem State.harpLost_keeps (h : Nat) (pick : Draw) (s : State) :
    (State.harpLost h pick s).pending = s.pending ∧ (State.harpLost h pick s).now = s.now ∧
    (State.harpLost h pick s).serial = s.serial ∧ (State.harpLost h pick s).pins = s.pins ∧
    (State.harpLost h pick s).md = s.md ∧ (State.harpLost h pick s).cmds = s.cmds ∧
    (State.harpLost h pick s).clk = s.clk ∧ (State.harpLost h pick s).kennel = s.kennel ∧
    (State.harpLost h pick s).slices = s.slices ∧ (State.harpLost h pick s).tab = s.tab ∧
    (State.harpLost h pick s).pwr = s.pwr ∧ (State.harpLost h pick s).regs = s.regs ∧
    (State.harpLost h pick s).flt.keel0 = s.flt.keel0 ∧ (State.harpLost h pick s).flt.keel1 = s.flt.keel1 := by
  (unfold State.harpLost; simp only [State.restartPort_keeps, ite_self, and_self, implies_true, Ran.st_done, Ran.st_wait, Ran.st_refuse, Ran.st_ite, snd_ite, ite_pending, ite_now, ite_serial, ite_pins, ite_md, ite_cmds, ite_clk, ite_kennel, ite_slices, ite_tab, ite_pwr, ite_regs, ite_flt_keel0, ite_flt_keel1, foldl_pending, foldl_now, foldl_serial, foldl_pins, foldl_md, foldl_cmds, foldl_clk, foldl_kennel, foldl_slices, foldl_tab, foldl_pwr, foldl_regs, foldl_flt_keel0, foldl_flt_keel1, foldl_snd_pending, foldl_snd_now, foldl_snd_serial, foldl_snd_pins, foldl_snd_md, foldl_snd_cmds, foldl_snd_clk, foldl_snd_kennel, foldl_snd_slices, foldl_snd_tab, foldl_snd_pwr, foldl_snd_regs, foldl_snd_flt_keel0, foldl_snd_flt_keel1]; done)

@[simp] theorem State.hostPllLost_keeps (p : HostPort) (s : State) :
    (State.hostPllLost p s).pending = s.pending ∧ (State.hostPllLost p s).now = s.now ∧
    (State.hostPllLost p s).serial = s.serial ∧ (State.hostPllLost p s).pins = s.pins ∧
    (State.hostPllLost p s).md = s.md ∧ (State.hostPllLost p s).cmds = s.cmds ∧
    (State.hostPllLost p s).clk = s.clk ∧ (State.hostPllLost p s).ref = s.ref ∧
    (State.hostPllLost p s).kennel = s.kennel ∧ (State.hostPllLost p s).time = s.time ∧
    (State.hostPllLost p s).buf = s.buf ∧ (State.hostPllLost p s).port = s.port ∧
    (State.hostPllLost p s).slices = s.slices ∧ (State.hostPllLost p s).tab = s.tab ∧
    (State.hostPllLost p s).gen = s.gen ∧ (State.hostPllLost p s).sch = s.sch ∧
    (State.hostPllLost p s).tel = s.tel ∧ (State.hostPllLost p s).pwr = s.pwr ∧
    (State.hostPllLost p s).regs = s.regs ∧ (State.hostPllLost p s).cnts = s.cnts ∧
    (State.hostPllLost p s).flt.keel0 = s.flt.keel0 := by
  (unfold State.hostPllLost; simp only [State.onHalf_keeps, State.trigger_keeps, ite_self, and_self, implies_true, Ran.st_done, Ran.st_wait, Ran.st_refuse, Ran.st_ite, snd_ite, ite_pending, ite_now, ite_serial, ite_pins, ite_md, ite_cmds, ite_clk, ite_ref, ite_kennel, ite_time, ite_buf, ite_port, ite_slices, ite_tab, ite_gen, ite_sch, ite_tel, ite_pwr, ite_regs, ite_cnts, ite_flt_keel0, foldl_pending, foldl_now, foldl_serial, foldl_pins, foldl_md, foldl_cmds, foldl_clk, foldl_ref, foldl_kennel, foldl_time, foldl_buf, foldl_port, foldl_slices, foldl_tab, foldl_gen, foldl_sch, foldl_tel, foldl_pwr, foldl_regs, foldl_cnts, foldl_flt_keel0, foldl_snd_pending, foldl_snd_now, foldl_snd_serial, foldl_snd_pins, foldl_snd_md, foldl_snd_cmds, foldl_snd_clk, foldl_snd_ref, foldl_snd_kennel, foldl_snd_time, foldl_snd_buf, foldl_snd_port, foldl_snd_slices, foldl_snd_tab, foldl_snd_gen, foldl_snd_sch, foldl_snd_tel, foldl_snd_pwr, foldl_snd_regs, foldl_snd_cnts, foldl_snd_flt_keel0]; done)

@[simp] theorem State.clockLost_keeps (i : Nat) (pick : Draw) (s : State) :
    (State.clockLost i pick s).pending = s.pending ∧ (State.clockLost i pick s).now = s.now ∧
    (State.clockLost i pick s).serial = s.serial ∧ (State.clockLost i pick s).pins = s.pins ∧
    (State.clockLost i pick s).md = s.md ∧ (State.clockLost i pick s).cmds = s.cmds ∧
    (State.clockLost i pick s).kennel = s.kennel ∧ (State.clockLost i pick s).slices = s.slices ∧
    (State.clockLost i pick s).tab = s.tab ∧ (State.clockLost i pick s).regs = s.regs ∧
    (State.clockLost i pick s).flt.keel0 = s.flt.keel0 ∧ (State.clockLost i pick s).clk.pipeCur = s.clk.pipeCur := by
  (unfold State.clockLost; simp only [State.sysRefLost_keeps, State.judgeCollies_keeps, State.harpLost_keeps, State.timePllLost_keeps, State.clkRec_keeps, State.hostPllLost_keeps, ite_self, and_self, implies_true, Ran.st_done, Ran.st_wait, Ran.st_refuse, Ran.st_ite, snd_ite, ite_pending, ite_now, ite_serial, ite_pins, ite_md, ite_cmds, ite_kennel, ite_slices, ite_tab, ite_regs, ite_flt_keel0, ite_clk_pipeCur, foldl_pending, foldl_now, foldl_serial, foldl_pins, foldl_md, foldl_cmds, foldl_kennel, foldl_slices, foldl_tab, foldl_regs, foldl_flt_keel0, foldl_clk_pipeCur, foldl_snd_pending, foldl_snd_now, foldl_snd_serial, foldl_snd_pins, foldl_snd_md, foldl_snd_cmds, foldl_snd_kennel, foldl_snd_slices, foldl_snd_tab, foldl_snd_regs, foldl_snd_flt_keel0, foldl_snd_clk_pipeCur]; done)

@[simp] theorem State.startTe_keeps (e : Side) (s : State) :
    (State.startTe e s).pending = s.pending ∧ (State.startTe e s).now = s.now ∧
    (State.startTe e s).serial = s.serial ∧ (State.startTe e s).out = s.out ∧ (State.startTe e s).pins = s.pins ∧
    (State.startTe e s).md = s.md ∧ (State.startTe e s).host = s.host ∧ (State.startTe e s).cmds = s.cmds ∧
    (State.startTe e s).flt = s.flt ∧ (State.startTe e s).clk = s.clk ∧ (State.startTe e s).ref = s.ref ∧
    (State.startTe e s).kennel = s.kennel ∧ (State.startTe e s).buf = s.buf ∧ (State.startTe e s).port = s.port ∧
    (State.startTe e s).slices = s.slices ∧ (State.startTe e s).tab = s.tab ∧ (State.startTe e s).gen = s.gen ∧
    (State.startTe e s).core = s.core ∧ (State.startTe e s).sch = s.sch ∧ (State.startTe e s).tel = s.tel ∧
    (State.startTe e s).pwr = s.pwr ∧ (State.startTe e s).regs = s.regs ∧ (State.startTe e s).cnts = s.cnts := by
  (unfold State.startTe; simp only [State.setTe_keeps, ite_self, and_self, implies_true, Ran.st_done, Ran.st_wait, Ran.st_refuse, Ran.st_ite, snd_ite, ite_pending, ite_now, ite_serial, ite_out, ite_pins, ite_md, ite_host, ite_cmds, ite_flt, ite_clk, ite_ref, ite_kennel, ite_buf, ite_port, ite_slices, ite_tab, ite_gen, ite_core, ite_sch, ite_tel, ite_pwr, ite_regs, ite_cnts, foldl_pending, foldl_now, foldl_serial, foldl_out, foldl_pins, foldl_md, foldl_host, foldl_cmds, foldl_flt, foldl_clk, foldl_ref, foldl_kennel, foldl_buf, foldl_port, foldl_slices, foldl_tab, foldl_gen, foldl_core, foldl_sch, foldl_tel, foldl_pwr, foldl_regs, foldl_cnts, foldl_snd_pending, foldl_snd_now, foldl_snd_serial, foldl_snd_out, foldl_snd_pins, foldl_snd_md, foldl_snd_host, foldl_snd_cmds, foldl_snd_flt, foldl_snd_clk, foldl_snd_ref, foldl_snd_kennel, foldl_snd_buf, foldl_snd_port, foldl_snd_slices, foldl_snd_tab, foldl_snd_gen, foldl_snd_core, foldl_snd_sch, foldl_snd_tel, foldl_snd_pwr, foldl_snd_regs, foldl_snd_cnts]; done)

@[simp] theorem State.clockStable_keeps (i : Nat) (s : State) :
    (State.clockStable i s).pending = s.pending ∧ (State.clockStable i s).now = s.now ∧
    (State.clockStable i s).serial = s.serial ∧ (State.clockStable i s).out = s.out ∧
    (State.clockStable i s).pins = s.pins ∧ (State.clockStable i s).md = s.md ∧
    (State.clockStable i s).host = s.host ∧ (State.clockStable i s).cmds = s.cmds ∧
    (State.clockStable i s).flt = s.flt ∧ (State.clockStable i s).clk = s.clk ∧
    (State.clockStable i s).ref = s.ref ∧ (State.clockStable i s).kennel = s.kennel ∧
    (State.clockStable i s).buf = s.buf ∧ (State.clockStable i s).port = s.port ∧
    (State.clockStable i s).slices = s.slices ∧ (State.clockStable i s).tab = s.tab ∧
    (State.clockStable i s).gen = s.gen ∧ (State.clockStable i s).core = s.core ∧
    (State.clockStable i s).sch = s.sch ∧ (State.clockStable i s).tel = s.tel ∧
    (State.clockStable i s).pwr = s.pwr ∧ (State.clockStable i s).regs = s.regs ∧
    (State.clockStable i s).cnts = s.cnts := by
  (unfold State.clockStable; simp only [State.startTe_keeps, ite_self, and_self, implies_true, Ran.st_done, Ran.st_wait, Ran.st_refuse, Ran.st_ite, snd_ite, ite_pending, ite_now, ite_serial, ite_out, ite_pins, ite_md, ite_host, ite_cmds, ite_flt, ite_clk, ite_ref, ite_kennel, ite_buf, ite_port, ite_slices, ite_tab, ite_gen, ite_core, ite_sch, ite_tel, ite_pwr, ite_regs, ite_cnts, foldl_pending, foldl_now, foldl_serial, foldl_out, foldl_pins, foldl_md, foldl_host, foldl_cmds, foldl_flt, foldl_clk, foldl_ref, foldl_kennel, foldl_buf, foldl_port, foldl_slices, foldl_tab, foldl_gen, foldl_core, foldl_sch, foldl_tel, foldl_pwr, foldl_regs, foldl_cnts, foldl_snd_pending, foldl_snd_now, foldl_snd_serial, foldl_snd_out, foldl_snd_pins, foldl_snd_md, foldl_snd_host, foldl_snd_cmds, foldl_snd_flt, foldl_snd_clk, foldl_snd_ref, foldl_snd_kennel, foldl_snd_buf, foldl_snd_port, foldl_snd_slices, foldl_snd_tab, foldl_snd_gen, foldl_snd_core, foldl_snd_sch, foldl_snd_tel, foldl_snd_pwr, foldl_snd_regs, foldl_snd_cnts]; done)

@[simp] theorem State.pickRef_keeps (s : State) :
    (State.pickRef s).pending = s.pending ∧ (State.pickRef s).now = s.now ∧ (State.pickRef s).serial = s.serial ∧
    (State.pickRef s).out = s.out ∧ (State.pickRef s).pins = s.pins ∧ (State.pickRef s).md = s.md ∧
    (State.pickRef s).host = s.host ∧ (State.pickRef s).cmds = s.cmds ∧ (State.pickRef s).flt = s.flt ∧
    (State.pickRef s).ref = s.ref ∧ (State.pickRef s).kennel = s.kennel ∧ (State.pickRef s).time = s.time ∧
    (State.pickRef s).buf = s.buf ∧ (State.pickRef s).port = s.port ∧ (State.pickRef s).slices = s.slices ∧
    (State.pickRef s).tab = s.tab ∧ (State.pickRef s).gen = s.gen ∧ (State.pickRef s).core = s.core ∧
    (State.pickRef s).sch = s.sch ∧ (State.pickRef s).tel = s.tel ∧ (State.pickRef s).pwr = s.pwr ∧
    (State.pickRef s).regs = s.regs ∧ (State.pickRef s).cnts = s.cnts ∧
    (State.pickRef s).clk.pipeCur = s.clk.pipeCur := by
  (unfold State.pickRef; simp only [ite_self, and_self, implies_true, Ran.st_done, Ran.st_wait, Ran.st_refuse, Ran.st_ite, snd_ite, ite_pending, ite_now, ite_serial, ite_out, ite_pins, ite_md, ite_host, ite_cmds, ite_flt, ite_ref, ite_kennel, ite_time, ite_buf, ite_port, ite_slices, ite_tab, ite_gen, ite_core, ite_sch, ite_tel, ite_pwr, ite_regs, ite_cnts, ite_clk_pipeCur, foldl_pending, foldl_now, foldl_serial, foldl_out, foldl_pins, foldl_md, foldl_host, foldl_cmds, foldl_flt, foldl_ref, foldl_kennel, foldl_time, foldl_buf, foldl_port, foldl_slices, foldl_tab, foldl_gen, foldl_core, foldl_sch, foldl_tel, foldl_pwr, foldl_regs, foldl_cnts, foldl_clk_pipeCur, foldl_snd_pending, foldl_snd_now, foldl_snd_serial, foldl_snd_out, foldl_snd_pins, foldl_snd_md, foldl_snd_host, foldl_snd_cmds, foldl_snd_flt, foldl_snd_ref, foldl_snd_kennel, foldl_snd_time, foldl_snd_buf, foldl_snd_port, foldl_snd_slices, foldl_snd_tab, foldl_snd_gen, foldl_snd_core, foldl_snd_sch, foldl_snd_tel, foldl_snd_pwr, foldl_snd_regs, foldl_snd_cnts, foldl_snd_clk_pipeCur]; done)

@[simp] theorem State.clocksDone_keeps (s : State) :
    (State.clocksDone s).pending = s.pending ∧ (State.clocksDone s).now = s.now ∧
    (State.clocksDone s).serial = s.serial ∧ (State.clocksDone s).out = s.out ∧
    (State.clocksDone s).pins = s.pins ∧ (State.clocksDone s).host = s.host ∧ (State.clocksDone s).cmds = s.cmds ∧
    (State.clocksDone s).clk = s.clk ∧ (State.clocksDone s).kennel = s.kennel ∧
    (State.clocksDone s).time = s.time ∧ (State.clocksDone s).buf = s.buf ∧ (State.clocksDone s).port = s.port ∧
    (State.clocksDone s).slices = s.slices ∧ (State.clocksDone s).tab = s.tab ∧ (State.clocksDone s).gen = s.gen ∧
    (State.clocksDone s).core = s.core ∧ (State.clocksDone s).sch = s.sch ∧ (State.clocksDone s).tel = s.tel ∧
    (State.clocksDone s).pwr = s.pwr ∧ (State.clocksDone s).regs = s.regs ∧ (State.clocksDone s).cnts = s.cnts ∧
    (State.clocksDone s).flt.keel0 = s.flt.keel0 := by
  unfold State.clocksDone
  (try dsimp only)
  (repeat' split) <;> first | (simp; done) | (rename_i q; simp [snd_of q]; done) | (rename_i q _; simp [snd_of q]; done)

@[simp] theorem State.judged_keeps (i count : Nat) (pass : Bool) (k : Judge) (s : State) :
    (State.judged i count pass k s).pending = s.pending ∧ (State.judged i count pass k s).now = s.now ∧
    (State.judged i count pass k s).serial = s.serial ∧ (State.judged i count pass k s).out = s.out ∧
    (State.judged i count pass k s).pins = s.pins ∧ (State.judged i count pass k s).md = s.md ∧
    (State.judged i count pass k s).host = s.host ∧ (State.judged i count pass k s).cmds = s.cmds ∧
    (State.judged i count pass k s).flt = s.flt ∧ (State.judged i count pass k s).ref = s.ref ∧
    (State.judged i count pass k s).kennel = s.kennel ∧ (State.judged i count pass k s).time = s.time ∧
    (State.judged i count pass k s).buf = s.buf ∧ (State.judged i count pass k s).slices = s.slices ∧
    (State.judged i count pass k s).tab = s.tab ∧ (State.judged i count pass k s).gen = s.gen ∧
    (State.judged i count pass k s).core = s.core ∧ (State.judged i count pass k s).sch = s.sch ∧
    (State.judged i count pass k s).tel = s.tel ∧ (State.judged i count pass k s).pwr = s.pwr ∧
    (State.judged i count pass k s).regs = s.regs ∧ (State.judged i count pass k s).cnts = s.cnts ∧
    (State.judged i count pass k s).clk.pipeCur = s.clk.pipeCur := by
  (unfold State.judged; simp only [ite_self, and_self, implies_true, Ran.st_done, Ran.st_wait, Ran.st_refuse, Ran.st_ite, snd_ite, foldl_pending, foldl_now, foldl_serial, foldl_out, foldl_pins, foldl_md, foldl_host, foldl_cmds, foldl_flt, foldl_ref, foldl_kennel, foldl_time, foldl_buf, foldl_slices, foldl_tab, foldl_gen, foldl_core, foldl_sch, foldl_tel, foldl_pwr, foldl_regs, foldl_cnts, foldl_clk_pipeCur, foldl_snd_pending, foldl_snd_now, foldl_snd_serial, foldl_snd_out, foldl_snd_pins, foldl_snd_md, foldl_snd_host, foldl_snd_cmds, foldl_snd_flt, foldl_snd_ref, foldl_snd_kennel, foldl_snd_time, foldl_snd_buf, foldl_snd_slices, foldl_snd_tab, foldl_snd_gen, foldl_snd_core, foldl_snd_sch, foldl_snd_tel, foldl_snd_pwr, foldl_snd_regs, foldl_snd_cnts, foldl_snd_clk_pipeCur]; done)

@[simp] theorem State.judgeChange_keeps (i : Nat) (pick : Draw) (was is' : Bool) (s : State) :
    (State.judgeChange i pick was is' s).pending = s.pending ∧ (State.judgeChange i pick was is' s).now = s.now ∧
    (State.judgeChange i pick was is' s).serial = s.serial ∧ (State.judgeChange i pick was is' s).pins = s.pins ∧
    (State.judgeChange i pick was is' s).md = s.md ∧ (State.judgeChange i pick was is' s).cmds = s.cmds ∧
    (State.judgeChange i pick was is' s).kennel = s.kennel ∧
    (State.judgeChange i pick was is' s).slices = s.slices ∧ (State.judgeChange i pick was is' s).tab = s.tab ∧
    (State.judgeChange i pick was is' s).regs = s.regs ∧
    (State.judgeChange i pick was is' s).flt.keel0 = s.flt.keel0 ∧
    (State.judgeChange i pick was is' s).clk.pipeCur = s.clk.pipeCur := by
  (unfold State.judgeChange; simp only [State.clockStable_keeps, State.clockLost_keeps, ite_self, and_self, implies_true, Ran.st_done, Ran.st_wait, Ran.st_refuse, Ran.st_ite, snd_ite, ite_pending, ite_now, ite_serial, ite_pins, ite_md, ite_cmds, ite_kennel, ite_slices, ite_tab, ite_regs, ite_flt_keel0, ite_clk_pipeCur, foldl_pending, foldl_now, foldl_serial, foldl_pins, foldl_md, foldl_cmds, foldl_kennel, foldl_slices, foldl_tab, foldl_regs, foldl_flt_keel0, foldl_clk_pipeCur, foldl_snd_pending, foldl_snd_now, foldl_snd_serial, foldl_snd_pins, foldl_snd_md, foldl_snd_cmds, foldl_snd_kennel, foldl_snd_slices, foldl_snd_tab, foldl_snd_regs, foldl_snd_flt_keel0, foldl_snd_clk_pipeCur]; done)
end Sys2Proof.Machine
end

