-- ==== Sys2Proof/Laws/KeepsModes.lean ====
section
/-! SUPPORT. What each operation of Machine/Modes.lean keeps: the parts of the state that it leaves as they are. -/
set_option linter.unusedSimpArgs false
set_option linter.unusedVariables false
namespace Sys2Proof.Machine
open Host (Outcome)

@[simp] theorem State.lanesDown_keeps (s : State) :
    (State.lanesDown s).pending = s.pending ∧ (State.lanesDown s).now = s.now ∧
    (State.lanesDown s).serial = s.serial ∧ (State.lanesDown s).pins = s.pins ∧ (State.lanesDown s).md = s.md ∧
    (State.lanesDown s).cmds = s.cmds ∧ (State.lanesDown s).clk = s.clk ∧ (State.lanesDown s).kennel = s.kennel ∧
    (State.lanesDown s).slices = s.slices ∧ (State.lanesDown s).tab = s.tab ∧ (State.lanesDown s).pwr = s.pwr ∧
    (State.lanesDown s).regs = s.regs ∧ (State.lanesDown s).flt.keel0 = s.flt.keel0 ∧
    (State.lanesDown s).flt.keel1 = s.flt.keel1 := by
  (unfold State.lanesDown; simp only [State.dropBack_keeps, ite_self, and_self, implies_true, Ran.st_done, Ran.st_wait, Ran.st_refuse, Ran.st_ite, snd_ite, foldl_pending, foldl_now, foldl_serial, foldl_pins, foldl_md, foldl_cmds, foldl_clk, foldl_kennel, foldl_slices, foldl_tab, foldl_pwr, foldl_regs, foldl_flt_keel0, foldl_flt_keel1, foldl_snd_pending, foldl_snd_now, foldl_snd_serial, foldl_snd_pins, foldl_snd_md, foldl_snd_cmds, foldl_snd_clk, foldl_snd_kennel, foldl_snd_slices, foldl_snd_tab, foldl_snd_pwr, foldl_snd_regs, foldl_snd_flt_keel0, foldl_snd_flt_keel1]; done)

@[simp] theorem State.moveMode_keeps (m : Mode) (cause : Nat) (s : State) :
    (State.moveMode m cause s).2.pending = s.pending ∧ (State.moveMode m cause s).2.now = s.now ∧
    (State.moveMode m cause s).2.serial = s.serial ∧ (State.moveMode m cause s).2.pins = s.pins ∧
    (State.moveMode m cause s).2.cmds = s.cmds ∧ (State.moveMode m cause s).2.clk = s.clk ∧
    (State.moveMode m cause s).2.kennel = s.kennel ∧ (State.moveMode m cause s).2.slices = s.slices ∧
    (State.moveMode m cause s).2.tab = s.tab ∧ (State.moveMode m cause s).2.pwr = s.pwr ∧
    (State.moveMode m cause s).2.regs = s.regs := by
  unfold State.moveMode
  dsimp only
  split <;> (rename_i q; simp [snd_of q])

@[simp] theorem State.finishReq_keeps (st : Status) (dropped : Nat) (s : State) :
    (State.finishReq st dropped s).pending = s.pending ∧ (State.finishReq st dropped s).now = s.now ∧
    (State.finishReq st dropped s).serial = s.serial ∧ (State.finishReq st dropped s).pins = s.pins ∧
    (State.finishReq st dropped s).clk = s.clk ∧ (State.finishReq st dropped s).kennel = s.kennel ∧
    (State.finishReq st dropped s).slices = s.slices ∧ (State.finishReq st dropped s).tab = s.tab ∧
    (State.finishReq st dropped s).pwr = s.pwr ∧ (State.finishReq st dropped s).regs = s.regs := by
  unfold State.finishReq
  split
  · simp
  · split
    · rename_i q; split <;> simp [snd_of q]
    · rename_i q; split <;> simp [snd_of q]

@[simp] theorem State.startUnpark_keeps (s : State) :
    (State.startUnpark s).pending = s.pending ∧ (State.startUnpark s).now = s.now ∧
    (State.startUnpark s).serial = s.serial ∧ (State.startUnpark s).out = s.out ∧
    (State.startUnpark s).pins = s.pins ∧ (State.startUnpark s).md = s.md ∧ (State.startUnpark s).host = s.host ∧
    (State.startUnpark s).cmds = s.cmds ∧ (State.startUnpark s).flt = s.flt ∧ (State.startUnpark s).clk = s.clk ∧
    (State.startUnpark s).ref = s.ref ∧ (State.startUnpark s).kennel = s.kennel ∧
    (State.startUnpark s).time = s.time ∧ (State.startUnpark s).buf = s.buf ∧ (State.startUnpark s).port = s.port ∧
    (State.startUnpark s).slices = s.slices ∧ (State.startUnpark s).tab = s.tab ∧
    (State.startUnpark s).gen = s.gen ∧ (State.startUnpark s).core = s.core ∧ (State.startUnpark s).sch = s.sch ∧
    (State.startUnpark s).tel = s.tel ∧ (State.startUnpark s).regs = s.regs ∧ (State.startUnpark s).cnts = s.cnts := by
  (unfold State.startUnpark; simp only [ite_self, and_self, implies_true, Ran.st_done, Ran.st_wait, Ran.st_refuse, Ran.st_ite, snd_ite, foldl_pending, foldl_now, foldl_serial, foldl_out, foldl_pins, foldl_md, foldl_host, foldl_cmds, foldl_flt, foldl_clk, foldl_ref, foldl_kennel, foldl_time, foldl_buf, foldl_port, foldl_slices, foldl_tab, foldl_gen, foldl_core, foldl_sch, foldl_tel, foldl_regs, foldl_cnts, foldl_snd_pending, foldl_snd_now, foldl_snd_serial, foldl_snd_out, foldl_snd_pins, foldl_snd_md, foldl_snd_host, foldl_snd_cmds, foldl_snd_flt, foldl_snd_clk, foldl_snd_ref, foldl_snd_kennel, foldl_snd_time, foldl_snd_buf, foldl_snd_port, foldl_snd_slices, foldl_snd_tab, foldl_snd_gen, foldl_snd_core, foldl_snd_sch, foldl_snd_tel, foldl_snd_regs, foldl_snd_cnts]; done)

@[simp] theorem State.unparkDone_keeps (s : State) :
    (State.unparkDone s).pending = s.pending ∧ (State.unparkDone s).now = s.now ∧
    (State.unparkDone s).serial = s.serial ∧ (State.unparkDone s).pins = s.pins ∧
    (State.unparkDone s).clk = s.clk ∧ (State.unparkDone s).kennel = s.kennel ∧
    (State.unparkDone s).slices = s.slices ∧ (State.unparkDone s).tab = s.tab ∧ (State.unparkDone s).pwr = s.pwr ∧
    (State.unparkDone s).regs = s.regs := by
  (unfold State.unparkDone; simp only [State.finishReq_keeps, ite_self, and_self, implies_true, Ran.st_done, Ran.st_wait, Ran.st_refuse, Ran.st_ite, snd_ite, ite_pending, ite_now, ite_serial, ite_pins, ite_clk, ite_kennel, ite_slices, ite_tab, ite_pwr, ite_regs, foldl_pending, foldl_now, foldl_serial, foldl_pins, foldl_clk, foldl_kennel, foldl_slices, foldl_tab, foldl_pwr, foldl_regs, foldl_snd_pending, foldl_snd_now, foldl_snd_serial, foldl_snd_pins, foldl_snd_clk, foldl_snd_kennel, foldl_snd_slices, foldl_snd_tab, foldl_snd_pwr, foldl_snd_regs]; done)

@[simp] theorem State.startReq_keeps (c : Cmd) (m : Mode) (s : State) :
    (State.startReq c m s).pending = s.pending ∧ (State.startReq c m s).now = s.now ∧
    (State.startReq c m s).serial = s.serial ∧ (State.startReq c m s).out = s.out ∧
    (State.startReq c m s).pins = s.pins ∧ (State.startReq c m s).host = s.host ∧
    (State.startReq c m s).cmds = s.cmds ∧ (State.startReq c m s).flt = s.flt ∧
    (State.startReq c m s).clk = s.clk ∧ (State.startReq c m s).ref = s.ref ∧
    (State.startReq c m s).kennel = s.kennel ∧ (State.startReq c m s).time = s.time ∧
    (State.startReq c m s).buf = s.buf ∧ (State.startReq c m s).port = s.port ∧
    (State.startReq c m s).slices = s.slices ∧ (State.startReq c m s).tab = s.tab ∧
    (State.startReq c m s).gen = s.gen ∧ (State.startReq c m s).core = s.core ∧
    (State.startReq c m s).sch = s.sch ∧ (State.startReq c m s).tel = s.tel ∧
    (State.startReq c m s).regs = s.regs ∧ (State.startReq c m s).cnts = s.cnts := by
  (unfold State.startReq; simp only [State.startUnpark_keeps, ite_self, and_self, implies_true, Ran.st_done, Ran.st_wait, Ran.st_refuse, Ran.st_ite, snd_ite, ite_pending, ite_now, ite_serial, ite_out, ite_pins, ite_host, ite_cmds, ite_flt, ite_clk, ite_ref, ite_kennel, ite_time, ite_buf, ite_port, ite_slices, ite_tab, ite_gen, ite_core, ite_sch, ite_tel, ite_regs, ite_cnts, foldl_pending, foldl_now, foldl_serial, foldl_out, foldl_pins, foldl_host, foldl_cmds, foldl_flt, foldl_clk, foldl_ref, foldl_kennel, foldl_time, foldl_buf, foldl_port, foldl_slices, foldl_tab, foldl_gen, foldl_core, foldl_sch, foldl_tel, foldl_regs, foldl_cnts, foldl_snd_pending, foldl_snd_now, foldl_snd_serial, foldl_snd_out, foldl_snd_pins, foldl_snd_host, foldl_snd_cmds, foldl_snd_flt, foldl_snd_clk, foldl_snd_ref, foldl_snd_kennel, foldl_snd_time, foldl_snd_buf, foldl_snd_port, foldl_snd_slices, foldl_snd_tab, foldl_snd_gen, foldl_snd_core, foldl_snd_sch, foldl_snd_tel, foldl_snd_regs, foldl_snd_cnts]; done)

@[simp] theorem State.backToForward_keeps (s : State) :
    (State.backToForward s).st.pending = s.pending ∧ (State.backToForward s).st.now = s.now ∧
    (State.backToForward s).st.serial = s.serial ∧ (State.backToForward s).st.pins = s.pins ∧
    (State.backToForward s).st.clk = s.clk ∧ (State.backToForward s).st.kennel = s.kennel ∧
    (State.backToForward s).st.slices = s.slices ∧ (State.backToForward s).st.tab = s.tab ∧
    (State.backToForward s).st.pwr = s.pwr ∧ (State.backToForward s).st.regs = s.regs := by
  unfold State.backToForward
  dsimp only
  split
  · rename_i q; rw [Ran.st_done]; split <;> simp [snd_of q]
  · rename_i q; simp [snd_of q]

@[simp] theorem State.flushPkts_keeps (pick : Draw) (s : State) :
    (State.flushPkts pick s).pending = s.pending ∧ (State.flushPkts pick s).now = s.now ∧
    (State.flushPkts pick s).serial = s.serial ∧ (State.flushPkts pick s).pins = s.pins ∧
    (State.flushPkts pick s).md = s.md ∧ (State.flushPkts pick s).cmds = s.cmds ∧
    (State.flushPkts pick s).clk = s.clk ∧ (State.flushPkts pick s).kennel = s.kennel ∧
    (State.flushPkts pick s).time = s.time ∧ (State.flushPkts pick s).port = s.port ∧
    (State.flushPkts pick s).slices = s.slices ∧ (State.flushPkts pick s).tab = s.tab ∧
    (State.flushPkts pick s).sch = s.sch ∧ (State.flushPkts pick s).pwr = s.pwr ∧
    (State.flushPkts pick s).regs = s.regs ∧ (State.flushPkts pick s).flt.keel0 = s.flt.keel0 ∧
    (State.flushPkts pick s).flt.keel1 = s.flt.keel1 := by
  (unfold State.flushPkts; simp only [State.dropPkt_keeps, ite_self, and_self, implies_true, Ran.st_done, Ran.st_wait, Ran.st_refuse, Ran.st_ite, snd_ite, foldl_pending, foldl_now, foldl_serial, foldl_pins, foldl_md, foldl_cmds, foldl_clk, foldl_kennel, foldl_time, foldl_port, foldl_slices, foldl_tab, foldl_sch, foldl_pwr, foldl_regs, foldl_flt_keel0, foldl_flt_keel1, foldl_snd_pending, foldl_snd_now, foldl_snd_serial, foldl_snd_pins, foldl_snd_md, foldl_snd_cmds, foldl_snd_clk, foldl_snd_kennel, foldl_snd_time, foldl_snd_port, foldl_snd_slices, foldl_snd_tab, foldl_snd_sch, foldl_snd_pwr, foldl_snd_regs, foldl_snd_flt_keel0, foldl_snd_flt_keel1]; done)

@[simp] theorem State.endTx_keeps (p : Nat) (s : State) :
    (State.endTx p s).pending = s.pending ∧ (State.endTx p s).now = s.now ∧ (State.endTx p s).serial = s.serial ∧
    (State.endTx p s).out = s.out ∧ (State.endTx p s).pins = s.pins ∧ (State.endTx p s).md = s.md ∧
    (State.endTx p s).host = s.host ∧ (State.endTx p s).cmds = s.cmds ∧ (State.endTx p s).flt = s.flt ∧
    (State.endTx p s).clk = s.clk ∧ (State.endTx p s).ref = s.ref ∧ (State.endTx p s).kennel = s.kennel ∧
    (State.endTx p s).time = s.time ∧ (State.endTx p s).buf = s.buf ∧ (State.endTx p s).port = s.port ∧
    (State.endTx p s).slices = s.slices ∧ (State.endTx p s).tab = s.tab ∧ (State.endTx p s).gen = s.gen ∧
    (State.endTx p s).sch = s.sch ∧ (State.endTx p s).tel = s.tel ∧ (State.endTx p s).pwr = s.pwr ∧
    (State.endTx p s).regs = s.regs ∧ (State.endTx p s).cnts = s.cnts := by
  (unfold State.endTx; simp only [ite_self, and_self, implies_true, Ran.st_done, Ran.st_wait, Ran.st_refuse, Ran.st_ite, snd_ite, foldl_pending, foldl_now, foldl_serial, foldl_out, foldl_pins, foldl_md, foldl_host, foldl_cmds, foldl_flt, foldl_clk, foldl_ref, foldl_kennel, foldl_time, foldl_buf, foldl_port, foldl_slices, foldl_tab, foldl_gen, foldl_sch, foldl_tel, foldl_pwr, foldl_regs, foldl_cnts, foldl_snd_pending, foldl_snd_now, foldl_snd_serial, foldl_snd_out, foldl_snd_pins, foldl_snd_md, foldl_snd_host, foldl_snd_cmds, foldl_snd_flt, foldl_snd_clk, foldl_snd_ref, foldl_snd_kennel, foldl_snd_time, foldl_snd_buf, foldl_snd_port, foldl_snd_slices, foldl_snd_tab, foldl_snd_gen, foldl_snd_sch, foldl_snd_tel, foldl_snd_pwr, foldl_snd_regs, foldl_snd_cnts]; done)

@[simp] theorem State.flushTx_keeps (pick : Draw) (s : State) :
    (State.flushTx pick s).pending = s.pending ∧ (State.flushTx pick s).now = s.now ∧
    (State.flushTx pick s).serial = s.serial ∧ (State.flushTx pick s).pins = s.pins ∧
    (State.flushTx pick s).md = s.md ∧ (State.flushTx pick s).cmds = s.cmds ∧ (State.flushTx pick s).clk = s.clk ∧
    (State.flushTx pick s).kennel = s.kennel ∧ (State.flushTx pick s).time = s.time ∧
    (State.flushTx pick s).port = s.port ∧ (State.flushTx pick s).slices = s.slices ∧
    (State.flushTx pick s).tab = s.tab ∧ (State.flushTx pick s).sch = s.sch ∧ (State.flushTx pick s).pwr = s.pwr ∧
    (State.flushTx pick s).regs = s.regs ∧ (State.flushTx pick s).flt.keel0 = s.flt.keel0 ∧
    (State.flushTx pick s).flt.keel1 = s.flt.keel1 := by
  (unfold State.flushTx; simp only [State.dropDesc_keeps, State.endTx_keeps, ite_self, and_self, implies_true, Ran.st_done, Ran.st_wait, Ran.st_refuse, Ran.st_ite, snd_ite, foldl_pending, foldl_now, foldl_serial, foldl_pins, foldl_md, foldl_cmds, foldl_clk, foldl_kennel, foldl_time, foldl_port, foldl_slices, foldl_tab, foldl_sch, foldl_pwr, foldl_regs, foldl_flt_keel0, foldl_flt_keel1, foldl_snd_pending, foldl_snd_now, foldl_snd_serial, foldl_snd_pins, foldl_snd_md, foldl_snd_cmds, foldl_snd_clk, foldl_snd_kennel, foldl_snd_time, foldl_snd_port, foldl_snd_slices, foldl_snd_tab, foldl_snd_sch, foldl_snd_pwr, foldl_snd_regs, foldl_snd_flt_keel0, foldl_snd_flt_keel1]; done)

@[simp] theorem State.flushList_keeps (pick : Draw) (l : List Desc) (s : State) :
    (State.flushList pick l s).pending = s.pending ∧ (State.flushList pick l s).now = s.now ∧
    (State.flushList pick l s).serial = s.serial ∧ (State.flushList pick l s).pins = s.pins ∧
    (State.flushList pick l s).md = s.md ∧ (State.flushList pick l s).cmds = s.cmds ∧
    (State.flushList pick l s).clk = s.clk ∧ (State.flushList pick l s).kennel = s.kennel ∧
    (State.flushList pick l s).time = s.time ∧ (State.flushList pick l s).port = s.port ∧
    (State.flushList pick l s).slices = s.slices ∧ (State.flushList pick l s).tab = s.tab ∧
    (State.flushList pick l s).sch = s.sch ∧ (State.flushList pick l s).pwr = s.pwr ∧
    (State.flushList pick l s).regs = s.regs ∧ (State.flushList pick l s).flt.keel0 = s.flt.keel0 ∧
    (State.flushList pick l s).flt.keel1 = s.flt.keel1 := by
  (unfold State.flushList; simp only [State.dropDesc_keeps, ite_self, and_self, implies_true, Ran.st_done, Ran.st_wait, Ran.st_refuse, Ran.st_ite, snd_ite, foldl_pending, foldl_now, foldl_serial, foldl_pins, foldl_md, foldl_cmds, foldl_clk, foldl_kennel, foldl_time, foldl_port, foldl_slices, foldl_tab, foldl_sch, foldl_pwr, foldl_regs, foldl_flt_keel0, foldl_flt_keel1, foldl_snd_pending, foldl_snd_now, foldl_snd_serial, foldl_snd_pins, foldl_snd_md, foldl_snd_cmds, foldl_snd_clk, foldl_snd_kennel, foldl_snd_time, foldl_snd_port, foldl_snd_slices, foldl_snd_tab, foldl_snd_sch, foldl_snd_pwr, foldl_snd_regs, foldl_snd_flt_keel0, foldl_snd_flt_keel1]; done)

@[simp] theorem State.flushQueues_keeps (pick : Draw) (s : State) :
    (State.flushQueues pick s).pending = s.pending ∧ (State.flushQueues pick s).now = s.now ∧
    (State.flushQueues pick s).serial = s.serial ∧ (State.flushQueues pick s).pins = s.pins ∧
    (State.flushQueues pick s).md = s.md ∧ (State.flushQueues pick s).cmds = s.cmds ∧
    (State.flushQueues pick s).clk = s.clk ∧ (State.flushQueues pick s).kennel = s.kennel ∧
    (State.flushQueues pick s).time = s.time ∧ (State.flushQueues pick s).port = s.port ∧
    (State.flushQueues pick s).slices = s.slices ∧ (State.flushQueues pick s).tab = s.tab ∧
    (State.flushQueues pick s).pwr = s.pwr ∧ (State.flushQueues pick s).regs = s.regs ∧
    (State.flushQueues pick s).flt.keel0 = s.flt.keel0 ∧ (State.flushQueues pick s).flt.keel1 = s.flt.keel1 := by
  (unfold State.flushQueues; simp only [State.flushList_keeps, State.leaveQueue_keeps, ite_self, and_self, implies_true, Ran.st_done, Ran.st_wait, Ran.st_refuse, Ran.st_ite, snd_ite, foldl_pending, foldl_now, foldl_serial, foldl_pins, foldl_md, foldl_cmds, foldl_clk, foldl_kennel, foldl_time, foldl_port, foldl_slices, foldl_tab, foldl_pwr, foldl_regs, foldl_flt_keel0, foldl_flt_keel1, foldl_snd_pending, foldl_snd_now, foldl_snd_serial, foldl_snd_pins, foldl_snd_md, foldl_snd_cmds, foldl_snd_clk, foldl_snd_kennel, foldl_snd_time, foldl_snd_port, foldl_snd_slices, foldl_snd_tab, foldl_snd_pwr, foldl_snd_regs, foldl_snd_flt_keel0, foldl_snd_flt_keel1]; done)

@[simp] theorem State.flushCopies_keeps (pick : Draw) (s : State) :
    (State.flushCopies pick s).pending = s.pending ∧ (State.flushCopies pick s).now = s.now ∧
    (State.flushCopies pick s).serial = s.serial ∧ (State.flushCopies pick s).pins = s.pins ∧
    (State.flushCopies pick s).md = s.md ∧ (State.flushCopies pick s).cmds = s.cmds ∧
    (State.flushCopies pick s).clk = s.clk ∧ (State.flushCopies pick s).kennel = s.kennel ∧
    (State.flushCopies pick s).time = s.time ∧ (State.flushCopies pick s).port = s.port ∧
    (State.flushCopies pick s).slices = s.slices ∧ (State.flushCopies pick s).tab = s.tab ∧
    (State.flushCopies pick s).sch = s.sch ∧ (State.flushCopies pick s).pwr = s.pwr ∧
    (State.flushCopies pick s).regs = s.regs ∧ (State.flushCopies pick s).flt.keel0 = s.flt.keel0 ∧
    (State.flushCopies pick s).flt.keel1 = s.flt.keel1 := by
  (unfold State.flushCopies; simp only [State.flushList_keeps, ite_self, and_self, implies_true, Ran.st_done, Ran.st_wait, Ran.st_refuse, Ran.st_ite, snd_ite, foldl_pending, foldl_now, foldl_serial, foldl_pins, foldl_md, foldl_cmds, foldl_clk, foldl_kennel, foldl_time, foldl_port, foldl_slices, foldl_tab, foldl_sch, foldl_pwr, foldl_regs, foldl_flt_keel0, foldl_flt_keel1, foldl_snd_pending, foldl_snd_now, foldl_snd_serial, foldl_snd_pins, foldl_snd_md, foldl_snd_cmds, foldl_snd_clk, foldl_snd_kennel, foldl_snd_time, foldl_snd_port, foldl_snd_slices, foldl_snd_tab, foldl_snd_sch, foldl_snd_pwr, foldl_snd_regs, foldl_snd_flt_keel0, foldl_snd_flt_keel1]; done)

@[simp] theorem State.flushAll_keeps (pick : Draw) (s : State) :
    (State.flushAll pick s).2.pending = s.pending ∧ (State.flushAll pick s).2.now = s.now ∧
    (State.flushAll pick s).2.serial = s.serial ∧ (State.flushAll pick s).2.pins = s.pins ∧
    (State.flushAll pick s).2.md = s.md ∧ (State.flushAll pick s).2.cmds = s.cmds ∧
    (State.flushAll pick s).2.clk = s.clk ∧ (State.flushAll pick s).2.kennel = s.kennel ∧
    (State.flushAll pick s).2.time = s.time ∧ (State.flushAll pick s).2.port = s.port ∧
    (State.flushAll pick s).2.slices = s.slices ∧ (State.flushAll pick s).2.tab = s.tab ∧
    (State.flushAll pick s).2.pwr = s.pwr ∧ (State.flushAll pick s).2.regs = s.regs ∧
    (State.flushAll pick s).2.flt.keel0 = s.flt.keel0 ∧ (State.flushAll pick s).2.flt.keel1 = s.flt.keel1 := by
  (unfold State.flushAll; simp only [State.flushQueues_keeps, State.flushTx_keeps, State.flushPkts_keeps, State.flushCopies_keeps, ite_self, and_self, implies_true, Ran.st_done, Ran.st_wait, Ran.st_refuse, Ran.st_ite, snd_ite, foldl_pending, foldl_now, foldl_serial, foldl_pins, foldl_md, foldl_cmds, foldl_clk, foldl_kennel, foldl_time, foldl_port, foldl_slices, foldl_tab, foldl_pwr, foldl_regs, foldl_flt_keel0, foldl_flt_keel1, foldl_snd_pending, foldl_snd_now, foldl_snd_serial, foldl_snd_pins, foldl_snd_md, foldl_snd_cmds, foldl_snd_clk, foldl_snd_kennel, foldl_snd_time, foldl_snd_port, foldl_snd_slices, foldl_snd_tab, foldl_snd_pwr, foldl_snd_regs, foldl_snd_flt_keel0, foldl_snd_flt_keel1]; done)

@[simp] theorem State.glResult_keeps (t r : Nat) (s : State) :
    (State.glResult t r s).pending = s.pending ∧ (State.glResult t r s).now = s.now ∧
    (State.glResult t r s).serial = s.serial ∧ (State.glResult t r s).out = s.out ∧
    (State.glResult t r s).pins = s.pins ∧ (State.glResult t r s).host = s.host ∧
    (State.glResult t r s).cmds = s.cmds ∧ (State.glResult t r s).flt = s.flt ∧
    (State.glResult t r s).clk = s.clk ∧ (State.glResult t r s).ref = s.ref ∧
    (State.glResult t r s).kennel = s.kennel ∧ (State.glResult t r s).time = s.time ∧
    (State.glResult t r s).buf = s.buf ∧ (State.glResult t r s).port = s.port ∧
    (State.glResult t r s).slices = s.slices ∧ (State.glResult t r s).tab = s.tab ∧
    (State.glResult t r s).gen = s.gen ∧ (State.glResult t r s).core = s.core ∧
    (State.glResult t r s).sch = s.sch ∧ (State.glResult t r s).tel = s.tel ∧ (State.glResult t r s).pwr = s.pwr ∧
    (State.glResult t r s).regs = s.regs ∧ (State.glResult t r s).cnts = s.cnts := by
  (unfold State.glResult; simp only [ite_self, and_self, implies_true, Ran.st_done, Ran.st_wait, Ran.st_refuse, Ran.st_ite, snd_ite, foldl_pending, foldl_now, foldl_serial, foldl_out, foldl_pins, foldl_host, foldl_cmds, foldl_flt, foldl_clk, foldl_ref, foldl_kennel, foldl_time, foldl_buf, foldl_port, foldl_slices, foldl_tab, foldl_gen, foldl_core, foldl_sch, foldl_tel, foldl_pwr, foldl_regs, foldl_cnts, foldl_snd_pending, foldl_snd_now, foldl_snd_serial, foldl_snd_out, foldl_snd_pins, foldl_snd_host, foldl_snd_cmds, foldl_snd_flt, foldl_snd_clk, foldl_snd_ref, foldl_snd_kennel, foldl_snd_time, foldl_snd_buf, foldl_snd_port, foldl_snd_slices, foldl_snd_tab, foldl_snd_gen, foldl_snd_core, foldl_snd_sch, foldl_snd_tel, foldl_snd_pwr, foldl_snd_regs, foldl_snd_cnts]; done)

@[simp] theorem State.stopCsOf_keeps (own : Nat → Bool) (g : Nat) (s : State) :
    (State.stopCsOf own g s).pending = s.pending ∧ (State.stopCsOf own g s).now = s.now ∧
    (State.stopCsOf own g s).serial = s.serial ∧ (State.stopCsOf own g s).pins = s.pins ∧
    (State.stopCsOf own g s).md = s.md ∧ (State.stopCsOf own g s).flt = s.flt ∧
    (State.stopCsOf own g s).clk = s.clk ∧ (State.stopCsOf own g s).ref = s.ref ∧
    (State.stopCsOf own g s).kennel = s.kennel ∧ (State.stopCsOf own g s).time = s.time ∧
    (State.stopCsOf own g s).buf = s.buf ∧ (State.stopCsOf own g s).port = s.port ∧
    (State.stopCsOf own g s).slices = s.slices ∧ (State.stopCsOf own g s).tab = s.tab ∧
    (State.stopCsOf own g s).core = s.core ∧ (State.stopCsOf own g s).sch = s.sch ∧
    (State.stopCsOf own g s).tel = s.tel ∧ (State.stopCsOf own g s).pwr = s.pwr ∧
    (State.stopCsOf own g s).regs = s.regs ∧ (State.stopCsOf own g s).cnts = s.cnts := by
  (unfold State.stopCsOf; split <;> simp only [State.setCsBank_keeps, State.completeSer_keeps, ite_self, and_self, implies_true, Ran.st_done, Ran.st_wait, Ran.st_refuse, Ran.st_ite, snd_ite, ite_pending, ite_now, ite_serial, ite_pins, ite_md, ite_flt, ite_clk, ite_ref, ite_kennel, ite_time, ite_buf, ite_port, ite_slices, ite_tab, ite_core, ite_sch, ite_tel, ite_pwr, ite_regs, ite_cnts, foldl_pending, foldl_now, foldl_serial, foldl_pins, foldl_md, foldl_flt, foldl_clk, foldl_ref, foldl_kennel, foldl_time, foldl_buf, foldl_port, foldl_slices, foldl_tab, foldl_core, foldl_sch, foldl_tel, foldl_pwr, foldl_regs, foldl_cnts, foldl_snd_pending, foldl_snd_now, foldl_snd_serial, foldl_snd_pins, foldl_snd_md, foldl_snd_flt, foldl_snd_clk, foldl_snd_ref, foldl_snd_kennel, foldl_snd_time, foldl_snd_buf, foldl_snd_port, foldl_snd_slices, foldl_snd_tab, foldl_snd_core, foldl_snd_sch, foldl_snd_tel, foldl_snd_pwr, foldl_snd_regs, foldl_snd_cnts])

@[simp] theorem State.stopTreeOf_keeps (own : Nat → Bool) (g : Nat) (s : State) :
    (State.stopTreeOf own g s).pending = s.pending ∧ (State.stopTreeOf own g s).now = s.now ∧
    (State.stopTreeOf own g s).serial = s.serial ∧ (State.stopTreeOf own g s).pins = s.pins ∧
    (State.stopTreeOf own g s).md = s.md ∧ (State.stopTreeOf own g s).flt = s.flt ∧
    (State.stopTreeOf own g s).clk = s.clk ∧ (State.stopTreeOf own g s).ref = s.ref ∧
    (State.stopTreeOf own g s).kennel = s.kennel ∧ (State.stopTreeOf own g s).time = s.time ∧
    (State.stopTreeOf own g s).buf = s.buf ∧ (State.stopTreeOf own g s).port = s.port ∧
    (State.stopTreeOf own g s).slices = s.slices ∧ (State.stopTreeOf own g s).tab = s.tab ∧
    (State.stopTreeOf own g s).core = s.core ∧ (State.stopTreeOf own g s).sch = s.sch ∧
    (State.stopTreeOf own g s).tel = s.tel ∧ (State.stopTreeOf own g s).pwr = s.pwr ∧
    (State.stopTreeOf own g s).regs = s.regs ∧ (State.stopTreeOf own g s).cnts = s.cnts := by
  (unfold State.stopTreeOf; split <;> simp only [State.completeSer_keeps, State.setTreeBank_keeps, ite_self, and_self, implies_true, Ran.st_done, Ran.st_wait, Ran.st_refuse, Ran.st_ite, snd_ite, ite_pending, ite_now, ite_serial, ite_pins, ite_md, ite_flt, ite_clk, ite_ref, ite_kennel, ite_time, ite_buf, ite_port, ite_slices, ite_tab, ite_core, ite_sch, ite_tel, ite_pwr, ite_regs, ite_cnts, foldl_pending, foldl_now, foldl_serial, foldl_pins, foldl_md, foldl_flt, foldl_clk, foldl_ref, foldl_kennel, foldl_time, foldl_buf, foldl_port, foldl_slices, foldl_tab, foldl_core, foldl_sch, foldl_tel, foldl_pwr, foldl_regs, foldl_cnts, foldl_snd_pending, foldl_snd_now, foldl_snd_serial, foldl_snd_pins, foldl_snd_md, foldl_snd_flt, foldl_snd_clk, foldl_snd_ref, foldl_snd_kennel, foldl_snd_time, foldl_snd_buf, foldl_snd_port, foldl_snd_slices, foldl_snd_tab, foldl_snd_core, foldl_snd_sch, foldl_snd_tel, foldl_snd_pwr, foldl_snd_regs, foldl_snd_cnts])

@[simp] theorem State.muteCmds_keeps (p : HostPort) (s : State) :
    (State.muteCmds p s).pending = s.pending ∧ (State.muteCmds p s).now = s.now ∧
    (State.muteCmds p s).serial = s.serial ∧ (State.muteCmds p s).out = s.out ∧
    (State.muteCmds p s).pins = s.pins ∧ (State.muteCmds p s).md = s.md ∧ (State.muteCmds p s).host = s.host ∧
    (State.muteCmds p s).flt = s.flt ∧ (State.muteCmds p s).clk = s.clk ∧ (State.muteCmds p s).ref = s.ref ∧
    (State.muteCmds p s).kennel = s.kennel ∧ (State.muteCmds p s).time = s.time ∧
    (State.muteCmds p s).buf = s.buf ∧ (State.muteCmds p s).port = s.port ∧
    (State.muteCmds p s).slices = s.slices ∧ (State.muteCmds p s).tab = s.tab ∧ (State.muteCmds p s).gen = s.gen ∧
    (State.muteCmds p s).core = s.core ∧ (State.muteCmds p s).sch = s.sch ∧ (State.muteCmds p s).tel = s.tel ∧
    (State.muteCmds p s).pwr = s.pwr ∧ (State.muteCmds p s).regs = s.regs ∧ (State.muteCmds p s).cnts = s.cnts := by
  (unfold State.muteCmds; simp only [ite_self, and_self, implies_true, Ran.st_done, Ran.st_wait, Ran.st_refuse, Ran.st_ite, snd_ite, foldl_pending, foldl_now, foldl_serial, foldl_out, foldl_pins, foldl_md, foldl_host, foldl_flt, foldl_clk, foldl_ref, foldl_kennel, foldl_time, foldl_buf, foldl_port, foldl_slices, foldl_tab, foldl_gen, foldl_core, foldl_sch, foldl_tel, foldl_pwr, foldl_regs, foldl_cnts, foldl_snd_pending, foldl_snd_now, foldl_snd_serial, foldl_snd_out, foldl_snd_pins, foldl_snd_md, foldl_snd_host, foldl_snd_flt, foldl_snd_clk, foldl_snd_ref, foldl_snd_kennel, foldl_snd_time, foldl_snd_buf, foldl_snd_port, foldl_snd_slices, foldl_snd_tab, foldl_snd_gen, foldl_snd_core, foldl_snd_sch, foldl_snd_tel, foldl_snd_pwr, foldl_snd_regs, foldl_snd_cnts]; done)

@[simp] theorem State.clearHalf_keeps (p : HostPort) (s : State) :
    (State.clearHalf p s).pending = s.pending ∧ (State.clearHalf p s).now = s.now ∧
    (State.clearHalf p s).serial = s.serial ∧ (State.clearHalf p s).out = s.out ∧
    (State.clearHalf p s).pins = s.pins ∧ (State.clearHalf p s).md = s.md ∧ (State.clearHalf p s).cmds = s.cmds ∧
    (State.clearHalf p s).flt = s.flt ∧ (State.clearHalf p s).clk = s.clk ∧ (State.clearHalf p s).ref = s.ref ∧
    (State.clearHalf p s).kennel = s.kennel ∧ (State.clearHalf p s).time = s.time ∧
    (State.clearHalf p s).buf = s.buf ∧ (State.clearHalf p s).port = s.port ∧
    (State.clearHalf p s).slices = s.slices ∧ (State.clearHalf p s).tab = s.tab ∧
    (State.clearHalf p s).gen = s.gen ∧ (State.clearHalf p s).core = s.core ∧ (State.clearHalf p s).sch = s.sch ∧
    (State.clearHalf p s).tel = s.tel ∧ (State.clearHalf p s).pwr = s.pwr ∧ (State.clearHalf p s).cnts = s.cnts := by
  (unfold State.clearHalf; simp only [State.onHalf_keeps, ite_self, and_self, implies_true, Ran.st_done, Ran.st_wait, Ran.st_refuse, Ran.st_ite, snd_ite, foldl_pending, foldl_now, foldl_serial, foldl_out, foldl_pins, foldl_md, foldl_cmds, foldl_flt, foldl_clk, foldl_ref, foldl_kennel, foldl_time, foldl_buf, foldl_port, foldl_slices, foldl_tab, foldl_gen, foldl_core, foldl_sch, foldl_tel, foldl_pwr, foldl_cnts, foldl_snd_pending, foldl_snd_now, foldl_snd_serial, foldl_snd_out, foldl_snd_pins, foldl_snd_md, foldl_snd_cmds, foldl_snd_flt, foldl_snd_clk, foldl_snd_ref, foldl_snd_kennel, foldl_snd_time, foldl_snd_buf, foldl_snd_port, foldl_snd_slices, foldl_snd_tab, foldl_snd_gen, foldl_snd_core, foldl_snd_sch, foldl_snd_tel, foldl_snd_pwr, foldl_snd_cnts]; done)

@[simp] theorem State.resetPort_keeps (p : HostPort) (s : State) :
    (State.resetPort p s).pending = s.pending ∧ (State.resetPort p s).now = s.now ∧
    (State.resetPort p s).serial = s.serial ∧ (State.resetPort p s).pins = s.pins ∧
    (State.resetPort p s).md = s.md ∧ (State.resetPort p s).flt = s.flt ∧ (State.resetPort p s).clk = s.clk ∧
    (State.resetPort p s).ref = s.ref ∧ (State.resetPort p s).kennel = s.kennel ∧
    (State.resetPort p s).time = s.time ∧ (State.resetPort p s).buf = s.buf ∧ (State.resetPort p s).port = s.port ∧
    (State.resetPort p s).slices = s.slices ∧ (State.resetPort p s).core = s.core ∧
    (State.resetPort p s).sch = s.sch ∧ (State.resetPort p s).tel = s.tel ∧ (State.resetPort p s).pwr = s.pwr ∧
    (State.resetPort p s).cnts = s.cnts := by
  (unfold State.resetPort; simp only [State.clearHalf_keeps, State.stopTreeOf_keeps, State.stopTablesIf_keeps, State.stopCsOf_keeps, State.muteCmds_keeps, ite_self, and_self, implies_true, Ran.st_done, Ran.st_wait, Ran.st_refuse, Ran.st_ite, snd_ite, foldl_pending, foldl_now, foldl_serial, foldl_pins, foldl_md, foldl_flt, foldl_clk, foldl_ref, foldl_kennel, foldl_time, foldl_buf, foldl_port, foldl_slices, foldl_core, foldl_sch, foldl_tel, foldl_pwr, foldl_cnts, foldl_snd_pending, foldl_snd_now, foldl_snd_serial, foldl_snd_pins, foldl_snd_md, foldl_snd_flt, foldl_snd_clk, foldl_snd_ref, foldl_snd_kennel, foldl_snd_time, foldl_snd_buf, foldl_snd_port, foldl_snd_slices, foldl_snd_core, foldl_snd_sch, foldl_snd_tel, foldl_snd_pwr, foldl_snd_cnts]; done)

@[simp] theorem State.logFailed_keeps (e : Side) (s : State) :
    (State.logFailed e s).pending = s.pending ∧ (State.logFailed e s).now = s.now ∧
    (State.logFailed e s).serial = s.serial ∧ (State.logFailed e s).out = s.out ∧
    (State.logFailed e s).pins = s.pins ∧ (State.logFailed e s).md = s.md ∧ (State.logFailed e s).host = s.host ∧
    (State.logFailed e s).cmds = s.cmds ∧ (State.logFailed e s).clk = s.clk ∧ (State.logFailed e s).ref = s.ref ∧
    (State.logFailed e s).kennel = s.kennel ∧ (State.logFailed e s).time = s.time ∧
    (State.logFailed e s).buf = s.buf ∧ (State.logFailed e s).port = s.port ∧
    (State.logFailed e s).slices = s.slices ∧ (State.logFailed e s).tab = s.tab ∧
    (State.logFailed e s).gen = s.gen ∧ (State.logFailed e s).core = s.core ∧ (State.logFailed e s).sch = s.sch ∧
    (State.logFailed e s).tel = s.tel ∧ (State.logFailed e s).pwr = s.pwr ∧ (State.logFailed e s).regs = s.regs ∧
    (State.logFailed e s).cnts = s.cnts ∧ (State.logFailed e s).flt.keel0 = s.flt.keel0 ∧
    (State.logFailed e s).flt.keel1 = s.flt.keel1 := by
  (unfold State.logFailed; simp only [State.follow_keeps, ite_self, and_self, implies_true, Ran.st_done, Ran.st_wait, Ran.st_refuse, Ran.st_ite, snd_ite, foldl_pending, foldl_now, foldl_serial, foldl_out, foldl_pins, foldl_md, foldl_host, foldl_cmds, foldl_clk, foldl_ref, foldl_kennel, foldl_time, foldl_buf, foldl_port, foldl_slices, foldl_tab, foldl_gen, foldl_core, foldl_sch, foldl_tel, foldl_pwr, foldl_regs, foldl_cnts, foldl_flt_keel0, foldl_flt_keel1, foldl_snd_pending, foldl_snd_now, foldl_snd_serial, foldl_snd_out, foldl_snd_pins, foldl_snd_md, foldl_snd_host, foldl_snd_cmds, foldl_snd_clk, foldl_snd_ref, foldl_snd_kennel, foldl_snd_time, foldl_snd_buf, foldl_snd_port, foldl_snd_slices, foldl_snd_tab, foldl_snd_gen, foldl_snd_core, foldl_snd_sch, foldl_snd_tel, foldl_snd_pwr, foldl_snd_regs, foldl_snd_cnts, foldl_snd_flt_keel0, foldl_snd_flt_keel1]; done)

@[simp] theorem State.noCollie_keeps (s : State) :
    (State.noCollie s).pending = s.pending ∧ (State.noCollie s).now = s.now ∧
    (State.noCollie s).serial = s.serial ∧ (State.noCollie s).out = s.out ∧ (State.noCollie s).pins = s.pins ∧
    (State.noCollie s).md = s.md ∧ (State.noCollie s).host = s.host ∧ (State.noCollie s).cmds = s.cmds ∧
    (State.noCollie s).clk = s.clk ∧ (State.noCollie s).ref = s.ref ∧ (State.noCollie s).kennel = s.kennel ∧
    (State.noCollie s).time = s.time ∧ (State.noCollie s).buf = s.buf ∧ (State.noCollie s).port = s.port ∧
    (State.noCollie s).slices = s.slices ∧ (State.noCollie s).tab = s.tab ∧ (State.noCollie s).gen = s.gen ∧
    (State.noCollie s).core = s.core ∧ (State.noCollie s).sch = s.sch ∧ (State.noCollie s).tel = s.tel ∧
    (State.noCollie s).pwr = s.pwr ∧ (State.noCollie s).regs = s.regs ∧ (State.noCollie s).cnts = s.cnts ∧
    (State.noCollie s).flt.keel0 = s.flt.keel0 ∧ (State.noCollie s).flt.keel1 = s.flt.keel1 := by
  (unfold State.noCollie; simp only [State.follow_keeps, ite_self, and_self, implies_true, Ran.st_done, Ran.st_wait, Ran.st_refuse, Ran.st_ite, snd_ite, foldl_pending, foldl_now, foldl_serial, foldl_out, foldl_pins, foldl_md, foldl_host, foldl_cmds, foldl_clk, foldl_ref, foldl_kennel, foldl_time, foldl_buf, foldl_port, foldl_slices, foldl_tab, foldl_gen, foldl_core, foldl_sch, foldl_tel, foldl_pwr, foldl_regs, foldl_cnts, foldl_flt_keel0, foldl_flt_keel1, foldl_snd_pending, foldl_snd_now, foldl_snd_serial, foldl_snd_out, foldl_snd_pins, foldl_snd_md, foldl_snd_host, foldl_snd_cmds, foldl_snd_clk, foldl_snd_ref, foldl_snd_kennel, foldl_snd_time, foldl_snd_buf, foldl_snd_port, foldl_snd_slices, foldl_snd_tab, foldl_snd_gen, foldl_snd_core, foldl_snd_sch, foldl_snd_tel, foldl_snd_pwr, foldl_snd_regs, foldl_snd_cnts, foldl_snd_flt_keel0, foldl_snd_flt_keel1]; done)

@[simp] theorem State.wearSlices_keeps (w : Wear) (s : State) :
    (State.wearSlices w s).pending = s.pending ∧ (State.wearSlices w s).now = s.now ∧
    (State.wearSlices w s).serial = s.serial ∧ (State.wearSlices w s).out = s.out ∧
    (State.wearSlices w s).pins = s.pins ∧ (State.wearSlices w s).md = s.md ∧
    (State.wearSlices w s).host = s.host ∧ (State.wearSlices w s).cmds = s.cmds ∧
    (State.wearSlices w s).flt = s.flt ∧ (State.wearSlices w s).clk = s.clk ∧ (State.wearSlices w s).ref = s.ref ∧
    (State.wearSlices w s).kennel = s.kennel ∧ (State.wearSlices w s).time = s.time ∧
    (State.wearSlices w s).buf = s.buf ∧ (State.wearSlices w s).port = s.port ∧
    (State.wearSlices w s).tab = s.tab ∧ (State.wearSlices w s).gen = s.gen ∧
    (State.wearSlices w s).core = s.core ∧ (State.wearSlices w s).sch = s.sch ∧
    (State.wearSlices w s).tel = s.tel ∧ (State.wearSlices w s).pwr = s.pwr ∧
    (State.wearSlices w s).regs = s.regs ∧ (State.wearSlices w s).cnts = s.cnts := by
  (unfold State.wearSlices; simp only [State.onSlice_keeps, ite_self, and_self, implies_true, Ran.st_done, Ran.st_wait, Ran.st_refuse, Ran.st_ite, snd_ite, ite_pending, ite_now, ite_serial, ite_out, ite_pins, ite_md, ite_host, ite_cmds, ite_flt, ite_clk, ite_ref, ite_kennel, ite_time, ite_buf, ite_port, ite_tab, ite_gen, ite_core, ite_sch, ite_tel, ite_pwr, ite_regs, ite_cnts, foldl_pending, foldl_now, foldl_serial, foldl_out, foldl_pins, foldl_md, foldl_host, foldl_cmds, foldl_flt, foldl_clk, foldl_ref, foldl_kennel, foldl_time, foldl_buf, foldl_port, foldl_tab, foldl_gen, foldl_core, foldl_sch, foldl_tel, foldl_pwr, foldl_regs, foldl_cnts, foldl_snd_pending, foldl_snd_now, foldl_snd_serial, foldl_snd_out, foldl_snd_pins, foldl_snd_md, foldl_snd_host, foldl_snd_cmds, foldl_snd_flt, foldl_snd_clk, foldl_snd_ref, foldl_snd_kennel, foldl_snd_time, foldl_snd_buf, foldl_snd_port, foldl_snd_tab, foldl_snd_gen, foldl_snd_core, foldl_snd_sch, foldl_snd_tel, foldl_snd_pwr, foldl_snd_regs, foldl_snd_cnts]; done)

@[simp] theorem State.applyWear_keeps (w : Wear) (s : State) :
    (State.applyWear w s).pending = s.pending ∧ (State.applyWear w s).now = s.now ∧
    (State.applyWear w s).serial = s.serial ∧ (State.applyWear w s).out = s.out ∧
    (State.applyWear w s).pins = s.pins ∧ (State.applyWear w s).md = s.md ∧ (State.applyWear w s).host = s.host ∧
    (State.applyWear w s).cmds = s.cmds ∧ (State.applyWear w s).flt = s.flt ∧ (State.applyWear w s).clk = s.clk ∧
    (State.applyWear w s).kennel = s.kennel ∧ (State.applyWear w s).time = s.time ∧
    (State.applyWear w s).gen = s.gen ∧ (State.applyWear w s).core = s.core ∧ (State.applyWear w s).sch = s.sch ∧
    (State.applyWear w s).tel = s.tel ∧ (State.applyWear w s).pwr = s.pwr ∧ (State.applyWear w s).regs = s.regs ∧
    (State.applyWear w s).cnts = s.cnts := by
  (unfold State.applyWear; simp only [State.wearSlices_keeps, ite_self, and_self, implies_true, Ran.st_done, Ran.st_wait, Ran.st_refuse, Ran.st_ite, snd_ite, foldl_pending, foldl_now, foldl_serial, foldl_out, foldl_pins, foldl_md, foldl_host, foldl_cmds, foldl_flt, foldl_clk, foldl_kennel, foldl_time, foldl_gen, foldl_core, foldl_sch, foldl_tel, foldl_pwr, foldl_regs, foldl_cnts, foldl_snd_pending, foldl_snd_now, foldl_snd_serial, foldl_snd_out, foldl_snd_pins, foldl_snd_md, foldl_snd_host, foldl_snd_cmds, foldl_snd_flt, foldl_snd_clk, foldl_snd_kennel, foldl_snd_time, foldl_snd_gen, foldl_snd_core, foldl_snd_sch, foldl_snd_tel, foldl_snd_pwr, foldl_snd_regs, foldl_snd_cnts]; done)

@[simp] theorem State.wearMissing_keeps (i : Nat) (s : State) :
    (State.wearMissing i s).pending = s.pending ∧ (State.wearMissing i s).now = s.now ∧
    (State.wearMissing i s).serial = s.serial ∧ (State.wearMissing i s).out = s.out ∧
    (State.wearMissing i s).pins = s.pins ∧ (State.wearMissing i s).md = s.md ∧
    (State.wearMissing i s).host = s.host ∧ (State.wearMissing i s).cmds = s.cmds ∧
    (State.wearMissing i s).clk = s.clk ∧ (State.wearMissing i s).ref = s.ref ∧
    (State.wearMissing i s).kennel = s.kennel ∧ (State.wearMissing i s).time = s.time ∧
    (State.wearMissing i s).buf = s.buf ∧ (State.wearMissing i s).port = s.port ∧
    (State.wearMissing i s).slices = s.slices ∧ (State.wearMissing i s).tab = s.tab ∧
    (State.wearMissing i s).gen = s.gen ∧ (State.wearMissing i s).core = s.core ∧
    (State.wearMissing i s).sch = s.sch ∧ (State.wearMissing i s).tel = s.tel ∧
    (State.wearMissing i s).pwr = s.pwr ∧ (State.wearMissing i s).regs = s.regs ∧
    (State.wearMissing i s).cnts = s.cnts ∧ (State.wearMissing i s).flt.keel0 = s.flt.keel0 ∧
    (State.wearMissing i s).flt.keel1 = s.flt.keel1 := by
  (unfold State.wearMissing; simp only [State.follow_keeps, ite_self, and_self, implies_true, Ran.st_done, Ran.st_wait, Ran.st_refuse, Ran.st_ite, snd_ite, ite_pending, ite_now, ite_serial, ite_out, ite_pins, ite_md, ite_host, ite_cmds, ite_clk, ite_ref, ite_kennel, ite_time, ite_buf, ite_port, ite_slices, ite_tab, ite_gen, ite_core, ite_sch, ite_tel, ite_pwr, ite_regs, ite_cnts, ite_flt_keel0, ite_flt_keel1, foldl_pending, foldl_now, foldl_serial, foldl_out, foldl_pins, foldl_md, foldl_host, foldl_cmds, foldl_clk, foldl_ref, foldl_kennel, foldl_time, foldl_buf, foldl_port, foldl_slices, foldl_tab, foldl_gen, foldl_core, foldl_sch, foldl_tel, foldl_pwr, foldl_regs, foldl_cnts, foldl_flt_keel0, foldl_flt_keel1, foldl_snd_pending, foldl_snd_now, foldl_snd_serial, foldl_snd_out, foldl_snd_pins, foldl_snd_md, foldl_snd_host, foldl_snd_cmds, foldl_snd_clk, foldl_snd_ref, foldl_snd_kennel, foldl_snd_time, foldl_snd_buf, foldl_snd_port, foldl_snd_slices, foldl_snd_tab, foldl_snd_gen, foldl_snd_core, foldl_snd_sch, foldl_snd_tel, foldl_snd_pwr, foldl_snd_regs, foldl_snd_cnts, foldl_snd_flt_keel0, foldl_snd_flt_keel1]; done)

@[simp] theorem State.loadWear_keeps (s : State) :
    (State.loadWear s).pending = s.pending ∧ (State.loadWear s).now = s.now ∧
    (State.loadWear s).serial = s.serial ∧ (State.loadWear s).out = s.out ∧ (State.loadWear s).pins = s.pins ∧
    (State.loadWear s).md = s.md ∧ (State.loadWear s).host = s.host ∧ (State.loadWear s).cmds = s.cmds ∧
    (State.loadWear s).flt = s.flt ∧ (State.loadWear s).clk = s.clk ∧ (State.loadWear s).kennel = s.kennel ∧
    (State.loadWear s).time = s.time ∧ (State.loadWear s).gen = s.gen ∧ (State.loadWear s).core = s.core ∧
    (State.loadWear s).sch = s.sch ∧ (State.loadWear s).tel = s.tel ∧ (State.loadWear s).pwr = s.pwr ∧
    (State.loadWear s).regs = s.regs ∧ (State.loadWear s).cnts = s.cnts := by
  (unfold State.loadWear; split <;> simp only [State.applyWear_keeps, ite_self, and_self, implies_true, Ran.st_done, Ran.st_wait, Ran.st_refuse, Ran.st_ite, snd_ite, ite_pending, ite_now, ite_serial, ite_out, ite_pins, ite_md, ite_host, ite_cmds, ite_flt, ite_clk, ite_kennel, ite_time, ite_gen, ite_core, ite_sch, ite_tel, ite_pwr, ite_regs, ite_cnts, foldl_pending, foldl_now, foldl_serial, foldl_out, foldl_pins, foldl_md, foldl_host, foldl_cmds, foldl_flt, foldl_clk, foldl_kennel, foldl_time, foldl_gen, foldl_core, foldl_sch, foldl_tel, foldl_pwr, foldl_regs, foldl_cnts, foldl_snd_pending, foldl_snd_now, foldl_snd_serial, foldl_snd_out, foldl_snd_pins, foldl_snd_md, foldl_snd_host, foldl_snd_cmds, foldl_snd_flt, foldl_snd_clk, foldl_snd_kennel, foldl_snd_time, foldl_snd_gen, foldl_snd_core, foldl_snd_sch, foldl_snd_tel, foldl_snd_pwr, foldl_snd_regs, foldl_snd_cnts])

@[simp] theorem State.elementReady_keeps (ok : Bool) (s : State) :
    (State.elementReady ok s).pending = s.pending ∧ (State.elementReady ok s).now = s.now ∧
    (State.elementReady ok s).serial = s.serial ∧ (State.elementReady ok s).out = s.out ∧
    (State.elementReady ok s).pins = s.pins ∧ (State.elementReady ok s).md = s.md ∧
    (State.elementReady ok s).host = s.host ∧ (State.elementReady ok s).cmds = s.cmds ∧
    (State.elementReady ok s).clk = s.clk ∧ (State.elementReady ok s).kennel = s.kennel ∧
    (State.elementReady ok s).time = s.time ∧ (State.elementReady ok s).buf = s.buf ∧
    (State.elementReady ok s).port = s.port ∧ (State.elementReady ok s).slices = s.slices ∧
    (State.elementReady ok s).tab = s.tab ∧ (State.elementReady ok s).gen = s.gen ∧
    (State.elementReady ok s).core = s.core ∧ (State.elementReady ok s).sch = s.sch ∧
    (State.elementReady ok s).tel = s.tel ∧ (State.elementReady ok s).pwr = s.pwr ∧
    (State.elementReady ok s).regs = s.regs ∧ (State.elementReady ok s).cnts = s.cnts ∧
    (State.elementReady ok s).flt.keel0 = s.flt.keel0 ∧ (State.elementReady ok s).flt.keel1 = s.flt.keel1 := by
  (unfold State.elementReady; simp only [State.seFail_keeps, ite_self, and_self, implies_true, Ran.st_done, Ran.st_wait, Ran.st_refuse, Ran.st_ite, snd_ite, ite_pending, ite_now, ite_serial, ite_out, ite_pins, ite_md, ite_host, ite_cmds, ite_clk, ite_kennel, ite_time, ite_buf, ite_port, ite_slices, ite_tab, ite_gen, ite_core, ite_sch, ite_tel, ite_pwr, ite_regs, ite_cnts, ite_flt_keel0, ite_flt_keel1, foldl_pending, foldl_now, foldl_serial, foldl_out, foldl_pins, foldl_md, foldl_host, foldl_cmds, foldl_clk, foldl_kennel, foldl_time, foldl_buf, foldl_port, foldl_slices, foldl_tab, foldl_gen, foldl_core, foldl_sch, foldl_tel, foldl_pwr, foldl_regs, foldl_cnts, foldl_flt_keel0, foldl_flt_keel1, foldl_snd_pending, foldl_snd_now, foldl_snd_serial, foldl_snd_out, foldl_snd_pins, foldl_snd_md, foldl_snd_host, foldl_snd_cmds, foldl_snd_clk, foldl_snd_kennel, foldl_snd_time, foldl_snd_buf, foldl_snd_port, foldl_snd_slices, foldl_snd_tab, foldl_snd_gen, foldl_snd_core, foldl_snd_sch, foldl_snd_tel, foldl_snd_pwr, foldl_snd_regs, foldl_snd_cnts, foldl_snd_flt_keel0, foldl_snd_flt_keel1]; done)

@[simp] theorem State.bootReady_keeps (s : State) :
    (State.bootReady s).pending = s.pending ∧ (State.bootReady s).now = s.now ∧
    (State.bootReady s).serial = s.serial ∧ (State.bootReady s).out = s.out ∧ (State.bootReady s).pins = s.pins ∧
    (State.bootReady s).host = s.host ∧ (State.bootReady s).cmds = s.cmds ∧ (State.bootReady s).flt = s.flt ∧
    (State.bootReady s).clk = s.clk ∧ (State.bootReady s).ref = s.ref ∧ (State.bootReady s).kennel = s.kennel ∧
    (State.bootReady s).time = s.time ∧ (State.bootReady s).buf = s.buf ∧ (State.bootReady s).port = s.port ∧
    (State.bootReady s).slices = s.slices ∧ (State.bootReady s).tab = s.tab ∧ (State.bootReady s).gen = s.gen ∧
    (State.bootReady s).core = s.core ∧ (State.bootReady s).sch = s.sch ∧ (State.bootReady s).tel = s.tel ∧
    (State.bootReady s).regs = s.regs ∧ (State.bootReady s).cnts = s.cnts := by
  (unfold State.bootReady; simp only [ite_self, and_self, implies_true, Ran.st_done, Ran.st_wait, Ran.st_refuse, Ran.st_ite, snd_ite, foldl_pending, foldl_now, foldl_serial, foldl_out, foldl_pins, foldl_host, foldl_cmds, foldl_flt, foldl_clk, foldl_ref, foldl_kennel, foldl_time, foldl_buf, foldl_port, foldl_slices, foldl_tab, foldl_gen, foldl_core, foldl_sch, foldl_tel, foldl_regs, foldl_cnts, foldl_snd_pending, foldl_snd_now, foldl_snd_serial, foldl_snd_out, foldl_snd_pins, foldl_snd_host, foldl_snd_cmds, foldl_snd_flt, foldl_snd_clk, foldl_snd_ref, foldl_snd_kennel, foldl_snd_time, foldl_snd_buf, foldl_snd_port, foldl_snd_slices, foldl_snd_tab, foldl_snd_gen, foldl_snd_core, foldl_snd_sch, foldl_snd_tel, foldl_snd_regs, foldl_snd_cnts]; done)
end Sys2Proof.Machine
end

