-- ==== Sys2Proof/Laws/KeepsRegs.lean ====
section
/-! SUPPORT. What each operation of Machine/Regs.lean keeps: the parts of the state that it leaves as they are. -/
set_option linter.unusedSimpArgs false
set_option linter.unusedVariables false
namespace Sys2Proof.Machine
open Host (Outcome)

@[simp] theorem State.bankChanged_keeps (n b old v : Nat) (s : State) :
    (State.bankChanged n b old v s).pending = s.pending ∧ (State.bankChanged n b old v s).now = s.now ∧
    (State.bankChanged n b old v s).serial = s.serial ∧ (State.bankChanged n b old v s).out = s.out ∧
    (State.bankChanged n b old v s).pins = s.pins ∧ (State.bankChanged n b old v s).md = s.md ∧
    (State.bankChanged n b old v s).host = s.host ∧ (State.bankChanged n b old v s).cmds = s.cmds ∧
    (State.bankChanged n b old v s).flt = s.flt ∧ (State.bankChanged n b old v s).clk = s.clk ∧
    (State.bankChanged n b old v s).ref = s.ref ∧ (State.bankChanged n b old v s).kennel = s.kennel ∧
    (State.bankChanged n b old v s).time = s.time ∧ (State.bankChanged n b old v s).buf = s.buf ∧
    (State.bankChanged n b old v s).port = s.port ∧ (State.bankChanged n b old v s).tab = s.tab ∧
    (State.bankChanged n b old v s).gen = s.gen ∧ (State.bankChanged n b old v s).core = s.core ∧
    (State.bankChanged n b old v s).sch = s.sch ∧ (State.bankChanged n b old v s).tel = s.tel ∧
    (State.bankChanged n b old v s).pwr = s.pwr ∧ (State.bankChanged n b old v s).regs = s.regs ∧
    (State.bankChanged n b old v s).cnts = s.cnts := by
  (unfold State.bankChanged; simp only [State.onSlice_keeps, ite_self, and_self, implies_true, Ran.st_done, Ran.st_wait, Ran.st_refuse, Ran.st_ite, snd_ite, ite_pending, ite_now, ite_serial, ite_out, ite_pins, ite_md, ite_host, ite_cmds, ite_flt, ite_clk, ite_ref, ite_kennel, ite_time, ite_buf, ite_port, ite_tab, ite_gen, ite_core, ite_sch, ite_tel, ite_pwr, ite_regs, ite_cnts, foldl_pending, foldl_now, foldl_serial, foldl_out, foldl_pins, foldl_md, foldl_host, foldl_cmds, foldl_flt, foldl_clk, foldl_ref, foldl_kennel, foldl_time, foldl_buf, foldl_port, foldl_tab, foldl_gen, foldl_core, foldl_sch, foldl_tel, foldl_pwr, foldl_regs, foldl_cnts, foldl_snd_pending, foldl_snd_now, foldl_snd_serial, foldl_snd_out, foldl_snd_pins, foldl_snd_md, foldl_snd_host, foldl_snd_cmds, foldl_snd_flt, foldl_snd_clk, foldl_snd_ref, foldl_snd_kennel, foldl_snd_time, foldl_snd_buf, foldl_snd_port, foldl_snd_tab, foldl_snd_gen, foldl_snd_core, foldl_snd_sch, foldl_snd_tel, foldl_snd_pwr, foldl_snd_regs, foldl_snd_cnts]; done)

@[simp] theorem State.preemptChanged_keeps (p : Nat) (s : State) :
    (State.preemptChanged p s).pending = s.pending ∧ (State.preemptChanged p s).now = s.now ∧
    (State.preemptChanged p s).serial = s.serial ∧ (State.preemptChanged p s).out = s.out ∧
    (State.preemptChanged p s).pins = s.pins ∧ (State.preemptChanged p s).md = s.md ∧
    (State.preemptChanged p s).host = s.host ∧ (State.preemptChanged p s).cmds = s.cmds ∧
    (State.preemptChanged p s).flt = s.flt ∧ (State.preemptChanged p s).clk = s.clk ∧
    (State.preemptChanged p s).ref = s.ref ∧ (State.preemptChanged p s).kennel = s.kennel ∧
    (State.preemptChanged p s).buf = s.buf ∧ (State.preemptChanged p s).port = s.port ∧
    (State.preemptChanged p s).slices = s.slices ∧ (State.preemptChanged p s).tab = s.tab ∧
    (State.preemptChanged p s).gen = s.gen ∧ (State.preemptChanged p s).core = s.core ∧
    (State.preemptChanged p s).sch = s.sch ∧ (State.preemptChanged p s).tel = s.tel ∧
    (State.preemptChanged p s).pwr = s.pwr ∧ (State.preemptChanged p s).regs = s.regs ∧
    (State.preemptChanged p s).cnts = s.cnts := by
  (unfold State.preemptChanged; simp only [State.verifyStart_keeps, ite_self, and_self, implies_true, Ran.st_done, Ran.st_wait, Ran.st_refuse, Ran.st_ite, snd_ite, ite_pending, ite_now, ite_serial, ite_out, ite_pins, ite_md, ite_host, ite_cmds, ite_flt, ite_clk, ite_ref, ite_kennel, ite_buf, ite_port, ite_slices, ite_tab, ite_gen, ite_core, ite_sch, ite_tel, ite_pwr, ite_regs, ite_cnts, foldl_pending, foldl_now, foldl_serial, foldl_out, foldl_pins, foldl_md, foldl_host, foldl_cmds, foldl_flt, foldl_clk, foldl_ref, foldl_kennel, foldl_buf, foldl_port, foldl_slices, foldl_tab, foldl_gen, foldl_core, foldl_sch, foldl_tel, foldl_pwr, foldl_regs, foldl_cnts, foldl_snd_pending, foldl_snd_now, foldl_snd_serial, foldl_snd_out, foldl_snd_pins, foldl_snd_md, foldl_snd_host, foldl_snd_cmds, foldl_snd_flt, foldl_snd_clk, foldl_snd_ref, foldl_snd_kennel, foldl_snd_buf, foldl_snd_port, foldl_snd_slices, foldl_snd_tab, foldl_snd_gen, foldl_snd_core, foldl_snd_sch, foldl_snd_tel, foldl_snd_pwr, foldl_snd_regs, foldl_snd_cnts]; done)

@[simp] theorem State.edgeChanged_keeps (j v : Nat) (s : State) :
    (State.edgeChanged j v s).pending = s.pending ∧ (State.edgeChanged j v s).now = s.now ∧
    (State.edgeChanged j v s).serial = s.serial ∧ (State.edgeChanged j v s).out = s.out ∧
    (State.edgeChanged j v s).pins = s.pins ∧ (State.edgeChanged j v s).md = s.md ∧
    (State.edgeChanged j v s).host = s.host ∧ (State.edgeChanged j v s).cmds = s.cmds ∧
    (State.edgeChanged j v s).flt = s.flt ∧ (State.edgeChanged j v s).clk = s.clk ∧
    (State.edgeChanged j v s).ref = s.ref ∧ (State.edgeChanged j v s).kennel = s.kennel ∧
    (State.edgeChanged j v s).buf = s.buf ∧ (State.edgeChanged j v s).port = s.port ∧
    (State.edgeChanged j v s).slices = s.slices ∧ (State.edgeChanged j v s).tab = s.tab ∧
    (State.edgeChanged j v s).gen = s.gen ∧ (State.edgeChanged j v s).core = s.core ∧
    (State.edgeChanged j v s).sch = s.sch ∧ (State.edgeChanged j v s).tel = s.tel ∧
    (State.edgeChanged j v s).pwr = s.pwr ∧ (State.edgeChanged j v s).regs = s.regs ∧
    (State.edgeChanged j v s).cnts = s.cnts := by
  (unfold State.edgeChanged; simp only [State.setIn_keeps, ite_self, and_self, implies_true, Ran.st_done, Ran.st_wait, Ran.st_refuse, Ran.st_ite, snd_ite, ite_pending, ite_now, ite_serial, ite_out, ite_pins, ite_md, ite_host, ite_cmds, ite_flt, ite_clk, ite_ref, ite_kennel, ite_buf, ite_port, ite_slices, ite_tab, ite_gen, ite_core, ite_sch, ite_tel, ite_pwr, ite_regs, ite_cnts, foldl_pending, foldl_now, foldl_serial, foldl_out, foldl_pins, foldl_md, foldl_host, foldl_cmds, foldl_flt, foldl_clk, foldl_ref, foldl_kennel, foldl_buf, foldl_port, foldl_slices, foldl_tab, foldl_gen, foldl_core, foldl_sch, foldl_tel, foldl_pwr, foldl_regs, foldl_cnts, foldl_snd_pending, foldl_snd_now, foldl_snd_serial, foldl_snd_out, foldl_snd_pins, foldl_snd_md, foldl_snd_host, foldl_snd_cmds, foldl_snd_flt, foldl_snd_clk, foldl_snd_ref, foldl_snd_kennel, foldl_snd_buf, foldl_snd_port, foldl_snd_slices, foldl_snd_tab, foldl_snd_gen, foldl_snd_core, foldl_snd_sch, foldl_snd_tel, foldl_snd_pwr, foldl_snd_regs, foldl_snd_cnts]; done)

@[simp] theorem State.regEffect_keeps (o old v : Nat) (s : State) :
    (State.regEffect o old v s).pending = s.pending ∧ (State.regEffect o old v s).now = s.now ∧
    (State.regEffect o old v s).serial = s.serial ∧ (State.regEffect o old v s).pins = s.pins ∧
    (State.regEffect o old v s).md = s.md ∧ (State.regEffect o old v s).host = s.host ∧
    (State.regEffect o old v s).cmds = s.cmds ∧ (State.regEffect o old v s).flt = s.flt ∧
    (State.regEffect o old v s).ref = s.ref ∧ (State.regEffect o old v s).kennel = s.kennel ∧
    (State.regEffect o old v s).tab = s.tab ∧ (State.regEffect o old v s).gen = s.gen ∧
    (State.regEffect o old v s).sch = s.sch ∧ (State.regEffect o old v s).pwr = s.pwr ∧
    (State.regEffect o old v s).regs = s.regs ∧ (State.regEffect o old v s).clk.pipeCur = s.clk.pipeCur := by
  (unfold State.regEffect; simp only [State.edgeChanged_keeps, State.pfcUpdate_keeps, State.preemptChanged_keeps, State.bankChanged_keeps, ite_self, and_self, implies_true, Ran.st_done, Ran.st_wait, Ran.st_refuse, Ran.st_ite, snd_ite, ite_pending, ite_now, ite_serial, ite_pins, ite_md, ite_host, ite_cmds, ite_flt, ite_ref, ite_kennel, ite_tab, ite_gen, ite_sch, ite_pwr, ite_regs, ite_clk_pipeCur, foldl_pending, foldl_now, foldl_serial, foldl_pins, foldl_md, foldl_host, foldl_cmds, foldl_flt, foldl_ref, foldl_kennel, foldl_tab, foldl_gen, foldl_sch, foldl_pwr, foldl_regs, foldl_clk_pipeCur, foldl_snd_pending, foldl_snd_now, foldl_snd_serial, foldl_snd_pins, foldl_snd_md, foldl_snd_host, foldl_snd_cmds, foldl_snd_flt, foldl_snd_ref, foldl_snd_kennel, foldl_snd_tab, foldl_snd_gen, foldl_snd_sch, foldl_snd_pwr, foldl_snd_regs, foldl_snd_clk_pipeCur]; done)

@[simp] theorem State.writeStored_keeps (p : HostPort) (o v : Nat) (s : State) :
    (State.writeStored p o v s).pending = s.pending ∧ (State.writeStored p o v s).now = s.now ∧
    (State.writeStored p o v s).serial = s.serial ∧ (State.writeStored p o v s).pins = s.pins ∧
    (State.writeStored p o v s).md = s.md ∧ (State.writeStored p o v s).host = s.host ∧
    (State.writeStored p o v s).cmds = s.cmds ∧ (State.writeStored p o v s).flt = s.flt ∧
    (State.writeStored p o v s).ref = s.ref ∧ (State.writeStored p o v s).kennel = s.kennel ∧
    (State.writeStored p o v s).tab = s.tab ∧ (State.writeStored p o v s).gen = s.gen ∧
    (State.writeStored p o v s).sch = s.sch ∧ (State.writeStored p o v s).pwr = s.pwr ∧
    (State.writeStored p o v s).clk.pipeCur = s.clk.pipeCur := by
  unfold State.writeStored
  dsimp only
  split <;> (try split) <;> simp only [State.regEffect_keeps, State.wr_keeps, and_self]

@[simp] theorem State.writeRing_keeps (p : HostPort) (n o v : Nat) (s : State) :
    (State.writeRing p n o v s).pending = s.pending ∧ (State.writeRing p n o v s).now = s.now ∧
    (State.writeRing p n o v s).serial = s.serial ∧ (State.writeRing p n o v s).out = s.out ∧
    (State.writeRing p n o v s).pins = s.pins ∧ (State.writeRing p n o v s).md = s.md ∧
    (State.writeRing p n o v s).cmds = s.cmds ∧ (State.writeRing p n o v s).flt = s.flt ∧
    (State.writeRing p n o v s).clk = s.clk ∧ (State.writeRing p n o v s).ref = s.ref ∧
    (State.writeRing p n o v s).kennel = s.kennel ∧ (State.writeRing p n o v s).time = s.time ∧
    (State.writeRing p n o v s).buf = s.buf ∧ (State.writeRing p n o v s).port = s.port ∧
    (State.writeRing p n o v s).slices = s.slices ∧ (State.writeRing p n o v s).tab = s.tab ∧
    (State.writeRing p n o v s).gen = s.gen ∧ (State.writeRing p n o v s).core = s.core ∧
    (State.writeRing p n o v s).sch = s.sch ∧ (State.writeRing p n o v s).tel = s.tel ∧
    (State.writeRing p n o v s).pwr = s.pwr ∧ (State.writeRing p n o v s).regs = s.regs ∧
    (State.writeRing p n o v s).cnts = s.cnts := by
  (unfold State.writeRing; split <;> simp only [State.setRing_keeps, ite_self, and_self, implies_true, Ran.st_done, Ran.st_wait, Ran.st_refuse, Ran.st_ite, snd_ite, ite_pending, ite_now, ite_serial, ite_out, ite_pins, ite_md, ite_cmds, ite_flt, ite_clk, ite_ref, ite_kennel, ite_time, ite_buf, ite_port, ite_slices, ite_tab, ite_gen, ite_core, ite_sch, ite_tel, ite_pwr, ite_regs, ite_cnts, foldl_pending, foldl_now, foldl_serial, foldl_out, foldl_pins, foldl_md, foldl_cmds, foldl_flt, foldl_clk, foldl_ref, foldl_kennel, foldl_time, foldl_buf, foldl_port, foldl_slices, foldl_tab, foldl_gen, foldl_core, foldl_sch, foldl_tel, foldl_pwr, foldl_regs, foldl_cnts, foldl_snd_pending, foldl_snd_now, foldl_snd_serial, foldl_snd_out, foldl_snd_pins, foldl_snd_md, foldl_snd_cmds, foldl_snd_flt, foldl_snd_clk, foldl_snd_ref, foldl_snd_kennel, foldl_snd_time, foldl_snd_buf, foldl_snd_port, foldl_snd_slices, foldl_snd_tab, foldl_snd_gen, foldl_snd_core, foldl_snd_sch, foldl_snd_tel, foldl_snd_pwr, foldl_snd_regs, foldl_snd_cnts])

@[simp] theorem State.writeMsix_keeps (p : HostPort) (k v : Nat) (s : State) :
    (State.writeMsix p k v s).pending = s.pending ∧ (State.writeMsix p k v s).now = s.now ∧
    (State.writeMsix p k v s).serial = s.serial ∧ (State.writeMsix p k v s).pins = s.pins ∧
    (State.writeMsix p k v s).md = s.md ∧ (State.writeMsix p k v s).cmds = s.cmds ∧
    (State.writeMsix p k v s).flt = s.flt ∧ (State.writeMsix p k v s).clk = s.clk ∧
    (State.writeMsix p k v s).ref = s.ref ∧ (State.writeMsix p k v s).kennel = s.kennel ∧
    (State.writeMsix p k v s).time = s.time ∧ (State.writeMsix p k v s).buf = s.buf ∧
    (State.writeMsix p k v s).port = s.port ∧ (State.writeMsix p k v s).slices = s.slices ∧
    (State.writeMsix p k v s).tab = s.tab ∧ (State.writeMsix p k v s).gen = s.gen ∧
    (State.writeMsix p k v s).core = s.core ∧ (State.writeMsix p k v s).sch = s.sch ∧
    (State.writeMsix p k v s).tel = s.tel ∧ (State.writeMsix p k v s).pwr = s.pwr ∧
    (State.writeMsix p k v s).regs = s.regs ∧ (State.writeMsix p k v s).cnts = s.cnts := by
  (unfold State.writeMsix; simp only [State.onHalf_keeps, State.sendVec_keeps, ite_self, and_self, implies_true, Ran.st_done, Ran.st_wait, Ran.st_refuse, Ran.st_ite, snd_ite, ite_pending, ite_now, ite_serial, ite_pins, ite_md, ite_cmds, ite_flt, ite_clk, ite_ref, ite_kennel, ite_time, ite_buf, ite_port, ite_slices, ite_tab, ite_gen, ite_core, ite_sch, ite_tel, ite_pwr, ite_regs, ite_cnts, foldl_pending, foldl_now, foldl_serial, foldl_pins, foldl_md, foldl_cmds, foldl_flt, foldl_clk, foldl_ref, foldl_kennel, foldl_time, foldl_buf, foldl_port, foldl_slices, foldl_tab, foldl_gen, foldl_core, foldl_sch, foldl_tel, foldl_pwr, foldl_regs, foldl_cnts, foldl_snd_pending, foldl_snd_now, foldl_snd_serial, foldl_snd_pins, foldl_snd_md, foldl_snd_cmds, foldl_snd_flt, foldl_snd_clk, foldl_snd_ref, foldl_snd_kennel, foldl_snd_time, foldl_snd_buf, foldl_snd_port, foldl_snd_slices, foldl_snd_tab, foldl_snd_gen, foldl_snd_core, foldl_snd_sch, foldl_snd_tel, foldl_snd_pwr, foldl_snd_regs, foldl_snd_cnts]; done)

@[simp] theorem State.writeTimeout_keeps (p : HostPort) (v : Nat) (s : State) :
    (State.writeTimeout p v s).pending = s.pending ∧ (State.writeTimeout p v s).now = s.now ∧
    (State.writeTimeout p v s).serial = s.serial ∧ (State.writeTimeout p v s).pins = s.pins ∧
    (State.writeTimeout p v s).md = s.md ∧ (State.writeTimeout p v s).cmds = s.cmds ∧
    (State.writeTimeout p v s).clk = s.clk ∧ (State.writeTimeout p v s).ref = s.ref ∧
    (State.writeTimeout p v s).kennel = s.kennel ∧ (State.writeTimeout p v s).time = s.time ∧
    (State.writeTimeout p v s).buf = s.buf ∧ (State.writeTimeout p v s).port = s.port ∧
    (State.writeTimeout p v s).slices = s.slices ∧ (State.writeTimeout p v s).tab = s.tab ∧
    (State.writeTimeout p v s).gen = s.gen ∧ (State.writeTimeout p v s).sch = s.sch ∧
    (State.writeTimeout p v s).tel = s.tel ∧ (State.writeTimeout p v s).pwr = s.pwr ∧
    (State.writeTimeout p v s).cnts = s.cnts ∧ (State.writeTimeout p v s).flt.keel0 = s.flt.keel0 := by
  (unfold State.writeTimeout; simp only [State.onHalf_keeps, State.wr_keeps, State.settle_keeps, ite_self, and_self, implies_true, Ran.st_done, Ran.st_wait, Ran.st_refuse, Ran.st_ite, snd_ite, ite_pending, ite_now, ite_serial, ite_pins, ite_md, ite_cmds, ite_clk, ite_ref, ite_kennel, ite_time, ite_buf, ite_port, ite_slices, ite_tab, ite_gen, ite_sch, ite_tel, ite_pwr, ite_cnts, ite_flt_keel0, foldl_pending, foldl_now, foldl_serial, foldl_pins, foldl_md, foldl_cmds, foldl_clk, foldl_ref, foldl_kennel, foldl_time, foldl_buf, foldl_port, foldl_slices, foldl_tab, foldl_gen, foldl_sch, foldl_tel, foldl_pwr, foldl_cnts, foldl_flt_keel0, foldl_snd_pending, foldl_snd_now, foldl_snd_serial, foldl_snd_pins, foldl_snd_md, foldl_snd_cmds, foldl_snd_clk, foldl_snd_ref, foldl_snd_kennel, foldl_snd_time, foldl_snd_buf, foldl_snd_port, foldl_snd_slices, foldl_snd_tab, foldl_snd_gen, foldl_snd_sch, foldl_snd_tel, foldl_snd_pwr, foldl_snd_cnts, foldl_snd_flt_keel0]; done)

@[simp] theorem State.writeHi_keeps (p : HostPort) (o v : Nat) (s : State) :
    (State.writeHi p o v s).pending = s.pending ∧ (State.writeHi p o v s).now = s.now ∧
    (State.writeHi p o v s).serial = s.serial ∧ (State.writeHi p o v s).pins = s.pins ∧
    (State.writeHi p o v s).md = s.md ∧ (State.writeHi p o v s).cmds = s.cmds ∧
    (State.writeHi p o v s).clk = s.clk ∧ (State.writeHi p o v s).ref = s.ref ∧
    (State.writeHi p o v s).kennel = s.kennel ∧ (State.writeHi p o v s).time = s.time ∧
    (State.writeHi p o v s).buf = s.buf ∧ (State.writeHi p o v s).port = s.port ∧
    (State.writeHi p o v s).slices = s.slices ∧ (State.writeHi p o v s).tab = s.tab ∧
    (State.writeHi p o v s).gen = s.gen ∧ (State.writeHi p o v s).sch = s.sch ∧
    (State.writeHi p o v s).tel = s.tel ∧ (State.writeHi p o v s).pwr = s.pwr ∧
    (State.writeHi p o v s).cnts = s.cnts ∧ (State.writeHi p o v s).flt.keel0 = s.flt.keel0 := by
  (unfold State.writeHi; simp only [State.writeMsix_keeps, State.wr_keeps, State.writeTimeout_keeps, State.writeRing_keeps, State.vecDue_keeps, ite_self, and_self, implies_true, Ran.st_done, Ran.st_wait, Ran.st_refuse, Ran.st_ite, snd_ite, ite_pending, ite_now, ite_serial, ite_pins, ite_md, ite_cmds, ite_clk, ite_ref, ite_kennel, ite_time, ite_buf, ite_port, ite_slices, ite_tab, ite_gen, ite_sch, ite_tel, ite_pwr, ite_cnts, ite_flt_keel0, foldl_pending, foldl_now, foldl_serial, foldl_pins, foldl_md, foldl_cmds, foldl_clk, foldl_ref, foldl_kennel, foldl_time, foldl_buf, foldl_port, foldl_slices, foldl_tab, foldl_gen, foldl_sch, foldl_tel, foldl_pwr, foldl_cnts, foldl_flt_keel0, foldl_snd_pending, foldl_snd_now, foldl_snd_serial, foldl_snd_pins, foldl_snd_md, foldl_snd_cmds, foldl_snd_clk, foldl_snd_ref, foldl_snd_kennel, foldl_snd_time, foldl_snd_buf, foldl_snd_port, foldl_snd_slices, foldl_snd_tab, foldl_snd_gen, foldl_snd_sch, foldl_snd_tel, foldl_snd_pwr, foldl_snd_cnts, foldl_snd_flt_keel0]; done)

@[simp] theorem State.writeOwn_keeps (p : HostPort) (o v : Nat) (s : State) :
    (State.writeOwn p o v s).pending = s.pending ∧ (State.writeOwn p o v s).now = s.now ∧
    (State.writeOwn p o v s).serial = s.serial ∧ (State.writeOwn p o v s).pins = s.pins ∧
    (State.writeOwn p o v s).md = s.md ∧ (State.writeOwn p o v s).host = s.host ∧
    (State.writeOwn p o v s).cmds = s.cmds ∧ (State.writeOwn p o v s).flt = s.flt ∧
    (State.writeOwn p o v s).kennel = s.kennel ∧ (State.writeOwn p o v s).tab = s.tab ∧
    (State.writeOwn p o v s).gen = s.gen ∧ (State.writeOwn p o v s).sch = s.sch ∧
    (State.writeOwn p o v s).pwr = s.pwr ∧ (State.writeOwn p o v s).clk.pipeCur = s.clk.pipeCur := by
  (unfold State.writeOwn; simp only [State.wr_keeps, State.writeTimeCtl_keeps, State.stopOut_keeps, State.writeStored_keeps, ite_self, and_self, implies_true, Ran.st_done, Ran.st_wait, Ran.st_refuse, Ran.st_ite, snd_ite, ite_pending, ite_now, ite_serial, ite_pins, ite_md, ite_host, ite_cmds, ite_flt, ite_kennel, ite_tab, ite_gen, ite_sch, ite_pwr, ite_clk_pipeCur, foldl_pending, foldl_now, foldl_serial, foldl_pins, foldl_md, foldl_host, foldl_cmds, foldl_flt, foldl_kennel, foldl_tab, foldl_gen, foldl_sch, foldl_pwr, foldl_clk_pipeCur, foldl_snd_pending, foldl_snd_now, foldl_snd_serial, foldl_snd_pins, foldl_snd_md, foldl_snd_host, foldl_snd_cmds, foldl_snd_flt, foldl_snd_kennel, foldl_snd_tab, foldl_snd_gen, foldl_snd_sch, foldl_snd_pwr, foldl_snd_clk_pipeCur]; done)

@[simp] theorem State.write4_keeps (p : HostPort) (o v : Nat) (s : State) :
    (State.write4 p o v s).pending = s.pending ∧ (State.write4 p o v s).now = s.now ∧
    (State.write4 p o v s).serial = s.serial ∧ (State.write4 p o v s).pins = s.pins ∧
    (State.write4 p o v s).md = s.md ∧ (State.write4 p o v s).cmds = s.cmds ∧
    (State.write4 p o v s).kennel = s.kennel ∧ (State.write4 p o v s).tab = s.tab ∧
    (State.write4 p o v s).gen = s.gen ∧ (State.write4 p o v s).sch = s.sch ∧ (State.write4 p o v s).pwr = s.pwr ∧
    (State.write4 p o v s).flt.keel0 = s.flt.keel0 ∧ (State.write4 p o v s).clk.pipeCur = s.clk.pipeCur := by
  (unfold State.write4; simp only [State.writeOwn_keeps, State.writeHi_keeps, ite_self, and_self, implies_true, Ran.st_done, Ran.st_wait, Ran.st_refuse, Ran.st_ite, snd_ite, ite_pending, ite_now, ite_serial, ite_pins, ite_md, ite_cmds, ite_kennel, ite_tab, ite_gen, ite_sch, ite_pwr, ite_flt_keel0, ite_clk_pipeCur, foldl_pending, foldl_now, foldl_serial, foldl_pins, foldl_md, foldl_cmds, foldl_kennel, foldl_tab, foldl_gen, foldl_sch, foldl_pwr, foldl_flt_keel0, foldl_clk_pipeCur, foldl_snd_pending, foldl_snd_now, foldl_snd_serial, foldl_snd_pins, foldl_snd_md, foldl_snd_cmds, foldl_snd_kennel, foldl_snd_tab, foldl_snd_gen, foldl_snd_sch, foldl_snd_pwr, foldl_snd_flt_keel0, foldl_snd_clk_pipeCur]; done)
end Sys2Proof.Machine
end

