-- ==== Sys2Proof/Laws/KeepsPool.lean ====
section
/-! SUPPORT. What each operation of Machine/Pool.lean keeps: the parts of the state that it leaves as they are. -/
set_option linter.unusedSimpArgs false
set_option linter.unusedVariables false
namespace Sys2Proof.Machine
open Host (Outcome)

theorem State.hostTake_keeps (exact : Bool) (pick : Draw) (a2 a3 : Nat) (a4 : State) : ∀ x t, (State.hostTake exact pick a2 a3 a4).1 = some (x, t) →
    t.pending = a4.pending ∧ t.now = a4.now ∧ t.serial = a4.serial ∧ t.out = a4.out ∧ t.pins = a4.pins ∧
    t.md = a4.md ∧ t.host = a4.host ∧ t.cmds = a4.cmds ∧ t.flt = a4.flt ∧ t.clk = a4.clk ∧ t.ref = a4.ref ∧
    t.kennel = a4.kennel ∧ t.time = a4.time ∧ t.port = a4.port ∧ t.slices = a4.slices ∧ t.tab = a4.tab ∧
    t.gen = a4.gen ∧ t.core = a4.core ∧ t.sch = a4.sch ∧ t.tel = a4.tel ∧ t.pwr = a4.pwr ∧ t.regs = a4.regs := by
  induction a2 generalizing a3 a4 with
  | zero => intro x t h; simp [State.hostTake] at h
  | succ n ih =>
    intro x t h
    simp only [State.hostTake] at h
    split at h
    · simp at h
    · split at h
      · split at h
        · obtain ⟨v, -, e⟩ := Option.map_eq_some_iff.mp h
          simp only [Prod.mk.injEq] at e
          obtain ⟨-, rfl⟩ := e
          simp
        · simp at h
      · split at h
        · simp at h
        · exact ih _ _ _ _ h

theorem State.hostTakes_keeps (exact : Bool) (k : Nat) (picks : List Draw) (a3 : Nat) (a4 : State) : ∀ x t, (State.hostTakes exact k picks a3 a4).1 = some (x, t) →
    t.pending = a4.pending ∧ t.now = a4.now ∧ t.serial = a4.serial ∧ t.out = a4.out ∧ t.pins = a4.pins ∧
    t.md = a4.md ∧ t.host = a4.host ∧ t.cmds = a4.cmds ∧ t.flt = a4.flt ∧ t.clk = a4.clk ∧ t.ref = a4.ref ∧
    t.kennel = a4.kennel ∧ t.time = a4.time ∧ t.port = a4.port ∧ t.slices = a4.slices ∧ t.tab = a4.tab ∧
    t.gen = a4.gen ∧ t.core = a4.core ∧ t.sch = a4.sch ∧ t.tel = a4.tel ∧ t.pwr = a4.pwr ∧ t.regs = a4.regs := by
  induction a3 generalizing a4 with
  | zero => intro x t h; simp only [State.hostTakes, Option.some.injEq, Prod.mk.injEq] at h; obtain ⟨-, rfl⟩ := h; simp
  | succ n ih =>
    intro x t q
    simp only [State.hostTakes] at q
    split at q
    · simp at q
    · rename_i v s1 e
      obtain ⟨w, hw, h2⟩ := Option.map_eq_some_iff.mp q
      simp only [Prod.mk.injEq] at h2
      obtain ⟨-, rfl⟩ := h2
      have k1 := State.hostTake_keeps _ _ _ _ _ _ _ e
      have k2 := ih _ _ _ hw
      split at k2 <;> simp [k1, k2]

@[simp] theorem testTile_keeps (h : Nat) (failed : List Nat) (a : Nat × State) (t : Nat) :
    (testTile h failed a t).2.pending = a.2.pending ∧ (testTile h failed a t).2.now = a.2.now ∧
    (testTile h failed a t).2.serial = a.2.serial ∧ (testTile h failed a t).2.out = a.2.out ∧
    (testTile h failed a t).2.pins = a.2.pins ∧ (testTile h failed a t).2.md = a.2.md ∧
    (testTile h failed a t).2.host = a.2.host ∧ (testTile h failed a t).2.cmds = a.2.cmds ∧
    (testTile h failed a t).2.clk = a.2.clk ∧ (testTile h failed a t).2.kennel = a.2.kennel ∧
    (testTile h failed a t).2.time = a.2.time ∧ (testTile h failed a t).2.port = a.2.port ∧
    (testTile h failed a t).2.slices = a.2.slices ∧ (testTile h failed a t).2.tab = a.2.tab ∧
    (testTile h failed a t).2.gen = a.2.gen ∧ (testTile h failed a t).2.core = a.2.core ∧
    (testTile h failed a t).2.sch = a.2.sch ∧ (testTile h failed a t).2.tel = a.2.tel ∧
    (testTile h failed a t).2.pwr = a.2.pwr ∧ (testTile h failed a t).2.regs = a.2.regs ∧
    (testTile h failed a t).2.flt.keel0 = a.2.flt.keel0 ∧ (testTile h failed a t).2.flt.keel1 = a.2.flt.keel1 := by
  (unfold testTile; simp only [State.injected_keeps, State.retireTile_keeps, ite_self, and_self, implies_true, Ran.st_done, Ran.st_wait, Ran.st_refuse, Ran.st_ite, snd_ite, ite_pending, ite_now, ite_serial, ite_out, ite_pins, ite_md, ite_host, ite_cmds, ite_clk, ite_kennel, ite_time, ite_port, ite_slices, ite_tab, ite_gen, ite_core, ite_sch, ite_tel, ite_pwr, ite_regs, ite_flt_keel0, ite_flt_keel1, foldl_pending, foldl_now, foldl_serial, foldl_out, foldl_pins, foldl_md, foldl_host, foldl_cmds, foldl_clk, foldl_kennel, foldl_time, foldl_port, foldl_slices, foldl_tab, foldl_gen, foldl_core, foldl_sch, foldl_tel, foldl_pwr, foldl_regs, foldl_flt_keel0, foldl_flt_keel1, foldl_snd_pending, foldl_snd_now, foldl_snd_serial, foldl_snd_out, foldl_snd_pins, foldl_snd_md, foldl_snd_host, foldl_snd_cmds, foldl_snd_clk, foldl_snd_kennel, foldl_snd_time, foldl_snd_port, foldl_snd_slices, foldl_snd_tab, foldl_snd_gen, foldl_snd_core, foldl_snd_sch, foldl_snd_tel, foldl_snd_pwr, foldl_snd_regs, foldl_snd_flt_keel0, foldl_snd_flt_keel1]; done)

@[simp] theorem State.testExtents_keeps (hs failed : List Nat) (s : State) :
    (State.testExtents hs failed s).2.pending = s.pending ∧ (State.testExtents hs failed s).2.now = s.now ∧
    (State.testExtents hs failed s).2.serial = s.serial ∧ (State.testExtents hs failed s).2.out = s.out ∧
    (State.testExtents hs failed s).2.pins = s.pins ∧ (State.testExtents hs failed s).2.md = s.md ∧
    (State.testExtents hs failed s).2.host = s.host ∧ (State.testExtents hs failed s).2.cmds = s.cmds ∧
    (State.testExtents hs failed s).2.clk = s.clk ∧ (State.testExtents hs failed s).2.kennel = s.kennel ∧
    (State.testExtents hs failed s).2.time = s.time ∧ (State.testExtents hs failed s).2.port = s.port ∧
    (State.testExtents hs failed s).2.slices = s.slices ∧ (State.testExtents hs failed s).2.tab = s.tab ∧
    (State.testExtents hs failed s).2.gen = s.gen ∧ (State.testExtents hs failed s).2.core = s.core ∧
    (State.testExtents hs failed s).2.sch = s.sch ∧ (State.testExtents hs failed s).2.tel = s.tel ∧
    (State.testExtents hs failed s).2.pwr = s.pwr ∧ (State.testExtents hs failed s).2.regs = s.regs ∧
    (State.testExtents hs failed s).2.flt.keel0 = s.flt.keel0 ∧
    (State.testExtents hs failed s).2.flt.keel1 = s.flt.keel1 := by
  (unfold State.testExtents; simp only [testTile_keeps, ite_self, and_self, implies_true, Ran.st_done, Ran.st_wait, Ran.st_refuse, Ran.st_ite, snd_ite, foldl_pending, foldl_now, foldl_serial, foldl_out, foldl_pins, foldl_md, foldl_host, foldl_cmds, foldl_clk, foldl_kennel, foldl_time, foldl_port, foldl_slices, foldl_tab, foldl_gen, foldl_core, foldl_sch, foldl_tel, foldl_pwr, foldl_regs, foldl_flt_keel0, foldl_flt_keel1, foldl_snd_pending, foldl_snd_now, foldl_snd_serial, foldl_snd_out, foldl_snd_pins, foldl_snd_md, foldl_snd_host, foldl_snd_cmds, foldl_snd_clk, foldl_snd_kennel, foldl_snd_time, foldl_snd_port, foldl_snd_slices, foldl_snd_tab, foldl_snd_gen, foldl_snd_core, foldl_snd_sch, foldl_snd_tel, foldl_snd_pwr, foldl_snd_regs, foldl_snd_flt_keel0, foldl_snd_flt_keel1]; done)

@[simp] theorem State.retireHeld_keeps (s : State) (e : Nat × Bool) :
    (State.retireHeld s e).pending = s.pending ∧ (State.retireHeld s e).now = s.now ∧
    (State.retireHeld s e).serial = s.serial ∧ (State.retireHeld s e).out = s.out ∧
    (State.retireHeld s e).pins = s.pins ∧ (State.retireHeld s e).md = s.md ∧
    (State.retireHeld s e).host = s.host ∧ (State.retireHeld s e).cmds = s.cmds ∧
    (State.retireHeld s e).clk = s.clk ∧ (State.retireHeld s e).kennel = s.kennel ∧
    (State.retireHeld s e).time = s.time ∧ (State.retireHeld s e).port = s.port ∧
    (State.retireHeld s e).slices = s.slices ∧ (State.retireHeld s e).tab = s.tab ∧
    (State.retireHeld s e).gen = s.gen ∧ (State.retireHeld s e).core = s.core ∧
    (State.retireHeld s e).sch = s.sch ∧ (State.retireHeld s e).tel = s.tel ∧ (State.retireHeld s e).pwr = s.pwr ∧
    (State.retireHeld s e).regs = s.regs ∧ (State.retireHeld s e).flt.keel0 = s.flt.keel0 ∧
    (State.retireHeld s e).flt.keel1 = s.flt.keel1 := by
  (unfold State.retireHeld; split <;> simp only [State.retireTile_keeps, ite_self, and_self, implies_true, Ran.st_done, Ran.st_wait, Ran.st_refuse, Ran.st_ite, snd_ite, ite_pending, ite_now, ite_serial, ite_out, ite_pins, ite_md, ite_host, ite_cmds, ite_clk, ite_kennel, ite_time, ite_port, ite_slices, ite_tab, ite_gen, ite_core, ite_sch, ite_tel, ite_pwr, ite_regs, ite_flt_keel0, ite_flt_keel1, foldl_pending, foldl_now, foldl_serial, foldl_out, foldl_pins, foldl_md, foldl_host, foldl_cmds, foldl_clk, foldl_kennel, foldl_time, foldl_port, foldl_slices, foldl_tab, foldl_gen, foldl_core, foldl_sch, foldl_tel, foldl_pwr, foldl_regs, foldl_flt_keel0, foldl_flt_keel1, foldl_snd_pending, foldl_snd_now, foldl_snd_serial, foldl_snd_out, foldl_snd_pins, foldl_snd_md, foldl_snd_host, foldl_snd_cmds, foldl_snd_clk, foldl_snd_kennel, foldl_snd_time, foldl_snd_port, foldl_snd_slices, foldl_snd_tab, foldl_snd_gen, foldl_snd_core, foldl_snd_sch, foldl_snd_tel, foldl_snd_pwr, foldl_snd_regs, foldl_snd_flt_keel0, foldl_snd_flt_keel1])

@[simp] theorem State.retirePending_keeps (s : State) :
    (State.retirePending s).pending = s.pending ∧ (State.retirePending s).now = s.now ∧
    (State.retirePending s).serial = s.serial ∧ (State.retirePending s).out = s.out ∧
    (State.retirePending s).pins = s.pins ∧ (State.retirePending s).md = s.md ∧
    (State.retirePending s).host = s.host ∧ (State.retirePending s).cmds = s.cmds ∧
    (State.retirePending s).clk = s.clk ∧ (State.retirePending s).kennel = s.kennel ∧
    (State.retirePending s).time = s.time ∧ (State.retirePending s).port = s.port ∧
    (State.retirePending s).slices = s.slices ∧ (State.retirePending s).tab = s.tab ∧
    (State.retirePending s).gen = s.gen ∧ (State.retirePending s).core = s.core ∧
    (State.retirePending s).sch = s.sch ∧ (State.retirePending s).tel = s.tel ∧
    (State.retirePending s).pwr = s.pwr ∧ (State.retirePending s).regs = s.regs ∧
    (State.retirePending s).flt.keel0 = s.flt.keel0 ∧ (State.retirePending s).flt.keel1 = s.flt.keel1 := by
  (unfold State.retirePending; simp only [State.retireHeld_keeps, ite_self, and_self, implies_true, Ran.st_done, Ran.st_wait, Ran.st_refuse, Ran.st_ite, snd_ite, foldl_pending, foldl_now, foldl_serial, foldl_out, foldl_pins, foldl_md, foldl_host, foldl_cmds, foldl_clk, foldl_kennel, foldl_time, foldl_port, foldl_slices, foldl_tab, foldl_gen, foldl_core, foldl_sch, foldl_tel, foldl_pwr, foldl_regs, foldl_flt_keel0, foldl_flt_keel1, foldl_snd_pending, foldl_snd_now, foldl_snd_serial, foldl_snd_out, foldl_snd_pins, foldl_snd_md, foldl_snd_host, foldl_snd_cmds, foldl_snd_clk, foldl_snd_kennel, foldl_snd_time, foldl_snd_port, foldl_snd_slices, foldl_snd_tab, foldl_snd_gen, foldl_snd_core, foldl_snd_sch, foldl_snd_tel, foldl_snd_pwr, foldl_snd_regs, foldl_snd_flt_keel0, foldl_snd_flt_keel1]; done)
end Sys2Proof.Machine
end

