-- ==== Sys2Proof/Laws/KeepsSpdm.lean ====
section
/-! SUPPORT. What each operation of Machine/Spdm.lean keeps: the parts of the state that it leaves as they are. -/
set_option linter.unusedSimpArgs false
set_option linter.unusedVariables false
namespace Sys2Proof.Machine
open Host (Outcome)

@[simp] theorem State.respond_keeps (p : HostPort) (code : Nat) (data : List Byte) (s : State) :
    (State.respond p code data s).pending = s.pending ∧ (State.respond p code data s).now = s.now ∧
    (State.respond p code data s).serial = s.serial ∧ (State.respond p code data s).out = s.out ∧
    (State.respond p code data s).pins = s.pins ∧ (State.respond p code data s).md = s.md ∧
    (State.respond p code data s).cmds = s.cmds ∧ (State.respond p code data s).flt = s.flt ∧
    (State.respond p code data s).clk = s.clk ∧ (State.respond p code data s).ref = s.ref ∧
    (State.respond p code data s).kennel = s.kennel ∧ (State.respond p code data s).time = s.time ∧
    (State.respond p code data s).buf = s.buf ∧ (State.respond p code data s).port = s.port ∧
    (State.respond p code data s).slices = s.slices ∧ (State.respond p code data s).tab = s.tab ∧
    (State.respond p code data s).gen = s.gen ∧ (State.respond p code data s).core = s.core ∧
    (State.respond p code data s).sch = s.sch ∧ (State.respond p code data s).tel = s.tel ∧
    (State.respond p code data s).pwr = s.pwr ∧ (State.respond p code data s).regs = s.regs ∧
    (State.respond p code data s).cnts = s.cnts := by
  (unfold State.respond; simp only [State.onHalf_keeps, ite_self, and_self, implies_true, Ran.st_done, Ran.st_wait, Ran.st_refuse, Ran.st_ite, snd_ite, foldl_pending, foldl_now, foldl_serial, foldl_out, foldl_pins, foldl_md, foldl_cmds, foldl_flt, foldl_clk, foldl_ref, foldl_kennel, foldl_time, foldl_buf, foldl_port, foldl_slices, foldl_tab, foldl_gen, foldl_core, foldl_sch, foldl_tel, foldl_pwr, foldl_regs, foldl_cnts, foldl_snd_pending, foldl_snd_now, foldl_snd_serial, foldl_snd_out, foldl_snd_pins, foldl_snd_md, foldl_snd_cmds, foldl_snd_flt, foldl_snd_clk, foldl_snd_ref, foldl_snd_kennel, foldl_snd_time, foldl_snd_buf, foldl_snd_port, foldl_snd_slices, foldl_snd_tab, foldl_snd_gen, foldl_snd_core, foldl_snd_sch, foldl_snd_tel, foldl_snd_pwr, foldl_snd_regs, foldl_snd_cnts]; done)

@[simp] theorem State.spdmError_keeps (p : HostPort) (err : Nat) (s : State) :
    (State.spdmError p err s).pending = s.pending ∧ (State.spdmError p err s).now = s.now ∧
    (State.spdmError p err s).serial = s.serial ∧ (State.spdmError p err s).out = s.out ∧
    (State.spdmError p err s).pins = s.pins ∧ (State.spdmError p err s).md = s.md ∧
    (State.spdmError p err s).cmds = s.cmds ∧ (State.spdmError p err s).flt = s.flt ∧
    (State.spdmError p err s).clk = s.clk ∧ (State.spdmError p err s).ref = s.ref ∧
    (State.spdmError p err s).kennel = s.kennel ∧ (State.spdmError p err s).time = s.time ∧
    (State.spdmError p err s).buf = s.buf ∧ (State.spdmError p err s).port = s.port ∧
    (State.spdmError p err s).slices = s.slices ∧ (State.spdmError p err s).tab = s.tab ∧
    (State.spdmError p err s).gen = s.gen ∧ (State.spdmError p err s).core = s.core ∧
    (State.spdmError p err s).sch = s.sch ∧ (State.spdmError p err s).tel = s.tel ∧
    (State.spdmError p err s).pwr = s.pwr ∧ (State.spdmError p err s).regs = s.regs ∧
    (State.spdmError p err s).cnts = s.cnts := by
  (unfold State.spdmError; simp only [State.respond_keeps, ite_self, and_self, implies_true, Ran.st_done, Ran.st_wait, Ran.st_refuse, Ran.st_ite, snd_ite, foldl_pending, foldl_now, foldl_serial, foldl_out, foldl_pins, foldl_md, foldl_cmds, foldl_flt, foldl_clk, foldl_ref, foldl_kennel, foldl_time, foldl_buf, foldl_port, foldl_slices, foldl_tab, foldl_gen, foldl_core, foldl_sch, foldl_tel, foldl_pwr, foldl_regs, foldl_cnts, foldl_snd_pending, foldl_snd_now, foldl_snd_serial, foldl_snd_out, foldl_snd_pins, foldl_snd_md, foldl_snd_cmds, foldl_snd_flt, foldl_snd_clk, foldl_snd_ref, foldl_snd_kennel, foldl_snd_time, foldl_snd_buf, foldl_snd_port, foldl_snd_slices, foldl_snd_tab, foldl_snd_gen, foldl_snd_core, foldl_snd_sch, foldl_snd_tel, foldl_snd_pwr, foldl_snd_regs, foldl_snd_cnts]; done)

@[simp] theorem State.spdmRun_pending (p : HostPort) (ok : Spdm → Bool) (f : State → State) (s : State)
    (h : ∀ t, (f t).pending = t.pending) : (State.spdmRun p ok f s).pending = s.pending := by
  unfold State.spdmRun; (repeat' split) <;> simp [h]

@[simp] theorem State.spdmRun_now (p : HostPort) (ok : Spdm → Bool) (f : State → State) (s : State)
    (h : ∀ t, (f t).now = t.now) : (State.spdmRun p ok f s).now = s.now := by
  unfold State.spdmRun; (repeat' split) <;> simp [h]

@[simp] theorem State.spdmRun_serial (p : HostPort) (ok : Spdm → Bool) (f : State → State) (s : State)
    (h : ∀ t, (f t).serial = t.serial) : (State.spdmRun p ok f s).serial = s.serial := by
  unfold State.spdmRun; (repeat' split) <;> simp [h]

@[simp] theorem State.spdmRun_out (p : HostPort) (ok : Spdm → Bool) (f : State → State) (s : State)
    (h : ∀ t, (f t).out = t.out) : (State.spdmRun p ok f s).out = s.out := by
  unfold State.spdmRun; (repeat' split) <;> simp [h]

@[simp] theorem State.spdmRun_pins (p : HostPort) (ok : Spdm → Bool) (f : State → State) (s : State)
    (h : ∀ t, (f t).pins = t.pins) : (State.spdmRun p ok f s).pins = s.pins := by
  unfold State.spdmRun; (repeat' split) <;> simp [h]

@[simp] theorem State.spdmRun_md (p : HostPort) (ok : Spdm → Bool) (f : State → State) (s : State)
    (h : ∀ t, (f t).md = t.md) : (State.spdmRun p ok f s).md = s.md := by
  unfold State.spdmRun; (repeat' split) <;> simp [h]

@[simp] theorem State.spdmRun_cmds (p : HostPort) (ok : Spdm → Bool) (f : State → State) (s : State)
    (h : ∀ t, (f t).cmds = t.cmds) : (State.spdmRun p ok f s).cmds = s.cmds := by
  unfold State.spdmRun; (repeat' split) <;> simp [h]

@[simp] theorem State.spdmRun_flt (p : HostPort) (ok : Spdm → Bool) (f : State → State) (s : State)
    (h : ∀ t, (f t).flt = t.flt) : (State.spdmRun p ok f s).flt = s.flt := by
  unfold State.spdmRun; (repeat' split) <;> simp [h]

@[simp] theorem State.spdmRun_clk (p : HostPort) (ok : Spdm → Bool) (f : State → State) (s : State)
    (h : ∀ t, (f t).clk = t.clk) : (State.spdmRun p ok f s).clk = s.clk := by
  unfold State.spdmRun; (repeat' split) <;> simp [h]

@[simp] theorem State.spdmRun_ref (p : HostPort) (ok : Spdm → Bool) (f : State → State) (s : State)
    (h : ∀ t, (f t).ref = t.ref) : (State.spdmRun p ok f s).ref = s.ref := by
  unfold State.spdmRun; (repeat' split) <;> simp [h]

@[simp] theorem State.spdmRun_kennel (p : HostPort) (ok : Spdm → Bool) (f : State → State) (s : State)
    (h : ∀ t, (f t).kennel = t.kennel) : (State.spdmRun p ok f s).kennel = s.kennel := by
  unfold State.spdmRun; (repeat' split) <;> simp [h]

@[simp] theorem State.spdmRun_time (p : HostPort) (ok : Spdm → Bool) (f : State → State) (s : State)
    (h : ∀ t, (f t).time = t.time) : (State.spdmRun p ok f s).time = s.time := by
  unfold State.spdmRun; (repeat' split) <;> simp [h]

@[simp] theorem State.spdmRun_buf (p : HostPort) (ok : Spdm → Bool) (f : State → State) (s : State)
    (h : ∀ t, (f t).buf = t.buf) : (State.spdmRun p ok f s).buf = s.buf := by
  unfold State.spdmRun; (repeat' split) <;> simp [h]

@[simp] theorem State.spdmRun_port (p : HostPort) (ok : Spdm → Bool) (f : State → State) (s : State)
    (h : ∀ t, (f t).port = t.port) : (State.spdmRun p ok f s).port = s.port := by
  unfold State.spdmRun; (repeat' split) <;> simp [h]

@[simp] theorem State.spdmRun_slices (p : HostPort) (ok : Spdm → Bool) (f : State → State) (s : State)
    (h : ∀ t, (f t).slices = t.slices) : (State.spdmRun p ok f s).slices = s.slices := by
  unfold State.spdmRun; (repeat' split) <;> simp [h]

@[simp] theorem State.spdmRun_tab (p : HostPort) (ok : Spdm → Bool) (f : State → State) (s : State)
    (h : ∀ t, (f t).tab = t.tab) : (State.spdmRun p ok f s).tab = s.tab := by
  unfold State.spdmRun; (repeat' split) <;> simp [h]

@[simp] theorem State.spdmRun_gen (p : HostPort) (ok : Spdm → Bool) (f : State → State) (s : State)
    (h : ∀ t, (f t).gen = t.gen) : (State.spdmRun p ok f s).gen = s.gen := by
  unfold State.spdmRun; (repeat' split) <;> simp [h]

@[simp] theorem State.spdmRun_core (p : HostPort) (ok : Spdm → Bool) (f : State → State) (s : State)
    (h : ∀ t, (f t).core = t.core) : (State.spdmRun p ok f s).core = s.core := by
  unfold State.spdmRun; (repeat' split) <;> simp [h]

@[simp] theorem State.spdmRun_sch (p : HostPort) (ok : Spdm → Bool) (f : State → State) (s : State)
    (h : ∀ t, (f t).sch = t.sch) : (State.spdmRun p ok f s).sch = s.sch := by
  unfold State.spdmRun; (repeat' split) <;> simp [h]

@[simp] theorem State.spdmRun_tel (p : HostPort) (ok : Spdm → Bool) (f : State → State) (s : State)
    (h : ∀ t, (f t).tel = t.tel) : (State.spdmRun p ok f s).tel = s.tel := by
  unfold State.spdmRun; (repeat' split) <;> simp [h]

@[simp] theorem State.spdmRun_pwr (p : HostPort) (ok : Spdm → Bool) (f : State → State) (s : State)
    (h : ∀ t, (f t).pwr = t.pwr) : (State.spdmRun p ok f s).pwr = s.pwr := by
  unfold State.spdmRun; (repeat' split) <;> simp [h]

@[simp] theorem State.spdmRun_regs (p : HostPort) (ok : Spdm → Bool) (f : State → State) (s : State)
    (h : ∀ t, (f t).regs = t.regs) : (State.spdmRun p ok f s).regs = s.regs := by
  unfold State.spdmRun; (repeat' split) <;> simp [h]

@[simp] theorem State.spdmRun_cnts (p : HostPort) (ok : Spdm → Bool) (f : State → State) (s : State)
    (h : ∀ t, (f t).cnts = t.cnts) : (State.spdmRun p ok f s).cnts = s.cnts := by
  unfold State.spdmRun; (repeat' split) <;> simp [h]

@[simp] theorem State.spdmTo_keeps (p : HostPort) (x : Spdm) (s : State) :
    (State.spdmTo p x s).pending = s.pending ∧ (State.spdmTo p x s).now = s.now ∧
    (State.spdmTo p x s).serial = s.serial ∧ (State.spdmTo p x s).out = s.out ∧
    (State.spdmTo p x s).pins = s.pins ∧ (State.spdmTo p x s).md = s.md ∧ (State.spdmTo p x s).cmds = s.cmds ∧
    (State.spdmTo p x s).flt = s.flt ∧ (State.spdmTo p x s).clk = s.clk ∧ (State.spdmTo p x s).ref = s.ref ∧
    (State.spdmTo p x s).kennel = s.kennel ∧ (State.spdmTo p x s).time = s.time ∧
    (State.spdmTo p x s).buf = s.buf ∧ (State.spdmTo p x s).port = s.port ∧
    (State.spdmTo p x s).slices = s.slices ∧ (State.spdmTo p x s).tab = s.tab ∧ (State.spdmTo p x s).gen = s.gen ∧
    (State.spdmTo p x s).core = s.core ∧ (State.spdmTo p x s).sch = s.sch ∧ (State.spdmTo p x s).tel = s.tel ∧
    (State.spdmTo p x s).pwr = s.pwr ∧ (State.spdmTo p x s).regs = s.regs ∧ (State.spdmTo p x s).cnts = s.cnts := by
  (unfold State.spdmTo; simp only [State.onHalf_keeps, ite_self, and_self, implies_true, Ran.st_done, Ran.st_wait, Ran.st_refuse, Ran.st_ite, snd_ite, foldl_pending, foldl_now, foldl_serial, foldl_out, foldl_pins, foldl_md, foldl_cmds, foldl_flt, foldl_clk, foldl_ref, foldl_kennel, foldl_time, foldl_buf, foldl_port, foldl_slices, foldl_tab, foldl_gen, foldl_core, foldl_sch, foldl_tel, foldl_pwr, foldl_regs, foldl_cnts, foldl_snd_pending, foldl_snd_now, foldl_snd_serial, foldl_snd_out, foldl_snd_pins, foldl_snd_md, foldl_snd_cmds, foldl_snd_flt, foldl_snd_clk, foldl_snd_ref, foldl_snd_kennel, foldl_snd_time, foldl_snd_buf, foldl_snd_port, foldl_snd_slices, foldl_snd_tab, foldl_snd_gen, foldl_snd_core, foldl_snd_sch, foldl_snd_tel, foldl_snd_pwr, foldl_snd_regs, foldl_snd_cnts]; done)

@[simp] theorem State.withElement_pending (p : HostPort) (answers : Bool) (f : State → State) (s : State)
    (h : ∀ t, (f t).pending = t.pending) : (State.withElement p answers f s).pending = s.pending := by
  unfold State.withElement; (repeat' split) <;> simp [h]

@[simp] theorem State.withElement_now (p : HostPort) (answers : Bool) (f : State → State) (s : State)
    (h : ∀ t, (f t).now = t.now) : (State.withElement p answers f s).now = s.now := by
  unfold State.withElement; (repeat' split) <;> simp [h]

@[simp] theorem State.withElement_serial (p : HostPort) (answers : Bool) (f : State → State) (s : State)
    (h : ∀ t, (f t).serial = t.serial) : (State.withElement p answers f s).serial = s.serial := by
  unfold State.withElement; (repeat' split) <;> simp [h]

@[simp] theorem State.withElement_out (p : HostPort) (answers : Bool) (f : State → State) (s : State)
    (h : ∀ t, (f t).out = t.out) : (State.withElement p answers f s).out = s.out := by
  unfold State.withElement; (repeat' split) <;> simp [h]

@[simp] theorem State.withElement_pins (p : HostPort) (answers : Bool) (f : State → State) (s : State)
    (h : ∀ t, (f t).pins = t.pins) : (State.withElement p answers f s).pins = s.pins := by
  unfold State.withElement; (repeat' split) <;> simp [h]

@[simp] theorem State.withElement_md (p : HostPort) (answers : Bool) (f : State → State) (s : State)
    (h : ∀ t, (f t).md = t.md) : (State.withElement p answers f s).md = s.md := by
  unfold State.withElement; (repeat' split) <;> simp [h]

@[simp] theorem State.withElement_cmds (p : HostPort) (answers : Bool) (f : State → State) (s : State)
    (h : ∀ t, (f t).cmds = t.cmds) : (State.withElement p answers f s).cmds = s.cmds := by
  unfold State.withElement; (repeat' split) <;> simp [h]

@[simp] theorem State.withElement_clk (p : HostPort) (answers : Bool) (f : State → State) (s : State)
    (h : ∀ t, (f t).clk = t.clk) : (State.withElement p answers f s).clk = s.clk := by
  unfold State.withElement; (repeat' split) <;> simp [h]

@[simp] theorem State.withElement_kennel (p : HostPort) (answers : Bool) (f : State → State) (s : State)
    (h : ∀ t, (f t).kennel = t.kennel) : (State.withElement p answers f s).kennel = s.kennel := by
  unfold State.withElement; (repeat' split) <;> simp [h]

@[simp] theorem State.withElement_time (p : HostPort) (answers : Bool) (f : State → State) (s : State)
    (h : ∀ t, (f t).time = t.time) : (State.withElement p answers f s).time = s.time := by
  unfold State.withElement; (repeat' split) <;> simp [h]

@[simp] theorem State.withElement_buf (p : HostPort) (answers : Bool) (f : State → State) (s : State)
    (h : ∀ t, (f t).buf = t.buf) : (State.withElement p answers f s).buf = s.buf := by
  unfold State.withElement; (repeat' split) <;> simp [h]

@[simp] theorem State.withElement_port (p : HostPort) (answers : Bool) (f : State → State) (s : State)
    (h : ∀ t, (f t).port = t.port) : (State.withElement p answers f s).port = s.port := by
  unfold State.withElement; (repeat' split) <;> simp [h]

@[simp] theorem State.withElement_slices (p : HostPort) (answers : Bool) (f : State → State) (s : State)
    (h : ∀ t, (f t).slices = t.slices) : (State.withElement p answers f s).slices = s.slices := by
  unfold State.withElement; (repeat' split) <;> simp [h]

@[simp] theorem State.withElement_tab (p : HostPort) (answers : Bool) (f : State → State) (s : State)
    (h : ∀ t, (f t).tab = t.tab) : (State.withElement p answers f s).tab = s.tab := by
  unfold State.withElement; (repeat' split) <;> simp [h]

@[simp] theorem State.withElement_gen (p : HostPort) (answers : Bool) (f : State → State) (s : State)
    (h : ∀ t, (f t).gen = t.gen) : (State.withElement p answers f s).gen = s.gen := by
  unfold State.withElement; (repeat' split) <;> simp [h]

@[simp] theorem State.withElement_core (p : HostPort) (answers : Bool) (f : State → State) (s : State)
    (h : ∀ t, (f t).core = t.core) : (State.withElement p answers f s).core = s.core := by
  unfold State.withElement; (repeat' split) <;> simp [h]

@[simp] theorem State.withElement_sch (p : HostPort) (answers : Bool) (f : State → State) (s : State)
    (h : ∀ t, (f t).sch = t.sch) : (State.withElement p answers f s).sch = s.sch := by
  unfold State.withElement; (repeat' split) <;> simp [h]

@[simp] theorem State.withElement_tel (p : HostPort) (answers : Bool) (f : State → State) (s : State)
    (h : ∀ t, (f t).tel = t.tel) : (State.withElement p answers f s).tel = s.tel := by
  unfold State.withElement; (repeat' split) <;> simp [h]

@[simp] theorem State.withElement_pwr (p : HostPort) (answers : Bool) (f : State → State) (s : State)
    (h : ∀ t, (f t).pwr = t.pwr) : (State.withElement p answers f s).pwr = s.pwr := by
  unfold State.withElement; (repeat' split) <;> simp [h]

@[simp] theorem State.withElement_regs (p : HostPort) (answers : Bool) (f : State → State) (s : State)
    (h : ∀ t, (f t).regs = t.regs) : (State.withElement p answers f s).regs = s.regs := by
  unfold State.withElement; (repeat' split) <;> simp [h]

@[simp] theorem State.withElement_cnts (p : HostPort) (answers : Bool) (f : State → State) (s : State)
    (h : ∀ t, (f t).cnts = t.cnts) : (State.withElement p answers f s).cnts = s.cnts := by
  unfold State.withElement; (repeat' split) <;> simp [h]

@[simp] theorem State.withElement_flt_keel0 (p : HostPort) (answers : Bool) (f : State → State) (s : State)
    (h : ∀ t, (f t).flt.keel0 = t.flt.keel0) : (State.withElement p answers f s).flt.keel0 = s.flt.keel0 := by
  unfold State.withElement; (repeat' split) <;> simp [h]

@[simp] theorem State.withElement_flt_keel1 (p : HostPort) (answers : Bool) (f : State → State) (s : State)
    (h : ∀ t, (f t).flt.keel1 = t.flt.keel1) : (State.withElement p answers f s).flt.keel1 = s.flt.keel1 := by
  unfold State.withElement; (repeat' split) <;> simp [h]

@[simp] theorem State.nonce_keeps (s : State) :
    (State.nonce s).2.pending = s.pending ∧ (State.nonce s).2.now = s.now ∧ (State.nonce s).2.out = s.out ∧
    (State.nonce s).2.pins = s.pins ∧ (State.nonce s).2.md = s.md ∧ (State.nonce s).2.host = s.host ∧
    (State.nonce s).2.cmds = s.cmds ∧ (State.nonce s).2.flt = s.flt ∧ (State.nonce s).2.clk = s.clk ∧
    (State.nonce s).2.ref = s.ref ∧ (State.nonce s).2.kennel = s.kennel ∧ (State.nonce s).2.time = s.time ∧
    (State.nonce s).2.buf = s.buf ∧ (State.nonce s).2.port = s.port ∧ (State.nonce s).2.slices = s.slices ∧
    (State.nonce s).2.tab = s.tab ∧ (State.nonce s).2.gen = s.gen ∧ (State.nonce s).2.core = s.core ∧
    (State.nonce s).2.sch = s.sch ∧ (State.nonce s).2.tel = s.tel ∧ (State.nonce s).2.pwr = s.pwr ∧
    (State.nonce s).2.regs = s.regs ∧ (State.nonce s).2.cnts = s.cnts := by
  (unfold State.nonce; simp only [ite_self, and_self, implies_true, Ran.st_done, Ran.st_wait, Ran.st_refuse, Ran.st_ite, snd_ite, foldl_pending, foldl_now, foldl_out, foldl_pins, foldl_md, foldl_host, foldl_cmds, foldl_flt, foldl_clk, foldl_ref, foldl_kennel, foldl_time, foldl_buf, foldl_port, foldl_slices, foldl_tab, foldl_gen, foldl_core, foldl_sch, foldl_tel, foldl_pwr, foldl_regs, foldl_cnts, foldl_snd_pending, foldl_snd_now, foldl_snd_out, foldl_snd_pins, foldl_snd_md, foldl_snd_host, foldl_snd_cmds, foldl_snd_flt, foldl_snd_clk, foldl_snd_ref, foldl_snd_kennel, foldl_snd_time, foldl_snd_buf, foldl_snd_port, foldl_snd_slices, foldl_snd_tab, foldl_snd_gen, foldl_snd_core, foldl_snd_sch, foldl_snd_tel, foldl_snd_pwr, foldl_snd_regs, foldl_snd_cnts]; done)

@[simp] theorem State.spdmUnsupported_keeps (p : HostPort) (code : Nat) (s : State) :
    (State.spdmUnsupported p code s).pending = s.pending ∧ (State.spdmUnsupported p code s).now = s.now ∧
    (State.spdmUnsupported p code s).serial = s.serial ∧ (State.spdmUnsupported p code s).out = s.out ∧
    (State.spdmUnsupported p code s).pins = s.pins ∧ (State.spdmUnsupported p code s).md = s.md ∧
    (State.spdmUnsupported p code s).cmds = s.cmds ∧ (State.spdmUnsupported p code s).flt = s.flt ∧
    (State.spdmUnsupported p code s).clk = s.clk ∧ (State.spdmUnsupported p code s).ref = s.ref ∧
    (State.spdmUnsupported p code s).kennel = s.kennel ∧ (State.spdmUnsupported p code s).time = s.time ∧
    (State.spdmUnsupported p code s).buf = s.buf ∧ (State.spdmUnsupported p code s).port = s.port ∧
    (State.spdmUnsupported p code s).slices = s.slices ∧ (State.spdmUnsupported p code s).tab = s.tab ∧
    (State.spdmUnsupported p code s).gen = s.gen ∧ (State.spdmUnsupported p code s).core = s.core ∧
    (State.spdmUnsupported p code s).sch = s.sch ∧ (State.spdmUnsupported p code s).tel = s.tel ∧
    (State.spdmUnsupported p code s).pwr = s.pwr ∧ (State.spdmUnsupported p code s).regs = s.regs ∧
    (State.spdmUnsupported p code s).cnts = s.cnts := by
  (unfold State.spdmUnsupported; simp only [State.respond_keeps, ite_self, and_self, implies_true, Ran.st_done, Ran.st_wait, Ran.st_refuse, Ran.st_ite, snd_ite, ite_pending, ite_now, ite_serial, ite_out, ite_pins, ite_md, ite_cmds, ite_flt, ite_clk, ite_ref, ite_kennel, ite_time, ite_buf, ite_port, ite_slices, ite_tab, ite_gen, ite_core, ite_sch, ite_tel, ite_pwr, ite_regs, ite_cnts, foldl_pending, foldl_now, foldl_serial, foldl_out, foldl_pins, foldl_md, foldl_cmds, foldl_flt, foldl_clk, foldl_ref, foldl_kennel, foldl_time, foldl_buf, foldl_port, foldl_slices, foldl_tab, foldl_gen, foldl_core, foldl_sch, foldl_tel, foldl_pwr, foldl_regs, foldl_cnts, foldl_snd_pending, foldl_snd_now, foldl_snd_serial, foldl_snd_out, foldl_snd_pins, foldl_snd_md, foldl_snd_cmds, foldl_snd_flt, foldl_snd_clk, foldl_snd_ref, foldl_snd_kennel, foldl_snd_time, foldl_snd_buf, foldl_snd_port, foldl_snd_slices, foldl_snd_tab, foldl_snd_gen, foldl_snd_core, foldl_snd_sch, foldl_snd_tel, foldl_snd_pwr, foldl_snd_regs, foldl_snd_cnts]; done)

@[simp] theorem State.doeDiscovery_keeps (p : HostPort) (index : Nat) (s : State) :
    (State.doeDiscovery p index s).pending = s.pending ∧ (State.doeDiscovery p index s).now = s.now ∧
    (State.doeDiscovery p index s).serial = s.serial ∧ (State.doeDiscovery p index s).out = s.out ∧
    (State.doeDiscovery p index s).pins = s.pins ∧ (State.doeDiscovery p index s).md = s.md ∧
    (State.doeDiscovery p index s).cmds = s.cmds ∧ (State.doeDiscovery p index s).flt = s.flt ∧
    (State.doeDiscovery p index s).clk = s.clk ∧ (State.doeDiscovery p index s).ref = s.ref ∧
    (State.doeDiscovery p index s).kennel = s.kennel ∧ (State.doeDiscovery p index s).time = s.time ∧
    (State.doeDiscovery p index s).buf = s.buf ∧ (State.doeDiscovery p index s).port = s.port ∧
    (State.doeDiscovery p index s).slices = s.slices ∧ (State.doeDiscovery p index s).tab = s.tab ∧
    (State.doeDiscovery p index s).gen = s.gen ∧ (State.doeDiscovery p index s).core = s.core ∧
    (State.doeDiscovery p index s).sch = s.sch ∧ (State.doeDiscovery p index s).tel = s.tel ∧
    (State.doeDiscovery p index s).pwr = s.pwr ∧ (State.doeDiscovery p index s).regs = s.regs ∧
    (State.doeDiscovery p index s).cnts = s.cnts := by
  (unfold State.doeDiscovery; simp only [State.respond_keeps, ite_self, and_self, implies_true, Ran.st_done, Ran.st_wait, Ran.st_refuse, Ran.st_ite, snd_ite, ite_pending, ite_now, ite_serial, ite_out, ite_pins, ite_md, ite_cmds, ite_flt, ite_clk, ite_ref, ite_kennel, ite_time, ite_buf, ite_port, ite_slices, ite_tab, ite_gen, ite_core, ite_sch, ite_tel, ite_pwr, ite_regs, ite_cnts, foldl_pending, foldl_now, foldl_serial, foldl_out, foldl_pins, foldl_md, foldl_cmds, foldl_flt, foldl_clk, foldl_ref, foldl_kennel, foldl_time, foldl_buf, foldl_port, foldl_slices, foldl_tab, foldl_gen, foldl_core, foldl_sch, foldl_tel, foldl_pwr, foldl_regs, foldl_cnts, foldl_snd_pending, foldl_snd_now, foldl_snd_serial, foldl_snd_out, foldl_snd_pins, foldl_snd_md, foldl_snd_cmds, foldl_snd_flt, foldl_snd_clk, foldl_snd_ref, foldl_snd_kennel, foldl_snd_time, foldl_snd_buf, foldl_snd_port, foldl_snd_slices, foldl_snd_tab, foldl_snd_gen, foldl_snd_core, foldl_snd_sch, foldl_snd_tel, foldl_snd_pwr, foldl_snd_regs, foldl_snd_cnts]; done)
end Sys2Proof.Machine
end

