-- ==== Sys2Proof/Laws/Map.lean ====
section
/-! SUPPORT. Sparse maps: reading after a write, and that every operation keeps the canonical form. -/
namespace Sys2Proof.Machine.SMap

variable {α : Type}

@[simp] theorem get_nil (d : α) (i : Nat) : get d [] i = d := rfl

/-- Below the first key of a rising list nothing is listed. -/
theorem get_of_above {d : α} {m : SMap α} {i b : Nat} (h : above m b = true) (hi : i ≤ b) : get d m i = d := by
  induction m generalizing b with
  | nil => rfl
  | cons e r ih =>
    simp only [above, Bool.and_eq_true, decide_eq_true_eq] at h
    rw [get, if_neg (by omega), ih h.2 (by omega)]

theorem above_mono {m : SMap α} {a b : Nat} (h : above m b = true) (hb : a ≤ b) : above m a = true := by
  cases m with
  | nil => rfl
  | cons e r =>
    simp only [above, Bool.and_eq_true, decide_eq_true_eq] at h ⊢
    exact ⟨by omega, h.2⟩

theorem get_put_self (d : α) (m : SMap α) (i : Nat) (x : α) : get d (m.put i x) i = x := by
  induction m with
  | nil => simp [put, get]
  | cons e r ih =>
    rw [put]
    split
    · simp [get]
    · split
      · simp [get]
      · rw [get, if_neg (by omega)]; exact ih

theorem get_put_ne (d : α) (m : SMap α) {i j : Nat} (x : α) (h : j ≠ i) : get d (m.put i x) j = get d m j := by
  induction m with
  | nil => simp [put, get, h]
  | cons e r ih =>
    rw [put]
    split
    · rw [get, if_neg h]
    · split
      · rename_i _ hi; subst hi; simp [get, h]
      · simp only [get, ih]

theorem get_erase_ne (d : α) (m : SMap α) {i j : Nat} (h : j ≠ i) : get d (m.erase i) j = get d m j := by
  induction m with
  | nil => rfl
  | cons e r ih =>
    rw [erase]
    split
    · rename_i hi; subst hi; simp [get, h]
    · simp only [get, ih]

variable [DecidableEq α]

theorem get_erase_self {d : Nat → α} {m : SMap α} (h : m.wf d = true) (i : Nat) (x : α) : get x (m.erase i) i = x := by
  induction m with
  | nil => rfl
  | cons e r ih =>
    simp only [wf, Bool.and_eq_true] at h
    rw [erase]
    split
    · rename_i hi; rw [hi]; exact get_of_above h.1.1 (Nat.le_refl _)
    · rename_i hi; rw [get, if_neg hi]; exact ih h.2

/-- A key that is written reads as written. -/
theorem get_set_self {f : Nat → α} {m : SMap α} (h : m.wf f = true) (d : α) (i : Nat) (x : α) :
    get d (m.set d i x) i = x := by
  unfold set
  split
  · rename_i e; rw [e]; exact get_erase_self h i d
  · exact get_put_self d m i x

/-- Every other key reads as before. -/
@[simp] theorem get_set_ne (d : α) (m : SMap α) {i j : Nat} (x : α) (h : j ≠ i) : get d (m.set d i x) j = get d m j := by
  unfold set
  split
  · exact get_erase_ne d m h
  · exact get_put_ne d m x h

theorem get_set_ne' (d' d : α) (m : SMap α) {i j : Nat} (x : α) (h : j ≠ i) : get d' (m.set d i x) j = get d' m j := by
  unfold set
  split
  · exact get_erase_ne d' m h
  · exact get_put_ne d' m x h

omit [DecidableEq α] in
theorem above_erase {m : SMap α} {b : Nat} (h : above m b = true) (i : Nat) : above (m.erase i) b = true := by
  induction m generalizing b with
  | nil => rfl
  | cons e r ih =>
    simp only [above, Bool.and_eq_true, decide_eq_true_eq] at h
    rw [erase]
    split
    · exact above_mono h.2 (by omega)
    · simp only [above, Bool.and_eq_true, decide_eq_true_eq]; exact ⟨h.1, ih h.2⟩

omit [DecidableEq α] in
theorem above_put {m : SMap α} {b i : Nat} (h : above m b = true) (hb : b < i) (x : α) : above (m.put i x) b = true := by
  induction m generalizing b with
  | nil => simp [put, above, hb]
  | cons e r ih =>
    simp only [above, Bool.and_eq_true, decide_eq_true_eq] at h
    rw [put]
    split
    · rename_i hi; simp [above, hb, h, hi]
    · split
      · rename_i hi; subst hi; simp [above, hb, h]
      · simp [above, h.1, ih h.2 (show e.1 < i by omega)]

theorem wf_erase {d : Nat → α} {m : SMap α} (h : m.wf d = true) (i : Nat) : (m.erase i).wf d = true := by
  induction m with
  | nil => rfl
  | cons e r ih =>
    simp only [wf, Bool.and_eq_true] at h
    rw [erase]
    split
    · exact h.2
    · simp only [wf, Bool.and_eq_true]; exact ⟨⟨above_erase h.1.1 i, h.1.2⟩, ih h.2⟩

theorem wf_put {d : Nat → α} {m : SMap α} (h : m.wf d = true) (i : Nat) {x : α} (hx : x ≠ d i) :
    (m.put i x).wf d = true := by
  induction m with
  | nil => simp [put, wf, above, hx]
  | cons e r ih =>
    have h' := h
    simp only [wf, Bool.and_eq_true] at h
    rw [put]
    split
    · rename_i hi
      simp only [wf, above, Bool.and_eq_true, decide_eq_true_eq] at h' ⊢
      exact ⟨⟨⟨hi, h'.1.1⟩, hx⟩, h'⟩
    · split
      · rename_i hi
        simp only [wf, Bool.and_eq_true, decide_eq_true_eq]
        subst hi; exact ⟨⟨h.1.1, hx⟩, h.2⟩
      · simp only [wf, Bool.and_eq_true]
        exact ⟨⟨above_put h.1.1 (by omega) x, h.1.2⟩, ih h.2⟩

/-- A write keeps the canonical form. -/
theorem wf_set {d : Nat → α} {m : SMap α} (h : m.wf d = true) (i : Nat) (x : α) : (m.set (d i) i x).wf d = true := by
  unfold set
  split
  · exact wf_erase h i
  · rename_i hx; exact wf_put h i hx

/-- A selection of the entries keeps the canonical form. -/
theorem wf_keep {d : Nat → α} {m : SMap α} (h : m.wf d = true) (p : Nat → α → Bool) : (m.keep p).wf d = true := by
  have ab : ∀ (r : SMap α) (b : Nat), above r b = true → above (r.keep p) b = true := by
    intro r b hr
    induction r generalizing b with
    | nil => rfl
    | cons e r ih =>
      simp only [above, Bool.and_eq_true, decide_eq_true_eq] at hr
      simp only [keep, List.filter_cons]
      split
      · simp only [above, Bool.and_eq_true, decide_eq_true_eq]; exact ⟨hr.1, ih _ hr.2⟩
      · exact ih _ (above_mono hr.2 (by omega))
  induction m with
  | nil => rfl
  | cons e r ih =>
    simp only [wf, Bool.and_eq_true] at h
    simp only [keep, List.filter_cons]
    split
    · simp only [wf, Bool.and_eq_true]; exact ⟨⟨ab r _ h.1.1, h.1.2⟩, ih h.2⟩
    · exact ih h.2

end Sys2Proof.Machine.SMap
end

