-- ==== Sys2Proof/Laws/RunCmd.lean ====
section
/-! SUPPORT. How a command of a ring runs: it completes, or waits, with what its own meaning answers. -/
set_option linter.unusedSimpArgs false
set_option linter.unusedVariables false
namespace Sys2Proof.Machine
open Sys2Proof.Safety

/-- A command that may run and whose meaning answers completes with that answer. -/

theorem State.runCmd_done {s s' : State} {p : HostPort} {n op : Nat} {fs : List ArgField} {c : Cmd} {row : Cmd → Bool}
    {layout : Cmd → List ArgField} {body : Cmd → State → Ran} {st : Status} {r0 r1 : Nat}
    (h : runs s p n op fs c = true) (hr : row c = true) (hl : layout c = fs) (hb : body c s = .done st r0 r1 s') :
    s.runCmd p n op row layout body = s'.complete c st r0 r1 := by
  simp only [runs, Bool.and_eq_true, decide_eq_true_eq] at h
  obtain ⟨⟨⟨⟨h1, h2⟩, h3⟩, h4⟩, h5⟩ := h
  subst hl
  simp only [State.runCmd, h1, h2, h3, h4, h5, hr, hb, and_self, if_true, Bool.not_true, Bool.false_eq_true, if_false]

/-- A command that may run and whose meaning waits stays fetched, marked as waiting. -/

theorem State.runCmd_wait {s s' : State} {p : HostPort} {n op : Nat} {fs : List ArgField} {c : Cmd} {row : Cmd → Bool}
    {layout : Cmd → List ArgField} {body : Cmd → State → Ran}
    (h : runs s p n op fs c = true) (hr : row c = true) (hl : layout c = fs) (hb : body c s = .wait s') :
    s.runCmd p n op row layout body = s'.wait c := by
  simp only [runs, Bool.and_eq_true, decide_eq_true_eq] at h
  obtain ⟨⟨⟨⟨h1, h2⟩, h3⟩, h4⟩, h5⟩ := h
  subst hl
  simp only [State.runCmd, h1, h2, h3, h4, h5, hr, hb, and_self, if_true, Bool.not_true, Bool.false_eq_true, if_false]

/-- The mode of the oldest command that may run serves it. -/

theorem runs_served {s : State} {p : HostPort} {n op : Nat} {fs : List ArgField} {c : Cmd}
    (h : runs s p n op fs c = true) : servedIn op s.mode = true := by
  simp only [runs, Bool.and_eq_true] at h; exact h.1.2

end Sys2Proof.Machine
end

