-- ==== Sys2Proof/Laws/RunsCalendar.lean ====
section
/-! SUPPORT. What each command of Machine/Calendar.lean keeps: the parts of the state that its next state has as before. -/
set_option linter.unusedSimpArgs false
set_option linter.unusedVariables false
namespace Sys2Proof.Machine
open Host (Outcome)

theorem execCalLoad_keeps (p : HostPort) (n : Fin 64) (data : List Byte) (s : State) {nxt : State} (h : execCalLoad p n data s = .next nxt) :
    nxt.pending = s.pending ∧ nxt.now = s.now ∧ nxt.serial = s.serial ∧ nxt.pins = s.pins ∧ nxt.md = s.md ∧
    nxt.flt = s.flt ∧ nxt.clk = s.clk ∧ nxt.ref = s.ref ∧ nxt.kennel = s.kennel ∧ nxt.buf = s.buf ∧
    nxt.port = s.port ∧ nxt.slices = s.slices ∧ nxt.tab = s.tab ∧ nxt.gen = s.gen ∧ nxt.core = s.core ∧
    nxt.sch = s.sch ∧ nxt.tel = s.tel ∧ nxt.pwr = s.pwr ∧ nxt.regs = s.regs ∧ nxt.cnts = s.cnts := by
  unfold execCalLoad at h; obtain rfl := Outcome.next.inj h; clear h
  have e : ∀ a : State, (a.pending, a.now, a.serial, a.pins, a.md, a.flt, a.clk, a.ref, a.kennel, a.buf, a.port, a.slices, a.tab, a.gen, a.core, a.sch, a.tel, a.pwr, a.regs, a.cnts) = (s.pending, s.now, s.serial, s.pins, s.md, s.flt, s.clk, s.ref, s.kennel, s.buf, s.port, s.slices, s.tab, s.gen, s.core, s.sch, s.tel, s.pwr, s.regs, s.cnts) →
      a.pending = s.pending ∧ a.now = s.now ∧ a.serial = s.serial ∧ a.pins = s.pins ∧ a.md = s.md ∧ a.flt = s.flt ∧
      a.clk = s.clk ∧ a.ref = s.ref ∧ a.kennel = s.kennel ∧ a.buf = s.buf ∧ a.port = s.port ∧ a.slices = s.slices ∧
      a.tab = s.tab ∧ a.gen = s.gen ∧ a.core = s.core ∧ a.sch = s.sch ∧ a.tel = s.tel ∧ a.pwr = s.pwr ∧
      a.regs = s.regs ∧ a.cnts = s.cnts := by
    intro a h; simpa only [Prod.mk.injEq] using h
  apply e
  refine runCmd_keeps (fun t => (t.pending, t.now, t.serial, t.pins, t.md, t.flt, t.clk, t.ref, t.kennel, t.buf, t.port, t.slices, t.tab, t.gen, t.core, t.sch, t.tel, t.pwr, t.regs, t.cnts)) (by simp) (by simp) _ _ _ _ _ _ _ ?_
  intro c t
  (repeat' split) <;> first | rfl | (simp; done) | (rename_i q; simp [snd_of q]; done) | (rename_i q _; simp [snd_of q]; done) | (rename_i q _ _; simp [snd_of q]; done)

theorem execCalSwap_keeps (p : HostPort) (n : Fin 64) (s : State) {nxt : State} (h : execCalSwap p n s = .next nxt) :
    nxt.pending = s.pending ∧ nxt.now = s.now ∧ nxt.serial = s.serial ∧ nxt.pins = s.pins ∧ nxt.md = s.md ∧
    nxt.flt = s.flt ∧ nxt.clk = s.clk ∧ nxt.ref = s.ref ∧ nxt.kennel = s.kennel ∧ nxt.buf = s.buf ∧
    nxt.port = s.port ∧ nxt.slices = s.slices ∧ nxt.tab = s.tab ∧ nxt.gen = s.gen ∧ nxt.core = s.core ∧
    nxt.sch = s.sch ∧ nxt.tel = s.tel ∧ nxt.pwr = s.pwr ∧ nxt.regs = s.regs ∧ nxt.cnts = s.cnts := by
  unfold execCalSwap at h; obtain rfl := Outcome.next.inj h; clear h
  have e : ∀ a : State, (a.pending, a.now, a.serial, a.pins, a.md, a.flt, a.clk, a.ref, a.kennel, a.buf, a.port, a.slices, a.tab, a.gen, a.core, a.sch, a.tel, a.pwr, a.regs, a.cnts) = (s.pending, s.now, s.serial, s.pins, s.md, s.flt, s.clk, s.ref, s.kennel, s.buf, s.port, s.slices, s.tab, s.gen, s.core, s.sch, s.tel, s.pwr, s.regs, s.cnts) →
      a.pending = s.pending ∧ a.now = s.now ∧ a.serial = s.serial ∧ a.pins = s.pins ∧ a.md = s.md ∧ a.flt = s.flt ∧
      a.clk = s.clk ∧ a.ref = s.ref ∧ a.kennel = s.kennel ∧ a.buf = s.buf ∧ a.port = s.port ∧ a.slices = s.slices ∧
      a.tab = s.tab ∧ a.gen = s.gen ∧ a.core = s.core ∧ a.sch = s.sch ∧ a.tel = s.tel ∧ a.pwr = s.pwr ∧
      a.regs = s.regs ∧ a.cnts = s.cnts := by
    intro a h; simpa only [Prod.mk.injEq] using h
  apply e
  refine runCmd_keeps (fun t => (t.pending, t.now, t.serial, t.pins, t.md, t.flt, t.clk, t.ref, t.kennel, t.buf, t.port, t.slices, t.tab, t.gen, t.core, t.sch, t.tel, t.pwr, t.regs, t.cnts)) (by simp) (by simp) _ _ _ _ _ _ _ ?_
  intro c t
  (repeat' split) <;> first | rfl | (simp; done) | (rename_i q; simp [snd_of q]; done) | (rename_i q _; simp [snd_of q]; done) | (rename_i q _ _; simp [snd_of q]; done)

theorem execCalSwapInstant_keeps (port : Port) (s : State) {nxt : State} (h : execCalSwapInstant port s = .next nxt) :
    nxt.pending = s.pending ∧ nxt.now = s.now ∧ nxt.serial = s.serial ∧ nxt.pins = s.pins ∧ nxt.md = s.md ∧
    nxt.flt = s.flt ∧ nxt.clk = s.clk ∧ nxt.ref = s.ref ∧ nxt.kennel = s.kennel ∧ nxt.buf = s.buf ∧
    nxt.port = s.port ∧ nxt.slices = s.slices ∧ nxt.tab = s.tab ∧ nxt.gen = s.gen ∧ nxt.core = s.core ∧
    nxt.sch = s.sch ∧ nxt.tel = s.tel ∧ nxt.pwr = s.pwr ∧ nxt.regs = s.regs ∧ nxt.cnts = s.cnts := by
  unfold execCalSwapInstant at h; obtain rfl := Outcome.next.inj h; clear h; (repeat' split) <;> first | rfl | (simp; done) | (rename_i q; simp [snd_of q]; done) | (rename_i q _; simp [snd_of q]; done) | (rename_i q _ _; simp [snd_of q]; done)

theorem execFretBoundary_keeps (port : Port) (s : State) {nxt : State} (h : execFretBoundary port s = .next nxt) :
    nxt.pending = s.pending ∧ nxt.now = s.now ∧ nxt.serial = s.serial ∧ nxt.out = s.out ∧ nxt.pins = s.pins ∧
    nxt.md = s.md ∧ nxt.host = s.host ∧ nxt.cmds = s.cmds ∧ nxt.flt = s.flt ∧ nxt.clk = s.clk ∧ nxt.ref = s.ref ∧
    nxt.kennel = s.kennel ∧ nxt.buf = s.buf ∧ nxt.port = s.port ∧ nxt.slices = s.slices ∧ nxt.tab = s.tab ∧
    nxt.gen = s.gen ∧ nxt.core = s.core ∧ nxt.sch = s.sch ∧ nxt.tel = s.tel ∧ nxt.pwr = s.pwr ∧ nxt.regs = s.regs ∧
    nxt.cnts = s.cnts := by
  unfold execFretBoundary at h; obtain rfl := Outcome.next.inj h; clear h; simp only [ite_self, and_self, implies_true, Ran.st_done, Ran.st_wait, Ran.st_refuse, Ran.st_ite, snd_ite, State.refreshFret_keeps]

theorem execCalendarBasePassed_keeps (s : State) {nxt : State} (h : execCalendarBasePassed s = .next nxt) :
    nxt.pending = s.pending ∧ nxt.now = s.now ∧ nxt.serial = s.serial ∧ nxt.out = s.out ∧ nxt.pins = s.pins ∧
    nxt.md = s.md ∧ nxt.host = s.host ∧ nxt.cmds = s.cmds ∧ nxt.flt = s.flt ∧ nxt.clk = s.clk ∧ nxt.ref = s.ref ∧
    nxt.kennel = s.kennel ∧ nxt.buf = s.buf ∧ nxt.port = s.port ∧ nxt.slices = s.slices ∧ nxt.tab = s.tab ∧
    nxt.gen = s.gen ∧ nxt.core = s.core ∧ nxt.sch = s.sch ∧ nxt.tel = s.tel ∧ nxt.pwr = s.pwr ∧ nxt.regs = s.regs ∧
    nxt.cnts = s.cnts := by
  unfold execCalendarBasePassed at h; obtain rfl := Outcome.next.inj h; clear h; simp; done

theorem execPtCalCfgWrite_keeps (p : HostPort) (port : Port) (value : Word) (s : State) {nxt : State} (h : execPtCalCfgWrite p port value s = .next nxt) :
    nxt.pending = s.pending ∧ nxt.now = s.now ∧ nxt.serial = s.serial ∧ nxt.out = s.out ∧ nxt.pins = s.pins ∧
    nxt.md = s.md ∧ nxt.host = s.host ∧ nxt.cmds = s.cmds ∧ nxt.flt = s.flt ∧ nxt.clk = s.clk ∧ nxt.ref = s.ref ∧
    nxt.kennel = s.kennel ∧ nxt.buf = s.buf ∧ nxt.port = s.port ∧ nxt.slices = s.slices ∧ nxt.tab = s.tab ∧
    nxt.gen = s.gen ∧ nxt.core = s.core ∧ nxt.sch = s.sch ∧ nxt.tel = s.tel ∧ nxt.pwr = s.pwr ∧ nxt.regs = s.regs ∧
    nxt.cnts = s.cnts := by
  unfold execPtCalCfgWrite at h; obtain rfl := Outcome.next.inj h; clear h; simp; done

theorem execCalBaseSecWrite_keeps (p : HostPort) (part : Part) (value : DWord) (s : State) {nxt : State} (h : execCalBaseSecWrite p part value s = .next nxt) :
    nxt.pending = s.pending ∧ nxt.now = s.now ∧ nxt.serial = s.serial ∧ nxt.out = s.out ∧ nxt.pins = s.pins ∧
    nxt.md = s.md ∧ nxt.host = s.host ∧ nxt.cmds = s.cmds ∧ nxt.flt = s.flt ∧ nxt.clk = s.clk ∧ nxt.ref = s.ref ∧
    nxt.kennel = s.kennel ∧ nxt.buf = s.buf ∧ nxt.port = s.port ∧ nxt.slices = s.slices ∧ nxt.tab = s.tab ∧
    nxt.gen = s.gen ∧ nxt.core = s.core ∧ nxt.sch = s.sch ∧ nxt.tel = s.tel ∧ nxt.pwr = s.pwr ∧ nxt.regs = s.regs ∧
    nxt.cnts = s.cnts := by
  unfold execCalBaseSecWrite at h; obtain rfl := Outcome.next.inj h; clear h; simp; done

theorem execCalBaseNsWrite_keeps (p : HostPort) (value : Word) (s : State) {nxt : State} (h : execCalBaseNsWrite p value s = .next nxt) :
    nxt.pending = s.pending ∧ nxt.now = s.now ∧ nxt.serial = s.serial ∧ nxt.out = s.out ∧ nxt.pins = s.pins ∧
    nxt.md = s.md ∧ nxt.host = s.host ∧ nxt.cmds = s.cmds ∧ nxt.clk = s.clk ∧ nxt.ref = s.ref ∧
    nxt.kennel = s.kennel ∧ nxt.time = s.time ∧ nxt.buf = s.buf ∧ nxt.port = s.port ∧ nxt.slices = s.slices ∧
    nxt.tab = s.tab ∧ nxt.gen = s.gen ∧ nxt.core = s.core ∧ nxt.sch = s.sch ∧ nxt.tel = s.tel ∧ nxt.pwr = s.pwr ∧
    nxt.regs = s.regs ∧ nxt.cnts = s.cnts ∧ nxt.flt.keel0 = s.flt.keel0 := by
  unfold execCalBaseNsWrite at h; obtain rfl := Outcome.next.inj h; clear h; simp; done

theorem execCalFrerCtlWrite_keeps (p : HostPort) (stream : Fin 1024) (value : Word) (s : State) {nxt : State} (h : execCalFrerCtlWrite p stream value s = .next nxt) :
    nxt.pending = s.pending ∧ nxt.now = s.now ∧ nxt.serial = s.serial ∧ nxt.out = s.out ∧ nxt.pins = s.pins ∧
    nxt.md = s.md ∧ nxt.host = s.host ∧ nxt.cmds = s.cmds ∧ nxt.flt = s.flt ∧ nxt.clk = s.clk ∧ nxt.ref = s.ref ∧
    nxt.kennel = s.kennel ∧ nxt.buf = s.buf ∧ nxt.port = s.port ∧ nxt.slices = s.slices ∧ nxt.tab = s.tab ∧
    nxt.gen = s.gen ∧ nxt.core = s.core ∧ nxt.sch = s.sch ∧ nxt.tel = s.tel ∧ nxt.pwr = s.pwr ∧ nxt.cnts = s.cnts := by
  unfold execCalFrerCtlWrite at h; obtain rfl := Outcome.next.inj h; clear h; simp; done

theorem execFrerResetTimer_keeps (stream : Fin 1024) (s : State) {nxt : State} (h : execFrerResetTimer stream s = .next nxt) :
    nxt.pending = s.pending ∧ nxt.now = s.now ∧ nxt.serial = s.serial ∧ nxt.out = s.out ∧ nxt.pins = s.pins ∧
    nxt.md = s.md ∧ nxt.host = s.host ∧ nxt.cmds = s.cmds ∧ nxt.flt = s.flt ∧ nxt.clk = s.clk ∧ nxt.ref = s.ref ∧
    nxt.kennel = s.kennel ∧ nxt.buf = s.buf ∧ nxt.port = s.port ∧ nxt.slices = s.slices ∧ nxt.tab = s.tab ∧
    nxt.gen = s.gen ∧ nxt.core = s.core ∧ nxt.sch = s.sch ∧ nxt.tel = s.tel ∧ nxt.pwr = s.pwr ∧ nxt.regs = s.regs := by
  unfold execFrerResetTimer at h; obtain rfl := Outcome.next.inj h; clear h; dsimp only; (repeat' split) <;> first | rfl | (simp; done) | (rename_i q; simp [snd_of q]; done) | (rename_i q _; simp [snd_of q]; done) | (rename_i q _ _; simp [snd_of q]; done)

theorem execPreemptVerify_keeps (port : Port) (verify : Fin 5) (s : State) {nxt : State} (h : execPreemptVerify port verify s = .next nxt) :
    nxt.pending = s.pending ∧ nxt.now = s.now ∧ nxt.serial = s.serial ∧ nxt.out = s.out ∧ nxt.pins = s.pins ∧
    nxt.md = s.md ∧ nxt.host = s.host ∧ nxt.cmds = s.cmds ∧ nxt.flt = s.flt ∧ nxt.clk = s.clk ∧ nxt.ref = s.ref ∧
    nxt.kennel = s.kennel ∧ nxt.buf = s.buf ∧ nxt.port = s.port ∧ nxt.slices = s.slices ∧ nxt.tab = s.tab ∧
    nxt.gen = s.gen ∧ nxt.core = s.core ∧ nxt.sch = s.sch ∧ nxt.tel = s.tel ∧ nxt.pwr = s.pwr ∧ nxt.regs = s.regs ∧
    nxt.cnts = s.cnts := by
  unfold execPreemptVerify at h; obtain rfl := Outcome.next.inj h; clear h; simp; done
end Sys2Proof.Machine
end

