-- ==== Sys2Proof/Laws/RunsClocks.lean ====
section
/-! SUPPORT. What each command of Machine/Clocks.lean keeps: the parts of the state that its next state has as before. -/
set_option linter.unusedSimpArgs false
set_option linter.unusedVariables false
namespace Sys2Proof.Machine
open Host (Outcome)

theorem execClockJudgeWindow_keeps (clock : Fin 32) (count : Nat) (pick : Draw) (s : State) {nxt : State} (h : execClockJudgeWindow clock count pick s = .next nxt) :
    nxt.pending = s.pending ∧ nxt.now = s.now ∧ nxt.serial = s.serial ∧ nxt.pins = s.pins ∧ nxt.cmds = s.cmds ∧
    nxt.kennel = s.kennel ∧ nxt.slices = s.slices ∧ nxt.tab = s.tab ∧ nxt.regs = s.regs ∧
    nxt.flt.keel0 = s.flt.keel0 ∧ nxt.clk.pipeCur = s.clk.pipeCur := by
  unfold execClockJudgeWindow at h; obtain rfl := Outcome.next.inj h; clear h; dsimp only; (repeat' split) <;> first | rfl | (simp; done) | (rename_i q; simp [snd_of q]; done) | (rename_i q _; simp [snd_of q]; done) | (rename_i q _ _; simp [snd_of q]; done)

theorem execBootClock_keeps (s : State) {nxt : State} (h : execBootClock s = .next nxt) :
    nxt.pending = s.pending ∧ nxt.now = s.now ∧ nxt.serial = s.serial ∧ nxt.pins = s.pins ∧ nxt.clk = s.clk ∧
    nxt.ref = s.ref ∧ nxt.kennel = s.kennel ∧ nxt.buf = s.buf ∧ nxt.slices = s.slices ∧ nxt.sch = s.sch ∧
    nxt.regs = s.regs := by
  unfold execBootClock at h; obtain rfl := Outcome.next.inj h; clear h; (repeat' split) <;> first | rfl | (simp; done) | (rename_i q; simp [snd_of q]; done) | (rename_i q _; simp [snd_of q]; done) | (rename_i q _ _; simp [snd_of q]; done)

theorem execOscillatorTrim_keeps (err : Int) (usable : Bool) (s : State) {nxt : State} (h : execOscillatorTrim err usable s = .next nxt) :
    nxt.pending = s.pending ∧ nxt.now = s.now ∧ nxt.serial = s.serial ∧ nxt.out = s.out ∧ nxt.pins = s.pins ∧
    nxt.host = s.host ∧ nxt.cmds = s.cmds ∧ nxt.kennel = s.kennel ∧ nxt.time = s.time ∧ nxt.buf = s.buf ∧
    nxt.port = s.port ∧ nxt.slices = s.slices ∧ nxt.tab = s.tab ∧ nxt.gen = s.gen ∧ nxt.core = s.core ∧
    nxt.sch = s.sch ∧ nxt.tel = s.tel ∧ nxt.pwr = s.pwr ∧ nxt.regs = s.regs ∧ nxt.cnts = s.cnts ∧
    nxt.flt.keel0 = s.flt.keel0 ∧ nxt.clk.pipeCur = s.clk.pipeCur := by
  unfold execOscillatorTrim at h; obtain rfl := Outcome.next.inj h; clear h; simp; done

theorem execTrimSrcLost_keeps (s : State) {nxt : State} (h : execTrimSrcLost s = .next nxt) :
    nxt.pending = s.pending ∧ nxt.now = s.now ∧ nxt.serial = s.serial ∧ nxt.out = s.out ∧ nxt.pins = s.pins ∧
    nxt.md = s.md ∧ nxt.host = s.host ∧ nxt.cmds = s.cmds ∧ nxt.ref = s.ref ∧ nxt.kennel = s.kennel ∧
    nxt.time = s.time ∧ nxt.buf = s.buf ∧ nxt.port = s.port ∧ nxt.slices = s.slices ∧ nxt.tab = s.tab ∧
    nxt.gen = s.gen ∧ nxt.core = s.core ∧ nxt.sch = s.sch ∧ nxt.tel = s.tel ∧ nxt.pwr = s.pwr ∧ nxt.regs = s.regs ∧
    nxt.cnts = s.cnts ∧ nxt.flt.keel0 = s.flt.keel0 ∧ nxt.flt.keel1 = s.flt.keel1 ∧
    nxt.clk.pipeCur = s.clk.pipeCur := by
  unfold execTrimSrcLost at h; obtain rfl := Outcome.next.inj h; clear h; simp; done

theorem execClkPipeWrite_keeps (p : HostPort) (value : Word) (s : State) {nxt : State} (h : execClkPipeWrite p value s = .next nxt) :
    nxt.pending = s.pending ∧ nxt.now = s.now ∧ nxt.serial = s.serial ∧ nxt.pins = s.pins ∧ nxt.md = s.md ∧
    nxt.flt = s.flt ∧ nxt.clk = s.clk ∧ nxt.ref = s.ref ∧ nxt.kennel = s.kennel ∧ nxt.time = s.time ∧
    nxt.buf = s.buf ∧ nxt.port = s.port ∧ nxt.slices = s.slices ∧ nxt.tab = s.tab ∧ nxt.gen = s.gen ∧
    nxt.core = s.core ∧ nxt.sch = s.sch ∧ nxt.tel = s.tel ∧ nxt.cnts = s.cnts := by
  unfold execClkPipeWrite at h; obtain rfl := Outcome.next.inj h; clear h; simp; done
end Sys2Proof.Machine
end

