-- ==== Sys2Proof/Laws/RunsDirect.lean ====
section
/-! SUPPORT. What each command of Machine/Direct.lean keeps: the parts of the state that its next state has as before. -/
set_option linter.unusedSimpArgs false
set_option linter.unusedVariables false
namespace Sys2Proof.Machine
open Host (Outcome)

theorem execDirectWrite_keeps (p : HostPort) (n : Fin 64) (s : State) {nxt : State} (h : execDirectWrite p n s = .next nxt) :
    nxt.pending = s.pending ∧ nxt.now = s.now ∧ nxt.serial = s.serial ∧ nxt.pins = s.pins ∧ nxt.md = s.md ∧
    nxt.flt = s.flt ∧ nxt.clk = s.clk ∧ nxt.ref = s.ref ∧ nxt.kennel = s.kennel ∧ nxt.time = s.time ∧
    nxt.buf = s.buf ∧ nxt.port = s.port ∧ nxt.slices = s.slices ∧ nxt.gen = s.gen ∧ nxt.core = s.core ∧
    nxt.sch = s.sch ∧ nxt.tel = s.tel ∧ nxt.pwr = s.pwr ∧ nxt.regs = s.regs ∧ nxt.cnts = s.cnts := by
  unfold execDirectWrite at h; obtain rfl := Outcome.next.inj h; clear h
  have e : ∀ a : State, (a.pending, a.now, a.serial, a.pins, a.md, a.flt, a.clk, a.ref, a.kennel, a.time, a.buf, a.port, a.slices, a.gen, a.core, a.sch, a.tel, a.pwr, a.regs, a.cnts) = (s.pending, s.now, s.serial, s.pins, s.md, s.flt, s.clk, s.ref, s.kennel, s.time, s.buf, s.port, s.slices, s.gen, s.core, s.sch, s.tel, s.pwr, s.regs, s.cnts) →
      a.pending = s.pending ∧ a.now = s.now ∧ a.serial = s.serial ∧ a.pins = s.pins ∧ a.md = s.md ∧ a.flt = s.flt ∧
      a.clk = s.clk ∧ a.ref = s.ref ∧ a.kennel = s.kennel ∧ a.time = s.time ∧ a.buf = s.buf ∧ a.port = s.port ∧
      a.slices = s.slices ∧ a.gen = s.gen ∧ a.core = s.core ∧ a.sch = s.sch ∧ a.tel = s.tel ∧ a.pwr = s.pwr ∧
      a.regs = s.regs ∧ a.cnts = s.cnts := by
    intro a h; simpa only [Prod.mk.injEq] using h
  apply e
  refine runCmd_keeps (fun t => (t.pending, t.now, t.serial, t.pins, t.md, t.flt, t.clk, t.ref, t.kennel, t.time, t.buf, t.port, t.slices, t.gen, t.core, t.sch, t.tel, t.pwr, t.regs, t.cnts)) (by simp) (by simp) _ _ _ _ _ _ _ ?_
  intro c t
  (repeat' split) <;> first | rfl | (simp; done) | (rename_i q; simp [snd_of q]; done) | (rename_i q _; simp [snd_of q]; done) | (rename_i q _ _; simp [snd_of q]; done)

theorem execDirectRead_keeps (p : HostPort) (n : Fin 64) (s : State) {nxt : State} (h : execDirectRead p n s = .next nxt) :
    nxt.pending = s.pending ∧ nxt.now = s.now ∧ nxt.serial = s.serial ∧ nxt.pins = s.pins ∧ nxt.md = s.md ∧
    nxt.clk = s.clk ∧ nxt.ref = s.ref ∧ nxt.kennel = s.kennel ∧ nxt.time = s.time ∧ nxt.buf = s.buf ∧
    nxt.port = s.port ∧ nxt.slices = s.slices ∧ nxt.gen = s.gen ∧ nxt.core = s.core ∧ nxt.sch = s.sch ∧
    nxt.tel = s.tel ∧ nxt.pwr = s.pwr ∧ nxt.regs = s.regs ∧ nxt.cnts = s.cnts ∧ nxt.flt.keel0 = s.flt.keel0 ∧
    nxt.flt.keel1 = s.flt.keel1 := by
  unfold execDirectRead at h; obtain rfl := Outcome.next.inj h; clear h
  have e : ∀ a : State, (a.pending, a.now, a.serial, a.pins, a.md, a.clk, a.ref, a.kennel, a.time, a.buf, a.port, a.slices, a.gen, a.core, a.sch, a.tel, a.pwr, a.regs, a.cnts, a.flt.keel0, a.flt.keel1) = (s.pending, s.now, s.serial, s.pins, s.md, s.clk, s.ref, s.kennel, s.time, s.buf, s.port, s.slices, s.gen, s.core, s.sch, s.tel, s.pwr, s.regs, s.cnts, s.flt.keel0, s.flt.keel1) →
      a.pending = s.pending ∧ a.now = s.now ∧ a.serial = s.serial ∧ a.pins = s.pins ∧ a.md = s.md ∧ a.clk = s.clk ∧
      a.ref = s.ref ∧ a.kennel = s.kennel ∧ a.time = s.time ∧ a.buf = s.buf ∧ a.port = s.port ∧
      a.slices = s.slices ∧ a.gen = s.gen ∧ a.core = s.core ∧ a.sch = s.sch ∧ a.tel = s.tel ∧ a.pwr = s.pwr ∧
      a.regs = s.regs ∧ a.cnts = s.cnts ∧ a.flt.keel0 = s.flt.keel0 ∧ a.flt.keel1 = s.flt.keel1 := by
    intro a h; simpa only [Prod.mk.injEq] using h
  apply e
  refine runCmd_keeps (fun t => (t.pending, t.now, t.serial, t.pins, t.md, t.clk, t.ref, t.kennel, t.time, t.buf, t.port, t.slices, t.gen, t.core, t.sch, t.tel, t.pwr, t.regs, t.cnts, t.flt.keel0, t.flt.keel1)) (by simp) (by simp) _ _ _ _ _ _ _ ?_
  intro c t
  (repeat' split) <;> first | rfl | (simp; done) | (rename_i q; simp [snd_of q]; done) | (rename_i q _; simp [snd_of q]; done) | (rename_i q _ _; simp [snd_of q]; done)

theorem execEcmpGroupWrite_keeps (p : HostPort) (n : Fin 64) (s : State) {nxt : State} (h : execEcmpGroupWrite p n s = .next nxt) :
    nxt.pending = s.pending ∧ nxt.now = s.now ∧ nxt.serial = s.serial ∧ nxt.pins = s.pins ∧ nxt.md = s.md ∧
    nxt.flt = s.flt ∧ nxt.clk = s.clk ∧ nxt.ref = s.ref ∧ nxt.kennel = s.kennel ∧ nxt.time = s.time ∧
    nxt.buf = s.buf ∧ nxt.port = s.port ∧ nxt.tab = s.tab ∧ nxt.gen = s.gen ∧ nxt.core = s.core ∧ nxt.sch = s.sch ∧
    nxt.tel = s.tel ∧ nxt.pwr = s.pwr ∧ nxt.regs = s.regs ∧ nxt.cnts = s.cnts := by
  unfold execEcmpGroupWrite at h; obtain rfl := Outcome.next.inj h; clear h
  have e : ∀ a : State, (a.pending, a.now, a.serial, a.pins, a.md, a.flt, a.clk, a.ref, a.kennel, a.time, a.buf, a.port, a.tab, a.gen, a.core, a.sch, a.tel, a.pwr, a.regs, a.cnts) = (s.pending, s.now, s.serial, s.pins, s.md, s.flt, s.clk, s.ref, s.kennel, s.time, s.buf, s.port, s.tab, s.gen, s.core, s.sch, s.tel, s.pwr, s.regs, s.cnts) →
      a.pending = s.pending ∧ a.now = s.now ∧ a.serial = s.serial ∧ a.pins = s.pins ∧ a.md = s.md ∧ a.flt = s.flt ∧
      a.clk = s.clk ∧ a.ref = s.ref ∧ a.kennel = s.kennel ∧ a.time = s.time ∧ a.buf = s.buf ∧ a.port = s.port ∧
      a.tab = s.tab ∧ a.gen = s.gen ∧ a.core = s.core ∧ a.sch = s.sch ∧ a.tel = s.tel ∧ a.pwr = s.pwr ∧
      a.regs = s.regs ∧ a.cnts = s.cnts := by
    intro a h; simpa only [Prod.mk.injEq] using h
  apply e
  refine runCmd_keeps (fun t => (t.pending, t.now, t.serial, t.pins, t.md, t.flt, t.clk, t.ref, t.kennel, t.time, t.buf, t.port, t.tab, t.gen, t.core, t.sch, t.tel, t.pwr, t.regs, t.cnts)) (by simp) (by simp) _ _ _ _ _ _ _ ?_
  intro c t
  (repeat' split) <;> first | rfl | (simp; done) | (rename_i q; simp [snd_of q]; done) | (rename_i q _; simp [snd_of q]; done) | (rename_i q _ _; simp [snd_of q]; done)

theorem execEcmpMemberWrite_keeps (p : HostPort) (n : Fin 64) (words : List Word) (s : State) {nxt : State} (h : execEcmpMemberWrite p n words s = .next nxt) :
    nxt.pending = s.pending ∧ nxt.now = s.now ∧ nxt.serial = s.serial ∧ nxt.pins = s.pins ∧ nxt.md = s.md ∧
    nxt.flt = s.flt ∧ nxt.clk = s.clk ∧ nxt.ref = s.ref ∧ nxt.kennel = s.kennel ∧ nxt.time = s.time ∧
    nxt.buf = s.buf ∧ nxt.port = s.port ∧ nxt.tab = s.tab ∧ nxt.gen = s.gen ∧ nxt.core = s.core ∧ nxt.sch = s.sch ∧
    nxt.tel = s.tel ∧ nxt.pwr = s.pwr ∧ nxt.regs = s.regs ∧ nxt.cnts = s.cnts := by
  unfold execEcmpMemberWrite at h; obtain rfl := Outcome.next.inj h; clear h
  have e : ∀ a : State, (a.pending, a.now, a.serial, a.pins, a.md, a.flt, a.clk, a.ref, a.kennel, a.time, a.buf, a.port, a.tab, a.gen, a.core, a.sch, a.tel, a.pwr, a.regs, a.cnts) = (s.pending, s.now, s.serial, s.pins, s.md, s.flt, s.clk, s.ref, s.kennel, s.time, s.buf, s.port, s.tab, s.gen, s.core, s.sch, s.tel, s.pwr, s.regs, s.cnts) →
      a.pending = s.pending ∧ a.now = s.now ∧ a.serial = s.serial ∧ a.pins = s.pins ∧ a.md = s.md ∧ a.flt = s.flt ∧
      a.clk = s.clk ∧ a.ref = s.ref ∧ a.kennel = s.kennel ∧ a.time = s.time ∧ a.buf = s.buf ∧ a.port = s.port ∧
      a.tab = s.tab ∧ a.gen = s.gen ∧ a.core = s.core ∧ a.sch = s.sch ∧ a.tel = s.tel ∧ a.pwr = s.pwr ∧
      a.regs = s.regs ∧ a.cnts = s.cnts := by
    intro a h; simpa only [Prod.mk.injEq] using h
  apply e
  refine runCmd_keeps (fun t => (t.pending, t.now, t.serial, t.pins, t.md, t.flt, t.clk, t.ref, t.kennel, t.time, t.buf, t.port, t.tab, t.gen, t.core, t.sch, t.tel, t.pwr, t.regs, t.cnts)) (by simp) (by simp) _ _ _ _ _ _ _ ?_
  intro c t
  (repeat' split) <;> first | rfl | (simp; done) | (rename_i q; simp [snd_of q]; done) | (rename_i q _; simp [snd_of q]; done) | (rename_i q _ _; simp [snd_of q]; done)
end Sys2Proof.Machine
end

