-- ==== Sys2Proof/Laws/RunsEgress.lean ====
section
/-! SUPPORT. What each command of Machine/Egress.lean keeps: the parts of the state that its next state has as before. -/
set_option linter.unusedSimpArgs false
set_option linter.unusedVariables false
namespace Sys2Proof.Machine
open Host (Outcome)

theorem execFrameEgress_keeps (port : Port) (ups : Upset) (pos : Nat) (lost : List Nat) (s : State) {nxt : State} (h : execFrameEgress port ups pos lost s = .next nxt) :
    nxt.pending = s.pending ∧ nxt.now = s.now ∧ nxt.serial = s.serial ∧ nxt.pins = s.pins ∧ nxt.md = s.md ∧
    nxt.cmds = s.cmds ∧ nxt.clk = s.clk ∧ nxt.kennel = s.kennel ∧ nxt.time = s.time ∧ nxt.slices = s.slices ∧
    nxt.tab = s.tab ∧ nxt.pwr = s.pwr ∧ nxt.regs = s.regs ∧ nxt.flt.keel0 = s.flt.keel0 ∧
    nxt.flt.keel1 = s.flt.keel1 := by
  unfold execFrameEgress at h; obtain rfl := Outcome.next.inj h; clear h; dsimp only; (repeat' split) <;> first | rfl | (simp; done) | (rename_i q; simp [snd_of q]; done) | (rename_i q _; simp [snd_of q]; done) | (rename_i q _ _; simp [snd_of q]; done)

theorem execCpuQueueService_keeps (desc : List Byte) (ups : Upset) (pick : Draw) (s : State) {nxt : State} (h : execCpuQueueService desc ups pick s = .next nxt) :
    nxt.pending = s.pending ∧ nxt.now = s.now ∧ nxt.serial = s.serial ∧ nxt.pins = s.pins ∧ nxt.md = s.md ∧
    nxt.cmds = s.cmds ∧ nxt.clk = s.clk ∧ nxt.kennel = s.kennel ∧ nxt.time = s.time ∧ nxt.slices = s.slices ∧
    nxt.tab = s.tab ∧ nxt.pwr = s.pwr ∧ nxt.regs = s.regs ∧ nxt.flt.keel0 = s.flt.keel0 ∧
    nxt.flt.keel1 = s.flt.keel1 := by
  unfold execCpuQueueService at h; obtain rfl := Outcome.next.inj h; clear h; dsimp only; (repeat' split) <;> first | rfl | (simp; done) | (rename_i q; simp [snd_of q]; done) | (rename_i q _; simp [snd_of q]; done) | (rename_i q _ _; simp [snd_of q]; done)

theorem execTransmitDescriptor_keeps (desc frame : List Byte) (pick : Draw) (s : State) {nxt : State} (h : execTransmitDescriptor desc frame pick s = .next nxt) :
    nxt.pending = s.pending ∧ nxt.now = s.now ∧ nxt.serial = s.serial ∧ nxt.pins = s.pins ∧ nxt.md = s.md ∧
    nxt.cmds = s.cmds ∧ nxt.clk = s.clk ∧ nxt.kennel = s.kennel ∧ nxt.time = s.time ∧ nxt.slices = s.slices ∧
    nxt.tab = s.tab ∧ nxt.pwr = s.pwr ∧ nxt.regs = s.regs ∧ nxt.flt.keel0 = s.flt.keel0 ∧
    nxt.flt.keel1 = s.flt.keel1 := by
  unfold execTransmitDescriptor at h; obtain rfl := Outcome.next.inj h; clear h; (repeat' split) <;> first | rfl | (simp; done) | (rename_i q; simp [snd_of q]; done) | (rename_i q _; simp [snd_of q]; done) | (rename_i q _ _; simp [snd_of q]; done)
end Sys2Proof.Machine
end

