-- ==== Sys2Proof/Laws/RunsEndpoint.lean ====
section
/-! SUPPORT. What each command of Machine/Endpoint.lean keeps: the parts of the state that its next state has as before. -/
set_option linter.unusedSimpArgs false
set_option linter.unusedVariables false
namespace Sys2Proof.Machine
open Host (Outcome)

theorem execTblEpProfWrite_keeps (p : HostPort) (high : Bool) (t : Fin 16) (value : Word) (s : State) {nxt : State} (h : execTblEpProfWrite p high t value s = .next nxt) :
    nxt.pending = s.pending ∧ nxt.now = s.now ∧ nxt.serial = s.serial ∧ nxt.out = s.out ∧ nxt.pins = s.pins ∧
    nxt.md = s.md ∧ nxt.host = s.host ∧ nxt.cmds = s.cmds ∧ nxt.flt = s.flt ∧ nxt.clk = s.clk ∧ nxt.ref = s.ref ∧
    nxt.kennel = s.kennel ∧ nxt.time = s.time ∧ nxt.buf = s.buf ∧ nxt.port = s.port ∧ nxt.slices = s.slices ∧
    nxt.tab = s.tab ∧ nxt.gen = s.gen ∧ nxt.core = s.core ∧ nxt.sch = s.sch ∧ nxt.tel = s.tel ∧ nxt.pwr = s.pwr ∧
    nxt.cnts = s.cnts := by
  unfold execTblEpProfWrite at h; obtain rfl := Outcome.next.inj h; clear h; simp; done

theorem execEpScrub_keeps (errs : List (Nat × EccErr)) (s : State) {nxt : State} (h : execEpScrub errs s = .next nxt) :
    nxt.pending = s.pending ∧ nxt.now = s.now ∧ nxt.serial = s.serial ∧ nxt.pins = s.pins ∧ nxt.md = s.md ∧
    nxt.cmds = s.cmds ∧ nxt.clk = s.clk ∧ nxt.ref = s.ref ∧ nxt.kennel = s.kennel ∧ nxt.time = s.time ∧
    nxt.buf = s.buf ∧ nxt.port = s.port ∧ nxt.slices = s.slices ∧ nxt.gen = s.gen ∧ nxt.core = s.core ∧
    nxt.sch = s.sch ∧ nxt.tel = s.tel ∧ nxt.pwr = s.pwr ∧ nxt.regs = s.regs ∧ nxt.flt.keel0 = s.flt.keel0 ∧
    nxt.flt.keel1 = s.flt.keel1 := by
  unfold execEpScrub at h; obtain rfl := Outcome.next.inj h; clear h; simp; done

theorem execEpInsert_keeps (p : HostPort) (n : Fin 64) (s : State) {nxt : State} (h : execEpInsert p n s = .next nxt) :
    nxt.pending = s.pending ∧ nxt.now = s.now ∧ nxt.serial = s.serial ∧ nxt.pins = s.pins ∧ nxt.md = s.md ∧
    nxt.clk = s.clk ∧ nxt.ref = s.ref ∧ nxt.kennel = s.kennel ∧ nxt.time = s.time ∧ nxt.buf = s.buf ∧
    nxt.port = s.port ∧ nxt.slices = s.slices ∧ nxt.gen = s.gen ∧ nxt.core = s.core ∧ nxt.sch = s.sch ∧
    nxt.tel = s.tel ∧ nxt.pwr = s.pwr ∧ nxt.regs = s.regs ∧ nxt.flt.keel0 = s.flt.keel0 ∧
    nxt.flt.keel1 = s.flt.keel1 := by
  unfold execEpInsert at h; obtain rfl := Outcome.next.inj h; clear h
  have e : ∀ a : State, (a.pending, a.now, a.serial, a.pins, a.md, a.clk, a.ref, a.kennel, a.time, a.buf, a.port, a.slices, a.gen, a.core, a.sch, a.tel, a.pwr, a.regs, a.flt.keel0, a.flt.keel1) = (s.pending, s.now, s.serial, s.pins, s.md, s.clk, s.ref, s.kennel, s.time, s.buf, s.port, s.slices, s.gen, s.core, s.sch, s.tel, s.pwr, s.regs, s.flt.keel0, s.flt.keel1) →
      a.pending = s.pending ∧ a.now = s.now ∧ a.serial = s.serial ∧ a.pins = s.pins ∧ a.md = s.md ∧ a.clk = s.clk ∧
      a.ref = s.ref ∧ a.kennel = s.kennel ∧ a.time = s.time ∧ a.buf = s.buf ∧ a.port = s.port ∧
      a.slices = s.slices ∧ a.gen = s.gen ∧ a.core = s.core ∧ a.sch = s.sch ∧ a.tel = s.tel ∧ a.pwr = s.pwr ∧
      a.regs = s.regs ∧ a.flt.keel0 = s.flt.keel0 ∧ a.flt.keel1 = s.flt.keel1 := by
    intro a h; simpa only [Prod.mk.injEq] using h
  apply e
  refine runCmd_keeps (fun t => (t.pending, t.now, t.serial, t.pins, t.md, t.clk, t.ref, t.kennel, t.time, t.buf, t.port, t.slices, t.gen, t.core, t.sch, t.tel, t.pwr, t.regs, t.flt.keel0, t.flt.keel1)) (by simp) (by simp) _ _ _ _ _ _ _ ?_
  intro c t
  (repeat' split) <;> first | rfl | (simp; done) | (rename_i q; simp [snd_of q]; done) | (rename_i q _; simp [snd_of q]; done) | (rename_i q _ _; simp [snd_of q]; done)

theorem execEpDelete_keeps (p : HostPort) (n : Fin 64) (s : State) {nxt : State} (h : execEpDelete p n s = .next nxt) :
    nxt.pending = s.pending ∧ nxt.now = s.now ∧ nxt.serial = s.serial ∧ nxt.pins = s.pins ∧ nxt.md = s.md ∧
    nxt.clk = s.clk ∧ nxt.ref = s.ref ∧ nxt.kennel = s.kennel ∧ nxt.time = s.time ∧ nxt.buf = s.buf ∧
    nxt.port = s.port ∧ nxt.slices = s.slices ∧ nxt.gen = s.gen ∧ nxt.core = s.core ∧ nxt.sch = s.sch ∧
    nxt.tel = s.tel ∧ nxt.pwr = s.pwr ∧ nxt.regs = s.regs ∧ nxt.flt.keel0 = s.flt.keel0 ∧
    nxt.flt.keel1 = s.flt.keel1 := by
  unfold execEpDelete at h; obtain rfl := Outcome.next.inj h; clear h
  have e : ∀ a : State, (a.pending, a.now, a.serial, a.pins, a.md, a.clk, a.ref, a.kennel, a.time, a.buf, a.port, a.slices, a.gen, a.core, a.sch, a.tel, a.pwr, a.regs, a.flt.keel0, a.flt.keel1) = (s.pending, s.now, s.serial, s.pins, s.md, s.clk, s.ref, s.kennel, s.time, s.buf, s.port, s.slices, s.gen, s.core, s.sch, s.tel, s.pwr, s.regs, s.flt.keel0, s.flt.keel1) →
      a.pending = s.pending ∧ a.now = s.now ∧ a.serial = s.serial ∧ a.pins = s.pins ∧ a.md = s.md ∧ a.clk = s.clk ∧
      a.ref = s.ref ∧ a.kennel = s.kennel ∧ a.time = s.time ∧ a.buf = s.buf ∧ a.port = s.port ∧
      a.slices = s.slices ∧ a.gen = s.gen ∧ a.core = s.core ∧ a.sch = s.sch ∧ a.tel = s.tel ∧ a.pwr = s.pwr ∧
      a.regs = s.regs ∧ a.flt.keel0 = s.flt.keel0 ∧ a.flt.keel1 = s.flt.keel1 := by
    intro a h; simpa only [Prod.mk.injEq] using h
  apply e
  refine runCmd_keeps (fun t => (t.pending, t.now, t.serial, t.pins, t.md, t.clk, t.ref, t.kennel, t.time, t.buf, t.port, t.slices, t.gen, t.core, t.sch, t.tel, t.pwr, t.regs, t.flt.keel0, t.flt.keel1)) (by simp) (by simp) _ _ _ _ _ _ _ ?_
  intro c t
  (repeat' split) <;> first | rfl | (simp; done) | (rename_i q; simp [snd_of q]; done) | (rename_i q _; simp [snd_of q]; done) | (rename_i q _ _; simp [snd_of q]; done)

theorem execEpRead_keeps (p : HostPort) (n : Fin 64) (s : State) {nxt : State} (h : execEpRead p n s = .next nxt) :
    nxt.pending = s.pending ∧ nxt.now = s.now ∧ nxt.serial = s.serial ∧ nxt.pins = s.pins ∧ nxt.md = s.md ∧
    nxt.clk = s.clk ∧ nxt.ref = s.ref ∧ nxt.kennel = s.kennel ∧ nxt.time = s.time ∧ nxt.buf = s.buf ∧
    nxt.port = s.port ∧ nxt.slices = s.slices ∧ nxt.gen = s.gen ∧ nxt.core = s.core ∧ nxt.sch = s.sch ∧
    nxt.tel = s.tel ∧ nxt.pwr = s.pwr ∧ nxt.regs = s.regs ∧ nxt.flt.keel0 = s.flt.keel0 ∧
    nxt.flt.keel1 = s.flt.keel1 := by
  unfold execEpRead at h; obtain rfl := Outcome.next.inj h; clear h
  have e : ∀ a : State, (a.pending, a.now, a.serial, a.pins, a.md, a.clk, a.ref, a.kennel, a.time, a.buf, a.port, a.slices, a.gen, a.core, a.sch, a.tel, a.pwr, a.regs, a.flt.keel0, a.flt.keel1) = (s.pending, s.now, s.serial, s.pins, s.md, s.clk, s.ref, s.kennel, s.time, s.buf, s.port, s.slices, s.gen, s.core, s.sch, s.tel, s.pwr, s.regs, s.flt.keel0, s.flt.keel1) →
      a.pending = s.pending ∧ a.now = s.now ∧ a.serial = s.serial ∧ a.pins = s.pins ∧ a.md = s.md ∧ a.clk = s.clk ∧
      a.ref = s.ref ∧ a.kennel = s.kennel ∧ a.time = s.time ∧ a.buf = s.buf ∧ a.port = s.port ∧
      a.slices = s.slices ∧ a.gen = s.gen ∧ a.core = s.core ∧ a.sch = s.sch ∧ a.tel = s.tel ∧ a.pwr = s.pwr ∧
      a.regs = s.regs ∧ a.flt.keel0 = s.flt.keel0 ∧ a.flt.keel1 = s.flt.keel1 := by
    intro a h; simpa only [Prod.mk.injEq] using h
  apply e
  refine runCmd_keeps (fun t => (t.pending, t.now, t.serial, t.pins, t.md, t.clk, t.ref, t.kennel, t.time, t.buf, t.port, t.slices, t.gen, t.core, t.sch, t.tel, t.pwr, t.regs, t.flt.keel0, t.flt.keel1)) (by simp) (by simp) _ _ _ _ _ _ _ ?_
  intro c t
  dsimp only
  (repeat' split) <;> first | rfl | (simp; done) | (rename_i q; simp [snd_of q]; done) | (rename_i q _; simp [snd_of q]; done) | (rename_i q _ _; simp [snd_of q]; done)

theorem execEpSegRehash_keeps (p : HostPort) (n : Fin 64) (s : State) {nxt : State} (h : execEpSegRehash p n s = .next nxt) :
    nxt.pending = s.pending ∧ nxt.now = s.now ∧ nxt.serial = s.serial ∧ nxt.pins = s.pins ∧ nxt.md = s.md ∧
    nxt.flt = s.flt ∧ nxt.clk = s.clk ∧ nxt.ref = s.ref ∧ nxt.kennel = s.kennel ∧ nxt.time = s.time ∧
    nxt.buf = s.buf ∧ nxt.port = s.port ∧ nxt.slices = s.slices ∧ nxt.gen = s.gen ∧ nxt.core = s.core ∧
    nxt.sch = s.sch ∧ nxt.tel = s.tel ∧ nxt.pwr = s.pwr ∧ nxt.regs = s.regs ∧ nxt.cnts = s.cnts := by
  unfold execEpSegRehash at h; obtain rfl := Outcome.next.inj h; clear h
  have e : ∀ a : State, (a.pending, a.now, a.serial, a.pins, a.md, a.flt, a.clk, a.ref, a.kennel, a.time, a.buf, a.port, a.slices, a.gen, a.core, a.sch, a.tel, a.pwr, a.regs, a.cnts) = (s.pending, s.now, s.serial, s.pins, s.md, s.flt, s.clk, s.ref, s.kennel, s.time, s.buf, s.port, s.slices, s.gen, s.core, s.sch, s.tel, s.pwr, s.regs, s.cnts) →
      a.pending = s.pending ∧ a.now = s.now ∧ a.serial = s.serial ∧ a.pins = s.pins ∧ a.md = s.md ∧ a.flt = s.flt ∧
      a.clk = s.clk ∧ a.ref = s.ref ∧ a.kennel = s.kennel ∧ a.time = s.time ∧ a.buf = s.buf ∧ a.port = s.port ∧
      a.slices = s.slices ∧ a.gen = s.gen ∧ a.core = s.core ∧ a.sch = s.sch ∧ a.tel = s.tel ∧ a.pwr = s.pwr ∧
      a.regs = s.regs ∧ a.cnts = s.cnts := by
    intro a h; simpa only [Prod.mk.injEq] using h
  apply e
  refine runCmd_keeps (fun t => (t.pending, t.now, t.serial, t.pins, t.md, t.flt, t.clk, t.ref, t.kennel, t.time, t.buf, t.port, t.slices, t.gen, t.core, t.sch, t.tel, t.pwr, t.regs, t.cnts)) (by simp) (by simp) _ _ _ _ _ _ _ ?_
  intro c t
  (repeat' split) <;> first | rfl | (simp; done) | (rename_i q; simp [snd_of q]; done) | (rename_i q _; simp [snd_of q]; done) | (rename_i q _ _; simp [snd_of q]; done)

theorem execEpSegRehashAbort_keeps (p : HostPort) (n : Fin 64) (s : State) {nxt : State} (h : execEpSegRehashAbort p n s = .next nxt) :
    nxt.pending = s.pending ∧ nxt.now = s.now ∧ nxt.serial = s.serial ∧ nxt.pins = s.pins ∧ nxt.md = s.md ∧
    nxt.flt = s.flt ∧ nxt.clk = s.clk ∧ nxt.ref = s.ref ∧ nxt.kennel = s.kennel ∧ nxt.time = s.time ∧
    nxt.buf = s.buf ∧ nxt.port = s.port ∧ nxt.slices = s.slices ∧ nxt.gen = s.gen ∧ nxt.core = s.core ∧
    nxt.sch = s.sch ∧ nxt.tel = s.tel ∧ nxt.pwr = s.pwr ∧ nxt.regs = s.regs ∧ nxt.cnts = s.cnts := by
  unfold execEpSegRehashAbort at h; obtain rfl := Outcome.next.inj h; clear h
  have e : ∀ a : State, (a.pending, a.now, a.serial, a.pins, a.md, a.flt, a.clk, a.ref, a.kennel, a.time, a.buf, a.port, a.slices, a.gen, a.core, a.sch, a.tel, a.pwr, a.regs, a.cnts) = (s.pending, s.now, s.serial, s.pins, s.md, s.flt, s.clk, s.ref, s.kennel, s.time, s.buf, s.port, s.slices, s.gen, s.core, s.sch, s.tel, s.pwr, s.regs, s.cnts) →
      a.pending = s.pending ∧ a.now = s.now ∧ a.serial = s.serial ∧ a.pins = s.pins ∧ a.md = s.md ∧ a.flt = s.flt ∧
      a.clk = s.clk ∧ a.ref = s.ref ∧ a.kennel = s.kennel ∧ a.time = s.time ∧ a.buf = s.buf ∧ a.port = s.port ∧
      a.slices = s.slices ∧ a.gen = s.gen ∧ a.core = s.core ∧ a.sch = s.sch ∧ a.tel = s.tel ∧ a.pwr = s.pwr ∧
      a.regs = s.regs ∧ a.cnts = s.cnts := by
    intro a h; simpa only [Prod.mk.injEq] using h
  apply e
  refine runCmd_keeps (fun t => (t.pending, t.now, t.serial, t.pins, t.md, t.flt, t.clk, t.ref, t.kennel, t.time, t.buf, t.port, t.slices, t.gen, t.core, t.sch, t.tel, t.pwr, t.regs, t.cnts)) (by simp) (by simp) _ _ _ _ _ _ _ ?_
  intro c t
  (repeat' split) <;> first | rfl | (simp; done) | (rename_i q; simp [snd_of q]; done) | (rename_i q _; simp [snd_of q]; done) | (rename_i q _ _; simp [snd_of q]; done)

theorem execEpSegRehashResume_keeps (p : HostPort) (n : Fin 64) (s : State) {nxt : State} (h : execEpSegRehashResume p n s = .next nxt) :
    nxt.pending = s.pending ∧ nxt.now = s.now ∧ nxt.serial = s.serial ∧ nxt.pins = s.pins ∧ nxt.md = s.md ∧
    nxt.flt = s.flt ∧ nxt.clk = s.clk ∧ nxt.ref = s.ref ∧ nxt.kennel = s.kennel ∧ nxt.time = s.time ∧
    nxt.buf = s.buf ∧ nxt.port = s.port ∧ nxt.slices = s.slices ∧ nxt.gen = s.gen ∧ nxt.core = s.core ∧
    nxt.sch = s.sch ∧ nxt.tel = s.tel ∧ nxt.pwr = s.pwr ∧ nxt.regs = s.regs ∧ nxt.cnts = s.cnts := by
  unfold execEpSegRehashResume at h; obtain rfl := Outcome.next.inj h; clear h
  have e : ∀ a : State, (a.pending, a.now, a.serial, a.pins, a.md, a.flt, a.clk, a.ref, a.kennel, a.time, a.buf, a.port, a.slices, a.gen, a.core, a.sch, a.tel, a.pwr, a.regs, a.cnts) = (s.pending, s.now, s.serial, s.pins, s.md, s.flt, s.clk, s.ref, s.kennel, s.time, s.buf, s.port, s.slices, s.gen, s.core, s.sch, s.tel, s.pwr, s.regs, s.cnts) →
      a.pending = s.pending ∧ a.now = s.now ∧ a.serial = s.serial ∧ a.pins = s.pins ∧ a.md = s.md ∧ a.flt = s.flt ∧
      a.clk = s.clk ∧ a.ref = s.ref ∧ a.kennel = s.kennel ∧ a.time = s.time ∧ a.buf = s.buf ∧ a.port = s.port ∧
      a.slices = s.slices ∧ a.gen = s.gen ∧ a.core = s.core ∧ a.sch = s.sch ∧ a.tel = s.tel ∧ a.pwr = s.pwr ∧
      a.regs = s.regs ∧ a.cnts = s.cnts := by
    intro a h; simpa only [Prod.mk.injEq] using h
  apply e
  refine runCmd_keeps (fun t => (t.pending, t.now, t.serial, t.pins, t.md, t.flt, t.clk, t.ref, t.kennel, t.time, t.buf, t.port, t.slices, t.gen, t.core, t.sch, t.tel, t.pwr, t.regs, t.cnts)) (by simp) (by simp) _ _ _ _ _ _ _ ?_
  intro c t
  (repeat' split) <;> first | rfl | (simp; done) | (rename_i q; simp [snd_of q]; done) | (rename_i q _; simp [snd_of q]; done) | (rename_i q _ _; simp [snd_of q]; done)

theorem execEpSegRehashRevert_keeps (p : HostPort) (n : Fin 64) (s : State) {nxt : State} (h : execEpSegRehashRevert p n s = .next nxt) :
    nxt.pending = s.pending ∧ nxt.now = s.now ∧ nxt.serial = s.serial ∧ nxt.pins = s.pins ∧ nxt.md = s.md ∧
    nxt.flt = s.flt ∧ nxt.clk = s.clk ∧ nxt.ref = s.ref ∧ nxt.kennel = s.kennel ∧ nxt.time = s.time ∧
    nxt.buf = s.buf ∧ nxt.port = s.port ∧ nxt.slices = s.slices ∧ nxt.gen = s.gen ∧ nxt.core = s.core ∧
    nxt.sch = s.sch ∧ nxt.tel = s.tel ∧ nxt.pwr = s.pwr ∧ nxt.regs = s.regs ∧ nxt.cnts = s.cnts := by
  unfold execEpSegRehashRevert at h; obtain rfl := Outcome.next.inj h; clear h
  have e : ∀ a : State, (a.pending, a.now, a.serial, a.pins, a.md, a.flt, a.clk, a.ref, a.kennel, a.time, a.buf, a.port, a.slices, a.gen, a.core, a.sch, a.tel, a.pwr, a.regs, a.cnts) = (s.pending, s.now, s.serial, s.pins, s.md, s.flt, s.clk, s.ref, s.kennel, s.time, s.buf, s.port, s.slices, s.gen, s.core, s.sch, s.tel, s.pwr, s.regs, s.cnts) →
      a.pending = s.pending ∧ a.now = s.now ∧ a.serial = s.serial ∧ a.pins = s.pins ∧ a.md = s.md ∧ a.flt = s.flt ∧
      a.clk = s.clk ∧ a.ref = s.ref ∧ a.kennel = s.kennel ∧ a.time = s.time ∧ a.buf = s.buf ∧ a.port = s.port ∧
      a.slices = s.slices ∧ a.gen = s.gen ∧ a.core = s.core ∧ a.sch = s.sch ∧ a.tel = s.tel ∧ a.pwr = s.pwr ∧
      a.regs = s.regs ∧ a.cnts = s.cnts := by
    intro a h; simpa only [Prod.mk.injEq] using h
  apply e
  refine runCmd_keeps (fun t => (t.pending, t.now, t.serial, t.pins, t.md, t.flt, t.clk, t.ref, t.kennel, t.time, t.buf, t.port, t.slices, t.gen, t.core, t.sch, t.tel, t.pwr, t.regs, t.cnts)) (by simp) (by simp) _ _ _ _ _ _ _ ?_
  intro c t
  (repeat' split) <;> first | rfl | (simp; done) | (rename_i q; simp [snd_of q]; done) | (rename_i q _; simp [snd_of q]; done) | (rename_i q _ _; simp [snd_of q]; done)

theorem execEpSegSwap_keeps (p : HostPort) (n : Fin 64) (s : State) {nxt : State} (h : execEpSegSwap p n s = .next nxt) :
    nxt.pending = s.pending ∧ nxt.now = s.now ∧ nxt.serial = s.serial ∧ nxt.pins = s.pins ∧ nxt.md = s.md ∧
    nxt.clk = s.clk ∧ nxt.kennel = s.kennel ∧ nxt.time = s.time ∧ nxt.buf = s.buf ∧ nxt.port = s.port ∧
    nxt.slices = s.slices ∧ nxt.gen = s.gen ∧ nxt.core = s.core ∧ nxt.sch = s.sch ∧ nxt.tel = s.tel ∧
    nxt.pwr = s.pwr ∧ nxt.cnts = s.cnts ∧ nxt.flt.keel0 = s.flt.keel0 ∧ nxt.flt.keel1 = s.flt.keel1 := by
  unfold execEpSegSwap at h; obtain rfl := Outcome.next.inj h; clear h
  have e : ∀ a : State, (a.pending, a.now, a.serial, a.pins, a.md, a.clk, a.kennel, a.time, a.buf, a.port, a.slices, a.gen, a.core, a.sch, a.tel, a.pwr, a.cnts, a.flt.keel0, a.flt.keel1) = (s.pending, s.now, s.serial, s.pins, s.md, s.clk, s.kennel, s.time, s.buf, s.port, s.slices, s.gen, s.core, s.sch, s.tel, s.pwr, s.cnts, s.flt.keel0, s.flt.keel1) →
      a.pending = s.pending ∧ a.now = s.now ∧ a.serial = s.serial ∧ a.pins = s.pins ∧ a.md = s.md ∧ a.clk = s.clk ∧
      a.kennel = s.kennel ∧ a.time = s.time ∧ a.buf = s.buf ∧ a.port = s.port ∧ a.slices = s.slices ∧
      a.gen = s.gen ∧ a.core = s.core ∧ a.sch = s.sch ∧ a.tel = s.tel ∧ a.pwr = s.pwr ∧ a.cnts = s.cnts ∧
      a.flt.keel0 = s.flt.keel0 ∧ a.flt.keel1 = s.flt.keel1 := by
    intro a h; simpa only [Prod.mk.injEq] using h
  apply e
  refine runCmd_keeps (fun t => (t.pending, t.now, t.serial, t.pins, t.md, t.clk, t.kennel, t.time, t.buf, t.port, t.slices, t.gen, t.core, t.sch, t.tel, t.pwr, t.cnts, t.flt.keel0, t.flt.keel1)) (by simp) (by simp) _ _ _ _ _ _ _ ?_
  intro c t
  (repeat' split) <;> first | rfl | (simp; done) | (rename_i q; simp [snd_of q]; done) | (rename_i q _; simp [snd_of q]; done) | (rename_i q _ _; simp [snd_of q]; done)
end Sys2Proof.Machine
end

