-- ==== Sys2Proof/Laws/RunsFaults.lean ====
section
/-! SUPPORT. What each command of Machine/Faults.lean keeps: the parts of the state that its next state has as before. -/
set_option linter.unusedSimpArgs false
set_option linter.unusedVariables false
namespace Sys2Proof.Machine
open Host (Outcome)

theorem execFaultReport_keeps (source : BitVec 12) (code : Byte) (detail : BitVec 63) (s : State) {nxt : State} (h : execFaultReport source code detail s = .next nxt) :
    nxt.pending = s.pending ∧ nxt.now = s.now ∧ nxt.serial = s.serial ∧ nxt.out = s.out ∧ nxt.pins = s.pins ∧
    nxt.md = s.md ∧ nxt.host = s.host ∧ nxt.cmds = s.cmds ∧ nxt.clk = s.clk ∧ nxt.time = s.time ∧ nxt.buf = s.buf ∧
    nxt.port = s.port ∧ nxt.slices = s.slices ∧ nxt.tab = s.tab ∧ nxt.gen = s.gen ∧ nxt.core = s.core ∧
    nxt.sch = s.sch ∧ nxt.tel = s.tel ∧ nxt.regs = s.regs ∧ nxt.cnts = s.cnts ∧ nxt.flt.keel0 = s.flt.keel0 ∧
    nxt.flt.keel1 = s.flt.keel1 ∧ nxt.kennel.keyHash = s.kennel.keyHash := by
  unfold execFaultReport at h; obtain rfl := Outcome.next.inj h; clear h; (repeat' split) <;> first | rfl | (simp; done) | (rename_i q; simp [snd_of q]; done) | (rename_i q _; simp [snd_of q]; done) | (rename_i q _ _; simp [snd_of q]; done)

theorem execFaultRecord_keeps (s : State) {nxt : State} (h : execFaultRecord s = .next nxt) :
    nxt.pending = s.pending ∧ nxt.now = s.now ∧ nxt.serial = s.serial ∧ nxt.pins = s.pins ∧ nxt.clk = s.clk ∧
    nxt.ref = s.ref ∧ nxt.kennel = s.kennel ∧ nxt.buf = s.buf ∧ nxt.slices = s.slices ∧ nxt.sch = s.sch ∧
    nxt.regs = s.regs := by
  unfold execFaultRecord at h; obtain rfl := Outcome.next.inj h; clear h; (repeat' split) <;> first | rfl | (simp; done) | (rename_i q; simp [snd_of q]; done) | (rename_i q _; simp [snd_of q]; done) | (rename_i q _ _; simp [snd_of q]; done)

theorem execJunctionComparatorTrip_keeps (sensor : Fin 64) (s : State) {nxt : State} (h : execJunctionComparatorTrip sensor s = .next nxt) :
    nxt.pending = s.pending ∧ nxt.now = s.now ∧ nxt.serial = s.serial ∧ nxt.pins = s.pins ∧ nxt.clk = s.clk ∧
    nxt.ref = s.ref ∧ nxt.kennel = s.kennel ∧ nxt.buf = s.buf ∧ nxt.slices = s.slices ∧ nxt.sch = s.sch ∧
    nxt.regs = s.regs := by
  unfold execJunctionComparatorTrip at h; obtain rfl := Outcome.next.inj h; clear h; simp only [ite_self, and_self, implies_true, Ran.st_done, Ran.st_wait, Ran.st_refuse, Ran.st_ite, snd_ite, State.fatalNow_keeps]

theorem execCollectorFault_keeps (part : Fin 5) (corrected : Bool) (s : State) {nxt : State} (h : execCollectorFault part corrected s = .next nxt) :
    nxt.pending = s.pending ∧ nxt.now = s.now ∧ nxt.serial = s.serial ∧ nxt.pins = s.pins ∧ nxt.clk = s.clk ∧
    nxt.ref = s.ref ∧ nxt.kennel = s.kennel ∧ nxt.buf = s.buf ∧ nxt.slices = s.slices ∧ nxt.sch = s.sch ∧
    nxt.regs = s.regs := by
  unfold execCollectorFault at h; obtain rfl := Outcome.next.inj h; clear h; dsimp only; (repeat' split) <;> first | rfl | (simp; done) | (rename_i q; simp [snd_of q]; done) | (rename_i q _; simp [snd_of q]; done) | (rename_i q _ _; simp [snd_of q]; done)

theorem execFltFirstClear_keeps (p : HostPort) (value : Word) (s : State) {nxt : State} (h : execFltFirstClear p value s = .next nxt) :
    nxt.pending = s.pending ∧ nxt.now = s.now ∧ nxt.serial = s.serial ∧ nxt.out = s.out ∧ nxt.pins = s.pins ∧
    nxt.md = s.md ∧ nxt.host = s.host ∧ nxt.cmds = s.cmds ∧ nxt.clk = s.clk ∧ nxt.ref = s.ref ∧
    nxt.kennel = s.kennel ∧ nxt.time = s.time ∧ nxt.buf = s.buf ∧ nxt.port = s.port ∧ nxt.slices = s.slices ∧
    nxt.tab = s.tab ∧ nxt.gen = s.gen ∧ nxt.core = s.core ∧ nxt.sch = s.sch ∧ nxt.tel = s.tel ∧ nxt.pwr = s.pwr ∧
    nxt.regs = s.regs ∧ nxt.cnts = s.cnts ∧ nxt.flt.keel0 = s.flt.keel0 ∧ nxt.flt.keel1 = s.flt.keel1 := by
  unfold execFltFirstClear at h; obtain rfl := Outcome.next.inj h; clear h; simp; done

theorem execFltLostClear_keeps (p : HostPort) (value : Word) (s : State) {nxt : State} (h : execFltLostClear p value s = .next nxt) :
    nxt.pending = s.pending ∧ nxt.now = s.now ∧ nxt.serial = s.serial ∧ nxt.out = s.out ∧ nxt.pins = s.pins ∧
    nxt.md = s.md ∧ nxt.host = s.host ∧ nxt.cmds = s.cmds ∧ nxt.clk = s.clk ∧ nxt.ref = s.ref ∧
    nxt.kennel = s.kennel ∧ nxt.time = s.time ∧ nxt.buf = s.buf ∧ nxt.port = s.port ∧ nxt.slices = s.slices ∧
    nxt.tab = s.tab ∧ nxt.gen = s.gen ∧ nxt.core = s.core ∧ nxt.sch = s.sch ∧ nxt.tel = s.tel ∧ nxt.pwr = s.pwr ∧
    nxt.regs = s.regs ∧ nxt.cnts = s.cnts ∧ nxt.flt.keel0 = s.flt.keel0 ∧ nxt.flt.keel1 = s.flt.keel1 := by
  unfold execFltLostClear at h; obtain rfl := Outcome.next.inj h; clear h; simp; done

theorem execClrCounts_keeps (p : HostPort) (value : Word) (s : State) {nxt : State} (h : execClrCounts p value s = .next nxt) :
    nxt.pending = s.pending ∧ nxt.now = s.now ∧ nxt.serial = s.serial ∧ nxt.out = s.out ∧ nxt.pins = s.pins ∧
    nxt.md = s.md ∧ nxt.host = s.host ∧ nxt.cmds = s.cmds ∧ nxt.clk = s.clk ∧ nxt.ref = s.ref ∧
    nxt.kennel = s.kennel ∧ nxt.time = s.time ∧ nxt.buf = s.buf ∧ nxt.port = s.port ∧ nxt.slices = s.slices ∧
    nxt.tab = s.tab ∧ nxt.gen = s.gen ∧ nxt.core = s.core ∧ nxt.sch = s.sch ∧ nxt.tel = s.tel ∧ nxt.pwr = s.pwr ∧
    nxt.regs = s.regs ∧ nxt.cnts = s.cnts ∧ nxt.flt.keel0 = s.flt.keel0 ∧ nxt.flt.keel1 = s.flt.keel1 := by
  unfold execClrCounts at h; obtain rfl := Outcome.next.inj h; clear h; simp; done

theorem execFaultInject_keeps (p : HostPort) (n : Fin 64) (s : State) {nxt : State} (h : execFaultInject p n s = .next nxt) :
    nxt.pending = s.pending ∧ nxt.now = s.now ∧ nxt.serial = s.serial ∧ nxt.pins = s.pins ∧ nxt.md = s.md ∧
    nxt.clk = s.clk ∧ nxt.ref = s.ref ∧ nxt.kennel = s.kennel ∧ nxt.time = s.time ∧ nxt.buf = s.buf ∧
    nxt.port = s.port ∧ nxt.slices = s.slices ∧ nxt.tab = s.tab ∧ nxt.gen = s.gen ∧ nxt.core = s.core ∧
    nxt.sch = s.sch ∧ nxt.tel = s.tel ∧ nxt.pwr = s.pwr ∧ nxt.regs = s.regs ∧ nxt.cnts = s.cnts ∧
    nxt.flt.keel0 = s.flt.keel0 ∧ nxt.flt.keel1 = s.flt.keel1 := by
  unfold execFaultInject at h; obtain rfl := Outcome.next.inj h; clear h
  have e : ∀ a : State, (a.pending, a.now, a.serial, a.pins, a.md, a.clk, a.ref, a.kennel, a.time, a.buf, a.port, a.slices, a.tab, a.gen, a.core, a.sch, a.tel, a.pwr, a.regs, a.cnts, a.flt.keel0, a.flt.keel1) = (s.pending, s.now, s.serial, s.pins, s.md, s.clk, s.ref, s.kennel, s.time, s.buf, s.port, s.slices, s.tab, s.gen, s.core, s.sch, s.tel, s.pwr, s.regs, s.cnts, s.flt.keel0, s.flt.keel1) →
      a.pending = s.pending ∧ a.now = s.now ∧ a.serial = s.serial ∧ a.pins = s.pins ∧ a.md = s.md ∧ a.clk = s.clk ∧
      a.ref = s.ref ∧ a.kennel = s.kennel ∧ a.time = s.time ∧ a.buf = s.buf ∧ a.port = s.port ∧
      a.slices = s.slices ∧ a.tab = s.tab ∧ a.gen = s.gen ∧ a.core = s.core ∧ a.sch = s.sch ∧ a.tel = s.tel ∧
      a.pwr = s.pwr ∧ a.regs = s.regs ∧ a.cnts = s.cnts ∧ a.flt.keel0 = s.flt.keel0 ∧ a.flt.keel1 = s.flt.keel1 := by
    intro a h; simpa only [Prod.mk.injEq] using h
  apply e
  refine runCmd_keeps (fun t => (t.pending, t.now, t.serial, t.pins, t.md, t.clk, t.ref, t.kennel, t.time, t.buf, t.port, t.slices, t.tab, t.gen, t.core, t.sch, t.tel, t.pwr, t.regs, t.cnts, t.flt.keel0, t.flt.keel1)) (by simp) (by simp) _ _ _ _ _ _ _ ?_
  intro c t
  (repeat' split) <;> first | rfl | (simp; done) | (rename_i q; simp [snd_of q]; done) | (rename_i q _; simp [snd_of q]; done) | (rename_i q _ _; simp [snd_of q]; done)

theorem execFaultInjectCancel_keeps (p : HostPort) (n : Fin 64) (s : State) {nxt : State} (h : execFaultInjectCancel p n s = .next nxt) :
    nxt.pending = s.pending ∧ nxt.now = s.now ∧ nxt.serial = s.serial ∧ nxt.pins = s.pins ∧ nxt.md = s.md ∧
    nxt.clk = s.clk ∧ nxt.ref = s.ref ∧ nxt.kennel = s.kennel ∧ nxt.time = s.time ∧ nxt.buf = s.buf ∧
    nxt.port = s.port ∧ nxt.slices = s.slices ∧ nxt.tab = s.tab ∧ nxt.gen = s.gen ∧ nxt.core = s.core ∧
    nxt.sch = s.sch ∧ nxt.tel = s.tel ∧ nxt.pwr = s.pwr ∧ nxt.regs = s.regs ∧ nxt.cnts = s.cnts ∧
    nxt.flt.keel0 = s.flt.keel0 ∧ nxt.flt.keel1 = s.flt.keel1 := by
  unfold execFaultInjectCancel at h; obtain rfl := Outcome.next.inj h; clear h
  have e : ∀ a : State, (a.pending, a.now, a.serial, a.pins, a.md, a.clk, a.ref, a.kennel, a.time, a.buf, a.port, a.slices, a.tab, a.gen, a.core, a.sch, a.tel, a.pwr, a.regs, a.cnts, a.flt.keel0, a.flt.keel1) = (s.pending, s.now, s.serial, s.pins, s.md, s.clk, s.ref, s.kennel, s.time, s.buf, s.port, s.slices, s.tab, s.gen, s.core, s.sch, s.tel, s.pwr, s.regs, s.cnts, s.flt.keel0, s.flt.keel1) →
      a.pending = s.pending ∧ a.now = s.now ∧ a.serial = s.serial ∧ a.pins = s.pins ∧ a.md = s.md ∧ a.clk = s.clk ∧
      a.ref = s.ref ∧ a.kennel = s.kennel ∧ a.time = s.time ∧ a.buf = s.buf ∧ a.port = s.port ∧
      a.slices = s.slices ∧ a.tab = s.tab ∧ a.gen = s.gen ∧ a.core = s.core ∧ a.sch = s.sch ∧ a.tel = s.tel ∧
      a.pwr = s.pwr ∧ a.regs = s.regs ∧ a.cnts = s.cnts ∧ a.flt.keel0 = s.flt.keel0 ∧ a.flt.keel1 = s.flt.keel1 := by
    intro a h; simpa only [Prod.mk.injEq] using h
  apply e
  refine runCmd_keeps (fun t => (t.pending, t.now, t.serial, t.pins, t.md, t.clk, t.ref, t.kennel, t.time, t.buf, t.port, t.slices, t.tab, t.gen, t.core, t.sch, t.tel, t.pwr, t.regs, t.cnts, t.flt.keel0, t.flt.keel1)) (by simp) (by simp) _ _ _ _ _ _ _ ?_
  intro c t
  (repeat' split) <;> first | rfl | (simp; done) | (rename_i q; simp [snd_of q]; done) | (rename_i q _; simp [snd_of q]; done) | (rename_i q _ _; simp [snd_of q]; done)

theorem execKeelVote_keeps (id : Fin 5) (upsets : List (Fin 3 × Nat × Bool)) (s : State) {nxt : State} (h : execKeelVote id upsets s = .next nxt) :
    nxt.pending = s.pending ∧ nxt.now = s.now ∧ nxt.serial = s.serial ∧ nxt.out = s.out ∧ nxt.pins = s.pins ∧
    nxt.md = s.md ∧ nxt.host = s.host ∧ nxt.cmds = s.cmds ∧ nxt.clk = s.clk ∧ nxt.ref = s.ref ∧
    nxt.kennel = s.kennel ∧ nxt.time = s.time ∧ nxt.buf = s.buf ∧ nxt.port = s.port ∧ nxt.slices = s.slices ∧
    nxt.tab = s.tab ∧ nxt.gen = s.gen ∧ nxt.core = s.core ∧ nxt.sch = s.sch ∧ nxt.tel = s.tel ∧ nxt.pwr = s.pwr ∧
    nxt.regs = s.regs ∧ nxt.cnts = s.cnts := by
  unfold execKeelVote at h; obtain rfl := Outcome.next.inj h; clear h; dsimp only; (repeat' split) <;> first | rfl | (simp; done) | (rename_i q; simp [snd_of q]; done) | (rename_i q _; simp [snd_of q]; done) | (rename_i q _ _; simp [snd_of q]; done)
end Sys2Proof.Machine
end

