-- ==== Sys2Proof/Laws/RunsFlow.lean ====
section
/-! SUPPORT. What each command of Machine/Flow.lean keeps: the parts of the state that its next state has as before. -/
set_option linter.unusedSimpArgs false
set_option linter.unusedVariables false
namespace Sys2Proof.Machine
open Host (Outcome)

theorem execFrameReceive_keeps (port : Port) (bytes : List Byte) (rx : Rx) (s : State) {nxt : State} (h : execFrameReceive port bytes rx s = .next nxt) :
    nxt.pending = s.pending ∧ nxt.now = s.now ∧ nxt.serial = s.serial ∧ nxt.out = s.out ∧ nxt.pins = s.pins ∧
    nxt.md = s.md ∧ nxt.host = s.host ∧ nxt.cmds = s.cmds ∧ nxt.flt = s.flt ∧ nxt.clk = s.clk ∧ nxt.ref = s.ref ∧
    nxt.kennel = s.kennel ∧ nxt.time = s.time ∧ nxt.buf = s.buf ∧ nxt.slices = s.slices ∧ nxt.tab = s.tab ∧
    nxt.gen = s.gen ∧ nxt.sch = s.sch ∧ nxt.tel = s.tel ∧ nxt.pwr = s.pwr ∧ nxt.regs = s.regs := by
  unfold execFrameReceive at h; obtain rfl := Outcome.next.inj h; clear h; (repeat' split) <;> first | rfl | (simp; done) | (rename_i q; simp [snd_of q]; done) | (rename_i q _; simp [snd_of q]; done) | (rename_i q _ _; simp [snd_of q]; done)

theorem execMacControlFrame_keeps (port : Port) (bytes : List Byte) (errored : Bool) (s : State) {nxt : State} (h : execMacControlFrame port bytes errored s = .next nxt) :
    nxt.pending = s.pending ∧ nxt.now = s.now ∧ nxt.serial = s.serial ∧ nxt.out = s.out ∧ nxt.pins = s.pins ∧
    nxt.md = s.md ∧ nxt.host = s.host ∧ nxt.cmds = s.cmds ∧ nxt.flt = s.flt ∧ nxt.clk = s.clk ∧ nxt.ref = s.ref ∧
    nxt.kennel = s.kennel ∧ nxt.time = s.time ∧ nxt.buf = s.buf ∧ nxt.slices = s.slices ∧ nxt.tab = s.tab ∧
    nxt.gen = s.gen ∧ nxt.sch = s.sch ∧ nxt.tel = s.tel ∧ nxt.pwr = s.pwr ∧ nxt.regs = s.regs := by
  unfold execMacControlFrame at h; obtain rfl := Outcome.next.inj h; clear h; simp; done

theorem execPauseExpiry_keeps (port : Port) (tc : Fin 8) (s : State) {nxt : State} (h : execPauseExpiry port tc s = .next nxt) :
    nxt.pending = s.pending ∧ nxt.now = s.now ∧ nxt.serial = s.serial ∧ nxt.out = s.out ∧ nxt.pins = s.pins ∧
    nxt.md = s.md ∧ nxt.host = s.host ∧ nxt.cmds = s.cmds ∧ nxt.flt = s.flt ∧ nxt.clk = s.clk ∧ nxt.ref = s.ref ∧
    nxt.kennel = s.kennel ∧ nxt.time = s.time ∧ nxt.buf = s.buf ∧ nxt.slices = s.slices ∧ nxt.tab = s.tab ∧
    nxt.gen = s.gen ∧ nxt.core = s.core ∧ nxt.sch = s.sch ∧ nxt.tel = s.tel ∧ nxt.pwr = s.pwr ∧ nxt.regs = s.regs ∧
    nxt.cnts = s.cnts := by
  unfold execPauseExpiry at h; obtain rfl := Outcome.next.inj h; clear h; simp; done
end Sys2Proof.Machine
end

