-- ==== Sys2Proof/Laws/RunsGens.lean ====
section
/-! SUPPORT. What each command of Machine/Gens.lean keeps: the parts of the state that its next state has as before. -/
set_option linter.unusedSimpArgs false
set_option linter.unusedVariables false
namespace Sys2Proof.Machine
open Host (Outcome)

theorem execCsLoad_keeps (p : HostPort) (n : Fin 64) (image : List Byte) (s : State) {nxt : State} (h : execCsLoad p n image s = .next nxt) :
    nxt.pending = s.pending ∧ nxt.now = s.now ∧ nxt.serial = s.serial ∧ nxt.pins = s.pins ∧ nxt.md = s.md ∧
    nxt.flt = s.flt ∧ nxt.clk = s.clk ∧ nxt.kennel = s.kennel ∧ nxt.time = s.time ∧ nxt.buf = s.buf ∧
    nxt.port = s.port ∧ nxt.tab = s.tab ∧ nxt.core = s.core ∧ nxt.sch = s.sch ∧ nxt.tel = s.tel ∧ nxt.pwr = s.pwr ∧
    nxt.regs = s.regs ∧ nxt.cnts = s.cnts := by
  unfold execCsLoad at h; obtain rfl := Outcome.next.inj h; clear h
  have e : ∀ a : State, (a.pending, a.now, a.serial, a.pins, a.md, a.flt, a.clk, a.kennel, a.time, a.buf, a.port, a.tab, a.core, a.sch, a.tel, a.pwr, a.regs, a.cnts) = (s.pending, s.now, s.serial, s.pins, s.md, s.flt, s.clk, s.kennel, s.time, s.buf, s.port, s.tab, s.core, s.sch, s.tel, s.pwr, s.regs, s.cnts) →
      a.pending = s.pending ∧ a.now = s.now ∧ a.serial = s.serial ∧ a.pins = s.pins ∧ a.md = s.md ∧ a.flt = s.flt ∧
      a.clk = s.clk ∧ a.kennel = s.kennel ∧ a.time = s.time ∧ a.buf = s.buf ∧ a.port = s.port ∧ a.tab = s.tab ∧
      a.core = s.core ∧ a.sch = s.sch ∧ a.tel = s.tel ∧ a.pwr = s.pwr ∧ a.regs = s.regs ∧ a.cnts = s.cnts := by
    intro a h; simpa only [Prod.mk.injEq] using h
  apply e
  refine runCmd_keeps (fun t => (t.pending, t.now, t.serial, t.pins, t.md, t.flt, t.clk, t.kennel, t.time, t.buf, t.port, t.tab, t.core, t.sch, t.tel, t.pwr, t.regs, t.cnts)) (by simp) (by simp) _ _ _ _ _ _ _ ?_
  intro c t
  (repeat' split) <;> first | rfl | (simp; done) | (rename_i q; simp [snd_of q]; done) | (rename_i q _; simp [snd_of q]; done) | (rename_i q _ _; simp [snd_of q]; done)

theorem execCsLoadProvision_keeps (p : HostPort) (n : Fin 64) (image : List Byte) (s : State) {nxt : State} (h : execCsLoadProvision p n image s = .next nxt) :
    nxt.pending = s.pending ∧ nxt.now = s.now ∧ nxt.serial = s.serial ∧ nxt.pins = s.pins ∧ nxt.md = s.md ∧
    nxt.flt = s.flt ∧ nxt.clk = s.clk ∧ nxt.kennel = s.kennel ∧ nxt.time = s.time ∧ nxt.buf = s.buf ∧
    nxt.port = s.port ∧ nxt.tab = s.tab ∧ nxt.core = s.core ∧ nxt.sch = s.sch ∧ nxt.tel = s.tel ∧ nxt.pwr = s.pwr ∧
    nxt.regs = s.regs ∧ nxt.cnts = s.cnts := by
  unfold execCsLoadProvision at h; obtain rfl := Outcome.next.inj h; clear h
  have e : ∀ a : State, (a.pending, a.now, a.serial, a.pins, a.md, a.flt, a.clk, a.kennel, a.time, a.buf, a.port, a.tab, a.core, a.sch, a.tel, a.pwr, a.regs, a.cnts) = (s.pending, s.now, s.serial, s.pins, s.md, s.flt, s.clk, s.kennel, s.time, s.buf, s.port, s.tab, s.core, s.sch, s.tel, s.pwr, s.regs, s.cnts) →
      a.pending = s.pending ∧ a.now = s.now ∧ a.serial = s.serial ∧ a.pins = s.pins ∧ a.md = s.md ∧ a.flt = s.flt ∧
      a.clk = s.clk ∧ a.kennel = s.kennel ∧ a.time = s.time ∧ a.buf = s.buf ∧ a.port = s.port ∧ a.tab = s.tab ∧
      a.core = s.core ∧ a.sch = s.sch ∧ a.tel = s.tel ∧ a.pwr = s.pwr ∧ a.regs = s.regs ∧ a.cnts = s.cnts := by
    intro a h; simpa only [Prod.mk.injEq] using h
  apply e
  refine runCmd_keeps (fun t => (t.pending, t.now, t.serial, t.pins, t.md, t.flt, t.clk, t.kennel, t.time, t.buf, t.port, t.tab, t.core, t.sch, t.tel, t.pwr, t.regs, t.cnts)) (by simp) (by simp) _ _ _ _ _ _ _ ?_
  intro c t
  (repeat' split) <;> first | rfl | (simp; done) | (rename_i q; simp [snd_of q]; done) | (rename_i q _; simp [snd_of q]; done) | (rename_i q _ _; simp [snd_of q]; done)

theorem execCsLoadDone_keeps (g : Fin 2) (good : Bool) (s : State) {nxt : State} (h : execCsLoadDone g good s = .next nxt) :
    nxt.pending = s.pending ∧ nxt.now = s.now ∧ nxt.serial = s.serial ∧ nxt.pins = s.pins ∧ nxt.md = s.md ∧
    nxt.flt = s.flt ∧ nxt.clk = s.clk ∧ nxt.time = s.time ∧ nxt.buf = s.buf ∧ nxt.port = s.port ∧
    nxt.slices = s.slices ∧ nxt.tab = s.tab ∧ nxt.core = s.core ∧ nxt.sch = s.sch ∧ nxt.tel = s.tel ∧
    nxt.pwr = s.pwr ∧ nxt.regs = s.regs ∧ nxt.cnts = s.cnts := by
  unfold execCsLoadDone at h; obtain rfl := Outcome.next.inj h; clear h; dsimp only; (repeat' split) <;> first | rfl | (simp; done) | (rename_i q; simp [snd_of q]; done) | (rename_i q _; simp [snd_of q]; done) | (rename_i q _ _; simp [snd_of q]; done)

theorem execTreeLoad_keeps (p : HostPort) (n : Fin 64) (image : List Byte) (s : State) {nxt : State} (h : execTreeLoad p n image s = .next nxt) :
    nxt.pending = s.pending ∧ nxt.now = s.now ∧ nxt.serial = s.serial ∧ nxt.pins = s.pins ∧ nxt.md = s.md ∧
    nxt.flt = s.flt ∧ nxt.clk = s.clk ∧ nxt.ref = s.ref ∧ nxt.kennel = s.kennel ∧ nxt.time = s.time ∧
    nxt.buf = s.buf ∧ nxt.port = s.port ∧ nxt.tab = s.tab ∧ nxt.core = s.core ∧ nxt.sch = s.sch ∧ nxt.tel = s.tel ∧
    nxt.pwr = s.pwr ∧ nxt.regs = s.regs ∧ nxt.cnts = s.cnts := by
  unfold execTreeLoad at h; obtain rfl := Outcome.next.inj h; clear h
  have e : ∀ a : State, (a.pending, a.now, a.serial, a.pins, a.md, a.flt, a.clk, a.ref, a.kennel, a.time, a.buf, a.port, a.tab, a.core, a.sch, a.tel, a.pwr, a.regs, a.cnts) = (s.pending, s.now, s.serial, s.pins, s.md, s.flt, s.clk, s.ref, s.kennel, s.time, s.buf, s.port, s.tab, s.core, s.sch, s.tel, s.pwr, s.regs, s.cnts) →
      a.pending = s.pending ∧ a.now = s.now ∧ a.serial = s.serial ∧ a.pins = s.pins ∧ a.md = s.md ∧ a.flt = s.flt ∧
      a.clk = s.clk ∧ a.ref = s.ref ∧ a.kennel = s.kennel ∧ a.time = s.time ∧ a.buf = s.buf ∧ a.port = s.port ∧
      a.tab = s.tab ∧ a.core = s.core ∧ a.sch = s.sch ∧ a.tel = s.tel ∧ a.pwr = s.pwr ∧ a.regs = s.regs ∧
      a.cnts = s.cnts := by
    intro a h; simpa only [Prod.mk.injEq] using h
  apply e
  refine runCmd_keeps (fun t => (t.pending, t.now, t.serial, t.pins, t.md, t.flt, t.clk, t.ref, t.kennel, t.time, t.buf, t.port, t.tab, t.core, t.sch, t.tel, t.pwr, t.regs, t.cnts)) (by simp) (by simp) _ _ _ _ _ _ _ ?_
  intro c t
  (repeat' split) <;> first | rfl | (simp; done) | (rename_i q; simp [snd_of q]; done) | (rename_i q _; simp [snd_of q]; done) | (rename_i q _ _; simp [snd_of q]; done)

theorem execTreeLoadDone_keeps (g : Fin 2) (s : State) {nxt : State} (h : execTreeLoadDone g s = .next nxt) :
    nxt.pending = s.pending ∧ nxt.now = s.now ∧ nxt.serial = s.serial ∧ nxt.pins = s.pins ∧ nxt.md = s.md ∧
    nxt.flt = s.flt ∧ nxt.clk = s.clk ∧ nxt.ref = s.ref ∧ nxt.kennel = s.kennel ∧ nxt.time = s.time ∧
    nxt.buf = s.buf ∧ nxt.port = s.port ∧ nxt.slices = s.slices ∧ nxt.tab = s.tab ∧ nxt.core = s.core ∧
    nxt.sch = s.sch ∧ nxt.tel = s.tel ∧ nxt.pwr = s.pwr ∧ nxt.regs = s.regs ∧ nxt.cnts = s.cnts := by
  unfold execTreeLoadDone at h; obtain rfl := Outcome.next.inj h; clear h; dsimp only; (repeat' split) <;> first | rfl | (simp; done) | (rename_i q; simp [snd_of q]; done) | (rename_i q _; simp [snd_of q]; done) | (rename_i q _ _; simp [snd_of q]; done)

theorem execTreeScrub_keeps (errs : List (Slice × Nat × EccErr)) (s : State) {nxt : State} (h : execTreeScrub errs s = .next nxt) :
    nxt.pending = s.pending ∧ nxt.now = s.now ∧ nxt.serial = s.serial ∧ nxt.out = s.out ∧ nxt.pins = s.pins ∧
    nxt.md = s.md ∧ nxt.host = s.host ∧ nxt.cmds = s.cmds ∧ nxt.clk = s.clk ∧ nxt.ref = s.ref ∧
    nxt.kennel = s.kennel ∧ nxt.time = s.time ∧ nxt.buf = s.buf ∧ nxt.port = s.port ∧ nxt.tab = s.tab ∧
    nxt.gen = s.gen ∧ nxt.core = s.core ∧ nxt.sch = s.sch ∧ nxt.tel = s.tel ∧ nxt.pwr = s.pwr ∧ nxt.regs = s.regs ∧
    nxt.cnts = s.cnts ∧ nxt.flt.keel0 = s.flt.keel0 ∧ nxt.flt.keel1 = s.flt.keel1 := by
  unfold execTreeScrub at h; obtain rfl := Outcome.next.inj h; clear h; simp; done

theorem execTreeEccRepair_keeps (slice : Slice) (loc : Nat) (s : State) {nxt : State} (h : execTreeEccRepair slice loc s = .next nxt) :
    nxt.pending = s.pending ∧ nxt.now = s.now ∧ nxt.serial = s.serial ∧ nxt.out = s.out ∧ nxt.pins = s.pins ∧
    nxt.md = s.md ∧ nxt.host = s.host ∧ nxt.cmds = s.cmds ∧ nxt.clk = s.clk ∧ nxt.ref = s.ref ∧
    nxt.kennel = s.kennel ∧ nxt.time = s.time ∧ nxt.buf = s.buf ∧ nxt.port = s.port ∧ nxt.tab = s.tab ∧
    nxt.gen = s.gen ∧ nxt.core = s.core ∧ nxt.sch = s.sch ∧ nxt.tel = s.tel ∧ nxt.pwr = s.pwr ∧ nxt.regs = s.regs ∧
    nxt.cnts = s.cnts ∧ nxt.flt.keel0 = s.flt.keel0 ∧ nxt.flt.keel1 = s.flt.keel1 := by
  unfold execTreeEccRepair at h; obtain rfl := Outcome.next.inj h; clear h; simp; done

theorem execGenSwap_keeps (p : HostPort) (n : Fin 64) (s : State) {nxt : State} (h : execGenSwap p n s = .next nxt) :
    nxt.pending = s.pending ∧ nxt.now = s.now ∧ nxt.serial = s.serial ∧ nxt.pins = s.pins ∧ nxt.md = s.md ∧
    nxt.flt = s.flt ∧ nxt.clk = s.clk ∧ nxt.ref = s.ref ∧ nxt.kennel = s.kennel ∧ nxt.time = s.time ∧
    nxt.buf = s.buf ∧ nxt.port = s.port ∧ nxt.slices = s.slices ∧ nxt.tab = s.tab ∧ nxt.core = s.core ∧
    nxt.sch = s.sch ∧ nxt.tel = s.tel ∧ nxt.pwr = s.pwr ∧ nxt.regs = s.regs ∧ nxt.cnts = s.cnts := by
  unfold execGenSwap at h; obtain rfl := Outcome.next.inj h; clear h
  have e : ∀ a : State, (a.pending, a.now, a.serial, a.pins, a.md, a.flt, a.clk, a.ref, a.kennel, a.time, a.buf, a.port, a.slices, a.tab, a.core, a.sch, a.tel, a.pwr, a.regs, a.cnts) = (s.pending, s.now, s.serial, s.pins, s.md, s.flt, s.clk, s.ref, s.kennel, s.time, s.buf, s.port, s.slices, s.tab, s.core, s.sch, s.tel, s.pwr, s.regs, s.cnts) →
      a.pending = s.pending ∧ a.now = s.now ∧ a.serial = s.serial ∧ a.pins = s.pins ∧ a.md = s.md ∧ a.flt = s.flt ∧
      a.clk = s.clk ∧ a.ref = s.ref ∧ a.kennel = s.kennel ∧ a.time = s.time ∧ a.buf = s.buf ∧ a.port = s.port ∧
      a.slices = s.slices ∧ a.tab = s.tab ∧ a.core = s.core ∧ a.sch = s.sch ∧ a.tel = s.tel ∧ a.pwr = s.pwr ∧
      a.regs = s.regs ∧ a.cnts = s.cnts := by
    intro a h; simpa only [Prod.mk.injEq] using h
  apply e
  refine runCmd_keeps (fun t => (t.pending, t.now, t.serial, t.pins, t.md, t.flt, t.clk, t.ref, t.kennel, t.time, t.buf, t.port, t.slices, t.tab, t.core, t.sch, t.tel, t.pwr, t.regs, t.cnts)) (by simp) (by simp) _ _ _ _ _ _ _ ?_
  intro c t
  (repeat' split) <;> first | rfl | (simp; done) | (rename_i q; simp [snd_of q]; done) | (rename_i q _; simp [snd_of q]; done) | (rename_i q _ _; simp [snd_of q]; done)

theorem execGenSwapInstant_keeps (s : State) {nxt : State} (h : execGenSwapInstant s = .next nxt) :
    nxt.pending = s.pending ∧ nxt.now = s.now ∧ nxt.serial = s.serial ∧ nxt.pins = s.pins ∧ nxt.md = s.md ∧
    nxt.flt = s.flt ∧ nxt.clk = s.clk ∧ nxt.ref = s.ref ∧ nxt.kennel = s.kennel ∧ nxt.time = s.time ∧
    nxt.buf = s.buf ∧ nxt.port = s.port ∧ nxt.slices = s.slices ∧ nxt.tab = s.tab ∧ nxt.core = s.core ∧
    nxt.sch = s.sch ∧ nxt.tel = s.tel ∧ nxt.pwr = s.pwr ∧ nxt.regs = s.regs ∧ nxt.cnts = s.cnts := by
  unfold execGenSwapInstant at h; obtain rfl := Outcome.next.inj h; clear h; (repeat' split) <;> first | rfl | (simp; done) | (rename_i q; simp [snd_of q]; done) | (rename_i q _; simp [snd_of q]; done) | (rename_i q _ _; simp [snd_of q]; done)

theorem execGenDrained_keeps (s : State) {nxt : State} (h : execGenDrained s = .next nxt) :
    nxt.pending = s.pending ∧ nxt.now = s.now ∧ nxt.serial = s.serial ∧ nxt.pins = s.pins ∧ nxt.md = s.md ∧
    nxt.flt = s.flt ∧ nxt.clk = s.clk ∧ nxt.ref = s.ref ∧ nxt.kennel = s.kennel ∧ nxt.time = s.time ∧
    nxt.buf = s.buf ∧ nxt.port = s.port ∧ nxt.slices = s.slices ∧ nxt.tab = s.tab ∧ nxt.core = s.core ∧
    nxt.sch = s.sch ∧ nxt.tel = s.tel ∧ nxt.pwr = s.pwr ∧ nxt.regs = s.regs ∧ nxt.cnts = s.cnts := by
  unfold execGenDrained at h; obtain rfl := Outcome.next.inj h; clear h; (repeat' split) <;> first | rfl | (simp; done) | (rename_i q; simp [snd_of q]; done) | (rename_i q _; simp [snd_of q]; done) | (rename_i q _ _; simp [snd_of q]; done)
end Sys2Proof.Machine
end

