-- ==== Sys2Proof/Laws/RunsHost.lean ====
section
/-! SUPPORT. What each command of Machine/Host.lean keeps: the parts of the state that its next state has as before. -/
set_option linter.unusedSimpArgs false
set_option linter.unusedVariables false
namespace Sys2Proof.Machine
open Host (Outcome)

theorem execHostSelNFall_keeps (ns : Nat) (acts : Bool) (s : State) {nxt : State} (h : execHostSelNFall ns acts s = .next nxt) :
    nxt.pending = s.pending ∧ nxt.now = s.now ∧ nxt.serial = s.serial ∧ nxt.md = s.md ∧ nxt.cmds = s.cmds ∧
    nxt.clk = s.clk ∧ nxt.ref = s.ref ∧ nxt.kennel = s.kennel ∧ nxt.time = s.time ∧ nxt.buf = s.buf ∧
    nxt.port = s.port ∧ nxt.slices = s.slices ∧ nxt.tab = s.tab ∧ nxt.gen = s.gen ∧ nxt.sch = s.sch ∧
    nxt.tel = s.tel ∧ nxt.pwr = s.pwr ∧ nxt.regs = s.regs ∧ nxt.cnts = s.cnts ∧ nxt.flt.keel0 = s.flt.keel0 := by
  unfold execHostSelNFall at h; obtain rfl := Outcome.next.inj h; clear h; simp; done

theorem execHostSelNRise_keeps (s : State) {nxt : State} (h : execHostSelNRise s = .next nxt) :
    nxt.pending = s.pending ∧ nxt.now = s.now ∧ nxt.serial = s.serial ∧ nxt.out = s.out ∧ nxt.md = s.md ∧
    nxt.cmds = s.cmds ∧ nxt.flt = s.flt ∧ nxt.clk = s.clk ∧ nxt.ref = s.ref ∧ nxt.kennel = s.kennel ∧
    nxt.time = s.time ∧ nxt.buf = s.buf ∧ nxt.port = s.port ∧ nxt.slices = s.slices ∧ nxt.tab = s.tab ∧
    nxt.gen = s.gen ∧ nxt.core = s.core ∧ nxt.sch = s.sch ∧ nxt.tel = s.tel ∧ nxt.pwr = s.pwr ∧ nxt.regs = s.regs ∧
    nxt.cnts = s.cnts := by
  unfold execHostSelNRise at h; obtain rfl := Outcome.next.inj h; clear h; simp only [ite_self, and_self, implies_true, Ran.st_done, Ran.st_wait, Ran.st_refuse, Ran.st_ite, snd_ite]

theorem execPcieLinkDown_keeps (p : HostPort) (s : State) {nxt : State} (h : execPcieLinkDown p s = .next nxt) :
    nxt.pending = s.pending ∧ nxt.now = s.now ∧ nxt.serial = s.serial ∧ nxt.pins = s.pins ∧ nxt.md = s.md ∧
    nxt.cmds = s.cmds ∧ nxt.clk = s.clk ∧ nxt.ref = s.ref ∧ nxt.kennel = s.kennel ∧ nxt.time = s.time ∧
    nxt.buf = s.buf ∧ nxt.port = s.port ∧ nxt.slices = s.slices ∧ nxt.tab = s.tab ∧ nxt.gen = s.gen ∧
    nxt.sch = s.sch ∧ nxt.tel = s.tel ∧ nxt.pwr = s.pwr ∧ nxt.regs = s.regs ∧ nxt.cnts = s.cnts ∧
    nxt.flt.keel0 = s.flt.keel0 := by
  unfold execPcieLinkDown at h; obtain rfl := Outcome.next.inj h; clear h; simp; done

theorem execPcieLinkUp_keeps (p : HostPort) (rate width : Nat) (s : State) {nxt : State} (h : execPcieLinkUp p rate width s = .next nxt) :
    nxt.pending = s.pending ∧ nxt.now = s.now ∧ nxt.serial = s.serial ∧ nxt.pins = s.pins ∧ nxt.md = s.md ∧
    nxt.cmds = s.cmds ∧ nxt.clk = s.clk ∧ nxt.ref = s.ref ∧ nxt.kennel = s.kennel ∧ nxt.time = s.time ∧
    nxt.buf = s.buf ∧ nxt.port = s.port ∧ nxt.slices = s.slices ∧ nxt.tab = s.tab ∧ nxt.gen = s.gen ∧
    nxt.sch = s.sch ∧ nxt.tel = s.tel ∧ nxt.pwr = s.pwr ∧ nxt.regs = s.regs ∧ nxt.cnts = s.cnts ∧
    nxt.flt.keel0 = s.flt.keel0 := by
  unfold execPcieLinkUp at h; obtain rfl := Outcome.next.inj h; clear h; simp; done

theorem execBusMasterEnableFall_keeps (p : HostPort) (s : State) {nxt : State} (h : execBusMasterEnableFall p s = .next nxt) :
    nxt.pending = s.pending ∧ nxt.now = s.now ∧ nxt.serial = s.serial ∧ nxt.out = s.out ∧ nxt.pins = s.pins ∧
    nxt.md = s.md ∧ nxt.cmds = s.cmds ∧ nxt.flt = s.flt ∧ nxt.clk = s.clk ∧ nxt.ref = s.ref ∧
    nxt.kennel = s.kennel ∧ nxt.time = s.time ∧ nxt.buf = s.buf ∧ nxt.port = s.port ∧ nxt.slices = s.slices ∧
    nxt.tab = s.tab ∧ nxt.gen = s.gen ∧ nxt.core = s.core ∧ nxt.sch = s.sch ∧ nxt.tel = s.tel ∧ nxt.pwr = s.pwr ∧
    nxt.regs = s.regs ∧ nxt.cnts = s.cnts := by
  unfold execBusMasterEnableFall at h; obtain rfl := Outcome.next.inj h; clear h; simp only [ite_self, and_self, implies_true, Ran.st_done, Ran.st_wait, Ran.st_refuse, Ran.st_ite, snd_ite, State.onHalf_keeps]

theorem execBusMasterEnableRise_keeps (p : HostPort) (s : State) {nxt : State} (h : execBusMasterEnableRise p s = .next nxt) :
    nxt.pending = s.pending ∧ nxt.now = s.now ∧ nxt.serial = s.serial ∧ nxt.pins = s.pins ∧ nxt.md = s.md ∧
    nxt.cmds = s.cmds ∧ nxt.clk = s.clk ∧ nxt.ref = s.ref ∧ nxt.kennel = s.kennel ∧ nxt.time = s.time ∧
    nxt.buf = s.buf ∧ nxt.port = s.port ∧ nxt.slices = s.slices ∧ nxt.tab = s.tab ∧ nxt.gen = s.gen ∧
    nxt.sch = s.sch ∧ nxt.tel = s.tel ∧ nxt.pwr = s.pwr ∧ nxt.regs = s.regs ∧ nxt.cnts = s.cnts ∧
    nxt.flt.keel0 = s.flt.keel0 := by
  unfold execBusMasterEnableRise at h; obtain rfl := Outcome.next.inj h; clear h; simp only [ite_self, and_self, implies_true, Ran.st_done, Ran.st_wait, Ran.st_refuse, Ran.st_ite, snd_ite, State.resume_keeps, State.onHalf_keeps, State.settle_keeps]

theorem execD3hot_keeps (p : HostPort) (enter : Bool) (s : State) {nxt : State} (h : execD3hot p enter s = .next nxt) :
    nxt.pending = s.pending ∧ nxt.now = s.now ∧ nxt.serial = s.serial ∧ nxt.pins = s.pins ∧ nxt.md = s.md ∧
    nxt.cmds = s.cmds ∧ nxt.flt = s.flt ∧ nxt.clk = s.clk ∧ nxt.ref = s.ref ∧ nxt.kennel = s.kennel ∧
    nxt.time = s.time ∧ nxt.buf = s.buf ∧ nxt.port = s.port ∧ nxt.slices = s.slices ∧ nxt.tab = s.tab ∧
    nxt.gen = s.gen ∧ nxt.sch = s.sch ∧ nxt.tel = s.tel ∧ nxt.pwr = s.pwr ∧ nxt.regs = s.regs ∧ nxt.cnts = s.cnts := by
  unfold execD3hot at h; obtain rfl := Outcome.next.inj h; clear h; simp only [ite_self, and_self, implies_true, Ran.st_done, Ran.st_wait, Ran.st_refuse, Ran.st_ite, snd_ite, State.resume_keeps, State.onHalf_keeps]

theorem execBootChoiceTimer_keeps (s : State) {nxt : State} (h : execBootChoiceTimer s = .next nxt) :
    nxt.pending = s.pending ∧ nxt.now = s.now ∧ nxt.serial = s.serial ∧ nxt.out = s.out ∧ nxt.pins = s.pins ∧
    nxt.md = s.md ∧ nxt.cmds = s.cmds ∧ nxt.clk = s.clk ∧ nxt.ref = s.ref ∧ nxt.kennel = s.kennel ∧
    nxt.time = s.time ∧ nxt.buf = s.buf ∧ nxt.port = s.port ∧ nxt.slices = s.slices ∧ nxt.tab = s.tab ∧
    nxt.gen = s.gen ∧ nxt.core = s.core ∧ nxt.sch = s.sch ∧ nxt.tel = s.tel ∧ nxt.pwr = s.pwr ∧ nxt.regs = s.regs ∧
    nxt.cnts = s.cnts ∧ nxt.flt.keel0 = s.flt.keel0 := by
  unfold execBootChoiceTimer at h; obtain rfl := Outcome.next.inj h; clear h; simp; done

theorem execHiHandover_keeps (p half : HostPort) (value : Word) (s : State) {nxt : State} (h : execHiHandover p half value s = .next nxt) :
    nxt.pending = s.pending ∧ nxt.now = s.now ∧ nxt.serial = s.serial ∧ nxt.pins = s.pins ∧ nxt.md = s.md ∧
    nxt.cmds = s.cmds ∧ nxt.clk = s.clk ∧ nxt.ref = s.ref ∧ nxt.kennel = s.kennel ∧ nxt.time = s.time ∧
    nxt.buf = s.buf ∧ nxt.port = s.port ∧ nxt.slices = s.slices ∧ nxt.tab = s.tab ∧ nxt.gen = s.gen ∧
    nxt.sch = s.sch ∧ nxt.tel = s.tel ∧ nxt.pwr = s.pwr ∧ nxt.regs = s.regs ∧ nxt.cnts = s.cnts ∧
    nxt.flt.keel0 = s.flt.keel0 := by
  unfold execHiHandover at h; obtain rfl := Outcome.next.inj h; clear h; simp; done

theorem execHeartbeat_keeps (p : HostPort) (s : State) {nxt : State} (h : execHeartbeat p s = .next nxt) :
    nxt.pending = s.pending ∧ nxt.now = s.now ∧ nxt.serial = s.serial ∧ nxt.pins = s.pins ∧ nxt.md = s.md ∧
    nxt.cmds = s.cmds ∧ nxt.clk = s.clk ∧ nxt.ref = s.ref ∧ nxt.kennel = s.kennel ∧ nxt.time = s.time ∧
    nxt.buf = s.buf ∧ nxt.port = s.port ∧ nxt.slices = s.slices ∧ nxt.tab = s.tab ∧ nxt.gen = s.gen ∧
    nxt.sch = s.sch ∧ nxt.tel = s.tel ∧ nxt.pwr = s.pwr ∧ nxt.regs = s.regs ∧ nxt.cnts = s.cnts ∧
    nxt.flt.keel0 = s.flt.keel0 := by
  unfold execHeartbeat at h; obtain rfl := Outcome.next.inj h; clear h; simp; done

theorem execHeartbeatTimeout_keeps (s : State) {nxt : State} (h : execHeartbeatTimeout s = .next nxt) :
    nxt.pending = s.pending ∧ nxt.now = s.now ∧ nxt.serial = s.serial ∧ nxt.pins = s.pins ∧ nxt.md = s.md ∧
    nxt.cmds = s.cmds ∧ nxt.clk = s.clk ∧ nxt.ref = s.ref ∧ nxt.kennel = s.kennel ∧ nxt.time = s.time ∧
    nxt.buf = s.buf ∧ nxt.port = s.port ∧ nxt.slices = s.slices ∧ nxt.tab = s.tab ∧ nxt.gen = s.gen ∧
    nxt.sch = s.sch ∧ nxt.tel = s.tel ∧ nxt.pwr = s.pwr ∧ nxt.regs = s.regs ∧ nxt.cnts = s.cnts ∧
    nxt.flt.keel0 = s.flt.keel0 := by
  unfold execHeartbeatTimeout at h; obtain rfl := Outcome.next.inj h; clear h; simp; done

theorem execRevertHoldExpiry_keeps (s : State) {nxt : State} (h : execRevertHoldExpiry s = .next nxt) :
    nxt.pending = s.pending ∧ nxt.now = s.now ∧ nxt.serial = s.serial ∧ nxt.pins = s.pins ∧ nxt.md = s.md ∧
    nxt.cmds = s.cmds ∧ nxt.clk = s.clk ∧ nxt.ref = s.ref ∧ nxt.kennel = s.kennel ∧ nxt.time = s.time ∧
    nxt.buf = s.buf ∧ nxt.port = s.port ∧ nxt.slices = s.slices ∧ nxt.tab = s.tab ∧ nxt.gen = s.gen ∧
    nxt.sch = s.sch ∧ nxt.tel = s.tel ∧ nxt.pwr = s.pwr ∧ nxt.regs = s.regs ∧ nxt.cnts = s.cnts ∧
    nxt.flt.keel0 = s.flt.keel0 := by
  unfold execRevertHoldExpiry at h; obtain rfl := Outcome.next.inj h; clear h; simp; done

theorem execHiRingEnable_keeps (p half : HostPort) (n : Fin 256) (s : State) {nxt : State} (h : execHiRingEnable p half n s = .next nxt) :
    nxt.pending = s.pending ∧ nxt.now = s.now ∧ nxt.serial = s.serial ∧ nxt.out = s.out ∧ nxt.pins = s.pins ∧
    nxt.md = s.md ∧ nxt.cmds = s.cmds ∧ nxt.flt = s.flt ∧ nxt.clk = s.clk ∧ nxt.ref = s.ref ∧
    nxt.kennel = s.kennel ∧ nxt.time = s.time ∧ nxt.buf = s.buf ∧ nxt.port = s.port ∧ nxt.slices = s.slices ∧
    nxt.tab = s.tab ∧ nxt.gen = s.gen ∧ nxt.sch = s.sch ∧ nxt.tel = s.tel ∧ nxt.pwr = s.pwr ∧ nxt.regs = s.regs ∧
    nxt.cnts = s.cnts := by
  unfold execHiRingEnable at h; obtain rfl := Outcome.next.inj h; clear h; simp; done

theorem execHiRingDisable_keeps (p half : HostPort) (n : Fin 256) (s : State) {nxt : State} (h : execHiRingDisable p half n s = .next nxt) :
    nxt.pending = s.pending ∧ nxt.now = s.now ∧ nxt.serial = s.serial ∧ nxt.out = s.out ∧ nxt.pins = s.pins ∧
    nxt.md = s.md ∧ nxt.cmds = s.cmds ∧ nxt.flt = s.flt ∧ nxt.clk = s.clk ∧ nxt.ref = s.ref ∧
    nxt.kennel = s.kennel ∧ nxt.time = s.time ∧ nxt.buf = s.buf ∧ nxt.port = s.port ∧ nxt.slices = s.slices ∧
    nxt.tab = s.tab ∧ nxt.gen = s.gen ∧ nxt.sch = s.sch ∧ nxt.tel = s.tel ∧ nxt.pwr = s.pwr ∧ nxt.regs = s.regs ∧
    nxt.cnts = s.cnts := by
  unfold execHiRingDisable at h; obtain rfl := Outcome.next.inj h; clear h; simp; done

theorem execRingWorkDrained_keeps (p : HostPort) (n : Fin 256) (s : State) {nxt : State} (h : execRingWorkDrained p n s = .next nxt) :
    nxt.pending = s.pending ∧ nxt.now = s.now ∧ nxt.serial = s.serial ∧ nxt.out = s.out ∧ nxt.pins = s.pins ∧
    nxt.md = s.md ∧ nxt.cmds = s.cmds ∧ nxt.flt = s.flt ∧ nxt.clk = s.clk ∧ nxt.ref = s.ref ∧
    nxt.kennel = s.kennel ∧ nxt.time = s.time ∧ nxt.buf = s.buf ∧ nxt.port = s.port ∧ nxt.slices = s.slices ∧
    nxt.tab = s.tab ∧ nxt.gen = s.gen ∧ nxt.core = s.core ∧ nxt.sch = s.sch ∧ nxt.tel = s.tel ∧ nxt.pwr = s.pwr ∧
    nxt.regs = s.regs ∧ nxt.cnts = s.cnts := by
  unfold execRingWorkDrained at h; obtain rfl := Outcome.next.inj h; clear h; simp; done

theorem execHiRingStatClear_keeps (p half : HostPort) (n : Fin 256) (value : Word) (s : State) {nxt : State} (h : execHiRingStatClear p half n value s = .next nxt) :
    nxt.pending = s.pending ∧ nxt.now = s.now ∧ nxt.serial = s.serial ∧ nxt.out = s.out ∧ nxt.pins = s.pins ∧
    nxt.md = s.md ∧ nxt.cmds = s.cmds ∧ nxt.flt = s.flt ∧ nxt.clk = s.clk ∧ nxt.ref = s.ref ∧
    nxt.kennel = s.kennel ∧ nxt.time = s.time ∧ nxt.buf = s.buf ∧ nxt.port = s.port ∧ nxt.slices = s.slices ∧
    nxt.tab = s.tab ∧ nxt.gen = s.gen ∧ nxt.core = s.core ∧ nxt.sch = s.sch ∧ nxt.tel = s.tel ∧ nxt.pwr = s.pwr ∧
    nxt.regs = s.regs ∧ nxt.cnts = s.cnts := by
  unfold execHiRingStatClear at h; obtain rfl := Outcome.next.inj h; clear h; simp; done

theorem execProdDoorbell_keeps (p : HostPort) (n : Fin 256) (value : Word) (s : State) {nxt : State} (h : execProdDoorbell p n value s = .next nxt) :
    nxt.pending = s.pending ∧ nxt.now = s.now ∧ nxt.serial = s.serial ∧ nxt.out = s.out ∧ nxt.pins = s.pins ∧
    nxt.md = s.md ∧ nxt.cmds = s.cmds ∧ nxt.clk = s.clk ∧ nxt.ref = s.ref ∧ nxt.kennel = s.kennel ∧
    nxt.time = s.time ∧ nxt.buf = s.buf ∧ nxt.port = s.port ∧ nxt.slices = s.slices ∧ nxt.tab = s.tab ∧
    nxt.gen = s.gen ∧ nxt.core = s.core ∧ nxt.sch = s.sch ∧ nxt.tel = s.tel ∧ nxt.pwr = s.pwr ∧ nxt.regs = s.regs ∧
    nxt.cnts = s.cnts ∧ nxt.flt.keel0 = s.flt.keel0 ∧ nxt.flt.keel1 = s.flt.keel1 := by
  unfold execProdDoorbell at h; obtain rfl := Outcome.next.inj h; clear h; simp; done

theorem execConsDoorbell_keeps (p : HostPort) (n : Fin 256) (value : Word) (s : State) {nxt : State} (h : execConsDoorbell p n value s = .next nxt) :
    nxt.pending = s.pending ∧ nxt.now = s.now ∧ nxt.serial = s.serial ∧ nxt.pins = s.pins ∧ nxt.md = s.md ∧
    nxt.cmds = s.cmds ∧ nxt.clk = s.clk ∧ nxt.ref = s.ref ∧ nxt.kennel = s.kennel ∧ nxt.time = s.time ∧
    nxt.buf = s.buf ∧ nxt.port = s.port ∧ nxt.slices = s.slices ∧ nxt.tab = s.tab ∧ nxt.gen = s.gen ∧
    nxt.sch = s.sch ∧ nxt.tel = s.tel ∧ nxt.pwr = s.pwr ∧ nxt.regs = s.regs ∧ nxt.cnts = s.cnts ∧
    nxt.flt.keel0 = s.flt.keel0 ∧ nxt.flt.keel1 = s.flt.keel1 := by
  unfold execConsDoorbell at h; obtain rfl := Outcome.next.inj h; clear h; simp; done

theorem execCommandFetch_keeps (p : HostPort) (n : Fin 64) (desc : List Byte) (s : State) {nxt : State} (h : execCommandFetch p n desc s = .next nxt) :
    nxt.pending = s.pending ∧ nxt.now = s.now ∧ nxt.out = s.out ∧ nxt.pins = s.pins ∧ nxt.md = s.md ∧
    nxt.flt = s.flt ∧ nxt.clk = s.clk ∧ nxt.ref = s.ref ∧ nxt.kennel = s.kennel ∧ nxt.time = s.time ∧
    nxt.buf = s.buf ∧ nxt.port = s.port ∧ nxt.slices = s.slices ∧ nxt.tab = s.tab ∧ nxt.gen = s.gen ∧
    nxt.core = s.core ∧ nxt.sch = s.sch ∧ nxt.tel = s.tel ∧ nxt.pwr = s.pwr ∧ nxt.regs = s.regs ∧
    nxt.cnts = s.cnts := by
  unfold execCommandFetch at h; obtain rfl := Outcome.next.inj h; clear h; simp; done

theorem execDmaErrorCompletion_keeps (p : HostPort) (n : Fin 256) (s : State) {nxt : State} (h : execDmaErrorCompletion p n s = .next nxt) :
    nxt.pending = s.pending ∧ nxt.now = s.now ∧ nxt.serial = s.serial ∧ nxt.out = s.out ∧ nxt.pins = s.pins ∧
    nxt.md = s.md ∧ nxt.cmds = s.cmds ∧ nxt.clk = s.clk ∧ nxt.ref = s.ref ∧ nxt.kennel = s.kennel ∧
    nxt.time = s.time ∧ nxt.buf = s.buf ∧ nxt.port = s.port ∧ nxt.slices = s.slices ∧ nxt.tab = s.tab ∧
    nxt.gen = s.gen ∧ nxt.core = s.core ∧ nxt.sch = s.sch ∧ nxt.tel = s.tel ∧ nxt.pwr = s.pwr ∧ nxt.regs = s.regs ∧
    nxt.cnts = s.cnts ∧ nxt.flt.keel0 = s.flt.keel0 ∧ nxt.flt.keel1 = s.flt.keel1 := by
  unfold execDmaErrorCompletion at h; obtain rfl := Outcome.next.inj h; clear h; simp; done

theorem execVectorTimerExpiry_keeps (p : HostPort) (v : Fin 64) (s : State) {nxt : State} (h : execVectorTimerExpiry p v s = .next nxt) :
    nxt.pending = s.pending ∧ nxt.now = s.now ∧ nxt.serial = s.serial ∧ nxt.pins = s.pins ∧ nxt.md = s.md ∧
    nxt.cmds = s.cmds ∧ nxt.flt = s.flt ∧ nxt.clk = s.clk ∧ nxt.ref = s.ref ∧ nxt.kennel = s.kennel ∧
    nxt.time = s.time ∧ nxt.buf = s.buf ∧ nxt.port = s.port ∧ nxt.slices = s.slices ∧ nxt.tab = s.tab ∧
    nxt.gen = s.gen ∧ nxt.core = s.core ∧ nxt.sch = s.sch ∧ nxt.tel = s.tel ∧ nxt.pwr = s.pwr ∧ nxt.regs = s.regs ∧
    nxt.cnts = s.cnts := by
  unfold execVectorTimerExpiry at h; obtain rfl := Outcome.next.inj h; clear h; simp; done

theorem execNop_keeps (p : HostPort) (n : Fin 64) (s : State) {nxt : State} (h : execNop p n s = .next nxt) :
    nxt.pending = s.pending ∧ nxt.now = s.now ∧ nxt.serial = s.serial ∧ nxt.pins = s.pins ∧ nxt.md = s.md ∧
    nxt.flt = s.flt ∧ nxt.clk = s.clk ∧ nxt.ref = s.ref ∧ nxt.kennel = s.kennel ∧ nxt.time = s.time ∧
    nxt.buf = s.buf ∧ nxt.port = s.port ∧ nxt.slices = s.slices ∧ nxt.tab = s.tab ∧ nxt.gen = s.gen ∧
    nxt.core = s.core ∧ nxt.sch = s.sch ∧ nxt.tel = s.tel ∧ nxt.pwr = s.pwr ∧ nxt.regs = s.regs ∧
    nxt.cnts = s.cnts := by
  unfold execNop at h; obtain rfl := Outcome.next.inj h; clear h
  have e : ∀ a : State, (a.pending, a.now, a.serial, a.pins, a.md, a.flt, a.clk, a.ref, a.kennel, a.time, a.buf, a.port, a.slices, a.tab, a.gen, a.core, a.sch, a.tel, a.pwr, a.regs, a.cnts) = (s.pending, s.now, s.serial, s.pins, s.md, s.flt, s.clk, s.ref, s.kennel, s.time, s.buf, s.port, s.slices, s.tab, s.gen, s.core, s.sch, s.tel, s.pwr, s.regs, s.cnts) →
      a.pending = s.pending ∧ a.now = s.now ∧ a.serial = s.serial ∧ a.pins = s.pins ∧ a.md = s.md ∧ a.flt = s.flt ∧
      a.clk = s.clk ∧ a.ref = s.ref ∧ a.kennel = s.kennel ∧ a.time = s.time ∧ a.buf = s.buf ∧ a.port = s.port ∧
      a.slices = s.slices ∧ a.tab = s.tab ∧ a.gen = s.gen ∧ a.core = s.core ∧ a.sch = s.sch ∧ a.tel = s.tel ∧
      a.pwr = s.pwr ∧ a.regs = s.regs ∧ a.cnts = s.cnts := by
    intro a h; simpa only [Prod.mk.injEq] using h
  apply e
  refine runCmd_keeps (fun t => (t.pending, t.now, t.serial, t.pins, t.md, t.flt, t.clk, t.ref, t.kennel, t.time, t.buf, t.port, t.slices, t.tab, t.gen, t.core, t.sch, t.tel, t.pwr, t.regs, t.cnts)) (by simp) (by simp) _ _ _ _ _ _ _ ?_
  intro c t
  (repeat' split) <;> first | rfl | (simp; done) | (rename_i q; simp [snd_of q]; done) | (rename_i q _; simp [snd_of q]; done) | (rename_i q _ _; simp [snd_of q]; done)

theorem execFence_keeps (p : HostPort) (n : Fin 64) (s : State) {nxt : State} (h : execFence p n s = .next nxt) :
    nxt.pending = s.pending ∧ nxt.now = s.now ∧ nxt.serial = s.serial ∧ nxt.pins = s.pins ∧ nxt.md = s.md ∧
    nxt.flt = s.flt ∧ nxt.clk = s.clk ∧ nxt.ref = s.ref ∧ nxt.kennel = s.kennel ∧ nxt.time = s.time ∧
    nxt.buf = s.buf ∧ nxt.port = s.port ∧ nxt.slices = s.slices ∧ nxt.tab = s.tab ∧ nxt.gen = s.gen ∧
    nxt.core = s.core ∧ nxt.sch = s.sch ∧ nxt.tel = s.tel ∧ nxt.pwr = s.pwr ∧ nxt.regs = s.regs ∧
    nxt.cnts = s.cnts := by
  unfold execFence at h; obtain rfl := Outcome.next.inj h; clear h
  have e : ∀ a : State, (a.pending, a.now, a.serial, a.pins, a.md, a.flt, a.clk, a.ref, a.kennel, a.time, a.buf, a.port, a.slices, a.tab, a.gen, a.core, a.sch, a.tel, a.pwr, a.regs, a.cnts) = (s.pending, s.now, s.serial, s.pins, s.md, s.flt, s.clk, s.ref, s.kennel, s.time, s.buf, s.port, s.slices, s.tab, s.gen, s.core, s.sch, s.tel, s.pwr, s.regs, s.cnts) →
      a.pending = s.pending ∧ a.now = s.now ∧ a.serial = s.serial ∧ a.pins = s.pins ∧ a.md = s.md ∧ a.flt = s.flt ∧
      a.clk = s.clk ∧ a.ref = s.ref ∧ a.kennel = s.kennel ∧ a.time = s.time ∧ a.buf = s.buf ∧ a.port = s.port ∧
      a.slices = s.slices ∧ a.tab = s.tab ∧ a.gen = s.gen ∧ a.core = s.core ∧ a.sch = s.sch ∧ a.tel = s.tel ∧
      a.pwr = s.pwr ∧ a.regs = s.regs ∧ a.cnts = s.cnts := by
    intro a h; simpa only [Prod.mk.injEq] using h
  apply e
  refine runCmd_keeps (fun t => (t.pending, t.now, t.serial, t.pins, t.md, t.flt, t.clk, t.ref, t.kennel, t.time, t.buf, t.port, t.slices, t.tab, t.gen, t.core, t.sch, t.tel, t.pwr, t.regs, t.cnts)) (by simp) (by simp) _ _ _ _ _ _ _ ?_
  intro c t
  (repeat' split) <;> first | rfl | (simp; done) | (rename_i q; simp [snd_of q]; done) | (rename_i q _; simp [snd_of q]; done) | (rename_i q _ _; simp [snd_of q]; done)

theorem execNotSupported_keeps (p : HostPort) (n : Fin 64) (s : State) {nxt : State} (h : execNotSupported p n s = .next nxt) :
    nxt.pending = s.pending ∧ nxt.now = s.now ∧ nxt.serial = s.serial ∧ nxt.pins = s.pins ∧ nxt.md = s.md ∧
    nxt.flt = s.flt ∧ nxt.clk = s.clk ∧ nxt.ref = s.ref ∧ nxt.kennel = s.kennel ∧ nxt.time = s.time ∧
    nxt.buf = s.buf ∧ nxt.port = s.port ∧ nxt.slices = s.slices ∧ nxt.tab = s.tab ∧ nxt.gen = s.gen ∧
    nxt.core = s.core ∧ nxt.sch = s.sch ∧ nxt.tel = s.tel ∧ nxt.pwr = s.pwr ∧ nxt.regs = s.regs ∧
    nxt.cnts = s.cnts := by
  unfold execNotSupported at h; obtain rfl := Outcome.next.inj h; clear h; (repeat' split) <;> first | rfl | (simp; done) | (rename_i q; simp [snd_of q]; done) | (rename_i q _; simp [snd_of q]; done) | (rename_i q _ _; simp [snd_of q]; done)
end Sys2Proof.Machine
end

