-- ==== Sys2Proof/Laws/RunsModes.lean ====
section
/-! SUPPORT. What each command of Machine/Modes.lean keeps: the parts of the state that its next state has as before. -/
set_option linter.unusedSimpArgs false
set_option linter.unusedVariables false
namespace Sys2Proof.Machine
open Host (Outcome)

theorem execModeRequest_keeps (p : HostPort) (n : Fin 64) (s : State) {nxt : State} (h : execModeRequest p n s = .next nxt) :
    nxt.pending = s.pending ∧ nxt.now = s.now ∧ nxt.serial = s.serial ∧ nxt.pins = s.pins ∧ nxt.clk = s.clk ∧
    nxt.kennel = s.kennel ∧ nxt.slices = s.slices ∧ nxt.tab = s.tab ∧ nxt.regs = s.regs := by
  unfold execModeRequest at h; obtain rfl := Outcome.next.inj h; clear h
  have e : ∀ a : State, (a.pending, a.now, a.serial, a.pins, a.clk, a.kennel, a.slices, a.tab, a.regs) = (s.pending, s.now, s.serial, s.pins, s.clk, s.kennel, s.slices, s.tab, s.regs) →
      a.pending = s.pending ∧ a.now = s.now ∧ a.serial = s.serial ∧ a.pins = s.pins ∧ a.clk = s.clk ∧
      a.kennel = s.kennel ∧ a.slices = s.slices ∧ a.tab = s.tab ∧ a.regs = s.regs := by
    intro a h; simpa only [Prod.mk.injEq] using h
  apply e
  simp only [State.unparkDone_keeps]
  refine Eq.trans (runCmd_keeps (fun t => (t.pending, t.now, t.serial, t.pins, t.clk, t.kennel, t.slices, t.tab, t.regs)) (by simp) (by simp) _ _ _ _ _ _ _ ?_) (by simp)
  intro c t
  (repeat' split) <;> first | rfl | (simp; done) | (rename_i q; simp [snd_of q]; done) | (rename_i q _; simp [snd_of q]; done) | (rename_i q _ _; simp [snd_of q]; done)

theorem execModeRequestReset_keeps (p : HostPort) (n : Fin 64) (s : State) {nxt : State} (h : execModeRequestReset p n s = .next nxt) :
    nxt.pending = s.pending ∧ nxt.now = s.now ∧ nxt.serial = s.serial ∧ nxt.pins = s.pins ∧ nxt.kennel = s.kennel := by
  unfold execModeRequestReset at h; obtain rfl := Outcome.next.inj h; clear h
  have e : ∀ a : State, (a.pending, a.now, a.serial, a.pins, a.kennel) = (s.pending, s.now, s.serial, s.pins, s.kennel) →
      a.pending = s.pending ∧ a.now = s.now ∧ a.serial = s.serial ∧ a.pins = s.pins ∧ a.kennel = s.kennel := by
    intro a h; simpa only [Prod.mk.injEq] using h
  apply e
  refine runCmd_keeps (fun t => (t.pending, t.now, t.serial, t.pins, t.kennel)) (by simp) (by simp) _ _ _ _ _ _ _ ?_
  intro c t
  (repeat' split) <;> first | rfl | (simp; done) | (rename_i q; simp [snd_of q]; done) | (rename_i q _; simp [snd_of q]; done) | (rename_i q _ _; simp [snd_of q]; done)

theorem execDrainIngressStopped_keeps (s : State) {nxt : State} (h : execDrainIngressStopped s = .next nxt) :
    nxt.pending = s.pending ∧ nxt.now = s.now ∧ nxt.serial = s.serial ∧ nxt.pins = s.pins ∧ nxt.clk = s.clk ∧
    nxt.kennel = s.kennel ∧ nxt.slices = s.slices ∧ nxt.tab = s.tab ∧ nxt.pwr = s.pwr ∧ nxt.regs = s.regs := by
  unfold execDrainIngressStopped at h; obtain rfl := Outcome.next.inj h; clear h; simp; done

theorem execPipelinesGated_keeps (s : State) {nxt : State} (h : execPipelinesGated s = .next nxt) :
    nxt.pending = s.pending ∧ nxt.now = s.now ∧ nxt.serial = s.serial ∧ nxt.pins = s.pins ∧ nxt.clk = s.clk ∧
    nxt.kennel = s.kennel ∧ nxt.slices = s.slices ∧ nxt.tab = s.tab ∧ nxt.pwr = s.pwr ∧ nxt.regs = s.regs := by
  unfold execPipelinesGated at h; obtain rfl := Outcome.next.inj h; clear h; simp; done

theorem execDrainBufferEmpty_keeps (s : State) {nxt : State} (h : execDrainBufferEmpty s = .next nxt) :
    nxt.pending = s.pending ∧ nxt.now = s.now ∧ nxt.serial = s.serial ∧ nxt.pins = s.pins ∧ nxt.clk = s.clk ∧
    nxt.kennel = s.kennel ∧ nxt.slices = s.slices ∧ nxt.tab = s.tab ∧ nxt.pwr = s.pwr ∧ nxt.regs = s.regs := by
  unfold execDrainBufferEmpty at h; obtain rfl := Outcome.next.inj h; clear h; simp; done

theorem execDrainFlushTimeout_keeps (pick : Draw) (s : State) {nxt : State} (h : execDrainFlushTimeout pick s = .next nxt) :
    nxt.pending = s.pending ∧ nxt.now = s.now ∧ nxt.serial = s.serial ∧ nxt.pins = s.pins ∧ nxt.clk = s.clk ∧
    nxt.kennel = s.kennel ∧ nxt.slices = s.slices ∧ nxt.tab = s.tab ∧ nxt.pwr = s.pwr ∧ nxt.regs = s.regs := by
  unfold execDrainFlushTimeout at h; obtain rfl := Outcome.next.inj h; clear h; simp; done

theorem execUnparkRampEnd_keeps (s : State) {nxt : State} (h : execUnparkRampEnd s = .next nxt) :
    nxt.pending = s.pending ∧ nxt.now = s.now ∧ nxt.serial = s.serial ∧ nxt.pins = s.pins ∧ nxt.clk = s.clk ∧
    nxt.kennel = s.kennel ∧ nxt.slices = s.slices ∧ nxt.tab = s.tab ∧ nxt.regs = s.regs := by
  unfold execUnparkRampEnd at h; obtain rfl := Outcome.next.inj h; clear h; dsimp only; (repeat' split) <;> first | rfl | (simp; done) | (rename_i q; simp [snd_of q]; done) | (rename_i q _; simp [snd_of q]; done) | (rename_i q _ _; simp [snd_of q]; done)

theorem execGlModeReq_keeps (p : HostPort) (value : Word) (s : State) {nxt : State} (h : execGlModeReq p value s = .next nxt) :
    nxt.pending = s.pending ∧ nxt.now = s.now ∧ nxt.serial = s.serial ∧ nxt.pins = s.pins ∧ nxt.cmds = s.cmds ∧
    nxt.clk = s.clk ∧ nxt.kennel = s.kennel ∧ nxt.slices = s.slices ∧ nxt.tab = s.tab ∧ nxt.pwr = s.pwr ∧
    nxt.regs = s.regs := by
  unfold execGlModeReq at h; obtain rfl := Outcome.next.inj h; clear h; dsimp only; (repeat' split) <;> first | rfl | (simp; done) | (rename_i q; simp [snd_of q]; done) | (rename_i q _; simp [snd_of q]; done) | (rename_i q _ _; simp [snd_of q]; done)

theorem execGlModeReqBoot_keeps (p : HostPort) (value : Word) (s : State) {nxt : State} (h : execGlModeReqBoot p value s = .next nxt) :
    nxt.pending = s.pending ∧ nxt.now = s.now ∧ nxt.serial = s.serial ∧ nxt.out = s.out ∧ nxt.pins = s.pins ∧
    nxt.host = s.host ∧ nxt.cmds = s.cmds ∧ nxt.clk = s.clk ∧ nxt.kennel = s.kennel ∧ nxt.buf = s.buf ∧
    nxt.port = s.port ∧ nxt.slices = s.slices ∧ nxt.tab = s.tab ∧ nxt.gen = s.gen ∧ nxt.core = s.core ∧
    nxt.sch = s.sch ∧ nxt.tel = s.tel ∧ nxt.pwr = s.pwr ∧ nxt.regs = s.regs ∧ nxt.cnts = s.cnts := by
  unfold execGlModeReqBoot at h; obtain rfl := Outcome.next.inj h; clear h; simp; done

theorem execGlReset_keeps (p : HostPort) (value : Word) (s : State) {nxt : State} (h : execGlReset p value s = .next nxt) :
    nxt.pending = s.pending ∧ nxt.now = s.now ∧ nxt.serial = s.serial ∧ nxt.out = s.out ∧ nxt.pins = s.pins ∧
    nxt.kennel = s.kennel := by
  unfold execGlReset at h; obtain rfl := Outcome.next.inj h; clear h; simp; done

theorem execGlFwLen_keeps (p : HostPort) (value : Word) (s : State) {nxt : State} (h : execGlFwLen p value s = .next nxt) :
    nxt.pending = s.pending ∧ nxt.now = s.now ∧ nxt.serial = s.serial ∧ nxt.out = s.out ∧ nxt.pins = s.pins ∧
    nxt.host = s.host ∧ nxt.cmds = s.cmds ∧ nxt.flt = s.flt ∧ nxt.clk = s.clk ∧ nxt.ref = s.ref ∧
    nxt.kennel = s.kennel ∧ nxt.time = s.time ∧ nxt.buf = s.buf ∧ nxt.port = s.port ∧ nxt.slices = s.slices ∧
    nxt.tab = s.tab ∧ nxt.gen = s.gen ∧ nxt.core = s.core ∧ nxt.sch = s.sch ∧ nxt.tel = s.tel ∧ nxt.pwr = s.pwr ∧
    nxt.cnts = s.cnts := by
  unfold execGlFwLen at h; obtain rfl := Outcome.next.inj h; clear h; simp; done

theorem execResetNFall_keeps (ns : Nat) (acts : Bool) (s : State) {nxt : State} (h : execResetNFall ns acts s = .next nxt) :
    nxt.pending = s.pending ∧ nxt.now = s.now ∧ nxt.serial = s.serial ∧ nxt.out = s.out ∧ nxt.kennel = s.kennel := by
  unfold execResetNFall at h; obtain rfl := Outcome.next.inj h; clear h; simp; done

theorem execResetNRise_keeps (hostPref : Bool) (strap : BitVec 10) (s : State) {nxt : State} (h : execResetNRise hostPref strap s = .next nxt) :
    nxt.pending = s.pending ∧ nxt.now = s.now ∧ nxt.serial = s.serial ∧ nxt.out = s.out ∧ nxt.host = s.host ∧
    nxt.cmds = s.cmds ∧ nxt.clk = s.clk ∧ nxt.ref = s.ref ∧ nxt.kennel = s.kennel ∧ nxt.time = s.time ∧
    nxt.buf = s.buf ∧ nxt.port = s.port ∧ nxt.slices = s.slices ∧ nxt.tab = s.tab ∧ nxt.gen = s.gen ∧
    nxt.core = s.core ∧ nxt.sch = s.sch ∧ nxt.tel = s.tel ∧ nxt.pwr = s.pwr ∧ nxt.regs = s.regs ∧
    nxt.cnts = s.cnts := by
  unfold execResetNRise at h; obtain rfl := Outcome.next.inj h; clear h; simp; done

theorem execDeviceResetHoldEnd_keeps (s : State) {nxt : State} (h : execDeviceResetHoldEnd s = .next nxt) :
    nxt.pending = s.pending ∧ nxt.now = s.now ∧ nxt.serial = s.serial ∧ nxt.out = s.out ∧ nxt.pins = s.pins ∧
    nxt.host = s.host ∧ nxt.cmds = s.cmds ∧ nxt.clk = s.clk ∧ nxt.ref = s.ref ∧ nxt.kennel = s.kennel ∧
    nxt.time = s.time ∧ nxt.buf = s.buf ∧ nxt.port = s.port ∧ nxt.slices = s.slices ∧ nxt.tab = s.tab ∧
    nxt.gen = s.gen ∧ nxt.core = s.core ∧ nxt.sch = s.sch ∧ nxt.tel = s.tel ∧ nxt.pwr = s.pwr ∧ nxt.regs = s.regs ∧
    nxt.cnts = s.cnts := by
  unfold execDeviceResetHoldEnd at h; obtain rfl := Outcome.next.inj h; clear h; simp; done

theorem execPwrfailNFall_keeps (ns : Nat) (acts : Bool) (mv : BitVec 12) (s : State) {nxt : State} (h : execPwrfailNFall ns acts mv s = .next nxt) :
    nxt.pending = s.pending ∧ nxt.now = s.now ∧ nxt.serial = s.serial ∧ nxt.clk = s.clk ∧ nxt.buf = s.buf ∧
    nxt.port = s.port ∧ nxt.slices = s.slices ∧ nxt.sch = s.sch ∧ nxt.regs = s.regs ∧ nxt.cnts = s.cnts ∧
    nxt.kennel.keyHash = s.kennel.keyHash := by
  unfold execPwrfailNFall at h; obtain rfl := Outcome.next.inj h; clear h; simp; done

theorem execPwrfailNRise_keeps (s : State) {nxt : State} (h : execPwrfailNRise s = .next nxt) :
    nxt.pending = s.pending ∧ nxt.now = s.now ∧ nxt.serial = s.serial ∧ nxt.out = s.out ∧ nxt.md = s.md ∧
    nxt.host = s.host ∧ nxt.cmds = s.cmds ∧ nxt.flt = s.flt ∧ nxt.clk = s.clk ∧ nxt.ref = s.ref ∧
    nxt.kennel = s.kennel ∧ nxt.time = s.time ∧ nxt.buf = s.buf ∧ nxt.port = s.port ∧ nxt.slices = s.slices ∧
    nxt.tab = s.tab ∧ nxt.gen = s.gen ∧ nxt.core = s.core ∧ nxt.sch = s.sch ∧ nxt.tel = s.tel ∧ nxt.pwr = s.pwr ∧
    nxt.regs = s.regs ∧ nxt.cnts = s.cnts := by
  unfold execPwrfailNRise at h; obtain rfl := Outcome.next.inj h; clear h; simp only [ite_self, and_self, implies_true, Ran.st_done, Ran.st_wait, Ran.st_refuse, Ran.st_ite, snd_ite]

theorem execVholdCollapse_keeps (s : State) {nxt : State} (h : execVholdCollapse s = .next nxt) :
    nxt.pending = s.pending ∧ nxt.now = s.now ∧ nxt.serial = s.serial ∧ nxt.out = s.out ∧ nxt.pins = s.pins ∧
    nxt.md = s.md ∧ nxt.host = s.host ∧ nxt.cmds = s.cmds ∧ nxt.flt = s.flt ∧ nxt.clk = s.clk ∧ nxt.ref = s.ref ∧
    nxt.kennel = s.kennel ∧ nxt.time = s.time ∧ nxt.buf = s.buf ∧ nxt.port = s.port ∧ nxt.slices = s.slices ∧
    nxt.tab = s.tab ∧ nxt.gen = s.gen ∧ nxt.core = s.core ∧ nxt.sch = s.sch ∧ nxt.tel = s.tel ∧ nxt.regs = s.regs ∧
    nxt.cnts = s.cnts := by
  unfold execVholdCollapse at h; obtain rfl := Outcome.next.inj h; clear h; simp only [ite_self, and_self, implies_true, Ran.st_done, Ran.st_wait, Ran.st_refuse, Ran.st_ite, snd_ite]

theorem execSaveWriteEnd_keeps (s : State) {nxt : State} (h : execSaveWriteEnd s = .next nxt) :
    nxt.pending = s.pending ∧ nxt.now = s.now ∧ nxt.serial = s.serial ∧ nxt.out = s.out ∧ nxt.pins = s.pins ∧
    nxt.md = s.md ∧ nxt.host = s.host ∧ nxt.cmds = s.cmds ∧ nxt.flt = s.flt ∧ nxt.clk = s.clk ∧ nxt.ref = s.ref ∧
    nxt.time = s.time ∧ nxt.buf = s.buf ∧ nxt.port = s.port ∧ nxt.slices = s.slices ∧ nxt.tab = s.tab ∧
    nxt.gen = s.gen ∧ nxt.core = s.core ∧ nxt.sch = s.sch ∧ nxt.tel = s.tel ∧ nxt.regs = s.regs ∧
    nxt.cnts = s.cnts ∧ nxt.kennel.keyHash = s.kennel.keyHash := by
  unfold execSaveWriteEnd at h; obtain rfl := Outcome.next.inj h; clear h; (repeat' split) <;> first | rfl | (simp; done) | (rename_i q; simp [snd_of q]; done) | (rename_i q _; simp [snd_of q]; done) | (rename_i q _ _; simp [snd_of q]; done)

theorem execLossOfPower_keeps (s : State) {nxt : State} (h : execLossOfPower s = .next nxt) :
    nxt.pending = s.pending ∧ nxt.now = s.now ∧ nxt.serial = s.serial ∧ nxt.out = s.out ∧ nxt.kennel = s.kennel := by
  unfold execLossOfPower at h; obtain rfl := Outcome.next.inj h; clear h; simp only [ite_self, and_self, implies_true, Ran.st_done, Ran.st_wait, Ran.st_refuse, Ran.st_ite, snd_ite]

theorem execHiIfrstStart_keeps (p half : HostPort) (value : Word) (s : State) {nxt : State} (h : execHiIfrstStart p half value s = .next nxt) :
    nxt.pending = s.pending ∧ nxt.now = s.now ∧ nxt.serial = s.serial ∧ nxt.pins = s.pins ∧ nxt.md = s.md ∧
    nxt.flt = s.flt ∧ nxt.clk = s.clk ∧ nxt.ref = s.ref ∧ nxt.kennel = s.kennel ∧ nxt.time = s.time ∧
    nxt.buf = s.buf ∧ nxt.port = s.port ∧ nxt.slices = s.slices ∧ nxt.core = s.core ∧ nxt.sch = s.sch ∧
    nxt.tel = s.tel ∧ nxt.pwr = s.pwr ∧ nxt.cnts = s.cnts := by
  unfold execHiIfrstStart at h; obtain rfl := Outcome.next.inj h; clear h; simp; done

theorem execHiIfrstDone_keeps (p : HostPort) (s : State) {nxt : State} (h : execHiIfrstDone p s = .next nxt) :
    nxt.pending = s.pending ∧ nxt.now = s.now ∧ nxt.serial = s.serial ∧ nxt.out = s.out ∧ nxt.pins = s.pins ∧
    nxt.md = s.md ∧ nxt.cmds = s.cmds ∧ nxt.flt = s.flt ∧ nxt.clk = s.clk ∧ nxt.ref = s.ref ∧
    nxt.kennel = s.kennel ∧ nxt.time = s.time ∧ nxt.buf = s.buf ∧ nxt.port = s.port ∧ nxt.slices = s.slices ∧
    nxt.tab = s.tab ∧ nxt.gen = s.gen ∧ nxt.core = s.core ∧ nxt.sch = s.sch ∧ nxt.tel = s.tel ∧ nxt.pwr = s.pwr ∧
    nxt.regs = s.regs ∧ nxt.cnts = s.cnts := by
  unfold execHiIfrstDone at h; obtain rfl := Outcome.next.inj h; clear h; simp only [ite_self, and_self, implies_true, Ran.st_done, Ran.st_wait, Ran.st_refuse, Ran.st_ite, snd_ite, State.onHalf_keeps]

theorem execPerstFall_keeps (p : HostPort) (ns : Nat) (acts : Bool) (s : State) {nxt : State} (h : execPerstFall p ns acts s = .next nxt) :
    nxt.pending = s.pending ∧ nxt.now = s.now ∧ nxt.serial = s.serial ∧ nxt.pins = s.pins ∧ nxt.md = s.md ∧
    nxt.clk = s.clk ∧ nxt.ref = s.ref ∧ nxt.kennel = s.kennel ∧ nxt.time = s.time ∧ nxt.buf = s.buf ∧
    nxt.port = s.port ∧ nxt.slices = s.slices ∧ nxt.sch = s.sch ∧ nxt.tel = s.tel ∧ nxt.pwr = s.pwr ∧
    nxt.cnts = s.cnts ∧ nxt.flt.keel0 = s.flt.keel0 := by
  unfold execPerstFall at h; obtain rfl := Outcome.next.inj h; clear h; simp; done

theorem execPerstRise_keeps (p : HostPort) (s : State) {nxt : State} (h : execPerstRise p s = .next nxt) :
    nxt.pending = s.pending ∧ nxt.now = s.now ∧ nxt.serial = s.serial ∧ nxt.out = s.out ∧ nxt.pins = s.pins ∧
    nxt.md = s.md ∧ nxt.cmds = s.cmds ∧ nxt.flt = s.flt ∧ nxt.clk = s.clk ∧ nxt.ref = s.ref ∧
    nxt.kennel = s.kennel ∧ nxt.time = s.time ∧ nxt.buf = s.buf ∧ nxt.port = s.port ∧ nxt.slices = s.slices ∧
    nxt.tab = s.tab ∧ nxt.gen = s.gen ∧ nxt.core = s.core ∧ nxt.sch = s.sch ∧ nxt.tel = s.tel ∧ nxt.pwr = s.pwr ∧
    nxt.regs = s.regs ∧ nxt.cnts = s.cnts := by
  unfold execPerstRise at h; obtain rfl := Outcome.next.inj h; clear h; simp only [ite_self, and_self, implies_true, Ran.st_done, Ran.st_wait, Ran.st_refuse, Ran.st_ite, snd_ite, State.onHalf_keeps]

theorem execTapInstruction_keeps (reset : Bool) (code : Byte) (s : State) {nxt : State} (h : execTapInstruction reset code s = .next nxt) :
    nxt.pending = s.pending ∧ nxt.now = s.now ∧ nxt.serial = s.serial ∧ nxt.out = s.out ∧ nxt.md = s.md ∧
    nxt.host = s.host ∧ nxt.cmds = s.cmds ∧ nxt.flt = s.flt ∧ nxt.clk = s.clk ∧ nxt.ref = s.ref ∧
    nxt.kennel = s.kennel ∧ nxt.time = s.time ∧ nxt.buf = s.buf ∧ nxt.port = s.port ∧ nxt.slices = s.slices ∧
    nxt.tab = s.tab ∧ nxt.gen = s.gen ∧ nxt.core = s.core ∧ nxt.sch = s.sch ∧ nxt.tel = s.tel ∧ nxt.pwr = s.pwr ∧
    nxt.regs = s.regs ∧ nxt.cnts = s.cnts := by
  unfold execTapInstruction at h; obtain rfl := Outcome.next.inj h; clear h; simp only [ite_self, and_self, implies_true, Ran.st_done, Ran.st_wait, Ran.st_refuse, Ran.st_ite, snd_ite]

theorem execBootSelftestDone_keeps (memA katA memB katB : Bool) (s : State) {nxt : State} (h : execBootSelftestDone memA katA memB katB s = .next nxt) :
    nxt.pending = s.pending ∧ nxt.now = s.now ∧ nxt.serial = s.serial ∧ nxt.pins = s.pins ∧ nxt.cmds = s.cmds ∧
    nxt.clk = s.clk ∧ nxt.kennel = s.kennel ∧ nxt.time = s.time ∧ nxt.buf = s.buf ∧ nxt.port = s.port ∧
    nxt.slices = s.slices ∧ nxt.tab = s.tab ∧ nxt.gen = s.gen ∧ nxt.core = s.core ∧ nxt.sch = s.sch ∧
    nxt.tel = s.tel ∧ nxt.pwr = s.pwr ∧ nxt.regs = s.regs ∧ nxt.cnts = s.cnts ∧ nxt.flt.keel0 = s.flt.keel0 ∧
    nxt.flt.keel1 = s.flt.keel1 := by
  unfold execBootSelftestDone at h; obtain rfl := Outcome.next.inj h; clear h; simp; done

theorem execFwFetchStart_keeps (s : State) {nxt : State} (h : execFwFetchStart s = .next nxt) :
    nxt.pending = s.pending ∧ nxt.now = s.now ∧ nxt.serial = s.serial ∧ nxt.out = s.out ∧ nxt.pins = s.pins ∧
    nxt.host = s.host ∧ nxt.cmds = s.cmds ∧ nxt.clk = s.clk ∧ nxt.kennel = s.kennel ∧ nxt.buf = s.buf ∧
    nxt.port = s.port ∧ nxt.slices = s.slices ∧ nxt.tab = s.tab ∧ nxt.gen = s.gen ∧ nxt.core = s.core ∧
    nxt.sch = s.sch ∧ nxt.tel = s.tel ∧ nxt.pwr = s.pwr ∧ nxt.regs = s.regs ∧ nxt.cnts = s.cnts := by
  unfold execFwFetchStart at h; obtain rfl := Outcome.next.inj h; clear h; simp; done

theorem execFwFetchDone_keeps (ok : Bool) (s : State) {nxt : State} (h : execFwFetchDone ok s = .next nxt) :
    nxt.pending = s.pending ∧ nxt.now = s.now ∧ nxt.serial = s.serial ∧ nxt.out = s.out ∧ nxt.pins = s.pins ∧
    nxt.host = s.host ∧ nxt.cmds = s.cmds ∧ nxt.clk = s.clk ∧ nxt.kennel = s.kennel ∧ nxt.buf = s.buf ∧
    nxt.port = s.port ∧ nxt.slices = s.slices ∧ nxt.tab = s.tab ∧ nxt.gen = s.gen ∧ nxt.core = s.core ∧
    nxt.sch = s.sch ∧ nxt.tel = s.tel ∧ nxt.pwr = s.pwr ∧ nxt.regs = s.regs ∧ nxt.cnts = s.cnts := by
  unfold execFwFetchDone at h; obtain rfl := Outcome.next.inj h; clear h; simp; done

theorem execFwVerifyDone_keeps (good : Bool) (image : List Byte) (version : Word) (s : State) {nxt : State} (h : execFwVerifyDone good image version s = .next nxt) :
    nxt.pending = s.pending ∧ nxt.now = s.now ∧ nxt.serial = s.serial ∧ nxt.pins = s.pins ∧ nxt.cmds = s.cmds ∧
    nxt.clk = s.clk ∧ nxt.kennel = s.kennel ∧ nxt.buf = s.buf ∧ nxt.port = s.port ∧ nxt.slices = s.slices ∧
    nxt.tab = s.tab ∧ nxt.gen = s.gen ∧ nxt.core = s.core ∧ nxt.sch = s.sch ∧ nxt.tel = s.tel ∧ nxt.pwr = s.pwr ∧
    nxt.regs = s.regs ∧ nxt.cnts = s.cnts := by
  unfold execFwVerifyDone at h; obtain rfl := Outcome.next.inj h; clear h; simp; done

theorem execFwFetchTimeout_keeps (s : State) {nxt : State} (h : execFwFetchTimeout s = .next nxt) :
    nxt.pending = s.pending ∧ nxt.now = s.now ∧ nxt.serial = s.serial ∧ nxt.out = s.out ∧ nxt.pins = s.pins ∧
    nxt.host = s.host ∧ nxt.cmds = s.cmds ∧ nxt.clk = s.clk ∧ nxt.kennel = s.kennel ∧ nxt.buf = s.buf ∧
    nxt.port = s.port ∧ nxt.slices = s.slices ∧ nxt.tab = s.tab ∧ nxt.gen = s.gen ∧ nxt.core = s.core ∧
    nxt.sch = s.sch ∧ nxt.tel = s.tel ∧ nxt.pwr = s.pwr ∧ nxt.regs = s.regs ∧ nxt.cnts = s.cnts := by
  unfold execFwFetchTimeout at h; obtain rfl := Outcome.next.inj h; clear h; simp; done

theorem execRoleProofDone_keeps (aOk bOk : Bool) (s : State) {nxt : State} (h : execRoleProofDone aOk bOk s = .next nxt) :
    nxt.pending = s.pending ∧ nxt.now = s.now ∧ nxt.serial = s.serial ∧ nxt.pins = s.pins ∧ nxt.cmds = s.cmds ∧
    nxt.clk = s.clk ∧ nxt.kennel = s.kennel ∧ nxt.time = s.time ∧ nxt.buf = s.buf ∧ nxt.port = s.port ∧
    nxt.slices = s.slices ∧ nxt.tab = s.tab ∧ nxt.gen = s.gen ∧ nxt.core = s.core ∧ nxt.sch = s.sch ∧
    nxt.tel = s.tel ∧ nxt.pwr = s.pwr ∧ nxt.regs = s.regs ∧ nxt.cnts = s.cnts ∧ nxt.flt.keel0 = s.flt.keel0 := by
  unfold execRoleProofDone at h; obtain rfl := Outcome.next.inj h; clear h; simp; done

theorem execKennelReadbackDone_keeps (errs : List (BitVec 20 × Bool)) (element : Bool) (s : State) {nxt : State} (h : execKennelReadbackDone errs element s = .next nxt) :
    nxt.pending = s.pending ∧ nxt.now = s.now ∧ nxt.serial = s.serial ∧ nxt.out = s.out ∧ nxt.pins = s.pins ∧
    nxt.host = s.host ∧ nxt.cmds = s.cmds ∧ nxt.clk = s.clk ∧ nxt.time = s.time ∧ nxt.gen = s.gen ∧
    nxt.core = s.core ∧ nxt.sch = s.sch ∧ nxt.tel = s.tel ∧ nxt.regs = s.regs ∧ nxt.cnts = s.cnts ∧
    nxt.flt.keel0 = s.flt.keel0 ∧ nxt.flt.keel1 = s.flt.keel1 ∧ nxt.kennel.keyHash = s.kennel.keyHash := by
  unfold execKennelReadbackDone at h; obtain rfl := Outcome.next.inj h; clear h; simp; done
end Sys2Proof.Machine
end

