-- ==== Sys2Proof/Laws/RunsPool.lean ====
section
/-! SUPPORT. What each command of Machine/Pool.lean keeps: the parts of the state that its next state has as before. -/
set_option linter.unusedSimpArgs false
set_option linter.unusedVariables false
namespace Sys2Proof.Machine
open Host (Outcome)

theorem execBpmAlloc_keeps (p : HostPort) (n : Fin 64) (picks : List Draw) (failed : List Nat) (s : State) {nxt : State} (h : execBpmAlloc p n picks failed s = .next nxt) :
    nxt.pending = s.pending ∧ nxt.now = s.now ∧ nxt.serial = s.serial ∧ nxt.pins = s.pins ∧ nxt.md = s.md ∧
    nxt.clk = s.clk ∧ nxt.kennel = s.kennel ∧ nxt.time = s.time ∧ nxt.slices = s.slices ∧ nxt.tab = s.tab ∧
    nxt.gen = s.gen ∧ nxt.sch = s.sch ∧ nxt.tel = s.tel ∧ nxt.pwr = s.pwr ∧ nxt.regs = s.regs ∧
    nxt.flt.keel0 = s.flt.keel0 ∧ nxt.flt.keel1 = s.flt.keel1 := by
  unfold execBpmAlloc at h; obtain rfl := Outcome.next.inj h; clear h
  have e : ∀ a : State, (a.pending, a.now, a.serial, a.pins, a.md, a.clk, a.kennel, a.time, a.slices, a.tab, a.gen, a.sch, a.tel, a.pwr, a.regs, a.flt.keel0, a.flt.keel1) = (s.pending, s.now, s.serial, s.pins, s.md, s.clk, s.kennel, s.time, s.slices, s.tab, s.gen, s.sch, s.tel, s.pwr, s.regs, s.flt.keel0, s.flt.keel1) →
      a.pending = s.pending ∧ a.now = s.now ∧ a.serial = s.serial ∧ a.pins = s.pins ∧ a.md = s.md ∧ a.clk = s.clk ∧
      a.kennel = s.kennel ∧ a.time = s.time ∧ a.slices = s.slices ∧ a.tab = s.tab ∧ a.gen = s.gen ∧ a.sch = s.sch ∧
      a.tel = s.tel ∧ a.pwr = s.pwr ∧ a.regs = s.regs ∧ a.flt.keel0 = s.flt.keel0 ∧ a.flt.keel1 = s.flt.keel1 := by
    intro a h; simpa only [Prod.mk.injEq] using h
  apply e
  simp only [State.pfcUpdate_keeps]
  refine Eq.trans (runCmd_keeps (fun t => (t.pending, t.now, t.serial, t.pins, t.md, t.clk, t.kennel, t.time, t.slices, t.tab, t.gen, t.sch, t.tel, t.pwr, t.regs, t.flt.keel0, t.flt.keel1)) (by simp) (by simp) _ _ _ _ _ _ _ ?_) (by simp)
  intro c t
  (repeat' split) <;> first | rfl | (rename_i q; simp [State.hostTakes_keeps _ _ _ _ _ _ _ q]; done) | (rename_i q _; simp [State.hostTakes_keeps _ _ _ _ _ _ _ q]; done) | (rename_i q _ _; simp [State.hostTakes_keeps _ _ _ _ _ _ _ q]; done) | (simp; done) | (rename_i q; simp [snd_of q]; done) | (rename_i q _; simp [snd_of q]; done) | (rename_i q _ _; simp [snd_of q]; done)

theorem execBpmFree_keeps (p : HostPort) (n : Fin 64) (handles : List Word) (s : State) {nxt : State} (h : execBpmFree p n handles s = .next nxt) :
    nxt.pending = s.pending ∧ nxt.now = s.now ∧ nxt.serial = s.serial ∧ nxt.pins = s.pins ∧ nxt.md = s.md ∧
    nxt.clk = s.clk ∧ nxt.kennel = s.kennel ∧ nxt.time = s.time ∧ nxt.slices = s.slices ∧ nxt.tab = s.tab ∧
    nxt.gen = s.gen ∧ nxt.sch = s.sch ∧ nxt.tel = s.tel ∧ nxt.pwr = s.pwr ∧ nxt.regs = s.regs ∧
    nxt.flt.keel0 = s.flt.keel0 ∧ nxt.flt.keel1 = s.flt.keel1 := by
  unfold execBpmFree at h; obtain rfl := Outcome.next.inj h; clear h
  have e : ∀ a : State, (a.pending, a.now, a.serial, a.pins, a.md, a.clk, a.kennel, a.time, a.slices, a.tab, a.gen, a.sch, a.tel, a.pwr, a.regs, a.flt.keel0, a.flt.keel1) = (s.pending, s.now, s.serial, s.pins, s.md, s.clk, s.kennel, s.time, s.slices, s.tab, s.gen, s.sch, s.tel, s.pwr, s.regs, s.flt.keel0, s.flt.keel1) →
      a.pending = s.pending ∧ a.now = s.now ∧ a.serial = s.serial ∧ a.pins = s.pins ∧ a.md = s.md ∧ a.clk = s.clk ∧
      a.kennel = s.kennel ∧ a.time = s.time ∧ a.slices = s.slices ∧ a.tab = s.tab ∧ a.gen = s.gen ∧ a.sch = s.sch ∧
      a.tel = s.tel ∧ a.pwr = s.pwr ∧ a.regs = s.regs ∧ a.flt.keel0 = s.flt.keel0 ∧ a.flt.keel1 = s.flt.keel1 := by
    intro a h; simpa only [Prod.mk.injEq] using h
  apply e
  simp only [State.pfcUpdate_keeps]
  refine Eq.trans (runCmd_keeps (fun t => (t.pending, t.now, t.serial, t.pins, t.md, t.clk, t.kennel, t.time, t.slices, t.tab, t.gen, t.sch, t.tel, t.pwr, t.regs, t.flt.keel0, t.flt.keel1)) (by simp) (by simp) _ _ _ _ _ _ _ ?_) (by simp)
  intro c t
  (repeat' split) <;> first | rfl | (simp; done) | (rename_i q; simp [snd_of q]; done) | (rename_i q _; simp [snd_of q]; done) | (rename_i q _ _; simp [snd_of q]; done)

theorem execBpmFreeAllHost_keeps (p : HostPort) (n : Fin 64) (s : State) {nxt : State} (h : execBpmFreeAllHost p n s = .next nxt) :
    nxt.pending = s.pending ∧ nxt.now = s.now ∧ nxt.serial = s.serial ∧ nxt.pins = s.pins ∧ nxt.md = s.md ∧
    nxt.clk = s.clk ∧ nxt.kennel = s.kennel ∧ nxt.time = s.time ∧ nxt.slices = s.slices ∧ nxt.tab = s.tab ∧
    nxt.gen = s.gen ∧ nxt.sch = s.sch ∧ nxt.tel = s.tel ∧ nxt.pwr = s.pwr ∧ nxt.regs = s.regs ∧
    nxt.flt.keel0 = s.flt.keel0 ∧ nxt.flt.keel1 = s.flt.keel1 := by
  unfold execBpmFreeAllHost at h; obtain rfl := Outcome.next.inj h; clear h
  have e : ∀ a : State, (a.pending, a.now, a.serial, a.pins, a.md, a.clk, a.kennel, a.time, a.slices, a.tab, a.gen, a.sch, a.tel, a.pwr, a.regs, a.flt.keel0, a.flt.keel1) = (s.pending, s.now, s.serial, s.pins, s.md, s.clk, s.kennel, s.time, s.slices, s.tab, s.gen, s.sch, s.tel, s.pwr, s.regs, s.flt.keel0, s.flt.keel1) →
      a.pending = s.pending ∧ a.now = s.now ∧ a.serial = s.serial ∧ a.pins = s.pins ∧ a.md = s.md ∧ a.clk = s.clk ∧
      a.kennel = s.kennel ∧ a.time = s.time ∧ a.slices = s.slices ∧ a.tab = s.tab ∧ a.gen = s.gen ∧ a.sch = s.sch ∧
      a.tel = s.tel ∧ a.pwr = s.pwr ∧ a.regs = s.regs ∧ a.flt.keel0 = s.flt.keel0 ∧ a.flt.keel1 = s.flt.keel1 := by
    intro a h; simpa only [Prod.mk.injEq] using h
  apply e
  simp only [State.pfcUpdate_keeps]
  refine Eq.trans (runCmd_keeps (fun t => (t.pending, t.now, t.serial, t.pins, t.md, t.clk, t.kennel, t.time, t.slices, t.tab, t.gen, t.sch, t.tel, t.pwr, t.regs, t.flt.keel0, t.flt.keel1)) (by simp) (by simp) _ _ _ _ _ _ _ ?_) (by simp)
  intro c t
  (repeat' split) <;> first | rfl | (simp; done) | (rename_i q; simp [snd_of q]; done) | (rename_i q _; simp [snd_of q]; done) | (rename_i q _ _; simp [snd_of q]; done)

theorem execBpmCommit_keeps (p : HostPort) (value : Word) (s : State) {nxt : State} (h : execBpmCommit p value s = .next nxt) :
    nxt.pending = s.pending ∧ nxt.now = s.now ∧ nxt.serial = s.serial ∧ nxt.out = s.out ∧ nxt.pins = s.pins ∧
    nxt.md = s.md ∧ nxt.host = s.host ∧ nxt.cmds = s.cmds ∧ nxt.flt = s.flt ∧ nxt.clk = s.clk ∧ nxt.ref = s.ref ∧
    nxt.kennel = s.kennel ∧ nxt.time = s.time ∧ nxt.port = s.port ∧ nxt.slices = s.slices ∧ nxt.tab = s.tab ∧
    nxt.gen = s.gen ∧ nxt.core = s.core ∧ nxt.sch = s.sch ∧ nxt.tel = s.tel ∧ nxt.pwr = s.pwr ∧ nxt.regs = s.regs ∧
    nxt.cnts = s.cnts := by
  unfold execBpmCommit at h; obtain rfl := Outcome.next.inj h; clear h; simp; done

theorem execBpmCommitDone_keeps (s : State) {nxt : State} (h : execBpmCommitDone s = .next nxt) :
    nxt.pending = s.pending ∧ nxt.now = s.now ∧ nxt.serial = s.serial ∧ nxt.pins = s.pins ∧ nxt.md = s.md ∧
    nxt.host = s.host ∧ nxt.cmds = s.cmds ∧ nxt.clk = s.clk ∧ nxt.kennel = s.kennel ∧ nxt.time = s.time ∧
    nxt.slices = s.slices ∧ nxt.tab = s.tab ∧ nxt.gen = s.gen ∧ nxt.sch = s.sch ∧ nxt.tel = s.tel ∧
    nxt.pwr = s.pwr ∧ nxt.regs = s.regs ∧ nxt.flt.keel0 = s.flt.keel0 ∧ nxt.flt.keel1 = s.flt.keel1 := by
  unfold execBpmCommitDone at h; obtain rfl := Outcome.next.inj h; clear h; simp; done
end Sys2Proof.Machine
end

