-- ==== Sys2Proof/Laws/RunsRegs.lean ====
section
/-! SUPPORT. What each command of Machine/Regs.lean keeps: the parts of the state that its next state has as before. -/
set_option linter.unusedSimpArgs false
set_option linter.unusedVariables false
namespace Sys2Proof.Machine
open Host (Outcome)

theorem execRegisterWrite_keeps (p : HostPort) (offset : BitVec 26) (wide : Bool) (value : DWord) (s : State) {nxt : State} (h : execRegisterWrite p offset wide value s = .next nxt) :
    nxt.pending = s.pending ∧ nxt.now = s.now ∧ nxt.serial = s.serial ∧ nxt.pins = s.pins ∧ nxt.md = s.md ∧
    nxt.cmds = s.cmds ∧ nxt.kennel = s.kennel ∧ nxt.tab = s.tab ∧ nxt.gen = s.gen ∧ nxt.sch = s.sch ∧
    nxt.pwr = s.pwr ∧ nxt.flt.keel0 = s.flt.keel0 ∧ nxt.clk.pipeCur = s.clk.pipeCur := by
  unfold execRegisterWrite at h; obtain rfl := Outcome.next.inj h; clear h; simp; done
end Sys2Proof.Machine
end

