-- ==== Sys2Proof/Laws/RunsSpdm.lean ====
section
/-! SUPPORT. What each command of Machine/Spdm.lean keeps: the parts of the state that its next state has as before. -/
set_option linter.unusedSimpArgs false
set_option linter.unusedVariables false
namespace Sys2Proof.Machine
open Host (Outcome)

theorem execSpdmGetVersion_keeps (p : HostPort) (s : State) {nxt : State} (h : execSpdmGetVersion p s = .next nxt) :
    nxt.pending = s.pending ∧ nxt.now = s.now ∧ nxt.serial = s.serial ∧ nxt.out = s.out ∧ nxt.pins = s.pins ∧
    nxt.md = s.md ∧ nxt.cmds = s.cmds ∧ nxt.flt = s.flt ∧ nxt.clk = s.clk ∧ nxt.ref = s.ref ∧
    nxt.kennel = s.kennel ∧ nxt.time = s.time ∧ nxt.buf = s.buf ∧ nxt.port = s.port ∧ nxt.slices = s.slices ∧
    nxt.tab = s.tab ∧ nxt.gen = s.gen ∧ nxt.core = s.core ∧ nxt.sch = s.sch ∧ nxt.tel = s.tel ∧ nxt.pwr = s.pwr ∧
    nxt.regs = s.regs ∧ nxt.cnts = s.cnts := by
  unfold execSpdmGetVersion at h; obtain rfl := Outcome.next.inj h; clear h; simp; done

theorem execSpdmGetCapabilities_keeps (p : HostPort) (s : State) {nxt : State} (h : execSpdmGetCapabilities p s = .next nxt) :
    nxt.pending = s.pending ∧ nxt.now = s.now ∧ nxt.serial = s.serial ∧ nxt.out = s.out ∧ nxt.pins = s.pins ∧
    nxt.md = s.md ∧ nxt.cmds = s.cmds ∧ nxt.flt = s.flt ∧ nxt.clk = s.clk ∧ nxt.ref = s.ref ∧
    nxt.kennel = s.kennel ∧ nxt.time = s.time ∧ nxt.buf = s.buf ∧ nxt.port = s.port ∧ nxt.slices = s.slices ∧
    nxt.tab = s.tab ∧ nxt.gen = s.gen ∧ nxt.core = s.core ∧ nxt.sch = s.sch ∧ nxt.tel = s.tel ∧ nxt.pwr = s.pwr ∧
    nxt.regs = s.regs ∧ nxt.cnts = s.cnts := by
  unfold execSpdmGetCapabilities at h; obtain rfl := Outcome.next.inj h; clear h; simp; done

theorem execSpdmNegotiateAlgorithms_keeps (p : HostPort) (offered : Bool) (s : State) {nxt : State} (h : execSpdmNegotiateAlgorithms p offered s = .next nxt) :
    nxt.pending = s.pending ∧ nxt.now = s.now ∧ nxt.serial = s.serial ∧ nxt.out = s.out ∧ nxt.pins = s.pins ∧
    nxt.md = s.md ∧ nxt.cmds = s.cmds ∧ nxt.flt = s.flt ∧ nxt.clk = s.clk ∧ nxt.ref = s.ref ∧
    nxt.kennel = s.kennel ∧ nxt.time = s.time ∧ nxt.buf = s.buf ∧ nxt.port = s.port ∧ nxt.slices = s.slices ∧
    nxt.tab = s.tab ∧ nxt.gen = s.gen ∧ nxt.core = s.core ∧ nxt.sch = s.sch ∧ nxt.tel = s.tel ∧ nxt.pwr = s.pwr ∧
    nxt.regs = s.regs ∧ nxt.cnts = s.cnts := by
  unfold execSpdmNegotiateAlgorithms at h; obtain rfl := Outcome.next.inj h; clear h; simp; done

theorem execSpdmGetDigests_keeps (p : HostPort) (answers : Bool) (s : State) {nxt : State} (h : execSpdmGetDigests p answers s = .next nxt) :
    nxt.pending = s.pending ∧ nxt.now = s.now ∧ nxt.serial = s.serial ∧ nxt.out = s.out ∧ nxt.pins = s.pins ∧
    nxt.md = s.md ∧ nxt.cmds = s.cmds ∧ nxt.clk = s.clk ∧ nxt.kennel = s.kennel ∧ nxt.time = s.time ∧
    nxt.buf = s.buf ∧ nxt.port = s.port ∧ nxt.slices = s.slices ∧ nxt.tab = s.tab ∧ nxt.gen = s.gen ∧
    nxt.core = s.core ∧ nxt.sch = s.sch ∧ nxt.tel = s.tel ∧ nxt.pwr = s.pwr ∧ nxt.regs = s.regs ∧
    nxt.cnts = s.cnts ∧ nxt.flt.keel0 = s.flt.keel0 ∧ nxt.flt.keel1 = s.flt.keel1 := by
  unfold execSpdmGetDigests at h; obtain rfl := Outcome.next.inj h; clear h; refine ⟨?_, ?_, ?_, ?_, ?_, ?_, ?_, ?_, ?_, ?_, ?_, ?_, ?_, ?_, ?_, ?_, ?_, ?_, ?_, ?_, ?_, ?_, ?_⟩
  · unfold State.spdmRun; dsimp only [State.withElement, State.nonce]; (repeat' split) <;> first | rfl | (simp; done)
  · unfold State.spdmRun; dsimp only [State.withElement, State.nonce]; (repeat' split) <;> first | rfl | (simp; done)
  · unfold State.spdmRun; dsimp only [State.withElement, State.nonce]; (repeat' split) <;> first | rfl | (simp; done)
  · unfold State.spdmRun; dsimp only [State.withElement, State.nonce]; (repeat' split) <;> first | rfl | (simp; done)
  · unfold State.spdmRun; dsimp only [State.withElement, State.nonce]; (repeat' split) <;> first | rfl | (simp; done)
  · unfold State.spdmRun; dsimp only [State.withElement, State.nonce]; (repeat' split) <;> first | rfl | (simp; done)
  · unfold State.spdmRun; dsimp only [State.withElement, State.nonce]; (repeat' split) <;> first | rfl | (simp; done)
  · unfold State.spdmRun; dsimp only [State.withElement, State.nonce]; (repeat' split) <;> first | rfl | (simp; done)
  · unfold State.spdmRun; dsimp only [State.withElement, State.nonce]; (repeat' split) <;> first | rfl | (simp; done)
  · unfold State.spdmRun; dsimp only [State.withElement, State.nonce]; (repeat' split) <;> first | rfl | (simp; done)
  · unfold State.spdmRun; dsimp only [State.withElement, State.nonce]; (repeat' split) <;> first | rfl | (simp; done)
  · unfold State.spdmRun; dsimp only [State.withElement, State.nonce]; (repeat' split) <;> first | rfl | (simp; done)
  · unfold State.spdmRun; dsimp only [State.withElement, State.nonce]; (repeat' split) <;> first | rfl | (simp; done)
  · unfold State.spdmRun; dsimp only [State.withElement, State.nonce]; (repeat' split) <;> first | rfl | (simp; done)
  · unfold State.spdmRun; dsimp only [State.withElement, State.nonce]; (repeat' split) <;> first | rfl | (simp; done)
  · unfold State.spdmRun; dsimp only [State.withElement, State.nonce]; (repeat' split) <;> first | rfl | (simp; done)
  · unfold State.spdmRun; dsimp only [State.withElement, State.nonce]; (repeat' split) <;> first | rfl | (simp; done)
  · unfold State.spdmRun; dsimp only [State.withElement, State.nonce]; (repeat' split) <;> first | rfl | (simp; done)
  · unfold State.spdmRun; dsimp only [State.withElement, State.nonce]; (repeat' split) <;> first | rfl | (simp; done)
  · unfold State.spdmRun; dsimp only [State.withElement, State.nonce]; (repeat' split) <;> first | rfl | (simp; done)
  · unfold State.spdmRun; dsimp only [State.withElement, State.nonce]; (repeat' split) <;> first | rfl | (simp; done)
  · unfold State.spdmRun; dsimp only [State.withElement, State.nonce]; (repeat' split) <;> first | rfl | (simp; done)
  · unfold State.spdmRun; dsimp only [State.withElement, State.nonce]; (repeat' split) <;> first | rfl | (simp; done)

theorem execSpdmGetCertificate_keeps (p : HostPort) (slot : Fin 8) (offset length : BitVec 16) (answers : Bool) (s : State) {nxt : State} (h : execSpdmGetCertificate p slot offset length answers s = .next nxt) :
    nxt.pending = s.pending ∧ nxt.now = s.now ∧ nxt.serial = s.serial ∧ nxt.out = s.out ∧ nxt.pins = s.pins ∧
    nxt.md = s.md ∧ nxt.cmds = s.cmds ∧ nxt.clk = s.clk ∧ nxt.kennel = s.kennel ∧ nxt.time = s.time ∧
    nxt.buf = s.buf ∧ nxt.port = s.port ∧ nxt.slices = s.slices ∧ nxt.tab = s.tab ∧ nxt.gen = s.gen ∧
    nxt.core = s.core ∧ nxt.sch = s.sch ∧ nxt.tel = s.tel ∧ nxt.pwr = s.pwr ∧ nxt.regs = s.regs ∧
    nxt.cnts = s.cnts ∧ nxt.flt.keel0 = s.flt.keel0 ∧ nxt.flt.keel1 = s.flt.keel1 := by
  unfold execSpdmGetCertificate at h; obtain rfl := Outcome.next.inj h; clear h; refine ⟨?_, ?_, ?_, ?_, ?_, ?_, ?_, ?_, ?_, ?_, ?_, ?_, ?_, ?_, ?_, ?_, ?_, ?_, ?_, ?_, ?_, ?_, ?_⟩
  · unfold State.spdmRun; dsimp only [State.withElement, State.nonce]; (repeat' split) <;> first | rfl | (simp; done)
  · unfold State.spdmRun; dsimp only [State.withElement, State.nonce]; (repeat' split) <;> first | rfl | (simp; done)
  · unfold State.spdmRun; dsimp only [State.withElement, State.nonce]; (repeat' split) <;> first | rfl | (simp; done)
  · unfold State.spdmRun; dsimp only [State.withElement, State.nonce]; (repeat' split) <;> first | rfl | (simp; done)
  · unfold State.spdmRun; dsimp only [State.withElement, State.nonce]; (repeat' split) <;> first | rfl | (simp; done)
  · unfold State.spdmRun; dsimp only [State.withElement, State.nonce]; (repeat' split) <;> first | rfl | (simp; done)
  · unfold State.spdmRun; dsimp only [State.withElement, State.nonce]; (repeat' split) <;> first | rfl | (simp; done)
  · unfold State.spdmRun; dsimp only [State.withElement, State.nonce]; (repeat' split) <;> first | rfl | (simp; done)
  · unfold State.spdmRun; dsimp only [State.withElement, State.nonce]; (repeat' split) <;> first | rfl | (simp; done)
  · unfold State.spdmRun; dsimp only [State.withElement, State.nonce]; (repeat' split) <;> first | rfl | (simp; done)
  · unfold State.spdmRun; dsimp only [State.withElement, State.nonce]; (repeat' split) <;> first | rfl | (simp; done)
  · unfold State.spdmRun; dsimp only [State.withElement, State.nonce]; (repeat' split) <;> first | rfl | (simp; done)
  · unfold State.spdmRun; dsimp only [State.withElement, State.nonce]; (repeat' split) <;> first | rfl | (simp; done)
  · unfold State.spdmRun; dsimp only [State.withElement, State.nonce]; (repeat' split) <;> first | rfl | (simp; done)
  · unfold State.spdmRun; dsimp only [State.withElement, State.nonce]; (repeat' split) <;> first | rfl | (simp; done)
  · unfold State.spdmRun; dsimp only [State.withElement, State.nonce]; (repeat' split) <;> first | rfl | (simp; done)
  · unfold State.spdmRun; dsimp only [State.withElement, State.nonce]; (repeat' split) <;> first | rfl | (simp; done)
  · unfold State.spdmRun; dsimp only [State.withElement, State.nonce]; (repeat' split) <;> first | rfl | (simp; done)
  · unfold State.spdmRun; dsimp only [State.withElement, State.nonce]; (repeat' split) <;> first | rfl | (simp; done)
  · unfold State.spdmRun; dsimp only [State.withElement, State.nonce]; (repeat' split) <;> first | rfl | (simp; done)
  · unfold State.spdmRun; dsimp only [State.withElement, State.nonce]; (repeat' split) <;> first | rfl | (simp; done)
  · unfold State.spdmRun; dsimp only [State.withElement, State.nonce]; (repeat' split) <;> first | rfl | (simp; done)
  · unfold State.spdmRun; dsimp only [State.withElement, State.nonce]; (repeat' split) <;> first | rfl | (simp; done)

theorem execSpdmChallenge_keeps (p : HostPort) (slot : Fin 8) (nonce : List Byte) (answers : Bool) (s : State) {nxt : State} (h : execSpdmChallenge p slot nonce answers s = .next nxt) :
    nxt.pending = s.pending ∧ nxt.now = s.now ∧ nxt.out = s.out ∧ nxt.pins = s.pins ∧ nxt.md = s.md ∧
    nxt.cmds = s.cmds ∧ nxt.clk = s.clk ∧ nxt.kennel = s.kennel ∧ nxt.time = s.time ∧ nxt.buf = s.buf ∧
    nxt.port = s.port ∧ nxt.slices = s.slices ∧ nxt.tab = s.tab ∧ nxt.gen = s.gen ∧ nxt.core = s.core ∧
    nxt.sch = s.sch ∧ nxt.tel = s.tel ∧ nxt.pwr = s.pwr ∧ nxt.regs = s.regs ∧ nxt.cnts = s.cnts ∧
    nxt.flt.keel0 = s.flt.keel0 ∧ nxt.flt.keel1 = s.flt.keel1 := by
  unfold execSpdmChallenge at h; obtain rfl := Outcome.next.inj h; clear h; refine ⟨?_, ?_, ?_, ?_, ?_, ?_, ?_, ?_, ?_, ?_, ?_, ?_, ?_, ?_, ?_, ?_, ?_, ?_, ?_, ?_, ?_, ?_⟩
  · unfold State.spdmRun; dsimp only [State.withElement, State.nonce]; (repeat' split) <;> first | rfl | (simp; done)
  · unfold State.spdmRun; dsimp only [State.withElement, State.nonce]; (repeat' split) <;> first | rfl | (simp; done)
  · unfold State.spdmRun; dsimp only [State.withElement, State.nonce]; (repeat' split) <;> first | rfl | (simp; done)
  · unfold State.spdmRun; dsimp only [State.withElement, State.nonce]; (repeat' split) <;> first | rfl | (simp; done)
  · unfold State.spdmRun; dsimp only [State.withElement, State.nonce]; (repeat' split) <;> first | rfl | (simp; done)
  · unfold State.spdmRun; dsimp only [State.withElement, State.nonce]; (repeat' split) <;> first | rfl | (simp; done)
  · unfold State.spdmRun; dsimp only [State.withElement, State.nonce]; (repeat' split) <;> first | rfl | (simp; done)
  · unfold State.spdmRun; dsimp only [State.withElement, State.nonce]; (repeat' split) <;> first | rfl | (simp; done)
  · unfold State.spdmRun; dsimp only [State.withElement, State.nonce]; (repeat' split) <;> first | rfl | (simp; done)
  · unfold State.spdmRun; dsimp only [State.withElement, State.nonce]; (repeat' split) <;> first | rfl | (simp; done)
  · unfold State.spdmRun; dsimp only [State.withElement, State.nonce]; (repeat' split) <;> first | rfl | (simp; done)
  · unfold State.spdmRun; dsimp only [State.withElement, State.nonce]; (repeat' split) <;> first | rfl | (simp; done)
  · unfold State.spdmRun; dsimp only [State.withElement, State.nonce]; (repeat' split) <;> first | rfl | (simp; done)
  · unfold State.spdmRun; dsimp only [State.withElement, State.nonce]; (repeat' split) <;> first | rfl | (simp; done)
  · unfold State.spdmRun; dsimp only [State.withElement, State.nonce]; (repeat' split) <;> first | rfl | (simp; done)
  · unfold State.spdmRun; dsimp only [State.withElement, State.nonce]; (repeat' split) <;> first | rfl | (simp; done)
  · unfold State.spdmRun; dsimp only [State.withElement, State.nonce]; (repeat' split) <;> first | rfl | (simp; done)
  · unfold State.spdmRun; dsimp only [State.withElement, State.nonce]; (repeat' split) <;> first | rfl | (simp; done)
  · unfold State.spdmRun; dsimp only [State.withElement, State.nonce]; (repeat' split) <;> first | rfl | (simp; done)
  · unfold State.spdmRun; dsimp only [State.withElement, State.nonce]; (repeat' split) <;> first | rfl | (simp; done)
  · unfold State.spdmRun; dsimp only [State.withElement, State.nonce]; (repeat' split) <;> first | rfl | (simp; done)
  · unfold State.spdmRun; dsimp only [State.withElement, State.nonce]; (repeat' split) <;> first | rfl | (simp; done)

theorem execSpdmGetMeasurements_keeps (p : HostPort) (op : Byte) (sign : Bool) (nonce : List Byte) (answers : Bool) (s : State) {nxt : State} (h : execSpdmGetMeasurements p op sign nonce answers s = .next nxt) :
    nxt.pending = s.pending ∧ nxt.now = s.now ∧ nxt.out = s.out ∧ nxt.pins = s.pins ∧ nxt.md = s.md ∧
    nxt.cmds = s.cmds ∧ nxt.clk = s.clk ∧ nxt.kennel = s.kennel ∧ nxt.time = s.time ∧ nxt.buf = s.buf ∧
    nxt.port = s.port ∧ nxt.slices = s.slices ∧ nxt.tab = s.tab ∧ nxt.gen = s.gen ∧ nxt.core = s.core ∧
    nxt.sch = s.sch ∧ nxt.tel = s.tel ∧ nxt.pwr = s.pwr ∧ nxt.regs = s.regs ∧ nxt.cnts = s.cnts ∧
    nxt.flt.keel0 = s.flt.keel0 ∧ nxt.flt.keel1 = s.flt.keel1 := by
  unfold execSpdmGetMeasurements at h; obtain rfl := Outcome.next.inj h; clear h; refine ⟨?_, ?_, ?_, ?_, ?_, ?_, ?_, ?_, ?_, ?_, ?_, ?_, ?_, ?_, ?_, ?_, ?_, ?_, ?_, ?_, ?_, ?_⟩
  · unfold State.spdmRun; dsimp only [State.withElement, State.nonce]; (repeat' split) <;> first | rfl | (simp; done)
  · unfold State.spdmRun; dsimp only [State.withElement, State.nonce]; (repeat' split) <;> first | rfl | (simp; done)
  · unfold State.spdmRun; dsimp only [State.withElement, State.nonce]; (repeat' split) <;> first | rfl | (simp; done)
  · unfold State.spdmRun; dsimp only [State.withElement, State.nonce]; (repeat' split) <;> first | rfl | (simp; done)
  · unfold State.spdmRun; dsimp only [State.withElement, State.nonce]; (repeat' split) <;> first | rfl | (simp; done)
  · unfold State.spdmRun; dsimp only [State.withElement, State.nonce]; (repeat' split) <;> first | rfl | (simp; done)
  · unfold State.spdmRun; dsimp only [State.withElement, State.nonce]; (repeat' split) <;> first | rfl | (simp; done)
  · unfold State.spdmRun; dsimp only [State.withElement, State.nonce]; (repeat' split) <;> first | rfl | (simp; done)
  · unfold State.spdmRun; dsimp only [State.withElement, State.nonce]; (repeat' split) <;> first | rfl | (simp; done)
  · unfold State.spdmRun; dsimp only [State.withElement, State.nonce]; (repeat' split) <;> first | rfl | (simp; done)
  · unfold State.spdmRun; dsimp only [State.withElement, State.nonce]; (repeat' split) <;> first | rfl | (simp; done)
  · unfold State.spdmRun; dsimp only [State.withElement, State.nonce]; (repeat' split) <;> first | rfl | (simp; done)
  · unfold State.spdmRun; dsimp only [State.withElement, State.nonce]; (repeat' split) <;> first | rfl | (simp; done)
  · unfold State.spdmRun; dsimp only [State.withElement, State.nonce]; (repeat' split) <;> first | rfl | (simp; done)
  · unfold State.spdmRun; dsimp only [State.withElement, State.nonce]; (repeat' split) <;> first | rfl | (simp; done)
  · unfold State.spdmRun; dsimp only [State.withElement, State.nonce]; (repeat' split) <;> first | rfl | (simp; done)
  · unfold State.spdmRun; dsimp only [State.withElement, State.nonce]; (repeat' split) <;> first | rfl | (simp; done)
  · unfold State.spdmRun; dsimp only [State.withElement, State.nonce]; (repeat' split) <;> first | rfl | (simp; done)
  · unfold State.spdmRun; dsimp only [State.withElement, State.nonce]; (repeat' split) <;> first | rfl | (simp; done)
  · unfold State.spdmRun; dsimp only [State.withElement, State.nonce]; (repeat' split) <;> first | rfl | (simp; done)
  · unfold State.spdmRun; dsimp only [State.withElement, State.nonce]; (repeat' split) <;> first | rfl | (simp; done)
  · unfold State.spdmRun; dsimp only [State.withElement, State.nonce]; (repeat' split) <;> first | rfl | (simp; done)

theorem execDoeAbort_keeps (p : HostPort) (s : State) {nxt : State} (h : execDoeAbort p s = .next nxt) :
    nxt.pending = s.pending ∧ nxt.now = s.now ∧ nxt.serial = s.serial ∧ nxt.out = s.out ∧ nxt.pins = s.pins ∧
    nxt.md = s.md ∧ nxt.cmds = s.cmds ∧ nxt.flt = s.flt ∧ nxt.clk = s.clk ∧ nxt.ref = s.ref ∧
    nxt.kennel = s.kennel ∧ nxt.time = s.time ∧ nxt.buf = s.buf ∧ nxt.port = s.port ∧ nxt.slices = s.slices ∧
    nxt.tab = s.tab ∧ nxt.gen = s.gen ∧ nxt.core = s.core ∧ nxt.sch = s.sch ∧ nxt.tel = s.tel ∧ nxt.pwr = s.pwr ∧
    nxt.regs = s.regs ∧ nxt.cnts = s.cnts := by
  unfold execDoeAbort at h; obtain rfl := Outcome.next.inj h; clear h; simp; done
end Sys2Proof.Machine
end

