-- ==== Sys2Proof/Laws/State.lean ====
section
/-! SUPPORT. What the accessors of the state read after its updates, and what entry into SAFE leaves. -/
set_option linter.unusedSimpArgs false
set_option linter.unusedVariables false
namespace Sys2Proof.Machine
open Sys2Proof.Safety

theorem takesRw_active (s : State) (h : s.served = true) : s.takesRw s.active = true := by simp [State.takesRw, h]

theorem mode_of {s t : State} (h : t.flt.keel0.voted = s.flt.keel0.voted) : t.mode = s.mode := by simp [State.mode, h]
/-- link facts of a half -/
def linkOf (h : Half) := (h.linkUp, h.rate, h.width, h.bme, h.d3hot, h.perst, h.spdm, h.doe, h.busy, h.busyAt, h.lastCause, h.changes, h.beat, h.below, h.supervised)

theorem onHalf_link (f : Half → Half) (hf : ∀ h, linkOf (f h) = linkOf h) (p q : HostPort) (s : State) : linkOf ((s.onHalf p f).half q) = linkOf (s.half q) := by
  cases p <;> cases q <;> simp [State.onHalf, State.setHalf, State.half] <;> exact hf _

theorem hostWrite_link (p n a d q) (s : State) : linkOf ((s.hostWrite p n a d).half q) = linkOf (s.half q) := by
  unfold State.hostWrite; split
  · rfl
  · split
    · (first | (refine onHalf_link _ ?_ _ _ s; intro h; rfl) | (exact (onHalf_link _ (by intro h; rfl) _ _ s)))
    · rfl

theorem hostEntry_link (p n a d q) (s : State) : linkOf ((s.hostEntry p n a d).half q) = linkOf (s.half q) := by
  unfold State.hostEntry; dsimp only; split
  · exact hostWrite_link ..
  · rw [hostWrite_link, hostWrite_link]

theorem sendVec_link (p v q) (s : State) : linkOf ((s.sendVec p v).half q) = linkOf (s.half q) := by
  unfold State.sendVec; dsimp only; split
  · (first | (refine onHalf_link _ ?_ _ _ s; intro h; rfl) | (exact (onHalf_link _ (by intro h; rfl) _ _ s)))
  · (first | (refine onHalf_link _ ?_ _ _ s; intro h; rfl) | (exact (onHalf_link _ (by intro h; rfl) _ _ s)))

theorem notify_link (p r i q) (s : State) : linkOf ((s.notify p r i).half q) = linkOf (s.half q) := by
  unfold State.notify; split
  · dsimp only; split
    · rw [sendVec_link]; (first | (refine onHalf_link _ ?_ _ _ s; intro h; rfl) | (exact (onHalf_link _ (by intro h; rfl) _ _ s)))
    · (first | (refine onHalf_link _ ?_ _ _ s; intro h; rfl) | (exact (onHalf_link _ (by intro h; rfl) _ _ s)))
  · rfl

theorem setRing_link (p n r q) (s : State) : linkOf ((s.setRing p n r).half q) = linkOf (s.half q) := by refine onHalf_link _ ?_ _ _ s; intro h; rfl

theorem writeCpl_link (p n a e i q) (s : State) : linkOf ((s.writeCpl p n a e i).half q) = linkOf (s.half q) := by
  unfold State.writeCpl; dsimp only; rw [notify_link, hostWrite_link, setRing_link]

theorem dropCmd_link (c q) (s : State) : linkOf ((s.dropCmd c).half q) = linkOf (s.half q) := rfl

theorem restRing_link (p n q) (s : State) : linkOf ((s.restRing p n).half q) = linkOf (s.half q) := by
  unfold State.restRing; dsimp only; split
  · exact setRing_link ..
  · rfl

theorem copyCpl_link (p x q) (s : State) : linkOf ((s.copyCpl p x).half q) = linkOf (s.half q) := by
  unfold State.copyCpl; dsimp only
  repeat' split
  · rfl
  · rw [setRing_link, writeCpl_link]
  · (first | (refine onHalf_link _ ?_ _ _ s; intro h; rfl) | (exact (onHalf_link _ (by intro h; rfl) _ _ s)))
  · exact writeCpl_link ..
  · rfl

theorem flushLate_link (p q) (s : State) : linkOf ((s.flushLate p).half q) = linkOf (s.half q) := by
  unfold State.flushLate
  rw [foldl_keeps (fun t => linkOf (t.half q)) _ fun t a => copyCpl_link p a q t]
  (first | (refine onHalf_link _ ?_ _ _ s; intro h; rfl) | (exact (onHalf_link _ (by intro h; rfl) _ _ s)))

theorem complete_link (c st a b q) (s : State) : linkOf ((s.complete c st a b).half q) = linkOf (s.half q) := by
  unfold State.complete; dsimp only
  split
  · rw [restRing_link, dropCmd_link]
  · rw [flushLate_link, restRing_link]
    (repeat' split) <;> simp only [copyCpl_link, writeCpl_link, dropCmd_link]

theorem completeSer_link (k st a b q) (s : State) : linkOf ((s.completeSer k st a b).half q) = linkOf (s.half q) := by
  unfold State.completeSer; split
  · exact complete_link ..
  · rfl

theorem routeEvt_link (p e q) (s : State) : linkOf ((s.routeEvt p e).2.half q) = linkOf (s.half q) := by
  unfold State.routeEvt; split
  · (first | (refine onHalf_link _ ?_ _ _ s; intro h; rfl) | (exact (onHalf_link _ (by intro h; rfl) _ _ s)))
  · dsimp only; split
    · exact setRing_link ..
    · dsimp only; rw [notify_link, hostEntry_link, setRing_link]

theorem postEvt_link (e q) (s : State) : linkOf ((s.postEvt e).2.half q) = linkOf (s.half q) := by
  unfold State.postEvt; dsimp only; split
  · dsimp only; rw [routeEvt_link, routeEvt_link]
  · exact routeEvt_link ..

theorem post_link (a b c d e q) (s : State) : linkOf ((s.post a b c d e).half q) = linkOf (s.half q) := postEvt_link ..
/-- registers -/

theorem reg_setReg (o : Nat) (v : Word) (s : State) (h : Canonical s) : (s.setReg o v).reg o = v := by
  simp only [State.reg, State.setReg]; exact SMap.get_set_self h.1 _ _ _

theorem reg_setReg_ne (o p : Nat) (v : Word) (s : State) (h : p ≠ o) : (s.setReg o v).reg p = s.reg p := by
  simp only [State.reg, State.setReg]; exact SMap.get_set_ne' _ _ _ _ h

theorem rd_wr_self (o v : Nat) (s : State) (h : Canonical s) : (s.wr o v).rd o = v % 2 ^ 32 := by
  simp only [State.rd, State.wr, reg_setReg _ _ _ h]; simp

theorem rd_wr_ne (o p v : Nat) (s : State) (h : p ≠ o) : (s.wr o v).rd p = s.rd p := by
  simp only [State.rd, State.wr, reg_setReg_ne _ _ _ _ h]

theorem rd64_wr_ne (o p v : Nat) (s : State) (h : p ≠ o) (h2 : p + 4 ≠ o) : (s.wr o v).rd64 p = s.rd64 p := by
  simp only [State.rd64, rd_wr_ne _ _ _ _ h, rd_wr_ne _ _ _ _ h2]

theorem reg_of {s t : State} (h : t.regs = s.regs) (o : Nat) : t.reg o = s.reg o := by simp [State.reg, h]

theorem rd_of {s t : State} (h : t.regs = s.regs) (o : Nat) : t.rd o = s.rd o := by simp [State.rd, reg_of h]
/-- time engines -/

theorem te_setTe (e : Side) (x : Te) (s : State) : (s.setTe e x).te e = x := by cases e <;> rfl

theorem te_setTe_peer (e : Side) (x : Te) (s : State) : (s.setTe e x).te e.peer = s.te e.peer := by cases e <;> rfl

theorem te_setTe_peer' (e : Side) (x : Te) (s : State) : (s.setTe e.peer x).te e = s.te e := by cases e <;> rfl

theorem te_of {s t : State} (h : t.time = s.time) (e : Side) : t.te e = s.te e := by cases e <;> simp [State.te, h]

theorem activeTe_of {s t : State} (h : t.flt.keel1.voted = s.flt.keel1.voted) : t.activeTe = s.activeTe := by simp [State.activeTe, h]

theorem active_of {s t : State} (h : t.flt.keel1.voted = s.flt.keel1.voted) : t.active = s.active := by simp [State.active, h]

theorem peer_peer (e : Side) : e.peer.peer = e := by cases e <;> rfl

theorem side_ne (e : Side) : e.peer ≠ e := by cases e <;> decide

theorem b2n_bit (v : Nat) : bits v 0 0 = v % 2 := by simp [bits]
/-- keel -/

theorem keelChange_ok (i v : Nat) (s : State) (h : (s.keel i).stuck = false) : s.keelChange i v = (true, s.commit i v) := by
  simp [State.keelChange, h]

@[simp] theorem ofCode_code (m : Mode) : Mode.ofCode m.code = m := by cases m <;> rfl

theorem commit_mode (m : Mode) (s : State) : (s.commit 0 m.code).mode = m := by simp [State.mode, State.commit, State.setKeel, Keel.commit]
/-- the switch of engines -/

theorem rolesWithTe_bit (s : State) (e : Side) : bit (s.rolesWithTe e) 1 = (match e with | .a => false | .b => true) ∧ bit (s.rolesWithTe e) 0 = bit s.flt.keel1.voted 0
    ∧ bit (s.rolesWithTe e) 2 = bit s.flt.keel1.voted 2 := by
  unfold State.rolesWithTe setBits bit bits
  cases e <;> simp [Nat.testBit_eq_decide_div_mod_eq, sideNum, Nat.shiftRight_eq_div_pow] <;> omega
end Sys2Proof.Machine
namespace Sys2Proof.Machine
open Sys2Proof.Safety

theorem enterSafe_facts (c : Nat) (s : State) : (s.enterSafe c).mode = .safe ∧ (s.enterSafe c).md.bootResult = s.md.bootResult ∧ (s.enterSafe c).md.cause = c ∧ (s.enterSafe c).md.prev = s.mode := by
  have hq : ∀ u : State, u.stopReq.flt = u.flt ∧ u.stopReq.md.bootResult = u.md.bootResult ∧ u.stopReq.md.cause = u.md.cause ∧ u.stopReq.md.prev = u.md.prev := by
    intro u; unfold State.stopReq; repeat' split
    all_goals simp
  have hp : ∀ u : State, u.stopPower.stompAll.flt.keel0 = u.flt.keel0 ∧ u.stopPower.stompAll.md = u.md := by
    intro u; simp
  have he : (State.enterMode .safe c s.freeze).md.bootResult = s.freeze.md.bootResult ∧ (State.enterMode .safe c s.freeze).md.cause = c ∧ (State.enterMode .safe c s.freeze).md.prev = s.freeze.mode := ⟨rfl, rfl, rfl⟩
  unfold State.enterSafe
  dsimp only
  refine ⟨?_, ?_, ?_, ?_⟩
  · rw [State.mode, (hp _).1]; simp [hq]; rfl
  · rw [(hp _).2]; simp [hq]; rw [he.1, show s.freeze.md = s.md by simp]
  · rw [(hp _).2]; simp [hq]; exact he.2.1
  · rw [(hp _).2]; simp [hq]; rw [he.2.2]; exact mode_of (by simp)

theorem recordOne_ft (r : Rec) (s : State) (h : r.cls = .ft) (h2 : safeFrom s.mode = true) :
   (s.recordOne r).mode = .safe ∧ (s.recordOne r).md.bootResult = s.md.bootResult ∧ (s.recordOne r).md.cause = r.cause ∧ (s.recordOne r).md.prev = s.mode := by
  unfold State.recordOne
  simp only [h, if_true]
  have hm : ∀ (r' : Rec) (u : State), u.flt.keel0 = s.flt.keel0 → u.md = s.md → (State.fatal r' u).mode = .safe ∧ (State.fatal r' u).md.bootResult = s.md.bootResult ∧ (State.fatal r' u).md.cause = r'.cause ∧ (State.fatal r' u).md.prev = s.mode := by
    intro r' u hu hd
    have hmu : u.mode = s.mode := by simp [State.mode, hu]
    obtain ⟨a, b, c, d⟩ := enterSafe_facts r'.cause { u with flt.fatal := r'.number }
    have e : State.fatal r' u = ({ u with flt.fatal := r'.number } : State).enterSafe r'.cause := by
      unfold State.fatal; rw [hmu, h2, if_pos rfl]
    have b' : (({ u with flt.fatal := r'.number } : State).enterSafe r'.cause).md.bootResult = u.md.bootResult := b
    have d' : (({ u with flt.fatal := r'.number } : State).enterSafe r'.cause).md.prev = u.mode := d
    rw [e]
    exact ⟨a, by rw [b', hd], c, d'.trans hmu⟩
  have hn : ∀ r' : Rec, (State.postRec r' (State.logRec r' { s with flt.pend := s.flt.pend.filter fun x => x.src ≠ r.src })).flt.keel0 = s.flt.keel0 ∧ (State.postRec r' (State.logRec r' { s with flt.pend := s.flt.pend.filter fun x => x.src ≠ r.src })).md = s.md := by
    intro r'; simp
  have tk : ∀ (u : State), (u.takeFollow r.src).mode = u.mode ∧ (u.takeFollow r.src).md = u.md := by intro u; exact ⟨mode_of (by simp), by simp⟩
  rw [(tk _).1, (tk _).2]
  exact hm _ _ (hn _).1 (hn _).2

theorem fatalNow_facts (src code d : Nat) (s : State) (h1 : safeFrom s.mode = true) (h2 : s.pins.resetN = true) (h3 : s.flt.frozen = false) :
   (s.fatalNow src code d).mode = .safe ∧ (s.fatalNow src code d).md.bootResult = s.md.bootResult ∧ (s.fatalNow src code d).md.prev = s.mode := by
  unfold State.fatalNow
  rw [h1, if_pos rfl]
  dsimp only
  have hp : (({ s with flt.pend := s.flt.pend.filter fun x => x.src ≠ src } : State).raise src code .ft d).flt.pend = (s.flt.pend.filter fun x => x.src ≠ src) ++ [{ src := src, code := code, cls := .ft, injected := false, number := 0, time := s.devTime, seen := s.now, detail := d }] := by
    have hc : ((s.flt.pend.filter fun x => x.src ≠ src).any fun r => decide (r.src = src)) = false := by
      rw [← Bool.not_eq_true, List.any_eq_true]; rintro ⟨x, hx, hy⟩; have := (List.mem_filter.1 hx).2; simp at this hy; exact this hy
    unfold State.raise State.raiseX
    simp only [h2, h3, State.clsOf]
    cases hf : s.flt.firstValid <;> simp at hc ⊢ <;> first | exact fun x hx hy => hc x hx | skip
    all_goals rfl
  have hfind : ((({ s with flt.pend := s.flt.pend.filter fun x => x.src ≠ src } : State).raise src code .ft d).flt.pend.find? fun x => x.src = src) = some { src := src, code := code, cls := .ft, injected := false, number := 0, time := s.devTime, seen := s.now, detail := d } := by
    rw [hp, List.find?_append, List.find?_eq_none.2]
    · simp
    · intro x hx; have := (List.mem_filter.1 hx).2; simpa using this
  rw [hfind]
  dsimp only
  have hk : ((({ s with flt.pend := s.flt.pend.filter fun x => x.src ≠ src } : State).raise src code .ft d).mode) = s.mode := by simp [State.mode]
  obtain ⟨a, b, c, e⟩ := recordOne_ft { src := src, code := code, cls := .ft, injected := false, number := 0, time := s.devTime, seen := s.now, detail := d } (({ s with flt.pend := s.flt.pend.filter fun x => x.src ≠ src } : State).raise src code .ft d) rfl (by rw [hk]; exact h1)
  exact ⟨a, by rw [b]; simp, by rw [e, hk]⟩
end Sys2Proof.Machine

namespace Sys2Proof.Machine
open Sys2Proof.Safety

@[simp] theorem half_setHalf (p : HostPort) (h : Half) (s : State) : (s.setHalf p h).half p = h := by cases p <;> rfl

@[simp] theorem half_setHalf_peer (p : HostPort) (h : Half) (s : State) : (s.setHalf p h).half p.peer = s.half p.peer := by
  cases p <;> rfl

@[simp] theorem pt_setPt (p : Nat) (x : PortSt) (s : State) (hp : SMap.wf (fun _ => PortSt.zero) s.port.ports = true) :
    (s.setPt p x).pt p = x := SMap.get_set_self hp _ _ _

theorem keel_setKeel (i : Fin 5) (k : Keel) (s : State) : (s.setKeel i k).keel i = k := by
  fin_cases i <;> rfl

@[simp] theorem Memory_wf_set (m : SMap Word) (o : Nat) (v : Word) (h : m.wf regReset = true) :
    (m.set (regReset o) o v).wf regReset = true := SMap.wf_set h o v

theorem setReg_canonical (o : Nat) (v : Word) (s : State) (h : Canonical s) : Canonical (s.setReg o v) :=
  ⟨SMap.wf_set h.1 o v, h.2⟩

theorem count_canonical (o n : Nat) (s : State) (h : Canonical s) : Canonical (s.count o n) := ⟨h.1, SMap.wf_set h.2 o _⟩

theorem reset_canonical : Canonical State.reset := ⟨rfl, rfl⟩

end Sys2Proof.Machine
end

