-- ==== Sys2Proof/WellFormed.lean ====
section
/-! DEFINITION. Which commands are well formed: what the types of the operands leave out. The meanings are total, and give an
ill-formed command no effect of its own where its form is what is missing. -/
namespace Sys2Proof

/-- The upsets name logical tiles (R299) and handle words of 26 bits (R313). -/
def Upset.wf (u : Upset) : Bool :=
  (u.tiles.all fun e => decide (e.1 < 2097152)) && (u.recs.all fun e => decide (e.1 < 2 ^ 26))
    && u.lists.all fun h => decide (h < 2 ^ 26)

/-- The operands have the form that the command's rule gives them. -/
def Instr.wf : Instr → Bool
  | .resetNFall .. => true
  | .resetNRise .. => true
  | .pwrfailNFall .. => true
  | .pwrfailNRise => true
  | .hostSelNFall .. => true
  | .hostSelNRise => true
  | .perstFall .. => true
  | .perstRise .. => true
  | .pcieLinkDown .. => true
  -- the rate and width codes of HI_PORT_STAT (R70)
  | .pcieLinkUp _ rate width => [3, 4, 5, 6].contains rate && [1, 2, 4].contains width
  | .busMasterEnableFall .. => true
  | .busMasterEnableRise .. => true
  | .junctionComparatorTrip .. => true
  | .timeInEdge .. => true
  | .vholdCollapse => true
  -- a clock that R497 numbers
  | .clockJudgeWindow clock _ _ => decide (clock.val < 11) || decide (16 ≤ clock.val)
  | .bootClock => true
  | .oscillatorTrim .. => true
  | .trimSrcLost => true
  | .pipelineClockStep => true
  | .deviceResetHoldEnd => true
  | .bootSelftestDone .. => true
  | .fwFetchStart => true
  | .fwFetchDone .. => true
  | .fwVerifyDone .. => true
  | .fwFetchTimeout => true
  | .roleProofDone .. => true
  | .kennelReadbackDone .. => true
  | .bootChoiceTimer => true
  | .glModeReq .. => true
  | .glModeReqBoot .. => true
  | .glReset .. => true
  | .glFwLen .. => true
  | .hiIfrstStart .. => true
  | .hiIfrstDone .. => true
  | .hiHandover .. => true
  | .heartbeat .. => true
  | .heartbeatTimeout => true
  | .revertHoldExpiry => true
  | .hiRingEnable .. => true
  | .hiRingDisable .. => true
  | .ringWorkDrained .. => true
  | .hiRingStatClear .. => true
  | .prodDoorbell .. => true
  | .consDoorbell .. => true
  -- a command descriptor has 64 bytes (chapter 03)
  | .commandFetch _ _ desc => decide (desc.length = 64)
  | .dmaErrorCompletion .. => true
  | .vectorTimerExpiry .. => true
  | .nop .. => true
  | .fence .. => true
  | .notSupported .. => true
  | .epInsert .. => true
  | .epDelete .. => true
  | .epRead .. => true
  | .epSegRehash .. => true
  | .epSegRehashAbort .. => true
  | .epSegRehashResume .. => true
  | .epSegRehashRevert .. => true
  | .epSegSwap .. => true
  | .tableEngineStep .. => true
  | .directWrite .. => true
  | .directRead .. => true
  | .lpmAdd .. => true
  | .lpmDelete .. => true
  | .lpmRead .. => true
  | .aclWrite .. => true
  | .aclWriteMove .. => true
  | .aclWriteMaskOnly .. => true
  | .aclInvalidate .. => true
  | .aclRead .. => true
  | .aclProbe .. => true
  | .treeLoad .. => true
  | .treeLoadDone .. => true
  | .csLoad .. => true
  | .csLoadProvision .. => true
  | .csLoadDone .. => true
  | .genSwap .. => true
  | .genSwapInstant => true
  | .genDrained => true
  | .l2Write .. => true
  | .l2Delete .. => true
  | .l2Flush .. => true
  | .l2Read .. => true
  | .ecmpGroupWrite .. => true
  | .ecmpMemberWrite .. => true
  | .calLoad .. => true
  | .calSwap .. => true
  | .calSwapInstant .. => true
  | .fretBoundary .. => true
  | .policerWrite .. => true
  | .policerRead .. => true
  | .shaperWrite .. => true
  | .shaperRead .. => true
  | .queueCfg .. => true
  | .ctrSnapshot .. => true
  | .ctrSnapshotCancel .. => true
  | .ctrSnapshotUnfreeze .. => true
  | .snapshotInstant => true
  | .ctrRead .. => true
  | .pwrStateParkSlice .. => true
  | .pwrStateParkLanes .. => true
  | .pwrStateUnpark .. => true
  | .unparkRampEnd => true
  | .phaseHint .. => true
  | .phaseHintCancelAll .. => true
  | .hintStart => true
  | .hintEnd .. => true
  | .capSet .. => true
  | .bpmAlloc .. => true
  | .bpmFree .. => true
  | .bpmFreeAllHost .. => true
  | .modeRequest .. => true
  | .modeRequestReset .. => true
  | .drainIngressStopped => true
  | .drainBufferEmpty => true
  | .drainFlushTimeout .. => true
  | .pipelinesGated => true
  | .saveWriteEnd => true
  | .faultInject .. => true
  | .faultInjectCancel .. => true
  | .spdmGetVersion .. => true
  | .spdmGetCapabilities .. => true
  | .spdmNegotiateAlgorithms .. => true
  | .spdmGetDigests .. => true
  | .spdmGetCertificate .. => true
  -- a nonce has 32 bytes
  | .spdmChallenge _ _ nonce _ => decide (nonce.length = 32)
  -- a nonce has 32 bytes
  | .spdmGetMeasurements _ _ _ nonce _ => decide (nonce.length = 32)
  | .doeAbort .. => true
  | .ptModeWrite .. => true
  | .adminUpSet .. => true
  | .adminUpClear .. => true
  | .retrain .. => true
  -- a tester reaches near-end loopback alone (R585)
  | .loopbackSelect by' _ loopback _ => decide (by' ≠ .tester) || decide (loopback.val < 2)
  | .ptTestWrite .. => true
  | .hpLaneTxeqWrite .. => true
  | .detectSignal .. => true
  | .anComplete .. => true
  | .lxTrainingFrame .. => true
  | .trainingComplete .. => true
  -- a port has at most 8 lanes
  | .alignComplete _ _ _ _ _ margins => decide (margins.length ≤ 8)
  | .portStateLimit .. => true
  | .laneLoss .. => true
  -- 16 counts by symbol errors (R167), and at most 8 lanes
  | .fecWindow _ _ _ _ hist margins => decide (hist.length = 16) && decide (margins.length ≤ 8)
  | .d2dWireError .. => true
  | .preemptVerify .. => true
  | .frameReceive .. => true
  -- the header that makes it a MAC control frame
  | .macControlFrame _ bytes _ => decide (14 ≤ bytes.length)
  | .pauseExpiry .. => true
  | .frameAdmission .. => true
  | .headDispatch .. => true
  | .parseStop .. => true
  | .extentChoice .. => true
  -- rows of 32 banks of 2,048
  | .lookupComplete _ _ rows _ => rows.all fun r => decide (r.lookup ≤ 8) && decide (r.row < 65536)
  | .learnRecord .. => true
  -- tiles and handles that exist
  | .enqueue _ _ _ ups _ => ups.wf
  | .captureResume .. => true
  | .pfcRefresh .. => true
  | .frerResetTimer .. => true
  | .schedulerChoice .. => true
  -- tiles and handles that exist
  | .frameEgress _ ups _ _ => ups.wf
  | .recircTimeout .. => true
  | .tc7Stale .. => true
  | .shaperTokenUpdate => true
  | .policerBucketFill => true
  | .histogramSample => true
  -- a transmit descriptor has 32 bytes (chapter 03)
  | .transmitDescriptor desc _ _ => decide (desc.length = 32)
  -- a receive descriptor has 32 bytes (chapter 03), tiles and handles that exist
  | .cpuQueueService desc ups _ => decide (desc.length = 32) && ups.wf
  | .canaryTest .. => true
  | .canaryTestEnd .. => true
  | .csScrub .. => true
  | .csEccRepair .. => true
  | .treeScrub .. => true
  | .treeEccRepair .. => true
  -- rows of 32 banks of 2,048
  | .tcamShadowScrub _ rows => rows.all fun r => decide (r.1 < 65536)
  -- a row of one of 32 banks of 2,048
  | .tcamRowSpare _ loc => decide (loc < 65536)
  | .epScrub .. => true
  | .l2AgeTick .. => true
  | .flapHoldExpiry .. => true
  | .l2MoveSecond => true
  | .bpmCommit .. => true
  | .bpmCommitDone => true
  -- tiles and handles that exist
  | .sheepdogSweep ups => ups.wf
  | .sheepdogSweepEnd => true
  | .timeSetGo .. => true
  | .timeAdjGo .. => true
  | .slewEnd => true
  | .timeFreqWrite .. => true
  | .teTrack .. => true
  | .teCounterFault .. => true
  | .teRevert => true
  | .timeOutEnable .. => true
  | .pulseEdge .. => true
  | .calBaseSecWrite .. => true
  | .calBaseNsWrite .. => true
  | .ptCalCfgWrite .. => true
  | .calFrerCtlWrite .. => true
  | .powerLoopTick .. => true
  | .throttleOff => true
  | .capUnmet => true
  | .capMet => true
  -- each entry answers once
  | .pmbusCalibration answers _ => decide ((answers.map fun a => a.1.val).Nodup)
  | .calResume .. => true
  | .temperatureRead .. => true
  | .thermalLimitTick => true
  | .vholdReading .. => true
  | .pwrSaveDiscard .. => true
  | .clkPipeWrite .. => true
  | .faultReport .. => true
  | .faultRecord => true
  -- only the two SECDED-guarded parts can be corrected
  | .collectorFault part corrected => !corrected || decide (3 ≤ part.val)
  | .fltFirstClear .. => true
  | .fltLostClear .. => true
  | .clrCounts .. => true
  -- each copy reads one value
  | .keelVote _ upsets => decide ((upsets.map fun u => u.1.val).Nodup)
  | .collieHeartbeat .. => true
  | .collieHeartbeatTimeout .. => true
  | .collieRestored .. => true
  | .collieKatCheck .. => true
  | .collieMemorySweep .. => true
  | .mirrorTransfer .. => true
  | .mirrorOkLapse => true
  | .collieRevert => true
  | .refRoleCmd .. => true
  | .refFwuCtl .. => true
  | .fwuVerifyDone .. => true
  | .fwuReloadDone .. => true
  | .refHostPrefWrite .. => true
  | .healthPeriodic => true
  | .wearWritePeriod => true
  | .wearWriteEnd .. => true
  | .pmcSampleTimeout .. => true
  | .perfUserEnWrite .. => true
  | .tblEpProfWrite .. => true
  -- an aligned access of four or eight bytes (R74)
  | .registerWrite _ offset wide value => if wide then decide (offset.toNat % 8 = 0) else decide (offset.toNat % 4 = 0) && decide (value.toNat < 2 ^ 32)
  | .lossOfPower => true
  | .calendarBasePassed => true
  | .prbsLock .. => true
  | .rsFault .. => true
  | .d3hot .. => true
  | .tapInstruction .. => true

end Sys2Proof
end

