-- ==== Sys2Proof/Tests/Slice0.lean ====
section
/-! SUPPORT. The model's own tests: a small live device, for each statement a state and operands that meet the hypotheses
of its clauses, single steps whose results the spec gives, and ill-formed commands that the check refuses. -/
namespace Sys2Proof.Tests
open Sys2Proof Sys2Proof.Machine Sys2Proof.Safety
set_option Elab.async false

/-- A device in a mode, RESET_N high, both host links up. -/
def live (m : Mode) : State :=
  { State.reset with
    pins.resetN := true, flt.keel0 := Keel.of m.code, host.ha.linkUp := true, host.ha.bme := true,
    host.ha.perst := false, host.hb.linkUp := true, host.hb.bme := true, host.hb.perst := false }

/-- A device in a mode, Collie A the active one. -/
def acting (m : Mode) : State := { live m with ref.a.state := .active }

/-- A little-endian number put into a byte list. -/
def put (b : List Byte) (f : Nat × Nat × Nat) : List Byte :=
  b.take f.1 ++ toLE f.2.1 f.2.2 ++ b.drop (f.1 + f.2.1)

/-- A descriptor with an opcode and arguments, each an offset, a size and a value. -/
def desc (op : Nat) (fs : List (Nat × Nat × Nat)) : List Byte := fs.foldl put (put (List.replicate 64 0) (0, 1, op))

/-- A fetched command of ring 0 of port HA. -/
def cmd (op : Nat) (fs : List (Nat × Nat × Nat)) : Cmd :=
  { port := .ha, ring := 0, pos := 0, bytes := desc op fs, serial := 0, waiting := false, mute := false,
    fetched := 0 }

/-- The state with the command fetched. -/
def fetched (c : Cmd) (s : State) : State := { s with cmds := [c] }

/-- The next state, the state itself where there is none. -/
def after (s : State) (i : Instr) : State :=
  match Machine.exec i s with
  | .next t => t
  | _ => s

/-- A frame's descriptor at port 0, class queue 0. -/
def frame : Desc :=
  { h := 0, owner := 1, port := 0, tc := 0, chan := none, inPort := none, sl := 0, via := none, tc7 := false, gen := 0, inGen := false,
    ts := 0, pass := 0, colour := 0, yelDei := false, ecn := false, marked := false, flags := 0, hdrs := [], len := 64, endsAt := 0, tileAt := 0,
    late := .none, cutThrough := false, outLen := 64, enqAt := 0, qdepth := 0, grow := 0, ovf := false, classId := 0,
    matchId := 0, cpuQ := 0, reason := 0, shared := none, copy := false, second := false, plain := true, inject := false, rtag := none,
    pop := false, cookie := none, cut := none, unjudged := false }

/-- A packet of slice 0. -/
def packet : Pkt :=
  { id := 0, slice := 0, via := 0, inPort := some 0, inject := false, pass := 0, tc7 := false, gen := 0, inGen := false,
    ts := 0, bytes := List.replicate 64 0, headAt := 0, extAt := 0, endsAt := 0, tileAt := 0, late := .none, owner := 1,
    h := none, stage := .waiting, budget := 64, reparses := 0, key := [], hdrs := [], flags := 0, waited := false, fate := Fate.zero, cookie := none,
    marked := false }

/-! ## Host ports and rings -/

def ringA : Ring := { Ring.zero with base := 4096, cbase := 8192, en := true }

def ringed : State := (live .forward).setRing .ha 0 ringA

theorem test_step_takes_front : (fun (s : State) (t : State) => t.pins.pwrfailN = true ∧ s.pins.pwrfailN = false)
    { live .forward with pins.pwrfailN := false, pending := [.pwrfailNRise] }
    (after { live .forward with pins.pwrfailN := false } .pwrfailNRise) := by decide

theorem test_empty_queue : (live .boot).pending = [] ∧
    (let s : State := { live .boot with time.a.run := true }
     (s.te .a).run = true ∧ (s.te .a).acc = 0 ∧ s.time.slewLeft = 0 ∧ s.rd 0x60014 = 0 ∧ (s.te .b).run = false) := by decide

theorem test_completion : (let s := fetched (cmd 1 []) ringed
    (cmd 1 []).mute = false ∧ s.canWrite .ha = true ∧ (s.ring .ha 0).base ≠ 0 ∧ (s.ring .ha 0).irqEn = false ∧
    (mirroredOp (cmd 1 []).opcode = false) ∧ (s.half .ha).late = []) := by decide

theorem test_nop_runs : runs (fetched (cmd 1 []) ringed) .ha 0 1 [] (cmd 1 []) = true ∧
    (after (fetched (cmd 1 []) ringed) (.nop .ha 0)).out =
      [.dma .ha 8192 (([0, 0, 0, 0, 1, 0, 1, 0] : List Byte) ++ List.replicate 7 0 ++ [0x80])] := by decide

theorem test_fence_runs : (let s := fetched (cmd 0x7F []) ringed
    runs s .ha 0 0x7F [] (cmd 0x7F []) = true ∧ s.flt.pend = [] ∧ (∀ d ∈ s.cmds, d.port = .ha → 0 ≤ d.serial)) ∧
    (let s := fetched (cmd 0x77 []) ringed
     s.headCmd .ha 0 = some (cmd 0x77 []) ∧ s.startable (cmd 0x77 []) = true ∧ (cmd 0x77 []).opcode ∉ opcodes) := by decide

/-- Both ports have had a heartbeat at 0 and are supervised. -/
def beaten : State := { live .forward with host.ha.beat := some 0, host.hb.beat := some 0, host.ha.supervised := true }

theorem test_triggers : beaten.hostAlive = true ∧ beaten.flt.keel1.stuck = false ∧ (beaten.half .hb).linkUp = true ∧
    beaten.active = .ha ∧ (beaten.half .ha).linkUp = true ∧ beaten.eligible .hb = true ∧ beaten.hiWriteOk .ha .ha = true ∧
    bit 0x51200001 0 = true ∧ bits 0x51200001 31 16 = 0x5120 := by decide

theorem test_heartbeat_trigger :
    (let s : State := { beaten with now := 100100000, host.hb.beat := some 100000000 }
     s.hostAlive = true ∧ (s.half s.active).supervised = true ∧ s.ageExceeds s.active = true ∧ s.host.heldBeat = false ∧
     s.eligible s.active.peer = true) := by decide

theorem test_heartbeat_limit : ({ beaten with now := 100000000 } : State).ageExceeds .ha = false ∧
    (after { beaten with now := 100100000, host.hb.beat := some 100000000 } .heartbeatTimeout).active = .hb := by decide

theorem test_revert :
    (let s : State := { beaten with now := 10000000000, flt.keel2 := Keel.of 1, host.hb.below := some 0,
                                    host.hb.beat := some 9999999999 }
     s.hostAlive = true ∧ s.preferred = s.active.peer ∧ s.ageBelow s.preferred = true ∧
     (s.half s.preferred).below = some 0 ∧ bits (s.rd (hiReg s.preferred 0xC)) 19 0 * 1000000 ≤ s.now - 0 ∧
     s.pins.hostSelN = true ∧ s.flt.keel1.stuck = false) := by decide

theorem test_failed_triggers :
    (let s : State := { beaten with host.hb.linkUp := false, now := 100100000 }
     s.hostAlive = true ∧ (s.half s.active.peer).linkUp = false ∧ (s.half s.active).linkUp = true ∧
     s.eligible s.active.peer = false ∧ (s.half s.active).supervised = true ∧ s.ageExceeds s.active = true ∧
     s.host.heldBeat = false) ∧ (HostPort.ha ≠ HostPort.hb) := by decide

theorem test_link_up :
    (let s : State := { live .boot with clk.judge := [(9, { Judge.zero with stable := true })], host.ha.linkUp := false }
     (6 ∈ [3, 4, 5, 6]) ∧ (4 ∈ [1, 2, 4]) ∧ 6 ≤ s.rateCap .ha ∧ (s.half .ha).perst = false ∧ s.hostAlive = true ∧
     (s.clk.judge.get Judge.zero (hostPll .ha)).stable = true ∧ ((after s (.pcieLinkUp .ha 6 4)).half .ha).rate = 6) := by decide

theorem test_boot_choice :
    (let s : State := { live .boot with host.ha.linkUp := false, now := 100000000 }
     s.hostAlive = true ∧ s.host.bootChosen = false ∧ s.md.bootAt + 100000000 ≤ s.now ∧ s.active = s.preferred ∧
     (s.half s.active).linkUp = false ∧ (s.half s.active.peer).linkUp = true ∧ s.flt.keel1.stuck = false) ∧
    (live .boot).hostAlive = true ∧ (live .boot).mode ≠ .save ∧ ((live .boot).half .hb).linkUp = true := by decide

theorem test_ring_enable :
    (let s := (live .configure).setRing .ha 255 { ringA with en := false }
     s.hiWriteOk .ha .ha = true ∧ (s.ring .ha 255).en = false ∧ (s.ring .ha 255).active = false ∧ s.served = true ∧
     ringId 255 = true ∧ ringOk 255 (s.ring .ha 255) = true) ∧
    (let s := (live .safe).setRing .ha 79 { ringA with en := false, typ := 11 }
     s.hiWriteOk .ha .ha = true ∧ s.mode = .safe ∧ ringId 79 = true ∧ ringOk 79 (s.ring .ha 79) = false) := by decide

theorem test_ring_work_drained :
    (let s := (live .forward).setRing .ha 0 { ringA with en := false, active := true }
     (s.ring .ha 0).en = false ∧ (s.ring .ha 0).active = true ∧ (∀ c ∈ s.cmds, ¬(c.port = .ha ∧ c.ring = 0)) ∧
     ∀ x ∈ (s.half .ha).held, x.ring ≠ 0) := by decide

theorem test_doorbells : ringed.mode ≠ .save ∧ (ringed.ring ringed.active 0).en = true ∧
    (ringed.ring .ha 0).inRange 63 = true ∧ (ringed.ring .ha 0).dist 0 63 ≤ 64 ∧ (ringed.ring .ha 0).inRange 64 = false ∧
    (ringed.ring .ha 0).inRange 0 = true ∧ (ringed.ring .ha 0).dist 0 0 ≤ 64 ∧ (ringed.ring .ha 79).en = false ∧
    ((after ringed (.prodDoorbell .ha 0 63)).ring .ha 0).prod = 63 ∧
    ((after ringed (.prodDoorbell .ha 0 64)).ring .ha 0).dbErr = true := by decide

theorem test_dma_error :
    (let s := (live .forward).setRing .ha 5 { ringA with en := false, active := true }
     (s.ring .ha 5).en = true ∨ (s.ring .ha 5).active = true) ∧
    ((after ((live .forward).setRing .ha 5 { ringA with en := false, active := true })
      (.dmaErrorCompletion .ha 5)).ring .ha 5).dmaErr = true := by decide

theorem test_fetch :
    (let s := ringed.setRing .ha 0 { ringA with prod := 1 }
     (s.ring s.active 0).en = true ∧ s.canWrite s.active = true ∧ s.served = true ∧
     (s.ring s.active 0).prod ≠ (s.ring s.active 0).ptr ∧ (s.ring s.active 0).noSlot = false ∧ (desc 1 []).length = 64) := by
  decide

theorem test_vector :
    (let s : State := { ringed with now := 10000, regs := [(hiReg .ha 0x800, 0x00010001)],
                                    host.ha.vec := [(0, { Vec.zero with count := 1 })], host.ha.msix := [(3, 0)] }
     0 < ((s.half .ha).vec.get Vec.zero 0).count ∧ ((s.half .ha).vec.get Vec.zero 0).pend = false ∧
     bits (s.rd (hiReg .ha 0x800)) 27 16 ≠ 0 ∧
     bits (s.rd (hiReg .ha 0x800)) 27 16 * 1000 ≤ s.now - ((s.half .ha).vec.get Vec.zero 0).since ∧
     s.canWrite .ha = true ∧ s.vecMasked .ha 0 = false) := by decide

/-! ## Modes, boot and resets -/

/-- A device with a request in progress. -/
def asking (m g : Mode) : State :=
  { live m with md.req := some { cmd := none, target := g, flushAt := some 0, linkDown := false } }

/-- Generation A is valid and the buffer fits. -/
def loaded (m : Mode) : State :=
  { live m with gen.cs0 := { CsBank.zero with valid := true }, gen.tree0 := { TreeBank.zero with valid := true } }

theorem test_forward_may : (loaded .configure).mayForward = true := by decide

theorem test_mode_request :
    (let c := cmd 0x70 [(8, 1, 3)]
     let s := fetched c (loaded .configure)
     runs s .ha 0 0x70 [named 8 1 0xF, whole 9 1, whole 12 4] c = true ∧ c.argBits 8 1 3 0 = 3 ∧ c.arg 9 1 = 0 ∧
     c.arg 12 4 = 0 ∧ s.md.req = none ∧ s.flt.keel0.stuck = false ∧ s.mode = .configure ∧ s.mayForward = true ∧
     (after s (.modeRequest .ha 0)).mode = .forward) ∧
    (let c := cmd 0x70 [(8, 1, 4)]
     let s := fetched c (live .forward)
     runs s .ha 0 0x70 [named 8 1 0xF, whole 9 1, whole 12 4] c = true ∧ c.argBits 8 1 3 0 = 4 ∧ s.md.req = none ∧
     s.mode = .forward) ∧
    (let c := cmd 0x70 []
     runs (fetched c (live .park)) .ha 0 0x70 [named 8 1 0xF, whole 9 1, whole 12 4] c = true ∧ c.argBits 8 1 3 0 = 0) := by
  decide

theorem test_requests_end :
    (asking .forward .drain).mode = .forward ∧ (asking .forward .drain).flt.keel0.stuck = false ∧
    (asking .configure .park).mode = .configure ∧ (asking .drain .park).mode = .drain ∧
    (asking .drain .park).bufEmpty = true ∧ 0 ≤ (asking .drain .park).now ∧
    ({ asking .drain .park with buf.ext := [(0, { Ext.none with owner := 1 })] } : State).bufEmpty = false := by decide

theorem test_request_ends_in_target : (after (asking .forward .drain) .drainIngressStopped).mode = .drain ∧
    (after (asking .configure .park) .pipelinesGated).mode = .park ∧
    (after (asking .drain .park) .drainBufferEmpty).mode = .park := by decide

theorem test_gl_mode_req :
    (let s := loaded .configure
     bits 3 3 0 = 3 ∧ s.mode = .configure ∧ s.md.reqResult ≠ 1 ∧ s.ringsRun s.active = false ∧ s.md.req = none ∧
     s.mayForward = true ∧ s.flt.keel0.stuck = false ∧ (after s (.glModeReq .ha 3)).mode = .forward) := by decide

theorem test_resets : (live .forward).pins.resetN = true ∧ (live .safe).hostAlive = true ∧ (live .safe).mode ≠ .save ∧
    bit 0x51200001 0 = true ∧ bits 0x51200001 31 16 = 0x5120 ∧ (live .park).pins.pwrfailN = true ∧
    (live .park).served = true ∧ (live .safe).mode = .safe ∧ (live .safe).pwr.save = none ∧
    (after (live .forward) (.resetNFall 1000 false)).mode = .reset ∧
    (after (live .park) (.pwrfailNFall 1000 false 3000)).mode = .save := by decide

theorem test_save_end :
    (let s : State := { live .save with pwr.save := some { area := 1, since := 0, bytes := [] } }
     (s.pwr.save.map fun v => v.area) = some 1) ∧
    (let s : State := { live .save with pwr.save := some { area := 0, since := 0, bytes := [] } }
     (s.pwr.save.map fun v => v.area) = some 0) := by decide

theorem test_boot_entry : State.reset.pins.resetN = false ∧
    (let s : State := { live .reset with md.resetAt := some 0, now := 1000000 }
     s.pins.resetN = true ∧ s.mode = .reset ∧ s.md.resetAt = some 0 ∧ 0 + 1000000 ≤ s.now ∧
     (after s .deviceResetHoldEnd).mode = .boot) ∧
    (after State.reset (.resetNRise true 0)).active = .hb := by decide

/-- In BOOT in a phase, with the fetch asked for. -/
def booting (p : Phase) : State :=
  { live .boot with md.phase := p, md.fwAsked := true, ref.a.state := .loading, ref.b.state := .loading,
                    regs := [(0x20, 0x1000000), (0x28, 0x180000)] }

theorem test_boot_phases : (booting .selftest).mode = .boot ∧ (booting .selftest).md.phase = .selftest ∧
    (booting .waitFw).canWrite (booting .waitFw).active = true ∧
    imageOk ((booting .waitFw).rd64 0x20) ((booting .waitFw).rd 0x28) = true ∧
    imageOk (({ booting .waitFw with regs := [] } : State).rd64 0x20) 0 = false ∧
    (booting .roleProof).ref.a.state = .loading ∧ (booting .roleProof).ref.b.state = .loading ∧
    ({ booting .fwVerify with now := 10000000 } : State).md.fwWriteAt + 10000000 ≤ 10000000 ∧
    (after (booting .waitFw) .fwFetchStart).md.phase = .fwFetch ∧
    (after (booting .fwFetch) (.fwFetchDone false)).md.bootResult = 4 := by decide

/-- The digest of the empty message begins with 38B0 60A7 (FIPS 180-4's published value). -/
theorem test_image_digest : (sha384 []).take 4 = [0x38, 0xB0, 0x60, 0xA7] := by decide +kernel

theorem test_resume : (let s : State := { live .reset with md.hostLive := true }
    s.mode = .reset ∧ s.md.hostLive = true ∧ bits 1 3 0 = 1 ∧ (after s (.glModeReqBoot .ha 1)).md.phase = .waitFw) ∧
    ({ booting .waitFw with md.fwAsked := false } : State).fwWrites .ha = true := by decide

theorem test_interface_reset : (live .forward).hiWriteOk .hb .hb = true ∧ bit 1 0 = true ∧
    ((live .forward).half .ha).perst = false ∧ ((after (live .forward) (.hiIfrstStart .hb .hb 1)).half .hb).busy = true ∧
    (after (live .forward) (.tapInstruction false 5)).pins.tap = 5 ∧
    (after (live .forward) (.tapInstruction false 6)).pins.tap = 0xFF := by decide

theorem test_ramp : (let s : State := { live .forward with
      now := 1000000000, pwr.ramps := [{ cmd := some 0, isSlice := true, unit := 0, lanes := 0, since := 0 }] }
    s.rampNs ≤ s.now - 0 ∧ s.pwr.ramps.length = 1) := by decide

/-! ## Time, calendars, buffer, clocks -/

/-- A live device with PT_MODE of port 0 set: one lane, enabled. -/
def ported (m : Mode) : State := { live m with regs := [(ptReg 0 0, 0x50)] }

/-- A calendar entry's bytes: a duration of 1,000 ns. -/
def fret1000 : List Byte := toLE 4 1000 ++ List.replicate 4 0

theorem test_port_active : (ported .forward).inactive 0 = false := by decide

theorem test_cal_load :
    (let c := cmd 0x48 [(8, 2, 0), (10, 2, 1), (12, 4, 0), (16, 4, 1000), (24, 8, 4096)]
     let s := fetched c (ported .forward)
     runs s .ha 0 0x48 [named 8 2 0x1FF, whole 10 2, named 12 4 0x3FFFFFFF, named 16 4 0x3FFFFFFF, whole 20 4,
       whole 24 8] c = true ∧ s.inactive (c.arg 8 2) = false ∧ c.arg 10 2 = 1 ∧ c.arg 16 4 = 1000 ∧ c.arg 24 8 % 64 = 0 ∧
     (∀ i < c.arg 10 2, fretReservedOk fret1000 i = true ∧ 20 ≤ (readFret fret1000 i).dur ∧
       (readFret fret1000 i).dur ≤ 1000000000) ∧
     (((List.range (c.arg 10 2)).map (readFret fret1000)).map Fret.dur).sum = c.arg 16 4 ∧ c.arg 12 4 < c.arg 16 4 ∧
     (s.cal (c.arg 8 2)).pending = false) := by decide

/-- Port 0 with bank 1 loaded, and bank 0 in force where `act`. -/
def calendared (act : Option Nat) : State :=
  let b : Bank := { frets := [{ dur := 1000, gates := 255, hold := false }], cycle := 1000, capo := 0, tag := 7 }
  { ported .forward with time.cal := [(0, { Cal.zero with b0 := b, b1 := b, act := act, en := true })] }

theorem test_cal_swap :
    (let c := cmd 0x49 []
     let s := fetched c (calendared none)
     runs s .ha 0 0x49 [named 8 2 0x1FF, whole 10 1, named 11 1 1] c = true ∧ c.arg 10 1 = 0 ∧ c.arg 11 1 = 0 ∧
     s.inactive (c.arg 8 2) = false ∧ (s.cal (c.arg 8 2)).ready = true ∧ s.swapPorts 0 (c.arg 8 2) = [c.arg 8 2] ∧
     s.swapPending 0 (c.arg 8 2) = false) ∧
    (let s : State := { ported .forward with time.cal := [(511, { Cal.zero with swapAt := some 0 })] }
     (s.cal 511).swapAt = some 0 ∧ 0 ≤ s.devTime) := by decide

theorem test_fret_in_force : ((calendared (some 0)).cal 0).en = true ∧
    (((calendared (some 0)).cal 0).fretNow (calendared (some 0)).devNs).isSome = true ∧
    (calendared (some 0)).calBase ≤ (calendared (some 0)).devNs ∧ (calendared (some 0)).served = true ∧
    ((calendared (some 0)).cal 0).act ≠ none ∧ ((calendared none).cal 0).act = none := by decide

theorem test_calendar_base : (999999999#32).toNat < 1000000000 ∧ 2 ≤ bits 0x20 9 4 ∧ bits 0x200 9 4 ≤ 32 ∧
    (let s : State := { live .forward with now := 100000000, regs := [(0x504000, 2)],
                                           time.frer := [(0, { Frer.zero with takeAny := false, lastPass := some 0 })] }
     (s.frer 0).lastPass = some 0 ∧ bits (s.rd (0x504000 + 16 * 0)) 1 0 = 2 ∧ (s.frer 0).takeAny = false ∧
     bits (s.rd (0x504004 + 16 * 0)) 15 0 * 1000000 ≤ s.now - 0) ∧
    (let s : State := { live .forward with regs := [(ptReg 0 0x1C0, 1)],
                                           port.ports := [(0, { PortSt.zero with state := .up })] }
     bit (s.rd (ptReg 0 0x1C0)) 0 = true ∧ bit (s.rd (ptReg 0 0x1C0)) 1 = false ∧ (s.pt 0).state = .up) ∧
    (let s : State := { live .forward with now := 128000000, regs := [(ptReg 0 0x1C0, 1)], time.verify := [(0, 2)],
                                           port.ports := [(0, { PortSt.zero with state := .up })] }
     (3 : Fin 5) ≠ 2 ∧ (4 : Fin 5) ≠ 2 ∧ s.time.verify.get 0 0 = 2 ∧
     (if bits (s.rd (ptReg 0 0x1C0)) 18 12 = 0 then 128 else bits (s.rd (ptReg 0 0x1C0)) 18 12) * 1000000
       ≤ s.now - s.time.verifyAt.get 0 0) := by decide

theorem test_time_set : Canonical (live .forward) ∧ (live .forward).served = true ∧ bit 1 0 = true ∧ bit 1 1 = false ∧
    bit 2 0 = false ∧ bit 2 1 = true ∧ bit 6 1 = true ∧ bit 6 2 = true ∧ bit 2 2 = false ∧
    (live .forward).time.busy = false ∧ (live .forward).rd 0x60028 < 1000000000 ∧
    (signed 64 ((live .forward).rd64 0x60018)).natAbs ≤ 2 * 1000000000 * 65536 ∧
    (signed 32 2048000000).natAbs ≤ 2048000000 ∧ 2048000000 < (signed 32 2048000001).natAbs := by
  refine ⟨⟨?_, ?_⟩, ?_⟩ <;> decide

/-- Both engines run, TE-A the active one. -/
def running : State := { live .forward with time.a.run := true, time.b.run := true, now := 1000000, time.b.okSince := some 0,
                                            clk.judge := [0, 1, 7, 8].map fun i => (i, { Judge.zero with stable := true }) }

theorem test_time_engines : (running.te running.activeTe.peer).run = true ∧ (running.te running.activeTe).parity = true ∧
    (running.te running.activeTe.peer).parity = true ∧ running.flt.keel1.stuck = false ∧
    (running.setTe running.activeTe { running.te running.activeTe with parity := false, okSince := none }).teElig
      running.activeTe.peer = true ∧
    running.teClock running.activeTe.peer = true ∧ (running.te running.activeTe.peer).behind = false ∧
    ((teMove (running.te .b).t 3 : Int) - (running.te .a).t).natAbs ≤ 65536000 ∧
    65536000 < ((teMove (running.te .b).t 65536001 : Int) - (running.te .a).t).natAbs := by decide

theorem test_te_revert :
    (let s : State := { running with flt.keel1 := Keel.of 2, time.a.okSince := some 0, now := 10001000000 }
     s.activeTe = .b ∧ s.teElig .a = true ∧ s.time.a.okSince = some 0 ∧ 0 + 10001000000 ≤ s.now ∧
     s.flt.keel1.stuck = false) := by decide

theorem test_pulse_out :
    (let s : State := { live .forward with regs := [(outReg 0 8, 0), (outReg 0 0xC, 1000), (outReg 0 0x10, 100)] }
     s.served = true ∧ bit 1 0 = true ∧ (s.timeOut 0).en = false ∧
     pulseOk (s.rd (outReg 0 8)) (s.rd (outReg 0 0xC)) (s.rd (outReg 0 0x10)) = true ∧ s.rd (outReg 0 0xC) ≠ 0) ∧
    (let s : State := { live .forward with time.outs := [(7, { TimeOut.zero with en := true, fall := some 0 })] }
     (s.timeOut 7).en = true ∧ (s.timeOut 7).fall = some 0 ∧ 0 ≤ s.devTime) ∧
    (let s : State := { live .forward with time.outs := [(0, { TimeOut.zero with en := true, next := some 0 })] }
     (s.timeOut 0).en = true ∧ (s.timeOut 0).fall = none ∧ (s.timeOut 0).next = some 0) := by decide

theorem test_time_in :
    (let s : State := { live .forward with regs := [(0x60210, 3)], now := 1000,
                                           time.ins := [(0, { TimeIn.zero with lastAt := some 0 })] }
     bit (s.timeInCtl 0) 0 = true ∧ bit (s.timeInCtl 0) 1 = true ∧ (s.timeIn 0).lastAt = some 0 ∧ 1000 ≤ s.now - 0) := by
  decide

/-! ## Buffer, clocks, direct and ECMP tables -/

/-- A live device whose pools hold 2 extents of each size. -/
def pooled (m : Mode) : State := { live m with buf.cnt0 := 2, buf.cnt1 := 2, buf.cnt2 := 2, buf.cnt3 := 2, regs := [(0x80010, 0)] }

/-- An extent of the host. -/
def hostExt : Ext := { Ext.none with owner := 0x3FF, refs := 1 }

theorem test_bpm_alloc :
    (let c := cmd 0x68 [(8, 1, 0), (10, 2, 1), (16, 8, 4096)]
     let s := fetched c (pooled .forward)
     runs s .ha 0 0x68 [named 8 1 3, named 9 1 3, whole 10 2, whole 16 8] c = true ∧ c.arg 10 2 = 1 ∧ c.arg 8 1 ≤ 3 ∧
     c.arg 16 8 % 8 = 0 ∧ bit (c.arg 9 1) 1 = false ∧ s.buf.hostCnt < 4096 ∧ s.poolServes (c.arg 8 1) false = true ∧
     (([] : List Draw).getD 0 Draw.zero).lost = [] ∧
     s.buf.hand (c.arg 8 1) (([] : List Draw).getD 0 Draw.zero).pos = some 0 ∧ hPool 0 = c.arg 8 1) := by decide

/-- A host's release of extent 1, which it owns. -/
def freeing : State := { fetched (cmd 0x69 [(10, 2, 1), (16, 8, 4096)]) (pooled .forward) with buf.ext := [(1, hostExt)] }

theorem test_bpm_free_runs :
    runs freeing .ha 0 0x69 [named 8 1 1, whole 10 2, whole 16 8] (cmd 0x69 [(10, 2, 1), (16, 8, 4096)]) = true := by decide

theorem test_bpm_free_extent : (([1#32] : List Word).foldl (fun t h => t.readRecord h.toNat) freeing).buf.check 1 0x3FF = none := by decide

theorem test_bpm_free_list : ([1#32] : List Word).Nodup := by decide

theorem test_bpm_free_all :
    (let c := cmd 0x69 [(8, 1, 1)]
     runs (fetched c (pooled .drain)) .ha 0 0x69 [named 8 1 1] c = true ∧ bit (c.arg 8 1) 0 = true) := by decide

theorem test_bpm_alloc_space :
    (((pooled .forward).buf.used + poolSize 0 : Nat) : Int) ≤ (pooled .forward).sharedSpace := by decide +kernel

theorem test_free_extent : (pooled .forward).buf.withdrawn.get 0 1 = 0 ∧
    (∀ e ∈ (pooled .forward).buf.retire, e.1 ∉ tilesOf 1) := by decide

theorem test_bpm_commit :
    (let s := { live .configure with regs := [(0x80000, 1), (0x80004, 0), (0x80008, 0), (0x8000C, 0)] }
     s.served = true ∧ bit 1 0 = true ∧ s.buf.busy = false ∧ s.buf.hostCnt = 0 ∧ s.mode = .configure ∧
     (let b := s.buf.withCounts [s.wantCnt 0, s.wantCnt 1, s.wantCnt 2, s.wantCnt 3]
      b.pooled ≤ ({ b with withdrawn := b.layWithdrawn }).live)) ∧
    (live .drain).bufEmpty = true := by decide +kernel

theorem test_sweep_starts :
    (let s : State := { live .forward with regs := [(0x80060, 1)] }
     s.mode = .forward ∧ bits s.sheepCfg 1 0 = 1 ∧ s.sweepDue = true ∧ (s.upset Upset.none).buf.running = false ∧
     s.buf.onList = [] ∧ s.buf.offList = [] ∧ (after s (.sheepdogSweep Upset.none)).buf.running = true) ∧
    (let s : State := { live .park with buf.running := true }
     s.sweepDue = true ∧ (s.upset Upset.none).buf.running = true) := by decide

theorem test_sweep_ends :
    (let s : State := { live .park with buf.running := true, buf.ext := [(1, hostExt)] }
     let s0 := s.buf.ext.foldl (fun t e => t.readRecord e.1) s
     s.buf.running = true ∧ s.mode = .park ∧ bits s.sheepCfg 1 0 ≠ 0 ∧
     (∀ e ∈ s0.buf.ext, s0.buf.isLeak e.1 { e.2 with mark := e.2.mark % 2 * 2 + b2n (s0.namedExts.contains e.1) } = false) ∧
     (after s .sheepdogSweepEnd).buf.running = false) ∧
    (let s : State := { live .forward with buf.running := true, regs := [(0x80060, 0)] }
     s.buf.running = true ∧ bits s.sheepCfg 1 0 = 0) ∧
    bits ({ live .park with regs := [(0x80060, 2)] } : State).sheepCfg 1 0 = 2 ∧
    bits ({ live .park with regs := [(0x80060, 1)] } : State).sheepCfg 1 0 = 1 := by decide

theorem test_judges : (Nat.repeat (Judge.step true) 64 Judge.zero).stable = true ∧
    (Nat.repeat (Judge.step true) 63 Judge.zero).stable = false ∧
    ({ Judge.zero with stable := true } : Judge).fail = 0 := by decide +kernel

theorem test_clock_window :
    (let s := live .forward
     s.clocksRun = true ∧ s.clk.judge.wf (fun _ => Judge.zero) = true ∧ (s.nominal2 16).isSome = true ∧
     ((s.judge 16).step (windowPasses 3125 1)).stable = (s.judge 16).stable) ∧
    (let s : State := { live .forward with clk.judge := [(31, { stable := true, pass := 0, fail := 3 })] }
     s.clocksRun = true ∧ windowPasses 1062500 0 = false ∧ (s.judge 31).stable = true ∧ 3 ≤ (s.judge 31).fail) := by decide

/-- The window of a 156.25 MHz reference passes at 1,562 and 1,563 cycles, and fails 2 cycles farther off. -/
theorem test_window_limits : windowPasses 3125 1562 = true ∧ windowPasses 3125 1563 = true ∧
    windowPasses 3125 1560 = false ∧ windowPasses 3125 1565 = false := by decide

theorem test_clock_phase :
    (let s : State := { live .boot with clk.trimLocked := true, now := 20000000 }
     s.clocksMissing = 0 :: s.clocksMissing.tail ∧ s.mode = .boot ∧ s.md.phase = .clocks ∧
     s.md.bootAt + 20000000 ≤ s.now ∧ s.pins.resetN = true ∧ s.flt.frozen = false) := by decide

theorem test_trim :
    (let s : State := { live .forward with clk.ref0Present := true, clk.judge := [(0, { Judge.zero with stable := true })] }
     s.mode ≠ .boot ∧ s.clocksRun = true ∧ s.trimUsable = true) ∧
    (let s : State := { live .forward with now := 10000000 }
     s.clocksRun = true ∧ s.clk.trimLost = false ∧ s.clk.trimGood + 10000000 ≤ s.now ∧ s.md.bootAt + 10000000 ≤ s.now) ∧
    8 ≤ bits 8 4 0 ∧ bits 16 4 0 ≤ 16 := by decide

theorem test_direct :
    (let c := cmd 0x18 [(8, 2, 65535), (12, 5, 5)]
     runs (fetched c (live .forward)) .ha 0 0x18 [whole 8 2, named 10 1 1, named 12 5 0xFFFFFFFFF] c = true ∧
     bit (c.arg 10 1) 0 = false ∧ resultOk (c.arg 12 5) = true ∧ resKind (c.arg 12 5) ≠ 2) ∧
    (let c := cmd 0x18 [(10, 1, 1)]
     let s := fetched c (live .forward)
     runs s .ha 0 0x18 [whole 8 2, named 10 1 1] c = true ∧ bit (c.arg 10 1) 0 = true ∧
     s.tab.direct.wf (fun _ => 0) = true) ∧
    (let c := cmd 0x19 [(8, 2, 7)]
     let s : State := { fetched c (live .safe) with tab.direct := [(7, 5)] }
     runs s .ha 0 0x19 [whole 8 2] c = true ∧ s.flt.inj = []) := by decide

theorem test_ecmp :
    (let c := cmd 0x40 [(8, 2, 0x8001), (12, 4, 262143), (16, 2, 1), (19, 1, 1)]
     runs (fetched c (live .forward)) .ha 0 0x40
       [whole 8 2, named 10 2 0xFFF, named 12 4 0x3FFFF, whole 16 2, named 18 1 3, named 19 1 1] c = true ∧
     c.arg 16 2 = 1 ∧ c.arg 12 4 + c.arg 16 2 ≤ 262144) ∧
    (let c := cmd 0x41 [(8, 2, 1), (12, 4, 262143), (16, 2, 1), (24, 8, 4)]
     runs (fetched c (live .forward)) .ha 0 0x41 [whole 8 2, whole 12 4, whole 16 2, whole 24 8] c = true ∧
     c.arg 24 8 % 4 = 0 ∧ memberOk (0#32).toNat = true) := by decide

/-! ## Egress, endpoint table, faults, generations -/

/-- An extent in service for owner 1. -/
def ownExt : Ext := { Ext.none with owner := 1, refs := 1 }

/-- A frame in transmission at port 0. -/
def sending : State :=
  { live .forward with
    buf.cnt0 := 2, buf.ext := [(0, ownExt)],
    core.tx := [(0, { d := frame, at' := 0, charged := 64, member := 0, shapers := [], used := 0,
                      throttle := false })] }

theorem test_egress : (sending.core.tx.find? (fun e => e.1 = 0)).map Prod.fst = some 0 ∧ sending.bufLive = true ∧
    frame.tileAt ≤ sending.now ∧
    (let s1 := ({ sending.upset Upset.none with core.tx := (sending.upset Upset.none).core.tx.erase 0 } : State).settleRefunds
     s1.buf.check frame.h frame.owner = none ∧ (s1.readTiles frame.h frame.owner (s1.dataOf frame.h).length).1 = none) ∧
    frame.late = .none ∧ frame.plain = true ∧ frame.ecn = false ∧ frame.yelDei = false ∧ frame.rtag = none ∧
    frame.pop = false := by decide

theorem test_cpu_queue :
    (let s := ({ live .forward with buf.cnt0 := 2, buf.ext := [(0, ownExt)], core.queues := [(cpuKey 63, [frame])] }).setRing
       .ha 191 { ringA with prod := 1 }
     let s1 := (s.upset Upset.none).bringCopies Draw.zero
     let t := ({ s1.setQueue (cpuKey 63) [] with sch.cpuTurn := 63 } : State)
     s.bufLive = true ∧ s1.nextCpu = some 63 ∧ s1.queue (cpuKey 63) = [frame] ∧
     t.buf.check frame.h frame.owner = none ∧ (t.ring t.active (128 + 63)).en = true ∧
     (t.ring t.active (128 + 63)).ptr ≠ (t.ring t.active (128 + 63)).prod ∧ t.canWrite t.active = true ∧
     (t.readTiles frame.h frame.owner (t.dataOf frame.h).length).1 = none ∧ (t.ring t.active (128 + 62)).en = false) := by
  decide

/-- Transmit ring 0 has a descriptor, and the 1-tile pool an extent. -/
def txReady : State :=
  ({ live .forward with buf.cnt0 := 2, buf.cnt1 := 2, buf.cnt2 := 2, buf.cnt3 := 2, regs := [(0x80010, 0), (ptReg 0 0, 0x50)] }).setRing
    .ha 192 { ringA with prod := 1 }

theorem test_transmit : txReady.nextTx = some 0 ∧ txReady.canWrite txReady.active = true ∧ txReady.mode = .forward ∧
    txReady.inactive 0 = false ∧ (txReady.slice 0).parked = false ∧ txLenOk false 64 = true ∧ txLenOk true 60 = true ∧
    txLenOk false 63 = false ∧ txLenOk false 10176 = true ∧ txLenOk false 10177 = false := by decide

theorem test_transmit_extent :
    (txReady.take (some 64) false none (classKey 0 0) (tag 1 0) Draw.zero (List.replicate 64 0)).1 = .got 0 ∧
    (txReady.take (some 64) (txReady.preClass 0 (List.replicate 64 0))
      (some (txReady.pgOf 0 (pcpOf (List.replicate 64 0)))) (classKey 0 0) (tag 1 0) Draw.zero (List.replicate 64 0)).1 =
        .got 0 := by decide +kernel

/-- Profile 0 serves keys of 4 bytes. -/
def profiled : State := { live .forward with regs := [(0xB0180, 4 * 64), (0xB01C0, 8192)] }

theorem test_profile : profOk (4 * 64) 8192 = true ∧ bit (0x13FF : Nat) 13 = false ∧ profOk (26 * 64) 8192 = false ∧
    (live .configure).mode = .configure := by decide

theorem test_ep_insert :
    (let c := cmd 0x10 [(8, 1, 0), (12, 5, 5), (24, 4, 77)]
     let s := fetched c profiled
     runs s .ha 0 0x10 [named 8 1 0xF, named 9 1 1, named 12 5 0xFFFFFFFFF, whole 24 25] c = true ∧ s.tab.job = .idle ∧
     s.tab.mig = none ∧ s.flt.inj = [] ∧ s.keyBad c = false ∧ resultOk (c.arg 12 5) = true ∧
     s.epFind (s.keyEntry c (c.arg 12 5)) = none ∧
     (s.roomFor (s.keyEntry c (c.arg 12 5)) (s.space (s.keyEntry c (c.arg 12 5)).seg)).isSome = true) := by
  decide +kernel

/-- The key of the last test is held, with REPLACE asked for. -/
def held (op : Nat) (fs : List (Nat × Nat × Nat)) : Cmd × State :=
  let c := cmd op ([(8, 1, 0), (24, 4, 77)] ++ fs)
  let s := fetched c profiled
  match s.roomFor (s.keyEntry c 5) (s.space (s.keyEntry c 5).seg) with
  | some l => (c, s.epPut l (s.keyEntry c 5))
  | none => (c, s)

theorem test_ep_held :
    (let x := held 0x10 [(9, 1, 1), (12, 5, 5)]
     runs x.2 .ha 0 0x10 [named 8 1 0xF, named 9 1 1, named 12 5 0xFFFFFFFFF, whole 24 25] x.1 = true ∧
     (x.2.epFind (x.2.keyEntry x.1 5)).isSome = true ∧ bit (x.1.arg 9 1) 0 = true ∧ x.2.keyBad x.1 = false) ∧
    (let x := held 0x11 []
     runs x.2 .ha 0 0x11 [named 8 1 0xF, whole 24 25] x.1 = true ∧ (x.2.epFind (x.2.keyEntry x.1 0)).isSome = true ∧
     x.2.tab.stash = []) ∧
    (let x := held 0x12 [(16, 8, 64)]
     runs x.2 .ha 0 0x12 [whole 9 1, whole 16 8, named 8 1 0xF, whole 24 25] x.1 = true ∧ x.1.arg 9 1 = 0 ∧
     x.1.arg 16 8 % 64 = 0 ∧ (x.2.epFind (x.2.keyEntry x.1 0)).isSome = true) := by decide +kernel

theorem test_ep_scrub : locOk (2 ^ 31 + 1023) = true ∧ locOk 0 = true ∧ locOk (2 ^ 31 + 1024) = false ∧
    inStash ≤ wordLoc (2 ^ 31 + 1023) ∧
    (({ live .forward with tab.stash := [(1023, { ktype := 0, double := false, key := [], result := 0 })] } : State).epAt
      (wordLoc (2 ^ 31 + 1023))).isSome = true := by decide

/-- A migration of segment 15. -/
def migrating (cmd : Option Nat) (fin : Bool) : State :=
  { live .forward with
    tab.spare := none,
    tab.mig := some { seg := 15, shadow := 16, seed0 := 1, seed1 := 2, cursor := 0, finished := fin, cmd := cmd,
                      back := false, stashed := 0, lostEnts := 0, served := false } }

theorem test_rehash :
    (let c := cmd 0x13 [(8, 1, 15)]
     let s : State := { fetched c (live .forward) with tab.spare := some 16 }
     runs s .ha 0 0x13 [whole 8 1, named 9 1 7, whole 12 4, whole 16 4] c = true ∧ c.arg 9 1 = 0 ∧ c.arg 8 1 ≤ 15 ∧
     s.tab.mig = none ∧ s.tab.spare = some 16) ∧
    (let c := cmd 0x13 [(8, 1, 15), (9, 1, 1)]
     runs (fetched c (migrating (some 1) false)) .ha 0 0x13 [whole 8 1, named 9 1 7] c = true ∧ c.arg 9 1 = 1) ∧
    (let c := cmd 0x13 [(8, 1, 15), (9, 1, 2)]
     runs (fetched c (migrating none false)) .ha 0 0x13 [whole 8 1, named 9 1 7] c = true ∧ c.arg 9 1 = 2) ∧
    (let c := cmd 0x13 [(8, 1, 15), (9, 1, 4)]
     runs (fetched c (migrating none false)) .ha 0 0x13 [whole 8 1, named 9 1 7] c = true ∧ c.arg 9 1 = 4) ∧
    (let c := cmd 0x14 [(8, 1, 15)]
     let s := fetched c (migrating none true)
     runs s .ha 0 0x14 [whole 8 1] c = true ∧ s.tab.isFailed (s.segPhys (c.arg 8 1)) = false ∧ s.regs.wf regReset = true ∧
     s.tab.segmap.wf (fun _ => 0) = true) ∧
    (let s : State := { fetched (cmd 0x14 [(8, 1, 15)]) (migrating none true) with tab.failed := [15 * 16] }
     s.tab.isFailed (s.segPhys 15) = true) := by decide

/-- A pending report of a class. -/
def reported (k : Cls) : State :=
  { live .forward with flt.pend := [{ src := 0x200, code := 4, cls := k, injected := false, number := 0, time := 0, seen := 0, detail := 0 }] }

theorem test_reports : (codeClass 0x200 4).isSome = true ∧ (reported .ce).flt.frozen = false ∧
    (nextReport (reported .ce).flt.pend).map Rec.cls = some .ce ∧ (nextReport (reported .ft).flt.pend).map Rec.cls = some .ft ∧
    safeFrom (reported .ft).mode = true ∧ (reported .ft).pins.resetN = true ∧ (reported .ft).served = true ∧ bit 1 0 = true ∧
    (after (reported .ft) .faultRecord).mode = .safe ∧ (after (reported .ce) .faultRecord).mode = .forward := by decide

theorem test_no_such_report : codeClass 0xC00 0xFF = none ∧ (reported .ce).flt.follow = [] ∧ (live .forward).flt.pend = [] ∧
    safeFrom (live .safe).mode = false ∧ safeFrom (live .forward).mode = true ∧ (live .safe).flt.inj = [] ∧
    ((after (live .forward) (.junctionComparatorTrip 7)).flt.hist.map Rec.code) = [6] := by decide

theorem test_raise_with_reset_high : (live .forward).pins.resetN = true := by decide

theorem test_inject :
    (let c := cmd 0x78 [(8, 2, 0x901), (10, 1, 0), (12, 4, 7), (16, 2, 256)]
     let s := fetched c (live .forward)
     runs s .ha 0 0x78 [whole 8 56] c = true ∧ bit (c.arg 18 1) 1 = false ∧ c.reservedOk injectFields = true ∧
     s.injectIndex (c.arg 8 2) (c.arg 10 1) (c.arg 12 4) = some true ∧ c.arg 16 2 = 256 ∧
     s.injectFatal (c.arg 8 2) (c.arg 10 1) (bit (c.arg 11 1) 0) = false ∧ bit (c.arg 11 1) 0 = false ∧
     s.flt.freeSlot = some 0) ∧
    (let c := cmd 0x78 [(8, 2, 0x901), (18, 1, 2)]
     let s : State := { fetched c (live .forward) with
       flt.inj := [{ slot := 0, source := 0x901, checker := 0, double := false, index := 7, left := 1 }] }
     runs s .ha 0 0x78 [whole 8 56] c = true ∧ bit (c.arg 18 1) 1 = true ∧
     c.reservedOk [named 8 2 0xFFF, whole 10 1, named 18 1 3] = true ∧
     (s.injectIndex (c.arg 8 2) (c.arg 10 1) 0).isSome = true ∧
     (s.flt.inj.filter (fun j => !(j.source = c.arg 8 2 ∧ j.checker = c.arg 10 1))).length < s.flt.inj.length) := by decide

theorem test_keel_vote :
    (let s := live .forward
     s.flt.inj = [] ∧ (s.keel 0).bad = none ∧ (s.keel 0).c0 = { val := 3, ok := true } ∧
     (s.keel 0).c1 = { val := 3, ok := true } ∧ (s.keel 0).c2 = { val := 3, ok := true } ∧
     ((after s (.keelVote 0 [(2, 5, true)])).keel 0).c2.val = 3 ∧
     ((after s (.keelVote 0 [(0, 1, true), (1, 2, true), (2, 5, true)])).keel 0).stuck = true) := by decide

/-- The header of a vendor image of one HALT word. -/
def vendorImage : List Byte :=
  put (put (put (put (put (List.replicate 256 0) (0, 4, 0x5120C500)) (4, 1, 1)) (8, 4, 0x01000000)) (12, 1, 1)) (16, 4, 1)

/-- The image with its tables of zeros. -/
def vendorFull : List Byte := vendorImage ++ (List.replicate 0x2F00 0 ++ toLE 16 haltWord)

theorem test_image_ok : csImageOk false vendorFull = true := by decide +kernel

theorem test_image_header : csHeaderOk false (put (vendorFull.take 256) (13, 1, 1)) = false := by decide +kernel

theorem test_cs_load :
    (let c := cmd 0x31 [(8, 8, 4096), (16, 4, 0x4000)]
     let s := fetched c (live .configure)
     runs s .ha 0 0x31 [whole 8 8, whole 16 4, named 20 1 1, whole 21 1, named 22 1 1] c = true ∧
     s.genBusy (c.arg 20 1 % 2) = false ∧ (s.csBank (c.arg 20 1 % 2)).load = none ∧ c.arg 8 8 % 4096 = 0 ∧
     c.arg 16 4 % 4096 = 0 ∧ c.arg 16 4 ≤ 0x37000 ∧ c.arg 21 1 ≤ 1 ∧
     byteAt (imageOf (c.arg 16 4) vendorFull) 5 = c.arg 21 1 ∧
     csWordsAt (decide (c.arg 21 1 = 1)) + 16 * csWords (imageOf (c.arg 16 4) vendorFull) ≤ c.arg 16 4 ∧
     bit (c.arg 22 1) 0 = false) := by decide +kernel

theorem test_cs_done :
    (let l : Load := { cmd := 0, image := vendorFull, cust := false, provision := false }
     let s : State := { live .configure with gen.cs1 := { CsBank.zero with load := some l } }
     (s.csBank 1).load.isSome = true ∧ s.csAuth l true = none ∧ s.csAuth l false = some 1 ∧
     s.csAuth { l with cust := true } true = some 3) := by decide +kernel

theorem test_trees :
    (let c := cmd 0x30 [(8, 8, 4096), (16, 4, 0x1000)]
     let s := fetched c (live .configure)
     runs s .ha 0 0x30 [whole 8 8, whole 16 4, named 20 1 1] c = true ∧ s.genBusy (c.arg 20 1 % 2) = false ∧
     (s.treeBank (c.arg 20 1 % 2)).load = none ∧ c.arg 16 4 ≤ 0x101000 ∧
     0x1000 + 64 * treeUnits (imageOf (c.arg 16 4) []) ≤ c.arg 16 4) ∧
    (let s : State := { live .configure with slices := [(15, { SliceSt.zero with treeBad := [10] })] }
     5 * 2 ∈ (s.slice 15).treeBad ∧ 5 * 2 + 1 ∉ (s.slice 15).treeBad ∧ 5 * 2 ∉ (s.slice ((15 + 1) % 16)).treeBad) ∧
    (acting .forward).collieActs = true ∧ (live .reset).collieActs = false ∧ 81919 < 131072 ∧ 81919 % 65536 < 16384 := by
  decide +kernel

theorem test_gen_swap :
    (let c := cmd 0x32 [(8, 1, 1)]
     let s : State := { fetched c (live .forward) with
       gen.cs1 := { CsBank.zero with valid := true }, gen.tree1 := { TreeBank.zero with valid := true } }
     runs s .ha 0 0x32 [named 8 1 1, named 9 1 3] c = true ∧ bit (c.arg 9 1) 1 = false ∧ s.gen.cur ≠ c.arg 8 1 % 2 ∧
     (s.csBank (c.arg 8 1 % 2)).valid = true ∧ (s.treeBank (c.arg 8 1 % 2)).valid = true ∧ s.gen.swap = none ∧
     s.anyLoad = false) ∧
    (let s : State := { live .forward with gen.swap := some { cmd := 0, target := 1, at' := some 0, waitDrain := true } }
     s.gen.swap.isSome = true ∧ 0 ≤ s.devTime) ∧
    (let c := cmd 0x32 [(9, 1, 2), (8, 1, 1)]
     let s : State := { fetched c (live .forward) with
       gen.cs1 := { CsBank.zero with valid := true }, gen.tree1 := { TreeBank.zero with valid := true } }
     runs s .ha 0 0x32 [named 8 1 1, named 9 1 3, whole 16 8, whole 24 4, whole 28 2] c = true ∧ bit (c.arg 9 1) 1 = true ∧
     c.timeOk 16 = true ∧ c.time 16 ≤ s.devTime + tenSec ∧ s.gen.cur ≠ c.arg 8 1 % 2 ∧ s.gen.swap = none ∧
     s.anyLoad = false) ∧
    (let c := cmd 0x32 []
     runs (fetched c (live .forward)) .ha 0 0x32 [named 8 1 1, named 9 1 3] c = true ∧
     (live .forward).gen.cur = c.arg 8 1 % 2) ∧
    (let s : State := { live .forward with gen.swap := some { cmd := 0, target := 1, at' := some 9, waitDrain := false } }
     s.gen.swap.isSome = true ∧ s.devTime < 9 ∧ ∀ d ∈ s.gen.drains, s.infl d.old ≠ 0) ∧
    (let s : State := { live .forward with gen.drains := [{ cmd := 0, old := 1, count := 3, since := 0 }] }
     (s.gen.drains.find? (fun d => s.infl d.old = 0)).isSome = true) := by decide

/-! ## L2, LPM and ACL tables -/

/-- A learn record of slice 1, or an unpin one, that slice 0 has still to apply. -/
def learnRec : LearnRec := { kind := .learn, origin := 1, vid := 5, mac := 9, port := 33, left := [0, 2] }

/-- An entry of the key of VID 0 and MAC 0 at its bucket's first slot in slices 0 and 15. -/
def l2Held : State :=
  let s := live .forward
  (s.setL2 0 (s.l2Bucket 0 0 0) (some (learned 0 0 3))).setL2 15 (s.l2Bucket 15 0 0) (some (learned 0 0 3))

theorem test_learn_record :
    takeRec 0 1 [learnRec] = (some learnRec, [{ learnRec with left := [2] }]) ∧ takeRec 2 15 [learnRec] = (none, [learnRec]) ∧
    learnRec.kind = .learn ∧ (live .forward).l2Find 0 5 9 = none ∧ ((live .forward).l2Free 0 5 9).isSome = true := by
  decide +kernel

theorem test_flap_hold :
    (let e : L2Ent := { learned 1 2 3 with pinned := true, pinAt := some 0 }
     let s : State := { live .forward with now := 2000000000, regs := [(slReg 0 0x420, 32)],
                                           slices := [(0, { SliceSt.zero with l2 := [(7, e)] })] }
     (s.slice 0).l2 = [] ++ (7, e) :: [] ∧ e.pinAt = some 0 ∧ 0 + bits (s.l2Cfg 0) 15 4 * 1000000000 ≤ s.now) ∧
    (let s : State := { live .forward with regs := [(slReg 15 0x420, 0)] }
     bits (s.l2Cfg 15) 31 16 = 0) := by decide

theorem test_l2_age :
    (let s : State := { live .forward with now := 200000000, regs := [(slReg 0 0x420, 65536)],
                                           slices := [(0, { SliceSt.zero with l2 := [(7, learned 1 2 3)],
                                                                              ageAt := some 100000000 })] }
     bits (s.l2Cfg 0) 31 16 ≠ 0 ∧
     ((s.slice 0).ageAt.isNone || s.elapsed (s.slice 0).ageAt (bits (s.l2Cfg 0) 31 16 * 100000000)) = true ∧
     (s.slice 0).l2 = [(7, learned 1 2 3)]) ∧
    (let s : State := { live .forward with now := 199999999, regs := [(slReg 0 0x420, 65536)],
                                           slices := [(0, { SliceSt.zero with l2 := [(7, learned 1 2 511)],
                                                                              ageAt := some 100000000 })] }
     (s.slice 0).ageAt.isSome = true ∧
     s.elapsed (s.slice 0).ageAt (bits (s.l2Cfg 0) 31 16 * 100000000) = false ∧
     ∀ x ∈ (s.slice 0).l2, x.2.static = true ∨ portSlice x.2.port ≠ (0 : Slice).val) := by decide

theorem test_l2_write :
    (let c := cmd 0x38 [(8, 2, 0x8001), (18, 2, 511)]
     let s := fetched c (live .forward)
     runs s .ha 0 0x38 [whole 8 2, whole 10 6, named 16 2 0xFFF, named 18 2 0x1FF, named 20 1 3] c = true ∧
     s.inactive (c.arg 18 2) = false ∧ (∀ m ∈ maskSlices (c.arg 8 2), s.l2Find m (l2Vid c) (l2Mac c) = none) ∧
     (∀ m ∈ maskSlices (c.arg 8 2), s.l2Free m (l2Vid c) (l2Mac c) ≠ none)) := by decide +kernel

theorem test_l2_delete :
    (let c := cmd 0x39 [(8, 2, 0x8001)]
     let s := fetched c l2Held
     runs s .ha 0 0x39 [whole 8 2, whole 10 6, named 16 2 0xFFF] c = true ∧ 15 ∈ maskSlices (c.arg 8 2) ∧
     (s.l2Find 15 (l2Vid c) (l2Mac c)).isSome = true) ∧
    (let c := cmd 0x3A [(8, 2, 1)]
     let s := fetched c (live .forward)
     runs s .ha 0 0x3A [whole 8 2, named 10 1 7, named 16 2 0xFFF, named 18 2 0x1FF] c = true ∧ s.tab.job = .idle) := by
  decide +kernel

theorem test_l2_read :
    (let c := cmd 0x3B [(8, 1, 15), (9, 1, 1), (12, 4, 524287), (24, 8, 16)]
     runs (fetched c (live .forward)) .ha 0 0x3B
       [whole 8 1, whole 9 1, whole 10 6, whole 12 4, named 16 2 0xFFF, whole 24 8] c = true ∧
     c.arg 8 1 ≤ 15 ∧ c.arg 9 1 = 1 ∧ c.arg 24 8 % 16 = 0 ∧ c.arg 12 4 ≤ 524287) ∧
    (let c := cmd 0x3B [(8, 1, 15), (24, 8, 16)]
     let s := fetched c l2Held
     runs s .ha 0 0x3B [whole 8 1, whole 9 1, whole 10 6, whole 12 4, named 16 2 0xFFF, whole 24 8] c = true ∧
     c.arg 8 1 ≤ 15 ∧ c.arg 9 1 = 0 ∧ c.arg 24 8 % 16 = 0 ∧ (s.l2Find (c.arg 8 1) (l2Vid c) (l2Mac c)).isSome = true) := by
  decide +kernel

/-- An endpoint entry and a prefix. -/
def epEnt : EpEnt := { ktype := 0, double := false, key := [1], result := 5 }

/-- The IPv6 default route of slice 0. -/
def route : LpmEnt := { v6 := true, plen := 0, vrf := 0, pfx := 0, result := 5 }

/-- The table engine with a routine. -/
def busy (j : Job) : State := { live .forward with tab.job := j }

theorem test_table_engine : (live .forward).tab.job = .idle ∧ (live .forward).tab.mig = none ∧
    (busy (.chain 0 [(5, 9)] 0 5 epEnt none)).tab.job = .chain 0 ((5, 9) :: []) 0 5 epEnt none ∧
    (busy (.chain 0 [] 1 5 epEnt none)).tab.job = .chain 0 [] 1 5 epEnt none ∧
    (busy (.chain 0 [] 1 5 epEnt (some 9))).tab.job = .chain 0 [] 1 5 epEnt (some 9) ∧
    (busy (.flush 0 1 0 0 0 131070 0)).tab.job = .flush 0 1 0 0 0 131070 0 ∧ 131070 < 131071 ∧
    (busy (.flush 0 1 0 0 0 131071 0)).tab.job = .flush 0 1 0 0 0 131071 0 ∧
    (busy (.restash 15)).tab.job = .restash 15 ∧ (busy (.restash 15)).tab.mig = none ∧
    (busy (.shift 0 (0, 4) [(0, 0, 4)] 0 [] route)).tab.job = .shift 0 (0, 4) ((0, 0, 4) :: []) 0 [] route ∧
    (busy (.shift 0 (0, 4) [] 1 [] route)).tab.job = .shift 0 (0, 4) [] 1 [] route := by decide

/-- Bank 31 of slice 0 serves IPv6 prefixes with a VRF, 4 units wide; it holds `l`. -/
def routed (l : SMap LpmEnt) : State :=
  { live .forward with regs := [(slReg 0 0x27C, 2 + 2 * 4), (slReg 0 0x408, 8), (slReg 0 0x410, 0x80000000)],
                       slices := [(0, { SliceSt.zero with lpm := l })] }

theorem test_lpm_add :
    (let c := cmd 0x20 [(8, 2, 1), (10, 1, 1), (20, 5, 5)]
     let s := fetched c (routed [])
     runs s .ha 0 0x20 ([named 12 1 1, named 20 5 0xFFFFFFFFF] ++ lpmLayout s c) c = true ∧ s.tab.job = .idle ∧
     c.arg 10 1 ≤ 1 ∧ maskSlices (c.arg 8 2) = [0] ∧ resultOk (c.arg 20 5) = true ∧ s.lpmBad 0 true 0 (lpmAddr c) = false ∧
     s.lpmFind 0 true 0 0 (lpmAddr c) = none ∧ s.lpmChoose 0 true 0 511 = some (rowLoc 31 2044)) := by decide +kernel

/-- The route at the last row of bank 31. -/
def routedLast : State := routed [(rowLoc 31 2044, route)]

theorem test_lpm_held :
    (let c := cmd 0x20 [(8, 2, 1), (10, 1, 1), (20, 5, 5), (12, 1, 1)]
     let s := fetched c routedLast
     runs s .ha 0 0x20 ([named 12 1 1, named 20 5 0xFFFFFFFFF] ++ lpmLayout s c) c = true ∧ s.tab.job = .idle ∧
     maskSlices (c.arg 8 2) = [0] ∧ s.lpmBad 0 true 0 (lpmAddr c) = false ∧
     s.lpmFind 0 true 0 0 (lpmAddr c) = some (rowLoc 31 2044, route)) ∧
    (let c := cmd 0x21 [(8, 2, 1), (10, 1, 1)]
     let s := fetched c routedLast
     runs s .ha 0 0x21 (lpmLayout s c) c = true ∧ s.tab.job = .idle ∧ maskSlices (c.arg 8 2) = [0] ∧
     s.lpmBad 0 true (c.arg 11 1) (lpmAddr c) = false ∧
     s.lpmFind 0 true (c.arg 11 1) (c.arg 16 2) (lpmAddr c) = some (rowLoc 31 2044, route)) ∧
    (let c := cmd 0x21 [(8, 2, 1), (10, 1, 1), (11, 1, 128)]
     let s := fetched c routedLast
     runs s .ha 0 0x21 (lpmLayout s c) c = true ∧ s.lpmBad 0 true (c.arg 11 1) (lpmAddr c) = false ∧
     s.lpmFind 0 true (c.arg 11 1) (c.arg 16 2) (lpmAddr c) = none) := by decide +kernel

theorem test_lpm_read :
    (let c := cmd 0x22 [(10, 1, 1)]
     let s := fetched c routedLast
     runs s .ha 0 0x22 [whole 8 1, whole 10 1, whole 11 1, whole 12 1, whole 16 2, whole 32 16] c = true ∧ c.arg 12 1 = 0 ∧
     s.lpmFind 0 true (c.arg 11 1) (c.arg 16 2) (lpmAddr c) = some (rowLoc 31 2044, route)) ∧
    (let c := cmd 0x22 [(10, 1, 1), (12, 1, 1), (32, 1, 0x20)]
     let s := fetched c routedLast
     runs s .ha 0 0x22 [whole 8 1, whole 10 1, whole 11 1, whole 12 1, whole 16 2, whole 32 16] c = true ∧ c.arg 12 1 = 1 ∧
     s.lpmBad 0 true (lpmBits true) (lpmAddr c) = false ∧
     (s.lpmHits 0 true (c.arg 16 2) (lpmAddr c) []).head? = some (rowLoc 31 2044, route)) ∧
    (let c := cmd 0x20 [(8, 2, 0x8000), (10, 1, 1), (20, 5, 5)]
     let s := fetched c (routed [])
     runs s .ha 0 0x20 ([named 12 1 1, named 20 5 0xFFFFFFFFF] ++ lpmLayout s c) c = true ∧
     15 ∈ maskSlices (c.arg 8 2) ∧ s.lpmFmt 15 (decide (c.arg 10 1 = 1)) = none) := by decide +kernel

/-- Bank 31 of slice 0 in ACL mode, 8 units wide, with an entry at its row 2040 where `on`. -/
def ruled (on : Bool) : State :=
  { live .forward with
    regs := [(slReg 0 0x27C, 1 + 3 * 4)],
    slices := [(0, { SliceSt.zero with acl := if on then
      [(rowLoc 31 2040, { width := 8, prio := 7, genmask := 2, action := 0, value := 0, care := 0 })] else [] })] }

theorem test_acl_write :
    (let c := cmd 0x28 [(8, 2, 1), (10, 1, 31), (12, 2, 2040), (18, 2, 7), (20, 1, 2), (32, 8, 64)]
     let s := fetched c (ruled false)
     runs s .ha 0 0x28 (aclLayout c) c = true ∧ bit (c.arg 11 1) 1 = false ∧ bit (c.arg 11 1) 2 = false ∧
     s.aclBad c = false ∧ c.arg 20 1 ≠ 0 ∧ actionOk (c.arg 24 4) = true ∧ c.arg 32 8 % 64 = 0 ∧
     maskSlices (c.arg 8 2) = [0] ∧ be ([] : List Byte) 0 (10 * s.bankWidth 0 31) = 0 ∧
     s.aclLost (maskSlices (c.arg 8 2)) (c.arg 10 1) (rowLoc 31 2040) = false) ∧
    (let c := cmd 0x28 [(8, 2, 1), (10, 1, 31), (11, 1, 2), (14, 1, 31), (16, 2, 2040)]
     let s := fetched c (ruled true)
     runs s .ha 0 0x28 (aclLayout c) c = true ∧ bit (c.arg 11 1) 1 = true ∧ s.aclBad c = false ∧ c.arg 14 1 ≤ 31 ∧
     c.arg 16 2 ≤ 2047 ∧ s.bankMode 0 31 = 1 ∧ s.bankWidth 0 31 = 8 ∧ (s.aclAt 0 (rowLoc 31 2040)).isSome = true ∧
     s.aclAt 0 (rowLoc 31 0) = none ∧ s.aclLost (maskSlices (c.arg 8 2)) 31 (rowLoc 31 0) = false) ∧
    (let c := cmd 0x28 [(8, 2, 1), (10, 1, 31), (11, 1, 4), (12, 2, 2040), (20, 1, 2)]
     let s := fetched c (ruled true)
     runs s .ha 0 0x28 (aclLayout c) c = true ∧ bit (c.arg 11 1) 2 = true ∧ s.aclBad c = false ∧ c.arg 20 1 ≠ 0 ∧
     (s.aclAt 0 (rowLoc 31 2040)).isSome = true ∧
     s.viewBusy (viewChange (s.aclAt 0 (rowLoc 31 2040))
       ((s.aclAt 0 (rowLoc 31 2040)).map fun e => { e with genmask := c.arg 20 1 })) false = false) := by decide +kernel

theorem test_acl_read :
    (let c := cmd 0x29 [(8, 2, 1), (10, 1, 31), (12, 2, 2040)]
     let s := fetched c (ruled true)
     runs s .ha 0 0x29 [whole 8 2, whole 10 1, named 11 1 1, whole 12 2] c = true ∧ s.aclBad c = false) ∧
    (let c := cmd 0x2A [(9, 1, 31), (10, 2, 2040), (16, 8, 64)]
     let s := fetched c (ruled true)
     runs s .ha 0 0x2A (aclReadLayout c) c = true ∧ c.arg 12 1 = 0 ∧ c.arg 9 1 ≤ 31 ∧ c.arg 10 2 ≤ 2047 ∧
     c.arg 10 2 % s.bankWidth (c.arg 8 1) (c.arg 9 1) = 0 ∧ c.arg 16 8 % 64 = 0 ∧ s.bankMode (c.arg 8 1) 31 = 1 ∧
     (s.aclAt 0 (rowLoc 31 2040)).isSome = true) ∧
    (let c := cmd 0x2A [(8, 1, 15), (12, 1, 1), (13, 1, 7), (16, 8, 64)]
     runs (fetched c (live .forward)) .ha 0 0x2A (aclReadLayout c) c = true ∧ c.arg 12 1 = 1 ∧ c.arg 8 1 ≤ 15 ∧
     c.arg 13 1 ≤ 7 ∧ c.arg 16 8 % 64 = 0) := by decide +kernel

/-- Slice 0 with a row that has hard-failed, spares of bank 31 in use. -/
def rowFailed (spares : SMap Nat) : State :=
  { live .forward with slices := [(0, { SliceSt.zero with hard := [65535], rowSpare := spares })] }

theorem test_row_spare : 65535 ∈ ((rowFailed []).slice 0).hard ∧ 65535 + 65536 ∉ ((rowFailed []).slice 0).hard ∧
    ((rowFailed []).slice 0).freeSpare (65535 / 2048) = some 0 ∧
    (∀ e ∈ ((rowFailed []).slice 0).rowSpare, e.1 / 64 ≠ 65535 / 2048) ∧
    (let l := (List.range 64).map fun i => (64 * 31 + i, 2 * i)
     ((rowFailed l).slice 0).freeSpare (65535 / 2048) = none) ∧
    (rowFailed []).flt.inj = [] ∧ ((rowFailed []).slice 0).rowLost 65535 = false := by decide +kernel

/-! ## Parsers, ports, the pipeline -/

/-- One packet in a stage, on slice 0. -/
def holding (k : Pkt) : State := { live .forward with core.pkts := [k] }

theorem test_heads :
    (let s := holding { packet with stage := .headQ }
     s.bufLive = true ∧ (s.headOrder 0).find? (fun k => decide (k.headAt ≤ s.now)) = some { packet with stage := .headQ } ∧
     s.pickEngine 0 = some 0) ∧
    (let s := holding { packet with stage := .headQ, headAt := 1 }
     ∀ k ∈ s.headOrder 0, s.now < k.headAt) ∧
    (let k := { packet with stage := .engine 119, reparses := 1 }
     let s := holding k
     s.flt.inj = [] ∧ (s.core.pkts.find? fun k => decide (k.slice = 0 ∧ k.stage = .engine 119)) = some k ∧
     k.reparses ≠ 0 ∧ packet.reparses = 0) := by decide

/-- Every engine of slice 0 has a head of its own, and one more waits in the queue. -/
theorem test_second_buffer :
    (let k := { packet with id := 128, stage := .headQ }
     let s : State := { live .forward with
       core.pkts := k :: (List.range 128).map fun e => { packet with id := e, stage := .engine e } }
     s.bufLive = true ∧ (s.headOrder 0).find? (fun k => decide (k.headAt ≤ s.now)) = some k ∧ s.pickEngine 0 = none ∧
     s.pickBuffer 0 = some 0) ∧
    (let k := { packet with stage := .loaded 119 }
     ((holding k).core.pkts.find? fun k => decide (k.slice = 0 ∧ k.stage = .loaded 119)) = some k) := by decide +kernel

theorem test_canary :
    (let s : State := { acting .forward with regs := [(slReg 15 0x120, 1)] }
     s.canaryDue 15 = true ∧ (s.slice 15).nextTest = some 0 ∧ (s.slice 15).nextSpare = some 120 ∧
     s.engineFree 15 0 = true ∧ s.bufferFree 15 0 = true ∧ 0 ∉ (s.slice 15).spares ∧
     (∀ x ∈ [0, 65535], ({ s with slices := [(15, { SliceSt.zero with canAt := some s.now, canPass := x })] } : State).canaryDue 15 =
       true)) ∧
    (let s := acting .forward
     s.collieActs = true ∧ s.flt.inj = [] ∧ 65536 + (csBankSize - 1) < 131072 ∧
     (65536 + (csBankSize - 1)) % 65536 < csBankSize) ∧
    (let s : State := { acting .forward with slices := [(15, { SliceSt.zero with test := some (0, 0), csBad := [65534] })] }
     s.collieActs = true ∧ s.flt.inj = [] ∧ (s.slice 15).test = some (0, 0) ∧ s.slices.wf (fun _ => SliceSt.zero) = true ∧
     32767 * 2 ∈ (s.slice 15).csBad ∧ s.csSource 15 32767 = some 0) := by decide

/-- Port 0 in a state, one lane, enabled and admitted up, its lanes' clock stable. -/
def portIn (x : PState) : State :=
  { live .forward with
    regs := [(ptReg 0 0, 0x50), (ptReg 0 4, 1), (ptReg 0 0xC, 0x4600)], clk.judge := [(16, { Judge.zero with stable := true })],
    port.ports := [(0, { PortSt.zero with state := x })] }

theorem test_port_writes :
    (let s := live .configure
     s.takesRwc s.active = true ∧ s.inactive 511 = false ∧ ptModeBad 511 (0x11 % 128) = true ∧ ptModeBad 511 (0x10 % 128) = false ∧
     s.ptWrites .ha 511 = true ∧ s.ptWrites .hb 511 = false ∧ bit 1 0 = true ∧ bit 0 0 = false ∧ bit 8 3 = true) ∧
    (let s := portIn .detect
     bit (s.ptCtrl 0) 0 = true ∧ bit 0 0 = false ∧ (s.pt 0).state ≠ .test ∧ bit 9 0 = true ∧ bit 9 3 = true ∧
     s.port.ports.wf (fun _ => PortSt.zero) = true ∧ (s.pt 0).state ≠ .up ∧ bits (s.ptCtrl 0) 2 1 ≠ bits 3 2 1 ∧
     bits (s.ptCtrl 0) 2 1 = bits 1 2 1 ∧ bit 1 3 = false) ∧
    bit ((live .forward).ptCtrl 0) 0 = false ∧
    ((portIn .adminDown).wr (ptReg 511 0x18) 16).firstState 511 ≠ .test ∧ bit ((portIn .up).ptCtrl 0) 0 = true := by decide

/-- The device with the test access port's instruction loaded and RESET_N low (R585). -/
def benched : State := { live .forward with pins.tap := 0x10, pins.resetN := false }

theorem test_bench : (live .forward).testPort = none ∧ benched.testPort.isSome = true ∧
    (let s : State := { benched with pins.bench := [(511, { LaneTest.zero with word := 16 })] }
     s.testPort.isSome = true ∧ bit (s.pins.bench.get LaneTest.zero 511).word 4 = true) := by decide

/-- A tester starts a generator of lane 511 and a checker beside it, with no host (R585). -/
theorem test_bench_generator :
    ((after benched (.ptTestWrite .tester 511 0x1A)).pins.bench.get LaneTest.zero 511).word = 0x1A ∧
    ((after benched (.loopbackSelect .tester 511 1 Draw.zero)).pins.bench.get LaneTest.zero 511).nearEnd = true := by
  decide +kernel

theorem test_port_writes_canonical : Canonical (live .configure) := by constructor <;> decide

theorem test_detect :
    (let s := portIn .detect
     s.enabled 0 = true ∧ (s.pt 0).state = .detect ∧ s.lanesOn 0 = true ∧ (s.pt 0).d2dDown = false ∧
     (∀ l ∈ s.lanesOf 0, (s.lane l).parked = false ∧ ((s.lane l).sigDet = true ∨ bit 1 (l - 0) = true)) ∧
     ∃ l ∈ s.lanesOf 0, (s.lane l).sigDet = false ∧ bit 0 (l - 0) = false) ∧
    ((portIn .up).pt 0).state ≠ .detect := by decide

theorem test_lx_frame :
    (let s : State := { portIn .train with regs := [(ptReg 0 0, 0x51)] }
     s.portOfLane 1 = some 0 ∧ (s.pt 0).state = .train ∧ s.isLx 0 = true ∧ s.lanesOn 0 = true ∧ evenParity 1 = false ∧
     evenParity 3 = true ∧ (s.lane 1).lastReq ≠ some (bits 3 12 2)) ∧
    (let s : State := { portIn .train with regs := [(ptReg 0 0, 0x51)], port.lanes := [(1, { LaneSt.zero with lastReq := some 8 })] }
     evenParity 0x21 = true ∧ (s.lane 1).lastReq = some (bits 0x21 12 2) ∧ bits 0x21 12 10 < s.width 0 ∧ 0 + bits 0x21 12 10 ≠ 1 ∧
     (trainRequest 0x21 (s.lane 0).cur).1 ≠ 0) ∧
    (let s : State := { portIn .train with port.lanes := [(0, { LaneSt.zero with ready := 3, own := 1 })] }
     (s.pt 0).state = .train ∧ s.lanesOn 0 = true ∧ ∀ l ∈ s.lanesOf 0, (s.lane l).ready = 3 ∧ bit (s.lane l).own 0 = true) ∧
    (let s : State := { portIn .train with regs := [(ptReg 0 0, 0x54)] }
     (s.pt 0).state = .train ∧ s.lanesOn 0 = true ∧ s.isLx 0 = false) := by decide

theorem test_port_runs : ((portIn .an).pt 0).state = .an ∧ (portIn .up).portOfLane 0 = some 0 ∧ ((portIn .align).pt 0).state = .align ∧ (portIn .align).lanesOn 0 = true ∧
    ((portIn .train).pt 0).state = .train ∧ (portIn .train).isLx 0 = true ∧ (portIn .up).enabled 0 = true ∧
    (portIn .up).port.ports.wf (fun _ => PortSt.zero) = true ∧
    (let s : State := { portIn .test with regs := [(ptReg 0 0, 0x50), (ptReg 0 0x18, 16)] }
     s.portOfLane 0 = some 0 ∧ bit (s.pins.bench.get LaneTest.zero 0).word 4 = false ∧
     (s.pt 0).state = .test ∧ bit (s.ptTest 0) 4 = true ∧ bit (s.ptCtrl 0) 0 = false ∧
     s.port.lanes.wf (fun _ => LaneSt.zero) = true) := by decide

theorem test_d2d :
    (let s : State := { acting .forward with port.d2d := [(31, 63)] }
     s.collieActs = true ∧ s.mode ≠ .reset ∧ s.mode ≠ .save ∧ s.flt.inj = [] ∧ s.port.d2d.get 0 (2 * 15 + b2n true) < 64) ∧
    (let s : State := { acting .forward with port.d2d := [(31, 64)] }
     s.mode ≠ .reset ∧ s.mode ≠ .save ∧ s.collieActs = true ∧ s.flt.inj = [] ∧ 64 ≤ s.port.d2d.get 0 (2 * 15 + b2n true) ∧ (s.pt (32 * 15)).d2dDown = false) := by decide

/-- A frame of 64 bytes with a good FCS. -/
def goodFrame (ty op param : Nat) : List Byte :=
  withFcs (List.replicate 12 0 ++ toBE 2 ty ++ toBE 2 op ++ toBE 2 param ++ List.replicate 42 0)

theorem test_frames :
    ((portIn .up).loopback 0 % 2 = 0 ∧ ((portIn .up).pt 0).state = .up ∧ (portIn .up).mode = .forward ∧
     (portIn .up).maxFrame 0 = 0x600) ∧
    ({ portIn .up with regs := [(ptReg 0 4, 3)] } : State).loopback 0 % 2 = 1 ∧
    (let s : State := { portIn .up with flt.keel0 := Keel.of Mode.park.code }
     s.mode = .park ∧ s.md.parkDown = false ∧ (s.pt 0).state = .up ∧ s.loopback 0 % 2 = 0 ∧ s.maxFrame 0 = 0x600) ∧
    (let s : State := { portIn .up with regs := [(ptReg 0 0xC, 64)] }
     64 ≤ 65 ∧ s.maxFrame 0 < 65 ∧ s.maxFrame 0 < 1729) ∧ ((portIn .adminDown).pt 0).state ≠ .up ∧
    (goodFrame 0 0 0).length = 64 ∧ fcsGood (goodFrame 0 0 0) = true ∧ isMacControl (goodFrame 0 0 0) = false ∧
    fcsGood (List.replicate 64 0) = false := by decide +kernel

theorem test_fragments :
    (let s : State := { portIn .up with regs := [(ptReg 0 0x1C0, 1)] }
     s.loopback 0 % 2 = 0 ∧ bit (s.rd (ptReg 0 0x1C0)) 0 = true) ∧ bit ((portIn .up).rd (ptReg 0 0x1C0)) 0 = false := by
  decide

theorem test_pause :
    (let b := goodFrame 0x8808 1 0xFFFF
     let s : State := { portIn .up with regs := [(ptReg 0 0xC, 0x1000000 + 0x4000 + 0x600)] }
     s.rate 0 ≠ 0 ∧ s.loopback 0 % 2 = 0 ∧ (s.pt 0).state = .up ∧ fcsGood b = true ∧ isMacControl b = true ∧ be b 14 2 = 1 ∧ be b 16 2 = 0xFFFF ∧ bits (s.macCfg 0) 15 14 = 1 ∧
     bit (s.macCfg 0) 24 = true ∧ (s.pt 0).pause.wf (fun _ => 0) = true ∧ b.length ≤ s.maxFrame 0) ∧
    be (goodFrame 0x8808 2 0) 14 2 = 2 := by decide +kernel

theorem test_admission : (live .park).offersSlot 15 .ordinary = false ∧ (live .forward).offersSlot 15 .ordinary = true ∧
    (live .forward).waitingFor 15 = [] ∧
    (let s := holding packet
     s.slotKind 0 .ordinary = .ordinary ∧ s.core.slotNo.get 0 0 < s.slotShare 0 ∧ s.offersSlot 0 .ordinary = true ∧ s.mode ≠ .drain ∧ (s.slice 0).inService ≠ 0 ∧
     nextInTurn (s.core.rot.get 33 0) (s.waitingFor 0) = some packet ∧ s.headQFull 0 = false) ∧
    (let k := { packet with tc7 := true }
     let s : State := { holding k with regs := [(slReg 0 0x700, 1)] }
     s.core.slotNo.get 0 0 < s.slotShare 0 ∧ s.mode ≠ .drain ∧ (s.slice 0).inService ≠ 0 ∧ s.headQFull 0 = false ∧ s.offersSlot 0 .reserved = true ∧ ((s.waitingFor 0).filter fun k => k.tc7) = k :: []) := by decide +kernel

theorem test_lookup : (live .forward).nextLookup 15 = none ∧
    (let k := { packet with stage := .parsed, flags := 8 }
     (holding k).bufLive = true ∧ (holding k).nextLookup 0 = some k ∧ (holding k).pktsOf 0 = k :: [] ∧
     ({ holding k with regs := [(slReg 0 0x104, 0x40)] } : State).disposition k = 1 ∧
     ({ holding k with regs := [(slReg 0 0x104, 0x80)] } : State).disposition k = 2 ∧
     ({ holding k with regs := [(slReg 0 0x104, 0xC0)] } : State).disposition k = 3 ∧
     ({ holding k with regs := [(slReg 0 0x104, 0)] } : State).disposition k = 0) ∧
    Fate.zero.copy = none ∧ (∀ r, Dest.port 511 none ≠ .drop r) := by
  refine ⟨by decide, by decide, by decide, ?_⟩; intro r; exact Dest.noConfusion

/-- Both results of the lookups occur: with no tree in force they end well, with a bad unit in the way they do not. -/
theorem test_lookup_ends :
    (let k := { packet with stage := .parsed }
     let s := holding k
     (((s.learnFrom k []).lookups k false [] []).1).isSome = true) ∧
    (let k := { packet with stage := .parsed }
     let s : State := { holding k with
       gen.tree0.sel := [(0, 0x80)], slices := [(0, { SliceSt.zero with treeBad := [0] })] }
     s.bufLive = true ∧ s.nextLookup 0 = some k ∧ s.disposition k = 0 ∧
     (((s.learnFrom k []).lookups k false [] []).1).isNone = true) := by decide +kernel

/-! ## Power, the referee and the secure element -/

/-- A live device with Collie A active and B a fit standby. -/
def paired (m : Mode) : State :=
  let c : Collie := { Collie.zero with alive := true, memOk := true, katOk := true, mirrorOk := true, fwOk := true,
                                       beat := some 0, since := some 0, mirrorAt := some 0 }
  { live m with
    ref.a := { c with state := .active }, ref.b := { c with state := .standby },
    clk.judge := [(5, { Judge.zero with stable := true }), (6, { Judge.zero with stable := true })] }

/-- The cap register at 400 W, floor 8, at most 12 slots withheld; P in units of 2^-12 W. -/
def capped (p : Nat) : State := { paired .forward with
  flt.keel3 := Keel.of (400 + 8 * 65536 + 12 * 16777216), regs := [(0x50008, 16)], pwr.p := p, clk.pipeCur := 16 }

theorem test_power_loop : State.reset.mode = .reset ∧ (live .safe).mode ≠ .reset ∧ (live .safe).mode ≠ .save ∧
    (capped 1638401).trimWithhold 5 = none ∧ (capped 1638401).capNow < (capped 1638401).pwr.p ∧
    (capped 1638401).orderNow.find? (fun d => !(capped 1638401).atLimit d) = some .compute ∧
    (capped 1638400).pwr.p ≤ (capped 1638400).capNow ∧ (capped 1638400).pwr.steps = [] ∧
    (capped 0).pwr.withhold < (capped 0).withholdMax := by decide

theorem test_power_loop_limits :
    (let s : State := { capped 1638401 with pwr.withhold := 12, pwr.mem := 2, pwr.link := 3, pwr.clkLevel := 8 }
     s.trimWithhold 2047 = none ∧ s.capNow < s.pwr.p ∧ (∀ d ∈ [Domain.compute, .memory, .links], s.atLimit d = true)) ∧
    (let s : State := { capped 1638400 with pwr.steps := [.mem], pwr.mem := 1 }
     s.trimWithhold 2047 = none ∧ s.pwr.p ≤ s.capNow ∧ s.pwr.steps = .mem :: []) := by decide

theorem test_all_domains : ∀ d : Domain, d ∈ [Domain.compute, .memory, .links] := by intro d; cases d <;> decide

theorem test_clock_step :
    (let s : State := { capped 0 with pwr.clkLevel := 15 }
     s.clkFree = true ∧ s.clk.pipeCur ≠ s.clkGoal) ∧ (capped 0).clk.pipeCur = (capped 0).clkGoal ∧
    (let s : State := { capped 0 with now := 1000000, pwr.throttleOn := true, pwr.lowSince := some 0 }
     s.pwr.throttleOn = true ∧ s.throttle = false ∧ s.elapsed s.pwr.lowSince 1000000 = true) ∧
    (let s : State := { capped 1638401 with now := 1000000, pwr.overSince := some 0, pwr.withhold := 12, pwr.mem := 2,
                                            pwr.link := 3, pwr.clkLevel := 8 }
     s.pwr.unmet = false ∧ s.elapsed s.pwr.overSince 1000000 = true ∧
     (∀ d ∈ [Domain.compute, .memory, .links], s.atLimit d = true)) ∧
    (let s : State := { capped 0 with now := 1000000, pwr.unmet := true, pwr.underSince := some 0 }
     s.pwr.unmet = true ∧ s.elapsed s.pwr.underSince 1000000 = true) := by decide

theorem test_calibration :
    (let s : State := { live .forward with regs := [(0x40040, 128)] }
     let good : List (Fin 16 × Option (Fin 3) × BitVec 16) := [(0, none, 50)]
     let bad : List (Fin 16 × Option (Fin 3) × BitVec 16) := [(0, some 2, 0)]
     (∀ r, r < 16 → s.pmbOn r = true → (pmbAnswer good r).1 = none) ∧
     (((List.range 16).filter s.pmbOn).map fun r => (pmbAnswer good r).2).foldl (· + ·) 0 = 50 * 65536 ∧
     s.pmbPlausible (50 * 65536) = true ∧ s.pmbPlausible (1500 * 65536) = true ∧ s.pmbPlausible (50 * 65536 - 1) = false ∧
     s.pmbPlausible (1500 * 65536 + 1) = false ∧ s.pmbOn 0 = true ∧
     (pmbAnswer bad 0).1 = some 2) ∧
    ({ live .forward with pwr.frozen := true } : State).served = true := by decide

theorem test_thermal : (paired .forward).collieActs = true ∧ (paired .forward).pwr.thermal = none ∧ (99#8).toNat < 100 ∧
    100 ≤ (100#8).toNat ∧
    (let s : State := { capped 0 with pwr.thermal := some 1638400, pwr.hot := 97 }
     s.pwr.thermal = some 1638400 ∧ 97 ≤ s.pwr.hot ∧ s.pwr.hot < 100) ∧
    (2999#12).toNat < 3000 ∧ 3100 ≤ (3100#12).toNat := by decide

theorem test_cap_set :
    (let c := cmd 0x62 [(8, 2, 400), (11, 1, 8), (12, 1, 12)]
     runs (fetched c (live .forward)) .ha 0 0x62 [whole 8 2, named 10 1 7, whole 11 1, named 12 1 0xF] c = true ∧
     400 ≤ c.arg 8 2 ∧ c.arg 8 2 ≤ 1100 ∧ c.arg 10 1 ≤ 5 ∧ 8 ≤ c.arg 11 1 ∧ c.arg 11 1 ≤ 16 ∧ c.arg 12 1 ≤ 12) ∧
    (let c := cmd 0x62 [(8, 2, 1100), (10, 1, 5), (11, 1, 16)]
     runs (fetched c (live .forward)) .ha 0 0x62 [whole 8 2, named 10 1 7, whole 11 1, named 12 1 0xF] c = true ∧
     c.arg 8 2 ≤ 1100 ∧ c.arg 10 1 ≤ 5 ∧ c.arg 11 1 ≤ 16) := by decide

/-- A hint that is pending or in force. -/
def someHint (since : Option Nat) : Hint := { at' := 0, durUs := 1, order := 0, mem := 0, link := 0, since := since }

theorem test_hints :
    (let c := cmd 0x61 [(9, 1, 5), (10, 1, 0xC), (12, 4, 10000000)]
     let s := fetched c (live .forward)
     runs s .ha 0 0x61 [named 8 1 1, named 9 1 7, named 10 1 0xF, whole 12 4, whole 16 14] c = true ∧
     bit (c.arg 8 1) 0 = false ∧ c.arg 9 1 ≤ 5 ∧ c.argBits 10 1 1 0 ≠ 3 ∧ c.arg 12 4 ≠ 0 ∧ c.arg 12 4 ≤ 10000000 ∧
     c.timeOk 16 = true ∧ c.time 16 ≤ s.devTime + tenSec ∧ [0, 1, 2, 3].find? (fun i => (s.hint i).isNone) = some 0) ∧
    (let s : State := { live .forward with pwr.hints := [(0, some (someHint none)), (1, some (someHint none)),
                                             (2, some (someHint none)), (3, some (someHint (some 0)))] }
     (∀ i < 4, (s.hint i).isSome) ∧ s.hintDue = some 0 ∧ s.hint 3 = some (someHint (some 0)) ∧
     (someHint none).since.isSome = false) ∧
    (let c := cmd 0x61 [(8, 1, 1)]
     runs (fetched c (live .forward)) .ha 0 0x61 [named 8 1 1] c = true ∧ bit (c.arg 8 1) 0 = true) ∧
    (live .forward).hintDue = none := by decide

/-- Port 0 in use where `up`. -/
def parking (op : Nat) (fs : List (Nat × Nat × Nat)) (up : Bool) : Cmd × State :=
  let c := cmd op fs
  (c, fetched c { live .forward with regs := if up then [(ptReg 0 0, 0x50), (ptReg 0 4, 1)] else [] })

theorem test_park_slice :
    (let x := parking 0x60 [(9, 1, 1)] true
     runs x.2 .ha 0 0x60 [whole 8 1, whole 9 1, named 10 1 0xF] x.1 = true ∧ x.1.arg 8 1 = 0 ∧ x.1.arg 9 1 = 1 ∧
     ((List.range 32).map (32 * 0 + ·)).find? (fun q => x.2.adminUp q || x.2.isRecirc q) = some 0) ∧
    (let x := parking 0x60 [(9, 1, 1), (10, 1, 15)] false
     runs x.2 .ha 0 0x60 [whole 8 1, whole 9 1, named 10 1 0xF] x.1 = true ∧
     (∀ q ∈ (List.range 32).map (32 * 15 + ·), x.2.adminUp q = false ∧ x.2.isRecirc q = false) ∧ x.2.pwr.ramps = []) := by
  decide +kernel

theorem test_park_lanes :
    (let x := parking 0x60 [(8, 1, 1), (9, 1, 1), (12, 4, 0x80000000)] true
     runs x.2 .ha 0 0x60 [whole 8 1, whole 9 1, named 10 1 0xF, whole 12 4] x.1 = true ∧ x.1.arg 8 1 = 1 ∧ x.1.arg 9 1 = 1 ∧
     (∀ k ∈ maskLanes (x.1.arg 12 4), (x.2.portOfLane (32 * 0 + k)).all (fun q => !x.2.adminUp q) = true)) ∧
    (let x := parking 0x60 [(8, 1, 1), (9, 1, 1), (12, 4, 1)] true
     maskLanes (x.1.arg 12 4) = [0] ∧ x.2.portOfLane (32 * 0 + 0) = some 0 ∧ x.2.adminUp 0 = true ∧
     runs x.2 .ha 0 0x60 [whole 8 1, whole 9 1, named 10 1 0xF, whole 12 4] x.1 = true) ∧
    (let x := parking 0x60 [(10, 1, 15)] false
     runs x.2 .ha 0 0x60 [whole 8 1, whole 9 1, named 10 1 0xF] x.1 = true ∧ x.1.arg 8 1 = 0 ∧ x.1.arg 9 1 = 0) ∧
    (let x := parking 0x60 [(8, 1, 1), (12, 4, 1)] false
     runs x.2 .ha 0 0x60 [whole 8 1, whole 9 1, named 10 1 0xF, whole 12 4] x.1 = true ∧ x.1.arg 8 1 = 1 ∧
     (∀ k ∈ maskLanes (x.1.arg 12 4), (x.2.lane (32 * 0 + k)).parked = false)) ∧
    ((live .safe).hostAlive = true ∧ (live .safe).mode ≠ .save ∧ bit 1 0 = true) := by decide +kernel

/-- The paired device with the standby in a state of its own. -/
def standbyIn (x : CollieState) (b : Bool) : State := { paired .forward with ref.b.state := x, ref.b.mirrorOk := b }

theorem test_collies : ((standbyIn .failed false).collie .b).runs = false ∧ ((paired .forward).collie .b).runs = true ∧
    ({ paired .forward with now := 200000 } : State).elapsed ((paired .forward).collie .b).beat 200000 = true ∧
    (paired .forward).activeCollie = .a ∧ ((paired .forward).keel 1).stuck = false ∧ (paired .forward).collieOk .b = true ∧
    (standbyIn .failed true).collieOk (standbyIn .failed true).activeCollie.peer = false ∧
    ((paired .forward).collie .b).state = .standby ∧ ((paired .forward).collie Side.b.peer).state = .active ∧
    ((standbyIn .failed true).collie (standbyIn .failed true).activeCollie.peer).state ≠ .standby ∧
    ((paired .forward).collie .b).mirrorOk = true ∧
    ({ paired .forward with now := 2000001 } : State).elapsed ((paired .forward).collie .b).mirrorAt 2000001 = true ∧
    ((standbyIn .standby false).collie (standbyIn .standby false).activeCollie.peer).mirrorOk = false := by decide

theorem test_collie_restart : ((standbyIn .selftest true).collie .b).state = .selftest ∧
    ((standbyIn .loading true).collie .b).state = .loading ∧ (paired .forward).ref.fwu ≠ .reloading .b ∧
    (let s : State := { paired .forward with flt.keel1 := Keel.of 1, now := 10000000000, ref.a.state := .standby,
                                             ref.b.state := .active }
     s.activeCollie = .b ∧ s.ref.a.state = .standby ∧ s.elapsed s.ref.a.since (10 * nsPerSec) = true) := by decide

theorem test_roles : bits 0 31 16 ≠ 0x5120 ∧ (paired .forward).served = true ∧ bits 0x51200004 31 16 = 0x5120 ∧
    bit 0x51200004 2 = true ∧ (paired .forward).flt.keel1.stuck = false ∧
    Side.ofBit (bit 0x51200004 0) = (paired .forward).activeCollie ∧
    Side.ofBit (bit 0x51200004 1) = (paired .forward).activeTe ∧
    Side.ofBit (bit 0x51200005 0) ≠ (paired .forward).activeCollie ∧
    (((paired .forward).swapCollie 3).2).activeTe = Side.ofBit (bit 0x51200005 1) ∧
    ({ paired .forward with flt.keel1.stuck := true } : State).flt.keel1.stuck = true := by decide

/-- An update that stands somewhere. -/
def updating (x : Fwu) : State := { paired .forward with ref.fwu := x }

theorem test_updates : bit 0x51200001 0 = true ∧ bits 0x51200001 31 16 = 0x5120 ∧ (paired .forward).ref.fwu = .none ∧
    (updating (.fetching .b)).ref.fwu = .fetching .b ∧ (updating (.fetching .b)).activeCollie.peer = .b ∧
    ((updating (.fetching .b)).collie .b).state = .standby ∧ (updating (.fetching .b)).collieOk .b = true ∧
    ((updating (.fetching .b)).keel 1).stuck = false ∧
    ((standbyIn .failed true).collie (standbyIn .failed true).activeCollie.peer).state ≠ .standby ∧
    (let s : State := { standbyIn .loading true with ref.fwu := .reloading .b }
     s.ref.fwu = .reloading .b ∧ (s.collie .b).state = .loading) := by decide

theorem test_updates_none : (∀ e, (paired .forward).ref.fwu ≠ .fetching e) ∧ (∀ e, (paired .forward).ref.fwu ≠ .reloading e) := by
  constructor <;> intro e <;> cases e <;> decide

theorem test_wear :
    (let s : State := { paired .forward with ref.wearDirty := true }
     s.mode ≠ .reset ∧ s.mode ≠ .boot ∧ s.mode ≠ .save ∧ s.collieActs = true ∧ s.ref.wearDirty = true ∧
     s.ref.wearWriting = none) ∧
    (paired .forward).ref.wearDirty = false ∧
    ({ paired .forward with ref.wearWriting := some 1 } : State).ref.wearWriting = some 1 := by decide

/-- Port HA's connection has come to a state. -/
def spdmAt (x : Spdm) : State := { live .forward with host.ha.spdm := x }

theorem test_spdm : (live .forward).spdmLive .ha = true ∧ ({ live .forward with host.ha.linkUp := false } : State).spdmLive .ha = false ∧
    ((spdmAt .version).half .ha).spdm ≠ .idle ∧ ((spdmAt .capabilities).half .ha).spdm = .capabilities ∧
    ((spdmAt .version).half .ha).spdm ≠ .negotiated ∧ ((spdmAt .negotiated).half .ha).spdm = .negotiated ∧
    (spdmAt .negotiated).ref.seFault = false ∧ (spdmAt .negotiated).spdmLive .ha = true ∧ (7 : Fin 8) ≠ 0 ∧
    ((spdmAt .negotiated).measBlock (8#8).toNat).isSome = true ∧ (spdmAt .negotiated).measBlock (9#8).toNat = none := by decide

/-! ## Queues, schedulers, the switch, counters -/

theorem test_queue_cfg :
    (let c := cmd 0x52 [(8, 1, 2)]
     runs (fetched c (live .forward)) .ha 0 0x52 [whole 8 1, named 9 1 0xF, named 10 2 0x1FF, named 12 1 7, named 13 1 0xF,
       named 14 2 0x7FFF, named 16 4 0xFFFFFF] c = true ∧ 1 < c.arg 8 1) ∧
    (let c := cmd 0x52 [(8, 1, 1), (9, 1, 1), (14, 2, 0x7FFF)]
     let s : State := { fetched c (live .forward) with core.queues := [(chanKey 0x7FFF, [frame])] }
     runs s .ha 0 0x52 [whole 8 1, named 9 1 0xF, named 10 2 0x1FF, named 12 1 7, named 13 1 0xF,
       named 14 2 0x7FFF, named 16 4 0xFFFFFF] c = true ∧ c.arg 8 1 = 1 ∧ s.inactive (c.arg 10 2) = false ∧ c.arg 9 1 = 1 ∧
     bit (c.arg 9 1) 0 = true ∧ bit (c.arg 9 1) 1 = false ∧ bit (c.arg 9 1) 3 = false ∧ s.queue (chanKey (c.arg 14 2)) ≠ [] ∧
     (fetched c (live .forward)).queue (chanKey (c.arg 14 2)) = []) ∧
    (let c := cmd 0x52 [(9, 1, 8), (10, 2, 511), (12, 1, 7), (16, 4, 1048576)]
     runs (fetched c (live .forward)) .ha 0 0x52 [whole 8 1, named 9 1 0xF, named 10 2 0x1FF, named 12 1 7, named 13 1 0xF,
       named 14 2 0x7FFF, named 16 4 0xFFFFFF] c = true ∧ c.arg 8 1 = 0 ∧ (live .forward).inactive (c.arg 10 2) = false ∧
     c.arg 9 1 = 8 ∧ 64 ≤ c.arg 16 4 ∧ c.arg 16 4 ≤ 1048576) ∧
    (let c := cmd 0x52 []
     runs (fetched c (live .forward)) .ha 0 0x52 [whole 8 1, named 9 1 0xF, named 10 2 0x1FF, named 12 1 7, named 13 1 0xF,
       named 14 2 0x7FFF, named 16 4 0xFFFFFF] c = true ∧ c.arg 9 1 = 0) := by decide

theorem test_shapers :
    (let c := cmd 0x51 [(8, 1, 0), (10, 2, 511), (16, 4, 1000), (20, 4, 16777216)]
     let s := (fetched c (live .forward)).settleRefunds
     runs s .ha 0 0x51 (anyBits c) c = true ∧ bit (c.arg 9 1) 0 = false ∧ shaperBad s c = false ∧ 1000 ≤ c.arg 16 4 ∧
     c.arg 16 4 ≤ 2000000000 ∧ 64 ≤ c.arg 20 4 ∧ c.arg 20 4 ≤ 16777216 ∧ c.arg 24 8 = 0) ∧
    (let c := cmd 0x51 [(9, 1, 1), (24, 8, 16)]
     let s := (fetched c (live .forward)).settleRefunds
     runs s .ha 0 0x51 (anyBits c) c = true ∧ bit (c.arg 9 1) 0 = true ∧ shaperBad s c = false ∧
     c.arg 16 4 = 0 ∧ c.arg 20 4 = 0 ∧ c.arg 24 8 % 16 = 0) ∧
    (let c := cmd 0x51 [(8, 1, 2), (9, 1, 3)]
     let s := (fetched c (live .forward)).settleRefunds
     runs s .ha 0 0x51 (anyBits c) c = true ∧ shaperBad s c = true ∧ c.arg 8 1 ≤ 2) ∧
    (let s : State := { live .forward with sch.shapers := [(0, { Shaper.zero with rate := 1000 })] }
     s.sch.refunds = [] ∧ s.sch.shapers.wf (fun _ => Shaper.zero) = true ∧ s.shaper 0 ≠ Shaper.zero) ∧
    Shaper.zero.rate = 0 ∧ Shaper.zero.tok ≤ Shaper.zero.burst * 65536 ∧
    ({ Shaper.zero with rate := 1000 } : Shaper).rate ≠ 0 ∧ -((Shaper.zero.burst * 65536 : Nat) : Int) ≤ Shaper.zero.tok := by
  decide +kernel

/-- A policer of an algorithm, with its tokens. -/
def policing (mode tc te : Nat) : Policer := { Policer.zero with mode := mode, tc := tc, te := te }

theorem test_policers :
    (let s : State := { live .forward with sch.pol := [(15 * 16384, policing 1 65536 0)] }
     s.sch.owed = [] ∧ s.sch.pol.wf (fun _ => Policer.zero) = true ∧ s.policer 15 0 ≠ Policer.zero) ∧
    (let c := cmd 0x50 [(8, 2, 0x8000), (10, 2, 0x3FFF)]
     runs (fetched c (live .forward)) .ha 0 0x50 (policerLayout c) c = true ∧ bit (c.arg 13 1) 0 = false) ∧
    (let c := cmd 0x50 [(8, 2, 0x8000), (10, 2, 0x3FFF), (13, 1, 1), (32, 8, 32)]
     runs (fetched c (live .forward)) .ha 0 0x50 (policerLayout c) c = true ∧ bit (c.arg 13 1) 0 = true ∧
     maskSlices (c.arg 8 2) = [15] ∧ bit (c.arg 13 1) 1 = false ∧ c.arg 12 1 = 0 ∧ c.arg 16 4 = 0 ∧ c.arg 20 4 = 0 ∧
     c.arg 24 4 = 0 ∧ c.arg 28 4 = 0 ∧ c.arg 32 8 % 32 = 0) := by decide

theorem test_colours : (policing 2 0 0).alg = 2 ∧ (policing 1 0 0).alg = 1 ∧ (policing 0 0 0).alg = 0 ∧
    (policing 2 0 0).te < 1 * 65536 ∧ 1 * 65536 ≤ (policing 2 0 65536).te ∧ (policing 2 0 65536).tc < 1 * 65536 ∧
    1 * 65536 ≤ (policing 2 65536 65536).tc ∧ ((policing 2 65536 65535).police 0 1).1 = 2 ∧
    ((policing 1 65535 65536).police 0 1).1 = 1 := by decide

theorem test_histograms :
    (let s : State := { live .forward with regs := [(0xA0004, 1)] }
     bit (s.rd 0xA0004) 0 = true ∧ bit (s.rd 0xA0004) 1 = false ∧ s.devNs % 1024 = 0 ∧ s.mode = .forward) ∧
    (let s : State := { live .forward with regs := [(0xA0004, 0)] }
     bit (s.rd 0xA0004) 0 = false) := by decide

/-- Port 0 is up with a frame waiting in a class queue. -/
def waiting (tc : Nat) : State := { portIn .up with core.queues := [(classKey 0 tc, [{ frame with tc := tc }])] }

/-- A turn that runs for a member. -/
def turning (k : Nat) : Turn := { who := some k, runs := true }

theorem test_choice : (waiting 7).classEligible 0 7 = true ∧ (waiting 6).classEligible 0 7 = false ∧
    (waiting 6).classEligible 0 6 = true ∧ (waiting 0).bufLive = true ∧ (waiting 0).core.copies = [] ∧
   
    (let u := (waiting 0).settleRefunds.endTurns 0
     ((u.pickClass 0).map Prod.fst) = some 0 ∧ u.canSend 0 = true ∧
     ((dwrrPick u.quantum (u.members (classKey 0 0)) (fun k => u.headEligible 0 0 k)
       (u.sch.memTurn.get Turn.none (classKey 0 0)) u.sch.memDef).map Prod.fst) = some (classKey 0 0) ∧
     u.queue (classKey 0 0) = { frame with tc := 0 } :: []) ∧
    (let u := ((portIn .up).settleRefunds).endTurns 0
     u.canSend 0 = true ∧ u.pickClass 0 = none) ∧ (live .forward).canSend 511 = false ∧
    ((turning 9).keep fun k => decide (k = 9)).runs = true ∧ ((turning 9).keep fun k => decide (k = 8)).runs = false ∧
    SMap.wf (fun _ => 0) ([(4095, -5), (4096, 5)] : SMap Int) = true := by decide +kernel

/-- What a queue holds that is never sent is dropped at its head, and nothing where the buffer is not live. -/
theorem test_choice_frames : (waiting 0).queue (classKey 0 0) = { frame with tc := 0 } :: [] ∧ (live .park).bufLive = false ∧
    (live .drain).bufLive = true := by decide

theorem test_pfc : (portIn .up).xoffGroups 0 = [] ∧
    (let s : State := { portIn .up with now := 1000000000, regs := [(ptReg 0 0, 0x50), (ptReg 0 0xC, 0x4600)], core.xoff := [(7, 1)] }
     bits (s.macCfg 0) 15 14 = 1 ∧ s.xoffGroups 0 = [7] ∧ s.core.xoff.get 0 (0 * 8 + 7) + s.refreshPs 0 ≤ s.now * 1000 + 1) := by decide

theorem test_extent_choice :
    (let k := { packet with stage := .looked, fate := { Fate.zero with dest := some 0 } }
     let s : State := { holding k with buf.cnt0 := 0, buf.cnt1 := 0, buf.cnt2 := 0, buf.cnt3 := 0 }
     s.bufLive = true ∧ s.needsExtent 0 = some k ∧
     (s.take (pickLen k.bytes) k.tc7 (s.entityOf k) k.fate.queue k.owner Draw.zero k.bytes).1 = .noExtent ∧ k.late = .none ∧ (live .forward).needsExtent 511 = none) ∧
    (let k := { packet with stage := .looked, h := some 0, fate := { Fate.zero with dest := some 511 } }
     let s := ((holding k).upset Upset.none).bringCopies Draw.zero
     (holding k).bufLive = true ∧ s.nextEnqueue 0 false = some k ∧ k.fate.dest = some 511 ∧ k.fate.copy = none ∧ k.endsAt ≤ s.now ∧ k.late = .none ∧
     s.isUp 511 = false ∧ (live .forward).nextEnqueue 511 true = none) ∧
    (let k := { packet with stage := .looked, h := some 0, late := .fcs, fate := { Fate.zero with trap := some (63, 2, 0) } }
     (holding k).nextEnqueue 0 false = some k ∧ k.fate.dest = none ∧ k.fate.trap = some (63, 2, 0) ∧ k.late ≠ .none ∧
     (holding k).now < { k with endsAt := 1 }.endsAt) := by decide +kernel

theorem test_extent_choice_takes :
    (let k := { packet with stage := .looked, fate := { Fate.zero with dest := some 0 } }
     let s : State := { txReady with core.pkts := [k] }
     s.needsExtent 0 = some k ∧
     (s.take (pickLen k.bytes) k.tc7 (s.entityOf k) k.fate.queue k.owner Draw.zero k.bytes).1 = .got 0) ∧
    (let k := { packet with stage := .looked, late := .fcs, fate := { Fate.zero with dest := some 0 } }
     let s : State := { txReady with core.pkts := [k] }
     s.bufLive = true ∧ s.needsExtent 0 = some k ∧ k.late ≠ .none ∧ pickLen k.bytes ≠ none) := by decide +kernel

theorem test_core_timeouts :
    (let d := { frame with chan := some 0x7FFF }
     (portIn .up).isUp d.port = true ∧ d.chan = some 0x7FFF ∧
     (portIn .up).core.bind.get 0 0x7FFF ≠ classKey d.port d.tc + 1) ∧
    (let s : State := { live .forward with regs := [(ptReg 511 0x28, 256), (ptReg 511 0x180, 65536)] }
     s.bufLive = true ∧ s.isRecirc 511 = true ∧ bits (s.rd (ptReg 511 0x180)) 31 16 ≠ 0) ∧ (live .forward).isRecirc 511 = false ∧
    (let s : State := { waiting 0 with now := 2 }
     s.headWaited (classKey 0 0) 2 = false ∧ 1 < s.now - ({ frame with tc := 0 } : Desc).enqAt ∧
     s.queue (classKey 0 0) = { frame with tc := 0 } :: []) := by decide

theorem test_snapshot :
    (let c := cmd 0x58 [(8, 1, 2), (10, 1, 3)]
     let s := fetched c (live .forward)
     runs s .ha 0 0x58 (snapLayout c) c = true ∧ c.arg 8 1 ≤ 2 ∧ s.snapBad c = true) ∧
    (let c := cmd 0x58 [(8, 1, 1), (16, 4, 11)]
     let s := fetched c (live .forward)
     runs s .ha 0 0x58 (snapLayout c) c = true ∧ s.snapBad c = false ∧ c.arg 8 1 = 1 ∧ s.devTime + tenSec < c.time 16) ∧
    (let c := cmd 0x58 [(8, 1, 1), (16, 4, 10)]
     let s := fetched c (live .forward)
     s.snapBad c = false ∧ c.timeOk 16 = true ∧ c.time 16 ≤ s.devTime + tenSec) ∧
    (let c := cmd 0x58 [(8, 1, 3)]
     let s := fetched c (live .forward)
     runs s .ha 0 0x58 (snapLayout c) c = true ∧ c.arg 8 1 = 3 ∧ s.snapBad c = false ∧ s.tel.pend = none) ∧
    (let c := cmd 0x58 [(8, 1, 4)]
     let s := fetched c (live .forward)
     runs s .ha 0 0x58 (snapLayout c) c = true ∧ c.arg 8 1 = 4 ∧ s.snapBad c = false) := by decide

/-- A snapshot is pending. -/
def snapping (t : Nat) (at' : Option Nat) : State :=
  { live .forward with tel.pend := some { cmd := 0, trigger := t, at' := at', pin := 0, freeze := true } }

theorem test_snapshot_instant : ((snapping 1 (some 0)).tel.pend.map SnapReq.at') = some (some 0) ∧
    ((snapping 0 none).tel.pend.map SnapReq.at') = some none ∧
    (after (snapping 0 none) .snapshotInstant).tel.snapId = 1 := by decide

theorem test_ctr_read :
    (let c := cmd 0x59 [(8, 1, 12), (9, 1, 1), (10, 2, 2), (12, 4, 5), (16, 8, 8)]
     let s := fetched c (live .forward)
     runs s .ha 0 0x59 [whole 8 1, named 9 1 1, whole 10 2, whole 12 4, whole 16 8] c = true ∧ ctrSize (c.arg 8 1) ≠ 0 ∧
     c.arg 10 2 ≠ 0 ∧ c.arg 10 2 ≤ 512 ∧ c.arg 12 4 + c.arg 10 2 ≤ ctrSize (c.arg 8 1) ∧ c.arg 16 8 % 8 = 0 ∧
     bit (c.arg 9 1) 0 = true ∧ s.tel.snapId = 0) ∧
    (let s : State := { live .forward with now := 1000, tel.samples := [(15 * 64 + 63, { since := 0, admitted := [] })] }
     s.tel.samples = [] ++ (15 * 64 + 63, { since := 0, admitted := [] }) :: [] ∧ 0 + 1000 ≤ s.now) := by decide

theorem test_perf_user : Canonical (live .forward) ∧ (live .forward).served = true := by
  refine ⟨⟨?_, ?_⟩, ?_⟩ <;> decide

theorem test_register_write : (3 : Nat) % 4 ≠ 0 ∧ isWide 0x30004 = false ∧ 0x20 % 8 = 0 ∧ isWide 0x20 = true ∧
    (live .boot).hiWriteOk .hb .ha = false ∧ (live .boot).hiWriteOk .ha .hb = false ∧ (ringed.ring .ha 0).en = true ∧
    ((live .forward).ring .ha 255).en = false ∧ ((live .forward).ring .ha 255).active = false ∧ ringId 255 = true ∧ ((live .forward).ring .ha 5).en = false ∧ ((live .forward).ring .ha 5).active = false ∧ ringId 5 = true ∧
    (live .forward).regRule 0x3FFFFFC 0 1 = none ∧ (live .boot).takesRwc .hb = false ∧ (live .boot).takesRw .hb = false ∧
    (live .forward).regRule 0x30004 0 0x1FFFF = some (.rw, 0xFFFF) ∧ (live .forward).takesRw .ha = true ∧
    (live .configure).takesRwc .ha = true := by decide

/-! ## Invariants -/

theorem test_lawful : Lawful (asking .forward .drain) := by
  constructor
  · intro r h
    have : r = { cmd := none, target := .drain, flushAt := some 0, linkDown := false } := by
      simpa [asking] using h.symm
    subst this; decide
  · intro h; simp [asking, live] at h

theorem test_front_is_no_vote : ∀ c, ({ live .forward with pending := [.bootClock] } : State).pending.head? = some c →
    isVote c = false := by
  intro c h
  have : c = .bootClock := by simpa using h.symm
  subst this; decide

theorem test_key_hash : ({ live .forward with kennel.keyHash := some [1] } : State).kennel.keyHash = some [1] := by decide

theorem test_mode_pins : State.reset.mode = .reset ∧ (live .boot).mode ≠ .reset ∧ (live .boot).mode ≠ .safe ∧
    ((live .forward).ring .ha 63).en = false ∧ HostPort.hb ≠ (live .forward).active ∧ (255 : Fin 256).val ≠ 80 := by decide

theorem test_parts : Part.pending ∉ parts .bootClock := by decide

/-! ## Ill-formed commands are refused -/

theorem test_wf_link : (Instr.pcieLinkUp .ha 7 4).wf = false ∧ (Instr.pcieLinkUp .ha 6 3).wf = false ∧
    (Instr.pcieLinkUp .hb 3 1).wf = true := by decide

theorem test_wf_clock : (Instr.clockJudgeWindow 11 0 Draw.zero).wf = false ∧ (Instr.clockJudgeWindow 15 0 Draw.zero).wf = false ∧
    (Instr.clockJudgeWindow 10 0 Draw.zero).wf = true ∧ (Instr.clockJudgeWindow 16 0 Draw.zero).wf = true := by decide

theorem test_wf_descriptors : (Instr.commandFetch .ha 0 (List.replicate 63 0)).wf = false ∧
    (Instr.transmitDescriptor (List.replicate 33 0) [] Draw.zero).wf = false ∧
    (Instr.cpuQueueService (List.replicate 31 0) Upset.none Draw.zero).wf = false := by decide

theorem test_wf_nonces : (Instr.spdmChallenge .ha 0 [] true).wf = false ∧
    (Instr.spdmGetMeasurements .ha 1 false [0] true).wf = false := by decide

theorem test_wf_ports : (Instr.alignComplete 0 0 0 false 0 (List.replicate 9 0)).wf = false ∧
    (Instr.fecWindow 0 0 0 0 [] []).wf = false ∧ (Instr.macControlFrame 0 (List.replicate 13 0) false).wf = false := by decide

theorem test_wf_rows : (Instr.tcamRowSpare 0 65536).wf = false ∧ (Instr.tcamShadowScrub 0 [(65536, false, false)]).wf = false ∧
    (Instr.lookupComplete 0 [] [{ lookup := 9, search := 0, row := 0, stuck := false, shadow := false }] Draw.zero).wf = false := by decide

theorem test_wf_upsets : (Instr.enqueue 0 false ⟨0, 0⟩ { Upset.none with tiles := [(2097152, .tagTwo)] } Draw.zero).wf = false ∧
    (Instr.frameEgress 0 { Upset.none with recs := [(2 ^ 26, true)] } 0 []).wf = false ∧
    (Instr.cpuQueueService (List.replicate 32 0) { Upset.none with lists := [2 ^ 26] } Draw.zero).wf = false ∧
    (Instr.sheepdogSweep { Upset.none with lists := [2 ^ 26] }).wf = false := by decide

theorem test_wf_tester : (Instr.loopbackSelect .tester 0 2 Draw.zero).wf = false ∧
    (Instr.loopbackSelect (.host .ha) 0 2 Draw.zero).wf = true := by decide

theorem test_wf_answers : (Instr.pmbusCalibration [(0, none, 0), (0, none, 0)] 0).wf = false ∧
    (Instr.keelVote 0 [(1, 0, true), (1, 0, true)]).wf = false ∧ (Instr.collectorFault 2 true).wf = false := by decide

theorem test_wf_register : (Instr.registerWrite .ha 2 false 0).wf = false ∧ (Instr.registerWrite .ha 4 true 0).wf = false ∧
    (Instr.registerWrite .ha 4 false 0x100000000).wf = false := by decide

end Sys2Proof.Tests
end

section
/-! Registers and counters in canonical form (O51). The stored registers change by writes and by resets alone, the
counters by additions and by resets alone; each function that reaches one of these has a lemma here, and every other
function has in `Laws/` a lemma that it keeps the registers or the counters as they are. -/
namespace Sys2Proof.Machine
open Sys2Proof.Safety

/-! ### The two forms -/

/-- Counters in canonical form: rising offsets, and no entry that holds 0. -/
def CntsWf (m : SMap DWord) : Prop := m.wf (fun _ => 0) = true

/-- Stored registers in canonical form: rising offsets, and no entry that holds its reset value. -/
def RegsWf (m : SMap Word) : Prop := m.wf regReset = true

@[simp] theorem cntsWf_ite {c : Prop} [Decidable c] {a b : SMap DWord} (ha : CntsWf a) (hb : CntsWf b) :
    CntsWf (if c then a else b) := by
  split
  · exact ha
  · exact hb

@[simp] theorem regsWf_ite {c : Prop} [Decidable c] {a b : SMap Word} (ha : RegsWf a) (hb : RegsWf b) :
    RegsWf (if c then a else b) := by
  split
  · exact ha
  · exact hb

/-- A fold keeps the counters' form when each of its steps does. -/
theorem foldl_cntsWf {α : Type} {g : State → α → State} (hg : ∀ t a, CntsWf t.cnts → CntsWf (g t a).cnts)
    (l : List α) {s : State} (h : CntsWf s.cnts) : CntsWf (l.foldl g s).cnts :=
  List.foldlRecOn (motive := fun t : State => CntsWf t.cnts) l g h fun t ht a _ => hg t a ht

/-- A fold over pairs keeps the counters' form when each of its steps does. -/
theorem foldl_snd_cntsWf {α γ : Type} {g : γ × State → α → γ × State}
    (hg : ∀ t a, CntsWf t.2.cnts → CntsWf (g t a).2.cnts) (l : List α) {s : γ × State} (h : CntsWf s.2.cnts) :
    CntsWf (l.foldl g s).2.cnts :=
  List.foldlRecOn (motive := fun t : γ × State => CntsWf t.2.cnts) l g h fun t ht a _ => hg t a ht

/-- A fold keeps the registers' form when each of its steps does. -/
theorem foldl_regsWf {α : Type} {g : State → α → State} (hg : ∀ t a, RegsWf t.regs → RegsWf (g t a).regs)
    (l : List α) {s : State} (h : RegsWf s.regs) : RegsWf (l.foldl g s).regs :=
  List.foldlRecOn (motive := fun t : State => RegsWf t.regs) l g h fun t ht a _ => hg t a ht

/-- The state of a pair that a function answered has canonical counters when the function keeps them so. -/
theorem CntsWf.of_snd {β : Type} {p : β × State} {b : β} {t : State} (e : p = (b, t)) (h : CntsWf p.2.cnts) :
    CntsWf t.cnts := by
  rw [e] at h
  exact h

@[simp] theorem CntsWf.count {o n : Nat} {s : State} (h : CntsWf s.cnts) : CntsWf (s.count o n).cnts :=
  SMap.wf_set h o _

/-- What a command's own meaning, its completion and its waiting keep of a state holds after the command. -/
theorem State.runCmd_induct {P : State → Prop} (hc : ∀ c st a b {s : State}, P s → P (s.complete c st a b))
    (hw : ∀ c {s : State}, P s → P (s.wait c)) {p : HostPort} {n op : Nat} {row : Cmd → Bool}
    {layout : Cmd → List ArgField} {body : Cmd → State → Ran} {s : State} (hb : ∀ c {t}, P t → P (body c t).st)
    (hs : P s) : P (s.runCmd p n op row layout body) := by
  unfold State.runCmd
  split
  · exact hs
  next c _ =>
    have h := hb c hs
    split
    · split
      · exact hc _ _ _ _ hs
      · split
        · exact hc _ _ _ _ hs
        · split
          next e =>
            rw [e] at h
            exact hc _ _ _ _ h
          next e =>
            rw [e] at h
            exact hw _ h
    · exact hs

theorem CntsWf.runCmd {p : HostPort} {n op : Nat} {row : Cmd → Bool} {layout : Cmd → List ArgField}
    {body : Cmd → State → Ran} {s : State} (hb : ∀ c {t}, CntsWf t.cnts → CntsWf (body c t).st.cnts)
    (hs : CntsWf s.cnts) : CntsWf (s.runCmd p n op row layout body).cnts :=
  State.runCmd_induct (P := fun t => CntsWf t.cnts) (fun c st a b t ht => by simp [ht]) (fun c t ht => by simp [ht]) hb hs

theorem RegsWf.runCmd {p : HostPort} {n op : Nat} {row : Cmd → Bool} {layout : Cmd → List ArgField}
    {body : Cmd → State → Ran} {s : State} (hb : ∀ c {t}, RegsWf t.regs → RegsWf (body c t).st.regs)
    (hs : RegsWf s.regs) : RegsWf (s.runCmd p n op row layout body).regs :=
  State.runCmd_induct (P := fun t => RegsWf t.regs) (fun c st a b t ht => by simp [ht]) (fun c t ht => by simp [ht]) hb hs

/-- The next state that a meaning answers has canonical counters when the state it computes has. -/
theorem CntsWf.of_next {u t : State} (h : CntsWf u.cnts)
    (e : (Host.Outcome.next u : Host.Outcome State Fault Refusal) = .next t) : CntsWf t.cnts :=
  Host.Outcome.next.inj e ▸ h

/-- The next state that a meaning answers has canonical registers when the state it computes has. -/
theorem RegsWf.of_next {u t : State} (h : RegsWf u.regs)
    (e : (Host.Outcome.next u : Host.Outcome State Fault Refusal) = .next t) : RegsWf t.regs :=
  Host.Outcome.next.inj e ▸ h

/-! ### Functions that may count -/

section
variable {s : State} (hs : CntsWf s.cnts)
include hs

/-! #### Port counters -/

@[simp] theorem CntsWf.ptCount {p i n : Nat} : CntsWf (s.ptCount p i n).cnts := by
  simp [State.ptCount, hs]

/-! #### Extents and tiles -/

@[simp] theorem CntsWf.bpmCount {i n : Nat} : CntsWf (s.bpmCount i n).cnts := by
  simp [State.bpmCount, hs]

@[simp] theorem CntsWf.enterExt {h owner : Nat} {c : Charge} {data : List Byte} :
    CntsWf (s.enterExt h owner c data).cnts := by
  simp [State.enterExt, hs]

@[simp] theorem CntsWf.takeFrom {tc7 : Bool} {i : Option Nat} {q owner : Nat} {pick : Draw} {data : List Byte}
    {n k : Nat} : CntsWf (s.takeFrom tc7 i q owner pick data n k).2.cnts := by
  induction n generalizing k s with
  | zero => exact hs
  | succ n ih =>
    unfold State.takeFrom
    dsimp only
    (repeat' split) <;> simp [hs, ih]

@[simp] theorem CntsWf.take {len : Option Nat} {tc7 : Bool} {i : Option Nat} {q owner : Nat} {pick : Draw}
    {data : List Byte} : CntsWf (s.take len tc7 i q owner pick data).2.cnts := by
  unfold State.take
  split
  next e =>
    have h1 := CntsWf.of_snd e hs.takeFrom
    simp [h1]
  next => exact hs.takeFrom

@[simp] theorem CntsWf.bringSpare {t h old : Nat} {inj : Bool} {n i : Nat} :
    CntsWf (s.bringSpare t h old inj n i).cnts := by
  induction n generalizing i s with
  | zero => simp [State.bringSpare, hs]
  | succ n ih =>
    unfold State.bringSpare
    split
    · exact ih hs
    · split
      · exact ih (by simp [hs])
      · simp only [State.spareLow_keeps, State.follow_keeps, State.wearUse_keeps]
        exact CntsWf.bpmCount hs

@[simp] theorem CntsWf.retireTile {h t : Nat} {inj : Bool} : CntsWf (s.retireTile h t inj).cnts := by
  simp [State.retireTile, hs]

@[simp] theorem CntsWf.applyRetire {h : Nat} : CntsWf (s.applyRetire h).cnts :=
  foldl_cntsWf (fun t e ht => by simp [ht]) _ hs

@[simp] theorem CntsWf.freeExt {h : Nat} : CntsWf (s.freeExt h).cnts := by
  simp [State.freeExt, hs]

@[simp] theorem CntsWf.release {h tag : Nat} : CntsWf (s.release h tag).2.cnts := by
  unfold State.release
  dsimp only
  (repeat' split) <;> simp [hs]

@[simp] theorem CntsWf.readTile {tag t : Nat} {e : Option TileErr} {inj : Bool} :
    CntsWf (s.readTile tag t e inj).2.cnts := by
  unfold State.readTile
  split <;> simp [hs]

omit hs in
@[simp] theorem readTileAt_cntsWf {h tag : Nat} {acc : Option Nat × State} {j : Nat} (hs : CntsWf acc.2.cnts) :
    CntsWf (readTileAt h tag acc j).2.cnts := by
  unfold readTileAt
  split <;> simp [hs]

@[simp] theorem CntsWf.readTiles {h tag n : Nat} : CntsWf (s.readTiles h tag n).2.cnts :=
  foldl_snd_cntsWf (fun _ _ ht => readTileAt_cntsWf ht) _ hs

/-! #### Streams -/

@[simp] theorem CntsWf.frerCount {i k : Nat} : CntsWf (s.frerCount i k).cnts := by
  simp [State.frerCount, hs]

/-! #### The scheduler -/

@[simp] theorem CntsWf.schCount {i n : Nat} : CntsWf (s.schCount i n).cnts := by
  simp [State.schCount, hs]

@[simp] theorem CntsWf.choose {p tc k : Nat} {d : Desc} {rest : List Desc} :
    CntsWf (s.choose p tc k d rest).cnts := by
  unfold State.choose
  extract_lets len q ks s1 s2 _ s3 s4
  have h4 : CntsWf s4.cnts := CntsWf.schCount (CntsWf.schCount (by simp [s3, s2, s1, hs]))
  split
  · exact h4
  · exact h4.schCount

@[simp] theorem CntsWf.chooseNext {p : Nat} : CntsWf (s.chooseNext p).cnts := by
  unfold State.chooseNext
  dsimp only
  (repeat' split) <;> simp [hs]

/-! #### Copies, drops and postcards -/

@[simp] theorem CntsWf.coreCount {i n : Nat} : CntsWf (s.coreCount i n).cnts := by
  simp [State.coreCount, hs]

@[simp] theorem CntsWf.push {k : Nat} {d : Desc} : CntsWf (s.push k d).cnts := by
  simp [State.push, hs]

@[simp] theorem CntsWf.offer {k : Nat} {d : Desc} : CntsWf (s.offer k d).cnts := by
  simp [State.offer, hs]

@[simp] theorem CntsWf.countDrop {r : Nat} {inPort : Option Nat} : CntsWf (s.countDrop r inPort).cnts := by
  unfold State.countDrop
  extract_lets s s1
  have h1 : CntsWf s1.cnts := CntsWf.count (by simp [s, hs])
  split
  · split
    · exact h1
    · exact h1.count
  · exact h1

@[simp] theorem CntsWf.makeCopy {m q : Nat} {pick : Draw} {d : Desc} {o : Orig} :
    CntsWf (s.makeCopy m q pick d o).2.cnts := by
  unfold State.makeCopy
  dsimp only
  (repeat' split) <;> simp [hs]

@[simp] theorem CntsWf.mirDiscard {o : Orig} : CntsWf (s.mirDiscard o).cnts := by
  simp [State.mirDiscard, hs]

@[simp] theorem CntsWf.mirLost {x : Made} {o : Orig} : CntsWf (s.mirLost x o).cnts := by
  unfold State.mirLost
  split <;> simp [hs]

@[simp] theorem CntsWf.putFallback {m : Nat} {d : Desc} : CntsWf (s.putFallback m d).cnts :=
  CntsWf.coreCount (CntsWf.coreCount (CntsWf.offer (by simp [hs])))

@[simp] theorem CntsWf.fallbackCopy {m : Nat} {pick : Draw} {o : Orig} : CntsWf (s.fallbackCopy m pick o).cnts := by
  unfold State.fallbackCopy
  extract_lets fb n x s1 _ d r
  have h1 : CntsWf s1.cnts := by simp [s1, hs]
  have hr : CntsWf r.2.cnts := by simp [r, h1]
  (repeat' split) <;> simp [h1, hr]

@[simp] theorem CntsWf.captureRecord {m code : Nat} {egress : Option Nat} {time reason : Nat} {bad : Bool}
    {o : Orig} : CntsWf (s.captureRecord m code egress time reason bad o).cnts := by
  unfold State.captureRecord
  extract_lets x
  have hx : CntsWf x.2.cnts := by
    unfold x
    split <;> simp [hs]
  split
  · exact hx.countDrop
  · dsimp only
    split <;> simp [hx]

@[simp] theorem CntsWf.captureCopy {m code : Nat} {egress : Option Nat} {time reason : Nat} {pick : Draw}
    {bad : Bool} {o : Orig} : CntsWf (s.captureCopy m code egress time reason pick bad o).cnts := by
  simp [State.captureCopy, hs]

@[simp] theorem CntsWf.mirrorCopy {m code : Nat} {egress : Option Nat} {time reason : Nat} {pick : Draw}
    {bad : Bool} {o : Orig} : CntsWf (s.mirrorCopy m code egress time reason pick bad o).cnts := by
  unfold State.mirrorCopy
  extract_lets dest p tc _ d q d'
  split
  · exact hs
  · split
    next go s1 e =>
      have h1 : CntsWf s1.cnts := CntsWf.of_snd e (by simp [hs])
      split
      · exact h1
      · split
        · split
          · exact h1.mirDiscard
          · split
            next e => exact (CntsWf.of_snd e h1.makeCopy).offer.coreCount
            next e => exact (CntsWf.of_snd e h1.makeCopy).mirLost
        · split
          next e => exact (CntsWf.of_snd e h1.makeCopy).offer.coreCount
          next e => exact (CntsWf.of_snd e h1.makeCopy).mirLost
        · exact h1.captureCopy

@[simp] theorem CntsWf.pmcAdd {n c k : Nat} : CntsWf (s.pmcAdd n c k).cnts := by
  simp [State.pmcAdd, hs]

@[simp] theorem CntsWf.pmc {n ev : Nat} {arg : Nat → Bool} {port : Option Nat} {slot : Bool} {k : Nat} :
    CntsWf (s.pmc n ev arg port slot k).cnts := by
  unfold State.pmc
  split
  · exact hs
  · exact foldl_cntsWf (fun t c ht => by simp [ht]) _ hs

@[simp] theorem CntsWf.pmc0 {n ev : Nat} {port : Option Nat} {k : Nat} : CntsWf (s.pmc0 n ev port k).cnts := by
  simp [State.pmc0, hs]

@[simp] theorem CntsWf.lossEvt {r sl : Nat} {via : Option Nat} : CntsWf (s.lossEvt r sl via).cnts := by
  unfold State.lossEvt
  split <;> simp [hs]

@[simp] theorem CntsWf.dropCopy {r : Nat} {pick : Draw} {o : Orig} : CntsWf (s.dropCopy r pick o).cnts := by
  unfold State.dropCopy
  extract_lets v m egress s1
  have h1 : CntsWf s1.cnts := by simp [s1, hs]
  exact h1.countDrop.lossEvt

@[simp] theorem CntsWf.done {d : Desc} : CntsWf (s.done d).2.cnts := by
  unfold State.done
  split <;> simp [hs]

@[simp] theorem CntsWf.dropDesc {r : Nat} {pick : Draw} {d : Desc} : CntsWf (s.dropDesc r pick d).cnts := by
  unfold State.dropDesc
  split <;> simp [hs]

@[simp] theorem CntsWf.bringCopy {pick : Draw} {e : Nat × Desc} : CntsWf (s.bringCopy pick e).cnts := by
  unfold State.bringCopy
  split <;> simp [hs]

@[simp] theorem CntsWf.bringCopies {pick : Draw} : CntsWf (s.bringCopies pick).cnts :=
  foldl_cntsWf (fun _ _ ht => ht.bringCopy) _ hs

@[simp] theorem CntsWf.perfCount {i n : Nat} : CntsWf (s.perfCount i n).cnts := by
  simp [State.perfCount, hs]

omit hs in
@[simp] theorem queueCard_cntsWf {p tc sl time len : Nat} {r : Took × State} (hs : CntsWf r.2.cnts) :
    CntsWf (queueCard p tc sl time len r).2.cnts := by
  unfold queueCard
  split <;> simp [hs]

@[simp] theorem CntsWf.cardFrame {m time sl : Nat} {pick : Draw} {e : Evt} :
    CntsWf (s.cardFrame m time sl pick e).2.cnts := by
  unfold State.cardFrame
  dsimp only
  split <;> simp [hs]

@[simp] theorem CntsWf.sendPostcard {code source time sl : Nat} {pick : Draw} {detail : List Byte} :
    CntsWf (s.sendPostcard code source time sl pick detail).cnts := by
  unfold State.sendPostcard
  dsimp only
  (repeat' split) <;> simp [hs]

/-! #### Slots and packets -/

@[simp] theorem CntsWf.slotCount {n : Nat} {c : SlotClass} : CntsWf (s.slotCount n c).cnts := by
  unfold State.slotCount
  split <;> simp [hs]

@[simp] theorem CntsWf.slotFill {n : Nat} : CntsWf (s.slotFill n).cnts := by
  unfold State.slotFill
  split <;> simp [hs]

@[simp] theorem CntsWf.slotLeave {n : Nat} {c : SlotClass} : CntsWf (s.slotLeave n c).cnts := by
  unfold State.slotLeave
  split <;> simp [hs]

@[simp] theorem CntsWf.dropPkt {r : Nat} {pick : Draw} {k : Pkt} : CntsWf (s.dropPkt r pick k).cnts := by
  unfold State.dropPkt
  dsimp only
  split <;> simp [hs]

/-! #### The MACs -/

@[simp] theorem CntsWf.macControl {p : Nat} {b : List Byte} : CntsWf (s.macControl p b).cnts := by
  unfold State.macControl
  extract_lets cfg fc named time s1
  have h1 : CntsWf s1.cnts := foldl_cntsWf (fun t n ht => by simp [ht]) _ hs
  split
  · split
    · exact foldl_cntsWf (fun t c ht => by simp [ht]) _ hs.ptCount
    · exact hs.ptCount
  · split
    · exact foldl_cntsWf (fun t n ht => by simp [ht]) _ h1.ptCount
    · exact h1.ptCount
  · exact hs.ptCount

@[simp] theorem CntsWf.passOn {p : Nat} {b : List Byte} {late : Late} : CntsWf (s.passOn p b late).cnts := by
  unfold State.passOn
  split <;> simp [hs]

@[simp] theorem CntsWf.receive {p : Nat} {b : List Byte} {errored : Bool} :
    CntsWf (s.receive p b errored).cnts := by
  unfold State.receive
  dsimp only
  (repeat' split) <;> simp [hs, hs.ptCount]

@[simp] theorem CntsWf.lineOut {p : Nat} {b : List Byte} {bad : Bool} : CntsWf (s.lineOut p b bad).cnts := by
  unfold State.lineOut
  split <;> simp [hs]

@[simp] theorem CntsWf.sendMac {p : Nat} {payload : List Byte} : CntsWf (s.sendMac p payload).cnts := by
  unfold State.sendMac
  split
  · exact hs.ptCount.coreCount.ptCount.ptCount.lineOut
  · exact hs

@[simp] theorem CntsWf.putLine {p : Nat} {b : List Byte} {bad : Bool} : CntsWf (s.putLine p b bad).cnts := by
  unfold State.putLine
  extract_lets s1
  have h1 : CntsWf s1.cnts := hs.ptCount.ptCount
  refine CntsWf.lineOut ?_
  split
  · exact h1.ptCount
  · exact h1

@[simp] theorem CntsWf.finishSending {p : Nat} : CntsWf (s.finishSending p).cnts := by
  unfold State.finishSending
  extract_lets _ s1
  have h1 : CntsWf s1.cnts := hs
  split
  · exact hs
  · split
    · exact h1.putLine
    · extract_lets s2 s3
      have h2 : CntsWf s2.cnts := h1.ptCount.ptCount
      have h3 : CntsWf s3.cnts := by simp [s3, h2]
      split
      · exact h3.receive
      · exact h3

@[simp] theorem CntsWf.lineUpdate {p : Nat} : CntsWf (s.lineUpdate p).cnts := by
  unfold State.lineUpdate
  (repeat' split) <;> simp [hs]

@[simp] theorem CntsWf.sendFlow {p : Nat} {changed : List Nat} {before : Bool} :
    CntsWf (s.sendFlow p changed before).cnts := by
  unfold State.sendFlow
  dsimp only
  (repeat' split) <;> simp [hs]

@[simp] theorem CntsWf.xoffMove {i : Nat} : CntsWf (s.xoffMove i).cnts := by
  simp [State.xoffMove, hs]

@[simp] theorem CntsWf.pfcUpdate : CntsWf (s.pfcUpdate).cnts := by
  unfold State.pfcUpdate
  extract_lets es changed s1
  have h1 : CntsWf s1.cnts := foldl_cntsWf (fun _ _ ht => ht.xoffMove) _ hs
  exact foldl_cntsWf (fun _ _ ht => ht.sendFlow) _ h1

/-! #### Engines and parses -/

@[simp] theorem CntsWf.emptyHeadQ {n : Nat} : CntsWf (s.emptyHeadQ n).cnts := by
  unfold State.emptyHeadQ
  split
  · exact hs
  · exact foldl_cntsWf (fun _ _ ht => ht.slotLeave.dropPkt) _ hs

@[simp] theorem CntsWf.retireEngine {n e : Nat} {inj : Bool} : CntsWf (s.retireEngine n e inj).cnts := by
  unfold State.retireEngine
  dsimp only
  (repeat' split) <;> simp [hs]

@[simp] theorem CntsWf.parseCount {n i : Nat} : CntsWf (s.parseCount n i).cnts := by
  simp [State.parseCount, hs]

@[simp] theorem CntsWf.countParse {k : Pkt} {x : Par} : CntsWf (s.countParse k x).cnts := by
  have tick : ∀ {c : Bool} {i : Nat} {t : State}, CntsWf t.cnts →
      CntsWf (if c then t.parseCount k.slice i else t).cnts := by
    intro c i t ht
    split
    · exact ht.parseCount
    · exact ht
  unfold State.countParse
  extract_lets n _ s1 s2 s3 s4 s5
  have h5 : CntsWf s5.cnts := (tick (tick (tick (tick (tick hs))))).count.count.pmc0
  split
  · exact h5
  · exact h5.pmc

/-! #### Row repair -/

@[simp] theorem CntsWf.classCount {n i : Nat} : CntsWf (s.classCount n i).cnts := by
  simp [State.classCount, hs]

@[simp] theorem CntsWf.parityLoop {n lookup : Nat} {hits : List Nat → List (Nat × Nat)} {errs : List RowErr}
    {fuel i : Nat} {excl : List Nat} : CntsWf (s.parityLoop n lookup hits errs fuel i excl).2.cnts := by
  induction fuel generalizing i excl s with
  | zero => exact hs
  | succ fuel ih =>
    have hx : ∀ rows : List Nat, CntsWf (rows.foldl (rowCheck n lookup i errs) (([] : List Nat), s)).2.cnts := by
      intro rows
      exact foldl_snd_cntsWf (s := (([] : List Nat), s)) (fun t a ht => by simp [ht]) rows hs
    unfold State.parityLoop
    dsimp only
    split
    · exact hx _
    · split
      · exact (hx _).classCount
      · exact ih (hx _).classCount

/-! #### The endpoint table -/

@[simp] theorem CntsWf.epCount {i : Nat} : CntsWf (s.epCount i).cnts := by
  simp [State.epCount, hs]

@[simp] theorem CntsWf.epError {l : Nat} {e : EccErr} {inj : Bool} : CntsWf (s.epError l e inj).cnts := by
  unfold State.epError
  dsimp only
  (repeat' split) <;> simp [hs]

@[simp] theorem CntsWf.epErr {l : Nat} {e : Option EccErr} {inj : Bool} : CntsWf (s.epErr l e inj).cnts := by
  unfold State.epErr
  split <;> simp [hs]

@[simp] theorem CntsWf.epCheck {ls : List Nat} {errs : List (Nat × EccErr)} : CntsWf (s.epCheck ls errs).cnts :=
  foldl_cntsWf (fun t l ht => by simp [ht]) _ hs

@[simp] theorem CntsWf.epHit {hit : Option Nat} : CntsWf (s.epHit hit).2.cnts := by
  unfold State.epHit
  (repeat' split) <;> simp [hs]

@[simp] theorem CntsWf.epLookup {e : EpEnt} {errs : List (Nat × EccErr)} : CntsWf (s.epLookup e errs).2.cnts :=
  hs.epCheck.epCount.epHit

@[simp] theorem CntsWf.migBucket {m : Mig} {b : Nat} {sp : Space} {cursor : Nat} {errs : List (Nat × EccErr)} :
    CntsWf (s.migBucket m b sp cursor errs).cnts := by
  simp [State.migBucket, hs]

@[simp] theorem CntsWf.migForward {m : Mig} {errs : List (Nat × EccErr)} : CntsWf (s.migForward m errs).cnts := by
  unfold State.migForward
  (repeat' split) <;> simp [hs]

@[simp] theorem CntsWf.migBack {m : Mig} {errs : List (Nat × EccErr)} : CntsWf (s.migBack m errs).cnts := by
  unfold State.migBack
  (repeat' split) <;> simp [hs]

@[simp] theorem CntsWf.migStep {errs : List (Nat × EccErr)} : CntsWf (s.migStep errs).cnts := by
  unfold State.migStep
  (repeat' split) <;> simp [hs]

/-! #### The direct table and ECMP groups -/

@[simp] theorem CntsWf.ecmpPick {n grp : Nat} {key : List Byte} {port : Nat} {errs : List (Nat × EccErr)} :
    CntsWf (s.ecmpPick n grp key port errs).2.cnts := by
  unfold State.ecmpPick
  extract_lets lost
  have hl : ∀ {t : State}, CntsWf t.cnts → CntsWf (lost t).2.cnts := fun ht => ht.count
  split
  next e =>
    have h1 := CntsWf.of_snd e (by simp [hs])
    extract_lets g h
    split
    · exact hl h1
    · split
      next e => exact CntsWf.of_snd e (by simp [h1])
      next e => exact hl (CntsWf.of_snd e (by simp [h1]))

/-! #### LPM routes -/

@[simp] theorem CntsWf.lpmSearch {n cls : Nat} {key : List Byte} {errs : List RowErr} :
    CntsWf (s.lpmSearch n cls key errs).2.cnts := by
  unfold State.lpmSearch
  extract_lets v6 addr hits w
  split
  next e => exact CntsWf.of_snd e hs.parityLoop
  next e => exact CntsWf.of_snd e hs.parityLoop

/-! #### The L2 tables -/

@[simp] theorem CntsWf.l2Count {n i : Nat} : CntsWf (s.l2Count n i).cnts := by
  simp [State.l2Count, hs]

@[simp] theorem CntsWf.originate {r : LearnRec} : CntsWf (s.originate r).cnts := by
  simp [State.originate, hs]

@[simp] theorem CntsWf.l2Source {n port vid mac : Nat} {errs : List (Nat × EccErr)} :
    CntsWf (s.l2Source n port vid mac errs).cnts := by
  unfold State.l2Source
  dsimp only
  (repeat' split) <;> simp [hs]

@[simp] theorem CntsWf.applyLearn {n : Nat} {r : LearnRec} : CntsWf (s.applyLearn n r).cnts := by
  unfold State.applyLearn
  (repeat' split) <;> simp [hs]

@[simp] theorem CntsWf.pinNew {n : Nat} {r : LearnRec} : CntsWf (s.pinNew n r).cnts := by
  unfold State.pinNew
  split <;> simp [hs]

@[simp] theorem CntsWf.applyMove {n : Nat} {flap : Bool} {r : LearnRec} : CntsWf (s.applyMove n flap r).cnts := by
  unfold State.applyMove
  extract_lets own
  split
  · split
    · exact hs.applyLearn.pinNew
    · exact hs.applyLearn
  · split
    · exact hs.l2Count
    · split
      · exact hs.l2Count
      · extract_lets e1 s1 s2
        have h1 : CntsWf s1.cnts := CntsWf.l2Count (CntsWf.l2Count (by simp [hs]))
        have h2 : CntsWf s2.cnts := by simp [s2, h1]
        split <;> simp [h2]

@[simp] theorem CntsWf.applyRec {n : Nat} {r : LearnRec} : CntsWf (s.applyRec n r).cnts := by
  unfold State.applyRec
  (repeat' split) <;> simp [hs]

/-! #### Lookups and fates -/

@[simp] theorem CntsWf.walks {k : Pkt} {errs : List (Nat × EccErr)} {ts : List Nat} :
    CntsWf (s.walks k errs ts).2.cnts := by
  induction ts generalizing s with
  | nil => exact hs
  | cons t r ih =>
    unfold State.walks
    extract_lets n
    have hw : ∀ {w : Walked} {s1 : State}, s.walk n k.gen (k.keyNat 0) errs 24
        (bits ((s.treeBank k.gen).roots.get 0 t) 13 0) = (w, s1) → CntsWf s1.cnts := fun e =>
      CntsWf.of_snd e (by simp [hs])
    split
    next e => exact (hw e).classCount
    next e => exact ih (hw e).classCount.pmc0
    next e =>
      split
      next e1 => exact CntsWf.of_snd e1 (ih (hw e))
      next e1 => exact CntsWf.of_snd e1 (ih (hw e))

@[simp] theorem CntsWf.aclWords {k : Pkt} {cls : Nat} {errs : List RowErr} {m l : Nat} :
    CntsWf (s.aclWords k cls errs m l).2.cnts := by
  induction m generalizing l s with
  | zero => exact hs
  | succ m ih =>
    unfold State.aclWords
    extract_lets n key
    split
    next e => exact CntsWf.of_snd e hs.parityLoop
    next e =>
      have h1 := CntsWf.of_snd e hs.parityLoop
      split
      · exact ih h1
      · split
        next e => exact CntsWf.of_snd e (ih h1.pmc)
        next e => exact CntsWf.of_snd e (ih h1.pmc)

omit hs in
@[simp] theorem epAnswer_cntsWf {k : Pkt} {r : Option (Nat × EpEnt) × State} (hs : CntsWf r.2.cnts) :
    CntsWf (epAnswer k r).2.cnts := by
  unfold epAnswer
  (repeat' split) <;> simp [hs]

@[simp] theorem CntsWf.epResult {k : Pkt} {cls : Nat} {errs : List MemErr} :
    CntsWf (s.epResult k cls errs).2.cnts := by
  unfold State.epResult
  extract_lets cfg t hi key s0
  split
  · exact hs
  · split
    · split
      next e => exact CntsWf.of_snd e (by simp [hs])
      next e => exact CntsWf.of_snd e (by simp [hs])
    · exact epAnswer_cntsWf hs.pmc0.epLookup

@[simp] theorem CntsWf.lpmResult {k : Pkt} {cls : Nat} {rows : List RowErr} :
    CntsWf (s.lpmResult k cls rows).2.cnts := by
  unfold State.lpmResult
  split
  · exact hs
  · split
    next e => exact CntsWf.of_snd e hs.lpmSearch
    next e => exact CntsWf.of_snd e hs.lpmSearch
    next e => exact (CntsWf.of_snd e hs.lpmSearch).pmc0

@[simp] theorem CntsWf.forward {k : Pkt} {asL2 : Bool} {cls : Nat} {errs : List MemErr} {rows : List RowErr} :
    CntsWf (s.forward k asL2 cls errs rows).2.cnts := by
  unfold State.forward
  extract_lets s1
  have h1 : CntsWf s1.cnts := by simp [s1, hs]
  split
  · split
    next e =>
      have h1 := CntsWf.of_snd e hs.epResult
      simp [h1]
    next e =>
      have h1 := CntsWf.of_snd e hs.epResult
      split
      next e =>
        have h2 := CntsWf.of_snd e h1.lpmResult
        simp [h2]
      next => exact h1.lpmResult
  · split
    · exact h1
    · exact h1.l2Count.pmc0

@[simp] theorem CntsWf.groupDest {k : Pkt} {g : Nat} {errs : List MemErr} :
    CntsWf (s.groupDest k g errs).2.cnts := by
  unfold State.groupDest
  split
  next e => exact CntsWf.of_snd e hs.ecmpPick
  next e => exact CntsWf.of_snd e hs.ecmpPick

@[simp] theorem CntsWf.foundDest {k : Pkt} {f : Found} {errs : List MemErr} :
    CntsWf (s.foundDest k f errs).2.cnts := by
  unfold State.foundDest
  (repeat' split) <;> simp [hs]

@[simp] theorem CntsWf.destOf {k : Pkt} {ws : List (Nat × Nat)} {f : Found} {errs : List MemErr} :
    CntsWf (s.destOf k ws f errs).2.cnts := by
  unfold State.destOf
  dsimp only
  (repeat' split) <;> simp [hs]

@[simp] theorem CntsWf.police {k : Pkt} {i : Nat} : CntsWf (s.police k i).2.cnts := by
  unfold State.police
  dsimp only
  (repeat' split) <;> simp [hs]

/-! #### Admission and the action stage -/

@[simp] theorem CntsWf.dropAtAdmission {r : Nat} {pick : Draw} {k : Pkt} :
    CntsWf (s.dropAtAdmission r pick k).cnts := by
  simp [State.dropAtAdmission, hs]

@[simp] theorem CntsWf.dropArrivals {n : Nat} {pick : Draw} : CntsWf (s.dropArrivals n pick).cnts := by
  refine foldl_cntsWf (fun t k ht => ?_) _ hs
  split
  · exact ht.dropAtAdmission
  · split
    · exact ht.dropAtAdmission
    · exact ht

@[simp] theorem CntsWf.admitPkt {k : Pkt} : CntsWf (s.admitPkt k).cnts := by
  unfold State.admitPkt
  extract_lets n wait k1 k2 _ s1 s2 s3 s4
  have h2 : CntsWf s2.cnts := by simp [s2, s1, hs]
  have h3 : CntsWf s3.cnts := CntsWf.pmc0 (CntsWf.pmc0 (CntsWf.slotFill (by simp [h2])))
  have h4 : CntsWf s4.cnts := by simp [s4, h3]
  split
  · exact h4.pmc0
  · exact h4

@[simp] theorem CntsWf.emptySlot {n : Nat} {kind : SlotKind} {waited : Bool} :
    CntsWf (s.emptySlot n kind waited).cnts := by
  unfold State.emptySlot
  extract_lets s1 s2
  have h1 : CntsWf s1.cnts := hs.slotCount
  have h2 : CntsWf s2.cnts := h1.slotCount
  (repeat' split) <;> simp [h1, h2]

@[simp] theorem CntsWf.giveSlot {k : Pkt} {pick : Draw} {kind : SlotKind} :
    CntsWf (s.giveSlot k pick kind).cnts := by
  unfold State.giveSlot
  extract_lets n
  split
  · exact hs.admitPkt
  · split
    · split
      · exact hs.slotLeave.dropPkt.admitPkt
      · exact hs.dropAtAdmission.emptySlot
    · exact hs.dropAtAdmission.emptySlot

@[simp] theorem CntsWf.dropLost {n : Nat} {lost : List Nat} {pick : Draw} : CntsWf (s.dropLost n lost pick).cnts :=
  foldl_cntsWf (fun t k ht => by simp [ht]) _ hs

@[simp] theorem CntsWf.postSample {key : Nat} {pick : Draw} {c : Card} : CntsWf (s.postSample key pick c).cnts := by
  simp [State.postSample, hs]

@[simp] theorem CntsWf.sampleLeave {k : Pkt} {pick : Draw} : CntsWf (s.sampleLeave k pick).cnts :=
  foldl_cntsWf (fun _ _ ht => ht.postSample) _ hs

@[simp] theorem CntsWf.lookups {k : Pkt} {asL2 : Bool} {errs : List MemErr} {rows : List RowErr} :
    CntsWf (s.lookups k asL2 errs rows).2.cnts := by
  unfold State.lookups
  split
  next e => exact CntsWf.of_snd e hs.walks
  next e =>
    have h1 := CntsWf.of_snd e hs.walks
    extract_lets cls
    split
    next e => exact CntsWf.of_snd e h1.aclWords
    next e =>
      have h2 := CntsWf.of_snd e h1.aclWords
      split
      next e => exact CntsWf.of_snd e h2.forward
      next e => exact CntsWf.of_snd e h2.forward

@[simp] theorem CntsWf.learnFrom {k : Pkt} {errs : List MemErr} : CntsWf (s.learnFrom k errs).cnts := by
  simp [State.learnFrom, hs]

@[simp] theorem CntsWf.actionDrop {r : Nat} {pick : Draw} {k : Pkt} : CntsWf (s.actionDrop r pick k).cnts :=
  hs.sampleLeave.slotLeave.dropPkt

@[simp] theorem CntsWf.actionDone {pick : Draw} {k : Pkt} {f : Fate} : CntsWf (s.actionDone pick k f).cnts := by
  simp [State.actionDone, hs]

@[simp] theorem CntsWf.dropKeepCopy {r : Nat} {pick : Draw} {q mid : Nat} {k : Pkt} {f : Fate} :
    CntsWf (s.dropKeepCopy r pick q mid k f).cnts := by
  unfold State.dropKeepCopy
  extract_lets k1 s1 k2
  have h1 : CntsWf s1.cnts := hs.dropCopy
  simp [h1]

@[simp] theorem CntsWf.policed {k : Pkt} {pol : Option (Nat × Nat)} : CntsWf (State.policed k pol s).2.2.cnts := by
  unfold State.policed
  split <;> simp [hs]

@[simp] theorem CntsWf.settleFate {d : Dest} {red : Bool} {f : Fate} {pick : Draw} {k : Pkt} :
    CntsWf (s.settleFate d red f pick k).cnts := by
  unfold State.settleFate
  (repeat' split) <;> simp [hs]

@[simp] theorem CntsWf.applyActions {k : Pkt} {ws : List (Nat × Nat)} {cls : Nat} {found : Found}
    {errs : List MemErr} {pick : Draw} : CntsWf (s.applyActions k ws cls found errs pick).cnts := by
  unfold State.applyActions
  extract_lets r x dropWord f
  exact CntsWf.settleFate hs.destOf.policed

/-! #### The switch core -/

@[simp] theorem CntsWf.ecnMark {via r1 r2 : Nat} {d : Desc} {b : List Byte} :
    CntsWf (s.ecnMark via r1 r2 d b).2.cnts := by
  unfold State.ecnMark
  dsimp only
  (repeat' split) <;> simp [hs]

@[simp] theorem CntsWf.frerAdd {i k n : Nat} : CntsWf (s.frerAdd i k n).cnts := by
  simp [State.frerAdd, hs]

@[simp] theorem CntsWf.frerRecover {i : Nat} {b : List Byte} : CntsWf (s.frerRecover i b).2.cnts := by
  unfold State.frerRecover
  (repeat' split) <;> simp [hs]

@[simp] theorem CntsWf.frerGenerate {i : Nat} {b : List Byte} {d : Desc} :
    CntsWf (s.frerGenerate i b d).2.cnts := by
  simp [State.frerGenerate, hs]

@[simp] theorem CntsWf.splitCopy {i : Nat} {pick : Draw} {d : Desc} {b : List Byte} :
    CntsWf (s.splitCopy i pick d b).cnts := by
  unfold State.splitCopy
  extract_lets ctl p q e o x
  have hx : CntsWf x.2.cnts := hs.readTiles
  split
  · exact hs
  · split
    · exact hs.dropCopy
    · split
      · exact hs.dropCopy
      · split
        · exact hx.countDrop
        · split
          next e => exact (CntsWf.of_snd e hx.take).offer
          next e => exact (CntsWf.of_snd e hx.take).countDrop
          next e => exact (CntsWf.of_snd e hx.take).countDrop

@[simp] theorem CntsWf.giveBack {k : Pkt} : CntsWf (s.giveBack k).cnts := by
  unfold State.giveBack
  split <;> simp [hs]

omit hs in
@[simp] theorem growTo_cntsWf {k : Pkt} {p o n : Nat} {b : List Byte} {r : Took × State} (hs : CntsWf r.2.cnts) :
    CntsWf (growTo k p o n b r).2.2.2.cnts := by
  unfold growTo
  split <;> simp [hs]

@[simp] theorem CntsWf.growFrame {k : Pkt} {p : Nat} {pick : Draw} :
    CntsWf (State.growFrame k p pick s).2.2.2.cnts := by
  unfold State.growFrame
  (repeat' split) <;> simp [hs]

@[simp] theorem CntsWf.rewriteFault {k : Pkt} : CntsWf (s.rewriteFault k).2.cnts := by
  unfold State.rewriteFault
  (repeat' split) <;> simp [hs]

@[simp] theorem CntsWf.hostCopy {k : Pkt} {q mid : Nat} : CntsWf (s.hostCopy k q mid).cnts := by
  unfold State.hostCopy
  split <;> simp [hs]

@[simp] theorem CntsWf.enqueueMirrors {k : Pkt} {d : Desc} {held : Bool} {egress : Option Nat} {pick : Draw} :
    CntsWf (s.enqueueMirrors k d held egress pick).cnts := by
  unfold State.enqueueMirrors
  dsimp only
  (repeat' split) <;> simp [hs]

@[simp] theorem CntsWf.frerFirst {func i : Nat} {b : List Byte} : CntsWf (s.frerFirst func i b).2.cnts := by
  simp [State.frerFirst, hs]

@[simp] theorem CntsWf.frerTag {func i : Nat} {b : List Byte} {d : Desc} :
    CntsWf (s.frerTag func i b d).2.cnts := by
  simp [State.frerTag, hs]

@[simp] theorem CntsWf.frerSplit {func i : Nat} {pick : Draw} {d : Desc} {b : List Byte} :
    CntsWf (s.frerSplit func i pick d b).cnts := by
  simp [State.frerSplit, hs]

@[simp] theorem CntsWf.putFrame {func i : Nat} {k0 k : Pkt} {d1 : Desc} {r1 r2 : Nat} {pick : Draw} :
    CntsWf (s.putFrame func i k0 k d1 r1 r2 pick).cnts := by
  unfold State.putFrame
  extract_lets x2 x3 s3 recirc _ d4 s4 s5
  have h3 : CntsWf s3.cnts := hs.frerTag.ecnMark
  have h5 : CntsWf s5.cnts := h3.enqueueMirrors.push.frerSplit
  simp [h5]

@[simp] theorem CntsWf.placeRest {func i : Nat} {k0 k : Pkt} {d : Desc} {r1 r2 : Nat} {pick : Draw} :
    CntsWf (s.placeRest func i k0 k d r1 r2 pick).cnts := by
  simp [State.placeRest, hs]

@[simp] theorem CntsWf.placeFrame {k0 k : Pkt} {d : Desc} {r1 r2 : Nat} {pick : Draw} :
    CntsWf (s.placeFrame k0 k d r1 r2 pick).cnts := by
  unfold State.placeFrame
  dsimp only
  split <;> simp [hs]

@[simp] theorem CntsWf.growAndPlace {k : Pkt} {p : Nat} {cut : Bool} {r1 r2 : Nat} {pick : Draw} :
    CntsWf (s.growAndPlace k p cut r1 r2 pick).cnts := by
  unfold State.growAndPlace
  extract_lets g
  have hg : CntsWf g.2.cnts := by
    unfold g
    split <;> simp [hs]
  split
  · exact hg.dropPkt
  · exact hg.growFrame.placeFrame

@[simp] theorem CntsWf.enqueuePort {k : Pkt} {p r1 r2 : Nat} {pick : Draw} :
    CntsWf (s.enqueuePort k p r1 r2 pick).cnts := by
  unfold State.enqueuePort
  dsimp only
  (repeat' split) <;> simp [hs]

@[simp] theorem CntsWf.enqueueHost {k : Pkt} {q reason mid : Nat} {pick : Draw} :
    CntsWf (s.enqueueHost k q reason mid pick).cnts := by
  unfold State.enqueueHost
  extract_lets _ d s0 s1
  have h0 : CntsWf s0.cnts := by
    unfold s0
    split <;> simp [hs]
  have h1 : CntsWf s1.cnts := h0.enqueueMirrors
  (repeat' split) <;> simp [hs, h1]

@[simp] theorem CntsWf.dropHead {k r : Nat} {pick : Draw} : CntsWf (s.dropHead k r pick).cnts := by
  unfold State.dropHead
  split <;> simp [hs]

@[simp] theorem CntsWf.dropStale {k limit r : Nat} {pick : Draw} {n : Nat} :
    CntsWf (s.dropStale k limit r pick n).cnts := by
  induction n generalizing s with
  | zero => exact hs
  | succ n ih =>
    unfold State.dropStale
    split
    · exact ih hs.dropHead
    · exact hs

@[simp] theorem CntsWf.dropNever {k : Nat} {pick : Draw} {n : Nat} : CntsWf (s.dropNever k pick n).cnts := by
  induction n generalizing s with
  | zero => exact hs
  | succ n ih =>
    unfold State.dropNever
    split
    · split
      · exact ih hs.dropHead
      · exact hs
    · exact hs

@[simp] theorem CntsWf.judgeKnown {k : Nat} {pick : Draw} : CntsWf (s.judgeKnown k pick).cnts := by
  unfold State.judgeKnown
  extract_lets due bad kept
  split
  · exact foldl_cntsWf (fun _ _ ht => ht.dropDesc) _ (by simp [hs])
  · exact hs

/-! #### The way out -/

@[simp] theorem CntsWf.countIoam {x : NodeIn} {e : Edited} : CntsWf (s.countIoam x e).cnts := by
  unfold State.countIoam
  (repeat' split) <;> simp [hs]

@[simp] theorem CntsWf.dropChosen {t : Tx} {p r : Nat} {pick : Draw} : CntsWf (s.dropChosen t p r pick).cnts := by
  simp [State.dropChosen, hs]

@[simp] theorem CntsWf.recirculate {t : Tx} {p : Nat} {pick : Draw} {b : List Byte} :
    CntsWf (s.recirculate t p pick b).cnts := by
  unfold State.recirculate
  extract_lets d f sl
  split
  next e => exact (CntsWf.of_snd e hs.take).dropChosen
  next e => exact (CntsWf.of_snd e hs.take).dropChosen
  next e =>
    have h1 := (CntsWf.of_snd e hs.take).done (d := d)
    simp [h1]

@[simp] theorem CntsWf.firstBit {x : NodeIn} {e : Edited} {bad : Bool} {pick : Draw} {b : List Byte} :
    CntsWf (s.firstBit x e bad pick b).cnts := by
  unfold State.firstBit
  extract_lets d p asym s1 v s2 s3
  have h1 : CntsWf s1.cnts := by
    unfold s1
    split <;> simp [hs]
  have h2 : CntsWf s2.cnts := by simp [s2, h1]
  have h3 : CntsWf s3.cnts := h2.countIoam
  (repeat' split)
  · exact h2
  · exact h3
  next e => exact CntsWf.sendPostcard (CntsWf.of_snd e (by simp [h3]))
  next e => exact CntsWf.of_snd e (by simp [h3])

@[simp] theorem CntsWf.sendFrame {t : Tx} {p : Nat} {pick : Draw} {tile : Bool} {b : List Byte} :
    CntsWf (s.sendFrame t p pick tile b).cnts := by
  unfold State.sendFrame
  extract_lets d x e bad w s1 s2 s3 s4
  have h1 : CntsWf s1.cnts := hs.firstBit
  have h2 : CntsWf s2.cnts := by simp [s2, h1]
  have h3 : CntsWf s3.cnts := by simp [s3, h2]
  have h4 : CntsWf s4.cnts := by simp [s4, h3]
  exact h4.done

@[simp] theorem CntsWf.dropRefused {d : Desc} {r : Refused} : CntsWf (s.dropRefused d r).cnts := by
  unfold State.dropRefused
  extract_lets s1
  have h1 : CntsWf s1.cnts := CntsWf.lossEvt (CntsWf.countDrop (CntsWf.bpmCount (by simp [hs])))
  simp [h1]

@[simp] theorem CntsWf.leave {t : Tx} {p : Nat} {pick : Draw} : CntsWf (s.leave t p pick).cnts := by
  unfold State.leave
  dsimp only
  (repeat' split) <;> simp [hs]

@[simp] theorem CntsWf.deliver {q : Nat} {d : Desc} {desc : List Byte} {pick : Draw} :
    CntsWf (s.deliver q d desc pick).cnts := by
  unfold State.deliver
  dsimp only
  (repeat' split) <;> simp [hs]

@[simp] theorem CntsWf.txPlace {d : Desc} {pick : Draw} : CntsWf (s.txPlace d pick).cnts := by
  unfold State.txPlace
  dsimp only
  split <;> simp [hs]

omit hs in
@[simp] theorem txTaken_cntsWf {inj : Bool} {p tc : Nat} {chan cookie : Option Nat} {owner : Nat} {pick : Draw}
    {b : List Byte} {r : Took × State} (hs : CntsWf r.2.cnts) :
    CntsWf (txTaken inj p tc chan cookie owner pick b r).2.cnts := by
  unfold txTaken
  (repeat' split) <;> simp [hs]

@[simp] theorem CntsWf.txTake {i : Nat} {desc frame : List Byte} {pick : Draw} :
    CntsWf (s.txTake i desc frame pick).2.cnts := by
  unfold State.txTake
  dsimp only
  (repeat' split) <;> simp [hs]

/-! #### Ports -/

@[simp] theorem CntsWf.flushPort {p : Nat} {pick : Draw} : CntsWf (s.flushPort p pick).cnts :=
  foldl_cntsWf (fun t k ht => foldl_cntsWf (fun _ _ hu => hu.dropDesc) _ (by simp [ht])) _ hs

@[simp] theorem CntsWf.cutFrame {p : Nat} {pick : Draw} : CntsWf (s.cutFrame p pick).cnts := by
  unfold State.cutFrame
  extract_lets _ s1
  have h1 : CntsWf s1.cnts := by
    unfold s1
    split
    · exact CntsWf.lossEvt (CntsWf.countDrop (by exact hs))
    · exact hs
  split
  · exact CntsWf.dropDesc (by exact h1)
  · exact h1

@[simp] theorem CntsWf.leaveUp {p : Nat} {dest : PState} {cut : Bool} {pick : Draw} :
    CntsWf (s.leaveUp p dest cut pick).cnts := by
  unfold State.leaveUp
  extract_lets x s1 _ s2
  have h2 : CntsWf s2.cnts := by simp [s2, s1, hs]
  split
  · split
    · exact h2
    · refine CntsWf.pfcUpdate (CntsWf.flushPort ?_)
      split
      · exact h2.cutFrame
      · exact h2.finishSending
  · simp [hs]

@[simp] theorem CntsWf.restartPort {p : Nat} {cut : Bool} {pick : Draw} :
    CntsWf (s.restartPort p cut pick).cnts := by
  simp [State.restartPort, hs]

@[simp] theorem CntsWf.writeCtrl {p v : Nat} {pick : Draw} : CntsWf (s.writeCtrl p v pick).cnts := by
  unfold State.writeCtrl
  dsimp only
  split <;> simp [hs]

@[simp] theorem CntsWf.writeTest {p v : Nat} : CntsWf (s.writeTest p v).cnts := by
  simp [State.writeTest, hs]

@[simp] theorem CntsWf.dropBack {p : Nat} {pick : Draw} : CntsWf (s.dropBack p pick).cnts := by
  unfold State.dropBack
  split <;> simp [hs]

@[simp] theorem CntsWf.harpDown {h : Nat} {pick : Draw} : CntsWf (s.harpDown h pick).cnts :=
  foldl_cntsWf (fun t p ht => by simp [ht]) _ hs

/-! #### Sweeps -/

@[simp] theorem CntsWf.judgeLeak {h : Nat} {e : Ext} : CntsWf (s.judgeLeak h e).cnts := by
  unfold State.judgeLeak
  split <;> simp [hs]

/-! #### Entry into SAFE and RESET -/

@[simp] theorem CntsWf.stompOut {p : Nat} {t : Tx} : CntsWf (s.stompOut p t).cnts :=
  hs.lineOut.ptCount.ptCount.ptCount

@[simp] theorem CntsWf.stompSending {p : Nat} {x : Sending} : CntsWf (s.stompSending p x).cnts := by
  simp [State.stompSending, hs]

@[simp] theorem CntsWf.stompAll : CntsWf (s.stompAll).cnts := by
  unfold State.stompAll
  extract_lets s
  have h1 : CntsWf s.cnts := foldl_cntsWf (fun _ _ ht => ht.stompSending) _ hs
  refine foldl_cntsWf (fun t e ht => ?_) _ h1
  exact CntsWf.stompOut (s := { t with core.tx := t.core.tx.erase e.1 }) ht

@[simp] theorem CntsWf.enterSafe {cause : Nat} : CntsWf (s.enterSafe cause).cnts := by
  simp [State.enterSafe, hs]

omit hs in
@[simp] theorem enterReset_cntsWf {cause : Nat} {hold : Bool} {s : State} :
    CntsWf (s.enterReset cause hold).cnts := rfl

/-! #### Fault records -/

@[simp] theorem CntsWf.fatal {r : Rec} : CntsWf (s.fatal r).cnts := by
  unfold State.fatal
  (repeat' split) <;> simp [hs]

@[simp] theorem CntsWf.recordOne {r : Rec} : CntsWf (s.recordOne r).cnts := by
  simp [State.recordOne, hs]

@[simp] theorem CntsWf.fatalNow {src code detail : Nat} : CntsWf (s.fatalNow src code detail).cnts := by
  unfold State.fatalNow
  dsimp only
  (repeat' split) <;> simp [hs]

/-! #### Clock judgement -/

@[simp] theorem CntsWf.harpLost {h : Nat} {pick : Draw} : CntsWf (s.harpLost h pick).cnts :=
  foldl_cntsWf (fun t p ht => by simp [ht]) _ hs

@[simp] theorem CntsWf.clockLost {i : Nat} {pick : Draw} : CntsWf (s.clockLost i pick).cnts := by
  unfold State.clockLost
  (repeat' split) <;> simp [hs]

@[simp] theorem CntsWf.judgeChange {i : Nat} {pick : Draw} {was is' : Bool} :
    CntsWf (s.judgeChange i pick was is').cnts := by
  simp [State.judgeChange, hs]

/-! #### Modes -/

@[simp] theorem CntsWf.lanesDown : CntsWf (s.lanesDown).cnts :=
  foldl_cntsWf (fun _ _ ht => ht.dropBack) _ hs

@[simp] theorem CntsWf.moveMode {m : Mode} {cause : Nat} : CntsWf (s.moveMode m cause).2.cnts := by
  unfold State.moveMode
  extract_lets old down
  split
  next e => exact CntsWf.of_snd e (by simp [hs])
  next t e =>
    have h1 : CntsWf t.cnts := CntsWf.of_snd e (by simp [hs])
    extract_lets _ u
    have hu : CntsWf u.cnts := h1
    refine CntsWf.pfcUpdate ?_
    split
    · exact hu.lanesDown
    · exact hu

@[simp] theorem CntsWf.finishReq {st : Status} {dropped : Nat} : CntsWf (s.finishReq st dropped).cnts := by
  unfold State.finishReq
  split
  · exact hs
  · split
    next e =>
      have h1 := CntsWf.of_snd e hs.moveMode
      split <;> simp [h1]
    next e =>
      have h1 := CntsWf.of_snd e hs.moveMode
      split <;> simp [h1]

@[simp] theorem CntsWf.unparkDone : CntsWf (s.unparkDone).cnts := by
  simp [State.unparkDone, hs]

@[simp] theorem CntsWf.backToForward : CntsWf (s.backToForward).st.cnts := by
  unfold State.backToForward
  extract_lets old
  clear_value old
  split
  next e =>
    have h1 := CntsWf.of_snd e hs.moveMode
    cases old <;> simp [h1]
  next e => exact CntsWf.of_snd e hs.moveMode

@[simp] theorem CntsWf.flushPkts {pick : Draw} : CntsWf (s.flushPkts pick).cnts :=
  foldl_cntsWf (fun _ _ ht => ht.dropPkt) _ hs

@[simp] theorem CntsWf.flushTx {pick : Draw} : CntsWf (s.flushTx pick).cnts :=
  foldl_cntsWf (fun t e ht => by simp [ht]) _ hs

@[simp] theorem CntsWf.flushList {pick : Draw} {l : List Desc} : CntsWf (s.flushList pick l).cnts :=
  foldl_cntsWf (fun _ _ ht => ht.dropDesc) _ hs

@[simp] theorem CntsWf.flushQueues {pick : Draw} : CntsWf (s.flushQueues pick).cnts :=
  foldl_cntsWf (fun t e ht => by simp [ht]) _ hs

@[simp] theorem CntsWf.flushCopies {pick : Draw} : CntsWf (s.flushCopies pick).cnts := by
  simp [State.flushCopies, hs]

@[simp] theorem CntsWf.flushAll {pick : Draw} : CntsWf (s.flushAll pick).2.cnts :=
  hs.flushPkts.flushTx.flushCopies.flushQueues

/-! #### Register writes -/

@[simp] theorem CntsWf.regEffect {o old v : Nat} : CntsWf (s.regEffect o old v).cnts := by
  unfold State.regEffect
  (repeat' split) <;> simp [hs]

@[simp] theorem CntsWf.writeStored {p : HostPort} {o v : Nat} : CntsWf (s.writeStored p o v).cnts := by
  unfold State.writeStored
  dsimp only
  split <;> simp [hs]

@[simp] theorem CntsWf.writeOwn {p : HostPort} {o v : Nat} : CntsWf (s.writeOwn p o v).cnts := by
  unfold State.writeOwn
  (repeat' split) <;> simp [hs]

@[simp] theorem CntsWf.write4 {p : HostPort} {o v : Nat} : CntsWf (s.write4 p o v).cnts := by
  simp [State.write4, hs]

/-! #### The pool manager -/

@[simp] theorem CntsWf.hostTake {exact : Bool} {pick : Draw} {n k : Nat} :
    ∀ x t, (State.hostTake exact pick n k s).1 = some (x, t) → CntsWf t.cnts := by
  induction n generalizing k with
  | zero => simp [State.hostTake]
  | succ n ih =>
    intro x t e
    unfold State.hostTake at e
    dsimp only at e
    split at e
    · simp at e
    · split at e
      · split at e
        · obtain ⟨_, -, er⟩ := Option.map_eq_some_iff.mp e
          obtain ⟨-, rfl⟩ := Prod.mk.inj er
          exact hs.enterExt
        · simp at e
      · split at e
        · simp at e
        · exact ih x t e

@[simp] theorem CntsWf.hostTakes {exact : Bool} {k : Nat} {picks : List Draw} {c : Nat} :
    ∀ x t, (State.hostTakes exact k picks c s).1 = some (x, t) → CntsWf t.cnts := by
  induction c generalizing s with
  | zero => simp [State.hostTakes, hs]
  | succ c ih =>
    intro x t e
    unfold State.hostTakes at e
    dsimp only at e
    split at e
    · simp at e
    next h s1 e1 =>
      have h1 : CntsWf s1.cnts := hs.hostTake h s1 e1
      obtain ⟨y, ey, er⟩ := Option.map_eq_some_iff.mp e
      obtain ⟨-, rfl⟩ := Prod.mk.inj er
      exact ih (by simp [h1]) y.1 y.2 ey

omit hs in
@[simp] theorem testTile_cntsWf {h : Nat} {failed : List Nat} {a : Nat × State} {t : Nat} (hs : CntsWf a.2.cnts) :
    CntsWf (testTile h failed a t).2.cnts := by
  have hx : CntsWf (State.injected 0x701 0 t { a.2 with buf := a.2.buf.writeTile t (List.replicate 256 0xAA) }).2.cnts := by
    simp only [State.injected_keeps, hs]
  unfold testTile
  dsimp only
  split
  · exact hs
  · split
    · exact hx.retireTile
    · exact hx

@[simp] theorem CntsWf.testExtents {es failed : List Nat} : CntsWf (s.testExtents es failed).2.cnts := by
  refine foldl_snd_cntsWf (s := (0, s)) (fun acc h ha => ?_) _ hs
  exact foldl_snd_cntsWf (fun _ _ ht => testTile_cntsWf ht) _ ha

@[simp] theorem CntsWf.retireHeld {e : Nat × Bool} : CntsWf (s.retireHeld e).cnts := by
  unfold State.retireHeld
  split <;> simp [hs]

@[simp] theorem CntsWf.retirePending : CntsWf (s.retirePending).cnts :=
  foldl_cntsWf (fun _ _ ht => ht.retireHeld) _ hs

end

/-! ### Commands that may count -/

section
variable {s t : State} (hs : CntsWf s.cnts)
include hs

theorem execFrerResetTimer_cntsWf {stream : Fin 1024} (e : execFrerResetTimer stream s = .next t) :
    CntsWf t.cnts := by
  refine CntsWf.of_next ?_ e
  dsimp only
  split <;> simp [hs]

theorem execClockJudgeWindow_cntsWf {clock : Fin 32} {count : Nat} {pick : Draw}
    (e : execClockJudgeWindow clock count pick s = .next t) : CntsWf t.cnts := by
  refine CntsWf.of_next ?_ e
  dsimp only
  split <;> simp [hs]

theorem execBootClock_cntsWf (e : execBootClock s = .next t) : CntsWf t.cnts := by
  refine CntsWf.of_next ?_ e
  split <;> simp [hs]

theorem execFrameEgress_cntsWf {port : Port} {ups : Upset} {pos : Nat} {lost : List Nat}
    (e : execFrameEgress port ups pos lost s = .next t) : CntsWf t.cnts := by
  refine CntsWf.of_next ?_ e
  dsimp only
  (repeat' split) <;> simp [hs]

theorem execCpuQueueService_cntsWf {desc : List Byte} {ups : Upset} {pick : Draw}
    (e : execCpuQueueService desc ups pick s = .next t) : CntsWf t.cnts := by
  refine CntsWf.of_next ?_ e
  have h1 : CntsWf ((s.upset ups).bringCopies pick).cnts := CntsWf.bringCopies (by simp [hs])
  split
  · simp [hs]
  · dsimp only
    split
    · exact h1
    · split
      · exact h1
      · refine CntsWf.pfcUpdate (CntsWf.deliver ?_)
        simp [h1]

theorem execTransmitDescriptor_cntsWf {desc frame : List Byte} {pick : Draw}
    (e : execTransmitDescriptor desc frame pick s = .next t) : CntsWf t.cnts := by
  refine CntsWf.of_next ?_ e
  split <;> simp [hs]

theorem execEpScrub_cntsWf {errs : List (Nat × EccErr)} (e : execEpScrub errs s = .next t) : CntsWf t.cnts := by
  refine CntsWf.of_next ?_ e
  exact CntsWf.epCheck (foldl_cntsWf (fun t e ht => by simp [ht]) _ hs)

theorem execEpInsert_cntsWf {p : HostPort} {n : Fin 64} (e : execEpInsert p n s = .next t) : CntsWf t.cnts := by
  refine CntsWf.of_next ?_ e
  refine CntsWf.runCmd (fun c t ht => ?_) hs
  simp [ht]

theorem execEpDelete_cntsWf {p : HostPort} {n : Fin 64} (e : execEpDelete p n s = .next t) : CntsWf t.cnts := by
  refine CntsWf.of_next ?_ e
  refine CntsWf.runCmd (fun c t ht => ?_) hs
  simp [ht]

theorem execEpRead_cntsWf {p : HostPort} {n : Fin 64} (e : execEpRead p n s = .next t) : CntsWf t.cnts := by
  refine CntsWf.of_next ?_ e
  refine CntsWf.runCmd (fun c t ht => ?_) hs
  dsimp only
  (repeat' split) <;> simp [ht]

theorem execFaultRecord_cntsWf (e : execFaultRecord s = .next t) : CntsWf t.cnts := by
  refine CntsWf.of_next ?_ e
  (repeat' split) <;> simp [hs]

theorem execJunctionComparatorTrip_cntsWf {sensor : Fin 64} (e : execJunctionComparatorTrip sensor s = .next t) :
    CntsWf t.cnts := by
  refine CntsWf.of_next ?_ e
  simp [hs]

theorem execCollectorFault_cntsWf {part : Fin 5} {corrected : Bool}
    (e : execCollectorFault part corrected s = .next t) : CntsWf t.cnts := by
  refine CntsWf.of_next ?_ e
  dsimp only
  (repeat' split) <;> simp [hs]

theorem execFrameReceive_cntsWf {port : Port} {bytes : List Byte} {rx : Rx}
    (e : execFrameReceive port bytes rx s = .next t) : CntsWf t.cnts := by
  refine CntsWf.of_next ?_ e
  (repeat' split) <;> simp [hs]

theorem execMacControlFrame_cntsWf {port : Port} {bytes : List Byte} {errored : Bool}
    (e : execMacControlFrame port bytes errored s = .next t) : CntsWf t.cnts := by
  refine CntsWf.of_next ?_ e
  simp [hs]

theorem execLearnRecord_cntsWf {slice origin : Slice} (e : execLearnRecord slice origin s = .next t) :
    CntsWf t.cnts := by
  refine CntsWf.of_next ?_ e
  split <;> simp [hs]

theorem execFlapHoldExpiry_cntsWf {slice : Slice} (e : execFlapHoldExpiry slice s = .next t) : CntsWf t.cnts := by
  refine CntsWf.of_next ?_ e
  dsimp only
  split <;> simp [hs]

theorem execL2AgeTick_cntsWf {slice : Slice} (e : execL2AgeTick slice s = .next t) : CntsWf t.cnts := by
  unfold execL2AgeTick at e
  dsimp only at e
  split at e
  · exact CntsWf.of_next hs e
  · refine CntsWf.of_next (foldl_cntsWf (fun t x ht => ?_) _ (by simp [hs])) e
    split
    · exact ht
    · split
      · simp [ht]
      · refine CntsWf.originate ?_
        simp [ht]

theorem execTableEngineStep_cntsWf {errs : List (Nat × EccErr)} (e : execTableEngineStep errs s = .next t) :
    CntsWf t.cnts := by
  refine CntsWf.of_next ?_ e
  dsimp only
  (repeat' split) <;> simp [hs]

theorem execModeRequest_cntsWf {p : HostPort} {n : Fin 64} (e : execModeRequest p n s = .next t) :
    CntsWf t.cnts := by
  refine CntsWf.of_next ?_ e
  refine CntsWf.unparkDone (CntsWf.runCmd (fun c u hu => ?_) hs)
  have hm : ∀ {m : Mode} {b : Bool} {v : State}, u.moveMode m 2 = (b, v) → CntsWf v.cnts := fun e =>
    CntsWf.of_snd e hu.moveMode
  dsimp only
  (repeat' split)
  any_goals simp [hu]
  all_goals exact hm ‹_›

theorem execModeRequestReset_cntsWf {p : HostPort} {n : Fin 64} (e : execModeRequestReset p n s = .next t) :
    CntsWf t.cnts := by
  refine CntsWf.of_next ?_ e
  refine CntsWf.runCmd (fun c t ht => ?_) hs
  simp [ht]

theorem execDrainIngressStopped_cntsWf (e : execDrainIngressStopped s = .next t) : CntsWf t.cnts := by
  refine CntsWf.of_next ?_ e
  simp [hs]

theorem execPipelinesGated_cntsWf (e : execPipelinesGated s = .next t) : CntsWf t.cnts := by
  refine CntsWf.of_next ?_ e
  simp [hs]

theorem execDrainBufferEmpty_cntsWf (e : execDrainBufferEmpty s = .next t) : CntsWf t.cnts := by
  refine CntsWf.of_next ?_ e
  simp [hs]

theorem execDrainFlushTimeout_cntsWf {pick : Draw} (e : execDrainFlushTimeout pick s = .next t) :
    CntsWf t.cnts := by
  refine CntsWf.of_next ?_ e
  extract_lets due
  split
  · split
    next e1 =>
      split
      next e2 => exact (CntsWf.of_snd e2 (CntsWf.of_snd e1 hs.flushAll).flushAll).finishReq
  · exact hs

theorem execUnparkRampEnd_cntsWf (e : execUnparkRampEnd s = .next t) : CntsWf t.cnts := by
  refine CntsWf.of_next ?_ e
  dsimp only
  (repeat' split) <;> simp [hs]

theorem execGlModeReq_cntsWf {p : HostPort} {value : Word} (e : execGlModeReq p value s = .next t) :
    CntsWf t.cnts := by
  refine CntsWf.of_next ?_ e
  have hm : ∀ {m : Mode} {b : Bool} {u : State}, s.moveMode m 1 = (b, u) → CntsWf u.cnts := fun e =>
    CntsWf.of_snd e hs.moveMode
  dsimp only
  (repeat' split)
  any_goals simp [hs]
  all_goals exact hm ‹_›

theorem execGlReset_cntsWf {p : HostPort} {value : Word} (e : execGlReset p value s = .next t) : CntsWf t.cnts := by
  refine CntsWf.of_next ?_ e
  simp [hs]

theorem execResetNFall_cntsWf {ns : Nat} {acts : Bool} (e : execResetNFall ns acts s = .next t) :
    CntsWf t.cnts := by
  refine CntsWf.of_next ?_ e
  simp [hs]

omit hs in
theorem execLossOfPower_cntsWf (e : execLossOfPower s = .next t) : CntsWf t.cnts := by
  refine CntsWf.of_next ?_ e
  rfl

theorem execParseStop_cntsWf {slice : Slice} {en : Fin 128} {parity : Bool} {errs : List (Nat × EccErr)}
    (e : execParseStop slice en parity errs s = .next t) : CntsWf t.cnts := by
  refine CntsWf.of_next ?_ e
  split
  · exact hs
  · split
    · exact hs
    · split
      next e1 =>
        have h0 := CntsWf.of_snd e1 (by simp [hs])
        split
        · split <;> refine CntsWf.pfcUpdate (CntsWf.retireEngine ?_)
          · exact CntsWf.parseCount (by simp [h0])
          · exact CntsWf.dropPkt (CntsWf.slotLeave (by simp [h0]))
        · split
          next e2 =>
            have h1 := CntsWf.of_snd e2 (by simp [h0])
            simp [h1]

theorem execCanaryTestEnd_cntsWf {slice : Slice} {pass : Bool} (e : execCanaryTestEnd slice pass s = .next t) :
    CntsWf t.cnts := by
  refine CntsWf.of_next ?_ e
  dsimp only
  (repeat' split) <;> simp [hs]

theorem execFrameAdmission_cntsWf {slice : Slice} {slot : SlotOffer} {pick : Draw}
    (e : execFrameAdmission slice slot pick s = .next t) : CntsWf t.cnts := by
  refine CntsWf.of_next ?_ e
  extract_lets n k j open' u _ s1 ws
  have h1 : CntsWf s1.cnts := hs.dropArrivals.dropLost
  split
  · exact hs
  · split
    · exact h1.giveSlot.pfcUpdate
    · exact h1.emptySlot.pfcUpdate

theorem execLookupComplete_cntsWf {slice : Slice} {errs : List MemErr} {rows : List RowErr} {pick : Draw}
    (e : execLookupComplete slice errs rows pick s = .next t) : CntsWf t.cnts := by
  refine CntsWf.of_next ?_ e
  split
  · exact hs
  · split
    · exact hs
    · refine CntsWf.pfcUpdate ?_
      split
      · exact hs.parseCount.learnFrom.actionDrop
      · exact hs.parseCount.learnFrom.actionDone
      · dsimp only
        split
        next e => exact (CntsWf.of_snd e hs.learnFrom.lookups).actionDrop
        next e => exact (CntsWf.of_snd e hs.learnFrom.lookups).applyActions

theorem execBpmAlloc_cntsWf {p : HostPort} {n : Fin 64} {picks : List Draw} {failed : List Nat}
    (e : execBpmAlloc p n picks failed s = .next t) : CntsWf t.cnts := by
  refine CntsWf.of_next ?_ e
  refine CntsWf.pfcUpdate (CntsWf.runCmd (fun c t ht => ?_) hs)
  extract_lets count addr x
  split
  · exact ht
  · split
    · exact ht
    · split
      · exact ht.bpmCount
      next es s1 e1 =>
        have h1 : CntsWf s1.cnts := ht.hostTakes es s1 e1
        split
        next e2 =>
          have h2 : CntsWf (if bit (c.arg 9 1) 1 then s1.testExtents es failed else (0, s1)).2.cnts := by
            split
            · exact h1.testExtents
            · exact h1
          have h3 := CntsWf.of_snd e2 h2
          simp [h3]

theorem execBpmFree_cntsWf {p : HostPort} {n : Fin 64} {handles : List Word}
    (e : execBpmFree p n handles s = .next t) : CntsWf t.cnts := by
  refine CntsWf.of_next ?_ e
  refine CntsWf.pfcUpdate (CntsWf.runCmd (fun c t ht => ?_) hs)
  extract_lets count es s1
  have h1 : CntsWf s1.cnts := by simp [s1, ht]
  split
  · exact ht
  · split
    · exact h1.bpmCount
    · simp [h1]
    · simp [h1]
    · exact foldl_cntsWf (fun _ _ hu => hu.freeExt) _ h1

theorem execBpmFreeAllHost_cntsWf {p : HostPort} {n : Fin 64} (e : execBpmFreeAllHost p n s = .next t) :
    CntsWf t.cnts := by
  refine CntsWf.of_next ?_ e
  refine CntsWf.pfcUpdate (CntsWf.runCmd (fun c t ht => ?_) hs)
  refine foldl_cntsWf (fun _ _ hu => hu.freeExt) _ ?_
  simp [ht]

theorem execBpmCommitDone_cntsWf (e : execBpmCommitDone s = .next t) : CntsWf t.cnts := by
  refine CntsWf.of_next ?_ e
  split <;> simp [hs]

theorem execPtModeWrite_cntsWf {p : HostPort} {port : Port} {value : Word} {pick : Draw}
    (e : execPtModeWrite p port value pick s = .next t) : CntsWf t.cnts := by
  refine CntsWf.of_next ?_ e
  extract_lets v _ left s0 s1 swallowed s2 _ s3
  have h0 : CntsWf s0.cnts := by simp [s0, hs]
  have h2 : CntsWf s2.cnts := foldl_cntsWf (fun t q ht => by simp [ht]) _ (by simp [s1, h0])
  split
  · split
    · simp [hs]
    · exact CntsWf.restartPort (by simp [s3, h2])
  · exact hs

theorem execAdminUpSet_cntsWf {p : HostPort} {port : Port} {value : Word} {pick : Draw}
    (e : execAdminUpSet p port value pick s = .next t) : CntsWf t.cnts := by
  refine CntsWf.of_next ?_ e
  simp [hs]

theorem execAdminUpClear_cntsWf {p : HostPort} {port : Port} {value : Word} {pick : Draw}
    (e : execAdminUpClear p port value pick s = .next t) : CntsWf t.cnts := by
  refine CntsWf.of_next ?_ e
  simp [hs]

theorem execRetrain_cntsWf {p : HostPort} {port : Port} {value : Word} {pick : Draw}
    (e : execRetrain p port value pick s = .next t) : CntsWf t.cnts := by
  refine CntsWf.of_next ?_ e
  simp [hs]

theorem execLoopbackSelect_cntsWf {by' : Writer} {port : Port} {loopback : Fin 4} {pick : Draw}
    (e : execLoopbackSelect by' port loopback pick s = .next t) : CntsWf t.cnts := by
  refine CntsWf.of_next ?_ e
  split <;> simp [hs]

theorem execPtTestWrite_cntsWf {by' : Writer} {port : Port} {value : Word}
    (e : execPtTestWrite by' port value s = .next t) : CntsWf t.cnts := by
  refine CntsWf.of_next ?_ e
  split <;> simp [hs]

theorem execAlignComplete_cntsWf {port : Port} {rxLat txLat : Word} {reversed : Bool} {inverted : BitVec 8}
    {margins : List Byte} (e : execAlignComplete port rxLat txLat reversed inverted margins s = .next t) :
    CntsWf t.cnts := by
  refine CntsWf.of_next ?_ e
  simp [hs]

theorem execPortStateLimit_cntsWf {port : Port} (e : execPortStateLimit port s = .next t) : CntsWf t.cnts := by
  refine CntsWf.of_next ?_ e
  dsimp only
  (repeat' split) <;> simp [hs]

theorem execLaneLoss_cntsWf {lane : Lane} {what : Fin 3} {pick : Draw} (e : execLaneLoss lane what pick s = .next t) :
    CntsWf t.cnts := by
  refine CntsWf.of_next ?_ e
  dsimp only
  split <;> simp [hs]

theorem execFecWindow_cntsWf {port : Port} {total corr uncorr : Word} {hist : List Word} {margins : List Byte}
    (e : execFecWindow port total corr uncorr hist margins s = .next t) : CntsWf t.cnts := by
  refine CntsWf.of_next ?_ e
  split
  · extract_lets p s1 s2 x run s3
    have h2 : CntsWf s2.cnts := foldl_cntsWf (fun _ _ ht => ht.ptCount) _ hs.ptCount.ptCount.ptCount
    have h3 : CntsWf s3.cnts := by simp [s3, h2]
    split
    · simp [h3]
    · exact h3
  · exact hs

theorem execD2dWireError_cntsWf {harp : Slice} {toHarp : Bool} {wire : Fin 1600} {lane : Fin 32} {pick : Draw}
    (e : execD2dWireError harp toHarp wire lane pick s = .next t) : CntsWf t.cnts := by
  refine CntsWf.of_next ?_ e
  dsimp only
  (repeat' split) <;> simp [hs]

theorem execRegisterWrite_cntsWf {p : HostPort} {offset : BitVec 26} {wide : Bool} {value : DWord}
    (e : execRegisterWrite p offset wide value s = .next t) : CntsWf t.cnts := by
  refine CntsWf.of_next ?_ e
  dsimp only
  (repeat' split) <;> simp [hs]

theorem execSheepdogSweepEnd_cntsWf (e : execSheepdogSweepEnd s = .next t) : CntsWf t.cnts := by
  refine CntsWf.of_next ?_ e
  have h0 : CntsWf (s.buf.ext.foldl (fun t e => t.readRecord e.1) s).cnts := by simp [hs]
  split
  · exact hs
  · split
    · extract_lets s0 named ext _ s1
      have h1 : CntsWf s1.cnts := h0
      exact CntsWf.pfcUpdate (foldl_cntsWf (fun _ _ ht => ht.judgeLeak) _ h1)
    · exact hs

theorem execQueueCfg_cntsWf {p : HostPort} {n : Fin 64} (e : execQueueCfg p n s = .next t) : CntsWf t.cnts := by
  refine CntsWf.of_next ?_ e
  refine CntsWf.pfcUpdate (CntsWf.runCmd (fun c t ht => ?_) hs)
  extract_lets kind opts port ch key qm holds classHolds _ s1 _ s2 _ s3
  have h1 : CntsWf s1.cnts := by simp [s1, ht]
  have h2 : CntsWf s2.cnts := by simp [s2, h1]
  have h3 : CntsWf s3.cnts := by simp [s3, h2]
  (repeat' split) <;> assumption

theorem execPfcRefresh_cntsWf {port : Port} (e : execPfcRefresh port s = .next t) : CntsWf t.cnts := by
  refine CntsWf.of_next ?_ e
  dsimp only
  (repeat' split) <;> simp [hs]

theorem execExtentChoice_cntsWf {port : Port} {pos : Nat} {lost : List Nat}
    (e : execExtentChoice port pos lost s = .next t) : CntsWf t.cnts := by
  refine CntsWf.of_next ?_ e
  dsimp only
  split
  · exact hs
  · split
    · exact hs
    · split
      next e => exact (CntsWf.of_snd e hs.take).dropPkt.pfcUpdate
      next e => exact (CntsWf.of_snd e hs.take).dropPkt.pfcUpdate
      next e =>
        have h1 := CntsWf.of_snd e hs.take
        refine CntsWf.pfcUpdate ?_
        split <;> simp [h1]

theorem execEnqueue_cntsWf {port : Port} {inject : Bool} {rand : EcnDraw} {ups : Upset} {pick : Draw}
    (e : execEnqueue port inject rand ups pick s = .next t) : CntsWf t.cnts := by
  refine CntsWf.of_next ?_ e
  have h1 : CntsWf ((s.upset ups).bringCopies pick).cnts := CntsWf.bringCopies (by simp [hs])
  dsimp only
  split
  · simp [hs]
  · refine CntsWf.pfcUpdate ?_
    split
    · exact h1
    · split
      · exact h1.enqueuePort
      · exact h1.enqueueHost
      · exact h1

theorem execRecircTimeout_cntsWf {port : Port} {pick : Draw} (e : execRecircTimeout port pick s = .next t) :
    CntsWf t.cnts := by
  refine CntsWf.of_next ?_ e
  dsimp only
  split
  · exact CntsWf.pfcUpdate (foldl_cntsWf (fun _ _ ht => ht.dropStale) _ hs)
  · exact hs

theorem execTc7Stale_cntsWf {port : Port} {pick : Draw} (e : execTc7Stale port pick s = .next t) :
    CntsWf t.cnts := by
  refine CntsWf.of_next ?_ e
  dsimp only
  split
  · exact hs
  · exact CntsWf.pfcUpdate (foldl_cntsWf (fun _ _ ht => ht.dropStale) _ hs)

theorem execSchedulerChoice_cntsWf {port : Port} {pick : Draw} (e : execSchedulerChoice port pick s = .next t) :
    CntsWf t.cnts := by
  refine CntsWf.of_next ?_ e
  split
  · exact hs
  · refine CntsWf.pfcUpdate (CntsWf.chooseNext (CntsWf.lineUpdate ?_))
    exact foldl_cntsWf (fun _ _ ht => ht.judgeKnown.dropNever) _ hs.bringCopies

theorem execPmcSampleTimeout_cntsWf {slice : Slice} {c : Fin 64} {pick : Draw}
    (e : execPmcSampleTimeout slice c pick s = .next t) : CntsWf t.cnts := by
  refine CntsWf.of_next ?_ e
  dsimp only
  split <;> simp [hs]

end

/-! ### Functions that may write a stored register -/

section
variable {s : State} (hs : RegsWf s.regs)
include hs

@[simp] theorem RegsWf.setReg {o : Nat} {v : Word} : RegsWf (s.setReg o v).regs := SMap.wf_set hs o v

@[simp] theorem RegsWf.wr {o v : Nat} : RegsWf (s.wr o v).regs := hs.setReg

@[simp] theorem RegsWf.keep {f : Nat → Word → Bool} : RegsWf (s.regs.keep f) := SMap.wf_keep hs f

@[simp] theorem RegsWf.clearPt {p : Nat} : RegsWf (s.clearPt p).regs := by
  simp [State.clearPt, hs]

@[simp] theorem RegsWf.writeCtrl {p v : Nat} {pick : Draw} : RegsWf (s.writeCtrl p v pick).regs := by
  unfold State.writeCtrl
  extract_lets o s1 up s2
  have h2 : RegsWf s2.regs := by
    unfold s2
    split <;> simp [s1, hs]
  (repeat' split) <;> simp [h2]

@[simp] theorem RegsWf.writeTest {p v : Nat} : RegsWf (s.writeTest p v).regs := by
  unfold State.writeTest
  extract_lets s1 s2
  have h2 : RegsWf s2.regs := by simp [s2, s1, hs]
  split <;> simp [h2]

@[simp] theorem RegsWf.writeTimeCtl {v : Nat} : RegsWf (s.writeTimeCtl v).regs := hs.wr

@[simp] theorem RegsWf.clearHalf {p : HostPort} : RegsWf (s.clearHalf p).regs := by
  simp [State.clearHalf, hs]

@[simp] theorem RegsWf.resetPort {p : HostPort} : RegsWf (s.resetPort p).regs := RegsWf.clearHalf (by simp [hs])

@[simp] theorem RegsWf.writeStored {p : HostPort} {o v : Nat} : RegsWf (s.writeStored p o v).regs := by
  unfold State.writeStored
  dsimp only
  (repeat' split) <;> simp [hs]

@[simp] theorem RegsWf.writeTimeout {p : HostPort} {v : Nat} : RegsWf (s.writeTimeout p v).regs := by
  unfold State.writeTimeout
  dsimp only
  split <;> simp [hs]

@[simp] theorem RegsWf.writeHi {p : HostPort} {o v : Nat} : RegsWf (s.writeHi p o v).regs := by
  unfold State.writeHi
  (repeat' split) <;> simp [hs]

@[simp] theorem RegsWf.writeOwn {p : HostPort} {o v : Nat} : RegsWf (s.writeOwn p o v).regs := by
  unfold State.writeOwn
  (repeat' split) <;> simp [hs]

@[simp] theorem RegsWf.write4 {p : HostPort} {o v : Nat} : RegsWf (s.write4 p o v).regs := by
  unfold State.write4
  dsimp only
  split <;> simp [hs]

end

@[simp] theorem enterReset_regsWf {cause : Nat} {hold : Bool} {s : State} : RegsWf (s.enterReset cause hold).regs := rfl

/-! ### Commands that may write a stored register -/

section
variable {s t : State} (hs : RegsWf s.regs)
include hs

theorem execCalFrerCtlWrite_regsWf {p : HostPort} {stream : Fin 1024} {value : Word}
    (e : execCalFrerCtlWrite p stream value s = .next t) : RegsWf t.regs := by
  refine RegsWf.of_next ?_ e
  dsimp only
  split <;> simp [hs]

theorem execClkPipeWrite_regsWf {p : HostPort} {value : Word} (e : execClkPipeWrite p value s = .next t) :
    RegsWf t.regs := by
  refine RegsWf.of_next ?_ e
  dsimp only
  split <;> simp [hs]

theorem execTblEpProfWrite_regsWf {p : HostPort} {high : Bool} {n : Fin 16} {value : Word}
    (e : execTblEpProfWrite p high n value s = .next t) : RegsWf t.regs := by
  refine RegsWf.of_next ?_ e
  dsimp only
  (repeat' split) <;> simp [hs]

theorem execEpSegSwap_regsWf {p : HostPort} {n : Fin 64} (e : execEpSegSwap p n s = .next t) : RegsWf t.regs := by
  refine RegsWf.of_next (RegsWf.runCmd (fun c u hu => ?_) hs) e
  dsimp only
  (repeat' split) <;> simp [hu]

theorem execModeRequestReset_regsWf {p : HostPort} {n : Fin 64} (e : execModeRequestReset p n s = .next t) :
    RegsWf t.regs := by
  refine RegsWf.of_next (RegsWf.runCmd (fun c u hu => ?_) hs) e
  split <;> simp [hu]

theorem execGlReset_regsWf {p : HostPort} {value : Word} (e : execGlReset p value s = .next t) : RegsWf t.regs := by
  refine RegsWf.of_next ?_ e
  dsimp only
  split <;> simp [hs]

theorem execGlFwLen_regsWf {p : HostPort} {value : Word} (e : execGlFwLen p value s = .next t) : RegsWf t.regs := by
  refine RegsWf.of_next ?_ e
  dsimp only
  (repeat' split) <;> simp [hs]

theorem execResetNFall_regsWf {ns : Nat} {acts : Bool} (e : execResetNFall ns acts s = .next t) : RegsWf t.regs := by
  refine RegsWf.of_next ?_ e
  split <;> simp [hs]

omit hs in
theorem execLossOfPower_regsWf (e : execLossOfPower s = .next t) : RegsWf t.regs := by
  refine RegsWf.of_next ?_ e
  rfl

theorem execHiIfrstStart_regsWf {p half : HostPort} {value : Word} (e : execHiIfrstStart p half value s = .next t) :
    RegsWf t.regs := by
  refine RegsWf.of_next ?_ e
  split <;> simp [hs]

theorem execPerstFall_regsWf {p : HostPort} {ns : Nat} {acts : Bool} (e : execPerstFall p ns acts s = .next t) :
    RegsWf t.regs := by
  refine RegsWf.of_next ?_ e
  extract_lets up s1 s2
  have h2 : RegsWf s2.regs := by simp [s2, s1, hs]
  (repeat' split) <;> simp [hs, h2]

theorem execPtModeWrite_regsWf {p : HostPort} {port : Port} {value : Word} {pick : Draw}
    (e : execPtModeWrite p port value pick s = .next t) : RegsWf t.regs := by
  refine RegsWf.of_next ?_ e
  extract_lets v _ left s0 s1 swallowed s2 _ s3
  have h1 : RegsWf s1.regs := RegsWf.wr (by simp [s0, hs])
  have h2 : RegsWf s2.regs := foldl_regsWf (fun t q ht => by simp [ht]) _ h1
  (repeat' split) <;> simp [hs, s3, h2]

theorem execAdminUpSet_regsWf {p : HostPort} {port : Port} {value : Word} {pick : Draw}
    (e : execAdminUpSet p port value pick s = .next t) : RegsWf t.regs := by
  refine RegsWf.of_next ?_ e
  split <;> simp [hs]

theorem execAdminUpClear_regsWf {p : HostPort} {port : Port} {value : Word} {pick : Draw}
    (e : execAdminUpClear p port value pick s = .next t) : RegsWf t.regs := by
  refine RegsWf.of_next ?_ e
  split <;> simp [hs]

theorem execRetrain_regsWf {p : HostPort} {port : Port} {value : Word} {pick : Draw}
    (e : execRetrain p port value pick s = .next t) : RegsWf t.regs := by
  refine RegsWf.of_next ?_ e
  split <;> simp [hs]

theorem execLoopbackSelect_regsWf {by' : Writer} {port : Port} {loopback : Fin 4} {pick : Draw}
    (e : execLoopbackSelect by' port loopback pick s = .next t) : RegsWf t.regs := by
  refine RegsWf.of_next ?_ e
  split <;> simp [hs]

theorem execPtTestWrite_regsWf {by' : Writer} {port : Port} {value : Word}
    (e : execPtTestWrite by' port value s = .next t) : RegsWf t.regs := by
  refine RegsWf.of_next ?_ e
  dsimp only
  split <;> simp [hs]

theorem execHpLaneTxeqWrite_regsWf {p : HostPort} {lane : Lane} {value : Word}
    (e : execHpLaneTxeqWrite p lane value s = .next t) : RegsWf t.regs := by
  refine RegsWf.of_next ?_ e
  split <;> simp [hs]

theorem execRegisterWrite_regsWf {p : HostPort} {offset : BitVec 26} {wide : Bool} {value : DWord}
    (e : execRegisterWrite p offset wide value s = .next t) : RegsWf t.regs := by
  refine RegsWf.of_next ?_ e
  dsimp only
  (repeat' split) <;> simp [hs]

theorem execPerfUserEnWrite_regsWf {p : HostPort} {value : Word} (e : execPerfUserEnWrite p value s = .next t) :
    RegsWf t.regs := by
  refine RegsWf.of_next ?_ e
  split <;> simp [hs]

theorem execTimeOutEnable_regsWf {p : HostPort} {pin : Fin 8} {value : Word}
    (e : execTimeOutEnable p pin value s = .next t) : RegsWf t.regs := by
  refine RegsWf.of_next ?_ e
  dsimp only
  (repeat' split) <;> simp [hs]

theorem execTimeSetGo_regsWf {p : HostPort} {value : Word} (e : execTimeSetGo p value s = .next t) : RegsWf t.regs := by
  refine RegsWf.of_next ?_ e
  dsimp only
  (repeat' split) <;> simp [hs]

theorem execTimeAdjGo_regsWf {p : HostPort} {value : Word} (e : execTimeAdjGo p value s = .next t) : RegsWf t.regs := by
  refine RegsWf.of_next ?_ e
  dsimp only
  split <;> simp [hs]

theorem execTimeFreqWrite_regsWf {p : HostPort} {value : Word} (e : execTimeFreqWrite p value s = .next t) :
    RegsWf t.regs := by
  refine RegsWf.of_next ?_ e
  (repeat' split) <;> simp [hs]

end

/-! ### Every step -/

/-- Each of the 240 commands keeps the canonical form: it leaves the registers or the counters as they are, or has a
lemma above. -/
theorem exec_canonical {i : Instr} {s t : State} (hs : Canonical s) (hx : exec i s = .next t) : Canonical t := by
  have ⟨hr, hc⟩ := hs
  cases i with
  | resetNFall ns acts => exact ⟨execResetNFall_regsWf hr hx, execResetNFall_cntsWf hc hx⟩
  | resetNRise hostPref strap => simpa only [Canonical, execResetNRise_keeps hostPref strap s hx] using hs
  | pwrfailNFall ns acts mv => simpa only [Canonical, execPwrfailNFall_keeps ns acts mv s hx] using hs
  | pwrfailNRise => simpa only [Canonical, execPwrfailNRise_keeps s hx] using hs
  | hostSelNFall ns acts => simpa only [Canonical, execHostSelNFall_keeps ns acts s hx] using hs
  | hostSelNRise => simpa only [Canonical, execHostSelNRise_keeps s hx] using hs
  | perstFall p ns acts =>
    exact ⟨execPerstFall_regsWf hr hx, by simpa only [execPerstFall_keeps p ns acts s hx] using hc⟩
  | perstRise p => simpa only [Canonical, execPerstRise_keeps p s hx] using hs
  | pcieLinkDown p => simpa only [Canonical, execPcieLinkDown_keeps p s hx] using hs
  | pcieLinkUp p rate width => simpa only [Canonical, execPcieLinkUp_keeps p rate width s hx] using hs
  | busMasterEnableFall p => simpa only [Canonical, execBusMasterEnableFall_keeps p s hx] using hs
  | busMasterEnableRise p => simpa only [Canonical, execBusMasterEnableRise_keeps p s hx] using hs
  | junctionComparatorTrip sensor =>
    exact ⟨by simpa only [execJunctionComparatorTrip_keeps sensor s hx] using hr,
      execJunctionComparatorTrip_cntsWf hc hx⟩
  | timeInEdge pin rising => simpa only [Canonical, execTimeInEdge_keeps pin rising s hx] using hs
  | vholdCollapse => simpa only [Canonical, execVholdCollapse_keeps s hx] using hs
  | clockJudgeWindow clock count pick =>
    exact ⟨by simpa only [execClockJudgeWindow_keeps clock count pick s hx] using hr,
      execClockJudgeWindow_cntsWf hc hx⟩
  | bootClock => exact ⟨by simpa only [execBootClock_keeps s hx] using hr, execBootClock_cntsWf hc hx⟩
  | oscillatorTrim err usable => simpa only [Canonical, execOscillatorTrim_keeps err usable s hx] using hs
  | trimSrcLost => simpa only [Canonical, execTrimSrcLost_keeps s hx] using hs
  | pipelineClockStep => simpa only [Canonical, execPipelineClockStep_keeps s hx] using hs
  | deviceResetHoldEnd => simpa only [Canonical, execDeviceResetHoldEnd_keeps s hx] using hs
  | bootSelftestDone memA katA memB katB =>
    simpa only [Canonical, execBootSelftestDone_keeps memA katA memB katB s hx] using hs
  | fwFetchStart => simpa only [Canonical, execFwFetchStart_keeps s hx] using hs
  | fwFetchDone ok => simpa only [Canonical, execFwFetchDone_keeps ok s hx] using hs
  | fwVerifyDone good image version =>
    simpa only [Canonical, execFwVerifyDone_keeps good image version s hx] using hs
  | fwFetchTimeout => simpa only [Canonical, execFwFetchTimeout_keeps s hx] using hs
  | roleProofDone aOk bOk => simpa only [Canonical, execRoleProofDone_keeps aOk bOk s hx] using hs
  | kennelReadbackDone errs element =>
    simpa only [Canonical, execKennelReadbackDone_keeps errs element s hx] using hs
  | bootChoiceTimer => simpa only [Canonical, execBootChoiceTimer_keeps s hx] using hs
  | glModeReq p value =>
    exact ⟨by simpa only [execGlModeReq_keeps p value s hx] using hr, execGlModeReq_cntsWf hc hx⟩
  | glModeReqBoot p value => simpa only [Canonical, execGlModeReqBoot_keeps p value s hx] using hs
  | glReset p value => exact ⟨execGlReset_regsWf hr hx, execGlReset_cntsWf hc hx⟩
  | glFwLen p value => exact ⟨execGlFwLen_regsWf hr hx, by simpa only [execGlFwLen_keeps p value s hx] using hc⟩
  | hiIfrstStart p half value =>
    exact ⟨execHiIfrstStart_regsWf hr hx, by simpa only [execHiIfrstStart_keeps p half value s hx] using hc⟩
  | hiIfrstDone p => simpa only [Canonical, execHiIfrstDone_keeps p s hx] using hs
  | hiHandover p half value => simpa only [Canonical, execHiHandover_keeps p half value s hx] using hs
  | heartbeat p => simpa only [Canonical, execHeartbeat_keeps p s hx] using hs
  | heartbeatTimeout => simpa only [Canonical, execHeartbeatTimeout_keeps s hx] using hs
  | revertHoldExpiry => simpa only [Canonical, execRevertHoldExpiry_keeps s hx] using hs
  | hiRingEnable p half n => simpa only [Canonical, execHiRingEnable_keeps p half n s hx] using hs
  | hiRingDisable p half n => simpa only [Canonical, execHiRingDisable_keeps p half n s hx] using hs
  | ringWorkDrained p n => simpa only [Canonical, execRingWorkDrained_keeps p n s hx] using hs
  | hiRingStatClear p half n value => simpa only [Canonical, execHiRingStatClear_keeps p half n value s hx] using hs
  | prodDoorbell p n value => simpa only [Canonical, execProdDoorbell_keeps p n value s hx] using hs
  | consDoorbell p n value => simpa only [Canonical, execConsDoorbell_keeps p n value s hx] using hs
  | commandFetch p n desc => simpa only [Canonical, execCommandFetch_keeps p n desc s hx] using hs
  | dmaErrorCompletion p n => simpa only [Canonical, execDmaErrorCompletion_keeps p n s hx] using hs
  | vectorTimerExpiry p v => simpa only [Canonical, execVectorTimerExpiry_keeps p v s hx] using hs
  | nop p n => simpa only [Canonical, execNop_keeps p n s hx] using hs
  | fence p n => simpa only [Canonical, execFence_keeps p n s hx] using hs
  | notSupported p n => simpa only [Canonical, execNotSupported_keeps p n s hx] using hs
  | epInsert p n => exact ⟨by simpa only [execEpInsert_keeps p n s hx] using hr, execEpInsert_cntsWf hc hx⟩
  | epDelete p n => exact ⟨by simpa only [execEpDelete_keeps p n s hx] using hr, execEpDelete_cntsWf hc hx⟩
  | epRead p n => exact ⟨by simpa only [execEpRead_keeps p n s hx] using hr, execEpRead_cntsWf hc hx⟩
  | epSegRehash p n => simpa only [Canonical, execEpSegRehash_keeps p n s hx] using hs
  | epSegRehashAbort p n => simpa only [Canonical, execEpSegRehashAbort_keeps p n s hx] using hs
  | epSegRehashResume p n => simpa only [Canonical, execEpSegRehashResume_keeps p n s hx] using hs
  | epSegRehashRevert p n => simpa only [Canonical, execEpSegRehashRevert_keeps p n s hx] using hs
  | epSegSwap p n => exact ⟨execEpSegSwap_regsWf hr hx, by simpa only [execEpSegSwap_keeps p n s hx] using hc⟩
  | tableEngineStep errs =>
    exact ⟨by simpa only [execTableEngineStep_keeps errs s hx] using hr, execTableEngineStep_cntsWf hc hx⟩
  | directWrite p n => simpa only [Canonical, execDirectWrite_keeps p n s hx] using hs
  | directRead p n => simpa only [Canonical, execDirectRead_keeps p n s hx] using hs
  | lpmAdd p n picks => simpa only [Canonical, execLpmAdd_keeps p n picks s hx] using hs
  | lpmDelete p n => simpa only [Canonical, execLpmDelete_keeps p n s hx] using hs
  | lpmRead p n => simpa only [Canonical, execLpmRead_keeps p n s hx] using hs
  | aclWrite p n data => simpa only [Canonical, execAclWrite_keeps p n data s hx] using hs
  | aclWriteMove p n => simpa only [Canonical, execAclWriteMove_keeps p n s hx] using hs
  | aclWriteMaskOnly p n => simpa only [Canonical, execAclWriteMaskOnly_keeps p n s hx] using hs
  | aclInvalidate p n => simpa only [Canonical, execAclInvalidate_keeps p n s hx] using hs
  | aclRead p n => simpa only [Canonical, execAclRead_keeps p n s hx] using hs
  | aclProbe p n key => simpa only [Canonical, execAclProbe_keeps p n key s hx] using hs
  | treeLoad p n image => simpa only [Canonical, execTreeLoad_keeps p n image s hx] using hs
  | treeLoadDone g => simpa only [Canonical, execTreeLoadDone_keeps g s hx] using hs
  | csLoad p n image => simpa only [Canonical, execCsLoad_keeps p n image s hx] using hs
  | csLoadProvision p n image => simpa only [Canonical, execCsLoadProvision_keeps p n image s hx] using hs
  | csLoadDone g good => simpa only [Canonical, execCsLoadDone_keeps g good s hx] using hs
  | genSwap p n => simpa only [Canonical, execGenSwap_keeps p n s hx] using hs
  | genSwapInstant => simpa only [Canonical, execGenSwapInstant_keeps s hx] using hs
  | genDrained => simpa only [Canonical, execGenDrained_keeps s hx] using hs
  | l2Write p n => simpa only [Canonical, execL2Write_keeps p n s hx] using hs
  | l2Delete p n => simpa only [Canonical, execL2Delete_keeps p n s hx] using hs
  | l2Flush p n => simpa only [Canonical, execL2Flush_keeps p n s hx] using hs
  | l2Read p n => simpa only [Canonical, execL2Read_keeps p n s hx] using hs
  | ecmpGroupWrite p n => simpa only [Canonical, execEcmpGroupWrite_keeps p n s hx] using hs
  | ecmpMemberWrite p n words => simpa only [Canonical, execEcmpMemberWrite_keeps p n words s hx] using hs
  | calLoad p n data => simpa only [Canonical, execCalLoad_keeps p n data s hx] using hs
  | calSwap p n => simpa only [Canonical, execCalSwap_keeps p n s hx] using hs
  | calSwapInstant port => simpa only [Canonical, execCalSwapInstant_keeps port s hx] using hs
  | fretBoundary port => simpa only [Canonical, execFretBoundary_keeps port s hx] using hs
  | policerWrite p n => simpa only [Canonical, execPolicerWrite_keeps p n s hx] using hs
  | policerRead p n => simpa only [Canonical, execPolicerRead_keeps p n s hx] using hs
  | shaperWrite p n => simpa only [Canonical, execShaperWrite_keeps p n s hx] using hs
  | shaperRead p n => simpa only [Canonical, execShaperRead_keeps p n s hx] using hs
  | queueCfg p n => exact ⟨by simpa only [execQueueCfg_keeps p n s hx] using hr, execQueueCfg_cntsWf hc hx⟩
  | ctrSnapshot p n => simpa only [Canonical, execCtrSnapshot_keeps p n s hx] using hs
  | ctrSnapshotCancel p n => simpa only [Canonical, execCtrSnapshotCancel_keeps p n s hx] using hs
  | ctrSnapshotUnfreeze p n => simpa only [Canonical, execCtrSnapshotUnfreeze_keeps p n s hx] using hs
  | snapshotInstant => simpa only [Canonical, execSnapshotInstant_keeps s hx] using hs
  | ctrRead p n => simpa only [Canonical, execCtrRead_keeps p n s hx] using hs
  | pwrStateParkSlice p n => simpa only [Canonical, execPwrStateParkSlice_keeps p n s hx] using hs
  | pwrStateParkLanes p n => simpa only [Canonical, execPwrStateParkLanes_keeps p n s hx] using hs
  | pwrStateUnpark p n => simpa only [Canonical, execPwrStateUnpark_keeps p n s hx] using hs
  | unparkRampEnd => exact ⟨by simpa only [execUnparkRampEnd_keeps s hx] using hr, execUnparkRampEnd_cntsWf hc hx⟩
  | phaseHint p n => simpa only [Canonical, execPhaseHint_keeps p n s hx] using hs
  | phaseHintCancelAll p n => simpa only [Canonical, execPhaseHintCancelAll_keeps p n s hx] using hs
  | hintStart => simpa only [Canonical, execHintStart_keeps s hx] using hs
  | hintEnd slot => simpa only [Canonical, execHintEnd_keeps slot s hx] using hs
  | capSet p n => simpa only [Canonical, execCapSet_keeps p n s hx] using hs
  | bpmAlloc p n picks failed =>
    exact ⟨by simpa only [execBpmAlloc_keeps p n picks failed s hx] using hr, execBpmAlloc_cntsWf hc hx⟩
  | bpmFree p n handles =>
    exact ⟨by simpa only [execBpmFree_keeps p n handles s hx] using hr, execBpmFree_cntsWf hc hx⟩
  | bpmFreeAllHost p n =>
    exact ⟨by simpa only [execBpmFreeAllHost_keeps p n s hx] using hr, execBpmFreeAllHost_cntsWf hc hx⟩
  | modeRequest p n => exact ⟨by simpa only [execModeRequest_keeps p n s hx] using hr, execModeRequest_cntsWf hc hx⟩
  | modeRequestReset p n => exact ⟨execModeRequestReset_regsWf hr hx, execModeRequestReset_cntsWf hc hx⟩
  | drainIngressStopped =>
    exact ⟨by simpa only [execDrainIngressStopped_keeps s hx] using hr, execDrainIngressStopped_cntsWf hc hx⟩
  | drainBufferEmpty =>
    exact ⟨by simpa only [execDrainBufferEmpty_keeps s hx] using hr, execDrainBufferEmpty_cntsWf hc hx⟩
  | drainFlushTimeout pick =>
    exact ⟨by simpa only [execDrainFlushTimeout_keeps pick s hx] using hr, execDrainFlushTimeout_cntsWf hc hx⟩
  | pipelinesGated =>
    exact ⟨by simpa only [execPipelinesGated_keeps s hx] using hr, execPipelinesGated_cntsWf hc hx⟩
  | saveWriteEnd => simpa only [Canonical, execSaveWriteEnd_keeps s hx] using hs
  | faultInject p n => simpa only [Canonical, execFaultInject_keeps p n s hx] using hs
  | faultInjectCancel p n => simpa only [Canonical, execFaultInjectCancel_keeps p n s hx] using hs
  | spdmGetVersion p => simpa only [Canonical, execSpdmGetVersion_keeps p s hx] using hs
  | spdmGetCapabilities p => simpa only [Canonical, execSpdmGetCapabilities_keeps p s hx] using hs
  | spdmNegotiateAlgorithms p offered =>
    simpa only [Canonical, execSpdmNegotiateAlgorithms_keeps p offered s hx] using hs
  | spdmGetDigests p answers => simpa only [Canonical, execSpdmGetDigests_keeps p answers s hx] using hs
  | spdmGetCertificate p slot offset length answers =>
    simpa only [Canonical, execSpdmGetCertificate_keeps p slot offset length answers s hx] using hs
  | spdmChallenge p slot nonce answers =>
    simpa only [Canonical, execSpdmChallenge_keeps p slot nonce answers s hx] using hs
  | spdmGetMeasurements p op sign nonce answers =>
    simpa only [Canonical, execSpdmGetMeasurements_keeps p op sign nonce answers s hx] using hs
  | doeAbort p => simpa only [Canonical, execDoeAbort_keeps p s hx] using hs
  | ptModeWrite p port value pick => exact ⟨execPtModeWrite_regsWf hr hx, execPtModeWrite_cntsWf hc hx⟩
  | adminUpSet p port value pick => exact ⟨execAdminUpSet_regsWf hr hx, execAdminUpSet_cntsWf hc hx⟩
  | adminUpClear p port value pick => exact ⟨execAdminUpClear_regsWf hr hx, execAdminUpClear_cntsWf hc hx⟩
  | retrain p port value pick => exact ⟨execRetrain_regsWf hr hx, execRetrain_cntsWf hc hx⟩
  | loopbackSelect by' port loopback pick =>
    exact ⟨execLoopbackSelect_regsWf hr hx, execLoopbackSelect_cntsWf hc hx⟩
  | ptTestWrite by' port value => exact ⟨execPtTestWrite_regsWf hr hx, execPtTestWrite_cntsWf hc hx⟩
  | hpLaneTxeqWrite p lane value =>
    exact ⟨execHpLaneTxeqWrite_regsWf hr hx, by simpa only [execHpLaneTxeqWrite_keeps p lane value s hx] using hc⟩
  | detectSignal x => simpa only [Canonical, execDetectSignal_keeps x s hx] using hs
  | anComplete port => simpa only [Canonical, execAnComplete_keeps port s hx] using hs
  | lxTrainingFrame lane inverted frame =>
    simpa only [Canonical, execLxTrainingFrame_keeps lane inverted frame s hx] using hs
  | trainingComplete port => simpa only [Canonical, execTrainingComplete_keeps port s hx] using hs
  | alignComplete port rxLat txLat reversed inverted margins =>
    exact ⟨by simpa only [execAlignComplete_keeps port rxLat txLat reversed inverted margins s hx] using hr,
      execAlignComplete_cntsWf hc hx⟩
  | portStateLimit port =>
    exact ⟨by simpa only [execPortStateLimit_keeps port s hx] using hr, execPortStateLimit_cntsWf hc hx⟩
  | laneLoss lane what pick =>
    exact ⟨by simpa only [execLaneLoss_keeps lane what pick s hx] using hr, execLaneLoss_cntsWf hc hx⟩
  | fecWindow port total corr uncorr hist margins =>
    exact ⟨by simpa only [execFecWindow_keeps port total corr uncorr hist margins s hx] using hr,
      execFecWindow_cntsWf hc hx⟩
  | d2dWireError harp toHarp wire lane pick =>
    exact ⟨by simpa only [execD2dWireError_keeps harp toHarp wire lane pick s hx] using hr,
      execD2dWireError_cntsWf hc hx⟩
  | preemptVerify port verify => simpa only [Canonical, execPreemptVerify_keeps port verify s hx] using hs
  | frameReceive port bytes rx =>
    exact ⟨by simpa only [execFrameReceive_keeps port bytes rx s hx] using hr, execFrameReceive_cntsWf hc hx⟩
  | macControlFrame port bytes errored =>
    exact ⟨by simpa only [execMacControlFrame_keeps port bytes errored s hx] using hr,
      execMacControlFrame_cntsWf hc hx⟩
  | pauseExpiry port tc => simpa only [Canonical, execPauseExpiry_keeps port tc s hx] using hs
  | frameAdmission slice slot pick =>
    exact ⟨by simpa only [execFrameAdmission_keeps slice slot pick s hx] using hr, execFrameAdmission_cntsWf hc hx⟩
  | headDispatch slice => simpa only [Canonical, execHeadDispatch_keeps slice s hx] using hs
  | parseStop slice e parity errs =>
    exact ⟨by simpa only [execParseStop_keeps slice e parity errs s hx] using hr, execParseStop_cntsWf hc hx⟩
  | extentChoice port pos lost =>
    exact ⟨by simpa only [execExtentChoice_keeps port pos lost s hx] using hr, execExtentChoice_cntsWf hc hx⟩
  | lookupComplete slice errs rows pick =>
    exact ⟨by simpa only [execLookupComplete_keeps slice errs rows pick s hx] using hr,
      execLookupComplete_cntsWf hc hx⟩
  | learnRecord slice origin =>
    exact ⟨by simpa only [execLearnRecord_keeps slice origin s hx] using hr, execLearnRecord_cntsWf hc hx⟩
  | enqueue port inject rand ups pick =>
    exact ⟨by simpa only [execEnqueue_keeps port inject rand ups pick s hx] using hr, execEnqueue_cntsWf hc hx⟩
  | captureResume session => simpa only [Canonical, execCaptureResume_keeps session s hx] using hs
  | pfcRefresh port => exact ⟨by simpa only [execPfcRefresh_keeps port s hx] using hr, execPfcRefresh_cntsWf hc hx⟩
  | frerResetTimer stream =>
    exact ⟨by simpa only [execFrerResetTimer_keeps stream s hx] using hr, execFrerResetTimer_cntsWf hc hx⟩
  | schedulerChoice port pick =>
    exact ⟨by simpa only [execSchedulerChoice_keeps port pick s hx] using hr, execSchedulerChoice_cntsWf hc hx⟩
  | frameEgress port ups pos lost =>
    exact ⟨by simpa only [execFrameEgress_keeps port ups pos lost s hx] using hr, execFrameEgress_cntsWf hc hx⟩
  | recircTimeout port pick =>
    exact ⟨by simpa only [execRecircTimeout_keeps port pick s hx] using hr, execRecircTimeout_cntsWf hc hx⟩
  | tc7Stale port pick =>
    exact ⟨by simpa only [execTc7Stale_keeps port pick s hx] using hr, execTc7Stale_cntsWf hc hx⟩
  | shaperTokenUpdate => simpa only [Canonical, execShaperTokenUpdate_keeps s hx] using hs
  | policerBucketFill => simpa only [Canonical, execPolicerBucketFill_keeps s hx] using hs
  | histogramSample => simpa only [Canonical, execHistogramSample_keeps s hx] using hs
  | transmitDescriptor desc frame pick =>
    exact ⟨by simpa only [execTransmitDescriptor_keeps desc frame pick s hx] using hr,
      execTransmitDescriptor_cntsWf hc hx⟩
  | cpuQueueService desc ups pick =>
    exact ⟨by simpa only [execCpuQueueService_keeps desc ups pick s hx] using hr, execCpuQueueService_cntsWf hc hx⟩
  | canaryTest slice => simpa only [Canonical, execCanaryTest_keeps slice s hx] using hs
  | canaryTestEnd slice pass =>
    exact ⟨by simpa only [execCanaryTestEnd_keeps slice pass s hx] using hr, execCanaryTestEnd_cntsWf hc hx⟩
  | csScrub errs => simpa only [Canonical, execCsScrub_keeps errs s hx] using hs
  | csEccRepair slice loc => simpa only [Canonical, execCsEccRepair_keeps slice loc s hx] using hs
  | treeScrub errs => simpa only [Canonical, execTreeScrub_keeps errs s hx] using hs
  | treeEccRepair slice loc => simpa only [Canonical, execTreeEccRepair_keeps slice loc s hx] using hs
  | tcamShadowScrub slice rows => simpa only [Canonical, execTcamShadowScrub_keeps slice rows s hx] using hs
  | tcamRowSpare slice loc => simpa only [Canonical, execTcamRowSpare_keeps slice loc s hx] using hs
  | epScrub errs => exact ⟨by simpa only [execEpScrub_keeps errs s hx] using hr, execEpScrub_cntsWf hc hx⟩
  | l2AgeTick slice => exact ⟨by simpa only [execL2AgeTick_keeps slice s hx] using hr, execL2AgeTick_cntsWf hc hx⟩
  | flapHoldExpiry slice =>
    exact ⟨by simpa only [execFlapHoldExpiry_keeps slice s hx] using hr, execFlapHoldExpiry_cntsWf hc hx⟩
  | l2MoveSecond => simpa only [Canonical, execL2MoveSecond_keeps s hx] using hs
  | bpmCommit p value => simpa only [Canonical, execBpmCommit_keeps p value s hx] using hs
  | bpmCommitDone => exact ⟨by simpa only [execBpmCommitDone_keeps s hx] using hr, execBpmCommitDone_cntsWf hc hx⟩
  | sheepdogSweep ups => simpa only [Canonical, execSheepdogSweep_keeps ups s hx] using hs
  | sheepdogSweepEnd =>
    exact ⟨by simpa only [execSheepdogSweepEnd_keeps s hx] using hr, execSheepdogSweepEnd_cntsWf hc hx⟩
  | timeSetGo p value =>
    exact ⟨execTimeSetGo_regsWf hr hx, by simpa only [execTimeSetGo_keeps p value s hx] using hc⟩
  | timeAdjGo p value =>
    exact ⟨execTimeAdjGo_regsWf hr hx, by simpa only [execTimeAdjGo_keeps p value s hx] using hc⟩
  | slewEnd => simpa only [Canonical, execSlewEnd_keeps s hx] using hs
  | timeFreqWrite p value =>
    exact ⟨execTimeFreqWrite_regsWf hr hx, by simpa only [execTimeFreqWrite_keeps p value s hx] using hc⟩
  | teTrack m => simpa only [Canonical, execTeTrack_keeps m s hx] using hs
  | teCounterFault e => simpa only [Canonical, execTeCounterFault_keeps e s hx] using hs
  | teRevert => simpa only [Canonical, execTeRevert_keeps s hx] using hs
  | timeOutEnable p pin value =>
    exact ⟨execTimeOutEnable_regsWf hr hx, by simpa only [execTimeOutEnable_keeps p pin value s hx] using hc⟩
  | pulseEdge pin => simpa only [Canonical, execPulseEdge_keeps pin s hx] using hs
  | calBaseSecWrite p part value => simpa only [Canonical, execCalBaseSecWrite_keeps p part value s hx] using hs
  | calBaseNsWrite p value => simpa only [Canonical, execCalBaseNsWrite_keeps p value s hx] using hs
  | ptCalCfgWrite p port value => simpa only [Canonical, execPtCalCfgWrite_keeps p port value s hx] using hs
  | calFrerCtlWrite p stream value =>
    exact ⟨execCalFrerCtlWrite_regsWf hr hx, by simpa only [execCalFrerCtlWrite_keeps p stream value s hx] using hc⟩
  | powerLoopTick e saving stay => simpa only [Canonical, execPowerLoopTick_keeps e saving stay s hx] using hs
  | throttleOff => simpa only [Canonical, execThrottleOff_keeps s hx] using hs
  | capUnmet => simpa only [Canonical, execCapUnmet_keeps s hx] using hs
  | capMet => simpa only [Canonical, execCapMet_keeps s hx] using hs
  | pmbusCalibration answers blame => simpa only [Canonical, execPmbusCalibration_keeps answers blame s hx] using hs
  | calResume p value => simpa only [Canonical, execCalResume_keeps p value s hx] using hs
  | temperatureRead hot sensor => simpa only [Canonical, execTemperatureRead_keeps hot sensor s hx] using hs
  | thermalLimitTick => simpa only [Canonical, execThermalLimitTick_keeps s hx] using hs
  | vholdReading mv => simpa only [Canonical, execVholdReading_keeps mv s hx] using hs
  | pwrSaveDiscard p value => simpa only [Canonical, execPwrSaveDiscard_keeps p value s hx] using hs
  | clkPipeWrite p value =>
    exact ⟨execClkPipeWrite_regsWf hr hx, by simpa only [execClkPipeWrite_keeps p value s hx] using hc⟩
  | faultReport source code detail => simpa only [Canonical, execFaultReport_keeps source code detail s hx] using hs
  | faultRecord => exact ⟨by simpa only [execFaultRecord_keeps s hx] using hr, execFaultRecord_cntsWf hc hx⟩
  | collectorFault part corrected =>
    exact ⟨by simpa only [execCollectorFault_keeps part corrected s hx] using hr, execCollectorFault_cntsWf hc hx⟩
  | fltFirstClear p value => simpa only [Canonical, execFltFirstClear_keeps p value s hx] using hs
  | fltLostClear p value => simpa only [Canonical, execFltLostClear_keeps p value s hx] using hs
  | clrCounts p value => simpa only [Canonical, execClrCounts_keeps p value s hx] using hs
  | keelVote id upsets => simpa only [Canonical, execKeelVote_keeps id upsets s hx] using hs
  | collieHeartbeat e memFail => simpa only [Canonical, execCollieHeartbeat_keeps e memFail s hx] using hs
  | collieHeartbeatTimeout e => simpa only [Canonical, execCollieHeartbeatTimeout_keeps e s hx] using hs
  | collieRestored e loaded ok => simpa only [Canonical, execCollieRestored_keeps e loaded ok s hx] using hs
  | collieKatCheck ok => simpa only [Canonical, execCollieKatCheck_keeps ok s hx] using hs
  | collieMemorySweep ok => simpa only [Canonical, execCollieMemorySweep_keeps ok s hx] using hs
  | mirrorTransfer applied => simpa only [Canonical, execMirrorTransfer_keeps applied s hx] using hs
  | mirrorOkLapse => simpa only [Canonical, execMirrorOkLapse_keeps s hx] using hs
  | collieRevert => simpa only [Canonical, execCollieRevert_keeps s hx] using hs
  | refRoleCmd p value => simpa only [Canonical, execRefRoleCmd_keeps p value s hx] using hs
  | refFwuCtl p value => simpa only [Canonical, execRefFwuCtl_keeps p value s hx] using hs
  | fwuVerifyDone fetched good image version =>
    simpa only [Canonical, execFwuVerifyDone_keeps fetched good image version s hx] using hs
  | fwuReloadDone ok => simpa only [Canonical, execFwuReloadDone_keeps ok s hx] using hs
  | refHostPrefWrite p value => simpa only [Canonical, execRefHostPrefWrite_keeps p value s hx] using hs
  | healthPeriodic => simpa only [Canonical, execHealthPeriodic_keeps s hx] using hs
  | wearWritePeriod => simpa only [Canonical, execWearWritePeriod_keeps s hx] using hs
  | wearWriteEnd ok => simpa only [Canonical, execWearWriteEnd_keeps ok s hx] using hs
  | pmcSampleTimeout slice c pick =>
    exact ⟨by simpa only [execPmcSampleTimeout_keeps slice c pick s hx] using hr, execPmcSampleTimeout_cntsWf hc hx⟩
  | perfUserEnWrite p value =>
    exact ⟨execPerfUserEnWrite_regsWf hr hx, by simpa only [execPerfUserEnWrite_keeps p value s hx] using hc⟩
  | tblEpProfWrite p high t value =>
    exact ⟨execTblEpProfWrite_regsWf hr hx, by simpa only [execTblEpProfWrite_keeps p high t value s hx] using hc⟩
  | registerWrite p offset wide value => exact ⟨execRegisterWrite_regsWf hr hx, execRegisterWrite_cntsWf hc hx⟩
  | lossOfPower => exact ⟨execLossOfPower_regsWf hx, execLossOfPower_cntsWf hx⟩
  | calendarBasePassed => simpa only [Canonical, execCalendarBasePassed_keeps s hx] using hs
  | prbsLock lane locked errors => simpa only [Canonical, execPrbsLock_keeps lane locked errors s hx] using hs
  | rsFault port localFault remoteFault =>
    simpa only [Canonical, execRsFault_keeps port localFault remoteFault s hx] using hs
  | d3hot p enter => simpa only [Canonical, execD3hot_keeps p enter s hx] using hs
  | tapInstruction reset code => simpa only [Canonical, execTapInstruction_keeps reset code s hx] using hs

/-- A nanosecond of the clock touches no register and no counter. -/
theorem tick_canonical {s : State} (hs : Canonical s) : Canonical s.tick := hs

end Sys2Proof.Machine

namespace Sys2Proof.Proofs
open Sys2Proof.Machine Sys2Proof.Safety

/-- Settles O51: a step is a nanosecond or the front command, and both keep the canonical form. -/
theorem registersAndCountersStayCanonical : Obligations.RegistersAndCountersStayCanonical := by
  unfold Obligations.RegistersAndCountersStayCanonical
  intro s t hs e
  unfold step at e
  split at e
  · obtain rfl := Host.Outcome.next.inj e
    exact tick_canonical hs
  next c rest _ => exact exec_canonical (s := { s with pending := rest }) hs e

end Sys2Proof.Proofs
end

section
/-! A host's write of a register (O47): where it goes, by its offset and its width, and what a stored register
takes. -/
namespace Sys2Proof.Machine
open Sys2Proof.Safety

/-! ### The offset and the width -/

theorem execRegisterWrite_of_unaligned {o : BitVec 26} (h : o.toNat % 4 ≠ 0) (p : HostPort) (w : Bool) (v : DWord)
    (s : State) : execRegisterWrite p o w v s = .next s := by
  simp [execRegisterWrite, h]

/-- 8 bytes at an offset of no 64-bit register are not written (R74). -/
theorem execRegisterWrite_wide_of_narrow {o : BitVec 26} (h : o.toNat % 8 ≠ 0 ∨ isWide o.toNat = false)
    (p : HostPort) (v : DWord) (s : State) : execRegisterWrite p o true v s = .next s := by
  have hno : ¬(o.toNat % 8 = 0 ∧ isWide o.toNat = true) := by
    rintro ⟨halign, hwide⟩
    simp [halign, hwide] at h
  simp [execRegisterWrite, hno]

/-- 8 bytes at a 64-bit register are its two halves, the low one first (R7). -/
theorem execRegisterWrite_wide {o : BitVec 26} (halign : o.toNat % 8 = 0) (hwide : isWide o.toNat = true)
    (p : HostPort) (v : DWord) (s : State) : execRegisterWrite p o true v s =
      .next ((s.write4 p o.toNat (v.toNat % 2 ^ 32)).write4 p (o.toNat + 4) (v.toNat / 2 ^ 32)) := by
  have h4 : o.toNat % 4 = 0 := by omega
  simp [execRegisterWrite, h4, halign, hwide]

theorem execRegisterWrite_four {o : BitVec 26} (h : o.toNat % 4 = 0) (p : HostPort) (v : DWord) (s : State) :
    execRegisterWrite p o false v s = .next (s.write4 p o.toNat (v.toNat % 2 ^ 32)) := by
  simp [execRegisterWrite, h]

/-! ### The HI space -/

/-- A port's block of the HI space takes no write of a host that may not write it (R63, R589). -/
theorem State.write4_of_not_hiWriteOk {p half : HostPort} {o : Nat} {s : State} (hlo : 0x10000 ≤ o) (hhi : o < 0x20000)
    (hhalf : (if o < 0x18000 then .ha else .hb) = half) (hno : s.hiWriteOk p half = false) (v : Nat) :
    s.write4 p o v = s := by
  simp [State.write4, hlo, hhi, hhalf, hno]

theorem State.write4_of_own {o : Nat} (h : o < 0x10000 ∨ 0x20000 ≤ o) (p : HostPort) (v : Nat) (s : State) :
    s.write4 p o v = s.writeOwn p o v := by
  have hno : ¬(0x10000 ≤ o ∧ o < 0x20000) := by omega
  simp only [State.write4, if_neg hno]

/-- The block of a ring that is enabled takes no write (R88). -/
theorem State.writeRing_of_en {p : HostPort} {n : Nat} {s : State} (h : (s.ring p n).en = true) (o v : Nat) :
    s.writeRing p n o v = s := by
  simp [State.writeRing, h]

section idle
variable {p : HostPort} {n : Nat} {s : State} (hen : (s.ring p n).en = false) (hact : (s.ring p n).active = false)
  (hid : ringId n = true) (v : Nat)
include hen hact hid

theorem State.writeRing_base_low :
    s.writeRing p n 0 v = s.setRing p n { s.ring p n with base := setBits (s.ring p n).base 31 0 v } := by
  simp [State.writeRing, hen, hact, hid]

theorem State.writeRing_base_high :
    s.writeRing p n 4 v = s.setRing p n { s.ring p n with base := setBits (s.ring p n).base 63 32 v } := by
  simp [State.writeRing, hen, hact, hid]

/-- The completion base is a command ring's alone (R87). -/
theorem State.writeRing_cbase_low : s.writeRing p n 8 v =
    if n < 64 then s.setRing p n { s.ring p n with cbase := setBits (s.ring p n).cbase 31 0 v } else s := by
  simp [State.writeRing, hen, hact, hid]

theorem State.writeRing_cbase_high : s.writeRing p n 0xC v =
    if n < 64 then s.setRing p n { s.ring p n with cbase := setBits (s.ring p n).cbase 63 32 v } else s := by
  simp [State.writeRing, hen, hact, hid]

end idle

/-! ### Stored registers -/

theorem State.writeStored_of_no_rule {o v : Nat} {s : State} (h : s.regRule o (s.rd o) v = none) (p : HostPort) :
    s.writeStored p o v = s := by
  simp only [State.writeStored, h]

theorem State.writeStored_of_rw {o v x : Nat} {s : State} (h : s.regRule o (s.rd o) v = some (.rw, x)) (p : HostPort) :
    s.writeStored p o v = if s.takesRw p then (s.wr o x).regEffect o (s.rd o) x else s := by
  simp only [State.writeStored, h]

theorem State.writeStored_of_rwc {o v x : Nat} {s : State} (h : s.regRule o (s.rd o) v = some (.rwc, x))
    (p : HostPort) : s.writeStored p o v = if s.takesRwc p then (s.wr o x).regEffect o (s.rd o) x else s := by
  simp only [State.writeStored, h]

/-- In a mode that takes no write of either class a stored register stays (R563). -/
theorem State.writeStored_of_no_mode {p : HostPort} {s : State} (hrw : s.takesRw p = false)
    (hrwc : s.takesRwc p = false) (o v : Nat) : s.writeStored p o v = s := by
  cases h : s.regRule o (s.rd o) v with
  | none => exact writeStored_of_no_rule h p
  | some r =>
    obtain ⟨acc, x⟩ := r
    cases acc with
    | rw => simp [writeStored_of_rw h, hrw]
    | rwc => simp [writeStored_of_rwc h, hrwc]

/-- What follows from a write of a register changes no stored register. -/
theorem rd_regEffect (o old v q : Nat) (s : State) : (s.regEffect o old v).rd q = s.rd q :=
  rd_of (by simp only [State.regEffect_keeps]) q

/-- A stored write changes its own register alone. -/
theorem rd_wr_regEffect {s : State} (hs : Canonical s) (o old x : Nat) :
    ((s.wr o x).regEffect o old x).rd o = x % 2 ^ 32 ∧
      ∀ q, q ≠ o → ((s.wr o x).regEffect o old x).rd q = s.rd q := by
  simp only [rd_regEffect]
  exact ⟨rd_wr_self o x s hs, fun q hq => rd_wr_ne o q x s hq⟩

/-! ### One register in full -/

/-- FLT_CFG keeps the low 16 bits written (R526). -/
theorem State.write4_fltCfg {s : State} (h : s.served = true) (v : Nat) :
    s.write4 s.active 0x30004 v = (s.wr 0x30004 (v % 2 ^ 16)).regEffect 0x30004 (s.rd 0x30004) (v % 2 ^ 16) := by
  have hrule : s.regRule 0x30004 (s.rd 0x30004) v = some (.rw, v % 2 ^ 16) := by
    simp [State.regRule, rw, all, bits]
  have hown : s.writeOwn s.active 0x30004 v = s.writeStored s.active 0x30004 v := by
    simp [State.writeOwn, inArr]
  rw [State.write4_of_own (by decide), hown, State.writeStored_of_rw hrule, if_pos (takesRw_active s h)]

end Sys2Proof.Machine

namespace Sys2Proof.Proofs
open Sys2Proof.Machine Sys2Proof.Safety

/-- Settles O47, clause by clause: the offset and width, the HI space, the stored registers, and one register in
full. -/
theorem registerWritesActOnTheirRegister : Obligations.RegisterWritesActOnTheirRegister := by
  unfold Obligations.RegisterWritesActOnTheirRegister
  refine ⟨?_, ?_, ?_, ?_, ?_, ?_, ?_, ?_, ?_, ?_, ?_, ?_, ?_, ?_, ?_⟩
  · intro p o w v s h
    exact execRegisterWrite_of_unaligned h p w v s
  · intro p o v s h
    exact execRegisterWrite_wide_of_narrow h p v s
  · intro p o v s halign hwide
    exact execRegisterWrite_wide halign hwide p v s
  · intro p o v s h
    exact execRegisterWrite_four h p v s
  · intro p o v s hlo hhi hno
    exact State.write4_of_not_hiWriteOk hlo (by omega) (if_pos hhi) hno v
  · intro p o v s hlo hhi hno
    exact State.write4_of_not_hiWriteOk (by omega) hhi (if_neg (by omega)) hno v
  · intro p n o v s hen
    exact State.writeRing_of_en hen o v
  · intro p n v s hen hact hid
    exact ⟨State.writeRing_base_low hen hact hid v, State.writeRing_base_high hen hact hid v⟩
  · intro p n v s hen hact hid
    rw [State.writeRing_cbase_low hen hact hid, State.writeRing_cbase_high hen hact hid]
    constructor
    · intro hevent
      exact ⟨if_neg (by omega), if_neg (by omega)⟩
    · intro hcmd
      exact ⟨if_pos hcmd, if_pos hcmd⟩
  · intro p o v s h
    exact State.writeStored_of_no_rule h p
  · intro p o v s hrw hrwc
    exact State.writeStored_of_no_mode hrw hrwc o v
  · intro p o v x s h hp
    rw [State.writeStored_of_rw h, if_pos hp]
  · intro p o v x s h hp
    rw [State.writeStored_of_rwc h, if_pos hp]
  · intro o v x s hs
    exact rd_wr_regEffect hs o v x
  · intro v s hs hserved
    refine ⟨_, execRegisterWrite_four (o := 0x30004) (by decide) s.active v s, ?_⟩
    have hoff : (0x30004 : BitVec 26).toNat = 0x30004 := by decide
    rw [hoff, State.write4_fltCfg hserved]
    obtain ⟨hself, hother⟩ := rd_wr_regEffect hs 0x30004 (s.rd 0x30004) (v.toNat % 2 ^ 32 % 2 ^ 16)
    refine ⟨?_, hother⟩
    rw [hself]
    omega

end Sys2Proof.Proofs
end

section
/-! A step on an empty queue (O2): what one nanosecond does to a time engine. -/
namespace Sys2Proof.Machine
open Sys2Proof.Safety

/-- A stopped engine holds its count (R391). -/
theorem Te.advance_of_stopped {e : Te} (h : e.run = false) (f x : Int) : e.advance f x = e := by
  simp [Te.advance, h]

/-- A count moved by a whole number of units wraps at the span of device time. -/
theorem teMove_natCast (t n : Nat) : teMove t n = (t + n) % teSpan := by
  unfold teMove
  rw [← Nat.cast_add, ← Int.natCast_mod, Int.toNat_natCast]

/-- A running engine with no correction, nothing gathered and no slew counts a nanosecond (R391, R393). -/
theorem Te.advance_of_uncorrected {e : Te} (hrun : e.run = true) (hacc : e.acc = 0) :
    e.advance 0 0 = { e with t := (e.t + 65536) % teSpan, acc := 0 } := by
  have hmove : teMove e.t 65536 = (e.t + 65536) % teSpan := teMove_natCast e.t 65536
  simp [Te.advance, hrun, hacc, hmove]

/-- With no offset left a slew adds nothing (R394). -/
theorem State.slewStep_of_done {s : State} (h : s.time.slewLeft = 0) : s.slewStep = 0 := by
  simp [State.slewStep, h]

theorem te_tick (s : State) (e : Side) : s.tick.te e = (s.te e).advance (signed 32 (s.rd 0x60014)) s.slewStep := by
  cases e <;> rfl

theorem step_of_empty {s : State} (h : s.pending = []) : step s = .next s.tick := by
  simp [step, h]

end Sys2Proof.Machine

namespace Sys2Proof.Proofs
open Sys2Proof.Machine Sys2Proof.Safety

/-- Settles O2: the step is the tick, and the tick advances each engine by itself. -/
theorem emptyQueueIsOneNanosecond : Obligations.EmptyQueueIsOneNanosecond := by
  unfold Obligations.EmptyQueueIsOneNanosecond
  intro s hempty
  refine ⟨s.tick, step_of_empty hempty, rfl, rfl, fun e hstop => ?_, fun e hrun hacc hslew hfreq => ?_⟩
  · rw [te_tick, Te.advance_of_stopped hstop]
  · have hzero : signed 32 0 = 0 := by decide
    rw [te_tick, hfreq, hzero, State.slewStep_of_done hslew, Te.advance_of_uncorrected hrun hacc]
    exact ⟨rfl, rfl⟩

end Sys2Proof.Proofs
end

section
/-! The calendar base, streams and VERIFY of a port (O15). -/
namespace Sys2Proof.Machine
open Sys2Proof.Safety

/-- A field inside the bits that a value is cut to is the value's own field. -/
theorem bits_mod_two_pow {hi k : Nat} (h : hi < k) (v lo : Nat) : bits (v % 2 ^ k) hi lo = bits v hi lo := by
  apply Nat.eq_of_testBit_eq
  intro i
  simp only [bits, Nat.testBit_mod_two_pow, Nat.testBit_shiftRight]
  by_cases hi' : i < hi + 1 - lo
  · have hk : lo + i < k := by omega
    simp [hk]
  · simp [hi']

/-! ### The calendar base (R432) -/

/-- A committed base is the base read next (R432, R522). -/
theorem State.calBase_commit (v : Nat) (s : State) : (s.commit 4 v).calBase = v := rfl

theorem execCalBaseSecWrite_of_takesRw {p : HostPort} {s : State} (h : s.takesRw p = true) (part : Part) (v : DWord) :
    execCalBaseSecWrite p part v s =
      .next { s with time := { s.time with stagedSec := writePart part s.time.stagedSec v } } := by
  simp only [execCalBaseSecWrite, h, if_true]

theorem execCalBaseNsWrite_of_takesRw {p : HostPort} {s : State} (h : s.takesRw p = true) {v : Word}
    (hv : v.toNat < 1000000000) :
    execCalBaseNsWrite p v s = .next (s.commit 4 (s.time.stagedSec * 1000000000 + v.toNat)) := by
  simp [execCalBaseNsWrite, nsPerSec, h, hv]

/-! ### Streams -/

/-- A write of CAL_FRER_CTL with a HISTORY in range starts the stream anew (R429). -/
theorem execCalFrerCtlWrite_of_history {p : HostPort} {s : State} (h : s.takesRw p = true) {v : Word}
    (hlo : 2 ≤ bits v.toNat 9 4) (hhi : bits v.toNat 9 4 ≤ 32) (i : Fin 1024) :
    execCalFrerCtlWrite p i v s =
      .next ((s.wr (0x504000 + 16 * i.val) (v.toNat % 2 ^ 19)).setFrer i Frer.zero) := by
  have hfield : bits (v.toNat % 2 ^ 19) 9 4 = bits v.toNat 9 4 := bits_mod_two_pow (by decide) _ _
  simp only [execCalFrerCtlWrite, hfield, h, hlo, hhi, decide_true, Bool.and_self, if_true]

/-- A recovering stream that no frame passed for RESET_MS forgets its window (R427). -/
theorem execFrerResetTimer_of_elapsed {i : Fin 1024} {s : State} {last : Nat} (hlast : (s.frer i).lastPass = some last)
    (hmode : bits (s.rd (0x504000 + 16 * i.val)) 1 0 = 2) (htake : (s.frer i).takeAny = false)
    (hms : bits (s.rd (0x504004 + 16 * i.val)) 15 0 * 1000000 ≤ s.now - last) :
    execFrerResetTimer i s =
      .next ((s.setFrer i { s.frer i with takeAny := true, seen := [] }).frerCount i 5) := by
  simp only [execFrerResetTimer, hlast, hmode, htake, hms, and_self, if_true]

/-! ### VERIFY of a port (R419, R433) -/

theorem State.verifies_of_up {p : Nat} {s : State} (hen : bit (s.rd (ptReg p 0x1C0)) 0 = true)
    (hdis : bit (s.rd (ptReg p 0x1C0)) 1 = false) (hup : (s.pt p).state = .up) : s.verifies p = true := by
  simp [State.verifies, hen, hdis, hup]

/-- The exchange of a port that verifies begins, and its timer with it. -/
theorem execPreemptVerify_begin {p : Port} {s : State} (h : s.verifies p = true) :
    execPreemptVerify p 2 s = .next { s with
      time := { s.time with verify := s.time.verify.set 0 p 2, verifyAt := s.time.verifyAt.set 0 p s.now } } := by
  simp [execPreemptVerify, h]

/-- Every other state of VERIFY leaves the timer, and failed waits for it. -/
theorem execPreemptVerify_of_ne_begin {p : Port} {x : Fin 5} {s : State} (h : s.verifies p = true) (hx : x ≠ 2)
    (hfail : x = 4 → s.time.verify.get 0 p = 2 ∧ s.verifyNs p ≤ s.now - s.time.verifyAt.get 0 p) :
    execPreemptVerify p x s = .next { s with time := { s.time with verify := s.time.verify.set 0 p x } } := by
  have hx2 : ¬(x.val = 2) := fun e => hx (Fin.ext e)
  have hdue : ¬(x.val = 4 ∧ (s.time.verify.get 0 p ≠ 2 ∨ s.now - s.time.verifyAt.get 0 p < s.verifyNs p)) := by
    rintro ⟨hx4, hearly⟩
    obtain ⟨hverifying, helapsed⟩ := hfail (Fin.ext hx4)
    omega
  simp only [execPreemptVerify, h, Bool.not_true, Bool.false_eq_true, if_false, if_neg hx2, if_neg hdue]

end Sys2Proof.Machine

namespace Sys2Proof.Proofs
open Sys2Proof.Machine Sys2Proof.Safety

/-- Settles O15: each clause is one command's meaning on the branch where it acts. -/
theorem calendarBaseStreamsAndPreemption : Obligations.CalendarBaseStreamsAndPreemption := by
  unfold Obligations.CalendarBaseStreamsAndPreemption
  refine ⟨?_, ?_, ?_, ?_, ?_, ?_⟩
  · intro part v s hserved
    refine (execCalBaseSecWrite_of_takesRw (takesRw_active s hserved) part v).trans ?_
    cases part <;> rfl
  · intro v s hserved hv
    exact ⟨_, execCalBaseNsWrite_of_takesRw (takesRw_active s hserved) hv, State.calBase_commit _ s, rfl, rfl⟩
  · intro i v s hserved hlo hhi
    exact execCalFrerCtlWrite_of_history (takesRw_active s hserved) hlo hhi i
  · intro i last s hlast hmode htake hms
    exact execFrerResetTimer_of_elapsed hlast hmode htake hms
  · intro p s hen hdis hup
    exact execPreemptVerify_begin (State.verifies_of_up hen hdis hup)
  · intro p x s hen hdis hup hx hfail
    exact execPreemptVerify_of_ne_begin (State.verifies_of_up hen hdis hup) hx hfail

end Sys2Proof.Proofs
end

section
/-! What each command changes (O48). The law of a command under `Laws/` lists the parts that it keeps; the table
`parts` lists those that it may change. The kept parts are here computed from the table, and the law of each command
is shown to list exactly those. -/
namespace Sys2Proof.Safety
open Sys2Proof.Machine

/-! ### The parts -/

/-- Every part, in the order in which the laws list what a command keeps. -/
def Part.all : List Part :=
  [.pending, .now, .serial, .out, .pins, .md, .host, .cmds, .flt, .clk, .ref, .kennel, .time, .buf, .port, .slices,
   .tab, .gen, .core, .sch, .tel, .pwr, .regs, .cnts, .keel0, .keel1, .keyHash, .pipeCur]

theorem Part.mem_all (p : Part) : p ∈ Part.all := by cases p <;> decide

theorem Part.nodup_all : Part.all.Nodup := by decide

/-- The part that holds a part: the fault collector its keel registers, the kennel the key hash, the clocks the
pipeline clock. Every other part stands by itself. -/
def Part.holder : Part → Option Part
  | .keel0 | .keel1 => some .flt
  | .keyHash => some .kennel
  | .pipeCur => some .clk
  | _ => none

theorem Part.holder_of_holder {p q : Part} (h : p.holder = some q) : q.holder = none := by
  cases p <;> cases h <;> rfl

/-- States that agree in a part agree in what it holds. -/
theorem Part.same_of_holder {p q : Part} {s t : State} (h : p.holder = some q) (hq : q.same s t) : p.same s t := by
  cases p <;> cases h
  case keel0 => exact congrArg FaultSt.keel0 hq
  case keel1 => exact congrArg FaultSt.keel1 hq
  case keyHash => exact congrArg Kennel.keyHash hq
  case pipeCur => exact congrArg ClockSt.pipeCur hq

/-! ### The kept parts -/

/-- The parts that a command keeps: those that its row of the table leaves out, save one whose holder the row leaves
out too. -/
def kept (i : Instr) : List Part :=
  (Part.all.diff (parts i)).filter fun p => p.holder.all (parts i).contains

theorem mem_kept {i : Instr} {p : Part} : p ∈ kept i ↔ p ∉ parts i ∧ ∀ q, p.holder = some q → q ∈ parts i := by
  simp [kept, Part.nodup_all.mem_sdiff_iff, Part.mem_all, Option.all_eq_true]

/-- The states agree in every part of a list. -/
def Agree (s t : State) : List Part → Prop
  | [] => True
  | [p] => p.same s t
  | p :: q :: l => p.same s t ∧ Agree s t (q :: l)

theorem Agree.same {s t : State} {p : Part} : ∀ {l : List Part}, Agree s t l → p ∈ l → p.same s t
  | [_], h, hp => by
    obtain rfl := List.mem_singleton.1 hp
    exact h
  | _ :: _ :: _, ⟨hhead, htail⟩, hp => by
    obtain rfl | hp := List.mem_cons.1 hp
    · exact hhead
    · exact htail.same hp

/-- States that agree in the kept parts of a command agree in every part that its row does not name. -/
theorem Agree.same_of_notMem_parts {i : Instr} {s t : State} (h : Agree s t (kept i)) {p : Part} (hp : p ∉ parts i) :
    p.same s t := by
  by_cases hkept : p ∈ kept i
  · exact h.same hkept
  · obtain ⟨q, hq, hqparts⟩ : ∃ q, p.holder = some q ∧ q ∉ parts i := by
      simpa [mem_kept, hp] using hkept
    have hqkept : q ∈ kept i := mem_kept.2 ⟨hqparts, by simp [Part.holder_of_holder hq]⟩
    exact Part.same_of_holder hq (h.same hqkept)

/-! ### The commands -/

/-- Each of the 240 commands keeps what its row of the table leaves out: its law lists these parts, in order. -/
theorem exec_agree {i : Instr} {s t : State} (h : exec i s = .next t) : Agree s t (kept i) := by
  cases i with
  | resetNFall ns acts => exact execResetNFall_keeps ns acts s h
  | resetNRise hostPref strap => exact execResetNRise_keeps hostPref strap s h
  | pwrfailNFall ns acts mv => exact execPwrfailNFall_keeps ns acts mv s h
  | pwrfailNRise => exact execPwrfailNRise_keeps s h
  | hostSelNFall ns acts => exact execHostSelNFall_keeps ns acts s h
  | hostSelNRise => exact execHostSelNRise_keeps s h
  | perstFall p ns acts => exact execPerstFall_keeps p ns acts s h
  | perstRise p => exact execPerstRise_keeps p s h
  | pcieLinkDown p => exact execPcieLinkDown_keeps p s h
  | pcieLinkUp p rate width => exact execPcieLinkUp_keeps p rate width s h
  | busMasterEnableFall p => exact execBusMasterEnableFall_keeps p s h
  | busMasterEnableRise p => exact execBusMasterEnableRise_keeps p s h
  | junctionComparatorTrip sensor => exact execJunctionComparatorTrip_keeps sensor s h
  | timeInEdge pin rising => exact execTimeInEdge_keeps pin rising s h
  | vholdCollapse => exact execVholdCollapse_keeps s h
  | clockJudgeWindow clock count pick => exact execClockJudgeWindow_keeps clock count pick s h
  | bootClock => exact execBootClock_keeps s h
  | oscillatorTrim err usable => exact execOscillatorTrim_keeps err usable s h
  | trimSrcLost => exact execTrimSrcLost_keeps s h
  | pipelineClockStep => exact execPipelineClockStep_keeps s h
  | deviceResetHoldEnd => exact execDeviceResetHoldEnd_keeps s h
  | bootSelftestDone memA katA memB katB => exact execBootSelftestDone_keeps memA katA memB katB s h
  | fwFetchStart => exact execFwFetchStart_keeps s h
  | fwFetchDone ok => exact execFwFetchDone_keeps ok s h
  | fwVerifyDone good image version => exact execFwVerifyDone_keeps good image version s h
  | fwFetchTimeout => exact execFwFetchTimeout_keeps s h
  | roleProofDone aOk bOk => exact execRoleProofDone_keeps aOk bOk s h
  | kennelReadbackDone errs element => exact execKennelReadbackDone_keeps errs element s h
  | bootChoiceTimer => exact execBootChoiceTimer_keeps s h
  | glModeReq p value => exact execGlModeReq_keeps p value s h
  | glModeReqBoot p value => exact execGlModeReqBoot_keeps p value s h
  | glReset p value => exact execGlReset_keeps p value s h
  | glFwLen p value => exact execGlFwLen_keeps p value s h
  | hiIfrstStart p half value => exact execHiIfrstStart_keeps p half value s h
  | hiIfrstDone p => exact execHiIfrstDone_keeps p s h
  | hiHandover p half value => exact execHiHandover_keeps p half value s h
  | heartbeat p => exact execHeartbeat_keeps p s h
  | heartbeatTimeout => exact execHeartbeatTimeout_keeps s h
  | revertHoldExpiry => exact execRevertHoldExpiry_keeps s h
  | hiRingEnable p half n => exact execHiRingEnable_keeps p half n s h
  | hiRingDisable p half n => exact execHiRingDisable_keeps p half n s h
  | ringWorkDrained p n => exact execRingWorkDrained_keeps p n s h
  | hiRingStatClear p half n value => exact execHiRingStatClear_keeps p half n value s h
  | prodDoorbell p n value => exact execProdDoorbell_keeps p n value s h
  | consDoorbell p n value => exact execConsDoorbell_keeps p n value s h
  | commandFetch p n desc => exact execCommandFetch_keeps p n desc s h
  | dmaErrorCompletion p n => exact execDmaErrorCompletion_keeps p n s h
  | vectorTimerExpiry p v => exact execVectorTimerExpiry_keeps p v s h
  | nop p n => exact execNop_keeps p n s h
  | fence p n => exact execFence_keeps p n s h
  | notSupported p n => exact execNotSupported_keeps p n s h
  | epInsert p n => exact execEpInsert_keeps p n s h
  | epDelete p n => exact execEpDelete_keeps p n s h
  | epRead p n => exact execEpRead_keeps p n s h
  | epSegRehash p n => exact execEpSegRehash_keeps p n s h
  | epSegRehashAbort p n => exact execEpSegRehashAbort_keeps p n s h
  | epSegRehashResume p n => exact execEpSegRehashResume_keeps p n s h
  | epSegRehashRevert p n => exact execEpSegRehashRevert_keeps p n s h
  | epSegSwap p n => exact execEpSegSwap_keeps p n s h
  | tableEngineStep errs => exact execTableEngineStep_keeps errs s h
  | directWrite p n => exact execDirectWrite_keeps p n s h
  | directRead p n => exact execDirectRead_keeps p n s h
  | lpmAdd p n picks => exact execLpmAdd_keeps p n picks s h
  | lpmDelete p n => exact execLpmDelete_keeps p n s h
  | lpmRead p n => exact execLpmRead_keeps p n s h
  | aclWrite p n data => exact execAclWrite_keeps p n data s h
  | aclWriteMove p n => exact execAclWriteMove_keeps p n s h
  | aclWriteMaskOnly p n => exact execAclWriteMaskOnly_keeps p n s h
  | aclInvalidate p n => exact execAclInvalidate_keeps p n s h
  | aclRead p n => exact execAclRead_keeps p n s h
  | aclProbe p n key => exact execAclProbe_keeps p n key s h
  | treeLoad p n image => exact execTreeLoad_keeps p n image s h
  | treeLoadDone g => exact execTreeLoadDone_keeps g s h
  | csLoad p n image => exact execCsLoad_keeps p n image s h
  | csLoadProvision p n image => exact execCsLoadProvision_keeps p n image s h
  | csLoadDone g good => exact execCsLoadDone_keeps g good s h
  | genSwap p n => exact execGenSwap_keeps p n s h
  | genSwapInstant => exact execGenSwapInstant_keeps s h
  | genDrained => exact execGenDrained_keeps s h
  | l2Write p n => exact execL2Write_keeps p n s h
  | l2Delete p n => exact execL2Delete_keeps p n s h
  | l2Flush p n => exact execL2Flush_keeps p n s h
  | l2Read p n => exact execL2Read_keeps p n s h
  | ecmpGroupWrite p n => exact execEcmpGroupWrite_keeps p n s h
  | ecmpMemberWrite p n words => exact execEcmpMemberWrite_keeps p n words s h
  | calLoad p n data => exact execCalLoad_keeps p n data s h
  | calSwap p n => exact execCalSwap_keeps p n s h
  | calSwapInstant port => exact execCalSwapInstant_keeps port s h
  | fretBoundary port => exact execFretBoundary_keeps port s h
  | policerWrite p n => exact execPolicerWrite_keeps p n s h
  | policerRead p n => exact execPolicerRead_keeps p n s h
  | shaperWrite p n => exact execShaperWrite_keeps p n s h
  | shaperRead p n => exact execShaperRead_keeps p n s h
  | queueCfg p n => exact execQueueCfg_keeps p n s h
  | ctrSnapshot p n => exact execCtrSnapshot_keeps p n s h
  | ctrSnapshotCancel p n => exact execCtrSnapshotCancel_keeps p n s h
  | ctrSnapshotUnfreeze p n => exact execCtrSnapshotUnfreeze_keeps p n s h
  | snapshotInstant => exact execSnapshotInstant_keeps s h
  | ctrRead p n => exact execCtrRead_keeps p n s h
  | pwrStateParkSlice p n => exact execPwrStateParkSlice_keeps p n s h
  | pwrStateParkLanes p n => exact execPwrStateParkLanes_keeps p n s h
  | pwrStateUnpark p n => exact execPwrStateUnpark_keeps p n s h
  | unparkRampEnd => exact execUnparkRampEnd_keeps s h
  | phaseHint p n => exact execPhaseHint_keeps p n s h
  | phaseHintCancelAll p n => exact execPhaseHintCancelAll_keeps p n s h
  | hintStart => exact execHintStart_keeps s h
  | hintEnd slot => exact execHintEnd_keeps slot s h
  | capSet p n => exact execCapSet_keeps p n s h
  | bpmAlloc p n picks failed => exact execBpmAlloc_keeps p n picks failed s h
  | bpmFree p n handles => exact execBpmFree_keeps p n handles s h
  | bpmFreeAllHost p n => exact execBpmFreeAllHost_keeps p n s h
  | modeRequest p n => exact execModeRequest_keeps p n s h
  | modeRequestReset p n => exact execModeRequestReset_keeps p n s h
  | drainIngressStopped => exact execDrainIngressStopped_keeps s h
  | drainBufferEmpty => exact execDrainBufferEmpty_keeps s h
  | drainFlushTimeout pick => exact execDrainFlushTimeout_keeps pick s h
  | pipelinesGated => exact execPipelinesGated_keeps s h
  | saveWriteEnd => exact execSaveWriteEnd_keeps s h
  | faultInject p n => exact execFaultInject_keeps p n s h
  | faultInjectCancel p n => exact execFaultInjectCancel_keeps p n s h
  | spdmGetVersion p => exact execSpdmGetVersion_keeps p s h
  | spdmGetCapabilities p => exact execSpdmGetCapabilities_keeps p s h
  | spdmNegotiateAlgorithms p offered => exact execSpdmNegotiateAlgorithms_keeps p offered s h
  | spdmGetDigests p answers => exact execSpdmGetDigests_keeps p answers s h
  | spdmGetCertificate p slot offset length answers =>
    exact execSpdmGetCertificate_keeps p slot offset length answers s h
  | spdmChallenge p slot nonce answers => exact execSpdmChallenge_keeps p slot nonce answers s h
  | spdmGetMeasurements p op sign nonce answers => exact execSpdmGetMeasurements_keeps p op sign nonce answers s h
  | doeAbort p => exact execDoeAbort_keeps p s h
  | ptModeWrite p port value pick => exact execPtModeWrite_keeps p port value pick s h
  | adminUpSet p port value pick => exact execAdminUpSet_keeps p port value pick s h
  | adminUpClear p port value pick => exact execAdminUpClear_keeps p port value pick s h
  | retrain p port value pick => exact execRetrain_keeps p port value pick s h
  | loopbackSelect by' port loopback pick => exact execLoopbackSelect_keeps by' port loopback pick s h
  | ptTestWrite by' port value => exact execPtTestWrite_keeps by' port value s h
  | hpLaneTxeqWrite p lane value => exact execHpLaneTxeqWrite_keeps p lane value s h
  | detectSignal x => exact execDetectSignal_keeps x s h
  | anComplete port => exact execAnComplete_keeps port s h
  | lxTrainingFrame lane inverted frame => exact execLxTrainingFrame_keeps lane inverted frame s h
  | trainingComplete port => exact execTrainingComplete_keeps port s h
  | alignComplete port rxLat txLat reversed inverted margins =>
    exact execAlignComplete_keeps port rxLat txLat reversed inverted margins s h
  | portStateLimit port => exact execPortStateLimit_keeps port s h
  | laneLoss lane what pick => exact execLaneLoss_keeps lane what pick s h
  | fecWindow port total corr uncorr hist margins => exact execFecWindow_keeps port total corr uncorr hist margins s h
  | d2dWireError harp toHarp wire lane pick => exact execD2dWireError_keeps harp toHarp wire lane pick s h
  | preemptVerify port verify => exact execPreemptVerify_keeps port verify s h
  | frameReceive port bytes rx => exact execFrameReceive_keeps port bytes rx s h
  | macControlFrame port bytes errored => exact execMacControlFrame_keeps port bytes errored s h
  | pauseExpiry port tc => exact execPauseExpiry_keeps port tc s h
  | frameAdmission slice slot pick => exact execFrameAdmission_keeps slice slot pick s h
  | headDispatch slice => exact execHeadDispatch_keeps slice s h
  | parseStop slice e parity errs => exact execParseStop_keeps slice e parity errs s h
  | extentChoice port pos lost => exact execExtentChoice_keeps port pos lost s h
  | lookupComplete slice errs rows pick => exact execLookupComplete_keeps slice errs rows pick s h
  | learnRecord slice origin => exact execLearnRecord_keeps slice origin s h
  | enqueue port inject rand ups pick => exact execEnqueue_keeps port inject rand ups pick s h
  | captureResume session => exact execCaptureResume_keeps session s h
  | pfcRefresh port => exact execPfcRefresh_keeps port s h
  | frerResetTimer stream => exact execFrerResetTimer_keeps stream s h
  | schedulerChoice port pick => exact execSchedulerChoice_keeps port pick s h
  | frameEgress port ups pos lost => exact execFrameEgress_keeps port ups pos lost s h
  | recircTimeout port pick => exact execRecircTimeout_keeps port pick s h
  | tc7Stale port pick => exact execTc7Stale_keeps port pick s h
  | shaperTokenUpdate => exact execShaperTokenUpdate_keeps s h
  | policerBucketFill => exact execPolicerBucketFill_keeps s h
  | histogramSample => exact execHistogramSample_keeps s h
  | transmitDescriptor desc frame pick => exact execTransmitDescriptor_keeps desc frame pick s h
  | cpuQueueService desc ups pick => exact execCpuQueueService_keeps desc ups pick s h
  | canaryTest slice => exact execCanaryTest_keeps slice s h
  | canaryTestEnd slice pass => exact execCanaryTestEnd_keeps slice pass s h
  | csScrub errs => exact execCsScrub_keeps errs s h
  | csEccRepair slice loc => exact execCsEccRepair_keeps slice loc s h
  | treeScrub errs => exact execTreeScrub_keeps errs s h
  | treeEccRepair slice loc => exact execTreeEccRepair_keeps slice loc s h
  | tcamShadowScrub slice rows => exact execTcamShadowScrub_keeps slice rows s h
  | tcamRowSpare slice loc => exact execTcamRowSpare_keeps slice loc s h
  | epScrub errs => exact execEpScrub_keeps errs s h
  | l2AgeTick slice => exact execL2AgeTick_keeps slice s h
  | flapHoldExpiry slice => exact execFlapHoldExpiry_keeps slice s h
  | l2MoveSecond => exact execL2MoveSecond_keeps s h
  | bpmCommit p value => exact execBpmCommit_keeps p value s h
  | bpmCommitDone => exact execBpmCommitDone_keeps s h
  | sheepdogSweep ups => exact execSheepdogSweep_keeps ups s h
  | sheepdogSweepEnd => exact execSheepdogSweepEnd_keeps s h
  | timeSetGo p value => exact execTimeSetGo_keeps p value s h
  | timeAdjGo p value => exact execTimeAdjGo_keeps p value s h
  | slewEnd => exact execSlewEnd_keeps s h
  | timeFreqWrite p value => exact execTimeFreqWrite_keeps p value s h
  | teTrack m => exact execTeTrack_keeps m s h
  | teCounterFault e => exact execTeCounterFault_keeps e s h
  | teRevert => exact execTeRevert_keeps s h
  | timeOutEnable p pin value => exact execTimeOutEnable_keeps p pin value s h
  | pulseEdge pin => exact execPulseEdge_keeps pin s h
  | calBaseSecWrite p part value => exact execCalBaseSecWrite_keeps p part value s h
  | calBaseNsWrite p value => exact execCalBaseNsWrite_keeps p value s h
  | ptCalCfgWrite p port value => exact execPtCalCfgWrite_keeps p port value s h
  | calFrerCtlWrite p stream value => exact execCalFrerCtlWrite_keeps p stream value s h
  | powerLoopTick e saving stay => exact execPowerLoopTick_keeps e saving stay s h
  | throttleOff => exact execThrottleOff_keeps s h
  | capUnmet => exact execCapUnmet_keeps s h
  | capMet => exact execCapMet_keeps s h
  | pmbusCalibration answers blame => exact execPmbusCalibration_keeps answers blame s h
  | calResume p value => exact execCalResume_keeps p value s h
  | temperatureRead hot sensor => exact execTemperatureRead_keeps hot sensor s h
  | thermalLimitTick => exact execThermalLimitTick_keeps s h
  | vholdReading mv => exact execVholdReading_keeps mv s h
  | pwrSaveDiscard p value => exact execPwrSaveDiscard_keeps p value s h
  | clkPipeWrite p value => exact execClkPipeWrite_keeps p value s h
  | faultReport source code detail => exact execFaultReport_keeps source code detail s h
  | faultRecord => exact execFaultRecord_keeps s h
  | collectorFault part corrected => exact execCollectorFault_keeps part corrected s h
  | fltFirstClear p value => exact execFltFirstClear_keeps p value s h
  | fltLostClear p value => exact execFltLostClear_keeps p value s h
  | clrCounts p value => exact execClrCounts_keeps p value s h
  | keelVote id upsets => exact execKeelVote_keeps id upsets s h
  | collieHeartbeat e memFail => exact execCollieHeartbeat_keeps e memFail s h
  | collieHeartbeatTimeout e => exact execCollieHeartbeatTimeout_keeps e s h
  | collieRestored e loaded ok => exact execCollieRestored_keeps e loaded ok s h
  | collieKatCheck ok => exact execCollieKatCheck_keeps ok s h
  | collieMemorySweep ok => exact execCollieMemorySweep_keeps ok s h
  | mirrorTransfer applied => exact execMirrorTransfer_keeps applied s h
  | mirrorOkLapse => exact execMirrorOkLapse_keeps s h
  | collieRevert => exact execCollieRevert_keeps s h
  | refRoleCmd p value => exact execRefRoleCmd_keeps p value s h
  | refFwuCtl p value => exact execRefFwuCtl_keeps p value s h
  | fwuVerifyDone fetched good image version => exact execFwuVerifyDone_keeps fetched good image version s h
  | fwuReloadDone ok => exact execFwuReloadDone_keeps ok s h
  | refHostPrefWrite p value => exact execRefHostPrefWrite_keeps p value s h
  | healthPeriodic => exact execHealthPeriodic_keeps s h
  | wearWritePeriod => exact execWearWritePeriod_keeps s h
  | wearWriteEnd ok => exact execWearWriteEnd_keeps ok s h
  | pmcSampleTimeout slice c pick => exact execPmcSampleTimeout_keeps slice c pick s h
  | perfUserEnWrite p value => exact execPerfUserEnWrite_keeps p value s h
  | tblEpProfWrite p high t value => exact execTblEpProfWrite_keeps p high t value s h
  | registerWrite p offset wide value => exact execRegisterWrite_keeps p offset wide value s h
  | lossOfPower => exact execLossOfPower_keeps s h
  | calendarBasePassed => exact execCalendarBasePassed_keeps s h
  | prbsLock lane locked errors => exact execPrbsLock_keeps lane locked errors s h
  | rsFault port localFault remoteFault => exact execRsFault_keeps port localFault remoteFault s h
  | d3hot p enter => exact execD3hot_keeps p enter s h
  | tapInstruction reset code => exact execTapInstruction_keeps reset code s h

end Sys2Proof.Safety

namespace Sys2Proof.Proofs
open Sys2Proof.Machine Sys2Proof.Safety

/-- Settles O48: a command's law, and that a part is kept with the part that holds it. -/
theorem commandsChangeOnlyTheirParts : Obligations.CommandsChangeOnlyTheirParts := by
  unfold Obligations.CommandsChangeOnlyTheirParts
  intro i s t p hexec hp
  exact (exec_agree hexec).same_of_notMem_parts hp

end Sys2Proof.Proofs
end

section
/-! The state after reset and the pin SAFE_N (O53, O54). -/
namespace Sys2Proof.Machine
open Sys2Proof.Safety

theorem State.ring_reset (p : HostPort) (n : Nat) : State.reset.ring p n = Ring.zero := by
  cases p <;> rfl

/-- After reset nothing is asked for, and RESET_N low holds the device in RESET with its host ports not live. -/
theorem reset_lawful : Lawful State.reset := ⟨fun _ h => (nomatch h), fun _ => ⟨rfl, rfl⟩⟩

/-- SAFE_N is low in RESET and in SAFE alone (R37). -/
theorem State.safeN_eq_false {s : State} : s.safeN = false ↔ s.mode = .reset ∨ s.mode = .safe := by
  simp only [State.safeN, Bool.and_eq_false_iff, decide_eq_false_iff_not, not_not, ne_eq]

end Sys2Proof.Machine

namespace Sys2Proof.Proofs
open Sys2Proof.Machine Sys2Proof.Safety

/-- Settles O53, field by field of the state after reset. -/
theorem stateAfterReset : Obligations.StateAfterReset := by
  unfold Obligations.StateAfterReset
  refine ⟨rfl, State.safeN_eq_false.2 (.inl rfl), rfl, rfl, fun p n => ?_, rfl, rfl, rfl, rfl, rfl, rfl, reset_lawful,
    reset_canonical⟩
  rw [State.ring_reset]
  rfl

/-- Settles O54: SAFE_N is low in two modes, and so high in the others. -/
theorem safeNShowsResetAndSafe : Obligations.SafeNShowsResetAndSafe := by
  unfold Obligations.SafeNShowsResetAndSafe
  refine fun s => ⟨State.safeN_eq_false.2, fun h => ?_⟩
  rw [← Bool.not_eq_false, State.safeN_eq_false]
  rintro (hm | hm)
  · exact h.1 hm
  · exact h.2 hm

end Sys2Proof.Proofs
end

section
/-! The mode follows the table of R38 (O50). The mode, a request in progress and what RESET_N holds down change in few
operations: the shared entries into a mode, the moves that a host asks for, and the boot phases. Each is shown to keep
the law of the modes from a lawful state; every other command keeps these parts whole. -/
namespace Sys2Proof.Machine
open Sys2Proof.Safety

/-- The step from one state to another keeps the law of the modes: the state is lawful and its mode one that the table
of R38 leads to, or the same. -/
def ModeStep (s t : State) : Prop := Lawful t ∧ modeMay s.mode t.mode = true

/-! ### The law -/

theorem modeMay_self (m : Mode) : modeMay m m = true := by simp [modeMay]

theorem modeMay_of_modeGo {a b : Mode} (h : modeGo a b = true) : modeMay a b = true := by simp [modeMay, h]

theorem modeMay_reset (m : Mode) : modeMay m .reset = true := by simp [modeMay]

/-- RESET_N is high in every mode but RESET. -/
theorem lawful_resetN {s : State} (h : Lawful s) (hm : s.mode ≠ .reset) : s.pins.resetN = true := by
  cases hp : s.pins.resetN with
  | true => rfl
  | false => exact absurd (h.2 hp).1 hm

/-- RESET_N is high while the host ports are live in RESET. -/
theorem lawful_resetN_of_hostLive {s : State} (h : Lawful s) (hl : s.md.hostLive = true) : s.pins.resetN = true := by
  cases hp : s.pins.resetN with
  | true => rfl
  | false => exact absurd hl (by simp [(h.2 hp).2])

/-- No request is in progress in a mode that no transition asked for leaves. -/
theorem lawful_req_none {s : State} (h : Lawful s) (hm : ∀ m, modeGo s.mode m = false) : s.md.req = none := by
  cases hr : s.md.req with
  | none => rfl
  | some r => exact absurd (h.1 r hr) (by simp [hm])

/-- The law speaks of the mode, the request in progress, the host ports in RESET and RESET_N alone. -/
theorem lawful_congr {s t : State} (hm : t.mode = s.mode) (hq : t.md.req = s.md.req) (hl : t.md.hostLive = s.md.hostLive)
    (hp : t.pins.resetN = s.pins.resetN) (h : Lawful s) : Lawful t := by
  simpa only [Lawful, hm, hq, hl, hp] using h

theorem modeStep_of_same {s t : State} (h : Lawful s) (hm : t.mode = s.mode) (hq : t.md.req = s.md.req)
    (hl : t.md.hostLive = s.md.hostLive) (hp : t.pins.resetN = s.pins.resetN) : ModeStep s t :=
  ⟨lawful_congr hm hq hl hp h, by rw [hm]; exact modeMay_self _⟩

theorem modeStep_refl {s : State} (h : Lawful s) : ModeStep s s := modeStep_of_same h rfl rfl rfl rfl

/-- With no request in progress and RESET_N high any mode is lawful. -/
theorem modeStep_of_no_req {s t : State} (hq : t.md.req = none) (hp : t.pins.resetN = true)
    (hmay : modeMay s.mode t.mode = true) : ModeStep s t := by
  refine ⟨⟨?_, ?_⟩, hmay⟩
  · simp [hq]
  · simp [hp]

/-- What follows a step keeps the step's law where it keeps what the law speaks of. -/
theorem modeStep_congr {s t u : State} (h : ModeStep s t) (hm : u.mode = t.mode) (hq : u.md.req = t.md.req)
    (hl : u.md.hostLive = t.md.hostLive) (hp : u.pins.resetN = t.pins.resetN) : ModeStep s u :=
  ⟨lawful_congr hm hq hl hp h.1, by rw [hm]; exact h.2⟩

/-! ### Entries into a mode -/

theorem State.mode_enterMode (m : Mode) (c : Nat) (s : State) : (s.enterMode m c).mode = m := commit_mode m s

theorem State.md_enterMode (m : Mode) (c : Nat) (s : State) :
    (s.enterMode m c).md = { s.md with prev := s.mode, cause := c } := rfl

theorem State.mode_of_keel0 {s t : State} (h : t.flt.keel0 = s.flt.keel0) : t.mode = s.mode := mode_of (by rw [h])

/-- RESET with nothing asked for and the host ports not live is lawful whatever RESET_N shows. -/
theorem modeStep_of_reset {s t : State} (hm : t.mode = .reset) (hq : t.md.req = none) (hl : t.md.hostLive = false) :
    ModeStep s t :=
  ⟨⟨by simp [hq], fun _ => ⟨hm, hl⟩⟩, by rw [hm]; exact modeMay_reset _⟩

theorem enterReset_modeStep (c : Nat) (hold : Bool) (s : State) : ModeStep s (s.enterReset c hold) :=
  modeStep_of_reset rfl rfl rfl

theorem State.mode_enterBoot (s : State) : s.enterBoot.mode = .boot := rfl

theorem State.mode_fwFail (n : Nat) (s : State) : (s.fwFail n).mode = .reset := rfl

theorem State.mode_resumeBoot (s : State) : s.resumeBoot.mode = .boot := rfl

/-- Entry into BOOT is from RESET, where no request is in progress. -/
theorem enterBoot_modeStep {s : State} (h : Lawful s) (hm : s.mode = .reset) (hp : s.pins.resetN = true) :
    ModeStep s s.enterBoot := by
  have hq : s.md.req = none := lawful_req_none h (by simp [hm, modeGo])
  refine modeStep_of_no_req hq (by simpa using hp) ?_
  rw [hm, State.mode_enterBoot]
  decide

theorem fwFail_modeStep {s : State} (h : Lawful s) (hm : s.mode = .boot) (n : Nat) : ModeStep s (s.fwFail n) := by
  have hq : s.md.req = none := lawful_req_none h (by simp [hm, modeGo])
  exact modeStep_of_no_req hq (by simpa using lawful_resetN h (by simp [hm])) (modeMay_reset _)

theorem resumeBoot_modeStep {s : State} (h : Lawful s) (hm : s.mode = .reset) (hl : s.md.hostLive = true) :
    ModeStep s s.resumeBoot := by
  have hq : s.md.req = none := lawful_req_none h (by simp [hm, modeGo])
  refine modeStep_of_no_req hq (by simpa using lawful_resetN_of_hostLive h hl) ?_
  rw [hm, State.mode_resumeBoot]
  decide

/-- A mode change in progress is stopped by entry into SAFE (R592). -/
theorem State.stopReq_req (s : State) : s.stopReq.md.req = none := by
  unfold State.stopReq
  split
  · assumption
  · dsimp only
    split <;> simp

theorem State.enterSafe_req (c : Nat) (s : State) : (s.enterSafe c).md.req = none := by
  simp [State.enterSafe, State.stopReq_req]

theorem enterSafe_modeStep {s : State} (h : Lawful s) (hm : safeFrom s.mode = true) (c : Nat) :
    ModeStep s (s.enterSafe c) := by
  have hp : s.pins.resetN = true := lawful_resetN h fun hr => by simp [hr, safeFrom] at hm
  refine modeStep_of_no_req (State.enterSafe_req c s) (by simpa using hp) ?_
  rw [(enterSafe_facts c s).1]
  revert hm
  generalize s.mode = m
  cases m <;> decide

theorem State.mode_enterSave (mv : Nat) (s : State) : (s.enterSave mv).mode = .save := by
  have hmode : ∀ t : State, t.flt = ((s.startSave mv 0).enterMode .save 5).flt → t.mode = .save :=
    fun t ht => mode_of (s := (s.startSave mv 0).enterMode .save 5) (by rw [ht])
  exact hmode _ (by simp [State.enterSave])

theorem enterSave_modeStep {s : State} (h : Lawful s) (hm : s.served = true) (mv : Nat) :
    ModeStep s (s.enterSave mv) := by
  have hp : s.pins.resetN = true := lawful_resetN h fun hr => by simp [hr, State.served] at hm
  refine modeStep_of_no_req (by simp [State.enterSave]) (by simpa using hp) ?_
  rw [State.mode_enterSave]
  simp only [State.served] at hm
  revert hm
  generalize s.mode = m
  cases m <;> decide

/-! ### Moves that a host asks for -/

/-- A move while keel register 0 is not stuck: the mode, PREV and CAUSE, and no request left (R57, R524). -/
theorem State.moveMode_of_free {s : State} (h : s.flt.keel0.stuck = false) (m : Mode) (c : Nat) :
    ∃ t, s.moveMode m c = (true, t) ∧ t.mode = m ∧ t.md.prev = s.mode ∧ t.md.cause = c ∧ t.md.req = none ∧
      t.md.hostLive = s.md.hostLive := by
  have hk : s.keelChange 0 m.code = (true, s.commit 0 m.code) := keelChange_ok 0 _ s h
  refine ⟨(s.moveMode m c).2, ?_, ?_, ?_⟩
  · simp only [State.moveMode, hk]
  · simp only [State.moveMode, hk]
    refine (State.mode_of_keel0 ?_).trans (commit_mode m s)
    split <;> simp
  · simp only [State.moveMode, hk]
    split <;> simp

/-- While keel register 0 is stuck a move is refused (R524). -/
theorem State.moveMode_of_stuck {s : State} (h : s.flt.keel0.stuck = true) (m : Mode) (c : Nat) :
    s.moveMode m c = (false, s.keelRefused 0) := by
  have hk : s.keelChange 0 m.code = (false, s.keelRefused 0) := if_pos h
  simp only [State.moveMode, hk]

/-- A refusal logs and leaves the register's value (R524). -/
theorem State.mode_keelRefused (s : State) : (s.keelRefused 0).mode = s.mode := by
  have hraise : ∀ k : Keel, k.voted = s.flt.keel0.voted →
      ((s.setKeel 0 k).raise 0x200 4 .ce (packItems [(3, 0)])).mode = s.mode :=
    fun k hk => mode_of (by simpa [State.setKeel] using hk)
  unfold State.keelRefused
  dsimp only
  split
  · exact hraise _ rfl
  · split
    · exact hraise _ rfl
    · rfl

theorem keelRefused_modeStep {s : State} (h : Lawful s) : ModeStep s (s.keelRefused 0) :=
  modeStep_of_same h (State.mode_keelRefused s) (by simp) (by simp) (by simp)

/-- A move to a mode that the table leads to, made or refused. -/
theorem moveMode_modeStep {s : State} (h : Lawful s) {m : Mode} (hm : modeMay s.mode m = true)
    (hr : s.mode ≠ .reset) (c : Nat) : ModeStep s (s.moveMode m c).2 := by
  have hp : (s.moveMode m c).2.pins.resetN = true := by simpa using lawful_resetN h hr
  cases hk : s.flt.keel0.stuck with
  | true =>
    rw [State.moveMode_of_stuck hk]
    exact keelRefused_modeStep h
  | false =>
    obtain ⟨t, ht, hmode, _, _, hreq, _⟩ := State.moveMode_of_free hk m c
    rw [ht] at hp ⊢
    exact modeStep_of_no_req hreq hp (by rw [hmode]; exact hm)

theorem completeSer_modeStep {s t : State} (h : ModeStep s t) (k : Nat) (st : Status) (a b : Nat) :
    ModeStep s (t.completeSer k st a b) :=
  modeStep_congr h (State.mode_of_keel0 (by simp)) (by simp) (by simp) (by simp)

theorem complete_modeStep {s t : State} (h : ModeStep s t) (c : Cmd) (st : Status) (a b : Nat) :
    ModeStep s (t.complete c st a b) :=
  modeStep_congr h (State.mode_of_keel0 (by simp)) (by simp) (by simp) (by simp)

theorem ne_reset_of_modeGo {a b : Mode} (h : modeGo a b = true) : a ≠ .reset := by
  rintro rfl
  simp [modeGo] at h

/-- Dropping the request in progress keeps the law. -/
theorem modeStep_drop_req {s t : State} (h : ModeStep s t) : ModeStep s { t with md.req := none } :=
  ⟨⟨by simp, h.1.2⟩, h.2⟩

/-- The request in progress asks for a transition of the table, so its end is one. -/
theorem finishReq_modeStep {s : State} (h : Lawful s) (st : Status) (n : Nat) : ModeStep s (s.finishReq st n) := by
  unfold State.finishReq
  split
  · exact modeStep_refl h
  next r hr =>
    have hgo : modeGo s.mode r.target = true := h.1 r hr
    have hmove := moveMode_modeStep h (modeMay_of_modeGo hgo) (ne_reset_of_modeGo hgo) 2
    split
    next t ht =>
      rw [ht] at hmove
      split
      · exact completeSer_modeStep hmove ..
      · exact hmove
    next t ht =>
      rw [ht] at hmove
      split
      · exact completeSer_modeStep (modeStep_drop_req hmove) ..
      · exact modeStep_drop_req hmove

theorem unparkDone_modeStep {s : State} (h : Lawful s) : ModeStep s s.unparkDone := by
  unfold State.unparkDone
  split
  · exact finishReq_modeStep h ..
  · exact modeStep_refl h

/-- Outside PARK the end of PARK does nothing. -/
theorem State.unparkDone_of_ne_park {s : State} (h : s.mode ≠ .park) : s.unparkDone = s := by
  simp [State.unparkDone, h]

/-! ### The commands that ask for a mode -/

/-- MODE_REQUEST to a mode that the table leads to: the request begins and, without a move, is the one in progress. -/
theorem startReq_modeStep {s : State} (h : Lawful s) {c : Cmd} {m : Mode} (hgo : modeGo s.mode m = true) :
    ModeStep s (s.startReq c m) := by
  have hlaw : ModeStep s { s with md := { s.md with
      req := some { cmd := some c.serial, target := m,
                    flushAt := if c.arg 12 4 = 0 then none else some (s.now + c.arg 12 4 * 1000000),
                    linkDown := decide (c.arg 9 1 = 1) } } } := by
    refine ⟨⟨?_, h.2⟩, modeMay_self _⟩
    rintro r hr
    obtain rfl := Option.some.inj hr
    exact hgo
  unfold State.startReq
  dsimp only
  split
  · exact modeStep_congr hlaw (State.mode_of_keel0 (by simp)) (by simp) (by simp) (by simp)
  · exact hlaw

theorem commit_mode_modeStep {s : State} (h : Lawful s) {m : Mode} (hm : m = s.mode) :
    ModeStep s (s.commit 0 m.code) :=
  modeStep_of_same h ((commit_mode m s).trans hm) rfl rfl rfl

/-- A command of a ring leaves what its own meaning leaves, completed or waiting. -/
theorem runCmd_induction {P : State → Prop} {p : HostPort} {n op : Nat} {row : Cmd → Bool}
    {layout : Cmd → List ArgField} {body : Cmd → State → Ran} {s : State} (hs : P s)
    (hcomplete : ∀ c st a b t, P t → P (State.complete c st a b t)) (hwait : ∀ c t, P t → P (State.wait c t))
    (hbody : ∀ c, P (body c s).st) : P (s.runCmd p n op row layout body) := by
  unfold State.runCmd
  split
  · exact hs
  next c _ =>
    have hb := hbody c
    split
    · split
      · exact hcomplete _ _ _ _ _ hs
      · split
        · exact hcomplete _ _ _ _ _ hs
        · split
          next hr =>
            rw [hr] at hb
            exact hcomplete _ _ _ _ _ hb
          next hr =>
            rw [hr] at hb
            exact hwait _ _ hb
    · exact hs

/-- A lawful step that does not enter PARK: the end of PARK, which is looked at next, can only follow a step that
stayed. -/
def StepNotToPark (s t : State) : Prop := ModeStep s t ∧ (t.mode = s.mode ∨ t.mode ≠ .park)

theorem stepNotToPark_of_mode {s t : State} (h : ModeStep s t) (hm : t.mode = s.mode) : StepNotToPark s t :=
  ⟨h, .inl hm⟩

theorem stepNotToPark_congr {s t u : State} (h : StepNotToPark s t) (hk : u.flt.keel0 = t.flt.keel0)
    (hd : u.md = t.md) (hp : u.pins = t.pins) : StepNotToPark s u := by
  have hm : u.mode = t.mode := State.mode_of_keel0 hk
  exact ⟨modeStep_congr h.1 hm (by rw [hd]) (by rw [hd]) (by rw [hp]), by rw [hm]; exact h.2⟩

theorem stepNotToPark_unparkDone {s t : State} (h : StepNotToPark s t) : ModeStep s t.unparkDone := by
  obtain ⟨hstep, hsame | hpark⟩ := h
  · have hend := unparkDone_modeStep hstep.1
    exact ⟨hend.1, by rw [← hsame]; exact hend.2⟩
  · rw [State.unparkDone_of_ne_park hpark]
    exact hstep

theorem stepNotToPark_refl {s : State} (h : Lawful s) : StepNotToPark s s := ⟨modeStep_refl h, .inl rfl⟩

/-- A move to FORWARD, made or refused, does not enter PARK. -/
theorem moveForward_stepNotToPark {s : State} (h : Lawful s) (hgo : modeGo s.mode .forward = true) (c : Nat) :
    StepNotToPark s (s.moveMode .forward c).2 := by
  refine ⟨moveMode_modeStep h (modeMay_of_modeGo hgo) (ne_reset_of_modeGo hgo) c, ?_⟩
  cases hk : s.flt.keel0.stuck with
  | true =>
    rw [State.moveMode_of_stuck hk]
    exact .inl (State.mode_keelRefused s)
  | false =>
    obtain ⟨t, ht, hmode, _⟩ := State.moveMode_of_free hk .forward c
    rw [ht]
    exact .inr (by simp [hmode])

theorem backToForward_stepNotToPark {s : State} (h : Lawful s) (hm : s.mode = .drain) :
    StepNotToPark s s.backToForward.st := by
  have hmove := moveForward_stepNotToPark h (by simp [hm, modeGo]) 2
  unfold State.backToForward
  dsimp only
  split
  next t ht =>
    rw [ht] at hmove
    rw [Ran.st_done]
    split
    · exact stepNotToPark_congr hmove (by simp) (by simp) (by simp)
    · exact hmove
  next t ht =>
    rw [ht] at hmove
    exact hmove

theorem execModeRequest_modeStep {p : HostPort} {n : Fin 64} {s t : State} (h : Lawful s)
    (hx : execModeRequest p n s = .next t) : ModeStep s t := by
  obtain rfl := Host.Outcome.next.inj hx
  clear hx
  refine stepNotToPark_unparkDone (runCmd_induction (P := StepNotToPark s) (stepNotToPark_refl h) ?_ ?_ fun c => ?_)
  · exact fun c st a b t ht => stepNotToPark_congr ht (by simp) (by simp) (by simp)
  · exact fun c t ht => stepNotToPark_congr ht rfl rfl rfl
  dsimp only
  split
  · exact stepNotToPark_refl h
  split
  · split
    next hback => exact backToForward_stepNotToPark h hback.1
    · exact stepNotToPark_refl h
  split
  next hsame => exact stepNotToPark_of_mode (commit_mode_modeStep h hsame) ((commit_mode _ s).trans hsame)
  split
  · exact stepNotToPark_refl h
  next hgo =>
  have hgo : modeGo s.mode (Mode.ofCode (c.argBits 8 1 3 0)) = true := by simpa using hgo
  split
  · exact stepNotToPark_refl h
  split
  · exact stepNotToPark_of_mode (keelRefused_modeStep h) (State.mode_keelRefused s)
  split
  next hfwd =>
    rw [hfwd.2] at hgo ⊢
    have hmove := moveForward_stepNotToPark h hgo 2
    split
    next ht =>
      rw [ht] at hmove
      exact hmove
    next ht =>
      rw [ht] at hmove
      exact hmove
  · exact stepNotToPark_of_mode (startReq_modeStep h hgo) (State.mode_of_keel0 (by simp))

theorem execModeRequestReset_modeStep {p : HostPort} {n : Fin 64} {s t : State} (h : Lawful s)
    (hx : execModeRequestReset p n s = .next t) : ModeStep s t := by
  obtain rfl := Host.Outcome.next.inj hx
  clear hx
  refine runCmd_induction (P := ModeStep s) (modeStep_refl h) (fun c st a b t ht => complete_modeStep ht c st a b)
    (fun c t ht => ht) fun c => ?_
  split
  · exact modeStep_refl h
  · exact enterReset_modeStep 2 true s

theorem execGlModeReq_modeStep {p : HostPort} {v : Word} {s t : State} (h : Lawful s)
    (hx : execGlModeReq p v s = .next t) : ModeStep s t := by
  have hres : ∀ {u : State} (a b : Nat), ModeStep s u → ModeStep s (u.glResult a b) :=
    fun a b hu => modeStep_congr hu rfl rfl rfl rfl
  have hmove : ∀ {m : Mode} {a b k : Nat}, modeMay s.mode m = true → s.mode ≠ .reset →
      ModeStep s (match s.moveMode m 1 with
        | (true, u) => u.glResult k a
        | (false, u) => u.glResult k b) := by
    intro m a b k hmay hne
    have hm := moveMode_modeStep h hmay hne 1
    split
    next ht =>
      rw [ht] at hm
      exact hres _ _ hm
    next ht =>
      rw [ht] at hm
      exact hres _ _ hm
  obtain rfl := Host.Outcome.next.inj hx
  clear hx
  dsimp only
  split
  · exact modeStep_refl h
  split
  · exact modeStep_congr (modeStep_refl h) rfl rfl rfl rfl
  split
  · exact hres _ _ (modeStep_refl h)
  split
  next hsame => exact hres _ _ (commit_mode_modeStep h hsame)
  split
  next hconf =>
    rw [hconf.2.1]
    exact hmove (by rw [hconf.1]; decide) (by simp [hconf.1])
  split
  next hfwd =>
    split
    · exact hres _ _ (modeStep_refl h)
    · rw [hfwd.2]
      exact hmove (by rw [hfwd.1]; decide) (by simp [hfwd.1])
  · exact hres _ _ (modeStep_refl h)

theorem execGlModeReqBoot_modeStep {p : HostPort} {v : Word} {s t : State} (h : Lawful s)
    (hx : execGlModeReqBoot p v s = .next t) : ModeStep s t := by
  obtain rfl := Host.Outcome.next.inj hx
  clear hx
  split
  next hc =>
    simp only [Bool.and_eq_true, decide_eq_true_eq] at hc
    obtain ⟨⟨⟨_, hm⟩, hl⟩, _⟩ := hc
    exact modeStep_congr (resumeBoot_modeStep h hm hl) rfl rfl rfl rfl
  · exact modeStep_refl h

theorem execGlReset_modeStep {p : HostPort} {v : Word} {s t : State} (h : Lawful s)
    (hx : execGlReset p v s = .next t) : ModeStep s t := by
  obtain rfl := Host.Outcome.next.inj hx
  clear hx
  dsimp only
  split
  · exact enterReset_modeStep 3 true s
  · exact modeStep_refl h

theorem execGlFwLen_modeStep {p : HostPort} {v : Word} {s t : State} (h : Lawful s)
    (hx : execGlFwLen p v s = .next t) : ModeStep s t := by
  obtain rfl := Host.Outcome.next.inj hx
  clear hx
  dsimp only
  split
  · split <;> exact modeStep_of_same h rfl rfl rfl rfl
  · exact modeStep_refl h

theorem execDrainIngressStopped_modeStep {s t : State} (h : Lawful s) (hx : execDrainIngressStopped s = .next t) :
    ModeStep s t := by
  obtain rfl := Host.Outcome.next.inj hx
  clear hx
  split
  · exact finishReq_modeStep h ..
  · exact modeStep_refl h

theorem execPipelinesGated_modeStep {s t : State} (h : Lawful s) (hx : execPipelinesGated s = .next t) :
    ModeStep s t := by
  obtain rfl := Host.Outcome.next.inj hx
  clear hx
  split
  · exact finishReq_modeStep h ..
  · exact modeStep_refl h

theorem execDrainBufferEmpty_modeStep {s t : State} (h : Lawful s) (hx : execDrainBufferEmpty s = .next t) :
    ModeStep s t := by
  obtain rfl := Host.Outcome.next.inj hx
  clear hx
  split
  · exact finishReq_modeStep h ..
  · exact modeStep_refl h

/-- A step to a state with the same mode, boot and pins goes on as from the state before. -/
theorem modeStep_of_kept {s u t : State} (hk : u.flt.keel0 = s.flt.keel0) (h : ModeStep u t) : ModeStep s t :=
  ⟨h.1, by rw [← State.mode_of_keel0 hk]; exact h.2⟩

theorem lawful_of_kept {s u : State} (hk : u.flt.keel0 = s.flt.keel0) (hd : u.md = s.md) (hp : u.pins = s.pins)
    (h : Lawful s) : Lawful u :=
  lawful_congr (State.mode_of_keel0 hk) (by rw [hd]) (by rw [hd]) (by rw [hp]) h

theorem finishReq_modeStep_of_kept {s u : State} (h : Lawful s) (hk : u.flt.keel0 = s.flt.keel0) (hd : u.md = s.md)
    (hp : u.pins = s.pins) (st : Status) (n : Nat) : ModeStep s (u.finishReq st n) :=
  modeStep_of_kept hk (finishReq_modeStep (lawful_of_kept hk hd hp h) st n)

theorem unparkDone_modeStep_of_kept {s u : State} (h : Lawful s) (hk : u.flt.keel0 = s.flt.keel0) (hd : u.md = s.md)
    (hp : u.pins = s.pins) : ModeStep s u.unparkDone :=
  modeStep_of_kept hk (unparkDone_modeStep (lawful_of_kept hk hd hp h))

theorem execDrainFlushTimeout_modeStep {pick : Draw} {s t : State} (h : Lawful s)
    (hx : execDrainFlushTimeout pick s = .next t) : ModeStep s t := by
  obtain rfl := Host.Outcome.next.inj hx
  clear hx
  dsimp only
  refine iteInduction (motive := ModeStep s) (fun _ => ?_) fun _ => modeStep_refl h
  exact finishReq_modeStep_of_kept h (by simp) (by simp) (by simp) ..

theorem execUnparkRampEnd_modeStep {s t : State} (h : Lawful s) (hx : execUnparkRampEnd s = .next t) :
    ModeStep s t := by
  obtain rfl := Host.Outcome.next.inj hx
  clear hx
  dsimp only
  split
  · exact unparkDone_modeStep h
  · split
    · refine completeSer_modeStep ?_ ..
      exact modeStep_of_same h rfl rfl rfl rfl
    · exact unparkDone_modeStep_of_kept h rfl rfl rfl

/-! ### Pins -/

theorem execResetNFall_modeStep {ns : Nat} {acts : Bool} {s t : State} (h : Lawful s)
    (hx : execResetNFall ns acts s = .next t) : ModeStep s t := by
  obtain rfl := Host.Outcome.next.inj hx
  clear hx
  split
  · exact modeStep_of_kept rfl (enterReset_modeStep 0 false _)
  · exact modeStep_refl h

theorem execResetNRise_modeStep {hostPref : Bool} {strap : BitVec 10} {s t : State} (h : Lawful s)
    (hx : execResetNRise hostPref strap s = .next t) : ModeStep s t := by
  obtain rfl := Host.Outcome.next.inj hx
  clear hx
  split
  · exact modeStep_refl h
  next hp =>
    obtain ⟨hm, hl⟩ := h.2 (by simpa using hp)
    refine modeStep_of_kept rfl (enterBoot_modeStep ⟨h.1, by simp⟩ ?_ rfl)
    exact hm

theorem execDeviceResetHoldEnd_modeStep {s t : State} (h : Lawful s) (hx : execDeviceResetHoldEnd s = .next t) :
    ModeStep s t := by
  obtain rfl := Host.Outcome.next.inj hx
  clear hx
  split
  next hc =>
    simp only [Bool.and_eq_true, decide_eq_true_eq] at hc
    obtain ⟨⟨hp, hm⟩, _⟩ := hc
    exact enterBoot_modeStep h hm hp
  · exact modeStep_refl h

theorem execPwrfailNFall_modeStep {ns : Nat} {acts : Bool} {mv : BitVec 12} {s t : State} (h : Lawful s)
    (hx : execPwrfailNFall ns acts mv s = .next t) : ModeStep s t := by
  have hlow : Lawful { s with pins.pwrfailN := false } := lawful_congr (s := s) rfl rfl rfl rfl h
  obtain rfl := Host.Outcome.next.inj hx
  clear hx
  dsimp only
  split
  · split
    next hserved => exact modeStep_of_kept rfl (enterSave_modeStep hlow hserved _)
    split
    · exact modeStep_of_same h (State.mode_of_keel0 (by simp)) (by simp) (by simp) (by simp)
    · exact modeStep_of_same h rfl rfl rfl rfl
  · exact modeStep_refl h

theorem execHostSelNFall_resetN {ns : Nat} {acts : Bool} {s t : State} (hx : execHostSelNFall ns acts s = .next t) :
    t.pins.resetN = s.pins.resetN := by
  obtain rfl := Host.Outcome.next.inj hx
  clear hx
  dsimp only
  split
  · split <;> simp
  · rfl

theorem State.onBench_resetN (l : Nat) (f : LaneTest → LaneTest) (s : State) :
    (s.onBench l f).pins.resetN = s.pins.resetN := by
  unfold State.onBench
  split <;> rfl

theorem execLoopbackSelect_resetN {w : Writer} {p : Port} {l : Fin 4} {pick : Draw} {s t : State}
    (hx : execLoopbackSelect w p l pick s = .next t) : t.pins.resetN = s.pins.resetN := by
  obtain rfl := Host.Outcome.next.inj hx
  clear hx
  cases w with
  | host q =>
    dsimp only
    split
    · simp
    · rfl
  | tester => exact State.onBench_resetN ..

theorem execPtTestWrite_resetN {w : Writer} {p : Port} {v : Word} {s t : State}
    (hx : execPtTestWrite w p v s = .next t) : t.pins.resetN = s.pins.resetN := by
  obtain rfl := Host.Outcome.next.inj hx
  clear hx
  cases w with
  | host q =>
    dsimp only
    split
    · simp
    · rfl
  | tester => exact State.onBench_resetN ..

theorem execPrbsLock_resetN {l : Lane} {locked : Bool} {errors : DWord} {s t : State}
    (hx : execPrbsLock l locked errors s = .next t) : t.pins.resetN = s.pins.resetN := by
  obtain rfl := Host.Outcome.next.inj hx
  clear hx
  dsimp only
  split
  · exact State.onBench_resetN ..
  split
  · rfl
  split
  · simp
  · rfl

/-! ### BOOT -/

/-- A step that leaves the mode, a request in progress, the live host ports and the pins as they are. -/
theorem modeStep_of_fields {s t : State} (h : Lawful s) (hk : t.flt.keel0 = s.flt.keel0) (hq : t.md.req = s.md.req)
    (hl : t.md.hostLive = s.md.hostLive) (hp : t.pins = s.pins) : ModeStep s t :=
  modeStep_of_same h (State.mode_of_keel0 hk) hq hl (by rw [hp])

theorem execBootSelftestDone_modeStep {memA katA memB katB : Bool} {s t : State} (h : Lawful s)
    (hx : execBootSelftestDone memA katA memB katB s = .next t) : ModeStep s t := by
  obtain rfl := Host.Outcome.next.inj hx
  clear hx
  refine iteInduction (motive := ModeStep s) (fun _ => ?_) fun _ => modeStep_refl h
  exact modeStep_of_fields h (by simp) (by simp) (by simp) (by simp)

theorem execFwFetchStart_modeStep {s t : State} (h : Lawful s) (hx : execFwFetchStart s = .next t) :
    ModeStep s t := by
  obtain rfl := Host.Outcome.next.inj hx
  clear hx
  split
  next hc =>
    split
    · exact modeStep_of_same h rfl rfl rfl rfl
    · exact fwFail_modeStep h hc.1 5
  · exact modeStep_refl h

theorem execFwFetchDone_modeStep {ok : Bool} {s t : State} (h : Lawful s) (hx : execFwFetchDone ok s = .next t) :
    ModeStep s t := by
  obtain rfl := Host.Outcome.next.inj hx
  clear hx
  split
  next hc =>
    split
    · exact modeStep_of_same h rfl rfl rfl rfl
    · exact fwFail_modeStep h hc.1 4
  · exact modeStep_refl h

/-- What a good signature check leaves: the image's digest, and in each Collie that loads, the image (R62, R549). -/
def State.fwVerified (digest : List Byte) (version : Nat) (s : State) : State :=
  let load := fun (c : Collie) => if c.state = .loading then { c with fwOk := true, version := version } else c
  { s with md.phase := .roleProof, ref.a := load s.ref.a, ref.b := load s.ref.b,
           ref.meas := s.ref.meas.set [] 1 digest }

theorem execFwVerifyDone_of_good {s : State} (hm : s.mode = .boot) (hph : s.md.phase = .fwVerify) (image : List Byte)
    (version : Word) :
    execFwVerifyDone true image version s = .next ((s.fwVerified (sha384 image) version.toNat).noteHealth s) := by
  unfold execFwVerifyDone
  rw [if_pos ⟨hm, hph⟩, if_pos rfl]
  rfl

theorem execFwVerifyDone_of_bad {s : State} (hm : s.mode = .boot) (hph : s.md.phase = .fwVerify) (image : List Byte)
    (version : Word) : execFwVerifyDone false image version s = .next (s.fwFail 3) := by
  unfold execFwVerifyDone
  rw [if_pos ⟨hm, hph⟩, if_neg (by simp)]

theorem execFwVerifyDone_modeStep {good : Bool} {image : List Byte} {version : Word} {s t : State} (h : Lawful s)
    (hx : execFwVerifyDone good image version s = .next t) : ModeStep s t := by
  by_cases hc : s.mode = .boot ∧ s.md.phase = .fwVerify
  · cases good with
    | true =>
      rw [execFwVerifyDone_of_good hc.1 hc.2] at hx
      obtain rfl := Host.Outcome.next.inj hx
      exact modeStep_of_fields h (by simp [State.fwVerified]) (by simp [State.fwVerified])
        (by simp [State.fwVerified]) (by simp [State.fwVerified])
    | false =>
      rw [execFwVerifyDone_of_bad hc.1 hc.2] at hx
      obtain rfl := Host.Outcome.next.inj hx
      exact fwFail_modeStep h hc.1 3
  · unfold execFwVerifyDone at hx
    rw [if_neg hc] at hx
    obtain rfl := Host.Outcome.next.inj hx
    exact modeStep_refl h

theorem execFwFetchTimeout_modeStep {s t : State} (h : Lawful s) (hx : execFwFetchTimeout s = .next t) :
    ModeStep s t := by
  obtain rfl := Host.Outcome.next.inj hx
  clear hx
  dsimp only
  refine iteInduction (motive := ModeStep s) (fun hc => ?_) fun _ => modeStep_refl h
  exact fwFail_modeStep h hc.1 4

/-- What the role proof makes of the Collies and the roles, its reports and events apart (R60, R535). -/
def State.rolesProved (okA okB : Bool) (s : State) : State :=
  let stA : CollieState := if okA then .active else .failed
  let stB : CollieState := if okA && okB then .standby else if okB then .active else .failed
  let s1 := { s with md.phase := .kennel, md.collieAOk := okA, md.collieBOk := okB,
                     ref.a := s.ref.a.placed s.now stA, ref.b := s.ref.b.placed s.now stB }
  s1.commit 1 (s1.rolesWithCollie (if okB && !okA then .b else .a))

/-- What the role proof reports of a Collie that takes up a role. -/
def State.roleSwap (s : State) : State :=
  (s.follow 0x200 0x14 .ce (packItems [(1, 0), (2, 0)]) false).healthEvt 3

/-- The reports and events of the role proof: the two swaps, each Collie that failed it, and no Collie left. -/
def State.roleReports (okA okB lateA lateB : Bool) (s before : State) : State :=
  let s3 := if okA && okB then s.roleSwap.roleSwap else s
  let s4 := if !okA && lateA then s3.logFailed .a else s3
  let s5 := if !okB && lateB then s4.logFailed .b else s4
  (if okA || okB then s5 else s5.noCollie).noteHealth before

theorem execRoleProofDone_of_roleProof {s : State} (hm : s.mode = .boot) (hph : s.md.phase = .roleProof)
    (aOk bOk : Bool) :
    execRoleProofDone aOk bOk s = .next
      ((s.rolesProved (aOk && decide (s.ref.a.state = .loading)) (bOk && decide (s.ref.b.state = .loading))).roleReports
        (aOk && decide (s.ref.a.state = .loading)) (bOk && decide (s.ref.b.state = .loading))
        (decide (s.ref.a.state = .loading)) (decide (s.ref.b.state = .loading)) s) := by
  unfold execRoleProofDone
  rw [if_pos ⟨hm, hph⟩]
  rfl

@[simp] theorem State.roleSwap_keeps (s : State) :
    s.roleSwap.pins = s.pins ∧ s.roleSwap.md = s.md ∧ s.roleSwap.ref = s.ref ∧
      s.roleSwap.flt.keel0 = s.flt.keel0 ∧ s.roleSwap.flt.keel1 = s.flt.keel1 := by
  simp [State.roleSwap]

@[simp] theorem State.roleReports_keeps (okA okB lateA lateB : Bool) (s before : State) :
    (s.roleReports okA okB lateA lateB before).pins = s.pins ∧
      (s.roleReports okA okB lateA lateB before).md = s.md ∧
      (s.roleReports okA okB lateA lateB before).ref = s.ref ∧
      (s.roleReports okA okB lateA lateB before).flt.keel0 = s.flt.keel0 ∧
      (s.roleReports okA okB lateA lateB before).flt.keel1 = s.flt.keel1 := by
  simp [State.roleReports]

theorem execRoleProofDone_modeStep {aOk bOk : Bool} {s t : State} (h : Lawful s)
    (hx : execRoleProofDone aOk bOk s = .next t) : ModeStep s t := by
  by_cases hc : s.mode = .boot ∧ s.md.phase = .roleProof
  · rw [execRoleProofDone_of_roleProof hc.1 hc.2] at hx
    obtain rfl := Host.Outcome.next.inj hx
    clear hx
    exact modeStep_of_fields h (by simp [State.rolesProved]) (by simp [State.rolesProved])
      (by simp [State.rolesProved]) (by simp [State.rolesProved])
  · unfold execRoleProofDone at hx
    rw [if_neg hc] at hx
    obtain rfl := Host.Outcome.next.inj hx
    exact modeStep_refl h

theorem execKennelReadbackDone_modeStep {errs : List (BitVec 20 × Bool)} {element : Bool} {s t : State} (h : Lawful s)
    (hx : execKennelReadbackDone errs element s = .next t) : ModeStep s t := by
  obtain rfl := Host.Outcome.next.inj hx
  clear hx
  refine iteInduction (motive := ModeStep s) (fun _ => ?_) fun _ => modeStep_refl h
  exact modeStep_of_fields h (by simp) (by simp [State.bootReady]) (by simp [State.bootReady]) (by simp)

/-! ### Clocks -/

/-- The end of BOOT's clock phase changes of the mode's state the phase alone. -/
theorem State.clocksDone_md (s : State) : s.clocksDone.md.req = s.md.req ∧ s.clocksDone.md.hostLive = s.md.hostLive := by
  unfold State.clocksDone
  split
  · dsimp only
    (repeat' split) <;> simp
  · exact ⟨rfl, rfl⟩

theorem execClockJudgeWindow_md {i : Fin 32} {count : Nat} {pick : Draw} {s t : State}
    (hx : execClockJudgeWindow i count pick s = .next t) :
    t.md.req = s.md.req ∧ t.md.hostLive = s.md.hostLive := by
  obtain rfl := Host.Outcome.next.inj hx
  clear hx
  dsimp only
  split
  · exact ⟨rfl, rfl⟩
  split
  · exact ⟨rfl, rfl⟩
  · simp [State.clocksDone_md]

theorem execOscillatorTrim_md {err : Int} {usable : Bool} {s t : State} (hx : execOscillatorTrim err usable s = .next t) :
    t.md.req = s.md.req ∧ t.md.hostLive = s.md.hostLive := by
  obtain rfl := Host.Outcome.next.inj hx
  clear hx
  dsimp only
  split
  · exact ⟨rfl, rfl⟩
  · simp only [State.clocksDone_md]
    split <;> simp

/-! ### Faults -/

theorem State.takeFollow_modeStep {s t : State} (h : ModeStep s t) (src : Nat) : ModeStep s (t.takeFollow src) :=
  modeStep_congr h (State.mode_of_keel0 (by simp)) (by simp) (by simp) (by simp)

/-- A fatal record enters SAFE, or changes nothing of the mode (R514). -/
theorem fatal_modeStep {s : State} (h : Lawful s) (r : Rec) : ModeStep s (s.fatal r) := by
  unfold State.fatal
  split
  next hm => exact modeStep_of_kept rfl (enterSafe_modeStep (s := { s with flt.fatal := r.number }) h hm _)
  split
  · split
    · exact modeStep_of_same h rfl rfl rfl rfl
    · exact modeStep_refl h
  · exact modeStep_refl h

theorem recordOne_modeStep {s : State} (h : Lawful s) (r : Rec) : ModeStep s (s.recordOne r) := by
  have hkept : ∀ u : State, u.flt.keel0 = s.flt.keel0 → u.md = s.md → u.pins = s.pins →
      ModeStep s (u.fatal { r with number := nextNumber s.flt.last }) ∧ ModeStep s u :=
    fun u hk hd hp => ⟨modeStep_of_kept hk (fatal_modeStep (lawful_of_kept hk hd hp h) _),
      modeStep_of_fields h hk (by rw [hd]) (by rw [hd]) hp⟩
  unfold State.recordOne
  dsimp only
  split
  · exact State.takeFollow_modeStep (hkept _ (by simp) (by simp) (by simp)).1 _
  · exact State.takeFollow_modeStep (hkept _ (by simp) (by simp) (by simp)).2 _

theorem fatalNow_modeStep {s : State} (h : Lawful s) (src code d : Nat) : ModeStep s (s.fatalNow src code d) := by
  have hkept : ∀ u : State, u.flt.keel0 = s.flt.keel0 → u.md = s.md → u.pins = s.pins → ∀ r,
      ModeStep s (u.recordOne r) :=
    fun u hk hd hp r => modeStep_of_kept hk (recordOne_modeStep (lawful_of_kept hk hd hp h) r)
  unfold State.fatalNow
  dsimp only
  split
  · split
    · exact hkept _ (by simp) (by simp) (by simp) _
    · exact modeStep_of_fields h (by simp) (by simp) (by simp) (by simp)
  · exact modeStep_of_fields h (by simp) (by simp) (by simp) (by simp)

theorem execFaultRecord_modeStep {s t : State} (h : Lawful s) (hx : execFaultRecord s = .next t) : ModeStep s t := by
  obtain rfl := Host.Outcome.next.inj hx
  clear hx
  split
  · exact modeStep_refl h
  split
  · exact recordOne_modeStep h _
  · exact modeStep_refl h

theorem execJunctionComparatorTrip_modeStep {i : Fin 64} {s t : State} (h : Lawful s)
    (hx : execJunctionComparatorTrip i s = .next t) : ModeStep s t := by
  obtain rfl := Host.Outcome.next.inj hx
  exact fatalNow_modeStep h ..

theorem execBootClock_modeStep {s t : State} (h : Lawful s) (hx : execBootClock s = .next t) : ModeStep s t := by
  obtain rfl := Host.Outcome.next.inj hx
  clear hx
  split
  next i _ _ =>
    split
    · exact modeStep_of_kept rfl (fatalNow_modeStep (s := { s with md.bootResult := 6 }) h ..)
    · exact modeStep_refl h
  · exact modeStep_refl h

/-- The record of an error in the collector's own state (R516). -/
def State.collectorRec (part : Nat) (inj : Bool) (s : State) : Rec :=
  { src := 0x300, code := 1, cls := .ft, injected := inj, number := 0, time := s.devTime, seen := s.now,
    detail := packItems [(3, part)] }

/-- The collector at fault, its record latched as the first one (R516). -/
def State.collectorLatched (r : Rec) (s : State) : State :=
  { s with flt := { s.flt with
      selfFault := true, first := some r, firstValid := true, raised := 0,
      later := if s.flt.firstValid then s.flt.later else satTo 0xFFFF s.flt.raised } }

/-- What a fault of the collector does: SAFE, or in SAVE its place in the save under way (R516). -/
def State.collectorActs (s : State) : State :=
  if safeFrom s.mode then s.enterSafe 6
  else match s.pwr.save with
    | some v => if s.mode = .save then { s with pwr.save := some { v with bytes := s.patchSave v.bytes } } else s
    | none => s

theorem execCollectorFault_of_resetN {s : State} (hp : s.pins.resetN = true) (part : Fin 5) (corrected : Bool) :
    execCollectorFault part corrected s = .next
      (if (s.injected 0x300 0 0).1.isNone && corrected && decide (3 ≤ part.val) then
        { (s.injected 0x300 0 0).2 with flt.selfCe := satInc 8 (s.injected 0x300 0 0).2.flt.selfCe }
      else ((s.injected 0x300 0 0).2.collectorLatched ((s.injected 0x300 0 0).2.collectorRec
        (if (s.injected 0x300 0 0).1.isSome then 0 else part.val) (s.injected 0x300 0 0).1.isSome)).collectorActs) := by
  unfold execCollectorFault
  rw [if_neg (by simp [hp])]
  rfl

theorem collectorActs_modeStep {s : State} (h : Lawful s) : ModeStep s s.collectorActs := by
  unfold State.collectorActs
  split
  next hm => exact enterSafe_modeStep h hm 6
  split
  · split
    · exact modeStep_of_same h rfl rfl rfl rfl
    · exact modeStep_refl h
  · exact modeStep_refl h

theorem execCollectorFault_modeStep {part : Fin 5} {corrected : Bool} {s t : State} (h : Lawful s)
    (hx : execCollectorFault part corrected s = .next t) : ModeStep s t := by
  cases hp : s.pins.resetN with
  | false =>
    unfold execCollectorFault at hx
    rw [if_pos (by simp [hp])] at hx
    obtain rfl := Host.Outcome.next.inj hx
    exact modeStep_refl h
  | true =>
    rw [execCollectorFault_of_resetN hp] at hx
    obtain rfl := Host.Outcome.next.inj hx
    clear hx
    have hkept : ∀ u : State, u.flt.keel0 = s.flt.keel0 → u.md = s.md → u.pins = s.pins →
        ModeStep s u ∧ ModeStep s u.collectorActs :=
      fun u hk hd hp => ⟨modeStep_of_fields h hk (by rw [hd]) (by rw [hd]) hp,
        modeStep_of_kept hk (collectorActs_modeStep (lawful_of_kept hk hd hp h))⟩
    split
    · exact (hkept _ (by simp) (by simp) (by simp)).1
    · exact (hkept _ (by simp [State.collectorLatched]) (by simp [State.collectorLatched])
        (by simp [State.collectorLatched])).2

/-! ### Every command -/

/-- The row of the command names neither the mode's state, nor its keel register, nor the pins. -/
def noModePart (i : Instr) : Bool :=
  !(parts i).contains .md && !(parts i).contains .keel0 && !(parts i).contains .pins

theorem exec_same {i : Instr} {s t : State} (hx : exec i s = .next t) {p : Safety.Part}
    (hp : (parts i).contains p = false) : p.same s t :=
  (exec_agree hx).same_of_notMem_parts (by simpa using hp)

/-- A command that changes neither the mode's state nor its keel register keeps the law where it keeps RESET_N. -/
theorem modeStep_of_resetN {i : Instr} {s t : State} (h : Lawful s) (hx : exec i s = .next t)
    (hd : (parts i).contains .md = false) (hk : (parts i).contains .keel0 = false)
    (hp : t.pins.resetN = s.pins.resetN) : ModeStep s t := by
  have hmd : t.md = s.md := exec_same hx hd
  exact modeStep_of_same h (State.mode_of_keel0 (exec_same hx hk)) (by rw [hmd]) (by rw [hmd]) hp

theorem modeStep_of_noModePart {i : Instr} {s t : State} (h : Lawful s) (hx : exec i s = .next t)
    (hi : noModePart i = true) : ModeStep s t := by
  simp only [noModePart, Bool.and_eq_true, Bool.not_eq_true'] at hi
  obtain ⟨⟨hd, hk⟩, hp⟩ := hi
  have hpins : t.pins = s.pins := exec_same hx hp
  exact modeStep_of_resetN h hx hd hk (by rw [hpins])

/-- A command that changes neither the mode's keel register nor the pins keeps the law where it keeps the request in
progress and the live host ports. -/
theorem modeStep_of_md {i : Instr} {s t : State} (h : Lawful s) (hx : exec i s = .next t)
    (hk : (parts i).contains .keel0 = false) (hp : (parts i).contains .pins = false)
    (hmd : t.md.req = s.md.req ∧ t.md.hostLive = s.md.hostLive) : ModeStep s t :=
  modeStep_of_fields h (exec_same hx hk) hmd.1 hmd.2 (exec_same hx hp)

/-- Every command but a vote of a keel register keeps the law of the modes. -/
theorem exec_modeStep {i : Instr} {s t : State} (hv : isVote i = false) (h : Lawful s) (hx : exec i s = .next t) :
    ModeStep s t := by
  cases i with
  | keelVote => cases hv
  | resetNFall => exact execResetNFall_modeStep h hx
  | resetNRise => exact execResetNRise_modeStep h hx
  | lossOfPower =>
    obtain rfl := Host.Outcome.next.inj hx
    exact modeStep_of_reset rfl rfl rfl
  | pwrfailNFall => exact execPwrfailNFall_modeStep h hx
  | pwrfailNRise =>
    refine modeStep_of_resetN h hx rfl rfl ?_
    obtain rfl := Host.Outcome.next.inj hx
    rfl
  | hostSelNFall => exact modeStep_of_resetN h hx rfl rfl (execHostSelNFall_resetN hx)
  | hostSelNRise =>
    refine modeStep_of_resetN h hx rfl rfl ?_
    obtain rfl := Host.Outcome.next.inj hx
    rfl
  | tapInstruction =>
    refine modeStep_of_resetN h hx rfl rfl ?_
    obtain rfl := Host.Outcome.next.inj hx
    rfl
  | loopbackSelect => exact modeStep_of_resetN h hx rfl rfl (execLoopbackSelect_resetN hx)
  | ptTestWrite => exact modeStep_of_resetN h hx rfl rfl (execPtTestWrite_resetN hx)
  | prbsLock => exact modeStep_of_resetN h hx rfl rfl (execPrbsLock_resetN hx)
  | deviceResetHoldEnd => exact execDeviceResetHoldEnd_modeStep h hx
  | junctionComparatorTrip => exact execJunctionComparatorTrip_modeStep h hx
  | bootClock => exact execBootClock_modeStep h hx
  | faultRecord => exact execFaultRecord_modeStep h hx
  | collectorFault => exact execCollectorFault_modeStep h hx
  | clockJudgeWindow => exact modeStep_of_md h hx rfl rfl (execClockJudgeWindow_md hx)
  | oscillatorTrim => exact modeStep_of_md h hx rfl rfl (execOscillatorTrim_md hx)
  | bootSelftestDone => exact execBootSelftestDone_modeStep h hx
  | fwFetchStart => exact execFwFetchStart_modeStep h hx
  | fwFetchDone => exact execFwFetchDone_modeStep h hx
  | fwFetchTimeout => exact execFwFetchTimeout_modeStep h hx
  | fwVerifyDone => exact execFwVerifyDone_modeStep h hx
  | roleProofDone => exact execRoleProofDone_modeStep h hx
  | kennelReadbackDone => exact execKennelReadbackDone_modeStep h hx
  | glModeReq => exact execGlModeReq_modeStep h hx
  | glModeReqBoot => exact execGlModeReqBoot_modeStep h hx
  | glReset => exact execGlReset_modeStep h hx
  | glFwLen => exact execGlFwLen_modeStep h hx
  | modeRequest => exact execModeRequest_modeStep h hx
  | modeRequestReset => exact execModeRequestReset_modeStep h hx
  | drainIngressStopped => exact execDrainIngressStopped_modeStep h hx
  | pipelinesGated => exact execPipelinesGated_modeStep h hx
  | drainBufferEmpty => exact execDrainBufferEmpty_modeStep h hx
  | drainFlushTimeout => exact execDrainFlushTimeout_modeStep h hx
  | unparkRampEnd => exact execUnparkRampEnd_modeStep h hx
  | _ => exact modeStep_of_noModePart h hx rfl

end Sys2Proof.Machine

namespace Sys2Proof.Proofs
open Sys2Proof.Machine Sys2Proof.Safety

/-- Settles O50: a step is a nanosecond, which leaves the mode, or the front command, which keeps the law. -/
theorem modesFollowTheTable : Obligations.ModesFollowTheTable := by
  unfold Obligations.ModesFollowTheTable
  intro s t hvote hs hx
  unfold step at hx
  split at hx
  · obtain rfl := Host.Outcome.next.inj hx
    exact modeStep_of_same hs rfl rfl rfl rfl
  next c rest hpend =>
    have hc : isVote c = false := hvote c (by rw [hpend]; rfl)
    exact modeStep_of_kept rfl (exec_modeStep (s := { s with pending := rest }) hc hs hx)

end Sys2Proof.Proofs
end

section
/-! A mode change that is asked for takes place when its condition is met (O10). -/
namespace Sys2Proof.Machine
open Sys2Proof.Safety
open Host (Outcome)

/-! ### MODE_REQUEST -/

theorem ofCode_three : Mode.ofCode 3 = .forward := rfl

theorem ofCode_four : Mode.ofCode 4 = .drain := rfl

/-- MODE_REQUEST to FORWARD where the table and the preconditions let it: the mode moves at once, and the command
completes (R38, R42). -/
theorem execModeRequest_forward {p : HostPort} {n : Fin 64} {c : Cmd} {s t : State}
    (hruns : runs s p n 0x70 [named 8 1 0xF, whole 9 1, whole 12 4] c = true) (htarget : c.argBits 8 1 3 0 = 3)
    (hopt : c.arg 9 1 = 0) (hms : c.arg 12 4 = 0) (hreq : s.md.req = none)
    (hmode : (s.mode = .configure ∧ s.mayForward = true) ∨ s.mode = .drain)
    (hstuck : s.flt.keel0.stuck = false) (hmove : s.moveMode .forward 2 = (true, t)) :
    execModeRequest p n s = .next ((t.complete c .ok 0 0).unparkDone) := by
  refine congrArg (fun u : State => Outcome.next u.unparkDone)
    (State.runCmd_done (s' := t) hruns (by simp [htarget]) rfl ?_)
  obtain ⟨hm, hmay⟩ | hm := hmode
  · simp [htarget, hopt, hms, State.modeBusy, hreq, ofCode_three, hm, modeGo, hmay, hstuck, hmove]
  · simp [htarget, hopt, hms, State.modeBusy, hreq, ofCode_three, hm, modeGo, hstuck, hmove]

/-- MODE_REQUEST to DRAIN in FORWARD begins a request and waits (R38). -/
theorem execModeRequest_drain {p : HostPort} {n : Fin 64} {c : Cmd} {s : State}
    (hruns : runs s p n 0x70 [named 8 1 0xF, whole 9 1, whole 12 4] c = true) (htarget : c.argBits 8 1 3 0 = 4)
    (hopt : c.arg 9 1 = 0) (hms : c.arg 12 4 = 0) (hreq : s.md.req = none) (hstuck : s.flt.keel0.stuck = false)
    (hmode : s.mode = .forward) :
    execModeRequest p n s = .next (({ s with
      md := { s.md with
        req := some { cmd := some c.serial, target := .drain, flushAt := none, linkDown := false } } }).wait c) := by
  have hstart : s.startReq c .drain = { s with md := { s.md with
      req := some { cmd := some c.serial, target := .drain, flushAt := none, linkDown := false } } } := by
    simp [State.startReq, hopt, hms, hmode]
  rw [← hstart]
  refine (congrArg (fun u : State => Outcome.next u.unparkDone)
    (State.runCmd_wait (s' := s.startReq c .drain) hruns (by simp [htarget]) rfl ?_)).trans
    (congrArg Outcome.next (State.unparkDone_of_ne_park ?_))
  · simp [htarget, hopt, hms, State.modeBusy, hreq, ofCode_four, hmode, modeGo, hstuck]
  · have hkeep : ((s.startReq c .drain).wait c).mode = s.mode := State.mode_of_keel0 (by simp)
    simp [hkeep, hmode]

/-! ### The request in progress -/

/-- The end of a request while keel register 0 is not stuck: its target, with PREV and CAUSE, and no request left. -/
theorem State.finishReq_of_free {s : State} {r : ModeReq} (hreq : s.md.req = some r)
    (hstuck : s.flt.keel0.stuck = false) (st : Status) (n : Nat) :
    (s.finishReq st n).mode = r.target ∧ (s.finishReq st n).md.prev = s.mode ∧ (s.finishReq st n).md.cause = 2 ∧
      (s.finishReq st n).md.req = none := by
  obtain ⟨t, ht, hmode, hprev, hcause, hnone, _⟩ := State.moveMode_of_free hstuck r.target 2
  unfold State.finishReq
  simp only [hreq, ht]
  split
  next k _ =>
    have hkeep : (t.completeSer k st n 0).mode = t.mode := State.mode_of_keel0 (by simp)
    simp [hkeep, hmode, hprev, hcause, hnone]
  · exact ⟨hmode, hprev, hcause, hnone⟩

theorem State.reqFrom_eq {s : State} {r : ModeReq} (hreq : s.md.req = some r) (old : Mode) (new : Mode → Bool) :
    s.reqFrom old new = (decide (s.mode = old) && new r.target) := by
  simp [State.reqFrom, hreq]

theorem execDrainIngressStopped_of_req {s : State} {r : ModeReq} (hreq : s.md.req = some r) (hmode : s.mode = .forward)
    (htarget : r.target = .drain) : execDrainIngressStopped s = .next (s.finishReq .ok 0) :=
  congrArg Outcome.next (if_pos (by simp [State.reqFrom_eq hreq, hmode, htarget]))

theorem execPipelinesGated_of_req {s : State} {r : ModeReq} (hreq : s.md.req = some r) (hmode : s.mode = .configure)
    (htarget : r.target = .park) : execPipelinesGated s = .next (s.finishReq .ok 0) :=
  congrArg Outcome.next (if_pos (by simp [State.reqFrom_eq hreq, hmode, htarget]))

theorem execDrainBufferEmpty_of_req {s : State} {r : ModeReq} (hreq : s.md.req = some r) (hmode : s.mode = .drain)
    (hempty : s.bufEmpty = true) : execDrainBufferEmpty s = .next (s.finishReq .ok 0) :=
  congrArg Outcome.next (if_pos (by simp [State.reqFrom_eq hreq, hmode, hempty]))

/-- The flush time has ended: what is buffered is dropped, copies that the drops made too, and the request ends with
the number dropped (R44). -/
theorem execDrainFlushTimeout_of_due {s : State} {r : ModeReq} {due : Nat} (hreq : s.md.req = some r)
    (hflush : r.flushAt = some due) (hdue : due ≤ s.now) (hmode : s.mode = .drain) (hfull : s.bufEmpty = false)
    (pick : Draw) : execDrainFlushTimeout pick s =
      .next (((s.flushAll pick).2.flushAll pick).2.finishReq .partial'
        ((s.flushAll pick).1 + ((s.flushAll pick).2.flushAll pick).1)) := by
  unfold execDrainFlushTimeout
  simp [State.reqFrom_eq hreq, hreq, hflush, hdue, hmode, hfull]

/-! ### GL_MODE_REQ -/

theorem execGlModeReq_forward {v : Word} {s t : State} (htarget : bits v.toNat 3 0 = 3) (hmode : s.mode = .configure)
    (hresult : s.md.reqResult ≠ 1) (hrings : s.ringsRun s.active = false) (hreq : s.md.req = none)
    (hmay : s.mayForward = true) (hmove : s.moveMode .forward 1 = (true, t)) :
    execGlModeReq s.active v s = .next (t.glResult 3 2) := by
  have hserved : s.served = true := by simp [State.served, hmode]
  simp [execGlModeReq, htarget, ofCode_three, hmode, hserved, hresult, hrings, State.modeBusy, hreq, hmay, hmove]

end Sys2Proof.Machine

namespace Sys2Proof.Proofs
open Sys2Proof.Machine Sys2Proof.Safety

/-- Settles O10: a command moves the mode or begins a request, and the request's end moves it. -/
theorem requestedModeChanges : Obligations.RequestedModeChanges := by
  unfold Obligations.RequestedModeChanges
  refine ⟨?_, ?_, ?_, ?_, ?_, ?_, ?_⟩
  · intro p n c s hruns htarget hopt hms hreq hstuck hmode
    obtain ⟨t, ht, hfwd, hprev, hcause, _⟩ := State.moveMode_of_free hstuck .forward 2
    refine ⟨_, execModeRequest_forward hruns htarget hopt hms hreq hmode hstuck ht, ?_⟩
    have hkeep : (t.complete c .ok 0 0).mode = .forward := (State.mode_of_keel0 (by simp)).trans hfwd
    rw [State.unparkDone_of_ne_park (by simp [hkeep])]
    exact ⟨hkeep, by simpa using hprev, by simpa using hcause⟩
  · intro p n c s hruns htarget hopt hms hreq hstuck hmode
    exact execModeRequest_drain hruns htarget hopt hms hreq hstuck hmode
  · intro s r hreq hmode htarget hstuck
    have hend := State.finishReq_of_free hreq hstuck .ok 0
    rw [htarget, hmode] at hend
    exact ⟨_, execDrainIngressStopped_of_req hreq hmode htarget, hend⟩
  · intro s r hreq hmode htarget hstuck
    have hend := State.finishReq_of_free hreq hstuck .ok 0
    rw [htarget, hmode] at hend
    exact ⟨_, execPipelinesGated_of_req hreq hmode htarget, hend⟩
  · intro s r hreq hmode hempty hstuck
    have hend := State.finishReq_of_free hreq hstuck .ok 0
    rw [hmode] at hend
    exact ⟨_, execDrainBufferEmpty_of_req hreq hmode hempty, hend⟩
  · intro s r due pick hreq hflush hdue hmode hfull hstuck
    refine ⟨_, execDrainFlushTimeout_of_due hreq hflush hdue hmode hfull pick, ?_⟩
    have hkeel : ((s.flushAll pick).2.flushAll pick).2.flt.keel0 = s.flt.keel0 := by simp
    have hend := State.finishReq_of_free (s := ((s.flushAll pick).2.flushAll pick).2) (r := r) (by simpa using hreq)
      (by rw [hkeel]; exact hstuck) .partial' ((s.flushAll pick).1 + ((s.flushAll pick).2.flushAll pick).1)
    rwa [State.mode_of_keel0 hkeel, hmode] at hend
  · intro v s htarget hmode hresult hrings hreq hmay hstuck
    obtain ⟨t, ht, hfwd, hprev, hcause, _⟩ := State.moveMode_of_free hstuck .forward 1
    exact ⟨_, execGlModeReq_forward htarget hmode hresult hrings hreq hmay ht, hfwd, hprev.trans hmode, hcause, rfl, rfl⟩

end Sys2Proof.Proofs
end

section
/-! RESET, device resets, SAVE and the loss of power (O11). -/
namespace Sys2Proof.Machine
open Sys2Proof.Safety
open Host (Outcome)

/-! ### RESET -/

theorem lowActs_of_le {acting ns : Nat} (h : acting ≤ ns) (ignored : Nat) (acts : Bool) :
    lowActs ignored acting ns acts = true := by
  simp [lowActs, h]

theorem execResetNFall_of_low {s : State} {ns : Nat} (hp : s.pins.resetN = true) (hns : 1000 ≤ ns) (acts : Bool) :
    execResetNFall ns acts s = .next (({ s with pins.resetN := false }).enterReset 0 false) :=
  congrArg Outcome.next (if_pos (by rw [hp, lowActs_of_le hns]; rfl))

theorem execGlReset_of_guard {s : State} {v : Word} (halive : s.hostAlive = true) (hmode : s.mode ≠ .save)
    (hrst : bit v.toNat 0 = true) (hguard : bits v.toNat 31 16 = 0x5120) :
    execGlReset s.active v s = .next (s.enterReset 3 true) := by
  simp [execGlReset, halive, hmode, hrst, hguard]

/-- MODE_REQUEST is not served in RESET (R48). -/
theorem ne_reset_of_servedIn {op : Nat} {m : Mode} (h : servedIn op m = true) : m ≠ .reset := by
  rintro rfl
  simp [servedIn] at h

theorem execModeRequestReset_of_runs {p : HostPort} {n : Fin 64} {c : Cmd} {s : State}
    (hruns : runs s p n 0x70 [named 8 1 0xF, whole 9 1, whole 12 4] c = true) (htarget : c.argBits 8 1 3 0 = 0)
    (hopt : c.arg 9 1 = 0) (hms : c.arg 12 4 = 0) :
    execModeRequestReset p n s = .next ((s.enterReset 2 true).wait c) :=
  congrArg Outcome.next (State.runCmd_wait hruns (by simp [htarget]) rfl (by simp [hopt, hms]))

/-! ### SAVE -/

theorem State.completeSer_no_cmds {s : State} (h : s.cmds = []) (k : Nat) (st : Status) (a b : Nat) :
    (s.completeSer k st a b).cmds = [] := by
  simp [State.completeSer, State.cmdOf, h]

theorem State.stopLoads_no_cmds {s : State} (h : s.cmds = []) (g : Nat) : (s.stopLoads g).cmds = [] := by
  unfold State.stopLoads
  dsimp only
  (repeat' split) <;> simp [State.completeSer_no_cmds, h]

theorem State.stopCalSwaps_no_cmds {s : State} (h : s.cmds = []) : s.stopCalSwaps.cmds = [] := by
  have hfold : ∀ (l : List CalSwap) (t : State), t.cmds = [] →
      (l.foldl (fun t w => t.completeSer w.cmd .aborted 0 0) t).cmds = [] := by
    intro l
    induction l with
    | nil => exact fun t ht => ht
    | cons w r ih => exact fun t ht => ih _ (State.completeSer_no_cmds ht ..)
  exact hfold _ _ h

/-- A save that begins holds the instant (R481). -/
theorem State.startSave_save (mv flags : Nat) (s : State) :
    ∃ v, (s.startSave mv flags).pwr.save = some v ∧ v.since = s.now := ⟨_, rfl, rfl⟩

/-- What SAVE leaves (R51, R481). -/
theorem State.enterSave_facts (mv : Nat) (s : State) :
    (s.enterSave mv).mode = .save ∧ (s.enterSave mv).md.prev = s.mode ∧ (s.enterSave mv).md.cause = 5 ∧
      (s.enterSave mv).cmds = [] ∧ (s.enterSave mv).pins = s.pins ∧
      ∃ v, (s.enterSave mv).pwr.save = some v ∧ v.since = s.now := by
  refine ⟨State.mode_enterSave mv s, ?_, ?_, ?_, by simp, ?_⟩
  · have hm : (s.startSave mv 0).mode = s.mode := State.mode_of_keel0 (by simp)
    simpa [State.enterSave, State.md_enterMode] using hm
  · simp [State.enterSave, State.md_enterMode]
  · have hc : ∀ u : State, u.stopWear.cmds = u.cmds := fun u => by simp
    rw [State.enterSave, hc]
    exact State.stopCalSwaps_no_cmds (State.stopLoads_no_cmds (State.stopLoads_no_cmds rfl 0) 1)
  · have hp : ∀ u : State, (((u.stopLoads 0).stopLoads 1).stopCalSwaps.stopWear).pwr = u.pwr := fun u => by simp
    rw [State.enterSave, hp]
    exact State.startSave_save mv 0 s

theorem execPwrfailNFall_of_served {s : State} {ns : Nat} (hp : s.pins.pwrfailN = true) (hns : 1000 ≤ ns)
    (hs : s.served = true) (acts : Bool) (mv : BitVec 12) :
    execPwrfailNFall ns acts mv s = .next (({ s with pins.pwrfailN := false }).enterSave mv.toNat) := by
  have hs' : ({ s with pins.pwrfailN := false } : State).served = true := hs
  simp [execPwrfailNFall, hp, lowActs_of_le hns, hs']

theorem execPwrfailNFall_of_safe {s : State} {ns : Nat} (hp : s.pins.pwrfailN = true) (hns : 1000 ≤ ns)
    (hs : s.mode = .safe) (hsave : s.pwr.save = none) (acts : Bool) (mv : BitVec 12) :
    execPwrfailNFall ns acts mv s = .next (({ s with pins.pwrfailN := false }).startSave mv.toNat 2) := by
  have hmode : ({ s with pins.pwrfailN := false } : State).mode = .safe := hs
  simp [execPwrfailNFall, hp, lowActs_of_le hns, State.served, hmode, hsave]

theorem State.saveAreaAt_setSaveArea (i : Nat) (a : SaveArea) (s : State) : (s.setSaveArea i a).saveAreaAt i = a := by
  unfold State.saveAreaAt State.setSaveArea
  split <;> rfl

theorem State.setSaveArea_other (i : Nat) (a : SaveArea) (s : State) :
    (i = 0 → (s.setSaveArea i a).kennel.save1 = s.kennel.save1) ∧
      (i ≠ 0 → (s.setSaveArea i a).kennel.save0 = s.kennel.save0) := by
  unfold State.setSaveArea
  split <;> simp_all

theorem execSaveWriteEnd_of_save {s : State} {v : Saving} (h : s.pwr.save = some v) :
    execSaveWriteEnd s = .next { s.setSaveArea v.area
      { valid := true, seq := le (withCrc v.bytes) 8 4, bytes := withCrc v.bytes } with pwr.save := none } := by
  simp only [execSaveWriteEnd, h]

end Sys2Proof.Machine

namespace Sys2Proof.Proofs
open Sys2Proof.Machine Sys2Proof.Safety

/-- Settles O11, trigger by trigger of the shared entries into RESET and SAVE. -/
theorem resetsAndSaves : Obligations.ResetsAndSaves := by
  unfold Obligations.ResetsAndSaves
  refine ⟨?_, ?_, ?_, ?_, ?_, ?_, ?_, ?_, ?_⟩
  · intro ns acts s hp hns
    exact ⟨_, execResetNFall_of_low hp hns acts, rfl, rfl, rfl, rfl, rfl, rfl, rfl, rfl, rfl⟩
  · intro v s halive hmode hrst hguard
    exact ⟨_, execGlReset_of_guard halive hmode hrst hguard, rfl, rfl, rfl, rfl, rfl, rfl, rfl, rfl, rfl⟩
  · intro p n c s hruns htarget hopt hms
    refine ⟨_, execModeRequestReset_of_runs hruns htarget hopt hms, rfl, rfl, rfl, ?_, rfl, rfl, rfl, rfl, rfl, rfl⟩
    exact if_neg (ne_reset_of_servedIn (runs_served hruns))
  · exact fun _ => rfl
  · intro ns acts mv s hp hns hs
    exact ⟨_, execPwrfailNFall_of_served hp hns hs acts mv,
      State.enterSave_facts mv.toNat { s with pins.pwrfailN := false }⟩
  · intro ns acts mv s hp hns hs hsave
    refine ⟨_, execPwrfailNFall_of_safe hp hns hs hsave acts mv, ?_, by simp, State.startSave_save ..⟩
    exact (State.mode_of_keel0 (by simp)).trans hs
  · exact fun _ => rfl
  · exact fun _ => rfl
  · intro s v hv
    obtain ⟨hsave1, hsave0⟩ := State.setSaveArea_other v.area
      { valid := true, seq := le (withCrc v.bytes) 8 4, bytes := withCrc v.bytes } s
    exact ⟨_, execSaveWriteEnd_of_save hv, rfl, State.saveAreaAt_setSaveArea .., hsave1, hsave0⟩

end Sys2Proof.Proofs
end

section
/-! Host-interface resets, PERST, unpark ramps and the test port (O13). -/
namespace Sys2Proof.Machine
open Sys2Proof.Safety
open Host (Outcome)

/-! ### Commands that write no completion -/

/-- Every fetched command of the port writes no completion (R65). -/
def State.muted (p : HostPort) (s : State) : Prop := ∀ c ∈ s.cmds, c.port = p → c.mute = true

theorem State.muteCmds_muted (p : HostPort) (s : State) : (s.muteCmds p).muted p := by
  intro c hc hp
  obtain ⟨d, _, rfl⟩ := List.mem_map.1 hc
  split at hp
  · simp [*]
  · contradiction

/-- A completion takes its command from those fetched and leaves the others. -/
theorem State.complete_cmds (c : Cmd) (st : Status) (a b : Nat) (s : State) :
    (s.complete c st a b).cmds = (s.dropCmd c).cmds := by
  unfold State.complete
  dsimp only
  (repeat' split) <;> simp

theorem State.completeSer_muted {p : HostPort} {s : State} (h : s.muted p) (k : Nat) (st : Status) (a b : Nat) :
    (s.completeSer k st a b).muted p := by
  unfold State.completeSer
  split
  · intro c hc
    rw [State.complete_cmds] at hc
    exact h c (List.mem_of_mem_filter hc)
  · exact h

/-! ### What a host-interface reset stops -/

/-- The table engine's routine of a command among those named ends. -/
def State.stopJob (own : Nat → Bool) (all : Bool) (s : State) : State :=
  match s.tab.job with
  | .chain c _ made _ _ _ =>
    if own c then ({ s with tab.job := .idle }).completeSer c .partial' 0xFFFFFFFF made else s
  | .shift c _ _ made _ _ =>
    if own c then ({ s with tab.job := .idle }).completeSer c .partial' (Config.freeResult c).toNat made else s
  | .flush c _ _ _ _ next removed =>
    if own c then ({ s with tab.job := .idle }).completeSer c .partial' removed next else s
  | _ => if all then { s with tab.job := .idle } else s

/-- A rolling rehash loses its command where that is among those named. -/
def State.stopMig (own : Nat → Bool) (s : State) : State :=
  match s.tab.mig with
  | some m => match m.cmd with
    | some x =>
      if own x then ({ s with tab.mig := some { m with cmd := none } }).completeSer x .partial' m.cursor m.result1
      else s
    | none => s
  | none => s

theorem State.stopTablesIf_eq (own : Nat → Bool) (all : Bool) (s : State) :
    s.stopTablesIf own all = (s.stopJob own all).stopMig own := rfl

/-- What a stopped command's completion keeps, and is of the halves and the commands alone. -/
structure StopKeeps (P : State → Prop) : Prop where
  complete : ∀ k st a b t, P t → P (State.completeSer k st a b t)
  congr : ∀ t u : State, u.host = t.host → u.cmds = t.cmds → P t → P u

section
variable {P : State → Prop} (hP : StopKeeps P)
include hP

theorem stopTablesIf_of_stopKeeps (own : Nat → Bool) (all : Bool) {s : State} (h : P s) :
    P (s.stopTablesIf own all) := by
  have hjob : P (s.stopJob own all) := by
    have hidle : P { s with tab.job := .idle } := hP.congr s _ rfl rfl h
    have hdone : ∀ k st a b, P (State.completeSer k st a b { s with tab.job := .idle }) :=
      fun k st a b => hP.complete k st a b _ hidle
    unfold State.stopJob
    split
    · exact iteInduction (motive := P) (fun _ => hdone ..) fun _ => h
    · exact iteInduction (motive := P) (fun _ => hdone ..) fun _ => h
    · exact iteInduction (motive := P) (fun _ => hdone ..) fun _ => h
    · exact iteInduction (motive := P) (fun _ => hidle) fun _ => h
  rw [State.stopTablesIf_eq]
  generalize s.stopJob own all = t at hjob
  unfold State.stopMig
  split
  · split
    · split
      · exact hP.complete _ _ _ _ _ (hP.congr t _ rfl rfl hjob)
      · exact hjob
    · exact hjob
  · exact hjob

theorem stopCsOf_of_stopKeeps (own : Nat → Bool) (g : Nat) {s : State} (h : P s) : P (s.stopCsOf own g) := by
  unfold State.stopCsOf
  split
  · split
    · exact hP.complete _ _ _ _ _ (hP.congr s _ (by simp) (by simp) h)
    · exact h
  · exact h

theorem stopTreeOf_of_stopKeeps (own : Nat → Bool) (g : Nat) {s : State} (h : P s) : P (s.stopTreeOf own g) := by
  unfold State.stopTreeOf
  split
  · split
    · exact hP.complete _ _ _ _ _ (hP.congr s _ (by simp) (by simp) h)
    · exact h
  · exact h

end

theorem half_congr {s t : State} (h : t.host = s.host) (q : HostPort) : t.half q = s.half q := by
  cases q <;> simp [State.half, h]

/-- The link facts of a half are kept by what a host-interface reset stops. -/
theorem stopKeeps_linkOf (q : HostPort) (x) : StopKeeps fun t => linkOf (t.half q) = x :=
  ⟨fun k st a b t h => (completeSer_link k st a b q t).trans h, fun t u hh _ h => by rw [half_congr hh q]; exact h⟩

theorem stopKeeps_muted (p : HostPort) : StopKeeps (State.muted p) :=
  ⟨fun k st a b t h => State.completeSer_muted h k st a b, fun t u _ hc h => by simpa only [State.muted, hc] using h⟩

/-- A host-interface reset up to the clearing of the half (R63 to R65). -/
def State.stopPort (p : HostPort) (s : State) : State :=
  let own (c : Nat) : Bool := s.cmds.any fun d => decide (d.serial = c) && decide (d.port = p)
  (((((s.muteCmds p).stopTablesIf own false).stopCsOf own 0).stopTreeOf own 0).stopCsOf own 1).stopTreeOf own 1

theorem State.resetPort_eq (p : HostPort) (s : State) : s.resetPort p = (s.stopPort p).clearHalf p := rfl

theorem stopPort_of_stopKeeps {P : State → Prop} (hP : StopKeeps P) {p : HostPort} {s : State} (h : P (s.muteCmds p)) :
    P (s.stopPort p) := by
  unfold State.stopPort
  exact stopTreeOf_of_stopKeeps hP _ _ (stopCsOf_of_stopKeeps hP _ _ (stopTreeOf_of_stopKeeps hP _ _
    (stopCsOf_of_stopKeeps hP _ _ (stopTablesIf_of_stopKeeps hP _ _ h))))

theorem State.resetPort_muted (p : HostPort) (s : State) : (s.resetPort p).muted p := by
  have h := stopPort_of_stopKeeps (stopKeeps_muted p) (State.muteCmds_muted p s)
  rw [State.resetPort_eq]
  simpa [State.muted, State.clearHalf] using h

theorem State.resetPort_link (p q : HostPort) (s : State) : linkOf ((s.resetPort p).half q) = linkOf (s.half q) := by
  have h := stopPort_of_stopKeeps (stopKeeps_linkOf q (linkOf (s.half q))) (p := p) (s := s) rfl
  rw [State.resetPort_eq, State.clearHalf]
  refine (onHalf_link _ ?_ p q _).trans h
  exact fun _ => rfl

theorem State.resetPort_cleared (p : HostPort) (s : State) :
    ((s.resetPort p).half p).rings = [] ∧ ((s.resetPort p).half p).vec = [] ∧ ((s.resetPort p).half p).msix = [] ∧
      ((s.resetPort p).half p).held = [] := by
  rw [State.resetPort_eq, State.clearHalf, State.onHalf, half_setHalf]
  exact ⟨rfl, rfl, rfl, rfl⟩

theorem execHiIfrstStart_of_own {p : HostPort} {v : Word} {s : State} (hok : s.hiWriteOk p p = true)
    (hstart : bit v.toNat 0 = true) :
    execHiIfrstStart p p v s = .next ((s.onHalf p fun h => { h with busy := true, busyAt := s.now }).resetPort p) :=
  congrArg Outcome.next (if_pos (by rw [hok, hstart]; rfl))

/-! ### PERST -/

/-- What PERST clears of a half's link and configuration space. -/
def wireOf (h : Half) := (h.perst, h.linkUp, h.rate, h.width, h.bme, h.d3hot, h.spdm, h.doe)

theorem wireOf_of_linkOf {h k : Half} (e : linkOf h = linkOf k) : wireOf h = wireOf k := by
  simp only [linkOf, Prod.mk.injEq] at e
  simp [wireOf, e]

theorem onHalf_wire (f : Half → Half) (hf : ∀ h, wireOf (f h) = wireOf h) (p q : HostPort) (s : State) :
    wireOf ((s.onHalf p f).half q) = wireOf (s.half q) := by
  cases p with
  | ha => cases q with
    | ha => exact hf _
    | hb => rfl
  | hb => cases q with
    | ha => rfl
    | hb => exact hf _

/-- A trigger of the active role leaves the links as they are (R121). -/
theorem State.roleChange_wire (cause : Nat) (q : HostPort) (s : State) :
    wireOf ((s.roleChange cause).2.half q) = wireOf (s.half q) := by
  have hkeel : ∀ v, wireOf ((s.keelChange 1 v).2.half q) = wireOf (s.half q) :=
    fun v => congrArg wireOf (half_congr (by simp) q)
  have hend : ∀ (t : State) (a b c d), wireOf (((t.raise a b c d).noteRoom).half q) = wireOf (t.half q) :=
    fun t a b c d => congrArg wireOf (half_congr (by simp) q)
  have hheld : ∀ t : State, wireOf (({ t with
      host.heldBeat := false, host.heldLink := false, host.heldSel := false, host.heldHand := false } : State).half q) =
      wireOf (t.half q) := fun t => by cases q <;> rfl
  unfold State.roleChange
  dsimp only
  split
  · exact hkeel _
  · refine (hend ..).trans ((wireOf_of_linkOf (flushLate_link ..)).trans ((hheld _).trans ?_))
    have hmark : ∀ (p : HostPort) (f : Half → Half) (t : State), (∀ h, wireOf (f h) = wireOf h) →
        wireOf (t.half q) = wireOf (s.half q) → wireOf ((t.onHalf p f).half q) = wireOf (s.half q) :=
      fun p f t hf ht => (onHalf_wire f hf p q t).trans ht
    split
    · exact hmark _ _ _ (fun _ => rfl) (hmark _ _ _ (fun _ => rfl) (hkeel _))
    · exact hmark _ _ _ (fun _ => rfl) (hmark _ _ _ (fun _ => rfl) (hmark _ _ _ (fun _ => rfl) (hkeel _)))

theorem State.noStandby_wire (cause : Nat) (q : HostPort) (s : State) :
    wireOf ((s.noStandby cause).half q) = wireOf (s.half q) := by
  have hr : ∀ a b c d, wireOf ((s.raise a b c d).half q) = wireOf (s.half q) :=
    fun a b c d => congrArg wireOf (half_congr (by simp) q)
  unfold State.noStandby
  dsimp only
  split
  · refine (onHalf_wire _ ?_ _ q _).trans (hr ..)
    exact fun _ => rfl
  · exact hr ..

theorem State.holdTrigger_wire (cause : Nat) (q : HostPort) (s : State) :
    wireOf ((s.holdTrigger cause).half q) = wireOf (s.half q) := by
  unfold State.holdTrigger
  split <;> cases q <;> rfl

theorem State.trigger_wire (cause : Nat) (cond : Bool) (q : HostPort) (s : State) :
    wireOf ((s.trigger cause cond).half q) = wireOf (s.half q) := by
  have hrole := State.roleChange_wire cause q s
  unfold State.trigger
  split
  · split
    next ht => rwa [ht] at hrole
    next ht =>
      rw [ht] at hrole
      exact (State.holdTrigger_wire ..).trans hrole
  split
  · exact State.noStandby_wire ..
  · exact (State.holdTrigger_wire ..).trans (State.noStandby_wire ..)

/-- PERST low for its time takes the port's link and its configuration space down (R578, R579). -/
theorem execPerstFall_wire {p : HostPort} {ns : Nat} {s : State} (hp : (s.half p).perst = false) (hns : 100000 ≤ ns)
    (acts : Bool) : ∃ t, execPerstFall p ns acts s = .next t ∧
      wireOf (t.half p) = (true, false, 0, 0, false, false, Spdm.idle, none) := by
  have hlow : lowActs 0 100000 ns acts = true := by simp [lowActs, hns]
  refine ⟨_, congrArg Outcome.next (if_pos (by rw [hp, hlow]; rfl)), ?_⟩
  dsimp only
  generalize hdown : (s.onHalf p fun h => { h with
    perst := true, linkUp := false, rate := 0, width := 0, bme := false, d3hot := false, spdm := .idle, doe := none }) = u
  have hu : wireOf (u.half p) = (true, false, 0, 0, false, false, Spdm.idle, none) := by
    rw [← hdown, State.onHalf, half_setHalf]
    rfl
  have hreset : wireOf ((if u.hostAlive = true then u.resetPort p else u).half p) = wireOf (u.half p) := by
    split
    · exact wireOf_of_linkOf (State.resetPort_link ..)
    · rfl
  generalize (if u.hostAlive = true then u.resetPort p else u) = w at hreset ⊢
  split
  · exact (State.trigger_wire ..).trans (hreset.trans hu)
  · exact hreset.trans hu

/-! ### The end of an unpark ramp -/

theorem execUnparkRampEnd_of_only {s : State} {r : Ramp} {k : Nat} (hramps : s.pwr.ramps = [r]) (hcmd : r.cmd = some k)
    (hdue : s.rampNs ≤ s.now - r.since) :
    execUnparkRampEnd s = .next (({ s with pwr := { s.pwr with ramps := [] } }).completeSer k .ok
      (if r.isSlice then s.slicePark else s.lanePark r.unit) 0) := by
  have hfirst : (s.pwr.ramps.find? fun r => r.cmd.isNone) = none := by simp [hramps, hcmd]
  have hrest : (s.pwr.ramps.filter fun x => x ≠ r) = [] := by simp [hramps]
  have hfind : (s.pwr.ramps.find? fun x => decide (s.rampNs ≤ s.now - x.since) &&
      (x.cmd.isSome || decide ((none : Option Ramp) = some x))) = some r := by
    simp [hramps, hdue, hcmd]
  simp only [execUnparkRampEnd, hfirst, hfind, hcmd, hrest]
  rfl

/-! ### The test port -/

theorem tapCode_eq (c : Nat) : tapCode c = if c ∈ [0x00, 0x01, 0x04, 0x05, 0x10] then c else 0xFF := by
  simp [tapCode]

end Sys2Proof.Machine

namespace Sys2Proof.Proofs
open Sys2Proof.Machine Sys2Proof.Safety

/-- Settles O13, event by event. -/
theorem interfaceResetsAndPins : Obligations.InterfaceResetsAndPins := by
  unfold Obligations.InterfaceResetsAndPins
  refine ⟨?_, fun p s => rfl, ?_, fun p s => rfl, ?_, ?_⟩
  · intro p v s hok hstart
    refine ⟨_, execHiIfrstStart_of_own hok hstart, ?_⟩
    generalize hbusy : (s.onHalf p fun h => { h with busy := true, busyAt := s.now }) = u
    have hlink : linkOf ((u.resetPort p).half p) = linkOf (u.half p) := State.resetPort_link p p u
    have hhalf : (u.half p).busy = true ∧ (u.half p).busyAt = s.now := by
      rw [← hbusy, State.onHalf, half_setHalf]
      exact ⟨rfl, rfl⟩
    simp only [linkOf, Prod.mk.injEq] at hlink
    obtain ⟨hrings, hvec, hmsix, hheld⟩ := State.resetPort_cleared p u
    exact ⟨by simp [hlink, hhalf], by simp [hlink, hhalf], hrings, hvec, hmsix, hheld, State.resetPort_muted p u⟩
  · intro p ns acts s hp hns
    obtain ⟨t, ht, hwire⟩ := execPerstFall_wire hp hns acts
    simp only [wireOf, Prod.mk.injEq] at hwire
    exact ⟨t, ht, hwire⟩
  · exact fun s r k hramps hcmd hdue => execUnparkRampEnd_of_only hramps hcmd hdue
  · intro reset code s
    have htap : (if reset then 0xFF else tapCode code.toNat) =
        if reset = false ∧ code.toNat ∈ [0x00, 0x01, 0x04, 0x05, 0x10] then code.toNat else 0xFF := by
      cases reset <;> simp [tapCode_eq]
    have hbench : (if reset = false ∧ code.toNat ∈ [0x00, 0x01, 0x04, 0x05, 0x10] then code.toNat else 0xFF) = 0x10 ↔
        reset = false ∧ code.toNat = 0x10 := by
      split <;> simp_all
    show execTapInstruction reset code s = _
    simp only [execTapInstruction, htap, hbench]

end Sys2Proof.Proofs
end

section
/-! SPDM requests are answered in their order through the port's mailbox (O42). -/
namespace Sys2Proof.Machine
open Sys2Proof.Safety
open Host (Outcome)

/-! ### The order of requests -/

theorem State.spdmRun_of_dead {p : HostPort} {s : State} (h : s.spdmLive p = false) (ok : Spdm → Bool)
    (f : State → State) : s.spdmRun p ok f = s := by
  simp [State.spdmRun, h]

theorem State.spdmRun_of_ok {p : HostPort} {s : State} {ok : Spdm → Bool} (h : s.spdmLive p = true)
    (hok : ok (s.half p).spdm = true) (f : State → State) : s.spdmRun p ok f = f s := by
  simp [State.spdmRun, h, hok]

/-- A request out of its order is answered with an ERROR (R129). -/
theorem State.spdmRun_of_unexpected {p : HostPort} {s : State} {ok : Spdm → Bool} (h : s.spdmLive p = true)
    (hok : ok (s.half p).spdm = false) (f : State → State) : s.spdmRun p ok f = s.spdmError p 4 := by
  simp [State.spdmRun, h, hok]

theorem negotiated_eq_true {x : Spdm} (h : x = .negotiated) : negotiated x = true := by simp [negotiated, h]

theorem negotiated_eq_false {x : Spdm} (h : x ≠ .negotiated) : negotiated x = false := by simp [negotiated, h]

/-! ### The mailbox -/

theorem State.half_onHalf (p : HostPort) (f : Half → Half) (s : State) : (s.onHalf p f).half p = f (s.half p) :=
  half_setHalf p _ s

theorem State.half_onHalf_peer (p : HostPort) (f : Half → Half) (s : State) :
    (s.onHalf p f).half p.peer = s.half p.peer :=
  half_setHalf_peer p _ s

/-- A response is what the mailbox then holds, and the connection stays where it is. -/
theorem State.respond_half (p : HostPort) (code : Nat) (data : List Byte) (s : State) :
    ((s.respond p code data).half p).doe = some (code, data) ∧
      ((s.respond p code data).half p).spdm = (s.half p).spdm := by
  rw [State.respond, State.half_onHalf]
  exact ⟨rfl, rfl⟩

theorem State.spdmTo_half (p : HostPort) (x : Spdm) (s : State) : ((s.spdmTo p x).half p).spdm = x := by
  rw [State.spdmTo, State.half_onHalf]

theorem State.spdmTo_respond_half (p : HostPort) (x : Spdm) (code : Nat) (data : List Byte) (s : State) :
    (((s.spdmTo p x).respond p code data).half p).spdm = x ∧
      (((s.spdmTo p x).respond p code data).half p).doe = some (code, data) := by
  obtain ⟨hdoe, hspdm⟩ := State.respond_half p code data (s.spdmTo p x)
  exact ⟨hspdm.trans (State.spdmTo_half p x s), hdoe⟩

/-! ### The secure element -/

theorem State.withElement_of_answer {s : State} (h : s.ref.seFault = false) (p : HostPort) (f : State → State) :
    s.withElement p true f = f s := by
  simp [State.withElement, h]

/-- An element that does not answer is logged, and the response is an ERROR (R548). -/
theorem State.withElement_of_silence {s : State} (h : s.ref.seFault = false) (p : HostPort) (f : State → State) :
    s.withElement p false f = s.seFail.spdmError p 5 := by
  simp [State.withElement, h]

/-! ### Requests after the algorithms -/

/-- An operation other than 0 and 0xFF asks for the block of its index. -/
theorem measOp_ne {op : Byte} (h0 : op ≠ 0) (hall : op ≠ 0xFF) : op.toNat ≠ 0 ∧ op.toNat ≠ 0xFF :=
  ⟨fun h => h0 (BitVec.eq_of_toNat_eq h), fun h => hall (BitVec.eq_of_toNat_eq h)⟩

section
variable {p : HostPort} {s : State} (hlive : s.spdmLive p = true) (hneg : (s.half p).spdm = .negotiated)
include hlive hneg

theorem execSpdmGetDigests_eq (answers : Bool) : execSpdmGetDigests p answers s =
    .next (s.withElement p answers fun s => s.respond p 0x01 (1 :: chainDigest)) :=
  congrArg Outcome.next (State.spdmRun_of_ok hlive (negotiated_eq_true hneg) _)

theorem execSpdmGetCertificate_eq (hse : s.ref.seFault = false) (sl : Fin 8) (off len : BitVec 16) (part : List Byte)
    (hpart : part = (Config.certChain.drop off.toNat).take (satTo certRoom len.toNat)) :
    execSpdmGetCertificate p sl off len true s = .next (
      if sl.val ≠ 0 ∨ Config.certChain.length ≤ off.toNat then s.spdmError p 1
      else s.respond p 0x02
        (toLE 2 part.length ++ toLE 2 (Config.certChain.length - off.toNat - part.length) ++ part)) := by
  subst hpart
  refine congrArg Outcome.next ((State.spdmRun_of_ok hlive (negotiated_eq_true hneg) _).trans ?_)
  dsimp only
  rw [State.withElement_of_answer hse]

theorem execSpdmChallenge_of_slot0 (hse : s.ref.seFault = false) (n : List Byte) :
    execSpdmChallenge p 0 n true s =
      .next (({ s with serial := s.serial + 1 }).respond p 0x03
        ((chainDigest ++ cut (Config.nonce s.serial) 0 32) ++
          Config.sign (n ++ (chainDigest ++ cut (Config.nonce s.serial) 0 32)))) := by
  refine congrArg Outcome.next ((State.spdmRun_of_ok hlive (negotiated_eq_true hneg) _).trans ?_)
  exact (if_neg (by simp)).trans (State.withElement_of_answer hse p _)

/-- Slot 0 alone is served. -/
theorem execSpdmChallenge_of_other_slot {sl : Fin 8} (h : sl ≠ 0) (n : List Byte) (answers : Bool) :
    execSpdmChallenge p sl n answers s = .next (s.spdmError p 1) := by
  refine congrArg Outcome.next ((State.spdmRun_of_ok hlive (negotiated_eq_true hneg) _).trans (if_pos ?_))
  exact fun h0 => h (Fin.ext h0)

theorem execSpdmGetMeasurements_of_block {op : Byte} {x : List Byte} (h0 : op ≠ 0) (hall : op ≠ 0xFF)
    (hblock : s.measBlock op.toNat = some x) (n : List Byte) (answers : Bool) :
    execSpdmGetMeasurements p op false n answers s = .next (({ s with serial := s.serial + 1 }).respond p 0x60
      ([1] ++ toLE 3 (measEntry op.toNat x).length ++ measEntry op.toNat x ++ cut (Config.nonce s.serial) 0 32)) := by
  obtain ⟨hne0, hneAll⟩ := measOp_ne h0 hall
  refine congrArg Outcome.next ((State.spdmRun_of_ok hlive (negotiated_eq_true hneg) _).trans ?_)
  simp [hne0, hneAll, hblock, State.nonce]

theorem execSpdmGetMeasurements_of_absent {op : Byte} (h0 : op ≠ 0) (hall : op ≠ 0xFF)
    (hblock : s.measBlock op.toNat = none) (sign : Bool) (n : List Byte) (answers : Bool) :
    execSpdmGetMeasurements p op sign n answers s = .next (s.spdmError p 1) := by
  obtain ⟨hne0, hneAll⟩ := measOp_ne h0 hall
  refine congrArg Outcome.next ((State.spdmRun_of_ok hlive (negotiated_eq_true hneg) _).trans ?_)
  simp [hne0, hneAll, hblock]

end

theorem execDoeAbort_of_live {p : HostPort} {s : State} (h : s.spdmLive p = true) :
    execDoeAbort p s = .next (s.onHalf p fun h => { h with doe := none }) :=
  congrArg Outcome.next (if_pos h)

end Sys2Proof.Machine

namespace Sys2Proof.Proofs
open Sys2Proof.Machine Sys2Proof.Safety
open Host (Outcome)

/-- Settles O42, request by request of what the connection's step lets it answer. -/
theorem spdmIsAnswered : Obligations.SpdmIsAnswered := by
  unfold Obligations.SpdmIsAnswered
  refine ⟨?_, ?_, ?_, ?_, ?_, ?_, ?_, ?_, ?_, ?_, ?_, ?_⟩
  · intro p s hdead
    have hrun : ∀ ok f, Outcome.next (φ := Fault) (ρ := Refusal) (s.spdmRun p ok f) = .next s :=
      fun ok f => congrArg Outcome.next (State.spdmRun_of_dead hdead ok f)
    refine ⟨hrun .., hrun .., fun o => hrun .., fun a => hrun .., fun sl a b o => hrun .., fun sl n a => hrun ..,
      fun op g n a => hrun .., congrArg Outcome.next (if_neg (by simp [hdead]))⟩
  · intro p s hlive
    exact ⟨_, congrArg Outcome.next (State.spdmRun_of_ok hlive rfl _), State.spdmTo_respond_half ..⟩
  · intro p s hlive hidle
    exact ⟨_, congrArg Outcome.next (State.spdmRun_of_ok hlive (by simp [hidle]) _), State.spdmTo_respond_half ..⟩
  · intro p o s hlive hstep
    refine ⟨_, congrArg Outcome.next (State.spdmRun_of_ok hlive (by simpa using hstep) _), fun ho => ?_, fun ho => ?_⟩
    · rw [if_pos ho]
      exact State.spdmTo_respond_half ..
    · rw [if_neg (by simp [ho])]
      exact (State.respond_half ..).symm
  · intro p s hlive hneg
    have hrun : ∀ f, Outcome.next (φ := Fault) (ρ := Refusal) (s.spdmRun p negotiated f) = .next (s.spdmError p 4) :=
      fun f => congrArg Outcome.next (State.spdmRun_of_unexpected hlive (negotiated_eq_false hneg) f)
    exact ⟨fun a => hrun _, fun sl a b o => hrun _, fun sl n a => hrun _, fun op g n a => hrun _⟩
  · intro p s hlive hneg hse
    refine ⟨(execSpdmGetDigests_eq hlive hneg true).trans ?_, (execSpdmGetDigests_eq hlive hneg false).trans ?_⟩
    · rw [State.withElement_of_answer hse]
    · rw [State.withElement_of_silence hse]
  · intro p sl off len part s hlive hneg hse hpart
    exact execSpdmGetCertificate_eq hlive hneg hse sl off len part hpart
  · intro p n b s hlive hneg hse hb
    subst hb
    exact execSpdmChallenge_of_slot0 hlive hneg hse n
  · intro p sl n a s hlive hneg hsl
    exact execSpdmChallenge_of_other_slot hlive hneg hsl n a
  · intro p op x n s hlive hneg h0 hall hblock
    exact execSpdmGetMeasurements_of_block hlive hneg h0 hall hblock n true
  · intro p op g n a s hlive hneg h0 hall hblock
    exact execSpdmGetMeasurements_of_absent hlive hneg h0 hall hblock g n a
  · intro p s hlive
    refine ⟨_, execDoeAbort_of_live hlive, ?_, ?_, State.half_onHalf_peer ..⟩
    · rw [State.half_onHalf]
    · rw [State.half_onHalf]

end Sys2Proof.Proofs
end

section
/-! BOOT from the rise of RESET_N to its last phase (O12). -/
namespace Sys2Proof.Machine
open Sys2Proof.Safety
open Host (Outcome)

/-! ### Entry into BOOT -/

/-- The strap names the preferred and the active host port (R591). -/
theorem State.enterBoot_facts (s : State) :
    s.enterBoot.mode = .boot ∧ s.enterBoot.md.phase = .clocks ∧ s.enterBoot.md.bootAt = s.now ∧
      s.enterBoot.md.resetAt = none ∧ s.enterBoot.pins = s.pins ∧
      s.enterBoot.preferred = (if bit s.strapPref 0 then .hb else .ha) ∧
      s.enterBoot.active = (if bit (s.strapPref * 4) 2 then .hb else .ha) :=
  ⟨s.mode_enterBoot, rfl, rfl, rfl, rfl, rfl, rfl⟩

/-- A shift by two places takes bit 0 to bit 2. -/
theorem bit_mul_four (v : Nat) : bit (v * 4) 2 = bit v 0 := by
  rw [bit, bit, show v * 4 = 2 ^ 2 * v by omega, Nat.testBit_two_pow_mul]
  rfl

theorem State.enterBoot_active (s : State) : s.enterBoot.active = s.enterBoot.preferred := by
  obtain ⟨-, -, -, -, -, hpref, hact⟩ := s.enterBoot_facts
  rw [hact, hpref, bit_mul_four]

/-- The strap latched with RESET_N: ten strap bits, and the preferred port above them. -/
theorem bits_strap (strap : BitVec 10) (b : Bool) : bits (strap.toNat + b2n b * 1024) 10 10 = b2n b := by
  have h := strap.isLt
  have hsum : strap.toNat + b2n b * 1024 = strap.toNat + 2 ^ 10 * b2n b := by omega
  have hb : b2n b < 2 := by cases b <;> decide
  rw [bits, hsum, Nat.shiftRight_eq_div_pow, Nat.add_mul_div_left _ _ (by decide), Nat.div_eq_of_lt h, Nat.zero_add]
  exact Nat.mod_eq_of_lt hb

theorem execResetNRise_of_low {s : State} (h : s.pins.resetN = false) (hostPref : Bool) (strap : BitVec 10) :
    execResetNRise hostPref strap s = .next ({ s with
      pins.resetN := true, pins.bench := [], pins.strap := strap.toNat + b2n hostPref * 1024 }).enterBoot :=
  congrArg Outcome.next (if_neg (by simp [h]))

theorem execDeviceResetHoldEnd_of_held {s : State} {at' : Nat} (hp : s.pins.resetN = true) (hm : s.mode = .reset)
    (hat : s.md.resetAt = some at') (hle : at' + 1000000 ≤ s.now) : execDeviceResetHoldEnd s = .next s.enterBoot := by
  have hel : s.elapsed s.md.resetAt 1000000 = true := by
    rw [hat]
    exact decide_eq_true (by omega)
  exact congrArg Outcome.next (if_pos (by simp [hp, hm, hel]))

/-! ### The self-test and the image -/

theorem execBootSelftestDone_ref {s t : State} (hm : s.mode = .boot) (hph : s.md.phase = .selftest)
    {memA katA memB katB : Bool} (hx : execBootSelftestDone memA katA memB katB s = .next t) :
    t.md.phase = .waitFw ∧ t.ref.a = s.ref.a.tested memA katA ∧ t.ref.b = s.ref.b.tested memB katB := by
  obtain rfl := Host.Outcome.next.inj hx
  clear hx
  rw [if_pos ⟨hm, hph⟩]
  simp

theorem State.fwVerified_phase (digest : List Byte) (version : Nat) (s : State) :
    (s.fwVerified digest version).md.phase = .roleProof := rfl

/-- The image's digest is measurement block 1 (R549). -/
theorem State.fwVerified_meas {digest : List Byte} (h : digest ≠ []) (version : Nat) (s : State) :
    (s.fwVerified digest version).ref.meas.get [] 1 = digest := by
  have hmeas : (s.fwVerified digest version).ref.meas = s.ref.meas.set [] 1 digest := rfl
  rw [hmeas, SMap.set, if_neg h]
  exact SMap.get_put_self ..

/-! ### The roles and the kennel -/

theorem State.rolesProved_both (s : State) :
    (s.rolesProved true true).md.phase = .kennel ∧ (s.rolesProved true true).md.collieAOk = true ∧
      (s.rolesProved true true).md.collieBOk = true ∧ (s.rolesProved true true).ref.a.state = .active ∧
      (s.rolesProved true true).ref.b.state = .standby ∧
      (s.rolesProved true true).flt.keel1.voted = s.rolesWithCollie .a :=
  ⟨rfl, rfl, rfl, rfl, rfl, rfl⟩

theorem bit_rolesWithCollie_a (s : State) : bit (s.rolesWithCollie .a) 0 = false := by
  have hlow : (s.rolesWithCollie .a) % 2 = 0 := by
    simp only [State.rolesWithCollie, setBits, bits, sideNum, Nat.shiftRight_zero]
    omega
  simp [bit, hlow]

/-- Both Collies, loading, pass the role proof: A takes the active role and B stands by (R60). -/
theorem execRoleProofDone_both {s : State} (hm : s.mode = .boot) (hph : s.md.phase = .roleProof)
    (ha : s.ref.a.state = .loading) (hb : s.ref.b.state = .loading) :
    execRoleProofDone true true s = .next ((s.rolesProved true true).roleReports true true true true s) := by
  rw [execRoleProofDone_of_roleProof hm hph, ha, hb]
  rfl

theorem execKennelReadbackDone_of_kennel {s : State} (hm : s.mode = .boot) (hph : s.md.phase = .kennel)
    (errs : List (BitVec 20 × Bool)) (element : Bool) :
    execKennelReadbackDone errs element s =
      .next (((((errs.foldl (fun t e => t.kennelCheck e.1.toNat e.2) s).wearMissing 0).wearMissing 1).loadWear.elementReady
        element).bootReady) :=
  congrArg Outcome.next (if_pos ⟨hm, hph⟩)

/-- BOOT ends with RESULT 1 when both Collies passed the role proof, and 2 when one did (R57). -/
theorem State.bootReady_md (s : State) :
    s.bootReady.md.phase = .done ∧ s.bootReady.md.bootResult = if s.md.collieAOk && s.md.collieBOk then 1 else 2 :=
  ⟨rfl, rfl⟩

/-! ### Failures, and BOOT asked for again -/

/-- A failed load: RESET with the host ports live (R62). -/
theorem State.fwFail_facts (n : Nat) (s : State) :
    (s.fwFail n).mode = .reset ∧ (s.fwFail n).md.hostLive = true ∧ (s.fwFail n).md.cause = 4 ∧
      (s.fwFail n).md.bootResult = n :=
  ⟨s.mode_fwFail n, rfl, rfl, rfl⟩

theorem execFwFetchStart_of_asked {s : State} (hm : s.mode = .boot) (hph : s.md.phase = .waitFw)
    (hask : s.md.fwAsked = true) (hw : s.canWrite s.active = true) :
    execFwFetchStart s = .next (if imageOk (s.rd64 0x20) (s.rd 0x28) then
      { s with md := { s.md with phase := .fwFetch, fwStarted := true } } else s.fwFail 5) :=
  congrArg Outcome.next (if_pos ⟨hm, hph, hask, hw⟩)

theorem execFwFetchDone_of_fetch {s : State} (hm : s.mode = .boot) (hph : s.md.phase = .fwFetch) (ok : Bool) :
    execFwFetchDone ok s = .next (if ok then { s with md := { s.md with phase := .fwVerify } } else s.fwFail 4) :=
  congrArg Outcome.next (if_pos ⟨hm, hph⟩)

/-- The load has 10 ms from the last length written, or from the self-test (R62). -/
theorem execFwFetchTimeout_of_late {s : State} (hm : s.mode = .boot) (hask : s.md.fwAsked = true)
    (hph : s.md.phase = .waitFw ∨ s.md.phase = .fwFetch ∨ s.md.phase = .fwVerify)
    (hw : s.md.fwWriteAt + 10000000 ≤ s.now) (hs : s.md.selftestAt + 10000000 ≤ s.now) :
    execFwFetchTimeout s = .next (s.fwFail 4) := by
  have hcode : 2 ≤ s.md.phase.code ∧ s.md.phase.code ≤ 4 := by
    rcases hph with h | h | h <;> rw [h] <;> decide
  have hsince : (if s.md.fwWriteAt < s.md.selftestAt then s.md.selftestAt else s.md.fwWriteAt) + 10000000 ≤ s.now := by
    split <;> assumption
  exact congrArg Outcome.next (if_pos ⟨hm, hask, hcode.1, hcode.2, hsince⟩)

theorem execGlModeReqBoot_of_live {s : State} {v : Word} (hm : s.mode = .reset) (hl : s.md.hostLive = true)
    (hv : bits v.toNat 3 0 = 1) : execGlModeReqBoot s.active v s = .next (s.resumeBoot.glResult 1 2) :=
  congrArg Outcome.next (if_pos (by simp [hm, hl, hv]))

theorem execGlFwLen_of_boot {s : State} {v : Word} (h : s.fwWrites s.active = true) (hm : s.mode = .boot) (hv : v ≠ 0) :
    execGlFwLen s.active v s =
      .next { s.setReg 0x28 v with md := { s.md with fwAsked := true, fwWriteAt := s.now } } :=
  congrArg Outcome.next ((if_pos h).trans (if_pos ⟨hm, hv⟩))

end Sys2Proof.Machine

namespace Sys2Proof.Proofs
open Sys2Proof.Machine
open Sys2Proof.Safety
open Host (Outcome)

/-- Settles O12, phase by phase; each failure is `State.fwFail` with its result. -/
theorem bootRunsPhaseByPhase : Obligations.BootRunsPhaseByPhase := by
  unfold Obligations.BootRunsPhaseByPhase
  refine ⟨?_, ?_, ?_, ?_, ?_, ?_, ?_, ?_, ?_, ?_, ?_⟩
  · intro hostPref strap s hlow
    obtain ⟨hmode, hphase, hat, -, hpins, hpref, -⟩ := State.enterBoot_facts { s with
      pins.resetN := true, pins.bench := [], pins.strap := strap.toNat + b2n hostPref * 1024 }
    refine ⟨_, execResetNRise_of_low hlow hostPref strap, hmode, hphase, hat, by rw [hpins], ?_,
      State.enterBoot_active _⟩
    rw [hpref, State.strapPref, bits_strap]
    cases hostPref <;> rfl
  · intro s at' hp hm hat hle
    obtain ⟨hmode, hphase, hbat, hres, -, -, -⟩ := s.enterBoot_facts
    exact ⟨_, execDeviceResetHoldEnd_of_held hp hm hat hle, hmode, hphase, hbat, hres, s.enterBoot_active⟩
  · intro memA katA memB katB s hm hph
    obtain ⟨hphase, ha, hb⟩ := execBootSelftestDone_ref (memA := memA) (katA := katA) (memB := memB) (katB := katB)
      hm hph rfl
    exact ⟨_, rfl, hphase, by rw [ha]; rfl, by rw [ha]; rfl, by rw [hb]; rfl, by rw [hb]; rfl⟩
  · intro s hm hph hask hw himg
    exact (execFwFetchStart_of_asked hm hph hask hw).trans (congrArg _ (if_pos himg))
  · intro s hm hph
    exact execFwFetchDone_of_fetch hm hph true
  · intro image version s hm hph hdig
    refine ⟨_, execFwVerifyDone_of_good hm hph image version, ?_, ?_⟩
    · simpa using State.fwVerified_phase (sha384 image) version.toNat s
    · simpa using State.fwVerified_meas hdig version.toNat s
  · intro s hm hph ha hb
    obtain ⟨hphase, hokA, hokB, hstA, hstB, hvoted⟩ := s.rolesProved_both
    refine ⟨_, execRoleProofDone_both hm hph ha hb, ?_, ?_, ?_, ?_, ?_, ?_⟩
    · simpa using hphase
    · simpa using hokA
    · simpa using hokB
    · simp [State.activeCollie, hvoted, bit_rolesWithCollie_a]
    · simpa using hstA
    · simpa using hstB
  · intro errs s hm hph
    refine ⟨_, execKennelReadbackDone_of_kennel hm hph errs true, (State.bootReady_md _).1, ?_⟩
    rw [(State.bootReady_md _).2]
    simp
  · rintro i s hm (⟨rfl, hph, hask, hw, himg⟩ | ⟨rfl, hph⟩ | ⟨image, version, rfl, hph⟩ |
      ⟨rfl, hask, hph, hw, hs⟩)
    · exact ⟨_, (execFwFetchStart_of_asked hm hph hask hw).trans (congrArg _ (if_neg (by simp [himg]))),
        s.fwFail_facts 5⟩
    · exact ⟨_, execFwFetchDone_of_fetch hm hph false, s.fwFail_facts 4⟩
    · exact ⟨_, execFwVerifyDone_of_bad hm hph image version, s.fwFail_facts 3⟩
    · exact ⟨_, execFwFetchTimeout_of_late hm hask hph hw hs, s.fwFail_facts 4⟩
  · intro v s hm hl hv
    exact ⟨_, execGlModeReqBoot_of_live hm hl hv, State.mode_resumeBoot s, rfl, rfl, rfl, rfl, rfl⟩
  · intro v s h hm hv
    exact execGlFwLen_of_boot h hm hv

end Sys2Proof.Proofs
end

section
/-! Clocks are judged window by window, and the oscillator trims itself (O20). -/
namespace Sys2Proof.Machine
open Sys2Proof.Safety
open Host (Outcome)

/-! ### The judge -/

/-- A judge that is not stable counts the passing windows up to the 63rd. -/
theorem Judge.repeat_pass : ∀ k ≤ 63,
    Nat.repeat (Judge.step true) k Judge.zero = { stable := false, pass := k, fail := 0 }
  | 0, _ => rfl
  | k + 1, h => by
    rw [Nat.repeat, Judge.repeat_pass k (by omega)]
    simp [Judge.step, show k < 63 by omega]

/-- The 64th passing window makes the judge stable. -/
theorem Judge.repeat_pass_64 : (Nat.repeat (Judge.step true) 64 Judge.zero).stable = true := by
  rw [Nat.repeat, Judge.repeat_pass 63 le_rfl]
  rfl

/-- A stable judge with no failing window yet counts three of them. -/
theorem Judge.repeat_fail_three {j : Judge} (h : j.stable = true) (hf : j.fail = 0) :
    Nat.repeat (Judge.step false) 3 j = { j with fail := 3 } := by
  simp [Nat.repeat, Judge.step, h, hf]

theorem Judge.step_false_of_three {j : Judge} (h : j.stable = true) (hf : 3 ≤ j.fail) : j.step false = Judge.zero := by
  simp [Judge.step, h, Nat.not_lt.2 hf]

/-! ### A judging window -/

/-- A window with the monitors running: the judge steps, and a change of its verdict acts. -/
theorem execClockJudgeWindow_of_runs {i : Fin 32} {m : Nat} {s : State} (hn : s.nominal2 i = some m)
    (hr : s.clocksRun = true) (count : Nat) (pick : Draw) :
    execClockJudgeWindow i count pick s = .next (((s.judged i count (windowPasses m count)
      ((s.judge i).step (windowPasses m count))).judgeChange i pick (s.judge i).stable
        ((s.judge i).step (windowPasses m count)).stable).pickRef.clocksDone.noteHealth s) := by
  unfold execClockJudgeWindow
  simp only [hn, hr, Bool.not_true, Bool.false_eq_true, if_false]

theorem State.judgeChange_self (i : Nat) (pick : Draw) (b : Bool) (s : State) : s.judgeChange i pick b b = s := by
  cases b <;> rfl

theorem State.judgeChange_lost (i : Nat) (pick : Draw) (s : State) :
    s.judgeChange i pick true false = s.clockLost i pick := rfl

/-- A harp's clock lost is logged, and starts the harp's ports again (R494). -/
theorem State.clockLost_harp {i : Nat} (h : 16 ≤ i) (pick : Draw) (s : State) :
    s.clockLost i pick = (s.clkRec 7 i).harpLost (i - 16) pick := by
  simp only [State.clockLost, show ¬ i < 2 by omega, show ¬ i < 5 by omega, show ¬ i < 7 by omega,
    show ¬ i < 9 by omega, show ¬ i < 11 by omega, if_false]

theorem State.nominal2_harp (i : Fin 32) (h : 16 ≤ i.val) (s : State) : s.nominal2 i = some 1062500 := by
  have hlt := i.isLt
  simp only [State.nominal2, show ¬ i.val < 2 by omega, show ¬ i.val = 2 by omega, show ¬ i.val = 3 by omega,
    show ¬ i.val = 4 by omega, show ¬ i.val < 7 by omega, show ¬ i.val < 11 by omega, h, hlt, and_self, if_true, if_false]

/-- The choice of the system reference touches no judge, no trim code and no pipeline clock. -/
theorem State.pickRef_clk (s : State) :
    s.pickRef.clk.judge = s.clk.judge ∧ s.pickRef.clk.trimCode = s.clk.trimCode ∧
      s.pickRef.clk.pipeCur = s.clk.pipeCur := by
  unfold State.pickRef
  split <;> exact ⟨rfl, rfl, rfl⟩

theorem State.judge_judged {s : State} (hwf : s.clk.judge.wf (fun _ => Judge.zero) = true) (i count : Nat) (pass : Bool)
    (k : Judge) : (s.judged i count pass k).judge i = k :=
  SMap.get_set_self hwf Judge.zero i k

/-! ### The oscillator's trim -/

/-- One measurement outside the first judging moves the code by at most one step (R496). -/
theorem trimMove_false_near {code : Nat} (h : code ≤ 4095) (err : Int) :
    trimMove code err false ≤ code + 1 ∧ code ≤ trimMove code err false + 1 := by
  unfold trimMove
  simp only [Bool.false_eq_true, if_false]
  split_ifs <;> omega

theorem trimMove_le (code : Nat) (err : Int) (wholly : Bool) : trimMove code err wholly ≤ 4095 := by
  unfold trimMove
  dsimp only
  split_ifs <;> omega

theorem State.clocksDone_of_ne_boot {s : State} (h : s.mode ≠ .boot) : s.clocksDone = s := if_neg fun hc => h hc.1

/-- The clocks' part after a usable measurement (R496). -/
def ClockSt.trimmed (code : Nat) (err : Int) (good : Nat) (c : ClockSt) : ClockSt :=
  { c with
    trimCode := code, trimErr := sat12 err, trimLocked := decide (err.natAbs ≤ 100), trimGood := good,
    trimLost := false }

theorem execOscillatorTrim_clk {s t : State} {err : Int} (hm : s.mode ≠ .boot) (hr : s.clocksRun = true)
    (hu : s.trimUsable = true) (hx : execOscillatorTrim err true s = .next t) :
    ∃ good, t.clk = ClockSt.trimmed (trimMove s.clk.trimCode err false) err good s.clk := by
  obtain rfl := Host.Outcome.next.inj hx
  clear hx
  have hw : (decide (s.mode = .boot) && decide (s.now ≤ s.md.bootAt + 220000)) = false := by simp [hm]
  rw [if_neg (by simp [hr, hu])]
  dsimp only
  rw [hw]
  refine ⟨if bits (s.rd 0x5000C) 1 0 = 1 then s.clk.trimGood else s.now, ?_⟩
  split <;> simp [ClockSt.trimmed]

theorem execTrimSrcLost_of_late {s : State} (hr : s.clocksRun = true) (hl : s.clk.trimLost = false)
    (hg : s.clk.trimGood + 10000000 ≤ s.now) (hb : s.md.bootAt + 10000000 ≤ s.now) :
    execTrimSrcLost s =
      .next (({ s with clk := { s.clk with trimLost := true, trimLocked := false } }).clkRec 9 Config.oscillator) :=
  congrArg Outcome.next (if_pos (by simp [hr, hl, hg, hb]))

/-- A required clock that is not stable 20 ms into BOOT is fatal (R495). -/
theorem execBootClock_of_missing {s : State} {i : Nat} {rest : List Nat} (hmiss : s.clocksMissing = i :: rest)
    (hm : s.mode = .boot) (hph : s.md.phase = .clocks) (hat : s.md.bootAt + 20000000 ≤ s.now) :
    execBootClock s = .next (({ s with md.bootResult := 6 }).fatalNow 0x500 0xB (clkDetail i)) := by
  unfold execBootClock
  rw [hmiss]
  exact congrArg Outcome.next (if_pos ⟨hm, hph, hat⟩)

theorem execClkPipeWrite_of_target {s : State} (h : s.served = true) {v : Word} (h8 : 8 ≤ bits v.toNat 4 0)
    (h16 : bits v.toNat 4 0 ≤ 16) :
    execClkPipeWrite s.active v s = .next ((s.wr 0x50008 (setBits (s.rd 0x50008) 4 0 (bits v.toNat 4 0))).capDone) :=
  congrArg Outcome.next (if_pos (by simp [takesRw_active s h, h8, h16]))

end Sys2Proof.Machine

namespace Sys2Proof.Proofs
open Sys2Proof.Machine
open Sys2Proof.Safety
open Host (Outcome)

/-- Settles O20: the judge by its count of windows, the trim by the bound on one move of its code. -/
theorem clocksAreJudgedAndTrimmed : Obligations.ClocksAreJudgedAndTrimmed := by
  unfold Obligations.ClocksAreJudgedAndTrimmed
  refine ⟨⟨Judge.repeat_pass_64, ?_, ?_⟩, ?_, ?_, ?_, ?_, ?_, ?_⟩
  · intro k hk
    rw [Judge.repeat_pass k (by omega)]
  · intro j hst hf
    refine ⟨by rw [Judge.repeat_fail_three hst hf]; exact hst, ?_⟩
    rw [Nat.repeat, Judge.repeat_fail_three hst hf, Judge.step_false_of_three (by exact hst) le_rfl]
    rfl
  · intro i count pick m s hn hr hwf hsame
    refine ⟨_, execClockJudgeWindow_of_runs hn hr count pick, ?_⟩
    rw [hsame, State.judgeChange_self]
    have hclk : ∀ u : State, (u.clocksDone.noteHealth s).clk = u.clk := fun u => by simp
    obtain ⟨hj, hc, hp⟩ :=
      (s.judged i count (windowPasses m count) ((s.judge i).step (windowPasses m count))).pickRef_clk
    refine ⟨?_, by rw [hclk, hc]; rfl, by rw [hclk, hp]; rfl⟩
    rw [State.judge, hclk, hj]
    exact State.judge_judged hwf ..
  · intro i count pick s hi hr hfail hst hthree
    have hstep : (s.judge i).step (windowPasses 1062500 count) = Judge.zero := by
      rw [hfail]
      exact Judge.step_false_of_three hst hthree
    refine (execClockJudgeWindow_of_runs (s.nominal2_harp i hi) hr count pick).trans ?_
    rw [hstep, hst, hfail, show Judge.zero.stable = false from rfl, State.judgeChange_lost, State.clockLost_harp hi]
  · intro i rest s hmiss hm hph hat hp hfrozen
    obtain ⟨hmode, hres, -⟩ := fatalNow_facts 0x500 0xB (clkDetail i) { s with md.bootResult := 6 }
      (by rw [show State.mode { s with md.bootResult := 6 } = .boot from hm]; rfl) hp hfrozen
    exact ⟨_, execBootClock_of_missing hmiss hm hph hat, hmode, hres⟩
  · intro err s hm hr hu
    obtain ⟨good, hclk⟩ := execOscillatorTrim_clk hm hr hu rfl
    refine ⟨_, rfl, ?_⟩
    rw [hclk]
    exact ⟨rfl, rfl, rfl, trimMove_le .., fun h => trimMove_false_near h err⟩
  · intro s hr hl hg hb
    exact execTrimSrcLost_of_late hr hl hg hb
  · intro v s h h8 h16
    exact execClkPipeWrite_of_target h h8 h16

end Sys2Proof.Proofs
end

section
/-! Reports become records, fatal ones enter SAFE, and the host clears what it has read (O25). -/
namespace Sys2Proof.Machine
open Sys2Proof.Safety
open Host (Outcome)

/-! ### The collector's state apart from its counts -/

/-- The collector's state with its counts by source and class left out. -/
def FaultSt.uncounted (f : FaultSt) : FaultSt := { f with srcCnt := [], classCe := 0, classUc := 0, classFt := 0 }

/-- The collector frozen: no report is pending or waits behind another, and no injection is armed (R514). -/
def FaultSt.froze (f : FaultSt) : FaultSt := { f with frozen := true, pend := [], follow := [], inj := [] }

/-- A report raised while the collector is frozen is only counted (R514). -/
theorem State.raiseX_uncounted {s : State} (h : s.flt.frozen = true) (src code : Nat) (c : Cls) (d : Nat) (inj : Bool) :
    (s.raiseX src code c d inj).flt.uncounted = s.flt.uncounted := by
  unfold State.raiseX
  split
  · rfl
  · dsimp only
    rw [if_pos h]
    rfl

theorem foldl_raiseX_uncounted : ∀ (l : List Rec) {s : State}, s.flt.frozen = true →
    (l.foldl (fun t r => t.raiseX r.src r.code r.cls r.detail r.injected) s).flt.uncounted = s.flt.uncounted
  | [], _, _ => rfl
  | r :: l, s, h => by
    have hr := State.raiseX_uncounted h r.src r.code r.cls r.detail r.injected
    exact (foldl_raiseX_uncounted l ((congrArg FaultSt.frozen hr).trans h)).trans hr

theorem State.freeze_uncounted (s : State) : s.freeze.flt.uncounted = s.flt.froze.uncounted :=
  foldl_raiseX_uncounted s.flt.follow rfl

/-- Entry into SAFE freezes the collector, and its first record and its history stay. -/
theorem State.enterSafe_uncounted (c : Nat) (s : State) :
    (s.enterSafe c).flt.uncounted = { s.flt.froze.uncounted with keel0 := (s.enterSafe c).flt.keel0 } := by
  have hstop : (s.enterSafe c).flt = (s.freeze.enterMode .safe c).flt := by simp [State.enterSafe]
  have hmode : (s.freeze.enterMode .safe c).flt =
      { s.freeze.flt with keel0 := (s.freeze.enterMode .safe c).flt.keel0 } := rfl
  rw [hstop, hmode]
  exact congrArg (fun f : FaultSt => { f with keel0 := (s.freeze.enterMode .safe c).flt.keel0 }) s.freeze_uncounted

/-- What of the collector the records are kept in, after entry into SAFE. -/
theorem State.enterSafe_flt (c : Nat) (s : State) :
    (s.enterSafe c).flt.hist = s.flt.hist ∧ (s.enterSafe c).flt.last = s.flt.last ∧ (s.enterSafe c).flt.pend = [] ∧
      (s.enterSafe c).flt.follow = [] ∧ (s.enterSafe c).flt.selfFault = s.flt.selfFault ∧
      (s.enterSafe c).flt.firstValid = s.flt.firstValid ∧ (s.enterSafe c).flt.first = s.flt.first := by
  have h := s.enterSafe_uncounted c
  generalize (s.enterSafe c).flt = f at h ⊢
  exact ⟨(congrArg FaultSt.hist h :), (congrArg FaultSt.last h :), (congrArg FaultSt.pend h :),
    (congrArg FaultSt.follow h :), (congrArg FaultSt.selfFault h :), (congrArg FaultSt.firstValid h :),
    (congrArg FaultSt.first h :)⟩

/-! ### Recording -/

theorem State.raiseX_hist (src code : Nat) (c : Cls) (d : Nat) (inj : Bool) (s : State) :
    (s.raiseX src code c d inj).flt.hist = s.flt.hist ∧ (s.raiseX src code c d inj).flt.last = s.flt.last := by
  unfold State.raiseX
  dsimp only
  repeat' split
  all_goals exact ⟨rfl, rfl⟩

theorem State.takeFollow_hist (src : Nat) (s : State) :
    (s.takeFollow src).flt.hist = s.flt.hist ∧ (s.takeFollow src).flt.last = s.flt.last := by
  unfold State.takeFollow
  split
  · exact ⟨rfl, rfl⟩
  · exact State.raiseX_hist ..

theorem State.takeFollow_of_none {src : Nat} {s : State} (h : ∀ x ∈ s.flt.follow, x.src ≠ src) :
    s.takeFollow src = s := by
  have hnone : (s.flt.follow.find? fun r => r.src = src) = none :=
    List.find?_eq_none.2 fun x hx => by simpa using h x hx
  rw [State.takeFollow, hnone]

/-- A record's event touches neither the history nor what is pending. -/
theorem State.postRec_flt (r : Rec) (s : State) :
    (s.postRec r).flt.hist = s.flt.hist ∧ (s.postRec r).flt.last = s.flt.last ∧ (s.postRec r).flt.pend = s.flt.pend ∧
      (s.postRec r).flt.follow = s.flt.follow := by
  have hflt : (s.postEvt r.evt).2.flt = s.flt := by simp
  unfold State.postRec
  split
  next s1 he =>
    rw [show s1 = (s.postEvt r.evt).2 by rw [he], hflt]
    exact ⟨rfl, rfl, rfl, rfl⟩
  next s1 he =>
    dsimp only
    rw [show s1 = (s.postEvt r.evt).2 by rw [he], hflt]
    exact ⟨rfl, rfl, rfl, rfl⟩

theorem State.logRec_flt (r : Rec) (s : State) :
    (s.logRec r).flt.hist = (r :: s.flt.hist).take 2047 ∧ (s.logRec r).flt.last = r.number ∧
      (s.logRec r).flt.pend = s.flt.pend ∧ (s.logRec r).flt.follow = s.flt.follow := by
  unfold State.logRec
  dsimp only
  split <;> exact ⟨rfl, rfl, rfl, rfl⟩

/-- The record of a report, under the next log number (R507). -/
def State.numbered (s : State) (r : Rec) : Rec := { r with number := nextNumber s.flt.last }

/-- The report's record at the head of the history, and its event posted. -/
def State.logged (s : State) (r : Rec) : State :=
  (({ s with flt.pend := s.flt.pend.filter fun x => x.src ≠ r.src } : State).logRec (s.numbered r)).postRec (s.numbered r)

theorem State.logged_flt (s : State) (r : Rec) :
    (s.logged r).flt.hist = (s.numbered r :: s.flt.hist).take 2047 ∧ (s.logged r).flt.last = nextNumber s.flt.last ∧
      (s.logged r).flt.pend = (s.flt.pend.filter fun x => x.src ≠ r.src) ∧ (s.logged r).flt.follow = s.flt.follow := by
  obtain ⟨hh, hl, hp, hf⟩ := State.postRec_flt (s.numbered r)
    (State.logRec (s.numbered r) { s with flt.pend := s.flt.pend.filter fun x => x.src ≠ r.src })
  obtain ⟨hh', hl', hp', hf'⟩ := State.logRec_flt (s.numbered r)
    { s with flt.pend := s.flt.pend.filter fun x => x.src ≠ r.src }
  exact ⟨hh.trans hh', hl.trans hl', hp.trans hp', hf.trans hf'⟩

theorem State.mode_logged (s : State) (r : Rec) : (s.logged r).mode = s.mode :=
  State.mode_of_keel0 (by simp [State.logged])

theorem State.recordOne_eq (r : Rec) (s : State) :
    s.recordOne r = if r.cls = .ft then ((s.logged r).fatal (s.numbered r)).takeFollow r.src
      else (s.logged r).takeFollow r.src := rfl

theorem State.recordOne_of_not_ft {r : Rec} (h : r.cls ≠ .ft) (s : State) :
    s.recordOne r = (s.logged r).takeFollow r.src := by
  rw [State.recordOne_eq, if_neg h]

theorem State.fatal_of_safeFrom {s : State} (h : safeFrom s.mode = true) (r : Rec) :
    s.fatal r = ({ s with flt.fatal := r.number } : State).enterSafe r.cause := by
  unfold State.fatal
  rw [if_pos h]

/-- Entry into SAFE for a record leaves the history as it is and nothing pending (R514). -/
theorem State.fatal_flt {s : State} (h : safeFrom s.mode = true) (r : Rec) :
    (s.fatal r).flt.hist = s.flt.hist ∧ (s.fatal r).flt.last = s.flt.last ∧ (s.fatal r).flt.pend = [] ∧
      (s.fatal r).flt.follow = [] := by
  rw [State.fatal_of_safeFrom h]
  obtain ⟨hh, hl, hp, hf, -⟩ := State.enterSafe_flt r.cause { s with flt.fatal := r.number }
  rw [hh, hl, hp, hf]
  exact ⟨rfl, rfl, rfl, rfl⟩

/-- The record of a fatal report is in the history, and nothing is pending in SAFE. -/
theorem State.recordOne_ft_flt {r : Rec} (h : r.cls = .ft) {s : State} (hm : safeFrom s.mode = true) :
    (s.recordOne r).flt.hist = (s.numbered r :: s.flt.hist).take 2047 ∧
      (s.recordOne r).flt.last = nextNumber s.flt.last ∧ (s.recordOne r).flt.pend = [] := by
  obtain ⟨hh, hl, -, -⟩ := s.logged_flt r
  obtain ⟨hh', hl', hp', hf'⟩ := State.fatal_flt (by rw [State.mode_logged]; exact hm) (s.numbered r) (s := s.logged r)
  rw [State.recordOne_eq, if_pos h, State.takeFollow_of_none (by rw [hf']; simp)]
  exact ⟨hh'.trans hh, hl'.trans hl, hp'⟩

theorem State.recordOne_hist_of_not_ft {r : Rec} (h : r.cls ≠ .ft) (s : State) :
    (s.recordOne r).mode = s.mode ∧ (s.recordOne r).flt.hist = (s.numbered r :: s.flt.hist).take 2047 ∧
      (s.recordOne r).flt.last = nextNumber s.flt.last ∧
      ((∀ x ∈ s.flt.follow, x.src ≠ r.src) →
        (s.recordOne r).flt.pend = s.flt.pend.filter fun x => x.src ≠ r.src) := by
  obtain ⟨hh, hl, hp, hf⟩ := s.logged_flt r
  obtain ⟨hth, htl⟩ := State.takeFollow_hist r.src (s.logged r)
  rw [State.recordOne_of_not_ft h]
  refine ⟨?_, hth.trans hh, htl.trans hl, fun hno => ?_⟩
  · exact (State.mode_of_keel0 (by simp)).trans (s.mode_logged r)
  · rw [State.takeFollow_of_none (by rw [hf]; exact hno), hp]

/-! ### Reports at once -/

/-- The record that a fatal report of the device's own makes. -/
def State.fatalRec (src code d : Nat) (s : State) : Rec :=
  { src := src, code := code, cls := .ft, injected := false, number := 0, time := s.devTime, seen := s.now, detail := d }

/-- The state with a fatal report the only one of its source that is pending. -/
def State.fatalRaised (src code d : Nat) (s : State) : State :=
  ({ s with flt := { s.flt with pend := s.flt.pend.filter fun x => x.src ≠ src } } : State).raise src code .ft d

/-- With none of its source pending, a report becomes the newest one that is. -/
theorem State.raiseX_pend {s : State} (hp : s.pins.resetN = true) (hf : s.flt.frozen = false) {src : Nat}
    (hnone : (s.flt.pend.any fun r => decide (r.src = src)) = false) (code : Nat) (c : Cls) (d : Nat) (inj : Bool) :
    (s.raiseX src code c d inj).flt.pend = s.flt.pend ++ [{
      src := src, code := code, cls := s.clsOf src c, injected := inj, number := 0, time := s.devTime, seen := s.now,
      detail := d }] := by
  unfold State.raiseX
  rw [if_neg (by simp [hp])]
  dsimp only
  rw [if_neg (by simp [hf])]
  cases s.flt.firstValid <;> simp [hnone]

theorem State.fatalRaised_pend {s : State} (hp : s.pins.resetN = true) (hf : s.flt.frozen = false) (src code d : Nat) :
    (s.fatalRaised src code d).flt.pend =
      (s.flt.pend.filter fun x => x.src ≠ src) ++ [s.fatalRec src code d] := by
  have hnone : ((s.flt.pend.filter fun x => x.src ≠ src).any fun r => decide (r.src = src)) = false := by
    simp
  refine (State.raiseX_pend (s := { s with flt := { s.flt with pend := s.flt.pend.filter fun x => x.src ≠ src } })
    hp hf hnone code .ft d false).trans ?_
  rfl

theorem State.fatalNow_eq {s : State} (hm : safeFrom s.mode = true) (hp : s.pins.resetN = true)
    (hf : s.flt.frozen = false) (src code d : Nat) :
    s.fatalNow src code d = (s.fatalRaised src code d).recordOne (s.fatalRec src code d) := by
  have hfind : ((s.fatalRaised src code d).flt.pend.find? fun x => x.src = src) = some (s.fatalRec src code d) := by
    rw [State.fatalRaised_pend hp hf, List.find?_append, List.find?_eq_none.2]
    · simp [State.fatalRec]
    · intro x hx
      simpa using (List.mem_filter.1 hx).2
  refine (if_pos hm).trans ?_
  change (match (s.fatalRaised src code d).flt.pend.find? fun x => x.src = src with
    | some r => (s.fatalRaised src code d).recordOne r
    | none => s.fatalRaised src code d) = _
  rw [hfind]

theorem State.fatalNow_of_not_safeFrom {s : State} (hm : safeFrom s.mode = false) (src code d : Nat) :
    s.fatalNow src code d = s.raise src code .ft d := if_neg (by simp [hm])

/-- A report recorded at once is the newest in the history, and nothing is pending after it. -/
theorem State.fatalNow_flt {s : State} (hm : safeFrom s.mode = true) (hp : s.pins.resetN = true)
    (hf : s.flt.frozen = false) (src code d : Nat) :
    (s.fatalNow src code d).flt.hist = (s.numbered (s.fatalRec src code d) :: s.flt.hist).take 2047 ∧
      (s.fatalNow src code d).flt.pend = [] := by
  obtain ⟨hh, hl⟩ := State.raiseX_hist src code .ft d false
    { s with flt := { s.flt with pend := s.flt.pend.filter fun x => x.src ≠ src } }
  have hmode : (s.fatalRaised src code d).mode = s.mode := State.mode_of_keel0 (by simp [State.fatalRaised])
  obtain ⟨hh', -, hp'⟩ := State.recordOne_ft_flt (r := s.fatalRec src code d) rfl
    (s := s.fatalRaised src code d) (by rw [hmode]; exact hm)
  rw [State.fatalNow_eq hm hp hf]
  refine ⟨hh'.trans ?_, hp'⟩
  rw [State.numbered, State.numbered, show (s.fatalRaised src code d).flt.hist = s.flt.hist from hh,
    show (s.fatalRaised src code d).flt.last = s.flt.last from hl]

/-! ### The collector's own errors -/

theorem State.injected_of_none {s : State} (h : s.flt.inj = []) (src checker loc : Nat) :
    s.injected src checker loc = (none, s) := by
  simp [State.injected, h]

/-- A corrected error in the history or the counts is counted (R516). -/
theorem execCollectorFault_of_corrected {s : State} (hp : s.pins.resetN = true) (hi : s.flt.inj = []) {part : Fin 5}
    (h3 : 3 ≤ part.val) :
    execCollectorFault part true s = .next { s with flt := { s.flt with selfCe := satInc 8 s.flt.selfCe } } := by
  rw [execCollectorFault_of_resetN hp, State.injected_of_none hi]
  simp [h3]

/-- Any other error of the collector is latched, and acts (R516). -/
theorem execCollectorFault_of_fault {s : State} (hp : s.pins.resetN = true) (hi : s.flt.inj = []) {part : Fin 5}
    {corrected : Bool} (h : corrected = false ∨ part.val < 3) :
    execCollectorFault part corrected s =
      .next (s.collectorLatched (s.collectorRec part.val false)).collectorActs := by
  have hno : (corrected && decide (3 ≤ part.val)) = false := by
    rcases h with rfl | h
    · rfl
    · simp [h]
  rw [execCollectorFault_of_resetN hp, State.injected_of_none hi]
  simp [hno]

theorem State.collectorActs_of_safeFrom {s : State} (h : safeFrom s.mode = true) : s.collectorActs = s.enterSafe 6 :=
  if_pos h

theorem State.collectorActs_of_safe {s : State} (h : s.mode = .safe) : s.collectorActs = s := by
  unfold State.collectorActs
  rw [if_neg (by simp [h, safeFrom])]
  split
  · simp [h]
  · rfl

/-! ### What is reported, and what the host clears -/

theorem execFaultReport_of_class {src : BitVec 12} {code : Byte} {k : Cls}
    (h : codeClass src.toNat code.toNat = some k)
    (hk : src.toNat ≠ 0xC00 ∨ (code.toNat ≠ 1 ∧ code.toNat ≠ 2 ∧ code.toNat ≠ 6)) (d : BitVec 63) (s : State) :
    execFaultReport src code d s = .next (s.raise src.toNat code.toNat k d.toNat) := by
  unfold execFaultReport
  rw [h]
  dsimp only
  rw [if_neg (by omega), if_neg (by omega)]

theorem execFaultReport_of_no_class {src : BitVec 12} {code : Byte} (h : codeClass src.toNat code.toNat = none)
    (d : BitVec 63) (s : State) : execFaultReport src code d s = .next s := by
  unfold execFaultReport
  rw [h]

theorem execFaultRecord_of_report {s : State} {r : Rec} (hf : s.flt.frozen = false)
    (hn : nextReport s.flt.pend = some r) : execFaultRecord s = .next (s.recordOne r) := by
  unfold execFaultRecord
  rw [if_neg (by simp [hf]), hn]

theorem execFaultRecord_of_idle {s : State} (h : s.flt.frozen = true ∨ s.flt.pend = []) :
    execFaultRecord s = .next s := by
  unfold execFaultRecord
  rcases h with h | h
  · rw [if_pos h]
  · rw [h, nextReport, ite_self]

theorem execFltFirstClear_of_served {s : State} (h : s.served = true) {v : Word} (hv : bit v.toNat 0 = true) :
    execFltFirstClear s.active v s = .next { s with
      flt := { s.flt with firstValid := false, later := 0, raised := if s.flt.pend = [] then 0 else 1 } } := by
  have hraised : b2n (!s.flt.pend.isEmpty) = if s.flt.pend = [] then 0 else 1 := by
    cases s.flt.pend <;> rfl
  unfold execFltFirstClear
  rw [if_pos (by simp [takesRw_active s h, hv]), hraised]

end Sys2Proof.Machine

namespace Sys2Proof.Proofs
open Sys2Proof.Machine
open Sys2Proof.Safety
open Host (Outcome)

/-- Settles O25: a record by `State.logged`, entry into SAFE by what it leaves of the collector. -/
theorem reportsBecomeRecords : Obligations.ReportsBecomeRecords := by
  unfold Obligations.ReportsBecomeRecords
  refine ⟨?_, ?_, ?_, ?_, ?_, ?_, ?_, ?_, ?_, ?_, ?_, ?_, ?_⟩
  · intro src code d k s hk hown
    exact execFaultReport_of_class hk hown d s
  · intro src code d s hk
    exact execFaultReport_of_no_class hk d s
  · intro s r hf hn hft
    exact ⟨_, execFaultRecord_of_report hf hn, s.recordOne_hist_of_not_ft hft⟩
  · intro s r hf hn hft hm
    obtain ⟨hmode, -, hcause, hprev⟩ := recordOne_ft r s hft hm
    exact ⟨_, execFaultRecord_of_report hf hn, hmode, hprev, hcause, State.recordOne_ft_flt hft hm⟩
  · intro s h
    exact execFaultRecord_of_idle h
  · intro i s hm hp hf
    obtain ⟨hmode, -, hprev⟩ := fatalNow_facts 0x400 6 (packItems [(6, i.val)]) s hm hp hf
    exact ⟨_, rfl, hmode, hprev, State.fatalNow_flt hm hp hf ..⟩
  · intro i s hm
    exact congrArg Outcome.next (State.fatalNow_of_not_safeFrom hm ..)
  · intro part s hp hi h3
    exact execCollectorFault_of_corrected hp hi h3
  · intro part corrected s hp hi h hm
    have hmode : (s.collectorLatched (s.collectorRec part.val false)).mode = s.mode := rfl
    obtain ⟨hsafe, -, hcause, hprev⟩ := enterSafe_facts 6 (s.collectorLatched (s.collectorRec part.val false))
    obtain ⟨-, -, -, -, hself, hvalid, hfirst⟩ :=
      State.enterSafe_flt 6 (s.collectorLatched (s.collectorRec part.val false))
    refine ⟨_, execCollectorFault_of_fault hp hi h, ?_⟩
    rw [State.collectorActs_of_safeFrom (by rw [hmode]; exact hm)]
    exact ⟨hsafe, hprev.trans hmode, hcause, hself, hvalid, hfirst⟩
  · intro part corrected s hp hi h hm
    have hmode : (s.collectorLatched (s.collectorRec part.val false)).mode = s.mode := rfl
    refine (execCollectorFault_of_fault hp hi h).trans (congrArg Outcome.next ?_)
    exact State.collectorActs_of_safe (hmode.trans hm)
  · intro v s h hv
    exact execFltFirstClear_of_served h hv
  · intro v s h hv
    exact congrArg Outcome.next (if_pos (by simp [takesRw_active s h, hv]))
  · intro v s h hv
    exact congrArg Outcome.next (if_pos (by simp [takesRw_active s h, hv]))

end Sys2Proof.Proofs
end

section
/-! Frames enter a port's MAC, pauses are kept, and slots take packets (O34). -/
namespace Sys2Proof.Machine
open Sys2Proof.Safety
open Host (Outcome)

/-! ### What a port's frames depend on -/

theorem State.macCfg_of_regs {s t : State} (h : t.regs = s.regs) (p : Nat) : t.macCfg p = s.macCfg p :=
  rd_of h _

theorem State.rate_of_regs {s t : State} (h : t.regs = s.regs) (p : Nat) : t.rate p = s.rate p := by
  simp [State.rate, State.isRecirc, State.width, State.ptMode, rd_of h]

/-- The end of a pause is worked out from the time and the port's rate alone. -/
theorem State.pauseEnd_of_regs {s t : State} (hr : t.regs = s.regs) (hn : t.now = s.now) (p len q : Nat) :
    t.pauseEnd p len q = s.pauseEnd p len q := by
  simp [State.pauseEnd, State.rate_of_regs hr, hn]

theorem State.pauseEnd_of_rate {s : State} {p : Nat} (h : s.rate p ≠ 0) (len q : Nat) :
    s.pauseEnd p len q =
      if q = 0 then 0 else (s.now + nsFor len (s.rate p)) * 1000 + q * 512000 / s.rate p := by
  simp [State.pauseEnd, h]

theorem State.mode_ptCount (p i n : Nat) (s : State) : (s.ptCount p i n).mode = s.mode :=
  State.mode_of_keel0 (by simp)

/-! ### A frame at the MAC -/

/-- Near-end and MAC loopback hear nothing of the line (R156). -/
theorem execFrameReceive_of_loopback {p : Port} {s : State} (h : s.loopback p % 2 = 1) (b : List Byte) (rx : Rx) :
    execFrameReceive p b rx s = .next s := congrArg Outcome.next (if_pos h)

theorem execMacControlFrame_of_loopback {p : Port} {s : State} (h : s.loopback p % 2 = 1) (b : List Byte) (err : Bool) :
    execMacControlFrame p b err s = .next s := congrArg Outcome.next (if_pos (.inl h))

theorem execFrameReceive_whole {p : Port} {s : State} (h : s.loopback p % 2 ≠ 1) (b : List Byte) (err : Bool) :
    execFrameReceive p b ⟨err, .whole⟩ s = .next (s.receive p b err) :=
  congrArg Outcome.next ((if_neg h).trans (if_pos rfl))

theorem execMacControlFrame_of_control {p : Port} {s : State} (h : s.loopback p % 2 ≠ 1) {b : List Byte}
    (hb : isMacControl b = true) (err : Bool) : execMacControlFrame p b err s = .next (s.receive p b err) :=
  congrArg Outcome.next (if_neg (by simp [h, hb]))

/-- A port that is not UP, and SAFE and SAVE, take no frame (R43). -/
theorem State.receive_of_dead {p : Nat} {s : State} (h : (s.pt p).state ≠ .up ∨ s.mode = .safe ∨ s.mode = .save)
    (b : List Byte) (err : Bool) : s.receive p b err = s := if_pos h

section
variable {p : Nat} {s : State} (hlive : ¬ ((s.pt p).state ≠ .up ∨ s.mode = .safe ∨ s.mode = .save))
include hlive

theorem State.receive_of_short {b : List Byte} (h : b.length < 64) (err : Bool) : s.receive p b err = s.ptCount p 3 1 :=
  (if_neg hlive).trans (if_pos h)

theorem State.receive_of_long {b : List Byte} (h64 : 64 ≤ b.length) (hmax : s.maxFrame p < b.length)
    (hcut : s.maxFrame p < 1729) (err : Bool) : s.receive p b err = s.ptCount p 4 1 :=
  (if_neg hlive).trans ((if_neg (by omega)).trans ((if_pos hmax).trans (if_pos hcut)))

/-- A frame that is errored, or whose FCS is not good (R157). -/
theorem State.receive_of_bad {b : List Byte} (h64 : 64 ≤ b.length) (hmax : b.length ≤ s.maxFrame p) {err : Bool}
    (h : err = true ∨ fcsGood b = false) :
    s.receive p b err = if isMacControl b then s.ptCount p 2 1 else (s.ptCount p 2 1).passOn p b .fcs :=
  (if_neg hlive).trans ((if_neg (by omega)).trans ((if_neg (by omega)).trans (if_pos (by
    rcases h with h | h <;> simp [h]))))

theorem State.receive_of_good {b : List Byte} (h64 : 64 ≤ b.length) (hmax : b.length ≤ s.maxFrame p)
    (h : fcsGood b = true) :
    s.receive p b false = if isMacControl b then ((s.ptCount p 0 1).ptCount p 1 b.length).macControl p b
      else ((s.ptCount p 0 1).ptCount p 1 b.length).passOn p b .none :=
  (if_neg hlive).trans ((if_neg (by omega)).trans ((if_neg (by omega)).trans (if_neg (by simp [h]))))

end

theorem not_dead_of_forward {p : Nat} {s : State} (hup : (s.pt p).state = .up) (h : s.mode = .forward ∨ s.mode = .drain) :
    ¬ ((s.pt p).state ≠ .up ∨ s.mode = .safe ∨ s.mode = .save) := by
  rcases h with h | h <;> simp [hup, h]

/-- The packets of FORWARD and DRAIN wait for a slot. -/
theorem State.passOn_of_forward {s : State} (h : s.mode = .forward ∨ s.mode = .drain) (p : Nat) (b : List Byte)
    (late : Late) : s.passOn p b late = s.addPkt (s.newPkt p b late) := by
  unfold State.passOn
  rcases h with h | h <;> rw [h]

/-- CONFIGURE, and PARK with idle links, drop and count (R43). -/
theorem State.passOn_of_configure {s : State} (h : s.mode = .configure ∨ (s.mode = .park ∧ s.md.parkDown = false))
    (p : Nat) (b : List Byte) (late : Late) : s.passOn p b late = s.ptCount p 7 1 := by
  unfold State.passOn
  rcases h with h | ⟨h, hdown⟩
  · rw [h]
  · rw [h]
    simp [hdown]

/-! ### Preempted frames -/

theorem execFrameReceive_of_fragment {p : Port} {s : State} (h : s.loopback p % 2 ≠ 1)
    (hen : bit (s.rd (ptReg p 0x1C0)) 0 = true) (b : List Byte) (err : Bool) :
    execFrameReceive p b ⟨err, .first⟩ s = .next (s.setAsm p b) ∧
      execFrameReceive p b ⟨err, .middle⟩ s = .next (s.setAsm p ((s.pt p).asm ++ b)) ∧
      execFrameReceive p b ⟨err, .last⟩ s = .next ((s.setAsm p []).receive p ((s.pt p).asm ++ b) err) := by
  have hoff : ¬ (!bit (s.rd (ptReg p 0x1C0)) 0) = true := by simp [hen]
  exact ⟨congrArg Outcome.next ((if_neg h).trans ((if_neg (by simp)).trans (if_neg hoff))),
    congrArg Outcome.next ((if_neg h).trans ((if_neg (by simp)).trans (if_neg hoff))),
    congrArg Outcome.next ((if_neg h).trans ((if_neg (by simp)).trans (if_neg hoff)))⟩

theorem execFrameReceive_of_ignored {p : Port} {s : State} (hen : bit (s.rd (ptReg p 0x1C0)) 0 = false) {rx : Rx}
    (hw : rx.piece ≠ .whole) (b : List Byte) : execFrameReceive p b rx s = .next s := by
  unfold execFrameReceive
  dsimp only
  rw [if_neg hw, hen]
  exact congrArg Outcome.next (ite_self s)

/-! ### Pauses -/

/-- A port that is UP, and the pauses it then holds. -/
theorem State.pt_setPause {p : Nat} {s : State} (hup : (s.pt p).state = .up) (c until' : Nat) :
    (s.setPause p c until').pt p = { s.pt p with pause := (s.pt p).pause.set 0 c until' } := by
  have hne : ({ s.pt p with pause := (s.pt p).pause.set 0 c until' } : PortSt) ≠ PortSt.zero := by
    intro h
    have hst : (s.pt p).state = .disabled := congrArg PortSt.state h
    rw [hup] at hst
    exact absurd hst (by decide)
  rw [State.setPause, State.setPt]
  dsimp only
  rw [SMap.set, if_neg hne]
  exact SMap.get_put_self ..

/-- A pause frame's classes, one after another, each held until the same instant. -/
theorem foldl_setPause_get {p v : Nat} {f : State → Nat} (hf : ∀ (u : State) c, f (u.setPause p c v) = f u)
    (ok : Nat → Prop) [DecidablePred ok] : ∀ (l : List Nat) (s : State), f s = v → (s.pt p).state = .up →
      (s.pt p).pause.wf (fun _ => 0) = true → ∀ c,
      ((l.foldl (fun t c => if ok c then t.setPause p c (f t) else t) s).pt p).pause.get 0 c =
        if c ∈ l ∧ ok c then v else (s.pt p).pause.get 0 c
  | [], s, _, _, _, c => by simp
  | a :: l, s, hv, hup, hwf, c => by
    rw [List.foldl_cons]
    by_cases ha : ok a
    · rw [if_pos ha, hv]
      have hpt := State.pt_setPause hup a v
      rw [foldl_setPause_get hf ok l _ ((hf s a).trans hv) (by rw [hpt]; exact hup)
        (by rw [hpt]; exact SMap.wf_set hwf _ _) c, hpt]
      by_cases hca : c = a
      · subst hca
        simp [ha, SMap.get_set_self hwf]
      · simp [hca, SMap.get_set_ne]
    · rw [if_neg ha, foldl_setPause_get hf ok l s hv hup hwf c]
      by_cases hca : c = a
      · subst hca
        simp [ha]
      · simp [hca]

theorem State.macControl_of_pause {s : State} {p : Nat} {b : List Byte} (hop : be b 14 2 = 1)
    (hfc : bits (s.macCfg p) 15 14 = 1) :
    s.macControl p b = (List.range 8).foldl (fun t c => if c < 7 ∨ bit (s.macCfg p) 24 = true then
      t.setPause p c (t.pauseEnd p b.length (be b 16 2)) else t) (s.ptCount p 5 1) := by
  unfold State.macControl
  rw [hop]
  exact if_pos hfc

/-- A pause under FC 1 holds its classes until the time that it names (R161). -/
theorem State.macControl_pause {s : State} {p : Nat} {b : List Byte} (hup : (s.pt p).state = .up)
    (hop : be b 14 2 = 1) (hfc : bits (s.macCfg p) 15 14 = 1) (hwf : (s.pt p).pause.wf (fun _ => 0) = true) {c : Nat}
    (hc : c < 7 ∨ (c = 7 ∧ bit (s.macCfg p) 24 = true)) :
    ((s.macControl p b).pt p).pause.get 0 c = s.pauseEnd p b.length (be b 16 2) := by
  have hpt : (s.ptCount p 5 1).pt p = s.pt p := by simp [State.pt]
  rw [State.macControl_of_pause hop hfc,
    foldl_setPause_get (f := fun t => t.pauseEnd p b.length (be b 16 2)) (v := s.pauseEnd p b.length (be b 16 2))
      (fun u c => State.pauseEnd_of_regs (by simp) (by simp) ..) (fun c => c < 7 ∨ bit (s.macCfg p) 24 = true) _ _
      (State.pauseEnd_of_regs (by simp) (by simp) ..) (by rw [hpt]; exact hup) (by rw [hpt]; exact hwf) c]
  refine if_pos ⟨List.mem_range.2 (by omega), ?_⟩
  rcases hc with hc | ⟨-, hc⟩
  · exact .inl hc
  · exact .inr hc

theorem State.macControl_of_unknown {b : List Byte} (h1 : be b 14 2 ≠ 1) (h2 : be b 14 2 ≠ 0x101) (p : Nat) (s : State) :
    s.macControl p b = s.ptCount p 6 1 := by
  unfold State.macControl
  split
  next h => exact absurd h h1
  next h => exact absurd h h2
  next => rfl

/-! ### Slots -/

theorem execFrameAdmission_of_not_offered {sl : Slice} {slot : SlotOffer} {s : State}
    (h : s.offersSlot sl slot.kind = false) (pick : Draw) : execFrameAdmission sl slot pick s = .next s :=
  congrArg Outcome.next (if_pos (by simp [h]))

/-- The slot's number moves on by one (R354). -/
def State.slotNext (n : Nat) (s : State) : State :=
  { s with core.slotNo := s.core.slotNo.set 0 n ((s.core.slotNo.get 0 n + 1) % 16) }

/-- A slot that drops no arrival and loses no frame goes to the packet that is chosen, or is empty. -/
theorem execFrameAdmission_of_offered {sl : Slice} {slot : SlotOffer} {s : State} (h : s.offersSlot sl slot.kind = true)
    {pick : Draw} (hkeep : (s.dropArrivals sl pick).dropLost sl slot.lost pick = s) :
    execFrameAdmission sl slot pick s = .next
      (match if s.core.slotNo.get 0 sl < s.slotShare sl then
          (s.slotNext sl).slotChoice sl (s.slotKind sl slot.kind) (s.waitingFor sl) else none with
      | some x => ((s.slotNext sl).giveSlot x pick (s.slotKind sl slot.kind)).pfcUpdate
      | none => ((s.slotNext sl).emptySlot sl (s.slotKind sl slot.kind) (!(s.waitingFor sl).isEmpty)).pfcUpdate) := by
  unfold execFrameAdmission
  dsimp only
  rw [if_neg (by simp [h]), hkeep]
  simp only [decide_eq_true_eq]
  rfl

theorem State.dropLost_nil (n : Nat) (pick : Draw) (s : State) : s.dropLost n [] pick = s := rfl

theorem State.dropLost_of_empty {n : Nat} {s : State} (h : s.waitingFor n = []) (lost : List Nat) (pick : Draw) :
    s.dropLost n lost pick = s := by
  simp [State.dropLost, h]

theorem State.dropArrivals_of_empty {n : Nat} {s : State} (h : s.waitingFor n = []) (pick : Draw) :
    s.dropArrivals n pick = s := by
  rw [State.dropArrivals, h]
  rfl

/-- A slice in service, in a mode that takes new packets, drops none that arrives. -/
theorem State.dropArrivals_of_service {n : Nat} {s : State} (hm : s.mode ≠ .drain) (hs : (s.slice n).inService ≠ 0)
    (pick : Draw) : s.dropArrivals n pick = s := by
  simp [State.dropArrivals, hm, hs]

theorem nextInTurn_nil (x : Nat) : nextInTurn x [] = none := by simp [nextInTurn]

theorem State.slotChoice_nil (n : Nat) (kind : SlotKind) (s : State) : s.slotChoice n kind [] = none := by
  cases kind <;> simp [State.slotChoice, nextInTurn_nil]

theorem State.giveSlot_of_room {k : Pkt} {s : State} (h : s.headQFull k.slice = false) (pick : Draw) (kind : SlotKind) :
    s.giveSlot k pick kind = s.admitPkt k := if_pos (by simp [h])

theorem State.headQFull_slotNext (m n : Nat) (s : State) : (s.slotNext n).headQFull m = s.headQFull m := rfl

/-- An open slot that loses no frame, with room in the head queue, admits the packet that is chosen (R354). -/
theorem execFrameAdmission_of_choice {sl : Slice} {kind : SlotKind} {s : State} {k : Pkt}
    (h : s.offersSlot sl kind = true) (hm : s.mode ≠ .drain) (hs : (s.slice sl).inService ≠ 0)
    (hopen : s.core.slotNo.get 0 sl < s.slotShare sl)
    (hk : (s.slotNext sl).slotChoice sl (s.slotKind sl kind) (s.waitingFor sl) = some k)
    (hroom : s.headQFull k.slice = false) (pick : Draw) :
    execFrameAdmission sl ⟨kind, []⟩ pick s = .next ((s.slotNext sl).admitPkt k).pfcUpdate := by
  rw [execFrameAdmission_of_offered h (by rw [State.dropArrivals_of_service hm hs, State.dropLost_nil]), if_pos hopen, hk]
  dsimp only
  rw [State.giveSlot_of_room (by rw [State.headQFull_slotNext]; exact hroom)]

end Sys2Proof.Machine

namespace Sys2Proof.Proofs
open Sys2Proof.Machine
open Sys2Proof.Safety
open Host (Outcome)

/-- Settles O34: `State.receive` case by case, the pauses by a fold over their classes, the slots by the packet chosen. -/
theorem framesArriveAndAreAdmitted : Obligations.FramesArriveAndAreAdmitted := by
  unfold Obligations.FramesArriveAndAreAdmitted
  refine ⟨?_, ?_, ?_, ?_, ?_, ?_, ?_, ?_, ?_, ?_, ?_, ?_, ?_, ?_, ?_⟩
  · intro p b err piece s h
    exact ⟨execFrameReceive_of_loopback h .., execMacControlFrame_of_loopback h ..⟩
  · intro p b err s h
    have hrec : s.receive p b err = s := State.receive_of_dead h b err
    refine ⟨?_, congrArg Outcome.next ?_⟩
    · by_cases hl : s.loopback p % 2 = 1
      · exact execFrameReceive_of_loopback hl ..
      · exact (execFrameReceive_whole hl b err).trans (congrArg _ hrec)
    · rw [hrec, ite_self]
  · intro p b err s hl hup hsafe hsave h
    exact (execFrameReceive_whole (by omega) b err).trans
      (congrArg _ (State.receive_of_short (by simp [hup, hsafe, hsave]) h err))
  · intro p b err s hl hup hsafe hsave h64 hmax hcut
    exact (execFrameReceive_whole (by omega) b err).trans
      (congrArg _ (State.receive_of_long (by simp [hup, hsafe, hsave]) h64 hmax hcut err))
  · rintro p b err s t hl hup hm h64 hmax hbad rfl
    refine (execFrameReceive_whole (by omega) b err).trans (congrArg _ ?_)
    rw [State.receive_of_bad (not_dead_of_forward hup hm) h64 hmax hbad,
      State.passOn_of_forward (by simpa only [State.mode_ptCount] using hm)]
  · rintro p b s t hl hup hm h64 hmax hgood hctl rfl
    refine (execFrameReceive_whole (by omega) b false).trans (congrArg _ ?_)
    rw [State.receive_of_good (not_dead_of_forward hup hm) h64 hmax hgood, if_neg (by simp [hctl]),
      State.passOn_of_forward (by simpa only [State.mode_ptCount] using hm)]
  · intro p b s hl hup hm h64 hmax hgood hctl
    refine (execFrameReceive_whole (by omega) b false).trans (congrArg _ ?_)
    rw [State.receive_of_good (by rcases hm with hm | ⟨hm, -⟩ <;> simp [hup, hm]) h64 hmax hgood,
      if_neg (by simp [hctl]), State.passOn_of_configure (by simpa [State.mode_ptCount] using hm)]
  · intro p b err s hl hen
    exact execFrameReceive_of_fragment (by omega) hen b err
  · intro p b err piece s hen hw
    exact execFrameReceive_of_ignored hen hw b
  · rintro p b s t hl hup hsafe hsave h64 hmax hgood hctl hrate rfl
    have hpt : ((s.ptCount p 0 1).ptCount p 1 b.length).pt p = s.pt p := by simp [State.pt]
    have hcfg : ((s.ptCount p 0 1).ptCount p 1 b.length).macCfg p = s.macCfg p := State.macCfg_of_regs (by simp) p
    refine ⟨?_, fun hop hfc hwf c hc => ?_, fun h1 h2 => State.macControl_of_unknown h1 h2 ..⟩
    · refine (execMacControlFrame_of_control (by omega) hctl false).trans (congrArg _ ?_)
      rw [State.receive_of_good (by simp [hup, hsafe, hsave]) h64 hmax hgood, if_pos hctl]
    · rw [State.macControl_pause (by rw [hpt]; exact hup) hop (by rw [hcfg]; exact hfc) (by rw [hpt]; exact hwf)
        (by rw [hcfg]; exact hc), State.pauseEnd_of_regs (s := s) (by simp) (by simp), State.pauseEnd_of_rate hrate]
  · intro p tc s
    rfl
  · intro sl kind lost pick s h
    exact execFrameAdmission_of_not_offered h pick
  · rintro sl kind lost pick s t h hno rfl
    refine (execFrameAdmission_of_offered h
      (by rw [State.dropArrivals_of_empty hno, State.dropLost_of_empty hno])).trans (congrArg _ ?_)
    rw [hno, State.slotChoice_nil, ite_self]
    rfl
  · rintro sl pick k s t h hm hs hkind hopen rfl hk hroom
    exact execFrameAdmission_of_choice h hm hs hopen (by rw [hkind]; exact hk) hroom pick
  · rintro sl pick k r s t h hm hs hopen rfl hk hroom
    refine execFrameAdmission_of_choice h hm hs hopen ?_ hroom pick
    rw [State.slotKind, State.slotChoice, hk]

end Sys2Proof.Proofs
end

section
/-! Completions, doorbells and the traffic of rings (O3, O4, O8, O9, O55). -/
namespace Sys2Proof.Machine
open Sys2Proof.Safety
open Host (Outcome)

/-! ### A ring of a port -/

/-- A ring with a base is none that the map leaves out, so a write of it reads back in any map. -/
theorem State.ring_setRing {r : Ring} (h : r.base ≠ 0) (p : HostPort) (n : Nat) (s : State) :
    (s.setRing p n r).ring p n = r := by
  have hr : r ≠ Ring.zero := fun e => h (congrArg Ring.base e)
  rw [State.ring, State.setRing, State.half_onHalf]
  dsimp only
  rw [SMap.set, if_neg hr]
  exact SMap.get_put_self ..

theorem State.ring_setRing_peer (p : HostPort) (n m : Nat) (r : Ring) (s : State) :
    (s.setRing p n r).ring p.peer m = s.ring p.peer m := by
  rw [State.ring, State.setRing, State.half_onHalf_peer, State.ring]

theorem State.ring_emit (o : Out) (p : HostPort) (n : Nat) (s : State) : (s.emit o).ring p n = s.ring p n := by
  cases p <;> rfl

theorem State.onHalf_of_fixed {f : Half → Half} {p : HostPort} {s : State} (h : f (s.half p) = s.half p) :
    s.onHalf p f = s := by
  rw [State.onHalf, h]
  cases p <;> rfl

/-! ### A completion (R79, R92) -/

theorem withPhase_append (pos : Nat) (l : List Byte) (x : Byte) :
    withPhase pos (l ++ [x]) = l ++ [BitVec.ofNat 8 (x.toNat % 128 + phaseBit pos)] := by
  simp [withPhase, byteAt]

theorem canWrite_setRing (p q : HostPort) (n : Nat) (r : Ring) (s : State) :
    (s.setRing p n r).canWrite q = s.canWrite q := by
  have hmode : (s.setRing p n r).mode = s.mode := State.mode_of_keel0 (by simp)
  have hlink := setRing_link p n r q s
  simp only [linkOf, Prod.mk.injEq] at hlink
  simp [State.canWrite, hmode, hlink]

/-- The ring block after a completion at a position (R77, R87). -/
def Ring.tookCpl (pos : Nat) (r : Ring) : Ring := { r with cptr := r.succ pos, wcount := (r.wcount + 1) % 2 ^ 32 }

/-- The memory write of a completion at a position of a ring (R79). -/
def Ring.cplWrite (p : HostPort) (pos : Nat) (e : List Byte) (r : Ring) : Out :=
  .dma p (r.cbase + pos % 2 ^ 16 * 16) (withPhase pos e)

/-- A ring that does not interrupt, on a port that can write, takes a completion as one memory write. -/
theorem State.writeCpl_of_canWrite {p : HostPort} {n : Nat} {s : State} (hw : s.canWrite p = true)
    (hirq : (s.ring p n).irqEn = false) (pos : Nat) (e : List Byte) (now : Bool) :
    s.writeCpl p n pos e now =
      (s.setRing p n ((s.ring p n).tookCpl pos)).emit ((s.ring p n).cplWrite p pos e) := by
  simp [State.writeCpl, State.hostWrite, State.notify, canWrite_setRing, hw, hirq, Ring.tookCpl, Ring.cplWrite]

theorem State.copyCpl_of_disabled {p : HostPort} {x : Nat × List Byte} {s : State} (h : (s.ring p x.1).en = false) :
    s.copyCpl p x = s := if_pos (by rw [h]; rfl)

theorem State.flushLate_of_none {p : HostPort} {s : State} (h : (s.half p).late = []) : s.flushLate p = s := by
  rw [State.flushLate, h, List.foldl_nil]
  refine State.onHalf_of_fixed ?_
  rw [← h]

theorem State.late_setRing (p q : HostPort) (n : Nat) (r : Ring) (s : State) :
    ((s.setRing p n r).half q).late = (s.half q).late := by
  cases p <;> cases q <;> rfl

theorem State.late_restRing (p q : HostPort) (n : Nat) (s : State) :
    ((s.restRing p n).half q).late = (s.half q).late := by
  unfold State.restRing
  dsimp only
  split
  · exact State.late_setRing ..
  · rfl

/-- A ring that comes to rest changes in ACTIVE alone. -/
theorem State.ring_restRing {p : HostPort} {n : Nat} {s : State} (h : (s.ring p n).base ≠ 0) :
    ∃ b, (s.restRing p n).ring p n = { s.ring p n with active := b } := by
  unfold State.restRing
  dsimp only
  split
  · exact ⟨false, State.ring_setRing (by exact h) ..⟩
  · exact ⟨(s.ring p n).active, rfl⟩

/-- The state as a command's completion leaves it before its ring comes to rest. -/
def State.tookCpl (c : Cmd) (e : List Byte) (s : State) : State :=
  ((s.dropCmd c).setRing c.port c.ring ((s.ring c.port c.ring).tookCpl c.pos)).emit
    ((s.ring c.port c.ring).cplWrite c.port c.pos e)

theorem State.ring_tookCpl {c : Cmd} {s : State} (h : (s.ring c.port c.ring).base ≠ 0) (e : List Byte) :
    (s.tookCpl c e).ring c.port c.ring = (s.ring c.port c.ring).tookCpl c.pos := by
  rw [State.tookCpl, State.ring_emit]
  exact State.ring_setRing (by exact h) ..

theorem State.ring_tookCpl_peer (c : Cmd) (e : List Byte) (n : Nat) (s : State) :
    (s.tookCpl c e).ring c.port.peer n = s.ring c.port.peer n := by
  rw [State.tookCpl, State.ring_emit]
  exact State.ring_setRing_peer ..

theorem State.late_tookCpl (c : Cmd) (e : List Byte) (q : HostPort) (s : State) :
    ((s.tookCpl c e).half q).late = (s.half q).late :=
  State.late_setRing c.port q c.ring _ (s.dropCmd c)

/-- A command that is not muted, whose completion is one memory write and is not copied. -/
theorem State.complete_of_single {c : Cmd} {s : State} (hmute : c.mute = false) (hw : s.canWrite c.port = true)
    (hirq : (s.ring c.port c.ring).irqEn = false)
    (hcopy : mirroredOp c.opcode = false ∨ (s.ring c.port.peer c.ring).en = false)
    (hlate : (s.half c.port).late = []) (st : Status) (r0 r1 : Nat) :
    s.complete c st r0 r1 =
      (s.tookCpl c (cplBytes c (s.ring c.port c.ring) st r0 r1 false)).restRing c.port c.ring := by
  have hcpl : ∀ e now, (s.dropCmd c).writeCpl c.port c.ring c.pos e now = s.tookCpl c e := fun e now =>
    State.writeCpl_of_canWrite (s := s.dropCmd c) hw hirq c.pos e now
  have hnone : ∀ e x, (if mirroredOp c.opcode = true then (s.tookCpl c e).copyCpl c.port.peer (c.ring, x)
      else s.tookCpl c e) = s.tookCpl c e := by
    intro e x
    rcases hcopy with h | h
    · exact if_neg (by simp [h])
    · rw [State.copyCpl_of_disabled ((congrArg Ring.en (State.ring_tookCpl_peer ..)).trans h), ite_self]
  unfold State.complete
  simp only [hmute, Bool.false_eq_true, if_false, hw, or_true, if_true, hcpl, hnone]
  refine State.flushLate_of_none ?_
  rw [State.late_restRing, State.late_tookCpl, hlate]

/-- The bytes of a completion with its lap's PHASE alone in the last (R78, R92). -/
theorem withPhase_cplBytes (c : Cmd) (r : Ring) (st : Status) (r0 r1 : Nat) :
    withPhase c.pos (cplBytes c r st r0 r1 false) =
      cut c.bytes 4 4 ++ [c.bytes.getD 0 0, BitVec.ofNat 8 st.code] ++ toLE 2 ((c.pos % 2 ^ 16 + 1) % 2 ^ r.log2n)
        ++ toLE 4 r0 ++ toLE 3 r1 ++ [if bit c.pos 16 then 0x00 else 0x80] := by
  have hphase : BitVec.ofNat 8 ((BitVec.ofNat 8 (b2n false)).toNat % 128 + phaseBit c.pos) =
      if bit c.pos 16 then 0x00 else 0x80 := by
    unfold phaseBit
    split <;> rfl
  have hop : BitVec.ofNat 8 c.opcode = c.bytes.getD 0 0 := BitVec.ofNat_toNat ..
  rw [cplBytes, withPhase_append, hphase, hop]
  rfl

/-! ### Commands that complete at once (R96, R101) -/

theorem State.fenceDone_of_first {s : State} {c : Cmd} (h : ∀ d ∈ s.cmds, d.port = c.port → c.serial ≤ d.serial)
    (hp : s.flt.pend = []) : s.fenceDone c = true := by
  have hnone : (s.cmds.any fun d => d.port = c.port ∧ d.serial < c.serial) = false := by
    simpa only [List.any_eq_false, decide_eq_true_eq, not_and, Nat.not_lt] using h
  rw [State.fenceDone, hnone, hp]
  rfl

theorem execNotSupported_of_unknown {p : HostPort} {n : Fin 64} {c : Cmd} {s : State} (hc : s.headCmd p n = some c)
    (hs : s.startable c = true) (hop : c.opcode ∉ opcodes) :
    execNotSupported p n s = .next (s.complete c .notSupported 0 0) := by
  unfold execNotSupported
  rw [hc]
  exact congrArg Outcome.next (if_pos (by simp [hs, hop]))

/-! ### Doorbells (R83, R84) -/

theorem State.doorbellOk_of_idle {p : HostPort} {n : Nat} {s : State} (h : (s.ring p n).en = false ∨ p ≠ s.active) :
    s.doorbellOk p n = false := by
  rcases h with h | h <;> simp [State.doorbellOk, h]

theorem execProdDoorbell_of_closed {p : HostPort} {n : Fin 256} {s : State} (h : s.doorbellOk p n = false) (v : Word) :
    execProdDoorbell p n v s = .next s := congrArg Outcome.next (if_neg (by simp [h]))

theorem execConsDoorbell_of_closed {p : HostPort} {n : Fin 256} {s : State} (h : s.doorbellOk p n = false) (v : Word) :
    execConsDoorbell p n v s = .next s := congrArg Outcome.next (if_neg (by simp [h]))

section
variable {n : Fin 256} {s : State} (hen : (s.ring s.active n).en = true) (hsave : s.mode ≠ .save)
include hen hsave

theorem State.doorbellOk_of_enabled : s.doorbellOk s.active n = true := by
  simp [State.doorbellOk, hen, hsave]

theorem execProdDoorbell_of_open (hn : n.val < 64 ∨ 128 ≤ n.val) (v : Word) :
    execProdDoorbell s.active n v s = .next
      (if (s.ring s.active n).inRange v.toNat &&
          decide ((s.ring s.active n).dist (s.ring s.active n).ptr v.toNat ≤ 2 ^ (s.ring s.active n).log2n)
        then s.setRing s.active n { s.ring s.active n with prod := v.toNat, dbProd := v.toNat }
        else s.doorbellRefused s.active n) :=
  congrArg Outcome.next (if_pos (by simpa [State.doorbellOk_of_enabled hen hsave] using hn))

theorem execConsDoorbell_of_open (hn : n.val < 80) (v : Word) :
    execConsDoorbell s.active n v s = .next
      (if (s.ring s.active n).inRange v.toNat && decide ((s.ring s.active n).dist v.toNat
          (if n.val < 64 then (s.ring s.active n).cptr else (s.ring s.active n).ptr) ≤ 2 ^ (s.ring s.active n).log2n)
        then ((s.setRing s.active n { s.ring s.active n with
          cons := v.toNat, dbCons := v.toNat }).flushLate s.active).noteRoom
        else s.doorbellRefused s.active n) :=
  congrArg Outcome.next (if_pos (by simp [State.doorbellOk_of_enabled hen hsave, hn]))

end

/-! ### The registers of a ring (R87 to R90) -/

theorem execHiRingEnable_of_idle {h : HostPort} {n : Fin 256} {s : State} (hw : s.hiWriteOk h h = true)
    (hen : (s.ring h n).en = false) (hact : (s.ring h n).active = false) (hm : s.served = true ∨ s.mode = .safe)
    (hn : ringId n = true) :
    execHiRingEnable h h n s = .next (if ringOk n (s.ring h n) then (s.setRing h n (s.ring h n).started).noteRoom
      else s.setRing h n { s.ring h n with cfgErr := true }) :=
  congrArg Outcome.next (if_pos (by simpa [hw, hen, hact, hn] using hm))

theorem State.outstanding_of_none {p : HostPort} {n : Nat} {s : State}
    (hc : ∀ c ∈ s.cmds, ¬(c.port = p ∧ c.ring = n)) (hh : ∀ x ∈ (s.half p).held, x.ring ≠ n) :
    s.outstanding p n = false := by
  simp only [State.outstanding, Bool.or_eq_false_iff, List.any_eq_false, decide_eq_true_eq]
  exact ⟨hc, hh⟩

/-! ### Fetches, error completions and vectors -/

theorem execCommandFetch_of_ready {n : Fin 64} {desc : List Byte} {s : State} (hen : (s.ring s.active n).en = true)
    (hw : s.canWrite s.active = true) (hm : s.served = true ∨ s.mode = .safe)
    (hprod : (s.ring s.active n).prod ≠ (s.ring s.active n).ptr) (hslot : (s.ring s.active n).noSlot = false)
    (hdesc : desc.length = 64) :
    execCommandFetch s.active n desc s = .next
      { s.setRing s.active n { s.ring s.active n with
          ptr := (s.ring s.active n).succ (s.ring s.active n).ptr, active := true } with
        cmds := s.cmds ++ [{ port := s.active, ring := n, pos := (s.ring s.active n).ptr, bytes := desc,
                             serial := s.serial, waiting := false, mute := false, fetched := s.devTime }],
        serial := s.serial + 1 } :=
  congrArg Outcome.next (if_pos (by simpa [hen, hw, hprod, hslot, hdesc] using hm))

theorem State.sendVec_of_open {p : HostPort} {v : Nat} {s : State} (hw : s.canWrite p = true)
    (hmask : s.vecMasked p v = false) :
    s.sendVec p v = (s.onHalf p fun h => { h with vec := h.vec.set Vec.zero v Vec.zero }).emit (.msix p v) :=
  if_pos (by rw [hw, hmask]; rfl)

theorem execVectorTimerExpiry_of_due {p : HostPort} {v : Fin 64} {s : State}
    (hcount : 0 < ((s.half p).vec.get Vec.zero v).count) (hpend : ((s.half p).vec.get Vec.zero v).pend = false)
    (htimer : bits (s.rd (hiReg p (0x800 + 4 * v))) 27 16 ≠ 0)
    (hdue : bits (s.rd (hiReg p (0x800 + 4 * v))) 27 16 * 1000 ≤ s.now - ((s.half p).vec.get Vec.zero v).since) :
    execVectorTimerExpiry p v s = .next (s.sendVec p v) :=
  congrArg Outcome.next (if_pos (by simp [hcount, hpend, htimer, hdue]))

end Sys2Proof.Machine

namespace Sys2Proof.Proofs
open Sys2Proof.Machine
open Sys2Proof.Safety
open Host (Outcome)

/-- Settles O3: the completion is the one write of `State.tookCpl`, and the ring that then rests keeps its counts. -/
theorem completionIsWrittenInItsOwnSlot : Obligations.CompletionIsWrittenInItsOwnSlot := by
  unfold Obligations.CompletionIsWrittenInItsOwnSlot
  intro c st r0 r1 s hmute hw hbase hirq hcopy hlate
  dsimp only
  rw [State.complete_of_single hmute hw hirq hcopy hlate, ← withPhase_cplBytes]
  have htook := State.ring_tookCpl hbase (cplBytes c (s.ring c.port c.ring) st r0 r1 false)
  obtain ⟨b, hring⟩ := State.ring_restRing (s := s.tookCpl c (cplBytes c (s.ring c.port c.ring) st r0 r1 false))
    (by rw [htook]; exact hbase)
  rw [hring, htook]
  exact ⟨by simp [State.tookCpl, State.emit, Ring.cplWrite], by simp [State.tookCpl, State.dropCmd], rfl, rfl⟩

/-- Settles O4: the two plain commands by `State.runCmd_done`, the unknown opcode by its own row. -/
theorem plainCommandsComplete : Obligations.PlainCommandsComplete := by
  unfold Obligations.PlainCommandsComplete
  refine ⟨?_, ?_, ?_⟩
  · intro p n c s hruns
    exact congrArg Outcome.next (State.runCmd_done hruns rfl rfl rfl)
  · intro p n c s hruns hfirst hpend
    exact congrArg Outcome.next (State.runCmd_done hruns (State.fenceDone_of_first hfirst hpend) rfl rfl)
  · intro p n c s hhead hstart hop
    exact execNotSupported_of_unknown hhead hstart hop

/-- Settles O8: each register and doorbell write on the branch where it acts. -/
theorem ringsFollowTheirRegisters : Obligations.RingsFollowTheirRegisters := by
  unfold Obligations.RingsFollowTheirRegisters
  refine ⟨?_, ?_, ?_, ?_, ?_, ?_, ?_, ?_⟩
  · intro h n s hw hen hact hm hn hok
    exact (execHiRingEnable_of_idle hw hen hact hm hn).trans (congrArg Outcome.next (if_pos hok))
  · intro h n s hw hen hact hm hn hok
    exact (execHiRingEnable_of_idle hw hen hact hm hn).trans (congrArg Outcome.next (if_neg (by simp [hok])))
  · intro h n s hw
    exact congrArg Outcome.next (if_pos hw)
  · intro p n s hen hact hcmds hheld
    exact congrArg Outcome.next (if_pos (by simp [hen, hact, State.outstanding_of_none hcmds hheld]))
  · intro h n v s hw
    exact congrArg Outcome.next (if_pos hw)
  · intro n v s hen hsave hn hrange hdist
    exact (execProdDoorbell_of_open hen hsave hn v).trans
      (congrArg Outcome.next (if_pos (by simpa [hrange] using hdist)))
  · intro n v s hen hsave hn hrange hdist
    exact (execConsDoorbell_of_open hen hsave hn v).trans
      (congrArg Outcome.next (if_pos (by simpa [hrange] using hdist)))
  · intro n v s hen hsave hn hbad
    refine (execProdDoorbell_of_open hen hsave hn v).trans (congrArg Outcome.next (if_neg ?_))
    rcases hbad with hrange | hdist
    · simp [hrange]
    · simp [Nat.not_le.2 hdist]

/-- Settles O9: a fetch, an error completion and a due vector, each on the branch where it acts. -/
theorem ringTraffic : Obligations.RingTraffic := by
  unfold Obligations.RingTraffic
  refine ⟨?_, ?_, ?_⟩
  · intro n desc s hen hw hm hprod hslot hdesc
    exact execCommandFetch_of_ready hen hw hm hprod hslot hdesc
  · intro p n s hrun
    exact congrArg Outcome.next (if_pos (by simpa using hrun))
  · intro p v s hcount hpend htimer hdue hw hmask
    exact (execVectorTimerExpiry_of_due hcount hpend htimer hdue).trans
      (congrArg Outcome.next (State.sendVec_of_open hw hmask))

/-- Settles O55: a doorbell page takes no write for a ring that is not enabled, nor on the standby port. -/
theorem idleDoorbellsHaveNoEffect : Obligations.IdleDoorbellsHaveNoEffect := by
  unfold Obligations.IdleDoorbellsHaveNoEffect
  intro p n v s h
  have hclosed : s.doorbellOk p n = false := State.doorbellOk_of_idle (h.imp_right And.left)
  exact ⟨execProdDoorbell_of_closed hclosed v, execConsDoorbell_of_closed hclosed v⟩

end Sys2Proof.Proofs
end

section
/-! The active role moves, or its trigger is held, and the host ports' links (O5, O6, O7). -/
namespace Sys2Proof.Machine
open Sys2Proof.Safety
open Host (Outcome)

/-! ### The active role is a bit of keel register 1 (R114, R121) -/

theorem bit_rolesWithHost (s : State) (p : HostPort) : bit (s.rolesWithHost p) 2 = decide (p = .hb) := by
  cases p <;>
    simp [State.rolesWithHost, setBits, bit, bits, Nat.testBit_eq_decide_div_mod_eq, Nat.shiftRight_eq_div_pow] <;>
    omega

theorem State.active_commit (s t : State) (p : HostPort) : (t.commit 1 (s.rolesWithHost p)).active = p := by
  have hbit : bit (t.commit 1 (s.rolesWithHost p)).flt.keel1.voted 2 = decide (p = .hb) := bit_rolesWithHost s p
  rw [State.active, hbit]
  cases p <;> rfl

theorem State.active_congr {s t : State} (h : t.flt.keel1 = s.flt.keel1) : t.active = s.active := active_of (by rw [h])

theorem HostPort.peer_ne (p : HostPort) : p.peer ≠ p := by cases p <;> decide

/-! ### What a move of the role leaves of a half -/

/-- A half after a role change for a cause (R121). -/
def Half.marked (cause : Nat) (h : Half) : Half :=
  { h with lastCause := cause, changes := satInc 16 h.changes, noStandby := false }

/-- The role has moved: the roles, the marks of both halves, the rings of the new active port, and what was held of the
old one and of the triggers (R121, R125, R126). -/
def State.roleMoved (cause : Nat) (s : State) : State :=
  let s1 := s.commit 1 (s.rolesWithHost s.active.peer)
  let s2 := (s1.onHalf s.active (Half.marked cause)).onHalf s.active.peer fun h =>
    { h.marked cause with rings := takeOverRings h.rings }
  let s3 := if s2.canWrite s.active then s2 else s2.onHalf s.active fun h => { h with held := [] }
  { s3 with host.heldBeat := false, host.heldLink := false, host.heldSel := false, host.heldHand := false }

theorem State.roleChange_of_free {s : State} (h : s.flt.keel1.stuck = false) (cause : Nat) :
    s.roleChange cause = (true, (((s.roleMoved cause).flushLate s.active).raise (portSrc s.active.peer) 4 .ce
      (packItems [(3, cause)])).noteRoom) := by
  have hkeel := keelChange_ok 1 (s.rolesWithHost s.active.peer) s h
  unfold State.roleChange
  dsimp only
  rw [hkeel]
  rfl

theorem State.roleChange_of_stuck {s : State} (h : s.flt.keel1.stuck = true) (cause : Nat) :
    s.roleChange cause = (false, s.keelRefused 1) := by
  have hkeel : s.keelChange 1 (s.rolesWithHost s.active.peer) = (false, s.keelRefused 1) := if_pos h
  unfold State.roleChange
  dsimp only
  rw [hkeel]
  rfl

theorem State.active_roleMoved (cause : Nat) (s : State) : (s.roleMoved cause).active = s.active.peer := by
  refine (State.active_congr (s := s.commit 1 (s.rolesWithHost s.active.peer)) ?_).trans (State.active_commit ..)
  unfold State.roleMoved
  dsimp only
  split <;> simp

/-- Both halves are marked; the rings may be taken over, and what was held let go. -/
theorem State.half_roleMoved (cause : Nat) (q : HostPort) (s : State) :
    ∃ rings held, (s.roleMoved cause).half q = { (s.half q).marked cause with rings := rings, held := held } ∧
      (held = (s.half q).held ∨ held = []) := by
  have hcommit : ∀ p, (s.commit 1 (s.rolesWithHost s.active.peer)).half p = s.half p := half_congr (by simp)
  unfold State.roleMoved
  dsimp only
  generalize s.commit 1 (s.rolesWithHost s.active.peer) = u at hcommit ⊢
  rw [← hcommit q]
  cases s.active with
  | ha => cases q with
    | ha => split
            · exact ⟨_, _, rfl, .inl rfl⟩
            · exact ⟨_, _, rfl, .inr rfl⟩
    | hb => split <;> exact ⟨_, _, rfl, .inl rfl⟩
  | hb => cases q with
    | ha => split <;> exact ⟨_, _, rfl, .inl rfl⟩
    | hb => split
            · exact ⟨_, _, rfl, .inl rfl⟩
            · exact ⟨_, _, rfl, .inr rfl⟩

/-- While keel register 1 is not stuck the role moves (R120, R121). -/
theorem State.roleChange_moved {s : State} (h : s.flt.keel1.stuck = false) (cause : Nat) :
    moved cause s (s.roleChange cause).2 := by
  rw [State.roleChange_of_free h]
  dsimp only
  refine ⟨(State.active_congr (s := s.roleMoved cause) (by simp)).trans (State.active_roleMoved ..), fun q => ?_⟩
  obtain ⟨rings, held, hhalf, -⟩ := State.half_roleMoved cause q s
  have hlink := flushLate_link s.active q (s.roleMoved cause)
  rw [hhalf] at hlink
  simp only [linkOf, Prod.mk.injEq] at hlink
  rw [half_congr (s := (s.roleMoved cause).flushLate s.active) (by simp)]
  obtain ⟨-, -, -, -, -, -, -, -, -, -, hcause, hchanges, -⟩ := hlink
  exact ⟨hcause, hchanges⟩

/-! ### Triggers (R117, R118) -/

theorem State.trigger_of_free {s : State} (h : s.flt.keel1.stuck = false) (cause : Nat) :
    s.trigger cause true = (s.roleChange cause).2 := by
  unfold State.trigger
  rw [if_pos rfl, State.roleChange_of_free h]

theorem State.trigger_moved {s : State} (h : s.flt.keel1.stuck = false) (cause : Nat) :
    moved cause s (s.trigger cause true) := by
  rw [State.trigger_of_free h]
  exact State.roleChange_moved h cause

theorem State.trigger_of_failed {cause : Nat} (h : cause ≠ 4) (s : State) :
    s.trigger cause false = (s.noStandby cause).holdTrigger cause := by
  unfold State.trigger
  rw [if_neg (by decide), if_neg h]

theorem State.trigger_failed_active {cause : Nat} (h : cause ≠ 4) (s : State) :
    (s.trigger cause false).active = s.active := by
  rw [State.trigger_of_failed h]
  exact State.active_congr (by simp)

/-- A failed heartbeat or link trigger sets NO_STANDBY of the active port (R118). -/
theorem State.noStandby_half {cause : Nat} (h : cause = 1 ∨ cause = 2) (s : State) :
    ((s.noStandby cause).half s.active).noStandby = true := by
  have hact : (s.raise (portSrc s.active) 3 .ce (packItems [(3, cause)])).active = s.active :=
    State.active_congr (by simp)
  unfold State.noStandby
  dsimp only
  rw [if_pos h, hact, State.half_onHalf]

theorem State.half_holdTrigger (cause : Nat) (q : HostPort) (s : State) : (s.holdTrigger cause).half q = s.half q := by
  unfold State.holdTrigger
  split <;> cases q <;> rfl

theorem moved_congr {cause : Nat} {s u t : State} (h : moved cause u t) (hact : u.active = s.active)
    (hch : ∀ p, (u.half p).changes = (s.half p).changes) : moved cause s t := by
  obtain ⟨ht, hq⟩ := h
  refine ⟨by rw [ht, hact], fun p => ?_⟩
  rw [← hch p]
  exact hq p

/-! ### The events that are triggers -/

theorem execHostSelNFall_of_low {s : State} {ns : Nat} (hns : 1000 ≤ ns) (halive : s.hostAlive = true) (acts : Bool) :
    execHostSelNFall ns acts s = .next
      (State.trigger 3 (s.half s.active.peer).linkUp { s with pins.hostSelN := false }) :=
  congrArg Outcome.next ((if_pos (lowActs_of_le hns ..)).trans (if_pos halive))

/-- The port's half shows no link (R86). -/
def State.linkLost (p : HostPort) (s : State) : State :=
  s.onHalf p fun h => { h with linkUp := false, rate := 0, width := 0 }

theorem State.active_linkLost (p : HostPort) (s : State) : (s.linkLost p).active = s.active :=
  State.active_congr (by simp [State.linkLost])

theorem State.changes_linkLost (p q : HostPort) (s : State) :
    ((s.linkLost p).half q).changes = (s.half q).changes := by
  cases p <;> cases q <;> rfl

theorem State.eligible_congr {p : HostPort} {s t : State} (hh : t.half p = s.half p) (hn : t.now = s.now)
    (hr : t.regs = s.regs) : t.eligible p = s.eligible p := by
  have hage : t.ageUnits p = s.ageUnits p := by rw [State.ageUnits, hh, hn, State.ageUnits]
  have htime : t.hbTimeout p = s.hbTimeout p := by rw [State.hbTimeout, rd_of hr, State.hbTimeout]
  unfold State.eligible State.ageBelow
  rw [hage, htime, hh]

theorem State.eligible_linkLost (p : HostPort) (s : State) : (s.linkLost p).eligible p.peer = s.eligible p.peer :=
  State.eligible_congr (State.half_onHalf_peer ..) (by simp [State.linkLost]) (by simp [State.linkLost])

theorem execPcieLinkDown_of_active {s : State} (h : (s.half s.active).linkUp = true) :
    execPcieLinkDown s.active s = .next ((s.linkLost s.active).trigger 2 (s.eligible s.active.peer)) := by
  refine congrArg Outcome.next ((if_pos h).trans ((if_pos (State.active_linkLost ..).symm).trans ?_))
  exact congrArg (fun c => (s.linkLost s.active).trigger 2 c) (State.eligible_linkLost ..)

theorem execHeartbeatTimeout_of_late {s : State} (halive : s.hostAlive = true)
    (hsup : (s.half s.active).supervised = true) (hage : s.ageExceeds s.active = true)
    (hheld : s.host.heldBeat = false) :
    execHeartbeatTimeout s = .next (s.trigger 1 (s.eligible s.active.peer)) :=
  congrArg Outcome.next (if_pos (by simp [halive, hsup, hage, hheld]))

/-- A handover takes on the active host's own half alone, with GO and GUARD (R86, R122, R589). -/
theorem execHiHandover_of_refused {p half : HostPort} {v : Word} {s : State}
    (h : p ≠ half ∨ p ≠ s.active ∨ bit v.toNat 0 = false ∨ bits v.toNat 31 16 ≠ 0x5120) :
    execHiHandover p half v s = .next s := by
  refine congrArg Outcome.next (if_neg ?_)
  rcases h with h | h | h | h <;> simp [State.hiWriteOk, h]

theorem execRevertHoldExpiry_of_held {s : State} {since : Nat} (halive : s.hostAlive = true)
    (hpref : s.preferred = s.active.peer) (hage : s.ageBelow s.preferred = true)
    (hbelow : (s.half s.preferred).below = some since)
    (hlong : bits (s.rd (hiReg s.preferred 0xC)) 19 0 * 1000000 ≤ s.now - since) (hsel : s.pins.hostSelN = true) :
    execRevertHoldExpiry s = .next (s.roleChange 5).2 := by
  have hne : s.preferred ≠ s.active := by rw [hpref]; exact HostPort.peer_ne _
  exact congrArg Outcome.next (if_pos (by simp [halive, hne, hage, hbelow, hlong, hsel]))

end Sys2Proof.Machine

namespace Sys2Proof.Proofs
open Sys2Proof.Machine
open Sys2Proof.Safety
open Host (Outcome)

/-- Settles O5: each event is a trigger whose condition holds, and `State.roleChange_moved` says where that leads. -/
theorem triggersMoveTheActiveRole : Obligations.TriggersMoveTheActiveRole := by
  unfold Obligations.TriggersMoveTheActiveRole
  refine ⟨?_, ?_, ?_, ?_, ?_⟩
  · intro ns acts s hns halive hfree hlink
    refine ⟨_, execHostSelNFall_of_low hns halive acts, ?_, by simp⟩
    rw [hlink]
    exact moved_congr (State.trigger_moved (s := { s with pins.hostSelN := false }) hfree 3) rfl fun _ => rfl
  · intro s hlink hfree hel
    refine ⟨_, execPcieLinkDown_of_active hlink, ?_, ?_⟩
    · rw [hel]
      exact moved_congr (State.trigger_moved (by simpa [State.linkLost] using hfree) 2) (State.active_linkLost ..)
        fun q => State.changes_linkLost s.active q s
    · have hwire := State.trigger_wire 2 (s.eligible s.active.peer) s.active (s.linkLost s.active)
      simp only [wireOf, Prod.mk.injEq] at hwire
      obtain ⟨-, hup, -⟩ := hwire
      exact hup.trans (congrArg Half.linkUp (State.half_onHalf ..))
  · intro v s hw hgo hguard hfree hel
    refine ⟨_, congrArg Outcome.next (if_pos (by simp [hw, hgo, hguard])), ?_⟩
    rw [hel]
    exact State.trigger_moved hfree 4
  · intro s halive hsup hage hheld hfree hel
    refine ⟨_, execHeartbeatTimeout_of_late halive hsup hage hheld, ?_⟩
    rw [hel]
    exact State.trigger_moved hfree 1
  · intro s since halive hpref hage hbelow hlong hsel hfree
    exact ⟨_, execRevertHoldExpiry_of_held halive hpref hage hbelow hlong hsel, State.roleChange_moved hfree 5⟩

/-- Settles O6: a trigger whose condition fails is held by `State.trigger_of_failed`. -/
theorem failedTriggersAreHeld : Obligations.FailedTriggersAreHeld := by
  unfold Obligations.FailedTriggersAreHeld
  refine ⟨?_, ?_, ?_, ?_⟩
  · intro ns acts s hns halive hlink
    refine ⟨_, execHostSelNFall_of_low hns halive acts, ?_⟩
    rw [hlink]
    have hheld := State.trigger_of_failed (cause := 3) (by decide) { s with pins.hostSelN := false }
    exact ⟨State.trigger_failed_active (by decide) _, congrArg (fun t => t.host.heldSel) hheld⟩
  · intro s hlink hel
    refine ⟨_, execPcieLinkDown_of_active hlink, ?_⟩
    rw [hel]
    have hheld := State.trigger_of_failed (cause := 2) (by decide) (s.linkLost s.active)
    have hact := State.active_linkLost s.active s
    refine ⟨(State.trigger_failed_active (by decide) _).trans hact, congrArg (fun t => t.host.heldLink) hheld, ?_⟩
    have hno := State.noStandby_half (.inr rfl) (s.linkLost s.active)
    rw [hact] at hno
    rwa [hheld, State.half_holdTrigger]
  · intro s halive hsup hage hheld hel
    refine ⟨_, execHeartbeatTimeout_of_late halive hsup hage hheld, ?_⟩
    rw [hel]
    have hheld := State.trigger_of_failed (cause := 1) (by decide) s
    refine ⟨State.trigger_failed_active (by decide) _, congrArg (fun t => t.host.heldBeat) hheld, ?_⟩
    rw [hheld, State.half_holdTrigger]
    exact State.noStandby_half (.inl rfl) _
  · intro p half v s h
    exact execHiHandover_of_refused h

end Sys2Proof.Proofs
end

section
/-! Links, Bus Master Enable, D3hot, heartbeats and the boot choice of the host ports (O7). -/
namespace Sys2Proof.Machine
open Sys2Proof.Safety
open Host (Outcome)

/-! ### What settling the role leaves of a half -/

/-- What a port's link, its configuration space and its host's heartbeats say (R70, R86, R116). -/
def lineOf (h : Half) := (h.linkUp, h.rate, h.width, h.bme, h.d3hot, h.beat, h.supervised)

/-- The line stands, and a port that holds no write back still holds none. -/
def Half.Settled (h k : Half) : Prop := lineOf k = lineOf h ∧ (h.held = [] → k.held = [])

theorem Half.Settled.refl (h : Half) : h.Settled h := ⟨rfl, id⟩

theorem Half.Settled.trans {h k l : Half} (a : h.Settled k) (b : k.Settled l) : h.Settled l :=
  ⟨b.1.trans a.1, fun e => b.2 (a.2 e)⟩

theorem lineOf_of_linkOf {h k : Half} (e : linkOf h = linkOf k) : lineOf h = lineOf k := by
  simp only [linkOf, Prod.mk.injEq] at e
  simp [lineOf, e]

theorem onHalf_settled {f : Half → Half} (p q : HostPort) (s : State)
    (hf : ∀ h : Half, h.Settled (f h) := by exact fun _ => ⟨rfl, id⟩) :
    (s.half q).Settled ((s.onHalf p f).half q) := by
  cases p with
  | ha => cases q with
    | ha => exact hf _
    | hb => exact ⟨rfl, id⟩
  | hb => cases q with
    | ha => exact ⟨rfl, id⟩
    | hb => exact hf _

theorem settled_of_host {s t : State} (h : t.host = s.host) (q : HostPort) : (s.half q).Settled (t.half q) := by
  rw [half_congr h]
  exact .refl _

/-! ### Writes held back (R72) -/

theorem held_onHalf {f : Half → Half} (p q : HostPort) (s : State)
    (hf : ∀ h : Half, (f h).held = h.held := by exact fun _ => rfl) :
    ((s.onHalf p f).half q).held = (s.half q).held := by
  cases p with
  | ha => cases q with
    | ha => exact hf _
    | hb => rfl
  | hb => cases q with
    | ha => rfl
    | hb => exact hf _

theorem held_setRing (p q : HostPort) (n : Nat) (r : Ring) (s : State) :
    ((s.setRing p n r).half q).held = (s.half q).held := held_onHalf p q s

theorem held_restRing (p q : HostPort) (n : Nat) (s : State) : ((s.restRing p n).half q).held = (s.half q).held := by
  unfold State.restRing
  dsimp only
  split
  · exact held_setRing ..
  · rfl

theorem held_sendVec (p q : HostPort) (v : Nat) (s : State) : ((s.sendVec p v).half q).held = (s.half q).held := by
  unfold State.sendVec
  dsimp only
  split
  · exact held_onHalf p q s
  · exact held_onHalf p q s

theorem held_notify (p q : HostPort) (r : Ring) (now : Bool) (s : State) :
    ((s.notify p r now).half q).held = (s.half q).held := by
  unfold State.notify
  dsimp only
  split
  · split
    · exact (held_sendVec ..).trans (held_onHalf p q s)
    · exact held_onHalf p q s
  · rfl

section
variable {p : HostPort}

/-- A standby port holds no write back (R125). -/
theorem held_hostWrite {s : State} (hp : p ≠ s.active) (q : HostPort) (n addr : Nat) (data : List Byte) :
    ((s.hostWrite p n addr data).half q).held = (s.half q).held := by
  unfold State.hostWrite
  split
  · rfl
  · rfl

theorem held_writeCpl {s : State} (hp : p ≠ s.active) (q : HostPort) (n pos : Nat) (e : List Byte) (now : Bool) :
    ((s.writeCpl p n pos e now).half q).held = (s.half q).held := by
  unfold State.writeCpl
  dsimp only
  rw [held_notify, held_hostWrite (by rwa [State.active_congr (s := s) (by simp)]), held_setRing]

theorem held_copyCpl {s : State} (hp : p ≠ s.active) (q : HostPort) (x : Nat × List Byte) :
    ((s.copyCpl p x).half q).held = (s.half q).held := by
  unfold State.copyCpl
  dsimp only
  rw [if_neg hp]
  split
  · rfl
  split
  · exact held_writeCpl hp ..
  · rfl

theorem held_flushLate {s : State} (hp : p ≠ s.active) (q : HostPort) :
    ((s.flushLate p).half q).held = (s.half q).held := by
  have hstart : ((s.onHalf p fun h => { h with late := [] }).active = s.active) := State.active_congr (by simp)
  refine (List.foldlRecOn (motive := fun t : State => t.active = s.active ∧ (t.half q).held = (s.half q).held)
    _ _ ⟨hstart, held_onHalf p q s⟩ ?_).2
  rintro t ⟨hact, hheld⟩ x -
  exact ⟨(State.active_congr (by simp)).trans hact, (held_copyCpl (by rwa [hact]) q x).trans hheld⟩

end

/-! ### Settling the role -/

theorem roleChange_settled (cause : Nat) (q : HostPort) (s : State) :
    (s.half q).Settled ((s.roleChange cause).2.half q) := by
  cases h : s.flt.keel1.stuck with
  | true =>
    rw [State.roleChange_of_stuck h]
    exact settled_of_host (by simp) q
  | false =>
    rw [State.roleChange_of_free h]
    obtain ⟨rings, held, hhalf, hheld⟩ := State.half_roleMoved cause q s
    have hmoved : (s.half q).Settled ((s.roleMoved cause).half q) := by
      rw [hhalf]
      exact ⟨rfl, fun e => hheld.elim (·.trans e) id⟩
    have hne : s.active ≠ (s.roleMoved cause).active := by
      rw [State.active_roleMoved]
      exact (HostPort.peer_ne _).symm
    have hflush : ((s.roleMoved cause).half q).Settled (((s.roleMoved cause).flushLate s.active).half q) :=
      ⟨lineOf_of_linkOf (flushLate_link ..), fun e => (held_flushLate hne q).trans e⟩
    exact (hmoved.trans hflush).trans (settled_of_host (by simp) q)

theorem noStandby_settled (cause : Nat) (q : HostPort) (s : State) :
    (s.half q).Settled ((s.noStandby cause).half q) := by
  have hraise := settled_of_host (s := s) (t := s.raise (portSrc s.active) 3 .ce (packItems [(3, cause)])) (by simp) q
  unfold State.noStandby
  dsimp only
  split
  · exact hraise.trans (onHalf_settled _ q _)
  · exact hraise

theorem settle_settled (q : HostPort) (s : State) : (s.half q).Settled (s.settle.half q) := by
  unfold State.settle
  dsimp only
  split
  · exact roleChange_settled ..
  split
  · exact roleChange_settled ..
  split
  · exact roleChange_settled ..
  split
  · split
    · exact roleChange_settled ..
    · cases q <;> exact noStandby_settled 4 _ _
  split
  · cases q <;> exact onHalf_settled _ _ _
  · cases q <;> exact .refl _

/-! ### A port that can issue requests again (R72, R87, R113) -/

/-- The link facts of a half with the writes that it holds back. -/
def portOf (h : Half) := (linkOf h, h.held)

theorem portOf_restRing (p q : HostPort) (n : Nat) (s : State) :
    portOf ((s.restRing p n).half q) = portOf (s.half q) :=
  Prod.ext (restRing_link ..) (held_restRing ..)

theorem portOf_sendVec (p q : HostPort) (v : Nat) (s : State) : portOf ((s.sendVec p v).half q) = portOf (s.half q) :=
  Prod.ext (sendVec_link ..) (held_sendVec ..)

theorem half_noteRoom (q : HostPort) (s : State) : s.noteRoom.half q = s.half q := half_congr (by simp) q

theorem State.resume_of_dead {p : HostPort} {s : State} (h : s.canWrite p = false) : s.resume p = s :=
  if_neg (by simp [h])

theorem portOf_resume {p : HostPort} {s : State} (hw : s.canWrite p = true) (q : HostPort) :
    portOf ((s.resume p).half q) = portOf ((s.onHalf p fun h => { h with held := [] }).half q) := by
  have hemit : ∀ (t : State) (x : Held), portOf ((t.emit (.dma p x.addr x.data)).half q) = portOf (t.half q) :=
    fun t x => congrArg portOf (half_congr (by simp) q)
  have hrest : ∀ (t : State) (x : Held), portOf ((t.restRing p x.ring).half q) = portOf (t.half q) :=
    fun t x => portOf_restRing p q x.ring t
  have hvec : ∀ (t : State) (v : Nat), portOf ((t.sendVec p v).half q) = portOf (t.half q) :=
    fun t v => portOf_sendVec p q v t
  unfold State.resume
  dsimp only
  rw [if_pos hw, half_noteRoom, foldl_keeps (fun t => portOf (t.half q)) _ hvec,
    foldl_keeps (fun t => portOf (t.half q)) _ hrest, foldl_keeps (fun t => portOf (t.half q)) _ hemit]
  cases p <;> cases q <;> rfl

theorem lineOf_resume (p q : HostPort) (s : State) : lineOf ((s.resume p).half q) = lineOf (s.half q) := by
  cases hw : s.canWrite p with
  | true =>
    refine (lineOf_of_linkOf (congrArg Prod.fst (portOf_resume hw q))).trans (lineOf_of_linkOf ?_)
    refine onHalf_link _ ?_ p q s
    exact fun _ => rfl
  | false => rw [State.resume_of_dead hw]

theorem canWrite_of_lineOf {p : HostPort} {s t : State} (hl : lineOf (t.half p) = lineOf (s.half p))
    (hk : t.flt.keel0 = s.flt.keel0) : t.canWrite p = s.canWrite p := by
  simp only [lineOf, Prod.mk.injEq] at hl
  simp [State.canWrite, hl, State.mode_of_keel0 hk]

/-- A port that can write after it has tried to resume has written what it held back (R72). -/
theorem held_resume {p : HostPort} {s : State} (h : (s.resume p).canWrite p = true) :
    ((s.resume p).half p).held = [] := by
  have hw : s.canWrite p = true := (canWrite_of_lineOf (lineOf_resume ..) (by simp)).symm.trans h
  refine (congrArg Prod.snd (portOf_resume hw p)).trans ?_
  exact congrArg Half.held (State.half_onHalf ..)

/-- Resuming and settling leave the line as it is. -/
theorem lineOf_resume_settle (p q : HostPort) (s : State) :
    lineOf ((s.resume p).settle.half q) = lineOf (s.half q) := by
  obtain ⟨hline, -⟩ := settle_settled q (s.resume p)
  exact hline.trans (lineOf_resume ..)

theorem held_resume_settle {p : HostPort} {s : State} (h : (s.resume p).settle.canWrite p = true) :
    ((s.resume p).settle.half p).held = [] := by
  obtain ⟨hline, hheld⟩ := settle_settled p (s.resume p)
  exact hheld (held_resume ((canWrite_of_lineOf hline (by simp)).symm.trans h))

/-! ### The events -/

theorem linkFieldsOk_of_mem {rate width : Nat} (hr : rate ∈ [3, 4, 5, 6]) (hw : width ∈ [1, 2, 4]) :
    linkFieldsOk rate width = true := by
  simp only [linkFieldsOk, Bool.and_eq_true, List.contains_iff_mem]
  exact ⟨hr, hw⟩

theorem execPcieLinkUp_of_trained {p : HostPort} {rate width : Nat} {s : State} (hr : rate ∈ [3, 4, 5, 6])
    (hw : width ∈ [1, 2, 4]) (hcap : rate ≤ s.rateCap p) (hperst : (s.half p).perst = false)
    (halive : s.hostAlive = true) (hpll : (s.clk.judge.get Judge.zero (hostPll p)).stable = true) :
    execPcieLinkUp p rate width s = .next
      (((s.onHalf p fun h => { h with linkUp := true, rate := rate, width := width }).resume p).settle) :=
  congrArg Outcome.next (if_pos (by simp [linkFieldsOk_of_mem hr hw, hcap, hperst, halive, hpll]))

theorem execPcieLinkDown_of_standby {s : State} (h : (s.half s.active.peer).linkUp = true) :
    execPcieLinkDown s.active.peer s = .next (s.linkLost s.active.peer) := by
  refine congrArg Outcome.next ((if_pos h).trans (if_neg fun e => ?_))
  exact HostPort.peer_ne s.active (e.trans (State.active_linkLost ..))

/-- A port in D3hot issues nothing, so entering it resumes nothing. -/
theorem execD3hot_enter (p : HostPort) (s : State) :
    execD3hot p true s = .next (s.onHalf p fun h => { h with d3hot := true }) := by
  refine congrArg Outcome.next (State.resume_of_dead ?_)
  simp [State.canWrite, State.half_onHalf]

theorem execHeartbeat_of_link {p : HostPort} {s : State} (halive : s.hostAlive = true) (hsave : s.mode ≠ .save)
    (hlink : (s.half p).linkUp = true) :
    execHeartbeat p s = .next (s.onHalf p fun h => { h with
      supervised := true, beat := some s.now,
      below := if s.ageBelow p then (s.half p).below else some s.now }).settle :=
  congrArg Outcome.next (if_pos (by simp [halive, hsave, hlink]))

/-- The boot choice has been made (R115). -/
def State.choseBoot (s : State) : State := { s with host.bootChosen := true }

theorem State.half_choseBoot (p : HostPort) (s : State) : s.choseBoot.half p = s.half p := by cases p <;> rfl

/-- The boot choice of the port that is not preferred, while keel register 1 is not stuck: no role change (R115). -/
theorem execBootChoiceTimer_of_other {s : State} (halive : s.hostAlive = true) (hfirst : s.host.bootChosen = false)
    (hdue : s.md.bootAt + 100000000 ≤ s.now) (hpref : s.active = s.preferred)
    (hdown : (s.half s.active).linkUp = false) (hup : (s.half s.active.peer).linkUp = true)
    (hfree : s.flt.keel1.stuck = false) :
    execBootChoiceTimer s = .next (((s.choseBoot.commit 1 (s.rolesWithHost s.active.peer)).onHalf .ha
      fun h => { h with lastCause := 0 }).onHalf .hb fun h => { h with lastCause := 0 }) := by
  have hsame : s.choseBoot.preferred = s.active := hpref.symm
  have hmoves : (decide (s.choseBoot.active = s.active) && !(s.choseBoot.half s.active).linkUp &&
      (s.choseBoot.half s.active.peer).linkUp) = true := by
    have hact : s.choseBoot.active = s.active := rfl
    rw [State.half_choseBoot, State.half_choseBoot, hdown, hup, hact]
    simp
  have hkeel := keelChange_ok 1 (s.choseBoot.rolesWithHost s.active.peer) s.choseBoot hfree
  unfold execBootChoiceTimer
  rw [← State.choseBoot]
  dsimp only
  rw [if_pos (by simp [halive, hfirst, hdue]), hsame, if_pos hmoves, hkeel]
  rfl

end Sys2Proof.Machine

namespace Sys2Proof.Proofs
open Sys2Proof.Machine
open Sys2Proof.Safety
open Host (Outcome)

/-- Settles O7: what resuming and settling leave of the line, and the boot choice as a commit of the roles. -/
theorem hostPortEvents : Obligations.HostPortEvents := by
  unfold Obligations.HostPortEvents
  refine ⟨?_, ?_, ?_, ?_, ?_, ?_, ?_, ?_, ?_⟩
  · intro s
    rfl
  · intro s h
    exact execPcieLinkDown_of_standby h
  · intro p rate width s hr hw hcap hperst halive hpll
    refine ⟨_, execPcieLinkUp_of_trained hr hw hcap hperst halive hpll, ?_⟩
    have hline := lineOf_resume_settle p p (s.onHalf p fun h => { h with linkUp := true, rate := rate, width := width })
    rw [State.half_onHalf] at hline
    simp only [lineOf, Prod.mk.injEq] at hline
    obtain ⟨hup, hrate, hwidth, -⟩ := hline
    exact ⟨hup, hrate, hwidth⟩
  · intro p s
    rfl
  · intro p s
    refine ⟨_, rfl, ?_, held_resume_settle⟩
    have hline := lineOf_resume_settle p p (s.onHalf p fun h => { h with bme := true })
    rw [State.half_onHalf] at hline
    simp only [lineOf, Prod.mk.injEq] at hline
    obtain ⟨-, -, -, hbme, -⟩ := hline
    exact hbme
  · intro p s
    exact execD3hot_enter p s
  · intro p s
    refine ⟨_, rfl, ?_, held_resume⟩
    have hline := lineOf_resume p p (s.onHalf p fun h => { h with d3hot := false })
    rw [State.half_onHalf] at hline
    simp only [lineOf, Prod.mk.injEq] at hline
    obtain ⟨-, -, -, -, hd3, -⟩ := hline
    exact hd3
  · intro p s halive hsave hlink
    refine ⟨_, execHeartbeat_of_link halive hsave hlink, ?_⟩
    obtain ⟨hline, -⟩ := settle_settled p (s.onHalf p fun h => { h with
      supervised := true, beat := some s.now, below := if s.ageBelow p then (s.half p).below else some s.now })
    rw [State.half_onHalf] at hline
    simp only [lineOf, Prod.mk.injEq] at hline
    obtain ⟨-, -, -, -, -, hbeat, hsup⟩ := hline
    exact ⟨hbeat, hsup⟩
  · intro s halive hfirst hdue hpref hdown hup hfree
    refine ⟨_, execBootChoiceTimer_of_other halive hfirst hdue hpref hdown hup hfree, ?_, rfl, fun p => ?_⟩
    · refine (State.active_congr ?_).trans (State.active_commit s s.choseBoot s.active.peer)
      simp
    · cases p <;> exact ⟨rfl, rfl⟩

end Sys2Proof.Proofs
end

section
/-! Frames leave a port, reach the host, and come from the host (O22). -/
namespace Sys2Proof.Machine
open Sys2Proof.Safety
open Host (Outcome)

/-! ### A frame leaves its port (R302, R343, R352) -/

theorem State.leave_of_clean {t : Tx} {p : Nat} {pick : Draw} {s u : State} (hlate : t.d.late = .none)
    (hread : s.readTiles t.d.h t.d.owner (s.dataOf t.d.h).length = (none, u)) :
    s.leave t p pick = if u.isRecirc p then u.recirculate t p pick (body (s.dataOf t.d.h))
      else u.sendFrame t p pick false (s.dataOf t.d.h) := by
  unfold State.leave
  dsimp only
  rw [if_neg (by simp [hlate]), hread, if_neg (by simp)]
  rfl

theorem execFrameEgress_of_owned {p : Port} {ups : Upset} {t : Tx} {s s1 : State} (pick : Draw)
    (hfind : (s.upset ups).core.tx.find? (fun e => e.1 = p.val) = some (p.val, t)) (hlive : s.bufLive = true)
    (htile : t.d.tileAt ≤ s.now)
    (hs1 : s1 = ({ s.upset ups with core.tx := (s.upset ups).core.tx.erase p.val }).settleRefunds)
    (hown : s1.buf.check t.d.h t.d.owner = none) :
    execFrameEgress p ups pick.pos pick.lost s = .next (s1.leave t p pick).pfcUpdate := by
  unfold execFrameEgress
  dsimp only
  rw [hfind]
  dsimp only
  rw [if_neg (by simp [hlive, htile]), ← hs1, hown]

/-! ### The editor (R347) -/

theorem State.editFrame_of_plain (s : State) {x : NodeIn} (h : x.d.plain = true) (b : List Byte) :
    s.editFrame x b = { bytes := b, act := .none, ovf := false } := if_pos h

theorem editPass_of_unmarked {d : Desc} (hecn : d.ecn = false) (hdei : d.yelDei = false) (hrtag : d.rtag = none)
    (hpop : d.pop = false) (b : List Byte) : editPass d b = b := by
  unfold editPass
  rw [hecn, hdei, hrtag, hpop]
  cases outerIp d.hdrs <;> rfl

/-! ### Delivery to the host (R107, R388) -/

section
variable {ups : Upset} {pick : Draw} {q : Nat} {d : Desc} {rest : List Desc} {s s1 t : State}
  (hlive : s.bufLive = true) (hs1 : s1 = (s.upset ups).bringCopies pick) (hnext : s1.nextCpu = some q)
  (hqueue : s1.queue (cpuKey q) = d :: rest) (ht : t = { s1.setQueue (cpuKey q) rest with sch.cpuTurn := q })
include hlive hs1 hnext hqueue ht

theorem execCpuQueueService_of_head (desc : List Byte) :
    execCpuQueueService desc ups pick s = .next (t.deliver q d desc pick).pfcUpdate := by
  unfold execCpuQueueService
  dsimp only
  rw [if_neg (by simp [hlive]), ← hs1, hnext]
  dsimp only
  rw [hqueue, ht]

end

theorem State.deliver_of_disabled {q : Nat} {d : Desc} {t : State} (hown : t.buf.check d.h d.owner = none)
    (hen : (t.ring t.active (128 + q)).en = false) (desc : List Byte) (pick : Draw) :
    t.deliver q d desc pick = ((t.setRing t.active (128 + q)
      { t.ring t.active (128 + q) with drop := satInc 32 (t.ring t.active (128 + q)).drop }).done d).2 := by
  unfold State.deliver
  dsimp only
  rw [hown]
  exact if_pos (by simp [hen])

/-- The bytes of a frame of `n` bytes that are read for the host (R107, R361). -/
def Desc.readLen (d : Desc) (n : Nat) : Nat :=
  match d.cut with
  | some m => satTo m n
  | none => n

/-- A head frame with a posted buffer whose tiles read clean is written to it. -/
theorem State.deliver_of_posted {q : Nat} {d : Desc} {t u : State} (hown : t.buf.check d.h d.owner = none)
    (hen : (t.ring t.active (128 + q)).en = true)
    (hpost : (t.ring t.active (128 + q)).ptr ≠ (t.ring t.active (128 + q)).prod) (hw : t.canWrite t.active = true)
    (hread : t.readTiles d.h d.owner (d.readLen (t.dataOf d.h).length) = (none, u)) (desc : List Byte) (pick : Draw) :
    t.deliver q d desc pick =
      ((u.receiveBack (128 + q) d (d.hostBytes (t.dataOf d.h)) (decide (d.late ≠ .none)) desc).done d).2 := by
  have hopen : ¬ (!(t.ring t.active (128 + q)).en ||
      decide ((t.ring t.active (128 + q)).ptr = (t.ring t.active (128 + q)).prod) || !t.canWrite t.active) = true := by
    simp [hen, hpost, hw]
  unfold State.deliver
  dsimp only
  rw [hown]
  dsimp only
  rw [if_neg hopen]
  cases hcut : d.cut with
  | none | some =>
    rw [Desc.readLen, hcut] at hread
    dsimp only at hread ⊢
    rw [hread]
    rfl

/-! ### Frames from the host (R109 to R111) -/

section
variable {desc frame b : List Byte} {pick : Draw} {i p : Nat} {s : State}

theorem execTransmitDescriptor_of_next (hnext : s.nextTx = some i) (hw : s.canWrite s.active = true)
    (hmode : s.mode = .forward) {st : Status} {t : State} (htake : s.txTake i desc frame pick = (st, t)) :
    execTransmitDescriptor desc frame pick s =
      .next { t.txBack i st with sch := { (t.txBack i st).sch with txTurn := i } } := by
  have hserved : s.served = true := by simp [State.served, hmode]
  unfold execTransmitDescriptor
  rw [hnext]
  dsimp only
  rw [if_pos (by simp [hw, hserved]), htake]

/-- The packet that a frame of the host's becomes at a port when it is injected (R110). -/
def State.injectedPkt (s : State) (p : Nat) (cookie : Option Nat) (owner h : Nat) (b : List Byte) : Pkt :=
  { s.newPkt p b .none with inject := true, headAt := s.now, extAt := s.now, endsAt := s.now, tileAt := s.now,
                            owner := owner, h := some h, cookie := cookie }

theorem txTaken_injected (p tc : Nat) (chan cookie : Option Nat) (owner : Nat) (pick : Draw) (b : List Byte) (h : Nat)
    (t : State) : txTaken true p tc chan cookie owner pick b (.got h, t) =
      (.ok, (t.addPkt (t.injectedPkt p cookie owner h b)).pfcUpdate) := rfl

theorem txTaken_queued (p tc : Nat) (chan cookie : Option Nat) (owner : Nat) (pick : Draw) (b : List Byte) (h : Nat)
    (t : State) : txTaken false p tc chan cookie owner pick b (.got h, t) =
      (.ok, (t.txPlace (t.txDesc p tc chan cookie owner h b.length) pick).pfcUpdate) := rfl

variable (hmode : s.mode = .forward) (hp : p = le desc 10 2) (h512 : p < 512) (hact : s.inactive p = false)
  (hb : b = if bit (byteAt desc 13) 0 then withFcs (cut frame 0 (le desc 8 2)) else cut frame 0 (le desc 8 2))
  (hlen : txLenOk (bit (byteAt desc 13) 0) (le desc 8 2) = true)
include hmode hp h512 hact hb hlen

/-- A well-formed descriptor of a frame for a port's queue takes an extent of the queue's class. -/
theorem State.txTake_of_queued (hinj : bit (byteAt desc 12) 3 = false) :
    s.txTake i desc frame pick = txTaken false p (byteAt desc 12 % 8)
      (if bit (byteAt desc 13) 2 then some (le desc 14 2 % 2 ^ 15) else none)
      (if bit (byteAt desc 13) 1 then some (le desc 16 4) else none) (tag 1 i) pick b
      (s.take (some b.length) false none (classKey p (byteAt desc 12 % 8)) (tag 1 i) pick b) := by
  unfold State.txTake
  simp only [hinj, hmode, ← hp, ← hb, hlen, hact]
  simp [Nat.not_le.2 h512]

/-- A well-formed descriptor of a frame to be injected takes an extent as the port's own packets do. -/
theorem State.txTake_of_injected (hinj : bit (byteAt desc 12) 3 = true) (hpark : (s.slice (p / 32)).parked = false) :
    s.txTake i desc frame pick = txTaken true p (byteAt desc 12 % 8) none
      (if bit (byteAt desc 13) 1 then some (le desc 16 4) else none) (tag 1 i) pick b
      (s.take (some b.length) (s.preClass p b) (some (p * 8 + s.pgOf p (pcpOf b))) (classKey p 0) (tag 1 i) pick
        b) := by
  unfold State.txTake
  simp only [hinj, hmode, ← hp, ← hb, hlen, hact, hpark]
  simp [Nat.not_le.2 h512]

end

end Sys2Proof.Machine

namespace Sys2Proof.Proofs
open Sys2Proof.Machine
open Sys2Proof.Safety
open Host (Outcome)

/-- Settles O22: each command by the lemma of the branch that its frame takes. -/
theorem framesLeaveAndReachTheHost : Obligations.FramesLeaveAndReachTheHost := by
  unfold Obligations.FramesLeaveAndReachTheHost
  refine ⟨?_, ?_, ?_, ?_, ?_, ?_, ?_⟩
  · intro p ups t pick s s1 u hfind hlive htile hs1 hown hlate hread
    refine (execFrameEgress_of_owned pick hfind hlive htile hs1 hown).trans (congrArg Outcome.next ?_)
    rw [State.leave_of_clean hlate hread]
    split <;> rfl
  · intro s x b hplain
    exact State.editFrame_of_plain s hplain b
  · intro d b hecn hdei hrtag hpop
    exact editPass_of_unmarked hecn hdei hrtag hpop b
  · intro desc ups pick q d rest s s1 t u hlive hs1 hnext hqueue ht hown hen hpost hw hread
    refine (execCpuQueueService_of_head hlive hs1 hnext hqueue ht desc).trans (congrArg Outcome.next ?_)
    exact congrArg State.pfcUpdate (State.deliver_of_posted hown hen hpost hw hread desc pick)
  · intro desc ups pick q d rest s s1 t hlive hs1 hnext hqueue ht hown hen
    refine (execCpuQueueService_of_head hlive hs1 hnext hqueue ht desc).trans (congrArg Outcome.next ?_)
    exact congrArg State.pfcUpdate (State.deliver_of_disabled hown hen desc pick)
  · intro desc frame pick i p b h s t hnext hw hmode hp h512 hact hinj hb hlen htake
    refine ⟨_, rfl, execTransmitDescriptor_of_next hnext hw hmode ?_⟩
    rw [State.txTake_of_queued hmode hp h512 hact hb hlen hinj, htake, txTaken_queued]
  · intro desc frame pick i p b h s t hnext hw hmode hp h512 hact hinj hpark hb hlen htake
    refine ⟨t.injectedPkt p (if bit (byteAt desc 13) 1 then some (le desc 16 4) else none) (tag 1 i) h b, _, rfl,
      execTransmitDescriptor_of_next hnext hw hmode ?_, rfl, rfl, rfl, rfl⟩
    rw [State.txTake_of_injected hmode hp h512 hact hb hlen hinj hpark, htake, txTaken_injected]

end Sys2Proof.Proofs
end

section
/-! A host writes a port's registers (O36): PT_MODE, PT_CTRL, PT_TEST and a lane's coefficients. -/
namespace Sys2Proof.Machine
open Sys2Proof.Safety
open Host (Outcome)

/-! ### What a key reads after a write -/

/-- A value that is not what an unlisted key reads is listed by a write, so the map needs no form. -/
theorem SMap.get_set_of_ne {α : Type} [DecidableEq α] {d x : α} (hx : x ≠ d) (m : SMap α) (i : Nat) :
    SMap.get d (m.set d i x) i = x := by
  rw [SMap.set, if_neg hx]
  exact SMap.get_put_self d m i x

/-- A selection that takes every value of a key leaves what the key reads. -/
theorem SMap.get_keep {α : Type} {f : Nat → α → Bool} {i : Nat} (hf : ∀ x, f i x = true) (d : α) (m : SMap α) :
    SMap.get d (m.keep f) i = SMap.get d m i := by
  induction m with
  | nil => rfl
  | cons e r ih =>
    rw [SMap.keep] at ih
    rw [SMap.keep, List.filter_cons]
    by_cases hi : i = e.1
    · subst hi
      simp [hf, SMap.get]
    · split <;> simp [SMap.get, hi, ih]

/-- A stored register reads as written; the counters need no form. -/
theorem State.rd_wr_of_regsWf {s : State} (h : RegsWf s.regs) (o v : Nat) : (s.wr o v).rd o = v % 2 ^ 32 := by
  simp [State.rd, State.reg, State.wr, State.setReg, SMap.get_set_self h]

theorem State.pt_setPt_ne {p q : Nat} (h : p ≠ q) (x : PortSt) (s : State) : (s.setPt q x).pt p = s.pt p :=
  SMap.get_set_ne _ _ _ h

theorem State.pt_of_ports {s t : State} (h : t.port.ports = s.port.ports) (p : Nat) : t.pt p = s.pt p := by
  rw [State.pt, h, State.pt]

/-- Lanes are no part of the ports' status. -/
theorem State.foldl_setLane_ports {α : Type} (f : α → Nat) (x : State → α → LaneSt) (l : List α) (s : State) :
    (l.foldl (fun t a => t.setLane (f a) (x t a)) s).port.ports = s.port.ports :=
  foldl_keeps (fun t => t.port.ports) (fun t a => t.setLane (f a) (x t a)) (fun _ _ => rfl) l s

/-! ### Where a port starts (R142) -/

theorem State.width_of_regs {s t : State} (h : t.regs = s.regs) (p : Nat) : t.width p = s.width p := by
  rw [State.width, State.ptMode, rd_of h, State.width, State.ptMode]

theorem State.inactive_of_regs {s t : State} (h : t.regs = s.regs) (p : Nat) : t.inactive p = s.inactive p := by
  simp only [State.inactive, State.width_of_regs h]

theorem State.enabled_of_regs {s t : State} (h : t.regs = s.regs) (p : Nat) : t.enabled p = s.enabled p := by
  rw [State.enabled, State.ptMode, rd_of h, State.inactive_of_regs h, State.enabled, State.ptMode]

/-- The first state is worked out from the stored registers alone. -/
theorem State.firstState_of_regs {s t : State} (h : t.regs = s.regs) (p : Nat) : t.firstState p = s.firstState p := by
  rw [State.firstState, State.enabled_of_regs h, State.ptCtrl, State.ptTest, rd_of h, rd_of h]
  rfl

theorem State.startLanes_ports (p : Nat) (dest : PState) (s : State) :
    (s.startLanes p dest).port.ports = s.port.ports :=
  State.foldl_setLane_ports (fun l => l) _ _ s

theorem State.leaveUp_of_down {p : Nat} {s : State} (h : (s.pt p).state ≠ .up) (dest : PState) (cut : Bool)
    (pick : Draw) : s.leaveUp p dest cut pick = s.setPt p { s.pt p with state := dest, since := s.now } :=
  if_neg h

/-- A port that is not UP restarts in its first state with REVERSED off (R136, R151). -/
theorem State.restartPort_of_down {p : Nat} {s : State} (hwf : s.port.ports.wf (fun _ => PortSt.zero) = true)
    (h : (s.pt p).state ≠ .up) (cut : Bool) (pick : Draw) :
    ((s.restartPort p cut pick).pt p).state = s.firstState p ∧ ((s.restartPort p cut pick).pt p).reversed = false := by
  unfold State.restartPort
  rw [State.leaveUp_of_down h]
  dsimp only
  rw [pt_setPt _ _ _ (by rw [State.startLanes_ports]; exact SMap.wf_set hwf _ _),
    State.pt_of_ports (State.startLanes_ports ..), pt_setPt _ _ _ hwf]
  exact ⟨rfl, rfl⟩

theorem State.rd_setPt (p o : Nat) (x : PortSt) (s : State) : (s.setPt p x).rd o = s.rd o := rfl

theorem State.rd_restartPort (p o : Nat) (cut : Bool) (pick : Draw) (s : State) :
    (s.restartPort p cut pick).rd o = s.rd o := rd_of (by simp) o

/-! ### PT_MODE (R134 to R136) -/

theorem execPtModeWrite_of_refused {p : HostPort} {port : Port} {v : Word} {s : State} (hrwc : s.takesRwc p = true)
    (hact : s.inactive port = false) (hbad : ptModeBad port (v.toNat % 128) = true) (pick : Draw) :
    execPtModeWrite p port v pick s = .next (s.setPt port { s.pt port with cfgErr := true }) :=
  congrArg Outcome.next ((if_pos (by simp [hrwc, hact])).trans (if_pos hbad))

/-- The registers of a swallowed port are none of a port below it. -/
theorem State.rd_clearPt_of_lt {p q o : Nat} (h : p < q) (ho : o < 0x1000) (s : State) :
    (s.clearPt q).rd (ptReg p o) = s.rd (ptReg p o) := by
  have hout : ptReg p o < ptReg q 0 := by
    unfold ptReg
    omega
  rw [State.clearPt, State.rd, State.rd, State.reg, State.reg]
  simp only [State.clearCal_keeps, State.setPt_keeps]
  rw [SMap.get_keep]
  intro _
  simp [Nat.not_le.2 hout]

/-- The ports that a wider one swallows leave its own PT_MODE as it is. -/
theorem State.foldl_swallow_rd (p : Nat) (pick : Draw) (l : List Nat) (s : State) :
    ((l.map (p + 1 + ·)).foldl (fun t q => (t.leaveUp q .disabled true pick).clearPt q) s).rd (ptReg p 0) =
      s.rd (ptReg p 0) := by
  rw [List.foldl_map]
  refine foldl_keeps (fun t => t.rd (ptReg p 0)) _ (fun t i => ?_) l s
  rw [State.rd_clearPt_of_lt (by omega) (by decide)]
  exact rd_of (by simp) _

/-- A value that the port takes is stored (R133). -/
theorem execPtModeWrite_of_taken {p : HostPort} {port : Port} {v : Word} {s : State} (hregs : RegsWf s.regs)
    (hrwc : s.takesRwc p = true) (hact : s.inactive port = false) (hgood : ptModeBad port (v.toNat % 128) = false)
    (pick : Draw) :
    ∃ t, execPtModeWrite p port v pick s = .next t ∧ t.rd (ptReg port 0) = v.toNat % 128 := by
  refine ⟨_, congrArg Outcome.next ((if_pos (by simp [hrwc, hact])).trans (if_neg (by simp [hgood]))), ?_⟩
  refine (State.rd_restartPort ..).trans ((State.rd_setPt ..).trans ((State.foldl_swallow_rd ..).trans
    ((State.rd_wr_of_regsWf (by simpa using hregs) ..).trans ?_)))
  omega

/-! ### PT_CTRL (R142, R145, R146, R163 to R165) -/

/-- PT_CTRL stored; ADMIN_UP ends a test of the port and takes its lanes out of parking (R165, R477). -/
def State.ctrlStored (p v : Nat) (s : State) : State :=
  if bit v 0 then
    ((s.wr (ptReg p 4) (v % 8)).wr (ptReg p 0x18) ((s.wr (ptReg p 4) (v % 8)).ptTest p % 8
      + bits ((s.wr (ptReg p 4) (v % 8)).ptTest p) 5 5 * 32)).unparkPort p
  else s.wr (ptReg p 4) (v % 8)

/-- A write of PT_CTRL that changes nothing in use: ADMIN_UP stays, and with it on the loopback, and there is no RETRAIN
or the port is in TEST. -/
def State.ctrlIdle (p v : Nat) (s : State) : Prop :=
  bit (s.ptCtrl p) 0 = bit v 0 ∧
    (bit v 0 = false ∨ (bits (s.ptCtrl p) 2 1 = bits v 2 1 ∧ (bit v 3 = false ∨ (s.pt p).state = .test)))

theorem State.ctrlStored_of_down {v : Nat} (h : bit v 0 = false) (p : Nat) (s : State) :
    s.ctrlStored p v = s.wr (ptReg p 4) (v % 8) := by
  simp [State.ctrlStored, h]

theorem State.unparkPort_ports (p : Nat) (s : State) : (s.unparkPort p).port.ports = s.port.ports :=
  State.foldl_setLane_ports (fun l => l) _ _ s

theorem State.rd_unparkPort (p o : Nat) (s : State) : (s.unparkPort p).rd o = s.rd o := rd_of (by simp) o

theorem State.ctrlStored_ports (p v : Nat) (s : State) : (s.ctrlStored p v).port.ports = s.port.ports := by
  unfold State.ctrlStored
  split
  · exact State.unparkPort_ports ..
  · rfl

theorem State.ctrlStored_rd {s : State} (h : RegsWf s.regs) (p v : Nat) : (s.ctrlStored p v).rd (ptReg p 4) = v % 8 := by
  have hself : (s.wr (ptReg p 4) (v % 8)).rd (ptReg p 4) = v % 8 := by
    rw [State.rd_wr_of_regsWf h]
    omega
  unfold State.ctrlStored
  split
  · rw [State.rd_unparkPort, rd_wr_ne _ _ _ _ (by simp [ptReg]), hself]
  · exact hself

theorem State.writeCtrl_of_idle {p v : Nat} {s : State} (h : s.ctrlIdle p v) (pick : Draw) :
    s.writeCtrl p v pick = s.ctrlStored p v := by
  have hpt := State.pt_of_ports (State.ctrlStored_ports p v s) p
  unfold State.ctrlIdle at h
  rw [← hpt] at h
  exact if_pos h

/-- Any other write restarts the port, and cuts its frame off where ADMIN_UP is on (R146). -/
theorem State.writeCtrl_of_change {p v : Nat} {s : State} (h : ¬ s.ctrlIdle p v) (pick : Draw) :
    s.writeCtrl p v pick = (s.ctrlStored p v).restartPort p (bit v 0) pick := by
  have hpt := State.pt_of_ports (State.ctrlStored_ports p v s) p
  unfold State.ctrlIdle at h
  rw [← hpt] at h
  refine (if_neg h).trans ?_
  change (if bit v 0 = true then (s.ctrlStored p v).restartPort p true pick
    else (s.ctrlStored p v).restartPort p false pick) = _
  cases bit v 0 <;> rfl

theorem State.writeCtrl_ptCtrl {s : State} (h : RegsWf s.regs) (p v : Nat) (pick : Draw) :
    (s.writeCtrl p v pick).ptCtrl p = v % 8 := by
  by_cases hi : s.ctrlIdle p v
  · rw [State.writeCtrl_of_idle hi]
    exact State.ctrlStored_rd h p v
  · rw [State.writeCtrl_of_change hi]
    exact (State.rd_restartPort ..).trans (State.ctrlStored_rd h p v)

section
variable {h : HostPort} {p : Port} {v : Word} {s : State} (hw : s.ptWrites h p = true) (pick : Draw)
include hw

theorem execAdminUpSet_of_up (hv : bit v.toNat 0 = true) :
    execAdminUpSet h p v pick s = .next (s.writeCtrl p v.toNat pick) :=
  congrArg Outcome.next (if_pos (by simp [hw, hv]))

theorem execAdminUpClear_of_down (hv : bit v.toNat 0 = false) :
    execAdminUpClear h p v pick s = .next (s.writeCtrl p v.toNat pick) :=
  congrArg Outcome.next (if_pos (by simp [hw, hv]))

theorem execRetrain_of_set (hv : bit v.toNat 3 = true) :
    execRetrain h p v pick s = .next (s.writeCtrl p v.toNat pick) :=
  congrArg Outcome.next (if_pos (by simp [hw, hv]))

theorem execLoopbackSelect_of_host (m : Fin 4) :
    execLoopbackSelect (.host h) p m pick s = .next (s.writeCtrl p (s.ptCtrl p % 2 + m.val * 2) pick) :=
  congrArg Outcome.next (if_pos hw)

theorem execPtTestWrite_of_host : execPtTestWrite (.host h) p v s = .next (s.writeTest p (v.toNat % 64)) :=
  congrArg Outcome.next (if_pos hw)

end

section
variable {h : HostPort} {p : Port} {s : State} (hw : s.ptWrites h p = false) (v : Word) (pick : Draw)
include hw

/-- A port within another's lanes, and a host or a mode that may not write, take none of the writes of PT_CTRL (R17,
R563). -/
theorem execPtCtrl_of_closed : execAdminUpSet h p v pick s = .next s ∧ execAdminUpClear h p v pick s = .next s ∧
    execRetrain h p v pick s = .next s :=
  have hno (b : Bool) : ¬ (s.ptWrites h p && b) = true := by simp [hw]
  ⟨congrArg Outcome.next (if_neg (hno _)), congrArg Outcome.next (if_neg (hno _)),
    congrArg Outcome.next (if_neg (hno _))⟩

theorem execLoopbackSelect_of_closed (m : Fin 4) : execLoopbackSelect (.host h) p m pick s = .next s :=
  congrArg Outcome.next (if_neg (by simp [hw]))

theorem execPtTestWrite_of_closed : execPtTestWrite (.host h) p v s = .next s :=
  congrArg Outcome.next (if_neg (by simp [hw]))

end

/-! ### A tester (R585) -/

theorem State.onBench_of_closed {s : State} (h : s.testPort = none) (l : Nat) (f : LaneTest → LaneTest) :
    s.onBench l f = s := if_neg (by simp [h])

theorem State.onBench_of_open {s : State} (h : s.testPort.isSome = true) (l : Nat) (f : LaneTest → LaneTest) :
    s.onBench l f =
      { s with pins.bench := s.pins.bench.set LaneTest.zero l (f (s.pins.bench.get LaneTest.zero l)) } := if_pos h

/-! ### PT_TEST (R163, R165) -/

/-- PT_TEST stored, and what it does to the checkers of the lanes. -/
def State.testStored (p v : Nat) (s : State) : State :=
  if bit v 4 then
    ((s.wr (ptReg p 0x18) v).lanesOf p).foldl (fun t l => t.setLane l { t.lane l with prbsErr := 0 })
      (s.wr (ptReg p 0x18) v)
  else
    ((s.wr (ptReg p 0x18) v).lanesOf p).foldl (fun t l => t.setLane l { t.lane l with prbsLock := false })
      (s.wr (ptReg p 0x18) v)

theorem State.testStored_ports (p v : Nat) (s : State) : (s.testStored p v).port.ports = s.port.ports := by
  unfold State.testStored
  split <;> exact State.foldl_setLane_ports (fun l => l) _ _ _

theorem State.testStored_regs (p v : Nat) (s : State) : (s.testStored p v).regs = (s.wr (ptReg p 0x18) v).regs := by
  unfold State.testStored
  split <;> simp

theorem State.writeTest_eq (p v : Nat) (s : State) : s.writeTest p v =
    if (s.testStored p v).firstState p = ((s.testStored p v).pt p).state ∨ bit ((s.testStored p v).ptCtrl p) 0 = true then
      s.testStored p v
    else (s.testStored p v).restartPort p false Draw.zero := rfl

theorem State.writeTest_of_stay {p v : Nat} {s : State}
    (h : (s.wr (ptReg p 0x18) v).firstState p = (s.pt p).state ∨ bit (s.ptCtrl p) 0 = true) :
    s.writeTest p v = s.testStored p v := by
  rw [State.writeTest_eq]
  refine if_pos ?_
  rw [State.firstState_of_regs (State.testStored_regs p v s), State.pt_of_ports (State.testStored_ports p v s),
    State.ptCtrl, rd_of (State.testStored_regs p v s), rd_wr_ne _ _ _ _ (by simp [ptReg])]
  exact h

theorem State.writeTest_ptTest {s : State} (h : RegsWf s.regs) (p v : Nat) :
    (s.writeTest p v).ptTest p = v % 2 ^ 32 := by
  have hstored : (s.testStored p v).rd (ptReg p 0x18) = v % 2 ^ 32 := by
    rw [rd_of (State.testStored_regs p v s), State.rd_wr_of_regsWf h]
  rw [State.ptTest, ← hstored, State.writeTest_eq]
  split
  · rfl
  · exact State.rd_restartPort ..

end Sys2Proof.Machine

namespace Sys2Proof.Proofs
open Sys2Proof.Machine Sys2Proof.Safety
open Host (Outcome)

/-- Settles O36: PT_MODE, then the writes of PT_CTRL by what they change, then PT_TEST and the coefficients. -/
theorem portRegistersAreWritten : Obligations.PortRegistersAreWritten := by
  unfold Obligations.PortRegistersAreWritten
  refine ⟨?_, ?_, ?_, ?_, ?_, ?_, ?_, ?_, ?_, ?_, ?_, ?_, ?_, ?_, ?_⟩
  · intro p v pick s hrwc hact hbad
    exact execPtModeWrite_of_refused hrwc hact hbad pick
  · intro p v pick s hs hrwc hact hgood
    exact execPtModeWrite_of_taken hs.1 hrwc hact hgood pick
  · intro h p v pick s hw
    exact ⟨execAdminUpSet_of_up hw pick, execAdminUpClear_of_down hw pick, execRetrain_of_set hw pick⟩
  · intro h p m pick s hw
    exact execLoopbackSelect_of_host hw pick m
  · intro h p v m pick s hw
    obtain ⟨hset, hclear, hretrain⟩ := execPtCtrl_of_closed hw v pick
    exact ⟨hset, hclear, hretrain, execLoopbackSelect_of_closed hw pick m, execPtTestWrite_of_closed hw v⟩
  · intro p v m pick s hclosed
    exact ⟨congrArg Outcome.next (State.onBench_of_closed hclosed _ _),
      congrArg Outcome.next (State.onBench_of_closed hclosed _ _)⟩
  · intro p v m pick s x hopen hx
    subst hx
    exact ⟨congrArg Outcome.next (State.onBench_of_open hopen _ _),
      congrArg Outcome.next (State.onBench_of_open hopen _ _)⟩
  · intro p v pick s hs
    exact State.writeCtrl_ptCtrl hs.1 p v pick
  · intro p v pick s hup hdown
    rw [State.writeCtrl_of_change (by simp [State.ctrlIdle, hup, hdown]), State.ctrlStored_of_down hdown, hdown]
  · intro p v pick s hold hnew
    rw [State.writeCtrl_of_idle (by simp [State.ctrlIdle, hold, hnew]), State.ctrlStored_of_down hnew]
  · intro p v pick s hup hchange
    have hidle : ¬ s.ctrlIdle p v := by
      rintro ⟨hsame, hquiet⟩
      obtain ⟨hloop, hstay⟩ := hquiet.resolve_left (by simp [hup])
      rcases hchange with hold | hmoved | ⟨hretrain, htest⟩
      · simp [hsame, hup] at hold
      · exact hmoved hloop
      · exact hstay.elim (by simp [hretrain]) htest
    refine ⟨s.ctrlStored p v, ?_, congrArg PortSt.state (State.pt_of_ports (State.ctrlStored_ports p v s) p)⟩
    rw [State.writeCtrl_of_change hidle, hup]
  · intro p v pick s hup hold hloop hquiet
    rw [State.writeCtrl_of_idle ⟨hold.trans hup.symm, .inr ⟨hloop, hquiet⟩⟩]
    exact State.ctrlStored_ports p v s
  · intro p cut pick s hwf hdown
    exact State.restartPort_of_down hwf hdown cut pick
  · intro h p v s hs hw
    refine ⟨execPtTestWrite_of_host hw, (State.writeTest_ptTest hs.1 _ _).trans (by omega), fun hstay => ?_⟩
    rw [State.writeTest_of_stay hstay]
    exact State.testStored_ports _ _ s
  · intro h l v s hrw
    refine congrArg Outcome.next ?_
    rw [hrw, Bool.true_and]

end Sys2Proof.Proofs
end

section
/-! Ports come up, lose lanes and report what their lines do (O37). -/
namespace Sys2Proof.Machine
open Sys2Proof.Safety
open Host (Outcome)

/-! ### Lanes and ports after a write -/

theorem State.lane_setLane_ne {k l : Nat} (h : k ≠ l) (x : LaneSt) (s : State) : (s.setLane l x).lane k = s.lane k :=
  SMap.get_set_ne _ _ _ h

/-- A lane that differs from one after reset reads as written, whatever the form of the map. -/
theorem State.lane_setLane_of_ne {x : LaneSt} (hx : x ≠ LaneSt.zero) (l : Nat) (s : State) :
    (s.setLane l x).lane l = x := SMap.get_set_of_ne hx _ l

theorem State.lane_setLane {s : State} (hwf : s.port.lanes.wf (fun _ => LaneSt.zero) = true) (l : Nat) (x : LaneSt) :
    (s.setLane l x).lane l = x := SMap.get_set_self hwf _ _ _

/-- A port that differs from one after reset reads as written, whatever the form of the map. -/
theorem State.pt_setPt_of_ne {x : PortSt} (hx : x ≠ PortSt.zero) (p : Nat) (s : State) : (s.setPt p x).pt p = x :=
  SMap.get_set_of_ne hx _ p

theorem State.setMargins_ports (p : Nat) (ms : List Byte) (s : State) :
    (s.setMargins p ms).port.ports = s.port.ports :=
  State.foldl_setLane_ports (p + ·) _ _ s

/-! ### Signal on the lanes (R141, R142) -/

/-- Lanes on which signal is detected one after another: each of them shows it, and the others stay. -/
theorem State.lane_foldl_sigDet (l : Nat) (ls : List Nat) (s : State) :
    (ls.foldl (fun t l => t.setLane l { t.lane l with sigDet := true }) s).lane l =
      if l ∈ ls then { s.lane l with sigDet := true } else s.lane l := by
  induction ls generalizing s with
  | nil => rfl
  | cons a r ih =>
    rw [List.foldl_cons, ih]
    by_cases h : l = a
    · subst h
      have hne : ({ s.lane l with sigDet := true } : LaneSt) ≠ LaneSt.zero := fun e =>
        Bool.noConfusion (congrArg LaneSt.sigDet e)
      simp [State.lane_setLane_of_ne hne]
    · simp [State.lane_setLane_ne h, h]

/-- What a lane of the port shows once signal has come on the lanes that `m` names. -/
theorem State.lane_detectLanes {p l : Nat} {s : State} (hl : l ∈ s.lanesOf p) (m : Nat) :
    ((s.detectLanes p m).lane l).parked = (s.lane l).parked ∧
      ((s.detectLanes p m).lane l).sigDet = ((s.lane l).sigDet || (bit m (l - p) && !(s.lane l).parked)) := by
  rw [State.detectLanes, State.lane_foldl_sigDet]
  split
  next h => simp [(List.mem_filter.1 h).2]
  next h =>
    have hno : (bit m (l - p) && !(s.lane l).parked) = false :=
      Bool.eq_false_iff.2 fun hyes => h (List.mem_filter.2 ⟨hl, hyes⟩)
    simp [hno]

/-- Signal is on every lane of the port, none of them parked. -/
def State.allDetected (p m : Nat) (s : State) : Prop :=
  ∀ l ∈ s.lanesOf p, (s.lane l).parked = false ∧ ((s.lane l).sigDet = true ∨ bit m (l - p) = true)

theorem State.allDetected_iff (p m : Nat) (s : State) :
    ((s.lanesOf p).all fun l => ((s.detectLanes p m).lane l).sigDet && !((s.detectLanes p m).lane l).parked) = true ↔
      s.allDetected p m := by
  rw [List.all_eq_true, State.allDetected]
  refine forall₂_congr fun l hl => ?_
  obtain ⟨hparked, hsig⟩ := State.lane_detectLanes hl m
  rw [hparked, hsig]
  cases (s.lane l).parked <;> simp

theorem execDetectSignal_of_all {p : Port} {lanes : Byte} {s : State} (hen : s.enabled p = true)
    (hon : s.lanesOn p = true) (hst : (s.pt p).state = .detect) (hfree : (s.pt p).d2dDown = false)
    (hall : s.allDetected p lanes.toNat) :
    execDetectSignal ⟨p, lanes⟩ s =
      .next ((s.detectLanes p lanes.toNat).toState p (s.afterDetect p true)) :=
  congrArg Outcome.next ((if_pos (by simp [hen, hon])).trans
    (if_pos ⟨hst, hfree, (State.allDetected_iff ..).2 hall⟩))

/-- A port that is not in DETECT, is held down, or lacks signal on a lane moves nowhere (R171, R477). -/
theorem execDetectSignal_of_stay {p : Port} {lanes : Byte} {s : State}
    (h : ¬ ((s.pt p).state = .detect ∧ (s.pt p).d2dDown = false ∧ s.allDetected p lanes.toNat)) :
    execDetectSignal ⟨p, lanes⟩ s =
      .next (if s.enabled p = true ∧ s.lanesOn p = true then s.detectLanes p lanes.toNat else s) := by
  rw [← State.allDetected_iff] at h
  refine congrArg Outcome.next ?_
  dsimp only
  rw [if_neg h]
  simp only [Bool.and_eq_true]

/-! ### LX training (R147 to R151) -/

section
variable {p l c : Nat} {s : State}

theorem State.heardTraining_of_odd (h : evenParity c = false) :
    s.heardTraining p l false c = s.setLane l { s.lane l with lastReq := none, ready := 0 } := by
  simp [State.heardTraining, h]

/-- A request heard for the first time is kept, and nothing is carried out (R148). -/
theorem State.heardTraining_of_first (h : evenParity c = true) (hnew : (s.lane l).lastReq ≠ some (bits c 12 2)) :
    s.heardTraining p l false c = s.setLane l { s.lane l with
      peerLane := bits c 15 13, lastReq := some (bits c 12 2),
      ready := if bit c 1 then satTo 3 ((s.lane l).ready + 1) else 0 } := by
  simp [State.heardTraining, h, hnew]

/-- The second of two equal requests is carried out on the lane that it names (R148). -/
theorem State.heardTraining_of_second (h : evenParity c = true) (hsame : (s.lane l).lastReq = some (bits c 12 2))
    (hw : bits c 12 10 < s.width p) (hother : p + bits c 12 10 ≠ l) {y : LaneSt}
    (hy : y = s.lane (p + bits c 12 10)) (hdone : (trainRequest c y.cur).1 ≠ 0) :
    (s.heardTraining p l false c).lane (p + bits c 12 10) = { y with
      result := (trainRequest c y.cur).1
      cur := if bit c 2 then setBits (trainRequest c y.cur).2 28 28 1 else (trainRequest c y.cur).2
      echo := bits c 12 10
      precodeOn := y.precodeOn || bit c 2 } := by
  subst hy
  unfold State.heardTraining
  simp only [h, hsame, hw, State.lane_setLane_ne hother, decide_true, Bool.and_self, if_true, Bool.not_true,
    Bool.false_eq_true, if_false]
  exact State.lane_setLane_of_ne (fun e => hdone (congrArg LaneSt.result e)) _ _

end

theorem execLxTrainingFrame_of_train {l : Lane} {p : Nat} {s : State} (hp : s.portOfLane l = some p)
    (hst : (s.pt p).state = .train) (hlx : s.isLx p = true) (hon : s.lanesOn p = true) (inv : Bool) (f : LxFrame) :
    execLxTrainingFrame l inv f s = .next (((s.heardTraining p l inv f.control.toNat).setLane l
      { (s.heardTraining p l inv f.control.toNat).lane l with
        own := if bits f.own.toNat 5 4 = 0 then f.own.toNat
          else f.own.toNat - b2n (bit f.own.toNat 0) }).sendTraining p l) := by
  unfold execLxTrainingFrame
  dsimp only
  rw [hp]
  exact congrArg Outcome.next (if_pos ⟨hst, hlx, hon⟩)

/-! ### Training and alignment end (R149, R152 to R154) -/

theorem State.lxReady_iff (p : Nat) (s : State) :
    s.lxReady p = true ↔ ∀ l ∈ s.lanesOf p, (s.lane l).ready = 3 ∧ bit (s.lane l).own 0 = true := by
  simp [State.lxReady, LaneSt.ownReady]

theorem execTrainingComplete_of_ready {p : Port} {s : State} (hst : (s.pt p).state = .train)
    (hon : s.lanesOn p = true) (hready : s.isLx p = false ∨ s.lxReady p = true) {u : State}
    (hu : u = if s.isLx p then s.lastTraining p else s) :
    execTrainingComplete p s = .next (((u.lanesOf p).foldl
      (fun (t : State) l => t.setLane l { t.lane l with cdrLock := true, trained := true }) u).toState p .align) := by
  subst hu
  exact congrArg Outcome.next (if_pos ⟨hst, hon, hready⟩)

/-- A port whose alignment completes is UP with the latencies measured, and with the order of its lanes found in
alignment where LX training has not found it (R153, R154, R398). -/
theorem execAlignComplete_of_align {p : Port} {s : State} (hst : (s.pt p).state = .align) (hon : s.lanesOn p = true)
    (rx tx : Word) (rev : Bool) (inv : BitVec 8) (ms : List Byte) :
    ∃ u : State, execAlignComplete p rx tx rev inv ms s = .next (((u.portRec p 1).verifyStart p).pfcUpdate) ∧
      (u.pt p).state = .up ∧ u.time.rxLat = s.time.rxLat.set 0 p rx.toNat ∧
      u.time.txLat = s.time.txLat.set 0 p tx.toNat ∧
      (s.isLx p = false ∨ s.trains p = false → (u.pt p).reversed = rev) := by
  unfold execAlignComplete
  rw [if_pos ⟨hst, hon⟩]
  extract_lets q lx s1 _ s2 _ s3
  have hpt : s3.pt p = { s1.pt p with
      state := .up, since := s.now, reversed := if lx then s.learnedReversed p else rev } :=
    State.pt_setPt_of_ne (fun e => PState.noConfusion (congrArg PortSt.state e)) _ _
  have htime : s2.time = s.time := by simp [s2, s1]
  refine ⟨s3, rfl, ?_, ?_, ?_, fun hno => ?_⟩
  · rw [hpt]
  · exact congrArg (fun t : TimeSt => t.rxLat.set 0 p rx.toNat) htime
  · exact congrArg (fun t : TimeSt => t.txLat.set 0 p tx.toNat) htime
  · have hlx : lx = false := by
      rcases hno with h | h <;> simp [lx, q, h]
    rw [hpt, hlx]
    rfl

/-! ### Limits and losses (R142, R143, R172) -/

section
variable {p : Port} {s : State}

theorem execPortStateLimit_of_train (hst : (s.pt p).state = .train) : execPortStateLimit p s =
    .next (if s.isLx p = false ∨ 500000000 ≤ s.now - (s.pt p).since then
      ((s.ptCount p 15 1).portRec p 3).restartPort p false Draw.zero else s) := by
  unfold execPortStateLimit
  dsimp only
  rw [hst]

theorem execPortStateLimit_of_an (hst : (s.pt p).state = .an) :
    execPortStateLimit p s = .next (s.restartPort p false Draw.zero) := by
  unfold execPortStateLimit
  dsimp only
  rw [hst]

theorem execPortStateLimit_of_align (hst : (s.pt p).state = .align) : execPortStateLimit p s =
    .next (if 2000000 ≤ s.now - (s.pt p).since then s.restartPort p false Draw.zero else s) := by
  unfold execPortStateLimit
  dsimp only
  rw [hst]

end

theorem execLaneLoss_of_port {l : Lane} {p : Nat} {s : State} (hp : s.portOfLane l = some p) (w : Fin 3) (pick : Draw) :
    execLaneLoss l w pick s = .next (if (s.pt p).state = .up
      then (s.setLane l ((s.lane l).lose w)).restartPort p true pick else s.setLane l ((s.lane l).lose w)) := by
  unfold execLaneLoss
  dsimp only
  rw [hp]
  rfl

/-! ### What a running port reports (R165, R166) -/

theorem execPrbsLock_of_test {l : Lane} {p : Nat} {s : State} (hp : s.portOfLane l = some p)
    (hbench : bit (s.pins.bench.get LaneTest.zero l).word 4 = false) (hst : (s.pt p).state = .test)
    (hchk : bit (s.ptTest p) 4 = true) (hdown : bit (s.ptCtrl p) 0 = false) (locked : Bool) (e : DWord) :
    execPrbsLock l locked e s = .next (s.setLane l { s.lane l with
      prbsLock := locked, sigDet := (s.lane l).sigDet || locked, cdrLock := (s.lane l).cdrLock || locked,
      prbsErr := satTo (2 ^ 64 - 1) ((s.lane l).prbsErr + e.toNat) }) := by
  unfold execPrbsLock
  dsimp only
  rw [hbench, if_neg Bool.false_ne_true, hp]
  exact congrArg Outcome.next (if_pos ⟨hst, hchk, hdown⟩)

/-- Under a tester a lane's lock and errors are the test access port's (R585). -/
theorem execPrbsLock_of_bench {l : Lane} {s : State} (hopen : s.testPort.isSome = true)
    (hbench : bit (s.pins.bench.get LaneTest.zero l).word 4 = true) (locked : Bool) (e : DWord) :
    execPrbsLock l locked e s = .next { s with
      pins.bench := s.pins.bench.set LaneTest.zero l { s.pins.bench.get LaneTest.zero l with
        lock := locked, errs := satTo (2 ^ 64 - 1) ((s.pins.bench.get LaneTest.zero l).errs + e.toNat) } } :=
  congrArg Outcome.next ((if_pos hbench).trans (State.onBench_of_open hopen _ _))

/-- A window without an uncorrectable codeword ends FEC_DEGRADE and raises no report (R166). -/
theorem execFecWindow_of_clean {p : Port} {s : State} (hen : s.enabled p = true)
    (hwf : s.port.ports.wf (fun _ => PortSt.zero) = true) (tot cor : Word) (hist : List Word) (ms : List Byte) :
    ∃ t : State, execFecWindow p tot cor 0 hist ms s = .next t ∧ (t.pt p).fecRun = 0 ∧
      (t.pt p).fecDegrade = false ∧ t.flt = s.flt := by
  unfold execFecWindow
  rw [if_pos hen]
  extract_lets q s1 s2 x run s3
  have hports : s2.port = s.port := by simp [s2, s1]
  have hpt : s3.pt p = { x with fecRun := 0, fecDegrade := false } :=
    (State.pt_of_ports (State.setMargins_ports ..) _).trans (pt_setPt _ _ _ (by rw [hports]; exact hwf))
  refine ⟨s3, congrArg Outcome.next (if_neg ?_), ?_, ?_, by simp [s3, s2, s1]⟩
  · rintro ⟨hrun, -⟩
    simp [run] at hrun
  · rw [hpt]
  · rw [hpt]

/-! ### Die-to-die wires (R18, R19, R171) -/

section
variable {h : Slice} {dir : Bool} {s : State} (hreset : s.mode ≠ .reset) (hsave : s.mode ≠ .save)
  (hacts : s.collieActs = true) (hinj : s.flt.inj = []) (w : Fin 1600) (ln : Fin 32) (pick : Draw)
include hreset hsave hacts hinj

/-- A failing wire takes the next spare, which is kept as wear and recorded. -/
theorem execD2dWireError_of_spare {k : Nat} (hk : k = 2 * h.val + b2n dir) (hspare : s.port.d2d.get 0 k < 64) :
    execD2dWireError h dir w ln pick s = .next ((({ s with
      port.d2d := s.port.d2d.set 0 k (s.port.d2d.get 0 k + 1) }).wearUse false fun x =>
        { x with d2d := x.d2d.set 0 (k * 64 + s.port.d2d.get 0 k) (w.val + 2 ^ 15) }).raiseX (harpSrc h) 5 .ce
          (packItems [(10, 512 + 32 * h.val + ln.val)]) false) := by
  subst hk
  unfold execD2dWireError
  dsimp only
  rw [if_neg (by simp [hreset, hsave, hacts]), State.injected_of_none hinj]
  exact congrArg Outcome.next (if_pos hspare)

/-- With no spare left the harp goes down. -/
theorem execD2dWireError_of_none (hnone : 64 ≤ s.port.d2d.get 0 (2 * h.val + b2n dir))
    (hfirst : (s.pt (32 * h.val)).d2dDown = false) :
    execD2dWireError h dir w ln pick s = .next ((s.harpDown h pick).follow (harpSrc h) 6 .uc
      (packItems [(10, 512 + 32 * h.val + ln.val)]) false) := by
  unfold execD2dWireError
  dsimp only
  rw [if_neg (by simp [hreset, hsave, hacts]), State.injected_of_none hinj]
  exact congrArg Outcome.next ((if_neg (Nat.not_lt.2 hnone)).trans (if_neg (by simp [hfirst])))

end

/-! ### Held down stays held down

Only a device reset ends D2D_DOWN (R171): what one port of a harp does as it drops back, its frames, its pauses and
those of others included, leaves the ports that are held down so. -/

/-- D2D_DOWN of a port. -/
def State.HeldDown (p : Nat) (s : State) : Prop := (s.pt p).d2dDown = true

/-- What leaves the ports' status as it is leaves D2D_DOWN. -/
theorem State.heldDown_congr {s t : State} (e : t.port = s.port) (p : Nat) : t.HeldDown p ↔ s.HeldDown p := by
  rw [State.HeldDown, State.pt, e, State.HeldDown, State.pt]

@[simp] theorem State.heldDown_ptCount (p q i n : Nat) (s : State) : (s.ptCount q i n).HeldDown p ↔ s.HeldDown p :=
  State.heldDown_congr (by simp) p

@[simp] theorem State.heldDown_coreCount (p i n : Nat) (s : State) : (s.coreCount i n).HeldDown p ↔ s.HeldDown p :=
  State.heldDown_congr (by simp) p

@[simp] theorem State.heldDown_passOn (p q : Nat) (b : List Byte) (late : Late) (s : State) :
    (s.passOn q b late).HeldDown p ↔ s.HeldDown p := State.heldDown_congr (by simp) p

@[simp] theorem State.heldDown_emit (p : Nat) (o : Out) (s : State) : (s.emit o).HeldDown p ↔ s.HeldDown p :=
  State.heldDown_congr (by simp) p

@[simp] theorem State.heldDown_fragOut (p q : Nat) (b : List Byte) (last bad : Bool) (s : State) :
    (s.fragOut q b last bad).HeldDown p ↔ s.HeldDown p := State.heldDown_congr (by simp) p

@[simp] theorem State.heldDown_portRec (p q code : Nat) (s : State) : (s.portRec q code).HeldDown p ↔ s.HeldDown p :=
  State.heldDown_congr (by simp) p

@[simp] theorem State.heldDown_cutFrame (p q : Nat) (pick : Draw) (s : State) :
    (s.cutFrame q pick).HeldDown p ↔ s.HeldDown p := State.heldDown_congr (by simp) p

@[simp] theorem State.heldDown_flushPort (p q : Nat) (pick : Draw) (s : State) :
    (s.flushPort q pick).HeldDown p ↔ s.HeldDown p := State.heldDown_congr (by simp) p

@[simp] theorem State.heldDown_startLanes (p q : Nat) (dest : PState) (s : State) :
    (s.startLanes q dest).HeldDown p ↔ s.HeldDown p := by
  rw [State.HeldDown, State.pt_of_ports (State.startLanes_ports ..), State.HeldDown]

theorem State.heldDown_setPt {p : Nat} {x : PortSt} (hx : x.d2dDown = true) (s : State) : (s.setPt p x).HeldDown p := by
  rw [State.HeldDown, State.pt_setPt_of_ne (fun e => Bool.noConfusion (hx.symm.trans (congrArg PortSt.d2dDown e)))]
  exact hx

section
variable {p : Nat} {s : State} (hs : s.HeldDown p)
include hs

/-- A port's status changes with its D2D_DOWN as it is. -/
theorem State.HeldDown.setPt {q : Nat} {x : PortSt} (hx : x.d2dDown = (s.pt q).d2dDown) : (s.setPt q x).HeldDown p := by
  by_cases h : p = q
  · subst h
    exact State.heldDown_setPt (hx.trans hs) s
  · rw [State.HeldDown, State.pt_setPt_ne h]
    exact hs

theorem State.HeldDown.foldl {α : Type} {g : State → α → State} (hg : ∀ (t : State) a, t.HeldDown p → (g t a).HeldDown p)
    (l : List α) : (l.foldl g s).HeldDown p :=
  List.foldlRecOn (motive := fun t : State => t.HeldDown p) l g hs fun t ht a _ => hg t a ht

@[simp] theorem State.HeldDown.setPause {q c v : Nat} : (s.setPause q c v).HeldDown p := hs.setPt rfl

@[simp] theorem State.HeldDown.macControl {q : Nat} {b : List Byte} : (s.macControl q b).HeldDown p := by
  unfold State.macControl
  extract_lets cfg fc named time s1
  have hcount (i : Nat) : (s.ptCount q i 1).HeldDown p := by simpa using hs
  have hpause (t : State) (ht : t.HeldDown p) (c : Prop) [Decidable c] (n v : Nat) :
      (if c then t.setPause q n v else t).HeldDown p := by
    split
    · exact ht.setPause
    · exact ht
  have h1 (i : Nat) : (s1.ptCount q i 1).HeldDown p := by
    rw [State.heldDown_ptCount]
    exact hs.foldl (fun t a ht => by split <;> simp [ht]) _
  split
  · split
    · exact (hcount 5).foldl (fun t a ht => hpause t ht _ _ _) _
    · exact hcount 6
  · split
    · exact (h1 5).foldl (fun t a ht => hpause t ht _ _ _) _
    · exact h1 6
  · exact hcount 6

@[simp] theorem State.HeldDown.receive {q : Nat} {b : List Byte} {err : Bool} : (s.receive q b err).HeldDown p := by
  unfold State.receive
  dsimp only
  (repeat' split) <;> simp [hs]

@[simp] theorem State.HeldDown.lineOut {q : Nat} {b : List Byte} {bad : Bool} : (s.lineOut q b bad).HeldDown p := by
  unfold State.lineOut
  split <;> simp [hs]

@[simp] theorem State.HeldDown.putLine {q : Nat} {b : List Byte} {bad : Bool} : (s.putLine q b bad).HeldDown p := by
  unfold State.putLine
  dsimp only
  split <;> simp [hs]

@[simp] theorem State.HeldDown.sendMac {q : Nat} {b : List Byte} : (s.sendMac q b).HeldDown p := by
  unfold State.sendMac
  dsimp only
  split <;> simp [hs]

@[simp] theorem State.HeldDown.sendFlow {q : Nat} {l : List Nat} {before : Bool} :
    (s.sendFlow q l before).HeldDown p := by
  unfold State.sendFlow
  dsimp only
  (repeat' split) <;> simp [hs]

@[simp] theorem State.HeldDown.pfcUpdate : s.pfcUpdate.HeldDown p :=
  State.HeldDown.foldl ((State.heldDown_congr (by simp) p).2 hs) (fun _ _ ht => ht.sendFlow) _

@[simp] theorem State.HeldDown.finishSending {q : Nat} : (s.finishSending q).HeldDown p := by
  unfold State.finishSending
  split
  · exact hs
  next x _ =>
    extract_lets _ s1 s2 s3
    have h1 : s1.HeldDown p := hs
    have h3 : s3.HeldDown p := by
      rw [State.heldDown_fragOut]
      split <;> simp [s2, h1]
    (repeat' split) <;> simp [h1, h3]

@[simp] theorem State.HeldDown.leaveUp {q : Nat} {dest : PState} {cut : Bool} {pick : Draw} :
    (s.leaveUp q dest cut pick).HeldDown p := by
  unfold State.leaveUp
  extract_lets x s1 _ s2
  have h1 : s1.HeldDown p := hs.setPt rfl
  have h2 : s2.HeldDown p := (State.heldDown_portRec ..).2 h1
  split
  · split
    · exact h2
    · cases cut <;> simp [h2]
  · exact hs.setPt rfl

@[simp] theorem State.HeldDown.restartPort {q : Nat} {cut : Bool} {pick : Draw} :
    (s.restartPort q cut pick).HeldDown p :=
  State.HeldDown.setPt (by simp [hs]) rfl

@[simp] theorem State.HeldDown.dropBack {q : Nat} {pick : Draw} : (s.dropBack q pick).HeldDown p := by
  unfold State.dropBack
  split <;> simp [hs]

end

/-- Ports taken down one after another: each is held down from its own turn on. -/
theorem State.foldl_hold_heldDown {p : Nat} (pick : Draw) (l : List Nat) (hp : p ∈ l) (s : State) :
    (l.foldl (fun t q => (t.dropBack q pick).setPt q { (t.dropBack q pick).pt q with d2dDown := true }) s).HeldDown p := by
  have hkeep (t : State) (q : Nat) (ht : t.HeldDown p) :
      ((t.dropBack q pick).setPt q { (t.dropBack q pick).pt q with d2dDown := true }).HeldDown p := by
    by_cases h : p = q
    · subst h
      exact State.heldDown_setPt rfl _
    · rw [State.HeldDown, State.pt_setPt_ne h]
      exact ht.dropBack
  induction l generalizing s with
  | nil => exact absurd hp List.not_mem_nil
  | cons a r ih =>
    rw [List.foldl_cons]
    rcases List.mem_cons.1 hp with rfl | hr
    · exact State.HeldDown.foldl (State.heldDown_setPt rfl _) hkeep r
    · exact ih hr _

/-- Every port of the harp is held down (R19). -/
theorem State.harpDown_heldDown {h p : Nat} (hp : p / 32 = h) (pick : Draw) (s : State) :
    (s.harpDown h pick).HeldDown p :=
  State.foldl_hold_heldDown pick _ (List.mem_map.2 ⟨p % 32, List.mem_range.2 (by omega), by omega⟩) s

end Sys2Proof.Machine

namespace Sys2Proof.Proofs
open Sys2Proof.Machine Sys2Proof.Safety
open Host (Outcome)

/-- Settles O37: the states of bring-up in their order, then what a port loses and reports, and the die-to-die
wires. -/
theorem portsComeUpAndReport : Obligations.PortsComeUpAndReport := by
  unfold Obligations.PortsComeUpAndReport
  refine ⟨?_, ?_, ?_, ?_, ?_, ?_, ?_, ?_, ?_, ?_, ?_, ?_, ?_, ?_, ?_, ?_, ?_, ?_, ?_, ?_⟩
  · intro p lanes s hen hon hst hfree hall
    exact execDetectSignal_of_all hen hon hst hfree hall
  · intro p lanes s hstay
    refine execDetectSignal_of_stay ?_
    rintro ⟨hst, hfree, hall⟩
    rcases hstay with h | h | ⟨l, hl, hlack⟩
    · exact h hst
    · simp [hfree] at h
    · obtain ⟨hparked, hsig⟩ := hall l hl
      rcases hlack with h | ⟨hoff, hbit⟩
      · simp [hparked] at h
      · simp [hoff, hbit] at hsig
  · intro p s
    rfl
  · intro l p inv c own o s u hp hst hlx hon hu ho
    subst hu
    subst ho
    exact execLxTrainingFrame_of_train hp hst hlx hon inv ⟨c, own⟩
  · intro s p l
    rfl
  · intro p l c s
    refine ⟨rfl, State.heardTraining_of_odd, State.heardTraining_of_first, fun heven hsame hw hother y hy hdone => ?_⟩
    rw [State.heardTraining_of_second heven hsame hw hother hy hdone]
    exact ⟨rfl, rfl⟩
  · intro p s u hst hon hready hu
    rw [← State.lxReady_iff] at hready
    exact execTrainingComplete_of_ready hst hon hready hu
  · intro p rx tx rev inv ms s hst hon
    exact execAlignComplete_of_align hst hon rx tx rev inv ms
  · intro p s hst hlx
    refine (execPortStateLimit_of_train hst).trans (congrArg Outcome.next ?_)
    simp only [hlx, Bool.true_eq_false, false_or, ← Nat.not_lt, ite_not]
  · intro p s hst hlx
    exact (execPortStateLimit_of_train hst).trans (congrArg Outcome.next (if_pos (.inl hlx)))
  · intro p s hst
    exact execPortStateLimit_of_an hst
  · intro p s hst
    refine (execPortStateLimit_of_align hst).trans (congrArg Outcome.next ?_)
    simp only [← Nat.not_lt, ite_not]
  · intro l w p pick s hp
    exact execLaneLoss_of_port hp w pick
  · intro l locked e p s hp hbench hst hchk hdown hwf
    refine ⟨_, execPrbsLock_of_test hp hbench hst hchk hdown locked e, ?_⟩
    rw [State.lane_setLane hwf]
    exact ⟨rfl, rfl⟩
  · intro l locked e x s hopen hx hchk
    subst hx
    exact execPrbsLock_of_bench hopen hchk locked e
  · intro p a b s
    rfl
  · intro p tot cor hist ms s hen hwf
    exact execFecWindow_of_clean hen hwf tot cor hist ms
  · intro h dir w ln pick k s hreset hsave hacts hinj hk hspare
    exact execD2dWireError_of_spare hreset hsave hacts hinj w ln pick hk hspare
  · intro h dir w ln pick s hreset hsave hacts hinj hnone hfirst
    exact execD2dWireError_of_none hreset hsave hacts hinj w ln pick hnone hfirst
  · intro h pick p s hp
    exact State.harpDown_heldDown hp pick s

end Sys2Proof.Proofs
end

section
/-! Control-store images are loaded, judged and applied (O27). -/
namespace Sys2Proof.Machine
open Sys2Proof.Safety
open Host (Outcome)

/-! ### A bank after a write -/

theorem State.csBank_of_gen {s t : State} (h : t.gen = s.gen) (g : Nat) : t.csBank g = s.csBank g := by
  rw [State.csBank, h, State.csBank]

theorem State.csBank_setCsBank (g : Nat) (b : CsBank) (s : State) : (s.setCsBank g b).csBank g = b := by
  by_cases h : g = 0 <;> simp [State.setCsBank, State.csBank, h]

/-- A bank is of the generations alone. -/
theorem State.setCsBank_eq (g : Nat) (b : CsBank) (s : State) :
    s.setCsBank g b = { s with gen := (s.setCsBank g b).gen } := by
  by_cases h : g = 0 <;> simp [State.setCsBank, h]

theorem State.foldl_onSlice_eq (f : SliceSt → SliceSt) (l : List Nat) (s : State) :
    l.foldl (fun t n => t.onSlice n f) s = { s with slices := (l.foldl (fun t n => t.onSlice n f) s).slices } := by
  induction l generalizing s with
  | nil => rfl
  | cons a r ih => exact ih (s.onSlice a f)

/-- What a load rewrites is of the slices alone (R197). -/
theorem State.csRewrite_eq (g : Nat) (cust : Bool) (s : State) :
    s.csRewrite g cust = { s with slices := (s.csRewrite g cust).slices } := by
  unfold State.csRewrite
  exact State.foldl_onSlice_eq _ _ s

theorem CsBank.apply_valid (b : CsBank) (cust : Bool) (image : List Byte) : (b.apply cust image).valid = true := by
  cases cust <;> rfl

/-! ### The load begins (R196, R197) -/

/-- The state once a load has begun: its bank is invalid and holds it, its locations read good, and the measurements
that it takes away are gone. -/
def State.csBegun (g : Nat) (l : Load) (s : State) : State :=
  { (s.csRewrite g l.cust).setCsBank g { s.csBank g with
      valid := false, load := some l, cust := false, verC := 0, verV := if l.cust then (s.csBank g).verV else 0 } with
    ref.meas := if l.cust then s.ref.meas.erase (measOf g true)
      else (s.ref.meas.erase (measOf g true)).erase (measOf g false) }

theorem State.csBegun_csBank (g : Nat) (l : Load) (s : State) : (s.csBegun g l).csBank g = { s.csBank g with
    valid := false, load := some l, cust := false, verC := 0, verV := if l.cust then (s.csBank g).verV else 0 } :=
  (State.csBank_of_gen rfl g).trans (State.csBank_setCsBank ..)

/-- A load that has begun has changed its bank, the measurements and the slices. -/
theorem State.csBegun_eq (g : Nat) (l : Load) (s : State) : s.csBegun g l =
    { s with gen := (s.csBegun g l).gen, ref := { s.ref with meas := (s.csBegun g l).ref.meas },
             slices := (s.csRewrite g l.cust).slices } := by
  unfold State.csBegun
  rw [State.setCsBank_eq, State.csRewrite_eq]

/-- The load that a command asks for. -/
def Cmd.csLoadOf (c : Cmd) (image : List Byte) : Load :=
  { cmd := c.serial, image := imageOf (c.arg 16 4) image, cust := decide (c.arg 21 1 = 1),
    provision := bit (c.arg 22 1) 0 }

/-- A load that nothing refuses begins: its bank is free, its arguments fit its image, a customer image has its base,
and PROVISION is in its place (R200). -/
theorem State.csLoad_of_accepted {g : Nat} {image img : List Byte} {c : Cmd} {s : State} (hg : g = c.arg 20 1 % 2)
    (himg : img = imageOf (c.arg 16 4) image) (hfree : (s.genBusy g || (s.csBank g).load.isSome) = false)
    (hfits : ¬ (c.arg 8 8 % 4096 ≠ 0 ∨ c.arg 16 4 % 4096 ≠ 0 ∨ 0x37000 < c.arg 16 4 ∨ 1 < c.arg 21 1 ∨
      byteAt img 5 ≠ c.arg 21 1 ∨ c.arg 16 4 < csWordsAt (decide (c.arg 21 1 = 1)) + 16 * csWords img))
    (hbase : c.arg 21 1 = 1 → (s.csBank g).valid = true ∧ byteAt img 12 = (s.csBank g).verV / 2 ^ 24)
    (hprov : bit (c.arg 22 1) 0 = true → c.arg 21 1 = 1 ∧ s.mode = .configure ∧ s.kennel.keyHash = none) :
    s.csLoad image c = .wait (s.csBegun g (c.csLoadOf image)) := by
  subst hg himg
  unfold State.csLoad
  dsimp only
  rw [if_neg (by simp [hfree]), if_neg hfits, if_neg, if_neg]
  · rfl
  · intro h
    obtain ⟨hp, hno⟩ := Bool.and_eq_true_iff.1 h
    obtain ⟨hreg, hmode, hkey⟩ := hprov hp
    simp [hreg, hmode, hkey] at hno
  · intro h
    obtain ⟨hreg, hno⟩ := Bool.and_eq_true_iff.1 h
    obtain ⟨hvalid, hver⟩ := hbase (of_decide_eq_true hreg)
    simp [hvalid, hver] at hno

/-- The two rows of CS_LOAD part by PROVISION. -/
theorem execCsLoads_of_begun {p : HostPort} {n : Fin 64} {image : List Byte} {c : Cmd} {s t : State}
    (hruns : runs s p n 0x31 [whole 8 8, whole 16 4, named 20 1 1, whole 21 1, named 22 1 1] c = true)
    (hload : s.csLoad image c = .wait t) :
    (if bit (c.arg 22 1) 0 then execCsLoadProvision p n image s else execCsLoad p n image s) = .next (t.wait c) := by
  split
  next hp => exact congrArg Outcome.next (State.runCmd_wait hruns hp rfl hload)
  next hp => exact congrArg Outcome.next (State.runCmd_wait hruns (by simp [hp]) rfl hload)

/-! ### The load ends (R198 to R201) -/

theorem execCsLoadDone_of_no_load {g : Fin 2} {s : State} (h : (s.csBank g).load = none) (good : Bool) :
    execCsLoadDone g good s = .next s := by
  simp [execCsLoadDone, h]

section
variable {g : Fin 2} {l : Load} {s : State} (hload : (s.csBank g).load = some l) {good : Bool}
include hload

theorem execCsLoadDone_of_bad_image (hbad : csImageOk l.cust l.image = false) : execCsLoadDone g good s =
    .next ((s.setCsBank g { s.csBank g with load := none }).completeSer l.cmd .badArg 0 0) := by
  simp [execCsLoadDone, hload, hbad]

variable (hok : csImageOk l.cust l.image = true)
include hok

theorem execCsLoadDone_of_unproven {cause : Nat} (hauth : s.csAuth l good = some cause) : execCsLoadDone g good s =
    .next ((s.setCsBank g { s.csBank g with load := none }).completeSer l.cmd .authFail cause 0) := by
  simp [execCsLoadDone, hload, hok, hauth]

/-- An image that is proven is applied, measured, and with PROVISION its key is taken where there was none (R200). -/
theorem execCsLoadDone_of_proven (hauth : s.csAuth l good = none) :
    ∃ t : State, execCsLoadDone g good s = .next (t.completeSer l.cmd .ok (imgVersion l.image) (csWords l.image)) ∧
      t.csBank g = CsBank.apply { s.csBank g with load := none } l.cust l.image ∧
      (sha384 l.image ≠ [] → t.ref.meas.get [] (measOf g l.cust) = sha384 l.image) ∧
      (∀ k, s.kennel.keyHash = some k → t.kennel.keyHash = some k) ∧
      (s.kennel.keyHash = none →
        t.kennel.keyHash = if l.provision then some (sha384 (csPubkey l.image)) else none) := by
  unfold execCsLoadDone
  dsimp only
  rw [hload]
  dsimp only
  rw [if_neg (by simp [hok]), hauth]
  refine ⟨_, rfl, ?_, fun hsha => ?_, fun k hk => ?_, fun hnone => ?_⟩
  · exact (State.csBank_of_gen rfl g).trans (State.csBank_setCsBank ..)
  · exact SMap.get_set_of_ne hsha _ _
  · simp [hk]
  · simp [hnone]

end

/-- The judgement on a load's signature, by the key hash that the kennel holds (R199). -/
theorem State.csAuth_of_hash {k : List Byte} {s : State} (h : s.kennel.keyHash = some k) (l : Load) (good : Bool) :
    s.csAuth l good = if l.cust = true ∧ sha384 (csPubkey l.image) ≠ k then some 2 else if good then none else some 1 := by
  rw [State.csAuth, h]
  by_cases hk : sha384 (csPubkey l.image) = k <;> cases l.cust <;> simp [hk, orElse, fails]

theorem State.csAuth_of_no_hash {s : State} (h : s.kennel.keyHash = none) (l : Load) (good : Bool) :
    s.csAuth l good = if l.cust = true ∧ l.provision = false then some 3 else if good then none else some 1 := by
  rw [State.csAuth, h]
  cases l.cust <;> cases l.provision <;> rfl

end Sys2Proof.Machine

namespace Sys2Proof.Proofs
open Sys2Proof.Machine Sys2Proof.Safety
open Host (Outcome)

/-- Settles O27: the load begins, and ends by what the image and its signature are worth. -/
theorem controlStoreLoads : Obligations.ControlStoreLoads := by
  unfold Obligations.ControlStoreLoads
  refine ⟨?_, ?_, ?_, ?_, ?_⟩
  · intro p n image c s hruns hbusy hnone haddr hlen hmax hreg himg hroom hbase hprov
    have hload := State.csLoad_of_accepted rfl rfl (by simp [hbusy, hnone])
      (by simp [haddr, hlen, hmax, hreg, himg, hroom]) hbase hprov
    have hbank := State.csBegun_csBank (c.arg 20 1 % 2) (c.csLoadOf image) s
    exact ⟨_, execCsLoads_of_begun hruns hload, congrArg CsBank.valid hbank, congrArg CsBank.load hbank,
      State.csBegun_eq ..⟩
  · intro g l s hload hok hauth hsha
    obtain ⟨t, hexec, hbank, hmeas, hstays, hset⟩ := execCsLoadDone_of_proven hload hok hauth
    refine ⟨t, hexec, hbank, hbank ▸ CsBank.apply_valid .., hmeas hsha, ?_⟩
    cases hk : s.kennel.keyHash with
    | none => exact hset hk
    | some k => exact hstays k hk
  · intro g l good s hload hbad
    exact execCsLoadDone_of_bad_image hload hbad
  · intro g l good cause s hload hok hauth
    exact execCsLoadDone_of_unproven hload hok hauth
  · intro s l good
    cases hk : s.kennel.keyHash with
    | none => exact State.csAuth_of_no_hash hk l good
    | some k => exact State.csAuth_of_hash hk l good

end Sys2Proof.Proofs
end

section
/-! Heads are given to engines, engines are tested and retired, and the control store is repaired (O33). -/
namespace Sys2Proof.Machine
open Sys2Proof.Safety
open Host (Outcome)

/-! ### Heads go to engines (R174, R175) -/

section
variable {sl : Slice} {k : Pkt} {s : State} (hlive : s.bufLive = true)
  (hfirst : ((s.headOrder sl).find? fun k => decide (k.headAt ≤ s.now)) = some k)
include hlive hfirst

theorem execHeadDispatch_of_engine {e : Nat} (he : s.pickEngine sl = some e) : execHeadDispatch sl s =
    .next ((s.startParse k e).onSlice sl fun x => { x with lastPick := e }) := by
  simp [execHeadDispatch, hlive, hfirst, he]

/-- With no engine free the head is loaded into a second buffer. -/
theorem execHeadDispatch_of_buffer {e : Nat} (hno : s.pickEngine sl = none) (he : s.pickBuffer sl = some e) :
    execHeadDispatch sl s =
      .next ((s.setPkt { k with stage := .loaded e }).onSlice sl fun x => { x with lastPick := e }) := by
  simp [execHeadDispatch, hlive, hfirst, hno, he]

end

theorem execHeadDispatch_of_none {sl : Slice} {s : State} (h : ∀ k ∈ s.headOrder sl, s.now < k.headAt) :
    execHeadDispatch sl s = .next s := by
  have hnone : ((s.headOrder sl).find? fun k => decide (k.headAt ≤ s.now)) = none := by
    simpa [List.find?_eq_none] using h
  simp [execHeadDispatch, hnone]

/-! ### A parse ends (R177, R185, R204) -/

section
variable {sl : Slice} {e : Fin 128} {k : Pkt} {s : State} (hlive : s.bufLive = true) (hinj : s.flt.inj = [])
  (hk : (s.core.pkts.find? fun k => decide (k.slice = sl.val ∧ k.stage = .engine e.val)) = some k)
  (errs : List (Nat × EccErr))
include hlive hinj hk

theorem execParseStop_of_good {x : Par} {t : State} (hparse : s.parse k errs = (x, t)) :
    execParseStop sl e false errs s = .next (((t.setPkt
      { k with stage := .parsed, key := x.key, hdrs := x.hdrs, flags := x.flags }).countParse k x).promote sl e) := by
  simp [-Bool.decide_and, execParseStop, hlive, hk, State.injected_of_none hinj, hparse]

/-- The first parity error gives the head to another engine. -/
theorem execParseStop_of_first_parity (h0 : k.reparses = 0) : execParseStop sl e true errs s =
    .next (((s.setPkt { k with stage := .headQ, reparses := 1 }).parseCount sl 5).retireEngine sl e false).pfcUpdate := by
  simp [-Bool.decide_and, execParseStop, hlive, hk, State.injected_of_none hinj, h0]

/-- The second one drops the packet. -/
theorem execParseStop_of_second_parity (h0 : k.reparses ≠ 0) : execParseStop sl e true errs s =
    .next ((((s.setPkt { k with stage := .headQ }).slotLeave sl .wastedDrop).dropPkt 1 Draw.zero k).retireEngine sl e
      false).pfcUpdate := by
  simp [-Bool.decide_and, execParseStop, hlive, hk, State.injected_of_none hinj, h0]

end

theorem State.promote_of_loaded {n e : Nat} {k : Pkt} {s : State}
    (h : (s.core.pkts.find? fun k => decide (k.slice = n ∧ k.stage = .loaded e)) = some k) :
    s.promote n e = s.startParse k e := by
  simp [-Bool.decide_and, State.promote, h]

/-! ### Canary tests (R203, R205) -/

theorem execCanaryTest_of_due {sl : Slice} {e sp : Nat} {s : State} (hdue : s.canaryDue sl = true)
    (he : (s.slice sl).nextTest = some e) (hsp : (s.slice sl).nextSpare = some sp) (hfree : s.engineFree sl e = true)
    (hbuf : s.bufferFree sl e = true) (hserves : e ∉ (s.slice sl).spares) : execCanaryTest sl s =
      .next (s.setSlice sl
        ({ s.slice sl with spares := (s.slice sl).spares.filter (· ≠ sp) ++ [e] }.begin s.now e)) := by
  simp [execCanaryTest, hdue, he, hsp, hfree, hbuf, hserves]

section
variable {sl : Slice} {e at' : Nat} {s : State} (hinj : s.flt.inj = []) (htest : (s.slice sl).test = some (e, at'))
include hinj htest

theorem execCanaryTestEnd_of_pass : execCanaryTestEnd sl true s = .next (s.setSlice sl
    { s.slice sl with test := none, canPass := ((s.slice sl).canPass + 1) % 65536, canLast := e }) := by
  simp [execCanaryTestEnd, htest, State.injected_of_none hinj]

theorem execCanaryTestEnd_of_fail : execCanaryTestEnd sl false s = .next (((s.setSlice sl
    { s.slice sl with canFail := satInc 8 (s.slice sl).canFail, canLast := e }).retireEngine sl e false).pfcUpdate) := by
  simp [execCanaryTestEnd, htest, State.injected_of_none hinj]

end

/-! ### A retired engine (R205, R206) -/

theorem State.slice_of_slices {s t : State} (h : t.slices = s.slices) (n : Nat) : t.slice n = s.slice n := by
  rw [State.slice, h, State.slice]

/-- A slice that differs from one after reset reads as written, whatever the form of the map. -/
theorem State.slice_setSlice_of_ne {x : SliceSt} (hx : x ≠ SliceSt.zero) (n : Nat) (s : State) :
    (s.setSlice n x).slice n = x := SMap.get_set_of_ne hx _ n

theorem State.slice_setSlice {s : State} (hwf : s.slices.wf (fun _ => SliceSt.zero) = true) (n : Nat) (x : SliceSt) :
    (s.setSlice n x).slice n = x := SMap.get_set_self hwf _ _ _

/-- No engine is retired after reset. -/
theorem SliceSt.ne_zero_of_mem_retired {x : SliceSt} {e : Nat} (h : e ∈ x.retired) : x ≠ SliceSt.zero := by
  rintro rfl
  simp [SliceSt.zero] at h

/-- A slice with one of its spares brought into service (R205). -/
def SliceSt.spareIn (sp : Nat) (x : SliceSt) : SliceSt :=
  { x with spares := x.spares.filter (· ≠ sp), test := if x.test.map Prod.fst = some sp then none else x.test }

/-- What retirement leaves of a slice: the engine retired and no spare, its place perhaps taken by a spare. -/
theorem State.retireEngine_slices (n e : Nat) (inj : Bool) (s : State) :
    ∃ x : SliceSt, e ∈ x.retired ∧ e ∉ x.spares ∧ (s.retireEngine n e inj).slices = s.slices.set SliceSt.zero n x := by
  unfold State.retireEngine
  extract_lets t x src wasIn x1 s1 s2
  have hslices : s1.slices = s.slices := by simp [s1, t]
  have hretired : e ∈ x1.retired := by simp [x1]
  have hspare : e ∉ x1.spares := by simp [x1]
  split
  · refine ⟨x1, hretired, hspare, ?_⟩
    split <;> simp [s2, State.setSlice, hslices]
  · split
    next sp _ =>
      refine ⟨x1.spareIn sp, hretired, fun h => hspare (List.mem_of_mem_filter h), ?_⟩
      dsimp only
      split <;> simp [State.setSlice, hslices, SliceSt.spareIn]
    · exact ⟨x1, hretired, hspare, by simp [State.setSlice, hslices]⟩

/-! ### The scrub (R207) -/

theorem State.raiseX_inj (src code : Nat) (c : Cls) (detail : Nat) (inj : Bool) (s : State) :
    (s.raiseX src code c detail inj).flt.inj = s.flt.inj := by
  unfold State.raiseX
  dsimp only
  (repeat' split) <;> rfl

/-- With nothing armed a read of the store arms nothing. -/
theorem State.csRead_inj {s : State} (h : s.flt.inj = []) (n loc : Nat) (errs : List (Nat × EccErr)) :
    (s.csRead n loc errs).2.flt.inj = [] := by
  unfold State.csRead
  rw [State.injected_of_none h]
  dsimp only
  (repeat' split) <;> simp [State.raise, State.raiseX_inj, h]

/-- With nothing armed a scrub has something to show only where the memory shows an error. -/
theorem State.scrubLocs_of_not_armed {s : State} (h : s.flt.inj = []) (src checker size : Nat) (loading : Nat → Bool)
    (errs : List Nat) : s.scrubLocs src checker size loading errs = errs.eraseDups.filter fun l =>
      decide (l < 131072) && decide (l % 65536 < size) && !loading (l / 65536) := by
  have hfirst (all : Nat) : satTo all 0 = 0 := by simp [satTo]
  simp [State.scrubLocs, h, hfirst]

theorem State.csScrub_nil {s : State} (h : s.flt.inj = []) (n : Nat) : s.csScrub n [] = s := by
  simp [State.csScrub, State.scrubLocs_of_not_armed h]

theorem State.csScrub_one {s : State} (h : s.flt.inj = []) {loc : Nat} (hloc : loc < 131072)
    (hbank : loc % 65536 < csBankSize) (n : Nat) (err : EccErr) : s.csScrub n [(loc, err)] =
      if (s.csBank (loc / 65536)).load.isSome then s else (s.csRead n loc [(loc, err)]).2 := by
  rw [State.csScrub, State.scrubLocs_of_not_armed h]
  cases hload : (s.csBank (loc / 65536)).load <;> simp [hloc, hbank, hload, List.eraseDups_cons]

/-- A fold whose steps do nothing but at one place does what the step does there. -/
theorem foldl_eq_of_only {P : State → Prop} {f : State → Nat → State} {a : Nat}
    (hother : ∀ t b, P t → b ≠ a → f t b = t) {s : State} (hs : P s) (hf : P (f s a)) {l : List Nat} (hnodup : l.Nodup)
    (ha : a ∈ l) : l.foldl f s = f s a := by
  have hrest (t : State) (ht : P t) (r : List Nat) (hr : a ∉ r) : r.foldl f t = t := by
    induction r with
    | nil => rfl
    | cons b r ih =>
      obtain ⟨hb, hr⟩ := not_or.1 (mt List.mem_cons.2 hr)
      rw [List.foldl_cons, hother t b ht (Ne.symm hb), ih hr]
  induction l with
  | nil => exact absurd ha List.not_mem_nil
  | cons b r ih =>
    obtain ⟨hb, hr⟩ := List.nodup_cons.1 hnodup
    rw [List.foldl_cons]
    by_cases hba : b = a
    · subst hba
      exact hrest _ hf r hb
    · rw [hother s b hs hba]
      exact ih hr (List.mem_of_ne_of_mem (Ne.symm hba) ha)

theorem execCsScrub_of_none {s : State} (h : s.flt.inj = []) : execCsScrub [] s = .next s := by
  have hfold : (List.range 16).foldl (fun t n => t.csScrub n []) s = s :=
    List.foldlRecOn (motive := (· = s)) _ _ rfl fun t ht n _ => by rw [ht, State.csScrub_nil h]
  simp [execCsScrub, hfold]

/-- A scrub that meets one error is the scrub of that slice. -/
theorem execCsScrub_of_one {s : State} (hacts : s.collieActs = true) (hinj : s.flt.inj = []) {loc : Nat}
    (hloc : loc < 131072) (hbank : loc % 65536 < csBankSize) (sl : Slice) (err : EccErr) :
    execCsScrub [(sl, loc, err)] s =
      .next (if (s.csBank (loc / 65536)).load.isSome then s else (s.csRead sl loc [(loc, err)]).2) := by
  rw [← State.csScrub_one hinj hloc hbank]
  refine congrArg Outcome.next ((if_pos hacts).trans ?_)
  rw [foldl_eq_of_only (P := fun t => t.flt.inj = []) (a := sl) ?_ hinj ?_ List.nodup_range (List.mem_range.2 sl.isLt)]
  · simp
  · intro t n ht hn
    simp [Ne.symm hn, State.csScrub_nil ht]
  · simp only [decide_true, List.filter_cons_of_pos, List.filter_nil, List.map_cons, List.map_nil]
    rw [State.csScrub_one hinj hloc hbank]
    split
    · exact hinj
    · exact State.csRead_inj hinj _ _ _

/-! ### A repair (R208) -/

/-- A report is of the fault collector alone. -/
theorem State.raiseX_slices (src code : Nat) (c : Cls) (detail : Nat) (inj : Bool) (s : State) :
    (s.raiseX src code c detail inj).slices = s.slices := by simp

/-- A location rewritten from a good copy is marked no longer. -/
theorem execCsEccRepair_of_source {sl : Slice} {loc m : Nat} {s : State} (hacts : s.collieActs = true)
    (hbad : loc * 2 ∈ (s.slice sl).csBad) (hsource : s.csSource sl loc = some m) :
    execCsEccRepair sl loc s = .next ((s.setSlice sl
      { s.slice sl with csBad := (s.slice sl).csBad.filter fun l => l / 2 ≠ loc }).raiseX (sliceSrc sl) 0x14 .uc
        (packItems (csDetail loc ++ [(4, m)])) ((s.slice sl).csBad.contains (loc * 2 + 1))) := by
  simp [execCsEccRepair, hacts, hbad, hsource]

end Sys2Proof.Machine

namespace Sys2Proof.Proofs
open Sys2Proof.Machine Sys2Proof.Safety

/-- Settles O33: the heads, the parses, the canary tests and the retired engines, and the control store. -/
theorem headsEnginesAndControlStore : Obligations.HeadsEnginesAndControlStore := by
  unfold Obligations.HeadsEnginesAndControlStore
  refine ⟨?_, ?_, ?_, ?_, ?_, ?_, ?_, ?_, ?_, ?_, ?_, ?_, ?_⟩
  · intro sl k e s hlive hfirst he
    exact execHeadDispatch_of_engine hlive hfirst he
  · intro sl k e s hlive hfirst hno he
    exact execHeadDispatch_of_buffer hlive hfirst hno he
  · intro sl s hlate
    exact execHeadDispatch_of_none hlate
  · intro sl e errs k x t s hlive hinj hk hparse
    exact execParseStop_of_good hlive hinj hk errs hparse
  · intro n e k s hk
    exact State.promote_of_loaded hk
  · intro sl e errs k s hlive hinj hk hfirst
    exact execParseStop_of_first_parity hlive hinj hk errs hfirst
  · intro sl e errs k s hlive hinj hk hsecond
    exact execParseStop_of_second_parity hlive hinj hk errs hsecond
  · intro sl e sp s hdue he hsp hfree hbuf hserves
    exact execCanaryTest_of_due hdue he hsp hfree hbuf hserves
  · intro sl e at' s hinj htest
    exact ⟨execCanaryTestEnd_of_pass hinj htest, execCanaryTestEnd_of_fail hinj htest⟩
  · intro n e inj s
    obtain ⟨x, hretired, hspare, hslices⟩ := State.retireEngine_slices n e inj s
    rw [State.slice_of_slices (t := s.retireEngine n e inj) (s := s.setSlice n x) hslices,
      State.slice_setSlice_of_ne (SliceSt.ne_zero_of_mem_retired hretired)]
    exact ⟨hretired, hspare⟩
  · intro s hinj
    exact execCsScrub_of_none hinj
  · intro sl loc err s hacts hinj hloc hbank
    exact execCsScrub_of_one hacts hinj hloc hbank sl err
  · intro sl loc m s hacts hwf hbad hsource
    refine ⟨_, execCsEccRepair_of_source hacts hbad hsource, ?_⟩
    rw [State.slice_of_slices (State.raiseX_slices ..), State.slice_setSlice hwf]
    have hhalf : (loc * 2 + 1) / 2 = loc := by omega
    simp [hhalf]

end Sys2Proof.Proofs
end

section
/-! What becomes of the packets at the end of the lookup stage (O35). -/
namespace Sys2Proof.Machine
open Sys2Proof.Safety
open Host (Outcome)

/-! ### Whose turn it is (R178) -/

/-- The oldest packet leaves first, as soon as it is parsed. -/
theorem State.nextLookup_of_parsed {n : Nat} {k : Pkt} {r : List Pkt} {s : State} (h : s.pktsOf n = k :: r)
    (hk : k.stage = .parsed) : s.nextLookup n = some k := by
  simp [State.nextLookup, h, hk]

theorem execLookupComplete_of_none {sl : Slice} {s : State} (h : s.nextLookup sl = none) (errs : List MemErr)
    (rows : List RowErr) (pick : Draw) : execLookupComplete sl errs rows pick s = .next s := by
  simp [execLookupComplete, h]

/-! ### The disposition of the parse (R186) -/

section
variable {sl : Slice} {k : Pkt} {s : State} (hlive : s.bufLive = true) (hnext : s.nextLookup sl = some k)
include hlive hnext

theorem execLookupComplete_of_drop (hd : s.disposition k = 1) (errs : List MemErr) (rows : List RowErr) (pick : Draw) :
    execLookupComplete sl errs rows pick s =
      .next (((s.parseCount k.slice 6).learnFrom k errs).actionDrop 9 pick k).pfcUpdate := by
  simp [execLookupComplete, hlive, hnext, hd]

theorem execLookupComplete_of_trap (hd : s.disposition k = 2) (errs : List MemErr) (rows : List RowErr) (pick : Draw) :
    execLookupComplete sl errs rows pick s = .next (((s.parseCount k.slice 7).learnFrom k errs).actionDone pick k
      { Fate.zero with trap := some (bits (s.rd (slReg k.slice 0x104)) 13 8, 2, k.flags % 2 ^ 16) }).pfcUpdate := by
  simp [execLookupComplete, hlive, hnext, hd]

variable (hd : s.disposition k = 0 ∨ s.disposition k = 3) {errs : List MemErr} {rows : List RowErr} (pick : Draw)
include hd

/-- A packet that is neither dropped nor trapped is looked up; a class error drops it (R225). -/
theorem execLookupComplete_of_classErr {t : State}
    (hlook : (s.learnFrom k errs).lookups k (s.disposition k == 3) errs rows = (none, t)) :
    execLookupComplete sl errs rows pick s = .next (t.actionDrop 0x0F pick k).pfcUpdate := by
  have h1 : s.disposition k ≠ 1 := by omega
  have h2 : s.disposition k ≠ 2 := by omega
  simp [execLookupComplete, hlive, hnext, hlook]

/-- Otherwise the actions found act (R213). -/
theorem execLookupComplete_of_found {ws : List (Nat × Nat)} {cls : Nat} {f : Found} {t : State}
    (hlook : (s.learnFrom k errs).lookups k (s.disposition k == 3) errs rows = (some (ws, cls, f), t)) :
    execLookupComplete sl errs rows pick s = .next (t.applyActions k ws cls f errs pick).pfcUpdate := by
  have h1 : s.disposition k ≠ 1 := by omega
  have h2 : s.disposition k ≠ 2 := by omega
  simp [execLookupComplete, hlive, hnext, hlook]

end

/-! ### Where the actions send it (R214, R386) -/

section
variable {f : Fate} (pick : Draw) (k : Pkt) (s : State)

theorem State.settleFate_drop_of_no_copy (h : f.copy = none) (r : Nat) (red : Bool) :
    s.settleFate (.drop r) red f pick k = s.actionDrop r pick { k with fate := f } := by
  simp [State.settleFate, h]

/-- A red drop takes every packet that no other drop takes. -/
theorem State.settleFate_red {d : Dest} (h : ∀ r, d ≠ .drop r) :
    s.settleFate d true f pick k = s.actionDrop 0x10 pick { k with fate := f } := by
  cases d with
  | drop r => exact absurd rfl (h r)
  | trap q reason mid => rfl
  | port p c => rfl

end

end Sys2Proof.Machine

namespace Sys2Proof.Proofs
open Sys2Proof.Machine Sys2Proof.Safety

/-- Settles O35: whose turn it is, then the dispositions, then the fates. -/
theorem lookupsEndInFates : Obligations.LookupsEndInFates := by
  unfold Obligations.LookupsEndInFates
  refine ⟨?_, ?_, ?_, ?_, ?_, ?_, ?_, ?_, ?_, ?_⟩
  · intro sl errs rows pick s hnone
    exact execLookupComplete_of_none hnone errs rows pick
  · intro sl k r s hpkts hparsed
    exact State.nextLookup_of_parsed hpkts hparsed
  · intro sl errs rows pick k s hlive hnext hdrop
    exact execLookupComplete_of_drop hlive hnext hdrop errs rows pick
  · intro sl errs rows pick k s hlive hnext htrap
    exact ⟨_, rfl, execLookupComplete_of_trap hlive hnext htrap errs rows pick⟩
  · intro sl errs rows pick k s t hlive hnext hfwd hlook
    exact execLookupComplete_of_classErr hlive hnext hfwd pick hlook
  · intro sl errs rows pick k ws cls f s t hlive hnext hfwd hlook
    exact execLookupComplete_of_found hlive hnext hfwd pick hlook
  · intro r red f pick k s hcopy
    exact State.settleFate_drop_of_no_copy pick k s hcopy r red
  · intro d f pick k s hd
    exact State.settleFate_red pick k s hd
  · intro p c f pick k s
    rfl
  · intro q r m f pick k s
    rfl

end Sys2Proof.Proofs
end

section
/-! A provisioned customer-key hash stays (O52): one command may set it, and only where there is none. -/
namespace Sys2Proof.Machine
open Sys2Proof.Safety
open Host (Outcome)

/-- The end of a control-store load alone may change the key hash. -/
theorem eq_csLoadDone_of_keyHash_mem_parts {i : Instr} (h : Part.keyHash ∈ parts i) :
    ∃ g good, i = .csLoadDone g good := by
  cases i with
  | csLoadDone g good => exact ⟨g, good, rfl⟩
  | _ => simp [parts] at h

/-- A load that ends leaves a hash once provisioned, whatever the image is worth (R200). -/
theorem execCsLoadDone_keeps_keyHash {g : Fin 2} {good : Bool} {s t : State} {k : List Byte}
    (hk : s.kennel.keyHash = some k) (e : execCsLoadDone g good s = .next t) : t.kennel.keyHash = some k := by
  cases hload : (s.csBank g).load with
  | none =>
    rw [execCsLoadDone_of_no_load hload] at e
    obtain rfl := Outcome.next.inj e
    exact hk
  | some l =>
    cases hok : csImageOk l.cust l.image with
    | false =>
      rw [execCsLoadDone_of_bad_image hload hok] at e
      obtain rfl := Outcome.next.inj e
      simpa using hk
    | true =>
      cases hauth : s.csAuth l good with
      | some cause =>
        rw [execCsLoadDone_of_unproven hload hok hauth] at e
        obtain rfl := Outcome.next.inj e
        simpa using hk
      | none =>
        obtain ⟨u, hexec, -, -, hstays, -⟩ := execCsLoadDone_of_proven hload hok hauth
        obtain rfl := Outcome.next.inj (hexec.symm.trans e)
        simpa using hstays k hk

/-- Every other command leaves it by the parts that it may change. -/
theorem exec_keeps_keyHash {i : Instr} {s t : State} {k : List Byte} (hk : s.kennel.keyHash = some k)
    (e : exec i s = .next t) : t.kennel.keyHash = some k := by
  by_cases hi : Part.keyHash ∈ parts i
  · obtain ⟨g, good, rfl⟩ := eq_csLoadDone_of_keyHash_mem_parts hi
    exact execCsLoadDone_keeps_keyHash hk e
  · have hsame : t.kennel.keyHash = s.kennel.keyHash := (exec_agree e).same_of_notMem_parts hi
    exact hsame.trans hk

end Sys2Proof.Machine

namespace Sys2Proof.Proofs
open Sys2Proof.Machine Sys2Proof.Safety

/-- Settles O52: a nanosecond leaves the kennel, and a command the hash. -/
theorem provisionedKeyHashStays : Obligations.ProvisionedKeyHashStays := by
  unfold Obligations.ProvisionedKeyHashStays
  intro s t k hk e
  unfold step at e
  split at e
  · obtain rfl := Host.Outcome.next.inj e
    simpa using hk
  next c rest _ => exact exec_keeps_keyHash (s := { s with pending := rest }) hk e

end Sys2Proof.Proofs
end

section
/-! Tree images are loaded, scrubbed and repaired, and generations are swapped and drained (O28). -/
namespace Sys2Proof.Machine
open Sys2Proof.Safety
open Host (Outcome)

/-! ### A tree image is loaded (R222 to R224) -/

/-- The load that a command asks for. -/
def Cmd.treeLoadOf (c : Cmd) (image : List Byte) : Load :=
  { cmd := c.serial, image := imageOf (c.arg 16 4) image, cust := false, provision := false }

/-- The state once a tree load has begun: its bank is invalid and holds it, and its units read good. -/
def State.treeBegun (g : Nat) (l : Load) (s : State) : State :=
  (s.treeRewrite g).setTreeBank g { s.treeBank g with valid := false, ver := 0, load := some l }

/-- A load into a bank that is free begins where its arguments fit its image. -/
theorem execTreeLoad_of_accepted {p : HostPort} {n : Fin 64} {image : List Byte} {c : Cmd} {s : State} {g : Nat}
    (hruns : runs s p n 0x30 [whole 8 8, whole 16 4, named 20 1 1] c = true) (hg : g = c.arg 20 1 % 2)
    (hfree : (s.genBusy g || (s.treeBank g).load.isSome) = false)
    (hfits : ¬ (c.arg 8 8 % 4096 ≠ 0 ∨ c.arg 16 4 % 4096 ≠ 0 ∨ 0x101000 < c.arg 16 4 ∨
      c.arg 16 4 < 0x1000 + 64 * treeUnits (imageOf (c.arg 16 4) image))) :
    execTreeLoad p n image s = .next ((s.treeBegun g (c.treeLoadOf image)).wait c) := by
  subst hg
  refine congrArg Outcome.next (State.runCmd_wait hruns rfl rfl ?_)
  dsimp only
  rw [if_neg (by simp [hfree]), if_neg hfits]
  rfl

theorem execTreeLoadDone_of_load {g : Fin 2} {l : Load} {s : State} (h : (s.treeBank g).load = some l) :
    execTreeLoadDone g s = .next (match treeFail l.image with
      | none => (s.setTreeBank g (TreeBank.apply l.image)).completeSer l.cmd .ok (imgVersion l.image) (treeUnits l.image)
      | some off => (s.setTreeBank g { s.treeBank g with load := none }).completeSer l.cmd .badArg off 0) := by
  cases hfail : treeFail l.image <;> simp [execTreeLoadDone, h, hfail]

/-! ### The scrub (R225) -/

theorem State.treeScrub_nil {s : State} (h : s.flt.inj = []) (n : Nat) : s.treeScrub n [] = s := by
  simp [State.treeScrub, State.scrubLocs_of_not_armed h]

theorem execTreeScrub_of_none {s : State} (h : s.flt.inj = []) : execTreeScrub [] s = .next s := by
  have hfold : (List.range 16).foldl (fun t n => t.treeScrub n []) s = s :=
    List.foldlRecOn (motive := (· = s)) _ _ rfl fun t ht n _ => by rw [ht, State.treeScrub_nil h]
  simp [execTreeScrub, hfold]

theorem execTreeScrub_of_no_collie {s : State} (h : s.collieActs = false) (errs : List (Slice × Nat × EccErr)) :
    execTreeScrub errs s = .next s := by
  simp [execTreeScrub, h]

/-- A slice's own scrub logs a single-bit error of a unit that reads good, in a bank that is not being loaded. -/
theorem State.treeScrub_one {n loc : Nat} {s : State} (hinj : s.flt.inj = []) (hloc : loc < 131072)
    (hunit : loc % 65536 < 16384) (hload : (s.treeBank (loc / 65536)).load = none)
    (hgood : loc * 2 ∉ (s.slice n).treeBad) (hgood' : loc * 2 + 1 ∉ (s.slice n).treeBad) :
    s.treeScrub n [(loc, .one)] = s.raise (sliceSrc n) 0x24 .ce (packItems (treeDetail loc)) := by
  have hread : (s.treeRead n loc [(loc, .one)]).2 = s.raise (sliceSrc n) 0x24 .ce (packItems (treeDetail loc)) := by
    simp [State.treeRead, State.injected_of_none hinj, hgood, hgood']
  simp [State.treeScrub, State.scrubLocs_of_not_armed hinj, List.eraseDups_cons, hloc, hunit, hload, hread]

/-- A scrub that meets one error is the scrub of that slice: the other slices' scrubs find nothing. -/
theorem execTreeScrub_of_one {m : Slice} {loc : Nat} {s : State} (hacts : s.collieActs = true) (hinj : s.flt.inj = [])
    (hloc : loc < 131072) (hunit : loc % 65536 < 16384) (hload : (s.treeBank (loc / 65536)).load = none)
    (hgood : loc * 2 ∉ (s.slice m).treeBad) (hgood' : loc * 2 + 1 ∉ (s.slice m).treeBad) :
    execTreeScrub [(m, loc, .one)] s =
      .next (s.raise (sliceSrc m) 0x24 .ce (packItems (treeDetail loc))) := by
  have hone := State.treeScrub_one hinj hloc hunit hload hgood hgood'
  refine congrArg Outcome.next ((if_pos hacts).trans ?_)
  rw [foldl_eq_of_only (P := fun t => t.flt.inj = []) (a := m) ?_ hinj ?_ List.nodup_range (List.mem_range.2 m.isLt)]
  · simpa using hone
  · intro t n ht hn
    simp [Ne.symm hn, State.treeScrub_nil ht]
  · simp [hone, State.raise, State.raiseX_inj, hinj]

/-- A unit marked bad by an error of its own is rewritten where the next slice's copy is good. -/
theorem execTreeEccRepair_of_good_copy {m : Slice} {loc : Nat} {s : State} (hbad : loc * 2 ∈ (s.slice m).treeBad)
    (hown : loc * 2 + 1 ∉ (s.slice m).treeBad) (hcopy : loc * 2 ∉ (s.slice ((m.val + 1) % 16)).treeBad)
    (hcopy' : loc * 2 + 1 ∉ (s.slice ((m.val + 1) % 16)).treeBad) :
    execTreeEccRepair m loc s = .next ((s.setSlice m
      { s.slice m with treeBad := (s.slice m).treeBad.filter fun l => l / 2 ≠ loc }).raiseX (sliceSrc m) 0x25 .uc
        (packItems (treeDetail loc ++ [(4, (m.val + 1) % 16)])) false) := by
  simp [execTreeEccRepair, hbad, hown, hcopy, hcopy']

/-! ### GEN_SWAP (R246, R247) -/

section
variable {p : HostPort} {n : Fin 64} {c : Cmd} {s : State} {fs : List ArgField}
  (hruns : runs s p n 0x32 fs c = true)
  (hfs : [named 8 1 1, named 9 1 3] ++ (if bit (c.arg 9 1) 1 then [whole 16 8, whole 24 4, whole 28 2] else []) = fs)
include hruns hfs

/-- A swap to the generation that is current has nothing to do. -/
theorem execGenSwap_of_current (htimed : bit (c.arg 9 1) 1 = false) (hcur : s.gen.cur = c.arg 8 1 % 2) :
    execGenSwap p n s = .next (s.complete c .ok 0 0) :=
  congrArg Outcome.next (State.runCmd_done hruns rfl hfs (if_pos ⟨hcur, by simp [htimed]⟩))

/-- A swap that nothing refuses is pending, for its instant where that is to come and else for the next cycle. -/
theorem execGenSwap_of_pending (hcur : s.gen.cur ≠ c.arg 8 1 % 2) (hcs : (s.csBank (c.arg 8 1 % 2)).valid = true)
    (htree : (s.treeBank (c.arg 8 1 % 2)).valid = true)
    (hat : bit (c.arg 9 1) 1 = true → c.timeOk 16 = true ∧ c.time 16 ≤ s.devTime + tenSec)
    (hnone : s.gen.swap = none) (hload : s.anyLoad = false) : execGenSwap p n s = .next (({ s with
      gen.swap := some { cmd := c.serial, target := c.arg 8 1 % 2, waitDrain := bit (c.arg 9 1) 0,
                         at' := if bit (c.arg 9 1) 1 && decide (s.devTime < c.time 16) then some (c.time 16)
                           else none } } : State).wait c) := by
  refine congrArg Outcome.next (State.runCmd_wait hruns rfl hfs ?_)
  dsimp only
  rw [if_neg (fun h => hcur h.1), if_neg (by simp [hcs, htree, b2n]), if_neg, if_neg (by simp [hnone, hload])]
  intro h
  obtain ⟨htimed, hbad⟩ := Bool.and_eq_true_iff.1 h
  obtain ⟨hok, hsoon⟩ := hat htimed
  simp [hok, Nat.not_lt.2 hsoon] at hbad

end

/-! ### The instant and the drain (R247, R248) -/

theorem execGenSwapInstant_of_due {w : Swap} {ts : Nat} {s : State} (hswap : s.gen.swap = some w)
    (hdue : w.at' = none ∧ ts = s.devTime ∨ w.at' = some ts ∧ ts ≤ s.devTime) :
    execGenSwapInstant s = .next (s.doSwap w ts) := by
  rcases hdue with ⟨hat, rfl⟩ | ⟨hat, hle⟩
  · simp [execGenSwapInstant, hswap, hat]
  · simp [execGenSwapInstant, hswap, hat, hle]

theorem execGenSwapInstant_of_none {s : State} (h : s.gen.swap = none) : execGenSwapInstant s = .next s := by
  simp [execGenSwapInstant, h]

theorem execGenSwapInstant_of_later {w : Swap} {ts : Nat} {s : State} (hswap : s.gen.swap = some w)
    (hat : w.at' = some ts) (hlater : s.devTime < ts) : execGenSwapInstant s = .next s := by
  simp [execGenSwapInstant, hswap, hat, Nat.not_le.2 hlater]

theorem execGenDrained_of_none {s : State} (h : ∀ d ∈ s.gen.drains, s.infl d.old ≠ 0) : execGenDrained s = .next s := by
  have hnone : (s.gen.drains.find? fun d => decide (s.infl d.old = 0)) = none := by simpa [List.find?_eq_none] using h
  simp [execGenDrained, hnone]

theorem execGenDrained_of_drained {d : Drained} {s : State}
    (h : (s.gen.drains.find? fun d => decide (s.infl d.old = 0)) = some d) : execGenDrained s =
      .next (({ s with gen.drains := s.gen.drains.filter fun e => e.cmd ≠ d.cmd } : State).completeSer d.cmd .ok d.count
        (satTo 0xFFFFFF ((s.now - d.since + 999) / 1000))) := by
  simp [execGenDrained, h]

end Sys2Proof.Machine

namespace Sys2Proof.Proofs
open Sys2Proof.Machine Sys2Proof.Safety
open Host (Outcome)

/-- Settles O28: the load and its end, the scrub and the repair of tree memory, then the swap as it is asked for, at its
instant and drained. -/
theorem treesAndGenerations : Obligations.TreesAndGenerations := by
  unfold Obligations.TreesAndGenerations
  refine ⟨?_, ?_, ?_, ?_, ?_, ?_, ?_, ?_, ?_, ?_, ?_, ?_, ?_⟩
  · intro p n image c s hruns hbusy hnone haddr hlen hmax hroom
    exact execTreeLoad_of_accepted hruns rfl (by simp [hbusy, hnone]) (by simp [haddr, hlen, hmax, hroom])
  · intro g l s hload
    exact execTreeLoadDone_of_load hload
  · intro s hinj
    exact execTreeScrub_of_none hinj
  · intro errs s hacts
    exact execTreeScrub_of_no_collie hacts errs
  · intro m loc s hacts hloc hunit hload hinj hgood hgood'
    exact execTreeScrub_of_one hacts hinj hloc hunit hload hgood hgood'
  · intro m loc s hbad hown hcopy hcopy'
    exact execTreeEccRepair_of_good_copy hbad hown hcopy hcopy'
  · intro p n c s hruns htimed hcur
    exact execGenSwap_of_current hruns (by simp [htimed]) htimed hcur
  · intro p n c s hruns htimed hcur hcs htree hnone hload
    refine (execGenSwap_of_pending hruns (by simp [htimed]) hcur hcs htree (by simp [htimed]) hnone hload).trans ?_
    simp [htimed]
  · intro p n c s hruns htimed hok hsoon hcur hcs htree hnone hload
    refine (execGenSwap_of_pending hruns (by simp [htimed]) hcur hcs htree (fun _ => ⟨hok, hsoon⟩) hnone hload).trans ?_
    simp [htimed]
  · intro w ts s s1 hswap hdue hs1
    subst hs1
    refine (execGenSwapInstant_of_due hswap hdue).trans (congrArg Outcome.next ?_)
    simp [State.doSwap]
  · intro s hwait
    rcases hwait with hnone | ⟨w, ts, hswap, hat, hlater⟩
    · exact execGenSwapInstant_of_none hnone
    · exact execGenSwapInstant_of_later hswap hat hlater
  · intro s hfull
    exact execGenDrained_of_none hfull
  · intro s d hdrained
    exact execGenDrained_of_drained hdrained

end Sys2Proof.Proofs
end

section
/-! ACL entries are written, moved, masked, invalidated, read and probed, and rows are repaired (O32). -/
namespace Sys2Proof.Machine
open Sys2Proof.Safety
open Host (Outcome)

/-! ### Commands that store entries (R229 to R234) -/

/-- A command whose meaning applies entries is refused where a view that it changes is in use, and else stores them. -/
theorem State.runCmd_of_apply {p : HostPort} {n op : Nat} {fs : List ArgField} {c : Cmd} {row : Cmd → Bool}
    {layout : Cmd → List ArgField} {body : Cmd → State → Ran} {s : State} {ns : List Nat} {loc : Nat}
    {new : Nat → Option AclEnt} {live : Bool} (hruns : runs s p n op fs c = true) (hrow : row c = true)
    (hlayout : layout c = fs) (hbody : body c s = s.aclApply ns loc new live) :
    s.runCmd p n op row layout body =
      if s.viewBusy (ns.foldl (fun a m => a ||| viewChange (s.aclAt m loc) (new m)) 0) live
      then s.complete c .genBusy 0 0
      else (ns.foldl (fun (t : State) m => t.setAcl m loc (new m)) s).complete c .ok 0 0 := by
  split
  next hbusy => exact State.runCmd_done hruns hrow hlayout (hbody.trans (if_pos hbusy))
  next hfree => exact State.runCmd_done hruns hrow hlayout (hbody.trans (if_neg hfree))

section
variable {p : HostPort} {n : Fin 64} {c : Cmd} {s : State} {loc : Nat} (hloc : loc = rowLoc (c.arg 10 1) (c.arg 12 2))
include hloc

/-- ACL_WRITE of a whole entry. -/
theorem execAclWrite_of_accepted {data : List Byte} {entry : Nat → AclEnt}
    (hruns : runs s p n 0x28 (aclLayout c) c = true) (hmove : bit (c.arg 11 1) 1 = false)
    (hmask : bit (c.arg 11 1) 2 = false) (hargs : s.aclBad c = false) (hgens : c.arg 20 1 ≠ 0)
    (haction : actionOk (c.arg 24 4) = true) (haddr : c.arg 32 8 % 64 = 0)
    (hentry : ∀ m, entry m =
      { width := s.bankWidth m (c.arg 10 1), prio := c.arg 18 2, genmask := c.arg 20 1, action := c.arg 24 4,
        value := be data 0 (10 * s.bankWidth m (c.arg 10 1)),
        care := be data (10 * s.bankWidth m (c.arg 10 1)) (10 * s.bankWidth m (c.arg 10 1)) })
    (hcare : ∀ m ∈ maskSlices (c.arg 8 2), (entry m).value &&& (entry m).care = (entry m).value)
    (hroom : s.aclLost (maskSlices (c.arg 8 2)) (c.arg 10 1) loc = false) :
    execAclWrite p n data s = .next (
      if s.viewBusy ((maskSlices (c.arg 8 2)).foldl (fun a m => a ||| viewChange (s.aclAt m loc) (some (entry m))) 0)
        (bit (c.arg 11 1) 0)
      then s.complete c .genBusy 0 0
      else ((maskSlices (c.arg 8 2)).foldl (fun (t : State) m => t.setAcl m loc (some (entry m))) s).complete c .ok 0 0) := by
  obtain rfl := funext hentry
  subst hloc
  refine congrArg Outcome.next (State.runCmd_of_apply hruns (by simp [hmove, hmask]) rfl ?_)
  dsimp only
  rw [if_neg, if_neg (by simp [hroom])]
  simpa [hargs, hgens, haction, haddr] using hcare

/-- MOVE: every named slice has the entry at its old place and none at the new one, and the banks are of one width. -/
theorem execAclWriteMove_of_accepted {src w : Nat} (hruns : runs s p n 0x28 (aclLayout c) c = true)
    (hmove : bit (c.arg 11 1) 1 = true) (hmask : bit (c.arg 11 1) 2 = false) (hargs : s.aclBad c = false)
    (hbank : c.arg 14 1 ≤ 31) (hrow : c.arg 16 2 ≤ 2047) (hsrc : src = rowLoc (c.arg 14 1) (c.arg 16 2))
    (hfits : ∀ m ∈ maskSlices (c.arg 8 2), s.bankWidth m (c.arg 10 1) = w ∧ s.bankWidth m (c.arg 14 1) = w ∧
      (s.aclAt m src).isSome ∧ s.aclAt m loc = none)
    (hroom : s.aclLost (maskSlices (c.arg 8 2)) (c.arg 10 1) loc = false) :
    execAclWriteMove p n s = .next (((maskSlices (c.arg 8 2)).foldl (fun (t : State) m =>
      (t.setAcl m loc (s.aclAt m src)).setAcl m src none) s).complete c .ok 0 0) := by
  subst hloc hsrc
  choose hto hfrom hheld hempty using hfits
  have hwidths : ((maskSlices (c.arg 8 2)).flatMap fun m => [s.bankWidth m (c.arg 10 1), s.bankWidth m (c.arg 14 1)]) =
      (maskSlices (c.arg 8 2)).flatMap fun _ => [w, w] :=
    List.flatMap_congr fun m hm => by rw [hto m hm, hfrom m hm]
  refine congrArg Outcome.next (State.runCmd_done hruns hmove rfl ?_)
  dsimp only
  rw [hwidths, if_neg, if_neg, if_neg, if_neg (by simp [hroom])]
  · simpa using hempty
  · simpa using fun m hm => Option.isSome_iff_ne_none.1 (hheld m hm)
  · cases maskSlices (c.arg 8 2) <;> simp [hmask, hargs, hbank, hrow]

/-- MASK_ONLY: every named slice has the entry, and its content stays. -/
theorem execAclWriteMaskOnly_of_accepted (hruns : runs s p n 0x28 (aclLayout c) c = true)
    (hmove : bit (c.arg 11 1) 1 = false) (hmask : bit (c.arg 11 1) 2 = true) (hargs : s.aclBad c = false)
    (hgens : c.arg 20 1 ≠ 0) (hfound : ∀ m ∈ maskSlices (c.arg 8 2), (s.aclAt m loc).isSome)
    (hroom : s.aclLost (maskSlices (c.arg 8 2)) (c.arg 10 1) loc = false)
    (hfree : s.viewBusy ((maskSlices (c.arg 8 2)).foldl (fun a m => a ||| viewChange (s.aclAt m loc)
      ((s.aclAt m loc).map fun e => { e with genmask := c.arg 20 1 })) 0) (bit (c.arg 11 1) 0) = false) :
    execAclWriteMaskOnly p n s = .next (((maskSlices (c.arg 8 2)).foldl (fun (t : State) m =>
      t.setAcl m loc ((s.aclAt m loc).map fun e => { e with genmask := c.arg 20 1 })) s).complete c .ok 0 0) := by
  subst hloc
  refine congrArg Outcome.next ((State.runCmd_of_apply (live := bit (c.arg 11 1) 0) hruns
    (by simp [hmove, hmask]) rfl ?_).trans (if_neg (by simp [hfree])))
  dsimp only
  rw [if_neg (by simp [hargs, hgens]), if_neg, if_neg (by simp [hroom])]
  simpa using fun m hm => Option.isSome_iff_ne_none.1 (hfound m hm)

theorem execAclInvalidate_of_served
    (hruns : runs s p n 0x29 [whole 8 2, whole 10 1, named 11 1 1, whole 12 2] c = true) (hargs : s.aclBad c = false) :
    execAclInvalidate p n s = .next (
      if (maskSlices (c.arg 8 2)).any fun m => (s.aclAt m loc).isNone then s.complete c .notFound 0 0
      else if s.viewBusy ((maskSlices (c.arg 8 2)).foldl (fun a m => a ||| viewChange (s.aclAt m loc) none) 0)
        (bit (c.arg 11 1) 0) then s.complete c .genBusy 0 0
      else ((maskSlices (c.arg 8 2)).foldl (fun (t : State) m => t.setAcl m loc none) s).complete c .ok 0 0) := by
  subst hloc
  have hargs' : ¬ s.aclBad c = true := by simp [hargs]
  refine congrArg Outcome.next ?_
  split
  next hgone => exact State.runCmd_done hruns rfl rfl ((if_neg hargs').trans (if_pos hgone))
  next hfound => exact State.runCmd_of_apply hruns rfl rfl ((if_neg hargs').trans (if_neg hfound))

end

/-! ### Reads and probes (R235, R236) -/

section
variable {p : HostPort} {n : Fin 64} {c : Cmd} {s : State} (hruns : runs s p n 0x2A (aclReadLayout c) c = true)
  (hslice : c.arg 8 1 ≤ 15) (haddr : c.arg 16 8 % 64 = 0)
include hruns hslice haddr

theorem execAclRead_of_entry {loc flags : Nat} {e : AclEnt} (hread : c.arg 12 1 = 0) (hbank : c.arg 9 1 ≤ 31)
    (hrow : c.arg 10 2 ≤ 2047) (hfirst : c.arg 10 2 % s.bankWidth (c.arg 8 1) (c.arg 9 1) = 0)
    (hmode : s.bankMode (c.arg 8 1) (c.arg 9 1) = 1) (hloc : loc = rowLoc (c.arg 9 1) (c.arg 10 2))
    (he : s.aclAt (c.arg 8 1) loc = some e)
    (hflags : flags = s.aclFlags (c.arg 8 1) loc (s.bankWidth (c.arg 8 1) (c.arg 9 1)) true) :
    execAclRead p n s = .next ((s.hostData c (c.arg 16 8) (aclBlock (some e) flags)).complete c .ok
      (e.prio + e.genmask * 2 ^ 16 + flags * 2 ^ 18) 0) := by
  subst hloc hflags
  refine congrArg Outcome.next (State.runCmd_done hruns (by simp [hread]) rfl ?_)
  dsimp only
  rw [if_neg (by simp [hread, hslice, hbank, hrow, hfirst, haddr]), if_pos hmode, he]
  rfl

theorem execAclProbe_of_accepted {key : List Byte} {hits : List (Nat × AclEnt)} (hprobe : c.arg 12 1 = 1)
    (hlookup : c.arg 13 1 ≤ 7)
    (hhits : hits = s.aclHits (c.arg 8 1) (c.arg 13 1) (c.arg 14 1) (keyNat key (be key 64 10)) []) :
    execAclProbe p n key s = .next (s.complete c .ok
      (match aclBest hits with | some e => aclMatch e.1 | none => 0xFFFFFFFF) hits.length) := by
  subst hhits
  exact congrArg Outcome.next
    (State.runCmd_done hruns (by simp [hprobe]) rfl (if_neg (by simp [hslice, hlookup, haddr])))

end

/-! ### A row is lost (R240, R241) -/

/-- A slice that has lost a row, and with it the entry of `w` rows that holds the row. -/
def SliceSt.withoutRow (w loc : Nat) (inj : Bool) (x : SliceSt) : SliceSt :=
  { x with lost := x.lost ++ [if inj then loc + 65536 else loc], hard := x.hard.filter fun l => l % 65536 ≠ loc,
           acl := x.acl.erase (firstRow w loc), lpm := x.lpm.erase (firstRow w loc) }

theorem SliceSt.withoutRow_rowLost (w loc : Nat) (inj : Bool) (x : SliceSt) :
    (x.withoutRow w loc inj).rowLost loc = true := by
  cases inj <;> simp [SliceSt.rowLost, SliceSt.withoutRow]

/-- No row is lost after reset. -/
theorem SliceSt.ne_zero_of_rowLost {x : SliceSt} {loc : Nat} (h : x.rowLost loc = true) : x ≠ SliceSt.zero := by
  rintro rfl
  simp [SliceSt.rowLost, SliceSt.zero] at h

theorem State.loseRow_slice (n loc : Nat) (inj : Bool) (s : State) :
    (s.loseRow n loc inj).slice n = (s.slice n).withoutRow (s.bankWidth n (loc / 2048)) loc inj := by
  have hslices : (s.loseRow n loc inj).slices =
      (s.setSlice n ((s.slice n).withoutRow (s.bankWidth n (loc / 2048)) loc inj)).slices := by
    unfold State.loseRow
    extract_lets x first s1 s2
    have hwear : s2.slices = s1.slices := by
      simp only [s2]
      (repeat' split) <;> simp
    exact (State.raiseX_slices ..).trans hwear
  rw [State.slice_of_slices hslices,
    State.slice_setSlice_of_ne (SliceSt.ne_zero_of_rowLost (SliceSt.withoutRow_rowLost ..))]

theorem State.loseRow_inj (n loc : Nat) (inj : Bool) (s : State) : (s.loseRow n loc inj).flt.inj = s.flt.inj := by
  unfold State.loseRow
  dsimp only
  rw [State.raiseX_inj]
  (repeat' split) <;> simp [State.raise, State.raiseX_inj]

/-! ### A spare row (R239) -/

theorem SMap.mem_put_self {α : Type} (m : SMap α) (i : Nat) (x : α) : (i, x) ∈ m.put i x := by
  induction m with
  | nil => exact List.mem_singleton_self _
  | cons e r ih =>
    rw [SMap.put]
    (repeat' split) <;> simp [ih]

/-- A slice in which spare `i` of the row's bank serves a row from now on. -/
def SliceSt.withSpare (i loc : Nat) (x : SliceSt) : SliceSt :=
  { x with rowSpare := x.rowSpare.put (64 * (loc / 2048) + i) (loc % 2048 * 2),
           hard := x.hard.filter fun l => l % 65536 ≠ loc, fixAt := x.fixAt.erase loc }

theorem SliceSt.mem_withSpare (i loc : Nat) (x : SliceSt) :
    (64 * (loc / 2048) + i, loc % 2048 * 2) ∈ (x.withSpare i loc).rowSpare := SMap.mem_put_self ..

/-- No spare serves a row after reset. -/
theorem SliceSt.ne_zero_of_mem_rowSpare {x : SliceSt} {e : Nat × Nat} (h : e ∈ x.rowSpare) : x ≠ SliceSt.zero := by
  rintro rfl
  simp [SliceSt.zero] at h

section
variable {sl : Slice} {loc : Nat} {s : State} (hhard : loc ∈ (s.slice sl).hard) (hlt : loc < 65536)
include hhard hlt

/-- A row that fails in a bank with none of its spares in use. -/
theorem execTcamRowSpare_of_spare {i : Nat} (hreal : loc + 65536 ∉ (s.slice sl).hard)
    (hspare : (s.slice sl).freeSpare (loc / 2048) = some i)
    (hunused : ∀ e ∈ (s.slice sl).rowSpare, e.1 / 64 ≠ loc / 2048) :
    ∃ t : State, execTcamRowSpare sl loc s = .next t ∧ t.slice sl = (s.slice sl).withSpare i loc := by
  have hold : ((s.slice sl).rowSpare.filter fun e => !decide (e.1 / 64 = loc / 2048 ∧ e.2 / 2 = loc % 2048)) =
      (s.slice sl).rowSpare := List.filter_eq_self.2 fun e he => by simp [hunused e he]
  have hreal' : (s.slice sl).hard.contains (loc + 65536) = false := by simpa using hreal
  have hne := SliceSt.ne_zero_of_mem_rowSpare (SliceSt.mem_withSpare i loc (s.slice sl))
  refine ⟨_, rfl, (State.slice_of_slices ?_ sl).trans (State.slice_setSlice_of_ne hne sl s)⟩
  dsimp only
  rw [if_pos (by simp [hhard, hlt]), hspare]
  dsimp only
  rw [hold, if_pos rfl, hreal']
  split <;> simp [State.setSlice, SliceSt.withSpare, b2n]

theorem execTcamRowSpare_of_none (hnone : (s.slice sl).freeSpare (loc / 2048) = none) :
    execTcamRowSpare sl loc s = .next (s.loseRow sl loc ((s.slice sl).hard.contains (loc + 65536))) := by
  simp [execTcamRowSpare, hhard, hlt, hnone]

end

/-! ### The shadow copies are scrubbed (R238) -/

/-- A slice in which a row has been rewritten from its shadow copy and reads back. -/
def SliceSt.withFix (now loc : Nat) (hard : List Nat) (x : SliceSt) : SliceSt :=
  { x with fixAt := x.fixAt.put loc (now + 1), fixes := satInc 16 x.fixes, hard := hard }

theorem SliceSt.withFix_ne_zero (now loc : Nat) (hard : List Nat) (x : SliceSt) :
    x.withFix now loc hard ≠ SliceSt.zero := by
  intro h
  have hmem : (loc, now + 1) ∈ (x.withFix now loc hard).fixAt := SMap.mem_put_self ..
  simp [h, SliceSt.zero] at hmem

section
variable {n loc : Nat} {s : State} (hinj : s.flt.inj = []) (hlost : (s.slice n).rowLost loc = false) (inj stuck : Bool)
include hinj hlost

/-- A row whose shadow copy is good is rewritten; a rewrite that fails may make it hard-failed. -/
theorem State.fixRow_of_good_shadow : ∃ hard, s.fixRow n loc inj stuck false =
    (s.setSlice n ((s.slice n).withFix s.now loc hard)).raiseX (sliceSrc n) 0x20 .ce
      (packItems [(5, loc / 2048), (11, loc % 2048)]) inj := by
  unfold State.fixRow
  rw [State.injected_of_none hinj]
  dsimp only
  rw [if_neg (by simp [hlost]), if_neg (by simp)]
  exact ⟨_, rfl⟩

/-- A row whose shadow copy is uncorrectable is lost. -/
theorem State.fixRow_of_bad_shadow : s.fixRow n loc inj stuck true = s.loseRow n loc false := by
  simp [State.fixRow, State.injected_of_none hinj, hlost]

end

theorem State.scrubInjected_of_none {s : State} (h : s.flt.inj = []) (n : Nat) : s.scrubInjected n = s := by
  simp [State.scrubInjected, h]

/-- With nothing armed a scrub that meets one row is its repair. -/
theorem execTcamShadowScrub_of_one {sl : Slice} {loc : Nat} {stuck shadow : Bool} {s : State} (hlt : loc < 65536)
    (hinj : (s.fixRow sl loc false stuck shadow).flt.inj = []) :
    execTcamShadowScrub sl [(loc, stuck, shadow)] s = .next (s.fixRow sl loc false stuck shadow) := by
  simp [execTcamShadowScrub, Nat.mod_eq_of_lt hlt, State.scrubInjected_of_none hinj]

section
variable {sl : Slice} {loc : Nat} {s : State} (hlt : loc < 65536) (hinj : s.flt.inj = [])
  (hlost : (s.slice sl).rowLost loc = false) (stuck : Bool)
include hlt hinj hlost

theorem execTcamShadowScrub_of_good_shadow : ∃ (t : State) (hard : List Nat),
    execTcamShadowScrub sl [(loc, stuck, false)] s = .next t ∧ t.slice sl = (s.slice sl).withFix s.now loc hard := by
  obtain ⟨hard, hfix⟩ := State.fixRow_of_good_shadow hinj hlost false stuck
  refine ⟨_, hard, execTcamShadowScrub_of_one hlt ?_, ?_⟩
  · rw [hfix, State.raiseX_inj]
    exact hinj
  · rw [hfix, State.slice_of_slices (State.raiseX_slices ..), State.slice_setSlice_of_ne (SliceSt.withFix_ne_zero _ _ _ _)]

theorem execTcamShadowScrub_of_bad_shadow :
    execTcamShadowScrub sl [(loc, stuck, true)] s = .next (s.loseRow sl loc false) := by
  have hfix := State.fixRow_of_bad_shadow hinj hlost false stuck
  rw [execTcamShadowScrub_of_one hlt (by rw [hfix, State.loseRow_inj, hinj]), hfix]

end

end Sys2Proof.Machine

namespace Sys2Proof.Proofs
open Sys2Proof.Machine Sys2Proof.Safety

/-- Settles O32: the commands on entries, then the reads, then the spare rows and the scrub of the shadow copies. -/
theorem aclCommandsAndRowRepair : Obligations.AclCommandsAndRowRepair := by
  unfold Obligations.AclCommandsAndRowRepair
  refine ⟨?_, ?_, ?_, ?_, ?_, ?_, ?_, ?_, ?_, ?_⟩
  · intro p n data c loc entry s hruns hmove hmask hargs hgens haction haddr hloc hentry hcare hroom
    exact execAclWrite_of_accepted hloc hruns hmove hmask hargs hgens haction haddr hentry hcare hroom
  · intro p n c w loc src s hruns hmove hmask hargs hbank hrow hloc hsrc hfits hroom
    exact execAclWriteMove_of_accepted hloc hruns hmove hmask hargs hbank hrow hsrc hfits hroom
  · intro p n c loc s hruns hmove hmask hargs hgens hloc hfound hroom hfree
    exact execAclWriteMaskOnly_of_accepted hloc hruns hmove hmask hargs hgens hfound hroom hfree
  · intro p n c loc s hruns hargs hloc
    exact execAclInvalidate_of_served hloc hruns hargs
  · intro p n c loc e s hruns hread hslice hbank hrow hfirst haddr hmode hloc he
    exact ⟨_, rfl, execAclRead_of_entry hruns hslice haddr hread hbank hrow hfirst hmode hloc he rfl⟩
  · intro p n key c hits s hruns hprobe hslice hlookup haddr hhits
    exact execAclProbe_of_accepted hruns hslice haddr hprobe hlookup hhits
  · intro sl loc i s hhard hreal hlt hspare hunused
    obtain ⟨t, hexec, hslice⟩ := execTcamRowSpare_of_spare hhard hlt hreal hspare hunused
    refine ⟨t, hexec, hslice ▸ SliceSt.mem_withSpare .., ?_⟩
    simp [hslice, SliceSt.withSpare, Nat.mod_eq_of_lt hlt]
  · intro sl loc s hhard hlt hnone
    refine ⟨_, execTcamRowSpare_of_none hhard hlt hnone, ?_⟩
    rw [State.loseRow_slice]
    exact ⟨SliceSt.withoutRow_rowLost .., rfl, rfl⟩
  · intro sl loc s hlt hinj hlost
    obtain ⟨t, hard, hexec, hslice⟩ := execTcamShadowScrub_of_good_shadow hlt hinj hlost false
    refine ⟨t, hexec, ?_⟩
    rw [hslice]
    exact ⟨rfl, hlost⟩
  · intro sl loc stuck s hlt hinj hlost
    refine ⟨_, execTcamShadowScrub_of_bad_shadow hlt hinj hlost stuck, ?_⟩
    rw [State.loseRow_slice]
    exact SliceSt.withoutRow_rowLost ..

end Sys2Proof.Proofs
end

section
/-! The direct table and the ECMP tables are written and read (O21). -/
namespace Sys2Proof.Machine
open Sys2Proof.Safety
open Host (Outcome)

/-! ### Direct entries (R279, R280) -/

theorem State.direct_setDirect_some (a r : Nat) (s : State) : (s.setDirect a (some r)).direct a = some r := by
  simp [State.direct, State.setDirect, SMap.get_set_of_ne]

theorem State.direct_setDirect_none {s : State} (hwf : s.tab.direct.wf (fun _ => 0) = true) (a : Nat) :
    (s.setDirect a none).direct a = none := by
  simp [State.direct, State.setDirect, SMap.get_set_self hwf]

theorem State.direct_setDirect_ne {a b : Nat} (h : b ≠ a) (r : Option Nat) (s : State) :
    (s.setDirect a r).direct b = s.direct b := by
  simp [State.direct, State.setDirect, h]

theorem State.injected_of_not_armed {src checker loc : Nat} {s : State}
    (h : ∀ i ∈ s.flt.inj, ¬(i.source = src ∧ i.checker = checker ∧ (i.index = loc ∨ i.index = 0xFFFFFFFF))) :
    s.injected src checker loc = (none, s) := by
  rw [State.injected, List.find?_eq_none.2 fun i hi => by simpa using h i hi]

/-- With no error in either copy the entry reads as it is. -/
theorem State.directRead_of_not_armed {a : Nat} {s : State}
    (h : ∀ i ∈ s.flt.inj, ¬(i.source = 0x901 ∧ i.checker = 0 ∧ (i.index = a ∨ i.index = 0xFFFFFFFF))) :
    s.directRead a none none = (s.direct a, s) := by
  simp [State.directRead, State.injected_of_not_armed h]

theorem execDirectWrite_of_result {p : HostPort} {n : Fin 64} {c : Cmd} {s : State}
    (hruns : runs s p n 0x18 [whole 8 2, named 10 1 1, named 12 5 0xFFFFFFFFF] c = true)
    (hopt : bit (c.arg 10 1) 0 = false) (hresult : resultOk (c.arg 12 5) = true) (hkind : resKind (c.arg 12 5) ≠ 2) :
    execDirectWrite p n s = .next ((s.setDirect (c.arg 8 2) (some (c.arg 12 5))).complete c .ok 0 0) :=
  congrArg Outcome.next (State.runCmd_done hruns rfl (by simp [hopt]) (by simp [hopt, hresult, hkind]))

theorem execDirectWrite_of_invalidate {p : HostPort} {n : Fin 64} {c : Cmd} {s : State}
    (hruns : runs s p n 0x18 [whole 8 2, named 10 1 1] c = true) (hopt : bit (c.arg 10 1) 0 = true) :
    execDirectWrite p n s = .next ((s.setDirect (c.arg 8 2) none).complete c .ok 0 0) :=
  congrArg Outcome.next (State.runCmd_done hruns rfl (by simp [hopt]) (if_pos hopt))

theorem execDirectRead_of_not_armed {p : HostPort} {n : Fin 64} {c : Cmd} {s : State}
    (hruns : runs s p n 0x19 [whole 8 2] c = true)
    (h : ∀ i ∈ s.flt.inj, ¬(i.source = 0x901 ∧ i.checker = 0 ∧ (i.index = c.arg 8 2 ∨ i.index = 0xFFFFFFFF))) :
    execDirectRead p n s = .next (match s.direct (c.arg 8 2) with
      | some r => s.complete c .ok (r % 2 ^ 32) (r / 2 ^ 32 + 16)
      | none => s.complete c .ok 0 0) := by
  have hread := State.directRead_of_not_armed h
  refine congrArg Outcome.next ?_
  cases hr : s.direct (c.arg 8 2) with
  | some r => exact State.runCmd_done hruns rfl rfl (by rw [hread, hr])
  | none => exact State.runCmd_done hruns rfl rfl (by rw [hread, hr])

/-! ### ECMP groups and members (R295, R297) -/

/-- The group that an ECMP_GROUP_WRITE carries. -/
def Cmd.ecmpGroup (c : Cmd) : Group :=
  { base := c.arg 12 4, size := c.arg 16 2, hprof := c.arg 18 1, valid := bit (c.arg 19 1) 0 }

/-- A slice with a group written, which reads good again. -/
def SliceSt.withGroup (g : Nat) (x : Group) (y : SliceSt) : SliceSt :=
  { y with groups := y.groups.set Group.zero g x, ecmpBad := y.ecmpBad.filter (· ≠ g) }

/-- A slice with `k` members written from an index on, which read good again. -/
def SliceSt.withMembers (i k : Nat) (ws : List Nat) (y : SliceSt) : SliceSt :=
  { y with members := (ws.foldl (fun (acc : Nat × SMap Nat) w => (acc.1 + 1, acc.2.set 0 acc.1 w)) (i, y.members)).2,
           ecmpBad := y.ecmpBad.filter fun b => !(decide (4096 + i ≤ b) && decide (b < 4096 + i + k)) }

theorem execEcmpGroupWrite_of_accepted {p : HostPort} {n : Fin 64} {c : Cmd} {s : State} (hruns : runs s p n 0x40
      [whole 8 2, named 10 2 0xFFF, named 12 4 0x3FFFF, whole 16 2, named 18 1 3, named 19 1 1] c = true)
    (hsome : 1 ≤ c.arg 16 2) (hmany : c.arg 16 2 ≤ 4096) (hroom : c.arg 12 4 + c.arg 16 2 ≤ 262144) :
    execEcmpGroupWrite p n s = .next (((maskSlices (c.arg 8 2)).foldl
      (fun t m => t.onSlice m (SliceSt.withGroup (c.arg 10 2) c.ecmpGroup)) s).complete c .ok 0 0) :=
  congrArg Outcome.next (State.runCmd_done hruns rfl rfl (if_neg (by omega)))

theorem map_range_getD {words : List Word} {k : Nat} (hk : words.length = k) :
    ((List.range k).map fun j => (words.getD j 0).toNat) = words.map BitVec.toNat := by
  subst hk
  exact List.ext_getElem (by simp) fun i _ hi => by
    simp [List.getElem?_eq_getElem (l := words) (by simpa using hi)]

theorem execEcmpMemberWrite_of_accepted {p : HostPort} {n : Fin 64} {words : List Word} {c : Cmd} {s : State}
    (hruns : runs s p n 0x41 [whole 8 2, whole 12 4, whole 16 2, whole 24 8] c = true)
    (hsome : 1 ≤ c.arg 16 2) (hmany : c.arg 16 2 ≤ 256) (hroom : c.arg 12 4 + c.arg 16 2 ≤ 262144)
    (haddr : c.arg 24 8 % 4 = 0) (hlen : words.length = c.arg 16 2) (hwords : ∀ w ∈ words, memberOk w.toNat = true) :
    execEcmpMemberWrite p n words s = .next (((maskSlices (c.arg 8 2)).foldl (fun t m =>
      t.onSlice m (SliceSt.withMembers (c.arg 12 4) (c.arg 16 2) (words.map BitVec.toNat))) s).complete c .ok 0 0) := by
  have hall : (words.map BitVec.toNat).all memberOk = true := by simpa using hwords
  refine congrArg Outcome.next (State.runCmd_done hruns rfl rfl ?_)
  dsimp only
  rw [map_range_getD hlen, if_neg (by simp only [hall, Bool.true_eq_false, or_false]; omega)]
  rfl

end Sys2Proof.Machine

namespace Sys2Proof.Proofs
open Sys2Proof.Machine

/-- Settles O21: DIRECT_WRITE with and without INVALIDATE, DIRECT_READ, then the groups and their members. -/
theorem directAndEcmpTables : Obligations.DirectAndEcmpTables := by
  unfold Obligations.DirectAndEcmpTables
  refine ⟨?_, ?_, ?_, ?_, ?_⟩
  · intro p n c s hruns hopt hresult hkind
    exact ⟨_, execDirectWrite_of_result hruns hopt hresult hkind, State.direct_setDirect_some _ _ s,
      fun a ha => State.direct_setDirect_ne ha _ s⟩
  · intro p n c s hruns hopt hwf
    exact ⟨_, execDirectWrite_of_invalidate hruns hopt, State.direct_setDirect_none hwf _,
      fun a ha => State.direct_setDirect_ne ha _ s⟩
  · intro p n c s hruns hunarmed
    exact execDirectRead_of_not_armed hruns hunarmed
  · intro p n c s hruns hsome hmany hroom
    exact execEcmpGroupWrite_of_accepted hruns hsome hmany hroom
  · intro p n words c s hruns hsome hmany hroom haddr hlen hwords
    exact execEcmpMemberWrite_of_accepted hruns hsome hmany hroom haddr hlen hwords

end Sys2Proof.Proofs
end

section
/-! Endpoint keys are inserted, replaced, deleted and read, profiles written, and the table scrubbed (O23). -/
namespace Sys2Proof.Machine
open Sys2Proof.Safety
open Host (Outcome)

/-! ### What a location holds after a write -/

theorem SMap.find?_put_self {α : Type} (m : SMap α) (i : Nat) (x : α) :
    (m.put i x).find? (fun e => decide (e.1 = i)) = some (i, x) := by
  induction m with
  | nil => simp [SMap.put]
  | cons e r ih =>
    rw [SMap.put]
    split
    · simp
    split
    · simp
    next hi => rw [List.find?_cons_of_neg (by simpa using Ne.symm hi), ih]

theorem SMap.erase_sublist {α : Type} (m : SMap α) (i : Nat) : (m.erase i).Sublist m := by
  induction m with
  | nil => exact List.Sublist.refl _
  | cons e r ih =>
    rw [SMap.erase]
    split
    · exact List.sublist_cons_self e r
    · exact ih.cons_cons e

theorem State.epAt_of_tab {s t : State} (h : t.tab = s.tab) (l : Nat) : t.epAt l = s.epAt l := by
  rw [State.epAt, h, State.epAt]

theorem State.epAt_epPut_self (l : Nat) (e : EpEnt) (s : State) : (s.epPut l e).epAt l = some e := by
  by_cases h : inStash ≤ l <;> simp [State.epAt, State.epPut, h, SMap.find?_put_self]

/-- The events of a load do not touch the tables. -/
theorem State.epStore_tab {l : Nat} (h : l < inStash) (e : EpEnt) (s : State) :
    (s.epStore l e).tab = (s.epPut l e).tab := by
  rw [State.epStore]
  dsimp only
  rw [if_neg (Nat.not_le.2 h)]
  split <;> simp

theorem State.epAt_epStore_self {l : Nat} (h : l < inStash) (e : EpEnt) (s : State) :
    (s.epStore l e).epAt l = some e := by
  rw [State.epAt_of_tab (State.epStore_tab h e s), State.epAt_epPut_self]

/-- Clearing a location adds nothing to the stash. -/
theorem State.epClear_stash_sublist (l : Nat) (s : State) : (s.epClear l).tab.stash.Sublist s.tab.stash := by
  rw [State.epClear]
  split
  · exact SMap.erase_sublist _ _
  · exact List.Sublist.refl _

theorem State.epClear_stashHas {s : State} {seg : Nat} (h : ∀ x ∈ s.tab.stash, x.2.seg ≠ seg) (l : Nat) :
    (s.epClear l).stashHas seg = false := by
  simpa [State.stashHas] using fun i e he => h (i, e) ((s.epClear_stash_sublist l).subset he)

/-! ### Profiles (R256, R298) -/

section
variable {s : State} (hmode : s.mode = .configure) {t : Fin 16} {v : Word}
include hmode

theorem State.takesRwc_active : s.takesRwc s.active = true := by simp [State.takesRwc, hmode]

theorem execTblEpProfWrite_of_high
    (hok : bit v.toNat 13 = false ∨ profOk (s.rd (0xB0180 + 4 * t.val)) (v.toNat &&& 0x3FFF) = true) :
    execTblEpProfWrite s.active true t v s = .next (s.wr (0xB01C0 + 4 * t.val) (v.toNat &&& 0x3FFF)) := by
  refine congrArg Outcome.next ?_
  rw [if_pos (State.takesRwc_active hmode)]
  refine (if_pos rfl).trans (if_neg ?_)
  rcases hok with hvalid | hprof
  · have hvalid' : bit (v.toNat &&& 0x3FFF) 13 = false := by rw [bit, Nat.testBit_and, ← bit, hvalid, Bool.false_and]
    simp [hvalid']
  · simp [profLo, hprof]

theorem execTblEpProfWrite_of_low
    (hok : bit (s.rd (0xB01C0 + 4 * t.val)) 13 = false ∨
      profOk (v.toNat &&& 0x07FF07FF) (s.rd (0xB01C0 + 4 * t.val)) = true) :
    execTblEpProfWrite s.active false t v s = .next (s.wr (0xB0180 + 4 * t.val) (v.toNat &&& 0x07FF07FF)) := by
  refine congrArg Outcome.next ?_
  rw [if_pos (State.takesRwc_active hmode)]
  refine (if_neg Bool.false_ne_true).trans (if_neg ?_)
  rcases hok with hvalid | hprof
  · simp [profHi, hvalid]
  · simp [profHi, hprof]

end

/-! ### Protection (R269) -/

section
variable {s : State} (hinj : s.flt.inj = [])
include hinj

/-- Slots that show no error are read and nothing changes. -/
theorem State.epCheck_of_none (ls : List Nat) : s.epCheck ls [] = s :=
  List.foldl_fixed' (fun l => by simp [State.injected_of_none hinj, State.epErr]) ls

/-- With nothing armed the scrub is what memory shows. -/
theorem execEpScrub_of_not_armed {errs : List (Nat × EccErr)} {t : State}
    (ht : errs.foldl (fun t e => if locOk e.1 then t.epError (wordLoc e.1) e.2 false else t) s = t)
    (htinj : t.flt.inj = []) : execEpScrub errs s = .next t := by
  subst ht
  simp [execEpScrub, hinj, State.epCheck_of_none htinj]

theorem execEpScrub_of_one {w : Nat} (hw : locOk w = true) : execEpScrub [(w, .one)] s =
    .next ((s.epCount 3).raiseX 0x900 1 .ce (packItems [(32, locWord (wordLoc w))]) false) := by
  refine execEpScrub_of_not_armed hinj ?_ ?_
  · simp [hw, State.epError]
  · simp [State.raiseX_inj, hinj]

/-- An entry of the stash with an uncorrectable error is lost; no bank counts it. -/
theorem execEpScrub_of_two {w : Nat} {e : EpEnt} (hw : locOk w = true) (hstash : inStash ≤ wordLoc w)
    (he : s.epAt (wordLoc w) = some e) : execEpScrub [(w, .two)] s =
      .next (((s.epCount 4).raiseX 0x900 2 .uc (packItems [(32, locWord (wordLoc w))]) false).epClear (wordLoc w)) := by
  have hcover : ((s.epCount 4).raiseX 0x900 2 .uc (packItems [(32, locWord (wordLoc w))]) false).epCover (wordLoc w) =
      some (wordLoc w, e) := by
    rw [State.epCover, State.epAt_of_tab (s := s) (by simp), he]
  refine execEpScrub_of_not_armed hinj ?_ ?_
  · simp [hw, State.epError, hcover, hstash]
  · simp [State.raiseX_inj, hinj]

end

/-! ### Commands on keys (R262 to R268) -/

section
variable {s : State}

theorem State.target_of_no_mig (hmig : s.tab.mig = none) (seg : Nat) : s.target seg = s.space seg := by
  simp [State.target, State.shadow, hmig]

/-- Outside a migration a held key takes its new result where it is. -/
theorem State.insertHit_of_replace {c : Cmd} (hmig : s.tab.mig = none) (hopt : bit (c.arg 9 1) 0 = true) (e : EpEnt)
    (l : Nat) : s.insertHit c e (some l) = .done .ok (locWord l) 0 (s.epPut l e) := by
  simp [State.insertHit, hopt, State.shadow, hmig]

/-- A key that is not held takes a free slot of its buckets. -/
theorem State.insertHit_of_room {e : EpEnt} {l : Nat} (hmig : s.tab.mig = none)
    (hroom : s.roomFor e (s.space e.seg) = some l) (c : Cmd) :
    s.insertHit c e none = .done .ok (locWord l) 0 (s.epStore l e) := by
  have hplan : s.plan e (s.target e.seg) = .now l := by rw [State.plan, State.target_of_no_mig hmig, hroom, placeOf]
  rw [State.insertHit, State.insertNew, hplan, State.insertPlace, State.epLeave]

theorem State.deleteHit_of_no_stash {seg : Nat} (hstash : ∀ x ∈ s.tab.stash, x.2.seg ≠ seg) (l : Nat) :
    s.deleteHit seg (some l) = .done .ok (locWord l) 0 (s.epClear l) := by
  simp [State.deleteHit, State.epClear_stashHas hstash]

theorem State.epGate_of_idle (hmig : s.tab.mig = none) (hjob : s.tab.job = .idle) : s.epGate = true := by
  simp [State.epGate, hjob, hmig]

/-- With nothing armed and no migration a search changes nothing. -/
theorem State.epServed_epCheck (hmig : s.tab.mig = none) (hinj : s.flt.inj = []) (ls : List Nat) :
    (s.epCheck ls []).epServed = s := by
  simp [State.epCheck_of_none hinj, State.epServed, hmig]

variable {p : HostPort} {n : Fin 64} {c : Cmd} (hjob : s.tab.job = .idle) (hmig : s.tab.mig = none)
  (hinj : s.flt.inj = []) (hkey : s.keyBad c = false)
include hjob hmig hinj hkey

/-- EP_INSERT of a good key answers as the key's place does. -/
theorem execEpInsert_of_hit {st : Status} {r0 r1 : Nat} {t : State}
    (hruns : runs s p n 0x10 [named 8 1 0xF, named 9 1 1, named 12 5 0xFFFFFFFFF, whole 24 25] c = true)
    (hresult : resultOk (c.arg 12 5) = true)
    (hhit : s.insertHit c (s.keyEntry c (c.arg 12 5)) (s.epFind (s.keyEntry c (c.arg 12 5))) = .done st r0 r1 t) :
    execEpInsert p n s = .next (t.complete c st r0 r1) := by
  refine congrArg Outcome.next (State.runCmd_done hruns (State.epGate_of_idle hmig hjob) rfl ?_)
  dsimp only
  rw [if_neg (by simp [hkey, hresult]), State.epServed_epCheck hmig hinj, hhit]

theorem execEpDelete_of_held {l : Nat} (hruns : runs s p n 0x11 [named 8 1 0xF, whole 24 25] c = true)
    (hheld : s.epFind (s.keyEntry c 0) = some l) (hstash : ∀ x ∈ s.tab.stash, x.2.seg ≠ (s.keyEntry c 0).seg) :
    execEpDelete p n s = .next ((s.epClear l).complete c .ok (locWord l) 0) := by
  refine congrArg Outcome.next (State.runCmd_done hruns (State.epGate_of_idle hmig hjob) rfl ?_)
  dsimp only
  rw [if_neg (by simp [hkey]), State.epServed_epCheck hmig hinj, hheld, State.deleteHit_of_no_stash hstash]

theorem execEpRead_of_held {l : Nat}
    (hruns : runs s p n 0x12 [whole 9 1, whole 16 8, named 8 1 0xF, whole 24 25] c = true)
    (hopt : c.arg 9 1 = 0) (haddr : c.arg 16 8 % 64 = 0) (hheld : s.epFind (s.keyEntry c 0) = some l) :
    execEpRead p n s =
      .next ((s.hostData c (c.arg 16 8) (s.epBlock l (s.epAt l))).complete c .ok (locWord l) 0) := by
  refine congrArg Outcome.next
    (State.runCmd_done hruns (State.epGate_of_idle hmig hjob) (by simp [hopt]) ?_)
  dsimp only
  rw [if_neg (by simp [hopt, haddr]), if_pos hopt, if_neg (by simp [hkey]), State.epServed_epCheck hmig hinj, hheld,
    State.readHit]

end

end Sys2Proof.Machine

namespace Sys2Proof.Proofs
open Sys2Proof.Machine

/-- Settles O23: the profiles, the commands on keys, then the scrub. -/
theorem endpointKeys : Obligations.EndpointKeys := by
  unfold Obligations.EndpointKeys
  refine ⟨?_, ?_, ?_, ?_, ?_, ?_, ?_, ?_, ?_⟩
  · intro high t v s hmode hok
    cases high with
    | true => exact execTblEpProfWrite_of_high hmode hok
    | false => exact execTblEpProfWrite_of_low hmode hok
  · intro p n c e l s hruns hjob hmig hinj hkey hresult he hnew hroom
    subst he
    exact execEpInsert_of_hit hjob hmig hinj hkey hruns hresult (hnew ▸ State.insertHit_of_room hmig hroom c)
  · intro s l e hslot
    exact State.epAt_epStore_self hslot e s
  · intro p n c l s hruns hjob hmig hinj hkey hresult hheld hopt
    exact execEpInsert_of_hit hjob hmig hinj hkey hruns hresult (hheld ▸ State.insertHit_of_replace hmig hopt _ l)
  · intro p n c l s hruns hjob hmig hinj hkey hheld hstash
    exact execEpDelete_of_held hjob hmig hinj hkey hruns hheld hstash
  · intro p n c l s hruns hopt haddr hjob hmig hinj hkey hheld
    exact execEpRead_of_held hjob hmig hinj hkey hruns hopt haddr hheld
  · intro s hinj
    exact execEpScrub_of_not_armed hinj rfl hinj
  · intro w s hinj hw
    exact execEpScrub_of_one hinj hw
  · intro w e s hinj hw hstash he
    exact execEpScrub_of_two hinj hw hstash he

end Sys2Proof.Proofs
end

section
/-! A segment's rolling rehash starts, stops, goes on, goes back and ends in a swap (O24). -/
namespace Sys2Proof.Machine
open Sys2Proof.Safety
open Host (Outcome)

/-! ### EP_SEG_REHASH (R272 to R276) -/

theorem State.rehashBad_of_own {c : Cmd} {s : State} (hseg : c.arg 8 1 ≤ 15)
    (hmig : ∀ m, s.tab.mig = some m → m.seg = c.arg 8 1) : s.rehashBad c = none := by
  rw [State.rehashBad, if_neg (by omega)]
  split
  next m hm => exact if_neg (not_not.2 (hmig m hm))
  · rfl

theorem State.migStopped_of_some {m : Mig} {s : State} (hmig : s.tab.mig = some m) (hcmd : m.cmd = none)
    (hfinished : m.finished = false) : s.migStopped = some m := by
  simp [State.migStopped, hmig, hcmd, hfinished]

/-- The migration that EP_SEG_REHASH begins, with the spare as its shadow. -/
def Cmd.newMig (c : Cmd) (spare : Nat) : Mig :=
  { seg := c.arg 8 1, shadow := spare, seed0 := c.arg 12 4, seed1 := c.arg 16 4, cursor := 0, finished := false,
    cmd := some c.serial, back := false, stashed := 0, lostEnts := 0, served := false }

section
variable {p : HostPort} {n : Fin 64} {c : Cmd} {s : State} {fs : List ArgField} (hruns : runs s p n 0x13 fs c = true)
  (hfs : rehashLayout c = fs) (hseg : c.arg 8 1 ≤ 15)
include hruns hfs hseg

/-- A rehash of a segment takes the spare, emptied, as its shadow. -/
theorem execEpSegRehash_of_spare {sp : Nat} (hopts : c.arg 9 1 = 0) (hmig : s.tab.mig = none)
    (hspare : s.tab.spare = some sp) :
    execEpSegRehash p n s = .next (({ s with tab := { s.tab with
      ep := s.tab.ep.keep (fun k _ => decide (k / 2 ^ 20 ≠ sp)), spare := none,
      mig := some (c.newMig sp) } } : State).wait c) := by
  refine congrArg Outcome.next (State.runCmd_wait hruns (by simp [hopts]) hfs ?_)
  dsimp only
  rw [State.rehashBad_of_own hseg (by simp [hmig])]
  simp [hopts, hmig, hspare, Cmd.newMig]

variable {m : Mig} (hmig : s.tab.mig = some m) (hown : m.seg = c.arg 8 1)
include hmig hown

theorem execEpSegRehashAbort_of_running {x : Nat} (hopts : c.arg 9 1 = 1) (hcmd : m.cmd = some x) :
    execEpSegRehashAbort p n s = .next ((({ s with tab.mig := some { m with cmd := none } } : State).completeSer
      x .partial' m.cursor m.result1).complete c .ok m.cursor m.result1) := by
  refine congrArg Outcome.next (State.runCmd_done hruns (by rw [hopts]; decide) hfs ?_)
  dsimp only
  rw [State.rehashBad_of_own hseg (by simp [hmig, hown])]
  simp [hmig, hcmd]

section
variable (hcmd : m.cmd = none) (hfinished : m.finished = false)
include hcmd hfinished

theorem execEpSegRehashResume_of_stopped (hopts : c.arg 9 1 = 2) :
    execEpSegRehashResume p n s = .next (({ s with
      tab.mig := some { m with cmd := some c.serial, back := false, served := false } } : State).wait c) := by
  refine congrArg Outcome.next (State.runCmd_wait hruns (by rw [hopts]; decide) hfs ?_)
  dsimp only
  rw [State.rehashBad_of_own hseg (by simp [hmig, hown]), State.migStopped_of_some hmig hcmd hfinished]

theorem execEpSegRehashRevert_of_stopped (hopts : c.arg 9 1 = 4) :
    execEpSegRehashRevert p n s = .next (({ s with
      tab.mig := some { m with cmd := some c.serial, back := true, cursor := 0, stashed := 0, served := false } } :
        State).wait c) := by
  refine congrArg Outcome.next (State.runCmd_wait hruns (by rw [hopts]; decide) hfs ?_)
  dsimp only
  rw [State.rehashBad_of_own hseg (by simp [hmig, hown]), State.migStopped_of_some hmig hcmd hfinished]

end
end

/-! ### EP_SEG_SWAP (R271, R277) -/

/-- The tables once segment `g` is served by its shadow; its old physical segment is the spare unless it has failed. -/
def TablesSt.swapped (g old : Nat) (m : Mig) (failed : Bool) (t : TablesSt) : TablesSt :=
  { t with segmap := t.segmap.set 0 g (if m.shadow = g then 0 else m.shadow + 1), mig := none,
           spare := if failed then none else some old, ep := t.ep.keep fun k _ => decide (k / 2 ^ 20 ≠ old),
           retired := if failed then t.retired ||| 2 ^ old else t.retired }

/-- The state once segment `g` is served by its shadow, under the shadow's seeds. -/
def State.segSwapped (g : Nat) (m : Mig) (failed : Bool) (s : State) : State :=
  (({ s with tab := s.tab.swapped g (s.segPhys g) m failed } : State).wr (0xB0080 + 8 * g) m.seed0).wr
    (0xB0084 + 8 * g) m.seed1

theorem State.segSwapped_tab (g : Nat) (m : Mig) (failed : Bool) (s : State) :
    (s.segSwapped g m failed).tab = s.tab.swapped g (s.segPhys g) m failed := by
  simp [State.segSwapped]

theorem State.segSwapped_segPhys {s : State} (hwf : s.tab.segmap.wf (fun _ => 0) = true) (g : Nat) (m : Mig)
    (failed : Bool) : (s.segSwapped g m failed).segPhys g = m.shadow := by
  rw [State.segPhys, State.segSwapped_tab, TablesSt.swapped, SMap.get_set_self hwf]
  by_cases hg : m.shadow = g <;> simp [hg]

theorem State.segSwapped_space {s : State} (hregs : RegsWf s.regs) (hwf : s.tab.segmap.wf (fun _ => 0) = true) {g : Nat}
    {m : Mig} (hseed0 : m.seed0 < 2 ^ 32) (hseed1 : m.seed1 < 2 ^ 32) (failed : Bool) :
    (s.segSwapped g m failed).space g = m.space := by
  have hseeds : (s.segSwapped g m failed).regs =
      ((s.wr (0xB0080 + 8 * g) m.seed0).wr (0xB0084 + 8 * g) m.seed1).regs := rfl
  have h0 : (s.segSwapped g m failed).rd (0xB0080 + 8 * g) = m.seed0 := by
    rw [rd_of hseeds, rd_wr_ne _ _ _ _ (by omega), State.rd_wr_of_regsWf hregs, Nat.mod_eq_of_lt hseed0]
  have h1 : (s.segSwapped g m failed).rd (0xB0084 + 8 * g) = m.seed1 := by
    rw [rd_of hseeds, State.rd_wr_of_regsWf (RegsWf.wr hregs), Nat.mod_eq_of_lt hseed1]
  rw [State.space, State.segSwapped_segPhys hwf, h0, h1, Mig.space]

/-- A failed physical segment is retired: the wear record names it and a report says so. -/
def State.retireSegment (old : Nat) (inj : Bool) (s : State) : State :=
  (s.wearUse inj fun w => { w with retired := w.retired ||| 2 ^ old }).raiseX 0x900 4 .ce (packItems [(5, old)]) inj

theorem State.retireSegment_tab (old : Nat) (inj : Bool) (s : State) : (s.retireSegment old inj).tab = s.tab := by
  simp [State.retireSegment]

section
variable {p : HostPort} {n : Fin 64} {c : Cmd} {m : Mig} {s : State} (hruns : runs s p n 0x14 [whole 8 1] c = true)
  (hmig : s.tab.mig = some m) (hown : m.seg = c.arg 8 1) (hfinished : m.finished = true)
include hruns hmig hown hfinished

theorem execEpSegSwap_of_good (hgood : s.tab.isFailed (s.segPhys (c.arg 8 1)) = false) :
    execEpSegSwap p n s =
      .next ((s.segSwapped (c.arg 8 1) m false).complete c .ok m.shadow (s.segPhys (c.arg 8 1))) := by
  refine congrArg Outcome.next (State.runCmd_done hruns rfl rfl ?_)
  simp [hmig, hown, hfinished, hgood, State.segSwapped, TablesSt.swapped]

theorem execEpSegSwap_of_failed (hfailed : s.tab.isFailed (s.segPhys (c.arg 8 1)) = true) :
    ∃ inj, execEpSegSwap p n s = .next (((s.segSwapped (c.arg 8 1) m true).retireSegment (s.segPhys (c.arg 8 1))
      inj).complete c .ok m.shadow 0x1F) := by
  refine ⟨s.tab.failed.all fun b => decide (b % 512 / 16 ≠ s.segPhys (c.arg 8 1)) || decide (512 ≤ b),
    congrArg Outcome.next (State.runCmd_done hruns rfl rfl ?_)⟩
  simp [hmig, hown, hfinished, hfailed, State.segSwapped, TablesSt.swapped, State.retireSegment]

end

end Sys2Proof.Machine

namespace Sys2Proof.Proofs
open Sys2Proof.Machine

/-- Settles O24: the start, ABORT, RESUME and REVERT of a rehash, then the swap from a good and a failed segment. -/
theorem segmentRehash : Obligations.SegmentRehash := by
  unfold Obligations.SegmentRehash
  refine ⟨?_, ?_, ?_, ?_, ?_, ?_⟩
  · intro p n c sp s hruns hopts hseg hmig hspare
    exact execEpSegRehash_of_spare hruns (by simp [rehashLayout, hopts]) hseg hopts hmig hspare
  · intro p n c m x s hruns hopts hseg hmig hown hcmd
    exact execEpSegRehashAbort_of_running hruns (by simp [rehashLayout, hopts]) hseg hmig hown hopts hcmd
  · intro p n c m s hruns hopts hseg hmig hown hcmd hfinished
    exact execEpSegRehashResume_of_stopped hruns (by simp [rehashLayout, hopts]) hseg hmig hown hcmd hfinished hopts
  · intro p n c m s hruns hopts hseg hmig hown hcmd hfinished
    exact execEpSegRehashRevert_of_stopped hruns (by simp [rehashLayout, hopts]) hseg hmig hown hcmd hfinished hopts
  · intro p n c m s hruns hmig hown hfinished hgood hregs hwf hseed0 hseed1
    refine ⟨_, execEpSegSwap_of_good hruns hmig hown hfinished hgood, State.segSwapped_segPhys hwf _ _ _,
      State.segSwapped_space hregs hwf hseed0 hseed1 _, ?_⟩
    rw [State.segSwapped_tab]
    exact ⟨rfl, rfl, rfl⟩
  · intro p n c m s hruns hmig hown hfinished hfailed
    obtain ⟨inj, hexec⟩ := execEpSegSwap_of_failed hruns hmig hown hfinished hfailed
    refine ⟨_, hexec, ?_⟩
    rw [State.retireSegment_tab, State.segSwapped_tab]
    exact ⟨rfl, rfl, rfl⟩

end Sys2Proof.Proofs
end

section
/-! L2 entries are learned, aged, written, deleted and read (O29). -/
namespace Sys2Proof.Machine
open Sys2Proof.Safety
open Host (Outcome)

/-! ### What an index holds after a write -/

theorem State.l2At_of_slices {s t : State} (h : t.slices = s.slices) (n i : Nat) : t.l2At n i = s.l2At n i := by
  rw [State.l2At, State.slice_of_slices h, State.l2At]

/-- No entry is held after reset. -/
theorem SliceSt.ne_zero_of_mem_l2 {x : SliceSt} {e : Nat × L2Ent} (h : e ∈ x.l2) : x ≠ SliceSt.zero := by
  rintro rfl
  simp [SliceSt.zero] at h

theorem State.l2At_setL2_self (n i : Nat) (e : L2Ent) (s : State) : (s.setL2 n i (some e)).l2At n i = some e := by
  have hne : ({ s.slice n with l2 := (s.slice n).l2.put i e } : SliceSt) ≠ SliceSt.zero :=
    SliceSt.ne_zero_of_mem_l2 (SMap.mem_put_self ..)
  rw [State.l2At, State.setL2, State.onSlice, State.slice_setSlice_of_ne hne, SMap.find?_put_self]
  rfl

theorem State.slice_setL2_ne {n k : Nat} (h : k ≠ n) (i : Nat) (e : Option L2Ent) (s : State) :
    (s.setL2 n i e).slice k = s.slice k := SMap.get_set_ne _ _ _ h

/-- A key that is not held takes the free slot of its bucket. -/
theorem State.l2Store_of_free {m vid mac i : Nat} {s : State} (hnew : s.l2Find m vid mac = none)
    (hfree : s.l2Free m vid mac = some i) (e : L2Ent) : s.l2Store m vid mac e = s.setL2 m i (some e) := by
  simp [State.l2Store, hnew, hfree]

/-! ### The learn bus (R287, R288) -/

theorem execLearnRecord_of_some {m o : Slice} {r : LearnRec} {bus : List LearnRec} {s : State}
    (h : takeRec m o s.tab.bus = (some r, bus)) :
    execLearnRecord m o s = .next (({ s with tab.bus := bus } : State).applyRec m r) := by
  simp [execLearnRecord, h]

theorem execLearnRecord_of_none {m o : Slice} {bus : List LearnRec} {s : State}
    (h : takeRec m o s.tab.bus = (none, bus)) : execLearnRecord m o s = .next s := by
  simp [execLearnRecord, h]

/-- A learn of a key that the slice does not hold enters it in the free slot; what else it does is count and post. -/
theorem State.l2At_applyLearn {m i : Nat} {r : LearnRec} {s : State} (hnew : s.l2Find m r.vid r.mac = none)
    (hfree : s.l2Free m r.vid r.mac = some i) : (s.applyLearn m r).l2At m i = some (learned r.vid r.mac r.port) := by
  have hslices : (s.applyLearn m r).slices = (s.setL2 m i (some (learned r.vid r.mac r.port))).slices := by
    rw [State.applyLearn, hnew]
    dsimp only
    rw [hfree]
    dsimp only
    split <;> simp
  rw [State.l2At_of_slices hslices, State.l2At_setL2_self]

/-- A record that is no learn and no move is under no limit of rate. -/
theorem State.originate_of_unlimited {r : LearnRec} (h : r.kind = .unpin ∨ r.kind = .remove) (s : State) :
    s.originate r = { s with tab.bus := s.tab.bus ++ [r] } := by
  rcases h with h | h <;> simp [State.originate, h]

/-! ### The flap hold (R290) -/

/-- The record by which a slice lets go of an entry that it pinned. -/
def L2Ent.unpinRec (m : Nat) (e : L2Ent) : LearnRec :=
  { kind := .unpin, origin := m, vid := e.vid, mac := e.mac, port := e.port, left := List.range 16 }

/-- The first entry that the slice holds pinned, its hold over, is let go and its UNPIN sent. -/
theorem execFlapHoldExpiry_of_passed {m : Slice} {before after : List (Nat × L2Ent)} {i at' : Nat} {e : L2Ent}
    {s : State} (hl2 : (s.slice m).l2 = before ++ (i, e) :: after) (hbefore : ∀ x ∈ before, x.2.pinAt = none)
    (hpin : e.pinAt = some at') (hpassed : at' + bits (s.l2Cfg m) 15 4 * 1000000000 ≤ s.now) :
    execFlapHoldExpiry m s = .next ((s.setL2 m i (some { e with pinAt := none })).originate (e.unpinRec m)) := by
  have hfind (q : Nat × L2Ent → Bool) (hq : q (i, e) = true) (hbefore : ∀ x ∈ before, (!q x) = true) :
      (s.slice m).l2.find? q = some (i, e) :=
    List.find?_eq_some_iff_append.2 ⟨hq, before, after, hl2, hbefore⟩
  refine congrArg Outcome.next ?_
  dsimp only
  rw [hfind]
  · rfl
  · simp only [hpin]
    exact decide_eq_true hpassed
  · exact fun x hx => by simp [hbefore x hx]

/-! ### Ageing (R291) -/

/-- What an age tick that is due does to one entry of a slice. -/
def State.ageEntry (m : Nat) (s : State) (x : Nat × L2Ent) : State :=
  if portSlice x.2.port ≠ m ∨ x.2.static = true then s
  else if x.2.age < 6 then s.setL2 m x.1 (some { x.2 with age := x.2.age + 1 })
  else (((s.setL2 m x.1 none).l2Count m 5).l2Evt 2 1 x.2.port m x.2.vid x.2.mac).originate
    { kind := .remove, origin := m, vid := x.2.vid, mac := x.2.mac, port := x.2.port,
      left := (List.range 16).filter (· ≠ m) }

theorem execL2AgeTick_of_not_due {m : Slice} {s : State} (h : bits (s.l2Cfg m) 31 16 = 0 ∨
      ((s.slice m).ageAt.isSome = true ∧ s.elapsed (s.slice m).ageAt (bits (s.l2Cfg m) 31 16 * 100000000) = false)) :
    execL2AgeTick m s = .next s := by
  refine congrArg Outcome.next (if_pos ?_)
  rcases h with hoff | ⟨hlast, hsoon⟩
  · simp [hoff]
  · simp [hlast, hsoon]

theorem execL2AgeTick_of_due {m : Slice} {s : State} (hon : bits (s.l2Cfg m) 31 16 ≠ 0)
    (hdue : ((s.slice m).ageAt.isNone || s.elapsed (s.slice m).ageAt (bits (s.l2Cfg m) 31 16 * 100000000)) = true) :
    execL2AgeTick m s =
      .next ((s.slice m).l2.foldl (State.ageEntry m) (s.onSlice m fun y => { y with ageAt := some s.now })) := by
  refine congrArg Outcome.next (if_neg ?_)
  rintro (hoff | hearly)
  · omega
  · exact Bool.noConfusion (hdue.symm.trans hearly)

/-- Static entries and those of other slices' ports do not age. -/
theorem State.foldl_ageEntry_of_kept {m : Nat} {l : List (Nat × L2Ent)}
    (h : ∀ x ∈ l, x.2.static = true ∨ portSlice x.2.port ≠ m) (s : State) : l.foldl (State.ageEntry m) s = s :=
  List.foldlRecOn (motive := (· = s)) _ _ rfl fun t ht x hx => by
    rw [State.ageEntry, if_pos (Or.symm (h x hx)), ht]

/-! ### Commands (R292, R293) -/

section
variable {p : HostPort} {n : Fin 64} {c : Cmd} {s : State}

theorem execL2Write_of_room
    (hruns : runs s p n 0x38 [whole 8 2, whole 10 6, named 16 2 0xFFF, named 18 2 0x1FF, named 20 1 3] c = true)
    (hport : s.inactive (c.arg 18 2) = false)
    (hnew : bit (c.arg 20 1) 1 = true ∨ ∀ m ∈ maskSlices (c.arg 8 2), s.l2Find m (l2Vid c) (l2Mac c) = none)
    (hroom : ∀ m ∈ maskSlices (c.arg 8 2),
      s.l2Find m (l2Vid c) (l2Mac c) ≠ none ∨ s.l2Free m (l2Vid c) (l2Mac c) ≠ none) :
    execL2Write p n s = .next (((maskSlices (c.arg 8 2)).foldl (fun t m => t.l2Store m (l2Vid c) (l2Mac c)
      { learned (l2Vid c) (l2Mac c) (c.arg 18 2) with static := bit (c.arg 20 1) 0 }) s).complete c .ok 0 0) := by
  refine congrArg Outcome.next (State.runCmd_done hruns rfl rfl ?_)
  dsimp only
  rw [if_neg (by simp [hport]), if_neg, if_neg]
  · simpa [← not_and_or] using hroom
  · rcases hnew with hreplace | hnew
    · simp [hreplace]
    · simpa using fun _ => hnew

theorem execL2Delete_of_held {m : Nat} (hruns : runs s p n 0x39 [whole 8 2, whole 10 6, named 16 2 0xFFF] c = true)
    (hm : m ∈ maskSlices (c.arg 8 2)) (hheld : s.l2Find m (l2Vid c) (l2Mac c) ≠ none) :
    execL2Delete p n s =
      .next (((maskSlices (c.arg 8 2)).foldl (fun t m => t.l2Remove m (l2Vid c) (l2Mac c)) s).complete c .ok 0 0) := by
  refine congrArg Outcome.next (State.runCmd_done hruns rfl rfl (if_neg ?_))
  simpa using ⟨m, hm, hheld⟩

theorem execL2Flush_of_idle
    (hruns : runs s p n 0x3A [whole 8 2, named 10 1 7, named 16 2 0xFFF, named 18 2 0x1FF] c = true)
    (hjob : s.tab.job = .idle) : execL2Flush p n s = .next (({ s with
      tab.job := .flush c.serial (c.arg 8 2) (c.arg 10 1) (c.arg 18 2) (c.arg 16 2) 0 0 } : State).wait c) :=
  congrArg Outcome.next (State.runCmd_wait hruns (by simp [hjob]) rfl rfl)

section
variable (hruns : runs s p n 0x3B [whole 8 1, whole 9 1, whole 10 6, whole 12 4, named 16 2 0xFFF, whole 24 8] c = true)
  (hslice : c.arg 8 1 ≤ 15) (haddr : c.arg 24 8 % 16 = 0)
include hruns hslice haddr

theorem execL2Read_of_index (hopt : c.arg 9 1 = 1) (hindex : c.arg 12 4 ≤ 524287) :
    execL2Read p n s = .next ((s.hostData c (c.arg 24 8)
      (l2Block (c.arg 12 4) (s.l2At (c.arg 8 1) (c.arg 12 4)))).complete c .ok 0 0) := by
  refine congrArg Outcome.next (State.runCmd_done hruns rfl rfl ?_)
  dsimp only
  rw [if_neg (by omega), if_pos hopt, if_neg (by omega)]

theorem execL2Read_of_key {i : Nat} {e : L2Ent} (hopt : c.arg 9 1 = 0)
    (hheld : s.l2Find (c.arg 8 1) (l2Vid c) (l2Mac c) = some (i, e)) :
    execL2Read p n s = .next ((s.hostData c (c.arg 24 8) (l2Block i (some e))).complete c .ok 0 0) := by
  refine congrArg Outcome.next (State.runCmd_done hruns rfl rfl ?_)
  dsimp only
  rw [if_neg (by omega), if_neg (by omega), hheld]

end
end

end Sys2Proof.Machine

namespace Sys2Proof.Proofs
open Sys2Proof.Machine

/-- Settles O29: the learn bus, the moves of a second, the flap hold and ageing, then the commands. -/
theorem l2EntriesAndCommands : Obligations.L2EntriesAndCommands := by
  unfold Obligations.L2EntriesAndCommands
  refine ⟨?_, ?_, ?_, ?_, ?_, ?_, ?_, ?_, ?_, ?_, ?_, ?_, ?_⟩
  · intro m o r bus s htake
    exact execLearnRecord_of_some htake
  · intro m o bus s htake
    exact execLearnRecord_of_none htake
  · intro m r i s hkind hnew hfree
    rw [State.applyRec, hkind]
    exact State.l2At_applyLearn hnew hfree
  · intro s
    rfl
  · intro m before after i e at' s hl2 hbefore hpin hpassed
    refine ⟨_, execFlapHoldExpiry_of_passed hl2 hbefore hpin hpassed, ?_⟩
    rw [State.originate_of_unlimited (.inl rfl)]
    exact ⟨State.l2At_setL2_self .., rfl⟩
  · intro m s hwait
    exact execL2AgeTick_of_not_due hwait
  · intro m s u hon hdue hu
    subst hu
    refine ⟨fun i e hl2 => ?_, fun hkept => ?_⟩
    · rw [exec, execL2AgeTick_of_due hon hdue, hl2]
      rfl
    · rw [exec, execL2AgeTick_of_due hon hdue, State.foldl_ageEntry_of_kept hkept]
  · intro p n c s hruns hport hnew hroom
    exact execL2Write_of_room hruns hport hnew hroom
  · intro m vid mac e i s hnew hfree
    rw [State.l2Store_of_free hnew hfree]
    exact ⟨State.l2At_setL2_self .., fun k hk => State.slice_setL2_ne hk ..⟩
  · intro p n c m s hruns hm hheld
    exact execL2Delete_of_held hruns hm hheld
  · intro p n c s hruns hjob
    exact execL2Flush_of_idle hruns hjob
  · intro p n c s hruns hslice hopt haddr hindex
    exact execL2Read_of_index hruns hslice haddr hopt hindex
  · intro p n c i e s hruns hslice hopt haddr hheld
    exact execL2Read_of_key hruns hslice haddr hopt hheld

end Sys2Proof.Proofs
end

section
/-! The table engine takes its routine one step at a time (O30). -/
namespace Sys2Proof.Machine

section
variable {s : State} (errs : List (Nat × EccErr))

theorem execTableEngineStep_of_idle (hjob : s.tab.job = .idle) (hmig : s.tab.mig = none) :
    execTableEngineStep errs s = .next s := by
  simp [execTableEngineStep, hjob, State.migStep, hmig]

/-! ### A chain of moves (R263) -/

theorem execTableEngineStep_of_move {c made l : Nat} {move : Nat × Nat} {rest : List (Nat × Nat)} {e : EpEnt}
    {old : Option Nat} (hjob : s.tab.job = .chain c (move :: rest) made l e old) :
    execTableEngineStep errs s =
      .next (({ s with tab.job := .chain c rest (made + 1) l e old } : State).epMove move.1 move.2) := by
  simp [execTableEngineStep, hjob]

/-- At its end the new key is stored and the slot that it leaves, if any, is freed. -/
theorem execTableEngineStep_of_chain_end {c made l : Nat} {e : EpEnt} {old : Option Nat}
    (hjob : s.tab.job = .chain c [] made l e old) :
    execTableEngineStep errs s = .next (((({ s with tab.job := .idle } : State).epStore l e).epLeave old).completeSer
      c .ok (locWord l) made) := by
  cases old <;> simp [execTableEngineStep, hjob, State.epLeave]

/-! ### A flush (R292) -/

theorem execTableEngineStep_of_bucket {c mask filter port vid next removed : Nat}
    (hjob : s.tab.job = .flush c mask filter port vid next removed) (hnext : next < 131071) :
    execTableEngineStep errs s = .next { (s.flushBucket (maskSlices mask) filter port vid next).2 with
      tab.job := .flush c mask filter port vid (next + 1)
        (removed + (s.flushBucket (maskSlices mask) filter port vid next).1) } := by
  have hmore : next + 1 < 131072 := by omega
  simp [execTableEngineStep, hjob, hmore]

theorem execTableEngineStep_of_last_bucket {c mask filter port vid removed : Nat}
    (hjob : s.tab.job = .flush c mask filter port vid 131071 removed) :
    execTableEngineStep errs s =
      .next (({ (s.flushBucket (maskSlices mask) filter port vid 131071).2 with tab.job := .idle } : State).completeSer
        c .ok (removed + (s.flushBucket (maskSlices mask) filter port vid 131071).1) 0) := by
  simp [execTableEngineStep, hjob]

/-! ### The stash (R265) -/

theorem execTableEngineStep_of_restash {seg : Nat} (hjob : s.tab.job = .restash seg) (hmig : s.tab.mig = none) :
    execTableEngineStep errs s = .next (({ s with tab.job := .idle } : State).restash seg (s.space seg)) := by
  simp [execTableEngineStep, hjob, hmig]

/-! ### Shifts of routes (R283) -/

theorem execTableEngineStep_of_shift {c n a b made : Nat} {low : Nat × Nat} {rest : List (Nat × Nat × Nat)}
    {places : List (Nat × Nat)} {e : LpmEnt} (hjob : s.tab.job = .shift c low ((n, a, b) :: rest) made places e) :
    execTableEngineStep errs s = .next (({ s with
      tab.job := .shift c low rest (made + if n = low.1 then 1 else 0) places e } : State).lpmMove n a b) := by
  simp [execTableEngineStep, hjob, b2n]

theorem execTableEngineStep_of_shift_end {c made : Nat} {low : Nat × Nat} {places : List (Nat × Nat)} {e : LpmEnt}
    (hjob : s.tab.job = .shift c low [] made places e) :
    execTableEngineStep errs s = .next ((places.foldl (fun (t : State) q => t.setLpm q.1 q.2 (some e))
      { s with tab.job := .idle }).completeSer c .ok (lpmResult0 low.2) made) := by
  simp [execTableEngineStep, hjob]

end

end Sys2Proof.Machine

namespace Sys2Proof.Proofs
open Sys2Proof.Machine

/-- Settles O30: the engine at rest, then a chain of moves, a flush, the stash and the shifts of a route. -/
theorem tableEngineSteps : Obligations.TableEngineSteps := by
  unfold Obligations.TableEngineSteps
  refine ⟨?_, ?_, ?_, ?_, ?_, ?_, ?_, ?_, ?_⟩
  · intro errs s hjob hmig
    exact execTableEngineStep_of_idle errs hjob hmig
  · intro errs s c a b r made l e old hjob
    exact execTableEngineStep_of_move errs hjob
  · intro errs s c made l e hjob
    exact execTableEngineStep_of_chain_end errs hjob
  · intro errs s c made l e o hjob
    exact execTableEngineStep_of_chain_end errs hjob
  · intro errs s c mask filter port vid next removed hjob hnext
    exact ⟨_, execTableEngineStep_of_bucket errs hjob hnext, rfl, rfl⟩
  · intro errs s c mask filter port vid removed hjob
    exact ⟨_, execTableEngineStep_of_last_bucket errs hjob, rfl, rfl⟩
  · intro errs s seg hjob hmig
    exact execTableEngineStep_of_restash errs hjob hmig
  · intro errs s c low n a b r made places e hjob
    exact execTableEngineStep_of_shift errs hjob
  · intro errs s c low made places e hjob
    exact execTableEngineStep_of_shift_end errs hjob

end Sys2Proof.Proofs
end

section
/-! LPM routes are added, replaced, deleted and read (O31). -/
namespace Sys2Proof.Machine
open Sys2Proof.Safety
open Host (Outcome)

/-! ### The route that a command names -/

/-- The table that an LPM command names. -/
def Cmd.lpmV6 (c : Cmd) : Bool := decide (c.arg 10 1 = 1)

/-- The entry that LPM_ADD adds. -/
def Cmd.lpmEnt (c : Cmd) : LpmEnt :=
  { v6 := c.lpmV6, plen := c.arg 11 1, vrf := c.arg 16 2, pfx := lpmAddr c, result := c.arg 20 5 }

/-- Where a slice holds the route of an LPM command. -/
def State.lpmHeld (s : State) (c : Cmd) (k : Nat) : Option (Nat × LpmEnt) :=
  s.lpmFind k c.lpmV6 (c.arg 11 1) (c.arg 16 2) (lpmAddr c)

/-- A route that every slice of a list holds changes where it is held. -/
theorem State.foldl_lpmAt_of_held {ns : List Nat} {held : Nat → Option (Nat × LpmEnt)} {at' : Nat → Nat × LpmEnt}
    (h : ∀ k ∈ ns, held k = some (at' k)) (e : Option LpmEnt) (s : State) :
    ns.foldl (fun t k => t.lpmAt k (held k) e) s = ns.foldl (fun t k => t.setLpm k (at' k).1 e) s :=
  List.foldl_ext _ _ _ fun t k hk => by rw [h k hk, State.lpmAt]

/-- A route that no slice of a list holds changes nowhere. -/
theorem State.foldl_lpmAt_of_new {ns : List Nat} {held : Nat → Option (Nat × LpmEnt)} (h : ∀ k ∈ ns, held k = none)
    (e : Option LpmEnt) (s : State) : ns.foldl (fun t k => t.lpmAt k (held k) e) s = s :=
  List.foldlRecOn (motive := (· = s)) _ _ rfl fun t ht k hk => by rw [h k hk, State.lpmAt, ht]

theorem State.lpmBad_of_no_format {s : State} {k : Nat} {v6 : Bool} (h : s.lpmFmt k v6 = none) (plen addr : Nat) :
    s.lpmBad k v6 plen addr = true := by
  rw [State.lpmBad, h]

/-! ### What an add plans (R283) -/

/-- The shifts that free a row of a slice for the route of a command, and the row they free. -/
def State.lpmPlan (s : State) (c : Cmd) (row : Nat → Nat) (k : Nat) : List (Nat × Nat) × Nat :=
  s.lpmShifts k c.lpmV6 (c.arg 11 1) (row k)

/-- Plans of an add: a slice, the shifts to make in it, and the row that they free. -/
abbrev LpmPlans := List (Nat × List (Nat × Nat) × Nat)

/-- For each named slice that does not hold the route: the shifts that free the row it takes, and the row they free. -/
def State.lpmPlans (s : State) (c : Cmd) (picks ns : List Nat) : LpmPlans :=
  ((ns.filter fun k => (s.lpmHeld c k).isNone).map fun k =>
      (k, s.lpmChoose k c.lpmV6 (c.arg 11 1) (picks.getD k 0))).filterMap fun q =>
    q.2.map fun row => (q.1, s.lpmShifts q.1 c.lpmV6 (c.arg 11 1) row)

/-- The shifts of all slices, one slice after another. -/
def planMoves (plans : LpmPlans) : List (Nat × Nat × Nat) :=
  plans.flatMap fun q => q.2.1.map fun x => (q.1, x.1, x.2)

/-- The rows that take the route. -/
def planPlaces (plans : LpmPlans) : List (Nat × Nat) := plans.map fun q => (q.1, q.2.2)

/-- The row that an add answers, of its lowest slice. -/
def State.lpmLowRow (s : State) (c : Cmd) (plans : LpmPlans) (m : Nat) : Nat :=
  match s.lpmHeld c m with
  | some x => x.1
  | none => (((planPlaces plans).find? fun q => q.1 = m).map Prod.snd).getD 0

/-- How an accepted add goes on from its plans: at once where nothing has to shift, else as the engine's routine. -/
def Cmd.lpmAdded (c : Cmd) (m row : Nat) (plans : LpmPlans) (s : State) : Ran :=
  match planMoves plans with
  | [] => .done .ok (lpmResult0 row) 0 ((planPlaces plans).foldl (fun t q => t.setLpm q.1 q.2 (some c.lpmEnt)) s)
  | _ => .wait { s with tab.job := .shift c.serial (m, row) (planMoves plans) 0 (planPlaces plans) c.lpmEnt }

theorem Cmd.lpmAdded_of_no_moves {c : Cmd} {plans : LpmPlans} (h : planMoves plans = [])
    (m row : Nat) (s : State) : c.lpmAdded m row plans s = .done .ok (lpmResult0 row) 0
      ((planPlaces plans).foldl (fun t q => t.setLpm q.1 q.2 (some c.lpmEnt)) s) := by
  rw [Cmd.lpmAdded, h]

theorem Cmd.lpmAdded_of_moves {c : Cmd} {plans : LpmPlans} (h : planMoves plans ≠ [])
    (m row : Nat) (s : State) : c.lpmAdded m row plans s = .wait { s with
      tab.job := .shift c.serial (m, row) (planMoves plans) 0 (planPlaces plans) c.lpmEnt } := by
  rw [Cmd.lpmAdded]
  split
  next hnil => exact absurd hnil h
  · rfl

theorem planMoves_map_eq_nil {ns : List Nat} {plan : Nat → List (Nat × Nat) × Nat} :
    planMoves (ns.map fun k => (k, plan k)) = [] ↔ ∀ k ∈ ns, (plan k).1 = [] := by
  simp [planMoves]

/-- Where no slice holds the route and each has a row for it, each has a plan. -/
theorem State.lpmPlans_of_new {s : State} {c : Cmd} {picks ns : List Nat} {row : Nat → Nat}
    (hnew : ∀ k ∈ ns, s.lpmHeld c k = none)
    (hrow : ∀ k ∈ ns, s.lpmChoose k c.lpmV6 (c.arg 11 1) (picks.getD k 0) = some (row k)) :
    s.lpmPlans c picks ns = ns.map fun k => (k, s.lpmPlan c row k) := by
  have hchoose : (ns.map fun k => (k, s.lpmChoose k c.lpmV6 (c.arg 11 1) (picks.getD k 0))) =
      ns.map fun k => (k, some (row k)) := List.map_congr_left fun k hk => by rw [hrow k hk]
  rw [State.lpmPlans, List.filter_eq_self.2 fun k hk => by simp [hnew k hk], hchoose]
  simp [List.filterMap_map, State.lpmPlan]

theorem State.lpmPlans_of_held {s : State} {c : Cmd} {ns : List Nat} (h : ∀ k ∈ ns, (s.lpmHeld c k).isSome)
    (picks : List Nat) : s.lpmPlans c picks ns = [] := by
  rw [State.lpmPlans, List.filter_eq_nil_iff.2 fun k hk => by simpa using Option.isSome_iff_ne_none.1 (h k hk)]
  rfl

/-! ### LPM_ADD (R283 to R285) -/

/-- How a command ends with the answer of its meaning. -/
def Ran.finish (c : Cmd) : Ran → State
  | .done st r0 r1 s => s.complete c st r0 r1
  | .wait s => s.wait c

theorem State.runCmd_finish {s : State} {p : HostPort} {n op : Nat} {fs : List ArgField} {c : Cmd} {row : Cmd → Bool}
    {layout : Cmd → List ArgField} {body : Cmd → State → Ran} {ran : Ran} (hruns : runs s p n op fs c = true)
    (hrow : row c = true) (hlayout : layout c = fs) (hbody : body c s = ran) :
    s.runCmd p n op row layout body = ran.finish c := by
  cases ran with
  | done st r0 r1 t => exact State.runCmd_done hruns hrow hlayout hbody
  | wait t => exact State.runCmd_wait hruns hrow hlayout hbody

section
variable {p : HostPort} {n : Fin 64} {picks : List Nat} {c : Cmd} {s : State}
  (hruns : runs s p n 0x20 ([named 12 1 1, named 20 5 0xFFFFFFFFF] ++ lpmLayout s c) c = true)
  (hjob : s.tab.job = .idle)
include hruns hjob

/-- An add whose result, table or format does not fit is refused. -/
theorem execLpmAdd_of_bad (hbad : resultOk (c.arg 20 5) = false ∨ 1 < c.arg 10 1 ∨
      ∃ k ∈ maskSlices (c.arg 8 2), s.lpmBad k c.lpmV6 (c.arg 11 1) (lpmAddr c) = true) :
    execLpmAdd p n picks s = .next (s.complete c .badArg 0 0) := by
  refine congrArg Outcome.next (State.runCmd_done hruns (by simp [hjob]) rfl (if_pos ?_))
  rcases hbad with hresult | htable | hformat
  · simp [hresult]
  · simp [htable]
  · have hany := List.any_eq_true.2 hformat
    rw [Cmd.lpmV6] at hany
    simp [hany]

variable {m : Nat} {r : List Nat} (htable : c.arg 10 1 ≤ 1) (hns : maskSlices (c.arg 8 2) = m :: r)
  (hresult : resultOk (c.arg 20 5) = true)
  (hformat : ∀ k ∈ m :: r, s.lpmBad k c.lpmV6 (c.arg 11 1) (lpmAddr c) = false)
include htable hns hresult hformat

theorem execLpmAdd_of_accepted (hnew : bit (c.arg 12 1) 0 = true ∨ ∀ k ∈ m :: r, s.lpmHeld c k = none)
    (hroom : ∀ k ∈ m :: r, s.lpmHeld c k = none →
      (s.lpmChoose k c.lpmV6 (c.arg 11 1) (picks.getD k 0)).isSome) :
    execLpmAdd p n picks s = .next ((c.lpmAdded m (s.lpmLowRow c (s.lpmPlans c picks (m :: r)) m)
      (s.lpmPlans c picks (m :: r))
      ((m :: r).foldl (fun t k => t.lpmAt k (s.lpmHeld c k) (some c.lpmEnt)) s)).finish c) := by
  refine congrArg Outcome.next (State.runCmd_finish hruns (by simp [hjob]) rfl ?_)
  dsimp only
  rw [hns]
  refine (if_neg ?_).trans ((if_neg ?_).trans ((if_neg ?_).trans rfl))
  · simpa [Nat.not_lt.2 htable, hresult, Cmd.lpmV6] using hformat
  · rcases hnew with hreplace | hnew
    · simp [hreplace]
    · simpa [State.lpmHeld, Cmd.lpmV6] using fun _ => hnew
  · simpa [State.lpmHeld, Cmd.lpmV6, Option.isSome_iff_ne_none] using hroom

/-- An add of a route that no named slice holds, with a row in each: it is stored at once where nothing has to shift,
and else the shifts become the engine's routine. -/
theorem execLpmAdd_of_new {row : Nat → Nat} (hnew : ∀ k ∈ m :: r, s.lpmHeld c k = none)
    (hrow : ∀ k ∈ m :: r, s.lpmChoose k c.lpmV6 (c.arg 11 1) (picks.getD k 0) = some (row k)) :
    execLpmAdd p n picks s = .next (
      if ∀ k ∈ m :: r, (s.lpmPlan c row k).1 = [] then
        ((m :: r).foldl (fun (t : State) k => t.setLpm k (s.lpmPlan c row k).2 (some c.lpmEnt)) s).complete c .ok
          (lpmResult0 (s.lpmPlan c row m).2) 0
      else ({ s with
        tab.job := .shift c.serial (m, (s.lpmPlan c row m).2)
          (planMoves ((m :: r).map fun k => (k, s.lpmPlan c row k))) 0
          (planPlaces ((m :: r).map fun k => (k, s.lpmPlan c row k))) c.lpmEnt } : State).wait c) := by
  have hlow : s.lpmLowRow c ((m :: r).map fun k => (k, s.lpmPlan c row k)) m = (s.lpmPlan c row m).2 := by
    simp [State.lpmLowRow, hnew m List.mem_cons_self, planPlaces]
  rw [execLpmAdd_of_accepted hruns hjob htable hns hresult hformat (.inr hnew) (fun k hk _ => by rw [hrow k hk]; rfl),
    State.lpmPlans_of_new hnew hrow, hlow, State.foldl_lpmAt_of_new hnew]
  split
  next hstill =>
    rw [Cmd.lpmAdded_of_no_moves (planMoves_map_eq_nil.2 hstill), planPlaces, List.map_map, List.foldl_map]
    rfl
  next hshift =>
    rw [Cmd.lpmAdded_of_moves (mt planMoves_map_eq_nil.1 hshift)]
    rfl

/-- An add of a route that every named slice holds replaces it where it is, with REPLACE alone. -/
theorem execLpmAdd_of_held {at' : Nat → Nat × LpmEnt} (hheld : ∀ k ∈ m :: r, s.lpmHeld c k = some (at' k)) :
    execLpmAdd p n picks s = .next (if bit (c.arg 12 1) 0 then
        ((m :: r).foldl (fun (t : State) k => t.setLpm k (at' k).1 (some c.lpmEnt)) s).complete c .ok
          (lpmResult0 (at' m).1) 0
      else s.complete c .exists' 0 0) := by
  split
  next hreplace =>
    rw [execLpmAdd_of_accepted hruns hjob htable hns hresult hformat (.inl hreplace)
        (fun k hk hnone => by simp [hheld k hk] at hnone),
      State.lpmPlans_of_held (fun k hk => by simp [hheld k hk]), State.foldl_lpmAt_of_held hheld, State.lpmLowRow,
      hheld m List.mem_cons_self]
    rfl
  next hkeep =>
    refine congrArg Outcome.next (State.runCmd_done hruns (by simp [hjob]) rfl ?_)
    dsimp only
    rw [hns]
    refine (if_neg ?_).trans (if_pos ?_)
    · simpa [Nat.not_lt.2 htable, hresult, Cmd.lpmV6] using hformat
    · have hfound := hheld m List.mem_cons_self
      rw [State.lpmHeld, Cmd.lpmV6] at hfound
      simp [hkeep, hfound]

end

/-! ### LPM_DELETE (R284, R285) -/

section
variable {p : HostPort} {n : Fin 64} {c : Cmd} {s : State} (hruns : runs s p n 0x21 (lpmLayout s c) c = true)
  (hjob : s.tab.job = .idle) (htable : c.arg 10 1 ≤ 1)
  (hformat : ∀ k ∈ maskSlices (c.arg 8 2), s.lpmBad k c.lpmV6 (c.arg 11 1) (lpmAddr c) = false)
include hruns hjob htable hformat

theorem execLpmDelete_of_held {m : Nat} {r : List Nat} {at' : Nat → Nat × LpmEnt}
    (hns : maskSlices (c.arg 8 2) = m :: r) (hheld : ∀ k ∈ m :: r, s.lpmHeld c k = some (at' k)) :
    execLpmDelete p n s = .next (((m :: r).foldl (fun (t : State) k => t.setLpm k (at' k).1 none) s).complete c .ok
      (lpmResult0 (at' m).1) 0) := by
  refine congrArg Outcome.next (State.runCmd_done hruns (by simp [hjob]) rfl ?_)
  dsimp only
  refine (if_neg ?_).trans ((if_neg ?_).trans ?_)
  · simpa [Nat.not_lt.2 htable, Cmd.lpmV6] using hformat
  · intro hany
    obtain ⟨k, hk, hnone⟩ := List.any_eq_true.1 hany
    exact Option.some_ne_none _ ((hheld k (hns ▸ hk)).symm.trans (Option.isNone_iff_eq_none.1 hnone))
  · rw [hns]
    exact congrArg₂ (fun row t => Ran.done .ok (lpmResult0 row) 0 t)
      (show ((s.lpmHeld c m).map Prod.fst).getD 0 = (at' m).1 by rw [hheld m List.mem_cons_self]; rfl)
      (State.foldl_lpmAt_of_held hheld none s)

theorem execLpmDelete_of_missing {k : Nat} (hk : k ∈ maskSlices (c.arg 8 2)) (hmissing : s.lpmHeld c k = none) :
    execLpmDelete p n s = .next (s.complete c .notFound 0 0) := by
  refine congrArg Outcome.next (State.runCmd_done hruns (by simp [hjob]) rfl ?_)
  dsimp only
  refine (if_neg ?_).trans (if_pos ?_)
  · simpa [Nat.not_lt.2 htable, Cmd.lpmV6] using hformat
  · exact List.any_eq_true.2 ⟨k, hk, Option.isNone_iff_eq_none.2 hmissing⟩

end

/-! ### LPM_READ (R285) -/

/-- The layout of LPM_READ. -/
def lpmReadLayout (s : State) (c : Cmd) : List ArgField :=
  [whole 8 1, whole 10 1, whole 11 1, whole 12 1] ++
    (if (match s.lpmFmt (c.arg 8 1) c.lpmV6 with | some (_, v) => v | none => true) then [whole 16 2] else [])
    ++ (if c.lpmV6 then [whole 32 16] else [whole 32 4])

section
variable {p : HostPort} {n : Fin 64} {c : Cmd} {s : State} {l : Nat} {e : LpmEnt}
  (hruns : runs s p n 0x22 (lpmReadLayout s c) c = true) (hslice : c.arg 8 1 ≤ 15) (htable : c.arg 10 1 ≤ 1)
include hruns hslice htable

theorem execLpmRead_of_held (hexact : c.arg 12 1 = 0)
    (hformat : s.lpmBad (c.arg 8 1) c.lpmV6 (c.arg 11 1) (lpmAddr c) = false)
    (hheld : s.lpmHeld c (c.arg 8 1) = some (l, e)) :
    execLpmRead p n s = .next (s.complete c .ok (e.result % 2 ^ 32) (e.result / 2 ^ 32 + e.plen * 16)) := by
  refine congrArg Outcome.next (State.runCmd_done hruns rfl rfl ?_)
  dsimp only
  rw [State.lpmHeld, Cmd.lpmV6] at hheld
  rw [if_neg (by simpa [hexact, Nat.not_lt.2 hslice, Nat.not_lt.2 htable, Cmd.lpmV6] using hformat)]
  simp [hexact, hheld]

theorem execLpmRead_of_probe (hprobe : c.arg 12 1 = 1)
    (hformat : s.lpmBad (c.arg 8 1) c.lpmV6 (lpmBits c.lpmV6) (lpmAddr c) = false)
    (hhit : (s.lpmHits (c.arg 8 1) c.lpmV6 (c.arg 16 2) (lpmAddr c) []).head? = some (l, e)) :
    execLpmRead p n s = .next (s.complete c .ok (e.result % 2 ^ 32) (e.result / 2 ^ 32 + e.plen * 16)) := by
  refine congrArg Outcome.next (State.runCmd_done hruns rfl rfl ?_)
  dsimp only
  rw [Cmd.lpmV6] at hhit
  rw [if_neg (by simpa [hprobe, Nat.not_lt.2 hslice, Nat.not_lt.2 htable, Cmd.lpmV6] using hformat)]
  simp only [hprobe, decide_true, if_true, hhit]

end

end Sys2Proof.Machine

namespace Sys2Proof.Proofs
open Sys2Proof.Machine

/-- Settles O31: LPM_ADD of a new and of a held route, LPM_DELETE, LPM_READ, and an add that does not fit. -/
theorem lpmCommands : Obligations.LpmCommands := by
  unfold Obligations.LpmCommands
  refine ⟨?_, ?_, ?_, ?_, ?_, ?_⟩
  · intro p n picks c m r fs v6 e job row s hruns hfs hjob htable hv6 hns hresult he hfits hroutine
    subst hfs hv6 he hroutine
    choose hformat hnew hrow using hfits
    refine (execLpmAdd_of_new hruns hjob htable hns hresult hformat hnew hrow).trans ?_
    rw [planMoves, planPlaces, List.flatMap_map, List.map_map]
    rfl
  · intro p n picks c m r fs v6 e at' s hruns hfs hjob htable hv6 hns hresult he hfits
    subst hfs hv6 he
    choose hformat hheld using hfits
    exact execLpmAdd_of_held hruns hjob htable hns hresult hformat hheld
  · intro p n c m r v6 at' s hruns hjob htable hv6 hns hfits
    subst hv6
    choose hformat hheld using hfits
    exact execLpmDelete_of_held hruns hjob htable (hns ▸ hformat) hns hheld
  · intro p n c k v6 s hruns hjob htable hv6 hk hformat hmissing
    subst hv6
    exact execLpmDelete_of_missing hruns hjob htable hformat hk hmissing
  · intro p n c fs v6 e l s hruns hslice htable hv6 hfs hhit
    subst hv6 hfs
    rcases hhit with ⟨hexact, hformat, hheld⟩ | ⟨hprobe, hformat, hhit⟩
    · exact execLpmRead_of_held hruns hslice htable hexact hformat hheld
    · exact execLpmRead_of_probe hruns hslice htable hprobe hformat hhit
  · intro p n picks c fs k s hruns hfs hjob hbad
    subst hfs
    refine execLpmAdd_of_bad hruns hjob ?_
    rcases hbad with hresult | htable | ⟨hk, hformat⟩
    · exact .inl hresult
    · exact .inr (.inl htable)
    · exact .inr (.inr ⟨k, hk, State.lpmBad_of_no_format hformat _ _⟩)

end Sys2Proof.Proofs
end

section
/-! The host takes and frees extents, and commits a layout of the pools (O18). -/
namespace Sys2Proof.Machine
open Sys2Proof.Safety
open Host (Outcome)

/-! ### Taking extents for the host (R322, R323) -/

/-- A pool that serves the host, with room in the shared space and no arbitration lost, hands out its next extent. -/
theorem State.hostTake_of_serves {s : State} {pick : Draw} {k h : Nat} (hk : k ≤ 3)
    (hserves : s.poolServes k false = true) (hlost : k ∉ pick.lost)
    (hroom : ((s.buf.used + poolSize k : Nat) : Int) ≤ s.sharedSpace)
    (hhand : s.buf.hand k pick.pos = some h) (exactly : Bool) (n : Nat) :
    s.hostTake exactly pick (n + 1) k = (some (h, s.enterExt h 0x3FF .host []), 0) := by
  have hwon : (pick.lost.contains k && s.lastOne k false) = false := by simp [hlost]
  rw [State.hostTake]
  dsimp only
  rw [if_neg (by omega), hwon, if_pos (by simp [hserves]), if_pos hroom, hhand, Option.map_some]

/-- One extent that the host takes from the pool it names. -/
theorem State.hostTakes_one {s t : State} {exactly : Bool} {picks : List Draw} {k h : Nat}
    (htake : s.hostTake exactly (picks.getD 0 Draw.zero) 5 k = (some (h, t), 0)) (hpool : hPool h = k) :
    s.hostTakes exactly k picks 1 = (some ([h], t), 0) := by
  simp only [State.hostTakes, htake, hpool, if_true, Option.map_some]

/-- The tiles that TEST retires, and the state after it, where the command asks for it (R323). -/
def Cmd.tested (c : Cmd) (hs failed : List Nat) (t : State) : Nat × State :=
  if bit (c.arg 9 1) 1 then t.testExtents hs failed else (0, t)

theorem Cmd.tested_of_off {c : Cmd} (h : bit (c.arg 9 1) 1 = false) (hs failed : List Nat) (t : State) :
    c.tested hs failed t = (0, t) := by
  simp [Cmd.tested, h]

theorem Cmd.tested_of_on {c : Cmd} (h : bit (c.arg 9 1) 1 = true) (hs failed : List Nat) (t : State) :
    c.tested hs failed t = t.testExtents hs failed := by
  simp [Cmd.tested, h]

/-- An allocation whose extents can all be had completes with their number and writes their handles. -/
theorem execBpmAlloc_of_taken {p : HostPort} {n : Fin 64} {c : Cmd} {s t : State} {picks : List Draw} {hs : List Nat}
    {l : Nat} (hruns : runs s p n 0x68 [named 8 1 3, named 9 1 3, whole 10 2, whole 16 8] c = true)
    (hpos : 1 ≤ c.arg 10 2) (hmax : c.arg 10 2 ≤ 64) (haddr : c.arg 16 8 % 8 = 0)
    (hheld : s.buf.hostCnt + c.arg 10 2 ≤ 4096)
    (htakes : s.hostTakes (bit (c.arg 9 1) 0) (c.arg 8 1) picks (c.arg 10 2) = (some (hs, t), l)) (failed : List Nat) :
    execBpmAlloc p n picks failed s =
      .next (((((c.tested hs failed t).2.bpmCount 2 l).hostData c (c.arg 16 8)
        (hs.flatMap fun h => toLE 4 h)).complete c .ok (c.arg 10 2) (c.tested hs failed t).1).pfcUpdate) := by
  refine congrArg (fun u => Outcome.next (State.pfcUpdate u)) (State.runCmd_done hruns rfl rfl ?_)
  dsimp only
  rw [if_neg (by omega), if_neg (by omega), htakes]
  rfl

/-! ### Freeing extents (R315, R316, R324) -/

/-- Handles without a repeat that all pass the checks hold no bad one. -/
theorem firstBad_of_good {b : BufSt} : ∀ {hs seen : List Nat} (i : Nat), (∀ h ∈ hs, b.check h 0x3FF = none) →
    hs.Nodup → (∀ h ∈ hs, h ∉ seen) → firstBad b seen i hs = none
  | [], _, _, _, _, _ => rfl
  | h :: r, seen, i, hgood, hnodup, hnew => by
    obtain ⟨hh, hr⟩ := List.forall_mem_cons.1 hgood
    obtain ⟨hfresh, hrest⟩ := List.forall_mem_cons.1 hnew
    obtain ⟨hhr, hnodup⟩ := List.nodup_cons.1 hnodup
    have hseen : ∀ x ∈ r, x ∉ h :: seen := fun x hx => by
      simpa [hrest x hx] using ne_of_mem_of_not_mem hx hhr
    simp [firstBad, hh, hfresh, firstBad_of_good (i + 1) hr hnodup hseen]

/-- The handles that a free reads are the words of its list. -/
theorem map_range_getD_toNat (handles : List Word) :
    ((List.range handles.length).map fun i => (handles.getD i 0).toNat) = handles.map BitVec.toNat := by
  refine List.ext_getElem (by simp) fun i _ hi => ?_
  rw [List.length_map] at hi
  simp [hi]

/-- A free whose handles all pass the checks, once their records are read, frees each. -/
theorem execBpmFree_of_good {p : HostPort} {n : Fin 64} {c : Cmd} {s s1 : State} {handles : List Word}
    (hruns : runs s p n 0x69 [named 8 1 1, whole 10 2, whole 16 8] c = true) (hlisted : bit (c.arg 8 1) 0 = false)
    (hpos : 1 ≤ c.arg 10 2) (hmax : c.arg 10 2 ≤ 64) (haddr : c.arg 16 8 % 8 = 0)
    (hlen : handles.length = c.arg 10 2) (hnodup : handles.Nodup)
    (hs1 : s1 = handles.foldl (fun t h => t.readRecord h.toNat) s)
    (hgood : ∀ h ∈ handles, s1.buf.check h.toNat 0x3FF = none) :
    execBpmFree p n handles s =
      .next (((handles.foldl (fun t h => t.freeExt h.toNat) s1).complete c .ok (c.arg 10 2) 0).pfcUpdate) := by
  have hread : (handles.map BitVec.toNat).foldl (fun t h => t.readRecord h) s = s1 := by rw [List.foldl_map, hs1]
  have hnone : firstBad s1.buf [] 0 (handles.map BitVec.toNat) = none :=
    firstBad_of_good 0 (List.forall_mem_map.2 hgood) (hnodup.map BitVec.toNat_injective) fun _ _ => List.not_mem_nil
  refine congrArg (fun u => Outcome.next (State.pfcUpdate u)) (State.runCmd_done hruns (by simp [hlisted]) rfl ?_)
  dsimp only
  rw [if_neg (by omega), ← hlen, map_range_getD_toNat, hread, hnone, List.foldl_map]

/-- ALL_HOST frees every extent of the host's, once their records are read. -/
theorem execBpmFreeAllHost_of_runs {p : HostPort} {n : Fin 64} {c : Cmd} {s s1 : State}
    (hruns : runs s p n 0x69 [named 8 1 1] c = true) (hall : bit (c.arg 8 1) 0 = true)
    (hs1 : s1 = s.buf.hostExts.foldl (fun t h => t.readRecord h) s) :
    execBpmFreeAllHost p n s = .next (((s1.buf.hostExts.foldl (fun t h => t.freeExt h) s1).complete c .ok
      s1.buf.hostExts.length 0).pfcUpdate) := by
  subst hs1
  exact congrArg (fun u => Outcome.next (State.pfcUpdate u)) (State.runCmd_done hruns hall rfl rfl)

/-- A charge given back lowers use counters alone. -/
theorem BufSt.uncharge_keeps (b : BufSt) (n : Nat) (c : Charge) : (b.uncharge n c).ext = b.ext ∧
    (b.uncharge n c).onList = b.onList ∧ (b.uncharge n c).retire = b.retire := by
  cases c with
  | shared i q => cases i <;> exact ⟨rfl, rfl, rfl⟩
  | qmin q => exact ⟨rfl, rfl, rfl⟩
  | imin i q => exact ⟨rfl, rfl, rfl⟩
  | hdrm i q => exact ⟨rfl, rfl, rfl⟩
  | host => exact ⟨rfl, rfl, rfl⟩

theorem State.applyRetire_of_none {h : Nat} {s : State} (hnone : ∀ e ∈ s.buf.retire, e.1 ∉ tilesOf h) :
    s.applyRetire h = s := by
  rw [State.applyRetire, List.filter_eq_nil_iff.2 fun e he => by simp [hnone e he], List.foldl_nil]

/-- An extent in service whose tiles await no retirement gives back its charge and goes to its free list (R316). -/
theorem State.freeExt_of_in_service {h : Nat} {s : State} (hin : s.buf.withdrawn.get 0 h = 0)
    (hnone : ∀ e ∈ s.buf.retire, e.1 ∉ tilesOf h) :
    s.freeExt h = { s with
      buf := { s.buf.uncharge (hSize h) (s.buf.ext.get Ext.none h).charge with
        ext := s.buf.ext.erase h, onList := s.buf.onList.erase h } } := by
  obtain ⟨hext, hlist, hretire⟩ := s.buf.uncharge_keeps (hSize h) (s.buf.ext.get Ext.none h).charge
  rw [State.freeExt]
  dsimp only
  rw [if_neg (by simp [hin]), State.applyRetire_of_none (by rw [hretire]; exact hnone), hext, hlist]

/-! ### The commit of a layout (R308) -/

/-- A commit that nothing refuses starts. -/
theorem execBpmCommit_of_fits {s : State} {v : Word} {b : BufSt} (hserved : s.served = true)
    (hgo : bit v.toNat 0 = true) (hidle : s.buf.busy = false) (hnone : s.buf.hostCnt = 0)
    (hmode : s.mode = .configure ∨ (s.mode = .drain ∧ s.bufEmpty = true))
    (hb : b = s.buf.withCounts [s.wantCnt 0, s.wantCnt 1, s.wantCnt 2, s.wantCnt 3])
    (hfits : b.pooled ≤ ({ b with withdrawn := b.layWithdrawn }).live) :
    execBpmCommit s.active v s = .next { s with buf := { s.buf with
      busy := true, next := [s.wantCnt 0, s.wantCnt 1, s.wantCnt 2, s.wantCnt 3], commitErr := false } } := by
  subst hb
  have hm : (decide (s.mode = .configure) || (decide (s.mode = .drain) && s.bufEmpty)) = true := by simpa using hmode
  refine congrArg Outcome.next ((if_pos ?_).trans (if_pos ?_))
  · simp [takesRw_active s hserved, hgo, hidle]
  · simp only [hm, hnone, hfits, decide_true, Bool.and_self]

/-- The end of a commit lays the pools out anew, then applies the retirements that are left. -/
theorem execBpmCommitDone_of_busy {s : State} (h : s.buf.busy = true) :
    execBpmCommitDone s = .next (({ s with buf := s.buf.relaid }).retirePending.pfcUpdate) :=
  congrArg Outcome.next (if_pos h)

end Sys2Proof.Machine

namespace Sys2Proof.Proofs
open Sys2Proof.Machine Sys2Proof.Safety

/-- Settles O18: BPM_ALLOC by what it takes, BPM_FREE by its checks, a free by what it leaves, then the commit. -/
theorem hostTakesAndFreesExtents : Obligations.HostTakesAndFreesExtents := by
  unfold Obligations.HostTakesAndFreesExtents
  refine ⟨?_, ?_, ?_, ?_, ?_, ?_, ?_⟩
  · intro p n picks failed c h s hruns hone hpool haddr htest hheld hserves hroom hlost hhand hh
    have hwon : c.arg 8 1 ∉ (picks.getD 0 Draw.zero).lost := by rw [hlost]; exact List.not_mem_nil
    have htake := State.hostTake_of_serves hpool hserves hwon hroom hhand (bit (c.arg 9 1) 0) 4
    refine (execBpmAlloc_of_taken hruns (by omega) (by omega) haddr (by omega)
      (by rw [hone]; exact State.hostTakes_one htake hh) failed).trans ?_
    rw [Cmd.tested_of_off htest, hone, List.flatMap_singleton]
  · intro p n picks failed c hs t l s hruns hpos hmax haddr hheld htakes
    refine (execBpmAlloc_of_taken hruns hpos hmax haddr hheld htakes failed).trans ?_
    cases htest : bit (c.arg 9 1) 1 with
    | false => rw [Cmd.tested_of_off htest, if_neg Bool.false_ne_true]
    | true => rw [Cmd.tested_of_on htest, if_pos rfl]
  · intro p n handles c s s1 hruns hlisted hpos hmax haddr hlen hnodup hs1 hgood
    exact execBpmFree_of_good hruns hlisted hpos hmax haddr hlen hnodup hs1 hgood
  · intro p n c s s1 hruns hall hs1
    exact execBpmFreeAllHost_of_runs hruns hall hs1
  · intro h s hin hnone
    exact State.freeExt_of_in_service hin hnone
  · intro v s b hserved hgo hidle hnone hmode hb hfits
    exact execBpmCommit_of_fits hserved hgo hidle hnone hmode hb hfits
  · intro s hbusy
    exact ⟨s.buf.relaid, execBpmCommitDone_of_busy hbusy, rfl, rfl, rfl, rfl, rfl, rfl, rfl⟩

end Sys2Proof.Proofs
end

section
/-! The sweeps of the Sheepdog (O19). -/
namespace Sys2Proof.Machine
open Sys2Proof.Safety
open Host (Outcome)

/-! ### A sweep starts (R326, R328) -/

section
variable {s : State} (hmode : s.mode = .forward ∨ s.mode = .drain ∨ s.mode = .park)
  (hon : bits s.sheepCfg 1 0 ≠ 0)
include hmode hon

theorem execSheepdogSweep_of_start {ups : Upset} (hdue : s.sweepDue = true)
    (hidle : (s.upset ups).buf.running = false) :
    execSheepdogSweep ups s = .next ({ s.upset ups with buf := { (s.upset ups).buf with
      running := true, startAt := some s.now, prevAt := (s.upset ups).buf.sweepAt, sweepAt := s.now } }).audit :=
  congrArg Outcome.next ((if_pos ⟨hmode, hon, hdue⟩).trans (if_neg (by simp [hidle])))

theorem execSheepdogSweep_of_overrun {ups : Upset} (hdue : s.sweepDue = true)
    (hrun : (s.upset ups).buf.running = true) :
    execSheepdogSweep ups s = .next (({ s.upset ups with buf.startAt := some s.now }).raise 0x702 4 .ce
      (packItems [(8, satTo 255 ((s.now - (s.upset ups).buf.sweepAt) / 1000000))])) :=
  congrArg Outcome.next ((if_pos ⟨hmode, hon, hdue⟩).trans (if_pos hrun))

end

/-- The audit writes records of its repairs alone: the buffer is left with whole free lists. -/
theorem State.audit_buf (s : State) : s.audit.buf = { s.buf with onList := [], offList := [] } := by
  rw [State.audit, foldl_buf _ (by simp)]

theorem State.audit_of_no_upset {s : State} (hon : s.buf.onList = []) (hoff : s.buf.offList = []) : s.audit = s := by
  have hbuf : ({ s.buf with onList := s.buf.onList, offList := s.buf.offList } : BufSt) = s.buf := rfl
  rw [hon, hoff] at hbuf
  simp only [State.audit, hon, hoff, List.append_nil, List.foldl_nil, hbuf]

/-! ### A sweep ends (R326, R327) -/

/-- The records with this sweep's marks, as they stand before any leak is judged. -/
def State.marked (s : State) : SMap Ext :=
  s.buf.ext.map fun e => (e.1, { e.2 with mark := markBits e.2.mark (s.namedExts.contains e.1) })

/-- The state before any leak is judged: `s0` once every record is read, the sweep of `s` counted. -/
def State.swept (s s0 : State) : State :=
  { s0 with buf := { s0.buf with ext := s0.marked, running := false, sweeps := (s.buf.sweeps + 1) % 65536,
                                 lastMs := satTo 255 ((s.now - s.buf.sweepAt) / 1000000) } }

/-- A sweep that is on ends once every record is read: it marks, judges its leaks and works out the pauses. -/
theorem execSheepdogSweepEnd_of_on {s s0 : State} (hrun : s.buf.running = true)
    (hmode : s.mode = .forward ∨ s.mode = .drain ∨ s.mode = .park) (hon : bits s.sheepCfg 1 0 ≠ 0)
    (hs0 : s0 = s.buf.ext.foldl (fun t e => t.readRecord e.1) s) :
    execSheepdogSweepEnd s = .next ((s0.marked.filter fun e => (s.swept s0).buf.isLeak e.1 e.2).foldl
      (fun t e => t.judgeLeak e.1 e.2) (s.swept s0)).pfcUpdate := by
  subst hs0
  exact congrArg Outcome.next ((if_neg fun h => hon h.2).trans (if_pos ⟨hrun, hmode⟩))

theorem State.judge_of_no_leak {s : State} {ext : SMap Ext} (h : ∀ e ∈ ext, s.buf.isLeak e.1 e.2 = false) :
    (ext.filter fun e => s.buf.isLeak e.1 e.2).foldl (fun t e => t.judgeLeak e.1 e.2) s = s := by
  rw [List.filter_eq_nil_iff.2 fun e he => by simp [h e he], List.foldl_nil]

theorem execSheepdogSweepEnd_of_off {s : State} (hrun : s.buf.running = true) (hoff : bits s.sheepCfg 1 0 = 0) :
    execSheepdogSweepEnd s = .next { s with buf.running := false } :=
  congrArg Outcome.next (if_pos ⟨hrun, hoff⟩)

theorem State.judgeLeak_of_reclaim {s : State} (h : bits s.sheepCfg 1 0 = 2) (x : Nat) (e : Ext) :
    s.judgeLeak x e = ((s.freeExt x).bpmCount 11 1).follow 0x702 1 .ce
      (packItems [(32, x), (12, e.owner), (16, (s.ms16 + 65536 - e.allocMs) % 65536)]) false := if_pos h

theorem State.judgeLeak_buf_of_report {s : State} (h : bits s.sheepCfg 1 0 = 1) (x : Nat) (e : Ext) :
    (s.judgeLeak x e).buf = s.buf := by
  simp [State.judgeLeak, h]

end Sys2Proof.Machine

namespace Sys2Proof.Proofs
open Sys2Proof.Machine
open Host (Outcome)

/-- Settles O19: how a sweep starts and what its audit leaves, then how it ends and what becomes of a leak. -/
theorem sheepdogSweeps : Obligations.SheepdogSweeps := by
  unfold Obligations.SheepdogSweeps
  refine ⟨?_, ?_, ?_, ?_, ?_, ?_, ?_, ?_⟩
  · intro ups s hmode hon hidle hdue
    exact execSheepdogSweep_of_start hmode hon hdue hidle
  · intro s hon hoff
    exact State.audit_of_no_upset hon hoff
  · intro s
    rw [State.audit_buf]
    exact ⟨rfl, rfl⟩
  · intro ups s hmode hon hdue hrun
    exact execSheepdogSweep_of_overrun hmode hon hdue hrun
  · intro s s0 ext t hrun hmode hon hs0 hext ht hleak
    subst hext ht
    exact (execSheepdogSweepEnd_of_on hrun hmode hon hs0).trans
      (congrArg (fun u => Outcome.next (State.pfcUpdate u)) (State.judge_of_no_leak hleak))
  · intro s hrun hoff
    exact execSheepdogSweepEnd_of_off hrun hoff
  · intro s h e hreclaim
    exact State.judgeLeak_of_reclaim hreclaim h e
  · intro s h e hreport
    exact State.judgeLeak_buf_of_report hreport h e

end Sys2Proof.Proofs
end

section
/-! Packets take extents, are enqueued, wait too long, and are chosen (O45). -/
namespace Sys2Proof.Machine
open Sys2Proof.Safety
open Host (Outcome)

/-! ### Refreshes and resumes (R350, R362) -/

theorem execPfcRefresh_of_none {p : Port} {s : State} (h : bits (s.macCfg p) 15 14 = 0 ∨ s.xoffGroups p = []) :
    execPfcRefresh p s = .next s := by
  rcases h with hfc | hgroups
  · simp [execPfcRefresh, hfc]
  · simp [execPfcRefresh, hgroups]

/-- Under 802.3x flow control a refresh sends one pause of TIME, and the group's instant moves on. -/
theorem execPfcRefresh_of_pause {p : Port} {g : Nat} {s : State} (hfc : bits (s.macCfg p) 15 14 = 1)
    (hgroup : s.xoffGroups p = [g])
    (hdue : s.core.xoff.get 0 (p.val * 8 + g) + s.refreshPs p ≤ s.now * 1000 + 1) :
    execPfcRefresh p s = .next (({ s with
      core.xoff := s.core.xoff.put (p.val * 8 + g) (s.now * 1000 + 1) } : State).sendMac p
        (toBE 2 1 ++ toBE 2 s.pfcTime)) := by
  simp [execPfcRefresh, hfc, hgroup, hdue]

/-! ### The choice of the extent (R309, R310) -/

theorem execExtentChoice_of_idle {p : Port} {s : State} (h : s.bufLive = false ∨ s.needsExtent p = none) (pos : Nat)
    (lost : List Nat) : execExtentChoice p pos lost s = .next s := by
  rcases h with hfrozen | hnone
  · simp [execExtentChoice, hfrozen]
  · simp [execExtentChoice, hnone]

section
variable {p : Port} {pick : Draw} {k : Pkt} {s t : State} (hlive : s.bufLive = true) (hneeds : s.needsExtent p = some k)
include hlive hneeds

theorem execExtentChoice_of_noExtent (htake : s.take (pickLen k.bytes) k.tc7 (s.entityOf k) k.fate.queue k.owner pick
      k.bytes = (.noExtent, t)) : execExtentChoice p pick.pos pick.lost s = .next (t.dropPkt 4 pick k).pfcUpdate := by
  simp [execExtentChoice, hlive, hneeds, htake]

theorem execExtentChoice_of_bufLimit (htake : s.take (pickLen k.bytes) k.tc7 (s.entityOf k) k.fate.queue k.owner pick
      k.bytes = (.bufLimit, t)) : execExtentChoice p pick.pos pick.lost s = .next (t.dropPkt 5 pick k).pfcUpdate := by
  simp [execExtentChoice, hlive, hneeds, htake]

variable {h : Nat}
  (htake : s.take (pickLen k.bytes) k.tc7 (s.entityOf k) k.fate.queue k.owner pick k.bytes = (.got h, t))
include htake

/-- A packet without a fault, or whose end is not known yet, keeps the extent that it gets. -/
theorem execExtentChoice_of_kept (hgood : k.late = .none ∨ pickLen k.bytes = none) :
    execExtentChoice p pick.pos pick.lost s = .next (t.setPkt { k with h := some h }).pfcUpdate := by
  have hkeep : ((pickLen k.bytes).isSome && decide (k.late ≠ .none)) = false := by
    rcases hgood with hgood | hgood <;> simp [hgood]
  simp only [execExtentChoice, hlive, hneeds, htake, hkeep, Bool.not_true, Bool.false_eq_true, if_false]

/-- A packet that has ended with a fault is dropped with the extent that it gets (R342). -/
theorem execExtentChoice_of_fault (hlate : k.late ≠ .none) (hlen : pickLen k.bytes ≠ none) :
    execExtentChoice p pick.pos pick.lost s =
      .next ((t.setPkt { k with h := some h }).dropPkt 8 pick { k with h := some h }).pfcUpdate := by
  simp [execExtentChoice, hlive, hneeds, htake, hlate, Option.isSome_iff_ne_none.2 hlen]

end

/-! ### The enqueue (R336 to R342) -/

theorem execEnqueue_of_frozen {s : State} (h : s.bufLive = false) (p : Port) (inj : Bool) (rand : EcnDraw) (ups : Upset)
    (pick : Draw) : execEnqueue p inj rand ups pick s = .next (s.upset ups) := by
  simp [execEnqueue, h]

section
variable {p : Port} {inj : Bool} {ups : Upset} {pick : Draw} {s u : State} (hlive : s.bufLive = true)
  (hu : u = (s.upset ups).bringCopies pick) (rand : EcnDraw)
include hlive hu

theorem execEnqueue_of_none (hnone : u.nextEnqueue p inj = none) :
    execEnqueue p inj rand ups pick s = .next u.pfcUpdate := by
  subst hu
  simp [execEnqueue, hlive, hnone]

theorem execEnqueue_of_port {k : Pkt} {q : Nat} (hk : u.nextEnqueue p inj = some k) (hdest : k.fate.dest = some q) :
    execEnqueue p inj rand ups pick s =
      .next (u.enqueuePort k q rand.cls.toNat rand.chan.toNat pick).pfcUpdate := by
  subst hu
  simp [execEnqueue, hlive, hk, hdest]

theorem execEnqueue_of_host {k : Pkt} {q a m : Nat} (hk : u.nextEnqueue p inj = some k) (hdest : k.fate.dest = none)
    (htrap : k.fate.trap = some (q, a, m)) :
    execEnqueue p inj rand ups pick s = .next (u.enqueueHost k q a m pick).pfcUpdate := by
  subst hu
  simp [execEnqueue, hlive, hk, hdest, htrap]

end

theorem State.enqueueHost_of_arriving {k : Pkt} {s : State} (h : s.now < k.endsAt) (q a m : Nat) (pick : Draw) :
    s.enqueueHost k q a m pick = s := if_pos h

section
variable {k : Pkt} {s : State} (hended : k.endsAt ≤ s.now)
include hended

theorem State.enqueueHost_of_fault (hlate : k.late ≠ .none) (q a m : Nat) (pick : Draw) :
    s.enqueueHost k q a m pick = s.dropPkt 8 pick k := (if_neg (by omega)).trans (if_pos hlate)

theorem State.enqueuePort_of_fault (hlate : k.late ≠ .none) (q r1 r2 : Nat) (pick : Draw) :
    s.enqueuePort k q r1 r2 pick = s.dropPkt 8 pick k :=
  (if_neg (by simp [Nat.not_lt.2 hended])).trans (if_pos ⟨hended, hlate⟩)

/-- A whole packet without a copy for the host that the core refuses is dropped for the reason given. -/
theorem State.enqueuePort_of_refused {q r : Nat} (hgood : k.late = .none) (hcopy : k.fate.copy = none)
    (hrefused : s.enqueueRefusal (k.portDesc q) = some r) (r1 r2 : Nat) (pick : Draw) :
    s.enqueuePort k q r1 r2 pick = s.dropPkt r pick k := by
  rw [State.enqueuePort]
  dsimp only
  rw [if_neg (by simp [Nat.not_lt.2 hended]), if_neg (by simp [hgood]), hcopy]
  dsimp only
  rw [hrefused]

end

theorem State.enqueueRefusal_of_down {d : Desc} {s : State} (h : s.isUp d.port = false) :
    s.enqueueRefusal d = some 0x11 := by
  simp [State.enqueueRefusal, h]

theorem State.enqueueRefusal_of_unbound {d : Desc} {c : Nat} {s : State} (hup : s.isUp d.port = true)
    (hchan : d.chan = some c) (hbind : s.core.bind.get 0 c ≠ classKey d.port d.tc + 1) :
    s.enqueueRefusal d = some 0x12 := by
  simp [State.enqueueRefusal, hup, hchan, hbind]

/-! ### Frames that wait too long (R355, R417, R418) -/

theorem execRecircTimeout_of_idle {p : Port} {s : State} (h : s.bufLive = false ∨ s.isRecirc p = false)
    (pick : Draw) : execRecircTimeout p pick s = .next s :=
  congrArg Outcome.next (if_neg (by rcases h with h | h <;> simp [h]))

theorem execRecircTimeout_of_live {p : Port} {s : State} (hlive : s.bufLive = true) (hrecirc : s.isRecirc p = true)
    (pick : Draw) : execRecircTimeout p pick s =
      .next ((((List.range 8).flatMap fun tc => s.members (classKey p tc)).foldl (fun (t : State) k =>
        t.dropStale k (bits (s.rd 0x90000) 25 16 * 1000) 0x14 pick (t.queue k).length) s).pfcUpdate) :=
  congrArg Outcome.next (if_pos (by simp [hlive, hrecirc]))

theorem execTc7Stale_of_idle {p : Port} {s : State} (h : bits (s.rd (ptReg p 0x180)) 31 16 = 0 ∨ s.bufLive = false)
    (pick : Draw) : execTc7Stale p pick s = .next s :=
  congrArg Outcome.next (if_pos (h.imp_left fun h => by rw [h]))

theorem execTc7Stale_of_live {p : Port} {s : State} (hlive : s.bufLive = true)
    (hlimit : bits (s.rd (ptReg p 0x180)) 31 16 ≠ 0) (pick : Draw) : execTc7Stale p pick s =
      .next (((s.members (classKey p 7)).foldl (fun (t : State) k =>
        t.dropStale k (bits (s.rd (ptReg p 0x180)) 31 16 * 1000) 0x1B pick (t.queue k).length) s).pfcUpdate) :=
  congrArg Outcome.next (if_neg (by simp [hlive, hlimit]))

theorem State.headWaited_cons {k : Nat} {d : Desc} {rest : List Desc} {s : State} (h : s.queue k = d :: rest)
    (limit : Nat) : s.headWaited k limit = decide (limit < s.now - d.enqAt) := by
  rw [State.headWaited, h]

theorem State.dropHead_cons {k : Nat} {d : Desc} {rest : List Desc} {s : State} (h : s.queue k = d :: rest) (r : Nat)
    (pick : Draw) : s.dropHead k r pick = (s.leaveQueue k rest).dropDesc r pick d := by
  rw [State.dropHead, h]

/-- A head within its limit stays, and with it all behind it. -/
theorem State.dropStale_of_within {k limit : Nat} {s : State} (h : s.headWaited k limit = false) (r : Nat)
    (pick : Draw) : ∀ n, s.dropStale k limit r pick n = s
  | 0 => rfl
  | n + 1 => by rw [State.dropStale, h, if_neg Bool.false_ne_true]

theorem State.dropStale_of_waited {k limit : Nat} {d : Desc} {rest : List Desc} {s : State} (h : s.queue k = d :: rest)
    (hwaited : limit < s.now - d.enqAt) (r : Nat) (pick : Draw) (n : Nat) :
    s.dropStale k limit r pick (n + 1) = ((s.leaveQueue k rest).dropDesc r pick d).dropStale k limit r pick n := by
  rw [State.dropStale, State.headWaited_cons h, if_pos (by simpa using hwaited), State.dropHead_cons h]

theorem State.dropNever_cons {k : Nat} {d : Desc} {rest : List Desc} {s : State} (h : s.queue k = d :: rest)
    (pick : Draw) (n : Nat) : s.dropNever k pick (n + 1) =
      if s.neverSent d then ((s.leaveQueue k rest).dropDesc 0x1A pick d).dropNever k pick n else s := by
  rw [State.dropNever, h, State.dropHead_cons h]

/-! ### The scheduler's choice (R369, R417) -/

theorem execSchedulerChoice_of_frozen {s : State} (h : s.bufLive = false) (p : Port) (pick : Draw) :
    execSchedulerChoice p pick s = .next s := congrArg Outcome.next (if_pos (by simp [h]))

theorem execSchedulerChoice_of_live {p : Port} {pick : Draw} {s u : State} (h : s.bufLive = true)
    (hu : u = s.bringCopies pick) : execSchedulerChoice p pick s =
      .next ((((((List.range 8).flatMap fun tc => u.members (classKey p tc)).foldl
        (fun (t : State) k => (t.judgeKnown k pick).dropNever k pick (t.queue k).length) u).lineUpdate p).chooseNext
          p).pfcUpdate) := by
  subst hu
  exact congrArg Outcome.next (if_neg (by simp [h]))

section
variable {p : Nat} {s u : State} (hu : u = s.settleRefunds.endTurns p)
include hu

theorem State.chooseNext_of_not_canSend (h : u.canSend p = false) : s.chooseNext p = u := by
  subst hu
  exact if_neg (by simp [h])

theorem State.chooseNext_of_no_class (h : u.pickClass p = none) : s.chooseNext p = u := by
  subst hu
  simp [State.chooseNext, h]

/-- The class and the member that the rounds pick give the port's next frame. -/
theorem State.chooseNext_of_picked {tc k : Nat} {cd md : SMap Int} {d : Desc} {rest : List Desc}
    (hsend : u.canSend p = true) (hclass : u.pickClass p = some (tc, cd))
    (hmember : dwrrPick u.quantum (u.members (classKey p tc)) (fun k => u.headEligible p tc k)
      (u.sch.memTurn.get Turn.none (classKey p tc)) u.sch.memDef = some (k, md)) (hqueue : u.queue k = d :: rest) :
    s.chooseNext p = State.choose p tc k d rest { u with sch := { u.sch with classDef := cd, memDef := md } } := by
  subst hu
  simp [State.chooseNext, hsend, hclass, hmember, hqueue]

end

end Sys2Proof.Machine

namespace Sys2Proof.Proofs
open Sys2Proof.Machine

/-- Settles O45: the refreshes, the choice of the extent and the enqueue, then the waits and the scheduler's choice. -/
theorem packetsTakeExtentsAndQueue : Obligations.PacketsTakeExtentsAndQueue := by
  unfold Obligations.PacketsTakeExtentsAndQueue
  refine ⟨?_, ?_, ?_, ?_, ?_, ?_, ?_, ?_, ?_, ?_, ?_, ?_, ?_, ?_, ?_, ?_, ?_, ?_, ?_, ?_, ?_, ?_⟩
  · intro p s hnone
    exact execPfcRefresh_of_none hnone
  · intro p g s hfc hgroup hdue
    exact ⟨_, rfl, execPfcRefresh_of_pause hfc hgroup hdue⟩
  · intro p pick s hidle
    exact execExtentChoice_of_idle hidle _ _
  · intro p pick k r t s hlive hneeds htake
    refine ⟨?_, ?_, ?_, ?_⟩
    · intro hr
      exact execExtentChoice_of_noExtent hlive hneeds (hr ▸ htake)
    · intro hr
      exact execExtentChoice_of_bufLimit hlive hneeds (hr ▸ htake)
    · intro h hr hgood
      exact execExtentChoice_of_kept hlive hneeds (hr ▸ htake) hgood
    · intro h hr hlate hlen
      exact execExtentChoice_of_fault hlive hneeds (hr ▸ htake) hlate hlen
  · intro b
    rfl
  · intro p inj r1 r2 ups pick s hfrozen
    exact execEnqueue_of_frozen hfrozen p inj _ ups pick
  · intro p inj r1 r2 ups pick s u hlive hu
    refine ⟨?_, ?_, ?_⟩
    · intro hnone
      exact execEnqueue_of_none hlive hu _ hnone
    · intro k q hk hdest
      exact execEnqueue_of_port hlive hu ⟨r1, r2⟩ hk hdest
    · intro k q a m hk hdest htrap
      exact execEnqueue_of_host hlive hu _ hk hdest htrap
  · intro k q a m pick s
    exact ⟨fun harriving => State.enqueueHost_of_arriving harriving q a m pick,
      fun hended hlate => State.enqueueHost_of_fault hended hlate q a m pick⟩
  · intro k q r1 r2 pick s hended hlate
    exact State.enqueuePort_of_fault hended hlate q r1 r2 pick
  · intro k q r1 r2 pick s hended hgood hcopy hdown
    exact State.enqueuePort_of_refused hended hgood hcopy (State.enqueueRefusal_of_down hdown) r1 r2 pick
  · intro d c s hup hchan hbind
    exact State.enqueueRefusal_of_unbound hup hchan hbind
  · intro m s u hu
    subst hu
    rfl
  · intro p pick s hidle
    exact execRecircTimeout_of_idle hidle pick
  · intro p pick s hlive hrecirc
    exact execRecircTimeout_of_live hlive hrecirc pick
  · intro p pick s hidle
    exact execTc7Stale_of_idle hidle pick
  · intro p pick s hlive hlimit
    exact execTc7Stale_of_live hlive hlimit pick
  · intro k limit r pick n s hwithin
    exact State.dropStale_of_within hwithin r pick n
  · intro k limit r pick n d rest s hqueue hwaited
    exact State.dropStale_of_waited hqueue hwaited r pick n
  · intro k pick n d rest s hqueue
    exact State.dropNever_cons hqueue pick n
  · intro p pick s hfrozen
    exact execSchedulerChoice_of_frozen hfrozen p pick
  · intro p pick s u hlive hu
    exact execSchedulerChoice_of_live hlive hu
  · intro p s u hu
    exact ⟨State.chooseNext_of_not_canSend hu, State.chooseNext_of_no_class hu,
      fun tc cd md k d rest hsend hclass hmember hqueue => State.chooseNext_of_picked hu hsend hclass hmember hqueue⟩

end Sys2Proof.Proofs
end

section
/-! Queues are configured, shapers and policers filled, written and read, and depths sampled (O43). -/
namespace Sys2Proof.Machine
open Sys2Proof.Safety
open Host (Outcome)

/-! ### A map whose entries are all written anew -/

theorem SMap.get_foldl_set_of_above {α : Type} [DecidableEq α] {d : α} {f : α → α} {k : Nat} :
    ∀ {l : SMap α} (m : SMap α), l.above k = true → SMap.get d (l.foldl (fun m e => m.set d e.1 (f e.2)) m) k = m.get d k
  | [], _, _ => rfl
  | (i, x) :: r, m, habove => by
    simp only [SMap.above, Bool.and_eq_true, decide_eq_true_eq] at habove
    obtain ⟨hi, hr⟩ := habove
    rw [List.foldl_cons, SMap.get_foldl_set_of_above _ (SMap.above_mono hr hi.le), SMap.get_set_ne d m (f x) hi.ne]

/-- Writing every entry of a canonical map through a function: a listed key then reads as the function's value. -/
theorem SMap.get_foldl_set {α : Type} [DecidableEq α] {d : α} {f : α → α} {k : Nat} :
    ∀ {l : SMap α} (m : SMap α), l.wf (fun _ => d) = true → m.wf (fun _ => d) = true → l.get d k ≠ d →
      SMap.get d (l.foldl (fun m e => m.set d e.1 (f e.2)) m) k = f (l.get d k)
  | [], _, _, _, hlisted => absurd rfl hlisted
  | (i, x) :: r, m, hwf, hm, hlisted => by
    simp only [SMap.wf, Bool.and_eq_true] at hwf
    obtain ⟨⟨habove, -⟩, hr⟩ := hwf
    rw [List.foldl_cons]
    by_cases hk : k = i
    · subst hk
      rw [SMap.get_foldl_set_of_above _ habove, SMap.get_set_self hm, SMap.get, if_pos rfl]
    · rw [SMap.get, if_neg hk] at hlisted ⊢
      exact SMap.get_foldl_set _ hr (SMap.wf_set hm i _) hlisted

/-! ### QUEUE_CFG (R334, R335) -/

/-- The fields of QUEUE_CFG's layout. -/
def queueFields : List ArgField :=
  [whole 8 1, named 9 1 0xF, named 10 2 0x1FF, named 12 1 7, named 13 1 0xF, named 14 2 0x7FFF, named 16 4 0xFFFFFF]

section
variable {p : HostPort} {n : Fin 64} {c : Cmd} {s : State} (hruns : runs s p n 0x52 queueFields c = true)
include hruns

/-- A kind that is none, or a port that is not in use, is refused with detail 1. -/
theorem execQueueCfg_of_invalid (h : 1 < c.arg 8 1 ∨ s.inactive (c.arg 10 2) = true) :
    execQueueCfg p n s = .next (s.complete c .badArg 1 0).pfcUpdate := by
  refine congrArg (fun u => Outcome.next (State.pfcUpdate u)) (State.runCmd_done hruns rfl rfl (if_pos ?_))
  exact h.imp id .inl

variable (hport : s.inactive (c.arg 10 2) = false)
include hport

/-- A channel that holds frames is not bound: it is refused with detail 2. -/
theorem execQueueCfg_of_occupied (hkind : c.arg 8 1 = 1) (hbind : bit (c.arg 9 1) 0 = true)
    (hunbind : bit (c.arg 9 1) 1 = false) (hquantum : bit (c.arg 9 1) 3 = false)
    (hholds : s.queue (chanKey (c.arg 14 2)) ≠ []) :
    execQueueCfg p n s = .next (s.complete c .badArg 2 0).pfcUpdate := by
  refine congrArg (fun u => Outcome.next (State.pfcUpdate u)) (State.runCmd_done hruns rfl rfl ?_)
  simp [hkind, hport, hbind, hunbind, hquantum, hholds]

/-- With no option set nothing changes: the class queue's profile and depth are answered. -/
theorem execQueueCfg_of_no_option (hkind : c.arg 8 1 = 0) (hopts : c.arg 9 1 = 0) :
    execQueueCfg p n s = .next (s.complete c .ok (s.core.prof.get 0 (classKey (c.arg 10 2) (c.arg 12 1)))
      (s.ecnDepth (s.members (classKey (c.arg 10 2) (c.arg 12 1))))).pfcUpdate := by
  refine congrArg (fun u => Outcome.next (State.pfcUpdate u)) (State.runCmd_done hruns rfl rfl ?_)
  simp [hkind, hport, hopts, bit]

/-- SET_QUANTUM alone writes the class queue's quantum. -/
theorem execQueueCfg_of_set_quantum (hkind : c.arg 8 1 = 0) (hopts : c.arg 9 1 = 8) (hmin : 64 ≤ c.arg 16 4)
    (hmax : c.arg 16 4 ≤ 1048576) {t : State} (ht : t = { s with core := { s.core with
      quantum := s.core.quantum.set 2048 (classKey (c.arg 10 2) (c.arg 12 1)) (c.arg 16 4) } }) :
    execQueueCfg p n s = .next (t.complete c .ok (s.core.prof.get 0 (classKey (c.arg 10 2) (c.arg 12 1)))
      (t.ecnDepth (t.members (classKey (c.arg 10 2) (c.arg 12 1))))).pfcUpdate := by
  subst ht
  refine congrArg (fun u => Outcome.next (State.pfcUpdate u)) (State.runCmd_done hruns rfl rfl ?_)
  have hbits : bit 8 0 = false ∧ bit 8 1 = false ∧ bit 8 2 = false ∧ bit 8 3 = true := by decide
  simp [hkind, hport, hopts, hbits, Nat.not_lt.2 hmin, Nat.not_lt.2 hmax]

/-- BIND alone binds an empty channel to the class queue of its port. -/
theorem execQueueCfg_of_bind (hkind : c.arg 8 1 = 1) (hopts : c.arg 9 1 = 1)
    (hempty : s.queue (chanKey (c.arg 14 2)) = []) {t : State} (ht : t = { s with core := { s.core with
      bind := s.core.bind.set 0 (c.arg 14 2) (classKey (c.arg 10 2) (c.arg 12 1) + 1) } }) :
    execQueueCfg p n s = .next (t.complete c .ok (s.core.prof.get 0 (chanKey (c.arg 14 2)))
      (t.ecnDepth [chanKey (c.arg 14 2)])).pfcUpdate := by
  subst ht
  refine congrArg (fun u => Outcome.next (State.pfcUpdate u)) (State.runCmd_done hruns rfl rfl ?_)
  have hbits : bit 1 0 = true ∧ bit 1 1 = false ∧ bit 1 2 = false ∧ bit 1 3 = false := by decide
  simp [hkind, hport, hopts, hbits, hempty]

end

/-! ### Shapers (R375, R377 to R379) -/

theorem imin_eq_min (a b : Int) : imin a b = min a b := by
  rw [imin, min_def]
  split <;> split <;> omega

theorem Shaper.fill_tok_of_rate_zero {x : Shaper} (h : x.rate = 0) (now : Nat) :
    (x.fill now).tok = x.burst * 65536 := by
  simp [Shaper.fill, h]

theorem Shaper.fill_tok_of_rate {x : Shaper} (h : x.rate ≠ 0) (now : Nat) : (x.fill now).tok =
    min (x.burst * 65536 : Int) (x.tok + (x.rate * (now - x.at') * 8192 / 1000000 : Nat)) := by
  simp only [Shaper.fill, h, if_false, imin_eq_min]

theorem Shaper.fill_tok_le (x : Shaper) (now : Nat) : (x.fill now).tok ≤ x.burst * 65536 := by
  by_cases h : x.rate = 0
  · exact (Shaper.fill_tok_of_rate_zero h now).le
  · rw [Shaper.fill_tok_of_rate h]
    exact min_le_left _ _

/-- A bucket within its size loses nothing when it fills. -/
theorem Shaper.le_fill_tok {x : Shaper} (hsize : x.tok ≤ x.burst * 65536) (now : Nat) : x.tok ≤ (x.fill now).tok := by
  by_cases h : x.rate = 0
  · rwa [Shaper.fill_tok_of_rate_zero h]
  · rw [Shaper.fill_tok_of_rate h]
    exact le_min hsize (by omega)

/-- The update fills every shaper that is listed, and changes nothing else. -/
theorem execShaperTokenUpdate_fills {s u : State} (hu : u = s.settleRefunds) :
    ∃ t : State, execShaperTokenUpdate s = .next t ∧ t = { u with sch := { u.sch with shapers := t.sch.shapers } } ∧
      (u.sch.shapers.wf (fun _ => Shaper.zero) = true → ∀ k, u.shaper k ≠ Shaper.zero →
        t.shaper k = (u.shaper k).fill u.now) := by
  subst hu
  exact ⟨_, rfl, rfl, fun hwf k hlisted => SMap.get_foldl_set _ hwf hwf hlisted⟩

theorem State.tokensOf_of_named {c : Cmd} (h : c.arg 8 1 ≤ 2) (s : State) :
    s.tokensOf c = ((s.shaper (shaperKey c)).fill s.now).whole := if_neg (Nat.not_lt.2 h)

section
variable {p : HostPort} {n : Fin 64} {c : Cmd} {s u : State} (hu : u = s.settleRefunds)
  (hruns : runs u p n 0x51 (anyBits c) c = true)
include hu hruns

/-- A write with values in range stores the shaper and answers its whole tokens. -/
theorem execShaperWrite_of_good (hwrite : bit (c.arg 9 1) 0 = false) (hgood : shaperBad u c = false)
    (hrate : c.arg 16 4 = 0 ∨ (1000 ≤ c.arg 16 4 ∧ c.arg 16 4 ≤ 2000000000)) (hmin : 64 ≤ c.arg 20 4)
    (hmax : c.arg 20 4 ≤ 16777216) (haddr : c.arg 24 8 = 0) {x : Shaper}
    (hx : x = { rate := c.arg 16 4, burst := c.arg 20 4, at' := u.now,
                tok := if c.arg 16 4 = 0 ∨ bit (c.arg 9 1) 1 = true then (c.arg 20 4 * 65536 : Nat)
                  else imin (c.arg 20 4 * 65536) ((u.shaper (shaperKey c)).fill u.now).tok }) :
    execShaperWrite p n s = .next ((u.setShaper (shaperKey c) x).complete c .ok x.whole 0) := by
  subst hu hx
  refine congrArg Outcome.next (State.runCmd_done hruns (by simp [hwrite]) rfl (if_neg ?_))
  simp only [hgood, Bool.false_eq_true, false_or]
  omega

/-- A read writes the shaper as it stands to the host and changes no shaper. -/
theorem execShaperRead_of_good (hread : bit (c.arg 9 1) 0 = true) (hgood : shaperBad u c = false)
    (hrate : c.arg 16 4 = 0) (hburst : c.arg 20 4 = 0) (haddr : c.arg 24 8 % 16 = 0) {x : Shaper}
    (hx : x = (u.shaper (shaperKey c)).fill u.now) :
    execShaperRead p n s = .next ((u.hostData c (c.arg 24 8)
      (toLE 4 x.rate ++ toLE 4 x.burst ++ toLE 4 x.whole ++ toLE 4 0)).complete c .ok x.whole 0) := by
  subst hu hx
  exact congrArg Outcome.next (State.runCmd_done hruns hread rfl (if_neg (by simp [hgood, hrate, hburst, haddr])))

variable (hbad : shaperBad u c = true) (hnamed : c.arg 8 1 ≤ 2)
include hbad hnamed

theorem execShaperWrite_of_bad (hwrite : bit (c.arg 9 1) 0 = false) : execShaperWrite p n s =
    .next (u.complete c .badArg ((u.shaper (shaperKey c)).fill u.now).whole 0) := by
  subst hu
  rw [← State.tokensOf_of_named hnamed]
  exact congrArg Outcome.next (State.runCmd_done hruns (by simp [hwrite]) rfl (if_pos (.inl hbad)))

theorem execShaperRead_of_bad (hread : bit (c.arg 9 1) 0 = true) : execShaperRead p n s =
    .next (u.complete c .badArg ((u.shaper (shaperKey c)).fill u.now).whole 0) := by
  subst hu
  rw [← State.tokensOf_of_named hnamed]
  exact congrArg Outcome.next (State.runCmd_done hruns hread rfl (if_pos (.inl hbad)))

end

/-! ### Policers (R382, R384, R387) -/

theorem State.settlePolicers_of_none {s : State} (h : s.sch.owed = []) : s.settlePolicers = s := by
  simp only [State.settlePolicers, h, List.filter_nil, List.foldl_nil]
  rw [← h]

/-- With nothing to return every listed policer fills. -/
theorem execPolicerBucketFill_fills {s : State} (hnone : s.sch.owed = []) :
    ∃ t : State, execPolicerBucketFill s = .next t ∧ (s.sch.pol.wf (fun _ => Policer.zero) = true →
      ∀ sl i, s.policer sl i ≠ Policer.zero → t.policer sl i = (s.policer sl i).fill s.now) := by
  refine ⟨_, rfl, fun hwf sl i hlisted => ?_⟩
  rw [State.settlePolicers_of_none hnone]
  exact SMap.get_foldl_set _ hwf hwf hlisted

section
variable {p : HostPort} {n : Fin 64} {c : Cmd} {s : State} (hruns : runs s p n 0x50 (policerLayout c) c = true)
include hruns

/-- A write that is not refused stores the policer in every named slice. -/
theorem execPolicerWrite_of_runs (hwrite : bit (c.arg 13 1) 0 = false) :
    execPolicerWrite p n s = .next (if policerBad c then s.complete c .badArg 0 0
      else ((maskSlices (c.arg 8 2)).foldl (fun (t : State) sl =>
        t.setPolicer sl (c.arg 10 2) (policerAfter c s.now (t.policer sl (c.arg 10 2)))) s).complete c .ok 0 0) := by
  have hrow : (!bit (c.arg 13 1) 0) = true := by simp [hwrite]
  split
  next hbad => exact congrArg Outcome.next (State.runCmd_done hruns hrow rfl (if_pos hbad))
  next hgood => exact congrArg Outcome.next (State.runCmd_done hruns hrow rfl (if_neg hgood))

/-- A read of one slice writes its policer to the host. -/
theorem execPolicerRead_of_one {sl : Nat} (hread : bit (c.arg 13 1) 0 = true) (hslice : maskSlices (c.arg 8 2) = [sl])
    (hfill : bit (c.arg 13 1) 1 = false) (hmode : c.arg 12 1 = 0) (hcir : c.arg 16 4 = 0) (hcbs : c.arg 20 4 = 0)
    (hpir : c.arg 24 4 = 0) (hpbs : c.arg 28 4 = 0) (haddr : c.arg 32 8 % 32 = 0) {x : Policer}
    (hx : x = s.policer sl (c.arg 10 2)) :
    execPolicerRead p n s = .next ((s.hostData c (c.arg 32 8)
      ([BitVec.ofNat 8 x.mode] ++ toLE 3 0 ++ toLE 4 x.cir ++ toLE 4 x.cbs ++ toLE 4 x.pir ++ toLE 4 x.pbs
        ++ toLE 4 (x.tc / 65536) ++ toLE 4 (x.te / 65536) ++ toLE 4 0)).complete c .ok 0 0) := by
  subst hx
  refine congrArg Outcome.next (State.runCmd_done hruns hread rfl ?_)
  dsimp only
  rw [hslice]
  exact if_neg (by simp [hfill, hmode, hcir, hcbs, hpir, hpbs, haddr])

end

/-! ### Histograms (R389) -/

theorem execHistogramSample_of_idle {s : State}
    (h : bit (s.rd 0xA0004) 0 = false ∨ s.devNs % 1024 ≠ 0 ∨ (s.mode ≠ .forward ∧ s.mode ≠ .drain)) :
    execHistogramSample s = .next s := by
  refine congrArg Outcome.next (if_neg ?_)
  rcases h with hoff | hinstant | ⟨hforward, hdrain⟩
  · simp [hoff]
  · simp [hinstant]
  · simp [hforward, hdrain]

/-- Without the channels a sample takes every class queue with its members. -/
theorem execHistogramSample_of_classes {s : State} (hon : bit (s.rd 0xA0004) 0 = true)
    (hclasses : bit (s.rd 0xA0004) 1 = false) (hinstant : s.devNs % 1024 = 0) (hmode : s.mode = .forward) :
    execHistogramSample s =
      .next ((List.range 4096).foldl (fun (t : State) q => t.sampleQueue q (t.members q)) s) :=
  congrArg Outcome.next ((if_pos (by simp [hon, hinstant, hmode])).trans (if_neg (by simp [hclasses])))

end Sys2Proof.Machine

namespace Sys2Proof.Proofs
open Sys2Proof.Machine Sys2Proof.Safety

/-- Settles O43: QUEUE_CFG by its options, then the shapers, the policers and the histogram samples. -/
theorem queuesShapersAndPolicers : Obligations.QueuesShapersAndPolicers := by
  unfold Obligations.QueuesShapersAndPolicers
  refine ⟨?_, ?_, ?_, ?_, ?_, ?_, ?_, ?_, ?_, ?_, ?_⟩
  · intro p n c fs s hruns hfs
    subst hfs
    refine ⟨?_, ?_, ?_, ?_, ?_⟩
    · intro hinvalid
      exact execQueueCfg_of_invalid hruns hinvalid
    · intro hkind hport hbind hunbind hquantum hholds
      exact execQueueCfg_of_occupied hruns hport hkind hbind hunbind hquantum hholds
    · intro hkind hport hopts
      exact execQueueCfg_of_no_option hruns hport hkind hopts
    · intro hkind hport hopts hmin hmax
      exact ⟨_, rfl, execQueueCfg_of_set_quantum hruns hport hkind hopts hmin hmax rfl⟩
    · intro hkind hport hopts hempty
      exact ⟨_, rfl, execQueueCfg_of_bind hruns hport hkind hopts hempty rfl⟩
  · intro s u hu
    exact execShaperTokenUpdate_fills hu
  · intro now x
    exact ⟨fun hrate => Shaper.fill_tok_of_rate_zero hrate now, x.fill_tok_le now,
      fun hsize => Shaper.le_fill_tok hsize now⟩
  · intro p n c x s u hu hruns hwrite hgood hrate hmin hmax haddr hx
    exact execShaperWrite_of_good hu hruns hwrite hgood hrate hmin hmax haddr hx
  · intro p n c x s u hu hruns hread hgood hrate hburst haddr hx
    exact execShaperRead_of_good hu hruns hread hgood hrate hburst haddr hx
  · intro p n c s u hu hruns hbad hnamed
    split
    next hread => exact execShaperRead_of_bad hu hruns hbad hnamed hread
    next hwrite => exact execShaperWrite_of_bad hu hruns hbad hnamed (Bool.eq_false_iff.2 hwrite)
  · intro s hnone
    exact execPolicerBucketFill_fills hnone
  · intro p n c s hruns hwrite
    exact execPolicerWrite_of_runs hruns hwrite
  · intro p n c sl x s hruns hread hslice hfill hmode hcir hcbs hpir hpbs haddr hx
    exact execPolicerRead_of_one hruns hread hslice hfill hmode hcir hcbs hpir hpbs haddr hx
  · intro s hidle
    exact execHistogramSample_of_idle hidle
  · intro s hon hclasses hinstant hmode
    exact execHistogramSample_of_classes hon hclasses hinstant hmode

end Sys2Proof.Proofs
end

section
/-! Policers colour, schedulers choose, shapers and deficits are charged and turns end (O44). -/
namespace Sys2Proof.Machine

/-! ### A packet at a policer (R382) -/

section
variable {x : Policer}

theorem Policer.police_of_off (h : x.alg = 0) (inp l : Nat) : x.police inp l = (0, x) := by
  simp only [Policer.police, h]

/-- trTCM asks TE for every packet that is not red, and TC for one that is green. -/
theorem Policer.police_of_two_rate (h : x.alg = 2) (inp l : Nat) : x.police inp l =
    if inp = 2 ∨ x.te < l * 65536 then (2, x)
    else if inp = 1 ∨ x.tc < l * 65536 then (1, { x with te := x.te - l * 65536 })
    else (0, { x with te := x.te - l * 65536, tc := x.tc - l * 65536 }) := by
  simp only [Policer.police, h]

/-- The other algorithms that are on take from TC when the packet is green and it can, else from TE. -/
theorem Policer.police_of_cascade (hon : x.alg ≠ 0) (hcascade : x.alg ≠ 2) (inp l : Nat) : x.police inp l =
    if inp = 0 ∧ l * 65536 ≤ x.tc then (0, { x with tc := x.tc - l * 65536 })
    else if inp ≠ 2 ∧ l * 65536 ≤ x.te then (1, { x with te := x.te - l * 65536 })
    else (2, x) := by
  rw [Policer.police]
  split
  next hoff => exact absurd hoff hon
  next htwo => exact absurd htwo hcascade
  next => rfl

/-- A red packet stays red whatever the algorithm, and takes nothing. -/
theorem Policer.police_of_red (hon : x.alg ≠ 0) (l : Nat) : x.police 2 l = (2, x) := by
  by_cases htwo : x.alg = 2
  · rw [Policer.police_of_two_rate htwo, if_pos (.inl rfl)]
  · rw [Policer.police_of_cascade hon htwo, if_neg (by simp), if_neg (by simp)]

end

/-- A packet at a policer raises no bucket, leaves with one of the three colours and, where the policer is on, with
none better than it came with. -/
theorem Policer.police_bounds (inp l : Nat) (x : Policer) : (x.police inp l).2.tc ≤ x.tc ∧
    (x.police inp l).2.te ≤ x.te ∧ (x.police inp l).1 ≤ 2 ∧ (inp ≤ 2 → x.alg ≠ 0 → inp ≤ (x.police inp l).1) := by
  by_cases hoff : x.alg = 0
  · simp [Policer.police_of_off hoff, hoff]
  by_cases htwo : x.alg = 2
  · rw [Policer.police_of_two_rate htwo]
    split_ifs <;> dsimp only <;> omega
  · rw [Policer.police_of_cascade hoff htwo]
    split_ifs <;> dsimp only <;> omega

/-! ### The class that a port takes (R369, R372) -/

theorem mem_of_mem_after {x : Option Nat} {l : List Nat} {k : Nat} (h : k ∈ after x l) : k ∈ l := by
  cases x with
  | none => exact h
  | some y =>
    simp only [after, List.mem_append] at h
    rcases h with (hlater | hearlier) | hself
    · exact (List.dropWhile_sublist _).subset (List.mem_of_mem_drop hlater)
    · exact (List.takeWhile_sublist _).subset hearlier
    · split at hself
      next hy => rwa [List.mem_singleton.1 hself, ← List.contains_iff_mem]
      next => exact absurd hself List.not_mem_nil

/-- Going round a list gives the turn to one of its items. -/
theorem mem_of_dwrrTurn {quantum : Nat → Nat} {all : List Nat} {k : Nat} {m' : SMap Int} :
    ∀ {n : Nat} {l : List Nat} {m : SMap Int}, l ⊆ all → dwrrTurn quantum n all l m = some (k, m') → k ∈ all
  | 0, _, _, _, h => by simp [dwrrTurn] at h
  | n + 1, [], m, _, h => by
    cases all with
    | nil => simp [dwrrTurn] at h
    | cons y r => exact mem_of_dwrrTurn (List.Subset.refl _) h
  | n + 1, x :: r, m, hsub, h => by
    obtain ⟨hx, hr⟩ := List.cons_subset.1 hsub
    rw [dwrrTurn] at h
    split at h
    next =>
      obtain ⟨rfl, -⟩ := Prod.mk.inj (Option.some.inj h)
      exact hx
    next => exact mem_of_dwrrTurn hr h

theorem mem_of_dwrrTurn_filter {quantum : Nat → Nat} {elig : Nat → Bool} {n k : Nat} {l : List Nat} {m m' : SMap Int}
    (h : dwrrTurn quantum n (l.filter elig) (l.filter elig) m = some (k, m')) : k ∈ l ∧ elig k = true :=
  List.mem_filter.1 (mem_of_dwrrTurn (List.Subset.refl _) h)

/-- A round chooses one of its items, and one that is eligible. -/
theorem dwrrPick_mem_eligible {quantum : Nat → Nat} {items : List Nat} {elig : Nat → Bool} {turn : Turn}
    {m m' : SMap Int} {k : Nat} (h : dwrrPick quantum items elig turn m = some (k, m')) :
    k ∈ items ∧ elig k = true := by
  rw [dwrrPick] at h
  split at h
  next x _ =>
    split at h
    next hgoes =>
      obtain ⟨rfl, -⟩ := Prod.mk.inj (Option.some.inj h)
      simp only [Bool.and_eq_true, List.contains_iff_mem] at hgoes
      obtain ⟨⟨⟨-, hmem⟩, helig⟩, -⟩ := hgoes
      exact ⟨hmem, helig⟩
    next => exact (mem_of_dwrrTurn_filter h).imp_left mem_of_mem_after
  next => exact mem_of_dwrrTurn_filter h

section
variable {p : Nat} {s : State}

theorem State.pickClass_of_seven (h : s.classEligible p 7 = true) : s.pickClass p = some (7, s.sch.classDef) :=
  if_pos h

theorem State.pickClass_of_six (hseven : s.classEligible p 7 = false) (hsix : s.classEligible p 6 = true) :
    s.pickClass p = some (6, s.sch.classDef) :=
  (if_neg (by simp [hseven])).trans (if_pos hsix)

/-- The class taken is one of the port's eight, and it is eligible. -/
theorem State.pickClass_eligible {tc : Nat} {m : SMap Int} (h : s.pickClass p = some (tc, m)) :
    s.classEligible p tc = true ∧ tc ≤ 7 := by
  by_cases hseven : s.classEligible p 7 = true
  · rw [State.pickClass_of_seven hseven, Option.some.injEq, Prod.mk.injEq] at h
    exact h.1 ▸ ⟨hseven, le_rfl⟩
  by_cases hsix : s.classEligible p 6 = true
  · rw [State.pickClass_of_six (by simpa using hseven) hsix, Option.some.injEq, Prod.mk.injEq] at h
    exact h.1 ▸ ⟨hsix, by decide⟩
  · rw [State.pickClass, if_neg hseven, if_neg hsix] at h
    obtain ⟨⟨k, md⟩, hround, hk⟩ := Option.map_eq_some_iff.1 h
    obtain ⟨-, helig⟩ := dwrrPick_mem_eligible hround
    obtain ⟨rfl, -⟩ := Prod.mk.inj hk
    exact ⟨helig, by omega⟩

end

/-! ### The charge of a frame at a shaper (R368, R376) -/

section
variable {x : Shaper}

theorem Shaper.charge_of_rate_zero (h : x.rate = 0) (len : Nat) (floor : Bool) : x.charge len floor = x := if_pos h

theorem Shaper.passes_of_rate_zero (h : x.rate = 0) : x.passes = true := by
  simp [Shaper.passes, h]

variable (hrate : x.rate ≠ 0)
include hrate

theorem Shaper.passes_iff_of_rate : x.passes = true ↔ 0 ≤ x.tok := by
  simp [Shaper.passes, hrate]

theorem Shaper.charge_tok (len : Nat) : (x.charge len false).tok = x.tok - (len * 65536 : Nat) := by
  simp [Shaper.charge, hrate]

/-- With the floor a charge stops at −BURST, and one that begins below it lowers nothing. -/
theorem Shaper.charge_floor_tok (len : Nat) : (x.charge len true).tok =
    min x.tok (max (x.tok - (len * 65536 : Nat)) (-((x.burst * 65536 : Nat) : Int))) := by
  simp only [Shaper.charge, if_neg hrate, true_and]
  split_ifs <;> dsimp only <;> omega

end

/-! ### Turns and deficits (R372, R373) -/

/-- The turn that goes on is one that ran and whose holder is eligible. -/
theorem Turn.keep_runs_iff (x : Turn) (elig : Nat → Bool) :
    (x.keep elig).runs = true ↔ x.runs = true ∧ ∃ k, x.who = some k ∧ elig k = true := by
  rw [Turn.keep, Bool.and_eq_true]
  cases x.who <;> simp

theorem capDef_get_self {m : SMap Int} (h : m.wf (fun _ => 0) = true) (k : Nat) :
    (capDef true m k).get 0 k = imin 0 (m.get 0 k) := SMap.get_set_self h 0 k _

theorem capDef_get_ne (m : SMap Int) {j k : Nat} (h : j ≠ k) : (capDef true m k).get 0 j = m.get 0 j :=
  SMap.get_set_ne 0 m _ h

end Sys2Proof.Machine

namespace Sys2Proof.Proofs
open Sys2Proof.Machine

/-- Settles O44: a policer's colours by its algorithm, the class that a port takes, the shaper's charges, then the
turns and the deficits. -/
theorem coloursChoicesAndCharges : Obligations.ColoursChoicesAndCharges := by
  unfold Obligations.ColoursChoicesAndCharges
  refine ⟨?_, ?_, ?_, ?_, ?_, ?_, ?_, ?_, ?_, ?_, ?_, ?_, ?_⟩
  · intro l x htwo
    rw [Policer.police_of_two_rate htwo]
    refine ⟨?_, ?_, ?_⟩
    · intro hte
      exact if_pos (.inr hte)
    · intro hte htc
      rw [if_neg (by omega), if_pos (.inr htc)]
    · intro hte htc
      rw [if_neg (by omega), if_neg (by omega)]
  · intro l x hcascade
    rw [Policer.police_of_cascade (by omega) (by omega)]
    refine ⟨?_, ?_, ?_⟩
    · intro htc
      exact if_pos ⟨rfl, htc⟩
    · intro htc hte
      rw [if_neg (by omega), if_pos ⟨by decide, hte⟩]
    · intro htc hte
      rw [if_neg (by omega), if_neg (by omega)]
  · intro l x hon
    exact Policer.police_of_red hon l
  · intro inp l x hoff
    exact Policer.police_of_off hoff inp l
  · exact Policer.police_bounds
  · intro p s hseven
    exact State.pickClass_of_seven hseven
  · intro p s hseven hsix
    exact State.pickClass_of_six hseven hsix
  · intro p tc m s hpick
    exact State.pickClass_eligible hpick
  · intro x len fl hrate
    exact ⟨Shaper.passes_of_rate_zero hrate, Shaper.charge_of_rate_zero hrate len fl⟩
  · intro x len hrate
    exact ⟨Shaper.passes_iff_of_rate hrate, Shaper.charge_tok hrate len⟩
  · intro x len hrate
    rw [Shaper.charge_floor_tok hrate]
    exact ⟨min_le_left _ _, fun hfloor => le_min hfloor (le_max_right _ _)⟩
  · intro x elig
    exact ⟨rfl, Turn.keep_runs_iff x elig⟩
  · intro m k hwf
    exact ⟨capDef_get_self hwf k, fun j hj => capDef_get_ne m hj⟩

end Sys2Proof.Proofs
end

section
/-! A step takes the command at the front of the queue (O1), and has a next state whose queue is the rest (O49). -/
namespace Sys2Proof.Machine
open Host (Outcome)

theorem step_cons (c : Instr) (rest : List Instr) (s : State) :
    step { s with pending := c :: rest } = exec c { s with pending := rest } := rfl

/-- Each of the 240 meanings is a next state by its definition: none faults, and none is refused. -/
theorem exec_total (i : Instr) (s : State) : ∃ t, exec i s = .next t := by
  cases i <;> exact ⟨_, rfl⟩

/-- A nanosecond leaves the queue as it is. -/
theorem State.tick_pending (s : State) : s.tick.pending = s.pending := rfl

end Sys2Proof.Machine

namespace Sys2Proof.Safety
open Sys2Proof.Machine

/-- No row of the table names the queue. -/
theorem Part.pending_notMem_parts (i : Instr) : Part.pending ∉ parts i := by
  cases i <;> simp [parts]

theorem exec_pending {i : Instr} {s t : State} (h : exec i s = .next t) : t.pending = s.pending :=
  (exec_agree h).same_of_notMem_parts (Part.pending_notMem_parts i)

end Sys2Proof.Safety

namespace Sys2Proof.Proofs
open Sys2Proof.Machine Sys2Proof.Safety

/-- Settles O1: it is the step's second case. -/
theorem stepRunsTheFrontCommand : Obligations.StepRunsTheFrontCommand := by
  unfold Obligations.StepRunsTheFrontCommand
  exact step_cons

/-- Settles O49: a nanosecond on an empty queue, else the front command, whose row of the table does not name the
queue. -/
theorem everyStepTakesTheFrontCommand : Obligations.EveryStepTakesTheFrontCommand := by
  unfold Obligations.EveryStepTakesTheFrontCommand
  intro s
  cases hqueue : s.pending with
  | nil => exact ⟨s.tick, step_of_empty hqueue, s.tick_pending.trans hqueue⟩
  | cons c rest =>
    obtain ⟨t, hexec⟩ := exec_total c { s with pending := rest }
    have hstep : step s = .next t := by simpa only [step, hqueue] using hexec
    exact ⟨t, hstep, exec_pending hexec⟩

end Sys2Proof.Proofs
end

section
/-! Reports are counted, injections are armed and cancelled, and keel registers are voted (O26, O56). -/
namespace Sys2Proof.Machine
open Sys2Proof.Safety
open Host (Outcome)

/-! ### Reserved bits (R93) -/

/-- A byte none of whose bits the layout names is 0. -/
theorem Cmd.byteAt_of_reservedOk {c : Cmd} {fs : List ArgField} (h : c.reservedOk fs = true) {i : Nat} (hi : i < 64)
    (hfree : namedBits fs i = 0) : byteAt c.bytes i = 0 := by
  have hbyte : byteAt c.bytes i &&& 255 = 0 := by
    simpa [hfree] using List.all_eq_true.1 h i (List.mem_range.2 hi)
  have hlt : byteAt c.bytes i < 2 ^ 8 := BitVec.isLt _
  rwa [Nat.and_two_pow_sub_one_of_lt_two_pow (n := 8) hlt] at hbyte

theorem leNat_replicate_zero (n : Nat) : leNat (List.replicate n 0) = 0 := by
  induction n with
  | zero => rfl
  | succ n ih =>
    rw [List.replicate_succ, leNat, ih]
    rfl

/-- An argument whose bytes the layout does not name is 0. -/
theorem Cmd.arg_of_reservedOk {c : Cmd} {fs : List ArgField} (h : c.reservedOk fs = true) {o n : Nat} (hn : o + n ≤ 64)
    (hfree : ∀ k < n, namedBits fs (o + k) = 0) : c.arg o n = 0 := by
  have hcut : cut c.bytes o n = List.replicate n 0 := by
    refine List.eq_replicate_iff.2 ⟨by simp [cut], fun b hb => ?_⟩
    obtain ⟨k, hk, rfl⟩ := List.mem_map.1 hb
    have hkn := List.mem_range.1 hk
    exact BitVec.eq_of_toNat_eq (c.byteAt_of_reservedOk h (by omega) (hfree k hkn))
  rw [Cmd.arg, le, hcut, leNat_replicate_zero]

/-! ### FAULT_INJECT (R518 to R520) -/

/-- The layout under which CANCEL = 1 is judged: MODE, INDEX and COUNT are reserved. -/
def cancelFields : List ArgField := [named 8 2 0xFFF, whole 10 1, named 18 1 3]

/-- The injections that a cancel of a checker leaves armed. -/
def FaultSt.injLeft (f : FaultSt) (src ch : Nat) : List Inject :=
  f.inj.filter fun j => !(j.source = src ∧ j.checker = ch)

/-- With MODE, INDEX or COUNT not 0 a reserved bit of a cancel is set (R520). -/
theorem Cmd.cancel_not_reservedOk {c : Cmd} (h : bit (c.arg 11 1) 0 = true ∨ c.arg 12 4 ≠ 0 ∨ c.arg 16 2 ≠ 0) :
    c.reservedOk cancelFields = false := by
  by_contra hok
  have hok : c.reservedOk cancelFields = true := by simpa using hok
  have hmode : c.arg 11 1 = 0 := c.arg_of_reservedOk hok (by decide) (by decide)
  have hindex : c.arg 12 4 = 0 := c.arg_of_reservedOk hok (by decide) (by decide)
  have hcount : c.arg 16 2 = 0 := c.arg_of_reservedOk hok (by decide) (by decide)
  simp [hmode, hindex, hcount, bit] at h

section
variable {p : HostPort} {n : Fin 64} {c : Cmd} {s : State} (hruns : runs s p n 0x78 [whole 8 56] c = true)
include hruns

/-- A cancel disarms what is armed at the checker, or finds nothing (R520). -/
theorem execFaultInjectCancel_of_known (hcancel : bit (c.arg 18 1) 1 = true) (hok : c.reservedOk cancelFields = true)
    (hknown : s.injectIndex (c.arg 8 2) (c.arg 10 1) 0 ≠ none) {rest : List Inject}
    (hrest : rest = s.flt.injLeft (c.arg 8 2) (c.arg 10 1)) :
    execFaultInjectCancel p n s = .next (if rest.length < s.flt.inj.length then
      ({ s with flt := { s.flt with inj := rest } }).complete c .ok (s.flt.inj.length - rest.length) 0
      else s.complete c .notFound 0 0) := by
  have hsome : (s.injectIndex (c.arg 8 2) (c.arg 10 1) 0).isNone = false :=
    Option.isNone_eq_false_iff.2 (Option.isSome_iff_ne_none.2 hknown)
  unfold execFaultInjectCancel
  split_ifs with hfewer
  all_goals
    refine congrArg Outcome.next (State.runCmd_done hruns hcancel rfl ?_)
    simp only [cancelFields] at hok
    simp only [FaultSt.injLeft] at hrest
    subst hrest
    simp only [hok, hsome, Bool.not_true, Bool.or_self, Bool.false_eq_true, if_false]
  · rw [if_neg (by omega)]
  · rw [if_pos (by omega)]
    rfl

theorem execFaultInjectCancel_of_reserved (hcancel : bit (c.arg 18 1) 1 = true)
    (hbad : c.reservedOk cancelFields = false) : execFaultInjectCancel p n s = .next (s.complete c .badArg 1 0) := by
  refine congrArg Outcome.next (State.runCmd_done hruns hcancel rfl ?_)
  simp only [cancelFields] at hbad
  simp only [hbad, Bool.not_false, Bool.true_or, if_true]

/-- An injection whose arguments keep R519 takes the free slot. -/
theorem execFaultInject_of_accepted {k : Nat} (hcancel : bit (c.arg 18 1) 1 = false)
    (hok : c.reservedOk injectFields = true)
    (hindex : s.injectIndex (c.arg 8 2) (c.arg 10 1) (c.arg 12 4) = some true ∨
      (s.injectIndex (c.arg 8 2) (c.arg 10 1) (c.arg 12 4) = some false ∧ c.arg 12 4 = 0xFFFFFFFF))
    (hlo : 1 ≤ c.arg 16 2) (hhi : c.arg 16 2 ≤ 256)
    (hfatal : bit (c.arg 18 1) 0 = true ∨ s.injectFatal (c.arg 8 2) (c.arg 10 1) (bit (c.arg 11 1) 0) = false)
    (hparity : bit (c.arg 11 1) 0 = false ∨ isParity (c.arg 8 2) (c.arg 10 1) = false)
    (hslot : s.flt.freeSlot = some k) :
    execFaultInject p n s = .next (({ s with flt := { s.flt with inj := s.flt.inj ++
      [({ slot := k, source := c.arg 8 2, checker := c.arg 10 1, double := bit (c.arg 11 1) 0, index := c.arg 12 4,
          left := c.arg 16 2 } : Inject)] } }).complete c .ok k 0) := by
  refine congrArg Outcome.next (State.runCmd_done hruns (by simp [hcancel]) rfl ?_)
  obtain ⟨named, hnamed, hknown⟩ : ∃ named, s.injectIndex (c.arg 8 2) (c.arg 10 1) (c.arg 12 4) = some named ∧
      (named || decide (c.arg 12 4 = 0xFFFFFFFF)) = true := by
    obtain h | ⟨h, hall⟩ := hindex
    · exact ⟨true, h, rfl⟩
    · exact ⟨false, h, by simp [hall]⟩
  have hcount : decide (c.arg 16 2 = 0) = false := by simp; omega
  have hmany : decide (256 < c.arg 16 2) = false := by simp; omega
  have hsafe : (!bit (c.arg 18 1) 0 && s.injectFatal (c.arg 8 2) (c.arg 10 1) (bit (c.arg 11 1) 0)) = false := by
    obtain h | h := hfatal <;> simp [h]
  have hchecked : (bit (c.arg 11 1) 0 && isParity (c.arg 8 2) (c.arg 10 1)) = false := by
    obtain h | h := hparity <;> simp [h]
  simp only [hok, hnamed, hknown, hcount, hmany, hsafe, hchecked, hslot, Bool.not_true, Bool.or_self, Bool.false_eq_true, if_false]

end

/-! ### Reports (R506, R508) -/

/-- What a report counts while the collector is clocked: its source; and unless the collector is frozen, it becomes
pending where its source has none pending and is coalesced where it has one. -/
theorem State.raiseX_counts {s : State} (h : s.pins.resetN = true) (src code : Nat) (k : Cls) (d : Nat) (inj : Bool) :
    (s.raiseX src code k d inj).flt.srcCnt = s.flt.srcCnt.set 0 src (satInc 16 (s.flt.srcCnt.get 0 src)) ∧
    (s.raiseX src code k d inj).flt.pend = (if s.flt.frozen || s.flt.pend.any (fun r => r.src = src) then s.flt.pend
      else s.flt.pend ++ [({ src := src, code := code, cls := s.clsOf src k, injected := inj, number := 0,
                             time := s.devTime, seen := s.now, detail := d } : Rec)]) ∧
    (s.raiseX src code k d inj).flt.coalesced =
      (if !s.flt.frozen && s.flt.pend.any (fun r => r.src = src) then satInc 16 s.flt.coalesced
        else s.flt.coalesced) := by
  simp only [State.raiseX, h, Bool.not_true, Bool.false_eq_true, if_false]
  cases hfrozen : s.flt.frozen with
  | true => exact ⟨rfl, rfl, rfl⟩
  | false =>
    cases hpend : s.flt.pend.any (fun r => r.src = src) <;> cases s.flt.firstValid <;> exact ⟨rfl, rfl, rfl⟩

/-! ### Keel registers keep through reports -/

theorem State.raiseX_keel (src code : Nat) (k : Cls) (d : Nat) (inj : Bool) (s : State) (i : Nat) :
    (s.raiseX src code k d inj).keel i = s.keel i := by
  unfold State.raiseX
  dsimp only
  repeat' split
  all_goals rfl

theorem State.follow_keel (src code : Nat) (k : Cls) (d : Nat) (inj : Bool) (s : State) (i : Nat) :
    (s.follow src code k d inj).keel i = s.keel i := by
  unfold State.follow
  split
  · rfl
  · exact s.raiseX_keel src code k d inj i

/-- A later value of a keel register takes the place of an earlier one. -/
theorem State.setKeel_setKeel (i : Fin 5) (k k' : Keel) (s : State) : (s.setKeel i k').setKeel i k = s.setKeel i k := by
  fin_cases i <;> rfl

theorem State.setKeel_inj (i : Nat) (k : Keel) (s : State) : (s.setKeel i k).flt.inj = s.flt.inj := by
  unfold State.setKeel
  split <;> rfl

/-! ### Votes (R523 to R525) -/

/-- The copies whose check code is good, by number with their value. -/
def Keel.good (k : Keel) : List (Nat × Nat) := (k.copies.filter fun c => c.2.ok).map fun c => (c.1, c.2.val)

/-- A keel register after the upsets that a vote meets. -/
def Keel.upset (upsets : List (Fin 3 × Nat × Bool)) (k : Keel) : Keel :=
  upsets.foldl (fun k e => k.setCopy e.1.val { val := e.2.1, ok := e.2.2 }) k

/-- With no injection armed the checks of the copies meet none. -/
theorem State.keelInject_of_none {s : State} (h : s.flt.inj = []) (id : Nat) : s.keelInject id = ([], s) := by
  have hmiss (loc : Nat) : s.injected 0x200 0 loc = (none, s) := by simp [State.injected, h]
  simp [State.keelInject, keelHit, hmiss]

section
variable {i : Fin 5} {upsets : List (Fin 3 × Nat × Bool)} {s : State} {k : Keel} (hinj : s.flt.inj = [])
  (hupset : (s.keel i).upset upsets = k) (hbad : k.bad = none)
include hinj hupset hbad

/-- What a vote judges where no injection meets it and no copy is out of use: every copy, by its check code. -/
theorem keelVote_judged :
    upsets.foldl (fun k e => k.setCopy e.1.val { val := e.2.1, ok := e.2.2 }) (s.keel i) = k ∧
    (s.setKeel i k).keelInject i = ([], s.setKeel i k) ∧
    (k.copies.filter fun c => decide (some c.1 ≠ k.bad)) = k.copies ∧ k.copies.map Prod.fst = [0, 1, 2] ∧
    (k.copies.filter fun c => c.2.ok && !([] : List Nat).contains c.1) = k.copies.filter fun c => c.2.ok := by
  refine ⟨hupset, State.keelInject_of_none ((s.setKeel_inj i k).trans hinj) i, ?_, rfl, ?_⟩
  · simp [hbad, Keel.copies]
  · simp

/-- Good copies that agree give their value, and a stuck state ends (R523, R524). -/
theorem execKeelVote_of_agreed {v : Nat} (hvote : Keel.vote k.voted k.good [0, 1, 2] = some (v, [])) :
    execKeelVote i upsets s = .next (s.setKeel i { k with voted := v, stuck := false }) := by
  obtain ⟨hk, hinject, hused, hall, hgood⟩ := keelVote_judged hinj hupset hbad
  rw [Keel.good] at hvote
  simp only [execKeelVote, hk, hinject, hused, hall, hgood, hvote, State.setKeel_setKeel]

/-- The copies that lose are repaired (R523). -/
theorem execKeelVote_of_repair {v j : Nat} {fix : List Nat}
    (hvote : Keel.vote k.voted k.good [0, 1, 2] = some (v, j :: fix)) :
    execKeelVote i upsets s = .next ((s.setKeel i k).keelRepair i v (j :: fix) false) := by
  obtain ⟨hk, hinject, hused, hall, hgood⟩ := keelVote_judged hinj hupset hbad
  have hnohit : (j :: fix).any (List.contains []) = false := by simp
  rw [Keel.good] at hvote
  simp only [execKeelVote, hk, hinject, hused, hall, hgood, hvote, hnohit]

/-- Copies of which no two agree leave the register stuck at the value last voted (R523). -/
theorem execKeelVote_of_disagreed (hvote : Keel.vote k.voted k.good [0, 1, 2] = none) :
    ∃ t, execKeelVote i upsets s = .next t ∧ t.keel i = { k with stuck := true } := by
  obtain ⟨hk, hinject, hused, hall, hgood⟩ := keelVote_judged hinj hupset hbad
  rw [Keel.good] at hvote
  refine ⟨_, rfl, ?_⟩
  simp only [hk, hinject, hused, hall, hgood, hvote, State.setKeel_setKeel]
  split
  · exact keel_setKeel i _ s
  · rw [State.raiseX_keel, keel_setKeel]

end

/-- A repair writes the winner's value into the copies named, and the register is not stuck after it (R523). -/
theorem State.keelRepair_keel (i : Fin 5) (v : Nat) (fix : List Nat) (inj : Bool) (s : State) :
    let k := fix.foldl (fun k j => k.setCopy j { val := v, ok := true }) (s.keel i)
    let x := (s.keelRepair i v fix inj).keel i
    x.c0 = k.c0 ∧ x.c1 = k.c1 ∧ x.c2 = k.c2 ∧ x.voted = v ∧ x.stuck = false := by
  have hwritten (k : Keel) (count : Nat) : ({ s.setKeel i k with flt.keelFix := count } : State).keel i = k :=
    keel_setKeel i k s
  unfold State.keelRepair
  dsimp only
  repeat' split
  all_goals simp only [State.follow_keel, State.raiseX_keel, hwritten, and_self]

/-- A register all of whose copies hold a value with a good check code. -/
def Keel.holds (k : Keel) (v : Nat) : Prop :=
  k.c0 = { val := v, ok := true } ∧ k.c1 = { val := v, ok := true } ∧ k.c2 = { val := v, ok := true }

theorem Keel.good_of_holds {k : Keel} {v : Nat} (h : k.holds v) : k.good = [(0, v), (1, v), (2, v)] := by
  obtain ⟨h0, h1, h2⟩ := h
  simp [Keel.good, Keel.copies, h0, h1, h2]

/-- The copy that differs, or whose check code fails, loses against the two that agree (R523). -/
theorem Keel.vote_of_one_upset {k : Keel} {v w : Nat} {ok : Bool} (h : k.holds v) (hodd : w ≠ v ∨ ok = false)
    (j : Fin 3) (voted : Nat) :
    Keel.vote voted (k.setCopy j { val := w, ok := ok }).good [0, 1, 2] = some (v, [j.val]) := by
  obtain ⟨h0, h1, h2⟩ := h
  cases ok with
  | false => fin_cases j <;> simp [Keel.good, Keel.copies, Keel.setCopy, Keel.vote, h0, h1, h2]
  | true =>
    have hw : w ≠ v := by simpa using hodd
    fin_cases j <;> simp [Keel.good, Keel.copies, Keel.setCopy, Keel.vote, h0, h1, h2, hw, hw.symm]

/-- A copy repaired after it alone was upset is as before. -/
theorem Keel.holds_of_repaired {k : Keel} {v : Nat} (h : k.holds v) (c : KeelCopy) (j : Fin 3) :
    ((k.setCopy j c).setCopy j { val := v, ok := true }).holds v := by
  obtain ⟨h0, h1, h2⟩ := h
  fin_cases j <;> simp [Keel.holds, Keel.setCopy, h0, h1, h2]

theorem Keel.setCopy_bad (j : Nat) (c : KeelCopy) (k : Keel) : (k.setCopy j c).bad = k.bad := by
  unfold Keel.setCopy
  split <;> rfl

end Sys2Proof.Machine

namespace Sys2Proof.Proofs
open Sys2Proof.Machine Sys2Proof.Safety

/-- Settles O56: a cancel that names a known checker, by its reserved bits and by what is armed there. -/
theorem injectionsAreCancelled : Obligations.InjectionsAreCancelled := by
  unfold Obligations.InjectionsAreCancelled
  intro p n c s hruns hcancel hknown
  refine ⟨fun rest hok hrest => ?_, fun hnonzero => ?_⟩
  · exact execFaultInjectCancel_of_known hruns hcancel hok hknown hrest
  · exact execFaultInjectCancel_of_reserved hruns hcancel (c.cancel_not_reservedOk hnonzero)

/-- Settles O26: what a report counts, the injections armed and cancelled, then the votes by what the copies hold. -/
theorem injectionsAndKeelVotes : Obligations.InjectionsAndKeelVotes := by
  unfold Obligations.InjectionsAndKeelVotes
  refine ⟨?_, ?_, ?_, ?_, ?_, ?_⟩
  · intro s src code k d inj hresetN
    exact State.raiseX_counts hresetN src code k d inj
  · intro p n c k s hruns hcancel hok hindex hlo hhi hfatal hparity hslot
    exact execFaultInject_of_accepted hruns hcancel hok hindex hlo hhi hfatal hparity hslot
  · intro p n c s rest hruns hcancel hok hknown hrest hfewer
    exact (execFaultInjectCancel_of_known hruns hcancel hok hknown hrest).trans (by rw [if_pos hfewer])
  · intro i v s hinj hbad h0 h1 h2
    have hgood := Keel.good_of_holds (k := s.keel i) ⟨h0, h1, h2⟩
    exact execKeelVote_of_agreed (upsets := []) (k := s.keel i) hinj rfl hbad (by simp [hgood, Keel.vote])
  · intro i j v w ok s hinj hbad h0 h1 h2 hodd
    have hholds : (s.keel i).holds v := ⟨h0, h1, h2⟩
    have hvote := Keel.vote_of_one_upset hholds hodd j ((s.keel i).setCopy j { val := w, ok := ok }).voted
    have hexec := execKeelVote_of_repair (upsets := [(j, w, ok)]) hinj rfl ((Keel.setCopy_bad _ _ _).trans hbad) hvote
    obtain ⟨e0, e1, e2, evoted, estuck⟩ := State.keelRepair_keel i v [j.val] false
      (s.setKeel i ((s.keel i).upset [(j, w, ok)]))
    obtain ⟨g0, g1, g2⟩ := Keel.holds_of_repaired hholds { val := w, ok := ok } j
    rw [keel_setKeel] at e0 e1 e2
    exact ⟨_, hexec, e0.trans g0, e1.trans g1, e2.trans g2, evoted, estuck⟩
  · intro i a b c s hinj hbad hab hac hbc
    have hvote (voted : Nat) : Keel.vote voted [(0, a), (1, b), (2, c)] [0, 1, 2] = none := by
      simp [Keel.vote, hab, hac, hbc]
    obtain ⟨t, hexec, hkeel⟩ := execKeelVote_of_disagreed (i := i) (s := s)
      (upsets := [(0, a, true), (1, b, true), (2, c, true)]) hinj rfl hbad (hvote _)
    exact ⟨t, hexec, by rw [hkeel], by rw [hkeel]; rfl⟩

end Sys2Proof.Proofs
end

section
/-! Calendars are loaded, swapped at their instant, shown and enabled (O14). -/
namespace Sys2Proof.Machine
open Sys2Proof.Safety
open Host (Outcome)

/-! ### A calendar after a write -/

/-- A calendar other than the one after reset is the one read next. -/
theorem State.cal_setCal {c : Cal} (h : c ≠ Cal.zero) (p : Nat) (s : State) : (s.setCal p c).cal p = c :=
  SMap.get_set_of_ne h _ p

theorem State.cal_setCal_ne {p q : Nat} (h : q ≠ p) (c : Cal) (s : State) : (s.setCal p c).cal q = s.cal q :=
  SMap.get_set_ne Cal.zero _ c h

theorem State.cal_of_time {s t : State} (h : t.time = s.time) (p : Nat) : t.cal p = s.cal p := by
  rw [State.cal, h, State.cal]

theorem State.completeSer_time (k : Nat) (st : Status) (r0 r1 : Nat) (s : State) :
    (s.completeSer k st r0 r1).time = s.time := by simp

theorem Cal.ne_zero_of_pending {c : Cal} (h : c.pending = true) : c ≠ Cal.zero := by
  rintro rfl
  cases h

theorem Cal.ne_zero_of_act {c : Cal} (h : c.act ≠ none) : c ≠ Cal.zero := by
  rintro rfl
  exact h rfl

theorem Cal.ne_zero_of_en {c : Cal} (h : c.en = true) : c ≠ Cal.zero := by
  rintro rfl
  cases h

/-- A value other than the default is listed. -/
theorem SMap.mem_of_get_ne {α : Type} {d : α} {k : Nat} : ∀ {m : SMap α}, m.get d k ≠ d → (k, m.get d k) ∈ m
  | [], h => absurd rfl h
  | (j, v) :: r, h => by
    rw [SMap.get] at h ⊢
    split_ifs at h ⊢ with hjk
    · exact List.mem_cons.2 (.inl (by rw [hjk]))
    · exact List.mem_cons_of_mem _ (SMap.mem_of_get_ne h)

/-! ### CAL_LOAD (R412, R413) -/

/-- A field of ones shows ones in each of its bytes. -/
theorem ones_shiftRight_mod {n k m : Nat} (h : k + m ≤ n) : ((2 ^ n - 1) >>> k) % 2 ^ m = 2 ^ m - 1 := by
  refine Nat.eq_of_testBit_eq fun i => ?_
  simp only [Nat.testBit_mod_two_pow, Nat.testBit_shiftRight, Nat.testBit_two_pow_sub_one]
  by_cases hi : i < m
  · simp [hi, show k + i < n by omega]
  · simp [hi]

theorem namedBits_whole {i size : Nat} (h : i < size) : namedBits [whole 0 size] i = namedBits [] i ||| 255 := by
  have hones : ((2 ^ (8 * size) - 1) >>> (8 * i)) % 2 ^ 8 = 2 ^ 8 - 1 := ones_shiftRight_mod (by omega)
  exact (if_pos ⟨Nat.zero_le i, by simpa [whole] using h⟩).trans (congrArg (namedBits [] i ||| ·) hones)

/-- A layout that names every bit has no reserved one. -/
theorem Cmd.reservedOk_anyBits (c : Cmd) : c.reservedOk (anyBits c) = true := by
  refine List.all_eq_true.2 fun i hi => decide_eq_true ?_
  rw [anyBits, namedBits_whole (List.mem_range.1 hi), Nat.sub_eq_zero_of_le Nat.right_le_or, Nat.and_zero]

/-- A command may run under the layout that leaves its reserved bits to it. -/
theorem runs_anyBits {s : State} {p : HostPort} {n op : Nat} {fs : List ArgField} {c : Cmd}
    (h : runs s p n op fs c = true) : runs s p n op (anyBits c) c = true ∧ c.reservedOk fs = true := by
  simp only [runs, Bool.and_eq_true] at h ⊢
  exact ⟨⟨h.1, c.reservedOk_anyBits⟩, h.2⟩

/-- The frets of an image are the entries that it lists, each well formed and as long as R410 wants it. -/
def fretsOk (data : List Byte) (count : Nat) : Prop :=
  ∀ i < count, fretReservedOk data i = true ∧ 20 ≤ (readFret data i).dur ∧ (readFret data i).dur ≤ 1000000000

/-- A load that keeps R412 and R413 writes the bank that is not active. -/
theorem execCalLoad_of_accepted {p : HostPort} {n : Fin 64} {data : List Byte} {c : Cmd} {s : State}
    (hruns : runs s p n 0x48 calLoadLayout c = true) (hport : s.inactive (c.arg 8 2) = false) (hlo : 1 ≤ c.arg 10 2)
    (hhi : c.arg 10 2 ≤ 1024) (hcyclelo : 1000 ≤ c.arg 16 4) (hcyclehi : c.arg 16 4 ≤ 1000000000)
    (haddr : c.arg 24 8 % 64 = 0) (hfrets : fretsOk data (c.arg 10 2))
    (hsum : (((List.range (c.arg 10 2)).map (readFret data)).map Fret.dur).sum = c.arg 16 4)
    (hcapo : c.arg 12 4 < c.arg 16 4) (hpending : (s.cal (c.arg 8 2)).pending = false) :
    execCalLoad p n data s = .next ((s.setCal (c.arg 8 2) ((s.cal (c.arg 8 2)).setBank (s.cal (c.arg 8 2)).idle
      { frets := (List.range (c.arg 10 2)).map (readFret data), cycle := c.arg 16 4, capo := c.arg 12 4,
        tag := c.arg 20 4 })).complete c .ok (s.cal (c.arg 8 2)).idle (c.arg 10 2)) := by
  obtain ⟨hany, hreserved⟩ := runs_anyBits hruns
  have hfields : ¬(c.reservedOk calLoadLayout = false ∨ s.inactive (c.arg 8 2) = true ∨ c.arg 10 2 = 0 ∨
      1024 < c.arg 10 2 ∨ c.arg 16 4 < 1000 ∨ nsPerSec < c.arg 16 4 ∨ c.arg 24 8 % 64 ≠ 0) := by
    simp [hreserved, hport, haddr, nsPerSec]
    omega
  have hbits : (List.range (c.arg 10 2)).all (fretReservedOk data) = true :=
    List.all_eq_true.2 fun i hi => (hfrets i (List.mem_range.1 hi)).1
  have hdur (f : Fret) (hf : f ∈ (List.range (c.arg 10 2)).map (readFret data)) : 20 ≤ f.dur ∧ f.dur ≤ 1000000000 := by
    obtain ⟨i, hi, rfl⟩ := List.mem_map.1 hf
    exact (hfrets i (List.mem_range.1 hi)).2
  have hlong : (((List.range (c.arg 10 2)).map (readFret data)).any fun f => decide (nsPerSec < f.dur)) = false :=
    List.any_eq_false.2 fun f hf h => absurd (hdur f hf).2 (not_le.2 (of_decide_eq_true h))
  have hshort : (((List.range (c.arg 10 2)).map (readFret data)).any fun f => decide (f.dur < 20)) = false :=
    List.any_eq_false.2 fun f hf => by simpa using (hdur f hf).1
  refine congrArg Outcome.next (State.runCmd_done hany rfl rfl ?_)
  simp only [if_neg hfields, hbits, hlong, hshort, hsum, hpending, if_neg (show ¬c.arg 16 4 ≤ c.arg 12 4 by omega),
    Bool.not_true, Bool.or_self, ne_eq, not_true_eq_false, decide_false, Bool.false_eq_true, if_false]

/-! ### CAL_SWAP (R414, R415) -/

/-- A swap of one port that is ready, from the fetch on, is accepted. -/
theorem State.swapBad_of_ready {c : Cmd} {s : State} (hscope : c.arg 10 1 = 0) (hnow : swapTimed c = false)
    (hport : s.inactive (c.arg 8 2) = false) (hready : (s.cal (c.arg 8 2)).ready = true)
    (hpending : s.swapPending 0 (c.arg 8 2) = false) : s.swapBad c = none := by
  simp [State.swapBad, hscope, hnow, hport, hready, hpending]

/-- A calendar whose swap waits for an instant. -/
def Cal.awaits (ref : Nat) (c : Cal) : Cal := { c with pending := true, swapAt := some (c.swapInstant ref) }

/-- The swap of one port becomes pending, for the first cycle start at or after the fetch. -/
theorem execCalSwap_of_ready {p : HostPort} {n : Fin 64} {c : Cmd} {s : State}
    (hruns : runs s p n 0x49 [named 8 2 0x1FF, whole 10 1, named 11 1 1] c = true) (hscope : c.arg 10 1 = 0)
    (hnow : c.arg 11 1 = 0) (hport : s.inactive (c.arg 8 2) = false) (hready : (s.cal (c.arg 8 2)).ready = true)
    (hports : s.swapPorts 0 (c.arg 8 2) = [c.arg 8 2]) (hpending : s.swapPending 0 (c.arg 8 2) = false) :
    ∃ t, execCalSwap p n s = .next t ∧ t.cal (c.arg 8 2) = (s.cal (c.arg 8 2)).awaits (ceilNs c.fetched) ∧
      t.time.calSwaps = s.time.calSwaps ++
        [{ cmd := c.serial, ref := c.fetched, scope := [c.arg 8 2], left := [c.arg 8 2], done := 0, lastAt := 0 }] := by
  have htimed : swapTimed c = false := by simp [swapTimed, hnow, bit]
  have hlayout : swapLayout c = [named 8 2 0x1FF, whole 10 1, named 11 1 1] := by simp [swapLayout, htimed]
  have hbad := State.swapBad_of_ready hscope htimed hport hready hpending
  let k : Cal := { s.cal (c.arg 8 2) with pending := true }
  let swap : CalSwap :=
    { cmd := c.serial, ref := c.fetched, scope := [c.arg 8 2], left := [c.arg 8 2], done := 0, lastAt := 0 }
  let u : State := (s.setCal (c.arg 8 2) k).setCal (c.arg 8 2) ((s.cal (c.arg 8 2)).awaits (ceilNs c.fetched))
  have hmark : (s.setCal (c.arg 8 2) k).cal (c.arg 8 2) = k := State.cal_setCal (Cal.ne_zero_of_pending rfl) _ s
  refine ⟨({ u with time.calSwaps := s.time.calSwaps ++ [swap] } : State).wait c,
    congrArg Outcome.next (State.runCmd_wait hruns rfl hlayout ?_), ?_, rfl⟩
  · simp only [hbad, hscope, hports, scopePorts, swapRef, htimed, List.isEmpty_cons, List.foldl_cons, List.foldl_nil,
      hmark, k, Bool.false_eq_true, if_false, if_true]
    rfl
  · exact State.cal_setCal (Cal.ne_zero_of_pending rfl) _ _

/-! ### The swap's instant (R414) -/

/-- The pending swaps of some ports end. -/
def State.endPending (ports : List Nat) (s : State) : State :=
  ports.foldl (fun t q => t.setCal q { t.cal q with pending := false }) s

/-- The end of the pending swaps changes nothing of an active calendar but PENDING. -/
theorem State.endPending_cal {p : Nat} : ∀ (ports : List Nat) {s : State}, (s.cal p).act ≠ none →
    ∃ b, (s.endPending ports).cal p = { s.cal p with pending := b }
  | [], s, _ => ⟨(s.cal p).pending, rfl⟩
  | q :: ports, s, hact => by
    have hstep : ∃ b, (s.setCal q { s.cal q with pending := false }).cal p = { s.cal p with pending := b } := by
      by_cases hq : p = q
      · subst hq
        exact ⟨false, State.cal_setCal (Cal.ne_zero_of_act (by exact hact)) _ _⟩
      · exact ⟨(s.cal p).pending, State.cal_setCal_ne hq _ _⟩
    obtain ⟨b, hb⟩ := hstep
    obtain ⟨b', hb'⟩ := State.endPending_cal ports (s := s.setCal q { s.cal q with pending := false })
      (p := p) (by rw [hb]; exact hact)
    exact ⟨b', hb'.trans (by rw [hb])⟩

/-- Showing the fret in force of an active calendar changes nothing else of it. -/
theorem State.refreshFret_cal {p : Nat} {s : State} (hact : (s.cal p).act ≠ none) :
    ∃ i, (s.refreshFret p).cal p = { s.cal p with fret := i } := by
  unfold State.refreshFret
  dsimp only
  split
  · exact ⟨_, State.cal_setCal (Cal.ne_zero_of_act (by exact hact)) _ _⟩
  · exact ⟨(s.cal p).fret, rfl⟩

/-- At its instant the bank that was not active is, and the swap is counted and no longer waits. -/
theorem State.takeCalSwap_cal (p : Nat) (s : State) : ∃ b i, (s.takeCalSwap p).cal p =
    { s.cal p with act := some (s.cal p).idle, swapAt := none, swaps := satInc 16 (s.cal p).swaps, pending := b,
                   fret := i } := by
  let c : Cal := { s.cal p with act := some (s.cal p).idle, swapAt := none, swaps := satInc 16 (s.cal p).swaps }
  have hactive : c.act ≠ none := Option.some_ne_none _
  have hset : (s.setCal p c).cal p = c := State.cal_setCal (Cal.ne_zero_of_act hactive) p s
  obtain ⟨i, hi⟩ := State.refreshFret_cal (s := s.setCal p c) (p := p) (by rw [hset]; exact hactive)
  rw [hset] at hi
  unfold State.takeCalSwap
  dsimp only
  split
  · exact ⟨_, i, hi⟩
  · split
    · rename_i w _ _
      obtain ⟨b, hb⟩ := State.endPending_cal (p := p) w.scope (s := { (s.setCal p c).refreshFret p with
        time.calSwaps := ((s.setCal p c).refreshFret p).time.calSwaps.filter fun x => x.cmd ≠ w.cmd })
        (by exact hi ▸ hactive)
      exact ⟨b, i, (State.cal_of_time (State.completeSer_time _ _ _ _ _) p).trans (hb.trans (by exact hi ▸ rfl))⟩
    · exact ⟨_, i, hi⟩

/-! ### The fret in force (R410, R411) -/

theorem State.refreshFret_of_fretNow {p i e : Nat} {f : Fret} {s : State}
    (h : (s.cal p).fretNow s.devNs = some (i, f, e)) : s.refreshFret p = s.setCal p { s.cal p with fret := i } := by
  simp only [State.refreshFret, h]

theorem State.refreshFret_devNs (p : Nat) (s : State) : (s.refreshFret p).devNs = s.devNs := by
  unfold State.refreshFret
  dsimp only
  split <;> rfl

theorem State.refreshFret_cal_ne {p q : Nat} (h : q ≠ p) (s : State) : (s.refreshFret p).cal q = s.cal q := by
  unfold State.refreshFret
  dsimp only
  split
  · exact State.cal_setCal_ne h _ s
  · rfl

/-- An enabled calendar among those that are shown anew shows the fret in force, and one that already shows it goes on
doing so. -/
theorem State.cal_foldl_refreshFret {p i e : Nat} {f : Fret} : ∀ (l : List (Nat × Cal)) {s : State},
    (s.cal p).en = true → (s.cal p).fretNow s.devNs = some (i, f, e) → (p ∈ l.map Prod.fst ∨ (s.cal p).fret = i) →
    (l.foldl (fun t x => t.refreshFret x.1) s).cal p = { s.cal p with fret := i }
  | [], s, _, _, hin => by
    obtain hin | rfl := hin
    · cases hin
    · rfl
  | x :: l, s, hen, hnow, hin => by
    by_cases hx : p = x.1
    · have hshow : (s.refreshFret x.1).cal p = { s.cal p with fret := i } := by
        rw [← hx, State.refreshFret_of_fretNow hnow]
        exact State.cal_setCal (Cal.ne_zero_of_en (by exact hen)) p s
      have hrest := State.cal_foldl_refreshFret (p := p) (i := i) (e := e) (f := f) l (s := s.refreshFret x.1)
        (by rw [hshow]; exact hen) (by rw [hshow, State.refreshFret_devNs]; exact hnow) (.inr (by rw [hshow]))
      exact hrest.trans (by rw [hshow])
    · have hkeep : (s.refreshFret x.1).cal p = s.cal p := State.refreshFret_cal_ne hx s
      have hrest := State.cal_foldl_refreshFret (p := p) (i := i) (e := e) (f := f) l (s := s.refreshFret x.1)
        (by rw [hkeep]; exact hen) (by rw [hkeep, State.refreshFret_devNs]; exact hnow)
        (by rw [hkeep]; exact hin.imp_left fun h => (List.mem_cons.1 h).resolve_left hx)
      exact hrest.trans (by rw [hkeep])

end Sys2Proof.Machine

namespace Sys2Proof.Proofs
open Sys2Proof.Machine Sys2Proof.Safety

/-- Settles O14: the load, the swap as it is asked for and at its instant, the fret shown, then PT_CAL_CFG. -/
theorem calendarsLoadSwapAndShow : Obligations.CalendarsLoadSwapAndShow := by
  unfold Obligations.CalendarsLoadSwapAndShow
  refine ⟨?_, ?_, ?_, ?_, ?_, ?_, ?_⟩
  · intro p n data c s hruns hport hlo hhi hcyclelo hcyclehi haddr hfrets hsum hcapo hpending
    exact execCalLoad_of_accepted hruns hport hlo hhi hcyclelo hcyclehi haddr hfrets hsum hcapo hpending
  · intro p n c s hruns hscope hnow hport hready hports hpending
    obtain ⟨t, hexec, hcal, hswaps⟩ := execCalSwap_of_ready hruns hscope hnow hport hready hports hpending
    exact ⟨t, hexec, by rw [hcal]; rfl, by rw [hcal]; rfl, by rw [hcal]; rfl, hswaps⟩
  · intro p at' s hat hdue
    obtain ⟨b, i, hcal⟩ := s.takeCalSwap_cal p
    have hexec : execCalSwapInstant p s = .next (s.takeCalSwap p) := by
      simp only [execCalSwapInstant, hat, if_pos hdue]
    exact ⟨_, hexec, by rw [hcal], by rw [hcal], by rw [hcal]⟩
  · intro p i f e s hnow
    exact congrArg Host.Outcome.next (State.refreshFret_of_fretNow hnow)
  · intro p i f e s hbase hen hnow
    have hlisted : (p, s.cal p) ∈ s.time.cal.filter fun e => e.2.en :=
      List.mem_filter.2 ⟨SMap.mem_of_get_ne (Cal.ne_zero_of_en hen), hen⟩
    exact ⟨_, congrArg Host.Outcome.next (if_pos hbase),
      State.cal_foldl_refreshFret _ hen hnow (.inl (List.mem_map.2 ⟨_, hlisted, rfl⟩))⟩
  · intro p v s hserved hport hact
    have hgiven : (bit v.toNat 0 && (s.cal p).act.isNone) = false := by
      obtain h | h := hact
      · simp [Option.isNone_eq_false_iff.2 (Option.isSome_iff_ne_none.2 h)]
      · simp [h]
    simp [exec, execPtCalCfgWrite, takesRw_active s hserved, hport, hgiven]
  · intro p v s hserved hport hact hen
    simp [exec, execPtCalCfgWrite, takesRw_active s hserved, hport, hact, hen]

end Sys2Proof.Proofs
end

section
/-! Device time is set, adjusted, slewed and corrected (O16). -/
namespace Sys2Proof.Machine
open Sys2Proof.Safety
open Host (Outcome)

/-! ### A field that is replaced -/

/-- A number some bits of which are replaced: what lies above them, the new field, and what lies below. -/
theorem setBits_eq (v lo w x : Nat) (hw : 0 < w) : setBits v (lo + w - 1) lo x =
    2 ^ lo * (2 ^ w * (v / 2 ^ lo / 2 ^ w) + x % 2 ^ w) + v % 2 ^ lo := by
  have hv : 2 ^ lo * (2 ^ w * (v / 2 ^ lo / 2 ^ w)) + v / 2 ^ lo % 2 ^ w * 2 ^ lo + v % 2 ^ lo = v := by
    rw [Nat.mul_comm (v / 2 ^ lo % 2 ^ w), ← Nat.mul_add, Nat.div_add_mod, Nat.div_add_mod]
  have hwidth : lo + w - 1 + 1 - lo = w := by omega
  rw [setBits, bits, hwidth, Nat.shiftRight_eq_div_pow, Nat.mul_add, Nat.mul_comm (2 ^ lo) (x % 2 ^ w)]
  omega

/-- The replaced bits are the new field's, and every other bit stays. -/
theorem bit_setBits {lo hi : Nat} (h : lo ≤ hi) (v x i : Nat) :
    bit (setBits v hi lo x) i = if lo ≤ i ∧ i ≤ hi then bit x (i - lo) else bit v i := by
  obtain ⟨w, hw, rfl⟩ : ∃ w, 0 < w ∧ hi = lo + w - 1 := ⟨hi + 1 - lo, by omega, by omega⟩
  have hlow : v % 2 ^ lo < 2 ^ lo := Nat.mod_lt _ (Nat.two_pow_pos lo)
  have hfield : x % 2 ^ w < 2 ^ w := Nat.mod_lt _ (Nat.two_pow_pos w)
  simp only [bit, setBits_eq v lo w x hw, Nat.testBit_two_pow_mul_add _ hlow, Nat.testBit_two_pow_mul_add _ hfield,
    Nat.testBit_mod_two_pow, Nat.testBit_div_two_pow]
  by_cases hi : i < lo
  · rw [if_pos hi, if_neg (by omega)]
    simp [hi]
  · by_cases hin : i - lo < w
    · rw [if_neg hi, if_pos hin, if_pos (by omega)]
      simp [hin]
    · rw [if_neg hi, if_neg hin, if_neg (by omega)]
      congr 1
      omega

/-! ### What a step of device time leaves of the engines (R392, R396) -/

/-- The two engines, and whether a slew is under way. -/
def State.engines (s : State) : Te × Te × Bool := (s.time.a, s.time.b, s.time.busy)

theorem te_of_engines {s t : State} (h : t.engines = s.engines) (e : Side) : t.te e = s.te e := by
  simp only [State.engines, Prod.mk.injEq] at h
  obtain ⟨ha, hb, -⟩ := h
  cases e
  · exact ha
  · exact hb

theorem busy_of_engines {s t : State} (h : t.engines = s.engines) : t.time.busy = s.time.busy := by
  simp only [State.engines, Prod.mk.injEq] at h
  exact h.2.2

theorem engines_of_time {s t : State} (h : t.time = s.time) : t.engines = s.engines := by
  rw [State.engines, State.engines, h]

theorem State.post_time (typ code source sl : Nat) (d : List Byte) (s : State) :
    (s.post typ code source sl d).time = s.time := by simp

theorem State.refreshFret_engines (p : Nat) (s : State) : (s.refreshFret p).engines = s.engines := by
  unfold State.refreshFret
  dsimp only
  split <;> rfl

theorem State.endPending_engines (ports : List Nat) (s : State) : (s.endPending ports).engines = s.engines :=
  foldl_keeps State.engines (fun t q => t.setCal q { t.cal q with pending := false }) (fun _ _ => rfl) ports s

theorem State.takeCalSwap_engines (p : Nat) (s : State) : (s.takeCalSwap p).engines = s.engines := by
  have hshown (c : Cal) : ((s.setCal p c).refreshFret p).engines = s.engines := State.refreshFret_engines p _
  unfold State.takeCalSwap
  dsimp only
  repeat' split
  · exact hshown _
  · exact (engines_of_time (State.completeSer_time _ _ _ _ _)).trans ((State.endPending_engines _ _).trans (hshown _))
  · exact hshown _

/-- No one-off action moves an engine or a slew. -/
theorem State.takeOneOff_engines (a : OneOff) (s : State) : (s.takeOneOff a).engines = s.engines := by
  cases a with
  | gen w => exact engines_of_time (by simp [State.takeOneOff])
  | cal p => exact s.takeCalSwap_engines p
  | pulse i => rfl
  | snap w => exact engines_of_time (by simp [State.takeOneOff])
  | hint i => exact engines_of_time (by simp [State.takeOneOff])

theorem State.realign_engines (s : State) : s.realign.engines = s.engines := by
  unfold State.realign
  exact foldl_keeps State.engines (fun t (e : Nat × Cal) => t.refreshFret e.1)
    (fun t e => State.refreshFret_engines e.1 t) _ _

/-- A step of device time moves both engines by the step, and no slew with them. -/
theorem State.stepTime_engines (delta : Int) (source shown : Nat) (s : State) :
    (s.stepTime delta source shown).engines = (s.moveTime delta).engines := by
  unfold State.stepTime
  dsimp only
  rw [engines_of_time (State.post_time _ _ _ _ _ _), State.realign_engines]
  exact foldl_keeps State.engines (fun t (a : Nat × OneOff) => t.takeOneOff a.2)
    (fun t a => State.takeOneOff_engines a.2 t) _ _

theorem State.stepTime_te (delta : Int) (source shown : Nat) (s : State) (e : Side) :
    (s.stepTime delta source shown).te e = { s.te e with t := teMove (s.te e).t delta } := by
  rw [te_of_engines (s.stepTime_engines delta source shown)]
  cases e <;> rfl

theorem State.stepTime_busy (delta : Int) (source shown : Nat) (s : State) :
    (s.stepTime delta source shown).time.busy = s.time.busy :=
  busy_of_engines (t := s.stepTime delta source shown) (s := s.moveTime delta) (s.stepTime_engines delta source shown)

theorem State.stepTime_devTime (delta : Int) (source shown : Nat) (s : State) :
    (s.stepTime delta source shown).devTime = teMove s.devTime delta := by
  have hactive : (s.stepTime delta source shown).activeTe = s.activeTe := activeTe_of (by simp)
  rw [State.devTime, hactive, State.stepTime_te, State.devTime]

/-- The move from a count to another that device time can hold ends there. -/
theorem teMove_sub_self {t : Nat} (ht : t < teSpan) (x : Nat) : teMove x ((t : Int) - x) = t := by
  unfold teMove
  rw [add_sub_cancel, ← Int.natCast_mod, Int.toNat_natCast, Nat.mod_eq_of_lt ht]

/-! ### TIME_CTL (R394, R395, R431) -/

theorem State.rd_lt (s : State) (o : Nat) : s.rd o < 2 ^ 32 := BitVec.isLt _

theorem State.rd64_lt (s : State) (o : Nat) : s.rd64 o < 2 ^ 64 := by
  have hlow := s.rd_lt o
  have hhigh := s.rd_lt (o + 4)
  unfold State.rd64
  omega

theorem State.rd_writeTimeCtl_ne {o : Nat} (h : o ≠ 0x60010) (v : Nat) (s : State) :
    (s.writeTimeCtl v).rd o = s.rd o := rd_wr_ne _ _ _ s h

theorem State.rd64_writeTimeCtl_ne {o : Nat} (h : o ≠ 0x60010) (h' : o + 4 ≠ 0x60010) (v : Nat) (s : State) :
    (s.writeTimeCtl v).rd64 o = s.rd64 o := rd64_wr_ne _ _ _ s h h'

/-- ADJ_SLEW is kept as written. -/
theorem State.slew_writeTimeCtl {s : State} (h : Canonical s) (v : Nat) :
    bit ((s.writeTimeCtl v).rd 0x60010) 2 = bit v 2 := by
  have hslew (old : Nat) : bit (setBits old 2 2 (bits v 2 2)) 2 = bit v 2 := by
    rw [bit_setBits (by decide), if_pos (by decide)]
    simp [bit, bits]
  rw [State.writeTimeCtl, rd_wr_self _ _ _ h, bit, Nat.testBit_mod_two_pow, ← bit]
  split
  · rw [bit_setBits (by decide), if_neg (by decide), hslew]
    rfl
  · rw [hslew]
    rfl

/-- The state with what both engines have gathered below one unit dropped. -/
def State.zeroAcc (s : State) : State :=
  { s with time.a := { s.time.a with acc := 0 }, time.b := { s.time.b with acc := 0 } }

theorem State.zeroAcc_te (s : State) (e : Side) : (s.zeroAcc.te e).t = (s.te e).t := by cases e <;> rfl

theorem State.zeroAcc_devTime (s : State) : s.zeroAcc.devTime = s.devTime := s.zeroAcc_te s.activeTe

/-- The staged time in units of 2^-16 ns (R395). -/
def State.stagedTime (s : State) : Nat := (s.rd64 0x60020 * 1000000000 + s.rd 0x60028) * 65536

theorem State.stagedTime_lt {s : State} (hns : s.rd 0x60028 < 1000000000) : s.stagedTime < teSpan := by
  have hsec := s.rd64_lt 0x60020
  have hspan {sec ns : Nat} (hsec : sec < 2 ^ 64) (hns : ns < 1000000000) :
      (sec * 1000000000 + ns) * 65536 < 2 ^ 64 * 1000000000 * 65536 := by omega
  exact hspan hsec hns

/-- SET_GO with no slew under way steps device time to the staged time (R395). -/
theorem State.setGo_of_free {s : State} (hbusy : s.time.busy = false) (hns : s.rd 0x60028 < 1000000000) :
    s.setGo = s.zeroAcc.stepTime ((s.stagedTime : Int) - s.devTime) 0 0x80000000 := by
  have hfree : ¬(s.time.busy = true ∨ nsPerSec ≤ s.rd 0x60028) := by simp [hbusy, nsPerSec, hns]
  exact if_neg hfree

theorem State.setGo_devTime {s : State} (hbusy : s.time.busy = false) (hns : s.rd 0x60028 < 1000000000) :
    s.setGo.devTime = s.stagedTime ∧ ∀ e, (s.setGo.te e).t = teMove (s.te e).t ((s.stagedTime : Int) - s.devTime) := by
  rw [State.setGo_of_free hbusy hns]
  refine ⟨?_, fun e => ?_⟩
  · rw [State.stepTime_devTime, State.zeroAcc_devTime, teMove_sub_self (State.stagedTime_lt hns)]
  · rw [State.stepTime_te, State.zeroAcc_te]

/-- ADJ_GO with no slew under way and an offset within 2 s starts a slew or takes a step (R394). -/
theorem State.adjGo_of_free {s : State} (hbusy : s.time.busy = false)
    (hoff : (signed 64 (s.rd64 0x60018)).natAbs ≤ 2 * 1000000000 * 65536) :
    s.adjGo = if bit (s.rd 0x60010) 2
      then { s with time.busy := true, time.slewLeft := signed 64 (s.rd64 0x60018) * 1000000000 }
      else s.stepTime (signed 64 (s.rd64 0x60018)) 1 (signSat (signed 64 (s.rd64 0x60018) / 65536)) := by
  have hfree : ¬(s.time.busy = true ∨ 2 * nsPerSec * 65536 < (signed 64 (s.rd64 0x60018)).natAbs) := by
    simp only [hbusy, nsPerSec, Bool.false_eq_true, false_or]
    omega
  exact if_neg hfree

theorem execTimeSetGo_of_setOnly {p : HostPort} {v : Word} {s : State} (h : s.takesRw p = true)
    (hset : bit v.toNat 0 = true) (hadj : bit v.toNat 1 = false) :
    execTimeSetGo p v s = .next (s.writeTimeCtl v.toNat).setGo := by
  simp only [execTimeSetGo, h, hset, hadj, Bool.and_self, if_true, Bool.false_eq_true, if_false]

theorem execTimeAdjGo_of_adjOnly {p : HostPort} {v : Word} {s : State} (h : s.takesRw p = true)
    (hset : bit v.toNat 0 = false) (hadj : bit v.toNat 1 = true) :
    execTimeAdjGo p v s = .next (s.writeTimeCtl v.toNat).adjGo := by
  simp only [execTimeAdjGo, h, hset, hadj, Bool.not_false, Bool.and_self, if_true]

/-- A write of TIME_CTL changes that register alone. -/
theorem State.writeTimeCtl_time (v : Nat) (s : State) : (s.writeTimeCtl v).time = s.time := by simp

/-! ### TIME_FREQ (R393) -/

theorem execTimeFreqWrite_of_takesRw {p : HostPort} {s : State} (h : s.takesRw p = true) (v : Word) :
    execTimeFreqWrite p v s =
      .next (if (signed 32 v.toNat).natAbs ≤ 2048000000 then s.setReg 0x60014 v else s.timeErr) := by
  simp only [execTimeFreqWrite, h, if_true]

end Sys2Proof.Machine

namespace Sys2Proof.Proofs
open Sys2Proof.Machine Sys2Proof.Safety

/-- Settles O16: SET_GO, ADJ_GO with and without a slew, the slew's end, then TIME_FREQ. -/
theorem deviceTimeIsAdjusted : Obligations.DeviceTimeIsAdjusted := by
  unfold Obligations.DeviceTimeIsAdjusted
  refine ⟨?_, ?_, ?_, ?_, ?_, ?_⟩
  · intro v s _ hserved hset hadj hbusy hns
    have htime := s.writeTimeCtl_time v.toNat
    have hte := te_of htime
    have hstaged : (s.writeTimeCtl v.toNat).stagedTime = s.stagedTime := by
      simp only [State.stagedTime, State.rd_writeTimeCtl_ne (o := 0x60028) (by decide),
        State.rd64_writeTimeCtl_ne (o := 0x60020) (by decide) (by decide)]
    have hdev : (s.writeTimeCtl v.toNat).devTime = s.devTime := by
      rw [State.devTime, activeTe_of (s := s) (by simp), hte, State.devTime]
    obtain ⟨hset', hmoved⟩ := State.setGo_devTime (s := s.writeTimeCtl v.toNat) (by rw [htime]; exact hbusy)
      (by rw [State.rd_writeTimeCtl_ne (by decide)]; exact hns)
    rw [hstaged] at hset' hmoved
    refine ⟨_, execTimeSetGo_of_setOnly (takesRw_active s hserved) hset hadj, hset', fun e => ?_⟩
    rw [hmoved, hte, hdev]
    rfl
  · intro v s hcanon hserved hset hadj hslew hbusy hoff
    have htime := s.writeTimeCtl_time v.toNat
    have hreg : (s.writeTimeCtl v.toNat).rd64 0x60018 = s.rd64 0x60018 :=
      State.rd64_writeTimeCtl_ne (by decide) (by decide) _ s
    have hgo := State.adjGo_of_free (s := s.writeTimeCtl v.toNat) (by rw [htime]; exact hbusy) (by rw [hreg]; exact hoff)
    rw [State.slew_writeTimeCtl hcanon, hslew, if_pos rfl, hreg] at hgo
    refine ⟨_, execTimeAdjGo_of_adjOnly (takesRw_active s hserved) hset hadj, ?_, ?_, fun e => ?_⟩
    · rw [hgo]
    · rw [hgo]
    · rw [hgo, ← te_of htime e]
      cases e <;> rfl
  · intro v s hcanon hserved hset hadj hslew hbusy hoff
    have htime := s.writeTimeCtl_time v.toNat
    have hreg : (s.writeTimeCtl v.toNat).rd64 0x60018 = s.rd64 0x60018 :=
      State.rd64_writeTimeCtl_ne (by decide) (by decide) _ s
    have hgo := State.adjGo_of_free (s := s.writeTimeCtl v.toNat) (by rw [htime]; exact hbusy) (by rw [hreg]; exact hoff)
    rw [State.slew_writeTimeCtl hcanon, hslew, if_neg (by decide), hreg] at hgo
    refine ⟨_, execTimeAdjGo_of_adjOnly (takesRw_active s hserved) hset hadj, ?_, fun e => ?_⟩
    · rw [hgo, State.stepTime_busy, htime, hbusy]
    · rw [hgo, State.stepTime_te, te_of htime]
  · intro s hbusy hleft
    exact congrArg Host.Outcome.next (if_pos (by simp [hbusy, hleft]))
  · intro v s hserved hfreq
    exact (execTimeFreqWrite_of_takesRw (takesRw_active s hserved) v).trans (by rw [if_pos hfreq])
  · intro v s hserved hfreq
    refine (execTimeFreqWrite_of_takesRw (takesRw_active s hserved) v).trans ?_
    rw [if_neg (by omega)]
    rfl

end Sys2Proof.Proofs
end

section
/-! The pair of time engines, pulse outputs and capture inputs (O17). -/
namespace Sys2Proof.Machine
open Sys2Proof.Safety
open Host (Outcome)

/-! ### The active engine moves (R539, R540) -/

/-- The state that a switch of the engines leaves, its events apart. -/
def State.teSwitched (s : State) : State :=
  let u := s.commit 1 (s.rolesWithTe s.activeTe.peer)
  let v := { u with time.switches := satInc 16 u.time.switches, time.diffSince := none, time.diffLogged := false }
  v.setTe s.activeTe.peer.peer { v.te s.activeTe.peer.peer with okSince := none }

/-- A switch that keel register 1 takes. -/
theorem State.switchTe_of_free {s : State} (h : (s.keel 1).stuck = false) :
    s.switchTe = (true, (s.teSwitched.post 5 4 (sideNum s.activeTe.peer) 0
      (toLE 4 (signSat s.teDiff) ++ toLE 3 0)).healthEvt 3) := by
  simp only [State.switchTe, keelChange_ok 1 _ s h, State.teSwitched]

theorem State.activeTe_teSwitched (s : State) : s.teSwitched.activeTe = s.activeTe.peer := by
  have hflt : s.teSwitched.flt.keel1.voted = s.rolesWithTe s.activeTe.peer := by
    simp [State.teSwitched, State.commit, State.setKeel, Keel.commit]
  have hbit := (rolesWithTe_bit s s.activeTe.peer).1
  rw [State.activeTe, hflt, hbit]
  cases s.activeTe.peer <;> rfl

theorem State.parity_teSwitched (s : State) : (s.teSwitched.te s.activeTe).parity = (s.te s.activeTe).parity := by
  simp only [State.teSwitched, peer_peer, te_setTe]
  cases s.activeTe <;> rfl

theorem State.switches_teSwitched (s : State) : s.teSwitched.time.switches = satInc 16 s.time.switches := by
  unfold State.teSwitched
  cases s.activeTe <;> rfl

/-- The standby becomes active where it is eligible; the engine lost keeps its count and its parity. -/
theorem State.teLost_of_eligible {s : State} (hfree : (s.keel 1).stuck = false)
    (helig : s.teElig s.activeTe.peer = true) (cause : Nat) :
    (s.teLost cause).activeTe = s.activeTe.peer ∧ (s.teLost cause).time = s.teSwitched.time := by
  simp only [State.teLost, helig, State.switchTe_of_free hfree, if_true]
  refine ⟨?_, by simp⟩
  rw [← State.activeTe_teSwitched]
  exact activeTe_of (by simp)

theorem execTeCounterFault_of_running {e : Side} {s : State} (hrun : (s.te e).run = true)
    (hparity : (s.te e).parity = true) :
    execTeCounterFault e s = .next (if e = s.activeTe
      then (s.setTe e { s.te e with parity := false, okSince := none }).teLost 1
      else s.setTe e { s.te e with parity := false, okSince := none }) := by
  have hactive (x : Te) : (s.setTe e x).activeTe = s.activeTe := activeTe_of (by simp)
  simp only [execTeCounterFault, hrun, hparity, hactive, Bool.and_self, if_true]

/-- TE-A, eligible for the time of R540, becomes active again. -/
theorem execTeRevert_of_due {s : State} (hactive : s.activeTe = .b) (helig : s.teElig .a = true) {since : Nat}
    (hok : s.time.a.okSince = some since) (hdue : since + 10001000000 ≤ s.now) (hfree : (s.keel 1).stuck = false) :
    ∃ t, execTeRevert s = .next t ∧ t.activeTe = .a := by
  have helapsed : s.elapsed s.time.a.okSince (1000000 + 10 * nsPerSec) = true := by
    simp only [State.elapsed, hok, decide_eq_true_eq]
    have hsec : nsPerSec = 1000000000 := rfl
    omega
  unfold execTeRevert
  rw [if_pos ⟨hactive, helig, helapsed⟩, State.switchTe_of_free hfree]
  refine ⟨_, rfl, ?_⟩
  have hswitched := s.activeTe_teSwitched
  rw [hactive] at hswitched
  exact (activeTe_of (by simp)).trans hswitched

/-! ### The standby engine is tracked (R391, R541) -/

theorem State.raise_engines (src code : Nat) (k : Cls) (d : Nat) (s : State) :
    (s.raise src code k d).engines = s.engines := engines_of_time (by simp)

/-- What a tracking step notes leaves of the engines all but the time since which the standby engine has been good. -/
theorem State.noteTe_engines (s : State) : ∃ since, s.noteTe.engines =
    (s.setTe s.activeTe.peer { s.te s.activeTe.peer with okSince := since }).engines := by
  unfold State.noteTe
  by_cases hnear : s.teNear = true
  · rw [if_pos hnear]
    exact ⟨_, rfl⟩
  · rw [if_neg hnear]
    simp only [apply_ite State.engines, State.raise_engines]
    exact ⟨_, ite_self _⟩

theorem State.noteTe_te (s : State) : ∃ since,
    s.noteTe.te s.activeTe.peer = { s.te s.activeTe.peer with okSince := since } := by
  obtain ⟨since, h⟩ := s.noteTe_engines
  exact ⟨since, (te_of_engines h _).trans (te_setTe _ _ s)⟩

/-- A tracking step of two running engines moves the standby one alone. -/
theorem execTeTrack_of_running {m : TeMove} {s : State} (hstandby : (s.te s.activeTe.peer).run = true)
    (hactive : (s.te s.activeTe).run = true) (hclock : s.teClock s.activeTe.peer = true) :
    ∃ t since, execTeTrack m s = .next t ∧ t.te s.activeTe.peer =
      { Te.track (s.te s.activeTe) m.move { s.te s.activeTe.peer with t := teMove (s.te s.activeTe.peer).t m.drift }
        with okSince := since } := by
  let x := Te.track (s.te s.activeTe) m.move { s.te s.activeTe.peer with t := teMove (s.te s.activeTe.peer).t m.drift }
  have hrole : (s.setTe s.activeTe.peer x).activeTe = s.activeTe := activeTe_of (by simp)
  obtain ⟨since, hnote⟩ := (s.setTe s.activeTe.peer x).noteTe_te
  rw [hrole, te_setTe] at hnote
  refine ⟨_, since, ?_, hnote⟩
  simp only [execTeTrack, hstandby, hactive, hclock, Bool.and_self, if_true, x]

theorem Te.track_of_far {a x : Te} (h : 65536000 < ((x.t : Int) - a.t).natAbs ∨ x.parity = false ∨ x.behind = true)
    (move : Nat) : Te.track a move x = { x with t := a.t, acc := a.acc, parity := true, behind := false } := if_pos h

/-- A near standby engine moves toward the active one by the move, or to it. -/
theorem Te.track_of_near {a x : Te} (hnear : ((x.t : Int) - a.t).natAbs ≤ 65536000) (hparity : x.parity = true)
    (hbehind : x.behind = false) (move : Nat) :
    (Te.track a move x).t = teMove x.t (if (x.t : Int) - a.t < 0 then (min move ((x.t : Int) - a.t).natAbs : Nat)
      else -(min move ((x.t : Int) - a.t).natAbs : Nat)) := by
  have hmin (d : Int) : (if move < d.natAbs then (move : Int) else d.natAbs) = (min move d.natAbs : Nat) := by
    split <;> omega
  have hkept : ¬(65536000 < ((x.t : Int) - a.t).natAbs ∨ x.parity = false ∨ x.behind = true) := by
    simpa only [hparity, hbehind, Bool.true_eq_false, Bool.false_eq_true, or_false, not_lt] using hnear
  unfold Te.track
  dsimp only
  rw [if_neg hkept, hmin]

/-! ### Pulse outputs (R403, R404) -/

/-- An output other than the one after reset is the one read next. -/
theorem State.timeOut_setOut {x : TimeOut} (h : x.en = true) (i : Nat) (s : State) : (s.setOut i x).timeOut i = x := by
  have hne : x ≠ TimeOut.zero := by
    rintro rfl
    cases h
  exact SMap.get_set_of_ne hne _ i

theorem State.timeOut_drive (i j : Nat) (active : Bool) (s : State) : (s.drive j active).timeOut i = s.timeOut i := rfl

/-- An output enabled from EN = 0 with settings that keep R403 takes them, and its first rise is armed (R404). -/
theorem execTimeOutEnable_of_accepted {p : HostPort} {i : Fin 8} {v : Word} {s : State} (hrw : s.takesRw p = true)
    (hen : bit v.toNat 0 = true) (hoff : (s.timeOut i).en = false)
    (hok : pulseOk (s.rd (outReg i 8)) (s.rd (outReg i 0xC)) (s.rd (outReg i 0x10)) = true)
    (hstart : s.rd (outReg i 0xC) = 0 →
      s.devTime ≤ (s.rd64 (outReg i 0) * 1000000000 + s.rd (outReg i 8)) * 65536) :
    ∃ t, execTimeOutEnable p i v s = .next t ∧ t.timeOut i =
      { en := true, err := false, start := s.rd64 (outReg i 0) * 1000000000 + s.rd (outReg i 8),
        period := s.rd (outReg i 0xC), width := s.rd (outReg i 0x10), invert := bit v.toNat 1,
        next := some (firstRise (s.rd64 (outReg i 0) * 1000000000 + s.rd (outReg i 8)) (s.rd (outReg i 0xC)) s.devTime),
        fall := none } := by
  have hrd {o : Nat} (ho : o < 0x14) (x : Nat) : (s.wr (outReg i 0x14) x).rd (outReg i o) = s.rd (outReg i o) :=
    rd_wr_ne _ _ _ s (by unfold outReg; omega)
  have hrd64 (x : Nat) : (s.wr (outReg i 0x14) x).rd64 (outReg i 0) = s.rd64 (outReg i 0) :=
    rd64_wr_ne _ _ _ s (by unfold outReg; omega) (by unfold outReg; omega)
  have hout (x : Nat) : (s.wr (outReg i 0x14) x).timeOut i = s.timeOut i := rfl
  have hdev (x : Nat) : (s.wr (outReg i 0x14) x).devTime = s.devTime := rfl
  have hfuture : ¬(s.rd (outReg i 0xC) = 0 ∧
      (s.rd64 (outReg i 0) * nsPerSec + s.rd (outReg i 8)) * 65536 < s.devTime) :=
    fun ⟨hsingle, hpast⟩ => absurd hpast (not_lt.2 (hstart hsingle))
  unfold execTimeOutEnable
  simp only [hrw, hen, hout, hoff, hdev, hrd (o := 8) (by decide), hrd (o := 0xC) (by decide),
    hrd (o := 0x10) (by decide), hrd64, hok, if_neg hfuture, Bool.and_self, if_true, Bool.not_true, Bool.false_eq_true,
    if_false]
  refine ⟨_, rfl, ?_⟩
  split
  · exact State.timeOut_setOut rfl _ _
  · exact State.timeOut_setOut rfl _ _

/-- A due fall drives the inactive level (R403). -/
theorem execPulseEdge_of_fall {i : Fin 8} {s : State} {at' : Nat} (hen : (s.timeOut i).en = true)
    (hfall : (s.timeOut i).fall = some at') (hdue : at' ≤ s.devTime) :
    ∃ t, execPulseEdge i s = .next t ∧ t.out = .pulse i (s.timeOut i).invert :: s.out ∧ (t.timeOut i).fall = none := by
  let x : TimeOut := { s.timeOut i with fall := none }
  have hset : (s.setOut i x).timeOut i = x := State.timeOut_setOut (by exact hen) _ s
  refine ⟨(s.setOut i x).drive i false, ?_, ?_, ?_⟩
  · simp only [execPulseEdge, State.fallOut, hen, hfall, hdue, Option.any_some, decide_true, Bool.not_true,
      Bool.false_eq_true, if_false, if_true, x]
  · simp only [State.drive, State.emit, hset, State.setOut_keeps, Bool.false_bne, x]
  · rw [State.timeOut_drive, hset]

/-- A due rise drives the active level, and the fall follows after WIDTH (R403). -/
theorem execPulseEdge_of_rise {i : Fin 8} {s : State} {at' : Nat} (hen : (s.timeOut i).en = true)
    (hfall : (s.timeOut i).fall = none) (hnext : (s.timeOut i).next = some at') (hdue : at' * 65536 ≤ s.devTime) :
    ∃ t, execPulseEdge i s = .next t ∧ t.out = .pulse i (!(s.timeOut i).invert) :: s.out ∧
      (t.timeOut i).fall = some ((at' + (s.timeOut i).width) * 65536) := by
  let x : TimeOut := { s.timeOut i with
    fall := some (at' * 65536 + (s.timeOut i).width * 65536),
    next := if (s.timeOut i).period = 0 then none else some (at' * 65536 / 65536 + (s.timeOut i).period) }
  have hset : (s.setOut i x).timeOut i = x := State.timeOut_setOut (by exact hen) _ s
  refine ⟨(s.setOut i x).drive i true, ?_, ?_, ?_⟩
  · simp only [execPulseEdge, State.rise, hen, hfall, hnext, hdue, Option.any_none, Bool.not_true, Bool.false_eq_true,
      if_false, if_true, x]
  · simp only [State.drive, State.emit, hset, State.setOut_keeps, Bool.true_bne, x]
  · rw [State.timeOut_drive, hset, Nat.add_mul]

/-! ### Capture inputs (R405) -/

theorem State.timeIn_of_time {s t : State} (h : t.time = s.time) (j : Nat) : t.timeIn j = s.timeIn j :=
  congrArg (fun x => x.ins.get TimeIn.zero j) h

/-- A captured edge leaves device time, and the numbers of captures and of edges counted on. -/
theorem State.timeIn_takeEdge (j k : Nat) (s : State) : (s.takeEdge j k).timeIn j =
    { s.timeIn j with cap := s.devTime, captures := ((s.timeIn j).captures + 1) % 2 ^ 16, count := k,
                      lastAt := some s.now } := by
  have hsnap (t : State) : (t.snapEdge j).time = t.time := by simp
  refine (State.timeIn_of_time (hsnap _) j).trans (SMap.get_set_of_ne ?_ _ j)
  intro hzero
  cases congrArg TimeIn.lastAt hzero

/-- A selected edge at least 1 µs after the last capture is captured, and posted where the pin asks for it. -/
theorem State.captureEdge_of_selected {j : Nat} {rising : Bool} {s : State}
    (hsel : bit (s.timeInCtl j) (if rising then 0 else 1) = true)
    (hspaced : ∀ at', (s.timeIn j).lastAt = some at' → 1000 ≤ s.now - at') :
    (s.captureEdge j rising).timeIn j = (s.takeEdge j (((s.timeIn j).count + 1) % 2 ^ 32)).timeIn j := by
  have hlate : (s.timeIn j).lastAt.any (fun t => decide (s.now - t < 1000)) = false := by
    rw [Option.any_eq_false]
    intro t ht
    simpa using hspaced t ht
  simp only [State.captureEdge, hsel, hlate, Bool.not_true, Bool.false_eq_true, if_false]
  split
  · exact State.timeIn_of_time (by simp) j
  · rfl

/-- What an edge of the trim pin notes is the trim oscillator's alone. -/
theorem State.timeIn_noted (j : Nat) (rising : Bool) (s : State) :
    let u := if rising then s.trimEdgeAt j else s
    u.time = s.time ∧ u.flt = s.flt ∧ u.now = s.now ∧ u.regs = s.regs := by
  cases rising <;> simp

theorem execTimeInEdge_of_selected {j : Fin 4} {rising : Bool} {s : State}
    (hsel : bit (s.timeInCtl j) (if rising then 0 else 1) = true)
    (hspaced : ∀ at', (s.timeIn j).lastAt = some at' → 1000 ≤ s.now - at') :
    ∃ t, execTimeInEdge j rising s = .next t ∧ t.timeIn j =
      { s.timeIn j with cap := s.devTime, captures := ((s.timeIn j).captures + 1) % 2 ^ 16,
                        count := ((s.timeIn j).count + 1) % 2 ^ 32, lastAt := some s.now } := by
  obtain ⟨htime, hflt, hnow, hregs⟩ := State.timeIn_noted j rising s
  generalize hu : (if rising then s.trimEdgeAt j else s) = u at htime hflt hnow hregs
  have hin : u.timeIn j = s.timeIn j := State.timeIn_of_time htime j
  have hdev : u.devTime = s.devTime := by simp only [State.devTime, State.te, State.activeTe, htime, hflt]
  have hctl : u.timeInCtl j = s.timeInCtl j := by simp only [State.timeInCtl, State.rd, State.reg, hregs]
  refine ⟨u.captureEdge j rising, by rw [execTimeInEdge, hu], ?_⟩
  rw [State.captureEdge_of_selected (by rwa [hctl]) (by rwa [hin, hnow]), State.timeIn_takeEdge, hin, hdev, hnow]

end Sys2Proof.Machine

namespace Sys2Proof.Proofs
open Sys2Proof.Machine Sys2Proof.Safety

/-- Settles O17: the engines from the lemmas about a switch and a tracking step, the pins from what each of their steps
leaves of its output or input. -/
theorem timeEnginesAndPins : Obligations.TimeEnginesAndPins := by
  unfold Obligations.TimeEnginesAndPins
  refine ⟨fun s hrun hparity => ?_, fun s hrun hparity hfree helig => ?_,
    fun s at' hactive helig hok hdue hfree => execTeRevert_of_due hactive helig hok hdue hfree,
    fun drift move s hstandby hactive hclock hfar => ?_,
    fun drift move s hstandby hactive hclock hnear hparity hbehind => ?_,
    fun i v s _ hserved hen hoff hok hstart => ?_,
    fun i at' s hen hfall hdue => execPulseEdge_of_fall hen hfall hdue,
    fun i at' s hen hfall hnext hdue => execPulseEdge_of_rise hen hfall hnext hdue,
    fun j rising s hsel hspaced => ?_⟩
  · have hne : s.activeTe.peer ≠ s.activeTe := by cases s.activeTe <;> decide
    exact (execTeCounterFault_of_running hrun hparity).trans (by rw [if_neg hne])
  · generalize hu : s.setTe s.activeTe { s.te s.activeTe with parity := false, okSince := none } = u at helig
    have hrole : u.activeTe = s.activeTe := activeTe_of (by simp [← hu])
    have hte : u.te s.activeTe = { s.te s.activeTe with parity := false, okSince := none } := by rw [← hu, te_setTe]
    have hkeel : (u.keel 1).stuck = false := by simpa [← hu, State.keel] using hfree
    have hswitches : u.time.switches = s.time.switches := by rw [← hu]; cases s.activeTe <;> rfl
    obtain ⟨hlost, htime⟩ := State.teLost_of_eligible hkeel (by rwa [hrole]) 1
    refine ⟨u.teLost 1, (execTeCounterFault_of_running hrun hparity).trans (by rw [if_pos rfl, hu]), ?_, ?_, ?_⟩
    · rw [hlost, hrole]
    · have hkept := u.parity_teSwitched
      rw [hrole, hte] at hkept
      rw [te_of_engines (engines_of_time htime), hkept]
    · rw [htime, State.switches_teSwitched, hswitches]
  · obtain ⟨t, since, hrun, hte⟩ := execTeTrack_of_running (m := ⟨drift, move⟩) hstandby hactive hclock
    rw [Te.track_of_far hfar] at hte
    exact ⟨t, hrun, by rw [hte], by rw [hte], by rw [hte]⟩
  · obtain ⟨t, since, hrun, hte⟩ := execTeTrack_of_running (m := ⟨drift, move⟩) hstandby hactive hclock
    refine ⟨t, hrun, ?_⟩
    rw [hte]
    exact Te.track_of_near (x := { s.te s.activeTe.peer with t := teMove (s.te s.activeTe.peer).t drift })
      hnear hparity hbehind move
  · obtain ⟨t, hrun, hout⟩ := execTimeOutEnable_of_accepted (takesRw_active s hserved) hen hoff hok hstart
    exact ⟨t, hrun, by rw [hout], by rw [hout], by rw [hout], by rw [hout], by rw [hout]⟩
  · obtain ⟨t, hrun, hin⟩ := execTimeInEdge_of_selected hsel hspaced
    exact ⟨t, hrun, by rw [hin], by rw [hin], by rw [hin]⟩

end Sys2Proof.Proofs
end

section
/-! Counter snapshots, counter reads, counter samples and the user pages (O46). -/
namespace Sys2Proof.Machine
open Sys2Proof.Safety
open Host (Outcome)

/-! ### CTR_SNAPSHOT (R452 to R454) -/

section
variable {p : HostPort} {n : Fin 64} {c : Cmd} {s : State}

theorem execCtrSnapshot_of_bad (hruns : runs s p n 0x58 (snapLayout c) c = true) (htrig : c.arg 8 1 ≤ 2)
    (hbad : s.snapBad c = true) : execCtrSnapshot p n s = .next (s.complete c .badArg 1 0) :=
  congrArg Outcome.next (State.runCmd_done hruns (by simp; omega) rfl (if_pos hbad))

theorem execCtrSnapshot_of_tooFar (hruns : runs s p n 0x58 (snapLayout c) c = true) (hgood : s.snapBad c = false)
    (htimed : c.arg 8 1 = 1) (hfar : s.devTime + tenSec < c.time 16) :
    execCtrSnapshot p n s = .next (s.complete c .badArg 2 0) := by
  refine congrArg Outcome.next (State.runCmd_done hruns (by simp [htimed]) rfl ?_)
  simp only [hgood, htimed, hfar, or_true, and_self, if_true, Bool.false_eq_true, if_false]

/-- A snapshot whose time is near becomes pending, or is refused behind another. -/
theorem execCtrSnapshot_of_good (hruns : runs s p n 0x58 (snapLayout c) c = true) (htrig : c.arg 8 1 ≤ 2)
    (hgood : s.snapBad c = false)
    (hnear : c.arg 8 1 ≠ 1 ∨ (c.timeOk 16 = true ∧ c.time 16 ≤ s.devTime + tenSec)) :
    execCtrSnapshot p n s = .next (if s.tel.pend.isSome then s.complete c .badArg 3 0
      else ({ s with tel := { s.tel with pend := some {
        cmd := c.serial, trigger := c.arg 8 1,
        at' := if c.arg 8 1 = 1 ∧ s.devTime < c.time 16 then some (c.time 16) else none,
        pin := c.arg 10 1, freeze := bit (c.arg 9 1) 0 } } }).wait c) := by
  have hrow : (!(decide (c.arg 8 1 = 3) || decide (c.arg 8 1 = 4))) = true := by simp; omega
  have htime : ¬(c.arg 8 1 = 1 ∧ (c.timeOk 16 = false ∨ s.devTime + tenSec < c.time 16)) := by
    rintro ⟨htimed, hlate⟩
    obtain hnot | ⟨hok, hsoon⟩ := hnear
    · exact hnot htimed
    · obtain hbad | hfar := hlate
      · rw [hok] at hbad
        cases hbad
      · exact absurd hsoon (not_le.2 hfar)
  by_cases hpend : s.tel.pend.isSome = true
  · rw [if_pos hpend]
    refine congrArg Outcome.next (State.runCmd_done hruns hrow rfl ?_)
    simp only [hgood, if_neg htime, hpend, if_true, Bool.false_eq_true, if_false]
  · rw [if_neg hpend]
    refine congrArg Outcome.next (State.runCmd_wait hruns hrow rfl ?_)
    simp only [hgood, if_neg htime, hpend, Bool.false_eq_true, if_false]

/-- TRIGGER 3 answers NOT_FOUND with no snapshot pending, and aborts the one that is. -/
theorem execCtrSnapshotCancel_of_good (hruns : runs s p n 0x58 (snapLayout c) c = true) (htrig : c.arg 8 1 = 3)
    (hgood : s.snapBad c = false) :
    (s.tel.pend = none → execCtrSnapshotCancel p n s = .next (s.complete c .notFound 0 0)) ∧
    (∀ w, s.tel.pend = some w → execCtrSnapshotCancel p n s =
      .next ((({ s with tel := { s.tel with pend := none } }).completeSer w.cmd .aborted 0 0).complete c .ok 0 0)) := by
  refine ⟨fun hnone => ?_, fun w hpend => ?_⟩
  · refine congrArg Outcome.next (State.runCmd_done hruns (decide_eq_true htrig) rfl ?_)
    simp only [hgood, hnone, Ran.refuse, Bool.false_eq_true, if_false]
  · refine congrArg Outcome.next (State.runCmd_done hruns (decide_eq_true htrig) rfl ?_)
    simp only [hgood, hpend, Bool.false_eq_true, if_false]

theorem execCtrSnapshotUnfreeze_of_good (hruns : runs s p n 0x58 (snapLayout c) c = true) (htrig : c.arg 8 1 = 4)
    (hgood : s.snapBad c = false) : execCtrSnapshotUnfreeze p n s =
      .next (({ s with tel := { s.tel with frozen := false } }).complete c .ok 0 0) := by
  refine congrArg Outcome.next (State.runCmd_done hruns (decide_eq_true htrig) rfl ?_)
  simp only [hgood, Bool.false_eq_true, if_false]

/-- CTR_READ of counters that exist writes them, live or from the snapshot taken last (R455). -/
theorem execCtrRead_of_exists
    (hruns : runs s p n 0x59 [whole 8 1, named 9 1 1, whole 10 2, whole 12 4, whole 16 8] c = true)
    (hspace : ctrSize (c.arg 8 1) ≠ 0) (hsome : c.arg 10 2 ≠ 0) (hfew : c.arg 10 2 ≤ 512)
    (hrange : c.arg 12 4 + c.arg 10 2 ≤ ctrSize (c.arg 8 1)) (haligned : c.arg 16 8 % 8 = 0) {snap : Bool}
    (hsnap : snap = bit (c.arg 9 1) 0) :
    execCtrRead p n s = .next (if snap = true ∧ s.tel.snapId = 0 then s.complete c .notFound 0 0
      else (s.hostData c (c.arg 16 8) ((List.range (c.arg 10 2)).flatMap fun k =>
          toLE 8 ((s.ctrBank snap).read (c.arg 8 1) (c.arg 12 4 + k)))).complete c .ok
        (if snap then s.tel.snapId else 0) (c.arg 10 2)) := by
  have hargs : ¬(ctrSize (c.arg 8 1) = 0 ∨ c.arg 10 2 = 0 ∨ 512 < c.arg 10 2 ∨
      ctrSize (c.arg 8 1) < c.arg 12 4 + c.arg 10 2 ∨ c.arg 16 8 % 8 ≠ 0) := by
    simp only [hspace, false_or]
    omega
  subst hsnap
  split_ifs with hnever
  all_goals
    refine congrArg Outcome.next (State.runCmd_done hruns rfl rfl ?_)
    simp only [if_neg hargs]
  · rw [if_pos hnever, Ran.refuse]
  · rw [if_neg hnever, if_pos ‹_›]
  · rw [if_neg hnever, if_neg ‹_›]

end

/-! ### The instant of a snapshot (R452) -/

theorem execSnapshotInstant_of_none {s : State} (h : s.tel.pend = none) : execSnapshotInstant s = .next s := by
  simp only [execSnapshotInstant, h]

theorem execSnapshotInstant_of_timed {w : SnapReq} {t : Nat} {s : State} (hpend : s.tel.pend = some w)
    (htimed : w.at' = some t) :
    execSnapshotInstant s = .next (if t ≤ s.devTime then s.takeSnap w t else s) := by
  simp only [execSnapshotInstant, hpend, htimed]

theorem execSnapshotInstant_of_untimed {w : SnapReq} {s : State} (hpend : s.tel.pend = some w) (hnow : w.at' = none) :
    execSnapshotInstant s = .next (if w.trigger = 2 then s else s.takeSnap w s.devTime) := by
  simp only [execSnapshotInstant, hpend, hnow]

/-! ### Counter samples (R451) -/

/-- The sample found under a key is the first that has it. -/
theorem find?_sample_of_split {key : Nat} {before after : List (Nat × Sample)} {x : Sample}
    (hfirst : ∀ e ∈ before, e.1 ≠ key) :
    (before ++ (key, x) :: after).find? (fun e => decide (e.1 = key)) = some (key, x) := by
  rw [List.find?_append, List.find?_eq_none.2 (by simpa using hfirst), Option.none_or]
  exact List.find?_cons_of_pos (by simp)

theorem execPmcSampleTimeout_of_due {m : Slice} {c : Fin 64} {before after : List (Nat × Sample)} {x : Sample}
    {s : State} (hsamples : s.tel.samples = before ++ (m.val * 64 + c.val, x) :: after)
    (hfirst : ∀ e ∈ before, e.1 ≠ m.val * 64 + c.val) (hnone : x.admitted = []) (hdue : x.since + 1000 ≤ s.now)
    (pick : Draw) :
    execPmcSampleTimeout m c pick s = .next (s.postSample (m.val * 64 + c.val) pick (emptyCard m)) := by
  simp only [execPmcSampleTimeout, hsamples, find?_sample_of_split hfirst, hnone, hdue, List.isEmpty_nil, decide_true,
    Bool.and_self, if_true]

theorem execPmcSampleTimeout_of_none {m : Slice} {c : Fin 64} {s : State}
    (hnone : ∀ e ∈ s.tel.samples, e.1 ≠ m.val * 64 + c.val) (pick : Draw) :
    execPmcSampleTimeout m c pick s = .next s := by
  have hfind : s.tel.samples.find? (fun e => decide (e.1 = m.val * 64 + c.val)) = none :=
    List.find?_eq_none.2 fun e he => by simpa using hnone e he
  simp only [execPmcSampleTimeout, hfind]

/-! ### User pages (R457) -/

theorem execPerfUserEnWrite_of_active {v : Word} {s : State} (hc : Canonical s) (hserved : s.served = true) :
    ∃ t : State, execPerfUserEnWrite s.active v s = .next t ∧ t.rd 0x70000 = v.toNat % 2 ^ 16 ∧
      ∀ o, o ≠ 0x70000 → t.rd o = s.rd o := by
  refine ⟨s.wr 0x70000 (v.toNat % 2 ^ 16), ?_, ?_, fun o ho => rd_wr_ne _ _ _ s ho⟩
  · rw [execPerfUserEnWrite, if_pos (takesRw_active s hserved)]
  · rw [rd_wr_self _ _ _ hc]
    omega

end Sys2Proof.Machine

namespace Sys2Proof.Proofs
open Sys2Proof.Machine Sys2Proof.Safety

/-- Settles O46: each command by its row's lemma, the snapshot by its latch. -/
theorem countersAreSnappedAndRead : Obligations.CountersAreSnappedAndRead := by
  unfold Obligations.CountersAreSnappedAndRead
  refine ⟨fun p n c w s hruns htrig hw => ?_, fun p n c s hruns htrig hgood =>
      execCtrSnapshotCancel_of_good hruns htrig hgood,
    fun p n c s hruns htrig hgood => execCtrSnapshotUnfreeze_of_good hruns htrig hgood,
    fun s hnone => execSnapshotInstant_of_none hnone,
    fun w t s hpend htimed => execSnapshotInstant_of_timed hpend htimed,
    fun w s hpend hnow => execSnapshotInstant_of_untimed hpend hnow,
    fun w t s => ⟨_, rfl, rfl, rfl, rfl, rfl, rfl, rfl⟩,
    fun p n c snap s hruns hspace hsome hfew hrange haligned hsnap =>
      execCtrRead_of_exists hruns hspace hsome hfew hrange haligned hsnap,
    fun m c pick before after x s hsamples hfirst hnone hdue =>
      execPmcSampleTimeout_of_due hsamples hfirst hnone hdue pick,
    fun m c pick s hnone => execPmcSampleTimeout_of_none hnone pick,
    fun v s hc hserved => execPerfUserEnWrite_of_active hc hserved⟩
  subst hw
  exact ⟨fun hbad => execCtrSnapshot_of_bad hruns htrig hbad,
    fun hgood htimed hfar => execCtrSnapshot_of_tooFar hruns hgood htimed hfar,
    fun hgood hnear => execCtrSnapshot_of_good hruns htrig hgood hnear⟩

end Sys2Proof.Proofs
end

section
/-! The power loop, its clock, its calibration and its limits (O38). -/
namespace Sys2Proof.Machine
open Sys2Proof.Safety
open Host (Outcome)

/-- In RESET and SAVE no power step acts (R460, R461, R484). -/
theorem execPower_of_resting {s : State} (h : s.mode = .reset ∨ s.mode = .save) :
    (∀ e sv st, execPowerLoopTick e sv st s = .next s) ∧ (∀ ans b, execPmbusCalibration ans b s = .next s) ∧
      ∀ mv, execVholdReading mv s = .next s :=
  ⟨fun _ _ _ => congrArg Outcome.next (if_pos h), fun _ _ => congrArg Outcome.next (if_pos h),
    fun _ => congrArg Outcome.next (if_pos h)⟩

/-! ### The loop (R460, R465, R466) -/

/-- A microsecond's estimate is formed, then the loop acts on it while the active Collie runs. -/
theorem execPowerLoopTick_of_awake {s : State} (hawake : ¬(s.mode = .reset ∨ s.mode = .save)) (e sv : BitVec 11)
    (st : List Lane) :
    ∃ u : State, u.pwr.e = e.toNat ∧ u.pwr.p = s.pwr.pOf e.toNat ∧ u.pwr.steps = s.pwr.steps ∧
      u.pwr.eSum = s.pwr.eSum + e.toNat ∧ u.pwr.eNum = s.pwr.eNum + 1 ∧ u.clk = s.clk ∧
      execPowerLoopTick e sv st s = .next (if s.collieActs then
        ((u.hintLevels (st.map Fin.val)).loopAct (st.map Fin.val) sv.toNat).throttleEdge else u) := by
  refine ⟨_, ?_, ?_, ?_, ?_, ?_, ?_, congrArg Outcome.next (if_neg hawake)⟩ <;> rfl

section
variable {sv : Nat} {s : State}

theorem State.loopAct_of_above (hkept : s.trimWithhold sv = none) (hover : s.capNow < s.pwr.p) {d : Domain}
    (hfirst : s.orderNow.find? (fun d => !s.atLimit d) = some d) (st : List Nat) :
    s.loopAct st sv = s.takeStep st d := by
  simp only [State.loopAct, hkept, if_pos hover, hfirst]

theorem State.loopAct_of_limits (hkept : s.trimWithhold sv = none) (hover : s.capNow < s.pwr.p)
    (hlimits : ∀ d, s.atLimit d = true) (st : List Nat) : s.loopAct st sv = s := by
  have hnone : s.orderNow.find? (fun d => !s.atLimit d) = none := List.find?_eq_none.2 fun d _ => by simp [hlimits d]
  simp only [State.loopAct, hkept, if_pos hover, hnone]

theorem State.loopAct_of_noStep (hkept : s.trimWithhold sv = none) (hunder : s.pwr.p ≤ s.capNow)
    (hnone : s.pwr.steps = []) (st : List Nat) : s.loopAct st sv = s := by
  simp only [State.loopAct, hkept, if_neg (not_lt.2 hunder), hnone]

theorem State.loopAct_of_step (hkept : s.trimWithhold sv = none) (hunder : s.pwr.p ≤ s.capNow) {x : PStep}
    {r : List PStep} (hstep : s.pwr.steps = x :: r) (st : List Nat) :
    s.loopAct st sv = if s.elapsed s.pwr.okSince 100000 && s.mayReturn x then s.returnStep sv else s := by
  simp only [State.loopAct, hkept, if_neg (not_lt.2 hunder), hstep]

end

theorem State.withhold_takeStep {s : State} (h : s.pwr.withhold < s.withholdMax) (st : List Nat) :
    (s.takeStep st .compute).pwr.withhold = s.pwr.withhold + 1 := by
  rw [State.takeStep, if_pos h]

/-! ### The clock (R496) -/

theorem State.stepClock_of_due {s : State} (hfree : s.clkFree = true) (hoff : s.clk.pipeCur ≠ s.clkGoal) :
    s.stepClock.clk = { s.clk with
      pipeCur := if s.clk.pipeCur < s.clkGoal then s.clk.pipeCur + 1 else s.clk.pipeCur - 1,
      lastStep := some s.now } := by
  simp only [State.stepClock, hfree, hoff, ne_eq, not_false_eq_true, decide_true, Bool.and_self, if_true,
    State.capDone_keeps]

theorem State.stepClock_of_rest {s : State} (h : s.clkFree = false ∨ s.clk.pipeCur = s.clkGoal) : s.stepClock = s := by
  obtain hpaced | hthere := h
  · simp only [State.stepClock, hpaced, Bool.false_and, Bool.false_eq_true, if_false]
  · simp only [State.stepClock, hthere, ne_eq, not_true_eq_false, decide_false, Bool.and_false, Bool.false_eq_true,
      if_false]

/-! ### THROTTLE and the cap (R467, R472) -/

theorem execThrottleOff_of_low {s : State} (hon : s.pwr.throttleOn = true) (hlow : s.throttle = false)
    (hlong : s.elapsed s.pwr.lowSince 1000000 = true) :
    execThrottleOff s = .next (({ s with pwr.throttleOn := false, pwr.lowSince := none }).powerEvt 2 0) := by
  simp only [execThrottleOff, hon, hlow, hlong, Bool.not_false, Bool.and_self, if_true]

theorem execCapUnmet_of_limits {s : State} (hfirst : s.pwr.unmet = false)
    (hlong : s.elapsed s.pwr.overSince 1000000 = true) (hlimits : ∀ d, s.atLimit d = true) :
    execCapUnmet s = .next ((({ s with pwr.unmet := true }).raise pwrSrc 4 .ce
      (packItems [(11, s.pWatts), (11, satTo 2047 (s.capNow / 4096))])).powerEvt 3 0) := by
  simp only [execCapUnmet, hfirst, hlong, hlimits, Bool.not_false, Bool.and_self, if_true]

theorem execCapUnmet_of_not {s : State} (h : s.pwr.unmet = true ∨ s.elapsed s.pwr.overSince 1000000 = false) :
    execCapUnmet s = .next s := by
  obtain hunmet | hshort := h
  · simp only [execCapUnmet, hunmet, Bool.not_true, Bool.false_and, Bool.false_eq_true, if_false]
  · simp only [execCapUnmet, hshort, Bool.and_false, Bool.false_and, Bool.false_eq_true, if_false]

theorem execCapMet_of_low {s : State} (hunmet : s.pwr.unmet = true)
    (hlong : s.elapsed s.pwr.underSince 1000000 = true) :
    execCapMet s = .next (({ s with pwr.unmet := false }).powerEvt 4 0) := by
  simp only [execCapMet, hunmet, hlong, Bool.and_self, if_true]

/-! ### Calibration (R461 to R464) -/

/-- What a good calibration keeps of its measurement. -/
theorem State.calGood_pwr (m : Nat) (s : State) :
    (s.calGood m).pwr.m = m ∧ (s.calGood m).pwr.mAt = some s.now ∧ (s.calGood m).pwr.bad = 0 := by
  simp only [State.calGood, apply_ite State.pwr, State.powerEvt_keeps, State.follow_keeps, ite_self, and_self]

/-- A calibration without a good M counts, and keeps the last good one and the gain. -/
theorem State.calBad_pwr (mask : Nat) (s : State) :
    (s.calBad mask).pwr.bad = satTo 3 (s.pwr.bad + 1) ∧ (s.calBad mask).pwr.good = 0 ∧
      (s.calBad mask).pwr.m = s.pwr.m ∧ (s.calBad mask).pwr.gain = s.pwr.gain := by
  simp only [State.calBad, apply_ite State.pwr, apply_ite PwrSt.bad, apply_ite PwrSt.good, apply_ite PwrSt.m,
    apply_ite PwrSt.gain, State.powerEvt_keeps, State.follow_keeps, ite_self, and_self]

/-- The power block but for the log of its entries. -/
def State.unlogged (s : State) : PwrSt := { s.pwr with pmbLog := [] }

/-- An entry's failure leaves the power block but for that log. -/
theorem State.pmbErr_unlogged (r cause : Nat) (s : State) : (s.pmbErr r cause).unlogged = s.unlogged := by
  unfold State.pmbErr
  simp only [apply_ite State.unlogged]
  refine (ite_congr rfl (fun _ => ?_) fun _ => rfl).trans (ite_self _)
  simp [State.unlogged]

/-- With every enabled entry answering and a plausible M, the calibration keeps it (R462). -/
theorem execPmbusCalibration_of_good {ans : List (Fin 16 × Option (Fin 3) × BitVec 16)} {m : Int} {s : State}
    (hawake : ¬(s.mode = .reset ∨ s.mode = .save))
    (hall : ∀ r, r < 16 → s.pmbOn r = true → (pmbAnswer ans r).1 = none)
    (hm : m = (((List.range 16).filter s.pmbOn).map fun r => (pmbAnswer ans r).2).foldl (· + ·) 0)
    (hplausible : s.pmbPlausible m = true) (blame : Fin 16) :
    execPmbusCalibration ans blame s =
      .next (((s.pmbReads ((List.range 16).filter s.pmbOn)).calGood m.toNat).calLogged (m.toNat / 65536)) := by
  have hfailing : ((List.range 16).filter s.pmbOn).filterMap (fun r => (pmbAnswer ans r).1.map fun c => (r, c)) = [] := by
    refine List.filterMap_eq_nil_iff.2 fun r hr => ?_
    obtain ⟨hlt, hon⟩ := List.mem_filter.1 hr
    rw [hall r (List.mem_range.1 hlt) hon, Option.map_none]
  subst hm
  refine congrArg Outcome.next ((if_neg hawake).trans ?_)
  simp only [hfailing, hplausible, List.isEmpty_nil, List.foldl_nil, State.pmbBlame, State.calTake, Bool.not_true,
    Bool.and_false, Bool.false_and, Bool.true_and, Bool.false_eq_true, if_false, if_true]

/-- With an enabled entry that fails, the calibration has no good M (R463). -/
theorem execPmbusCalibration_of_failing {ans : List (Fin 16 × Option (Fin 3) × BitVec 16)} {r c : Nat} {s : State}
    (hawake : ¬(s.mode = .reset ∨ s.mode = .save)) (hr : r < 16) (hon : s.pmbOn r = true)
    (hfails : (pmbAnswer ans r).1 = some c) (blame : Fin 16) :
    ∃ (u : State) (mask m : Nat), u.unlogged = s.unlogged ∧
      execPmbusCalibration ans blame s = .next ((u.calBad mask).calLogged m) := by
  have hfailing : (((List.range 16).filter s.pmbOn).filterMap
      fun r => (pmbAnswer ans r).1.map fun c => (r, c)).isEmpty = false := by
    rw [← Bool.not_eq_true, List.isEmpty_iff]
    intro hnone
    have hr := List.filterMap_eq_nil_iff.1 hnone r (List.mem_filter.2 ⟨List.mem_range.2 hr, hon⟩)
    rw [hfails] at hr
    cases hr
  refine ⟨_, _, _, ?_, congrArg Outcome.next ((if_neg hawake).trans (congrArg (State.calLogged _) (if_neg ?_)))⟩
  · have hreads (l : List Nat) (t : State) : (t.pmbReads l).unlogged = t.unlogged := by simp [State.unlogged]
    have hblame (bad : Bool) (t : State) : (t.pmbBlame bad blame).unlogged = t.unlogged := by
      cases bad
      · rfl
      · exact State.pmbErr_unlogged _ _ t
    rw [hreads, hblame]
    exact foldl_keeps State.unlogged (fun (t : State) (f : Nat × Nat) => t.pmbErr f.1 f.2) (fun t f => State.pmbErr_unlogged f.1 f.2 t) _ s
  · rw [hfailing, Bool.false_and]
    decide

theorem execCalResume_of_frozen {v : Word} {s : State} (hserved : s.served = true) (hbit : bit v.toNat 0 = true)
    (hfrozen : s.pwr.frozen = true) :
    execCalResume s.active v s = .next { s with pwr.frozen := false, pwr.disagree := 0 } := by
  simp only [execCalResume, takesRw_active s hserved, hbit, hfrozen, Bool.and_self, if_true]

/-! ### Temperature (R473, R474) -/

/-- The hottest junction as it is published. -/
def State.heated (h i : Nat) (s : State) : State :=
  { s with pwr.hot := h, pwr.sensor := i, pwr.hotMax := if s.pwr.hotMax < h then h else s.pwr.hotMax }

theorem execTemperatureRead_of_mild {h : Byte} {i : Fin 64} {s : State} (hruns : s.collieActs = true)
    (hmild : h.toNat < 100 ∨ s.pwr.thermal ≠ none) : execTemperatureRead h i s = .next (s.heated h.toNat i) := by
  have hnot : ¬(100 ≤ h.toNat ∧ s.pwr.thermal = none) := fun ⟨hhot, hnone⟩ => hmild.elim (by omega) (absurd hnone)
  simp only [execTemperatureRead, hruns, if_true, if_neg hnot, State.heated]

theorem execTemperatureRead_of_hot {h : Byte} {i : Fin 64} {s : State} (hruns : s.collieActs = true)
    (hhot : 100 ≤ h.toNat) (hnone : s.pwr.thermal = none) :
    ∃ t : State, execTemperatureRead h i s = .next t ∧ t.pwr.thermal = some s.pwr.p := by
  refine ⟨_, (congrArg Outcome.next ((if_pos hruns).trans (if_pos ⟨hhot, hnone⟩))), ?_⟩
  simp

/-- Every 1 ms the thermal limit falls, stays or rises, by the hottest junction (R474). -/
theorem execThermalLimitTick_of_limit {s : State} {x : Nat} (hx : s.pwr.thermal = some x) :
    (100 ≤ s.pwr.hot → execThermalLimitTick s = .next { s with pwr.thermal := some (x * 98 / 100) }) ∧
    (97 ≤ s.pwr.hot → s.pwr.hot < 100 → execThermalLimitTick s = .next s) ∧
    (s.pwr.hot < 97 → execThermalLimitTick s = .next (if s.capW * 4096 < x * 102 / 100
      then ({ s with pwr.thermal := none }).powerEvt 9 0 else { s with pwr.thermal := some (x * 102 / 100) })) := by
  unfold execThermalLimitTick
  simp only [hx]
  refine ⟨fun hhot => ?_, fun hwarm hnot => ?_, fun hcool => ?_⟩
  · rw [if_pos hhot]
  · rw [if_neg (not_le.2 hnot), if_neg (not_lt.2 hwarm)]
  · rw [if_neg (by omega), if_pos hcool]

/-! ### Hold-up (R484) -/

/-- VHOLD is shown; ten low readings end HOLD_OK, ten high ones restore it, and fewer leave it. -/
theorem execVholdReading_of_awake {s : State} (hawake : ¬(s.mode = .reset ∨ s.mode = .save)) (mv : BitVec 12) :
    ∃ t : State, execVholdReading mv s = .next t ∧ t.pwr.mv = mv.toNat ∧
      (mv.toNat < 3000 → 9 ≤ s.pwr.holdLow → t.pwr.holdOk = false) ∧
      (3100 ≤ mv.toNat → 9 ≤ s.pwr.holdHigh → t.pwr.holdOk = true) ∧
      (mv.toNat < 3100 → s.pwr.holdLow < 9 → t.pwr.holdOk = s.pwr.holdOk) := by
  unfold execVholdReading
  rw [if_neg hawake]
  dsimp only
  refine ⟨_, rfl, ?_, fun hlow hmany => ?_, fun hhigh hmany => ?_, fun hnot hfew => ?_⟩
  · simp only [apply_ite State.pwr, apply_ite PwrSt.mv, State.raise_keeps, ite_self]
  · have hten : satTo 10 (s.pwr.holdLow + 1) = 10 := by unfold satTo; split <;> omega
    rw [if_neg (by rw [if_neg (by omega)]; decide), if_pos (by rwa [if_pos hlow])]
    split <;> simp
  · have hten : satTo 10 (s.pwr.holdHigh + 1) = 10 := by unfold satTo; split <;> omega
    rw [if_pos (by rwa [if_pos hhigh])]
  · have hless : satTo 10 (s.pwr.holdLow + 1) ≠ 10 := by unfold satTo; split <;> omega
    rw [if_neg (by rw [if_neg (by omega)]; decide), if_neg (by split <;> omega)]

end Sys2Proof.Machine

namespace Sys2Proof.Proofs
open Sys2Proof.Machine Sys2Proof.Safety

/-- Settles O38: the loop, the clock, the calibration, the temperature and VHOLD each by what one of their steps does. -/
theorem powerLoopAndLimits : Obligations.PowerLoopAndLimits := by
  unfold Obligations.PowerLoopAndLimits
  refine ⟨fun e sv st s hrest => ?_,
    fun e sv st s hreset hsave => execPowerLoopTick_of_awake (not_or.2 ⟨hreset, hsave⟩) e sv st,
    fun st sv d s hkept hover hfirst => State.loopAct_of_above hkept hover hfirst st,
    fun st sv s hkept hover hlimits => State.loopAct_of_limits hkept hover hlimits st,
    fun st sv s hkept hunder hnone => State.loopAct_of_noStep hkept hunder hnone st,
    fun st sv x r s hkept hunder hstep => State.loopAct_of_step hkept hunder hstep st,
    fun st s h => State.withhold_takeStep h st,
    fun s hfree hoff => ⟨s.stepClock, rfl, by rw [State.stepClock_of_due hfree hoff],
      by rw [State.stepClock_of_due hfree hoff]⟩,
    fun s h => congrArg Host.Outcome.next (State.stepClock_of_rest h),
    fun s hon hlow hlong => execThrottleOff_of_low hon hlow hlong,
    fun s hfirst hlong hlimits => execCapUnmet_of_limits hfirst hlong hlimits,
    fun s h => execCapUnmet_of_not h,
    fun s hunmet hlong => execCapMet_of_low hunmet hlong,
    fun ans b m s hreset hsave hall hm hplausible => ?_,
    fun ans b r c s hreset hsave hr hon hfails => ?_,
    fun v s hserved hbit hfrozen => execCalResume_of_frozen hserved hbit hfrozen,
    fun h i s hruns hmild => ⟨_, execTemperatureRead_of_mild hruns hmild, rfl, rfl, rfl, rfl⟩,
    fun h i s hruns hhot hnone => execTemperatureRead_of_hot hruns hhot hnone,
    fun s x hx => execThermalLimitTick_of_limit hx,
    fun mv s hreset hsave => execVholdReading_of_awake (not_or.2 ⟨hreset, hsave⟩) mv⟩
  · obtain ⟨hloop, hcal, hhold⟩ := execPower_of_resting hrest
    exact ⟨hloop e sv st, hcal, hhold⟩
  · refine ⟨_, execPmbusCalibration_of_good (not_or.2 ⟨hreset, hsave⟩) hall hm hplausible b, ?_⟩
    obtain ⟨hkept, hat, hbad⟩ := State.calGood_pwr m.toNat (s.pmbReads ((List.range 16).filter s.pmbOn))
    exact ⟨hkept, hat.trans (by simp), hbad, rfl, rfl⟩
  · obtain ⟨u, mask, m, hlog, hrun⟩ := execPmbusCalibration_of_failing (not_or.2 ⟨hreset, hsave⟩) hr hon hfails b
    obtain ⟨hbad, hgood, hm, hgain⟩ := State.calBad_pwr mask u
    refine ⟨_, hrun, Eq.trans hbad ?_, hgood, Eq.trans hm ?_, Eq.trans hgain ?_⟩
    · exact congrArg (fun x => satTo 3 (x.bad + 1)) hlog
    · exact congrArg (fun x => x.m) hlog
    · exact congrArg (fun x => x.gain) hlog

end Sys2Proof.Proofs
end

section
/-! CAP_SET, phase hints, PWR_STATE and the discard of a save (O39). -/
namespace Sys2Proof.Machine
open Sys2Proof.Safety
open Host (Outcome)

section
variable {p : HostPort} {n : Fin 64} {c : Cmd} {s : State}

/-! ### CAP_SET (R469) -/

/-- A CAP_SET in range completes where the clock keeps the floor that its word sets, and waits for the clock else. -/
theorem execCapSet_of_inRange
    (hruns : runs s p n 0x62 [whole 8 2, named 10 1 7, whole 11 1, named 12 1 0xF] c = true)
    (hlow : 400 ≤ c.arg 8 2) (hhigh : c.arg 8 2 ≤ 1100) (horder : c.arg 10 1 ≤ 5) (hfloor : 8 ≤ c.arg 11 1)
    (hceil : c.arg 11 1 ≤ 16) (hmax : c.arg 12 1 ≤ 12) {v : Nat} {t : State}
    (hv : v = c.arg 8 2 + c.arg 10 1 * 2 ^ 12 + c.arg 11 1 * 2 ^ 16 + c.arg 12 1 * 2 ^ 24)
    (ht : t = (s.commit 3 v).liftClock.throttleEdge) :
    execCapSet p n s = .next (if t.clkFloor ≤ t.clk.pipeCur then t.capDone.complete c .ok v t.pWatts
      else ({ t with pwr.capWait := t.pwr.capWait ++ [(c.serial, v)] }).wait c) := by
  have hargs : ¬(c.arg 8 2 < 400 ∨ 1100 < c.arg 8 2 ∨ 5 < c.arg 10 1 ∨ c.arg 11 1 < 8 ∨ 16 < c.arg 11 1 ∨
      12 < c.arg 12 1) := by omega
  subst hv ht
  split_ifs with hthere
  · exact congrArg Outcome.next (State.runCmd_done hruns rfl rfl ((if_neg hargs).trans (if_pos hthere)))
  · exact congrArg Outcome.next (State.runCmd_wait hruns rfl rfl ((if_neg hargs).trans (if_neg hthere)))

/-! ### Phase hints (R470, R471) -/

/-- A hint in range takes the lowest free slot, or finds none. -/
theorem execPhaseHint_of_inRange
    (hruns : runs s p n 0x61 [named 8 1 1, named 9 1 7, named 10 1 0xF, whole 12 4, whole 16 14] c = true)
    (hrow : bit (c.arg 8 1) 0 = false) (horder : c.arg 9 1 ≤ 5) (hmem : c.argBits 10 1 1 0 ≠ 3)
    (hsome : c.arg 12 4 ≠ 0) (hshort : c.arg 12 4 ≤ 10000000) (htime : c.timeOk 16 = true)
    (hnear : c.time 16 ≤ s.devTime + tenSec) :
    (∀ i h, [0, 1, 2, 3].find? (fun i => (s.hint i).isNone) = some i →
      h = ({ at' := c.time 16, durUs := c.arg 12 4, order := c.arg 9 1, mem := c.argBits 10 1 1 0,
             link := c.argBits 10 1 3 2, since := none } : Hint) →
      execPhaseHint p n s = .next ((if c.time 16 ≤ s.devTime then (s.setHint i (some h)).startHint i
        else s.setHint i (some h)).complete c .ok i 0)) ∧
    ((∀ i < 4, (s.hint i).isSome) → execPhaseHint p n s = .next (s.complete c .noRoom 0 0)) := by
  have hargs : ¬(5 < c.arg 9 1 ∨ c.argBits 10 1 1 0 = 3 ∨ c.arg 12 4 = 0 ∨ 10000000 < c.arg 12 4 ∨
      c.timeOk 16 = false ∨ s.devTime + tenSec < c.time 16) := by
    rw [htime]
    simp only [Bool.true_eq_false, false_or]
    omega
  refine ⟨fun i h hfree hh => ?_, fun hfull => ?_⟩
  · subst hh
    refine congrArg Outcome.next (State.runCmd_done hruns (by simp [hrow]) rfl ((if_neg hargs).trans ?_))
    rw [hfree]
  · have hnone : [0, 1, 2, 3].find? (fun i => (s.hint i).isNone) = none := by
      refine List.find?_eq_none.2 fun i hi => ?_
      have hlt : i < 4 := by simp at hi; omega
      obtain ⟨h, hh⟩ := Option.isSome_iff_exists.1 (hfull i hlt)
      simp [hh]
    refine congrArg Outcome.next (State.runCmd_done hruns (by simp [hrow]) rfl ((if_neg hargs).trans ?_))
    rw [hnone, Ran.refuse]

/-! ### Parking (R476, R477) -/

/-- A slice is parked where no port in use is on it. -/
theorem execPwrStateParkSlice_of_slice (hruns : runs s p n 0x60 [whole 8 1, whole 9 1, named 10 1 0xF] c = true)
    (hslice : c.arg 8 1 = 0) (hpark : c.arg 9 1 = 1) {u : Nat} (hu : u = c.arg 10 1 % 16) :
    (∀ q, ((List.range 32).map (32 * u + ·)).find? (fun q => s.adminUp q || s.isRecirc q) = some q →
      execPwrStateParkSlice p n s = .next (s.complete c .badArg q 0)) ∧
    ((∀ q ∈ (List.range 32).map (32 * u + ·), s.adminUp q = false ∧ s.isRecirc q = false) → s.pwr.ramps = [] →
      ∃ t : State, t = s.onSlice u (fun x => { x with parked := true }) ∧
        execPwrStateParkSlice p n s = .next (t.complete c .ok t.slicePark 0)) := by
  have hrow : (decide (c.arg 8 1 = 0) && decide (c.arg 9 1 = 1)) = true := by rw [hslice, hpark]; rfl
  have hlayout : pwrStateLayout c = [whole 8 1, whole 9 1, named 10 1 0xF] := by simp [pwrStateLayout, hslice]
  subst hu
  refine ⟨fun q hused => ?_, fun hfree hramps => ⟨_, rfl, ?_⟩⟩
  · refine congrArg Outcome.next (State.runCmd_done hruns hrow hlayout ?_)
    simp only [hused]
  · have hnone : ((List.range 32).map (32 * (c.arg 10 1 % 16) + ·)).find? (fun q => s.adminUp q || s.isRecirc q) =
        none := by
      refine List.find?_eq_none.2 fun q hq => ?_
      obtain ⟨hdown, hdirect⟩ := hfree q hq
      simp [hdown, hdirect]
    have hdrop (t : State) (h : t.pwr.ramps = []) (f : Ramp → Bool) : t.dropRamps f = t := by
      simp only [State.dropRamps, h, List.filter_nil, List.foldl_nil]
      rw [← h]
    refine congrArg Outcome.next (State.runCmd_done hruns hrow hlayout ?_)
    simp only [hnone]
    rw [hdrop _ (by simpa using hramps)]

section
variable (hruns : runs s p n 0x60 [whole 8 1, whole 9 1, named 10 1 0xF, whole 12 4] c = true)
  (hlanes : c.arg 8 1 = 1) (hpark : c.arg 9 1 = 1)
include hruns hlanes hpark

/-- Lanes of no port in use are parked. -/
theorem execPwrStateParkLanes_of_free {u : Nat} (hu : u = c.arg 10 1 % 16)
    (hfree : ∀ k ∈ maskLanes (c.arg 12 4), ∀ q, s.portOfLane (32 * u + k) = some q → s.adminUp q = false) :
    ∃ t : State, t = (maskLanes (c.arg 12 4)).foldl (fun (t : State) k =>
        t.setLane (32 * u + k) (t.lane (32 * u + k)).park) s ∧
      execPwrStateParkLanes p n s = .next (t.complete c .ok (t.lanePark u) 0) := by
  subst hu
  refine ⟨_, rfl, congrArg Outcome.next (State.runCmd_done hruns (by rw [hlanes, hpark]; rfl)
    (by simp [pwrStateLayout, hlanes]) ?_)⟩
  dsimp only
  split
  case h_1 k hfind =>
    have hused := List.find?_some hfind
    split at hused
    case h_1 q hport => rw [hfree k (List.mem_of_find?_eq_some hfind) q hport] at hused; cases hused
    case h_2 => cases hused
  case h_2 => rfl

/-- A lane of a port in use is refused. -/
theorem execPwrStateParkLanes_of_used {u k q : Nat} (hu : u = c.arg 10 1 % 16)
    (hone : maskLanes (c.arg 12 4) = [k]) (hport : s.portOfLane (32 * u + k) = some q) (hup : s.adminUp q = true) :
    execPwrStateParkLanes p n s = .next (s.complete c .badArg k 0) := by
  subst hu
  refine congrArg Outcome.next (State.runCmd_done hruns (by rw [hlanes, hpark]; rfl)
    (by simp [pwrStateLayout, hlanes]) ?_)
  simp only [hone, List.find?_singleton, hport, hup, if_true]

end

/-! ### Unparking (R478) -/

/-- A parked slice is unparked over a ramp; one that is not parked completes at once. -/
theorem execPwrStateUnpark_of_slice (hruns : runs s p n 0x60 [whole 8 1, whole 9 1, named 10 1 0xF] c = true)
    (hslice : c.arg 8 1 = 0) (hunpark : c.arg 9 1 = 0) {u : Nat} (hu : u = c.arg 10 1 % 16) :
    execPwrStateUnpark p n s = .next (if (s.slice u).parked then
      ({ s.onSlice u (fun x => { x with parked := false }) with pwr.ramps := s.pwr.ramps ++
        [({ cmd := some c.serial, isSlice := true, unit := u, lanes := 0, since := s.now } : Ramp)] }).wait c
      else s.complete c .ok s.slicePark 0) := by
  have hrow : (!(decide (c.arg 9 1 = 1) && decide (c.arg 8 1 < 2))) = true := by rw [hunpark]; rfl
  have hlayout : pwrStateLayout c = [whole 8 1, whole 9 1, named 10 1 0xF] := by simp [pwrStateLayout, hslice]
  have hargs : ¬(c.arg 9 1 ≠ 0 ∨ 1 < c.arg 8 1) := by omega
  subst hu
  split_ifs with hparked
  · exact congrArg Outcome.next (State.runCmd_wait hruns hrow hlayout
      ((if_neg hargs).trans ((if_pos hslice).trans (if_pos hparked))))
  · exact congrArg Outcome.next (State.runCmd_done hruns hrow hlayout
      ((if_neg hargs).trans ((if_pos hslice).trans (if_neg hparked))))

/-- Lanes of which none is parked complete at once. -/
theorem execPwrStateUnpark_of_lanes
    (hruns : runs s p n 0x60 [whole 8 1, whole 9 1, named 10 1 0xF, whole 12 4] c = true)
    (hlanes : c.arg 8 1 = 1) (hunpark : c.arg 9 1 = 0) {u : Nat} (hu : u = c.arg 10 1 % 16)
    (hnone : ∀ k ∈ maskLanes (c.arg 12 4), (s.lane (32 * u + k)).parked = false) :
    execPwrStateUnpark p n s = .next (s.complete c .ok (s.lanePark u) 0) := by
  subst hu
  have hempty : ((maskLanes (c.arg 12 4)).filter fun k => (s.lane (32 * (c.arg 10 1 % 16) + k)).parked).isEmpty := by
    rw [List.isEmpty_iff]
    exact List.filter_eq_nil_iff.2 fun k hk => by simp [hnone k hk]
  exact congrArg Outcome.next (State.runCmd_done hruns (by rw [hunpark]; rfl) (by simp [pwrStateLayout, hlanes])
    ((if_neg (by omega)).trans ((if_neg (by omega)).trans (if_pos hempty))))

end

/-! ### The discard of a save (R483) -/

theorem execPwrSaveDiscard_of_active {v : Word} {s : State} (halive : s.hostAlive = true) (hmode : s.mode ≠ .save)
    (hbit : bit v.toNat 0 = true) :
    execPwrSaveDiscard s.active v s = .next (if bits v.toNat 31 16 = 0x5120 then
      { s with kennel.save0.valid := false, kennel.save1.valid := false, pwr.saveShown := false } else s) := by
  simp only [execPwrSaveDiscard, halive, hmode, hbit, ne_eq, not_false_eq_true, decide_true, Bool.and_self,
    Bool.true_and, decide_eq_true_eq]

end Sys2Proof.Machine

namespace Sys2Proof.Proofs
open Sys2Proof.Machine Sys2Proof.Safety

/-- Settles O39: each command by its row's lemma, the hints by their edges. -/
theorem powerCommands : Obligations.PowerCommands := by
  unfold Obligations.PowerCommands
  refine ⟨fun p n c v s hruns hlow hhigh horder hfloor hceil hmax hv =>
      ⟨_, rfl, execCapSet_of_inRange hruns hlow hhigh horder hfloor hceil hmax hv rfl⟩,
    fun v s => rfl,
    fun p n c s hruns hrow horder hmem hsome hshort htime hnear =>
      execPhaseHint_of_inRange hruns hrow horder hmem hsome hshort htime hnear,
    fun p n c s hruns hrow => congrArg Host.Outcome.next (State.runCmd_done hruns hrow rfl rfl),
    fun i s hdue => ?_, fun s hnone => ?_, fun i h s hh => ?_, fun i h s hh hpending => ?_,
    fun p n c u s hruns hslice hpark hu => execPwrStateParkSlice_of_slice hruns hslice hpark hu,
    fun p n c u s hruns hlanes hpark hu hfree => execPwrStateParkLanes_of_free hruns hlanes hpark hu hfree,
    fun p n c k q u s hruns hlanes hpark hu hone hport hup =>
      execPwrStateParkLanes_of_used hruns hlanes hpark hu hone hport hup,
    fun p n c u r s hruns hslice hunpark hu hr => hr ▸ execPwrStateUnpark_of_slice hruns hslice hunpark hu,
    fun p n c u s hruns hlanes hunpark hu hnone => execPwrStateUnpark_of_lanes hruns hlanes hunpark hu hnone,
    fun v s halive hmode hbit => execPwrSaveDiscard_of_active halive hmode hbit⟩
  · simp only [exec, execHintStart, hdue]
  · simp only [exec, execHintStart, hnone]
  · simp only [exec, execHintEnd, hh]
  · simp only [State.endHint, hh, hpending, Bool.false_eq_true, if_false]

end Sys2Proof.Proofs
end

section
/-! The pair of Collies: heartbeats, failover, restarts, the mirror and deliberate swaps (O40). -/
namespace Sys2Proof.Machine
open Sys2Proof.Safety
open Host (Outcome)

/-! ### The Collies of a state -/

theorem State.collie_of_ref {s t : State} (h : t.ref = s.ref) (e : Side) : t.collie e = s.collie e := by
  cases e <;> simp only [State.collie, h]

@[simp] theorem State.collie_setCollie (e : Side) (c : Collie) (s : State) : (s.setCollie e c).collie e = c := by
  cases e <;> rfl

theorem State.collie_setCollie_of_ne {e f : Side} (h : f ≠ e) (c : Collie) (s : State) :
    (s.setCollie e c).collie f = s.collie f := by
  cases e with
  | a => cases f with
    | a => exact absurd rfl h
    | b => rfl
  | b => cases f with
    | a => rfl
    | b => exact absurd rfl h

@[simp] theorem State.collie_follow (src code : Nat) (k : Cls) (d : Nat) (b : Bool) (e : Side) (s : State) :
    (s.follow src code k d b).collie e = s.collie e := State.collie_of_ref (by simp) e

@[simp] theorem State.collie_healthEvt (code : Nat) (e : Side) (s : State) :
    (s.healthEvt code).collie e = s.collie e := State.collie_of_ref (by simp) e

@[simp] theorem State.collie_noteHealth (before : State) (e : Side) (s : State) :
    (s.noteHealth before).collie e = s.collie e := State.collie_of_ref (by simp) e

@[simp] theorem State.collie_useMirror (e : Side) (s : State) : s.useMirror.collie e = s.collie e :=
  State.collie_of_ref (by simp) e

/-- What the referee keeps besides the Collies themselves. -/
def RefSt.others (r : RefSt) : RefSt := { r with a := Collie.zero, b := Collie.zero }

theorem State.setCollie_others (e : Side) (c : Collie) (s : State) : (s.setCollie e c).ref.others = s.ref.others := by
  cases e <;> rfl

theorem Side.peer_ne (e : Side) : e.peer ≠ e := by cases e <;> decide

theorem State.activeCollie_of {s t : State} (h : t.flt.keel1 = s.flt.keel1) : t.activeCollie = s.activeCollie := by
  simp only [State.activeCollie, h]

/-! ### A Collie becomes active (R531, R535) -/

/-- The roles with a Collie active, committed, and that Collie in ACTIVE. -/
def State.seated (n : Side) (s : State) : State :=
  let u := s.commit 1 (s.rolesWithCollie n)
  u.setCollie n { u.collie n with state := .active, since := none }

theorem State.collie_seated (n : Side) (s : State) :
    (s.seated n).collie n = { s.collie n with state := .active, since := none } := by
  cases n <;> rfl

theorem State.collie_seated_of_ne {n e : Side} (h : e ≠ n) (s : State) : (s.seated n).collie e = s.collie e := by
  rw [State.seated, State.collie_setCollie_of_ne h]
  cases e <;> rfl

theorem State.seated_others (n : Side) (s : State) : (s.seated n).ref.others = s.ref.others :=
  State.setCollie_others _ _ _

theorem State.activeCollie_seated (n : Side) (s : State) : (s.seated n).activeCollie = n := by
  have hvoted : (s.seated n).flt.keel1.voted = s.rolesWithCollie n := by
    simp [State.seated, State.commit, State.setKeel, Keel.commit]
  have hbit : bit (s.rolesWithCollie n) 0 = bit (sideNum n) 0 :=
    (bit_setBits (by decide) _ _ _).trans (if_pos (by decide))
  rw [State.activeCollie, hvoted, hbit]
  cases n <;> rfl

/-! ### A Collie fails (R533) -/

theorem State.failCollie_of_fresh {e : Side} {s : State} (h : (s.collie e).restored = none) :
    (s.failCollie e).collie e = (s.collie e).restarting := by
  simp [State.failCollie, h]

/-- A Collie restarted within the hour is held, else it restarts. -/
theorem State.failCollie_of_restored {e : Side} {s : State} {x : Nat} (h : (s.collie e).restored = some x) :
    (s.failCollie e).collie e = if s.now - x < 3600 * nsPerSec then (s.collie e).failed else (s.collie e).restarting := by
  simp [State.failCollie, h]

theorem State.collie_failCollie_of_ne {e f : Side} (h : f ≠ e) (s : State) :
    (s.failCollie e).collie f = s.collie f := by
  rw [State.failCollie, State.collie_follow, State.collie_setCollie_of_ne h]

theorem State.failCollie_others (e : Side) (s : State) : (s.failCollie e).ref.others = s.ref.others := by
  simp only [State.failCollie, State.follow_keeps, State.setCollie_others]

/-! ### The active Collie is lost (R531, R536) -/

/-- The state in which a takeover has given the failed Collie's role to the standby, from which the failed one goes. -/
def State.tookOver (cause : Nat) (s : State) : State :=
  (({ s.seated s.activeCollie.peer with ref.failovers := satInc 8 (s.seated s.activeCollie.peer).ref.failovers }).follow
    0x200 0x10 .ce (packItems [(1, sideNum s.activeCollie.peer), (2, cause)]) false).useMirror

theorem State.collieLost_of_fit {s : State} (hfree : (s.keel 1).stuck = false)
    (hfit : s.collieOk s.activeCollie.peer = true) (cause : Nat) :
    s.collieLost cause =
      ({ (s.tookOver cause).failCollie s.activeCollie with ref.mirror := none }).healthEvt 3 := by
  simp only [State.collieLost, hfit, keelChange_ok 1 _ s hfree, Bool.not_true, Bool.false_eq_true, if_false,
    State.tookOver, State.seated]

theorem State.collieLost_of_unfit {s : State} (h : s.collieOk s.activeCollie.peer = false) (cause : Nat) :
    s.collieLost cause = s.follow 0x200 0x13 .ft (packItems [(16, s.health16 .a), (16, s.health16 .b)]) false := by
  simp only [State.collieLost, h, Bool.not_false, if_true]

theorem State.collie_tookOver (cause : Nat) (e : Side) (s : State) :
    (s.tookOver cause).collie e = (s.seated s.activeCollie.peer).collie e := by
  rw [State.tookOver, State.collie_useMirror, State.collie_follow]
  cases e <;> rfl

theorem State.tookOver_now (cause : Nat) (s : State) : (s.tookOver cause).now = s.now := by
  simp [State.tookOver, State.seated]

/-- What a takeover leaves: the standby active, the failover counted, the mirror empty, and the failed Collie restarted,
or held. -/
theorem State.collieLost_facts {s : State} (hfree : (s.keel 1).stuck = false)
    (hfit : s.collieOk s.activeCollie.peer = true) (cause : Nat) :
    (s.collieLost cause).activeCollie = s.activeCollie.peer ∧
      ((s.collieLost cause).collie s.activeCollie.peer).state = .active ∧
      (s.collieLost cause).ref.failovers = satInc 8 s.ref.failovers ∧ (s.collieLost cause).ref.mirror = none ∧
      (s.collieLost cause).collie s.activeCollie = ((s.tookOver cause).failCollie s.activeCollie).collie s.activeCollie := by
  have hmirror (t : State) (e : Side) : ({ t with ref.mirror := none } : State).collie e = t.collie e := by cases e <;> rfl
  rw [State.collieLost_of_fit hfree hfit]
  refine ⟨?_, ?_, ?_, by simp, ?_⟩
  · exact (State.activeCollie_of (by simp [State.tookOver])).trans (State.activeCollie_seated _ s)
  · rw [State.collie_healthEvt, hmirror, State.collie_failCollie_of_ne (Side.peer_ne _), State.collie_tookOver,
      State.collie_seated]
  · have hkept := congrArg RefSt.failovers (State.failCollie_others s.activeCollie (s.tookOver cause))
    have hseated := congrArg RefSt.failovers (State.seated_others s.activeCollie.peer s)
    simp only [RefSt.others, State.tookOver, State.useMirror_keeps, State.follow_keeps] at hkept hseated
    simp only [State.healthEvt_keeps, State.tookOver]
    rw [hkept, hseated]
  · rw [State.collie_healthEvt, hmirror]

/-! ### Deliberate swaps (R534, R535) -/

/-- A deliberate swap exchanges the Collies, is counted and drops the mirror. -/
theorem State.swapCollie_of_fit {s : State} (hfree : (s.keel 1).stuck = false)
    (hfit : s.collieOk s.activeCollie.peer = true) (cause : Nat) :
    ∃ t : State, s.swapCollie cause = (true, t) ∧ t.activeCollie = s.activeCollie.peer ∧
      t.collie s.activeCollie.peer = { s.collie s.activeCollie.peer with state := .active, since := none } ∧
      t.collie s.activeCollie = { s.collie s.activeCollie with
        state := .standby, mirrorOk := false, mirrorAt := none, since := none } ∧
      t.ref.swaps = satInc 8 s.ref.swaps ∧ t.ref.mirror = none := by
  let c : Collie := { (s.seated s.activeCollie.peer).collie s.activeCollie with
    state := .standby, mirrorOk := false, mirrorAt := none, since := none }
  let u := (s.seated s.activeCollie.peer).setCollie s.activeCollie c
  let v : State := { u with ref.swaps := satInc 8 u.ref.swaps, ref.mirror := none }
  have hkept (e : Side) : v.collie e = u.collie e := by cases e <;> rfl
  have hne := Side.peer_ne s.activeCollie
  refine ⟨(v.follow 0x200 0x14 .ce (packItems [(1, 0), (2, cause)]) false).healthEvt 3, ?_, ?_, ?_, ?_, ?_, by simp [v]⟩
  · simp only [State.swapCollie, hfit, keelChange_ok 1 _ s hfree, Bool.not_true, Bool.false_eq_true, if_false, v, u, c,
      State.seated]
  · exact (State.activeCollie_of (by simp [v, u])).trans (State.activeCollie_seated _ s)
  · rw [State.collie_healthEvt, State.collie_follow, hkept, State.collie_setCollie_of_ne hne, State.collie_seated]
  · rw [State.collie_healthEvt, State.collie_follow, hkept, State.collie_setCollie]
    simp only [c, State.collie_seated_of_ne hne.symm]
  · have hset := congrArg RefSt.swaps (State.setCollie_others s.activeCollie c (s.seated s.activeCollie.peer))
    have hseated := congrArg RefSt.swaps (State.seated_others s.activeCollie.peer s)
    simp only [RefSt.others] at hset hseated
    simp only [State.healthEvt_keeps, State.follow_keeps, v, u]
    rw [hset, hseated]

/-- Collie A in STANDBY and eligible for 10 s while B is active becomes active. -/
theorem execCollieRevert_of_due {s : State} (hactive : s.activeCollie = .b) (hstandby : s.ref.a.state = .standby)
    (hlong : s.elapsed s.ref.a.since (10 * nsPerSec) = true) :
    execCollieRevert s = .next ((s.swapCollie 1).2.noteHealth s) :=
  congrArg Outcome.next (if_pos ⟨hactive, hstandby, hlong⟩)

theorem execCollieRevert_of_not {s : State} (h : s.activeCollie = .a ∨ s.ref.a.state ≠ .standby) :
    execCollieRevert s = .next s := by
  refine congrArg Outcome.next (if_neg ?_)
  rintro ⟨hb, hstandby, -⟩
  obtain ha | hnot := h
  · rw [ha] at hb
    cases hb
  · exact hnot hstandby

/-! ### Heartbeats, checks and the mirror (R528 to R530) -/

theorem execCollieHeartbeat_of_idle {e : Side} {s : State} (h : (s.collie e).runs = false) (m : Bool) :
    execCollieHeartbeat e m s = .next s ∧ execCollieHeartbeatTimeout e s = .next s := by
  simp only [execCollieHeartbeat, execCollieHeartbeatTimeout, h, Bool.false_and, Bool.false_eq_true, if_false, and_self]

theorem execCollieHeartbeat_of_runs {e : Side} {s : State} (h : (s.collie e).runs = true) :
    execCollieHeartbeat e false s = .next (((s.setCollie e { s.collie e with
      beat := some s.now, alive := true, memOk := (s.collie e).memOk && true }).judgeCollies 1).noteHealth s) :=
  congrArg Outcome.next (if_pos h)

theorem execCollieHeartbeatTimeout_of_late {e : Side} {s : State} (h : (s.collie e).runs = true)
    (hlate : s.elapsed (s.collie e).beat 200000 = true) :
    execCollieHeartbeatTimeout e s =
      .next (((s.setCollie e { s.collie e with alive := false }).judgeCollies 0).noteHealth s) := by
  simp only [execCollieHeartbeatTimeout, h, hlate, Bool.and_self, if_true]

/-- With no standby there is none to check, sweep or mirror to. -/
theorem execStandby_of_none {s : State} (h : (s.collie s.activeCollie.peer).state ≠ .standby) (ok : Bool) :
    execCollieKatCheck ok s = .next s ∧ execCollieMemorySweep ok s = .next s ∧ execMirrorTransfer ok s = .next s := by
  simp only [execCollieKatCheck, execCollieMemorySweep, execMirrorTransfer, h, decide_false, Bool.and_false,
    Bool.false_and, Bool.false_eq_true, false_and, if_false, and_self]

section
variable {s : State} (h : (s.collie s.activeCollie.peer).state = .standby)
include h

theorem execCollieKatCheck_of_standby (ok : Bool) : execCollieKatCheck ok s = .next (((s.setCollie s.activeCollie.peer
    { s.collie s.activeCollie.peer with
      katOk := ok,
      fails := if ok then (s.collie s.activeCollie.peer).fails
        else satInc 8 (s.collie s.activeCollie.peer).fails }).judgeCollies 1).noteHealth s) :=
  congrArg Outcome.next (if_pos h)

theorem execCollieMemorySweep_of_standby : execCollieMemorySweep false s = .next (((s.setCollie s.activeCollie.peer
    { s.collie s.activeCollie.peer with
      memOk := false,
      fails := satInc 8 (s.collie s.activeCollie.peer).fails }).judgeCollies 1).noteHealth s) ∧ execCollieMemorySweep true s = .next s :=
  ⟨congrArg Outcome.next (if_pos ⟨h, rfl⟩), congrArg Outcome.next (if_neg fun hbad => by cases hbad.2)⟩

theorem execMirrorTransfer_of_applied (hactive : (s.collie s.activeCollie.peer.peer).state = .active) {u : State}
    (hu : u = s.setCollie s.activeCollie.peer
      { s.collie s.activeCollie.peer with mirrorOk := true, mirrorAt := some s.now }) :
    execMirrorTransfer true s = .next ((({ u with ref.mirror := some u.mirrorNow }).judgeCollies 1).noteHealth s) := by
  subst hu
  simp only [execMirrorTransfer, h, hactive, decide_true, Bool.and_self, if_true]

end

theorem execMirrorTransfer_of_discarded (s : State) : execMirrorTransfer false s = .next s := rfl

theorem execMirrorOkLapse_of_late {s : State} (hok : (s.collie s.activeCollie.peer).mirrorOk = true)
    (hlate : s.elapsed (s.collie s.activeCollie.peer).mirrorAt 2000001 = true) :
    execMirrorOkLapse s = .next (((s.setCollie s.activeCollie.peer
      { s.collie s.activeCollie.peer with mirrorOk := false }).judgeCollies 1).noteHealth s) := by
  simp only [execMirrorOkLapse, hok, hlate, Bool.and_self, if_true]

theorem execMirrorOkLapse_of_fallen {s : State} (h : (s.collie s.activeCollie.peer).mirrorOk = false) :
    execMirrorOkLapse s = .next s := by
  simp only [execMirrorOkLapse, h, Bool.false_and, Bool.false_eq_true, if_false]

/-! ### Restarts (R533) -/

section
variable {e : Side} {s : State} (hreset : s.mode ≠ .reset) (hboot : s.mode ≠ .boot) (hfwu : s.ref.fwu ≠ .reloading e)
include hreset hboot hfwu

/-- The end of a restart's self-test. -/
theorem execCollieRestored_of_selftest (h : (s.collie e).state = .selftest) (ok : Bool) :
    execCollieRestored e false ok s = .next ((s.setCollie e
      (if ok then { s.collie e with state := .loading, memOk := true, katOk := true }
        else { (s.collie e).failed with fails := satInc 8 (s.collie e).fails })).noteHealth s) := by
  simp only [execCollieRestored, hreset, hboot, hfwu, h, decide_false, Bool.false_and, Bool.or_self,
    Bool.false_eq_true, if_false, and_self, if_true]

/-- The end of a restart's loading. -/
theorem execCollieRestored_of_loading (h : (s.collie e).state = .loading) (ok : Bool) :
    execCollieRestored e true ok s = .next (if ok then
      ((s.setCollie e { s.collie e with
        state := .standby, fwOk := true, alive := true, beat := some s.now, restored := some s.now,
        version := (s.collie e.peer).version }).follow 0x200 0x12 .ce (packItems [(1, sideNum e)]) false).noteHealth s
      else (s.setCollie e (s.collie e).failed).noteHealth s) := by
  simp only [execCollieRestored, hreset, hboot, hfwu, h, decide_false, Bool.false_and, Bool.or_self,
    Bool.false_eq_true, if_false, Bool.true_eq_false, and_false, and_self, if_true]

end

end Sys2Proof.Machine

namespace Sys2Proof.Proofs
open Sys2Proof.Machine Sys2Proof.Safety

/-- Settles O40: the failover and the swap by what they leave of the Collies, the rest by each step's own case. -/
theorem colliesServeAndFailOver : Obligations.ColliesServeAndFailOver := by
  unfold Obligations.ColliesServeAndFailOver
  refine ⟨fun e m s hidle => execCollieHeartbeat_of_idle hidle m, fun e s c hruns hc => ?_,
    fun e s hruns hlate => execCollieHeartbeatTimeout_of_late hruns hlate,
    fun cause e n s he hn hfree hfit => ?_,
    fun cause s hunfit => State.collieLost_of_unfit hunfit cause,
    fun ok e s he hstandby => ?_,
    fun ok s hnone => execStandby_of_none hnone ok,
    fun e s he hstandby => ?_,
    fun e u s he hstandby hactive hu => ?_,
    fun e s he hok hlate => ?_,
    fun s hfallen => execMirrorOkLapse_of_fallen hfallen,
    fun e s hreset hboot hfwu => ⟨fun hstate => ?_, fun hstate => ?_⟩,
    fun cause e n s he hn hfree hfit => ?_,
    fun s hactive hstandby hlong => execCollieRevert_of_due hactive hstandby hlong,
    fun s h => execCollieRevert_of_not h⟩
  · subst hc
    exact execCollieHeartbeat_of_runs hruns
  · subst he hn
    obtain ⟨hrole, hactive, hcount, hmirror, hfailed⟩ := State.collieLost_facts hfree hfit cause
    refine ⟨_, rfl, hrole, hactive, hcount, hmirror, ?_⟩
    have hsame : (s.tookOver cause).collie s.activeCollie = s.collie s.activeCollie := by
      rw [State.collie_tookOver, State.collie_seated_of_ne (Side.peer_ne _).symm]
    rw [hfailed]
    cases hwhen : (s.collie s.activeCollie).restored with
    | none => rw [State.failCollie_of_fresh (by rw [hsame, hwhen])]; rfl
    | some x =>
      rw [State.failCollie_of_restored (by rw [hsame, hwhen]), State.tookOver_now]
      dsimp only
      split <;> rfl
  · subst he
    exact execCollieKatCheck_of_standby hstandby ok
  · subst he
    obtain ⟨hfailed, hpassed⟩ := execCollieMemorySweep_of_standby hstandby
    exact ⟨hfailed, hpassed, execMirrorTransfer_of_discarded s⟩
  · subst he
    exact execMirrorTransfer_of_applied hstandby hactive hu
  · subst he
    exact execMirrorOkLapse_of_late hok hlate
  · exact ⟨⟨_, execCollieRestored_of_selftest hreset hboot hfwu hstate true, by simp⟩,
      ⟨_, execCollieRestored_of_selftest hreset hboot hfwu hstate false, by simp [Collie.failed]⟩⟩
  · exact ⟨⟨_, execCollieRestored_of_loading hreset hboot hfwu hstate true, by simp, by simp⟩,
      ⟨_, execCollieRestored_of_loading hreset hboot hfwu hstate false, by simp [Collie.failed]⟩⟩
  · subst he hn
    obtain ⟨t, hswap, hrole, hup, hdown, hcount, hmirror⟩ := State.swapCollie_of_fit hfree hfit cause
    exact ⟨t, hswap, hrole, by rw [hup], by rw [hdown], hcount, hmirror⟩

end Sys2Proof.Proofs
end

section
/-! Role commands, firmware updates, the host preference, HEALTH and wear writes (O41). -/
namespace Sys2Proof.Machine
open Sys2Proof.Safety
open Host (Outcome)

/-! ### REF_ROLE_CMD (R535, R551) -/

section
variable {v : Word} {s : State}

/-- Without its guard neither command of the referee does anything. -/
theorem execRefCmds_of_unguarded (h : bits v.toNat 31 16 ≠ 0x5120) (p : HostPort) :
    execRefRoleCmd p v s = .next s ∧ execRefFwuCtl p v s = .next s := by
  simp only [execRefRoleCmd, execRefFwuCtl, h, decide_false, Bool.and_false, Bool.false_eq_true, if_false, and_self]

theorem State.roleCollie_of_same {e : Side} (h : e = s.activeCollie) : s.roleCollie e = s := if_pos h

theorem State.roleTe_of_same {e : Side} (h : e = s.activeTe) : s.roleTe e = s := if_pos h

theorem State.roleCollie_of_other {e : Side} (h : e ≠ s.activeCollie) {ok : Bool} {u : State}
    (hswap : s.swapCollie 3 = (ok, u)) : s.roleCollie e = if ok then u else u.cmdErr := by
  rw [State.roleCollie, if_neg h, hswap]
  cases ok <;> rfl

section
variable (hserved : s.served = true) (hguard : bits v.toNat 31 16 = 0x5120) (hgo : bit v.toNat 2 = true)
include hserved hguard hgo

theorem execRefRoleCmd_of_free (hfree : s.flt.keel1.stuck = false) :
    execRefRoleCmd s.active v s = .next (((s.roleCollie (Side.ofBit (bit v.toNat 0))).roleTe
      (Side.ofBit (bit v.toNat 1))).noteHealth s) := by
  simp only [execRefRoleCmd, takesRw_active s hserved, hgo, hguard, hfree, decide_true, Bool.and_self, if_true,
    Bool.false_eq_true, if_false]

theorem execRefRoleCmd_of_stuck (hstuck : s.flt.keel1.stuck = true) :
    execRefRoleCmd s.active v s =
      .next ((s.rewriteRoles (Side.ofBit (bit v.toNat 0)) (Side.ofBit (bit v.toNat 1))).noteHealth s) := by
  simp only [execRefRoleCmd, takesRw_active s hserved, hgo, hguard, hstuck, decide_true, Bool.and_self, if_true]

end

/-! ### Firmware updates (R537, R538) -/

/-- An update with its guard starts fetching, or fails with its cause. -/
theorem execRefFwuCtl_of_guarded (hserved : s.served = true) (hguard : bits v.toNat 31 16 = 0x5120)
    (hgo : bit v.toNat 0 = true) {e : Side} (he : e = s.activeCollie.peer) :
    (s.ref.fwu ≠ .none → execRefFwuCtl s.active v s = .next (s.fwuFail 0)) ∧
    (s.ref.fwu = .none → (s.collie e).state ≠ .standby → execRefFwuCtl s.active v s = .next (s.fwuFail 1)) ∧
    (s.ref.fwu = .none → (s.collie e).state = .standby → s.collieOk e = true →
      execRefFwuCtl s.active v s = .next (if imageOk (s.rd64 0x20020) (s.rd 0x20028)
        then { s with ref.fwu := .fetching e } else s.fwuFail 2)) := by
  subst he
  simp only [execRefFwuCtl, takesRw_active s hserved, hguard, hgo, decide_true, Bool.and_self, if_true]
  refine ⟨fun hbusy => ?_, fun hidle hnot => ?_, fun hidle hstandby hfit => ?_⟩
  · rw [if_pos hbusy]
  · rw [if_neg (not_not.2 hidle), if_pos (by simp [hnot])]
  · rw [if_neg (not_not.2 hidle), if_neg (by simp [hstandby, hfit])]
    cases imageOk (s.rd64 0x20020) (s.rd 0x20028) <;> rfl

theorem execFwuVerifyDone_of_failed {e : Side} (hfetching : s.ref.fwu = .fetching e) (ok : Bool) (img : List Byte) :
    execFwuVerifyDone false ok img v s = .next (({ s with ref.fwu := .none }).fwuFail 3) ∧
    execFwuVerifyDone true false img v s = .next (({ s with ref.fwu := .none }).fwuFail 4) := by
  simp only [execFwuVerifyDone, hfetching, Bool.not_false, Bool.not_true, Bool.false_eq_true, if_true, if_false,
    and_self]

/-- Eligibility looks at neither the version that a Collie runs nor the update under way. -/
theorem State.collieOk_version (e : Side) (x : Nat) (f : Fwu) (s : State) :
    (({ s with ref.fwu := f } : State).setCollie e
      { ({ s with ref.fwu := f } : State).collie e with version := x }).collieOk e = s.collieOk e := by
  cases e <;> rfl

/-- A verified fetch into a fit standby swaps the Collies, and the former active one loads the image. -/
theorem execFwuVerifyDone_of_good {e : Side} (hfetching : s.ref.fwu = .fetching e) (he : e = s.activeCollie.peer)
    (hstandby : (s.collie e).state = .standby) (hfit : s.collieOk e = true) (hfree : (s.keel 1).stuck = false)
    (img : List Byte) :
    ∃ t : State, execFwuVerifyDone true true img v s = .next t ∧ t.ref.fwu = .reloading e.peer ∧
      t.activeCollie = e ∧ (t.collie e).version = v.toNat ∧ (t.collie e.peer).state = .loading := by
  let s0 : State := { s with ref.fwu := .none }
  let u := s0.setCollie e { s0.collie e with version := v.toNat }
  have hrole : u.activeCollie.peer = e := by rw [State.activeCollie_of (t := u) (s := s) (by simp [u, s0]), he]
  have hkeel : (u.keel 1).stuck = false := by simpa [u, s0, State.keel] using hfree
  obtain ⟨t, hswap, hactive, hup, -, -, -⟩ :=
    State.swapCollie_of_fit hkeel (by rw [hrole]; exact (State.collieOk_version e _ _ s).trans hfit) 2
  rw [hrole] at hactive hup
  let c : Collie := { t.collie e.peer with state := .loading, alive := false, fwOk := false, beat := none, version := 0 }
  let w : State := { t.setCollie e.peer c with
    ref.fwu := .reloading e.peer,
    ref.meas := (t.setCollie e.peer c).ref.meas.set [] 1 (sha384 img) }
  have hkept (f : Side) : w.collie f = (t.setCollie e.peer c).collie f := by cases f <;> rfl
  refine ⟨w.noteHealth s, ?_, by simp [w], ?_, ?_, ?_⟩
  · simp only [execFwuVerifyDone, hfetching, hstandby, hfit, and_self, decide_true, Bool.not_true, Bool.false_eq_true,
      if_false]
    exact congrArg Outcome.next (by simp only [u, s0] at hswap; rw [hswap])
  · exact (State.activeCollie_of (by simp [w])).trans hactive
  · rw [State.collie_noteHealth, hkept, State.collie_setCollie_of_ne (Side.peer_ne e).symm, hup]
    simp [u]
  · rw [State.collie_noteHealth, hkept, State.collie_setCollie]

theorem execFwuVerifyDone_of_idle (h : ∀ e, s.ref.fwu ≠ .fetching e) (fetched good : Bool) (img : List Byte) :
    execFwuVerifyDone fetched good img v s = .next s := by
  unfold execFwuVerifyDone
  split
  case h_1 e hfetching => exact absurd hfetching (h e)
  case h_2 => rfl

/-- The reloaded Collie is the standby again, with the version of the other. -/
theorem execFwuReloadDone_of_loading {e : Side} (hreloading : s.ref.fwu = .reloading e)
    (hstate : (s.collie e).state = .loading) :
    ∃ t : State, execFwuReloadDone true s = .next t ∧ t.ref.fwu = .none ∧ (t.collie e).state = .standby ∧
      (t.collie e).version = (s.collie e.peer).version := by
  simp only [execFwuReloadDone, hreloading, hstate, ne_eq, not_true_eq_false, if_false, if_true]
  refine ⟨_, rfl, ?_, ?_, ?_⟩
  · cases e <;> simp [State.setCollie]
  · simp
  · simp

theorem execFwuReloadDone_of_idle (h : ∀ e, s.ref.fwu ≠ .reloading e) (ok : Bool) :
    execFwuReloadDone ok s = .next s := by
  unfold execFwuReloadDone
  split
  case h_1 e hreloading => exact absurd hreloading (h e)
  case h_2 => rfl

end

/-! ### Wear writes (R545, R546) -/

section
variable {s : State} {i : Nat}

theorem State.wearAt'_setWear (i : Nat) (c : WearCopy) (s : State) : (s.setWear i c).wearAt' i = c := by
  by_cases h : i = 0
  · simp [State.setWear, State.wearAt', h]
  · simp [State.setWear, State.wearAt', h]

theorem State.wearAt'_setWear_other (h : i < 2) (c : WearCopy) (s : State) :
    (s.setWear i c).wearAt' (1 - i) = s.wearAt' (1 - i) := by
  interval_cases i <;> rfl

theorem execWearWritePeriod_of_clean (h : s.ref.wearDirty = false) : execWearWritePeriod s = .next s := by
  simp only [execWearWritePeriod, h, Bool.false_and, Bool.false_eq_true, if_false, ite_self]

/-- A wear write starts with the copy that does not hold the newest record, which stands invalid until its end. -/
theorem execWearWritePeriod_of_due (hreset : s.mode ≠ .reset) (hboot : s.mode ≠ .boot) (hsave : s.mode ≠ .save)
    (hruns : s.collieActs = true) (hdirty : s.ref.wearDirty = true) (hidle : s.ref.wearWriting = none)
    (hi : i = if s.kennel.newest = some 0 then 1 else 0) :
    ∃ seq, execWearWritePeriod s = .next { s.setWear i { valid := false, seq := seq, wear := s.ref.wear } with
      ref.wearDirty := false, ref.wearWriting := some i } := by
  have hawake : ¬(s.mode = .reset ∨ s.mode = .boot ∨ s.mode = .save ∨ s.collieActs = false) := by
    simp [hreset, hboot, hsave, hruns]
  unfold execWearWritePeriod
  rw [if_neg hawake, hdirty, hidle]
  simp only [Option.isNone_none, Bool.and_self, if_true]
  subst hi
  by_cases hnewest : s.kennel.newest = some 0
  · rw [hnewest]
    exact ⟨_, rfl⟩
  · rw [if_neg hnewest]
    split
    case h_1 hzero => exact absurd hzero hnewest
    case h_2 => exact ⟨_, rfl⟩

theorem execWearWriteEnd_of_idle (h : s.ref.wearWriting = none) (ok : Bool) : execWearWriteEnd ok s = .next s := by
  simp only [execWearWriteEnd, h]

theorem execWearWriteEnd_of_good (h : s.ref.wearWriting = some i) :
    execWearWriteEnd true s = .next { ({ s with ref.wearWriting := none } : State).setWear i
      { s.wearAt' i with valid := true } with
        ref.wearErr := false, ref.wearAt := some s.now, ref.wearCopy := i, ref.wearSum := (s.wearAt' i).wear.sum } := by
  simp only [execWearWriteEnd, h, if_true]

theorem execWearWriteEnd_of_failed (h : s.ref.wearWriting = some i) :
    execWearWriteEnd false s = .next (({ s with
      ref.wearWriting := none, ref.wearErr := true, ref.wearDirty := true }).follow 0xC00 3 .uc
        (packItems [(1, i)]) false) := by
  simp only [execWearWriteEnd, h, Bool.false_eq_true, if_false]

end

end Sys2Proof.Machine

namespace Sys2Proof.Proofs
open Sys2Proof.Machine Sys2Proof.Safety

/-- Settles O41: the roles and the update by the swap that they ask for, the wear write by its two ends. -/
theorem roleCommandsUpdatesAndWear : Obligations.RoleCommandsUpdatesAndWear := by
  unfold Obligations.RoleCommandsUpdatesAndWear
  refine ⟨fun p v s hnot => execRefCmds_of_unguarded hnot p,
    fun v s hserved hguard hgo hfree hcollie hte => ?_,
    fun v ok u s hserved hguard hgo hfree hcollie hswap hte => ?_,
    fun v s hserved hguard hgo hstuck => execRefRoleCmd_of_stuck hserved hguard hgo hstuck,
    fun v e s hserved hguard hgo he => execRefFwuCtl_of_guarded hserved hguard hgo he,
    fun e ok img v s hfetching => execFwuVerifyDone_of_failed hfetching ok img,
    fun e img v s hfetching he hstandby hfit hfree =>
      execFwuVerifyDone_of_good hfetching he hstandby hfit hfree img,
    fun ok img v s hidle => execFwuVerifyDone_of_idle hidle ok ok img,
    fun e s hreloading hstate => execFwuReloadDone_of_loading hreloading hstate,
    fun ok s hidle => execFwuReloadDone_of_idle hidle ok,
    fun v s hserved => congrArg Host.Outcome.next (if_pos (takesRw_active s hserved)),
    fun s => rfl,
    fun s hclean => execWearWritePeriod_of_clean hclean,
    fun s i hreset hboot hsave hruns hdirty hidle hi => ?_,
    fun s ok hidle => execWearWriteEnd_of_idle hidle ok,
    fun s i hwriting _ => ⟨⟨_, execWearWriteEnd_of_good hwriting, ?_, ?_, rfl, rfl⟩,
      execWearWriteEnd_of_failed hwriting⟩⟩
  · refine (execRefRoleCmd_of_free hserved hguard hgo hfree).trans ?_
    rw [State.roleCollie_of_same hcollie, State.roleTe_of_same hte]
  · refine (execRefRoleCmd_of_free hserved hguard hgo hfree).trans ?_
    rw [State.roleCollie_of_other hcollie hswap, State.roleTe_of_same]
    cases ok <;> exact hte
  · obtain ⟨seq, hrun⟩ := execWearWritePeriod_of_due hreset hboot hsave hruns hdirty hidle hi
    have hlt : i < 2 := by split at hi <;> omega
    have hwear := State.wearAt'_setWear i { valid := false, seq := seq, wear := s.ref.wear } s
    refine ⟨_, hrun, rfl, rfl, ?_, ?_, State.wearAt'_setWear_other hlt _ s⟩
    · exact congrArg WearCopy.valid hwear
    · exact congrArg WearCopy.wear hwear
  · exact congrArg WearCopy.valid
      (State.wearAt'_setWear i { s.wearAt' i with valid := true } { s with ref.wearWriting := none })
  · simp

end Sys2Proof.Proofs
end
